-- ==== Sys2Proof/Word.lean ====
section
/-! DEFINITION. Words, byte order, the two CRCs, and sparse maps in one canonical form. -/
namespace Sys2Proof

/-- One byte. -/
abbrev Byte := BitVec 8
/-- An engineering value: an exact number (the log says what that leaves out of REAL32). -/
abbrev Q := Rat

/-! ### Byte order (R9: every multi-byte field is little-endian) -/

/-- The `k` low bytes of `n`, least significant first. -/
def leBytes : Nat → Nat → List Byte
  | 0, _ => []
  | k + 1, n => BitVec.ofNat 8 n :: leBytes k (n / 256)

/-- The number that little-endian bytes spell. -/
def leNat : List Byte → Nat
  | [] => 0
  | b :: bs => b.toNat + 256 * leNat bs

/-- The signed number that `k` bits of `n` spell. -/
def toSigned (k n : Nat) : Int := if n % 2 ^ k < 2 ^ (k - 1) then (n % 2 ^ k : Nat) else (n % 2 ^ k : Nat) - (2 ^ k : Nat)

/-- The `k`-bit pattern of a signed number. -/
def ofSigned (k : Nat) (i : Int) : Nat := (i % ((2 ^ k : Nat) : Int)).toNat

/-- Bytes `off` to `off + len - 1`. -/
def slice (bs : List Byte) (off len : Nat) : List Byte := (bs.drop off).take len

/-- The unsigned little-endian field at `off`. -/
def fieldN (bs : List Byte) (off len : Nat) : Nat := leNat (slice bs off len)

/-- The signed little-endian field at `off`. -/
def fieldI (bs : List Byte) (off len : Nat) : Int := toSigned (8 * len) (fieldN bs off len)

/-- Bits `hi` down to `lo` of `n` (R9). -/
def bits (n hi lo : Nat) : Nat := (n >>> lo) % 2 ^ (hi - lo + 1)

/-- Bit `i` of `n`. -/
def bit (n i : Nat) : Bool := n.testBit i

/-- `n` with bit `i` set to `b`. -/
def withBit (n i : Nat) (b : Bool) : Nat :=
  if b then n ||| 2 ^ i else if n.testBit i then n - 2 ^ i else n

/-- `n` with the bits of `m` cleared. -/
def clearBits (n m : Nat) : Nat := n - (n &&& m)

/-- 1 for true. -/
def b2n (b : Bool) : Nat := if b then 1 else 0

/-- The bit field whose bit `i` is `f i`, for `i < k`. -/
def maskOf (k : Nat) (f : Nat → Bool) : Nat := (List.range k).foldl (fun a i => a + b2n (f i) * 2 ^ i) 0

/-! ### CRCs (R40, R84, R109) -/

/-- One bit of a reflected CRC. -/
def crcBit (poly crc : Nat) : Nat := if crc % 2 = 1 then (crc / 2) ^^^ poly else crc / 2

/-- One byte of a reflected CRC. -/
def crcByte (poly crc : Nat) (b : Byte) : Nat :=
  (List.range 8).foldl (fun c _ => crcBit poly c) (crc ^^^ b.toNat)

/-- A reflected 32-bit CRC with initial value 0xFFFF_FFFF and final complement. -/
def crc32With (poly : Nat) (bs : List Byte) : Nat :=
  (bs.foldl (crcByte poly) 0xFFFFFFFF) ^^^ 0xFFFFFFFF

/-- CRC-32C, polynomial 0x1EDC_6F41 reflected (R40, R109). -/
def crc32c : List Byte → Nat := crc32With 0x82F63B78

/-- CRC-32, polynomial 0x04C1_1DB7 reflected (R84). -/
def crc32 : List Byte → Nat := crc32With 0xEDB88320

/-! ### Sparse maps: strictly rising keys, no entry equal to what an unlisted key reads as -/

/-- A sparse map from numbers. -/
abbrev SMap (V : Type) := List (Nat × V)

/-- The listed value at a key. -/
def SMap.find? {V : Type} : SMap V → Nat → Option V
  | [], _ => none
  | (k, v) :: m, x => if x = k then some v else SMap.find? m x

/-- The value at a key; `d` is what unlisted keys read as. -/
def SMap.get {V : Type} (d : Nat → V) (m : SMap V) (x : Nat) : V := (SMap.find? m x).getD (d x)

/-- The map without an entry at a key. -/
def SMap.erase {V : Type} : SMap V → Nat → SMap V
  | [], _ => []
  | (k, v) :: m, x => if x = k then SMap.erase m x else (k, v) :: SMap.erase m x

/-- The map with an entry put at its place in rising order. -/
def SMap.put {V : Type} : SMap V → Nat → V → SMap V
  | [], x, y => [(x, y)]
  | (k, v) :: m, x, y =>
    if x = k then (x, y) :: m else if x < k then (x, y) :: (k, v) :: m else (k, v) :: SMap.put m x y

/-- Writing a key; a value equal to what the key reads as when unlisted removes the entry. -/
def SMap.set {V : Type} [DecidableEq V] (d : Nat → V) (m : SMap V) (x : Nat) (y : V) : SMap V :=
  if y = d x then SMap.erase m x else SMap.put m x y

/-- Keys rise strictly. -/
def SMap.sorted {V : Type} : SMap V → Bool
  | [] => true
  | (k, _) :: m => (match m with | [] => true | (k', _) :: _ => decide (k < k')) && SMap.sorted m

/-- The canonical form of a sparse map. -/
def SMap.wf {V : Type} [DecidableEq V] (d : Nat → V) (m : SMap V) : Bool :=
  SMap.sorted m && m.all (fun e => decide (e.2 ≠ d e.1))

/-! ### Lists by position -/

/-- The list with `f` applied at one position. -/
def modAt {α : Type} (l : List α) (n : Nat) (f : α → α) : List α :=
  match l, n with
  | [], _ => []
  | a :: l, 0 => f a :: l
  | a :: l, n + 1 => a :: modAt l n f

/-- The sum of numbers. -/
def qsum (l : List Q) : Q := l.foldl (· + ·) 0

/-- The largest of numbers, `d` when there is none. -/
def qmaxD (d : Q) (l : List Q) : Q := match l with | [] => d | a :: l => l.foldl (fun x y => if x < y then y else x) a

/-- The smallest of numbers, `d` when there is none. -/
def qminD (d : Q) (l : List Q) : Q := match l with | [] => d | a :: l => l.foldl (fun x y => if y < x then y else x) a

/-- Insert into a rising list. -/
def qinsert (x : Q) : List Q → List Q
  | [] => [x]
  | y :: l => if x ≤ y then x :: y :: l else y :: qinsert x l

/-- Rising order. -/
def qsort (l : List Q) : List Q := l.foldr qinsert []

/-- The median: the middle value, or the mean of the two middle values. -/
def median (l : List Q) : Option Q :=
  let s := qsort l
  let n := s.length
  if n = 0 then none
  else if n % 2 = 1 then s[n / 2]?
  else match s[n / 2 - 1]?, s[n / 2]? with
    | some a, some b => some ((a + b) / 2)
    | _, _ => none

/-- The magnitude of a number. -/
def qabs (x : Q) : Q := if x < 0 then -x else x

/-- The sign: 1, 0 or -1. -/
def qsign (x : Q) : Q := if x < 0 then -1 else if x = 0 then 0 else 1

/-- The smaller. -/
def qmin (x y : Q) : Q := if x ≤ y then x else y
/-- The larger. -/
def qmax (x y : Q) : Q := if x ≤ y then y else x
/-- Clamped to an interval. -/
def qclamp (lo hi x : Q) : Q := qmax lo (qmin hi x)

/-- Rounding to the nearest whole number, halves up. -/
def qround (x : Q) : Int := (x + 1 / 2).floor

end Sys2Proof
end

