-- ==== Sys2Proof/Machine/Types.lean ====
section
/-! DEFINITION. The data types of the object dictionary: values, types, access, rows (R78 to R80). -/
namespace Sys2Proof.Machine

/-- A dictionary value: unsigned, signed, REAL32 (none is the quiet not-a-number of R79; `nz` is the REAL32 -0.0, which has the value 0 and
bytes of its own), or bytes. -/
inductive Val where
  | n (x : Nat)
  | i (x : Int)
  | r (x : Option Q)
  | nz
  | b (x : List Byte)
deriving DecidableEq, Repr

/-- The data types of Table 3-2. -/
inductive OType where
  | bool | u8 | u16 | u32 | u64 | i8 | i16 | i32 | i64 | real
  | str | octets (len : Nat) | domain
deriving DecidableEq, Repr

/-- The access types of Table 3-3; a key object is wo with the limits of R100. -/
inductive Access where
  | const | ro | wo | key | rw | rwL | rwS
deriving DecidableEq, Repr

/-- What check 5 of R80 admits: any value, unions of intervals, or a mask of bits that are not reserved. -/
inductive Rng where
  | any
  | nats (l : List (Nat × Nat))
  | ints (l : List (Int × Int))
  | reals (l : List (Q × Q))
  | mask (m : Nat)
deriving DecidableEq, Repr

/-- Where an object lives: a fixed index, an offset of a Gallery block, of a universal channel, or a CAN port. -/
inductive Area where
  | fix | gal | chn | can
deriving DecidableEq, Repr

/-- One row of a dictionary table: area, index or offset, first and last sub-index, type, access, default, range,
whether it is a sticky word cleared by writing ones (R45). -/
structure ObjRow where
  area : Area
  base : Nat
  lo   : Nat
  hi   : Nat
  ty   : OType
  acc  : Access
  dflt : Val
  rng  : Rng
  w1c  : Bool
deriving DecidableEq, Repr

/-- The access paths (R94): CAN-A, CAN-B, TWB, and each Arcade source member by its serial. -/
inductive Path where
  | canA | canB | twb | arcade (serial : Nat)
deriving DecidableEq, Repr

/-- The number a path's own copies are kept under. -/
def Path.code : Path → Nat
  | .canA => 1 | .canB => 2 | .twb => 3 | .arcade s => 4 + s

/-- Whether the path is the Arcade. -/
def Path.isArcade : Path → Bool
  | .arcade _ => true
  | _ => false

/-- The size of a value of a type, where the type fixes it (Table 3-2). -/
def OType.size : OType → Option Nat
  | .bool | .u8 | .i8 => some 1
  | .u16 | .i16 => some 2
  | .u32 | .i32 | .real => some 4
  | .u64 | .i64 => some 8
  | .octets n => some n
  | .str | .domain => none

/-- Who owns an SRAM line (Table 1-12). A line buffer holds a block of the upstream superframe: 0 header, 1 head measurement, 2 head
responses, 2 + i node i. -/
inductive LineOwner where
  | cellState (pos : Nat) | accumulator (pos : Nat) | lineBuffer (block : Nat) | shadow (key : Nat)
deriving DecidableEq, Repr

/-- The two parts (R1). -/
inductive Part where
  | zs8848 | zs8824
deriving DecidableEq, Repr

/-- Galleries of the part (Table 0-2). -/
def Part.galleries : Part → Nat
  | .zs8848 => 32 | .zs8824 => 16

/-- The hardware type ID of the part (Table 0-2). -/
def Part.hwType : Part → Nat
  | .zs8848 => 0x8848 | .zs8824 => 0x8824

end Sys2Proof.Machine
end

