-- ==== Sys2Proof/Syntax.lean ====
section
/-! DEFINITION. The commands the block takes: one constructor for each row of spec/opcode_table.json. -/
namespace Sys2Proof
open Machine

/-- A block as received (R109): its payload, its CRC field, and whether its K29.7 stands at the expected offset with no code error
inside the block (R108). -/
structure Blk where
  payload : List Byte
  crc     : Nat
  endOk   : Bool
deriving DecidableEq, Repr

/-- An upstream superframe as it arrives (Table 4-4): ticks from the departure of the downstream K28.5 to the arrival of its K28.5
(none: no K28.5 came), symbols inserted, code errors, complete at t = 10,000, and its blocks. `share` is the measured module share in
ticks of an INHIBIT that it causes (R30). -/
structure UpSuper where
  trip     : Option Nat
  inserted : Nat
  codeErrs : Nat
  complete : Bool
  share    : Nat
  header   : Blk
  head     : Blk
  hresp    : Blk
  nodes    : List Blk
deriving DecidableEq, Repr

/-- A downstream superframe as a head receives it (Table 4-3), with the inserted control symbols decoded in it. -/
structure DownSuper where
  header   : Blk
  k27      : Bool
  token    : Blk
  refs     : Blk
  bal      : Blk
  cmd      : Blk
  inhibit  : Bool
  hold     : Bool
  inserted : Nat
  codeErrs : Nat
deriving DecidableEq, Repr

/-- What of loop frame k returned to the head (R126): on the return port, turned on the outgoing port, slots filled on the forward
and on the reverse half, and the monitor after which the loop is broken. -/
structure LoopBack where
  returned : Bool
  turned   : Bool
  forward  : Nat
  reverse  : Nat
  after    : Nat
deriving DecidableEq, Repr

/-- The head's or a monitor's readings latched at S(k) (R135), in the units of the wire (R12). -/
structure Reading where
  shunt : Int
  hall  : Int
  bus   : Int
  string : Int
  phase : List Int
  headT : List Nat
  volts : List (List Nat)
deriving DecidableEq, Repr

/-- A group's worth of ball voltages read back in a safety cycle (R480). -/
structure Readback where
  so : List Q
  sl : List Q
deriving DecidableEq, Repr

/-- The body of an SDO request frame that carries data (R90). -/
structure SdoData where
  index : Nat
  sub   : Nat
  data  : List Byte
deriving DecidableEq, Repr

/-- Which of the two safety channels. -/
inductive SafetyChan where
  | newel | baluster
deriving DecidableEq, Repr

/-- An Arcade PDU as received (Table 12-3): the port, the source MAC address, and all its bytes. -/
structure ArcMsg where
  west  : Bool
  mac   : Nat
  bytes : List Byte
deriving DecidableEq, Repr

/-- A beacon is an Arcade PDU of type 0x01. -/
abbrev Beacon := ArcMsg

/-- An HSR frame as received (R325): source and destination MAC addresses, sequence number, whether it is a supervision frame, and
whether it has an FCS or code error. -/
structure HsrFrame where
  mac  : Nat
  dest : Nat
  seq  : Nat
  supervision : Bool
  bad  : Bool
deriving DecidableEq, Repr

/-- A PTP message as received (R339, R340): domain, sequenceId, source clock and port, correctionField in ns, its time in ns (origin of a
Sync or Follow_Up; t2 or t3 of a peer-delay message), whether a follow-up comes, whether another event message arrived within 1 us, the
tick count that the interrupt firmware read at entry, and whether a peer-delay response answers this module. -/
structure PtpMsg where
  domain : Nat
  seq    : Nat
  clock  : Nat
  port   : Nat
  corr   : Q
  time   : Q
  twoStep : Bool
  near   : Bool
  entry  : Nat
  forUs  : Bool
deriving DecidableEq, Repr

/-- An Announce message (R339). -/
structure PtpAnnounce where
  domain : Nat
  seq    : Nat
  clock  : Nat
  port   : Nat
  prio1  : Nat
  cls    : Nat
  acc    : Nat
  var    : Nat
  prio2  : Nat
  gm     : Nat
  steps  : Nat
deriving DecidableEq, Repr

/-- A Corridor frame as received (Table 13-2): its header and its strings. -/
structure CorFrame where
  header  : Blk
  strings : Blk
deriving DecidableEq, Repr

/-- What a universal channel's converter finds over a sample period (R371): the mean electrical value (V, mA or ohm), whether a sensor
or loop supply is open (Table 14-2), and whether the burden's limiter limits. -/
structure ChanIn where
  x        : Q
  isOpen   : Bool
  limiting : Bool
deriving DecidableEq, Repr

/-- The four readings of a channel test in mA (R388): the measuring and the readback converter at 4.0 mA and at 20.0 mA. -/
structure TestReadings where
  meas4  : Q
  back4  : Q
  meas20 : Q
  back20 : Q
deriving DecidableEq, Repr

/-- A HART frame as received (R385): command, response code, device status, data, the long address that an identification gives, and
whether its check fails. -/
structure HartFrame where
  command : Nat
  code    : Nat
  status  : Nat
  data    : List Byte
  long    : Nat
  bad     : Bool
deriving DecidableEq, Repr

/-- A CAN frame as received (R392): identifier, whether it is extended, remote, of the FD format, its data, and whether it was lost to a
receive buffer overrun. -/
structure CanFrame where
  id   : Nat
  ide  : Bool
  rtr  : Bool
  fd   : Bool
  data : List Byte
  overrun : Bool
deriving DecidableEq, Repr

/-- How a TWA slot's transaction ends (R407). -/
inductive TwaResult where
  | ok (data : List Byte) | arbLost | nack | timeout
deriving DecidableEq, Repr

/-- How an attempt to send an alert ends (R411). -/
inductive AlertResult where
  | acked | arbLost | nack
deriving DecidableEq, Repr

/-- What a stack check finds of one string (R162, R261): whether its trunk comes up, how many monitors answer, whether a comparator bit
is set, the voltages, the raw thermistor readings, and the CHECK_FAIL and SELFTEST_FAIL bits. -/
structure WatchResult where
  string  : Nat
  up      : Bool
  nodes   : Nat
  cmp     : Bool
  volts   : List Q
  temps   : List Nat
  checkFail : Bool
  selfFail  : Bool
deriving DecidableEq, Repr

/-- VAUX and VHOLD in V as PFAIL finds them. -/
structure PfailVolts where
  vaux  : Q
  vhold : Q
deriving DecidableEq, Repr

/-- What a monitor finds of the link to the next node: whether it receives a signal there, the round trip of its loop K28.5 where the echo
came back, and its own forwarding latency, both in units of 0.2 tick (R140). -/
structure LinkIn where
  farUp : Bool
  echo  : Option Nat
  lat   : Nat
deriving DecidableEq, Repr

/-- A held peak that is read, and the new peak that comes in the cycle of the read (R46). -/
structure PeakHit where
  idx   : Nat
  meets : Option Q
deriving DecidableEq, Repr

/-- A ring port that has trained: which, whether its partner advertises full duplex, and whether it asks for pause (R323). -/
structure PortUp where
  west       : Bool
  fullDuplex : Bool
  pause      : Bool
deriving DecidableEq, Repr

/-- The commands, in the order of the table. -/
inductive Instr where
  /-- UPSTREAM_SUPERFRAME (R21): An upstream superframe from a head arrives at a trunk receiver; the stream engine unpacks it, checks it against the limits and qualifies each block at its BLOCK END. -/
  | upstreamSuperframe (n : Nat) (u : UpSuper)
  /-- DOWNSTREAM_SUPERFRAME (R110): A Gallery sends a downstream superframe on its trunk at each grid point of plant time. -/
  | downstreamSuperframe (n : Nat)
  /-- CONTROL_STEP (R165): The Tread engine runs control step k on a complete superframe and forms the references. -/
  | controlStep (n : Nat) (parity : Bool)
  /-- MODEL_STEP (R225): The model engine steps the model of every position on the latest complete superframe. -/
  | modelStep (n : Nat)
  /-- SPECTRUM_PUBLISH (R212): The model engine computes and publishes the impedances, qualities, core temperatures and plating of an evaluated window. -/
  | spectrumPublish (n : Nat)
  /-- SRAM_FULL_LINE_WRITE (R41): A full-line SRAM write stores the data, ECC and TAG and clears POISON. -/
  | sramFullLineWrite (n addr : Nat) (data : List Byte)
  /-- SRAM_PARTIAL_WRITE (R42): A partial SRAM write runs as a read-modify-write, or poisons the line. -/
  | sramPartialWrite (n addr off : Nat) (data : List Byte) (owner : LineOwner) (upset : List Nat)
  /-- SRAM_LINE_READ (R43): An SRAM read corrects single-bit errors, and it poisons the line on an uncorrectable error or a TAG mismatch. -/
  | sramLineRead (n addr : Nat) (owner : LineOwner) (upset : List Nat)
  /-- SCRUB_PASS (R44): The scrubber reads a line of an active tile and applies R43 to it. -/
  | scrubPass (n addr : Nat) (owner : LineOwner) (upset : List Nat)
  /-- KEEP_OSC_MEASURE (R23): Once a second, the keep oscillator is measured against the root, and the correction is stored. -/
  | keepOscMeasure (cycles : Nat)
  /-- SCHEDULED_ACTION_FIRE (R27): A scheduled action fires when its target is reached or passed. -/
  | scheduledActionFire (target : Nat)
  /-- CLASS_S_WAIT_EXPIRY (R99): A class S request that has not begun service within 500 ms is refused as busy. -/
  | classSWaitExpiry
  /-- PFAIL (R54): PFAIL is detected on VAUX or on PFAIL_N, and the power-down starts. -/
  | pfail (pin : Bool) (volts : PfailVolts)
  /-- POWER_DOWN_COMPLETE (R65): The power-down sequence ends, the saves are made, the blocks are OFF and the mode is VAULT. -/
  | powerDownComplete
  /-- VAUX_VALID (R54): VAUX becomes valid again. -/
  | vauxValid (volts : Q)
  /-- VIO_VALID (R52): VIO rises to 1.62 V or above. -/
  | vioValid (volts : Q)
  /-- VIO_INVALID (R52): VIO falls below 1.55 V, and the module is held in BOOT. -/
  | vioInvalid (volts : Q)
  /-- VLOOP_LOST (R55): VLOOP becomes invalid; in RUN the strings receive SEO, and the module enters READY. -/
  | vloopLost (volts : Q)
  /-- VLOOP_VALID (R52): VLOOP becomes valid again. -/
  | vloopValid (volts : Q)
  /-- VKEEP_LOW (R71): VKEEP falls below 2.1 V, and the Vestibule moves to VAUX. -/
  | vkeepLow (volts : Q)
  /-- VKEEP_VALID (R71): VKEEP reaches 2.2 V, and the Vestibule returns to VKEEP. -/
  | vkeepValid (volts : Q)
  /-- HOLD_READY (R53): VHOLD reaches 26.0 V. -/
  | holdReady (volts : Q)
  /-- HOLD_LOW (R66): VHOLD falls below 24.0 V in RUN before any PFAIL. -/
  | holdLow (volts : Q)
  /-- ROOT_PLL_LOCK (R56): The root PLL locks, the internal reset is released, and the tick count resumes. -/
  | rootPllLock (recoveryLow testLow : Bool)
  /-- ROOT_PLL_UNLOCK (R280): The root PLL loses lock; both channels de-energise, and a lock-out is latched. -/
  | rootPllUnlock
  /-- LANDING_VERIFY_DONE (R56): Landing completes reading and verifying the active firmware slot. -/
  | landingVerifyDone (slotOk otherOk ownerKeyOk : Bool)
  /-- CHANNEL_SELF_TEST_DONE (R50): Newel and Baluster complete their boot self-test. -/
  | channelSelfTestDone (newel baluster : Bool)
  /-- BOOT_COMPLETE (R59): BOOT completes with the configuration loaded and the seal checked, and it enters READY, LOCKOUT or RECOVERY. -/
  | bootComplete
  /-- BOOT_WATCHDOG_EXPIRY (R57): No mode is reached within 5 s; a boot failure is counted, and BOOT restarts. -/
  | bootWatchdogExpiry
  /-- RESET_N_ASSERT (R67): RESET_N is recognised low, and the module is held in BOOT without an orderly stop. -/
  | resetNAssert (lowUs : Nat)
  /-- RESET_N_RELEASE (R67): RESET_N is released, and BOOT starts. -/
  | resetNRelease
  /-- CORE_WATCHDOG_EXPIRY (R59): The core watchdog expires; each Gallery applies SRS, then SEO, and then the module resets. -/
  | coreWatchdogExpiry
  /-- REQUEST_RUN (R60): A write of REQUEST 4 asks for RUN, and the entry conditions are checked. -/
  | requestRun (path : Path)
  /-- REQUEST_READY (R63): A write of REQUEST 3 asks for READY, and it starts the exit from RUN where one applies. -/
  | requestReady (path : Path)
  /-- REQUEST_WATCH (R479): A write of REQUEST 2 starts the entry to WATCH. -/
  | requestWatch (path : Path)
  /-- REQUEST_VAULT (R64): A write of REQUEST 1 starts the entry to VAULT. -/
  | requestVault (path : Path)
  /-- REQUEST_RECOVERY (R59): A write of REQUEST 6 causes a device reset into Landing. -/
  | requestRecovery (path : Path)
  /-- ENTRY_TO_RUN_COMPLETE (R63): The entry to RUN ends, and PHASE returns to 0. -/
  | entryToRunComplete
  /-- EXIT_FROM_RUN_COMPLETE (R61): The last string has been de-energised, and the module enters READY. -/
  | exitFromRunComplete
  /-- DEFERRED_RUN (R63): A deferred RUN request is acted on once READY is reached and the minimum off time has elapsed. -/
  | deferredRun
  /-- VAULT_ENTRY_STAGE1_DONE (R64): The stacks are asleep and the CAN FIFOs have drained, and the second stage of entry to VAULT begins. -/
  | vaultEntryStage1Done
  /-- VAULT_ENTRY_DONE (R64): The recorder has been flushed and the state saved; the blocks are OFF, and the mode is VAULT. -/
  | vaultEntryDone
  /-- WATCH_ENTRY_STAGE1_DONE (R479): The stacks sleep and the FIFOs have drained, and the second stage of entry to WATCH begins. -/
  | watchEntryStage1Done
  /-- WATCH_ENTRY_DONE (R479): The recorder has been flushed and core 0 gated, and the mode is WATCH. -/
  | watchEntryDone
  /-- WAKE_IN (R59): WAKE_IN goes high and wakes the module from VAULT or WATCH. -/
  | wakeIn
  /-- CAN_A_DOMINANT_EDGE (R401): A low on CAN_A_RXD of 5 µs or more wakes the module from VAULT. -/
  | canADominantEdge (lowUs : Nat)
  /-- WAKE_FRAME (R402): A matching CAN frame received in WATCH wakes the module. -/
  | wakeFrame (port id : Nat) (ide : Bool) (data : List Byte)
  /-- WAKE_NO_VAUX (R59): A wake from VAULT finds no valid VAUX within 2 s, and WAKE_OUT is released. -/
  | wakeNoVaux
  /-- LADDER_RETRY (R68): RESET_LADDER step 1 retrains the link of a block. -/
  | ladderRetry (path : Path) (cls inst : Nat)
  /-- LADDER_REINITIALISE (R68): RESET_LADDER step 2 re-initialises one block. -/
  | ladderReinitialise (path : Path) (cls inst : Nat)
  /-- LADDER_DEVICE_RESET (R68): RESET_LADDER step 3 resets the whole module, after an orderly stop in RUN. -/
  | ladderDeviceReset (path : Path)
  /-- KEEP_PROBE (R72): Every 10 s the charger pauses and probes the keep cell. -/
  | keepProbe (before under : Q)
  /-- TIME_HORIZON_WRITE (R74): Every 60 s a new time horizon is written to the configuration store. -/
  | timeHorizonWrite
  /-- WRITE_ONE_TO_CLEAR (R45): A write of 1 clears the bits of a sticky status word. -/
  | writeOneToClear (path : Path) (index sub : Nat) (ones : Nat) (hwSet : Nat)
  /-- REGISTER_WRITE (R80): A write of a dictionary object that has no row of its own is checked and, if accepted, takes effect. -/
  | registerWrite (path : Path) (index sub : Nat) (data : List Byte)
  /-- RW_S_WRITE (R83): A write of an rw-S object changes the pending set only. -/
  | rwSWrite (path : Path) (index sub : Nat) (data : List Byte)
  /-- SEAL (R85): A write of SEAL_CRC stores the pending set, loads and verifies it, and seals it. -/
  | sealSet (path : Path) (crc : Nat) (loadOk reloadOk : Bool)
  /-- SEAL_DISCARD (R87): The set in force is copied over the pending set. -/
  | sealDiscard (path : Path)
  /-- STORE (R88): The save signature written to 0x1010:01 stores every rw and rw-L setting. -/
  | store (path : Path)
  /-- RESTORE (R88): The load signature written to 0x1011:01 makes the next boot replace the stored set with the defaults. -/
  | restore (path : Path)
  /-- CELL_WINDOW_SEL (R95): A write of SELECT sets the selector of the writing path after validation. -/
  | cellWindowSel (path : Path) (n : Nat) (select : Nat)
  /-- CELL_WINDOW (R94): A read of CELL_WINDOW freezes a reply built from the selector of the reading path. -/
  | cellWindow (path : Path) (n : Nat)
  /-- BLOCK_CTRL_REINITIALISE (R93): A write of BLOCK_CTRL:01 performs ladder step 2 on the Gallery and its trunk. -/
  | blockCtrlReinitialise (path : Path) (n : Nat)
  /-- ERROR_FIELD_CLEAR (R89): A write of 0 to 0x1003:00 clears the pre-defined error field. -/
  | errorFieldClear (path : Path)
  /-- SDO_INITIATE_DOWNLOAD (R90): An SDO initiate download is received, for an expedited or a segmented transfer. -/
  | sdoInitiateDownload (port : Nat) (req : SdoData) (expedited : Bool) (size : Option Nat) (fd : Bool)
  /-- SDO_DOWNLOAD_SEGMENT (R90): An SDO download segment is received. -/
  | sdoDownloadSegment (port : Nat) (toggle last : Bool) (data : List Byte) (fd : Bool)
  /-- SDO_INITIATE_UPLOAD (R90): An SDO initiate upload is received. -/
  | sdoInitiateUpload (port index sub : Nat) (fd : Bool)
  /-- SDO_UPLOAD_SEGMENT (R90): An SDO upload segment request is received. -/
  | sdoUploadSegment (port : Nat) (toggle : Bool) (fd : Bool)
  /-- SDO_BLOCK_DOWNLOAD_INITIATE (R90): An SDO block download initiate is received. -/
  | sdoBlockDownloadInitiate (port index sub : Nat) (size : Option Nat) (crc : Bool) (fd : Bool)
  /-- SDO_BLOCK_DOWNLOAD_SUBBLOCK (R90): A sub-block segment of an SDO block download is received. -/
  | sdoBlockDownloadSubblock (port seq : Nat) (last : Bool) (data : List Byte) (fd : Bool)
  /-- SDO_BLOCK_DOWNLOAD_END (R90): An SDO block download end with its CRC is received. -/
  | sdoBlockDownloadEnd (port unused crc : Nat) (fd : Bool)
  /-- SDO_BLOCK_UPLOAD_INITIATE (R90): An SDO block upload initiate is received. -/
  | sdoBlockUploadInitiate (port index sub blksize : Nat) (crc : Bool) (fd : Bool)
  /-- SDO_BLOCK_UPLOAD_START (R90): An SDO block upload start is received. -/
  | sdoBlockUploadStart (port : Nat) (fd : Bool)
  /-- SDO_BLOCK_UPLOAD_ACK (R90): An acknowledge of an SDO block upload sub-block is received. -/
  | sdoBlockUploadAck (port ackseq blksize : Nat) (fd : Bool)
  /-- SDO_BLOCK_UPLOAD_END (R90): The client's response to the end of an SDO block upload is received. -/
  | sdoBlockUploadEnd (port : Nat)
  /-- SDO_ABORT_TRANSFER (R90): An SDO abort from the client is received. -/
  | sdoAbortTransfer (port : Nat) (code : Nat)
  /-- SDO_TIMEOUT (R90): A segmented or block transfer left idle for 1,000 ms is aborted. -/
  | sdoTimeout (port : Nat)
  /-- NMT_START (R91): The NMT start command puts the node in Operational. -/
  | nmtStart (port node : Nat)
  /-- NMT_STOP (R91): The NMT stop command stops PDOs and SDOs. -/
  | nmtStop (port node : Nat)
  /-- NMT_PRE_OPERATIONAL (R91): The NMT enter pre-operational command stops PDOs. -/
  | nmtPreOperational (port node : Nat)
  /-- NMT_RESET_NODE (R91): The NMT Reset node command performs ladder step 3. -/
  | nmtResetNode (port node : Nat)
  /-- NMT_RESET_COMMUNICATION (R91): The NMT Reset communication command performs ladder step 2 on the CAN controllers and on objects 0x1000 to 0x1FFF. -/
  | nmtResetCommunication (port node : Nat)
  /-- SYNC (R395): A SYNC frame that is received triggers the synchronous TPDOs. -/
  | sync (port : Nat)
  /-- RPDO (R396): A received RPDO writes each mapped object in mapping order. -/
  | rpdo (port idx : Nat) (data : List Byte)
  /-- TPDO (R395): A TPDO falls due by its transmission type or its event timer and is queued. -/
  | tpdo (port idx : Nat)
  /-- HEARTBEAT (R394): The producer heartbeat is sent on every enabled port. -/
  | heartbeat
  /-- HEARTBEAT_CONSUMER_TIMEOUT (R394): A consumer heartbeat times out, and EMCY 0x8130 is sent. -/
  | heartbeatConsumerTimeout (port entry : Nat)
  /-- ARCADE_READ_REQUEST (R330): An authenticated Arcade read request addressed to this module is served. -/
  | arcadeReadRequest (msg : ArcMsg)
  /-- ARCADE_WRITE_REQUEST (R330): An authenticated Arcade write request segment addressed to this module is served. -/
  | arcadeWriteRequest (msg : ArcMsg)
  /-- ARCADE_RESPONSE (R331): An Arcade response to one of this module's own requests is received. -/
  | arcadeResponse (msg : ArcMsg)
  /-- ARCADE_REQ_TIMEOUT (R331): An own Arcade request gets no response within REQ_TIMEOUT and may be sent again. -/
  | arcadeReqTimeout (reqId : Nat)
  /-- ARCADE_FROZEN_EXPIRY (R330): A frozen Arcade read value is dropped after 1 s without a read. -/
  | arcadeFrozenExpiry (serial : Nat)
  /-- RING_KEY (R100): A write of the ring key loads it and updates KEY_CHECK. -/
  | ringKey (path : Path) (key : List Byte)
  /-- OWNER_KEY (R439): A write of the owner key installs the key, or removes it when all bytes are zero. -/
  | ownerKey (path : Path) (key : List Byte)
  /-- STRING_CFG (R134): A write to STRING_CFG or FLIGHT_NODES restarts the trunk at ACQUIRE, or turns it OFF. -/
  | stringCfg (path : Path) (index sub : Nat) (data : List Byte)
  /-- ACQUIRE_TIMEOUT (R123): ACQUIRE lasts 100 ms without 16 good headers, and the trunk enters RETRY_WAIT. -/
  | acquireTimeout (n : Nat)
  /-- RETRY_WAIT_EXPIRY (R123): After 1 s in RETRY_WAIT the trunk returns to ACQUIRE. -/
  | retryWaitExpiry (n : Nat)
  /-- TRUNK_LOSS (R123): Three successive upstream superframes are missing or bad, and the trunk returns to ACQUIRE. -/
  | trunkLoss (n : Nat)
  /-- COMMAND_RESEND (R119): A command goes unanswered for 16 superframes; it is resent, or it fails after the third resend. -/
  | commandResend (n : Nat)
  /-- IDENTIFY (R122): A head or monitor executes IDENTIFY and reports its identity, taking its address where ASSIGN is set. -/
  | identify (n : Nat) (onB : Bool) (node tag : Nat) (assign : Bool) (ctr : Nat) (reverse : Bool)
  /-- READ_REG (R121): A head or monitor returns the value of a register. -/
  | readReg (n : Nat) (onB : Bool) (node tag addr : Nat)
  /-- WRITE_REG (R121): A head or monitor writes a register and returns the value it now holds. -/
  | writeReg (n : Nat) (onB : Bool) (node tag addr value : Nat)
  /-- SYNC_RESET (R146): A monitor schedules a reset of its filters at the named SF_NUM. -/
  | syncReset (n node tag sf x : Nat)
  /-- SWEEP (R149): A monitor starts converting its thermistors. -/
  | sweep (n node tag mask : Nat)
  /-- SWITCH_TEST (R155): A monitor closes a balancing switch as an override, or ends the override. -/
  | switchTest (n node tag pos step : Nat)
  /-- COMMISSION (R118): A monitor stores FIRST_POS and POS_COUNT if the serial matches its own. -/
  | commission (n node tag first count serial : Nat)
  /-- RESTORE_RING (R126): The head returns the loop to RING and repeats the address assignment. -/
  | restoreRing (n : Nat) (onB : Bool) (tag : Nat)
  /-- RELEASE (R118): The head clears INHIBIT_LATCH, HOLD_EXPIRED and LOCAL_TRIP if no comparator bit has been set. -/
  | release (n : Nat) (onB : Bool) (tag : Nat)
  /-- SLEEP (R159): A head or monitor enters sleep with the given check interval and T_LIMIT. -/
  | sleep (n : Nat) (onB : Bool) (node tag ms : Nat) (tLimit : Int)
  /-- SELFTEST (R160): A head or monitor runs its self-test and returns the result word. -/
  | selftest (n : Nat) (onB : Bool) (node tag : Nat) (result : Nat)
  /-- FLIGHT_NODES_COMMISSION (R134): A write of COMMISSION sends each EXPECTED entry to its monitor, and the trunk then restarts at ACQUIRE. -/
  | flightNodesCommission (path : Path) (n : Nat)
  /-- RESTORE_NOW (R127): A write of RESTORE_NOW sends RESTORE_RING to the head. -/
  | restoreNow (path : Path) (n : Nat)
  /-- AUTO_RESTORE (R127): Both TURNING monitors have reported FAR_LINK_UP for 1 s, and RESTORE_RING is sent. -/
  | autoRestore (n : Nat)
  /-- HEAD_SUPERFRAME_RX (R111): A head receives a downstream superframe and answers it with a loop frame and an upstream superframe. -/
  | headSuperframeRx (n : Nat) (onB : Bool) (d : DownSuper)
  /-- HEAD_HOLD_TIMEOUT (R130): The hold timer runs out, and the head sets HOLD_EXPIRED and INHIBIT_LATCH. -/
  | headHoldTimeout (n : Nat)
  /-- HEAD_TRUNK_LOSS (R130): The head loses the trunk it obeys and enters HOLD. -/
  | headTrunkLoss (n : Nat) (onB : Bool)
  /-- DUAL_FAULT (R132): The overlap count reaches 62 superframes, and the head latches a dual-authority fault. -/
  | dualFault (n : Nat)
  /-- LOOP_FRAME_EVALUATE (R126): The head evaluates the return of loop frame k and changes the path state. -/
  | loopFrameEvaluate (n : Nat) (back : LoopBack)
  /-- MONITOR_SLOT_FILL (R114): A monitor writes its slot into a passing loop frame and forwards the rest of the frame. -/
  | monitorSlotFill (n node : Nat) (reverse rxErr : Bool) (link : LinkIn)
  /-- MONITOR_SIGNAL_LOSS (R125): A monitor loses signal on one port and turns frames back. -/
  | monitorSignalLoss (n node : Nat)
  /-- SAMPLE_LATCH (R135): At S(k) the head and every monitor latch their readings. -/
  | sampleLatch (n : Nat) (r : Reading)
  /-- MONITOR_FRAME_TIMEOUT (R151): A monitor that has received no loop frame for 100 ms opens its switches and sleeps. -/
  | monitorFrameTimeout (n node : Nat)
  /-- SLEEP_CHECK (R160): A sleeping monitor wakes each check interval and checks its positions and thermistors. -/
  | sleepCheck (n node : Nat) (volts : List Nat) (temps : List Nat) (selfRes : Nat)
  /-- WAKE_BURST (R161): A wake burst is relayed by the monitors and drives the head's wake output. -/
  | wakeBurst (n node : Nat)
  /-- DELAY_COMP_REREAD (R143): Every 10 s DELAY_COMP is re-read, and COMP is rewritten where it has drifted. -/
  | delayCompReread (n : Nat)
  /-- SYNC_NOW (R147): A write of SYNC_NOW broadcasts SYNC_RESET. -/
  | syncNow (path : Path) (n : Nat)
  /-- BALANCE_DECISION (R152): Every 1 s a Gallery decides which positions to balance. -/
  | balanceDecision (n : Nat)
  /-- BALANCE_TEST_RUN (R158): A write of BALANCE_TEST:01 starts a switch test of one position or of every position. -/
  | balanceTestRun (path : Path) (n pos : Nat)
  /-- SWITCH_TEST_INTERVAL (R158): INTERVAL elapses and starts an automatic pass of switch tests. -/
  | switchTestInterval (n : Nat)
  /-- SWEEP_DUE (R150): A sweep falls due at the interval in force and is sent as a broadcast, or is skipped. -/
  | sweepDue (n : Nat)
  /-- SWEEP_MISSING (R150): No slot shows TEMP_VALID within 12 superframes of the sweep response. -/
  | sweepMissing (n : Nat)
  /-- SWEEP_INTERVAL_RELAX (R252): The condition of a faster sweep row has been absent for 10 s, and the longer interval takes effect. -/
  | sweepIntervalRelax (n : Nat)
  /-- WATCH_CHECK (R162): In WATCH, every CHECK_INTERVAL, core 0 checks the selected strings. -/
  | watchCheck (results : List WatchResult)
  /-- RESTART (R193): A write of RESTART restarts a TRIPPED converter, or is refused. -/
  | restart (path : Path) (n : Nat)
  /-- CONVERTER_ENABLE (R192): A write of CONVERTER_ENABLE starts or stops the converter at the next step. -/
  | converterEnable (path : Path) (n : Nat) (on : Nat)
  /-- PEAK_READ (R197): A read of a held peak returns it and starts a new hold. -/
  | peakRead (path : Path) (n : Nat) (peak : PeakHit)
  /-- TELEMETRY_WINDOW (R194): A 100 ms or 1 s telemetry window ends, and its averages are published. -/
  | telemetryWindow (n : Nat) (second : Bool)
  /-- EXCITATION_APPLY (R201): A write of APPLY validates the staged multisine set and starts its computation. -/
  | excitationApply (path : Path) (n : Nat)
  /-- SET_COMPUTED (R201): Core 2 completes the computation of an applied set. -/
  | setComputed (n : Nat)
  /-- PLATING_CLEAR (R217): PLATING is cleared for every position of the string. -/
  | platingClear (path : Path) (n : Nat)
  /-- ARCHIVE_NOW (R218): The next accepted window of the string is marked for archiving. -/
  | archiveNow (path : Path) (n : Nat)
  /-- ARCHIVE_INTERVAL (R218): ARCHIVE_INTERVAL elapses and marks the next accepted window for archiving. -/
  | archiveInterval (n : Nat)
  /-- ARCHIVE_RECORD_WRITE (R218): A pending archive record is written to NAND when the queue serves it. -/
  | archiveRecordWrite (n : Nat)
  /-- ARCHIVE_SEL (R220): A write of ARCHIVE_SEL sets the archive selector of the writing path. -/
  | archiveSel (path : Path) (n sel : Nat)
  /-- ARCHIVE_READ (R220): A read of ARCHIVE_READ returns the header and the selected entries of an archive record. -/
  | archiveRead (path : Path) (n : Nat)
  /-- MODEL_SET (R224): A write of MODEL_SET installs a parameter set, and every position goes through first use. -/
  | modelSet (path : Path) (n : Nat) (data : List Byte)
  /-- REPLACED (R234): A write of REPLACED resets a position to rated capacity and first use. -/
  | replaced (path : Path) (n pos : Nat)
  /-- REST_CORRECTION (R230): The rest timer reaches REST_TIME, or 60 s more pass, and each position receives an OCV correction. -/
  | restCorrection (n : Nat)
  /-- AGGREGATES (R245): Every 100 ms the aggregates of ESTIM_STRING are computed. -/
  | aggregates (n : Nat)
  /-- STATE_SAVE (R238): A save of a string's state image falls due. -/
  | stateSave (n : Nat)
  /-- STATE_SAVE_DONE (R238): A save of a state image completes. -/
  | stateSaveDone (n : Nat)
  /-- SAVE_FAILED (R238): No save of a string completes within SAVE_INTERVAL after one falls due. -/
  | saveFailed (n : Nat)
  /-- DIE_TEMPERATURE_READ (R263): Every 1 ms the die sensors are read, and the die levels and the model rate are updated. -/
  | dieTemperatureRead (temps : List (Option Q))
  /-- RISE_STOP_TIME (R258): RISE_ALARM has stood for RISE_STOP_TIME, and a thermal stop request with cause RISE is raised. -/
  | riseStopTime (n : Nat)
  /-- SAFETY_CYCLE (R278): Newel and Baluster run a 250 µs safety cycle: they read the inputs, run the group state machines and command their outputs. -/
  | safetyCycle (rb : Readback)
  /-- ENERGISE_ON (R292): A write of ENERGISE:03 with 1 requests the energising of the group. -/
  | energiseOn (path : Path) (n : Nat)
  /-- ENERGISE_OFF (R292): A write of ENERGISE:03 with 0 requests an orderly stop of the group. -/
  | energiseOff (path : Path) (n : Nat)
  /-- BUS_CHECK_TIMEOUT (R292): No bus match arrives within 1 s, and the group returns to OFF. -/
  | busCheckTimeout (g : Nat)
  /-- PRE_TIME_EXPIRY (R292): Pre-charge has not finished within PRE_TIME, and it fails. -/
  | preTimeExpiry (g : Nat)
  /-- FB_TIME_EXPIRY (R291): The contactor feedback has not arrived within FB_TIME. -/
  | fbTimeExpiry (g : Nat)
  /-- MIN_OFF_ELAPSED (R289): MIN_OFF has elapsed, and a pending ON proceeds or the group enters OFF. -/
  | minOffElapsed (g : Nat)
  /-- MAX_OVERLAP_EXPIRY (R288): The overlap of an overlap pair reaches MAX_OVERLAP, and the first load goes off. -/
  | maxOverlapExpiry (so : Nat) (current : Bool)
  /-- MAIN_CLOSE_TIME_EXPIRY (R294): MAIN_CLOSE_TIME after the main load goes on, the pre-charge load goes off. -/
  | mainCloseTimeExpiry (g : Nat)
  /-- SEO_DELAY_EXPIRY (R291): SEO_DELAY after the first K28.1, both channels command the group's loads off. -/
  | seoDelayExpiry (g : Nat)
  /-- SRS_MAX_TIME_EXPIRY (R290): SRS has not ended within SRS_MAX_TIME, and SEO is applied. -/
  | srsMaxTimeExpiry (g : Nat)
  /-- TRUNK_LOSS_SEO_TIMER (R274): HOLD_TIMEOUT + 1 ms after a trunk loss, the loads are commanded off. -/
  | trunkLossSeoTimer (g : Nat)
  /-- SO_OVERCURRENT (R287): An SO carries too much current, both channels open it, and OUTPUT_FAULT is raised. -/
  | soOvercurrent (so : Nat) (amps : Q) (us : Nat)
  /-- SAFETY_INPUT_CHANGE (R282): A safety input channel changes level after its filter. -/
  | safetyInputChange (idx ch : Nat) (high newelSees balusterSees : Bool)
  /-- DISCREPANCY_TIMEOUT (R284): The channels of an input disagree for longer than DISC_TIME, and DISCREPANCY is raised. -/
  | discrepancyTimeout (idx : Nat)
  /-- TEST_PULSE (R283): An off-pulse of TP_1 or TP_2 checks its inputs for a cross short. -/
  | testPulse (source : Nat) (shorts : Nat)
  /-- OUTPUT_TEST_PULSE (R285): A safety-switch test pulse falls due and is judged by readback. -/
  | outputTestPulse (load : Nat) (onSl : Bool) (chan : SafetyChan) (fell returned : Bool) (external : Bool)
  /-- CHANNEL_DISAGREE (R279): A difference between the channels persists for 10 ms and raises CHANNEL_DISAGREE. -/
  | channelDisagree
  /-- CHANNEL_SELF_CHECK (R280): Every 10 s each channel checks its memories and instruction paths. -/
  | channelSelfCheck (newel baluster : Bool)
  /-- CHANNEL_FAIL (R280): A channel's clock or supply fails; it opens its own path, and the other channel applies SEO. -/
  | channelFail (chan : SafetyChan) (clock : Bool)
  /-- LOCKOUT_RESET_PULSE (R299): A pulse on the RESET input ends and is evaluated; it clears the lock-out latch if accepted. -/
  | lockoutResetPulse
  /-- LOCKOUT_RESET (R300): A write of LOCKOUT_RESET:01 repeats the tests and sets REQUESTED. -/
  | lockoutReset (path : Path)
  /-- REQUESTED_EXPIRY (R300): REQUESTED clears 600 s after the write. -/
  | requestedExpiry
  /-- LOST_CLEAR (R296): A write of LOST_CLEAR clears STRING_LOST in OFF or WAIT_OFF. -/
  | lostClear (path : Path) (n : Nat)
  /-- STRING_LOST (R296): After LOST_TIME superframes of missing current, the string is lost and inhibited. -/
  | stringLost (n : Nat)
  /-- IMD_EVALUATE (R277): Every 100 ms the insulation resistance is evaluated, and the IMD flags are set or cleared. -/
  | imdEvaluate
  /-- THRESH_REWRITE (R270): After a threshold mismatch, the threshold writes are repeated every 1 s. -/
  | threshRewrite (n : Nat)
  /-- DISPATCH_ALLOCATION (R307): Every 100 ms dispatch allocates the target in force across the eligible strings. -/
  | dispatchAllocation
  /-- P_DEMAND (R308): A write of P_DEMAND updates the HOST value and restarts HOST_AGE. -/
  | pDemand (path : Path) (data : List Byte)
  /-- LEADER_TARGET (R320): A write of LEADER_TARGET from the elected leader is accepted, or refused otherwise. -/
  | leaderTarget (path : Path) (data : List Byte)
  /-- HOST_TIMEOUT (R309): HOST_AGE exceeds HOST_TIMEOUT, and HOST stops being valid. -/
  | hostTimeout
  /-- LEADER_LOST (R309): LEADER_AGE exceeds LEADER_TIMEOUT, and LEADER stops being valid. -/
  | leaderLost
  /-- FALLBACK_HOLD (R309): FALLBACK_HOLD ends, and FALLBACK uses FALLBACK_P. -/
  | fallbackHold
  /-- JOIN_DELAY (R317): A member reaches JOIN_DELAY and may become a leader candidate, so the election is recomputed. -/
  | joinDelay (serial : Nat)
  /-- BYPASS_INSERT (R327): Both ports pass their loopback test, and BYP_E and BYP_W go high. -/
  | bypassInsert
  /-- BYPASS_TEST_TIMEOUT (R327): The loopback test has not passed within 5 s, and training restarts. -/
  | bypassTestTimeout (eastOk westOk : Bool)
  /-- ARCADE_LINK_LOSS (R327): An Arcade port loses link and retrains. -/
  | arcadeLinkLoss (west : Bool)
  /-- HSR_FRAME_RX (R325): An HSR frame is received: it is forwarded, discarded as a duplicate, or taken. -/
  | hsrFrameRx (west : Bool) (f : HsrFrame)
  /-- HSR_SUPERVISION_TX (R325): Every LIFE_CHECK a supervision frame is sent. -/
  | hsrSupervisionTx
  /-- NODE_FORGET (R333): A non-module member is removed after NodeForgetTime. -/
  | nodeForget (mac : Nat)
  /-- BEACON_TX (R332): Every BEACON_INTERVAL a beacon is sent on both ports. -/
  | beaconTx
  /-- BEACON_RX (R332): A beacon is accepted and updates the member list, the election and the keeper ORIGIN. -/
  | beaconRx (b : Beacon)
  /-- MEMBER_TIMEOUT (R333): A module member is removed after MEMBER_TIMEOUT without a beacon. -/
  | memberTimeout (serial : Nat)
  /-- PTP_SYNC_RX (R335): A PTP Sync is received and time-stamped, and the plant-time error is acted on. -/
  | ptpSyncRx (west : Bool) (m : PtpMsg)
  /-- PTP_FOLLOW_UP_RX (R339): A PTP Follow_Up is received. -/
  | ptpFollowUpRx (west : Bool) (m : PtpMsg)
  /-- PTP_ANNOUNCE_RX (R339): A PTP Announce is received, and the BMCA runs. -/
  | ptpAnnounceRx (west : Bool) (m : PtpAnnounce)
  /-- PTP_ANNOUNCE_TIMEOUT (R339): The announce receipt timeout expires. -/
  | ptpAnnounceTimeout
  /-- PDELAY_REQ_RX (R339): A Pdelay_Req is received and answered with a one-step Pdelay_Resp. -/
  | pdelayReqRx (west : Bool) (m : PtpMsg)
  /-- PDELAY_RESP_RX (R339): A Pdelay_Resp is received. -/
  | pdelayRespRx (west : Bool) (m : PtpMsg)
  /-- PDELAY_RESP_FOLLOW_UP_RX (R339): A Pdelay_Resp_Follow_Up is received, and the link delay is updated. -/
  | pdelayRespFollowUpRx (west : Bool) (m : PtpMsg)
  /-- PTP_SYNC_TX (R340): As master, the module sends a one-step Sync. -/
  | ptpSyncTx
  /-- PTP_ANNOUNCE_TX (R339): As master, the module sends an Announce. -/
  | ptpAnnounceTx
  /-- PDELAY_REQ_TX (R339): A Pdelay_Req is sent at the peer-delay interval. -/
  | pdelayReqTx (west : Bool)
  /-- PTP_EVENT_FORWARD (R341): A forwarded PTP event message has its correctionField updated by the transparent clock. -/
  | ptpEventForward (west : Bool) (m : PtpMsg) (residence : Nat)
  /-- PPS_IN (R343): A PPS_IN edge is captured and checked. -/
  | ppsIn (tick widthNs : Nat)
  /-- TOD_IN (R343): A ZDA sentence on TOD_IN is received and checked. -/
  | todIn (sentence : List Byte)
  /-- PPS_OUT (R343): PPS_OUT rises at a whole TAI second. -/
  | ppsOut
  /-- SOURCE_LOSS (R342): No Sync or PPS for 3 s: the time base enters FREE or HOLDOVER. -/
  | sourceLoss
  /-- HOLDOVER_EXPIRY (R342): HOLDOVER_TIME elapses, and the time base enters FREE. -/
  | holdoverExpiry
  /-- TIME_STEP (R337): A forward step of plant time takes effect at a superframe boundary. -/
  | timeStep
  /-- CORRIDOR_FRAME_TX (R349): A Corridor frame is sent at every superframe boundary. -/
  | corridorFrameTx
  /-- CORRIDOR_FRAME_RX (R349): A Corridor frame from the partner is received and updates the mirror. -/
  | corridorFrameRx (f : CorFrame)
  /-- CORRIDOR_DOWN (R350): CORRIDOR_TIMEOUT superframes pass without a good frame, and the Corridor is down. -/
  | corridorDown
  /-- MIRROR_READ (R350): While the Corridor is down, the partner's MIRROR is read over the Arcade every 100 ms. -/
  | mirrorRead (data : Option (List Byte))
  /-- REDUNDANCY_ENABLE (R347): A write of REDUNDANCY_CFG:01 enters PAIRING or UNPAIRED. -/
  | redundancyEnable (path : Path) (on : Nat)
  /-- PAIR_WAIT (R352): PAIR_WAIT elapses without a partner, and the module may become ACTIVE. -/
  | pairWait
  /-- SWAP (R366): A write of SWAP starts a planned swap, or is refused. -/
  | swap (path : Path)
  /-- TAKEOVER_TIMEOUT (R352): In TAKING_OVER, 16 superframes pass without the heads obeying. -/
  | takeoverTimeout
  /-- YIELD_TIMEOUT (R352): HANDOVER_SF + 8 is reached without overlap, and the swap is aborted. -/
  | yieldTimeout
  /-- RE_ARM (R364): A write of RE_ARM clears OVERLAP_YIELD. -/
  | reArm (path : Path)
  /-- SWAP_DUE (R357): SWAP_INTERVAL has passed since the module last left ACTIVE, and SWAP_DUE is set. -/
  | swapDue
  /-- CHANNEL_SAMPLE (R371): A universal channel's sample period ends, and the value is converted, mapped and published. -/
  | channelSample (n : Nat) (x : ChanIn)
  /-- OVERLOAD_TRIP (R375): The overload detector of a range trips, and the channel switches to ±30 V. -/
  | overloadTrip (n : Nat)
  /-- READBACK_COMPARE (R380): Every 10 ms the output readback is compared with the command. -/
  | readbackCompare (n : Nat) (readback : Q) (limit : Bool)
  /-- RAIL_UPDATE (R381): Every 100 µs the compliance rail is set. -/
  | railUpdate (n : Nat) (hiVolts : Q)
  /-- DRIVER_THERMAL (R382): The driver temperature crosses 150, 135 or 165 °C. -/
  | driverThermal (n : Nat) (temp : Q)
  /-- OUT_VALUE (R379): A write of OUT_VALUE sets the engineering value of an output. -/
  | outValue (path : Path) (n : Nat) (data : List Byte)
  /-- OUT_TIMEOUT (R379): OUT_VALUE is not written within OUT_TIMEOUT, and the output goes to its fail level. -/
  | outTimeout (n : Nat)
  /-- CH_CHAR_APPLY (R378): A write of APPLY validates the staged characteristic and brings it into effect. -/
  | chCharApply (path : Path) (n : Nat)
  /-- CH_REINITIALISE (R388): A write of 1 to CH_CTRL:01 re-initialises the channel. -/
  | chReinitialise (path : Path) (n : Nat)
  /-- CH_TEST (R388): A write of 2 to CH_CTRL:01 tests the channel. -/
  | chTest (path : Path) (n : Nat)
  /-- CH_COMMAND_DONE (R388): A channel test or re-initialise completes, and the channel resumes or stays on the burden. -/
  | chCommandDone (n : Nat) (r : TestReadings)
  /-- OUTPUT_RESUME (R383): VLOOP has been valid for 100 ms, and the outputs resume. -/
  | outputResume (n : Nat)
  /-- FUNCTION (R390): A write of FUNCTION changes the channel function through the burden. -/
  | function (path : Path) (n code : Nat)
  /-- HART_POLL (R386): Every POLL_INTERVAL HART command 3 is sent. -/
  | hartPoll (n : Nat)
  /-- HART_RESPONSE_RX (R385): A HART response frame is received and updates the link. -/
  | hartResponseRx (n : Nat) (f : HartFrame)
  /-- HART_BURST_FRAME (R385): An unsolicited HART frame is received. -/
  | hartBurstFrame (n : Nat) (f : HartFrame)
  /-- HART_RESPONSE_TIMEOUT (R385): No HART response starts within TIMEOUT; the request is repeated, or the link fails. -/
  | hartResponseTimeout (n : Nat)
  /-- HART_IDENTIFY_RETRY (R386): Every 30 s a failed HART link repeats identification. -/
  | hartIdentifyRetry (n : Nat)
  /-- HART_XFER_REQUEST (R387): A write of HART_XFER REQUEST queues a HART command. -/
  | hartXferRequest (path : Path) (n : Nat) (data : List Byte)
  /-- CAN_FRAME_RX (R392): A CAN frame is received without error and is dispatched. -/
  | canFrameRx (port : Nat) (f : CanFrame)
  /-- CAN_FRAME_TX_DONE (R397): The entry at the head of a transmit FIFO completes, and the next entry contends. -/
  | canFrameTxDone (port : Nat) (ok : Bool) (air : Nat)
  /-- CAN_BUS_OFF (R400): A CAN port enters bus-off. -/
  | canBusOff (port : Nat)
  /-- BUSOFF_DELAY (R400): BUSOFF_DELAY ends, and bus-off recovery begins. -/
  | busoffDelay (port : Nat)
  /-- CAN_BUS_OFF_RECOVERED (R400): Bus-off recovery completes, and EMCY 0x8140 is sent. -/
  | canBusOffRecovered (port : Nat)
  /-- CAN_FLUSH (R399): A write of FLUSH cancels every entry that has not begun. -/
  | canFlush (path : Path) (port : Nat) (begun late : Bool)
  /-- FIFO_DRAIN_DEADLINE (R403): 100 ms after entry to WATCH or VAULT, the remaining FIFO entries are discarded. -/
  | fifoDrainDeadline
  /-- TWA_SLOT_DUE (R406): A TWA slot with a period falls due. -/
  | twaSlotDue (idx : Nat)
  /-- TWA_TRIGGER (R406): A write of TRIGGER runs the selected slots once. -/
  | twaTrigger (path : Path) (mask : Nat)
  /-- TWA_SLOT_DONE (R407): A TWA slot transaction completes, or fails. -/
  | twaSlotDone (idx : Nat) (r : TwaResult)
  /-- TWA_ARB_RETRY (R407): 1 ms after a lost arbitration, the slot runs again. -/
  | twaArbRetry (idx : Nat)
  /-- CLK_LOW_TIMEOUT (R405): SCL stays low for CLK_LOW_TIMEOUT; the port releases the lines and ends the transfer. -/
  | clkLowTimeout (twb : Bool)
  /-- DATA_LOW_TIMEOUT (R405): SDA stays low for DATA_LOW_TIMEOUT; TWA clears the bus, and TWB releases its drive. -/
  | dataLowTimeout (twb : Bool) (freed : Bool)
  /-- TWB_WRITE_TRANSACTION (R408): A TWB write transaction stores bytes from the pointer and takes effect at its STOP. -/
  | twbWriteTransaction (bytes : List Byte)
  /-- TWB_READ_TRANSACTION (R408): A TWB read transaction returns bytes from the pointer, with a snapshot of the status window. -/
  | twbReadTransaction (ptr : Option Nat) (len : Nat)
  /-- MAILBOX_DONE (R410): A mailbox request completes, and RSP_STATE reads done or aborted. -/
  | mailboxDone
  /-- MAILBOX_FROZEN_EXPIRY (R410): A frozen mailbox read value is dropped after 10 s. -/
  | mailboxFrozenExpiry
  /-- TWB_ALERT (R411): TWB sends an alert as a controller to ALERT_ADDRESS. -/
  | twbAlert (r : AlertResult)
  /-- ALERT_RETRY (R411): An alert is tried again after a lost arbitration or a missing acknowledge. -/
  | alertRetry (r : AlertResult)
  /-- RECORD_ENTRY (R420): A record is offered to the RAM buffer and admitted with a SEQ, or dropped. -/
  | recordEntry (code cls inst sev : Nat) (data : List Byte)
  /-- DRAIN (R421): Thirty-two records wait, and a page program of them begins. -/
  | drain
  /-- PAGE_PROGRAM_DONE (R421): A page program is verified and its records become durable, or the program fails and is redone. -/
  | pageProgramDone (ok : Bool)
  /-- RECORDER_FLUSH (R422): A write of FLUSH starts a flush of the buffer. -/
  | recorderFlush (path : Path)
  /-- FLUSH_DONE (R422): Every record of a flush is durable, and a waiting reset proceeds. -/
  | flushDone
  /-- BLOCK_ERASE (R424): Fewer than two erased blocks remain, and core 3 journals and erases the oldest block. -/
  | blockErase
  /-- ERASE_DONE (R425): An erase completes, and its DONE marker is programmed. -/
  | eraseDone (ok : Bool)
  /-- RECORDER_REBUILD (R429): At boot core 3 completes the journal and rebuilds the recorder window. -/
  | recorderRebuild
  /-- SNAP_COUNT (R431): A write of SNAP_COUNT opens or closes the path's snapshot. -/
  | snapCount (path : Path) (count : Nat)
  /-- RECORDER_READ (R432): A read of RECORDER_READ returns records of the snapshot from CURSOR onwards. -/
  | recorderRead (path : Path)
  /-- SNAPSHOT_EXPIRY (R433): A snapshot expires by drain pressure or after 600 s without a read. -/
  | snapshotExpiry (path : Path)
  /-- BEGIN (R442): UPDATE command BEGIN starts erasing the inactive slot. -/
  | begin (path : Path)
  /-- SLOT_ERASE_DONE (R442): The erase of the inactive slot completes, and RECEIVING starts. -/
  | slotEraseDone (ok : Bool)
  /-- UPDATE_DATA (R441): A write of UPDATE_DATA appends image bytes at RECEIVED. -/
  | updateData (path : Path) (data : List Byte)
  /-- VERIFY (R442): UPDATE command VERIFY starts the checks of the image. -/
  | verify (path : Path)
  /-- CHECKS_COMPLETE (R438): The image checks complete, and the slot becomes VERIFIED or INVALID. -/
  | checksComplete
  /-- ACTIVATE (R443): UPDATE command ACTIVATE starts a warm or a cold activation, or is refused. -/
  | activate (path : Path)
  /-- PREPARE_DONE (R445): The shadow code stores are filled and checked, and the pause starts at the next boundary. -/
  | prepareDone (ok : Bool)
  /-- PAUSE_END (R445): The new image is confirmed and the first REFS with RESUME 1 leaves, and TRIAL begins. -/
  | pauseEnd
  /-- PAUSE_TIMEOUT (R447): The new image is not confirmed within 25 ms, and the module falls back to the old store. -/
  | pauseTimeout
  /-- COMMIT (R448): UPDATE command COMMIT commits the trial slot and blows fuses. -/
  | commit (path : Path)
  /-- ABORT (R442): UPDATE command ABORT ends the download and invalidates the inactive slot. -/
  | abort (path : Path)
  /-- TRIAL_TIMEOUT (R448): TRIAL_LEFT reaches 0, and the module falls back to the previous slot. -/
  | trialTimeout
  /-- VKEEP_INVALID (R71): VKEEP falls below 2.0 V while VAUX is invalid, and the Vestibule loses its state. -/
  | vkeepInvalid (volts : Q)
  /-- KEEP_CELL_OVERVOLTAGE (R72): While the charger is charging, VKEEP rises above KEEP_CHARGE_V + 150 mV, and the charger stops within 1 ms and sets KEEP_OPEN. -/
  | keepCellOvervoltage (volts : Q)
  /-- COMPARATOR_TRIP (R148): A monitor's sinc3 output, or a head comparator, crosses its threshold for the debounce count, and the comparator bit is set or cleared. -/
  | comparatorTrip (n node pos : Nat) (value : Int) (outs : Nat)
  /-- SWEEP_CONVERSION_DONE (R149): A monitor completes the conversion of its thermistors, ends the busy state, and reports T with TEMP_VALID in the next two loop frames. -/
  | sweepConversionDone (n node : Nat) (temps : List Nat)
  /-- ARCADE_LINK_UP (R328): An Arcade port completes training with its neighbour, and its link comes up. -/
  | arcadeLinkUp (port : PortUp)
  /-- PPS_MISSING (R343): No valid PPS_IN edge arrives for 2 s; PPS_MISSING is set, and the PPS/TOD source becomes invalid. -/
  | ppsMissing
  /-- CAN_ERROR_PASSIVE (R400): A CAN port's error counters cross into error passive, or back to error active, and EMCY 0x8120 is sent or cleared. -/
  | canErrorPassive (port tec rec : Nat)
  /-- BUFFER_CLOSE (R422): 1,000 µs after PFAIL, the recorder buffer closes, and later records are refused and counted as dropped. -/
  | bufferClose
deriving DecidableEq, Repr

end Sys2Proof
end

