-- ==== Sys2Proof/Decode.lean ====
section
/-! DEFINITION. The command that a word spells. The spec gives its commands no encoding: opcode_table.json has no bits in any row, so
there is no word to decode. -/
namespace Sys2Proof

/-- The command that a word of the table's bits spells: none, since no row of the table gives bits. -/
def decodeTableWord (_nbits _w : Nat) : Option Instr := none

end Sys2Proof
end

