-- ==== Sys2Proof/Config.lean ====
section
/-! DEFINITION. What the spec leaves to an implementation or to known algorithms that it does not write out: constants without a
body, so that nothing can rest on a value of theirs; and the REAL32 code (R9, R79). -/
namespace Sys2Proof

/-- A free value of a number that the spec leaves open. -/
opaque Config.freeNat : Nat → Nat
/-- A free engineering value that the spec leaves open. -/
opaque Config.freeQ : Nat → Q
/-- A free choice that the spec leaves open. -/
opaque Config.freeBool : Nat → Bool
/-- The REAL32 pattern of a value that REAL32 does not hold exactly: how it is rounded is left open. -/
opaque Config.real32 : Q → Nat
/-- The firmware version that a head or a monitor reports. -/
opaque Config.unitFw : Nat
/-- The largest reference of a head's own rating, in mA (R168). -/
opaque Config.headRating : Nat
/-- The level in 0.01 degC at which a head reports OVERTEMP_WARN (R171). -/
opaque Config.headOtWarn : Int
/-- The level in 0.01 degC at which a head reports OVERTEMP_SHUT (R171). -/
opaque Config.headOtShut : Int
/-- Which of several SOC values with the same OCV a correction takes, by the table and the voltage. -/
opaque Config.ocvPick : List (Q × Q) → Q → Nat
/-- The angle in degrees of a complex value of 0. -/
opaque Config.angleOfZero : Q
/-- The temperature in degC that a thermocouple voltage in V and its cold junction stand for, by the type code (IEC 60584-1). -/
opaque Config.tcTemp : Nat → Q → Q → Q
/-- How many markers a journal block of the configuration store holds (R425). -/
opaque Config.journalRoom : Nat
/-- HMAC-SHA-384 with a key over a message (R100, R101). -/
opaque Config.hmac384 : List Byte → List Byte → Vector Byte 48
/-- SHA-384. -/
opaque Config.sha384 : List Byte → Vector Byte 48
/-- Whether an ECDSA P-384 signature verifies (R438): public key, digest, signature. -/
opaque Config.ecdsaOk : List Byte → List Byte → List Byte → Bool
/-- The header (Table 17-2) of the image that the module leaves the factory with. -/
opaque Config.factoryHeader : List Byte
/-- The date of manufacture and the factory bad blocks in IDENTITY_EXT (R478). -/
opaque Config.manufactured : Nat
/-- NAND blocks replaced from the spare pool at the factory (R478). -/
opaque Config.factoryBadBlocks : Nat
/-- The vendor's public key in Landing. -/
opaque Config.vendorKey : List Byte
/-- The 64 bytes of a state line as the model engine writes it, whose layout the spec does not give (R240). -/
opaque Config.stateLine : Nat → Vector Byte 64
/-- The 8 SECDED check bits of a 64-bit word (Table 1-11). -/
opaque Config.eccOf : List Byte → Byte
/-- SECDED on a word and its check bits: the corrected word, whether one bit was corrected, whether it is uncorrectable (R43). -/
opaque Config.eccFix : List Byte → Byte → List Byte × Bool × Bool

/-- The value of a REAL32 pattern; none for a not-a-number or an infinity. -/
def realOfBits (w : Nat) : Option Q :=
  let e := bits w 30 23
  let m := bits w 22 0
  if e = 255 then none
  else
    let mag : Q := if e = 0 then (m : Q) / 2 ^ 149
      else if e ≥ 150 then ((2 ^ 23 + m : Nat) : Q) * 2 ^ (e - 150) else ((2 ^ 23 + m : Nat) : Q) / 2 ^ (150 - e)
    some (if bit w 31 then -mag else mag)

/-- The exponent of the leading bit of a positive value. -/
def leadExp (x : Q) : Int :=
  let e := (Nat.log2 x.num.natAbs : Int) - (Nat.log2 x.den : Int)
  if x < (if 0 ≤ e then (2 : Q) ^ e.toNat else 1 / 2 ^ (-e).toNat) then e - 1 else e

/-- The REAL32 pattern of a value: exact where REAL32 holds it, else left open; the quiet not-a-number for none (R79). -/
def bitsOfReal : Option Q → Nat
  | none => 0x7FC00000
  | some x =>
    if x = 0 then 0
    else
      let a := if x < 0 then -x else x
      let e := max (leadExp a) (-126)
      let k := 23 - e
      let m := if 0 ≤ k then a * 2 ^ k.toNat else a / 2 ^ (-k).toNat
      if m.den = 1 ∧ e ≤ 127 then
        let mant := m.num.natAbs
        let body := if mant < 2 ^ 23 then mant else mant - 2 ^ 23 + ((e + 127).toNat) * 2 ^ 23
        if x < 0 then body + 2 ^ 31 else body
      else Config.real32 x

end Sys2Proof
end

