-- ==== Sys2Proof/Machine/Elem.lean ====
section
/-! DEFINITION. Square root, exponential, cosine and angle, which the spec names and does not write out, as computed fixed-point
functions: a result lies within 2^-48 of its size (cosine, angle: within 2^-60) of the exact value. -/
namespace Sys2Proof.Machine

/-- The binary point of the fixed-point arithmetic below. -/
def fixOne : Nat := 2 ^ 80
/-- Pi, to 80 binary places. -/
def fixPi : Nat := 3797952473636338580787994
/-- A value as a fixed-point integer. -/
def toFix (x : Q) : Int := (x * (fixOne : Q)).floor
/-- A fixed-point integer as a value. -/
def ofFix (x : Int) : Q := (x : Q) / (fixOne : Q)

/-- The square root of a value that is not negative; 0 of a negative one. -/
def qsqrt (x : Q) : Q :=
  if x ≤ 0 then 0
  else ((Nat.sqrt (x.num.natAbs * x.den * 2 ^ 192) : Nat) : Q) / (((x.den * 2 ^ 96 : Nat)) : Q)

/-- The sum of `fuel` terms of the exponential series of a fixed-point argument, from term `k` on. -/
def expTail (x : Nat) (fuel k term : Nat) : Nat :=
  match fuel with
  | 0 => 0
  | f + 1 => term + expTail x f (k + 1) (term * x / fixOne / (k + 1))
/-- A fixed-point value squared `n` times. -/
def fixSquares (n x : Nat) : Nat :=
  match n with
  | 0 => x
  | m + 1 => fixSquares m (x * x / fixOne)
/-- exp of a value from 0 to 64, in fixed point: the series at a 1/128 of it, squared seven times. -/
def expPos (y : Q) : Nat := fixSquares 7 (expTail (toFix (y / 128)).toNat 24 0 fixOne)
/-- The exponential. Beyond 64 either way it is held at its value there. -/
def qexp (x : Q) : Q :=
  if 0 ≤ x then ofFix (expPos (if 64 < x then 64 else x))
  else 1 / ofFix (expPos (if x < -64 then 64 else -x))

/-- The sum of the cosine series: terms of alternating sign of the square of the argument. -/
def cosTail (xx : Nat) (fuel k term : Nat) (neg : Bool) : Int :=
  match fuel with
  | 0 => 0
  | f + 1 => (if neg then -(term : Int) else (term : Int)) +
      cosTail xx f (k + 2) (term * xx / fixOne / ((k + 1) * (k + 2))) (!neg)
/-- The cosine of a part `i` of `n` of a quarter turn or less, in fixed point. -/
def cosFirst (i n : Nat) : Int :=
  let x := 2 * fixPi * i / n
  cosTail (x * x / fixOne) 16 0 fixOne false
/-- The cosine of `i` parts of `n` of a turn, in fixed point. -/
def cosFix (i n : Nat) : Int :=
  let a := i % n
  let b := if n < 2 * a then n - a else a
  if n < 4 * b then -(cosFirst (n - 2 * b) (2 * n)) else cosFirst b n
/-- round(32,767 x cos) of `i` parts of `n` of a turn: an entry of a 16-bit cosine table (R200, R210). -/
def cos16 (i n : Nat) : Int := (32767 * cosFix i n + fixOne / 2) / fixOne
/-- round(32,767 x sin) of `i` parts of `n` of a turn. -/
def sin16 (i n : Nat) : Int := cos16 (4 * i + 3 * n) (4 * n)

/-- The sum of the arctangent series of a fixed-point argument. -/
def atanTail (xx : Nat) (fuel k pow : Nat) (neg : Bool) : Int :=
  match fuel with
  | 0 => 0
  | f + 1 => (if neg then -((pow / k : Nat) : Int) else ((pow / k : Nat) : Int)) + atanTail xx f (k + 2) (pow * xx / fixOne) (!neg)
/-- tan of half an angle from its tangent. -/
def halfTan (t : Q) : Q := t / (1 + qsqrt (1 + t * t))
/-- The angle, in degrees, of a tangent from 0 to 1: the series at an eighth of it. -/
def atanPos (t : Q) : Q :=
  let u := (toFix (halfTan (halfTan (halfTan t)))).toNat
  ofFix (8 * atanTail (u * u / fixOne) 20 1 u false) * 180 / ofFix (fixPi : Int)
/-- The angle in degrees, above -180 up to 180, of a complex value of imaginary part `y` and real part `x`, not both 0. -/
def qatan2 (y x : Q) : Q :=
  let ax := if x < 0 then -x else x
  let ay := if y < 0 then -y else y
  let q := if ay ≤ ax then atanPos (ay / ax) else 90 - atanPos (ax / ay)
  let h := if x < 0 then 180 - q else q
  if y < 0 then -h else h

end Sys2Proof.Machine
end

