-- ==== Sys2Proof/Machine/Objects.lean ====
section
/-! DEFINITION. The object dictionary's static table: every index and sub-index of the spec's tables (R76, R77), with type,
access, default and range. Written from the dictionary tables of the chapters that own each object. -/
namespace Sys2Proof.Machine

/-- The key of a sub-index: index and sub-index as one number. -/
def keyOf (index sub : Nat) : Nat := index * 256 + sub
/-- The key of an offset in Gallery n's block (R92). -/
def galKey (n off sub : Nat) : Nat := keyOf (0x4000 + 0x40 * n + off) sub
/-- The key of an offset in universal channel n's block (R391). -/
def chnKey (n off sub : Nat) : Nat := keyOf (0x3000 + 0x10 * n + off) sub
/-- The key of a sub-index of CAN_CFG, port 0 for A and 1 for B (Table 3-1). -/
def canKey (n sub : Nat) : Nat := keyOf (0x2700 + n) sub
/-- The key of a path's own copy of a sub-index (R94, R220, R431). -/
def pathKey (p : Path) (key : Nat) : Nat := p.code * 0x1000000 + key


/-- 0x5F00:01 FABRIC_LOAD (01_architecture). -/
def Obj.DIAG.FABRIC_LOAD : Nat := 0x5F0001

/-- 0x5F00:02 SF_DELAYED (01_architecture). -/
def Obj.DIAG.SF_DELAYED : Nat := 0x5F0002

/-- 0x5F00:03 SRAM_CORRECTED (01_architecture). -/
def Obj.DIAG.SRAM_CORRECTED : Nat := 0x5F0003

/-- 0x5F00:04 SRAM_POISONED (01_architecture). -/
def Obj.DIAG.SRAM_POISONED : Nat := 0x5F0004

/-- 0x5F00:05 SCRUB_AGE (01_architecture). -/
def Obj.DIAG.SCRUB_AGE : Nat := 0x5F0005

/-- 0x5F00:06 CLASS_S_REFUSED (01_architecture). -/
def Obj.DIAG.CLASS_S_REFUSED : Nat := 0x5F0006

/-- 0x5F00:07 CLASS_P_MAX (01_architecture). -/
def Obj.DIAG.CLASS_P_MAX : Nat := 0x5F0007

/-- 0x5F00:08 PLL_UNLOCK (01_architecture). -/
def Obj.DIAG.PLL_UNLOCK : Nat := 0x5F0008

/-- 0x2000:01 REQUEST (02_modes_power). -/
def Obj.MODE_CTRL.REQUEST : Nat := 0x200001

/-- 0x2000:02 RESULT (02_modes_power). -/
def Obj.MODE_CTRL.RESULT : Nat := 0x200002

/-- 0x2000:03 REFUSE_REASON (02_modes_power). -/
def Obj.MODE_CTRL.REFUSE_REASON : Nat := 0x200003

/-- 0x2001:01 MODE (02_modes_power). -/
def Obj.MODE_STATUS.MODE : Nat := 0x200101

/-- 0x2001:02 PHASE (02_modes_power). -/
def Obj.MODE_STATUS.PHASE : Nat := 0x200102

/-- 0x2001:03 LAST_CAUSE (02_modes_power). -/
def Obj.MODE_STATUS.LAST_CAUSE : Nat := 0x200103

/-- 0x2001:04 BOOT_CAUSE (02_modes_power). -/
def Obj.MODE_STATUS.BOOT_CAUSE : Nat := 0x200104

/-- 0x2001:05 TIME_IN_MODE (02_modes_power). -/
def Obj.MODE_STATUS.TIME_IN_MODE : Nat := 0x200105

/-- 0x2002:01 REQUEST (02_modes_power). -/
def Obj.RESET_LADDER.REQUEST : Nat := 0x200201

/-- 0x2002:02 RESULT (02_modes_power). -/
def Obj.RESET_LADDER.RESULT : Nat := 0x200202

/-- 0x2002:03 LAST_RESET_CAUSE (02_modes_power). -/
def Obj.RESET_LADDER.LAST_RESET_CAUSE : Nat := 0x200203

/-- 0x2002:04 DEVICE_RESETS (02_modes_power). -/
def Obj.RESET_LADDER.DEVICE_RESETS : Nat := 0x200204

/-- 0x2002:05 BOOT_FAILS (02_modes_power). -/
def Obj.RESET_LADDER.BOOT_FAILS : Nat := 0x200205

/-- 0x2008:01 FLAGS (02_modes_power). -/
def Obj.SUPPLY_STATUS.FLAGS : Nat := 0x200801

/-- 0x2008:02 VAUX (02_modes_power). -/
def Obj.SUPPLY_STATUS.VAUX : Nat := 0x200802

/-- 0x2008:03 VLOOP (02_modes_power). -/
def Obj.SUPPLY_STATUS.VLOOP : Nat := 0x200803

/-- 0x2008:04 VKEEP (02_modes_power). -/
def Obj.SUPPLY_STATUS.VKEEP : Nat := 0x200804

/-- 0x2008:05 VIO (02_modes_power). -/
def Obj.SUPPLY_STATUS.VIO : Nat := 0x200805

/-- 0x2008:06 VHOLD (02_modes_power). -/
def Obj.SUPPLY_STATUS.VHOLD : Nat := 0x200806

/-- 0x2008:07 KEEP_CHARGE_V (02_modes_power). -/
def Obj.SUPPLY_STATUS.KEEP_CHARGE_V : Nat := 0x200807

/-- 0x2008:08 KEEP_CHARGE_I (02_modes_power). -/
def Obj.SUPPLY_STATUS.KEEP_CHARGE_I : Nat := 0x200808

/-- 0x2008:09 EVENTS (02_modes_power). -/
def Obj.SUPPLY_STATUS.EVENTS : Nat := 0x200809

/-- 0x2008:0A POWER_CYCLES (02_modes_power). -/
def Obj.SUPPLY_STATUS.POWER_CYCLES : Nat := 0x20080A

/-- 0x2008:0B OPERATING_SECONDS (02_modes_power). -/
def Obj.SUPPLY_STATUS.OPERATING_SECONDS : Nat := 0x20080B

/-- 0x2900:01 SEAL_CRC (03_object_dictionary). -/
def Obj.SAFETY_CFG.SEAL_CRC : Nat := 0x290001

/-- 0x2900:02 SEAL_STATE (03_object_dictionary). -/
def Obj.SAFETY_CFG.SEAL_STATE : Nat := 0x290002

/-- 0x2900:03 PENDING_CRC (03_object_dictionary). -/
def Obj.SAFETY_CFG.PENDING_CRC : Nat := 0x290003

/-- 0x2900:04 SEAL_DISCARD (03_object_dictionary). -/
def Obj.SAFETY_CFG.SEAL_DISCARD : Nat := 0x290004

/-- +0x30:01 SELECT (03_object_dictionary). -/
def Gal.CELL_WINDOW_SEL.SELECT (n : Nat) : Nat := galKey n 0x30 0x01

/-- +0x31:01 WINDOW (03_object_dictionary). -/
def Gal.CELL_WINDOW.WINDOW (n : Nat) : Nat := galKey n 0x31 0x01

/-- +0x3F:01 COMMAND (03_object_dictionary). -/
def Gal.BLOCK_CTRL.COMMAND (n : Nat) : Nat := galKey n 0x3F 0x01

/-- +0x3F:02 RESULT (03_object_dictionary). -/
def Gal.BLOCK_CTRL.RESULT (n : Nat) : Nat := galKey n 0x3F 0x02

/-- +0x0:01 ENABLE (04_flight_link). -/
def Gal.STRING_CFG.ENABLE (n : Nat) : Nat := galKey n 0x0 0x01

/-- +0x0:02 POSITION_COUNT (04_flight_link). -/
def Gal.STRING_CFG.POSITION_COUNT (n : Nat) : Nat := galKey n 0x0 0x02

/-- +0x0:03 NODE_COUNT (04_flight_link). -/
def Gal.STRING_CFG.NODE_COUNT (n : Nat) : Nat := galKey n 0x0 0x03

/-- +0x0:04 HEAD_TYPE (04_flight_link). -/
def Gal.STRING_CFG.HEAD_TYPE (n : Nat) : Nat := galKey n 0x0 0x04

/-- +0x0:05 HOLD_TIMEOUT (04_flight_link). -/
def Gal.STRING_CFG.HOLD_TIMEOUT (n : Nat) : Nat := galKey n 0x0 0x05

/-- +0x0:06 LOOP_RESTORE_MODE (04_flight_link). -/
def Gal.STRING_CFG.LOOP_RESTORE_MODE (n : Nat) : Nat := galKey n 0x0 0x06

/-- +0x0:07 RESTORE_NOW (04_flight_link). -/
def Gal.STRING_CFG.RESTORE_NOW (n : Nat) : Nat := galKey n 0x0 0x07

/-- +0x1:01 TRUNK_STATE (04_flight_link). -/
def Gal.FLIGHT_STATUS.TRUNK_STATE (n : Nat) : Nat := galKey n 0x1 0x01

/-- +0x1:02 LOOP_STATE (04_flight_link). -/
def Gal.FLIGHT_STATUS.LOOP_STATE (n : Nat) : Nat := galKey n 0x1 0x02

/-- +0x1:03 BREAK_AFTER (04_flight_link). -/
def Gal.FLIGHT_STATUS.BREAK_AFTER (n : Nat) : Nat := galKey n 0x1 0x03

/-- +0x1:04 NODES_SEEN (04_flight_link). -/
def Gal.FLIGHT_STATUS.NODES_SEEN (n : Nat) : Nat := galKey n 0x1 0x04

/-- +0x1:05 TOPOLOGY (04_flight_link). -/
def Gal.FLIGHT_STATUS.TOPOLOGY (n : Nat) : Nat := galKey n 0x1 0x05

/-- +0x1:06 HEAD_STATUS (04_flight_link). -/
def Gal.FLIGHT_STATUS.HEAD_STATUS (n : Nat) : Nat := galKey n 0x1 0x06

/-- +0x1:07 AUTH (04_flight_link). -/
def Gal.FLIGHT_STATUS.AUTH (n : Nat) : Nat := galKey n 0x1 0x07

/-- +0x1:08 TRUNK_DELAY (04_flight_link). -/
def Gal.FLIGHT_STATUS.TRUNK_DELAY (n : Nat) : Nat := galKey n 0x1 0x08

/-- +0x2:01 EXPECTED_1 and on (04_flight_link). -/
def Gal.FLIGHT_NODES.EXPECTED (n i : Nat) : Nat := galKey n 0x2 0x01 + (i - 1)

/-- +0x2:41 REPORTED_1 and on (04_flight_link). -/
def Gal.FLIGHT_NODES.REPORTED (n i : Nat) : Nat := galKey n 0x2 0x41 + (i - 1)

/-- +0x2:70 COMMISSION (04_flight_link). -/
def Gal.FLIGHT_NODES.COMMISSION (n : Nat) : Nat := galKey n 0x2 0x70

/-- +0x38:01 FLIGHT_FAULTS (04_flight_link). -/
def Gal.FAULTS.FLIGHT_FAULTS (n : Nat) : Nat := galKey n 0x38 0x01

/-- +0x3E:01 UP_BLOCK_CRC (04_flight_link). -/
def Gal.COUNTERS.UP_BLOCK_CRC (n : Nat) : Nat := galKey n 0x3E 0x01

/-- +0x3E:02 DOWN_BLOCK_CRC (04_flight_link). -/
def Gal.COUNTERS.DOWN_BLOCK_CRC (n : Nat) : Nat := galKey n 0x3E 0x02

/-- +0x3E:03 CODE_ERRORS (04_flight_link). -/
def Gal.COUNTERS.CODE_ERRORS (n : Nat) : Nat := galKey n 0x3E 0x03

/-- +0x3E:04 CMD_RETRIES (04_flight_link). -/
def Gal.COUNTERS.CMD_RETRIES (n : Nat) : Nat := galKey n 0x3E 0x04

/-- +0x3E:05 TRUNK_LOSSES (04_flight_link). -/
def Gal.COUNTERS.TRUNK_LOSSES (n : Nat) : Nat := galKey n 0x3E 0x05

/-- +0x3E:06 LOOP_BREAKS (04_flight_link). -/
def Gal.COUNTERS.LOOP_BREAKS (n : Nat) : Nat := galKey n 0x3E 0x06

/-- +0x4:01 SAMPLE_PHASE (05_flight_sampling). -/
def Gal.SAMPLE_SCHED.SAMPLE_PHASE (n : Nat) : Nat := galKey n 0x4 0x01

/-- +0x4:02 CARRIER_POINT (05_flight_sampling). -/
def Gal.SAMPLE_SCHED.CARRIER_POINT (n : Nat) : Nat := galKey n 0x4 0x02

/-- +0x4:03 SAMPLE_AT (05_flight_sampling). -/
def Gal.SAMPLE_SCHED.SAMPLE_AT (n : Nat) : Nat := galKey n 0x4 0x03

/-- +0x4:04 CARRIER_PHASE (05_flight_sampling). -/
def Gal.SAMPLE_SCHED.CARRIER_PHASE (n : Nat) : Nat := galKey n 0x4 0x04

/-- +0x4:05 ALIGN_STATE (05_flight_sampling). -/
def Gal.SAMPLE_SCHED.ALIGN_STATE (n : Nat) : Nat := galKey n 0x4 0x05

/-- +0x4:06 ALIGN_BOUND (05_flight_sampling). -/
def Gal.SAMPLE_SCHED.ALIGN_BOUND (n : Nat) : Nat := galKey n 0x4 0x06

/-- +0x4:07 CMP_DEBOUNCE (05_flight_sampling). -/
def Gal.SAMPLE_SCHED.CMP_DEBOUNCE (n : Nat) : Nat := galKey n 0x4 0x07

/-- +0x4:08 SYNC_NOW (05_flight_sampling). -/
def Gal.SAMPLE_SCHED.SYNC_NOW (n : Nat) : Nat := galKey n 0x4 0x08

/-- +0x6:01 MODE (05_flight_sampling). -/
def Gal.BALANCE_CFG.MODE (n : Nat) : Nat := galKey n 0x6 0x01

/-- +0x6:02 DELTA_START (05_flight_sampling). -/
def Gal.BALANCE_CFG.DELTA_START (n : Nat) : Nat := galKey n 0x6 0x02

/-- +0x6:03 DELTA_STOP (05_flight_sampling). -/
def Gal.BALANCE_CFG.DELTA_STOP (n : Nat) : Nat := galKey n 0x6 0x03

/-- +0x6:04 MAX_CLOSED (05_flight_sampling). -/
def Gal.BALANCE_CFG.MAX_CLOSED (n : Nat) : Nat := galKey n 0x6 0x04

/-- +0x6:05 NO_ADJACENT (05_flight_sampling). -/
def Gal.BALANCE_CFG.NO_ADJACENT (n : Nat) : Nat := galKey n 0x6 0x05

/-- +0x6:06 BAL_CURRENT (05_flight_sampling). -/
def Gal.BALANCE_CFG.BAL_CURRENT (n : Nat) : Nat := galKey n 0x6 0x06

/-- +0x6:07 LEAD_R (05_flight_sampling). -/
def Gal.BALANCE_CFG.LEAD_R (n : Nat) : Nat := galKey n 0x6 0x07

/-- +0x6:08 GUARD (05_flight_sampling). -/
def Gal.BALANCE_CFG.GUARD (n : Nat) : Nat := galKey n 0x6 0x08

/-- +0x6:09 MAX_TEMP (05_flight_sampling). -/
def Gal.BALANCE_CFG.MAX_TEMP (n : Nat) : Nat := galKey n 0x6 0x09

/-- +0x6:0A ACTIVE_COUNT (05_flight_sampling). -/
def Gal.BALANCE_CFG.ACTIVE_COUNT (n : Nat) : Nat := galKey n 0x6 0x0A

/-- +0x7:01 RUN (05_flight_sampling). -/
def Gal.BALANCE_TEST.RUN (n : Nat) : Nat := galKey n 0x7 0x01

/-- +0x7:02 INTERVAL (05_flight_sampling). -/
def Gal.BALANCE_TEST.INTERVAL (n : Nat) : Nat := galKey n 0x7 0x02

/-- +0x7:03 STATE (05_flight_sampling). -/
def Gal.BALANCE_TEST.STATE (n : Nat) : Nat := galKey n 0x7 0x03

/-- +0x7:04 NEXT (05_flight_sampling). -/
def Gal.BALANCE_TEST.NEXT (n : Nat) : Nat := galKey n 0x7 0x04

/-- +0x7:05 LAST_RESULT (05_flight_sampling). -/
def Gal.BALANCE_TEST.LAST_RESULT (n : Nat) : Nat := galKey n 0x7 0x05

/-- +0x7:06 FAULT_COUNT (05_flight_sampling). -/
def Gal.BALANCE_TEST.FAULT_COUNT (n : Nat) : Nat := galKey n 0x7 0x06

/-- +0x7:07 I_STEADY (05_flight_sampling). -/
def Gal.BALANCE_TEST.I_STEADY (n : Nat) : Nat := galKey n 0x7 0x07

/-- +0x7:08 LAST_DROP (05_flight_sampling). -/
def Gal.BALANCE_TEST.LAST_DROP (n : Nat) : Nat := galKey n 0x7 0x08

/-- +0x38:02 SAMPLE_FAULTS (05_flight_sampling). -/
def Gal.FAULTS.SAMPLE_FAULTS (n : Nat) : Nat := galKey n 0x38 0x02

/-- +0x3E:07 SWEEP_LATE (05_flight_sampling). -/
def Gal.COUNTERS.SWEEP_LATE (n : Nat) : Nat := galKey n 0x3E 0x07

/-- +0x3E:08 SWITCH_TESTS (05_flight_sampling). -/
def Gal.COUNTERS.SWITCH_TESTS (n : Nat) : Nat := galKey n 0x3E 0x08

/-- +0x3E:09 SYNC_RESETS (05_flight_sampling). -/
def Gal.COUNTERS.SYNC_RESETS (n : Nat) : Nat := galKey n 0x3E 0x09

/-- +0x3E:0A ALIGN_UPDATES (05_flight_sampling). -/
def Gal.COUNTERS.ALIGN_UPDATES (n : Nat) : Nat := galKey n 0x3E 0x0A

/-- 0x2A00:01 CHECK_INTERVAL (05_flight_sampling). -/
def Obj.WATCH_CFG.CHECK_INTERVAL : Nat := 0x2A0001

/-- 0x2A00:02 STRING_MASK (05_flight_sampling). -/
def Obj.WATCH_CFG.STRING_MASK : Nat := 0x2A0002

/-- 0x2A00:03 MONITOR_INTERVAL (05_flight_sampling). -/
def Obj.WATCH_CFG.MONITOR_INTERVAL : Nat := 0x2A0003

/-- 0x2A00:04 SLEEP_T_LIMIT (05_flight_sampling). -/
def Obj.WATCH_CFG.SLEEP_T_LIMIT : Nat := 0x2A0004

/-- 0x2A00:05 LAST_CHECK (05_flight_sampling). -/
def Obj.WATCH_CFG.LAST_CHECK : Nat := 0x2A0005

/-- 0x2A00:06 LAST_FAIL (05_flight_sampling). -/
def Obj.WATCH_CFG.LAST_FAIL : Nat := 0x2A0006

/-- 0x2A00:07 CHECKS (05_flight_sampling). -/
def Obj.WATCH_CFG.CHECKS : Nat := 0x2A0007

/-- +0x8:01 CONVERTER_ENABLE (06_converter_control). -/
def Gal.CONV_CFG.CONVERTER_ENABLE (n : Nat) : Nat := galKey n 0x8 0x01

/-- +0x8:02 PHASES_USED (06_converter_control). -/
def Gal.CONV_CFG.PHASES_USED (n : Nat) : Nat := galKey n 0x8 0x02

/-- +0x8:03 PERIOD (06_converter_control). -/
def Gal.CONV_CFG.PERIOD (n : Nat) : Nat := galKey n 0x8 0x03

/-- +0x8:04 PHASE_L (06_converter_control). -/
def Gal.CONV_CFG.PHASE_L (n : Nat) : Nat := galKey n 0x8 0x04

/-- +0x8:05 PHASE_I_MAX (06_converter_control). -/
def Gal.CONV_CFG.PHASE_I_MAX (n : Nat) : Nat := galKey n 0x8 0x05

/-- +0x8:06 I_ABS_MAX (06_converter_control). -/
def Gal.CONV_CFG.I_ABS_MAX (n : Nat) : Nat := galKey n 0x8 0x06

/-- +0x8:07 RAMP_RATE (06_converter_control). -/
def Gal.CONV_CFG.RAMP_RATE (n : Nat) : Nat := galKey n 0x8 0x07

/-- +0x8:08 REVERSE_DWELL (06_converter_control). -/
def Gal.CONV_CFG.REVERSE_DWELL (n : Nat) : Nat := galKey n 0x8 0x08

/-- +0x8:09 RESTART (06_converter_control). -/
def Gal.CONV_CFG.RESTART (n : Nat) : Nat := galKey n 0x8 0x09

/-- +0x8:0A MISMATCH_WARN (06_converter_control). -/
def Gal.CONV_CFG.MISMATCH_WARN (n : Nat) : Nat := galKey n 0x8 0x0A

/-- +0x8:0B HS_WARN (06_converter_control). -/
def Gal.CONV_CFG.HS_WARN (n : Nat) : Nat := galKey n 0x8 0x0B

/-- +0x8:0C HS_DERATE (06_converter_control). -/
def Gal.CONV_CFG.HS_DERATE (n : Nat) : Nat := galKey n 0x8 0x0C

/-- +0x8:0D HS_SHUT (06_converter_control). -/
def Gal.CONV_CFG.HS_SHUT (n : Nat) : Nat := galKey n 0x8 0x0D

/-- +0x8:0E HS_HYST (06_converter_control). -/
def Gal.CONV_CFG.HS_HYST (n : Nat) : Nat := galKey n 0x8 0x0E

/-- +0x9:01 SOURCE (06_converter_control). -/
def Gal.CONV_REFS.SOURCE (n : Nat) : Nat := galKey n 0x9 0x01

/-- +0x9:02 SETPOINT_MODE (06_converter_control). -/
def Gal.CONV_REFS.SETPOINT_MODE (n : Nat) : Nat := galKey n 0x9 0x02

/-- +0x9:03 I_SET (06_converter_control). -/
def Gal.CONV_REFS.I_SET (n : Nat) : Nat := galKey n 0x9 0x03

/-- +0x9:04 P_SET (06_converter_control). -/
def Gal.CONV_REFS.P_SET (n : Nat) : Nat := galKey n 0x9 0x04

/-- +0x9:05 REF and on (06_converter_control). -/
def Gal.CONV_REFS.REF (n i : Nat) : Nat := galKey n 0x9 0x05 + i

/-- +0x9:0D RIPPLE (06_converter_control). -/
def Gal.CONV_REFS.RIPPLE (n : Nat) : Nat := galKey n 0x9 0x0D

/-- +0x9:0E REF_SF (06_converter_control). -/
def Gal.CONV_REFS.REF_SF (n : Nat) : Nat := galKey n 0x9 0x0E

/-- +0xB:01 DCL (06_converter_control). -/
def Gal.LOOP_LIMITS.DCL (n : Nat) : Nat := galKey n 0xB 0x01

/-- +0xB:02 CCL (06_converter_control). -/
def Gal.LOOP_LIMITS.CCL (n : Nat) : Nat := galKey n 0xB 0x02

/-- +0xB:03 VMAX_TARGET (06_converter_control). -/
def Gal.LOOP_LIMITS.VMAX_TARGET (n : Nat) : Nat := galKey n 0xB 0x03

/-- +0xB:04 VMIN_TARGET (06_converter_control). -/
def Gal.LOOP_LIMITS.VMIN_TARGET (n : Nat) : Nat := galKey n 0xB 0x04

/-- +0xB:05 SOC_MAX (06_converter_control). -/
def Gal.LOOP_LIMITS.SOC_MAX (n : Nat) : Nat := galKey n 0xB 0x05

/-- +0xB:06 SOC_MIN (06_converter_control). -/
def Gal.LOOP_LIMITS.SOC_MIN (n : Nat) : Nat := galKey n 0xB 0x06

/-- +0xB:07 SOC_BAND (06_converter_control). -/
def Gal.LOOP_LIMITS.SOC_BAND (n : Nat) : Nat := galKey n 0xB 0x07

/-- +0xB:08 BUS_V_HIGH (06_converter_control). -/
def Gal.LOOP_LIMITS.BUS_V_HIGH (n : Nat) : Nat := galKey n 0xB 0x08

/-- +0xB:09 BUS_V_LOW (06_converter_control). -/
def Gal.LOOP_LIMITS.BUS_V_LOW (n : Nat) : Nat := galKey n 0xB 0x09

/-- +0xA:01 VMAX_KP (06_converter_control). -/
def Gal.LOOP_PARAMS.VMAX_KP (n : Nat) : Nat := galKey n 0xA 0x01

/-- +0xA:02 VMAX_KI (06_converter_control). -/
def Gal.LOOP_PARAMS.VMAX_KI (n : Nat) : Nat := galKey n 0xA 0x02

/-- +0xA:03 VMIN_KP (06_converter_control). -/
def Gal.LOOP_PARAMS.VMIN_KP (n : Nat) : Nat := galKey n 0xA 0x03

/-- +0xA:04 VMIN_KI (06_converter_control). -/
def Gal.LOOP_PARAMS.VMIN_KI (n : Nat) : Nat := galKey n 0xA 0x04

/-- +0xA:05 FOLD_KP (06_converter_control). -/
def Gal.LOOP_PARAMS.FOLD_KP (n : Nat) : Nat := galKey n 0xA 0x05

/-- +0xA:06 FOLD_KI (06_converter_control). -/
def Gal.LOOP_PARAMS.FOLD_KI (n : Nat) : Nat := galKey n 0xA 0x06

/-- +0xA:07 BUS_KP (06_converter_control). -/
def Gal.LOOP_PARAMS.BUS_KP (n : Nat) : Nat := galKey n 0xA 0x07

/-- +0xA:08 BUS_KI (06_converter_control). -/
def Gal.LOOP_PARAMS.BUS_KI (n : Nat) : Nat := galKey n 0xA 0x08

/-- +0xA:09 POWER_KP (06_converter_control). -/
def Gal.LOOP_PARAMS.POWER_KP (n : Nat) : Nat := galKey n 0xA 0x09

/-- +0xA:0A POWER_KI (06_converter_control). -/
def Gal.LOOP_PARAMS.POWER_KI (n : Nat) : Nat := galKey n 0xA 0x0A

/-- +0xA:0B CURRENT_KP (06_converter_control). -/
def Gal.LOOP_PARAMS.CURRENT_KP (n : Nat) : Nat := galKey n 0xA 0x0B

/-- +0xA:0C CURRENT_KI (06_converter_control). -/
def Gal.LOOP_PARAMS.CURRENT_KI (n : Nat) : Nat := galKey n 0xA 0x0C

/-- +0xA:0D R_DEFAULT (06_converter_control). -/
def Gal.LOOP_PARAMS.R_DEFAULT (n : Nat) : Nat := galKey n 0xA 0x0D

/-- +0xA:0E R_BUS (06_converter_control). -/
def Gal.LOOP_PARAMS.R_BUS (n : Nat) : Nat := galKey n 0xA 0x0E

/-- +0xE:01 DIS_KNEE (06_converter_control). -/
def Gal.FOLDBACK.DIS_KNEE (n : Nat) : Nat := galKey n 0xE 0x01

/-- +0xE:02 DIS_FLOOR (06_converter_control). -/
def Gal.FOLDBACK.DIS_FLOOR (n : Nat) : Nat := galKey n 0xE 0x02

/-- +0xE:03 CHG_KNEE (06_converter_control). -/
def Gal.FOLDBACK.CHG_KNEE (n : Nat) : Nat := galKey n 0xE 0x03

/-- +0xE:04 CHG_CEILING (06_converter_control). -/
def Gal.FOLDBACK.CHG_CEILING (n : Nat) : Nat := galKey n 0xE 0x04

/-- +0xE:05 I_AT_FLOOR (06_converter_control). -/
def Gal.FOLDBACK.I_AT_FLOOR (n : Nat) : Nat := galKey n 0xE 0x05

/-- +0xE:06 TRIP_TIME (06_converter_control). -/
def Gal.FOLDBACK.TRIP_TIME (n : Nat) : Nat := galKey n 0xE 0x06

/-- +0xE:07 L_FOLD (06_converter_control). -/
def Gal.FOLDBACK.L_FOLD (n : Nat) : Nat := galKey n 0xE 0x07

/-- +0xE:08 FOLDING (06_converter_control). -/
def Gal.FOLDBACK.FOLDING (n : Nat) : Nat := galKey n 0xE 0x08

/-- +0xC:01 STATE (06_converter_control). -/
def Gal.LOOP_STATUS.STATE (n : Nat) : Nat := galKey n 0xC 0x01

/-- +0xC:02 DIRECTION (06_converter_control). -/
def Gal.LOOP_STATUS.DIRECTION (n : Nat) : Nat := galKey n 0xC 0x02

/-- +0xC:03 WINNER (06_converter_control). -/
def Gal.LOOP_STATUS.WINNER (n : Nat) : Nat := galKey n 0xC 0x03

/-- +0xC:04 I_SEL (06_converter_control). -/
def Gal.LOOP_STATUS.I_SEL (n : Nat) : Nat := galKey n 0xC 0x04

/-- +0xC:05 SATURATED (06_converter_control). -/
def Gal.LOOP_STATUS.SATURATED (n : Nat) : Nat := galKey n 0xC 0x05

/-- +0xC:06 RESERVED (06_converter_control). -/
def Gal.LOOP_STATUS.RESERVED (n : Nat) : Nat := galKey n 0xC 0x06

/-- +0xC:07 CAND_1 and on (06_converter_control). -/
def Gal.LOOP_STATUS.CAND (n i : Nat) : Nat := galKey n 0xC 0x07 + (i - 1)

/-- +0xC:10 TRIP_CAUSE (06_converter_control). -/
def Gal.LOOP_STATUS.TRIP_CAUSE (n : Nat) : Nat := galKey n 0xC 0x10

/-- +0x10:01 I_SF (06_converter_control). -/
def Gal.TELEMETRY.I_SF (n : Nat) : Nat := galKey n 0x10 0x01

/-- +0x10:02 I_100MS (06_converter_control). -/
def Gal.TELEMETRY.I_100MS (n : Nat) : Nat := galKey n 0x10 0x02

/-- +0x10:03 I_1S (06_converter_control). -/
def Gal.TELEMETRY.I_1S (n : Nat) : Nat := galKey n 0x10 0x03

/-- +0x10:04 P_SF (06_converter_control). -/
def Gal.TELEMETRY.P_SF (n : Nat) : Nat := galKey n 0x10 0x04

/-- +0x10:05 P_100MS (06_converter_control). -/
def Gal.TELEMETRY.P_100MS (n : Nat) : Nat := galKey n 0x10 0x05

/-- +0x10:06 P_1S (06_converter_control). -/
def Gal.TELEMETRY.P_1S (n : Nat) : Nat := galKey n 0x10 0x06

/-- +0x10:07 BUS_V_SF (06_converter_control). -/
def Gal.TELEMETRY.BUS_V_SF (n : Nat) : Nat := galKey n 0x10 0x07

/-- +0x10:08 BUS_V_100MS (06_converter_control). -/
def Gal.TELEMETRY.BUS_V_100MS (n : Nat) : Nat := galKey n 0x10 0x08

/-- +0x10:09 BUS_V_1S (06_converter_control). -/
def Gal.TELEMETRY.BUS_V_1S (n : Nat) : Nat := galKey n 0x10 0x09

/-- +0x10:0A STRING_V_SF (06_converter_control). -/
def Gal.TELEMETRY.STRING_V_SF (n : Nat) : Nat := galKey n 0x10 0x0A

/-- +0x10:0B STRING_V_100MS (06_converter_control). -/
def Gal.TELEMETRY.STRING_V_100MS (n : Nat) : Nat := galKey n 0x10 0x0B

/-- +0x10:0C STRING_V_1S (06_converter_control). -/
def Gal.TELEMETRY.STRING_V_1S (n : Nat) : Nat := galKey n 0x10 0x0C

/-- +0x10:0D PEAK_I_DIS (06_converter_control). -/
def Gal.TELEMETRY.PEAK_I_DIS (n : Nat) : Nat := galKey n 0x10 0x0D

/-- +0x10:0E PEAK_I_CHG (06_converter_control). -/
def Gal.TELEMETRY.PEAK_I_CHG (n : Nat) : Nat := galKey n 0x10 0x0E

/-- +0x10:0F PEAK_BUS_V (06_converter_control). -/
def Gal.TELEMETRY.PEAK_BUS_V (n : Nat) : Nat := galKey n 0x10 0x0F

/-- +0x10:10 AGE_100MS (06_converter_control). -/
def Gal.TELEMETRY.AGE_100MS (n : Nat) : Nat := galKey n 0x10 0x10

/-- +0x10:11 AGE_1S (06_converter_control). -/
def Gal.TELEMETRY.AGE_1S (n : Nat) : Nat := galKey n 0x10 0x11

/-- +0x10:12 MISSING_1S (06_converter_control). -/
def Gal.TELEMETRY.MISSING_1S (n : Nat) : Nat := galKey n 0x10 0x12

/-- +0x11:01 PHASE_I and on (06_converter_control). -/
def Gal.PHASE_TELEM.PHASE_I (n i : Nat) : Nat := galKey n 0x11 0x01 + i

/-- +0x11:09 PHASE_PEAK and on (06_converter_control). -/
def Gal.PHASE_TELEM.PHASE_PEAK (n i : Nat) : Nat := galKey n 0x11 0x09 + i

/-- +0x11:11 MISMATCH (06_converter_control). -/
def Gal.PHASE_TELEM.MISMATCH (n : Nat) : Nat := galKey n 0x11 0x11

/-- +0x11:12 WORST_PHASE (06_converter_control). -/
def Gal.PHASE_TELEM.WORST_PHASE (n : Nat) : Nat := galKey n 0x11 0x12

/-- +0x38:03 CONV_FAULTS (06_converter_control). -/
def Gal.FAULTS.CONV_FAULTS (n : Nat) : Nat := galKey n 0x38 0x03

/-- +0x3E:0B HANDOVERS (06_converter_control). -/
def Gal.COUNTERS.HANDOVERS (n : Nat) : Nat := galKey n 0x3E 0x0B

/-- +0x3E:0C REVERSALS (06_converter_control). -/
def Gal.COUNTERS.REVERSALS (n : Nat) : Nat := galKey n 0x3E 0x0C

/-- +0x3E:0D STALE_STEPS (06_converter_control). -/
def Gal.COUNTERS.STALE_STEPS (n : Nat) : Nat := galKey n 0x3E 0x0D

/-- +0x3E:0E HOLDS (06_converter_control). -/
def Gal.COUNTERS.HOLDS (n : Nat) : Nat := galKey n 0x3E 0x0E

/-- +0x3E:0F TRIPS (06_converter_control). -/
def Gal.COUNTERS.TRIPS (n : Nat) : Nat := galKey n 0x3E 0x0F

/-- +0x3E:10 TREAD_PARITY_ERRORS (06_converter_control). -/
def Gal.COUNTERS.TREAD_PARITY_ERRORS (n : Nat) : Nat := galKey n 0x3E 0x10

/-- +0x14:01 ENABLE (07_spectroscopy). -/
def Gal.EXCITATION_CFG.ENABLE (n : Nat) : Nat := galKey n 0x14 0x01

/-- +0x14:02 M (07_spectroscopy). -/
def Gal.EXCITATION_CFG.M (n : Nat) : Nat := galKey n 0x14 0x02

/-- +0x14:03 TONE_COUNT (07_spectroscopy). -/
def Gal.EXCITATION_CFG.TONE_COUNT (n : Nat) : Nat := galKey n 0x14 0x03

/-- +0x14:04 AMPLITUDE (07_spectroscopy). -/
def Gal.EXCITATION_CFG.AMPLITUDE (n : Nat) : Nat := galKey n 0x14 0x04

/-- +0x14:05 INVERT (07_spectroscopy). -/
def Gal.EXCITATION_CFG.INVERT (n : Nat) : Nat := galKey n 0x14 0x05

/-- +0x14:06 CORE_TONE (07_spectroscopy). -/
def Gal.EXCITATION_CFG.CORE_TONE (n : Nat) : Nat := galKey n 0x14 0x06

/-- +0x14:07 PLATE_TONE_LO (07_spectroscopy). -/
def Gal.EXCITATION_CFG.PLATE_TONE_LO (n : Nat) : Nat := galKey n 0x14 0x07

/-- +0x14:08 PLATE_TONE_HI (07_spectroscopy). -/
def Gal.EXCITATION_CFG.PLATE_TONE_HI (n : Nat) : Nat := galKey n 0x14 0x08

/-- +0x14:09 APPLY (07_spectroscopy). -/
def Gal.EXCITATION_CFG.APPLY (n : Nat) : Nat := galKey n 0x14 0x09

/-- +0x14:0A CFG_ERROR (07_spectroscopy). -/
def Gal.EXCITATION_CFG.CFG_ERROR (n : Nat) : Nat := galKey n 0x14 0x0A

/-- +0x14:0B QUALITY_TOL (07_spectroscopy). -/
def Gal.EXCITATION_CFG.QUALITY_TOL (n : Nat) : Nat := galKey n 0x14 0x0B

/-- +0x14:0C Q_MIN (07_spectroscopy). -/
def Gal.EXCITATION_CFG.Q_MIN (n : Nat) : Nat := galKey n 0x14 0x0C

/-- +0x14:0D I_DRIFT (07_spectroscopy). -/
def Gal.EXCITATION_CFG.I_DRIFT (n : Nat) : Nat := galKey n 0x14 0x0D

/-- +0x14:0E CAL_FREQ (07_spectroscopy). -/
def Gal.EXCITATION_CFG.CAL_FREQ (n : Nat) : Nat := galKey n 0x14 0x0E

/-- +0x14:0F CAL_POINTS (07_spectroscopy). -/
def Gal.EXCITATION_CFG.CAL_POINTS (n : Nat) : Nat := galKey n 0x14 0x0F

/-- +0x14:10 K_SOC (07_spectroscopy). -/
def Gal.EXCITATION_CFG.K_SOC (n : Nat) : Nat := galKey n 0x14 0x10

/-- +0x14:11 PLATE_DROP (07_spectroscopy). -/
def Gal.EXCITATION_CFG.PLATE_DROP (n : Nat) : Nat := galKey n 0x14 0x11

/-- +0x14:12 PLATE_WINDOWS (07_spectroscopy). -/
def Gal.EXCITATION_CFG.PLATE_WINDOWS (n : Nat) : Nat := galKey n 0x14 0x12

/-- +0x14:13 PLATE_T_BAND (07_spectroscopy). -/
def Gal.EXCITATION_CFG.PLATE_T_BAND (n : Nat) : Nat := galKey n 0x14 0x13

/-- +0x14:14 PLATING_CLEAR (07_spectroscopy). -/
def Gal.EXCITATION_CFG.PLATING_CLEAR (n : Nat) : Nat := galKey n 0x14 0x14

/-- +0x14:15 ARCHIVE_INTERVAL (07_spectroscopy). -/
def Gal.EXCITATION_CFG.ARCHIVE_INTERVAL (n : Nat) : Nat := galKey n 0x14 0x15

/-- +0x14:16 ARCHIVE_NOW (07_spectroscopy). -/
def Gal.EXCITATION_CFG.ARCHIVE_NOW (n : Nat) : Nat := galKey n 0x14 0x16

/-- +0x14:21 TONE_1 and on (07_spectroscopy). -/
def Gal.EXCITATION_CFG.TONE (n i : Nat) : Nat := galKey n 0x14 0x21 + (i - 1)

/-- +0x14:41 CAL_THETA_1 and on (07_spectroscopy). -/
def Gal.EXCITATION_CFG.CAL_THETA (n i : Nat) : Nat := galKey n 0x14 0x41 + (i - 1)

/-- +0x14:51 CAL_T_1 and on (07_spectroscopy). -/
def Gal.EXCITATION_CFG.CAL_T (n i : Nat) : Nat := galKey n 0x14 0x51 + (i - 1)

/-- +0x15:01 STATE (07_spectroscopy). -/
def Gal.SPECTRUM_STATUS.STATE (n : Nat) : Nat := galKey n 0x15 0x01

/-- +0x15:02 M_APPLIED (07_spectroscopy). -/
def Gal.SPECTRUM_STATUS.M_APPLIED (n : Nat) : Nat := galKey n 0x15 0x02

/-- +0x15:03 TONES_APPLIED (07_spectroscopy). -/
def Gal.SPECTRUM_STATUS.TONES_APPLIED (n : Nat) : Nat := galKey n 0x15 0x03

/-- +0x15:04 A_APPLIED (07_spectroscopy). -/
def Gal.SPECTRUM_STATUS.A_APPLIED (n : Nat) : Nat := galKey n 0x15 0x04

/-- +0x15:05 CREST (07_spectroscopy). -/
def Gal.SPECTRUM_STATUS.CREST (n : Nat) : Nat := galKey n 0x15 0x05

/-- +0x15:06 BASE_FREQ (07_spectroscopy). -/
def Gal.SPECTRUM_STATUS.BASE_FREQ (n : Nat) : Nat := galKey n 0x15 0x06

/-- +0x15:07 APPLY_STATE (07_spectroscopy). -/
def Gal.SPECTRUM_STATUS.APPLY_STATE (n : Nat) : Nat := galKey n 0x15 0x07

/-- +0x15:08 LAST_WINDOW_TICK (07_spectroscopy). -/
def Gal.SPECTRUM_STATUS.LAST_WINDOW_TICK (n : Nat) : Nat := galKey n 0x15 0x08

/-- +0x15:09 LAST_RESULT (07_spectroscopy). -/
def Gal.SPECTRUM_STATUS.LAST_RESULT (n : Nat) : Nat := galKey n 0x15 0x09

/-- +0x15:0A LAST_REASON (07_spectroscopy). -/
def Gal.SPECTRUM_STATUS.LAST_REASON (n : Nat) : Nat := galKey n 0x15 0x0A

/-- +0x15:0B POSITIONS_ACCEPTED (07_spectroscopy). -/
def Gal.SPECTRUM_STATUS.POSITIONS_ACCEPTED (n : Nat) : Nat := galKey n 0x15 0x0B

/-- +0x15:0C MIN_I_RATIO (07_spectroscopy). -/
def Gal.SPECTRUM_STATUS.MIN_I_RATIO (n : Nat) : Nat := galKey n 0x15 0x0C

/-- +0x15:0D PENDING_INDEX (07_spectroscopy). -/
def Gal.SPECTRUM_STATUS.PENDING_INDEX (n : Nat) : Nat := galKey n 0x15 0x0D

/-- +0x15:0E RESIDUAL_CHARGE (07_spectroscopy). -/
def Gal.SPECTRUM_STATUS.RESIDUAL_CHARGE (n : Nat) : Nat := galKey n 0x15 0x0E

/-- +0x15:0F PLATING_CELLS (07_spectroscopy). -/
def Gal.SPECTRUM_STATUS.PLATING_CELLS (n : Nat) : Nat := galKey n 0x15 0x0F

/-- +0x15:10 ARCHIVE_SEL (07_spectroscopy). -/
def Gal.SPECTRUM_STATUS.ARCHIVE_SEL (n : Nat) : Nat := galKey n 0x15 0x10

/-- +0x15:11 ARCHIVE_READ (07_spectroscopy). -/
def Gal.SPECTRUM_STATUS.ARCHIVE_READ (n : Nat) : Nat := galKey n 0x15 0x11

/-- +0x15:12 ARCHIVE_FIRST (07_spectroscopy). -/
def Gal.SPECTRUM_STATUS.ARCHIVE_FIRST (n : Nat) : Nat := galKey n 0x15 0x12

/-- +0x15:13 ARCHIVE_LAST (07_spectroscopy). -/
def Gal.SPECTRUM_STATUS.ARCHIVE_LAST (n : Nat) : Nat := galKey n 0x15 0x13

/-- +0x38:04 SPECTRUM_FAULTS (07_spectroscopy). -/
def Gal.FAULTS.SPECTRUM_FAULTS (n : Nat) : Nat := galKey n 0x38 0x04

/-- +0x3E:11 WINDOWS_ACCEPTED (07_spectroscopy). -/
def Gal.COUNTERS.WINDOWS_ACCEPTED (n : Nat) : Nat := galKey n 0x3E 0x11

/-- +0x3E:12 WINDOWS_DISCARDED (07_spectroscopy). -/
def Gal.COUNTERS.WINDOWS_DISCARDED (n : Nat) : Nat := galKey n 0x3E 0x12

/-- +0x3E:13 WINDOWS_SUSPENDED (07_spectroscopy). -/
def Gal.COUNTERS.WINDOWS_SUSPENDED (n : Nat) : Nat := galKey n 0x3E 0x13

/-- +0x3E:14 PAUSES (07_spectroscopy). -/
def Gal.COUNTERS.PAUSES (n : Nat) : Nat := galKey n 0x3E 0x14

/-- +0x3E:15 ARCHIVE_RECORDS (07_spectroscopy). -/
def Gal.COUNTERS.ARCHIVE_RECORDS (n : Nat) : Nat := galKey n 0x3E 0x15

/-- +0x18:01 RATED_CAPACITY (08_state_estimation). -/
def Gal.ESTIM_CFG.RATED_CAPACITY (n : Nat) : Nat := galKey n 0x18 0x01

/-- +0x18:02 MODEL_SET (08_state_estimation). -/
def Gal.ESTIM_CFG.MODEL_SET (n : Nat) : Nat := galKey n 0x18 0x02

/-- +0x18:03 MODEL_CRC (08_state_estimation). -/
def Gal.ESTIM_CFG.MODEL_CRC (n : Nat) : Nat := galKey n 0x18 0x03

/-- +0x18:04 REST_I (08_state_estimation). -/
def Gal.ESTIM_CFG.REST_I (n : Nat) : Nat := galKey n 0x18 0x04

/-- +0x18:05 REST_TIME (08_state_estimation). -/
def Gal.ESTIM_CFG.REST_TIME (n : Nat) : Nat := galKey n 0x18 0x05

/-- +0x18:06 FULL_V (08_state_estimation). -/
def Gal.ESTIM_CFG.FULL_V (n : Nat) : Nat := galKey n 0x18 0x06

/-- +0x18:07 FULL_I (08_state_estimation). -/
def Gal.ESTIM_CFG.FULL_I (n : Nat) : Nat := galKey n 0x18 0x07

/-- +0x18:08 FULL_TIME (08_state_estimation). -/
def Gal.ESTIM_CFG.FULL_TIME (n : Nat) : Nat := galKey n 0x18 0x08

/-- +0x18:09 EMPTY_OCV (08_state_estimation). -/
def Gal.ESTIM_CFG.EMPTY_OCV (n : Nat) : Nat := galKey n 0x18 0x09

/-- +0x18:0A VOLT_SIGMA_REST (08_state_estimation). -/
def Gal.ESTIM_CFG.VOLT_SIGMA_REST (n : Nat) : Nat := galKey n 0x18 0x0A

/-- +0x18:0B VOLT_SIGMA_LOAD (08_state_estimation). -/
def Gal.ESTIM_CFG.VOLT_SIGMA_LOAD (n : Nat) : Nat := galKey n 0x18 0x0B

/-- +0x18:0C COUNT_SIGMA (08_state_estimation). -/
def Gal.ESTIM_CFG.COUNT_SIGMA (n : Nat) : Nat := galKey n 0x18 0x0C

/-- +0x18:0D SELF_DIS_SIGMA (08_state_estimation). -/
def Gal.ESTIM_CFG.SELF_DIS_SIGMA (n : Nat) : Nat := galKey n 0x18 0x0D

/-- +0x18:0E RELAX_BAND (08_state_estimation). -/
def Gal.ESTIM_CFG.RELAX_BAND (n : Nat) : Nat := galKey n 0x18 0x0E

/-- +0x18:0F CERTAIN_WIDTH (08_state_estimation). -/
def Gal.ESTIM_CFG.CERTAIN_WIDTH (n : Nat) : Nat := galKey n 0x18 0x0F

/-- +0x18:10 UNCERTAIN_DERATE (08_state_estimation). -/
def Gal.ESTIM_CFG.UNCERTAIN_DERATE (n : Nat) : Nat := galKey n 0x18 0x10

/-- +0x18:11 POISON_MARGIN (08_state_estimation). -/
def Gal.ESTIM_CFG.POISON_MARGIN (n : Nat) : Nat := galKey n 0x18 0x11

/-- +0x18:12 STATE_MAX_AGE (08_state_estimation). -/
def Gal.ESTIM_CFG.STATE_MAX_AGE (n : Nat) : Nat := galKey n 0x18 0x12

/-- +0x18:13 SAVE_INTERVAL (08_state_estimation). -/
def Gal.ESTIM_CFG.SAVE_INTERVAL (n : Nat) : Nat := galKey n 0x18 0x13

/-- +0x18:14 OHM_BOL (08_state_estimation). -/
def Gal.ESTIM_CFG.OHM_BOL (n : Nat) : Nat := galKey n 0x18 0x14

/-- +0x18:15 OHM_DI_MIN (08_state_estimation). -/
def Gal.ESTIM_CFG.OHM_DI_MIN (n : Nat) : Nat := galKey n 0x18 0x15

/-- +0x18:16 SUSTAIN_RATIO (08_state_estimation). -/
def Gal.ESTIM_CFG.SUSTAIN_RATIO (n : Nat) : Nat := galKey n 0x18 0x16

/-- +0x18:17 AGE_LIMIT (08_state_estimation). -/
def Gal.ESTIM_CFG.AGE_LIMIT (n : Nat) : Nat := galKey n 0x18 0x17

/-- +0x1A:01 LEARN_ENABLE (08_state_estimation). -/
def Gal.CAPACITY_LEARN.LEARN_ENABLE (n : Nat) : Nat := galKey n 0x1A 0x01

/-- +0x1A:02 LEARN_GAIN (08_state_estimation). -/
def Gal.CAPACITY_LEARN.LEARN_GAIN (n : Nat) : Nat := galKey n 0x1A 0x02

/-- +0x1A:03 LEARN_MAX_STEP (08_state_estimation). -/
def Gal.CAPACITY_LEARN.LEARN_MAX_STEP (n : Nat) : Nat := galKey n 0x1A 0x03

/-- +0x1A:04 LEARN_MAX_TIME (08_state_estimation). -/
def Gal.CAPACITY_LEARN.LEARN_MAX_TIME (n : Nat) : Nat := galKey n 0x1A 0x04

/-- +0x1A:05 LEARN_MIN_DEPTH (08_state_estimation). -/
def Gal.CAPACITY_LEARN.LEARN_MIN_DEPTH (n : Nat) : Nat := galKey n 0x1A 0x05

/-- +0x1A:06 LEARN_T_MIN (08_state_estimation). -/
def Gal.CAPACITY_LEARN.LEARN_T_MIN (n : Nat) : Nat := galKey n 0x1A 0x06

/-- +0x1A:07 LEARN_T_MAX (08_state_estimation). -/
def Gal.CAPACITY_LEARN.LEARN_T_MAX (n : Nat) : Nat := galKey n 0x1A 0x07

/-- +0x1A:08 ACTIVE (08_state_estimation). -/
def Gal.CAPACITY_LEARN.ACTIVE (n : Nat) : Nat := galKey n 0x1A 0x08

/-- +0x1A:09 LAST_POSITION (08_state_estimation). -/
def Gal.CAPACITY_LEARN.LAST_POSITION (n : Nat) : Nat := galKey n 0x1A 0x09

/-- +0x1A:0A LAST_RESULT (08_state_estimation). -/
def Gal.CAPACITY_LEARN.LAST_RESULT (n : Nat) : Nat := galKey n 0x1A 0x0A

/-- +0x1A:0B LAST_C_NEW (08_state_estimation). -/
def Gal.CAPACITY_LEARN.LAST_C_NEW (n : Nat) : Nat := galKey n 0x1A 0x0B

/-- +0x1A:0C REPLACED (08_state_estimation). -/
def Gal.CAPACITY_LEARN.REPLACED (n : Nat) : Nat := galKey n 0x1A 0x0C

/-- +0x19:01 SOC_STRING (08_state_estimation). -/
def Gal.ESTIM_STRING.SOC_STRING (n : Nat) : Nat := galKey n 0x19 0x01

/-- +0x19:02 SOC_MEAN (08_state_estimation). -/
def Gal.ESTIM_STRING.SOC_MEAN (n : Nat) : Nat := galKey n 0x19 0x02

/-- +0x19:03 SOC_MIN (08_state_estimation). -/
def Gal.ESTIM_STRING.SOC_MIN (n : Nat) : Nat := galKey n 0x19 0x03

/-- +0x19:04 SOC_MIN_POS (08_state_estimation). -/
def Gal.ESTIM_STRING.SOC_MIN_POS (n : Nat) : Nat := galKey n 0x19 0x04

/-- +0x19:05 SOC_MAX (08_state_estimation). -/
def Gal.ESTIM_STRING.SOC_MAX (n : Nat) : Nat := galKey n 0x19 0x05

/-- +0x19:06 SOC_MAX_POS (08_state_estimation). -/
def Gal.ESTIM_STRING.SOC_MAX_POS (n : Nat) : Nat := galKey n 0x19 0x06

/-- +0x19:07 CAPACITY_MIN (08_state_estimation). -/
def Gal.ESTIM_STRING.CAPACITY_MIN (n : Nat) : Nat := galKey n 0x19 0x07

/-- +0x19:08 E_DIS (08_state_estimation). -/
def Gal.ESTIM_STRING.E_DIS (n : Nat) : Nat := galKey n 0x19 0x08

/-- +0x19:09 E_CHG (08_state_estimation). -/
def Gal.ESTIM_STRING.E_CHG (n : Nat) : Nat := galKey n 0x19 0x09

/-- +0x19:0A I_DIS_CAP (08_state_estimation). -/
def Gal.ESTIM_STRING.I_DIS_CAP (n : Nat) : Nat := galKey n 0x19 0x0A

/-- +0x19:0B I_CHG_CAP (08_state_estimation). -/
def Gal.ESTIM_STRING.I_CHG_CAP (n : Nat) : Nat := galKey n 0x19 0x0B

/-- +0x19:0C P_DIS_CAP (08_state_estimation). -/
def Gal.ESTIM_STRING.P_DIS_CAP (n : Nat) : Nat := galKey n 0x19 0x0C

/-- +0x19:0D P_CHG_CAP (08_state_estimation). -/
def Gal.ESTIM_STRING.P_CHG_CAP (n : Nat) : Nat := galKey n 0x19 0x0D

/-- +0x19:0E SOH_C (08_state_estimation). -/
def Gal.ESTIM_STRING.SOH_C (n : Nat) : Nat := galKey n 0x19 0x0E

/-- +0x19:0F SOH_R (08_state_estimation). -/
def Gal.ESTIM_STRING.SOH_R (n : Nat) : Nat := galKey n 0x19 0x0F

/-- +0x19:10 R_STRING (08_state_estimation). -/
def Gal.ESTIM_STRING.R_STRING (n : Nat) : Nat := galKey n 0x19 0x10

/-- +0x19:11 UNCERTAIN_COUNT (08_state_estimation). -/
def Gal.ESTIM_STRING.UNCERTAIN_COUNT (n : Nat) : Nat := galKey n 0x19 0x11

/-- +0x19:12 INVALID_COUNT (08_state_estimation). -/
def Gal.ESTIM_STRING.INVALID_COUNT (n : Nat) : Nat := galKey n 0x19 0x12

/-- +0x19:13 REST_ELAPSED (08_state_estimation). -/
def Gal.ESTIM_STRING.REST_ELAPSED (n : Nat) : Nat := galKey n 0x19 0x13

/-- +0x19:14 MODEL_AGE (08_state_estimation). -/
def Gal.ESTIM_STRING.MODEL_AGE (n : Nat) : Nat := galKey n 0x19 0x14

/-- +0x19:15 MODEL_RATE (08_state_estimation). -/
def Gal.ESTIM_STRING.MODEL_RATE (n : Nat) : Nat := galKey n 0x19 0x15

/-- +0x19:16 AGGREGATE_AGE (08_state_estimation). -/
def Gal.ESTIM_STRING.AGGREGATE_AGE (n : Nat) : Nat := galKey n 0x19 0x16

/-- +0x19:17 LAST_SAVE (08_state_estimation). -/
def Gal.ESTIM_STRING.LAST_SAVE (n : Nat) : Nat := galKey n 0x19 0x17

/-- +0x38:05 ESTIM_FAULTS (08_state_estimation). -/
def Gal.FAULTS.ESTIM_FAULTS (n : Nat) : Nat := galKey n 0x38 0x05

/-- +0x3E:16 OCV_CORRECTIONS (08_state_estimation). -/
def Gal.COUNTERS.OCV_CORRECTIONS (n : Nat) : Nat := galKey n 0x3E 0x16

/-- +0x3E:17 FULL_ANCHORS (08_state_estimation). -/
def Gal.COUNTERS.FULL_ANCHORS (n : Nat) : Nat := galKey n 0x3E 0x17

/-- +0x3E:18 EMPTY_ANCHORS (08_state_estimation). -/
def Gal.COUNTERS.EMPTY_ANCHORS (n : Nat) : Nat := galKey n 0x3E 0x18

/-- +0x3E:19 LEARNS_ACCEPTED (08_state_estimation). -/
def Gal.COUNTERS.LEARNS_ACCEPTED (n : Nat) : Nat := galKey n 0x3E 0x19

/-- +0x3E:1A LEARNS_REJECTED (08_state_estimation). -/
def Gal.COUNTERS.LEARNS_REJECTED (n : Nat) : Nat := galKey n 0x3E 0x1A

/-- +0x3E:1B COUNT_GAPS (08_state_estimation). -/
def Gal.COUNTERS.COUNT_GAPS (n : Nat) : Nat := galKey n 0x3E 0x1B

/-- +0x3E:1C STATE_SAVES (08_state_estimation). -/
def Gal.COUNTERS.STATE_SAVES (n : Nat) : Nat := galKey n 0x3E 0x1C

/-- +0x3E:1D FIRST_USES (08_state_estimation). -/
def Gal.COUNTERS.FIRST_USES (n : Nat) : Nat := galKey n 0x3E 0x1D

/-- +0x1C:01 SWEEP_INTERVAL (09_thermal). -/
def Gal.THERMAL_CFG.SWEEP_INTERVAL (n : Nat) : Nat := galKey n 0x1C 0x01

/-- +0x1C:02 RISE_WARN_10S (09_thermal). -/
def Gal.THERMAL_CFG.RISE_WARN_10S (n : Nat) : Nat := galKey n 0x1C 0x02

/-- +0x1C:03 RISE_ALARM_10S (09_thermal). -/
def Gal.THERMAL_CFG.RISE_ALARM_10S (n : Nat) : Nat := galKey n 0x1C 0x03

/-- +0x1C:04 RISE_WARN_60S (09_thermal). -/
def Gal.THERMAL_CFG.RISE_WARN_60S (n : Nat) : Nat := galKey n 0x1C 0x04

/-- +0x1C:05 RISE_ALARM_60S (09_thermal). -/
def Gal.THERMAL_CFG.RISE_ALARM_60S (n : Nat) : Nat := galKey n 0x1C 0x05

/-- +0x1C:06 RISE_STOP_TIME (09_thermal). -/
def Gal.THERMAL_CFG.RISE_STOP_TIME (n : Nat) : Nat := galKey n 0x1C 0x06

/-- +0x1C:07 NEIGHBOUR_MARGIN (09_thermal). -/
def Gal.THERMAL_CFG.NEIGHBOUR_MARGIN (n : Nat) : Nat := galKey n 0x1C 0x07

/-- +0x1C:08 SUSPECT_BAND (09_thermal). -/
def Gal.THERMAL_CFG.SUSPECT_BAND (n : Nat) : Nat := galKey n 0x1C 0x08

/-- +0x1C:09 CORE_MAX_AGE (09_thermal). -/
def Gal.THERMAL_CFG.CORE_MAX_AGE (n : Nat) : Nat := galKey n 0x1C 0x09

/-- +0x1C:0A CORE_GAP_WARN (09_thermal). -/
def Gal.THERMAL_CFG.CORE_GAP_WARN (n : Nat) : Nat := galKey n 0x1C 0x0A

/-- +0x1D:01 STATE (09_thermal). -/
def Gal.THERMAL_STATUS.STATE (n : Nat) : Nat := galKey n 0x1D 0x01

/-- +0x1D:02 T_MAX (09_thermal). -/
def Gal.THERMAL_STATUS.T_MAX (n : Nat) : Nat := galKey n 0x1D 0x02

/-- +0x1D:03 T_MAX_POS (09_thermal). -/
def Gal.THERMAL_STATUS.T_MAX_POS (n : Nat) : Nat := galKey n 0x1D 0x03

/-- +0x1D:04 T_MIN (09_thermal). -/
def Gal.THERMAL_STATUS.T_MIN (n : Nat) : Nat := galKey n 0x1D 0x04

/-- +0x1D:05 RISE_10S (09_thermal). -/
def Gal.THERMAL_STATUS.RISE_10S (n : Nat) : Nat := galKey n 0x1D 0x05

/-- +0x1D:06 RISE_60S (09_thermal). -/
def Gal.THERMAL_STATUS.RISE_60S (n : Nat) : Nat := galKey n 0x1D 0x06

/-- +0x1D:07 RISE_POS (09_thermal). -/
def Gal.THERMAL_STATUS.RISE_POS (n : Nat) : Nat := galKey n 0x1D 0x07

/-- +0x1D:08 THROTTLE_I (09_thermal). -/
def Gal.THERMAL_STATUS.THROTTLE_I (n : Nat) : Nat := galKey n 0x1D 0x08

/-- +0x1D:09 INTERVAL_NOW (09_thermal). -/
def Gal.THERMAL_STATUS.INTERVAL_NOW (n : Nat) : Nat := galKey n 0x1D 0x09

/-- +0x1D:0A SUBSTITUTES (09_thermal). -/
def Gal.THERMAL_STATUS.SUBSTITUTES (n : Nat) : Nat := galKey n 0x1D 0x0A

/-- +0x1D:0B LAST_SWEEP (09_thermal). -/
def Gal.THERMAL_STATUS.LAST_SWEEP (n : Nat) : Nat := galKey n 0x1D 0x0B

/-- +0x1D:0C STOP_CAUSE (09_thermal). -/
def Gal.THERMAL_STATUS.STOP_CAUSE (n : Nat) : Nat := galKey n 0x1D 0x0C

/-- +0x38:06 THERMAL_FAULTS (09_thermal). -/
def Gal.FAULTS.THERMAL_FAULTS (n : Nat) : Nat := galKey n 0x38 0x06

/-- +0x3E:1E SWEEPS (09_thermal). -/
def Gal.COUNTERS.SWEEPS (n : Nat) : Nat := galKey n 0x3E 0x1E

/-- +0x3E:1F RISE_ALARMS (09_thermal). -/
def Gal.COUNTERS.RISE_ALARMS (n : Nat) : Nat := galKey n 0x3E 0x1F

/-- +0x3E:20 THERMAL_STOPS (09_thermal). -/
def Gal.COUNTERS.THERMAL_STOPS (n : Nat) : Nat := galKey n 0x3E 0x20

/-- 0x2801:01 WARN (09_thermal). -/
def Obj.THERMAL_COMPAT.WARN : Nat := 0x280101

/-- 0x2801:02 THROTTLE (09_thermal). -/
def Obj.THERMAL_COMPAT.THROTTLE : Nat := 0x280102

/-- 0x2801:03 SHUTDOWN (09_thermal). -/
def Obj.THERMAL_COMPAT.SHUTDOWN : Nat := 0x280103

/-- 0x2801:04 HYST (09_thermal). -/
def Obj.THERMAL_COMPAT.HYST : Nat := 0x280104

/-- 0x2800:01 DIE_T_C0 (09_thermal). -/
def Obj.MODULE_THERMAL.DIE_T_C0 : Nat := 0x280001

/-- 0x2800:02 DIE_T_C1 (09_thermal). -/
def Obj.MODULE_THERMAL.DIE_T_C1 : Nat := 0x280002

/-- 0x2800:03 DIE_T_IO (09_thermal). -/
def Obj.MODULE_THERMAL.DIE_T_IO : Nat := 0x280003

/-- 0x2800:04 DIE_T_NAND (09_thermal). -/
def Obj.MODULE_THERMAL.DIE_T_NAND : Nat := 0x280004

/-- 0x2800:05 DIE_WARN (09_thermal). -/
def Obj.MODULE_THERMAL.DIE_WARN : Nat := 0x280005

/-- 0x2800:06 DIE_THROTTLE (09_thermal). -/
def Obj.MODULE_THERMAL.DIE_THROTTLE : Nat := 0x280006

/-- 0x2800:07 DIE_SHUT (09_thermal). -/
def Obj.MODULE_THERMAL.DIE_SHUT : Nat := 0x280007

/-- 0x2800:08 DIE_HYST (09_thermal). -/
def Obj.MODULE_THERMAL.DIE_HYST : Nat := 0x280008

/-- 0x2800:09 RATE_FLOOR (09_thermal). -/
def Obj.MODULE_THERMAL.RATE_FLOOR : Nat := 0x280009

/-- 0x2800:0A RATE_DIE0 (09_thermal). -/
def Obj.MODULE_THERMAL.RATE_DIE0 : Nat := 0x28000A

/-- 0x2800:0B RATE_DIE1 (09_thermal). -/
def Obj.MODULE_THERMAL.RATE_DIE1 : Nat := 0x28000B

/-- 0x2800:0C ROOM_CHANNEL (09_thermal). -/
def Obj.MODULE_THERMAL.ROOM_CHANNEL : Nat := 0x28000C

/-- 0x2800:0D ROOM_WARN (09_thermal). -/
def Obj.MODULE_THERMAL.ROOM_WARN : Nat := 0x28000D

/-- 0x2800:0E ROOM_T (09_thermal). -/
def Obj.MODULE_THERMAL.ROOM_T : Nat := 0x28000E

/-- 0x2800:0F FLAGS (09_thermal). -/
def Obj.MODULE_THERMAL.FLAGS : Nat := 0x28000F

/-- 0x2800:10 DIE_SENSORS (09_thermal). -/
def Obj.MODULE_THERMAL.DIE_SENSORS : Nat := 0x280010

/-- 0x2900:05 SEAL_CHECK (10_protection_safety). -/
def Obj.SAFETY_CFG.SEAL_CHECK : Nat := 0x290005

/-- 0x2900:06 TP_LEN (10_protection_safety). -/
def Obj.SAFETY_CFG.TP_LEN : Nat := 0x290006

/-- 0x2900:07 TP_PERIOD (10_protection_safety). -/
def Obj.SAFETY_CFG.TP_PERIOD : Nat := 0x290007

/-- 0x2900:08 SRS_RAMP (10_protection_safety). -/
def Obj.SAFETY_CFG.SRS_RAMP : Nat := 0x290008

/-- 0x2900:09 SRS_MAX_TIME (10_protection_safety). -/
def Obj.SAFETY_CFG.SRS_MAX_TIME : Nat := 0x290009

/-- 0x2900:0A SRS_ZERO_I (10_protection_safety). -/
def Obj.SAFETY_CFG.SRS_ZERO_I : Nat := 0x29000A

/-- 0x2900:0B SRS_MARGIN (10_protection_safety). -/
def Obj.SAFETY_CFG.SRS_MARGIN : Nat := 0x29000B

/-- 0x2900:0C RAMP_IN (10_protection_safety). -/
def Obj.SAFETY_CFG.RAMP_IN : Nat := 0x29000C

/-- 0x2900:0D BUS_MATCH (10_protection_safety). -/
def Obj.SAFETY_CFG.BUS_MATCH : Nat := 0x29000D

/-- 0x2900:0E PRE_WINDOW (10_protection_safety). -/
def Obj.SAFETY_CFG.PRE_WINDOW : Nat := 0x29000E

/-- 0x2900:0F PRE_TIME (10_protection_safety). -/
def Obj.SAFETY_CFG.PRE_TIME : Nat := 0x29000F

/-- 0x2900:10 LOST_I (10_protection_safety). -/
def Obj.SAFETY_CFG.LOST_I : Nat := 0x290010

/-- 0x2900:11 LOST_CMD (10_protection_safety). -/
def Obj.SAFETY_CFG.LOST_CMD : Nat := 0x290011

/-- 0x2900:12 LOST_TIME (10_protection_safety). -/
def Obj.SAFETY_CFG.LOST_TIME : Nat := 0x290012

/-- 0x2900:13 PLAUS_ABS (10_protection_safety). -/
def Obj.SAFETY_CFG.PLAUS_ABS : Nat := 0x290013

/-- 0x2900:14 PLAUS_REL (10_protection_safety). -/
def Obj.SAFETY_CFG.PLAUS_REL : Nat := 0x290014

/-- 0x2900:15 PLAUS_TIME (10_protection_safety). -/
def Obj.SAFETY_CFG.PLAUS_TIME : Nat := 0x290015

/-- 0x2900:16 PHASE_SIDE (10_protection_safety). -/
def Obj.SAFETY_CFG.PHASE_SIDE : Nat := 0x290016

/-- 0x2900:17 IMD_CHANNEL (10_protection_safety). -/
def Obj.SAFETY_CFG.IMD_CHANNEL : Nat := 0x290017

/-- 0x2900:18 IMD_WARN (10_protection_safety). -/
def Obj.SAFETY_CFG.IMD_WARN : Nat := 0x290018

/-- 0x2900:19 IMD_ALARM (10_protection_safety). -/
def Obj.SAFETY_CFG.IMD_ALARM : Nat := 0x290019

/-- 0x2900:1A IMD_ACTION (10_protection_safety). -/
def Obj.SAFETY_CFG.IMD_ACTION : Nat := 0x29001A

/-- 0x2901:01 SI_CFG and on (10_protection_safety). -/
def Obj.SAFETY_INPUTS.SI_CFG (i : Nat) : Nat := 0x290101 + i

/-- 0x2901:11 RAW (10_protection_safety). -/
def Obj.SAFETY_INPUTS.RAW : Nat := 0x290111

/-- 0x2901:12 DEMAND (10_protection_safety). -/
def Obj.SAFETY_INPUTS.DEMAND : Nat := 0x290112

/-- 0x2901:13 INPUT_FAULTS (10_protection_safety). -/
def Obj.SAFETY_INPUTS.INPUT_FAULTS : Nat := 0x290113

/-- 0x2902:01 LOAD and on (10_protection_safety). -/
def Obj.SAFETY_OUTPUTS.LOAD (i : Nat) : Nat := 0x290201 + i

/-- 0x2902:11 SO and on (10_protection_safety). -/
def Obj.SAFETY_OUTPUTS.SO (i : Nat) : Nat := 0x290211 + i

/-- 0x2902:19 GROUP and on (10_protection_safety). -/
def Obj.SAFETY_OUTPUTS.GROUP (i : Nat) : Nat := 0x290219 + i

/-- 0x2902:21 OFF_PULSE_LEN (10_protection_safety). -/
def Obj.SAFETY_OUTPUTS.OFF_PULSE_LEN : Nat := 0x290221

/-- 0x2902:22 OFF_PULSE_PERIOD (10_protection_safety). -/
def Obj.SAFETY_OUTPUTS.OFF_PULSE_PERIOD : Nat := 0x290222

/-- 0x2902:23 SEO_DELAY (10_protection_safety). -/
def Obj.SAFETY_OUTPUTS.SEO_DELAY : Nat := 0x290223

/-- 0x2902:24 MIN_OFF (10_protection_safety). -/
def Obj.SAFETY_OUTPUTS.MIN_OFF : Nat := 0x290224

/-- 0x2902:25 MAIN_CLOSE_TIME (10_protection_safety). -/
def Obj.SAFETY_OUTPUTS.MAIN_CLOSE_TIME : Nat := 0x290225

/-- 0x2902:26 FB_TIME (10_protection_safety). -/
def Obj.SAFETY_OUTPUTS.FB_TIME : Nat := 0x290226

/-- 0x2902:27 LOAD_ON (10_protection_safety). -/
def Obj.SAFETY_OUTPUTS.LOAD_ON : Nat := 0x290227

/-- 0x2902:28 LOAD_DEFERRED (10_protection_safety). -/
def Obj.SAFETY_OUTPUTS.LOAD_DEFERRED : Nat := 0x290228

/-- 0x2902:29 SO_CURRENT and on (10_protection_safety). -/
def Obj.SAFETY_OUTPUTS.SO_CURRENT (i : Nat) : Nat := 0x290229 + i

/-- 0x2902:31 OUTPUT_FAULTS (10_protection_safety). -/
def Obj.SAFETY_OUTPUTS.OUTPUT_FAULTS : Nat := 0x290231

/-- 0x2903:01 CHANNELS (10_protection_safety). -/
def Obj.SAFETY_STATUS.CHANNELS : Nat := 0x290301

/-- 0x2903:02 STANDING_CAUSES (10_protection_safety). -/
def Obj.SAFETY_STATUS.STANDING_CAUSES : Nat := 0x290302

/-- 0x2903:03 LATCH_CAUSES (10_protection_safety). -/
def Obj.SAFETY_STATUS.LATCH_CAUSES : Nat := 0x290303

/-- 0x2903:04 GROUP_STATE and on (10_protection_safety). -/
def Obj.SAFETY_STATUS.GROUP_STATE (i : Nat) : Nat := 0x290304 + i

/-- 0x2903:0C IMD_R (10_protection_safety). -/
def Obj.SAFETY_STATUS.IMD_R : Nat := 0x29030C

/-- 0x2903:0D SAFETY_FAULTS (10_protection_safety). -/
def Obj.SAFETY_STATUS.SAFETY_FAULTS : Nat := 0x29030D

/-- 0x2903:0E LAST_SEO_TICK (10_protection_safety). -/
def Obj.SAFETY_STATUS.LAST_SEO_TICK : Nat := 0x29030E

/-- 0x2903:0F SEO_COUNT (10_protection_safety). -/
def Obj.SAFETY_STATUS.SEO_COUNT : Nat := 0x29030F

/-- 0x2903:10 SRS_COUNT (10_protection_safety). -/
def Obj.SAFETY_STATUS.SRS_COUNT : Nat := 0x290310

/-- 0x2904:01 REQUEST (10_protection_safety). -/
def Obj.LOCKOUT_RESET.REQUEST : Nat := 0x290401

/-- 0x2904:02 REQUESTED (10_protection_safety). -/
def Obj.LOCKOUT_RESET.REQUESTED : Nat := 0x290402

/-- 0x2904:03 CLEARED (10_protection_safety). -/
def Obj.LOCKOUT_RESET.CLEARED : Nat := 0x290403

/-- 0x2904:04 LAST_RESULT (10_protection_safety). -/
def Obj.LOCKOUT_RESET.LAST_RESULT : Nat := 0x290404

/-- 0x2904:05 LAST_TICK (10_protection_safety). -/
def Obj.LOCKOUT_RESET.LAST_TICK : Nat := 0x290405

/-- 0x2904:06 RESETS (10_protection_safety). -/
def Obj.LOCKOUT_RESET.RESETS : Nat := 0x290406

/-- +0x20:01 CELL_OV (10_protection_safety). -/
def Gal.PROT_LIMITS.CELL_OV (n : Nat) : Nat := galKey n 0x20 0x01

/-- +0x20:02 CELL_UV (10_protection_safety). -/
def Gal.PROT_LIMITS.CELL_UV (n : Nat) : Nat := galKey n 0x20 0x02

/-- +0x20:03 CELL_HYST (10_protection_safety). -/
def Gal.PROT_LIMITS.CELL_HYST (n : Nat) : Nat := galKey n 0x20 0x03

/-- +0x20:04 SHUNT_OC (10_protection_safety). -/
def Gal.PROT_LIMITS.SHUNT_OC (n : Nat) : Nat := galKey n 0x20 0x04

/-- +0x20:05 HALL_OC (10_protection_safety). -/
def Gal.PROT_LIMITS.HALL_OC (n : Nat) : Nat := galKey n 0x20 0x05

/-- +0x20:06 BUS_OV (10_protection_safety). -/
def Gal.PROT_LIMITS.BUS_OV (n : Nat) : Nat := galKey n 0x20 0x06

/-- +0x20:07 BUS_UV (10_protection_safety). -/
def Gal.PROT_LIMITS.BUS_UV (n : Nat) : Nat := galKey n 0x20 0x07

/-- +0x20:08 STRING_OV (10_protection_safety). -/
def Gal.PROT_LIMITS.STRING_OV (n : Nat) : Nat := galKey n 0x20 0x08

/-- +0x20:09 HEAD_OT (10_protection_safety). -/
def Gal.PROT_LIMITS.HEAD_OT (n : Nat) : Nat := galKey n 0x20 0x09

/-- +0x20:0A PHASE_OC (10_protection_safety). -/
def Gal.PROT_LIMITS.PHASE_OC (n : Nat) : Nat := galKey n 0x20 0x0A

/-- +0x20:0B HEAD_CMP_FILTER (10_protection_safety). -/
def Gal.PROT_LIMITS.HEAD_CMP_FILTER (n : Nat) : Nat := galKey n 0x20 0x0B

/-- +0x21:01 PROT_TRIP (10_protection_safety). -/
def Gal.PROT_STATUS.PROT_TRIP (n : Nat) : Nat := galKey n 0x21 0x01

/-- +0x21:02 STANDING (10_protection_safety). -/
def Gal.PROT_STATUS.STANDING (n : Nat) : Nat := galKey n 0x21 0x02

/-- +0x21:03 LAST_TRIP_TICK (10_protection_safety). -/
def Gal.PROT_STATUS.LAST_TRIP_TICK (n : Nat) : Nat := galKey n 0x21 0x03

/-- +0x21:04 LAST_TRIP_POS (10_protection_safety). -/
def Gal.PROT_STATUS.LAST_TRIP_POS (n : Nat) : Nat := galKey n 0x21 0x04

/-- +0x21:05 THRESH_OK (10_protection_safety). -/
def Gal.PROT_STATUS.THRESH_OK (n : Nat) : Nat := galKey n 0x21 0x05

/-- +0x21:06 SENSOR (10_protection_safety). -/
def Gal.PROT_STATUS.SENSOR (n : Nat) : Nat := galKey n 0x21 0x06

/-- +0x21:07 PHASE_REF (10_protection_safety). -/
def Gal.PROT_STATUS.PHASE_REF (n : Nat) : Nat := galKey n 0x21 0x07

/-- +0x21:08 LOST (10_protection_safety). -/
def Gal.PROT_STATUS.LOST (n : Nat) : Nat := galKey n 0x21 0x08

/-- +0x24:01 GROUP (10_protection_safety). -/
def Gal.ENERGISE.GROUP (n : Nat) : Nat := galKey n 0x24 0x01

/-- +0x24:02 AUTO (10_protection_safety). -/
def Gal.ENERGISE.AUTO (n : Nat) : Nat := galKey n 0x24 0x02

/-- +0x24:03 REQUEST (10_protection_safety). -/
def Gal.ENERGISE.REQUEST (n : Nat) : Nat := galKey n 0x24 0x03

/-- +0x24:04 STATE (10_protection_safety). -/
def Gal.ENERGISE.STATE (n : Nat) : Nat := galKey n 0x24 0x04

/-- +0x24:05 RESULT (10_protection_safety). -/
def Gal.ENERGISE.RESULT (n : Nat) : Nat := galKey n 0x24 0x05

/-- +0x24:06 REFUSE (10_protection_safety). -/
def Gal.ENERGISE.REFUSE (n : Nat) : Nat := galKey n 0x24 0x06

/-- +0x24:07 FAIL_CAUSE (10_protection_safety). -/
def Gal.ENERGISE.FAIL_CAUSE (n : Nat) : Nat := galKey n 0x24 0x07

/-- +0x24:08 LOST_CLEAR (10_protection_safety). -/
def Gal.ENERGISE.LOST_CLEAR (n : Nat) : Nat := galKey n 0x24 0x08

/-- +0x24:09 PRE_V_DIFF (10_protection_safety). -/
def Gal.ENERGISE.PRE_V_DIFF (n : Nat) : Nat := galKey n 0x24 0x09

/-- +0x38:07 PROT_FAULTS (10_protection_safety). -/
def Gal.FAULTS.PROT_FAULTS (n : Nat) : Nat := galKey n 0x38 0x07

/-- +0x3E:21 PROT_TRIPS (10_protection_safety). -/
def Gal.COUNTERS.PROT_TRIPS (n : Nat) : Nat := galKey n 0x3E 0x21

/-- +0x3E:22 ENERGISINGS (10_protection_safety). -/
def Gal.COUNTERS.ENERGISINGS (n : Nat) : Nat := galKey n 0x3E 0x22

/-- +0x3E:23 STRING_SEOS (10_protection_safety). -/
def Gal.COUNTERS.STRING_SEOS (n : Nat) : Nat := galKey n 0x3E 0x23

/-- +0x3E:24 STRING_SRSS (10_protection_safety). -/
def Gal.COUNTERS.STRING_SRSS (n : Nat) : Nat := galKey n 0x3E 0x24

/-- +0x3E:25 LOST_EVENTS (10_protection_safety). -/
def Gal.COUNTERS.LOST_EVENTS (n : Nat) : Nat := galKey n 0x3E 0x25

/-- 0x3400:01 ENABLE (11_dispatch). -/
def Obj.DISPATCH_CFG.ENABLE : Nat := 0x340001

/-- 0x3400:02 SOURCE_MASK (11_dispatch). -/
def Obj.DISPATCH_CFG.SOURCE_MASK : Nat := 0x340002

/-- 0x3400:03 STRING_MASK (11_dispatch). -/
def Obj.DISPATCH_CFG.STRING_MASK : Nat := 0x340003

/-- 0x3400:04 STRING_OUTPUT (11_dispatch). -/
def Obj.DISPATCH_CFG.STRING_OUTPUT : Nat := 0x340004

/-- 0x3400:05 P_RAMP (11_dispatch). -/
def Obj.DISPATCH_CFG.P_RAMP : Nat := 0x340005

/-- 0x3400:06 K_EQ (11_dispatch). -/
def Obj.DISPATCH_CFG.K_EQ : Nat := 0x340006

/-- 0x3400:07 HOST_TIMEOUT (11_dispatch). -/
def Obj.DISPATCH_CFG.HOST_TIMEOUT : Nat := 0x340007

/-- 0x3400:08 ANALOG_CHANNEL (11_dispatch). -/
def Obj.DISPATCH_CFG.ANALOG_CHANNEL : Nat := 0x340008

/-- 0x3400:09 FALLBACK_HOLD (11_dispatch). -/
def Obj.DISPATCH_CFG.FALLBACK_HOLD : Nat := 0x340009

/-- 0x3400:0A FALLBACK_P (11_dispatch). -/
def Obj.DISPATCH_CFG.FALLBACK_P : Nat := 0x34000A

/-- 0x3400:0B P_MIN (11_dispatch). -/
def Obj.DISPATCH_CFG.P_MIN : Nat := 0x34000B

/-- 0x3400:0C SHORTFALL_TIME (11_dispatch). -/
def Obj.DISPATCH_CFG.SHORTFALL_TIME : Nat := 0x34000C

/-- 0x3401:01 P_DEMAND (11_dispatch). -/
def Obj.DISPATCH_SETPOINT.P_DEMAND : Nat := 0x340101

/-- 0x3401:02 LEADER_TARGET (11_dispatch). -/
def Obj.DISPATCH_SETPOINT.LEADER_TARGET : Nat := 0x340102

/-- 0x3401:03 TARGET_IN_FORCE (11_dispatch). -/
def Obj.DISPATCH_SETPOINT.TARGET_IN_FORCE : Nat := 0x340103

/-- 0x3401:04 SOURCE (11_dispatch). -/
def Obj.DISPATCH_SETPOINT.SOURCE : Nat := 0x340104

/-- 0x3401:05 HOST_AGE (11_dispatch). -/
def Obj.DISPATCH_SETPOINT.HOST_AGE : Nat := 0x340105

/-- 0x3401:06 LEADER_AGE (11_dispatch). -/
def Obj.DISPATCH_SETPOINT.LEADER_AGE : Nat := 0x340106

/-- 0x3402:01 P_ACTUAL (11_dispatch). -/
def Obj.DISPATCH_STATUS.P_ACTUAL : Nat := 0x340201

/-- 0x3402:02 P_DIS_AVAIL (11_dispatch). -/
def Obj.DISPATCH_STATUS.P_DIS_AVAIL : Nat := 0x340202

/-- 0x3402:03 P_CHG_AVAIL (11_dispatch). -/
def Obj.DISPATCH_STATUS.P_CHG_AVAIL : Nat := 0x340203

/-- 0x3402:04 E_DIS (11_dispatch). -/
def Obj.DISPATCH_STATUS.E_DIS : Nat := 0x340204

/-- 0x3402:05 E_CHG (11_dispatch). -/
def Obj.DISPATCH_STATUS.E_CHG : Nat := 0x340205

/-- 0x3402:06 SOC_MODULE (11_dispatch). -/
def Obj.DISPATCH_STATUS.SOC_MODULE : Nat := 0x340206

/-- 0x3402:07 SHORTFALL (11_dispatch). -/
def Obj.DISPATCH_STATUS.SHORTFALL : Nat := 0x340207

/-- 0x3402:08 STRINGS_ELIGIBLE (11_dispatch). -/
def Obj.DISPATCH_STATUS.STRINGS_ELIGIBLE : Nat := 0x340208

/-- 0x3402:09 ALLOC_AGE (11_dispatch). -/
def Obj.DISPATCH_STATUS.ALLOC_AGE : Nat := 0x340209

/-- 0x3402:0A FLAGS (11_dispatch). -/
def Obj.DISPATCH_STATUS.FLAGS : Nat := 0x34020A

/-- 0x3402:0B ROLE (11_dispatch). -/
def Obj.DISPATCH_STATUS.ROLE : Nat := 0x34020B

/-- 0x3402:0C LEADER_SERIAL (11_dispatch). -/
def Obj.DISPATCH_STATUS.LEADER_SERIAL : Nat := 0x34020C

/-- 0x3410:01 ELIGIBLE (11_dispatch). -/
def Obj.LEADER_CFG.ELIGIBLE : Nat := 0x341001

/-- 0x3410:02 PRIORITY (11_dispatch). -/
def Obj.LEADER_CFG.PRIORITY : Nat := 0x341002

/-- 0x3410:03 LEADER_TIMEOUT (11_dispatch). -/
def Obj.LEADER_CFG.LEADER_TIMEOUT : Nat := 0x341003

/-- 0x3410:04 JOIN_DELAY (11_dispatch). -/
def Obj.LEADER_CFG.JOIN_DELAY : Nat := 0x341004

/-- 0x3410:05 MODULES_LED (11_dispatch). -/
def Obj.LEADER_CFG.MODULES_LED : Nat := 0x341005

/-- 0x3410:06 ELECTIONS (11_dispatch). -/
def Obj.LEADER_CFG.ELECTIONS : Nat := 0x341006

/-- 0x2100:01 PLANT_TIME (12_arcade_ring_time). -/
def Obj.TIMEBASE.PLANT_TIME : Nat := 0x210001

/-- 0x2100:02 ORIGIN (12_arcade_ring_time). -/
def Obj.TIMEBASE.ORIGIN : Nat := 0x210002

/-- 0x2100:03 STATE (12_arcade_ring_time). -/
def Obj.TIMEBASE.STATE : Nat := 0x210003

/-- 0x2100:04 SOURCE (12_arcade_ring_time). -/
def Obj.TIMEBASE.SOURCE : Nat := 0x210004

/-- 0x2100:05 TIME_QUALITY (12_arcade_ring_time). -/
def Obj.TIMEBASE.TIME_QUALITY : Nat := 0x210005

/-- 0x2100:06 OFFSET (12_arcade_ring_time). -/
def Obj.TIMEBASE.OFFSET : Nat := 0x210006

/-- 0x2100:07 TRIM (12_arcade_ring_time). -/
def Obj.TIMEBASE.TRIM : Nat := 0x210007

/-- 0x2100:08 TAI_UTC (12_arcade_ring_time). -/
def Obj.TIMEBASE.TAI_UTC : Nat := 0x210008

/-- 0x2100:09 STEPS (12_arcade_ring_time). -/
def Obj.TIMEBASE.STEPS : Nat := 0x210009

/-- 0x2100:0A LAST_STEP (12_arcade_ring_time). -/
def Obj.TIMEBASE.LAST_STEP : Nat := 0x21000A

/-- 0x2100:0B FLAGS (12_arcade_ring_time). -/
def Obj.TIMEBASE.FLAGS : Nat := 0x21000B

/-- 0x2100:0C HOLDOVER_TIME (12_arcade_ring_time). -/
def Obj.TIMEBASE.HOLDOVER_TIME : Nat := 0x21000C

/-- 0x2100:0D KEEPER_SERIAL (12_arcade_ring_time). -/
def Obj.TIMEBASE.KEEPER_SERIAL : Nat := 0x21000D

/-- 0x2101:01 ENABLE (12_arcade_ring_time). -/
def Obj.PTP_CFG.ENABLE : Nat := 0x210101

/-- 0x2101:02 DOMAIN (12_arcade_ring_time). -/
def Obj.PTP_CFG.DOMAIN : Nat := 0x210102

/-- 0x2101:03 PRIORITY1 (12_arcade_ring_time). -/
def Obj.PTP_CFG.PRIORITY1 : Nat := 0x210103

/-- 0x2101:04 PRIORITY2 (12_arcade_ring_time). -/
def Obj.PTP_CFG.PRIORITY2 : Nat := 0x210104

/-- 0x2101:05 GM_CAPABLE (12_arcade_ring_time). -/
def Obj.PTP_CFG.GM_CAPABLE : Nat := 0x210105

/-- 0x2101:06 PPS_TOD_ENABLE (12_arcade_ring_time). -/
def Obj.PTP_CFG.PPS_TOD_ENABLE : Nat := 0x210106

/-- 0x2101:07 TOD_BAUD (12_arcade_ring_time). -/
def Obj.PTP_CFG.TOD_BAUD : Nat := 0x210107

/-- 0x2101:08 PPS_DELAY (12_arcade_ring_time). -/
def Obj.PTP_CFG.PPS_DELAY : Nat := 0x210108

/-- 0x2101:09 LOCK_THRESHOLD (12_arcade_ring_time). -/
def Obj.PTP_CFG.LOCK_THRESHOLD : Nat := 0x210109

/-- 0x2101:0A PORT_ASYM_E (12_arcade_ring_time). -/
def Obj.PTP_CFG.PORT_ASYM_E : Nat := 0x21010A

/-- 0x2101:0B PORT_ASYM_W (12_arcade_ring_time). -/
def Obj.PTP_CFG.PORT_ASYM_W : Nat := 0x21010B

/-- 0x2101:0C PPS_OUT_ENABLE (12_arcade_ring_time). -/
def Obj.PTP_CFG.PPS_OUT_ENABLE : Nat := 0x21010C

/-- 0x2102:01 PORT_STATE_E (12_arcade_ring_time). -/
def Obj.PTP_STATUS.PORT_STATE_E : Nat := 0x210201

/-- 0x2102:02 PORT_STATE_W (12_arcade_ring_time). -/
def Obj.PTP_STATUS.PORT_STATE_W : Nat := 0x210202

/-- 0x2102:03 GM_IDENTITY (12_arcade_ring_time). -/
def Obj.PTP_STATUS.GM_IDENTITY : Nat := 0x210203

/-- 0x2102:04 GM_CLASS (12_arcade_ring_time). -/
def Obj.PTP_STATUS.GM_CLASS : Nat := 0x210204

/-- 0x2102:05 LINK_DELAY_E (12_arcade_ring_time). -/
def Obj.PTP_STATUS.LINK_DELAY_E : Nat := 0x210205

/-- 0x2102:06 LINK_DELAY_W (12_arcade_ring_time). -/
def Obj.PTP_STATUS.LINK_DELAY_W : Nat := 0x210206

/-- 0x2102:07 SYNC_PORT (12_arcade_ring_time). -/
def Obj.PTP_STATUS.SYNC_PORT : Nat := 0x210207

/-- 0x2102:08 SYNC_RX (12_arcade_ring_time). -/
def Obj.PTP_STATUS.SYNC_RX : Nat := 0x210208

/-- 0x2102:09 TS_MISSED (12_arcade_ring_time). -/
def Obj.PTP_STATUS.TS_MISSED : Nat := 0x210209

/-- 0x2102:0A CLOCK_IDENTITY (12_arcade_ring_time). -/
def Obj.PTP_STATUS.CLOCK_IDENTITY : Nat := 0x21020A

/-- 0x2102:0B PPS_OFFSET (12_arcade_ring_time). -/
def Obj.PTP_STATUS.PPS_OFFSET : Nat := 0x21020B

/-- 0x2500:01 ENABLE (12_arcade_ring_time). -/
def Obj.ARCADE_CFG.ENABLE : Nat := 0x250001

/-- 0x2500:02 RING_KEY (12_arcade_ring_time). -/
def Obj.ARCADE_CFG.RING_KEY : Nat := 0x250002

/-- 0x2500:03 KEY_CHECK (12_arcade_ring_time). -/
def Obj.ARCADE_CFG.KEY_CHECK : Nat := 0x250003

/-- 0x2500:04 AUTONEG (12_arcade_ring_time). -/
def Obj.ARCADE_CFG.AUTONEG : Nat := 0x250004

/-- 0x2500:05 BEACON_INTERVAL (12_arcade_ring_time). -/
def Obj.ARCADE_CFG.BEACON_INTERVAL : Nat := 0x250005

/-- 0x2500:06 MEMBER_TIMEOUT (12_arcade_ring_time). -/
def Obj.ARCADE_CFG.MEMBER_TIMEOUT : Nat := 0x250006

/-- 0x2500:07 LIFE_CHECK (12_arcade_ring_time). -/
def Obj.ARCADE_CFG.LIFE_CHECK : Nat := 0x250007

/-- 0x2500:08 REQ_TIMEOUT (12_arcade_ring_time). -/
def Obj.ARCADE_CFG.REQ_TIMEOUT : Nat := 0x250008

/-- 0x2500:09 MEMBER_MAX (12_arcade_ring_time). -/
def Obj.ARCADE_CFG.MEMBER_MAX : Nat := 0x250009

/-- 0x2501:01 PORT_E (12_arcade_ring_time). -/
def Obj.ARCADE_STATUS.PORT_E : Nat := 0x250101

/-- 0x2501:02 PORT_W (12_arcade_ring_time). -/
def Obj.ARCADE_STATUS.PORT_W : Nat := 0x250102

/-- 0x2501:03 BYPASS (12_arcade_ring_time). -/
def Obj.ARCADE_STATUS.BYPASS : Nat := 0x250103

/-- 0x2501:04 RING_STATE (12_arcade_ring_time). -/
def Obj.ARCADE_STATUS.RING_STATE : Nat := 0x250104

/-- 0x2501:05 FRAMES_RX (12_arcade_ring_time). -/
def Obj.ARCADE_STATUS.FRAMES_RX : Nat := 0x250105

/-- 0x2501:06 DUPLICATES (12_arcade_ring_time). -/
def Obj.ARCADE_STATUS.DUPLICATES : Nat := 0x250106

/-- 0x2501:07 AUTH_DROPPED (12_arcade_ring_time). -/
def Obj.ARCADE_STATUS.AUTH_DROPPED : Nat := 0x250107

/-- 0x2501:08 RX_ERRORS (12_arcade_ring_time). -/
def Obj.ARCADE_STATUS.RX_ERRORS : Nat := 0x250108

/-- 0x2501:09 FLAGS (12_arcade_ring_time). -/
def Obj.ARCADE_STATUS.FLAGS : Nat := 0x250109

/-- 0x2501:0A REQUESTS_SERVED (12_arcade_ring_time). -/
def Obj.ARCADE_STATUS.REQUESTS_SERVED : Nat := 0x25010A

/-- 0x2501:0B REQUESTS_TIMED_OUT (12_arcade_ring_time). -/
def Obj.ARCADE_STATUS.REQUESTS_TIMED_OUT : Nat := 0x25010B

/-- 0x2502:01 MEMBER_1 and on (12_arcade_ring_time). -/
def Obj.ARCADE_MEMBERS.MEMBER (i : Nat) : Nat := 0x250201 + (i - 1)

/-- 0x2502:21 MEMBER_COUNT (12_arcade_ring_time). -/
def Obj.ARCADE_MEMBERS.MEMBER_COUNT : Nat := 0x250221

/-- 0x2400:01 ENABLE (13_redundancy). -/
def Obj.REDUNDANCY_CFG.ENABLE : Nat := 0x240001

/-- 0x2400:02 PARTNER_SERIAL (13_redundancy). -/
def Obj.REDUNDANCY_CFG.PARTNER_SERIAL : Nat := 0x240002

/-- 0x2400:03 TRUNK_PORT (13_redundancy). -/
def Obj.REDUNDANCY_CFG.TRUNK_PORT : Nat := 0x240003

/-- 0x2400:04 PREFERRED (13_redundancy). -/
def Obj.REDUNDANCY_CFG.PREFERRED : Nat := 0x240004

/-- 0x2400:05 PAIR_WAIT (13_redundancy). -/
def Obj.REDUNDANCY_CFG.PAIR_WAIT : Nat := 0x240005

/-- 0x2400:06 CORRIDOR_TIMEOUT (13_redundancy). -/
def Obj.REDUNDANCY_CFG.CORRIDOR_TIMEOUT : Nat := 0x240006

/-- 0x2400:07 ORPHAN_SF (13_redundancy). -/
def Obj.REDUNDANCY_CFG.ORPHAN_SF : Nat := 0x240007

/-- 0x2400:08 SWAP (13_redundancy). -/
def Obj.REDUNDANCY_CFG.SWAP : Nat := 0x240008

/-- 0x2400:09 SWAP_INTERVAL (13_redundancy). -/
def Obj.REDUNDANCY_CFG.SWAP_INTERVAL : Nat := 0x240009

/-- 0x2400:0A RE_ARM (13_redundancy). -/
def Obj.REDUNDANCY_CFG.RE_ARM : Nat := 0x24000A

/-- 0x2401:01 ROLE (13_redundancy). -/
def Obj.REDUNDANCY_STATUS.ROLE : Nat := 0x240101

/-- 0x2401:02 PARTNER_ROLE (13_redundancy). -/
def Obj.REDUNDANCY_STATUS.PARTNER_ROLE : Nat := 0x240102

/-- 0x2401:03 PARTNER_SEEN (13_redundancy). -/
def Obj.REDUNDANCY_STATUS.PARTNER_SEEN : Nat := 0x240103

/-- 0x2401:04 LINKS (13_redundancy). -/
def Obj.REDUNDANCY_STATUS.LINKS : Nat := 0x240104

/-- 0x2401:05 NOT_READY (13_redundancy). -/
def Obj.REDUNDANCY_STATUS.NOT_READY : Nat := 0x240105

/-- 0x2401:06 PARTNER_NOT_READY (13_redundancy). -/
def Obj.REDUNDANCY_STATUS.PARTNER_NOT_READY : Nat := 0x240106

/-- 0x2401:07 EPOCH (13_redundancy). -/
def Obj.REDUNDANCY_STATUS.EPOCH : Nat := 0x240107

/-- 0x2401:08 LAST_TAKEOVER_TICK (13_redundancy). -/
def Obj.REDUNDANCY_STATUS.LAST_TAKEOVER_TICK : Nat := 0x240108

/-- 0x2401:09 LAST_CAUSE (13_redundancy). -/
def Obj.REDUNDANCY_STATUS.LAST_CAUSE : Nat := 0x240109

/-- 0x2401:0A LAST_DURATION (13_redundancy). -/
def Obj.REDUNDANCY_STATUS.LAST_DURATION : Nat := 0x24010A

/-- 0x2401:0B ACTIVE_AGE (13_redundancy). -/
def Obj.REDUNDANCY_STATUS.ACTIVE_AGE : Nat := 0x24010B

/-- 0x2401:0C FLAGS (13_redundancy). -/
def Obj.REDUNDANCY_STATUS.FLAGS : Nat := 0x24010C

/-- 0x2401:0D TAKEOVERS (13_redundancy). -/
def Obj.REDUNDANCY_STATUS.TAKEOVERS : Nat := 0x24010D

/-- 0x2401:0E MIRROR (13_redundancy). -/
def Obj.REDUNDANCY_STATUS.MIRROR : Nat := 0x24010E

/-- +0x28:01 CLAIMING (13_redundancy). -/
def Gal.AUTHORITY_VIEW.CLAIMING (n : Nat) : Nat := galKey n 0x28 0x01

/-- +0x28:02 OBEYED (13_redundancy). -/
def Gal.AUTHORITY_VIEW.OBEYED (n : Nat) : Nat := galKey n 0x28 0x02

/-- +0x28:03 EPOCH_SENT (13_redundancy). -/
def Gal.AUTHORITY_VIEW.EPOCH_SENT (n : Nat) : Nat := galKey n 0x28 0x03

/-- +0x28:04 OVERLAP_LAST (13_redundancy). -/
def Gal.AUTHORITY_VIEW.OVERLAP_LAST (n : Nat) : Nat := galKey n 0x28 0x04

/-- +0x28:05 OVERLAP_MAX (13_redundancy). -/
def Gal.AUTHORITY_VIEW.OVERLAP_MAX (n : Nat) : Nat := galKey n 0x28 0x05

/-- +0x28:06 ORPHANS (13_redundancy). -/
def Gal.AUTHORITY_VIEW.ORPHANS (n : Nat) : Nat := galKey n 0x28 0x06

/-- +0x28:07 LAST_CHANGE (13_redundancy). -/
def Gal.AUTHORITY_VIEW.LAST_CHANGE (n : Nat) : Nat := galKey n 0x28 0x07

/-- +0x28:08 DUAL_FAULTS (13_redundancy). -/
def Gal.AUTHORITY_VIEW.DUAL_FAULTS (n : Nat) : Nat := galKey n 0x28 0x08

/-- +0x0:01 FUNCTION (14_universal_channels). -/
def Chn.CH_CFG.FUNCTION (n : Nat) : Nat := chnKey n 0x0 0x01

/-- +0x0:02 RANGE (14_universal_channels). -/
def Chn.CH_CFG.RANGE (n : Nat) : Nat := chnKey n 0x0 0x02

/-- +0x0:03 SENSOR (14_universal_channels). -/
def Chn.CH_CFG.SENSOR (n : Nat) : Nat := chnKey n 0x0 0x03

/-- +0x0:04 WIRES (14_universal_channels). -/
def Chn.CH_CFG.WIRES (n : Nat) : Nat := chnKey n 0x0 0x04

/-- +0x0:05 RATE (14_universal_channels). -/
def Chn.CH_CFG.RATE (n : Nat) : Nat := chnKey n 0x0 0x05

/-- +0x0:06 LOOP_POWER (14_universal_channels). -/
def Chn.CH_CFG.LOOP_POWER (n : Nat) : Nat := chnKey n 0x0 0x06

/-- +0x0:07 LIVE_ZERO (14_universal_channels). -/
def Chn.CH_CFG.LIVE_ZERO (n : Nat) : Nat := chnKey n 0x0 0x07

/-- +0x0:08 CJ_CHANNEL (14_universal_channels). -/
def Chn.CH_CFG.CJ_CHANNEL (n : Nat) : Nat := chnKey n 0x0 0x08

/-- +0x0:09 CJ_FIXED (14_universal_channels). -/
def Chn.CH_CFG.CJ_FIXED (n : Nat) : Nat := chnKey n 0x0 0x09

/-- +0x0:0A DOWN_COUNT (14_universal_channels). -/
def Chn.CH_CFG.DOWN_COUNT (n : Nat) : Nat := chnKey n 0x0 0x0A

/-- +0x0:0B LEAD_R (14_universal_channels). -/
def Chn.CH_CFG.LEAD_R (n : Nat) : Nat := chnKey n 0x0 0x0B

/-- +0x1:01 CHAR_TYPE (14_universal_channels). -/
def Chn.CH_CHAR.CHAR_TYPE (n : Nat) : Nat := chnKey n 0x1 0x01

/-- +0x1:02 GAIN (14_universal_channels). -/
def Chn.CH_CHAR.GAIN (n : Nat) : Nat := chnKey n 0x1 0x02

/-- +0x1:03 OFFSET (14_universal_channels). -/
def Chn.CH_CHAR.OFFSET (n : Nat) : Nat := chnKey n 0x1 0x03

/-- +0x1:04 X_LO (14_universal_channels). -/
def Chn.CH_CHAR.X_LO (n : Nat) : Nat := chnKey n 0x1 0x04

/-- +0x1:05 X_HI (14_universal_channels). -/
def Chn.CH_CHAR.X_HI (n : Nat) : Nat := chnKey n 0x1 0x05

/-- +0x1:06 Y_HI (14_universal_channels). -/
def Chn.CH_CHAR.Y_HI (n : Nat) : Nat := chnKey n 0x1 0x06

/-- +0x1:07 CUTOFF (14_universal_channels). -/
def Chn.CH_CHAR.CUTOFF (n : Nat) : Nat := chnKey n 0x1 0x07

/-- +0x1:08 POINTS (14_universal_channels). -/
def Chn.CH_CHAR.POINTS (n : Nat) : Nat := chnKey n 0x1 0x08

/-- +0x1:09 APPLY (14_universal_channels). -/
def Chn.CH_CHAR.APPLY (n : Nat) : Nat := chnKey n 0x1 0x09

/-- +0x1:0A CHAR_ERROR (14_universal_channels). -/
def Chn.CH_CHAR.CHAR_ERROR (n : Nat) : Nat := chnKey n 0x1 0x0A

/-- +0x1:21 X_1 and on (14_universal_channels). -/
def Chn.CH_CHAR.X (n i : Nat) : Nat := chnKey n 0x1 0x21 + (i - 1)

/-- +0x1:41 Y_1 and on (14_universal_channels). -/
def Chn.CH_CHAR.Y (n i : Nat) : Nat := chnKey n 0x1 0x41 + (i - 1)

/-- +0x2:01 OUT_VALUE (14_universal_channels). -/
def Chn.CH_OUT.OUT_VALUE (n : Nat) : Nat := chnKey n 0x2 0x01

/-- +0x2:02 OUT_SOURCE (14_universal_channels). -/
def Chn.CH_OUT.OUT_SOURCE (n : Nat) : Nat := chnKey n 0x2 0x02

/-- +0x2:03 OUT_TIMEOUT (14_universal_channels). -/
def Chn.CH_OUT.OUT_TIMEOUT (n : Nat) : Nat := chnKey n 0x2 0x03

/-- +0x2:04 FAIL_MODE (14_universal_channels). -/
def Chn.CH_OUT.FAIL_MODE (n : Nat) : Nat := chnKey n 0x2 0x04

/-- +0x2:05 RB_TOL (14_universal_channels). -/
def Chn.CH_OUT.RB_TOL (n : Nat) : Nat := chnKey n 0x2 0x05

/-- +0x2:06 RB_TIME (14_universal_channels). -/
def Chn.CH_OUT.RB_TIME (n : Nat) : Nat := chnKey n 0x2 0x06

/-- +0x2:07 COMMANDED (14_universal_channels). -/
def Chn.CH_OUT.COMMANDED (n : Nat) : Nat := chnKey n 0x2 0x07

/-- +0x2:08 READBACK (14_universal_channels). -/
def Chn.CH_OUT.READBACK (n : Nat) : Nat := chnKey n 0x2 0x08

/-- +0x2:09 RAIL (14_universal_channels). -/
def Chn.CH_OUT.RAIL (n : Nat) : Nat := chnKey n 0x2 0x09

/-- +0x2:0A DRIVER_T (14_universal_channels). -/
def Chn.CH_OUT.DRIVER_T (n : Nat) : Nat := chnKey n 0x2 0x0A

/-- +0x3:01 VALUE (14_universal_channels). -/
def Chn.CH_STATUS.VALUE (n : Nat) : Nat := chnKey n 0x3 0x01

/-- +0x3:02 RAW (14_universal_channels). -/
def Chn.CH_STATUS.RAW (n : Nat) : Nat := chnKey n 0x3 0x02

/-- +0x3:03 STATE (14_universal_channels). -/
def Chn.CH_STATUS.STATE (n : Nat) : Nat := chnKey n 0x3 0x03

/-- +0x3:04 RANGE_NOW (14_universal_channels). -/
def Chn.CH_STATUS.RANGE_NOW (n : Nat) : Nat := chnKey n 0x3 0x04

/-- +0x3:05 SAMPLE_TICK (14_universal_channels). -/
def Chn.CH_STATUS.SAMPLE_TICK (n : Nat) : Nat := chnKey n 0x3 0x05

/-- +0x3:06 AGE (14_universal_channels). -/
def Chn.CH_STATUS.AGE (n : Nat) : Nat := chnKey n 0x3 0x06

/-- +0x3:07 FAULTS (14_universal_channels). -/
def Chn.CH_STATUS.FAULTS (n : Nat) : Nat := chnKey n 0x3 0x07

/-- +0x3:08 RANGE_CHANGES (14_universal_channels). -/
def Chn.CH_STATUS.RANGE_CHANGES (n : Nat) : Nat := chnKey n 0x3 0x08

/-- +0x3:09 HELD_SAMPLES (14_universal_channels). -/
def Chn.CH_STATUS.HELD_SAMPLES (n : Nat) : Nat := chnKey n 0x3 0x09

/-- +0x4:01 HART_ENABLE (14_universal_channels). -/
def Chn.HART_CFG.HART_ENABLE (n : Nat) : Nat := chnKey n 0x4 0x01

/-- +0x4:02 MASTER (14_universal_channels). -/
def Chn.HART_CFG.MASTER (n : Nat) : Nat := chnKey n 0x4 0x02

/-- +0x4:03 POLL_ADDRESS (14_universal_channels). -/
def Chn.HART_CFG.POLL_ADDRESS (n : Nat) : Nat := chnKey n 0x4 0x03

/-- +0x4:04 PREAMBLES (14_universal_channels). -/
def Chn.HART_CFG.PREAMBLES (n : Nat) : Nat := chnKey n 0x4 0x04

/-- +0x4:05 TIMEOUT (14_universal_channels). -/
def Chn.HART_CFG.TIMEOUT (n : Nat) : Nat := chnKey n 0x4 0x05

/-- +0x4:06 RETRIES (14_universal_channels). -/
def Chn.HART_CFG.RETRIES (n : Nat) : Nat := chnKey n 0x4 0x06

/-- +0x4:07 POLL_INTERVAL (14_universal_channels). -/
def Chn.HART_CFG.POLL_INTERVAL (n : Nat) : Nat := chnKey n 0x4 0x07

/-- +0x4:08 LINK_STATE (14_universal_channels). -/
def Chn.HART_CFG.LINK_STATE (n : Nat) : Nat := chnKey n 0x4 0x08

/-- +0x4:09 UNIQUE_ID (14_universal_channels). -/
def Chn.HART_CFG.UNIQUE_ID (n : Nat) : Nat := chnKey n 0x4 0x09

/-- +0x4:0A LOOP_CURRENT (14_universal_channels). -/
def Chn.HART_CFG.LOOP_CURRENT (n : Nat) : Nat := chnKey n 0x4 0x0A

/-- +0x4:0B PV (14_universal_channels). -/
def Chn.HART_CFG.PV (n : Nat) : Nat := chnKey n 0x4 0x0B

/-- +0x4:0C SV (14_universal_channels). -/
def Chn.HART_CFG.SV (n : Nat) : Nat := chnKey n 0x4 0x0C

/-- +0x4:0D TV (14_universal_channels). -/
def Chn.HART_CFG.TV (n : Nat) : Nat := chnKey n 0x4 0x0D

/-- +0x4:0E QV (14_universal_channels). -/
def Chn.HART_CFG.QV (n : Nat) : Nat := chnKey n 0x4 0x0E

/-- +0x4:0F UNITS (14_universal_channels). -/
def Chn.HART_CFG.UNITS (n : Nat) : Nat := chnKey n 0x4 0x0F

/-- +0x4:10 DEVICE_STATUS (14_universal_channels). -/
def Chn.HART_CFG.DEVICE_STATUS (n : Nat) : Nat := chnKey n 0x4 0x10

/-- +0x4:11 DATA_AGE (14_universal_channels). -/
def Chn.HART_CFG.DATA_AGE (n : Nat) : Nat := chnKey n 0x4 0x11

/-- +0x4:12 TRANSACTIONS (14_universal_channels). -/
def Chn.HART_CFG.TRANSACTIONS (n : Nat) : Nat := chnKey n 0x4 0x12

/-- +0x4:13 HART_FAILURES (14_universal_channels). -/
def Chn.HART_CFG.HART_FAILURES (n : Nat) : Nat := chnKey n 0x4 0x13

/-- +0x5:01 REQUEST (14_universal_channels). -/
def Chn.HART_XFER.REQUEST (n : Nat) : Nat := chnKey n 0x5 0x01

/-- +0x5:02 RESPONSE (14_universal_channels). -/
def Chn.HART_XFER.RESPONSE (n : Nat) : Nat := chnKey n 0x5 0x02

/-- +0x5:03 XFER_STATE (14_universal_channels). -/
def Chn.HART_XFER.XFER_STATE (n : Nat) : Nat := chnKey n 0x5 0x03

/-- +0xF:01 COMMAND (14_universal_channels). -/
def Chn.CH_CTRL.COMMAND (n : Nat) : Nat := chnKey n 0xF 0x01

/-- +0xF:02 RESULT (14_universal_channels). -/
def Chn.CH_CTRL.RESULT (n : Nat) : Nat := chnKey n 0xF 0x02

/-- +0xF:03 TEST_RESULT (14_universal_channels). -/
def Chn.CH_CTRL.TEST_RESULT (n : Nat) : Nat := chnKey n 0xF 0x03

/-- :01 ENABLE (15_can_twowire). -/
def Can.ENABLE (n : Nat) : Nat := canKey n 0x01

/-- :02 NODE_ID (15_can_twowire). -/
def Can.NODE_ID (n : Nat) : Nat := canKey n 0x02

/-- :03 NOMINAL_RATE (15_can_twowire). -/
def Can.NOMINAL_RATE (n : Nat) : Nat := canKey n 0x03

/-- :04 DATA_RATE (15_can_twowire). -/
def Can.DATA_RATE (n : Nat) : Nat := canKey n 0x04

/-- :05 FD_ENABLE (15_can_twowire). -/
def Can.FD_ENABLE (n : Nat) : Nat := canKey n 0x05

/-- :06 TPDO_MASK (15_can_twowire). -/
def Can.TPDO_MASK (n : Nat) : Nat := canKey n 0x06

/-- :07 RPDO_MASK (15_can_twowire). -/
def Can.RPDO_MASK (n : Nat) : Nat := canKey n 0x07

/-- :08 BUSOFF_DELAY (15_can_twowire). -/
def Can.BUSOFF_DELAY (n : Nat) : Nat := canKey n 0x08

/-- :09 FLUSH (15_can_twowire). -/
def Can.FLUSH (n : Nat) : Nat := canKey n 0x09

/-- :0A STATE (15_can_twowire). -/
def Can.STATE (n : Nat) : Nat := canKey n 0x0A

/-- :0B TEC (15_can_twowire). -/
def Can.TEC (n : Nat) : Nat := canKey n 0x0B

/-- :0C REC (15_can_twowire). -/
def Can.REC (n : Nat) : Nat := canKey n 0x0C

/-- :0D FIFO_LEVEL (15_can_twowire). -/
def Can.FIFO_LEVEL (n : Nat) : Nat := canKey n 0x0D

/-- :0E FLAGS (15_can_twowire). -/
def Can.FLAGS (n : Nat) : Nat := canKey n 0x0E

/-- :0F TX_FRAMES (15_can_twowire). -/
def Can.TX_FRAMES (n : Nat) : Nat := canKey n 0x0F

/-- :10 RX_FRAMES (15_can_twowire). -/
def Can.RX_FRAMES (n : Nat) : Nat := canKey n 0x10

/-- :11 TX_DROPPED (15_can_twowire). -/
def Can.TX_DROPPED (n : Nat) : Nat := canKey n 0x11

/-- :12 BUS_OFFS (15_can_twowire). -/
def Can.BUS_OFFS (n : Nat) : Nat := canKey n 0x12

/-- :13 CANCELLED (15_can_twowire). -/
def Can.CANCELLED (n : Nat) : Nat := canKey n 0x13

/-- :14 HEAD_WAIT_MAX (15_can_twowire). -/
def Can.HEAD_WAIT_MAX (n : Nat) : Nat := canKey n 0x14

/-- 0x2708:01 ENABLE (15_can_twowire). -/
def Obj.WAKE_FRAME.ENABLE : Nat := 0x270801

/-- 0x2708:02 BUS (15_can_twowire). -/
def Obj.WAKE_FRAME.BUS : Nat := 0x270802

/-- 0x2708:03 ID (15_can_twowire). -/
def Obj.WAKE_FRAME.ID : Nat := 0x270803

/-- 0x2708:04 ID_MASK (15_can_twowire). -/
def Obj.WAKE_FRAME.ID_MASK : Nat := 0x270804

/-- 0x2708:05 DATA (15_can_twowire). -/
def Obj.WAKE_FRAME.DATA : Nat := 0x270805

/-- 0x2708:06 DATA_MASK (15_can_twowire). -/
def Obj.WAKE_FRAME.DATA_MASK : Nat := 0x270806

/-- 0x2708:07 WAKES (15_can_twowire). -/
def Obj.WAKE_FRAME.WAKES : Nat := 0x270807

/-- 0x2600:01 ENABLE (15_can_twowire). -/
def Obj.TWA_CFG.ENABLE : Nat := 0x260001

/-- 0x2600:02 SPEED (15_can_twowire). -/
def Obj.TWA_CFG.SPEED : Nat := 0x260002

/-- 0x2600:03 GLITCH (15_can_twowire). -/
def Obj.TWA_CFG.GLITCH : Nat := 0x260003

/-- 0x2600:04 CLK_LOW_TIMEOUT (15_can_twowire). -/
def Obj.TWA_CFG.CLK_LOW_TIMEOUT : Nat := 0x260004

/-- 0x2600:05 DATA_LOW_TIMEOUT (15_can_twowire). -/
def Obj.TWA_CFG.DATA_LOW_TIMEOUT : Nat := 0x260005

/-- 0x2600:06 TRIGGER (15_can_twowire). -/
def Obj.TWA_CFG.TRIGGER : Nat := 0x260006

/-- 0x2600:07 SLOT_OK (15_can_twowire). -/
def Obj.TWA_CFG.SLOT_OK : Nat := 0x260007

/-- 0x2600:08 FLAGS (15_can_twowire). -/
def Obj.TWA_CFG.FLAGS : Nat := 0x260008

/-- 0x2600:09 TRANSFERS (15_can_twowire). -/
def Obj.TWA_CFG.TRANSFERS : Nat := 0x260009

/-- 0x2600:0A FAILURES (15_can_twowire). -/
def Obj.TWA_CFG.FAILURES : Nat := 0x26000A

/-- 0x2600:11 SLOT_1 and on (15_can_twowire). -/
def Obj.TWA_CFG.SLOT (i : Nat) : Nat := 0x260011 + (i - 1)

/-- 0x2600:21 DATA_1 and on (15_can_twowire). -/
def Obj.TWA_CFG.DATA (i : Nat) : Nat := 0x260021 + (i - 1)

/-- 0x2600:31 AGE_1 and on (15_can_twowire). -/
def Obj.TWA_CFG.AGE (i : Nat) : Nat := 0x260031 + (i - 1)

/-- 0x2610:01 ENABLE (15_can_twowire). -/
def Obj.TWB_CFG.ENABLE : Nat := 0x261001

/-- 0x2610:02 WINDOW (15_can_twowire). -/
def Obj.TWB_CFG.WINDOW : Nat := 0x261002

/-- 0x2610:03 ADDRESS (15_can_twowire). -/
def Obj.TWB_CFG.ADDRESS : Nat := 0x261003

/-- 0x2610:04 GLITCH (15_can_twowire). -/
def Obj.TWB_CFG.GLITCH : Nat := 0x261004

/-- 0x2610:05 CLK_LOW_TIMEOUT (15_can_twowire). -/
def Obj.TWB_CFG.CLK_LOW_TIMEOUT : Nat := 0x261005

/-- 0x2610:06 DATA_LOW_TIMEOUT (15_can_twowire). -/
def Obj.TWB_CFG.DATA_LOW_TIMEOUT : Nat := 0x261006

/-- 0x2610:07 ALERT_ADDRESS (15_can_twowire). -/
def Obj.TWB_CFG.ALERT_ADDRESS : Nat := 0x261007

/-- 0x2610:08 ALERT_MASK (15_can_twowire). -/
def Obj.TWB_CFG.ALERT_MASK : Nat := 0x261008

/-- 0x2610:09 ALERT_SPEED (15_can_twowire). -/
def Obj.TWB_CFG.ALERT_SPEED : Nat := 0x261009

/-- 0x2610:0A ALERT_RETRIES (15_can_twowire). -/
def Obj.TWB_CFG.ALERT_RETRIES : Nat := 0x26100A

/-- 0x2610:0B ALERT_PENDING (15_can_twowire). -/
def Obj.TWB_CFG.ALERT_PENDING : Nat := 0x26100B

/-- 0x2610:0C FLAGS (15_can_twowire). -/
def Obj.TWB_CFG.FLAGS : Nat := 0x26100C

/-- 0x2610:0D REQUESTS (15_can_twowire). -/
def Obj.TWB_CFG.REQUESTS : Nat := 0x26100D

/-- 0x2610:0E ALERTS_SENT (15_can_twowire). -/
def Obj.TWB_CFG.ALERTS_SENT : Nat := 0x26100E

/-- 0x2200:01 FLUSH (16_event_recorder). -/
def Obj.RECORDER_CTRL.FLUSH : Nat := 0x220001

/-- 0x2200:02 STATE (16_event_recorder). -/
def Obj.RECORDER_CTRL.STATE : Nat := 0x220002

/-- 0x2200:03 CIRC_MIN_BLOCKS (16_event_recorder). -/
def Obj.RECORDER_CTRL.CIRC_MIN_BLOCKS : Nat := 0x220003

/-- 0x2200:04 PERM_RECORDS (16_event_recorder). -/
def Obj.RECORDER_CTRL.PERM_RECORDS : Nat := 0x220004

/-- 0x2200:05 PERM_BLOCKS (16_event_recorder). -/
def Obj.RECORDER_CTRL.PERM_BLOCKS : Nat := 0x220005

/-- 0x2200:06 CIRC_BLOCKS (16_event_recorder). -/
def Obj.RECORDER_CTRL.CIRC_BLOCKS : Nat := 0x220006

/-- 0x2200:07 RETIRED (16_event_recorder). -/
def Obj.RECORDER_CTRL.RETIRED : Nat := 0x220007

/-- 0x2200:08 ERASE_MAX (16_event_recorder). -/
def Obj.RECORDER_CTRL.ERASE_MAX : Nat := 0x220008

/-- 0x2200:09 BUFFER_LEVEL (16_event_recorder). -/
def Obj.RECORDER_CTRL.BUFFER_LEVEL : Nat := 0x220009

/-- 0x2200:0A BUFFER_PEAK (16_event_recorder). -/
def Obj.RECORDER_CTRL.BUFFER_PEAK : Nat := 0x22000A

/-- 0x2200:0B DROPPED (16_event_recorder). -/
def Obj.RECORDER_CTRL.DROPPED : Nat := 0x22000B

/-- 0x2200:0C LOST (16_event_recorder). -/
def Obj.RECORDER_CTRL.LOST : Nat := 0x22000C

/-- 0x2200:0D FLUSHES (16_event_recorder). -/
def Obj.RECORDER_CTRL.FLUSHES : Nat := 0x22000D

/-- 0x2200:0E ERASES (16_event_recorder). -/
def Obj.RECORDER_CTRL.ERASES : Nat := 0x22000E

/-- 0x2200:0F FLAGS (16_event_recorder). -/
def Obj.RECORDER_CTRL.FLAGS : Nat := 0x22000F

/-- 0x2201:01 FIRST (16_event_recorder). -/
def Obj.RECORDER_WINDOW.FIRST : Nat := 0x220101

/-- 0x2201:02 PERM_LAST (16_event_recorder). -/
def Obj.RECORDER_WINDOW.PERM_LAST : Nat := 0x220102

/-- 0x2201:03 CIRC_FIRST (16_event_recorder). -/
def Obj.RECORDER_WINDOW.CIRC_FIRST : Nat := 0x220103

/-- 0x2201:04 DURABLE (16_event_recorder). -/
def Obj.RECORDER_WINDOW.DURABLE : Nat := 0x220104

/-- 0x2201:05 LAST (16_event_recorder). -/
def Obj.RECORDER_WINDOW.LAST : Nat := 0x220105

/-- 0x2201:06 SNAP_FIRST (16_event_recorder). -/
def Obj.RECORDER_WINDOW.SNAP_FIRST : Nat := 0x220106

/-- 0x2201:07 SNAP_COUNT (16_event_recorder). -/
def Obj.RECORDER_WINDOW.SNAP_COUNT : Nat := 0x220107

/-- 0x2201:08 READ_COUNT (16_event_recorder). -/
def Obj.RECORDER_WINDOW.READ_COUNT : Nat := 0x220108

/-- 0x2201:09 SNAP_STATE (16_event_recorder). -/
def Obj.RECORDER_WINDOW.SNAP_STATE : Nat := 0x220109

/-- 0x2201:0A SNAP_LAST (16_event_recorder). -/
def Obj.RECORDER_WINDOW.SNAP_LAST : Nat := 0x22010A

/-- 0x2201:0B CURSOR (16_event_recorder). -/
def Obj.RECORDER_WINDOW.CURSOR : Nat := 0x22010B

/-- 0x2202:01 READ (16_event_recorder). -/
def Obj.RECORDER_READ.READ : Nat := 0x220201

/-- 0x2300:01 COMMAND (17_firmware_update). -/
def Obj.UPDATE_CTRL.COMMAND : Nat := 0x230001

/-- 0x2300:02 LENGTH (17_firmware_update). -/
def Obj.UPDATE_CTRL.LENGTH : Nat := 0x230002

/-- 0x2300:03 STATE (17_firmware_update). -/
def Obj.UPDATE_CTRL.STATE : Nat := 0x230003

/-- 0x2300:04 RESULT (17_firmware_update). -/
def Obj.UPDATE_CTRL.RESULT : Nat := 0x230004

/-- 0x2300:05 REJECT (17_firmware_update). -/
def Obj.UPDATE_CTRL.REJECT : Nat := 0x230005

/-- 0x2300:06 RECEIVED (17_firmware_update). -/
def Obj.UPDATE_CTRL.RECEIVED : Nat := 0x230006

/-- 0x2300:07 TRIAL_LEFT (17_firmware_update). -/
def Obj.UPDATE_CTRL.TRIAL_LEFT : Nat := 0x230007

/-- 0x2300:08 FUSES (17_firmware_update). -/
def Obj.UPDATE_CTRL.FUSES : Nat := 0x230008

/-- 0x2300:09 OWNER_KEY (17_firmware_update). -/
def Obj.UPDATE_CTRL.OWNER_KEY : Nat := 0x230009

/-- 0x2300:0A OWNER_KEY_CHECK (17_firmware_update). -/
def Obj.UPDATE_CTRL.OWNER_KEY_CHECK : Nat := 0x23000A

/-- 0x2300:0B LAST_PAUSE (17_firmware_update). -/
def Obj.UPDATE_CTRL.LAST_PAUSE : Nat := 0x23000B

/-- 0x2300:0C RUNNING_FROM (17_firmware_update). -/
def Obj.UPDATE_CTRL.RUNNING_FROM : Nat := 0x23000C

/-- 0x2301:01 DATA (17_firmware_update). -/
def Obj.UPDATE_DATA.DATA : Nat := 0x230101

/-- 0x2302:01 ACTIVE_SLOT (17_firmware_update). -/
def Obj.SLOT_INFO.ACTIVE_SLOT : Nat := 0x230201

/-- 0x2302:02 STATE_A (17_firmware_update). -/
def Obj.SLOT_INFO.STATE_A : Nat := 0x230202

/-- 0x2302:07 STATE_B (17_firmware_update). -/
def Obj.SLOT_INFO.STATE_B : Nat := 0x230207

/-- 0x2302:03 VERSION_A (17_firmware_update). -/
def Obj.SLOT_INFO.VERSION_A : Nat := 0x230203

/-- 0x2302:08 VERSION_B (17_firmware_update). -/
def Obj.SLOT_INFO.VERSION_B : Nat := 0x230208

/-- 0x2302:04 SECURITY_A (17_firmware_update). -/
def Obj.SLOT_INFO.SECURITY_A : Nat := 0x230204

/-- 0x2302:09 SECURITY_B (17_firmware_update). -/
def Obj.SLOT_INFO.SECURITY_B : Nat := 0x230209

/-- 0x2302:05 SERIAL_A (17_firmware_update). -/
def Obj.SLOT_INFO.SERIAL_A : Nat := 0x230205

/-- 0x2302:0A SERIAL_B (17_firmware_update). -/
def Obj.SLOT_INFO.SERIAL_B : Nat := 0x23020A

/-- 0x2302:06 IFLAGS_A (17_firmware_update). -/
def Obj.SLOT_INFO.IFLAGS_A : Nat := 0x230206

/-- 0x2302:0B IFLAGS_B (17_firmware_update). -/
def Obj.SLOT_INFO.IFLAGS_B : Nat := 0x23020B

/-- 0x2302:0C SAFETY_DIGEST_LO (17_firmware_update). -/
def Obj.SLOT_INFO.SAFETY_DIGEST_LO : Nat := 0x23020C

/-- 0x2010:01 UNIT_SERIAL (18_electrical_mechanical). -/
def Obj.IDENTITY_EXT.UNIT_SERIAL : Nat := 0x201001

/-- 0x2010:02 HW_TYPE (18_electrical_mechanical). -/
def Obj.IDENTITY_EXT.HW_TYPE : Nat := 0x201002

/-- 0x2010:03 ORDERING_CODE (18_electrical_mechanical). -/
def Obj.IDENTITY_EXT.ORDERING_CODE : Nat := 0x201003

/-- 0x2010:04 MANUFACTURED (18_electrical_mechanical). -/
def Obj.IDENTITY_EXT.MANUFACTURED : Nat := 0x201004

/-- 0x2010:05 FACTORY_BAD_BLOCKS (18_electrical_mechanical). -/
def Obj.IDENTITY_EXT.FACTORY_BAD_BLOCKS : Nat := 0x201005

/-- 0x2010:06 TS_ENTRY_LATENCY (18_electrical_mechanical). -/
def Obj.IDENTITY_EXT.TS_ENTRY_LATENCY : Nat := 0x201006

/-- DIAG (01_architecture). -/
def rowsDiag : List ObjRow := [
  ⟨.fix, 0x5F00, 0x00, 0x00, .u8, .const, .n 8, .any, false⟩,
  ⟨.fix, 0x5F00, 0x01, 0x01, .real, .ro, .r (some (0)), .any, false⟩,
  ⟨.fix, 0x5F00, 0x02, 0x02, .u32, .ro, .n 0, .any, false⟩,
  ⟨.fix, 0x5F00, 0x03, 0x03, .u32, .ro, .n 0, .any, false⟩,
  ⟨.fix, 0x5F00, 0x04, 0x04, .u32, .ro, .n 0, .any, false⟩,
  ⟨.fix, 0x5F00, 0x05, 0x05, .u32, .ro, .n 0, .any, false⟩,
  ⟨.fix, 0x5F00, 0x06, 0x06, .u32, .ro, .n 0, .any, false⟩,
  ⟨.fix, 0x5F00, 0x07, 0x07, .u32, .ro, .n 0, .any, false⟩,
  ⟨.fix, 0x5F00, 0x08, 0x08, .u32, .ro, .n 0, .any, false⟩]

/-- MODE_CTRL (02_modes_power). -/
def rowsModeCtrl : List ObjRow := [
  ⟨.fix, 0x2000, 0x00, 0x00, .u8, .const, .n 3, .any, false⟩,
  ⟨.fix, 0x2000, 0x01, 0x01, .u8, .rw, .n 0, .nats [(1, 1), (2, 2), (3, 3), (4, 4), (6, 6)], false⟩,
  ⟨.fix, 0x2000, 0x02, 0x02, .u8, .ro, .n 0, .any, false⟩,
  ⟨.fix, 0x2000, 0x03, 0x03, .u32, .ro, .n 0, .any, false⟩]

/-- MODE_STATUS (02_modes_power). -/
def rowsModeStatus : List ObjRow := [
  ⟨.fix, 0x2001, 0x00, 0x00, .u8, .const, .n 5, .any, false⟩,
  ⟨.fix, 0x2001, 0x01, 0x01, .u8, .ro, .n 0, .any, false⟩,
  ⟨.fix, 0x2001, 0x02, 0x02, .u8, .ro, .n 0, .any, false⟩,
  ⟨.fix, 0x2001, 0x03, 0x03, .u8, .ro, .n 0, .any, false⟩,
  ⟨.fix, 0x2001, 0x04, 0x04, .u8, .ro, .n 0, .any, false⟩,
  ⟨.fix, 0x2001, 0x05, 0x05, .u32, .ro, .n 0, .any, false⟩]

/-- RESET_LADDER (02_modes_power). -/
def rowsResetLadder : List ObjRow := [
  ⟨.fix, 0x2002, 0x00, 0x00, .u8, .const, .n 5, .any, false⟩,
  ⟨.fix, 0x2002, 0x01, 0x01, .u32, .wo, .n 0, .any, false⟩,
  ⟨.fix, 0x2002, 0x02, 0x02, .u8, .ro, .n 0, .any, false⟩,
  ⟨.fix, 0x2002, 0x03, 0x03, .u8, .ro, .n 0, .any, false⟩,
  ⟨.fix, 0x2002, 0x04, 0x04, .u32, .ro, .n 0, .any, false⟩,
  ⟨.fix, 0x2002, 0x05, 0x05, .u8, .ro, .n 0, .any, false⟩]

/-- SUPPLY_STATUS (02_modes_power). -/
def rowsSupplyStatus : List ObjRow := [
  ⟨.fix, 0x2008, 0x00, 0x00, .u8, .const, .n 11, .any, false⟩,
  ⟨.fix, 0x2008, 0x01, 0x01, .u32, .ro, .n 0, .any, false⟩,
  ⟨.fix, 0x2008, 0x02, 0x02, .real, .ro, .r none, .any, false⟩,
  ⟨.fix, 0x2008, 0x03, 0x03, .real, .ro, .r none, .any, false⟩,
  ⟨.fix, 0x2008, 0x04, 0x04, .real, .ro, .r none, .any, false⟩,
  ⟨.fix, 0x2008, 0x05, 0x05, .real, .ro, .r none, .any, false⟩,
  ⟨.fix, 0x2008, 0x06, 0x06, .real, .ro, .r none, .any, false⟩,
  ⟨.fix, 0x2008, 0x07, 0x07, .real, .rwL, .r (some (27/10)), .reals [(12/5, 7/2)], false⟩,
  ⟨.fix, 0x2008, 0x08, 0x08, .real, .rwL, .r (some (1/200)), .reals [(1/1000, 1/50)], false⟩,
  ⟨.fix, 0x2008, 0x09, 0x09, .u32, .rw, .n 0, .mask 0x3F, true⟩,
  ⟨.fix, 0x2008, 0x0A, 0x0A, .u32, .ro, .n 0, .any, false⟩,
  ⟨.fix, 0x2008, 0x0B, 0x0B, .u32, .ro, .n 0, .any, false⟩]

/-- SAFETY_CFG (03_object_dictionary). -/
def rowsSafetyCfg : List ObjRow := [
  ⟨.fix, 0x2900, 0x01, 0x01, .u32, .rwL, .n 0, .any, false⟩,
  ⟨.fix, 0x2900, 0x02, 0x02, .u8, .ro, .n 0, .any, false⟩,
  ⟨.fix, 0x2900, 0x03, 0x03, .u32, .ro, .n 0, .any, false⟩,
  ⟨.fix, 0x2900, 0x04, 0x04, .u8, .wo, .n 0, .nats [(1, 1)], false⟩,
  ⟨.fix, 0x2900, 0x00, 0x00, .u8, .const, .n 26, .any, false⟩,
  ⟨.fix, 0x2900, 0x05, 0x05, .u32, .ro, .n 0, .any, false⟩,
  ⟨.fix, 0x2900, 0x06, 0x06, .u16, .rwS, .n 300, .nats [(100, 1000)], false⟩,
  ⟨.fix, 0x2900, 0x07, 0x07, .u16, .rwS, .n 250, .nats [(100, 1000)], false⟩,
  ⟨.fix, 0x2900, 0x08, 0x08, .real, .rwS, .r (some (2000)), .reals [(10, 100000)], false⟩,
  ⟨.fix, 0x2900, 0x09, 0x09, .u16, .rwS, .n 2000, .nats [(10, 10000)], false⟩,
  ⟨.fix, 0x2900, 0x0A, 0x0A, .real, .rwS, .r (some (5)), .reals [(1/2, 100)], false⟩,
  ⟨.fix, 0x2900, 0x0B, 0x0B, .real, .rwS, .r (some (50)), .reals [(1, 1000)], false⟩,
  ⟨.fix, 0x2900, 0x0C, 0x0C, .real, .rwL, .r (some (500)), .reals [(1, 100000)], false⟩,
  ⟨.fix, 0x2900, 0x0D, 0x0D, .real, .rwL, .r (some (20)), .reals [(1, 200)], false⟩,
  ⟨.fix, 0x2900, 0x0E, 0x0E, .real, .rwS, .r (some (20)), .reals [(1, 200)], false⟩,
  ⟨.fix, 0x2900, 0x0F, 0x0F, .u16, .rwS, .n 5000, .nats [(100, 30000)], false⟩,
  ⟨.fix, 0x2900, 0x10, 0x10, .real, .rwL, .r (some (2)), .reals [(1/2, 50)], false⟩,
  ⟨.fix, 0x2900, 0x11, 0x11, .real, .rwL, .r (some (20)), .reals [(5, 1000)], false⟩,
  ⟨.fix, 0x2900, 0x12, 0x12, .u16, .rwL, .n 8, .nats [(2, 1000)], false⟩,
  ⟨.fix, 0x2900, 0x13, 0x13, .real, .rwL, .r (some (10)), .reals [(1, 500)], false⟩,
  ⟨.fix, 0x2900, 0x14, 0x14, .real, .rwL, .r (some (3/100)), .reals [(1/200, 1/5)], false⟩,
  ⟨.fix, 0x2900, 0x15, 0x15, .u8, .rwL, .n 3, .nats [(1, 50)], false⟩,
  ⟨.fix, 0x2900, 0x16, 0x16, .u8, .rwL, .n 0, .nats [(0, 0), (1, 1)], false⟩,
  ⟨.fix, 0x2900, 0x17, 0x17, .u8, .rwL, .n 255, .nats [(0, 15), (255, 255)], false⟩,
  ⟨.fix, 0x2900, 0x18, 0x18, .real, .rwL, .r (some (300)), .reals [(1, 100000)], false⟩,
  ⟨.fix, 0x2900, 0x19, 0x19, .real, .rwL, .r (some (150)), .reals [(1, 100000)], false⟩,
  ⟨.fix, 0x2900, 0x1A, 0x1A, .u8, .rwL, .n 0, .nats [(0, 0), (1, 1)], false⟩]

/-- CELL_WINDOW_SEL (03_object_dictionary). -/
def rowsGalCellWindowSel : List ObjRow := [
  ⟨.gal, 0x30, 0x00, 0x00, .u8, .const, .n 1, .any, false⟩,
  ⟨.gal, 0x30, 0x01, 0x01, .u64, .rw, .n 4294967297, .mask 0xFFFFFFFFFFFF, false⟩]

/-- CELL_WINDOW (03_object_dictionary). -/
def rowsGalCellWindow : List ObjRow := [
  ⟨.gal, 0x31, 0x00, 0x00, .u8, .const, .n 1, .any, false⟩,
  ⟨.gal, 0x31, 0x01, 0x01, .domain, .ro, .b [], .any, false⟩]

/-- FAULTS (03_object_dictionary). -/
def rowsGalFaults : List ObjRow := [
  ⟨.gal, 0x38, 0x00, 0x00, .u8, .const, .n 7, .any, false⟩,
  ⟨.gal, 0x38, 0x01, 0x01, .u32, .rw, .n 0, .mask 0x3FF, true⟩,
  ⟨.gal, 0x38, 0x02, 0x02, .u32, .rw, .n 0, .mask 0x1F, true⟩,
  ⟨.gal, 0x38, 0x03, 0x03, .u32, .rw, .n 0, .mask 0x7F, true⟩,
  ⟨.gal, 0x38, 0x04, 0x04, .u32, .rw, .n 0, .mask 0xF, true⟩,
  ⟨.gal, 0x38, 0x05, 0x05, .u32, .rw, .n 0, .mask 0xFF, true⟩,
  ⟨.gal, 0x38, 0x06, 0x06, .u32, .rw, .n 0, .mask 0xFF, true⟩,
  ⟨.gal, 0x38, 0x07, 0x07, .u32, .rw, .n 0, .mask 0x1FF, true⟩]

/-- COUNTERS (03_object_dictionary). -/
def rowsGalCounters : List ObjRow := [
  ⟨.gal, 0x3E, 0x00, 0x00, .u8, .const, .n 37, .any, false⟩,
  ⟨.gal, 0x3E, 0x01, 0x01, .u32, .ro, .n 0, .any, false⟩,
  ⟨.gal, 0x3E, 0x02, 0x02, .u32, .ro, .n 0, .any, false⟩,
  ⟨.gal, 0x3E, 0x03, 0x03, .u32, .ro, .n 0, .any, false⟩,
  ⟨.gal, 0x3E, 0x04, 0x04, .u32, .ro, .n 0, .any, false⟩,
  ⟨.gal, 0x3E, 0x05, 0x05, .u32, .ro, .n 0, .any, false⟩,
  ⟨.gal, 0x3E, 0x06, 0x06, .u32, .ro, .n 0, .any, false⟩,
  ⟨.gal, 0x3E, 0x07, 0x07, .u32, .ro, .n 0, .any, false⟩,
  ⟨.gal, 0x3E, 0x08, 0x08, .u32, .ro, .n 0, .any, false⟩,
  ⟨.gal, 0x3E, 0x09, 0x09, .u32, .ro, .n 0, .any, false⟩,
  ⟨.gal, 0x3E, 0x0A, 0x0A, .u32, .ro, .n 0, .any, false⟩,
  ⟨.gal, 0x3E, 0x0B, 0x0B, .u32, .ro, .n 0, .any, false⟩,
  ⟨.gal, 0x3E, 0x0C, 0x0C, .u32, .ro, .n 0, .any, false⟩,
  ⟨.gal, 0x3E, 0x0D, 0x0D, .u32, .ro, .n 0, .any, false⟩,
  ⟨.gal, 0x3E, 0x0E, 0x0E, .u32, .ro, .n 0, .any, false⟩,
  ⟨.gal, 0x3E, 0x0F, 0x0F, .u32, .ro, .n 0, .any, false⟩,
  ⟨.gal, 0x3E, 0x10, 0x10, .u32, .ro, .n 0, .any, false⟩,
  ⟨.gal, 0x3E, 0x11, 0x11, .u32, .ro, .n 0, .any, false⟩,
  ⟨.gal, 0x3E, 0x12, 0x12, .u32, .ro, .n 0, .any, false⟩,
  ⟨.gal, 0x3E, 0x13, 0x13, .u32, .ro, .n 0, .any, false⟩,
  ⟨.gal, 0x3E, 0x14, 0x14, .u32, .ro, .n 0, .any, false⟩,
  ⟨.gal, 0x3E, 0x15, 0x15, .u32, .ro, .n 0, .any, false⟩,
  ⟨.gal, 0x3E, 0x16, 0x16, .u32, .ro, .n 0, .any, false⟩,
  ⟨.gal, 0x3E, 0x17, 0x17, .u32, .ro, .n 0, .any, false⟩,
  ⟨.gal, 0x3E, 0x18, 0x18, .u32, .ro, .n 0, .any, false⟩,
  ⟨.gal, 0x3E, 0x19, 0x19, .u32, .ro, .n 0, .any, false⟩,
  ⟨.gal, 0x3E, 0x1A, 0x1A, .u32, .ro, .n 0, .any, false⟩,
  ⟨.gal, 0x3E, 0x1B, 0x1B, .u32, .ro, .n 0, .any, false⟩,
  ⟨.gal, 0x3E, 0x1C, 0x1C, .u32, .ro, .n 0, .any, false⟩,
  ⟨.gal, 0x3E, 0x1D, 0x1D, .u32, .ro, .n 0, .any, false⟩,
  ⟨.gal, 0x3E, 0x1E, 0x1E, .u32, .ro, .n 0, .any, false⟩,
  ⟨.gal, 0x3E, 0x1F, 0x1F, .u32, .ro, .n 0, .any, false⟩,
  ⟨.gal, 0x3E, 0x20, 0x20, .u32, .ro, .n 0, .any, false⟩,
  ⟨.gal, 0x3E, 0x21, 0x21, .u32, .ro, .n 0, .any, false⟩,
  ⟨.gal, 0x3E, 0x22, 0x22, .u32, .ro, .n 0, .any, false⟩,
  ⟨.gal, 0x3E, 0x23, 0x23, .u32, .ro, .n 0, .any, false⟩,
  ⟨.gal, 0x3E, 0x24, 0x24, .u32, .ro, .n 0, .any, false⟩,
  ⟨.gal, 0x3E, 0x25, 0x25, .u32, .ro, .n 0, .any, false⟩]

/-- BLOCK_CTRL (03_object_dictionary). -/
def rowsGalBlockCtrl : List ObjRow := [
  ⟨.gal, 0x3F, 0x00, 0x00, .u8, .const, .n 2, .any, false⟩,
  ⟨.gal, 0x3F, 0x01, 0x01, .u8, .wo, .n 0, .nats [(1, 1)], false⟩,
  ⟨.gal, 0x3F, 0x02, 0x02, .u8, .ro, .n 0, .any, false⟩]

/-- STRING_CFG (04_flight_link). -/
def rowsGalStringCfg : List ObjRow := [
  ⟨.gal, 0x0, 0x00, 0x00, .u8, .const, .n 7, .any, false⟩,
  ⟨.gal, 0x0, 0x01, 0x01, .bool, .rwL, .n 0, .nats [(0, 0), (1, 1)], false⟩,
  ⟨.gal, 0x0, 0x02, 0x02, .u16, .rwL, .n 0, .nats [(0, 512)], false⟩,
  ⟨.gal, 0x0, 0x03, 0x03, .u8, .rwL, .n 0, .nats [(0, 39)], false⟩,
  ⟨.gal, 0x0, 0x04, 0x04, .u16, .rwL, .n 0, .any, false⟩,
  ⟨.gal, 0x0, 0x05, 0x05, .u16, .rwL, .n 40, .nats [(30, 200)], false⟩,
  ⟨.gal, 0x0, 0x06, 0x06, .u8, .rwL, .n 1, .nats [(0, 0), (1, 1)], false⟩,
  ⟨.gal, 0x0, 0x07, 0x07, .u8, .wo, .n 0, .nats [(1, 1)], false⟩]

/-- FLIGHT_STATUS (04_flight_link). -/
def rowsGalFlightStatus : List ObjRow := [
  ⟨.gal, 0x1, 0x00, 0x00, .u8, .const, .n 8, .any, false⟩,
  ⟨.gal, 0x1, 0x01, 0x01, .u8, .ro, .n 0, .any, false⟩,
  ⟨.gal, 0x1, 0x02, 0x02, .u8, .ro, .n 0, .any, false⟩,
  ⟨.gal, 0x1, 0x03, 0x03, .u8, .ro, .n 255, .any, false⟩,
  ⟨.gal, 0x1, 0x04, 0x04, .u8, .ro, .n 0, .any, false⟩,
  ⟨.gal, 0x1, 0x05, 0x05, .u32, .ro, .n 0, .any, false⟩,
  ⟨.gal, 0x1, 0x06, 0x06, .u32, .ro, .n 0, .any, false⟩,
  ⟨.gal, 0x1, 0x07, 0x07, .u8, .ro, .n 0, .any, false⟩,
  ⟨.gal, 0x1, 0x08, 0x08, .u16, .ro, .n 0, .any, false⟩]

/-- FLIGHT_NODES (04_flight_link). -/
def rowsGalFlightNodes : List ObjRow := [
  ⟨.gal, 0x2, 0x00, 0x00, .u8, .const, .n 112, .any, false⟩,
  ⟨.gal, 0x2, 0x01, 0x27, .u32, .rwL, .n 0, .mask 0x1FFFFF, false⟩,
  ⟨.gal, 0x2, 0x41, 0x67, .u32, .ro, .n 0, .any, false⟩,
  ⟨.gal, 0x2, 0x70, 0x70, .u8, .wo, .n 0, .nats [(1, 1)], false⟩]

/-- SAMPLE_SCHED (05_flight_sampling). -/
def rowsGalSampleSched : List ObjRow := [
  ⟨.gal, 0x4, 0x00, 0x00, .u8, .const, .n 8, .any, false⟩,
  ⟨.gal, 0x4, 0x01, 0x01, .u16, .rwL, .n 8000, .nats [(6500, 9900)], false⟩,
  ⟨.gal, 0x4, 0x02, 0x02, .real, .rwL, .r (some (1/2)), .reals [(0, 999/1000)], false⟩,
  ⟨.gal, 0x4, 0x03, 0x03, .u16, .ro, .n 65535, .any, false⟩,
  ⟨.gal, 0x4, 0x04, 0x04, .u16, .ro, .n 0, .any, false⟩,
  ⟨.gal, 0x4, 0x05, 0x05, .u8, .ro, .n 0, .any, false⟩,
  ⟨.gal, 0x4, 0x06, 0x06, .real, .ro, .r none, .any, false⟩,
  ⟨.gal, 0x4, 0x07, 0x07, .u8, .rwL, .n 2, .nats [(1, 15)], false⟩,
  ⟨.gal, 0x4, 0x08, 0x08, .u8, .wo, .n 0, .nats [(1, 1)], false⟩]

/-- BALANCE_CFG (05_flight_sampling). -/
def rowsGalBalanceCfg : List ObjRow := [
  ⟨.gal, 0x6, 0x00, 0x00, .u8, .const, .n 10, .any, false⟩,
  ⟨.gal, 0x6, 0x01, 0x01, .u8, .rw, .n 0, .nats [(0, 2)], false⟩,
  ⟨.gal, 0x6, 0x02, 0x02, .real, .rw, .r (some (1/100)), .reals [(1/500, 1/5)], false⟩,
  ⟨.gal, 0x6, 0x03, 0x03, .real, .rw, .r (some (1/250)), .reals [(1/1000, 1/10)], false⟩,
  ⟨.gal, 0x6, 0x04, 0x04, .u8, .rw, .n 8, .nats [(1, 16)], false⟩,
  ⟨.gal, 0x6, 0x05, 0x05, .bool, .rw, .n 1, .nats [(0, 0), (1, 1)], false⟩,
  ⟨.gal, 0x6, 0x06, 0x06, .real, .rwL, .r (some (3/10)), .reals [(1/20, 1)], false⟩,
  ⟨.gal, 0x6, 0x07, 0x07, .real, .rwL, .r (some (40)), .reals [(1, 500)], false⟩,
  ⟨.gal, 0x6, 0x08, 0x08, .real, .rw, .r (some (1/20)), .reals [(1/100, 1/2)], false⟩,
  ⟨.gal, 0x6, 0x09, 0x09, .real, .rw, .r (some (55)), .reals [(20, 80)], false⟩,
  ⟨.gal, 0x6, 0x0A, 0x0A, .u16, .ro, .n 0, .any, false⟩]

/-- BALANCE_TEST (05_flight_sampling). -/
def rowsGalBalanceTest : List ObjRow := [
  ⟨.gal, 0x7, 0x00, 0x00, .u8, .const, .n 8, .any, false⟩,
  ⟨.gal, 0x7, 0x01, 0x01, .u16, .wo, .n 0, .any, false⟩,
  ⟨.gal, 0x7, 0x02, 0x02, .u32, .rw, .n 86400, .nats [(0, 0), (3600, 2592000)], false⟩,
  ⟨.gal, 0x7, 0x03, 0x03, .u8, .ro, .n 0, .any, false⟩,
  ⟨.gal, 0x7, 0x04, 0x04, .u16, .ro, .n 0, .any, false⟩,
  ⟨.gal, 0x7, 0x05, 0x05, .u32, .ro, .n 0, .any, false⟩,
  ⟨.gal, 0x7, 0x06, 0x06, .u16, .ro, .n 0, .any, false⟩,
  ⟨.gal, 0x7, 0x07, 0x07, .real, .rw, .r (some (2)), .reals [(1/2, 50)], false⟩,
  ⟨.gal, 0x7, 0x08, 0x08, .real, .ro, .r none, .any, false⟩]

/-- WATCH_CFG (05_flight_sampling). -/
def rowsWatchCfg : List ObjRow := [
  ⟨.fix, 0x2A00, 0x00, 0x00, .u8, .const, .n 7, .any, false⟩,
  ⟨.fix, 0x2A00, 0x01, 0x01, .u32, .rwL, .n 300, .nats [(30, 86400)], false⟩,
  ⟨.fix, 0x2A00, 0x02, 0x02, .u32, .rwL, .n 4294967295, .any, false⟩,
  ⟨.fix, 0x2A00, 0x03, 0x03, .u32, .rwL, .n 10000, .nats [(1000, 600000)], false⟩,
  ⟨.fix, 0x2A00, 0x04, 0x04, .real, .rwL, .r (some (60)), .reals [(20, 90)], false⟩,
  ⟨.fix, 0x2A00, 0x05, 0x05, .u64, .ro, .n 0, .any, false⟩,
  ⟨.fix, 0x2A00, 0x06, 0x06, .u32, .ro, .n 4294967295, .any, false⟩,
  ⟨.fix, 0x2A00, 0x07, 0x07, .u32, .ro, .n 0, .any, false⟩]

/-- CONV_CFG (06_converter_control). -/
def rowsGalConvCfg : List ObjRow := [
  ⟨.gal, 0x8, 0x00, 0x00, .u8, .const, .n 14, .any, false⟩,
  ⟨.gal, 0x8, 0x01, 0x01, .bool, .rw, .n 0, .nats [(0, 0), (1, 1)], false⟩,
  ⟨.gal, 0x8, 0x02, 0x02, .u8, .rwL, .n 1, .nats [(1, 8)], false⟩,
  ⟨.gal, 0x8, 0x03, 0x03, .u16, .rwL, .n 5000, .nats [(1000, 1000), (1250, 1250), (2000, 2000), (2500, 2500), (5000, 5000)], false⟩,
  ⟨.gal, 0x8, 0x04, 0x04, .u32, .rwL, .n 250000, .nats [(10000, 10000000)], false⟩,
  ⟨.gal, 0x8, 0x05, 0x05, .real, .rwL, .r (some (0)), .reals [(0, 1000)], false⟩,
  ⟨.gal, 0x8, 0x06, 0x06, .real, .rwL, .r (some (0)), .reals [(0, 8000)], false⟩,
  ⟨.gal, 0x8, 0x07, 0x07, .real, .rw, .r (some (2000)), .reals [(1, 100000)], false⟩,
  ⟨.gal, 0x8, 0x08, 0x08, .u16, .rw, .n 32, .nats [(1, 31250)], false⟩,
  ⟨.gal, 0x8, 0x09, 0x09, .u8, .wo, .n 0, .nats [(1, 1)], false⟩,
  ⟨.gal, 0x8, 0x0A, 0x0A, .real, .rw, .r (some (1/10)), .reals [(1/50, 1/2)], false⟩,
  ⟨.gal, 0x8, 0x0B, 0x0B, .real, .rwL, .r (some (85)), .reals [(40, 150)], false⟩,
  ⟨.gal, 0x8, 0x0C, 0x0C, .real, .rwL, .r (some (90)), .reals [(40, 150)], false⟩,
  ⟨.gal, 0x8, 0x0D, 0x0D, .real, .rwL, .r (some (105)), .reals [(45, 160)], false⟩,
  ⟨.gal, 0x8, 0x0E, 0x0E, .real, .rwL, .r (some (5)), .reals [(1, 20)], false⟩]

/-- CONV_REFS (06_converter_control). -/
def rowsGalConvRefs : List ObjRow := [
  ⟨.gal, 0x9, 0x00, 0x00, .u8, .const, .n 14, .any, false⟩,
  ⟨.gal, 0x9, 0x01, 0x01, .u8, .ro, .n 0, .any, false⟩,
  ⟨.gal, 0x9, 0x02, 0x02, .u8, .ro, .n 0, .any, false⟩,
  ⟨.gal, 0x9, 0x03, 0x03, .real, .ro, .r (some (0)), .any, false⟩,
  ⟨.gal, 0x9, 0x04, 0x04, .real, .ro, .r (some (0)), .any, false⟩,
  ⟨.gal, 0x9, 0x05, 0x0C, .i32, .ro, .i 0, .any, false⟩,
  ⟨.gal, 0x9, 0x0D, 0x0D, .real, .ro, .r none, .any, false⟩,
  ⟨.gal, 0x9, 0x0E, 0x0E, .u32, .ro, .n 0, .any, false⟩]

/-- LOOP_LIMITS (06_converter_control). -/
def rowsGalLoopLimits : List ObjRow := [
  ⟨.gal, 0xB, 0x00, 0x00, .u8, .const, .n 9, .any, false⟩,
  ⟨.gal, 0xB, 0x01, 0x01, .real, .rw, .r (some (0)), .reals [(0, 8000)], false⟩,
  ⟨.gal, 0xB, 0x02, 0x02, .real, .rw, .r (some (0)), .reals [(0, 8000)], false⟩,
  ⟨.gal, 0xB, 0x03, 0x03, .real, .rw, .r (some (71/20)), .reals [(2, 9/2)], false⟩,
  ⟨.gal, 0xB, 0x04, 0x04, .real, .rw, .r (some (14/5)), .reals [(3/2, 4)], false⟩,
  ⟨.gal, 0xB, 0x05, 0x05, .real, .rw, .r (some (19/20)), .reals [(1/2, 1)], false⟩,
  ⟨.gal, 0xB, 0x06, 0x06, .real, .rw, .r (some (1/20)), .reals [(0, 1/2)], false⟩,
  ⟨.gal, 0xB, 0x07, 0x07, .real, .rw, .r (some (1/50)), .reals [(1/200, 1/5)], false⟩,
  ⟨.gal, 0xB, 0x08, 0x08, .real, .rw, .r (some (1500)), .reals [(100, 2000)], false⟩,
  ⟨.gal, 0xB, 0x09, 0x09, .real, .rw, .r (some (1000)), .reals [(100, 2000)], false⟩]

/-- LOOP_PARAMS (06_converter_control). -/
def rowsGalLoopParams : List ObjRow := [
  ⟨.gal, 0xA, 0x00, 0x00, .u8, .const, .n 14, .any, false⟩,
  ⟨.gal, 0xA, 0x01, 0x01, .real, .rwL, .r (some (1000)), .reals [(0, 1000000)], false⟩,
  ⟨.gal, 0xA, 0x02, 0x02, .real, .rwL, .r (some (100000)), .reals [(0, 100000000)], false⟩,
  ⟨.gal, 0xA, 0x03, 0x03, .real, .rwL, .r (some (1000)), .reals [(0, 1000000)], false⟩,
  ⟨.gal, 0xA, 0x04, 0x04, .real, .rwL, .r (some (100000)), .reals [(0, 100000000)], false⟩,
  ⟨.gal, 0xA, 0x05, 0x05, .real, .rwL, .r (some (1/2)), .reals [(0, 10)], false⟩,
  ⟨.gal, 0xA, 0x06, 0x06, .real, .rwL, .r (some (500)), .reals [(0, 100000)], false⟩,
  ⟨.gal, 0xA, 0x07, 0x07, .real, .rwL, .r (some (20)), .reals [(0, 10000)], false⟩,
  ⟨.gal, 0xA, 0x08, 0x08, .real, .rwL, .r (some (2000)), .reals [(0, 1000000)], false⟩,
  ⟨.gal, 0xA, 0x09, 0x09, .real, .rwL, .r (some (1/2)), .reals [(0, 10)], false⟩,
  ⟨.gal, 0xA, 0x0A, 0x0A, .real, .rwL, .r (some (500)), .reals [(0, 100000)], false⟩,
  ⟨.gal, 0xA, 0x0B, 0x0B, .real, .rwL, .r (some (1/2)), .reals [(0, 10)], false⟩,
  ⟨.gal, 0xA, 0x0C, 0x0C, .real, .rwL, .r (some (500)), .reals [(0, 100000)], false⟩,
  ⟨.gal, 0xA, 0x0D, 0x0D, .real, .rwL, .r (some (1)), .reals [(1/100, 100)], false⟩,
  ⟨.gal, 0xA, 0x0E, 0x0E, .real, .rwL, .r (some (100)), .reals [(1, 10000)], false⟩]

/-- FOLDBACK (06_converter_control). -/
def rowsGalFoldback : List ObjRow := [
  ⟨.gal, 0xE, 0x00, 0x00, .u8, .const, .n 8, .any, false⟩,
  ⟨.gal, 0xE, 0x01, 0x01, .real, .rwL, .r (some (11/4)), .reals [(3/2, 4)], false⟩,
  ⟨.gal, 0xE, 0x02, 0x02, .real, .rwL, .r (some (5/2)), .reals [(3/2, 4)], false⟩,
  ⟨.gal, 0xE, 0x03, 0x03, .real, .rwL, .r (some (18/5)), .reals [(2, 23/5)], false⟩,
  ⟨.gal, 0xE, 0x04, 0x04, .real, .rwL, .r (some (37/10)), .reals [(2, 23/5)], false⟩,
  ⟨.gal, 0xE, 0x05, 0x05, .real, .rwL, .r (some (1/10)), .reals [(0, 1)], false⟩,
  ⟨.gal, 0xE, 0x06, 0x06, .u16, .rwL, .n 32, .nats [(1, 31250)], false⟩,
  ⟨.gal, 0xE, 0x07, 0x07, .real, .ro, .r none, .any, false⟩,
  ⟨.gal, 0xE, 0x08, 0x08, .u8, .ro, .n 0, .any, false⟩]

/-- LOOP_STATUS (06_converter_control). -/
def rowsGalLoopStatus : List ObjRow := [
  ⟨.gal, 0xC, 0x00, 0x00, .u8, .const, .n 16, .any, false⟩,
  ⟨.gal, 0xC, 0x01, 0x01, .u8, .ro, .n 0, .any, false⟩,
  ⟨.gal, 0xC, 0x02, 0x02, .i8, .ro, .i 0, .any, false⟩,
  ⟨.gal, 0xC, 0x03, 0x03, .u8, .ro, .n 0, .any, false⟩,
  ⟨.gal, 0xC, 0x04, 0x04, .real, .ro, .r (some (0)), .any, false⟩,
  ⟨.gal, 0xC, 0x05, 0x05, .bool, .ro, .n 0, .any, false⟩,
  ⟨.gal, 0xC, 0x06, 0x06, .real, .ro, .r (some (0)), .any, false⟩,
  ⟨.gal, 0xC, 0x07, 0x0F, .real, .ro, .r none, .any, false⟩,
  ⟨.gal, 0xC, 0x10, 0x10, .u8, .ro, .n 0, .any, false⟩]

/-- TELEMETRY (06_converter_control). -/
def rowsGalTelemetry : List ObjRow := [
  ⟨.gal, 0x10, 0x00, 0x00, .u8, .const, .n 18, .any, false⟩,
  ⟨.gal, 0x10, 0x01, 0x03, .real, .ro, .r none, .any, false⟩,
  ⟨.gal, 0x10, 0x04, 0x06, .real, .ro, .r none, .any, false⟩,
  ⟨.gal, 0x10, 0x07, 0x09, .real, .ro, .r none, .any, false⟩,
  ⟨.gal, 0x10, 0x0A, 0x0C, .real, .ro, .r none, .any, false⟩,
  ⟨.gal, 0x10, 0x0D, 0x0D, .real, .ro, .r none, .any, false⟩,
  ⟨.gal, 0x10, 0x0E, 0x0E, .real, .ro, .r none, .any, false⟩,
  ⟨.gal, 0x10, 0x0F, 0x0F, .real, .ro, .r none, .any, false⟩,
  ⟨.gal, 0x10, 0x10, 0x10, .u32, .ro, .n 0, .any, false⟩,
  ⟨.gal, 0x10, 0x11, 0x11, .u32, .ro, .n 0, .any, false⟩,
  ⟨.gal, 0x10, 0x12, 0x12, .u32, .ro, .n 0, .any, false⟩]

/-- PHASE_TELEM (06_converter_control). -/
def rowsGalPhaseTelem : List ObjRow := [
  ⟨.gal, 0x11, 0x00, 0x00, .u8, .const, .n 18, .any, false⟩,
  ⟨.gal, 0x11, 0x01, 0x08, .real, .ro, .r none, .any, false⟩,
  ⟨.gal, 0x11, 0x09, 0x10, .real, .ro, .r none, .any, false⟩,
  ⟨.gal, 0x11, 0x11, 0x11, .real, .ro, .r none, .any, false⟩,
  ⟨.gal, 0x11, 0x12, 0x12, .u8, .ro, .n 255, .any, false⟩]

/-- EXCITATION_CFG (07_spectroscopy). -/
def rowsGalExcitationCfg : List ObjRow := [
  ⟨.gal, 0x14, 0x00, 0x00, .u8, .const, .n 96, .any, false⟩,
  ⟨.gal, 0x14, 0x01, 0x01, .bool, .rw, .n 0, .nats [(0, 0), (1, 1)], false⟩,
  ⟨.gal, 0x14, 0x02, 0x02, .u8, .rw, .n 14, .nats [(12, 18)], false⟩,
  ⟨.gal, 0x14, 0x03, 0x03, .u8, .rw, .n 0, .nats [(0, 32)], false⟩,
  ⟨.gal, 0x14, 0x04, 0x04, .real, .rw, .r (some (1/50)), .reals [(1/1000, 1/20)], false⟩,
  ⟨.gal, 0x14, 0x05, 0x05, .bool, .rw, .n 0, .nats [(0, 0), (1, 1)], false⟩,
  ⟨.gal, 0x14, 0x06, 0x06, .u8, .rw, .n 0, .nats [(0, 32)], false⟩,
  ⟨.gal, 0x14, 0x07, 0x07, .u8, .rw, .n 0, .nats [(0, 32)], false⟩,
  ⟨.gal, 0x14, 0x08, 0x08, .u8, .rw, .n 0, .nats [(0, 32)], false⟩,
  ⟨.gal, 0x14, 0x09, 0x09, .u8, .wo, .n 0, .nats [(1, 1)], false⟩,
  ⟨.gal, 0x14, 0x0A, 0x0A, .u32, .ro, .n 0, .any, false⟩,
  ⟨.gal, 0x14, 0x0B, 0x0B, .real, .rw, .r (some (1/20)), .reals [(1/200, 1/2)], false⟩,
  ⟨.gal, 0x14, 0x0C, 0x0C, .real, .rw, .r (some (1/2)), .reals [(0, 1)], false⟩,
  ⟨.gal, 0x14, 0x0D, 0x0D, .real, .rw, .r (some (1/2)), .reals [(1/20, 4)], false⟩,
  ⟨.gal, 0x14, 0x0E, 0x0E, .real, .rwL, .r (some (250)), .reals [(1/10, 1000)], false⟩,
  ⟨.gal, 0x14, 0x0F, 0x0F, .u8, .rwL, .n 0, .nats [(0, 0), (2, 16)], false⟩,
  ⟨.gal, 0x14, 0x10, 0x10, .real, .rwL, .r (some (0)), .reals [(-10, 10)], false⟩,
  ⟨.gal, 0x14, 0x11, 0x11, .real, .rw, .r (some (3/20)), .reals [(1/50, 1/2)], false⟩,
  ⟨.gal, 0x14, 0x12, 0x12, .u8, .rw, .n 3, .nats [(1, 32)], false⟩,
  ⟨.gal, 0x14, 0x13, 0x13, .real, .rw, .r (some (5)), .reals [(1, 20)], false⟩,
  ⟨.gal, 0x14, 0x14, 0x14, .u8, .wo, .n 0, .nats [(1, 1)], false⟩,
  ⟨.gal, 0x14, 0x15, 0x15, .u32, .rw, .n 86400, .nats [(0, 0), (3600, 2592000)], false⟩,
  ⟨.gal, 0x14, 0x16, 0x16, .u8, .wo, .n 0, .nats [(1, 1)], false⟩,
  ⟨.gal, 0x14, 0x21, 0x40, .u32, .rw, .n 0, .mask 0xFFFFFF, false⟩,
  ⟨.gal, 0x14, 0x41, 0x50, .real, .rwL, .r (some (0)), .reals [(-90, 90)], false⟩,
  ⟨.gal, 0x14, 0x51, 0x60, .real, .rwL, .r (some (0)), .reals [(-40, 120)], false⟩]

/-- SPECTRUM_STATUS (07_spectroscopy). -/
def rowsGalSpectrumStatus : List ObjRow := [
  ⟨.gal, 0x15, 0x00, 0x00, .u8, .const, .n 19, .any, false⟩,
  ⟨.gal, 0x15, 0x01, 0x01, .u8, .ro, .n 0, .any, false⟩,
  ⟨.gal, 0x15, 0x02, 0x02, .u8, .ro, .n 0, .any, false⟩,
  ⟨.gal, 0x15, 0x03, 0x03, .u8, .ro, .n 0, .any, false⟩,
  ⟨.gal, 0x15, 0x04, 0x04, .real, .ro, .r (some (0)), .any, false⟩,
  ⟨.gal, 0x15, 0x05, 0x05, .real, .ro, .r none, .any, false⟩,
  ⟨.gal, 0x15, 0x06, 0x06, .real, .ro, .r none, .any, false⟩,
  ⟨.gal, 0x15, 0x07, 0x07, .u8, .ro, .n 0, .any, false⟩,
  ⟨.gal, 0x15, 0x08, 0x08, .u64, .ro, .n 0, .any, false⟩,
  ⟨.gal, 0x15, 0x09, 0x09, .u8, .ro, .n 0, .any, false⟩,
  ⟨.gal, 0x15, 0x0A, 0x0A, .u32, .ro, .n 0, .any, false⟩,
  ⟨.gal, 0x15, 0x0B, 0x0B, .u16, .ro, .n 0, .any, false⟩,
  ⟨.gal, 0x15, 0x0C, 0x0C, .real, .ro, .r none, .any, false⟩,
  ⟨.gal, 0x15, 0x0D, 0x0D, .u32, .ro, .n 4294967295, .any, false⟩,
  ⟨.gal, 0x15, 0x0E, 0x0E, .real, .ro, .r (some (0)), .any, false⟩,
  ⟨.gal, 0x15, 0x0F, 0x0F, .u16, .ro, .n 0, .any, false⟩,
  ⟨.gal, 0x15, 0x10, 0x10, .u64, .rw, .n 281474976710656, .any, false⟩,
  ⟨.gal, 0x15, 0x11, 0x11, .domain, .ro, .b [], .any, false⟩,
  ⟨.gal, 0x15, 0x12, 0x12, .u32, .ro, .n 4294967295, .any, false⟩,
  ⟨.gal, 0x15, 0x13, 0x13, .u32, .ro, .n 4294967295, .any, false⟩]

/-- ESTIM_CFG (08_state_estimation). -/
def rowsGalEstimCfg : List ObjRow := [
  ⟨.gal, 0x18, 0x00, 0x00, .u8, .const, .n 23, .any, false⟩,
  ⟨.gal, 0x18, 0x01, 0x01, .real, .rwL, .r (some (100)), .reals [(1, 20000)], false⟩,
  ⟨.gal, 0x18, 0x02, 0x02, .domain, .rwL, .b [], .any, false⟩,
  ⟨.gal, 0x18, 0x03, 0x03, .u32, .ro, .n 0, .any, false⟩,
  ⟨.gal, 0x18, 0x04, 0x04, .real, .rw, .r (some (4)), .reals [(1/10, 100)], false⟩,
  ⟨.gal, 0x18, 0x05, 0x05, .u32, .rw, .n 1200, .nats [(60, 86400)], false⟩,
  ⟨.gal, 0x18, 0x06, 0x06, .real, .rwL, .r (some (69/20)), .reals [(2, 9/2)], false⟩,
  ⟨.gal, 0x18, 0x07, 0x07, .real, .rwL, .r (some (16)), .reals [(1/10, 1000)], false⟩,
  ⟨.gal, 0x18, 0x08, 0x08, .u16, .rwL, .n 60, .nats [(1, 3600)], false⟩,
  ⟨.gal, 0x18, 0x09, 0x09, .real, .rwL, .r (some (29/10)), .reals [(3/2, 4)], false⟩,
  ⟨.gal, 0x18, 0x0A, 0x0A, .real, .rw, .r (some (1/500)), .reals [(1/2000, 1/20)], false⟩,
  ⟨.gal, 0x18, 0x0B, 0x0B, .real, .rw, .r (some (1/50)), .reals [(0, 1/2)], false⟩,
  ⟨.gal, 0x18, 0x0C, 0x0C, .real, .rw, .r (some (1/200)), .reals [(0, 1/10)], false⟩,
  ⟨.gal, 0x18, 0x0D, 0x0D, .real, .rw, .r (some (1/500)), .reals [(0, 1/20)], false⟩,
  ⟨.gal, 0x18, 0x0E, 0x0E, .real, .rw, .r (some (3/100)), .reals [(0, 1/5)], false⟩,
  ⟨.gal, 0x18, 0x0F, 0x0F, .real, .rw, .r (some (2/25)), .reals [(1/100, 1/2)], false⟩,
  ⟨.gal, 0x18, 0x10, 0x10, .real, .rw, .r (some (1/2)), .reals [(1/10, 1)], false⟩,
  ⟨.gal, 0x18, 0x11, 0x11, .real, .rw, .r (some (1/20)), .reals [(0, 1/2)], false⟩,
  ⟨.gal, 0x18, 0x12, 0x12, .u32, .rw, .n 604800, .nats [(3600, 7776000)], false⟩,
  ⟨.gal, 0x18, 0x13, 0x13, .u16, .rw, .n 60, .nats [(10, 3600)], false⟩,
  ⟨.gal, 0x18, 0x14, 0x14, .real, .rwL, .r (some (0)), .reals [(0, 0), (1/1000, 100)], false⟩,
  ⟨.gal, 0x18, 0x15, 0x15, .real, .rw, .r (some (20)), .reals [(1, 1000)], false⟩,
  ⟨.gal, 0x18, 0x16, 0x16, .real, .rwL, .r (some (8/5)), .reals [(1, 10)], false⟩,
  ⟨.gal, 0x18, 0x17, 0x17, .u32, .rw, .n 31250, .nats [(3125, 312500)], false⟩]

/-- CAPACITY_LEARN (08_state_estimation). -/
def rowsGalCapacityLearn : List ObjRow := [
  ⟨.gal, 0x1A, 0x00, 0x00, .u8, .const, .n 12, .any, false⟩,
  ⟨.gal, 0x1A, 0x01, 0x01, .bool, .rw, .n 1, .nats [(0, 0), (1, 1)], false⟩,
  ⟨.gal, 0x1A, 0x02, 0x02, .real, .rw, .r (some (1/4)), .reals [(1/20, 1)], false⟩,
  ⟨.gal, 0x1A, 0x03, 0x03, .real, .rw, .r (some (1/20)), .reals [(1/100, 1/5)], false⟩,
  ⟨.gal, 0x1A, 0x04, 0x04, .u32, .rw, .n 86400, .nats [(3600, 604800)], false⟩,
  ⟨.gal, 0x1A, 0x05, 0x05, .real, .rw, .r (some (4/5)), .reals [(1/2, 1)], false⟩,
  ⟨.gal, 0x1A, 0x06, 0x06, .real, .rw, .r (some (10)), .reals [(-20, 60)], false⟩,
  ⟨.gal, 0x1A, 0x07, 0x07, .real, .rw, .r (some (45)), .reals [(0, 70)], false⟩,
  ⟨.gal, 0x1A, 0x08, 0x08, .u16, .ro, .n 0, .any, false⟩,
  ⟨.gal, 0x1A, 0x09, 0x09, .u16, .ro, .n 65535, .any, false⟩,
  ⟨.gal, 0x1A, 0x0A, 0x0A, .u8, .ro, .n 0, .any, false⟩,
  ⟨.gal, 0x1A, 0x0B, 0x0B, .real, .ro, .r none, .any, false⟩,
  ⟨.gal, 0x1A, 0x0C, 0x0C, .u16, .wo, .n 0, .any, false⟩]

/-- ESTIM_STRING (08_state_estimation). -/
def rowsGalEstimString : List ObjRow := [
  ⟨.gal, 0x19, 0x00, 0x00, .u8, .const, .n 23, .any, false⟩,
  ⟨.gal, 0x19, 0x01, 0x01, .real, .ro, .r none, .any, false⟩,
  ⟨.gal, 0x19, 0x02, 0x02, .real, .ro, .r none, .any, false⟩,
  ⟨.gal, 0x19, 0x03, 0x03, .real, .ro, .r none, .any, false⟩,
  ⟨.gal, 0x19, 0x04, 0x04, .u16, .ro, .n 65535, .any, false⟩,
  ⟨.gal, 0x19, 0x05, 0x05, .real, .ro, .r none, .any, false⟩,
  ⟨.gal, 0x19, 0x06, 0x06, .u16, .ro, .n 65535, .any, false⟩,
  ⟨.gal, 0x19, 0x07, 0x07, .real, .ro, .r none, .any, false⟩,
  ⟨.gal, 0x19, 0x08, 0x08, .real, .ro, .r none, .any, false⟩,
  ⟨.gal, 0x19, 0x09, 0x09, .real, .ro, .r none, .any, false⟩,
  ⟨.gal, 0x19, 0x0A, 0x0A, .real, .ro, .r none, .any, false⟩,
  ⟨.gal, 0x19, 0x0B, 0x0B, .real, .ro, .r none, .any, false⟩,
  ⟨.gal, 0x19, 0x0C, 0x0C, .real, .ro, .r none, .any, false⟩,
  ⟨.gal, 0x19, 0x0D, 0x0D, .real, .ro, .r none, .any, false⟩,
  ⟨.gal, 0x19, 0x0E, 0x0E, .real, .ro, .r none, .any, false⟩,
  ⟨.gal, 0x19, 0x0F, 0x0F, .real, .ro, .r none, .any, false⟩,
  ⟨.gal, 0x19, 0x10, 0x10, .real, .ro, .r none, .any, false⟩,
  ⟨.gal, 0x19, 0x11, 0x11, .u16, .ro, .n 0, .any, false⟩,
  ⟨.gal, 0x19, 0x12, 0x12, .u16, .ro, .n 0, .any, false⟩,
  ⟨.gal, 0x19, 0x13, 0x13, .u32, .ro, .n 0, .any, false⟩,
  ⟨.gal, 0x19, 0x14, 0x14, .u32, .ro, .n 0, .any, false⟩,
  ⟨.gal, 0x19, 0x15, 0x15, .real, .ro, .r (some (0)), .any, false⟩,
  ⟨.gal, 0x19, 0x16, 0x16, .u32, .ro, .n 0, .any, false⟩,
  ⟨.gal, 0x19, 0x17, 0x17, .u64, .ro, .n 0, .any, false⟩]

/-- THERMAL_CFG (09_thermal). -/
def rowsGalThermalCfg : List ObjRow := [
  ⟨.gal, 0x1C, 0x00, 0x00, .u8, .const, .n 10, .any, false⟩,
  ⟨.gal, 0x1C, 0x01, 0x01, .u16, .rw, .n 1000, .nats [(100, 60000)], false⟩,
  ⟨.gal, 0x1C, 0x02, 0x02, .real, .rwL, .r (some (3)), .reals [(1/2, 60)], false⟩,
  ⟨.gal, 0x1C, 0x03, 0x03, .real, .rwL, .r (some (10)), .reals [(1/2, 60)], false⟩,
  ⟨.gal, 0x1C, 0x04, 0x04, .real, .rwL, .r (some (1)), .reals [(1/5, 30)], false⟩,
  ⟨.gal, 0x1C, 0x05, 0x05, .real, .rwL, .r (some (3)), .reals [(1/5, 30)], false⟩,
  ⟨.gal, 0x1C, 0x06, 0x06, .u16, .rwL, .n 10, .nats [(1, 600)], false⟩,
  ⟨.gal, 0x1C, 0x07, 0x07, .real, .rwL, .r (some (2)), .reals [(0, 20)], false⟩,
  ⟨.gal, 0x1C, 0x08, 0x08, .real, .rwL, .r (some (10)), .reals [(2, 50)], false⟩,
  ⟨.gal, 0x1C, 0x09, 0x09, .u16, .rw, .n 10, .nats [(1, 600)], false⟩,
  ⟨.gal, 0x1C, 0x0A, 0x0A, .real, .rw, .r (some (8)), .reals [(1, 50)], false⟩]

/-- THERMAL_STATUS (09_thermal). -/
def rowsGalThermalStatus : List ObjRow := [
  ⟨.gal, 0x1D, 0x00, 0x00, .u8, .const, .n 12, .any, false⟩,
  ⟨.gal, 0x1D, 0x01, 0x01, .u8, .ro, .n 0, .any, false⟩,
  ⟨.gal, 0x1D, 0x02, 0x02, .real, .ro, .r none, .any, false⟩,
  ⟨.gal, 0x1D, 0x03, 0x03, .u16, .ro, .n 65535, .any, false⟩,
  ⟨.gal, 0x1D, 0x04, 0x04, .real, .ro, .r none, .any, false⟩,
  ⟨.gal, 0x1D, 0x05, 0x05, .real, .ro, .r none, .any, false⟩,
  ⟨.gal, 0x1D, 0x06, 0x06, .real, .ro, .r none, .any, false⟩,
  ⟨.gal, 0x1D, 0x07, 0x07, .u16, .ro, .n 65535, .any, false⟩,
  ⟨.gal, 0x1D, 0x08, 0x08, .real, .ro, .r (some (0)), .any, false⟩,
  ⟨.gal, 0x1D, 0x09, 0x09, .u16, .ro, .n 0, .any, false⟩,
  ⟨.gal, 0x1D, 0x0A, 0x0A, .u16, .ro, .n 0, .any, false⟩,
  ⟨.gal, 0x1D, 0x0B, 0x0B, .u64, .ro, .n 0, .any, false⟩,
  ⟨.gal, 0x1D, 0x0C, 0x0C, .u8, .ro, .n 0, .any, false⟩]

/-- THERMAL_COMPAT (09_thermal). -/
def rowsThermalCompat : List ObjRow := [
  ⟨.fix, 0x2801, 0x00, 0x00, .u8, .const, .n 4, .any, false⟩,
  ⟨.fix, 0x2801, 0x01, 0x01, .real, .rwL, .r (some (50)), .reals [(20, 90)], false⟩,
  ⟨.fix, 0x2801, 0x02, 0x02, .real, .rwL, .r (some (55)), .reals [(20, 95)], false⟩,
  ⟨.fix, 0x2801, 0x03, 0x03, .real, .rwL, .r (some (60)), .reals [(25, 100)], false⟩,
  ⟨.fix, 0x2801, 0x04, 0x04, .real, .rwL, .r (some (3)), .reals [(1/2, 10)], false⟩]

/-- MODULE_THERMAL (09_thermal). -/
def rowsModuleThermal : List ObjRow := [
  ⟨.fix, 0x2800, 0x00, 0x00, .u8, .const, .n 16, .any, false⟩,
  ⟨.fix, 0x2800, 0x01, 0x04, .real, .ro, .r none, .any, false⟩,
  ⟨.fix, 0x2800, 0x05, 0x05, .real, .rwL, .r (some (110)), .reals [(80, 125)], false⟩,
  ⟨.fix, 0x2800, 0x06, 0x06, .real, .rwL, .r (some (115)), .reals [(85, 125)], false⟩,
  ⟨.fix, 0x2800, 0x07, 0x07, .real, .rwL, .r (some (125)), .reals [(90, 130)], false⟩,
  ⟨.fix, 0x2800, 0x08, 0x08, .real, .rwL, .r (some (5)), .reals [(1, 15)], false⟩,
  ⟨.fix, 0x2800, 0x09, 0x09, .real, .rwL, .r (some (1/16)), .reals [(1/32, 1)], false⟩,
  ⟨.fix, 0x2800, 0x0A, 0x0A, .real, .ro, .r (some (1)), .any, false⟩,
  ⟨.fix, 0x2800, 0x0B, 0x0B, .real, .ro, .r (some (1)), .any, false⟩,
  ⟨.fix, 0x2800, 0x0C, 0x0C, .u8, .rwL, .n 255, .nats [(0, 15), (255, 255)], false⟩,
  ⟨.fix, 0x2800, 0x0D, 0x0D, .real, .rw, .r (some (45)), .reals [(0, 80)], false⟩,
  ⟨.fix, 0x2800, 0x0E, 0x0E, .real, .ro, .r none, .any, false⟩,
  ⟨.fix, 0x2800, 0x0F, 0x0F, .u32, .rw, .n 0, .mask 0x3F, true⟩,
  ⟨.fix, 0x2800, 0x10, 0x10, .u8, .ro, .n 0, .any, false⟩]

/-- SAFETY_INPUTS (10_protection_safety). -/
def rowsSafetyInputs : List ObjRow := [
  ⟨.fix, 0x2901, 0x00, 0x00, .u8, .const, .n 19, .any, false⟩,
  ⟨.fix, 0x2901, 0x01, 0x10, .u32, .rwS, .n 0, .any, false⟩,
  ⟨.fix, 0x2901, 0x11, 0x11, .u32, .ro, .n 0, .any, false⟩,
  ⟨.fix, 0x2901, 0x12, 0x12, .u16, .ro, .n 0, .any, false⟩,
  ⟨.fix, 0x2901, 0x13, 0x13, .u32, .rw, .n 0, .mask 0xFFFFFFFF, true⟩]

/-- SAFETY_OUTPUTS (10_protection_safety). -/
def rowsSafetyOutputs : List ObjRow := [
  ⟨.fix, 0x2902, 0x00, 0x00, .u8, .const, .n 49, .any, false⟩,
  ⟨.fix, 0x2902, 0x01, 0x10, .u16, .rwS, .n 0, .nats [(0, 2000)], false⟩,
  ⟨.fix, 0x2902, 0x11, 0x18, .u16, .rwS, .n 0, .mask 0x3FF, false⟩,
  ⟨.fix, 0x2902, 0x19, 0x20, .u16, .rwS, .n 0, .mask 0x3FF, false⟩,
  ⟨.fix, 0x2902, 0x21, 0x21, .u16, .rwS, .n 300, .nats [(100, 1000)], false⟩,
  ⟨.fix, 0x2902, 0x22, 0x22, .u16, .rwS, .n 250, .nats [(100, 1000)], false⟩,
  ⟨.fix, 0x2902, 0x23, 0x23, .u16, .rwS, .n 500, .nats [(200, 900)], false⟩,
  ⟨.fix, 0x2902, 0x24, 0x24, .u16, .rwS, .n 2000, .nats [(500, 60000)], false⟩,
  ⟨.fix, 0x2902, 0x25, 0x25, .u16, .rwS, .n 50, .nats [(10, 400)], false⟩,
  ⟨.fix, 0x2902, 0x26, 0x26, .u16, .rwS, .n 100, .nats [(20, 1000)], false⟩,
  ⟨.fix, 0x2902, 0x27, 0x27, .u16, .ro, .n 0, .any, false⟩,
  ⟨.fix, 0x2902, 0x28, 0x28, .u16, .ro, .n 0, .any, false⟩,
  ⟨.fix, 0x2902, 0x29, 0x30, .real, .ro, .r (some (0)), .any, false⟩,
  ⟨.fix, 0x2902, 0x31, 0x31, .u32, .rw, .n 0, .mask 0xFFFFFFFF, true⟩]

/-- SAFETY_STATUS (10_protection_safety). -/
def rowsSafetyStatus : List ObjRow := [
  ⟨.fix, 0x2903, 0x00, 0x00, .u8, .const, .n 16, .any, false⟩,
  ⟨.fix, 0x2903, 0x01, 0x01, .u8, .ro, .n 0, .any, false⟩,
  ⟨.fix, 0x2903, 0x02, 0x02, .u32, .ro, .n 0, .any, false⟩,
  ⟨.fix, 0x2903, 0x03, 0x03, .u32, .ro, .n 0, .any, false⟩,
  ⟨.fix, 0x2903, 0x04, 0x0B, .u8, .ro, .n 1, .any, false⟩,
  ⟨.fix, 0x2903, 0x0C, 0x0C, .real, .ro, .r none, .any, false⟩,
  ⟨.fix, 0x2903, 0x0D, 0x0D, .u32, .rw, .n 0, .mask 0xFF, true⟩,
  ⟨.fix, 0x2903, 0x0E, 0x0E, .u64, .ro, .n 0, .any, false⟩,
  ⟨.fix, 0x2903, 0x0F, 0x0F, .u32, .ro, .n 0, .any, false⟩,
  ⟨.fix, 0x2903, 0x10, 0x10, .u32, .ro, .n 0, .any, false⟩]

/-- LOCKOUT_RESET (10_protection_safety). -/
def rowsLockoutReset : List ObjRow := [
  ⟨.fix, 0x2904, 0x00, 0x00, .u8, .const, .n 6, .any, false⟩,
  ⟨.fix, 0x2904, 0x01, 0x01, .u8, .wo, .n 0, .nats [(1, 1)], false⟩,
  ⟨.fix, 0x2904, 0x02, 0x02, .bool, .ro, .n 0, .any, false⟩,
  ⟨.fix, 0x2904, 0x03, 0x03, .bool, .ro, .n 0, .any, false⟩,
  ⟨.fix, 0x2904, 0x04, 0x04, .u8, .ro, .n 0, .any, false⟩,
  ⟨.fix, 0x2904, 0x05, 0x05, .u64, .ro, .n 0, .any, false⟩,
  ⟨.fix, 0x2904, 0x06, 0x06, .u32, .ro, .n 0, .any, false⟩]

/-- PROT_LIMITS (10_protection_safety). -/
def rowsGalProtLimits : List ObjRow := [
  ⟨.gal, 0x20, 0x00, 0x00, .u8, .const, .n 11, .any, false⟩,
  ⟨.gal, 0x20, 0x01, 0x01, .real, .rwS, .r (some (15/4)), .reals [(1, 5)], false⟩,
  ⟨.gal, 0x20, 0x02, 0x02, .real, .rwS, .r (some (23/10)), .reals [(1/2, 9/2)], false⟩,
  ⟨.gal, 0x20, 0x03, 0x03, .real, .rwS, .r (some (1/20)), .reals [(1/200, 1/2)], false⟩,
  ⟨.gal, 0x20, 0x04, 0x04, .real, .rwS, .r (some (0)), .reals [(0, 10000)], false⟩,
  ⟨.gal, 0x20, 0x05, 0x05, .real, .rwS, .r (some (0)), .reals [(0, 10000)], false⟩,
  ⟨.gal, 0x20, 0x06, 0x06, .real, .rwS, .r (some (0)), .reals [(0, 2000)], false⟩,
  ⟨.gal, 0x20, 0x07, 0x07, .real, .rwS, .r (some (0)), .reals [(0, 2000)], false⟩,
  ⟨.gal, 0x20, 0x08, 0x08, .real, .rwS, .r (some (0)), .reals [(0, 2500)], false⟩,
  ⟨.gal, 0x20, 0x09, 0x09, .real, .rwS, .r (some (110)), .reals [(40, 160)], false⟩,
  ⟨.gal, 0x20, 0x0A, 0x0A, .real, .rwS, .r (some (0)), .reals [(0, 2000)], false⟩,
  ⟨.gal, 0x20, 0x0B, 0x0B, .u8, .rwS, .n 20, .nats [(0, 100)], false⟩]

/-- PROT_STATUS (10_protection_safety). -/
def rowsGalProtStatus : List ObjRow := [
  ⟨.gal, 0x21, 0x00, 0x00, .u8, .const, .n 8, .any, false⟩,
  ⟨.gal, 0x21, 0x01, 0x01, .u32, .ro, .n 0, .any, false⟩,
  ⟨.gal, 0x21, 0x02, 0x02, .u32, .ro, .n 0, .any, false⟩,
  ⟨.gal, 0x21, 0x03, 0x03, .u64, .ro, .n 0, .any, false⟩,
  ⟨.gal, 0x21, 0x04, 0x04, .u16, .ro, .n 65535, .any, false⟩,
  ⟨.gal, 0x21, 0x05, 0x05, .bool, .ro, .n 0, .any, false⟩,
  ⟨.gal, 0x21, 0x06, 0x06, .u8, .ro, .n 0, .any, false⟩,
  ⟨.gal, 0x21, 0x07, 0x07, .real, .ro, .r none, .any, false⟩,
  ⟨.gal, 0x21, 0x08, 0x08, .bool, .ro, .n 0, .any, false⟩]

/-- ENERGISE (10_protection_safety). -/
def rowsGalEnergise : List ObjRow := [
  ⟨.gal, 0x24, 0x00, 0x00, .u8, .const, .n 9, .any, false⟩,
  ⟨.gal, 0x24, 0x01, 0x01, .u8, .rwS, .n 255, .nats [(0, 7), (255, 255)], false⟩,
  ⟨.gal, 0x24, 0x02, 0x02, .bool, .rw, .n 0, .nats [(0, 0), (1, 1)], false⟩,
  ⟨.gal, 0x24, 0x03, 0x03, .u8, .wo, .n 0, .nats [(0, 0), (1, 1)], false⟩,
  ⟨.gal, 0x24, 0x04, 0x04, .u8, .ro, .n 1, .any, false⟩,
  ⟨.gal, 0x24, 0x05, 0x05, .u8, .ro, .n 0, .any, false⟩,
  ⟨.gal, 0x24, 0x06, 0x06, .u32, .ro, .n 0, .any, false⟩,
  ⟨.gal, 0x24, 0x07, 0x07, .u8, .ro, .n 0, .any, false⟩,
  ⟨.gal, 0x24, 0x08, 0x08, .u8, .wo, .n 0, .nats [(1, 1)], false⟩,
  ⟨.gal, 0x24, 0x09, 0x09, .real, .ro, .r none, .any, false⟩]

/-- DISPATCH_CFG (11_dispatch). -/
def rowsDispatchCfg : List ObjRow := [
  ⟨.fix, 0x3400, 0x00, 0x00, .u8, .const, .n 12, .any, false⟩,
  ⟨.fix, 0x3400, 0x01, 0x01, .bool, .rw, .n 0, .nats [(0, 0), (1, 1)], false⟩,
  ⟨.fix, 0x3400, 0x02, 0x02, .u8, .rw, .n 7, .mask 0x7, false⟩,
  ⟨.fix, 0x3400, 0x03, 0x03, .u32, .rw, .n 4294967295, .any, false⟩,
  ⟨.fix, 0x3400, 0x04, 0x04, .u8, .rwL, .n 1, .nats [(1, 1), (2, 2)], false⟩,
  ⟨.fix, 0x3400, 0x05, 0x05, .real, .rw, .r (some (1000000)), .reals [(1000, 100000000)], false⟩,
  ⟨.fix, 0x3400, 0x06, 0x06, .real, .rw, .r (some (2)), .reals [(0, 10)], false⟩,
  ⟨.fix, 0x3400, 0x07, 0x07, .u32, .rw, .n 2000, .nats [(0, 0), (100, 600000)], false⟩,
  ⟨.fix, 0x3400, 0x08, 0x08, .u8, .rwL, .n 255, .nats [(0, 15), (255, 255)], false⟩,
  ⟨.fix, 0x3400, 0x09, 0x09, .u16, .rw, .n 5, .nats [(0, 3600)], false⟩,
  ⟨.fix, 0x3400, 0x0A, 0x0A, .real, .rw, .r (some (0)), .reals [(-1000000000, 1000000000)], false⟩,
  ⟨.fix, 0x3400, 0x0B, 0x0B, .real, .rw, .r (some (1000)), .reals [(0, 1000000)], false⟩,
  ⟨.fix, 0x3400, 0x0C, 0x0C, .u16, .rw, .n 1000, .nats [(100, 60000)], false⟩]

/-- DISPATCH_SETPOINT (11_dispatch). -/
def rowsDispatchSetpoint : List ObjRow := [
  ⟨.fix, 0x3401, 0x00, 0x00, .u8, .const, .n 6, .any, false⟩,
  ⟨.fix, 0x3401, 0x01, 0x01, .real, .rw, .r (some (0)), .reals [(-1000000000, 1000000000)], false⟩,
  ⟨.fix, 0x3401, 0x02, 0x02, .real, .rw, .r (some (0)), .reals [(-1000000000, 1000000000)], false⟩,
  ⟨.fix, 0x3401, 0x03, 0x03, .real, .ro, .r (some (0)), .any, false⟩,
  ⟨.fix, 0x3401, 0x04, 0x04, .u8, .ro, .n 0, .any, false⟩,
  ⟨.fix, 0x3401, 0x05, 0x05, .u32, .ro, .n 4294967295, .any, false⟩,
  ⟨.fix, 0x3401, 0x06, 0x06, .u32, .ro, .n 4294967295, .any, false⟩]

/-- DISPATCH_STATUS (11_dispatch). -/
def rowsDispatchStatus : List ObjRow := [
  ⟨.fix, 0x3402, 0x00, 0x00, .u8, .const, .n 12, .any, false⟩,
  ⟨.fix, 0x3402, 0x01, 0x01, .real, .ro, .r none, .any, false⟩,
  ⟨.fix, 0x3402, 0x02, 0x02, .real, .ro, .r (some (0)), .any, false⟩,
  ⟨.fix, 0x3402, 0x03, 0x03, .real, .ro, .r (some (0)), .any, false⟩,
  ⟨.fix, 0x3402, 0x04, 0x04, .real, .ro, .r (some (0)), .any, false⟩,
  ⟨.fix, 0x3402, 0x05, 0x05, .real, .ro, .r (some (0)), .any, false⟩,
  ⟨.fix, 0x3402, 0x06, 0x06, .real, .ro, .r none, .any, false⟩,
  ⟨.fix, 0x3402, 0x07, 0x07, .real, .ro, .r (some (0)), .any, false⟩,
  ⟨.fix, 0x3402, 0x08, 0x08, .u32, .ro, .n 0, .any, false⟩,
  ⟨.fix, 0x3402, 0x09, 0x09, .u32, .ro, .n 0, .any, false⟩,
  ⟨.fix, 0x3402, 0x0A, 0x0A, .u32, .rw, .n 0, .mask 0x1F, true⟩,
  ⟨.fix, 0x3402, 0x0B, 0x0B, .u8, .ro, .n 0, .any, false⟩,
  ⟨.fix, 0x3402, 0x0C, 0x0C, .u64, .ro, .n 0, .any, false⟩]

/-- LEADER_CFG (11_dispatch). -/
def rowsLeaderCfg : List ObjRow := [
  ⟨.fix, 0x3410, 0x00, 0x00, .u8, .const, .n 6, .any, false⟩,
  ⟨.fix, 0x3410, 0x01, 0x01, .bool, .rwL, .n 0, .nats [(0, 0), (1, 1)], false⟩,
  ⟨.fix, 0x3410, 0x02, 0x02, .u8, .rwL, .n 0, .nats [(0, 255)], false⟩,
  ⟨.fix, 0x3410, 0x03, 0x03, .u16, .rw, .n 500, .nats [(200, 5000)], false⟩,
  ⟨.fix, 0x3410, 0x04, 0x04, .u16, .rwL, .n 10, .nats [(0, 600)], false⟩,
  ⟨.fix, 0x3410, 0x05, 0x05, .u16, .ro, .n 0, .any, false⟩,
  ⟨.fix, 0x3410, 0x06, 0x06, .u32, .ro, .n 0, .any, false⟩]

/-- TIMEBASE (12_arcade_ring_time). -/
def rowsTimebase : List ObjRow := [
  ⟨.fix, 0x2100, 0x00, 0x00, .u8, .const, .n 13, .any, false⟩,
  ⟨.fix, 0x2100, 0x01, 0x01, .u64, .ro, .n 0, .any, false⟩,
  ⟨.fix, 0x2100, 0x02, 0x02, .i64, .ro, .i 0, .any, false⟩,
  ⟨.fix, 0x2100, 0x03, 0x03, .u8, .ro, .n 0, .any, false⟩,
  ⟨.fix, 0x2100, 0x04, 0x04, .u8, .ro, .n 0, .any, false⟩,
  ⟨.fix, 0x2100, 0x05, 0x05, .u8, .ro, .n 0, .any, false⟩,
  ⟨.fix, 0x2100, 0x06, 0x06, .real, .ro, .r none, .any, false⟩,
  ⟨.fix, 0x2100, 0x07, 0x07, .real, .ro, .r (some (0)), .any, false⟩,
  ⟨.fix, 0x2100, 0x08, 0x08, .i16, .rw, .i 37, .ints [(0, 100)], false⟩,
  ⟨.fix, 0x2100, 0x09, 0x09, .u32, .ro, .n 0, .any, false⟩,
  ⟨.fix, 0x2100, 0x0A, 0x0A, .i64, .ro, .i 0, .any, false⟩,
  ⟨.fix, 0x2100, 0x0B, 0x0B, .u32, .rw, .n 0, .mask 0x7F, true⟩,
  ⟨.fix, 0x2100, 0x0C, 0x0C, .u32, .rwL, .n 3600, .nats [(60, 86400)], false⟩,
  ⟨.fix, 0x2100, 0x0D, 0x0D, .u64, .ro, .n 0, .any, false⟩]

/-- PTP_CFG (12_arcade_ring_time). -/
def rowsPtpCfg : List ObjRow := [
  ⟨.fix, 0x2101, 0x00, 0x00, .u8, .const, .n 12, .any, false⟩,
  ⟨.fix, 0x2101, 0x01, 0x01, .bool, .rwL, .n 1, .nats [(0, 0), (1, 1)], false⟩,
  ⟨.fix, 0x2101, 0x02, 0x02, .u8, .rwL, .n 0, .nats [(0, 127)], false⟩,
  ⟨.fix, 0x2101, 0x03, 0x03, .u8, .rwL, .n 128, .nats [(0, 255)], false⟩,
  ⟨.fix, 0x2101, 0x04, 0x04, .u8, .rwL, .n 128, .nats [(0, 255)], false⟩,
  ⟨.fix, 0x2101, 0x05, 0x05, .bool, .rwL, .n 0, .nats [(0, 0), (1, 1)], false⟩,
  ⟨.fix, 0x2101, 0x06, 0x06, .bool, .rwL, .n 0, .nats [(0, 0), (1, 1)], false⟩,
  ⟨.fix, 0x2101, 0x07, 0x07, .u32, .rwL, .n 9600, .nats [(4800, 4800), (9600, 9600), (19200, 19200), (38400, 38400)], false⟩,
  ⟨.fix, 0x2101, 0x08, 0x08, .i32, .rwL, .i 0, .ints [(-10000, 10000)], false⟩,
  ⟨.fix, 0x2101, 0x09, 0x09, .u16, .rw, .n 50, .nats [(10, 1000)], false⟩,
  ⟨.fix, 0x2101, 0x0A, 0x0A, .i16, .rwL, .i 0, .ints [(-1000, 1000)], false⟩,
  ⟨.fix, 0x2101, 0x0B, 0x0B, .i16, .rwL, .i 0, .ints [(-1000, 1000)], false⟩,
  ⟨.fix, 0x2101, 0x0C, 0x0C, .bool, .rwL, .n 0, .nats [(0, 0), (1, 1)], false⟩]

/-- PTP_STATUS (12_arcade_ring_time). -/
def rowsPtpStatus : List ObjRow := [
  ⟨.fix, 0x2102, 0x00, 0x00, .u8, .const, .n 11, .any, false⟩,
  ⟨.fix, 0x2102, 0x01, 0x01, .u8, .ro, .n 1, .any, false⟩,
  ⟨.fix, 0x2102, 0x02, 0x02, .u8, .ro, .n 1, .any, false⟩,
  ⟨.fix, 0x2102, 0x03, 0x03, .u64, .ro, .n 0, .any, false⟩,
  ⟨.fix, 0x2102, 0x04, 0x04, .u8, .ro, .n 255, .any, false⟩,
  ⟨.fix, 0x2102, 0x05, 0x05, .real, .ro, .r none, .any, false⟩,
  ⟨.fix, 0x2102, 0x06, 0x06, .real, .ro, .r none, .any, false⟩,
  ⟨.fix, 0x2102, 0x07, 0x07, .u8, .ro, .n 255, .any, false⟩,
  ⟨.fix, 0x2102, 0x08, 0x08, .u32, .ro, .n 0, .any, false⟩,
  ⟨.fix, 0x2102, 0x09, 0x09, .u32, .ro, .n 0, .any, false⟩,
  ⟨.fix, 0x2102, 0x0A, 0x0A, .u64, .ro, .n 0, .any, false⟩,
  ⟨.fix, 0x2102, 0x0B, 0x0B, .real, .ro, .r none, .any, false⟩]

/-- ARCADE_CFG (12_arcade_ring_time). -/
def rowsArcadeCfg : List ObjRow := [
  ⟨.fix, 0x2500, 0x00, 0x00, .u8, .const, .n 9, .any, false⟩,
  ⟨.fix, 0x2500, 0x01, 0x01, .bool, .rwL, .n 0, .nats [(0, 0), (1, 1)], false⟩,
  ⟨.fix, 0x2500, 0x02, 0x02, (.octets 32), .key, .b [], .any, false⟩,
  ⟨.fix, 0x2500, 0x03, 0x03, (.octets 4), .ro, .b [], .any, false⟩,
  ⟨.fix, 0x2500, 0x04, 0x04, .bool, .rwL, .n 1, .nats [(0, 0), (1, 1)], false⟩,
  ⟨.fix, 0x2500, 0x05, 0x05, .u16, .rwL, .n 100, .nats [(50, 1000)], false⟩,
  ⟨.fix, 0x2500, 0x06, 0x06, .u16, .rwL, .n 500, .nats [(200, 10000)], false⟩,
  ⟨.fix, 0x2500, 0x07, 0x07, .u16, .rwL, .n 2000, .nats [(500, 10000)], false⟩,
  ⟨.fix, 0x2500, 0x08, 0x08, .u16, .rw, .n 50, .nats [(10, 1000)], false⟩,
  ⟨.fix, 0x2500, 0x09, 0x09, .u8, .rwL, .n 32, .nats [(2, 32)], false⟩]

/-- ARCADE_STATUS (12_arcade_ring_time). -/
def rowsArcadeStatus : List ObjRow := [
  ⟨.fix, 0x2501, 0x00, 0x00, .u8, .const, .n 11, .any, false⟩,
  ⟨.fix, 0x2501, 0x01, 0x01, .u8, .ro, .n 0, .any, false⟩,
  ⟨.fix, 0x2501, 0x02, 0x02, .u8, .ro, .n 0, .any, false⟩,
  ⟨.fix, 0x2501, 0x03, 0x03, .u8, .ro, .n 0, .any, false⟩,
  ⟨.fix, 0x2501, 0x04, 0x04, .u8, .ro, .n 0, .any, false⟩,
  ⟨.fix, 0x2501, 0x05, 0x05, .u32, .ro, .n 0, .any, false⟩,
  ⟨.fix, 0x2501, 0x06, 0x06, .u32, .ro, .n 0, .any, false⟩,
  ⟨.fix, 0x2501, 0x07, 0x07, .u32, .ro, .n 0, .any, false⟩,
  ⟨.fix, 0x2501, 0x08, 0x08, .u32, .ro, .n 0, .any, false⟩,
  ⟨.fix, 0x2501, 0x09, 0x09, .u32, .rw, .n 0, .mask 0xFF, true⟩,
  ⟨.fix, 0x2501, 0x0A, 0x0A, .u32, .ro, .n 0, .any, false⟩,
  ⟨.fix, 0x2501, 0x0B, 0x0B, .u32, .ro, .n 0, .any, false⟩]

/-- ARCADE_MEMBERS (12_arcade_ring_time). -/
def rowsArcadeMembers : List ObjRow := [
  ⟨.fix, 0x2502, 0x00, 0x00, .u8, .const, .n 33, .any, false⟩,
  ⟨.fix, 0x2502, 0x01, 0x20, (.octets 32), .ro, .b [], .any, false⟩,
  ⟨.fix, 0x2502, 0x21, 0x21, .u8, .ro, .n 0, .any, false⟩]

/-- REDUNDANCY_CFG (13_redundancy). -/
def rowsRedundancyCfg : List ObjRow := [
  ⟨.fix, 0x2400, 0x00, 0x00, .u8, .const, .n 10, .any, false⟩,
  ⟨.fix, 0x2400, 0x01, 0x01, .bool, .rwL, .n 0, .nats [(0, 0), (1, 1)], false⟩,
  ⟨.fix, 0x2400, 0x02, 0x02, .u64, .rwL, .n 0, .any, false⟩,
  ⟨.fix, 0x2400, 0x03, 0x03, .u8, .rwL, .n 0, .nats [(0, 0), (1, 1)], false⟩,
  ⟨.fix, 0x2400, 0x04, 0x04, .bool, .rwL, .n 0, .nats [(0, 0), (1, 1)], false⟩,
  ⟨.fix, 0x2400, 0x05, 0x05, .u16, .rwL, .n 2000, .nats [(500, 60000)], false⟩,
  ⟨.fix, 0x2400, 0x06, 0x06, .u8, .rwL, .n 8, .nats [(4, 64)], false⟩,
  ⟨.fix, 0x2400, 0x07, 0x07, .u8, .rwL, .n 4, .nats [(4, 64)], false⟩,
  ⟨.fix, 0x2400, 0x08, 0x08, .u8, .wo, .n 0, .nats [(1, 1)], false⟩,
  ⟨.fix, 0x2400, 0x09, 0x09, .u32, .rw, .n 2592000, .nats [(0, 0), (86400, 31536000)], false⟩,
  ⟨.fix, 0x2400, 0x0A, 0x0A, .u8, .wo, .n 0, .nats [(1, 1)], false⟩]

/-- REDUNDANCY_STATUS (13_redundancy). -/
def rowsRedundancyStatus : List ObjRow := [
  ⟨.fix, 0x2401, 0x00, 0x00, .u8, .const, .n 14, .any, false⟩,
  ⟨.fix, 0x2401, 0x01, 0x01, .u8, .ro, .n 0, .any, false⟩,
  ⟨.fix, 0x2401, 0x02, 0x02, .u8, .ro, .n 255, .any, false⟩,
  ⟨.fix, 0x2401, 0x03, 0x03, .u64, .ro, .n 0, .any, false⟩,
  ⟨.fix, 0x2401, 0x04, 0x04, .u8, .ro, .n 0, .any, false⟩,
  ⟨.fix, 0x2401, 0x05, 0x05, .u32, .ro, .n 127, .any, false⟩,
  ⟨.fix, 0x2401, 0x06, 0x06, .u32, .ro, .n 127, .any, false⟩,
  ⟨.fix, 0x2401, 0x07, 0x07, .u32, .ro, .n 0, .any, false⟩,
  ⟨.fix, 0x2401, 0x08, 0x08, .u64, .ro, .n 0, .any, false⟩,
  ⟨.fix, 0x2401, 0x09, 0x09, .u8, .ro, .n 0, .any, false⟩,
  ⟨.fix, 0x2401, 0x0A, 0x0A, .u32, .ro, .n 0, .any, false⟩,
  ⟨.fix, 0x2401, 0x0B, 0x0B, .u32, .ro, .n 4294967295, .any, false⟩,
  ⟨.fix, 0x2401, 0x0C, 0x0C, .u32, .rw, .n 0, .mask 0x3FF, true⟩,
  ⟨.fix, 0x2401, 0x0D, 0x0D, .u32, .ro, .n 0, .any, false⟩,
  ⟨.fix, 0x2401, 0x0E, 0x0E, .domain, .ro, .b [], .any, false⟩]

/-- AUTHORITY_VIEW (13_redundancy). -/
def rowsGalAuthorityView : List ObjRow := [
  ⟨.gal, 0x28, 0x00, 0x00, .u8, .const, .n 8, .any, false⟩,
  ⟨.gal, 0x28, 0x01, 0x01, .bool, .ro, .n 0, .any, false⟩,
  ⟨.gal, 0x28, 0x02, 0x02, .bool, .ro, .n 0, .any, false⟩,
  ⟨.gal, 0x28, 0x03, 0x03, .u32, .ro, .n 0, .any, false⟩,
  ⟨.gal, 0x28, 0x04, 0x04, .u8, .ro, .n 0, .any, false⟩,
  ⟨.gal, 0x28, 0x05, 0x05, .u8, .ro, .n 0, .any, false⟩,
  ⟨.gal, 0x28, 0x06, 0x06, .u32, .ro, .n 0, .any, false⟩,
  ⟨.gal, 0x28, 0x07, 0x07, .u64, .ro, .n 0, .any, false⟩,
  ⟨.gal, 0x28, 0x08, 0x08, .u32, .ro, .n 0, .any, false⟩]

/-- CH_CFG (14_universal_channels). -/
def rowsChnChCfg : List ObjRow := [
  ⟨.chn, 0x0, 0x00, 0x00, .u8, .const, .n 11, .any, false⟩,
  ⟨.chn, 0x0, 0x01, 0x01, .u8, .rwL, .n 0, .nats [(0, 6)], false⟩,
  ⟨.chn, 0x0, 0x02, 0x02, .u8, .rwL, .n 0, .nats [(0, 4)], false⟩,
  ⟨.chn, 0x0, 0x03, 0x03, .u8, .rwL, .n 0, .nats [(0, 8)], false⟩,
  ⟨.chn, 0x0, 0x04, 0x04, .u8, .rwL, .n 4, .nats [(2, 4)], false⟩,
  ⟨.chn, 0x0, 0x05, 0x05, .u8, .rwL, .n 0, .nats [(0, 3)], false⟩,
  ⟨.chn, 0x0, 0x06, 0x06, .bool, .rwL, .n 0, .nats [(0, 0), (1, 1)], false⟩,
  ⟨.chn, 0x0, 0x07, 0x07, .bool, .rwL, .n 1, .nats [(0, 0), (1, 1)], false⟩,
  ⟨.chn, 0x0, 0x08, 0x08, .u8, .rwL, .n 255, .nats [(0, 15), (255, 255)], false⟩,
  ⟨.chn, 0x0, 0x09, 0x09, .real, .rwL, .r (some (25)), .reals [(-40, 125)], false⟩,
  ⟨.chn, 0x0, 0x0A, 0x0A, .u8, .rw, .n 8, .nats [(1, 100)], false⟩,
  ⟨.chn, 0x0, 0x0B, 0x0B, .real, .rwL, .r (some (0)), .reals [(0, 100)], false⟩]

/-- CH_CHAR (14_universal_channels). -/
def rowsChnChChar : List ObjRow := [
  ⟨.chn, 0x1, 0x00, 0x00, .u8, .const, .n 96, .any, false⟩,
  ⟨.chn, 0x1, 0x01, 0x01, .u8, .rw, .n 0, .nats [(0, 2)], false⟩,
  ⟨.chn, 0x1, 0x02, 0x02, .real, .rw, .r (some (1)), .any, false⟩,
  ⟨.chn, 0x1, 0x03, 0x03, .real, .rw, .r (some (0)), .any, false⟩,
  ⟨.chn, 0x1, 0x04, 0x04, .real, .rw, .r (some (4)), .any, false⟩,
  ⟨.chn, 0x1, 0x05, 0x05, .real, .rw, .r (some (20)), .any, false⟩,
  ⟨.chn, 0x1, 0x06, 0x06, .real, .rw, .r (some (100)), .any, false⟩,
  ⟨.chn, 0x1, 0x07, 0x07, .real, .rw, .r (some (1/100)), .reals [(0, 1/5)], false⟩,
  ⟨.chn, 0x1, 0x08, 0x08, .u8, .rw, .n 0, .nats [(0, 0), (2, 32)], false⟩,
  ⟨.chn, 0x1, 0x09, 0x09, .u8, .wo, .n 0, .nats [(1, 1)], false⟩,
  ⟨.chn, 0x1, 0x0A, 0x0A, .u32, .ro, .n 0, .any, false⟩,
  ⟨.chn, 0x1, 0x21, 0x40, .real, .rw, .r (some (0)), .any, false⟩,
  ⟨.chn, 0x1, 0x41, 0x60, .real, .rw, .r (some (0)), .any, false⟩]

/-- CH_OUT (14_universal_channels). -/
def rowsChnChOut : List ObjRow := [
  ⟨.chn, 0x2, 0x00, 0x00, .u8, .const, .n 10, .any, false⟩,
  ⟨.chn, 0x2, 0x01, 0x01, .real, .rw, .r (some (0)), .any, false⟩,
  ⟨.chn, 0x2, 0x02, 0x02, .u32, .rwL, .n 0, .any, false⟩,
  ⟨.chn, 0x2, 0x03, 0x03, .u32, .rw, .n 0, .nats [(0, 0), (100, 600000)], false⟩,
  ⟨.chn, 0x2, 0x04, 0x04, .u8, .rwL, .n 1, .nats [(0, 3)], false⟩,
  ⟨.chn, 0x2, 0x05, 0x05, .real, .rwL, .r (some (1/200)), .reals [(1/1000, 1/20)], false⟩,
  ⟨.chn, 0x2, 0x06, 0x06, .u16, .rwL, .n 100, .nats [(20, 1000)], false⟩,
  ⟨.chn, 0x2, 0x07, 0x07, .real, .ro, .r none, .any, false⟩,
  ⟨.chn, 0x2, 0x08, 0x08, .real, .ro, .r none, .any, false⟩,
  ⟨.chn, 0x2, 0x09, 0x09, .real, .ro, .r none, .any, false⟩,
  ⟨.chn, 0x2, 0x0A, 0x0A, .real, .ro, .r none, .any, false⟩]

/-- CH_STATUS (14_universal_channels). -/
def rowsChnChStatus : List ObjRow := [
  ⟨.chn, 0x3, 0x00, 0x00, .u8, .const, .n 9, .any, false⟩,
  ⟨.chn, 0x3, 0x01, 0x01, .real, .ro, .r none, .any, false⟩,
  ⟨.chn, 0x3, 0x02, 0x02, .real, .ro, .r none, .any, false⟩,
  ⟨.chn, 0x3, 0x03, 0x03, .u32, .ro, .n 1, .any, false⟩,
  ⟨.chn, 0x3, 0x04, 0x04, .u8, .ro, .n 0, .any, false⟩,
  ⟨.chn, 0x3, 0x05, 0x05, .u64, .ro, .n 0, .any, false⟩,
  ⟨.chn, 0x3, 0x06, 0x06, .u32, .ro, .n 0, .any, false⟩,
  ⟨.chn, 0x3, 0x07, 0x07, .u32, .rw, .n 0, .mask 0x1FFFF, true⟩,
  ⟨.chn, 0x3, 0x08, 0x08, .u32, .ro, .n 0, .any, false⟩,
  ⟨.chn, 0x3, 0x09, 0x09, .u32, .ro, .n 0, .any, false⟩]

/-- HART_CFG (14_universal_channels). -/
def rowsChnHartCfg : List ObjRow := [
  ⟨.chn, 0x4, 0x00, 0x00, .u8, .const, .n 19, .any, false⟩,
  ⟨.chn, 0x4, 0x01, 0x01, .bool, .rwL, .n 0, .nats [(0, 0), (1, 1)], false⟩,
  ⟨.chn, 0x4, 0x02, 0x02, .u8, .rwL, .n 0, .nats [(0, 0), (1, 1)], false⟩,
  ⟨.chn, 0x4, 0x03, 0x03, .u8, .rwL, .n 0, .nats [(0, 63)], false⟩,
  ⟨.chn, 0x4, 0x04, 0x04, .u8, .rwL, .n 5, .nats [(5, 20)], false⟩,
  ⟨.chn, 0x4, 0x05, 0x05, .u16, .rw, .n 305, .nats [(100, 2000)], false⟩,
  ⟨.chn, 0x4, 0x06, 0x06, .u8, .rw, .n 2, .nats [(0, 5)], false⟩,
  ⟨.chn, 0x4, 0x07, 0x07, .u32, .rw, .n 2000, .nats [(0, 0), (500, 60000)], false⟩,
  ⟨.chn, 0x4, 0x08, 0x08, .u8, .ro, .n 0, .any, false⟩,
  ⟨.chn, 0x4, 0x09, 0x09, .u64, .ro, .n 0, .any, false⟩,
  ⟨.chn, 0x4, 0x0A, 0x0A, .real, .ro, .r none, .any, false⟩,
  ⟨.chn, 0x4, 0x0B, 0x0E, .real, .ro, .r none, .any, false⟩,
  ⟨.chn, 0x4, 0x0F, 0x0F, .u32, .ro, .n 0, .any, false⟩,
  ⟨.chn, 0x4, 0x10, 0x10, .u16, .ro, .n 0, .any, false⟩,
  ⟨.chn, 0x4, 0x11, 0x11, .u32, .ro, .n 4294967295, .any, false⟩,
  ⟨.chn, 0x4, 0x12, 0x12, .u32, .ro, .n 0, .any, false⟩,
  ⟨.chn, 0x4, 0x13, 0x13, .u32, .ro, .n 0, .any, false⟩]

/-- HART_XFER (14_universal_channels). -/
def rowsChnHartXfer : List ObjRow := [
  ⟨.chn, 0x5, 0x00, 0x00, .u8, .const, .n 3, .any, false⟩,
  ⟨.chn, 0x5, 0x01, 0x01, .domain, .wo, .b [], .any, false⟩,
  ⟨.chn, 0x5, 0x02, 0x02, .domain, .ro, .b [], .any, false⟩,
  ⟨.chn, 0x5, 0x03, 0x03, .u8, .ro, .n 0, .any, false⟩]

/-- CH_CTRL (14_universal_channels). -/
def rowsChnChCtrl : List ObjRow := [
  ⟨.chn, 0xF, 0x00, 0x00, .u8, .const, .n 3, .any, false⟩,
  ⟨.chn, 0xF, 0x01, 0x01, .u8, .wo, .n 0, .nats [(1, 1), (2, 2)], false⟩,
  ⟨.chn, 0xF, 0x02, 0x02, .u8, .ro, .n 0, .any, false⟩,
  ⟨.chn, 0xF, 0x03, 0x03, .u32, .ro, .n 0, .any, false⟩]

/-- CAN_CFG (15_can_twowire). -/
def rowsCanCanCfg : List ObjRow := [
  ⟨.can, 0x0, 0x00, 0x00, .u8, .const, .n 20, .any, false⟩,
  ⟨.can, 0x0, 0x01, 0x01, .bool, .rwL, .n 1, .nats [(0, 0), (1, 1)], false⟩,
  ⟨.can, 0x0, 0x02, 0x02, .u8, .rwL, .n 16, .nats [(1, 127)], false⟩,
  ⟨.can, 0x0, 0x03, 0x03, .u8, .rwL, .n 2, .nats [(0, 3)], false⟩,
  ⟨.can, 0x0, 0x04, 0x04, .u8, .rwL, .n 2, .nats [(0, 3)], false⟩,
  ⟨.can, 0x0, 0x05, 0x05, .bool, .rwL, .n 1, .nats [(0, 0), (1, 1)], false⟩,
  ⟨.can, 0x0, 0x06, 0x06, .u32, .rwL, .n 0xFFFFFFFF, .any, false⟩,
  ⟨.can, 0x0, 0x07, 0x07, .u16, .rwL, .n 0xFFFF, .any, false⟩,
  ⟨.can, 0x0, 0x08, 0x08, .u16, .rw, .n 0, .nats [(0, 60000)], false⟩,
  ⟨.can, 0x0, 0x09, 0x09, .u8, .wo, .n 0, .nats [(1, 1)], false⟩,
  ⟨.can, 0x0, 0x0A, 0x0A, .u8, .ro, .n 0, .any, false⟩,
  ⟨.can, 0x0, 0x0B, 0x0B, .u8, .ro, .n 0, .any, false⟩,
  ⟨.can, 0x0, 0x0C, 0x0C, .u8, .ro, .n 0, .any, false⟩,
  ⟨.can, 0x0, 0x0D, 0x0D, .u8, .ro, .n 0, .any, false⟩,
  ⟨.can, 0x0, 0x0E, 0x0E, .u32, .rw, .n 0, .mask 0xFF, true⟩,
  ⟨.can, 0x0, 0x0F, 0x0F, .u32, .ro, .n 0, .any, false⟩,
  ⟨.can, 0x0, 0x10, 0x10, .u32, .ro, .n 0, .any, false⟩,
  ⟨.can, 0x0, 0x11, 0x11, .u32, .ro, .n 0, .any, false⟩,
  ⟨.can, 0x0, 0x12, 0x12, .u32, .ro, .n 0, .any, false⟩,
  ⟨.can, 0x0, 0x13, 0x13, .u32, .ro, .n 0, .any, false⟩,
  ⟨.can, 0x0, 0x14, 0x14, .u32, .rw, .n 0, .any, false⟩]

/-- WAKE_FRAME (15_can_twowire). -/
def rowsWakeFrame : List ObjRow := [
  ⟨.fix, 0x2708, 0x00, 0x00, .u8, .const, .n 7, .any, false⟩,
  ⟨.fix, 0x2708, 0x01, 0x01, .bool, .rwL, .n 1, .nats [(0, 0), (1, 1)], false⟩,
  ⟨.fix, 0x2708, 0x02, 0x02, .u8, .rwL, .n 0, .nats [(0, 0), (1, 1)], false⟩,
  ⟨.fix, 0x2708, 0x03, 0x03, .u32, .rwL, .n 0, .mask 0x3FFFFFFF, false⟩,
  ⟨.fix, 0x2708, 0x04, 0x04, .u32, .rwL, .n 2047, .mask 0x1FFFFFFF, false⟩,
  ⟨.fix, 0x2708, 0x05, 0x05, .u64, .rwL, .n 1, .any, false⟩,
  ⟨.fix, 0x2708, 0x06, 0x06, .u64, .rwL, .n 65535, .any, false⟩,
  ⟨.fix, 0x2708, 0x07, 0x07, .u32, .ro, .n 0, .any, false⟩]

/-- TWA_CFG (15_can_twowire). -/
def rowsTwaCfg : List ObjRow := [
  ⟨.fix, 0x2600, 0x00, 0x00, .u8, .const, .n 64, .any, false⟩,
  ⟨.fix, 0x2600, 0x01, 0x01, .bool, .rwL, .n 0, .nats [(0, 0), (1, 1)], false⟩,
  ⟨.fix, 0x2600, 0x02, 0x02, .u8, .rwL, .n 1, .nats [(0, 2)], false⟩,
  ⟨.fix, 0x2600, 0x03, 0x03, .u8, .rwL, .n 2, .nats [(0, 15)], false⟩,
  ⟨.fix, 0x2600, 0x04, 0x04, .u8, .rw, .n 25, .nats [(0, 0), (10, 100)], false⟩,
  ⟨.fix, 0x2600, 0x05, 0x05, .u8, .rw, .n 25, .nats [(0, 0), (10, 100)], false⟩,
  ⟨.fix, 0x2600, 0x06, 0x06, .u16, .wo, .n 0, .any, false⟩,
  ⟨.fix, 0x2600, 0x07, 0x07, .u32, .ro, .n 0, .any, false⟩,
  ⟨.fix, 0x2600, 0x08, 0x08, .u32, .rw, .n 0, .mask 0x1F, true⟩,
  ⟨.fix, 0x2600, 0x09, 0x09, .u32, .ro, .n 0, .any, false⟩,
  ⟨.fix, 0x2600, 0x0A, 0x0A, .u32, .ro, .n 0, .any, false⟩,
  ⟨.fix, 0x2600, 0x11, 0x20, .u64, .rwL, .n 0, .any, false⟩,
  ⟨.fix, 0x2600, 0x21, 0x30, .u64, .rw, .n 0, .any, false⟩,
  ⟨.fix, 0x2600, 0x31, 0x40, .u32, .ro, .n 4294967295, .any, false⟩]

/-- TWB_CFG (15_can_twowire). -/
def rowsTwbCfg : List ObjRow := [
  ⟨.fix, 0x2610, 0x00, 0x00, .u8, .const, .n 14, .any, false⟩,
  ⟨.fix, 0x2610, 0x01, 0x01, .bool, .rwL, .n 1, .nats [(0, 0), (1, 1)], false⟩,
  ⟨.fix, 0x2610, 0x02, 0x02, .u8, .rw, .n 0, .nats [(0, 0), (1, 1)], false⟩,
  ⟨.fix, 0x2610, 0x03, 0x03, .u8, .rwL, .n 72, .nats [(8, 119)], false⟩,
  ⟨.fix, 0x2610, 0x04, 0x04, .u8, .rwL, .n 2, .nats [(0, 15)], false⟩,
  ⟨.fix, 0x2610, 0x05, 0x05, .u8, .rw, .n 25, .nats [(0, 0), (10, 100)], false⟩,
  ⟨.fix, 0x2610, 0x06, 0x06, .u8, .rw, .n 25, .nats [(0, 0), (10, 100)], false⟩,
  ⟨.fix, 0x2610, 0x07, 0x07, .u8, .rwL, .n 8, .nats [(8, 119)], false⟩,
  ⟨.fix, 0x2610, 0x08, 0x08, .u16, .rw, .n 0, .any, false⟩,
  ⟨.fix, 0x2610, 0x09, 0x09, .u8, .rwL, .n 1, .nats [(0, 2)], false⟩,
  ⟨.fix, 0x2610, 0x0A, 0x0A, .u8, .rw, .n 3, .nats [(0, 10)], false⟩,
  ⟨.fix, 0x2610, 0x0B, 0x0B, .u16, .rw, .n 0, .any, true⟩,
  ⟨.fix, 0x2610, 0x0C, 0x0C, .u32, .rw, .n 0, .mask 0x3F, true⟩,
  ⟨.fix, 0x2610, 0x0D, 0x0D, .u32, .ro, .n 0, .any, false⟩,
  ⟨.fix, 0x2610, 0x0E, 0x0E, .u32, .ro, .n 0, .any, false⟩]

/-- RECORDER_CTRL (16_event_recorder). -/
def rowsRecorderCtrl : List ObjRow := [
  ⟨.fix, 0x2200, 0x00, 0x00, .u8, .const, .n 15, .any, false⟩,
  ⟨.fix, 0x2200, 0x01, 0x01, .u8, .wo, .n 0, .nats [(1, 1)], false⟩,
  ⟨.fix, 0x2200, 0x02, 0x02, .u8, .ro, .n 0, .any, false⟩,
  ⟨.fix, 0x2200, 0x03, 0x03, .u16, .rwL, .n 256, .nats [(16, 3008)], false⟩,
  ⟨.fix, 0x2200, 0x04, 0x04, .u32, .ro, .n 0, .any, false⟩,
  ⟨.fix, 0x2200, 0x05, 0x05, .u16, .ro, .n 64, .any, false⟩,
  ⟨.fix, 0x2200, 0x06, 0x06, .u16, .ro, .n 3008, .any, false⟩,
  ⟨.fix, 0x2200, 0x07, 0x07, .u16, .ro, .n 0, .any, false⟩,
  ⟨.fix, 0x2200, 0x08, 0x08, .u32, .ro, .n 0, .any, false⟩,
  ⟨.fix, 0x2200, 0x09, 0x09, .u16, .ro, .n 0, .any, false⟩,
  ⟨.fix, 0x2200, 0x0A, 0x0A, .u16, .rw, .n 0, .nats [(0, 4096)], false⟩,
  ⟨.fix, 0x2200, 0x0B, 0x0B, .u32, .ro, .n 0, .any, false⟩,
  ⟨.fix, 0x2200, 0x0C, 0x0C, .u64, .ro, .n 0, .any, false⟩,
  ⟨.fix, 0x2200, 0x0D, 0x0D, .u32, .ro, .n 0, .any, false⟩,
  ⟨.fix, 0x2200, 0x0E, 0x0E, .u32, .ro, .n 0, .any, false⟩,
  ⟨.fix, 0x2200, 0x0F, 0x0F, .u32, .rw, .n 0, .mask 0x1FF, true⟩]

/-- RECORDER_WINDOW (16_event_recorder). -/
def rowsRecorderWindow : List ObjRow := [
  ⟨.fix, 0x2201, 0x00, 0x00, .u8, .const, .n 11, .any, false⟩,
  ⟨.fix, 0x2201, 0x01, 0x01, .u64, .ro, .n 0, .any, false⟩,
  ⟨.fix, 0x2201, 0x02, 0x02, .u64, .ro, .n 0, .any, false⟩,
  ⟨.fix, 0x2201, 0x03, 0x03, .u64, .ro, .n 0, .any, false⟩,
  ⟨.fix, 0x2201, 0x04, 0x04, .u64, .ro, .n 0, .any, false⟩,
  ⟨.fix, 0x2201, 0x05, 0x05, .u64, .ro, .n 0, .any, false⟩,
  ⟨.fix, 0x2201, 0x06, 0x06, .u64, .rw, .n 1, .any, false⟩,
  ⟨.fix, 0x2201, 0x07, 0x07, .u32, .rw, .n 0, .any, false⟩,
  ⟨.fix, 0x2201, 0x08, 0x08, .u16, .rw, .n 64, .nats [(0, 1000)], false⟩,
  ⟨.fix, 0x2201, 0x09, 0x09, .u8, .ro, .n 0, .any, false⟩,
  ⟨.fix, 0x2201, 0x0A, 0x0A, .u64, .ro, .n 0, .any, false⟩,
  ⟨.fix, 0x2201, 0x0B, 0x0B, .u64, .ro, .n 0, .any, false⟩]

/-- RECORDER_READ (16_event_recorder). -/
def rowsRecorderRead : List ObjRow := [
  ⟨.fix, 0x2202, 0x00, 0x00, .u8, .const, .n 1, .any, false⟩,
  ⟨.fix, 0x2202, 0x01, 0x01, .domain, .ro, .b [], .any, false⟩]

/-- UPDATE_CTRL (17_firmware_update). -/
def rowsUpdateCtrl : List ObjRow := [
  ⟨.fix, 0x2300, 0x00, 0x00, .u8, .const, .n 12, .any, false⟩,
  ⟨.fix, 0x2300, 0x01, 0x01, .u8, .wo, .n 0, .nats [(1, 5)], false⟩,
  ⟨.fix, 0x2300, 0x02, 0x02, .u32, .rw, .n 0, .nats [(512, 67108864)], false⟩,
  ⟨.fix, 0x2300, 0x03, 0x03, .u8, .ro, .n 0, .any, false⟩,
  ⟨.fix, 0x2300, 0x04, 0x04, .u8, .ro, .n 0, .any, false⟩,
  ⟨.fix, 0x2300, 0x05, 0x05, .u32, .ro, .n 0, .any, false⟩,
  ⟨.fix, 0x2300, 0x06, 0x06, .u32, .ro, .n 0, .any, false⟩,
  ⟨.fix, 0x2300, 0x07, 0x07, .u32, .ro, .n 0, .any, false⟩,
  ⟨.fix, 0x2300, 0x08, 0x08, .u8, .ro, .n 0, .any, false⟩,
  ⟨.fix, 0x2300, 0x09, 0x09, (.octets 96), .key, .b [], .any, false⟩,
  ⟨.fix, 0x2300, 0x0A, 0x0A, (.octets 4), .ro, .b [], .any, false⟩,
  ⟨.fix, 0x2300, 0x0B, 0x0B, .u32, .ro, .n 0, .any, false⟩,
  ⟨.fix, 0x2300, 0x0C, 0x0C, .u8, .ro, .n 0, .any, false⟩]

/-- UPDATE_DATA (17_firmware_update). -/
def rowsUpdateData : List ObjRow := [
  ⟨.fix, 0x2301, 0x00, 0x00, .u8, .const, .n 1, .any, false⟩,
  ⟨.fix, 0x2301, 0x01, 0x01, .domain, .wo, .b [], .any, false⟩]

/-- SLOT_INFO (17_firmware_update). -/
def rowsSlotInfo : List ObjRow := [
  ⟨.fix, 0x2302, 0x00, 0x00, .u8, .const, .n 12, .any, false⟩,
  ⟨.fix, 0x2302, 0x01, 0x01, .u8, .ro, .n 0, .any, false⟩,
  ⟨.fix, 0x2302, 0x02, 0x02, .u8, .ro, .n 0, .any, false⟩,
  ⟨.fix, 0x2302, 0x07, 0x07, .u8, .ro, .n 0, .any, false⟩,
  ⟨.fix, 0x2302, 0x03, 0x03, .u32, .ro, .n 0, .any, false⟩,
  ⟨.fix, 0x2302, 0x08, 0x08, .u32, .ro, .n 0, .any, false⟩,
  ⟨.fix, 0x2302, 0x04, 0x04, .u8, .ro, .n 0, .any, false⟩,
  ⟨.fix, 0x2302, 0x09, 0x09, .u8, .ro, .n 0, .any, false⟩,
  ⟨.fix, 0x2302, 0x05, 0x05, .u64, .ro, .n 0, .any, false⟩,
  ⟨.fix, 0x2302, 0x0A, 0x0A, .u64, .ro, .n 0, .any, false⟩,
  ⟨.fix, 0x2302, 0x06, 0x06, .u16, .ro, .n 0, .any, false⟩,
  ⟨.fix, 0x2302, 0x0B, 0x0B, .u16, .ro, .n 0, .any, false⟩,
  ⟨.fix, 0x2302, 0x0C, 0x0C, .u32, .ro, .n 0, .any, false⟩]

/-- IDENTITY_EXT (18_electrical_mechanical). -/
def rowsIdentityExt : List ObjRow := [
  ⟨.fix, 0x2010, 0x00, 0x00, .u8, .const, .n 6, .any, false⟩,
  ⟨.fix, 0x2010, 0x01, 0x01, .u64, .const, .n 0, .any, false⟩,
  ⟨.fix, 0x2010, 0x02, 0x02, .u16, .const, .n 0, .any, false⟩,
  ⟨.fix, 0x2010, 0x03, 0x03, .str, .const, .b [], .any, false⟩,
  ⟨.fix, 0x2010, 0x04, 0x04, .u32, .const, .n 0, .any, false⟩,
  ⟨.fix, 0x2010, 0x05, 0x05, .u16, .const, .n 0, .any, false⟩,
  ⟨.fix, 0x2010, 0x06, 0x06, .u16, .const, .n 212, .any, false⟩]

/-- The communication objects of Table 3-5 (R89, R90). Sub-index layouts and the defaults that the spec does not give are CiA 301's
own (PRESUMED, log entry 12). -/
def rowsCia : List ObjRow := [
  ⟨.fix, 0x1000, 0x00, 0x00, .u32, .const, .n 0, .any, false⟩,
  ⟨.fix, 0x1001, 0x00, 0x00, .u8, .ro, .n 0, .any, false⟩,
  ⟨.fix, 0x1003, 0x00, 0x00, .u8, .rw, .n 0, .nats [(0, 0)], false⟩,
  ⟨.fix, 0x1003, 0x01, 0x10, .u32, .ro, .n 0, .any, false⟩,
  ⟨.fix, 0x1005, 0x00, 0x00, .u32, .rw, .n 0x80, .any, false⟩,
  ⟨.fix, 0x1008, 0x00, 0x00, .str, .const, .b [], .any, false⟩,
  ⟨.fix, 0x1009, 0x00, 0x00, .str, .const, .b [], .any, false⟩,
  ⟨.fix, 0x100A, 0x00, 0x00, .str, .const, .b [], .any, false⟩,
  ⟨.fix, 0x1010, 0x00, 0x00, .u8, .const, .n 1, .any, false⟩,
  ⟨.fix, 0x1010, 0x01, 0x01, .u32, .rw, .n 1, .any, false⟩,
  ⟨.fix, 0x1011, 0x00, 0x00, .u8, .const, .n 1, .any, false⟩,
  ⟨.fix, 0x1011, 0x01, 0x01, .u32, .rw, .n 1, .any, false⟩,
  ⟨.fix, 0x1014, 0x00, 0x00, .u32, .rw, .b [], .any, false⟩,
  ⟨.fix, 0x1016, 0x00, 0x00, .u8, .const, .n 4, .any, false⟩,
  ⟨.fix, 0x1016, 0x01, 0x04, .u32, .rw, .n 0, .mask 0xFFFFFF, false⟩,
  ⟨.fix, 0x1017, 0x00, 0x00, .u16, .rw, .n 0, .nats [(0, 65535)], false⟩,
  ⟨.fix, 0x1018, 0x00, 0x00, .u8, .const, .n 4, .any, false⟩,
  ⟨.fix, 0x1018, 0x01, 0x04, .u32, .const, .n 0, .any, false⟩,
  ⟨.fix, 0x1200, 0x00, 0x00, .u8, .const, .n 2, .any, false⟩,
  ⟨.fix, 0x1200, 0x01, 0x02, .u32, .ro, .n 0, .any, false⟩]

/-- The PDO communication and mapping objects of Table 3-5, one row for each of their sub-indices (R395). A COB-ID at its default
follows from the node ID (R394) and holds no number of its own. -/
def rowsPdo : List ObjRow := [
  ⟨.fix, 0x1400, 0x00, 0x00, .u8, .const, .n 2, .any, false⟩,
  ⟨.fix, 0x1400, 0x01, 0x01, .u32, .rw, .b [], .any, false⟩,
  ⟨.fix, 0x1400, 0x02, 0x02, .u8, .rw, .n 255, .nats [(0, 240), (254, 255)], false⟩,
  ⟨.fix, 0x1600, 0x00, 0x00, .u8, .rw, .n 0, .nats [(0, 64)], false⟩,
  ⟨.fix, 0x1600, 0x01, 0x40, .u32, .rw, .n 0, .any, false⟩,
  ⟨.fix, 0x1800, 0x00, 0x00, .u8, .const, .n 5, .any, false⟩,
  ⟨.fix, 0x1800, 0x01, 0x01, .u32, .rw, .b [], .any, false⟩,
  ⟨.fix, 0x1800, 0x02, 0x02, .u8, .rw, .n 255, .nats [(0, 240), (254, 255)], false⟩,
  ⟨.fix, 0x1800, 0x03, 0x03, .u16, .rw, .n 0, .any, false⟩,
  ⟨.fix, 0x1800, 0x05, 0x05, .u16, .rw, .n 0, .any, false⟩,
  ⟨.fix, 0x1A00, 0x00, 0x00, .u8, .rw, .n 0, .nats [(0, 64)], false⟩,
  ⟨.fix, 0x1A00, 0x01, 0x40, .u32, .rw, .n 0, .any, false⟩]


/-- Every row of the dictionary (R76). -/
def objRows : List ObjRow :=
  rowsDiag ++ rowsModeCtrl ++ rowsModeStatus ++ rowsResetLadder ++ rowsSupplyStatus ++ rowsSafetyCfg ++
  rowsGalCellWindowSel ++ rowsGalCellWindow ++ rowsGalFaults ++ rowsGalCounters ++ rowsGalBlockCtrl ++ rowsGalStringCfg ++
  rowsGalFlightStatus ++ rowsGalFlightNodes ++ rowsGalSampleSched ++ rowsGalBalanceCfg ++ rowsGalBalanceTest ++ rowsWatchCfg ++
  rowsGalConvCfg ++ rowsGalConvRefs ++ rowsGalLoopLimits ++ rowsGalLoopParams ++ rowsGalFoldback ++ rowsGalLoopStatus ++
  rowsGalTelemetry ++ rowsGalPhaseTelem ++ rowsGalExcitationCfg ++ rowsGalSpectrumStatus ++ rowsGalEstimCfg ++ rowsGalCapacityLearn ++
  rowsGalEstimString ++ rowsGalThermalCfg ++ rowsGalThermalStatus ++ rowsThermalCompat ++ rowsModuleThermal ++ rowsSafetyInputs ++
  rowsSafetyOutputs ++ rowsSafetyStatus ++ rowsLockoutReset ++ rowsGalProtLimits ++ rowsGalProtStatus ++ rowsGalEnergise ++
  rowsDispatchCfg ++ rowsDispatchSetpoint ++ rowsDispatchStatus ++ rowsLeaderCfg ++ rowsTimebase ++ rowsPtpCfg ++
  rowsPtpStatus ++ rowsArcadeCfg ++ rowsArcadeStatus ++ rowsArcadeMembers ++ rowsRedundancyCfg ++ rowsRedundancyStatus ++
  rowsGalAuthorityView ++ rowsChnChCfg ++ rowsChnChChar ++ rowsChnChOut ++ rowsChnChStatus ++ rowsChnHartCfg ++
  rowsChnHartXfer ++ rowsChnChCtrl ++ rowsCanCanCfg ++ rowsWakeFrame ++ rowsTwaCfg ++ rowsTwbCfg ++
  rowsRecorderCtrl ++ rowsRecorderWindow ++ rowsRecorderRead ++ rowsUpdateCtrl ++ rowsUpdateData ++ rowsSlotInfo ++
  rowsIdentityExt ++ rowsCia

/-- The rows of a fixed index. -/
def fixRows (base : Nat) : List ObjRow :=
  match base with
  | 0x2000 => rowsModeCtrl
  | 0x2001 => rowsModeStatus
  | 0x2002 => rowsResetLadder
  | 0x2008 => rowsSupplyStatus
  | 0x2010 => rowsIdentityExt
  | 0x2100 => rowsTimebase
  | 0x2101 => rowsPtpCfg
  | 0x2102 => rowsPtpStatus
  | 0x2200 => rowsRecorderCtrl
  | 0x2201 => rowsRecorderWindow
  | 0x2202 => rowsRecorderRead
  | 0x2300 => rowsUpdateCtrl
  | 0x2301 => rowsUpdateData
  | 0x2302 => rowsSlotInfo
  | 0x2400 => rowsRedundancyCfg
  | 0x2401 => rowsRedundancyStatus
  | 0x2500 => rowsArcadeCfg
  | 0x2501 => rowsArcadeStatus
  | 0x2502 => rowsArcadeMembers
  | 0x2600 => rowsTwaCfg
  | 0x2610 => rowsTwbCfg
  | 0x2708 => rowsWakeFrame
  | 0x2800 => rowsModuleThermal
  | 0x2801 => rowsThermalCompat
  | 0x2900 => rowsSafetyCfg
  | 0x2901 => rowsSafetyInputs
  | 0x2902 => rowsSafetyOutputs
  | 0x2903 => rowsSafetyStatus
  | 0x2904 => rowsLockoutReset
  | 0x2A00 => rowsWatchCfg
  | 0x3400 => rowsDispatchCfg
  | 0x3401 => rowsDispatchSetpoint
  | 0x3402 => rowsDispatchStatus
  | 0x3410 => rowsLeaderCfg
  | 0x5F00 => rowsDiag
  | _ => if base < 0x2000 then rowsCia.filter (fun r => r.base == base) else []

/-- The rows of an offset of a Gallery block. -/
def galRows (base : Nat) : List ObjRow :=
  match base with
  | 0x0 => rowsGalStringCfg
  | 0x1 => rowsGalFlightStatus
  | 0x2 => rowsGalFlightNodes
  | 0x4 => rowsGalSampleSched
  | 0x6 => rowsGalBalanceCfg
  | 0x7 => rowsGalBalanceTest
  | 0x8 => rowsGalConvCfg
  | 0x9 => rowsGalConvRefs
  | 0xA => rowsGalLoopParams
  | 0xB => rowsGalLoopLimits
  | 0xC => rowsGalLoopStatus
  | 0xE => rowsGalFoldback
  | 0x10 => rowsGalTelemetry
  | 0x11 => rowsGalPhaseTelem
  | 0x14 => rowsGalExcitationCfg
  | 0x15 => rowsGalSpectrumStatus
  | 0x18 => rowsGalEstimCfg
  | 0x19 => rowsGalEstimString
  | 0x1A => rowsGalCapacityLearn
  | 0x1C => rowsGalThermalCfg
  | 0x1D => rowsGalThermalStatus
  | 0x20 => rowsGalProtLimits
  | 0x21 => rowsGalProtStatus
  | 0x24 => rowsGalEnergise
  | 0x28 => rowsGalAuthorityView
  | 0x30 => rowsGalCellWindowSel
  | 0x31 => rowsGalCellWindow
  | 0x38 => rowsGalFaults
  | 0x3E => rowsGalCounters
  | 0x3F => rowsGalBlockCtrl
  | _ => []

/-- The rows of an offset of a channel block. -/
def chnRows (base : Nat) : List ObjRow :=
  match base with
  | 0x0 => rowsChnChCfg
  | 0x1 => rowsChnChChar
  | 0x2 => rowsChnChOut
  | 0x3 => rowsChnChStatus
  | 0x4 => rowsChnHartCfg
  | 0x5 => rowsChnHartXfer
  | 0xF => rowsChnChCtrl
  | _ => []

/-- The rows of a place. -/
def placeRows (a : Area) (base : Nat) : List ObjRow :=
  match a with
  | .fix => fixRows base
  | .gal => galRows base
  | .chn => chnRows base
  | .can => rowsCanCanCfg

/-- The row of a sub-index among the rows of its place. -/
def rowAt (rows : List ObjRow) (sub : Nat) : Option ObjRow :=
  rows.find? (fun r => decide (r.lo ≤ sub) && decide (sub ≤ r.hi))

/-- The base index of a PDO object's kind (Table 3-5). -/
def pdoBase (index : Nat) : Option Nat :=
  if 0x1400 ≤ index ∧ index ≤ 0x140F then some 0x1400
  else if 0x1600 ≤ index ∧ index ≤ 0x160F then some 0x1600
  else if 0x1800 ≤ index ∧ index ≤ 0x181F then some 0x1800
  else if 0x1A00 ≤ index ∧ index ≤ 0x1A1F then some 0x1A00
  else none

/-- The area and offset of an index: a Gallery block, a channel block, a CAN port or a fixed index (Table 3-1). -/
def placeOf (index : Nat) : Area × Nat :=
  if 0x4000 ≤ index ∧ index < 0x4800 then (.gal, (index - 0x4000) % 0x40)
  else if 0x3000 ≤ index ∧ index < 0x3100 then (.chn, (index - 0x3000) % 0x10)
  else if index = 0x2700 ∨ index = 0x2701 then (.can, 0)
  else (.fix, index)

/-- Whether the part holds the index at all: the blocks of fused-off Galleries do not exist (R2). -/
def indexOfPart (p : Part) (index : Nat) : Bool :=
  !(decide (0x4000 + 0x40 * p.galleries ≤ index) && decide (index < 0x4800))

/-- Whether an index exists (R77). -/
def indexExists (p : Part) (index : Nat) : Bool :=
  indexOfPart p index &&
    ((pdoBase index).isSome || !(placeRows (placeOf index).1 (placeOf index).2).isEmpty)

/-- The row of a sub-index (R77). -/
def rowOf (index sub : Nat) : Option ObjRow :=
  match pdoBase index with
  | some b => rowAt (rowsPdo.filter (fun r => r.base == b)) sub
  | none => rowAt (placeRows (placeOf index).1 (placeOf index).2) sub

/-- The defaults that differ between the two CAN ports (Table 15-10). -/
def canBDefault (sub : Nat) : Option Val :=
  if sub = 1 ∨ sub = 6 ∨ sub = 7 then some (.n 0) else none

/-- What an unwritten key reads as: its row's default (R76); a path's copy has the default of its object. -/
def dfltOf (key : Nat) : Val :=
  let k := key % 0x1000000
  match (if k / 256 = 0x2701 then canBDefault (k % 256) else none) with
  | some v => v
  | none => match rowOf (k / 256) (k % 256) with
    | some r => r.dflt
    | none => .n 0


end Sys2Proof.Machine
end

