-- ==== Sys2Proof/Machine/State.lean ====
section
/-! DEFINITION. The machine's state as plain data, and the state at reset. Every object of the dictionary has its home in `dict`
(what is not listed reads as its default); everything the spec gives the machine that is no object has a field here. -/
namespace Sys2Proof.Machine

/-- Reasons a step stops with a fault. No meaning of this model raises one: the spec names for every command what it does. -/
inductive Fault where
  /-- Nothing raises it. Safe: it stops the machine. -/
  | none
deriving DecidableEq, Repr

/-- Reasons a step is refused. -/
inductive Refusal where
  /-- Raised by `exec` for a command that has no meaning yet. Safe: it stops the machine. -/
  | notModelled (mnemonic : String)
deriving DecidableEq, Repr

/-! ### Modes, supplies, Vestibule (chapter 2) -/

/-- The six modes (Table 2-1), and BOOT, the transition from power or reset to the first mode. -/
inductive Mode where
  | boot | vault | watch | ready | run | lockout | recovery
deriving DecidableEq, Repr

/-- Entries that take time (R64, R479) and the power-down (R65). -/
inductive Transit where
  | none
  /-- Entry to VAULT, stage 1 or 2, since a root tick. -/
  | toVault (stage : Nat) (since : Nat)
  /-- Entry to WATCH, stage 1 or 2, since a root tick. -/
  | toWatch (stage : Nat) (since : Nat)
  /-- The power-down of Table 2-7, since a root tick. -/
  | powerDown (since : Nat)
  /-- A device reset waits for the exit from RUN and the flush (R61, R422): cause code; true when it leads into Landing. -/
  | resetWait (cause : Nat) (landing : Bool) (since : Nat)
deriving DecidableEq, Repr

/-- Mode, transitions and boot progress that no object holds. -/
structure ModeRt where
  mode        : Mode := .boot
  transit     : Transit := .none
  modeSince   : Nat := 0        -- root tick of the last mode change
  bootSince   : Nat := 0        -- root tick of t = 0 (Table 2-3)
  pllLocked   : Bool := false
  released    : Bool := false   -- internal reset released (R56)
  verified    : Bool := false   -- Landing has verified the slot
  recoveryPin : Bool := false   -- RECOVERY_N was low at reset release
  resetHeld   : Bool := false   -- RESET_N is recognised low (R67)
  wakeKept    : Option Nat := none  -- a wake that arrived during entry to WATCH, by its cause code (R479)
  wakeWait    : Option Nat := none  -- WAKE_OUT raised in VAULT without VAUX, since a root tick; cause is 0x08 or 0x09
  wakeCause   : Nat := 0
  wakeOut     : Bool := true    -- the WAKE_OUT ball (R51)
  deferRun    : Bool := false   -- a deferred request RUN (R63)
  exitCause   : Nat := 0        -- cause of the exit from RUN in progress
  exitReset   : Option Nat := none  -- a device reset that follows the exit from RUN, by its cause code
  bootCauseNow : Nat := 2       -- cause of the BOOT in progress
  vauxBack    : Bool := false   -- VAUX met its conditions again while the power-down ran (R54, R65)
  resetLow    : Bool := false   -- RESET_N is low although the power-down ignores it (R67)
  horizonAt   : Nat := 0        -- root tick of the last time horizon (R74)
  landingNext : Bool := false   -- the next boot goes into Landing (Table 2-4)
  landCause   : Nat := 0        -- why this boot goes into RECOVERY (Table 2-6)
  watchAt     : Nat := 0        -- root tick of the last stack check, or of the entry to WATCH
  selfTested  : Bool := false   -- both channels have run their self-test (R56)
  oscAt       : Nat := 0        -- root tick of the last keep-oscillator measurement (R23)
  ladderGal   : Option Nat := none  -- RESULT of RESET_LADDER follows this Gallery's trunk (R93)
  stepAfter   : Option (Nat × Nat) := none  -- a step 2 of class 0x03 or 0x04 waits for the response to leave (R69)
  bootRecs    : List (Nat × Nat × List Byte) := []   -- code, severity and DATA of records that follow the BOOT record (R450)
  skipped     : Nat := 0        -- SKIPPED of the next BOOT record (R417)
  testEn      : Bool := false   -- TEST_EN_N was low at reset release (R457)
deriving DecidableEq, Repr

/-- The keep domain (R71 to R74, R62, R417). Its objects stand in `dict`. -/
structure Vestibule where
  alive       : Bool := true    -- it keeps its state
  interrupted : Bool := true    -- its counter was interrupted since the module was last awake (R73)
  keepCycles  : Nat := 0        -- 48-bit keep-cycle counter
  phase       : Nat := 0        -- root ticks towards the next keep cycle, times 32,768
  correction  : Q := 0          -- last measured keep-oscillator correction (R23)
  savedTick   : Nat := 0        -- tick count at the last entry to VAULT or WATCH
  savedCycles : Nat := 0        -- keep cycles at that moment
  savedMode   : Nat := 0
  savedCause  : Nat := 0
  latch       : Bool := false   -- lock-out latch, Vestibule copy (R62)
  nextSeq     : Nat := 1        -- NEXT_SEQ (R417)
  dropped     : Nat := 0        -- records dropped since the last DROPPED record (R420)
  probeAt     : Nat := 0        -- root tick of the last probe (R72)
  sinceSave   : Nat := 0        -- ENERGISED_SINCE_SAVE, one bit per string (R238)
  opTicks     : Nat := 0        -- root ticks spent outside VAULT up to the last entry to it
  awakeAt     : Nat := 0        -- root tick of the last exit from VAULT
deriving DecidableEq, Repr

/-- An archive record (Table 7-8) on NAND. -/
structure ArchRec where
  seq    : Nat
  string : Nat
  page   : Nat                                 -- first page, counted from the first ever written
  blocks : List Nat := []                      -- the physical blocks that its pages lie in
  bytes  : List Byte
deriving DecidableEq, Repr

/-- A block of the spectrum archive that records have been written into: its number and pages programmed. -/
structure ArchBlock where
  id    : Nat
  pages : Nat
deriving DecidableEq, Repr

/-- One position in a state image (Table 8-4) as read: none for a not-a-number. -/
structure ImgPos where
  soc : Option Q
  var : Option Q
  cap : Option Q
  ohm25 : Option Q
  hyst : Int
  flags : Nat
  tCore : Int
  learns : Nat
deriving DecidableEq, Repr

/-- A state image as read (Table 8-4). -/
structure Image where
  energised : Bool
  positions : Nat
  seq : Nat
  modelCrc : Nat
  saveTick : Nat
  restSince : Option Nat
  pos : List ImgPos
deriving DecidableEq, Repr

/-- A firmware slot with its part of the slot record (R435, R436): state (Table 17-1), the IMAGE_LENGTH accepted, the bytes; none are
those of the image that the module left the factory with, which the spec does not give. -/
structure Slot where
  state : Nat := 0
  len   : Nat := 0
  image : Option (List Byte) := some []
deriving DecidableEq, Repr

/-- What the configuration store on NAND holds (R62, R74, R85, R88, R334, R436, R440). -/
structure Store where
  saved    : SMap Val := []            -- stored rw and rw-L settings
  loadNext : Bool := false             -- the next boot replaces them with the defaults (R88)
  sealed   : Option (SMap Val × Nat) := none     -- sealed set and its CRC
  sealedPrev : Option (SMap Val × Nat) := none     -- the previous generation
  sealBad  : Bool := false             -- the stored set no longer matches its CRC (R86)
  latch    : Bool := false             -- lock-out latch, stored copy (R62)
  latchCauses : Nat := 0
  lostTo      : Nat := 0        -- highest SEQ that a boot has counted in LOST (R417)
  horizon  : Nat := 0                  -- last stored time horizon (R74)
  origin   : Int := 0                  -- ORIGIN stored with it (R334)
  savedTick : Nat := 0
  savedMode : Nat := 0
  savedCause : Nat := 0
  ringKey  : Option (List Byte) := none
  ownerKey : Option (List Byte) := none
  images   : SMap (List Byte) := []    -- the bytes of the state images, two slots per string: 2n and 2n + 1 (R237)
  archive  : List ArchRec := []        -- spectrum archive, oldest first (R219)
  archSeq  : Nat := 0
  archPage : Nat := 0                  -- pages written so far
  archRing : List ArchBlock := []      -- archive blocks with records, oldest first; the last is the write point (R219)
  archFree : List Nat := List.range' 3648 512     -- erased archive blocks ahead of the write point
  swapFrom : Option Nat := none        -- plant time from which SWAP_INTERVAL counts (R357)
  slots    : List Slot := [{ state := 5, image := none }, {}]     -- slots A and B
  active   : Nat := 0                  -- the slot in force
  fuses    : Nat := 0                  -- the fuse count (R440)
  ownerBad : Bool := false             -- neither copy of the owner key can be read (R439)
deriving DecidableEq, Repr

/-- Which source a limit bank and the safety channels were last loaded from (R83, R85). -/
inductive LimitSource where
  | defaults | sealed
deriving DecidableEq, Repr

/-- The safety sets (R83): pending, and in force. -/
structure SealRt where
  pendingSet : SMap Val := []
  inForce    : SMap Val := []
  sealedNow  : Bool := false           -- a sealed set is in force
deriving DecidableEq, Repr

/-! ### The object server (chapters 3 and 1) -/

/-- The class S queues of Table 3-14. -/
inductive SQueue where
  | gallery (n : Nat) | core0 | arcade (serial : Nat) | readout | nand
deriving DecidableEq, Repr

/-- Who awaits the outcome of an access: nobody further, an SDO transfer by port and number, an RPDO of a port, the mailbox, or an
Arcade request by its source and REQ_ID. -/
inductive Origin where
  | plain | sdo (port count : Nat) | rpdo (port : Nat) | mailbox | arcade (serial id : Nat)
deriving DecidableEq, Repr

/-- A waiting class S request (R99): its queues, path, whether it writes, index, sub-index, data, root tick of arrival. -/
structure SReq where
  queues : List SQueue
  path  : Path
  write : Bool
  index : Nat
  sub   : Nat
  data  : List Byte
  at_   : Nat
  origin : Origin := .plain
  hw    : Nat := 0              -- bits that hardware sets in the cycle in which the write clears (R45)
deriving DecidableEq, Repr

/-- The outcome of an access: acknowledged with data, refused with an abort code, waiting in a queue, or not served. -/
inductive Reply where
  | ok (data : List Byte)
  | abort (code : Nat)
  | queued
  | silent
deriving DecidableEq, Repr

/-- A scheduled action (R27): its 32-bit target and what fires. -/
structure Sched where
  target : Nat
  action : Nat
deriving DecidableEq, Repr

/-- An SRAM line with its side band (Table 1-11): 64 data bytes, 8 ECC bytes, TAG, POISON; and the words that SECDED has found
uncorrectable. -/
structure Line where
  data   : List Byte
  ecc    : List Byte
  tag    : Nat
  poison : Bool
  bad    : List Nat := []
deriving DecidableEq, Repr

/-! ### Event recorder (chapter 16) -/

/-- A record (Table 16-1). `timeA` and `timeB` are the two parts of TIME (Table 16-2). -/
structure Rec where
  seq : Nat
  timeA : Nat
  timeB : Nat
  quality : Nat
  format : Nat
  plant : Nat
  code : Nat
  cls : Nat
  inst : Nat
  sev : Nat
  data : List Byte
deriving DecidableEq, Repr

/-- A block of the recorder region: its number, pages programmed, records, marked for retirement. -/
structure RecBlock where
  id : Nat
  pages : Nat
  recs : List Rec
  retire : Bool
  torn : Bool := false             -- a page of it holds slots whose CRC fails (Table 16-4)
deriving DecidableEq, Repr

/-- A marker of the erase journal (R425). Region 0 is the recorder, 1 the archive. -/
inductive JMark where
  | start (region block count highSeq : Nat)
  | done (region block : Nat)
deriving DecidableEq, Repr

/-- A path's snapshot (R431 to R433): lower end and the root tick of its last completed read. -/
structure Snap where
  path : Nat
  lo : Nat
  hi : Nat
  readAt : Nat
deriving DecidableEq, Repr

/-- The recorder. -/
structure RecorderRt where
  buffer   : List Rec := []        -- records not yet durable, SEQ order (R420)
  inProg   : List Nat := []        -- sizes of the pages being programmed, from the front of the buffer
  redo     : Bool := false         -- the front page failed and is programmed again (R427)
  flushTo  : Option Nat := none    -- a flush runs up to this SEQ (R422)
  closeAt  : Option Nat := none    -- root tick at which the buffer closes after PFAIL
  closed   : Bool := false
  ready    : Bool := false         -- the rebuild of R429 is complete
  permClosed : Bool := false
  permPages : Nat := 0             -- pages of the permanent region programmed so far
  permTorn : Bool := false         -- one of them holds slots whose CRC fails
  perm     : List Rec := []
  circ     : List RecBlock := []   -- circulating region, oldest first; the last is the write point
  erased   : List Nat := List.range' 640 3008   -- erased blocks ahead of the write point
  erasing  : Option Nat := none
  eraseArch : Option Nat := none   -- an archive block being erased
  spare    : List Nat := List.range' 4160 192  -- the shared spare pool (Table 1-4)
  eraseCnt : SMap Nat := []
  journal  : List JMark := []      -- the markers of the journal block in force
  jGen     : Nat := 0              -- its generation: how often the journal has changed its block (R425)
  bad      : List Nat := []        -- blocks retired (R428)
  snaps    : List Snap := []
  reads    : List (Nat × Nat × Bool) := []   -- replies of RECORDER_READ under way: path, their last SEQ (0 none), whether they exhaust
deriving DecidableEq, Repr

/-! ### Protection, safety channels, groups (chapter 10) -/

/-- Group states (Table 10-7, coded as GROUP_STATE). -/
inductive GState where
  | off | waitOff | busCheck | precharge | closing | releasing | energised | rampDown | opening
deriving DecidableEq, Repr

/-- A contactor group. Times are root ticks. -/
structure Group where
  state    : GState := .waitOff
  since    : Nat := 0
  pend     : Bool := false
  matchSf  : Nat := 0              -- superframes of bus match so far
  mainAt   : Option Nat := none    -- main load commanded on
  released : Nat := 0              -- strings whose RELEASE was answered with 0x00
  releaseBad : Bool := false       -- a RELEASE was refused or failed
  minOff   : Nat := 0              -- MIN_OFF counts from here
  srsAt    : Option Nat := none    -- start of the SRS
  firstK   : Option Nat := none    -- the first K28.1 of the SEO left a trunk
  loadsOff : Option Nat := none    -- both channels commanded the loads off
  readOff  : Bool := false         -- every load has read off
  fbFailed : Bool := false         -- the feedback has failed in this opening
  offCause : Nat := 0              -- SRS causes that stood in the last cycle
  trunkSeo : Option Nat := none    -- HOLD_TIMEOUT + 1 ms after a trunk loss, deadline (R274)
  demand   : Bool := false         -- a protection cause has raised an SEO demand since the last cycle (R271)
deriving DecidableEq, Repr

/-- One safety channel (R278 to R280). -/
structure Channel where
  loaded   : Bool := false         -- firmware loaded in BOOT
  healthy  : Bool := false
  inputs   : Nat := 0              -- its reading of SI_nn_1 (bit 2n) and SI_nn_2 (bit 2n + 1)
  loads    : Nat := 0              -- loads it commands on
  clockOk  : Bool := true
  supplyOk : Bool := true
  groups   : List GState := List.replicate 8 .waitOff   -- its own state of every group (R278)
  lag      : Nat := 0              -- groups that the other channel alone stops: this one has not seen the demand (R273)
  copies   : SMap Nat := []        -- causes 2 to 4 in its copy of each string's bitmaps (R18)
  actAt    : Option Nat := none    -- the RESET input has been active in its reading since (R299)
  endAt    : Option Nat := none    -- and has ended at
deriving DecidableEq, Repr

/-- One load's timing and tests. -/
structure Load where
  offAt    : Option Nat := none    -- root tick at which it last went off (R289)
  want     : Bool := false         -- commanded on by its group
  forced   : Bool := false         -- kept off after an overlap or an over-current until its request ends
deriving DecidableEq, Repr

/-- One safety input. -/
structure SInput where
  lv1      : Bool := false
  lv2      : Bool := false
  discSince : Option Nat := none   -- the channels have disagreed since
  discStand : Bool := false
  seenBoth : Bool := false         -- both channels have shown demand (or inactive) since the discrepancy (R284)
  crossA   : Bool := false         -- cross short found on channel 1, on channel 2 (R283)
  crossB   : Bool := false
  goodA    : Nat := 0              -- successive periods with correct pulses
  goodB    : Nat := 0
deriving DecidableEq, Repr

/-- The safety channels, inputs, outputs and lock-out that no object holds. -/
structure SafetyRt where
  newel    : Channel := {}
  baluster : Channel := {}
  groups   : List Group := List.replicate 8 {}
  loads    : List Load := List.replicate 16 {}
  inputs   : List SInput := List.replicate 16 {}
  soV      : List Q := List.replicate 8 0       -- ball voltages of SO_0 to SO_7
  slV      : List Q := List.replicate 16 0      -- ball voltages of SL_0 to SL_15
  soFirst  : List (Option (Nat × Nat)) := List.replicate 8 none  -- a running overlap: the first load and its start (R288)
  stuck    : Nat := 0              -- outputs with OUTPUT_STUCK standing: bit m for SO_m, bit 8 + n for SL_n
  outFault : Nat := 0              -- outputs with OUTPUT_FAULT standing
  passes   : SMap Nat := []        -- successive passed tests of R286 by output
  fbFault  : Bool := false         -- CONTACTOR_FB stands
  chanFail : Bool := false
  pllFail  : Bool := false
  disagree : Bool := false         -- CHANNEL_DISAGREE stands
  diffSince : Option Nat := none   -- the channels' views have differed since
  sameSince : Option Nat := none
  selfPass : Bool := true          -- both channels passed their last self-test
  resetDisc : Bool := false        -- a discrepancy arose on it during the pulse
  reqAt    : Option Nat := none    -- LOCKOUT_RESET written at (R300)
  imdLow   : Option Nat := none    -- below IMD_WARN since
  imdAlow  : Option Nat := none    -- below IMD_ALARM since
  imdHigh  : Option Nat := none    -- above 1.1 times IMD_WARN since
  imdAhigh : Option Nat := none    -- above 1.1 times IMD_ALARM since
  imdWarn  : Bool := false
  imdAlarm : Bool := false
  cycles   : Nat := 0              -- safety cycles since BOOT
  adopt    : Option (List Nat) := none   -- groups that the next safety cycle enters in ENERGISED after a take-over (R360)
  cmdOn    : Nat := 0              -- loads that the group states command on
  cycleAt  : Option Nat := none    -- root tick of the last safety cycle, of the last self-check, of the last look at the insulation
  checkAt  : Option Nat := none
  imdAt    : Option Nat := none
  tp1At    : Option Nat := none    -- middle of the last off-pulse of TP_1, of TP_2 (R283)
  tp2At    : Option Nat := none
  testAt   : SMap Nat := []        -- root tick of the last test of a switch: twice the output, plus 1 for Baluster (R285, R286)
  retest   : Bool := false         -- LOCKOUT_RESET has asked for every test that can end a cause (R300)
deriving DecidableEq, Repr

/-- The eleven class P limits of one copy of a limit bank (Table 10-2, R33). -/
structure Bank where
  cellOv : Q := 15/4
  cellUv : Q := 23/10
  hyst   : Q := 1/20
  rest   : List Q := []            -- SHUNT_OC to PHASE_OC in sub-index order, and HEAD_CMP_FILTER
deriving DecidableEq, Repr

/-- Class P runtime of a string (R271 to R276). -/
structure ProtRt where
  bank1    : Bank := {}
  bank2    : Bank := {}
  absent   : List Nat := List.replicate 7 4     -- superframes for which causes 0 to 6 have been absent
  ovHold   : Bool := false                      -- CELL_OV stands until every field is below CELL_OV - CELL_HYST
  uvHold   : Bool := false
  badBlk   : List Nat := []                     -- blocks that failed in the last superframe: 0 header, 1 measurement, 2 responses, 2 + i node i
  badOld   : List Nat := []                     -- and in the superframe before
  inhSent  : Bool := true                       -- this module has requested INHIBIT since the last RELEASE
  downSeo  : Bool := false                      -- its trunk was lost in the present SEO (R274)
  lostInh  : Bool := false                      -- INHIBIT kept for a lost string (R296)
  newel    : Bool := false                      -- INHIBIT requests of the two channels
  baluster : Bool := false
  seoInh   : Bool := false                      -- the Gallery's own request of an SEO
  lostCnt  : Nat := 0
  disagree : Nat := 0                           -- successive windows in which the sensors disagreed (R275)
  agree    : Nat := 0
  srsE0    : Q := 0                             -- I_sel at the start of the SRS
  srsOver  : Nat := 0                           -- superframes above the envelope
  srsZero  : Nat := 0
  rampAt   : Option Nat := none                 -- ramp-in since (R295)
  threshPend : List (Nat × Nat) := []           -- target and register still to be confirmed (R270)
  threshAt : Nat := 0
  threshMis : Bool := false                     -- a value differed: the writes repeat every 1 s
deriving DecidableEq, Repr

/-! ### The Flight: commands, trunk, head, monitors (chapters 4 and 5) -/

/-- A command or response entry (Table 4-9) without its TAG's reserved byte: 12 bytes of ARGS or DATA. -/
structure Entry where
  op     : Nat
  target : Nat
  tag    : Nat
  status : Nat := 0
  args   : List Byte := []
deriving DecidableEq, Repr

/-- A command that waits for its response (R119). -/
structure Outst where
  entry   : Entry
  age     : Nat := 0               -- superframes since it was last sent
  resends : Nat := 0
  seen    : List Nat := []         -- addresses that have answered a broadcast
  dueSf   : Bool := true           -- it goes out with the next downstream superframe
deriving DecidableEq, Repr

/-- Balancing-switch test phases (Table 5-7). -/
inductive TestPhase where
  | idle | prepare | baseline | closing | settle1 | opening | settle2
deriving DecidableEq, Repr

/-- The trunk of a Gallery: what no object holds. -/
structure TrunkRt where
  since    : Nat := 0              -- root tick of the last state change
  good     : Nat := 0              -- successive good upstream headers
  seenGood : Bool := false         -- a good header has been seen since ACQUIRE (R123)
  bad      : Nat := 0              -- successive missing or bad upstream superframes
  delays   : List Nat := []        -- the last TRUNK_DELAYs, newest first, at most 1,024
  sfNum    : Nat := 0              -- SF_NUM of the next downstream superframe
  sentSf   : Nat := 0              -- SF_NUM last sent
  lastUp   : Nat := 0              -- SF_NUM last received
  waiting  : List Entry := []      -- commands not yet sent
  outst    : List Outst := []
  nextTag  : Nat := 1
  idAns    : List (Nat × Nat × Nat × Nat) := []   -- answers to the broadcast IDENTIFY: address, FIRST_POS, POS_COUNT, serial
  serials  : SMap Nat := []        -- serials as reported
  headSeen : Bool := false
  pathSeen : Bool := false         -- an upstream header has come since the string was enabled: LOOP_STATE is known
  comps    : SMap Nat := []        -- DELAY_COMP words last read
  compPend : List Nat := []        -- monitors whose COMP has been sent and is not yet answered (R142, R143)
  degraded : Bool := false         -- from a path change, or a drift found, until the last COMP write is answered (R143)
  rereadAt : Nat := 0
  lastDownErr : Nat := 0           -- DOWN_CRC_ERR and CODE_ERR of the last header
  lastCodeErr : Nat := 0
  inserted : Nat := 0              -- symbols inserted into the present downstream superframe (R108)
  farSince : Option Nat := none    -- both TURNING monitors have reported FAR_LINK_UP since (R127)
  commission : List Nat := []      -- monitors whose COMMISSION is outstanding (R134)
  asleep   : Bool := false         -- the stack was sent SLEEP before WATCH or VAULT
  idle     : Bool := true          -- the SerDes is in electrical idle
  lastTick : Nat := 0              -- plant time of the last downstream K28.5
  noClaim  : Bool := false         -- the role lets it claim, but it has stopped by R363
  ovl      : Nat := 0              -- successive superframes with AUTH bit 4
  orphan   : Nat := 0              -- successive headers in which the head obeys nobody (R352)
  askPartner : Bool := false       -- a standby asks the partner for a broadcast IDENTIFY (R354)
  headRegs : SMap Nat := []        -- head registers as read back
  syncAfter : Bool := false        -- SYNC_RESET follows once COMP is written (R142)
  enumRead : Bool := false         -- the check of R124 has passed and DELAY_COMP is being read in ENUMERATE (R142)
  divSent  : Nat := 0              -- CARRIER_DIV last written
  arrivals : List Nat := []        -- the last 16 arrivals, newest first, on a trunk not claimed (R353)
  recentre : Nat := 0              -- superframes with the wide window of R361
  obeyPort : Nat := 0              -- AUTH bits 3 and 2 of the last header
  grids    : List (Nat × Nat × Nat) := []   -- SF_NUM, departure grid index, SAMPLE_AT of the last downstream superframes, newest first
  expect   : Option Nat := none    -- ticks from the departure at which the upstream K28.5 is expected (R108, R123)
  sentCmds : List Entry := []      -- the CMD field of the last downstream superframe
  authSf   : Nat := 0              -- superframes for which this module has claimed while AUTH bit 4 stands (R363)
  holdSf   : Nat := 0              -- successive headers with HOLDING
  out      : Option DownSuper := none   -- the downstream superframe last sent
deriving DecidableEq, Repr

/-- The head measurement block and header of the last superframe (Table 4-4). -/
structure HeadMeas where
  fresh    : Bool := false         -- the superframe was complete with header and head block qualified
  whole    : Bool := true          -- it was complete at t = 10,000
  hdrOk    : Bool := false
  headOk   : Bool := false
  sf       : Nat := 0
  shunt    : Q := 0                -- A, positive when discharging
  hall     : Q := 0
  bus      : Q := 0                -- V
  string   : Q := 0
  phase    : List Q := []
  headT    : List Nat := []        -- raw int16 words
  cmp      : Nat := 0
  tick     : Nat := 0              -- plant time of S(k)
  alignStep : Bool := false        -- marked ALIGN_STEP (R143)
  grid     : Nat := 0              -- G(k): grid index of the sample instant (R202)
  stepped  : Bool := true          -- the control step has run on it
deriving DecidableEq, Repr

/-- One slot of the last superframe (Table 4-8). -/
structure NodeMeas where
  ok      : Bool := false
  present : Bool := false
  status  : Nat := 0
  cmp     : Nat := 0
  settle  : Nat := 0               -- successive superframes with SETTLING
  temps   : List Nat := []
deriving DecidableEq, Repr

/-- Balancing and switch tests of a string. -/
structure BalRt where
  decideAt : Nat := 0              -- root tick of the last decision (R152)
  phase    : TestPhase := .idle
  pos      : Nat := 0
  left     : Nat := 0              -- superframes left in the phase
  acc      : Q := 0
  v0       : Q := 0
  v1       : Q := 0
  baseClosed : Bool := false
  step1Open : Bool := false
  step2Closed : Bool := false
  testLost : Bool := false         -- a response is missing after R119
  i0       : Q := 0                -- string current at the start
  queue    : List Nat := []        -- positions to test
  passAt   : Nat := 0              -- root tick of the last automatic pass
  sweepAt  : Nat := 0              -- root tick at which the last sweep fell due
  sweepFirst : Bool := true        -- no sweep has fallen due since the trunk entered UP
  sweepDueAt : Nat := 0            -- root tick at which the sweep that waits to go out fell due (R150)
  sweepOut : Bool := false         -- a sweep's results are awaited
  sweepAns : Option Nat := none    -- superframes since the sweep's response
  sweepRsp : Bool := false         -- the response has come in the present superframe
  sweepGot : List Nat := []        -- slots whose temperatures were taken in this sweep
deriving DecidableEq, Repr

/-- A head, as far as the Flight shows it (R111, R118, R121, R128 to R133). -/
inductive AuthState where
  | none | obeyA | obeyB | dual | dualFault
deriving DecidableEq, Repr

/-- The loop path (Table 4-15). -/
inductive LoopPath where
  | down | ring | wrap | split
deriving DecidableEq, Repr

/-- The upstream superframe that answers a downstream one, as the head sends it (Table 4-4): its blocks with their CRCs, the symbols
inserted (BREAK triples, R108), the root tick at which its K28.5 leaves, and the ports that it leaves on (R111). -/
structure UpFrame where
  sf      : Nat
  header  : Blk
  head    : Blk
  hresp   : Blk
  nodes   : List Blk
  inserted : Nat
  leaves  : Nat
  onA     : Bool
  onB     : Bool
deriving DecidableEq, Repr

/-- String head. -/
structure Head where
  regs     : List Nat := [0, 1, 0, 40, 0x11388, 0, 0, 0, 0, 0, 0, 0, 0, 0, 0, 0]  -- registers 0x0000 to 0x000F (Table 4-13)
  inhibited : Bool := true
  latch    : Bool := true
  holding  : Bool := false
  expired  : Bool := false
  local_   : Bool := false
  stale    : Bool := false
  otWarn   : Bool := false
  otShut   : Bool := false
  otArm    : Bool := true          -- ENABLE has gone from 0 to 1 since OVERTEMP_SHUT (R171)
  upA      : Bool := false
  upB      : Bool := false
  slack    : Bool := false
  auth     : AuthState := .none
  firstB   : Bool := false         -- port B was obeyed first
  tokA     : Nat := 0              -- successive superframes with a valid token
  tokB     : Nat := 0
  noTokA   : Nat := 4              -- successive superframes without
  noTokB   : Nat := 4
  haveA    : Bool := false         -- the port holds authority
  haveB    : Bool := false
  overlap  : Nat := 0
  path     : LoopPath := .down
  breakAfter : Nat := 0xFF
  nodesSeen : Nat := 0
  lostSf   : Nat := 0              -- frames in which no monitor returned
  missRefs : Nat := 0              -- successive superframes without REFS
  refsA    : List Int := List.replicate 8 0
  refsB    : List Int := List.replicate 8 0
  refs     : List Int := List.replicate 8 0     -- references followed by the phases, mA
  enA      : Bool := false
  enB      : Bool := false
  enable   : Bool := false
  balA     : List Nat := []
  balB     : List Nat := []
  holdAt   : Nat := 0              -- root tick at which HOLD began
  downErr  : Nat := 0
  codeErr  : Nat := 0
  cmp      : Nat := 0              -- HEAD_CMP now
  cmpOld   : Nat := 0              -- HEAD_CMP and CMP bits of the superframe before
  nodeCmp  : Bool := false         -- a CMP bit of some slot is set
  nodeCmpOld : Bool := false
  meas     : List Int := []        -- latched readings
  lastTag  : Nat := 0
  lastResp : Option Entry := none
  resp     : List Entry := []      -- responses to be sent
  asleep   : Bool := false
  checkMs  : Nat := 0
  wakeOut  : Bool := false
  wakeAt   : Nat := 0
  sampleAt : Nat := 0xFFFF
  breakTriple : Bool := false      -- BREAK triples are inserted upstream
  assign   : Bool := false
  sfEcho   : Nat := 0
  carrier  : Nat := 0              -- CARRIER_PHASE in use
  gainAt   : Nat := 0              -- root tick at which a port last gained authority
  skip     : Nat := 0              -- phases that stop for one cycle of the carrier (R170), one bit each, from a root tick on
  skipAt   : Nat := 0
  trip     : Nat := 0              -- HEAD_CMP bits set since the last superframe
  cmpRun   : SMap Nat := []        -- successive readings beyond the limit, by HEAD_CMP bit
  loopSf   : Nat := 0              -- the loop frame in flight (R113): SF_NUM, BAL, CMD, the address counters of its halves
  loopBal  : List Nat := []
  loopCmd  : List Entry := []
  ctrF     : Nat := 0
  ctrR     : Nat := 0
  slots    : SMap Blk := []        -- the slots of loop frame k that monitors have filled, by address (R114)
  upHdr    : List Byte := []       -- header, measurement and response payloads of the upstream superframe that answers k (Table 4-4)
  upMeas   : List Byte := []
  upResp   : List Byte := []
  up       : Option UpFrame := none    -- that superframe with the slots that have come back (R111, R112)
  rxA      : Nat := 0              -- root tick of the last superframe on port A, on port B
  rxB      : Nat := 0
  insF     : Nat := 0              -- symbols that turning monitors have inserted into each half of the loop frame (R125)
  insR     : Nat := 0
deriving DecidableEq, Repr

/-- Cell monitor. -/
structure Monitor where
  regs     : List Nat := [0, 0, 16, 0, 0, 0, 0, 0, 0x21, 2]     -- registers 0x0000 to 0x0009 (Table 4-13)
  addr     : Nat := 0
  asleep   : Bool := false
  checkMs  : Nat := 10000
  checkAt  : Nat := 0
  tLimit   : Int := 6000           -- 0.01 degC
  lastCheck : Nat := 0             -- result word of the last sleep check (Table 5-11)
  selfRes  : Nat := 0
  checkFail : Bool := false
  selfFail : Bool := false
  settling : Nat := 4              -- frames still to carry SETTLING
  resetAt  : Option Nat := none    -- SF_NUM at which a SYNC_RESET takes effect
  sweepMask : Nat := 0
  sweepBusy : Bool := false
  tempLeft : Nat := 0              -- frames still to carry TEMP_VALID
  temps    : List Nat := List.replicate 8 0x8000
  v        : List Nat := List.replicate 16 0x800000     -- latched voltages, 24-bit words
  ovRun    : List Nat := List.replicate 16 0            -- successive sinc3 outputs beyond the threshold
  uvRun    : List Nat := List.replicate 16 0
  okRun    : List Nat := List.replicate 16 0            -- successive outputs inside OV_THRESH by 2,000 uV, inside UV_THRESH
  okRunU   : List Nat := List.replicate 16 0
  cmp      : Nat := 0
  cmpOld   : Nat := 0              -- bits of the frame before (the stretch of R115)
  bal      : Nat := 0              -- switches closed
  ovr      : Option (Nat × Nat) := none    -- override of a switch test: position and frames left
  turning  : Bool := false
  farUp    : Bool := false
  rxErr    : Bool := false
  frameAt  : Nat := 0              -- root tick of the last loop frame
  burstAt  : Option Nat := none    -- root tick of the last relayed wake burst
  lastTag  : Nat := 0
  lastResp : Option Entry := none
  slot     : List Byte := []       -- payload of the slot last written
  reverse  : Bool := false
  trip     : Nat := 0              -- comparator bits set since the last slot
  sigLost  : Bool := false         -- a port has lost signal (R125)
  locked   : Bool := false         -- its receiver has been locked since power-on, sleep or a loss of signal (R140, R146)
  echoes   : Bool := false         -- it has sent a loop K28.5 back on an output that carries no frames (R140)
  breakTriple : Bool := false      -- it has inserted a BREAK triple into the frame that it turned (R125)
  balReq   : Nat := 0              -- the BAL word received last
  cmpS     : Option Nat := none    -- the comparator bits latched at S(k) for the next slot (R148)
  resp     : Option Entry := none  -- response for the next slot
deriving DecidableEq, Repr

/-! ### Converter control (chapter 6) -/

/-- Converter states (Table 6-6, coded as LOOP_STATUS STATE). -/
inductive ConvState where
  | off | standby | running | reversing | stopping | held | inhibited | tripped
deriving DecidableEq, Repr

/-- The Tread engine's register file and conditions. -/
structure TreadRt where
  state    : ConvState := .off
  x        : List Q := List.replicate 10 0     -- integrators by candidate number
  prev     : Nat := 0                          -- previous winner, 0 none
  iPrev    : Q := 0                            -- I_sel(k - 1)
  zero     : Nat := 0                          -- successive steps at zero
  stale    : Nat := 0
  fresh    : Nat := 0
  staleHold : Bool := false
  pauseHold : Bool := false
  parityStart : Bool := false                  -- the next step is the start of R190
  evEn     : Bool := false                     -- ENERGISED, DE-ENERGISED, RESTART wait for the next step
  evDe     : Bool := false
  evRestart : Bool := false
  enable   : Bool := false                     -- HEAD_CTRL ENABLE
  resume   : Bool := true
  refsValid : Bool := true
  tripFold : Nat := 0                          -- standing trip causes of R183: 0 none, 1 discharge, 2 charge
  foldCnt  : Nat := 0
  tripHs   : Bool := false
  tripOt   : Bool := false
  exHist   : List Q := [0, 0, 0]               -- ex - a of the last three steps, newest first
  vLast    : Option (Q × Q) := none            -- last valid BUS_V and STRING_V
  ths      : Option Q := none                  -- T_hs
  refs     : List Int := List.replicate 8 0    -- references of the last step, mA
  iDem     : Q := 0                            -- I_dem of the last step
deriving DecidableEq, Repr

/-- A telemetry window: sums over the superframes that have data (R194). -/
structure Window where
  count   : Nat := 0                           -- superframes with data
  idx     : Nat := 0                           -- its number: plant time of its start by its length
  sums    : List Q := List.replicate 6 0       -- current, power, bus, string, Hall, shunt
  phases  : List Q := List.replicate 8 0
  endAt   : Nat := 0                           -- root tick at which the last window with an average ended
deriving DecidableEq, Repr

/-- Telemetry of a string. -/
structure TelemRt where
  w100    : Window := {}
  w1s     : Window := {}
  peakNew : List Bool := List.replicate 11 false    -- a superframe has come since each held peak was read
  mismatch : Nat := 0                          -- successive windows above MISMATCH_WARN
  startAt : Nat := 0
deriving DecidableEq, Repr

/-! ### Spectroscopy, estimation, thermal (chapters 7 to 9) -/

/-- An excitation set (R199 to R201): M, tones (harmonic, weight), AMPLITUDE, INVERT, CORE_TONE, the plating tones, S_pk. -/
structure ExcSet where
  m      : Nat
  tones  : List (Nat × Nat)
  amp    : Q
  invert : Bool
  core   : Nat
  lo     : Nat
  hi     : Nat
  spk    : Q := 0
deriving DecidableEq, Repr

/-- A window by its number (grid index / N): kind 0 suspended, 1 priming, 2 measured; reasons (Table 7-6); the range of I_sel; the
plant time of its first sample; A; DIRECTION; the current accumulators; the set that it runs with. -/
structure WinRt where
  w       : Nat
  kind    : Nat
  set     : ExcSet
  reasons : Nat := 0
  iLo     : Option Q := none
  iHi     : Option Q := none
  tick    : Nat := 0
  amp     : Q := 0
  dir     : Int := 1
  acc     : List (Int × Int) := []
  old     : Bool := false                      -- another set has taken effect since it began (R201)
  first   : Bool := false                      -- of an old window: no window of its set had been accepted before
deriving DecidableEq, Repr

/-- An accepted window that waits for publication (R212). -/
structure PubWin where
  set     : ExcSet
  win     : WinRt
  lastTick : Nat
  first   : Bool                                -- the first accepted window after an APPLY
deriving DecidableEq, Repr

/-- Spectroscopy of a string. STATE stands in SPECTRUM_STATUS. -/
structure SpecRt where
  applied : Option ExcSet := none
  waitSet : Option ExcSet := none              -- computed, waits for its point of effect
  compSet : Option ExcSet := none              -- being computed
  n       : Nat := 0                           -- index of the last step with excitation, then the next
  cleanI  : List Q := []                       -- I_sel of the last successive steps that meet R204 but for A, newest first
  lastStop : Nat := 1                          -- the stop conditions that held last
  pauseDir : Int := 1
  a       : Q := 0                             -- a(k) and ex(k) of the last step
  ex      : Q := 0
  heldEx  : Q := 0                             -- the excitation term that the references last sent carry
  wins    : List WinRt := []
  pub     : Option PubWin := none
  fresh   : Bool := true                       -- no accepted window since the last APPLY
  archNow : Bool := false                      -- a record is due with the next accepted window
  archAt  : Nat := 0                           -- plant time of the window of the last record
  archPend : Option (List Byte) := none        -- a record to be written
  takeEx  : Q := 0                             -- excitation that the head repeats in HOLD at a take-over (R361)
deriving DecidableEq, Repr

/-- A thermistor of a string (R250 to R258). -/
structure Therm where
  raw     : Nat := 0x8000                      -- the reading of the last sweep
  known   : Bool := false
  got     : Bool := false                      -- it has been read in the present sweep
  broken  : Bool := false
  suspect : Bool := false
  absent  : Nat := 0                           -- successive sweeps without the suspect condition
  hist    : List (Nat × Q) := []               -- newest first: plant time and value of sweeps with a sound reading
  r10     : Option Q := none
  r60     : Option Q := none
  warnRun : Nat := 0                           -- successive sweeps at or above a warning rate
  alarmRun : Nat := 0
deriving DecidableEq, Repr

/-- Temperature state of a string. Flags stand in THERMAL_STATUS. -/
structure ThermRt where
  therms  : List Therm := []
  swept   : Bool := false                      -- a sweep has reported since the trunk entered UP
  warnAt  : Nat := 0                           -- root tick of the last sweep with a rate at or above half a warning level
  alarmAt : Nat := 0
  alarmSince : Option Nat := none
  absent1 : Option Nat := none                 -- the condition of row 1, of row 2 of Table 9-2 has been absent since
  absent2 : Option Nat := none
  row     : Nat := 3
deriving DecidableEq, Repr

/-- Why a position is in the first-use path (R240). -/
inductive FirstUse where
  | tile | paramSet | replaced | poisoned
deriving DecidableEq, Repr

/-- The estimate of one position (Table 8-1). -/
structure PosEst where
  soc     : Q := 0
  var     : Q := 0
  lo      : Q := 0
  hi      : Q := 1
  h       : Q := 0
  hUnknown : Bool := true
  uncertain : Bool := true
  invalid : Bool := false
  capDef  : Bool := false
  xd      : Q := 0
  xe      : Q := 0
  tc      : Q := 0
  ts      : Q := 0
  c       : Q := 0
  ohm     : Q := 0
  ohm25   : Q := 0
  ohmMeas : Bool := false                      -- a resistance has been measured since first use
  learns  : Nat := 0
  ready   : Bool := false                      -- the first-use path is complete
  why     : List FirstUse := [.tile]           -- the causes for which it is to be entered
  ocv     : Q := 0                             -- of the last step (R225)
  vModel  : Q := 0
  fullAt  : Option Nat := none                 -- the FULL condition has held since
  fullDone : Bool := false                     -- this unbroken run has set its anchor
  emptyRun : Nat := 0
  learn   : Option (Q × Q × Nat) := none       -- s_f, Q in A s, root tick of the FULL anchor
  vPrev   : Option Q := none                   -- usable voltage of the superframe of the last step
  closed  : Nat := 0                           -- closed-switch superframes since the last step (R226)
  tick    : Nat := 0                           -- plant time of the superframe it was published from
  coreAt  : Nat := 0                           -- the core temperature taken up last, by its plant time
deriving DecidableEq, Repr

/-- Estimation of a string. -/
structure EstRt where
  qd      : Q := 0                             -- the accumulators of R226, A s
  qc      : Q := 0
  nSf     : Nat := 0
  gap     : Q := 0                             -- sum of (I_held x 32 us / 3,600)^2
  iHeld   : Q := 0
  restAt  : Nat := 0                           -- plant time at which the rest timer last restarted
  moving  : Bool := false                      -- the last superframe with data restarted it
  corrAt  : Option Nat := none                 -- root tick of the last OCV correction of this rest
  rate    : Q := 0                             -- acc of R263
  lastSf  : Option Nat := none                 -- superframe of the last model step, and its current
  iPrev   : Q := 0
  steps   : Nat := 0                           -- model steps in the present second
  secAt   : Nat := 0
  aggAt   : Nat := 0
  saveDue : Option Nat := none                 -- a save is due since
  saveDe  : Bool := false                      -- it is due to a DE-ENERGISED event (R238)
  setNext : Option (List Byte) := none         -- a parameter set that takes effect at the next model step (R224)
  saving  : Option Bool := none                -- a save runs; whether the string was energised at its start
  savedAt : Nat := 0                           -- root tick of the last completed save
  saveSlot : Nat := 0                          -- slot and SEQ of the save that runs
  saveSeq : Nat := 0
deriving DecidableEq, Repr

/-! ### Galleries -/

/-- One position of a string. -/
structure Cell where
  v        : Option Q := none      -- voltage of the last superframe, raw; none without data
  vLast    : Option Q := none      -- last valid voltage
  settling : Bool := false
  cmpOv    : Bool := false
  cmpUv    : Bool := false
  noData   : Nat := 0              -- successive superframes without data (R116)
  balOn    : Bool := false         -- balancing, by the last decision (R152)
  balCmd   : Bool := false         -- BAL bit commanded
  balClosed : Bool := false        -- BAL_STATE as reported
  balAge   : Nat := 0              -- superframes since the commanded bit changed
  balDiff  : Nat := 0              -- successive superframes in which BAL_STATE differed (R154)
  swFault  : Bool := false
  balFault : Bool := false         -- BALANCE_FAULT of the flag word: the last switch test classified a fault
  held     : Bool := false         -- BAL bit held 0 for a switch test
  tick     : Nat := 0              -- plant time of S(k) of the last superframe
  temp     : Option Q := none      -- array 0x02
  tempAt   : Nat := 0
  subst    : Bool := false
  est      : PosEst := {}
  z        : List (Q × Q × Q) := []    -- array 0x06 per tone
  zAt      : Nat := 0
  zCur     : Bool := false         -- z was taken under the applied set
  core     : Option Q := none      -- array 0x07
  coreQ    : Q := 0
  coreAt   : Nat := 0
  base     : Option (Q × Q) := none    -- B and T_B (R216)
  drops    : Nat := 0
  plating  : Bool := false
  discarded : Bool := false        -- SPECTRUM_DISCARDED
  excl     : Bool := false         -- discarded in the present window (R209)
  accBal   : Bool := false         -- BAL_STATE in the superframe before
  acc      : List (Int × Int) := []    -- accumulators per tone, bank in use and bank to be published
  accOld   : List (Int × Int) := []
  okOld    : Bool := false
deriving DecidableEq, Repr

/-- What the model engine takes of a complete superframe (R36): SF_NUM, plant time of S(k), the string current, and of each position its
usable voltage and whether its switch is closed. -/
structure ModelIn where
  sf   : Nat
  tick : Nat
  i    : Q
  vs   : List (Option Q)
  bals : List Bool
deriving DecidableEq, Repr

/-- A Gallery with its string: tile, trunk, positions, head and monitors. -/
structure Gallery where
  trunk  : TrunkRt := {}
  meas   : HeadMeas := {}
  nodes  : List NodeMeas := []
  cells  : List Cell := []
  bal    : BalRt := {}
  prot   : ProtRt := {}
  tread  : TreadRt := {}
  telem  : TelemRt := {}
  spec   : SpecRt := {}
  therm  : ThermRt := {}
  est    : EstRt := {}
  head   : Head := {}
  mons   : List Monitor := List.replicate 39 {}
  sram   : SMap Line := []
  scrubNext : Nat := 0             -- the next line of the scrub pass (R44)
  scrubDone : Nat := 0             -- root tick at which the last pass was complete
  held   : List (Nat × Val) := []  -- acknowledged writes of settings that take effect at the next control step (R82)
  stateLines : List (Nat × Nat) := []   -- poisoned lines of position states: position and address (R240)
  mdl    : Option ModelIn := none  -- the latest complete superframe, until the model engine has stepped on it (R36)
deriving DecidableEq, Repr

/-! ### Active and standby (chapter 13) -/

/-- A string entry of a Corridor frame (Table 13-3). -/
structure MirStr where
  conv   : Nat
  dir    : Int
  winner : Nat
  group  : Nat
  iSel   : Int
  mode   : Nat
  set    : Int
  exc    : Nat
  excIdx : Nat
  delay  : Nat
  flags  : Nat
deriving DecidableEq, Repr

/-- The mirror: the partner's last Corridor frame (Table 13-2), by either path (R350). -/
structure Mirror where
  sf       : Nat
  serial   : Nat
  hw       : Nat
  role     : Nat
  mode     : Nat
  flags    : Nat
  epoch    : Nat
  handover : Nat
  sealCrc  : Nat
  cfgCrc   : Nat
  notReady : Nat
  locks    : Nat
  strings  : List MirStr
deriving DecidableEq, Repr

/-- Redundancy that no object holds. -/
structure RedRt where
  mirror   : Option Mirror := none
  mirrorAt : Nat := 0              -- root tick of its string data
  corBad   : Nat := 0              -- successive superframes without a good header
  corGood  : Nat := 0              -- good frames while the Corridor is down
  corUp    : Bool := false
  corHeard : Bool := false         -- a good frame has come since the last own frame
  readAt   : Option Nat := none    -- last MIRROR read that succeeded
  roleAt   : Nat := 0              -- root tick of the last role change
  roleSf   : Nat := 0              -- superframes in TAKING_OVER
  handover : Nat := 0xFFFFFFFF     -- own HANDOVER_SF
  cause    : Nat := 0              -- of the take-over that runs
  decideAt : Nat := 0              -- root tick of its decision
  overlapYield : Bool := false     -- OVERLAP_YIELD stands
  tookSf   : Nat := 0xFFFFFFFF     -- the partner's HANDOVER_SF that has been acted on
  txGrid   : Option Nat := none    -- superframe boundary of the last own frame
  out      : List Byte := []       -- the last own frame, offsets 1 to 1,081
  readTry  : Nat := 0              -- root tick of the last MIRROR read
  activeAt : Option Nat := none    -- root tick at which this module became ACTIVE by take-over
  yieldLoads : Bool := false       -- STANDBY by R364: loads and groups wait until every head obeys the partner (R367)
  passSwap : Bool := false         -- a SWAP waits to be passed to the partner (R366)
deriving DecidableEq, Repr

/-! ### Arcade, time base, dispatch (chapters 11 and 12) -/

/-- A member of the ring as its beacon or supervision frames show it (Table 12-9). Times are root ticks. -/
structure Member where
  serial : Nat
  mac    : Nat
  kind   : Nat
  mflags : Nat := 0
  prio   : Nat := 0
  ports  : Nat := 0
  mode   : Nat := 0
  since  : Nat
  heard  : Nat
  origin : Int := 0
  need   : Int := 0
  oseq   : Nat := 0
deriving DecidableEq, Repr

/-- An own Arcade request that waits for its response (R331). -/
structure ArcReq where
  id    : Nat
  dest  : Nat
  write : Bool
  index : Nat
  sub   : Nat
  at_   : Nat
deriving DecidableEq, Repr

/-- What the leader has read of a follower (R319): P_DIS_AVAIL, P_CHG_AVAIL, SOC_MODULE, P_ACTUAL; which came in this period; failed
periods in a row. -/
structure Follow where
  serial : Nat
  vals   : List (Option Q) := [none, none, none, none]
  got    : List Bool := [false, false, false, false]
  wrote  : Bool := true
  fails  : Nat := 0
  seen   : Bool := false                       -- every read of some period has been answered
deriving DecidableEq, Repr

/-- A value frozen for a path (R94, R330): root tick of its last read. -/
structure Frozen where
  path  : Nat
  index : Nat
  sub   : Nat
  value : List Byte
  at_   : Nat
deriving DecidableEq, Repr

/-- A write that arrives in segments (R330). -/
structure ArcPart where
  serial : Nat
  index  : Nat
  sub    : Nat
  data   : List Byte
deriving DecidableEq, Repr

/-- A served request whose response is still to be formed (R330): source, REQ_ID, index, sub-index, OFFSET, MAX of a read, TOTAL, whether
it writes, the flag byte of Table 12-4. -/
structure ArcOpen where
  serial : Nat
  id     : Nat
  index  : Nat
  sub    : Nat
  offset : Nat
  max    : Nat
  total  : Nat
  write  : Bool
  flags  : Nat := 0
deriving DecidableEq, Repr

/-- A node of the HSR node table: its MAC address, when it was last heard, and on which ports. -/
structure HsrNode where
  mac   : Nat
  at_   : Nat
  ports : Nat
deriving DecidableEq, Repr

/-- A frame that this module sends on both ring ports, with the HSR tag (R325, R329). -/
structure ArcTx where
  dest  : Nat                -- destination MAC address
  tag   : Nat := 0x892F      -- EtherType of the HSR tag
  seq   : Nat                -- HSR sequence number
  ether : Nat := 0x88B5      -- EtherType behind the tag
  body  : List Byte          -- the PDU
deriving DecidableEq, Repr

/-- The Arcade that no object holds. -/
structure ArcadeRt where
  testAt   : Nat := 0              -- start of the loopback test
  bypUntil : Nat := 0              -- BYP_E and BYP_W stay high until, after a release by request
  selfSince : Nat := 0             -- member since
  beaconAt : Option Nat := none
  lifeAt   : Option Nat := none
  seq      : Nat := 0              -- own HSR sequence number
  backE    : Bool := false         -- own supervision has returned on RING_E, on RING_W
  backW    : Bool := false
  dups     : List (Nat × Nat × Nat) := []      -- source MAC, sequence number, arrival of the first copy
  fresh    : SMap Nat := []        -- last FRESHNESS accepted by source, dictionary messages
  freshB   : SMap Nat := []        -- and beacons
  members  : List Member := []
  answered : List (Nat × Nat × List Byte) := []   -- source, REQ_ID, response, newest first
  frozen   : List Frozen := []
  parts    : List ArcPart := []
  opens    : List ArcOpen := []
  reqs     : List ArcReq := []
  nextId   : Nat := 1
  follow   : List Follow := []
  nodes    : List HsrNode := []    -- the node table, newest first
  tx       : List ArcTx := []      -- the frames that the last command formed
  fwd      : Option HsrFrame := none  -- the frame forwarded last
  leader   : Nat := 0
  keeperSeq : Option (Nat × Nat) := none   -- the keeper and its last ORIGIN_SEQ
  macs     : SMap Nat := []        -- the MAC address of the last beacon of each source
deriving DecidableEq, Repr

/-- The time base and PTP that no object holds. -/
structure TimeRt where
  stepPend : Nat := 0              -- ticks of a forward step that waits for the boundary
  need     : Int := 0              -- NEED_ORIGIN while AHEAD
  ahead    : Bool := false
  keepCnt  : Nat := 0              -- successive Syncs with |e| of 5,000 or more
  posSince : Option Nat := none    -- e at or above 5,000 since
  negSince : Option Nat := none
  offs     : List Q := []          -- the last 64 offsets in ns, newest first
  okSince  : Option Nat := none    -- |o| within LOCK_THRESHOLD since
  badCnt   : Nat := 0              -- successive Syncs with |o| above 4 LOCK_THRESHOLD
  syncAt   : Option Nat := none    -- root tick of the last Sync or PPS used
  holdAt   : Nat := 0              -- HOLDOVER since
  wasPps   : Bool := false         -- the last lock was to PPS/TOD
  originSeq : Nat := 0
  ppsLast  : Option Nat := none    -- plant time of the last rising edge
  ppsAt    : Option Nat := none    -- root tick of the last valid edge or of the start, none once a missing edge is reported
  ppsNamed : Bool := true          -- a sentence has named the last edge
  tod      : Option Int := none    -- TAI second of the last edge that a sentence named
  consSince : Option Nat := none   -- edges and sentences are consistent since
  ppsOutAt : Option Nat := none    -- root tick of the last rise of PPS_OUT
  foreign  : List (PtpAnnounce × Nat × Nat) := []   -- foreign masters: last Announce, Announces counted, root tick
  parent   : Option PtpAnnounce := none
  seqLast  : Option Nat := none    -- sequenceId of the last Sync accepted
  seqFu    : Option Nat := none    -- and of the last Follow_Up
  waitFu   : Option PtpMsg := none -- a two-step Sync that waits for its Follow_Up
  arrivals : List (Nat × Option Nat × Option Nat) := []   -- the last 16 Syncs: sequenceId, arrival on RING_E, on RING_W
  exchE    : Nat := 0              -- peer-delay exchanges done on each port
  exchW    : Nat := 0
  reqE     : Option (Nat × Nat) := none    -- outstanding Pdelay_Req: sequenceId, t1
  reqW     : Option (Nat × Nat) := none
  respE    : Option (Nat × Q × Nat × Q) := none   -- two-step Pdelay_Resp that waits: sequenceId, t2, t4, correction
  respW    : Option (Nat × Q × Nat × Q) := none
  syncTx   : Option Nat := none    -- root tick and sequenceId of own messages
  annTx    : Option Nat := none
  pdE      : Option Nat := none
  pdW      : Option Nat := none
  seqSync  : Nat := 0
  seqAnn   : Nat := 0
  seqPd    : Nat := 0
  tx       : List PtpMsg := []     -- PTP messages that the last command formed
  txAnn    : Option PtpAnnounce := none
  master   : Bool := false         -- the ports are MASTER
  listenAt : Nat := 0              -- LISTENING since
  jumps    : List (Nat × Nat) := []    -- steps taken: plant time after the step, ticks
deriving DecidableEq, Repr

/-- Dispatch that no object holds. -/
structure DispRt where
  hostAt   : Option Nat := none    -- root tick of the last accepted write of P_DEMAND, of LEADER_TARGET
  leadAt   : Option Nat := none
  fbAt     : Nat := 0              -- FALLBACK entered at
  fbVal    : Q := 0                -- the last target in force from another source
  allocIdx : Option Nat := none    -- plant time of the last allocation by 31,250,000
  allocAt  : Nat := 0              -- root tick at which it completed
  shares   : List Q := List.replicate 32 0     -- the last share of each string, magnitude
  shortAt  : Option Nat := none    -- the shortfall has been above P_MIN since
  shortSaid : Bool := false
  hostOut  : Bool := false         -- HOST_TIMEOUT, LEADER_LOST have been reported for the present silence
  leadOut  : Bool := false
  fbDone   : Bool := false         -- FALLBACK_HOLD has ended
  fromActual : Bool := false       -- a take-over: the next allocation starts from P_ACTUAL (R361)
  newLead  : Nat := 0              -- allocations since this module became leader: 2 none, 1 the reads are out
deriving DecidableEq, Repr

/-! ### Universal channels (chapter 14) -/

/-- A characteristic in service (R377): type, GAIN and OFFSET, X_LO, X_HI, Y_HI, CUTOFF, the points. -/
structure CharSet where
  type   : Nat := 0
  gain   : Q := 1
  offset : Q := 0
  xLo    : Q := 4
  xHi    : Q := 20
  yHi    : Q := 100
  cutoff : Q := 1 / 100
  pts    : List (Q × Q) := []
deriving DecidableEq, Repr

/-- The HART link of a channel: the transaction that runs (1 command 0, 2 command 3, 3 a request), when it was last sent and its
repeats; the last poll, the last command 3 data, the failure; the request and its response. -/
structure HartRt where
  doing   : Nat := 0
  sentAt  : Nat := 0
  tries   : Nat := 0
  pollAt  : Option Nat := none
  dataAt  : Option Nat := none
  failAt  : Nat := 0
  req     : Option (List Byte) := none
  resp    : List Byte := []
  tx      : List Byte := []        -- the frame sent last
deriving DecidableEq, Repr

/-- A universal channel. Times are root ticks. -/
structure ChanRt where
  busy    : Option (Nat × Nat) := none         -- 1 re-initialise, 2 test, 3 the sequence of a boot, since
  stuck   : Bool := false                      -- stays on the burden after a failed re-initialise
  idx     : Option Nat := none                 -- plant time of the last sample by its period
  range   : Nat := 4                           -- range of an auto-ranging channel
  down    : Nat := 0
  tripped : Bool := false                      -- the overload detector tripped during the sample in progress
  discard : Bool := false                      -- the next sample is the first of a lower range
  last    : Option (Q × Q) := none             -- last valid RAW and VALUE
  char    : CharSet := {}
  charNext : Option CharSet := none
  outAt   : Nat := 0                           -- OUT_VALUE last written, or the function applied
  cmd     : Option Q := none                   -- electrical command; none while the driver is off
  cmdAt   : Option Nat := none                 -- last change larger than the tolerance
  cmpAt   : Nat := 0                           -- last readback comparison
  badAt   : Option Nat := none                 -- readback and command differ since
  railAt  : Nat := 0
  hot     : Bool := false                      -- the driver is off above 165 degC
  noLoop  : Bool := false                      -- carries no current until VLOOP has been valid for 100 ms
  hart    : HartRt := {}
deriving DecidableEq, Repr

/-! ### CAN and two-wire ports (chapter 15) -/

/-- Who produced a frame of the transmit FIFO, as far as R397 and R399 tell them apart. -/
inductive TxKind where
  | tpdo | beat | sdo | emcy
deriving DecidableEq, Repr

/-- An entry of a transmit FIFO (R397): whether it goes in the FD format; for an SDO response, the number of its transfer (R399). -/
structure TxEntry where
  id    : Nat
  data  : List Byte
  kind  : TxKind
  begun : Bool := false
  fd    : Bool := false
  brs   : Bool := false            -- FD with bit-rate switching (R393)
  xfer  : Nat := 0
deriving DecidableEq, Repr

/-- A TPDO of a port: SYNCs since it was last sent, what was last sent, the root tick of that. -/
structure TpdoRt where
  count : Nat := 0
  sent  : Option (List Byte) := none
  at_   : Nat := 0
deriving DecidableEq, Repr

/-- What an SDO server waits for (R90). -/
inductive SdoPhase where
  | idle
  /-- A segmented download: the length stated, the toggle expected, the bytes so far. -/
  | downSeg (size : Option Nat) (toggle : Bool) (data : List Byte)
  /-- A segmented upload: the bytes left, the toggle expected. -/
  | upSeg (left : List Byte) (toggle : Bool)
  /-- A block download: the length stated, whether a CRC is checked, the bytes of complete sub-blocks, the segments of this one. -/
  | downBlk (size : Option Nat) (crc : Bool) (data : List Byte) (segs : List (List Byte))
  /-- A block download whose last segment has come. -/
  | downEnd (size : Option Nat) (crc : Bool) (data : List Byte)
  /-- A block upload: all bytes, bytes acknowledged, segments of the sub-block sent, block size, whether a CRC is given, and whether
  the client has started it. -/
  | upBlk (data : List Byte) (acked sent blksize : Nat) (crc started : Bool)
  /-- A block upload whose last segment is acknowledged. -/
  | upEnd
  /-- The access waits in its queue; the response to give: 0 download, 1 download segment with its toggle, 2 block download, 3 upload,
  4 block upload with its block size and CRC support. -/
  | waiting (answer : Nat) (toggle : Bool) (blksize : Nat)
deriving DecidableEq, Repr

/-- The SDO transfer of a port: object, number of the transfer, root tick of the last frame, whether the last request came in the FD
format (R90). -/
structure SdoRt where
  phase : SdoPhase := .idle
  index : Nat := 0
  sub   : Nat := 0
  count : Nat := 0
  at_   : Nat := 0
  fd    : Bool := false
deriving DecidableEq, Repr

/-- A CAN port. Times are root ticks. -/
structure CanRt where
  fifo    : List TxEntry := []
  headAt  : Nat := 0                           -- the head has stood at the head since
  waitq   : List TxEntry := []                 -- SDO responses and EMCY that wait in core 0
  node    : Nat := 0x10                        -- node ID and rates in force (R394)
  nominal : Nat := 2
  rate    : Nat := 2
  nmt     : Nat := 0                           -- 0 initialising, 127 pre-operational, 5 operational, 4 stopped
  offAt   : Nat := 0                           -- bus-off since
  recovering : Bool := false
  sdo     : SdoRt := {}
  heard   : SMap Nat := []                     -- last heartbeat by entry of 0x1016
  missing : Nat := 0                           -- entries whose heartbeat has timed out
  tpdos   : SMap TpdoRt := []
  held    : List (Nat × List Byte) := []       -- RPDOs that wait for a SYNC
  refused : Nat := 0                           -- RPDO_REFUSED: mapped writes refused (R396)
deriving DecidableEq, Repr

/-- TWA: runs due by slot, since when; the slot that runs with the SLOT word it took; slots that lost arbitration; the last due time
and the last completed run of each slot. -/
structure TwaRt where
  due     : List Nat := List.replicate 16 0
  dueAt   : List Nat := List.replicate 16 0
  running : Option (Nat × Nat) := none
  retry   : List (Nat × Nat) := []
  lastDue : List Nat := List.replicate 16 0
  okAt    : List (Option Nat) := List.replicate 16 none
  tx      : List Byte := []                    -- the bytes that the slot started last sends after its address
deriving DecidableEq, Repr

/-- A mailbox request as copied at its STOP (R410). -/
structure MailReq where
  id     : Nat
  op     : Nat
  index  : Nat
  sub    : Nat
  isLast : Bool
  reserved : Bool := false         -- a reserved bit of the flag byte is set
  offset : Nat
  total  : Nat
  length : Nat
  data   : List Byte
deriving DecidableEq, Repr

/-- A response of the mailbox: REQ_ID, whether done or aborted, ABORT, RSP_TOTAL, RSP_DATA. -/
structure MailRsp where
  id    : Nat := 0
  state : Nat := 0
  abort : Nat := 0
  total : Nat := 0
  data  : List Byte := []
deriving DecidableEq, Repr

/-- TWB: pointer, the bytes written to the mailbox window, the request that runs, its response before and after it is in place, the
frozen values and the values written in segments, the alert. -/
structure TwbRt where
  ptr     : Nat := 0
  mem     : SMap Byte := []
  req     : Option MailReq := none
  made    : Option MailRsp := none
  rsp     : MailRsp := {}
  frozen  : List Frozen := []
  parts   : List ArcPart := []
  want    : Bool := false                      -- an alert waits
  tries   : Nat := 0
  retryAt : Option (Nat × Nat) := none         -- it is tried again so many ms after a root tick
  out     : List Byte := []                    -- the bytes of the last read transaction
  alertTx : Option (Nat × List Byte) := none   -- the last alert sent: its address and its bytes
deriving DecidableEq, Repr

/-- Firmware update (chapter 17): the owning path, LENGTH of the running download, the slot it goes into, the start of prepare, of the
pause, of the trial. Times are root ticks. -/
structure UpdRt where
  owner   : Option Path := none
  len     : Nat := 0
  slot    : Nat := 1
  prepAt  : Option Nat := none
  pauseAt : Option Nat := none
  trialAt : Nat := 0
deriving DecidableEq, Repr

/-- The machine. -/
structure State where
  part    : Part := .zs8848
  serial  : Nat := 1               -- unit serial
  root    : Nat := 0               -- root ticks elapsed
  now     : Nat := 0               -- plant time in ticks (R26)
  md      : ModeRt := {}
  vest    : Vestibule := {}
  nand    : Store := {}
  dict    : SMap Val := []         -- every object that is not at its default
  safetySet : SealRt := {}
  sreqs   : List SReq := []        -- waiting class S requests, oldest first
  paused  : Bool := false          -- an activation pause runs (R445): the server serves nothing
  serveNow : Bool := false         -- the server is executing a waiting request
  last    : Option Reply := none   -- outcome of the last access
  sramOut : Option (List Byte × Bool) := none   -- data and poison indication of the last SRAM line read (R43)
  sched   : List Sched := []
  recd    : RecorderRt := {}
  safe    : SafetyRt := {}
  gal     : List Gallery := List.replicate 32 {}
  red     : RedRt := {}
  arc     : ArcadeRt := {}
  time    : TimeRt := {}
  disp    : DispRt := {}
  chans   : List ChanRt := List.replicate 16 {}
  vloopAt : Nat := 0               -- root tick at which VLOOP became valid
  cans    : List CanRt := [{}, {}] -- CAN-A and CAN-B
  beatAt  : Nat := 0               -- root tick of the last producer heartbeat
  twa     : TwaRt := {}
  twb     : TwbRt := {}
  upd     : UpdRt := {}
  origin  : Origin := .plain       -- who awaits the access that runs
  dies    : List Nat := [0, 0, 0, 0]   -- levels in which each die stands: 1 warn, 2 throttle, 4 shut (R263)
  free    : Nat := 0               -- how many free values have been taken (the model's own)
  pending : List Instr := []       -- commands that wait, first in first out
deriving DecidableEq, Repr

/-- The machine right after reset: a module as it leaves the factory at t = 0 of its first power-up (Table 2-3), VAUX and VIO valid, the
Vestibule on VAUX (Table 2-11), one power cycle counted. -/
def State.reset : State :=
  { dict := [(Obj.RESET_LADDER.LAST_RESET_CAUSE, .n 2), (Obj.SUPPLY_STATUS.FLAGS, .n 0x89), (Obj.SUPPLY_STATUS.POWER_CYCLES, .n 1)] }

end Sys2Proof.Machine
end

