-- ==== Sys2Proof/Machine/Ops.lean ====
section
/-! DEFINITION. The named operations every family shares: dictionary values, Galleries, time, records, modes. -/
namespace Sys2Proof.Machine

/-- The outcome type of every meaning. -/
abbrev Out := Host.Outcome State Fault Refusal

/-! ### Dictionary values (R76, R92) -/

/-- The value of a key. -/
def State.val (s : State) (k : Nat) : Val := SMap.get dfltOf s.dict k
/-- The state with a key's value replaced; a value at its default is not listed. -/
def State.put (s : State) (k : Nat) (v : Val) : State := { s with dict := SMap.set dfltOf s.dict k v }

/-- The unsigned value in a dictionary value. -/
def Val.toN : Val → Nat
  | .n x => x
  | _ => 0
/-- The signed value in a dictionary value. -/
def Val.toI : Val → Int
  | .i x => x
  | _ => 0
/-- The engineering value in a dictionary value, none when not available (R79). -/
def Val.toR : Val → Option Q
  | .r x => x
  | .nz => some 0
  | _ => none
/-- The bytes in a dictionary value. -/
def Val.toB : Val → List Byte
  | .b x => x
  | _ => []

/-- An unsigned object. -/
def State.getN (s : State) (k : Nat) : Nat := (s.val k).toN
/-- A signed object. -/
def State.getI (s : State) (k : Nat) : Int := (s.val k).toI
/-- An engineering value, none when not available. -/
def State.getR (s : State) (k : Nat) : Option Q := (s.val k).toR
/-- An engineering value that is a setting and so always available. -/
def State.getQ (s : State) (k : Nat) : Q := (s.getR k).getD 0
/-- Bytes. -/
def State.getB (s : State) (k : Nat) : List Byte := (s.val k).toB
/-- Set an unsigned object. -/
def State.setN (s : State) (k x : Nat) : State := s.put k (.n x)
/-- Set a signed object. -/
def State.setI (s : State) (k : Nat) (x : Int) : State := s.put k (.i x)
/-- Set an engineering value. -/
def State.setR (s : State) (k : Nat) (x : Option Q) : State := s.put k (.r x)
/-- Set bytes. -/
def State.setB (s : State) (k : Nat) (x : List Byte) : State := s.put k (.b x)
/-- One more on a counter that saturates at 0xFFFF_FFFF (R48). -/
def State.inc (s : State) (k : Nat) : State := s.setN k (min 0xFFFFFFFF (s.getN k + 1))
/-- Several more on a saturating counter. -/
def State.addTo (s : State) (k d : Nat) : State := s.setN k (min 0xFFFFFFFF (s.getN k + d))
/-- Bit `i` of a bit field. -/
def State.flag (s : State) (k i : Nat) : Bool := bit (s.getN k) i
/-- Set or clear bit `i` of a bit field. -/
def State.setFlag (s : State) (k i : Nat) (b : Bool) : State := s.setN k (withBit (s.getN k) i b)
/-- Raise bit `i` of a sticky word. -/
def State.raise (s : State) (k i : Nat) : State := s.setFlag k i true
/-- Clear the bits of a mask in a word. -/
def State.clear (s : State) (k m : Nat) : State := s.setN k (clearBits (s.getN k) m)

/-- A value of the safety set in force (R83): the sealed set, or the defaults while none is sealed. -/
def State.inForce (s : State) (k : Nat) : Val := SMap.get dfltOf s.safetySet.inForce k
/-- An unsigned value of the set in force. -/
def State.secN (s : State) (k : Nat) : Nat := (s.inForce k).toN
/-- An engineering value of the set in force. -/
def State.secQ (s : State) (k : Nat) : Q := ((s.inForce k).toR).getD 0

/-! ### Galleries -/

/-- The Galleries of the part (Table 0-2). -/
def State.galIds (s : State) : List Nat := List.range s.part.galleries
/-- Gallery n. -/
def State.g (s : State) (n : Nat) : Gallery := s.gal.getD n {}
/-- The state with Gallery n changed. -/
def State.updG (s : State) (n : Nat) (f : Gallery → Gallery) : State := { s with gal := modAt s.gal n f }
/-- Change a Gallery's trunk. -/
def State.updTrunk (s : State) (n : Nat) (f : TrunkRt → TrunkRt) : State := s.updG n (fun g => { g with trunk := f g.trunk })
/-- Change a Gallery's protection runtime. -/
def State.updProt (s : State) (n : Nat) (f : ProtRt → ProtRt) : State := s.updG n (fun g => { g with prot := f g.prot })
/-- Change a Gallery's Tread engine. -/
def State.updTread (s : State) (n : Nat) (f : TreadRt → TreadRt) : State := s.updG n (fun g => { g with tread := f g.tread })
/-- Change a Gallery's balancing. -/
def State.updBal (s : State) (n : Nat) (f : BalRt → BalRt) : State := s.updG n (fun g => { g with bal := f g.bal })
/-- Change a string's head. -/
def State.updHead (s : State) (n : Nat) (f : Head → Head) : State := s.updG n (fun g => { g with head := f g.head })
/-- Change monitor `a` (1 to 39) of a string. -/
def State.updMon (s : State) (n a : Nat) (f : Monitor → Monitor) : State :=
  s.updG n (fun g => { g with mons := modAt g.mons (a - 1) f })
/-- Change position p of a string. -/
def State.updCell (s : State) (n p : Nat) (f : Cell → Cell) : State := s.updG n (fun g => { g with cells := modAt g.cells p f })
/-- Monitor `a` of a string. -/
def State.mon (s : State) (n a : Nat) : Monitor := (s.g n).mons.getD (a - 1) {}
/-- Position p of a string. -/
def State.cell (s : State) (n p : Nat) : Cell := (s.g n).cells.getD p {}

/-- Whether the Gallery exists on the part (R2). -/
def State.hasGal (s : State) (n : Nat) : Bool := decide (n < s.part.galleries)
/-- The configured position count. -/
def State.posCount (s : State) (n : Nat) : Nat := s.getN (Gal.STRING_CFG.POSITION_COUNT n)
/-- The configured monitor count. -/
def State.nodeCount (s : State) (n : Nat) : Nat := s.getN (Gal.STRING_CFG.NODE_COUNT n)
/-- Whether the string is enabled (R39). -/
def State.strOn (s : State) (n : Nat) : Bool :=
  s.hasGal n && s.getN (Gal.STRING_CFG.ENABLE n) == 1 && decide (0 < s.posCount n)
/-- TRUNK_STATE (Table 4-17): 0 OFF, 1 ACQUIRE, 2 IDENTIFY, 3 ENUMERATE, 4 UP, 5 TOPOLOGY_FAULT, 6 RETRY_WAIT. -/
def State.trunk (s : State) (n : Nat) : Nat := s.getN (Gal.FLIGHT_STATUS.TRUNK_STATE n)
/-- Whether the trunk is UP. -/
def State.trunkUp (s : State) (n : Nat) : Bool := s.trunk n == 4

/-- A switch test that runs stops where its conditions end: it waits at the front of the queue, and STATE reads 2 (R158). -/
def State.stopTest (s : State) (n : Nat) : State :=
  let b := (s.g n).bal
  if b.phase = .idle then s
  else
    let s := s.updG n (fun g => { g with
      bal := { b with phase := .idle, queue := b.pos :: b.queue }, cells := g.cells.map (fun c => { c with held := false }) })
    (s.setN (Gal.BALANCE_TEST.STATE n) 2).setN (Gal.BALANCE_TEST.NEXT n) b.pos

/-- A fold over the Galleries of the part. -/
def State.forGal (s : State) (f : Nat → State → State) : State := s.galIds.foldl (fun t n => f n t) s

/-! ### Time -/

/-- Ticks in a microsecond, times 2 (R25: 312.5 ticks). -/
def usTicks (us : Nat) : Nat := us * 625 / 2
/-- Ticks in a millisecond. -/
def msTicks (ms : Nat) : Nat := ms * 312500
/-- Ticks in a second. -/
def secTicks (sec : Nat) : Nat := sec * 312500000
/-- Root ticks since a moment. -/
def State.since (s : State) (t : Nat) : Nat := s.root - t
/-- Whether a time has passed since a moment. -/
def State.passed (s : State) (t d : Nat) : Bool := decide (d ≤ s.since t)

/-- Root ticks since a plant time: the steps of R337 in between do not count (Table 12-7). -/
def State.aged (s : State) (tick : Nat) : Nat :=
  s.now - tick - (s.time.jumps.filter (fun j => decide (tick < j.1))).foldl (fun a j => a + j.2) 0

/-- TIME_QUALITY (Table 12-10). -/
def State.timeQuality (s : State) : Nat :=
  let gm := s.getN Obj.PTP_STATUS.GM_CLASS
  s.getN Obj.TIMEBASE.SOURCE + 4 * s.getN Obj.TIMEBASE.STATE + 16 * b2n (s.flag Obj.SUPPLY_STATUS.EVENTS 0) +
    32 * b2n (gm == 6 || gm == 7)

/-- A free value: a number the spec leaves open, opaque, and a fresh one each time. -/
def State.take (s : State) : Nat × State := (s.free, { s with free := s.free + 1 })

/-! ### Modes -/

/-- The code of a mode (Table 2-1); BOOT has none. -/
def Mode.code : Mode → Nat
  | .boot => 0 | .vault => 1 | .watch => 2 | .ready => 3 | .run => 4 | .lockout => 5 | .recovery => 6

/-- The present mode. -/
def State.mode (s : State) : Mode := s.md.mode
/-- PHASE (Table 2-5). -/
def State.phase (s : State) : Nat := s.getN Obj.MODE_STATUS.PHASE
/-- Change the mode runtime. -/
def State.updMd (s : State) (f : ModeRt → ModeRt) : State := { s with md := f s.md }
/-- Change the Vestibule. -/
def State.updVest (s : State) (f : Vestibule → Vestibule) : State := { s with vest := f s.vest }
/-- Change the configuration store. -/
def State.updNand (s : State) (f : Store → Store) : State := { s with nand := f s.nand }
/-- Change the recorder. -/
def State.updRec (s : State) (f : RecorderRt → RecorderRt) : State := { s with recd := f s.recd }
/-- Change the safety runtime. -/
def State.updSafe (s : State) (f : SafetyRt → SafetyRt) : State := { s with safe := f s.safe }
/-- Whether the power-down of Table 2-7 runs. -/
def State.powerDown (s : State) : Bool := match s.md.transit with
  | .powerDown _ => true
  | _ => false
/-- Whether the dictionary is served (Table 2-1): READY, RUN, LOCKOUT, and not once PFAIL has been detected (R63). -/
def State.served (s : State) : Bool :=
  (match s.mode with | .ready | .run | .lockout => true | _ => false) &&
  (match s.md.transit with | .powerDown _ | .resetWait _ _ _ => false | _ => true)
/-- Whether an entry to VAULT or to WATCH runs (R64, R479). -/
def State.entering (s : State) : Bool := match s.md.transit with
  | .toVault _ _ | .toWatch _ _ => true
  | _ => false
/-- Whether the lock-out latch is set, in either copy (R62). -/
def State.latched (s : State) : Bool := s.vest.latch || s.nand.latch

/-- FLAGS bits of the supplies (Table 2-11). -/
def State.supply (s : State) (i : Nat) : Bool := s.flag Obj.SUPPLY_STATUS.FLAGS i
/-- VAUX valid. -/
def State.vauxOk (s : State) : Bool := s.supply 0
/-- VLOOP valid. -/
def State.vloopOk (s : State) : Bool := s.supply 1
/-- VKEEP valid. -/
def State.vkeepOk (s : State) : Bool := s.supply 2
/-- VIO valid. -/
def State.vioOk (s : State) : Bool := s.supply 3
/-- Whether VHOLD, as measured last, is at or above 26.0 V (Table 2-2, R60). -/
def State.holdReady (s : State) : Bool := match s.getR Obj.SUPPLY_STATUS.VHOLD with
  | some v => decide (26 ≤ v)
  | none => false

/-! ### Universal channels as their consumers read them -/

/-- Whether a channel fault stands (R373): a bit of STATE marked in the Fault column of Table 14-2. -/
def State.chFault (s : State) (c : Nat) : Bool := s.getN (Chn.CH_STATUS.STATE c) &&& 0xCDB9 != 0
/-- A channel's engineering value; none with a channel fault. -/
def State.chNumber (s : State) (c : Nat) : Option Q := if s.chFault c then none else s.getR (Chn.CH_STATUS.VALUE c)

/-! ### Alerts and events -/

/-- A bit of ALERT_PENDING becomes set; a selected one starts an alert or joins the one that waits (R411). -/
def State.alertBit (s : State) (i : Nat) : State :=
  if s.flag Obj.TWB_CFG.ALERT_PENDING i then s
  else
    let s := s.raise Obj.TWB_CFG.ALERT_PENDING i
    if s.flag Obj.TWB_CFG.ALERT_MASK i && !s.twb.want then
      { s with twb := { s.twb with want := true, tries := 0, retryAt := none } }
    else s

/-- A bit of EVENTS is set (Table 2-12), and with it SUPPLY_EVENT of R411. -/
def State.event (s : State) (i : Nat) : State := (s.raise Obj.SUPPLY_STATUS.EVENTS i).alertBit 4

/-! ### Records (R415 to R422) -/

/-- BUFFER_LEVEL as the buffer stands, with its peak. -/
def State.levelSync (s : State) : State :=
  let l := s.recd.buffer.length
  let s := s.setN Obj.RECORDER_CTRL.BUFFER_LEVEL l
  if s.getN Obj.RECORDER_CTRL.BUFFER_PEAK < l then s.setN Obj.RECORDER_CTRL.BUFFER_PEAK l else s

/-- OPERATING_SECONDS (Table 2-10): time spent outside VAULT. -/
def State.operatingSeconds (s : State) : Nat :=
  (s.vest.opTicks + (if s.mode = .vault then 0 else s.root - s.vest.awakeAt)) / 312500000

/-- TIME (R416, Table 16-2): TAI seconds and nanoseconds with quality, or operating seconds and power cycles. -/
def State.recTime (s : State) : Nat × Nat × Nat × Nat :=
  match s.part with
  | .zs8848 =>
    let ns := (s.getI Obj.TIMEBASE.ORIGIN + ((s.now * 16 / 5 : Nat) : Int)).toNat
    (ns / 1000000000, ns % 1000000000, s.timeQuality, 0)
  | .zs8824 => (s.operatingSeconds, s.getN Obj.SUPPLY_STATUS.POWER_CYCLES, 0, 1)

/-- A flush starts (R422); one that runs already covers the records up to LAST too. -/
def State.startFlush (s : State) : State :=
  let s := if s.recd.flushTo.isNone then s.inc Obj.RECORDER_CTRL.FLUSHES else s
  s.updRec (fun r => { r with flushTo := some (s.getN Obj.RECORDER_WINDOW.LAST) })

/-- The circulating region with a page programmed at its write point (R424): whether the block is marked for retirement, and whether the page
holds slots whose CRC fails. -/
def circAppend (circ : List RecBlock) (erased : List Nat) (recs : List Rec) (bad torn : Bool) : List RecBlock × List Nat :=
  let next : List RecBlock × List Nat := match erased with
    | [] => (circ, [])
    | e :: es => (circ ++ [{ id := e, pages := 1, recs := recs, retire := bad, torn := torn }], es)
  match circ.getLast? with
  | some b =>
    if b.pages < 128 then
      (circ.dropLast ++ [{ b with pages := b.pages + 1, recs := b.recs ++ recs, retire := b.retire || bad, torn := b.torn || torn }], erased)
    else next
  | none => next

/-- A record enters the buffer with the next SEQ (R417). -/
def State.enter (s : State) (code cls inst sev : Nat) (data : List Byte) : State :=
  let (a, b, q, f) := s.recTime
  let seq := s.vest.nextSeq
  let r : Rec := { seq := seq, timeA := a, timeB := b, quality := q, format := f, plant := s.now, code := code, cls := cls,
                   inst := inst, sev := sev, data := data }
  let s := { s with recd := { s.recd with buffer := s.recd.buffer ++ [r] }, vest := { s.vest with nextSeq := seq + 1 } }
  let s := s.setN Obj.RECORDER_WINDOW.LAST seq
  let s := if s.getN Obj.RECORDER_WINDOW.FIRST = 0 then s.setN Obj.RECORDER_WINDOW.FIRST seq else s
  let s := s.levelSync
  if sev = 2 then s.startFlush else s

/-- A record is refused admission (R420). -/
def State.dropRec (s : State) : State :=
  let s := (s.inc Obj.RECORDER_CTRL.DROPPED).raise Obj.RECORDER_CTRL.FLAGS 0
  s.updVest (fun v => { v with dropped := v.dropped + 1 })

/-- Free entries of the buffer of 4,096 records. -/
def State.recFree (s : State) : Nat := 4096 - s.recd.buffer.length

/-- Whether records live only in the buffer, which circulates (R428). -/
def State.ramOnly (s : State) : Bool := s.getN Obj.RECORDER_CTRL.STATE == 3 && s.recd.permClosed

/-- The admission rule of R420 by severity; code 0x0003 is POWER_FAIL. -/
def State.admits (s : State) (code sev : Nat) : Bool :=
  !s.recd.closed &&
  (if code = 3 then decide (0 < s.recFree) else if sev = 2 then decide (1 < s.recFree) else decide (64 < s.recFree))

/-- Whether an open snapshot holds the oldest record of the buffer (R431). -/
def State.oldestHeld (s : State) : Bool :=
  match s.recd.buffer with
  | r :: _ => s.recd.snaps.any (fun p => decide (p.lo ≤ r.seq) && decide (r.seq ≤ p.hi))
  | [] => false

/-- The oldest record of a circulating buffer is overwritten and counts in LOST (R428). -/
def State.overwrite (s : State) : State :=
  let s := s.setN Obj.RECORDER_CTRL.LOST (s.getN Obj.RECORDER_CTRL.LOST + 1) |>.raise Obj.RECORDER_CTRL.FLAGS 1
  s.updRec (fun r => { r with buffer := r.buffer.drop 1 })

/-- The DROPPED record enters once more than 128 entries are free again (R420). -/
def State.dropNotice (s : State) : State :=
  if s.vest.dropped = 0 ∨ s.recFree ≤ 128 ∨ s.recd.closed then s
  else
    let d := s.vest.dropped
    (s.updVest (fun v => { v with dropped := 0 })).enter 0x0004 0x0A 0 1 (leBytes 4 d)

/-- A record is offered to the buffer: admitted with a SEQ, or dropped (R420). Landing and the Vestibule write none (R59). A buffer that
circulates overwrites no record of an open snapshot (R431). -/
def State.record (s : State) (code cls inst sev : Nat) (data : List Byte) : State :=
  match s.mode with
  | .recovery | .vault => s
  | _ =>
    let s := s.dropNotice
    let s := if s.ramOnly && decide (s.recFree = 0) && !s.oldestHeld then s.overwrite else s
    if s.admits code sev || (s.ramOnly && decide (0 < s.recFree)) then s.enter code cls inst sev data else s.dropRec

/-- REAL32 bytes of a value in a record. -/
def real4 (x : Option Q) : List Byte := leBytes 4 (bitsOfReal x)
/-- Four bytes of a signed number. -/
def int4 (x : Int) : List Byte := leBytes 4 (ofSigned 32 x)

/-- MODE_CHANGE and the mode objects (R59, Table 2-5). The record is left out where R59 says so. -/
def State.toMode (s : State) (m : Mode) (cause : Nat) (rec_ : Bool) : State :=
  let s := if rec_ then s.record 0x0002 0 0 (if m = .lockout then 2 else 0)
      [BitVec.ofNat 8 s.mode.code, BitVec.ofNat 8 m.code, BitVec.ofNat 8 cause] else s
  let s := ((s.setN Obj.MODE_STATUS.MODE m.code).setN Obj.MODE_STATUS.LAST_CAUSE cause).alertBit 1
  let s := if m = .lockout then s.alertBit 2 else s
  { s with md := { s.md with mode := m, modeSince := s.root } }

/-- The trunk's claim (R131) follows the role (R347, R352): UNPAIRED or ACTIVE claims; see chapter 13. -/
def State.role (s : State) : Nat := s.getN Obj.REDUNDANCY_STATUS.ROLE

end Sys2Proof.Machine
end

