-- ==== Sys2Proof/Machine/Access.lean ====
section
/-! DEFINITION. The checks of a dictionary access (R77 to R102, R80's order), the class S queues (R99), and the combinators every
write and read of an object goes through. -/
namespace Sys2Proof.Machine

/-! ### Abort codes (Table 3-13) -/
/-- Read of a write-only object. -/
def abortWo : Nat := 0x06010001
/-- Write of a read-only object. -/
def abortRo : Nat := 0x06010002
/-- No such object. -/
def abortNoObj : Nat := 0x06020000
/-- The object cannot be mapped. -/
def abortMap : Nat := 0x06040041
/-- The length differs from the type. -/
def abortLen : Nat := 0x06070010
/-- Longer than allowed. -/
def abortLong : Nat := 0x06070012
/-- A download with no data. -/
def abortZero : Nat := 0x06070013
/-- No such sub-index. -/
def abortNoSub : Nat := 0x06090011
/-- Value out of range. -/
def abortRange : Nat := 0x06090030
/-- Data cannot be transferred or stored. -/
def abortStore : Nat := 0x08000020
/-- Refused because of local control. -/
def abortLocal : Nat := 0x08000021
/-- Refused, device state. -/
def abortState : Nat := 0x08000022
/-- No data available. -/
def abortNoData : Nat := 0x08000024
/-- Busy (R99). -/
def abortBusy : Nat := 0x0800F001
/-- Seal mismatch (R85). -/
def abortSeal : Nat := 0x0800F002
/-- SDO protocol timed out. -/
def abortTimeout : Nat := 0x05040000
/-- Command specifier not valid. -/
def abortCs : Nat := 0x05040001
/-- Invalid block size. -/
def abortBlk : Nat := 0x05040002
/-- Invalid sequence number. -/
def abortSeqNo : Nat := 0x05040003
/-- CRC error. -/
def abortCrc : Nat := 0x05040004

/-! ### Values and bytes (R9, R78, R79) -/

/-- The value that bytes of the right length spell for a type; none for a REAL32 that is not a number (R79). -/
def decodeVal (t : OType) (d : List Byte) : Option Val :=
  match t with
  | .bool | .u8 | .u16 | .u32 | .u64 => some (.n (leNat d))
  | .i8 => some (.i (toSigned 8 (leNat d)))
  | .i16 => some (.i (toSigned 16 (leNat d)))
  | .i32 => some (.i (toSigned 32 (leNat d)))
  | .i64 => some (.i (toSigned 64 (leNat d)))
  | .real => if leNat d = 0x80000000 then some .nz else (realOfBits (leNat d)).map (fun x => .r (some x))
  | .str | .octets _ | .domain => some (.b d)

/-- The bytes a value reads as. -/
def encodeVal (t : OType) (v : Val) : List Byte :=
  match t with
  | .bool | .u8 => leBytes 1 v.toN
  | .u16 => leBytes 2 v.toN
  | .u32 => leBytes 4 v.toN
  | .u64 => leBytes 8 v.toN
  | .i8 => leBytes 1 (ofSigned 8 v.toI)
  | .i16 => leBytes 2 (ofSigned 16 v.toI)
  | .i32 => leBytes 4 (ofSigned 32 v.toI)
  | .i64 => leBytes 8 (ofSigned 64 v.toI)
  | .real => leBytes 4 (if v = .nz then 0x80000000 else bitsOfReal v.toR)
  | .octets n => (v.toB ++ List.replicate n 0).take n
  | .str | .domain => v.toB

/-- Whether a range admits a value (check 5 of R80). -/
def Rng.admits (r : Rng) (t : OType) (v : Val) : Bool :=
  (match t with | .bool => decide (v.toN ≤ 1) | _ => true) &&
  (match r with
   | .any => true
   | .nats l => l.any (fun p => decide (p.1 ≤ v.toN) && decide (v.toN ≤ p.2))
   | .ints l => l.any (fun p => decide (p.1 ≤ v.toI) && decide (v.toI ≤ p.2))
   | .reals l => l.any (fun p => match v.toR with
     | some x => decide (p.1 ≤ x) && decide (x ≤ p.2)
     | none => false)
   | .mask m => v.toN &&& m == v.toN)

/-- The longest value of a DOMAIN or a string, where the spec gives one (Table 3-2, Tables 7-13, 8-9, 14-11, 17-8). -/
def domainMax (index : Nat) : Nat :=
  if index = 0x2301 then 65536
  else match placeOf index with
    | (.gal, 0x18) => 2016
    | (.chn, 0x5) => 256
    | _ => 65536

/-- A number of bytes checked against a type (check 4 of R80, R97). -/
def lenOk (t : OType) (index k : Nat) : Option Nat :=
  if k = 0 then some abortZero
  else match t.size with
    | some n => if k = n then none else some abortLen
    | none => if domainMax index < k then some abortLong else none

/-- A value's bytes checked against its type. -/
def lenCheck (t : OType) (index : Nat) (d : List Byte) : Option Nat := lenOk t index d.length

/-! ### Order rules (R10, R95, R164, R184, R281 and the rules of the tables) -/

/-- The Gallery number of an index in a Gallery block. -/
def galOf (index : Nat) : Nat := (index - 0x4000) / 0x40
/-- The channel number of an index in a channel block. -/
def chnOf (index : Nat) : Nat := (index - 0x3000) / 0x10

/-- A setting as it would stand with one key replaced. -/
def State.withQ (s : State) (k : Nat) (v : Val) (k' : Nat) : Q := if k' = k then (v.toR).getD 0 else s.getQ k'
/-- An unsigned setting as it would stand with one key replaced. -/
def State.withN (s : State) (k : Nat) (v : Val) (k' : Nat) : Nat := if k' = k then v.toN else s.getN k'

/-- R184: the orders of fold-back, SOC, bus and current limits. -/
def convOrder (s : State) (n k : Nat) (v : Val) : Bool :=
  let q := s.withQ k v
  decide (q (Gal.FOLDBACK.DIS_FLOOR n) < q (Gal.FOLDBACK.DIS_KNEE n)) &&
  decide (q (Gal.FOLDBACK.DIS_KNEE n) ≤ q (Gal.LOOP_LIMITS.VMIN_TARGET n)) &&
  decide (q (Gal.LOOP_LIMITS.VMIN_TARGET n) < q (Gal.LOOP_LIMITS.VMAX_TARGET n)) &&
  decide (q (Gal.LOOP_LIMITS.VMAX_TARGET n) ≤ q (Gal.FOLDBACK.CHG_KNEE n)) &&
  decide (q (Gal.FOLDBACK.CHG_KNEE n) < q (Gal.FOLDBACK.CHG_CEILING n)) &&
  decide (q (Gal.LOOP_LIMITS.SOC_MIN n) < q (Gal.LOOP_LIMITS.SOC_MAX n)) &&
  decide (q (Gal.LOOP_LIMITS.BUS_V_LOW n) < q (Gal.LOOP_LIMITS.BUS_V_HIGH n)) &&
  decide (q (Gal.CONV_CFG.I_ABS_MAX n) ≤ (s.withN k v (Gal.CONV_CFG.PHASES_USED n) : Q) * q (Gal.CONV_CFG.PHASE_I_MAX n))

/-- Table 6-7: HS_WARN below HS_DERATE below HS_SHUT. -/
def hsOrder (s : State) (n k : Nat) (v : Val) : Bool :=
  let q := s.withQ k v
  decide (q (Gal.CONV_CFG.HS_WARN n) < q (Gal.CONV_CFG.HS_DERATE n)) &&
  decide (q (Gal.CONV_CFG.HS_DERATE n) < q (Gal.CONV_CFG.HS_SHUT n))

/-- R164 and Table 5-10: GUARD at least twice the balancing drop (LEAD_R in milliohm), DELTA_STOP below DELTA_START. -/
def balOrder (s : State) (n k : Nat) (v : Val) : Bool :=
  let q := s.withQ k v
  decide (2 * q (Gal.BALANCE_CFG.BAL_CURRENT n) * q (Gal.BALANCE_CFG.LEAD_R n) / 1000 ≤ q (Gal.BALANCE_CFG.GUARD n)) &&
  decide (q (Gal.BALANCE_CFG.DELTA_STOP n) < q (Gal.BALANCE_CFG.DELTA_START n))

/-- R281: a safety-input configuration. -/
def siOk (w : Nat) : Bool :=
  decide (bits w 31 25 = 0) &&
  (if bits w 3 0 = 0 then decide (w = 0)
   else decide (bits w 3 0 < 7) && decide (bits w 5 4 ≠ 3) &&
     decide (5 ≤ bits w 19 9) && decide (bits w 19 9 ≤ 2000) && decide (1 ≤ bits w 24 20) && decide (bits w 24 20 ≤ 20))

/-- Table 15-5: a TWA slot. -/
def twaSlotOk (w : Nat) : Bool :=
  decide (w = 0) ||
  (!bit w 7 && decide (bits w 63 48 = 0) && decide (bits w 9 8 ≤ 2) && decide (bits w 11 10 < 3) && decide (bits w 15 12 ≤ 7) &&
   decide (0x08 ≤ bits w 6 0) && decide (bits w 6 0 ≤ 0x77) &&
   (decide (bits w 47 32 = 0) || (decide (10 ≤ bits w 47 32) && decide (bits w 47 32 ≤ 60000))))

/-- R95: a cell-window selector. -/
def selectOk (s : State) (n w : Nat) : Bool :=
  let a := bits w 7 0
  let t := bits w 15 8
  decide (bits w 63 48 = 0) && decide (1 ≤ a) && decide (a ≤ 9) &&
  (if a = 6 then decide (s.getN (Gal.EXCITATION_CFG.ENABLE n) = 1) && decide (t < s.getN (Gal.SPECTRUM_STATUS.TONES_APPLIED n))
   else decide (t = 0)) &&
  decide (0 < bits w 47 32) && decide (bits w 31 16 + bits w 47 32 ≤ s.posCount n)

/-- R215: the first CAL_POINTS entries of CAL_THETA rise strictly. -/
def calOk (s : State) (n k : Nat) (v : Val) : Bool :=
  (List.range (s.withN k v (Gal.EXCITATION_CFG.CAL_POINTS n) - 1)).all (fun i =>
    decide (s.withQ k v (Gal.EXCITATION_CFG.CAL_THETA n (i + 1)) < s.withQ k v (Gal.EXCITATION_CFG.CAL_THETA n (i + 2))))

/-- R379: OUT_SOURCE names a readable REAL32 object that exists, or is 0. -/
def outSourceOk (p : Part) (w : Nat) : Bool :=
  decide (w = 0) ||
  (decide (bits w 7 0 = 0) && indexExists p (bits w 31 16) &&
   (match rowOf (bits w 31 16) (bits w 15 8) with
    | some r => decide (r.ty = .real) && decide (r.acc ≠ .wo) && decide (r.acc ≠ .key)
    | none => false))

/-- The rules of chapter 14 on a write to channel n: Table 14-1 with unused fields at their defaults, CJ_CHANNEL, R384, R379. -/
def chOk (s : State) (n off sub k : Nat) (v : Val) : Bool :=
  let w := s.withN k v
  let q := s.withQ k v
  let f := w (Chn.CH_CFG.FUNCTION n)
  let range := w (Chn.CH_CFG.RANGE n)
  let sensor := w (Chn.CH_CFG.SENSOR n)
  if off = 0 ∧ sub ≤ 4 then
    (if f = 1 then true else if f = 5 then decide (range = 1) || decide (range = 2) else decide (range = 0)) &&
    (if f = 3 then decide (sensor ≤ 2) else if f = 4 then decide (1 ≤ sensor) else decide (sensor = 0)) &&
    (decide (f = 3) || (decide (w (Chn.CH_CFG.WIRES n) = 4) && decide (q (Chn.CH_CFG.LEAD_R n) = 0))) &&
    (decide (f = 2) || decide (w (Chn.CH_CFG.LOOP_POWER n) = 0)) &&
    (decide (f = 2) || decide (f = 6) || decide (w (Chn.CH_CFG.LIVE_ZERO n) = 1)) &&
    (decide (f = 4) || (decide (w (Chn.CH_CFG.CJ_CHANNEL n) = 0xFF) && decide (q (Chn.CH_CFG.CJ_FIXED n) = 25))) &&
    (decide (f = 1) || decide (w (Chn.CH_CFG.DOWN_COUNT n) = 8))
  else if off = 0 ∧ sub = 5 then decide (v.toN ≠ 3) || decide (w (Chn.HART_CFG.HART_ENABLE n) = 0)
  else if off = 0 ∧ sub = 6 then decide (v.toN = 0) || decide (f = 2)
  else if off = 0 ∧ sub = 8 then decide (v.toN ≠ n)
  else if off = 2 ∧ sub = 2 then outSourceOk s.part v.toN
  else if off = 4 ∧ sub = 1 then decide (v.toN = 0) || ((decide (f = 2) || decide (f = 6)) && decide (w (Chn.CH_CFG.RATE n) ≠ 3))
  else true

/-- R393: DATA_RATE not above NOMINAL_RATE is refused; 0 is no bit-rate switch. Data rates 1 to 3 are 1, 2 and 5 Mbit/s, nominal rates
0 to 3 are 125 to 1,000 kbit/s. -/
def canRateOk (s : State) (p : Nat) (k : Nat) (v : Val) : Bool :=
  let nom := s.withN k v (Can.NOMINAL_RATE p)
  let dat := s.withN k v (Can.DATA_RATE p)
  decide (dat = 0) || decide ([125, 250, 500, 1000].getD nom 0 < [0, 1000, 2000, 5000].getD dat 0)

/-- The rules that judge a value of the right length together with the values in force (check 5 of R80). -/
def orderOk (s : State) (index sub k : Nat) (v : Val) : Bool :=
  match placeOf index with
  | (.gal, off) =>
    let n := galOf index
    if off = 0x0B ∨ (off = 0x0E ∧ sub ≤ 6) then convOrder s n k v
    else if off = 0x08 ∧ (sub = 2 ∨ sub = 5 ∨ sub = 6) then convOrder s n k v
    else if off = 0x08 ∧ 0x0B ≤ sub ∧ sub ≤ 0x0D then hsOrder s n k v
    else if off = 0x06 ∧ (sub = 2 ∨ sub = 3 ∨ sub = 6 ∨ sub = 7 ∨ sub = 8) then balOrder s n k v
    else if off = 0x02 ∧ sub ≤ 0x27 then
      decide (bits v.toN 20 16 ≤ 16) && decide (bits v.toN 15 0 + bits v.toN 20 16 ≤ 512)
    else if off = 0x07 ∧ sub = 1 then decide (v.toN = 0xFFFF) || decide (v.toN < s.posCount n)
    else if off = 0x14 ∧ (sub = 0x0F ∨ (0x41 ≤ sub ∧ sub ≤ 0x50)) then calOk s n k v
    else if off = 0x15 ∧ sub = 0x10 then decide (0 < bits v.toN 63 48) && decide (bits v.toN 63 48 ≤ 512)
    else if off = 0x1A ∧ sub = 0x0C then decide (v.toN < s.posCount n)
    else if off = 0x1A ∧ (sub = 6 ∨ sub = 7) then
      decide (s.withQ k v (Gal.CAPACITY_LEARN.LEARN_T_MIN n) < s.withQ k v (Gal.CAPACITY_LEARN.LEARN_T_MAX n))
    else if off = 0x30 ∧ sub = 1 then selectOk s n v.toN
    else if off = 0x1C ∧ (sub = 2 ∨ sub = 3) then
      decide (s.withQ k v (Gal.THERMAL_CFG.RISE_WARN_10S n) < s.withQ k v (Gal.THERMAL_CFG.RISE_ALARM_10S n))
    else if off = 0x1C ∧ (sub = 4 ∨ sub = 5) then
      decide (s.withQ k v (Gal.THERMAL_CFG.RISE_WARN_60S n) < s.withQ k v (Gal.THERMAL_CFG.RISE_ALARM_60S n))
    else true
  | (.fix, i) =>
    if i = 0x2900 ∧ (sub = 0x18 ∨ sub = 0x19) then
      decide (s.withQ k v Obj.SAFETY_CFG.IMD_ALARM < s.withQ k v Obj.SAFETY_CFG.IMD_WARN)
    else if i = 0x2901 ∧ sub ≤ 0x10 then siOk v.toN
    else if i = 0x2600 ∧ 0x11 ≤ sub ∧ sub ≤ 0x20 then twaSlotOk v.toN
    else if i = 0x2610 ∧ (sub = 3 ∨ sub = 7) then
      decide (s.withN k v Obj.TWB_CFG.ADDRESS ≠ s.withN k v Obj.TWB_CFG.ALERT_ADDRESS)
    else if i = 0x2801 ∧ sub ≤ 4 then
      decide (s.withQ k v Obj.THERMAL_COMPAT.WARN ≤ s.withQ k v Obj.THERMAL_COMPAT.THROTTLE) &&
      decide (s.withQ k v Obj.THERMAL_COMPAT.THROTTLE < s.withQ k v Obj.THERMAL_COMPAT.SHUTDOWN) &&
      decide (s.withQ k v Obj.THERMAL_COMPAT.HYST < s.withQ k v Obj.THERMAL_COMPAT.SHUTDOWN - s.withQ k v Obj.THERMAL_COMPAT.THROTTLE)
    else if i = 0x2800 ∧ 5 ≤ sub ∧ sub ≤ 7 then
      decide (s.withQ k v Obj.MODULE_THERMAL.DIE_WARN ≤ s.withQ k v Obj.MODULE_THERMAL.DIE_THROTTLE) &&
      decide (s.withQ k v Obj.MODULE_THERMAL.DIE_THROTTLE < s.withQ k v Obj.MODULE_THERMAL.DIE_SHUT)
    else if i = 0x2500 ∧ (sub = 5 ∨ sub = 6) then
      decide (3 * s.withN k v Obj.ARCADE_CFG.BEACON_INTERVAL ≤ s.withN k v Obj.ARCADE_CFG.MEMBER_TIMEOUT)
    else if i = 0x2002 ∧ sub = 1 then decide (bits v.toN 31 24 = 0)
    else true
  | (.chn, off) => chOk s (chnOf index) off sub k v
  | (.can, _) => if sub = 3 ∨ sub = 4 then canRateOk s (index - 0x2700) k v else true

/-! ### The checks of R80, in their order -/

/-- Whether the time base reports lock (R102, Table 12-10: state LOCKED). -/
def State.timeLocked (s : State) : Bool := s.getN Obj.TIMEBASE.STATE == 2

/-- Check 2: access type with the path limits of Table 3-3 and R102. -/
def accessCheck (r : ObjRow) (p : Path) (index sub : Nat) : Option Nat :=
  match r.acc with
  | .const | .ro => some abortRo
  | .rwS | .key => if p.isArcade then some abortLocal else none
  | _ => if p.isArcade && index == 0x2900 && sub == 1 then some abortLocal else none

/-- Check 3: mode and phase, and over the Arcade the lock of R102. -/
def modeCheck (s : State) (r : ObjRow) (p : Path) : Option Nat :=
  let steady := s.phase == 0
  let ok := match r.acc with
    | .rwS => decide (s.mode = .ready) && steady
    | .rwL | .key => (decide (s.mode = .ready) || decide (s.mode = .lockout)) && steady
    | _ => true
  if !ok then some abortState
  else if p.isArcade && !s.timeLocked then some abortState
  else none

/-- Whether an index is served: every index of the part, or in RECOVERY what Landing serves (R2, R451). -/
def State.hasIndex (s : State) (index : Nat) : Bool :=
  indexExists s.part index &&
  (decide (s.mode ≠ .recovery) || index == 0x1000 || index == 0x1018 || index == 0x2300 || index == 0x2301 || index == 0x2302)

/-- Checks 1 to 3 of R80: existence, access type, mode and phase with the lock of R102. -/
def frontCheck (s : State) (p : Path) (index sub : Nat) : Except Nat ObjRow :=
  if !s.hasIndex index then .error abortNoObj
  else match rowOf index sub with
    | none => .error abortNoSub
    | some r =>
      match accessCheck r p index sub with
      | some c => .error c
      | none => match modeCheck s r p with
        | some c => .error c
        | none => .ok r

/-- The abort code of a write that fails a check on its bytes: one of checks 1 to 3 decides before it (R80). -/
def frontOr (s : State) (p : Path) (index sub c : Nat) : Nat := match frontCheck s p index sub with
  | .error c' => c'
  | .ok _ => c

/-- The state with the acknowledged writes of Gallery n that still wait for a control step (R82) in their objects. -/
def State.withHeld (s : State) (n : Nat) : State := (s.g n).held.foldl (fun s e => s.put e.1 e.2) s
/-- The state as the dictionary shows an index: what has been written to it. -/
def State.seen (s : State) (index : Nat) : State := match placeOf index with
  | (.gal, _) => s.withHeld (galOf index)
  | _ => s

/-- A write judged by R80: the first check that fails decides the abort code; else the value to write. -/
def checkWrite (s : State) (p : Path) (index sub : Nat) (d : List Byte) : Except Nat (Val × ObjRow) :=
  match frontCheck s p index sub with
  | .error c => .error c
  | .ok r => match lenCheck r.ty index d with
    | some c => .error c
    | none => match decodeVal r.ty d with
      | none => .error abortRange
      | some v =>
        if r.rng.admits r.ty v && orderOk (s.seen index) index sub (keyOf index sub) v then .ok (v, r) else .error abortRange

/-! ### The class S queues (R99, Table 3-14) -/

/-- The queues a request needs. -/
def queuesOf (p : Path) (index sub : Nat) (write : Bool) : List SQueue :=
  (match placeOf index, p with
   | (.gal, _), .arcade m => [.gallery (galOf index), .arcade m]
   | (.gal, _), _ => [.gallery (galOf index)]
   | _, .arcade m => [.arcade m]
   | _, _ => [.core0]) ++
  (if index = 0x2202 ∧ sub = 1 then [.readout] else []) ++
  (if write ∧ ((index = 0x1010 ∧ sub = 1) ∨ (index = 0x2900 ∧ sub = 1) ∨ index = 0x2301) then [.nand] else [])

/-- How many requests wait in a queue. -/
def State.waiting (s : State) (q : SQueue) : Nat := (s.sreqs.filter (fun r => r.queues.contains q)).length

/-- Whether a request waits for an Arcade member. -/
def SQueue.isArcade : SQueue → Bool
  | .arcade _ => true
  | _ => false

/-- Whether a queue is full (Table 3-14). -/
def State.queueFull (s : State) (q : SQueue) : Bool :=
  match q with
  | .gallery _ => decide (8 ≤ s.waiting q)
  | .core0 => decide (16 ≤ s.waiting q)
  | .arcade _ => decide (8 ≤ s.waiting q) || decide (64 ≤ (s.sreqs.filter (fun r => r.queues.any SQueue.isArcade)).length)
  | .readout => decide (4 ≤ s.waiting q)
  | .nand => decide (2 ≤ s.waiting q)

/-- Record the outcome of an access. -/
def State.reply (s : State) (r : Reply) : State := { s with last := some r }

/-- A refusal as busy, counted (R99). -/
def State.busy (s : State) : State := (s.inc Obj.DIAG.CLASS_S_REFUSED).reply (.abort abortBusy)

/-- Whether a request must wait: the server pauses, or an earlier request waits; requests are executed in their order of arrival (R81). -/
def State.mustWait (s : State) : Bool := !s.serveNow && (s.paused || !s.sreqs.isEmpty)

/-- A mapped write of an RPDO is taken through the core 0 dictionary queue, whatever object it writes (R396). -/
def State.originQueues (s : State) : List SQueue :=
  match s.origin with
  | .rpdo _ => [.core0]
  | _ => []

/-- Whether a path is answered: while the dictionary is served, and CAN-A and TWB by Landing (Table 2-1, R451). -/
def State.serves (s : State) (p : Path) : Bool :=
  s.served || (decide (s.mode = .recovery) && !s.powerDown && (decide (p = .canA) || decide (p = .twb)))

/-- A class S request that waits takes its place in its queues, or is refused as busy where one of them is full (R99). -/
def State.queueUp (s : State) (p : Path) (write : Bool) (index sub : Nat) (d : List Byte) : State :=
  let qs := s.originQueues ++ queuesOf p index sub write
  if qs.any s.queueFull then s.busy
  else State.reply { s with sreqs := s.sreqs ++ [(SReq.mk qs p write index sub d s.root s.origin 0)] } .queued

/-- A class S request admitted: served now, queued, refused as busy, or not served in this mode. -/
def State.classS (s : State) (p : Path) (write : Bool) (index sub : Nat) (d : List Byte) (run : State → State) : State :=
  if !s.serves p then s.reply .silent
  else if s.mustWait then s.queueUp p write index sub d
  else run s

/-- A write of an object: the checks of R80, then its effect, which may still refuse it. A refused access has no effect (R98). -/
def State.write (s : State) (p : Path) (index sub : Nat) (d : List Byte) (eff : Val → State → Except Nat State) : State :=
  s.classS p true index sub d (fun s =>
    match checkWrite s p index sub d with
    | .error c => s.reply (.abort c)
    | .ok (v, _) => match eff v s with
      | .error c => s.reply (.abort c)
      | .ok t => t.reply (.ok []))

/-- A write whose refusal may itself leave a mark (R302): the effect answers an abort code or none, and the state. -/
def State.writeX (s : State) (p : Path) (index sub : Nat) (d : List Byte) (eff : Val → State → Option Nat × State) : State :=
  s.classS p true index sub d (fun s =>
    match checkWrite s p index sub d with
    | .error c => s.reply (.abort c)
    | .ok (v, _) => match eff v s with
      | (some c, t) => t.reply (.abort c)
      | (none, t) => t.reply (.ok []))

/-- A setting of Gallery n is written: while the string is enabled it takes effect at the start of the next control step (R82). -/
def State.holdVal (s : State) (n k : Nat) (v : Val) : State :=
  let others := (s.g n).held.filter (fun e => decide (e.1 ≠ k))
  if s.strOn n then s.updG n (fun g => { g with held := others ++ [(k, v)] })
  else (s.put k v).updG n (fun g => { g with held := others })

/-- The plain effect of a write: the object holds the value; a setting of a Gallery waits as R82 says. -/
def storeVal (index sub : Nat) (v : Val) (s : State) : Except Nat State :=
  .ok (match placeOf index with
    | (.gal, _) => s.holdVal (galOf index) (keyOf index sub) v
    | _ => s.put (keyOf index sub) v)

/-- A read refused or answered. -/
def State.readWith (s : State) (p : Path) (index sub : Nat) (f : State → Except Nat (List Byte × State)) : State :=
  s.classS p false index sub [] (fun s =>
    if !s.hasIndex index then s.reply (.abort abortNoObj)
    else match rowOf index sub with
      | none => s.reply (.abort abortNoSub)
      | some r =>
        if decide (r.acc = .wo) || decide (r.acc = .key) then s.reply (.abort abortWo)
        else match f s with
          | .error c => s.reply (.abort c)
          | .ok (d, t) => t.reply (.ok d))

end Sys2Proof.Machine
end

