-- ==== Sys2Proof/Machine/Trunk.lean ====
section
/-! DEFINITION. The module's side of a trunk (chapter 4, R136 to R150): authority, groups of strings, INHIBIT and HOLD, commands and
responses, enumeration, thresholds, loop delay compensation, and the states of Table 4-14. -/
namespace Sys2Proof.Machine

/-! ### Authority and groups -/

/-- Whether the role lets the module claim (R347, R352). -/
def State.roleClaims (s : State) : Bool :=
  match s.role with
  | 0 | 2 | 4 | 5 => true
  | _ => false

/-- Whether the module claims a trunk (R131, R352, R363). -/
def State.claims (s : State) (n : Nat) : Bool := s.roleClaims && decide (s.trunk n ≠ 0) && !(s.g n).trunk.noClaim

/-- GROUP of a string in force; 0xFF none (R268). -/
def State.groupOf (s : State) (n : Nat) : Nat := s.secN (Gal.ENERGISE.GROUP n)
/-- The enabled strings of a group. -/
def State.groupStrings (s : State) (g : Nat) : List Nat := s.galIds.filter (fun n => s.strOn n && s.groupOf n == g)
/-- A contactor group. -/
def State.grp (s : State) (g : Nat) : Group := s.safe.groups.getD g {}
/-- Change a group. -/
def State.updGrp (s : State) (g : Nat) (f : Group → Group) : State := s.updSafe (fun r => { r with groups := modAt r.groups g f })
/-- The state of a string's group; a string without a group counts as OFF. -/
def State.gstate (s : State) (n : Nat) : GState := if s.groupOf n < 8 then (s.grp (s.groupOf n)).state else .off

/-- The code of a group state (Table 10-17). -/
def GState.code : GState → Nat
  | .off => 0 | .waitOff => 1 | .busCheck => 2 | .precharge => 3 | .closing => 4 | .releasing => 5 | .energised => 6
  | .rampDown => 7 | .opening => 8

/-- Whether a group state is one in which a protection cause raises an SEO demand (R271). -/
def GState.live : GState → Bool
  | .closing | .releasing | .energised | .rampDown => true
  | _ => false

/-- Whether the main contactors of a group state may be closed. -/
def GState.hot : GState → Bool
  | .opening => true
  | st => st.live

/-- Whether a string is energised: its group's main load is on or being switched. -/
def State.energised (s : State) (n : Nat) : Bool := (s.gstate n).hot
/-- Whether a string's group rests in OFF or WAIT_OFF. -/
def State.atRest (s : State) (n : Nat) : Bool :=
  match s.gstate n with
  | .off | .waitOff => true
  | _ => false
/-- Whether any string is energised. -/
def State.anyEnergised (s : State) : Bool := s.safe.groups.any (fun g => g.state.hot)

/-- A healthy channel takes a group's new state, unless it has not seen the demand behind it (R278). -/
def Channel.follow (c : Channel) (g : Nat) (st : GState) : Channel :=
  if c.healthy && !bit c.lag g then { c with groups := modAt c.groups g (fun _ => st) } else c

/-- A group enters a state; its objects follow. -/
def State.setGroup (s : State) (g : Nat) (st : GState) : State :=
  let s := (s.updGrp g (fun r => { r with state := st, since := s.root })).setN (Obj.SAFETY_STATUS.GROUP_STATE g) st.code
  let s := s.updSafe (fun r => { r with newel := r.newel.follow g st, baluster := r.baluster.follow g st })
  (s.groupStrings g).foldl (fun s n => s.setN (Gal.ENERGISE.STATE n) st.code) s

/-- RESULT of every string of a group. -/
def State.groupResult (s : State) (g r : Nat) : State := (s.groupStrings g).foldl (fun s n => s.setN (Gal.ENERGISE.RESULT n) r) s
/-- RESULT failed with a FAIL_CAUSE for every string of a group, and the fault bit where there is one. -/
def State.groupFail (s : State) (g cause : Nat) (fault : Option Nat) : State :=
  (s.groupStrings g).foldl (fun s n =>
    let s := (s.setN (Gal.ENERGISE.RESULT n) 5).setN (Gal.ENERGISE.FAIL_CAUSE n) cause
    match fault with
    | some b => s.raise (Gal.FAULTS.PROT_FAULTS n) b
    | none => s) s

/-! ### INHIBIT and HOLD (R108, R271, R353) -/

/-- Whether an INHIBIT request stands on a trunk: it is claimed, and a cause of Table 10-3 stands, the string is lost, or the
Gallery's SEO or a channel requests it; in LOCKOUT it is held on every trunk (Table 2-1), and so it is while the channels do not run: in
an entry to VAULT or to WATCH and in a power-down (R50). -/
def State.inhibitReq (s : State) (n : Nat) : Bool :=
  let p := (s.g n).prot
  s.claims n && (decide (s.getN (Gal.PROT_STATUS.STANDING n) ≠ 0) || p.lostInh || p.seoInh || p.newel || p.baluster || decide (s.mode = .lockout) ||
    s.entering || s.powerDown)

/-- Whether a HOLD request stands on a trunk: its converter is HELD (R189). -/
def State.holdReq (s : State) (n : Nat) : Bool := s.claims n && decide ((s.g n).tread.state = .held)

/-- A triple of INHIBIT or of HOLD is inserted, at most 64 symbols in a superframe (R108). True where it was; the superframe that is being
sent then carries it. -/
def State.insertTriple (s : State) (n : Nat) (hold : Bool) : State × Bool :=
  if (s.g n).trunk.inserted + 3 ≤ 64 then
    (s.updTrunk n (fun t => { t with
      inserted := t.inserted + 3
      out := t.out.map (fun d => { d with inhibit := d.inhibit || !hold, hold := d.hold || hold, inserted := t.inserted + 3 }) }), true)
  else (s, false)

/-- A HOLD request begins: one triple goes out at once, as for INHIBIT (R108). -/
def State.holdInsert (s : State) (n : Nat) : State := if s.claims n then (s.insertTriple n true).1 else s

/-- K28.1 leaves a trunk: the head's INHIBIT stays requested since the RELEASE, and the SEO of the group counts from it. -/
def State.k281Left (s : State) (n : Nat) : State :=
  let s := s.updProt n (fun p => { p with inhSent := true })
  if s.groupOf n < 8 then
    s.updGrp (s.groupOf n) (fun g =>
      if g.state = .opening ∧ g.firstK = none ∧ (g.trunkSeo = none ∨ ((s.g n).prot.downSeo ∧ s.trunkUp n)) then
        { g with firstK := some s.root } else g)
  else s

/-- INHIBIT is requested and inserted on a trunk that is claimed (R30, R108); `share` is the measured module share of an INHIBIT that
the protection arbiter causes. -/
def State.inhibitInsert (s : State) (n : Nat) (share : Option Nat) : State :=
  if s.claims n then
    let (s, ok) := s.insertTriple n false
    if ok then
      let s := match share with
        | some x => s.setN Obj.DIAG.CLASS_P_MAX (max x (s.getN Obj.DIAG.CLASS_P_MAX))
        | none => s
      s.k281Left n
    else s
  else s

/-! ### Commands (R117, R119) -/

/-- A command is queued with the next TAG; on a trunk that the module does not claim only IDENTIFY and READ_REG addressed to the head
are sent (R353). -/
def State.sendCmd (s : State) (n op target : Nat) (args : List Byte) : State :=
  if !s.claims n && !(decide (target = 0) && (op == 1 || op == 2)) then s
  else s.updTrunk n (fun t => { t with
    waiting := t.waiting ++ [{ op := op, target := target, tag := t.nextTag, args := (args ++ List.replicate 12 0).take 12 }]
    nextTag := t.nextTag % 255 + 1 })

/-- READ_REG. -/
def State.sendRead (s : State) (n target addr : Nat) : State := s.sendCmd n 2 target (leBytes 2 addr)
/-- WRITE_REG. -/
def State.sendWrite (s : State) (n target addr value : Nat) : State := s.sendCmd n 3 target (leBytes 2 addr ++ leBytes 2 0 ++ leBytes 4 value)

/-- The order of commands in the CMD field (R150). -/
def cmdRank (e : Entry) : Nat := if e.op = 4 then 0 else if e.op = 5 then 1 else if e.op = 6 then 2 else 3

/-- The waiting commands by rank, first in first out within one. -/
def byRank (l : List Entry) : List Entry :=
  (l.filter (fun e => cmdRank e == 0)) ++ (l.filter (fun e => cmdRank e == 1)) ++ (l.filter (fun e => cmdRank e == 2)) ++
  (l.filter (fun e => cmdRank e == 3))

/-- Whether a command may go out beside those outstanding (R119): one per target, and none beside a broadcast. -/
def mayGo (out : List Outst) (e : Entry) : Bool :=
  if e.target = 0xFF then out.isEmpty else !out.any (fun o => o.entry.target == e.target || o.entry.target == 0xFF)

/-- Commands taken from the queue while the CMD field has room; a broadcast that must wait lets nothing pass it. -/
def takeCmds : List Entry → List Outst → Nat → List Entry × List Outst
  | [], out, _ => ([], out)
  | e :: es, out, 0 => (e :: es, out)
  | e :: es, out, k + 1 =>
    if mayGo out e then takeCmds es (out ++ [{ entry := e }]) k
    else if e.target = 0xFF then (e :: es, out)
    else
      let r := takeCmds es out (k + 1)
      (e :: r.1, r.2)

/-- Whether commands go out in the trunk's present state: not before IDENTIFY. -/
def State.issuing (s : State) (n : Nat) : Bool :=
  match s.trunk n with
  | 2 | 3 | 4 | 5 => true
  | _ => false

/-- The CMD field of the next downstream superframe: of the resends that are due and the new commands the first four in the order of
R150, a resend before a new command of its rank; what finds no room waits. A SYNC_RESET takes effect two superframes ahead (R147). -/
def State.sendCmds (s : State) (n : Nat) : State :=
  if !s.issuing n then s.updTrunk n (fun t => { t with sentCmds := [] })
  else
    let t := (s.g n).trunk
    let old := t.outst.map (fun o => if o.dueSf then o else { o with age := o.age + 1 })
    let r := takeCmds (byRank t.waiting) old 4
    let new := (r.2.drop old.length).map (fun o =>
      if o.entry.op = 4 then
        { o with entry := { o.entry with args := leBytes 4 ((t.sentSf + 2) % 2 ^ 32) ++ List.replicate 8 0 } }
      else o)
    let cmds := (byRank ((old.filter (·.dueSf) ++ new).map (·.entry))).take 4
    let goes := fun (o : Outst) => cmds.any (fun e => e.tag == o.entry.tag)
    let fresh := new.filter goes
    let outst := (old ++ fresh).map (fun o => if goes o then { o with dueSf := false, age := 0 } else o)
    let syncs := (fresh.filter (fun o => o.entry.op == 4)).length
    let iv := msTicks (s.getN (Gal.THERMAL_STATUS.INTERVAL_NOW n))
    let late := fresh.any (fun o => o.entry.op == 5)
    let s := if late && decide (iv < 10 * s.since (s.g n).bal.sweepDueAt) then s.inc (Gal.COUNTERS.SWEEP_LATE n) else s
    (s.updTrunk n (fun t => { t with
      waiting := (new.filter (fun o => !goes o)).map (·.entry) ++ r.1, outst := outst, sentCmds := cmds })).addTo
      (Gal.COUNTERS.SYNC_RESETS n) syncs

/-! ### Thresholds (R269, R270) -/

/-- The encoding of a limit: rounded in its unit, as a 32-bit word. -/
def encLimit (x scale : Q) : Nat := ofSigned 32 (qround (x * scale))

/-- The value that head register 0x0006 to 0x000D should hold (Table 10-2). -/
def State.headThresh (s : State) (n r : Nat) : Nat :=
  if r = 6 then encLimit (s.secQ (Gal.PROT_LIMITS.SHUNT_OC n)) 1000
  else if r = 7 then encLimit (s.secQ (Gal.PROT_LIMITS.HALL_OC n)) 1000
  else if r = 8 then encLimit (s.secQ (Gal.PROT_LIMITS.BUS_OV n)) 1000
  else if r = 9 then encLimit (s.secQ (Gal.PROT_LIMITS.BUS_UV n)) 1000
  else if r = 10 then encLimit (s.secQ (Gal.PROT_LIMITS.STRING_OV n)) 1000
  else if r = 11 then encLimit (s.secQ (Gal.PROT_LIMITS.HEAD_OT n)) 100
  else if r = 12 then encLimit (s.secQ (Gal.PROT_LIMITS.PHASE_OC n)) 1000
  else s.secN (Gal.PROT_LIMITS.HEAD_CMP_FILTER n)

/-- The value that monitor register 0x0006 or 0x0007 should hold. -/
def State.monThresh (s : State) (n r : Nat) : Nat :=
  if r = 6 then encLimit (s.secQ (Gal.PROT_LIMITS.CELL_OV n)) 1000000 else encLimit (s.secQ (Gal.PROT_LIMITS.CELL_UV n)) 1000000

/-- Every threshold still to be confirmed: the head's and those of every monitor. -/
def State.allThresh (s : State) (n : Nat) : List (Nat × Nat) :=
  (List.range' 6 8).map (fun r => (0, r)) ++ (List.range' 1 (s.nodeCount n)).flatMap (fun i => [(i, 6), (i, 7)])

/-- The thresholds are written from the set in force (R270); on a trunk not claimed they are only read from the head (R354). -/
def State.sendThresh (s : State) (n : Nat) : State :=
  let s := (s.setN (Gal.PROT_STATUS.THRESH_OK n) 0).updProt n (fun p => { p with threshMis := false, threshAt := s.root })
  if s.claims n then
    let s := s.updProt n (fun p => { p with threshPend := s.allThresh n })
    let s := (List.range' 6 8).foldl (fun s r => s.sendWrite n 0 r (s.headThresh n r)) s
    (s.sendWrite n 0xFF 6 (s.monThresh n 6)).sendWrite n 0xFF 7 (s.monThresh n 7)
  else
    let s := s.updProt n (fun p => { p with threshPend := (List.range' 6 8).map (fun r => (0, r)) })
    (List.range' 6 8).foldl (fun s r => s.sendRead n 0 r) s

/-- Whether a standby's sealed set equals its partner's, as the mirror shows it (R354). -/
def State.partnerSealOk (s : State) : Bool := decide (s.getN Obj.SAFETY_CFG.SEAL_STATE = 2) && !s.flag Obj.REDUNDANCY_STATUS.NOT_READY 1

/-- A value echoed for a threshold is compared with the set in force (R270). -/
def State.threshEcho (s : State) (n target r value : Nat) : State :=
  let want := if target = 0 then s.headThresh n r else s.monThresh n r
  if value = want then
    let s := s.updProt n (fun p => { p with threshPend := p.threshPend.filter (fun q => q != (target, r)) })
    let p := (s.g n).prot
    if p.threshPend.isEmpty && !p.threshMis && (s.claims n || s.partnerSealOk) then s.setN (Gal.PROT_STATUS.THRESH_OK n) 1 else s
  else (s.raise (Gal.FAULTS.PROT_FAULTS n) 1).updProt n (fun p => { p with threshMis := true, threshAt := s.root })

/-- THRESH_REWRITE (R270): while a value differs, the writes repeat every 1 s. -/
def execThreshRewrite (n : Nat) (s : State) : Out :=
  let p := (s.g n).prot
  if s.hasGal n && s.trunkUp n && p.threshMis && s.passed p.threshAt (secTicks 1) then .next (s.sendThresh n) else .next s

/-! ### Loop delay compensation (R138 to R144) -/

/-- The DELAY_COMP word of a monitor as last read. -/
def State.compWord (s : State) (n i : Nat) : Nat := SMap.get (fun _ => 0) (s.g n).trunk.comps i
/-- LINK_MEAS (Table 5-2). -/
def State.linkMeas (s : State) (n i : Nat) : Nat := bits (s.compWord n i) 23 16
/-- FWD_LAT (Table 5-2). -/
def State.fwdLat (s : State) (n i : Nat) : Nat := bits (s.compWord n i) 31 24

/-- f of R142 for the monitor `i + 1`: the forward delay. -/
def State.fDelay (s : State) (n : Nat) : Nat → Nat
  | 0 => s.linkMeas n (s.nodeCount n)
  | i + 1 => s.fDelay n i + s.fwdLat n (i + 1) + s.linkMeas n (i + 1)

/-- g of R142 for the monitor NODE_COUNT - `j`: the delay on the reverse half. -/
def State.gDelay (s : State) (n : Nat) : Nat → Nat
  | 0 => s.linkMeas n (s.nodeCount n)
  | j + 1 => s.gDelay n j + s.fwdLat n (s.nodeCount n - j) + s.linkMeas n (s.nodeCount n - j - 1)

/-- The COMP that a monitor should hold: forward in the ring and before a break, else reverse. -/
def State.compWant (s : State) (n i : Nat) : Nat :=
  let b := s.getN (Gal.FLIGHT_STATUS.BREAK_AFTER n)
  if 2 ≤ s.getN (Gal.FLIGHT_STATUS.LOOP_STATE n) ∧ b < i then s.gDelay n (s.nodeCount n - i) else s.fDelay n (i - 1)

/-- ALIGN_STATE and ALIGN_BOUND as they stand (Table 5-9, Table 5-3). -/
def State.alignSync (s : State) (n : Nat) : State :=
  let t := (s.g n).trunk
  let sampling := decide (s.getN (Gal.SAMPLE_SCHED.SAMPLE_AT n) ≠ 0xFFFF)
  let settling := (s.g n).nodes.any (fun m => m.ok && bit m.status 1)
  let st := if !sampling then 0 else if t.degraded then 3 else if settling then 1 else 2
  let s := s.setN (Gal.SAMPLE_SCHED.ALIGN_STATE n) st
  s.setR (Gal.SAMPLE_SCHED.ALIGN_BOUND n)
    (if sampling then some (3 / 5 + ((s.nodeCount n - 1 : Nat) : Q) / 5 + 4) else none)

/-- COMP is written to the monitors where the wanted value differs by more than `slack` units (R142, R143). After a path change or a
drift these are rewrites, and the alignment is DEGRADED until the last of them is answered. -/
def State.writeComps (s : State) (n slack : Nat) : State :=
  let again := decide (slack ≠ 0) || (s.g n).trunk.degraded
  let need := (List.range' 1 (s.nodeCount n)).filter (fun i =>
    let have_ := bits (s.compWord n i) 12 0
    let want := s.compWant n i
    decide (have_ + slack < want) || decide (want + slack < have_))
  let s := need.foldl (fun s i =>
    let s := s.sendWrite n i 5 (s.compWant n i)
    if again then s.inc (Gal.COUNTERS.ALIGN_UPDATES n) else s) s
  (s.updTrunk n (fun t => { t with compPend := t.compPend ++ need, degraded := again && !(t.compPend ++ need).isEmpty })).alignSync n

/-- Whether a READ_REG of DELAY_COMP still waits or is outstanding. -/
def State.compReading (s : State) (n : Nat) : Bool :=
  let isRead (e : Entry) : Bool := e.op == 2 && e.target != 0 && fieldN e.args 0 2 == 5
  (s.g n).trunk.waiting.any isRead || (s.g n).trunk.outst.any (fun o => isRead o.entry)

/-- DELAY_COMP is read from every monitor. -/
def State.readComps (s : State) (n : Nat) : State :=
  let s := (List.range' 1 (s.nodeCount n)).foldl (fun s i => s.sendRead n i 5) s
  s.updTrunk n (fun t => { t with rereadAt := s.root })

/-- Whether a WRITE_REG of FILTER_CFG still waits or is outstanding. -/
def State.filterWriting (s : State) (n : Nat) : Bool :=
  let isWrite (e : Entry) : Bool := e.op == 3 && e.target == 0xFF && fieldN e.args 0 2 == 9
  (s.g n).trunk.waiting.any isWrite || (s.g n).trunk.outst.any (fun o => isWrite o.entry)

/-- The SYNC_RESET that follows the first COMP writes and each write of FILTER_CFG (R142, R147). -/
def State.syncIfReady (s : State) (n : Nat) : State :=
  let t := (s.g n).trunk
  if t.syncAfter && t.compPend.isEmpty && !s.compReading n && !s.filterWriting n then
    (s.updTrunk n (fun t => { t with syncAfter := false })).sendCmd n 4 0xFF []
  else s

/-- DELAY_COMP_REREAD (R143): every 10 s, while UP. -/
def execDelayCompReread (n : Nat) (s : State) : Out :=
  if s.hasGal n && s.trunkUp n && s.claims n && s.passed (s.g n).trunk.rereadAt (secTicks 10) && !s.compReading n then
    .next (s.readComps n)
  else .next s

/-! ### The sample instant (R136, R138, R167) -/

/-- d of R136: TRUNK_DELAY averaged over the last 1,024 superframes. -/
def State.meanDelay (s : State) (n : Nat) : Nat :=
  let l := (s.g n).trunk.delays
  if l.isEmpty then s.getN (Gal.FLIGHT_STATUS.TRUNK_DELAY n) else (qround ((l.sum : Q) / (l.length : Q))).toNat

/-- The target of SAMPLE_AT and whether it is clamped (R136). -/
def State.sampleTarget (s : State) (n : Nat) : Nat × Bool :=
  let d : Int := s.meanDelay n
  let want : Int := s.getN (Gal.SAMPLE_SCHED.SAMPLE_PHASE n) - d - 64
  let lo := 5186 + d
  let hi := 9900
  if want < lo then (lo.toNat, true) else if hi < want then (9900, true) else (want.toNat, false)

/-- CARRIER_PHASE of R138. -/
def State.carrierPhase (s : State) (n : Nat) : Nat :=
  let p : Int := s.getN (Gal.CONV_CFG.PERIOD n)
  (((s.getN (Gal.SAMPLE_SCHED.SAMPLE_AT n) : Int) - qround (s.getQ (Gal.SAMPLE_SCHED.CARRIER_POINT n) * (p : Q))) % p).toNat

/-- CARRIER_DIV as CONV_CFG gives it (Table 6-2). -/
def State.carrierDiv (s : State) (n : Nat) : Nat :=
  s.getN (Gal.CONV_CFG.PERIOD n) + s.getN (Gal.CONV_CFG.PHASES_USED n) * 65536

/-- CARRIER_PHASE is written when it is forced to be or has changed. -/
def State.sendCarrierPhase (s : State) (n : Nat) (force : Bool) : State :=
  let c := s.carrierPhase n
  if s.claims n && (force || decide (c ≠ s.getN (Gal.SAMPLE_SCHED.CARRIER_PHASE n))) then
    (s.setN (Gal.SAMPLE_SCHED.CARRIER_PHASE n) c).sendWrite n 0 5 c
  else s

/-- CARRIER_DIV is written, and CARRIER_PHASE immediately after it (R167). -/
def State.sendCarrierDiv (s : State) (n : Nat) : State :=
  if s.claims n && s.trunkUp n then
    ((s.updTrunk n (fun t => { t with divSent := s.carrierDiv n })).sendWrite n 0 4 (s.carrierDiv n)).sendCarrierPhase n true
  else s

/-- BAL_LIMITS from BALANCE_CFG (R151). -/
def State.sendBalLimits (s : State) (n : Nat) : State :=
  if s.claims n && s.trunkUp n then
    s.sendWrite n 0xFF 8 (s.getN (Gal.BALANCE_CFG.MAX_CLOSED n) + 32 * s.getN (Gal.BALANCE_CFG.NO_ADJACENT n))
  else s

/-- FILTER_CFG from CMP_DEBOUNCE; SYNC_RESET follows a write of it (R147, R148). -/
def State.sendFilterCfg (s : State) (n : Nat) : State :=
  if s.claims n && s.trunkUp n then
    (s.sendWrite n 0xFF 9 (s.getN (Gal.SAMPLE_SCHED.CMP_DEBOUNCE n))).updTrunk n (fun t => { t with syncAfter := true })
  else s

/-- A setting of a Gallery takes effect; one that the Gallery writes on to its string is sent (R147, R148, R151, R167). -/
def State.applyHeld (s : State) (n k : Nat) (v : Val) : State :=
  let s := s.put k v
  if k = Gal.SAMPLE_SCHED.CMP_DEBOUNCE n then s.sendFilterCfg n
  else if k = Gal.BALANCE_CFG.MAX_CLOSED n ∨ k = Gal.BALANCE_CFG.NO_ADJACENT n then s.sendBalLimits n
  else if k = Gal.CONV_CFG.PERIOD n ∨ k = Gal.CONV_CFG.PHASES_USED n then s.sendCarrierDiv n
  else s

/-- The writes that wait for a control step take effect (R82). -/
def State.takeHeld (s : State) (n : Nat) : State :=
  (s.g n).held.foldl (fun s e => s.applyHeld n e.1 e.2) (s.updG n (fun g => { g with held := [] }))

/-- They take effect where no control step will come: the tile stops or starts anew. -/
def State.settle (s : State) (n : Nat) : State := (s.withHeld n).updG n (fun g => { g with held := [] })

/-! ### The states of Table 4-14 -/

/-- The trunk enters a state; a switch test that runs stops where it leaves UP (R158). -/
def State.toTrunk (s : State) (n st : Nat) : State :=
  let s := if st = 4 then s else s.stopTest n
  (s.setN (Gal.FLIGHT_STATUS.TRUNK_STATE n) st).updTrunk n (fun t => { t with since := s.root })

/-- Sampling stops: SAMPLE_AT := 0xFFFF. -/
def State.stopSampling (s : State) (n : Nat) : State := (s.setN (Gal.SAMPLE_SCHED.SAMPLE_AT n) 0xFFFF).alignSync n

/-- ACQUIRE: downstream superframes start, and what is outstanding is sent again once the trunk trains (R119). -/
def State.toAcquire (s : State) (n : Nat) : State :=
  let s := (s.toTrunk n 1).updTrunk n (fun t => { t with
    good := 0, seenGood := false, bad := 0, delays := [], idle := false, asleep := false, farSince := none, headSeen := false
    askPartner := false, headRegs := [], arrivals := [], obeyPort := 0, orphan := 0, holdSf := 0, ovl := 0, expect := none
    sfNum := if s.trunk n = 0 then (s.now / 10000) % 2 ^ 32 else t.sfNum
    compPend := [], degraded := false, syncAfter := false, enumRead := false
    outst := t.outst.map (fun o => { o with dueSf := true, age := 0 }) })
  s.stopSampling n

/-- RETRY_WAIT; a command that is outstanding is sent again after the retrain (R119). -/
def State.toRetry (s : State) (n : Nat) : State := s.toTrunk n 6

/-- A re-initialise of the Gallery that runs ends with its Flight trained again, or fails (R93). -/
def State.restartEnds (s : State) (n result : Nat) : State :=
  let s := if s.getN (Gal.BLOCK_CTRL.RESULT n) = 1 then s.setN (Gal.BLOCK_CTRL.RESULT n) result else s
  if s.md.ladderGal = some n then (s.setN Obj.RESET_LADDER.RESULT result).updMd (fun m => { m with ladderGal := none }) else s

/-- TOPOLOGY_FAULT: sampling stops (R124). -/
def State.toTopology (s : State) (n : Nat) : State :=
  (((s.restartEnds n 3).toTrunk n 5).raise (Gal.FAULTS.FLIGHT_FAULTS n) 3).stopSampling n

/-- OFF: the trunk goes to electrical idle, and the tile is OFF (R39); the causes it reported end with it. -/
def State.toOff (s : State) (n : Nat) : State :=
  let s := s.settle n
  let s := s.clear (Gal.PROT_STATUS.STANDING n) 0x5FF
  let s := (s.toTrunk n 0).updTrunk n (fun t => { t with
    waiting := [], outst := [], idle := true, good := 0, seenGood := false, bad := 0, compPend := [], degraded := false
    syncAfter := false, enumRead := false, pathSeen := false })
  s.stopSampling n

/-- IDENTIFY: the head is asked (Table 4-14). -/
def State.toIdentify (s : State) (n : Nat) : State := (s.toTrunk n 2).sendCmd n 1 0 []

/-- ENUMERATE: a broadcast IDENTIFY; a module that does not claim the trunk asks its partner for it (R354). -/
def State.toEnumerate (s : State) (n : Nat) : State :=
  let s := (s.toTrunk n 3).updTrunk n (fun t => { t with idAns := [], enumRead := false })
  if s.claims n then s.sendCmd n 1 0xFF []
  else s.updTrunk n (fun t => { t with askPartner := true })

/-- What starts anew when a trunk enters UP: temperatures and rates (R253), the voltages that fold-back uses (R182, R185, R191) and
telemetry (R195). -/
def State.upStart (s : State) (n : Nat) : State :=
  let s := s.updG n (fun g => { g with
    therm := { g.therm with therms := [], swept := false }
    bal := { g.bal with sweepFirst := true, sweepOut := false, sweepAns := none, sweepGot := [] }
    meas := { g.meas with headOk := false, fresh := false }
    tread := { g.tread with vLast := none, ths := none }
    cells := g.cells.map (fun c => { c with vLast := none, temp := none, subst := false })
    telem := { g.telem with
      startAt := s.now, w100 := { idx := s.now / 31250000, endAt := g.telem.w100.endAt }
      w1s := { idx := s.now / 312500000, endAt := g.telem.w1s.endAt } } })
  let s := [Gal.THERMAL_STATUS.T_MAX n, Gal.THERMAL_STATUS.T_MIN n, Gal.THERMAL_STATUS.RISE_10S n, Gal.THERMAL_STATUS.RISE_60S n,
    Gal.CONV_REFS.RIPPLE n, Gal.TELEMETRY.I_SF n, Gal.TELEMETRY.P_SF n, Gal.TELEMETRY.BUS_V_SF n, Gal.TELEMETRY.STRING_V_SF n].foldl (fun s k => s.setR k none) s
  let s := (s.setN (Gal.THERMAL_STATUS.T_MAX_POS n) 0xFFFF).setN (Gal.THERMAL_STATUS.RISE_POS n) 0xFFFF
  let s := (s.setN (Gal.THERMAL_STATUS.SUBSTITUTES n) 0).setR (Gal.THERMAL_STATUS.THROTTLE_I n) (some 0)
  if s.getN (Gal.THERMAL_STATUS.INTERVAL_NOW n) = 0 then
    s.setN (Gal.THERMAL_STATUS.INTERVAL_NOW n) (s.getN (Gal.THERMAL_CFG.SWEEP_INTERVAL n))
  else s

/-- The writes to head and monitors on entry to UP (R138, R142, R147, R148, R151, R167, R270): COMP by the DELAY_COMP words that ENUMERATE
has read, before the first SYNC_RESET. -/
def State.upWrites (s : State) (n : Nat) : State :=
  let s := (s.updTrunk n (fun t => { t with syncAfter := true, enumRead := false, compPend := [] })).writeComps n 0
  let s := (s.sendCarrierDiv n).sendBalLimits n
  (((s.sendFilterCfg n).sendThresh n).syncIfReady n).alignSync n

/-- UP (R136, R138, R142, R147, R148, R151, R167, R270). -/
def State.toUp (s : State) (n : Nat) : State :=
  let s := (s.restartEnds n 2).toTrunk n 4
  let s := s.setN (Gal.SAMPLE_SCHED.SAMPLE_AT n) (s.sampleTarget n).1
  let s := (s.updTrunk n (fun t => { t with askPartner := false })).upStart n
  let s := (s).setFlag (Gal.PROT_STATUS.STANDING n) 8 false
  if s.claims n then s.upWrites n
  else (((s.updTrunk n (fun t => { t with compPend := [], degraded := false })).sendThresh n).alignSync n)

/-! ### The checks of R124 -/

/-- The EXPECTED entry of monitor i: FIRST_POS and COUNT. -/
def State.expected (s : State) (n i : Nat) : Nat × Nat :=
  let w := s.getN (Gal.FLIGHT_NODES.EXPECTED n i)
  (bits w 15 0, bits w 20 16)

/-- Check 1: the used entries are 1 to NODE_COUNT and cover every position exactly once. -/
def State.configConsistent (s : State) (n : Nat) : Bool :=
  let used := (List.range' 1 39).filter (fun i => decide (0 < (s.expected n i).2))
  decide (used = List.range' 1 (s.nodeCount n)) &&
  (List.range 512).all (fun p =>
    let c := (used.filter (fun i => decide ((s.expected n i).1 ≤ p) && decide (p < (s.expected n i).1 + (s.expected n i).2))).length
    c == (if p < s.posCount n then 1 else 0))

/-- What an address answered to the broadcast IDENTIFY: FIRST_POS, POS_COUNT, serial. -/
def State.idOf (s : State) (n i : Nat) : Option (Nat × Nat × Nat) :=
  ((s.g n).trunk.idAns.find? (fun a => a.1 == i)).map (fun a => a.2)

/-- The check of R124 has passed: on a trunk that it claims the Gallery reads DELAY_COMP from every monitor, still in ENUMERATE (R142), and
enters UP when the last has answered; else UP at once. -/
def State.enumPassed (s : State) (n : Nat) : State :=
  if s.claims n && decide (0 < s.nodeCount n) then (s.updTrunk n (fun t => { t with enumRead := true })).readComps n else s.toUp n

/-- R124: the checks, with TOPOLOGY, REPORTED and the outcome. Checks 3 and 4 judge every address that answered. -/
def State.identifyCheck (s : State) (n : Nat) : State :=
  let cfg := s.configConsistent n
  let answered := (s.g n).trunk.idAns.length
  let cntOk := decide (answered = s.nodeCount n)
  let idxBad := (List.range' 1 39).filter (fun i => match s.idOf n i with
    | some a => decide (a.1 ≠ (s.expected n i).1)
    | none => false)
  let lenBad := (List.range' 1 39).filter (fun i => match s.idOf n i with
    | some a => decide (a.2.1 ≠ (s.expected n i).2)
    | none => false)
  let missing := (List.range' 1 (s.nodeCount n)).filter (fun i => (s.idOf n i).isNone)
  let extra := ((s.g n).trunk.idAns.filter (fun a => decide (s.nodeCount n < a.1))).map (fun a => a.1)
  let bad := idxBad ++ lenBad ++ missing ++ extra
  let first := match bad with
    | [] => 0
    | b :: bs => bs.foldl min b
  let topo := b2n (!cntOk) + 2 * b2n (!idxBad.isEmpty) + 4 * b2n (!lenBad.isEmpty) + 8 * b2n (!cfg) + 256 * first
  let s := s.setN (Gal.FLIGHT_STATUS.TOPOLOGY n) topo
  let s := (List.range' 1 39).foldl (fun s i =>
    let w := match s.idOf n i with
      | some a => a.1 % 65536 + (a.2.1 % 32) * 65536 + (if bad.contains i then 2 ^ 30 else 0) + 2 ^ 31
      | none => if i ≤ s.nodeCount n then 2 ^ 30 else 0
    s.setN (Gal.FLIGHT_NODES.REPORTED n i) w) s
  let s := s.updTrunk n (fun t => { t with serials := t.idAns.foldl (fun m a => SMap.put m a.1 a.2.2.2) [] })
  if cfg && cntOk && idxBad.isEmpty && lenBad.isEmpty then s.enumPassed n else s.toTopology n

/-- The head has answered IDENTIFY, with status 0 or another (Table 4-14). -/
def State.headIdentified (s : State) (n : Nat) (ok : Bool) (ty phases : Nat) : State :=
  let want := s.getN (Gal.STRING_CFG.HEAD_TYPE n)
  if ok && (decide (want = 0) || decide (want = ty)) && decide (s.getN (Gal.CONV_CFG.PHASES_USED n) ≤ phases) then
    if s.claims n then
      let s := (s.sendWrite n 0 2 (s.nodeCount n)).sendWrite n 0 3 (s.getN (Gal.STRING_CFG.HOLD_TIMEOUT n))
      s.toEnumerate n
    else [2, 3, 4, 5].foldl (fun s r => s.sendRead n 0 r) s
  else (s.setN (Gal.FLIGHT_STATUS.TOPOLOGY n) 16).toTopology n

/-- R354: on a trunk not claimed, the registers read are compared; CARRIER_PHASE is read and reported only. -/
def State.headRegRead (s : State) (n addr value : Nat) : State :=
  let s := s.updTrunk n (fun t => { t with headRegs := SMap.put t.headRegs addr value })
  let have_ := fun r => SMap.find? (s.g n).trunk.headRegs r
  if s.trunk n = 2 ∧ !s.claims n then
    match have_ 2, have_ 3, have_ 4, have_ 5 with
    | some a, some b, some c, some d =>
      let s := s.setN (Gal.SAMPLE_SCHED.CARRIER_PHASE n) (d % 65536)
      if a = s.nodeCount n ∧ b = s.getN (Gal.STRING_CFG.HOLD_TIMEOUT n) ∧ c = s.carrierDiv n then
        if s.getN Obj.REDUNDANCY_STATUS.LINKS = 0 then s else s.toEnumerate n
      else (s.setN (Gal.FLIGHT_STATUS.TOPOLOGY n) 16).toTopology n
    | _, _, _, _ => s
  else s

/-! ### Responses (R117, R119) -/

/-- DELAY_COMP of a monitor was read or written back (R142, R143). The last read in ENUMERATE leads to UP; a re-read in UP to the
rewrites of COMP; the last write answered ends DEGRADED. -/
def State.compEcho (s : State) (n i value : Nat) (written : Bool) : State :=
  let s := s.updTrunk n (fun t =>
    let pend := if written then t.compPend.filter (fun j => j != i) else t.compPend
    { t with comps := SMap.put t.comps i value, compPend := pend, degraded := t.degraded && !(written && pend.isEmpty) })
  let s := if !written && !s.compReading n then
      if s.trunk n = 3 then (if (s.g n).trunk.enumRead then s.toUp n else s)
      else if s.trunk n = 4 then s.writeComps n 2
      else s
    else s
  (s.syncIfReady n).alignSync n

/-- The next command of a COMMISSION of R134 has been answered: after the last, ACQUIRE. -/
def State.commissionDone (s : State) (n i : Nat) : State :=
  let s := s.updTrunk n (fun t => { t with commission := t.commission.filter (fun j => j != i) })
  if (s.g n).trunk.commission.isEmpty then s.toAcquire n else s

/-- Progress of the switch test by a response (R155, R156): bit 0 of the state after the command. The superframe of the response is still
one of its step; 4 discarded and 16 measured outputs follow it. -/
def State.testResponse (s : State) (n step value : Nat) : State :=
  s.updBal n (fun b =>
    if step = 1 ∧ b.phase = .closing then
      { b with step1Open := !bit value 0, phase := .settle1, left := 21, acc := 0 }
    else if step = 2 ∧ b.phase = .opening then
      { b with step2Closed := bit value 0, phase := .settle2, left := 21, acc := 0 }
    else b)

/-- RELEASE was answered (Table 10-7): status 0x00 counts towards ENERGISED. -/
def State.releaseAnswered (s : State) (n status : Nat) : State :=
  let g := s.groupOf n
  if g < 8 ∧ (s.grp g).state = .releasing then
    if status = 0 then
      (s.updGrp g (fun r => { r with released := r.released + 1 })).updProt n (fun p => { p with inhSent := false })
    else s.updGrp g (fun r => { r with releaseBad := true })
  else s

/-- The head has been sent SLEEP on an entry to VAULT or WATCH: the trunk goes to electrical idle (R479). -/
def State.stackAsleep (s : State) (n : Nat) : State :=
  if s.entering then s.updTrunk n (fun t => { t with asleep := true, idle := true, waiting := [], outst := [] }) else s

/-- A command is complete: its target has answered (R119). -/
def State.cmdDone (s : State) (n : Nat) (e : Entry) (status : Nat) (data : List Byte) : State :=
  let addr := fieldN e.args 0 2
  let value := fieldN data 0 4
  if e.op = 1 then
    if e.target = 0 ∧ s.trunk n = 2 then s.headIdentified n (decide (status = 0)) (fieldN data 0 2) (fieldN data 2 1) else s
  else if e.op = 2 ∨ e.op = 3 then
    if status ≠ 0 then
      if e.op = 3 ∧ 6 ≤ addr ∧ addr ≤ 13 ∧ e.target = 0 then
        (s.raise (Gal.FAULTS.PROT_FAULTS n) 1).updProt n (fun p => { p with threshMis := true, threshAt := s.root })
      else if e.target ≠ 0 ∧ addr = 5 then
        s.compEcho n e.target (s.compWord n e.target) (decide (e.op = 3))
      else s
    else if e.target = 0 then
      if 6 ≤ addr ∧ addr ≤ 13 then s.threshEcho n 0 addr value
      else if e.op = 2 then s.headRegRead n addr value
      else s
    else if addr = 5 then s.compEcho n e.target value (decide (e.op = 3))
    else s
  else if e.op = 6 then s.testResponse n (fieldN e.args 1 1) (if status = 0 then value else 0)
  else if e.op = 7 then s.commissionDone n e.target
  else if e.op = 9 then s.releaseAnswered n status
  else if e.op = 10 then s.stackAsleep n
  else s

/-- A broadcast is complete, with the answers it has (R119). -/
def State.bcastDone (s : State) (n : Nat) (e : Entry) : State :=
  if e.op = 1 then (if s.trunk n = 3 then s.identifyCheck n else s)
  else if e.op = 5 then s.updBal n (fun b => { b with sweepAns := some 0, sweepRsp := true })
  else if e.op = 10 then s.sendCmd n 10 0 e.args
  else if e.op = 3 then s.syncIfReady n
  else s

/-- One address answers a broadcast. -/
def State.bcastAnswer (s : State) (n src : Nat) (e : Entry) (status : Nat) (data : List Byte) : State :=
  if e.op = 1 then
    s.updTrunk n (fun t => { t with
      idAns := t.idAns.filter (fun a => a.1 != src) ++ [(src, fieldN data 0 2, fieldN data 2 1, fieldN data 4 4)] })
  else if e.op = 3 ∧ (fieldN e.args 0 2 = 6 ∨ fieldN e.args 0 2 = 7) then
    if status = 0 then s.threshEcho n src (fieldN e.args 0 2) (fieldN data 0 4)
    else (s.raise (Gal.FAULTS.PROT_FAULTS n) 1).updProt n (fun p => { p with threshMis := true, threshAt := s.root })
  else s

/-- A response entry from a source (Table 4-9) meets the command that it answers. -/
def State.response (s : State) (n src : Nat) (r : Entry) : State :=
  if r.op = 0 then s
  else match (s.g n).trunk.outst.find? (fun o =>
      o.entry.tag == r.tag && o.entry.op == r.op && (o.entry.target == src || (o.entry.target == 0xFF && src != 0))) with
  | none =>
    if r.op = 1 ∧ src ≠ 0 ∧ (s.g n).trunk.askPartner then
      let s := s.bcastAnswer n src { op := 1, target := 0xFF, tag := r.tag } r.status r.args
      if (List.range' 1 (s.nodeCount n)).all (fun i => (s.idOf n i).isSome) then s.identifyCheck n else s
    else s
  | some o =>
    if o.entry.target = 0xFF then
      let seen := if o.seen.contains src then o.seen else src :: o.seen
      let s := s.updTrunk n (fun t => { t with
        outst := t.outst.map (fun x => if x.entry.tag = o.entry.tag then { x with seen := seen } else x) })
      let s := s.bcastAnswer n src o.entry r.status r.args
      if (List.range' 1 (s.nodeCount n)).all (fun i => seen.contains i) then
        (s.updTrunk n (fun t => { t with outst := t.outst.filter (fun x => x.entry.tag != o.entry.tag) })).bcastDone n o.entry
      else s
    else
      (s.updTrunk n (fun t => { t with outst := t.outst.filter (fun x => x.entry.tag != o.entry.tag) })).cmdDone n o.entry r.status r.args

/-- A command fails after its third resend (R119). -/
def State.cmdFail (s : State) (n : Nat) (o : Outst) : State :=
  let s := s.updTrunk n (fun t => { t with outst := t.outst.filter (fun x => x.entry.tag != o.entry.tag) })
  let e := o.entry
  if e.target = 0xFF ∧ !o.seen.isEmpty then s.bcastDone n e
  else
    let s := s.raise (Gal.FAULTS.FLIGHT_FAULTS n) 6
    if s.trunk n = 2 ∨ s.trunk n = 3 then s.toRetry n
    else if e.op = 5 then
      (s.inc (Gal.COUNTERS.SWEEP_LATE n)).updBal n (fun b => { b with sweepOut := false, sweepAns := none })
    else if e.op = 6 then s.updBal n (fun b => { b with testLost := true })
    else if e.op = 7 then s.commissionDone n e.target
    else if e.op = 9 then s.releaseAnswered n 3
    else if e.op = 10 ∧ e.target = 0xFF then s.sendCmd n 10 0 e.args
    else if e.op = 10 then s.stackAsleep n
    else if (e.op = 2 ∨ e.op = 3) ∧ e.target ≠ 0 ∧ fieldN e.args 0 2 = 5 then
      s.compEcho n e.target (s.compWord n e.target) (decide (e.op = 3))
    else if e.op = 3 ∧ e.target = 0xFF then s.syncIfReady n
    else s

/-- COMMAND_RESEND (R119): 16 superframes without a response: the same entry goes out again, three times at most. -/
def execCommandResend (n : Nat) (s : State) : Out :=
  if s.hasGal n then
    .next ((s.g n).trunk.outst.foldl (fun s o =>
      if o.dueSf || decide (o.age < 16) then s
      else if o.resends < 3 then
        (s.updTrunk n (fun t => { t with
          outst := t.outst.map (fun x => if x.entry.tag = o.entry.tag then { x with dueSf := true, resends := x.resends + 1, age := 0 }
                                         else x) })).inc (Gal.COUNTERS.CMD_RETRIES n)
      else s.cmdFail n o) s)
  else .next s

/-! ### Timers and requests of the trunk -/

/-- ACQUIRE_TIMEOUT (Table 4-14): 100 ms in ACQUIRE. -/
def execAcquireTimeout (n : Nat) (s : State) : Out :=
  if s.hasGal n && decide (s.trunk n = 1) && s.passed (s.g n).trunk.since (msTicks 100) then
    .next ((s.raise (Gal.FAULTS.FLIGHT_FAULTS n) 1).toRetry n)
  else .next s

/-- RETRY_WAIT_EXPIRY (Table 4-14): 1 s in RETRY_WAIT. -/
def execRetryWaitExpiry (n : Nat) (s : State) : Out :=
  if s.hasGal n && decide (s.trunk n = 6) && s.passed (s.g n).trunk.since (secTicks 1) then .next (s.toAcquire n) else .next s

/-- Change a string's estimation state. -/
def State.updEst (s : State) (n : Nat) (f : EstRt → EstRt) : State := s.updG n (fun g => { g with est := f g.est })

/-- The frequency of the core tone of the applied set differs from CAL_FREQ by more than 1 % (R215). -/
def State.coreMismatch (s : State) (n : Nat) : Bool :=
  match (s.g n).spec.applied with
  | none => false
  | some x =>
    let f : Q := (((x.tones.getD (x.core - 1) (0, 0)).1 : Nat) : Q) * 31250 / ((2 ^ x.m : Nat) : Q)
    let cal := s.getQ (Gal.EXCITATION_CFG.CAL_FREQ n)
    decide (x.core ≠ 0) && decide (s.getN (Gal.EXCITATION_CFG.CAL_POINTS n) ≠ 0) && decide (cal / 100 < qabs (f - cal))

/-- A position's core temperature (R215): none while CORE_TONE or CAL_POINTS is 0, or the tone is off CAL_FREQ by more than 1 %. -/
def State.coreT (s : State) (n p : Nat) : Option Q :=
  match (s.g n).spec.applied with
  | none => none
  | some x =>
    if x.core = 0 ∨ s.getN (Gal.EXCITATION_CFG.CAL_POINTS n) = 0 ∨ s.coreMismatch n = true then none else (s.cell n p).core

/-! ### Saved images (R237 to R239) -/

/-- One position of an image (Table 8-4). -/
def imgPosOf (bs : List Byte) (p : Nat) : ImgPos :=
  let o := 64 + 32 * p
  let real := fun (k : Nat) => realOfBits (fieldN bs (o + k) 4)
  { soc := real 0, var := real 4, cap := real 8, ohm25 := real 12, hyst := fieldI bs (o + 16) 2, flags := fieldN bs (o + 18) 2
    tCore := fieldI bs (o + 20) 2, learns := fieldN bs (o + 22) 2 }

/-- The image that the bytes of a slot spell, if its CRC is correct (Table 8-4, R239). -/
def imageOf (bs : List Byte) : Option Image :=
  let k := fieldN bs 4 2
  let l := 64 + 32 * k
  let rest := fieldN bs 24 8
  if bs.length = l + 4 ∧ fieldN bs 0 2 = 1 ∧ fieldN bs l 4 = crc32c (bs.take l) then
    some { energised := bit (fieldN bs 3 1) 0, positions := k, seq := fieldN bs 8 4, modelCrc := fieldN bs 12 4, saveTick := fieldN bs 16 8
           restSince := if rest = 2 ^ 64 - 1 then none else some rest, pos := (List.range k).map (imgPosOf bs) }
  else none

/-- A slot of a string whose CRC is correct. -/
def State.imageAt (s : State) (n i : Nat) : Option Image := (SMap.find? s.nand.images (2 * n + i)).bind imageOf

/-- The newest image of a string that fits its POSITION_COUNT (R239). -/
def State.newestImage (s : State) (n : Nat) : Option Image :=
  let ok := fun (i : Nat) => (s.imageAt n i).filter (fun im => im.positions == s.posCount n)
  match ok 0, ok 1 with
  | some a, some b => some (if a.seq < b.seq then b else a)
  | some a, none => some a
  | none, b => b

/-- A read that finds no image sets IMAGE_INVALID (R239). -/
def State.imageRead (s : State) (n : Nat) : State :=
  if (s.newestImage n).isNone then s.raise (Gal.FAULTS.ESTIM_FAULTS n) 1 else s

/-- Whether an image's soc may be used at a boot: ENERGISED 0, the bit of the Vestibule 0, and time continuity (Table 8-5, R241). -/
def State.imageFresh (s : State) (n : Nat) (im : Image) : Bool :=
  !im.energised && !bit s.vest.sinceSave n && s.flag Obj.SUPPLY_STATUS.FLAGS 8

/-- The rest timer at a boot (R241): from REST_SINCE of the newest image where it may be used, else from the tile start. -/
def State.restBoot (s : State) (n : Nat) : State :=
  let s := s.imageRead n
  match (s.newestImage n).bind (fun im => if s.imageFresh n im then im.restSince else none) with
  | some t => s.updEst n (fun e => { e with restAt := t, moving := false })
  | none => s

/-- Whether a parameter set is in force. -/
def State.modelled (s : State) (n : Nat) : Bool := decide (s.getB (Gal.ESTIM_CFG.MODEL_SET n) ≠ [])

/-! ### The start of a tile (R39, Table 2-9) -/

/-- The objects of a Gallery at some offsets return to their defaults. -/
def State.objDefault (s : State) (n : Nat) (keep : List Nat) (offs : List Nat) : State :=
  { s with dict := s.dict.filter (fun e => !offs.any (fun o => e.1 / 256 == 0x4000 + 0x40 * n + o) || keep.contains e.1) }

/-- A position as a tile start finds it: in the first-use path, where a REPLACED that waits is kept (R234, R240). -/
def State.freshCell (s : State) (n p : Nat) : Cell :=
  let est : PosEst := { why := .tile :: (s.cell n p).est.why.filter (· == .replaced) }
  { est := est }

/-- The tile is powered up or re-initialised: SRAM zero-filled with valid tags, every position in the first-use path (R39, R240). The
excitation set applied and the settings stay. -/
def State.tileReset (s : State) (n : Nat) : State :=
  let s := s.settle n
  let s := s.objDefault n [Gal.ESTIM_STRING.LAST_SAVE n] [0x0C, 0x10, 0x11, 0x19, 0x1D]
  let s := ((s.setN (Gal.SPECTRUM_STATUS.STATE n) 0).setN (Gal.SPECTRUM_STATUS.PENDING_INDEX n) 0xFFFFFFFF).setN (Gal.CAPACITY_LEARN.ACTIVE n) 0
  let s := [Gal.SPECTRUM_STATUS.PLATING_CELLS n, Gal.BALANCE_CFG.ACTIVE_COUNT n, Gal.BALANCE_TEST.STATE n, Gal.BALANCE_TEST.NEXT n, Gal.BALANCE_TEST.FAULT_COUNT n].foldl
    (fun s k => s.setN k 0) s
  let s := s.updG n (fun g => { g with
    sram := [], scrubNext := 0, scrubDone := s.root, nodes := [], meas := {}, cells := (List.range (s.posCount n)).map (s.freshCell n), bal := {}
    telem := {}, tread := {}, therm := {}, mdl := none, stateLines := []
    est := { secAt := s.root, aggAt := s.root, savedAt := s.root, restAt := s.now, saveDue := g.est.saveDue, setNext := g.est.setNext }
    spec := { g.spec with n := 0, cleanI := [], lastStop := 1, a := 0, ex := 0, heldEx := 0, wins := [], pub := none } })
  if s.strOn n && !s.modelled n then s.raise (Gal.FAULTS.ESTIM_FAULTS n) 0 else s

/-- A write of STRING_CFG or FLIGHT_NODES restarts the trunk at ACQUIRE; a disabled string goes OFF (R134, Table 4-14). -/
def State.trunkRestart (s : State) (n : Nat) : State :=
  if s.strOn n then
    let s := if s.trunk n = 0 then s.tileReset n else s
    s.toAcquire n
  else if s.trunk n = 0 then s
  else s.toOff n

/-- A write of RESTORE_NOW (R127, Table 4-17) sends RESTORE_RING. -/
def restoreNowEff (n : Nat) (_ : Val) (s : State) : Except Nat State :=
  let p := s.getN (Gal.FLIGHT_STATUS.LOOP_STATE n)
  if s.energised n || !(decide (p = 2) || decide (p = 3)) then .error abortState
  else .ok (s.sendCmd n 8 0 [])

/-- RESTORE_NOW. -/
def execRestoreNow (path : Path) (n : Nat) (s : State) : Out := .next (s.write path (0x4000 + 0x40 * n) 7 [1] (restoreNowEff n))

/-- AUTO_RESTORE (R127): LOOP_RESTORE_MODE 1, both TURNING monitors have reported FAR_LINK_UP for 1 s, string not energised. -/
def execAutoRestore (n : Nat) (s : State) : Out :=
  let p := s.getN (Gal.FLIGHT_STATUS.LOOP_STATE n)
  match (s.g n).trunk.farSince with
  | some t =>
    if s.hasGal n && decide (s.getN (Gal.STRING_CFG.LOOP_RESTORE_MODE n) = 1) && !s.energised n && s.passed t (secTicks 1) &&
        (decide (p = 2) || decide (p = 3)) && s.claims n then
      .next ((s.updTrunk n (fun t => { t with farSince := none })).sendCmd n 8 0 [])
    else .next s
  | none => .next s

/-- A write of COMMISSION (R134): each EXPECTED goes to the monitor at that address, serial as reported; then ACQUIRE. -/
def commissionEff (n : Nat) (_ : Val) (s : State) : Except Nat State :=
  if s.mode ≠ .ready ∨ s.energised n ∨ s.trunk n = 0 ∨ s.trunk n = 1 ∨ s.trunk n = 6 then .error abortState
  else
    let used := (List.range' 1 39).filter (fun i => decide (0 < (s.expected n i).2))
    let s := used.foldl (fun s i => s.sendCmd n 7 i (leBytes 2 (s.expected n i).1 ++ leBytes 1 (s.expected n i).2 ++ leBytes 1 0 ++
      leBytes 4 (SMap.get (fun _ => 0) (s.g n).trunk.serials i))) s
    let s := s.updTrunk n (fun t => { t with commission := used })
    .ok (if used.isEmpty then s.toAcquire n else s)

/-- FLIGHT_NODES_COMMISSION. -/
def execFlightNodesCommission (path : Path) (n : Nat) (s : State) : Out :=
  .next (s.write path (0x4002 + 0x40 * n) 0x70 [1] (commissionEff n))

/-- A write of SYNC_NOW (R147): SYNC_RESET; refused while the string is energised. -/
def syncNowEff (n : Nat) (_ : Val) (s : State) : Except Nat State :=
  if s.energised n then .error abortState else .ok (s.sendCmd n 4 0xFF [])

/-- SYNC_NOW. -/
def execSyncNow (path : Path) (n : Nat) (s : State) : Out := .next (s.write path (0x4004 + 0x40 * n) 8 [1] (syncNowEff n))

/-- The settings of STRING_CFG and FLIGHT_NODES take effect and the trunk restarts (R134). -/
def stringCfgEff (n index sub : Nat) (v : Val) (s : State) : Except Nat State :=
  let s := s.put (keyOf index sub) v
  let s := if (index - 0x4000) % 0x40 = 0 ∧ sub = 2 then
      s.updG n (fun g => { g with cells := (g.cells ++ List.replicate v.toN ({} : Cell)).take v.toN })
    else s
  .ok (s.trunkRestart n)

/-- STRING_CFG (R39, R134): a write to STRING_CFG or FLIGHT_NODES. -/
def execStringCfg (path : Path) (index sub : Nat) (data : List Byte) (s : State) : Out :=
  let n := galOf index
  let off := (index - 0x4000) % 0x40
  if (off = 0 ∧ 1 ≤ sub ∧ sub ≤ 6) ∨ (off = 2 ∧ 1 ≤ sub ∧ sub ≤ 0x27) then
    .next (s.write path index sub data (stringCfgEff n index sub))
  else .next s

end Sys2Proof.Machine
end

