-- ==== Sys2Proof/Machine/Groups.lean ====
section
/-! DEFINITION. Protection causes, loads, contactor groups, SRS, SEO, energising and the lock-out latch (chapter 10). -/
namespace Sys2Proof.Machine

/-! ### Protection causes (R271, R272) -/

/-- A setting of a PROT_TRIP bit: counted, recorded with cause, position and SF_NUM (R272). -/
def State.protTrip (s : State) (n bitNo pos : Nat) : State :=
  if s.flag (Gal.PROT_STATUS.PROT_TRIP n) bitNo then s
  else
    let s := (s.raise (Gal.PROT_STATUS.PROT_TRIP n) bitNo).raise (Gal.FAULTS.PROT_FAULTS n) 0
    let s := (s.alertBit 3 |>.inc (Gal.COUNTERS.PROT_TRIPS n)).setN (Gal.PROT_STATUS.LAST_TRIP_TICK n) s.now
    let s := s.setN (Gal.PROT_STATUS.LAST_TRIP_POS n) pos
    s.record 0x0100 0x07 n 2 (leBytes 4 (s.getN (Gal.PROT_STATUS.PROT_TRIP n)) ++ leBytes 2 pos ++ leBytes 4 (s.g n).trunk.lastUp)

/-- A cause of Table 10-3 stands, with an SEO demand in the group states that R271 names, or has ended. -/
def State.setCause (s : State) (n bitNo : Nat) (on : Bool) (pos : Nat) : State :=
  let s := s.setFlag (Gal.PROT_STATUS.STANDING n) bitNo on
  if on then
    let s := s.protTrip n bitNo pos
    if (s.gstate n).live then s.updGrp (s.groupOf n) (fun g => { g with demand := true }) else s
  else s

/-- PROT_TRIP bits clear once their cause has ended and the group is in OFF or WAIT_OFF (R272). -/
def State.tripClear (s : State) (n : Nat) : State :=
  if s.atRest n then
    s.setN (Gal.PROT_STATUS.PROT_TRIP n) (s.getN (Gal.PROT_STATUS.PROT_TRIP n) &&& s.getN (Gal.PROT_STATUS.STANDING n))
  else s

/-! ### Safety inputs (R281, R282) -/

/-- SI_CFG_nn in force. -/
def State.siCfg (s : State) (i : Nat) : Nat := s.secN (Obj.SAFETY_INPUTS.SI_CFG i)
/-- FUNCTION of an input (Table 10-6). -/
def State.siFn (s : State) (i : Nat) : Nat := bits (s.siCfg i) 3 0
/-- Whether an input's TYPE is antivalent. -/
def State.siAnti (s : State) (i : Nat) : Bool := bits (s.siCfg i) 5 4 == 1
/-- Whether a function is a demand function; RESET and CONTACTOR_FB are active functions. -/
def demandFn (f : Nat) : Bool := f == 1 || f == 2 || f == 3 || f == 6

/-- One safety input. -/
def State.si (s : State) (i : Nat) : SInput := s.safe.inputs.getD i {}
/-- Change a safety input. -/
def State.updSi (s : State) (i : Nat) (f : SInput → SInput) : State := s.updSafe (fun r => { r with inputs := modAt r.inputs i f })

/-- What one safety channel's reading shows: channel 1 at rest high; channel 2 high, or low for an antivalent type. -/
def shows (raw i : Nat) (anti : Bool) : Bool × Bool := (bit raw (2 * i), if anti then !bit raw (2 * i + 1) else bit raw (2 * i + 1))

/-- DEMAND of an input by one reading (R282): a demand function demands as soon as either channel shows it, an active function is
active only while both show it; a standing discrepancy keeps demand, and keeps inactive (R284). -/
def State.siOn (s : State) (raw i : Nat) : Bool :=
  let f := s.siFn i
  let w := shows raw i (s.siAnti i)
  if f = 0 then false
  else if demandFn f then (!w.1 || !w.2) || (s.si i).discStand
  else (w.1 && w.2) && !(s.si i).discStand

/-- Whether an input is in demand: either safety channel sees it; an active input must be seen by both. -/
def State.demand (s : State) (i : Nat) : Bool :=
  let a := s.siOn s.safe.newel.inputs i
  let b := s.siOn s.safe.baluster.inputs i
  if demandFn (s.siFn i) then a || b else a && b

/-- Whether some input with a function is in demand or active. -/
def State.fnOn (s : State) (f : Nat) : Bool := (List.range 16).any (fun i => s.siFn i == f && s.demand i)
/-- Whether GROUP_SEO of a group is in demand. -/
def State.groupSeoDemand (s : State) (g : Nat) : Bool :=
  (List.range 16).any (fun i => s.siFn i == 3 && bits (s.siCfg i) 8 6 == g && s.demand i)
/-- The CONTACTOR_FB inputs of a group. -/
def State.fbInputs (s : State) (g : Nat) : List Nat := (List.range 16).filter (fun i => s.siFn i == 5 && bits (s.siCfg i) 8 6 == g)
/-- Whether every feedback of a group shows closed. -/
def State.fbClosed (s : State) (g : Nat) : Bool := (s.fbInputs g).all (fun i => s.demand i)
/-- Whether every feedback of a group shows open. -/
def State.fbOpen (s : State) (g : Nat) : Bool := (s.fbInputs g).all (fun i => !s.demand i)
/-- Whether IMD_ALARM stands: by the channel, or by an input (R277). -/
def State.imdStands (s : State) : Bool := s.safe.imdAlarm || s.fnOn 6
/-- DEMAND as the inputs stand. -/
def State.demandSync (s : State) : State := s.setN Obj.SAFETY_INPUTS.DEMAND (maskOf 16 (fun i => s.demand i))

/-! ### Loads (R267, R288, R289) -/

/-- Main load and pre-charge load of a group (Table 10-16). -/
def State.mainLoad (s : State) (g : Nat) : Option Nat :=
  let w := s.secN (Obj.SAFETY_OUTPUTS.GROUP g)
  if bit w 4 then some (bits w 3 0) else none
/-- The pre-charge load of a group. -/
def State.preLoad (s : State) (g : Nat) : Option Nat :=
  let w := s.secN (Obj.SAFETY_OUTPUTS.GROUP g)
  if bit w 9 then some (bits w 8 5) else none
/-- The loads of a group. -/
def State.groupLoads (s : State) (g : Nat) : List Nat := (s.mainLoad g).toList ++ (s.preLoad g).toList

/-- Whether SO_m is an overlap pair, and its MAX_OVERLAP in ms. -/
def State.pairOf (s : State) (m : Nat) : Bool × Nat := let w := s.secN (Obj.SAFETY_OUTPUTS.SO m); (bit w 0, bits w 9 1)
/-- Whether a load is on. -/
def State.loadOn (s : State) (l : Nat) : Bool := s.flag Obj.SAFETY_OUTPUTS.LOAD_ON l
/-- A load. -/
def State.load (s : State) (l : Nat) : Load := s.safe.loads.getD l {}
/-- Change a load. -/
def State.updLoad (s : State) (l : Nat) (f : Load → Load) : State := s.updSafe (fun r => { r with loads := modAt r.loads l f })
/-- The other load of the same SO. -/
def otherLoad (l : Nat) : Nat := if l % 2 = 0 then l + 1 else l - 1

/-- The loads of the groups that a channel lags in. -/
def State.lagLoads (s : State) (c : Channel) : Nat :=
  maskOf 16 (fun l => (List.range 8).any (fun g => bit c.lag g && (s.groupLoads g).contains l))

/-- What a channel commands its own switches (R278): nothing once it has failed (R17); the loads of a group that it lags in stay as they
were; the others as the group states command. -/
def State.chanLoads (s : State) (c : Channel) : Channel :=
  { c with loads := if c.healthy then clearBits s.safe.cmdOn (s.lagLoads c) ||| (c.loads &&& s.lagLoads c) else 0 }

/-- The channels' switches follow; a load is on only while both channels command it on (R278). MIN_OFF of one that goes off counts from
here (R289), and an overlap of its SO ends. -/
def State.switchSync (s : State) : State :=
  let was := s.getN Obj.SAFETY_OUTPUTS.LOAD_ON
  let s := s.updSafe (fun r => { r with newel := s.chanLoads r.newel, baluster := s.chanLoads r.baluster })
  let on := s.safe.newel.loads &&& s.safe.baluster.loads
  let fell := clearBits was on
  (s.setN Obj.SAFETY_OUTPUTS.LOAD_ON on).updSafe (fun r => { r with
    loads := r.loads.mapIdx (fun l x => if bit fell l then { x with offAt := some s.root } else x)
    soFirst := r.soFirst.mapIdx (fun m x => if bit fell (2 * m) || bit fell (2 * m + 1) then none else x) })

/-- Whether the group states command a load on. -/
def State.loadCmd (s : State) (l : Nat) : Bool := bit s.safe.cmdOn l

/-- A load is commanded off now. -/
def State.loadGoesOff (s : State) (l : Nat) : State := (s.updSafe (fun r => { r with cmdOn := withBit r.cmdOn l false })).switchSync

/-- An off command, never deferred (R288). -/
def State.loadOff (s : State) (l : Nat) : State :=
  ((s.setFlag Obj.SAFETY_OUTPUTS.LOAD_DEFERRED l false).updLoad l (fun x => { x with want := false, forced := false })).loadGoesOff l

/-- A load that is wanted goes on where R288 and R289 let it; else it waits, or is deferred. -/
def State.tryLoad (s : State) (l : Nat) : State :=
  let x := s.load l
  let off := match x.offAt with
    | some t => s.passed t (msTicks (s.secN Obj.SAFETY_OUTPUTS.MIN_OFF))
    | none => true
  if !x.want || s.loadCmd l || x.forced || !off then s
  else if s.loadCmd (otherLoad l) && !(s.pairOf (l / 2)).1 then
    (s.setFlag Obj.SAFETY_OUTPUTS.LOAD_DEFERRED l true).raise Obj.SAFETY_STATUS.SAFETY_FAULTS 7
  else
    let first := s.loadCmd (otherLoad l)
    let s := (s.updSafe (fun r => { r with cmdOn := withBit r.cmdOn l true })).setFlag Obj.SAFETY_OUTPUTS.LOAD_DEFERRED l false
    let s := if first then s.updSafe (fun r => { r with soFirst := modAt r.soFirst (l / 2) (fun _ => some (otherLoad l, s.root)) }) else s
    s.switchSync

/-- An on command. -/
def State.loadWant (s : State) (l : Nat) : State := (s.updLoad l (fun x => { x with want := true })).tryLoad l

/-- Every wanted load, the lower-numbered first. -/
def State.serveLoads (s : State) : State := (List.range 16).foldl (fun s l => s.tryLoad l) s
/-- Every load off. -/
def State.allLoadsOff (s : State) : State := (List.range 16).foldl (fun s l => s.loadOff l) s

/-! ### Refusal bits (R297, Table 10-8) -/

/-- REFUSE for a string's group: the bits of the group and of each of its strings. -/
def State.refuseBits (s : State) (g : Nat) : Nat :=
  let ns := s.groupStrings g
  let b := b2n (decide (s.mode ≠ .run) || decide (s.phase = 2)) + 2 * b2n s.latched + 4 * b2n ((s.mainLoad g).isNone)
  let per := fun (f : Nat → Bool) => b2n (ns.any f)
  b + 8 * per (fun n => !s.trunkUp n) + 16 * per (fun n => decide (s.getN (Gal.PROT_STATUS.STANDING n) ≠ 0)) +
    32 * per (fun n => decide (s.getN (Gal.PROT_STATUS.LOST n) = 1)) +
    64 * per (fun n => decide (s.getN (Gal.THERMAL_STATUS.STOP_CAUSE n) ≠ 0)) +
    128 * per (fun n => decide (s.getN (Gal.PROT_STATUS.THRESH_OK n) = 0)) +
    256 * per (fun n => decide (s.secQ (Gal.PROT_LIMITS.SHUNT_OC n) = 0) || decide (s.secQ (Gal.PROT_LIMITS.HALL_OC n) = 0) ||
      decide (s.secQ (Gal.PROT_LIMITS.BUS_OV n) = 0) || decide (s.secQ (Gal.PROT_LIMITS.STRING_OV n) = 0) ||
      decide (s.secQ (Gal.PROT_LIMITS.PHASE_OC n) = 0)) +
    512 * b2n (s.fnOn 1 || s.fnOn 2 || s.groupSeoDemand g) +
    1024 * per (fun n => decide (s.getN (Gal.PROT_STATUS.SENSOR n) ≠ 0)) +
    2048 * b2n (s.imdStands && decide (s.getN Obj.SAFETY_CFG.IMD_ACTION = 1))

/-- REFUSE of every string of a group. -/
def State.setRefuse (s : State) (g w : Nat) : State := (s.groupStrings g).foldl (fun s n => s.setN (Gal.ENERGISE.REFUSE n) w) s

/-! ### SRS and SEO (R290, R291) -/

/-- A converter that carries or could carry current. -/
def ConvState.busy : ConvState → Bool
  | .running | .reversing | .stopping | .held => true
  | _ => false

/-- One safety channel. -/
def State.safeChan (s : State) (x : SafetyChan) : Channel := match x with
  | .newel => s.safe.newel
  | .baluster => s.safe.baluster
/-- Change one safety channel. -/
def State.updSafeChan (s : State) (x : SafetyChan) (f : Channel → Channel) : State := match x with
  | .newel => s.updSafe (fun r => { r with newel := f r.newel })
  | .baluster => s.updSafe (fun r => { r with baluster := f r.baluster })
/-- Whether a channel takes part in what a group does: it is healthy and does not lag. -/
def Channel.joins (c : Channel) (g : Nat) : Bool := c.healthy && !bit c.lag g

/-- A channel's own INHIBIT request on a string. -/
def State.chanInhibit (s : State) (x : SafetyChan) (n : Nat) (on : Bool) : State :=
  s.updProt n (fun p => match x with
    | .newel => { p with newel := on }
    | .baluster => { p with baluster := on })

/-- A channel that has lagged sees the demand (R273): it takes the group's state, inserts its own INHIBIT in an SEO, and its switches
follow. -/
def State.joinChan (s : State) (g : Nat) (x : SafetyChan) : State :=
  if bit (s.safeChan x).lag g then
    let st := (s.grp g).state
    let s := s.updSafeChan x (fun c => { c with lag := withBit c.lag g false, groups := modAt c.groups g (fun _ => st) })
    let s := if st = .opening then (s.groupStrings g).foldl (fun s n => (s.chanInhibit x n true).inhibitInsert n none) s else s
    s.switchSync
  else s

/-- A channel that does not see a demand on a live group lags; one that sees it takes part (R273). -/
def State.takeDemand (s : State) (g : Nat) (x : SafetyChan) (sees : Bool) : State :=
  if sees then s.joinChan g x
  else if (s.grp g).state.live && (s.safeChan x).healthy then s.updSafeChan x (fun c => { c with lag := withBit c.lag g true })
  else s

/-- Entry to OPENING: SEO of the group (R291); each channel that takes part requests INHIBIT on its own. `every`: it is an SEO of every group. -/
def State.enterOpening (s : State) (g : Nat) (every : Bool) : State :=
  let s := s.setGroup g .opening
  let down := (s.groupStrings g).any (fun n => (s.g n).prot.downSeo)
  let s := s.updGrp g (fun r => { r with
    srsAt := none, firstK := none, loadsOff := none, readOff := false
    trunkSeo := if down then r.trunkSeo else none })
  let s := (s.inc Obj.SAFETY_STATUS.SEO_COUNT).setN Obj.SAFETY_STATUS.LAST_SEO_TICK s.now
  let s := s.record 0x0103 0x07 0 2 [BitVec.ofNat 8 g, if every then 1 else 0]
  let s := (s.groupStrings g).foldl (fun s n =>
    let s := s.updProt n (fun p => { p with
      seoInh := true, newel := p.newel || s.safe.newel.joins g, baluster := p.baluster || s.safe.baluster.joins g, rampAt := none })
    let s := s.inc (Gal.COUNTERS.STRING_SEOS n)
    let s := s.updTread n (fun t => { t with evDe := true })
    let s := s.updEst n (fun e => { e with saveDue := some (e.saveDue.getD s.root), saveDe := true })
    s.inhibitInsert n none) s
  if (s.grp g).firstK = none ∧ (s.grp g).trunkSeo = none ∧ !(s.groupStrings g).any s.claims then
    s.updGrp g (fun r => { r with firstK := some s.root })
  else s

/-- Start of an SRS (R290): E0 is I_sel at the start. -/
def State.startSrs (s : State) (g : Nat) : State :=
  let s := (s.setGroup g .rampDown).updGrp g (fun r => { r with srsAt := some s.root })
  let s := s.inc Obj.SAFETY_STATUS.SRS_COUNT
  (s.groupStrings g).foldl (fun s n =>
    (s.updProt n (fun p => { p with
      srsE0 := s.getQ (Gal.LOOP_STATUS.I_SEL n), srsOver := 0, srsZero := 0, rampAt := none })).inc (Gal.COUNTERS.STRING_SRSS n)) s

/-- The pre-charge load goes off at once, and the group waits for MIN_OFF. -/
def State.preAbort (s : State) (g : Nat) : State :=
  let s := match s.preLoad g with
    | some l => s.loadOff l
    | none => s
  (s.setGroup g .waitOff).updGrp g (fun r => { r with minOff := s.root, pend := false })

/-- SEO demand of a group (Table 10-7). -/
def State.groupSeo (s : State) (g : Nat) (every : Bool) : State :=
  match (s.grp g).state with
  | .busCheck => s.setGroup g .off
  | .precharge => s.preAbort g
  | .closing | .releasing | .energised | .rampDown => s.enterOpening g every
  | _ => s

/-- SEO of every group, by both channels. -/
def State.allSeo (s : State) (every : Bool) : State :=
  (List.range 8).foldl (fun s g => ((s.joinChan g .newel).joinChan g .baluster).groupSeo g every) s

/-- A pending request is cleared; RESULT pending then reads none. -/
def State.clearPend (s : State) (g : Nat) : State :=
  if (s.grp g).pend then (s.updGrp g (fun r => { r with pend := false })).groupResult g 0 else s

/-- OFF (Table 10-7). -/
def State.groupOff (s : State) (g : Nat) : State :=
  match (s.grp g).state with
  | .off => s
  | .waitOff | .rampDown | .opening => s.clearPend g
  | .busCheck => s.setGroup g .off
  | .precharge => s.preAbort g
  | .closing | .releasing => s.enterOpening g false
  | .energised => if (s.groupStrings g).any (fun n => (s.g n).tread.state.busy) then s.startSrs g else s.enterOpening g false

/-- ON meets OFF, or a pending ON meets the end of MIN_OFF: BUS_CHECK where nothing blocks it (R292, R297). -/
def State.tryOn (s : State) (g : Nat) : State :=
  let w := s.refuseBits g
  if w = 0 then
    let s := ((s.setGroup g .busCheck).updGrp g (fun r => { r with pend := false, matchSf := 0 })).groupResult g 1
    let s := s.setRefuse g 0
    (s.groupStrings g).foldl (fun s n =>
      (s.updVest (fun v => { v with sinceSave := withBit v.sinceSave n true })).setN (Gal.ENERGISE.FAIL_CAUSE n) 0) s
  else (((s.setGroup g .off).updGrp g (fun r => { r with pend := false })).groupResult g 4).setRefuse g w

/-- ON (Table 10-7). -/
def State.groupOn (s : State) (g : Nat) : State :=
  match (s.grp g).state with
  | .off => s.tryOn g
  | .waitOff | .rampDown | .opening => (s.updGrp g (fun r => { r with pend := true })).groupResult g 3
  | _ => s

/-! ### The states between ON and ENERGISED (R293 to R295) -/

/-- On leaving BUS_CHECK: the pre-charge load, or without one the main load (Table 10-7). -/
def State.enterPrecharge (s : State) (g : Nat) : State :=
  match s.preLoad g, s.mainLoad g with
  | some p, _ => (s.setGroup g .precharge).loadWant p
  | none, some m => ((s.setGroup g .closing).updGrp g (fun r => { r with mainAt := some s.root })).loadWant m
  | none, none => s

/-- On leaving PRECHARGE (R294): with an overlap pair the main load goes on at once; else the pre-charge load goes off first and the
main load on in the next cycle. -/
def State.enterClosing (s : State) (g : Nat) : State :=
  let s := s.setGroup g .closing
  match s.mainLoad g with
  | none => s
  | some m =>
    if (s.pairOf (m / 2)).1 then (s.updGrp g (fun r => { r with mainAt := some s.root })).loadWant m
    else
      let s := match s.preLoad g with
        | some p => s.loadOff p
        | none => s
      s.updGrp g (fun r => { r with mainAt := none })

/-- RELEASE to every head of the group. -/
def State.enterReleasing (s : State) (g : Nat) : State :=
  let s := (s.setGroup g .releasing).updGrp g (fun r => { r with released := 0, releaseBad := false })
  (s.groupStrings g).foldl (fun s n => s.sendCmd n 9 0 []) s

/-- ENERGISED: the event goes to every converter, and ramp-in begins (R295). -/
def State.enterEnergised (s : State) (g : Nat) : State :=
  let s := (s.setGroup g .energised).groupResult g 2
  (s.groupStrings g).foldl (fun s n =>
    ((s.updTread n (fun t => { t with evEn := true })).updProt n (fun p => { p with rampAt := some s.root, lostCnt := 0 })).inc
      (Gal.COUNTERS.ENERGISINGS n)) s

/-- A load reads off when its SO or its SL reads off (R480). -/
def State.readsOff (s : State) (l : Nat) : Bool :=
  let so := s.safe.soV.getD (l / 2) 0
  let soOn := decide (((s.getR Obj.SUPPLY_STATUS.VLOOP).getD 24) - 2 < so)
  decide (so < 5) || (soOn && decide (5 < s.safe.slV.getD l 0))

/-- Opening is confirmed or has failed: WAIT_OFF; the SEO's INHIBIT requests end (Table 10-7). -/
def State.opened (s : State) (g : Nat) : State :=
  let s := (s.setGroup g .waitOff).updGrp g (fun r => { r with
    minOff := r.loadsOff.getD s.root, trunkSeo := none, firstK := none, mainAt := none })
  (s.groupStrings g).foldl (fun s n =>
    s.updProt n (fun p => { p with seoInh := false, newel := false, baluster := false, downSeo := false })) s

/-- OUTPUT_FAULT of an SO or an SL: bit m for SO_m, bit 8 + n for SL_n; the sticky bit is that of the SO. -/
def State.outputFault (s : State) (o : Nat) : State :=
  let m := if o < 8 then o else (o - 8) / 2
  (s.updSafe (fun r => { r with outFault := withBit r.outFault o true, passes := SMap.set (fun _ => 0) r.passes o 0 })).raise
    Obj.SAFETY_OUTPUTS.OUTPUT_FAULTS (8 + m)

/-- OPENING in a cycle: readback within 10 ms, and feedback (R291). -/
def State.openingCycle (s : State) (g : Nat) : State :=
  match (s.grp g).loadsOff with
  | none => s
  | some t =>
    let loads := s.groupLoads g
    let s := if (s.grp g).readOff then s
      else if loads.all s.readsOff then s.updGrp g (fun r => { r with readOff := true })
      else if s.passed t (msTicks 10) then
        ((loads.filter (fun l => !s.readsOff l)).foldl (fun s l => s.outputFault (8 + l)) s).updGrp g (fun r => { r with readOff := true })
      else s
    if (s.grp g).readOff && (s.fbOpen g || (s.grp g).fbFailed) then s.opened g else s

/-- Whether SRS of a group has ended (R290). -/
def State.srsDone (s : State) (g : Nat) : Bool :=
  (s.groupStrings g).all (fun n => decide (4 ≤ (s.g n).prot.srsZero) || !(s.g n).tread.state.busy)

/-- One safety cycle of a group's own progress (Table 10-7). -/
def State.groupCycle (s : State) (g : Nat) : State :=
  let ns := s.groupStrings g
  match (s.grp g).state with
  | .busCheck => if 16 ≤ (s.grp g).matchSf then s.enterPrecharge g else s
  | .precharge =>
    if ns.all (fun n => match s.getR (Gal.ENERGISE.PRE_V_DIFF n) with
        | some d => decide (qabs d ≤ s.secQ Obj.SAFETY_CFG.PRE_WINDOW)
        | none => false) then s.enterClosing g
    else s
  | .closing =>
    match s.mainLoad g with
    | none => s
    | some m =>
      let s := if (s.grp g).mainAt = none then (s.updGrp g (fun r => { r with mainAt := some s.root })).loadWant m else s
      let preOff := match s.preLoad g with
        | some p => !s.loadOn p
        | none => true
      if s.loadOn m && preOff && s.fbClosed g then s.enterReleasing g else s
  | .releasing =>
    if (s.grp g).releaseBad then (s.groupFail g 4 (some 8)).enterOpening g false
    else if (s.grp g).released = ns.length then s.enterEnergised g
    else s
  | .rampDown =>
    if ns.any (fun n => decide (4 ≤ (s.g n).prot.srsOver)) then
      let s := s.raise Obj.SAFETY_STATUS.SAFETY_FAULTS 6
      (ns.foldl (fun s n => s.setN (Gal.ENERGISE.FAIL_CAUSE n) 6) s).enterOpening g false
    else if s.srsDone g then s.enterOpening g false
    else s
  | .opening => s.openingCycle g
  | _ => s

/-- SRS causes of Table 10-1 that stand for a group, as bits: SRS_ALL, IMD, every string lost, thermal stop per string. -/
def State.offCauses (s : State) (g : Nat) : Nat :=
  let ns := s.groupStrings g
  b2n (s.fnOn 2) + 2 * b2n (s.imdStands && decide (s.getN Obj.SAFETY_CFG.IMD_ACTION = 1)) +
  4 * b2n (decide ((s.grp g).state = .energised) && !ns.isEmpty && ns.all (fun n => s.getN (Gal.PROT_STATUS.LOST n) == 1)) +
  256 * maskOf 32 (fun n => ns.contains n && decide (s.getN (Gal.THERMAL_STATUS.STOP_CAUSE n) ≠ 0))

/-- Causes of Table 10-3 on a string as a channel has them (R273): causes 2 to 4 from its own bitmap copies, the others by the trip
line. -/
def State.chanCauses (s : State) (c : Channel) (n : Nat) : Nat :=
  clearBits (s.getN (Gal.PROT_STATUS.STANDING n)) 28 ||| SMap.get (fun _ => 0) c.copies n

/-- Whether a channel sees some input of a function in demand by its own reading (R278). -/
def State.chanFn (s : State) (c : Channel) (f : Nat) (g : Option Nat) : Bool :=
  (List.range 16).any (fun i => s.siFn i == f && s.siOn c.inputs i && (match g with
    | some g => bits (s.siCfg i) 8 6 == g
    | none => true))

/-- Whether a healthy channel sees an SEO demand on a group (Table 10-1, R271, R273). -/
def State.chanSeo (s : State) (x : SafetyChan) (g : Nat) : Bool :=
  let c := s.safeChan x
  c.healthy && (s.chanFn c 1 none || s.chanFn c 3 (some g) || (s.grp g).demand ||
    ((s.grp g).state.live && (s.groupStrings g).any (fun n => decide (s.chanCauses c n ≠ 0))))

/-- Demands on a group in a safety cycle, then its own progress (R278). Each channel acts alone on what it sees (R273); SRS_ALL is read by
each, every other cause of an SRS reaches both. A cause that stands on is one OFF event, when it arises. -/
def State.groupEvents (s : State) (g : Nat) : State :=
  let srs := fun (s : State) (x : SafetyChan) => s.chanFn (s.safeChan x) 2 none
  let s := [SafetyChan.newel, .baluster].foldl (fun s x => if s.chanSeo x g || srs s x then s.joinChan g x else s) s
  let a := s.chanSeo .newel g
  let b := s.chanSeo .baluster g
  let s := if a || b then ((s.takeDemand g .newel a).takeDemand g .baluster b).groupSeo g false else s
  let c := s.offCauses g
  let fresh := clearBits c (s.grp g).offCause
  let s := if fresh = 1 then (s.takeDemand g .newel (srs s .newel)).takeDemand g .baluster (srs s .baluster) else s
  let s := if fresh ≠ 0 then s.groupOff g else s
  let s := s.updGrp g (fun r => { r with offCause := c, demand := false })
  s.groupCycle g

/-! ### The lock-out latch (R62, R298) -/

/-- Lock-out causes that stand (Table 10-10, bit = code - 1). -/
def State.causesNow (s : State) : Nat :=
  b2n (s.fnOn 1) + 2 * b2n (s.safe.inputs.any (·.discStand)) + 4 * b2n (s.safe.inputs.any (fun i => i.crossA || i.crossB)) +
  8 * b2n (decide (s.safe.stuck ≠ 0)) + 16 * b2n (decide (s.safe.outFault ≠ 0)) + 32 * b2n s.safe.fbFault +
  64 * b2n s.safe.disagree + 128 * b2n s.safe.chanFail + 256 * b2n s.safe.pllFail

/-- A safety fault ends a transition or a request in progress in LOCKOUT (R63). -/
def State.faultEndsRequest (s : State) : State :=
  let s := if s.md.exitReset.isSome then s.setN Obj.RESET_LADDER.RESULT 3 else s
  let s := if s.md.deferRun ∨ s.getN Obj.MODE_CTRL.RESULT = 1 ∨ s.getN Obj.MODE_CTRL.RESULT = 5 then
      (s.setN Obj.MODE_CTRL.RESULT 4).raise Obj.MODE_CTRL.REFUSE_REASON 7
    else s
  (s.setN Obj.MODE_STATUS.PHASE 0).updMd (fun m => { m with deferRun := false, exitReset := none })

/-- The latch is set, every group receives SEO, and the module enters LOCKOUT (R298, Table 2-4). -/
def State.latchLockout (s : State) (causes : Nat) : State :=
  let s := s.setN Obj.SAFETY_STATUS.LATCH_CAUSES causes
  let s := (s.updVest (fun v => { v with latch := true })).updNand (fun d => { d with latch := true, latchCauses := causes })
  let s := s.record 0x0101 0x07 0 2 (leBytes 4 causes)
  let s := s.allSeo true
  let s := s.faultEndsRequest
  let s := s.toMode .lockout 0x0C true
  s.forGal (fun n s => s.inhibitInsert n none)

/-- The lock-out logic of a cycle: a standing cause latches at once; in LOCKOUT a further cause is recorded (Table 2-4). -/
def State.lockoutCycle (s : State) : State :=
  let c := s.causesNow
  let old := s.getN Obj.SAFETY_STATUS.STANDING_CAUSES
  let s := s.setN Obj.SAFETY_STATUS.STANDING_CAUSES c
  if c = 0 then s
  else if s.mode = .ready ∨ s.mode = .run then s.latchLockout c
  else if s.mode = .lockout ∧ clearBits c old ≠ 0 then
    (s.record 0x0101 0x07 0 2 (leBytes 4 (s.getN Obj.SAFETY_STATUS.LATCH_CAUSES))).allSeo true
  else s

/-! ### Requests and timers of the groups -/

/-- A write of ENERGISE:03 (R292, R268, R356): 1 asks for ON, 0 for OFF. -/
def energiseEff (n : Nat) (v : Val) (s : State) : Except Nat State :=
  if v.toN = 1 then
    if s.role = 3 then .error abortState
    else if s.groupOf n < 8 then .ok (s.groupOn (s.groupOf n))
    else .ok ((s.setN (Gal.ENERGISE.RESULT n) 4).setN (Gal.ENERGISE.REFUSE n) 4)
  else .ok (if s.groupOf n < 8 then s.groupOff (s.groupOf n) else s)

/-- ENERGISE_ON (R292): a write of 1 to ENERGISE:03. -/
def execEnergiseOn (path : Path) (n : Nat) (s : State) : Out :=
  .next (s.write path (0x4024 + 0x40 * n) 3 [1] (energiseEff n))

/-- ENERGISE_OFF (R292): a write of 0 to ENERGISE:03. -/
def execEnergiseOff (path : Path) (n : Nat) (s : State) : Out :=
  .next (s.write path (0x4024 + 0x40 * n) 3 [0] (energiseEff n))

/-- BUS_CHECK_TIMEOUT (Table 10-7): no match within 1 s. -/
def execBusCheckTimeout (g : Nat) (s : State) : Out :=
  if (s.grp g).state = .busCheck ∧ s.passed (s.grp g).since (secTicks 1) then .next ((s.groupFail g 1 (some 7)).setGroup g .off)
  else .next s

/-- PRE_TIME_EXPIRY (Table 10-7): the pre-charge load goes off, PRECHARGE_FAIL. -/
def execPreTimeExpiry (g : Nat) (s : State) : Out :=
  if (s.grp g).state = .precharge ∧ s.passed (s.grp g).since (msTicks (s.secN Obj.SAFETY_CFG.PRE_TIME)) then
    .next ((s.groupFail g 2 (some 5)).preAbort g)
  else .next s

/-- FB_TIME_EXPIRY (R291, Table 10-7): CLOSE_FAIL while closing; while opening the cause CONTACTOR_FB. -/
def execFbTimeExpiry (g : Nat) (s : State) : Out :=
  let fb := msTicks (s.secN Obj.SAFETY_OUTPUTS.FB_TIME)
  match (s.grp g).state, (s.grp g).mainAt, (s.grp g).loadsOff with
  | .closing, some t, _ =>
    if s.passed t fb ∧ !s.fbClosed g then .next ((s.groupFail g 3 (some 6)).enterOpening g false) else .next s
  | .opening, _, some t =>
    if s.passed t fb ∧ !s.fbOpen g then
      let s := (s.updSafe (fun r => { r with fbFault := true })).updGrp g (fun r => { r with fbFailed := true })
      .next (((s.groupStrings g).foldl (fun s n => s.setN (Gal.ENERGISE.FAIL_CAUSE n) 7) s).openingCycle g)
    else .next s
  | _, _, _ => .next s

/-- MIN_OFF_ELAPSED (R289, Table 10-7): a pending ON is checked again, or the group enters OFF. -/
def execMinOffElapsed (g : Nat) (s : State) : Out :=
  if (s.grp g).state = .waitOff ∧ s.passed (s.grp g).minOff (msTicks (s.secN Obj.SAFETY_OUTPUTS.MIN_OFF)) then
    if (s.grp g).pend then .next (s.tryOn g) else .next (s.setGroup g .off)
  else .next s

/-- MAX_OVERLAP_EXPIRY (R288): the first load goes off at MAX_OVERLAP, or (`current`) after 10 ms above 2.0 A. -/
def execMaxOverlapExpiry (so : Nat) (current : Bool) (s : State) : Out :=
  match s.safe.soFirst.getD so none with
  | some (l, t) =>
    if current || s.passed t (msTicks (s.pairOf so).2) then
      let s := (s.loadGoesOff l).updLoad l (fun x => { x with forced := true })
      .next (s.raise Obj.SAFETY_STATUS.SAFETY_FAULTS (if current then 4 else 3))
    else .next s
  | none => .next s

/-- MAIN_CLOSE_TIME_EXPIRY (R294): the pre-charge load goes off MAIN_CLOSE_TIME after the main load. -/
def execMainCloseTimeExpiry (g : Nat) (s : State) : Out :=
  match (s.grp g).state, (s.grp g).mainAt, s.preLoad g with
  | .closing, some t, some p =>
    if s.passed t (msTicks (s.secN Obj.SAFETY_OUTPUTS.MAIN_CLOSE_TIME)) then .next (s.loadOff p) else .next s
  | _, _, _ => .next s

/-- Both channels command the loads of a group off. -/
def State.groupLoadsOff (s : State) (g : Nat) : State :=
  ((s.groupLoads g).foldl (fun s l => s.loadOff l) s).updGrp g (fun r => { r with
    loadsOff := some s.root, readOff := false, fbFailed := false })

/-- SEO_DELAY_EXPIRY (R291): SEO_DELAY after the first K28.1. -/
def execSeoDelayExpiry (g : Nat) (s : State) : Out :=
  match (s.grp g).state, (s.grp g).loadsOff, (s.grp g).firstK with
  | .opening, none, some t =>
    if s.passed t (usTicks (s.secN Obj.SAFETY_OUTPUTS.SEO_DELAY)) then .next (s.groupLoadsOff g) else .next s
  | _, _, _ => .next s

/-- SRS_MAX_TIME_EXPIRY (R290): the channels bound the SRS in time. -/
def execSrsMaxTimeExpiry (g : Nat) (s : State) : Out :=
  match (s.grp g).state, (s.grp g).srsAt with
  | .rampDown, some t =>
    if s.passed t (msTicks (s.secN Obj.SAFETY_CFG.SRS_MAX_TIME)) then
      let s := s.raise Obj.SAFETY_STATUS.SAFETY_FAULTS 5
      .next (((s.groupStrings g).foldl (fun s n => s.setN (Gal.ENERGISE.FAIL_CAUSE n) 5) s).enterOpening g false)
    else .next s
  | _, _ => .next s

/-- TRUNK_LOSS (R123, R271, R274): three successive superframes missing or bad. -/
def execTrunkLoss (n : Nat) (s : State) : Out :=
  let t := (s.g n).trunk
  let live := match s.trunk n with
    | 2 | 3 | 4 => true
    | 1 => t.seenGood
    | _ => false
  if s.hasGal n && live && decide (3 ≤ t.bad) then
    let s := (s.raise (Gal.FAULTS.FLIGHT_FAULTS n) 0).inc (Gal.COUNTERS.TRUNK_LOSSES n)
    let hot := (s.gstate n).live
    let s := if hot then
        let at_ := s.root + msTicks (s.getN (Gal.STRING_CFG.HOLD_TIMEOUT n) + 1)
        (s.updProt n (fun p => { p with downSeo := true })).updGrp (s.groupOf n) (fun g => { g with trunkSeo := some at_ })
      else s
    let s := s.setCause n 8 true 0xFFFF
    let s := s.toAcquire n
    if hot then .next (s.groupSeo (s.groupOf n) false) else .next s
  else .next s

/-- TRUNK_LOSS_SEO_TIMER (R274): HOLD_TIMEOUT + 1 ms after the loss the loads are commanded off. -/
def execTrunkLossSeoTimer (g : Nat) (s : State) : Out :=
  match (s.grp g).state, (s.grp g).loadsOff, (s.grp g).trunkSeo with
  | .opening, none, some t => if t ≤ s.root then .next (s.groupLoadsOff g) else .next s
  | _, _, _ => .next s

/-- A write of LOST_CLEAR (R296): only while the group is in OFF or WAIT_OFF. -/
def lostClearEff (n : Nat) (_ : Val) (s : State) : Except Nat State :=
  if s.atRest n then .ok ((s.setN (Gal.PROT_STATUS.LOST n) 0).updProt n (fun p => { p with lostInh := false, lostCnt := 0 }))
  else .error abortState

/-- LOST_CLEAR (R296). -/
def execLostClear (path : Path) (n : Nat) (s : State) : Out := .next (s.write path (0x4024 + 0x40 * n) 8 [1] (lostClearEff n))

/-- STRING_LOST (R296): LOST_TIME superframes of missing current. -/
def execStringLost (n : Nat) (s : State) : Out :=
  let p := (s.g n).prot
  if s.hasGal n && decide (s.gstate n = .energised) && decide (s.getN Obj.SAFETY_CFG.LOST_TIME ≤ p.lostCnt) &&
      decide (s.getN (Gal.PROT_STATUS.LOST n) = 0) then
    let s := (s.setN (Gal.PROT_STATUS.LOST n) 1).raise (Gal.FAULTS.PROT_FAULTS n) 4
    let s := (s.inc (Gal.COUNTERS.LOST_EVENTS n)).updProt n (fun p => { p with lostInh := true })
    let s := s.record 0x0104 0x07 n 2 (int4 (qround ((s.g n).tread.iDem * 1000)))
    .next (s.inhibitInsert n none)
  else .next s

end Sys2Proof.Machine
end

