-- ==== Sys2Proof/Machine/Lines.lean ====
section
/-! DEFINITION. SRAM lines with their integrity tags (R39 to R41, Table 1-11). -/
namespace Sys2Proof.Machine

/-- Lines of 64 bytes in a tile. -/
def sramLines : Nat := 98304

/-- The eight words of a line. -/
def wordsOf (d : List Byte) : List (List Byte) := (List.range 8).map (fun k => slice d (8 * k) 8)

/-- TAG of a line (R40). -/
def tagOf (addr : Nat) (d : List Byte) : Nat := crc32c (leBytes 4 addr ++ d)

/-- A line written whole (R41). -/
def validLine (addr : Nat) (d : List Byte) : Line :=
  { data := d, ecc := (wordsOf d).map Config.eccOf, tag := tagOf addr d, poison := false }

/-- What a line that nothing has written holds: zeros with a valid tag (R39). -/
def zeroLine (addr : Nat) : Line := validLine addr (List.replicate 64 0)

/-- A line of a tile. -/
def State.line (s : State) (n addr : Nat) : Line := SMap.get zeroLine (s.g n).sram addr
/-- Replace a line of a tile. -/
def State.setLine (s : State) (n addr : Nat) (l : Line) : State :=
  s.updG n (fun g => { g with sram := SMap.set zeroLine g.sram addr l })

end Sys2Proof.Machine
end

