-- ==== Sys2Proof/Machine/Nand.lean ====
section
/-! DEFINITION. The NAND die: its geometry and regions (R20, Table 1-4), the shared spare pool (R428), the blocks of the spectrum archive
(R219). -/
namespace Sys2Proof.Machine

/-- The regions of the NAND die (Table 1-4). -/
inductive NandRegion where
  | slotA | slotB | config | recorder | archive | spare
deriving DecidableEq, Repr

/-- Pages of a block. -/
def pagesPerBlock : Nat := 128
/-- Data bytes of a page. -/
def pageBytes : Nat := 2048
/-- Bytes of the spare area of a page, which hold its ECC. -/
def pageSpareBytes : Nat := 64
/-- How many blocks a region has. -/
def NandRegion.blocks : NandRegion → Nat
  | .slotA | .slotB => 256
  | .config => 64
  | .recorder => 3072
  | .archive => 512
  | .spare => 192
/-- The first block of a region: the regions follow one another in the order of Table 1-4. -/
def NandRegion.first : NandRegion → Nat
  | .slotA => 0
  | .slotB => 256
  | .config => 512
  | .recorder => 576
  | .archive => 3648
  | .spare => 4160
/-- The regions in the order of Table 1-4. -/
def nandRegions : List NandRegion := [.slotA, .slotB, .config, .recorder, .archive, .spare]
/-- The region that a physical block was assigned to. -/
def nandRegionOf (block : Nat) : Option NandRegion :=
  nandRegions.find? (fun r => decide (r.first ≤ block) && decide (block < r.first + r.blocks))

/-- The erase count of a block. -/
def State.erases (s : State) (block : Nat) : Nat := SMap.get (fun _ => 0) s.recd.eraseCnt block

/-- Whether an operation of the NAND operation queue may begin (R421): after a flush, and after the drain while BUFFER_LEVEL has reached
1,024; nothing waits in the queue and the object server is not paused. -/
def State.nandFree (s : State) : Bool :=
  s.recd.flushTo.isNone && decide (s.recd.buffer.length < 1024) && !s.paused && decide (s.waiting .nand = 0)

/-- The markers of erases that have begun and are not done. -/
def openStarts : List JMark → List JMark
  | [] => []
  | .start r b c h :: js =>
    if js.any (fun m => match m with | .done r' b' => r' == r && b' == b | _ => false) then openStarts js
    else .start r b c h :: openStarts js
  | .done _ _ :: js => openStarts js

/-- A marker is programmed in the journal (R425). When the block is full, the other one takes over with the table of erase counts, the next
generation and the erases that are open. -/
def State.journalAdd (s : State) (m : JMark) : State :=
  s.updRec (fun r => { r with
    journal := if r.journal.length < Config.journalRoom then r.journal ++ [m] else openStarts r.journal ++ [m]
    jGen := if r.journal.length < Config.journalRoom then r.jGen else r.jGen + 1 })

/-- A block goes out of use (R428), counted and recorded. Why: 0 worn, 1 program failure, 2 erase failure. -/
def State.blockRetired (s : State) (block why : Nat) : State :=
  ((s.updRec (fun r => { r with bad := r.bad ++ [block] })).setN Obj.RECORDER_CTRL.RETIRED
    (min 65535 (s.getN Obj.RECORDER_CTRL.RETIRED + 1))).record 0x0006 0x0A 0 0 (leBytes 2 block ++ leBytes 4 (s.erases block) ++ leBytes 1 why)

/-- Whether a block would pass its erase limit, or a page program in it has failed (R427, R428). -/
def State.worn (s : State) (block : Nat) (retire : Bool) : Bool := decide (100000 < s.erases block + 1) || retire

/-- A block of the archive is retired; a block of the spare pool takes its place, where one is left (R219, R428). -/
def State.archRetire (s : State) (block why : Nat) : State :=
  let s := s.blockRetired block why
  match s.recd.spare with
  | e :: es => (s.updRec (fun r => { r with spare := es })).updNand (fun d => { d with archFree := d.archFree ++ [e] })
  | [] => s

/-- The highest SEQ of the records in an archive block; 0 of none. -/
def State.archHigh (s : State) (block : Nat) : Nat :=
  ((s.nand.archive.filter (fun r => r.blocks.contains block)).getLast?.map (·.seq)).getD 0

/-- The oldest block of the archive is given up with the records in it, and its erase is journalled and begins; worn ones are retired
until one can be erased or a spare has come (R219, R425, R428). The newest block, the write point, stays. -/
def State.archMakeRoom (s : State) (ring : List ArchBlock) : State :=
  match ring with
  | b :: b' :: rest =>
    let hi := s.archHigh b.id
    let s := s.updNand (fun d => { d with archive := d.archive.filter (fun r => !r.blocks.contains b.id), archRing := b' :: rest })
    if s.worn b.id false then
      if s.recd.spare.isEmpty then (s.archRetire b.id 0).archMakeRoom (b' :: rest) else s.archRetire b.id 0
    else (s.journalAdd (.start 1 b.id (s.erases b.id + 1) hi)).updRec (fun r => { r with eraseArch := some b.id })
  | _ => s

/-- Pages left in the block at the write point of the archive. -/
def State.archLeft (s : State) : Nat := match s.nand.archRing.getLast? with
  | some b => pagesPerBlock - b.pages
  | none => 0

/-- The blocks that a record of some pages is written into, with the ring and the erased blocks after it: it fills the block at the write
point and goes on in the next erased block. -/
def State.archPlace (s : State) (pages : Nat) : Option (List Nat × List ArchBlock × List Nat) :=
  let ring := s.nand.archRing
  let fill := modAt ring (ring.length - 1) (fun b => { b with pages := min pagesPerBlock (b.pages + pages) })
  let last := (ring.getLast?.map (·.id)).toList
  if pages ≤ s.archLeft then some (last, fill, s.nand.archFree)
  else match s.nand.archFree with
    | e :: es => some ((if s.archLeft = 0 then [] else last) ++ [e], fill ++ [{ id := e, pages := pages - s.archLeft }], es)
    | [] => none

end Sys2Proof.Machine
end

