-- ==== Sys2Proof/Machine/Estimate.lean ====
section
/-! DEFINITION. Cell and string state estimation (chapter 8). -/
namespace Sys2Proof.Machine

/-! ### Tables (R224) -/

/-- Linear interpolation on rising points; outside them the nearest end point. -/
def interp : List (Q × Q) → Q → Q
  | [], _ => 0
  | [p], _ => p.2
  | p :: q :: l, x =>
    if x ≤ p.1 then p.2
    else if x ≤ q.1 then p.2 + (q.2 - p.2) * (x - p.1) / (q.1 - p.1)
    else interp (q :: l) x

/-- The slope of the interpolation at a point; at a grid point that of the segment below it, at the low end the first segment's. -/
def slopeAt : List (Q × Q) → Q → Q
  | [], _ => 0
  | [_], _ => 0
  | p :: q :: l, x => if x ≤ q.1 ∨ l = [] then (q.2 - p.2) / (q.1 - p.1) else slopeAt (q :: l) x

/-- The integral of the interpolation from the first point up to `x`, within the points. -/
def integralTo : List (Q × Q) → Q → Q
  | [], _ => 0
  | [_], _ => 0
  | p :: q :: l, x =>
    if x ≤ p.1 then 0
    else if x ≤ q.1 then (x - p.1) * (p.2 + (p.2 + (q.2 - p.2) * (x - p.1) / (q.1 - p.1))) / 2
    else (q.1 - p.1) * (p.2 + q.2) / 2 + integralTo (q :: l) x

/-- Where each segment takes a value. -/
def crossings : List (Q × Q) → Q → List Q
  | [], _ => []
  | [_], _ => []
  | p :: q :: l, v =>
    let here :=
      if p.2 = q.2 then (if v = p.2 then [p.1, q.1] else [])
      else if (p.2 ≤ v ∧ v ≤ q.2) ∨ (q.2 ≤ v ∧ v ≤ p.2) then [p.1 + (q.1 - p.1) * (v - p.2) / (q.2 - p.2)] else []
    here ++ crossings (q :: l) v

/-- The SOC at which a table takes a value; a value outside the table takes the nearest end point; where several SOC do, which one
is left open. -/
def inverse (t : List (Q × Q)) (v : Q) : Q :=
  match (crossings t v).eraseDups with
  | [] => if v < (t.headD (0, 0)).2 then (t.headD (0, 0)).1 else (t.getLastD (0, 0)).1
  | [x] => x
  | x :: xs => (x :: xs).getD (Config.ocvPick t v % (xs.length + 1)) x

/-- A parameter set (Table 8-2), as its bytes spell it. -/
structure ModelSet where
  pts   : Nat
  temps : Nat
  eta   : Q
  gamma : Q
  ohmB  : Q
  tauD  : Q
  rD    : Q
  tauE  : Q
  rE    : Q
  cCore : Q
  cSurf : Q
  rCs   : Q
  rSm   : Q
  tGrid : List Q
  dis   : List Q
  chg   : List Q
  dT    : List Q
  ohmT  : List Q
  ctT   : List Q
deriving DecidableEq, Repr

/-- The REAL32 at a byte offset. -/
def realAt (bs : List Byte) (off : Nat) : Q := (realOfBits (fieldN bs off 4)).getD 0
/-- `k` REAL32 from a byte offset on. -/
def realsAt (bs : List Byte) (off k : Nat) : List Q := (List.range k).map (fun i => realAt bs (off + 4 * i))

/-- The set that bytes spell. -/
def modelOf (bs : List Byte) : ModelSet :=
  let k := fieldN bs 2 1
  let m := fieldN bs 3 1
  { pts := k, temps := m, eta := realAt bs 8, gamma := realAt bs 12, ohmB := realAt bs 16, tauD := realAt bs 20, rD := realAt bs 24,
    tauE := realAt bs 28, rE := realAt bs 32, cCore := realAt bs 36, cSurf := realAt bs 40, rCs := realAt bs 44, rSm := realAt bs 48,
    tGrid := realsAt bs 64 m, dis := realsAt bs (64 + 4 * m) k, chg := realsAt bs (64 + 4 * m + 4 * k) k,
    dT := realsAt bs (64 + 4 * m + 8 * k) k, ohmT := realsAt bs (64 + 4 * m + 12 * k) (11 * m),
    ctT := realsAt bs (64 + 48 * m + 12 * k) (11 * m) }

/-- Whether a list rises strictly. -/
def rising : List Q → Bool
  | [] => true
  | a :: l => (match l with
    | [] => true
    | b :: _ => decide (a < b)) && rising l

/-- The checks of R224. -/
def modelSetOk (bs : List Byte) : Bool :=
  let m := modelOf bs
  let inR := fun (x lo hi : Q) => decide (lo ≤ x) && decide (x ≤ hi)
  decide (bs.length = 68 + 92 * m.temps + 12 * m.pts) && decide (fieldN bs 0 2 = 1) &&
  decide (11 ≤ m.pts) && decide (m.pts ≤ 101) && decide (1 ≤ m.temps) && decide (m.temps ≤ 8) &&
  decide (crc32c (bs.take (bs.length - 4)) = fieldN bs (bs.length - 4) 4) &&
  (List.range ((bs.length - 12) / 4)).all (fun i =>
    (decide (11 ≤ i) && decide (i ≤ 13)) || (realOfBits (fieldN bs (8 + 4 * i) 4)).isSome) &&
  inR m.eta (99 / 100) 1 && inR m.gamma 1 500 && inR m.ohmB 0 10000 && inR m.tauD 1 10000 && inR m.tauE (1 / 100) 1000 &&
  rising m.tGrid && (List.zip m.dis m.chg).all (fun p => decide (p.1 ≤ p.2))

/-- SOC grid points. -/
def ModelSet.grid (m : ModelSet) (l : List Q) : List (Q × Q) := l.mapIdx (fun i v => ((i : Q) / ((m.pts - 1 : Nat) : Q), v))
/-- The OCV table of a hysteresis state at a core temperature: the two branches mixed, with the temperature coefficient (R225). -/
def ModelSet.ocvTable (m : ModelSet) (h tc : Q) : List (Q × Q) :=
  m.grid ((List.zip (List.zip m.dis m.chg) m.dT).map (fun p => ((1 + h) * p.1.2 + (1 - h) * p.1.1) / 2 + p.2 * (tc - 25)))
/-- A resistance table at SOC and temperature (Table 8-2). -/
def ModelSet.table (m : ModelSet) (t : List Q) (soc tc : Q) : Q :=
  interp (m.tGrid.mapIdx (fun (i : Nat) x => (x, interp ((List.range 11).map (fun (j : Nat) => (((j : Q) / 10 : Q), t.getD (11 * i + j) 0))) soc))) tc
/-- OHM_REF: OHM_TAB at 25 degC and SOC 0.5. -/
def ModelSet.ohmRef (m : ModelSet) : Q := m.table m.ohmT (1 / 2) 25

/-- A quotient; by zero it is left open. -/
def divF (k : Nat) (a b : Q) : Q := if b = 0 then Config.freeQ k else a / b

/-- The factor that brings ohm_25 to a core temperature (R235). -/
def ModelSet.warm (m : ModelSet) (tc : Q) : Q := qexp (m.ohmB * (1 / (tc + 27315 / 100) - 1 / (29815 / 100)))

/-! ### The estimate of a position -/

/-- Change a position's estimate. -/
def State.updPos (s : State) (n p : Nat) (f : PosEst → PosEst) : State := s.updCell n p (fun c => { c with est := f c.est })
/-- The parameter set in force. -/
def State.model (s : State) (n : Nat) : ModelSet := modelOf (s.getB (Gal.ESTIM_CFG.MODEL_SET n))

/-- The drop of a closed balancing switch (R153, LEAD_R in milliohm). -/
def State.balDrop (s : State) (n : Nat) : Q := s.getQ (Gal.BALANCE_CFG.BAL_CURRENT n) * s.getQ (Gal.BALANCE_CFG.LEAD_R n) / 1000

/-- The voltage of a position in the last superframe with the balancing drop added back, as estimation and R176 use it; none where
there is no data or it carries SETTLING. -/
def State.usableV (s : State) (n p : Nat) : Option Q :=
  let c := s.cell n p
  if c.settling then none else c.v.map (fun v => if c.balClosed then v + s.balDrop n else v)

/-- The string current: SHUNT_I, or HALL_I while SENSOR is 1 (R276). -/
def State.stringI (s : State) (n : Nat) : Q :=
  if s.getN (Gal.PROT_STATUS.SENSOR n) = 1 then (s.g n).meas.hall else (s.g n).meas.shunt

/-- Bounds of R227. -/
def PosEst.bounds (e : PosEst) : PosEst :=
  let d := 3 * qsqrt e.var
  { e with lo := qclamp 0 1 (e.soc - d), hi := qclamp 0 1 (e.soc + d) }

/-- soc where a lowest is taken, and where a highest is taken (R228). -/
def PosEst.low (e : PosEst) : Q := if e.uncertain then e.lo else e.soc
/-- soc where a highest is taken. -/
def PosEst.high (e : PosEst) : Q := if e.uncertain then e.hi else e.soc

/-- The bounds by which R176 reads a position: with no estimate they are 0 and 1 (R244). -/
def PosEst.lowHigh (e : PosEst) : Q × Q := if e.ready then (e.low, e.high) else (0, 1)

/-- Whether some position is SOC_UNCERTAIN (R228, R244). -/
def State.anyUncertain (s : State) (n : Nat) : Bool :=
  !s.modelled n || (s.g n).cells.any (fun c => c.est.uncertain || !c.est.ready)

/-- DCL or CCL in effect (R228). -/
def State.inEffect (s : State) (n : Nat) (k : Nat) : Q :=
  if s.anyUncertain n then s.getQ k * s.getQ (Gal.ESTIM_CFG.UNCERTAIN_DERATE n) else s.getQ k

/-- ohm until a resistance has been measured (R235). -/
def PosEst.ohmSync (e : PosEst) (m : ModelSet) : PosEst := if e.ohmMeas then e else { e with ohm := e.ohm25 * m.warm e.tc }

/-! ### First use (R240 to R243) -/

/-- Whether the rest timer has reached REST_TIME (R229). -/
def State.rested (s : State) (n : Nat) : Bool :=
  let e := (s.g n).est
  !e.moving && decide (secTicks (s.getN (Gal.ESTIM_CFG.REST_TIME n)) ≤ s.aged e.restAt)

/-- Capacity, ohm_25 and LEARNS at first use (R241); the second component tells that the capacity is a default. -/
def State.firstParams (s : State) (n p : Nat) (why : List FirstUse) (m : ModelSet) (e : PosEst) : PosEst × Bool :=
  match why.contains .replaced, (s.newestImage n).bind (fun im => im.pos[p]?) with
  | false, some ip =>
    ({ e with c := ip.cap.getD (s.getQ (Gal.ESTIM_CFG.RATED_CAPACITY n)), ohm25 := ip.ohm25.getD m.ohmRef, learns := ip.learns
              capDef := bit ip.flags 2 }, false)
  | _, _ => ({ e with c := s.getQ (Gal.ESTIM_CFG.RATED_CAPACITY n), ohm25 := m.ohmRef, learns := 0, capDef := true }, true)

/-- The rows of Table 8-5. -/
def State.firstSoc (s : State) (n p : Nat) (why : List FirstUse) (m : ModelSet) (v? : Option Q) (e : PosEst) : PosEst :=
  let c := s.cell n p
  let tm := c.temp.getD e.tc
  let e := { e with h := 0, hUnknown := true, uncertain := true, tc := tm, ts := tm }
  let dis := m.ocvTable (-1) tm
  let chg := m.ocvTable 1 tm
  let span := fun (soc lo hi : Q) => { e with soc := soc, lo := lo, hi := hi, var := ((hi - lo) / 6) * ((hi - lo) / 6) }
  let img := (s.newestImage n).bind (fun im =>
    if why.contains .replaced = false ∧ im.modelCrc = s.getN (Gal.ESTIM_CFG.MODEL_CRC n) ∧ s.imageFresh n im = true ∧
        s.now - im.saveTick ≤ secTicks (s.getN (Gal.ESTIM_CFG.STATE_MAX_AGE n)) then
      (im.pos[p]?).bind (fun ip => match ip.soc, ip.var with
        | some soc, some var => some (im, ip, soc, var)
        | _, _ => none)
    else none)
  match img with
  | some (im, ip, soc, var) =>
    let days : Q := ((s.now - im.saveTick : Nat) : Q) / 312500000 / 86400
    let sd := s.getQ (Gal.ESTIM_CFG.SELF_DIS_SIGMA n) * days
    let bl := if bit ip.flags 3 then
        s.getQ (Gal.BALANCE_CFG.BAL_CURRENT n) * (s.getN (Gal.ESTIM_CFG.SAVE_INTERVAL n) : Q) / (3600 * e.c) else 0
    { e with
      soc := soc, var := var + sd * sd + bl * bl, h := (ip.hyst : Q) / 32767, hUnknown := bit ip.flags 1
      uncertain := bit ip.flags 0, tc := (ip.tCore : Q) / 100, ts := (ip.tCore : Q) / 100 }.bounds
  | none =>
    match s.rested n, v? with
    | true, some v =>
      let a := inverse dis v
      let b := inverse chg v
      span ((a + b) / 2) (qmin a b) (qmax a b)
    | _, _ =>
      let others := ((s.g n).cells.mapIdx (fun i x => (i, x.est))).filter (fun q => q.1 != p && q.2.ready && !q.2.invalid)
      if why.contains .poisoned = true ∧ s.energised n = true ∧ others ≠ [] then
        let mg := s.getQ (Gal.ESTIM_CFG.POISON_MARGIN n)
        span (qsum (others.map (fun q => q.2.soc)) / (others.length : Q))
          (qclamp 0 1 (qminD 0 (others.map (fun q => q.2.lo)) - mg)) (qclamp 0 1 (qmaxD 1 (others.map (fun q => q.2.hi)) + mg))
      else match v? with
        | some v =>
          let b := s.getQ (Gal.ESTIM_CFG.RELAX_BAND n)
          let l := [inverse dis (v - b), inverse dis (v + b), inverse chg (v - b), inverse chg (v + b)]
          span (qsum l / 4) (qminD 0 l) (qmaxD 1 l)
        | none => span (1 / 2) 0 1

/-- The poisoned lines of a position's state are written anew, whole (R41, R240). -/
def State.linesAnew (s : State) (n p : Nat) : State :=
  let mine := (s.g n).stateLines.filter (fun e => decide (e.1 = p))
  let s := mine.foldl (fun s e =>
    { s.setLine n e.2 (validLine e.2 (Config.stateLine s.free).toList) with free := s.free + 1 }) s
  s.updG n (fun g => { g with stateLines := g.stateLines.filter (fun e => decide (e.1 ≠ p)) })

/-- A position goes through the first-use path in this step; each cause is an entry. -/
def State.firstUse (s : State) (n p : Nat) (why : List FirstUse) (m : ModelSet) (x : ModelIn) : State :=
  let e0 := (s.cell n p).est
  let (e, dflt) := s.firstParams n p why m e0
  let e := s.firstSoc n p why m (x.vs.getD p none) { e with xd := 0, xe := 0, ohmMeas := false }
  let e := { e.ohmSync m with
    ready := true, why := [], learn := none, fullAt := none, fullDone := false, emptyRun := 0, vPrev := none, closed := 0
    invalid := why.contains .poisoned, tick := x.tick, ocv := interp (m.ocvTable e.h e.tc) e.soc
    vModel := interp (m.ocvTable e.h e.tc) e.soc }
  let s := if why.contains .replaced then s else s.imageRead n
  let s := ((s.updPos n p (fun _ => e)).addTo (Gal.COUNTERS.FIRST_USES n) why.length).linesAnew n p
  if dflt then s.raise (Gal.FAULTS.ESTIM_FAULTS n) 2 else s

/-! ### The model step (R225 to R227, R231 to R235) -/

/-- The equations of R225 for one position. `k` numbers the free values of quotients by zero. -/
def stepEst (e : PosEst) (m : ModelSet) (k : Nat) (i qd qc gap : Q) (nSf : Nat) (balI balQ : Q) (bNow : Bool) (tm? v? : Option Q)
    (countSigma sigRest sigLoad : Q) : PosEst :=
  let dt : Q := (nSf : Q) * 32 / 1000000
  let dq := qd - m.eta * qc + balQ
  let soc := qclamp 0 1 (e.soc - divF k dq (3600 * e.c))
  let cs := divF k (countSigma * (qd + qc)) (3600 * e.c)
  let var := e.var + cs * cs + divF k gap (e.c * e.c)
  let sgn : Q := if 0 < dq then -1 else 1
  let h := e.h + (sgn - e.h) * (1 - qexp (divF k (-(m.gamma * qabs dq)) (3600 * e.c)))
  let hu := e.hUnknown && decide (qabs h < 9 / 10)
  let ip := if bNow then i + balI else i
  let xd := e.xd + (ip - e.xd) * (1 - qexp (divF k (-dt) m.tauD))
  let xe := e.xe + (ip - e.xe) * (1 - qexp (divF k (-dt) m.tauE))
  let ocv := interp (m.ocvTable h e.tc) soc
  let age := divF k e.ohm25 m.ohmRef
  let vm := ocv - (age * (m.table m.ohmT soc e.tc + m.table m.ctT soc e.tc) * ip + m.rD * xd + m.rE * xe) / 1000
  let tc := e.tc + divF k (dt * (ip * (ocv - vm) - divF k (e.tc - e.ts) m.rCs)) m.cCore
  let tm := tm?.getD tc
  let ts := e.ts + divF k (dt * (divF k (tc - e.ts) m.rCs - divF k (e.ts - tm) m.rSm)) m.cSurf
  let e := { e with soc := soc, var := var, h := h, hUnknown := hu, xd := xd, xe := xe, tc := tc, ts := ts, ocv := ocv, vModel := vm }
  match v? with
  | some v =>
    let g := slopeAt (m.ocvTable h e.tc) soc
    let sg := sigRest + divF k (sigLoad * qabs ip) e.c
    let kg := divF k (var * g) (var * g * g + sg * sg)
    { e with soc := qclamp 0 1 (soc + kg * (v - vm)), var := (1 - kg * g) * var }
  | none => e

/-- R235: a resistance measured between successive superframes. -/
def measureOhm (e : PosEst) (m : ModelSet) (di : Q) (v? : Option Q) (diMin : Q) (succ_ : Bool) : PosEst :=
  match e.vPrev, v? with
  | some v0, some v1 =>
    if succ_ ∧ diMin ≤ qabs di ∧ di ≠ 0 then
      let r := -1000 * (v1 - v0) / di
      if 0 < r ∧ r < 10 * e.ohm then
        let ohm := e.ohm + (r - e.ohm) / 64
        { e with ohm := ohm, ohm25 := ohm / m.warm e.tc, ohmMeas := true }
      else e
    else e
  | _, _ => e

/-- An anchor (R231): soc where the branch takes the voltage, h, and the variance. -/
def anchorAt (e : PosEst) (m : ModelSet) (k : Nat) (h v sig : Q) : PosEst :=
  let t := m.ocvTable h e.tc
  let soc := inverse t v
  let d := divF k sig (slopeAt t soc)
  { e with soc := soc, h := h, hUnknown := false, var := d * d }

/-- A learn closes (R232, R233). -/
def State.learnClose (s : State) (n p : Nat) (sf q se : Q) : State :=
  let e := (s.cell n p).est
  let depth := sf - se
  let new := q / (3600 * depth)
  let s := (s.setN (Gal.CAPACITY_LEARN.LAST_POSITION n) p).setR (Gal.CAPACITY_LEARN.LAST_C_NEW n) (if depth = 0 then none else some new)
  let s := s.updPos n p (fun e => { e with learn := none })
  if depth < s.getQ (Gal.CAPACITY_LEARN.LEARN_MIN_DEPTH n) then
    (s.setN (Gal.CAPACITY_LEARN.LAST_RESULT n) 3).inc (Gal.COUNTERS.LEARNS_REJECTED n)
  else if s.getQ (Gal.CAPACITY_LEARN.LEARN_MAX_STEP n) * e.c < qabs (new - e.c) then
    ((s.setN (Gal.CAPACITY_LEARN.LAST_RESULT n) 2).inc (Gal.COUNTERS.LEARNS_REJECTED n)).raise (Gal.FAULTS.ESTIM_FAULTS n) 7
  else
    let s := (s.setN (Gal.CAPACITY_LEARN.LAST_RESULT n) 1).inc (Gal.COUNTERS.LEARNS_ACCEPTED n)
    let s := s.updPos n p (fun e => { e with c := e.c + s.getQ (Gal.CAPACITY_LEARN.LEARN_GAIN n) * (new - e.c), learns := e.learns + 1 })
    s.updEst n (fun r => { r with saveDue := some (r.saveDue.getD s.root) })

/-- The anchors of a position after its step (R231), with the learns they open and close (R232). -/
def State.anchors (s : State) (n p : Nat) (m : ModelSet) (i : Q) (v? : Option Q) : State :=
  let e := (s.cell n p).est
  let k := s.free
  let sig := s.getQ (Gal.ESTIM_CFG.VOLT_SIGMA_REST n)
  let veq := v?.map (fun v => v - (e.vModel - e.ocv))
  let full := match veq with
    | some v => decide (i < 0) && decide (qabs i ≤ s.getQ (Gal.ESTIM_CFG.FULL_I n)) && decide (s.getQ (Gal.ESTIM_CFG.FULL_V n) ≤ v)
    | none => false
  let empty := match veq with
    | some v => decide (0 < i) && decide (v ≤ s.getQ (Gal.ESTIM_CFG.EMPTY_OCV n))
    | none => false
  let since_ := if full then some (e.fullAt.getD s.root) else none
  let fire := match since_ with
    | some t => !e.fullDone && s.passed t (secTicks (s.getN (Gal.ESTIM_CFG.FULL_TIME n)))
    | none => false
  let run := if empty then e.emptyRun + 1 else 0
  let s := s.updPos n p (fun e => { e with fullAt := since_, fullDone := full && (e.fullDone || fire), emptyRun := run })
  let s := if fire then
      let s := (s.updPos n p (fun e => anchorAt e m k 1 (s.getQ (Gal.ESTIM_CFG.FULL_V n)) sig)).inc (Gal.COUNTERS.FULL_ANCHORS n)
      if s.getN (Gal.CAPACITY_LEARN.LEARN_ENABLE n) = 1 then s.updPos n p (fun e => { e with learn := some (e.soc, 0, s.root) }) else s
    else s
  if run = 32 then
    let s := (s.updPos n p (fun e => anchorAt e m k (-1) (s.getQ (Gal.ESTIM_CFG.EMPTY_OCV n)) sig)).inc (Gal.COUNTERS.EMPTY_ANCHORS n)
    match (s.cell n p).est.learn with
    | some (sf, q, _) => s.learnClose n p sf q (s.cell n p).est.soc
    | none => s
  else s

/-- The checks that abandon an open learn (Table 8-3). -/
def State.learnCheck (s : State) (n p : Nat) : State :=
  s.updPos n p (fun e => match e.learn with
    | some (_, _, t) =>
      if e.uncertain ∨ e.tc < s.getQ (Gal.CAPACITY_LEARN.LEARN_T_MIN n) ∨ s.getQ (Gal.CAPACITY_LEARN.LEARN_T_MAX n) < e.tc ∨
          secTicks (s.getN (Gal.CAPACITY_LEARN.LEARN_MAX_TIME n)) < s.since t then { e with learn := none } else e
    | none => e)

/-- One position's part of a model step. -/
def State.stepPos (s : State) (n p : Nat) (m : ModelSet) (r : EstRt) (x : ModelIn) (succ_ : Bool) : State :=
  let c := s.cell n p
  if c.est.why ≠ [] then s.firstUse n p c.est.why m x
  else
    let v? := x.vs.getD p none
    let i := x.i
    let balI := s.getQ (Gal.BALANCE_CFG.BAL_CURRENT n)
    let core := s.coreT n p
    let takeCore := match core with
      | some _ => decide (s.getQ (Gal.EXCITATION_CFG.Q_MIN n) ≤ c.coreQ) && decide (s.aged c.coreAt < secTicks 10) &&
          decide (c.est.coreAt ≠ c.coreAt)
      | none => false
    let e0 := if takeCore then { c.est with tc := core.getD c.est.tc, coreAt := c.coreAt } else c.est
    let e := stepEst e0 m s.free i r.qd r.qc r.gap r.nSf balI ((c.est.closed : Q) * balI * 32 / 1000000) (x.bals.getD p false) c.temp v?
      (s.getQ (Gal.ESTIM_CFG.COUNT_SIGMA n)) (s.getQ (Gal.ESTIM_CFG.VOLT_SIGMA_REST n)) (s.getQ (Gal.ESTIM_CFG.VOLT_SIGMA_LOAD n))
    let e := measureOhm (e.ohmSync m) m (i - r.iPrev) v? (s.getQ (Gal.ESTIM_CFG.OHM_DI_MIN n)) succ_
    let e := { e.ohmSync m with
      closed := 0, vPrev := v?, invalid := false, tick := x.tick
      learn := e.learn.map (fun l => (l.1, l.2.1 + r.qd - m.eta * r.qc, l.2.2)) }
    let s := s.updPos n p (fun _ => e)
    let s := (s.learnCheck n p).anchors n p m i v?
    s.updPos n p (fun e =>
      let e := e.bounds
      if e.hi - e.lo ≤ s.getQ (Gal.ESTIM_CFG.CERTAIN_WIDTH n) ∧ !e.hUnknown ∧ !e.invalid then { e with uncertain := false } else e)

/-- The rate fraction of a tile (R263). -/
def State.rateOf (s : State) (n : Nat) : Q := s.getQ (if n < 16 then Obj.MODULE_THERMAL.RATE_DIE0 else Obj.MODULE_THERMAL.RATE_DIE1)

/-- Open learns. -/
def State.learnsOpen (s : State) (n : Nat) : State :=
  s.setN (Gal.CAPACITY_LEARN.ACTIVE n) ((s.g n).cells.filter (fun c => c.est.learn.isSome)).length

/-- A parameter set that waits takes effect (R224, R240). -/
def State.installSet (s : State) (n : Nat) : State :=
  match (s.g n).est.setNext with
  | some bs =>
    let s := (s.setB (Gal.ESTIM_CFG.MODEL_SET n) bs).setN (Gal.ESTIM_CFG.MODEL_CRC n) (fieldN bs (bs.length - 4) 4)
    let s := s.updEst n (fun e => { e with setNext := none })
    s.updG n (fun g => { g with cells := g.cells.map (fun c => { c with est := { c.est with why := c.est.why ++ [.paramSet] } }) })
  | none => s

/-- A model step of every position (R223) on a complete superframe, or with no parameter set in force none (R244). -/
def State.modelStep (s : State) (n : Nat) (x : ModelIn) : State :=
  if !s.modelled n then
    s.updG n (fun g => { g with
      cells := g.cells.map (fun c => { c with est := { c.est with ready := false, uncertain := true, lo := 0, hi := 1 } }) })
  else
    let m := s.model n
    let r := (s.g n).est
    let succ_ := match r.lastSf with
      | some k => decide ((k + 1) % 2 ^ 32 = x.sf)
      | none => false
    let s := (List.range (s.posCount n)).foldl (fun s p => s.stepPos n p m r x succ_) s
    let s := { s with free := s.free + 1 }
    let s := s.updEst n (fun e => { e with qd := 0, qc := 0, nSf := 0, gap := 0, lastSf := some x.sf, iPrev := x.i, steps := e.steps + 1 })
    s.learnsOpen n

/-- Without a parameter set in force an enabled string shows MODEL_SET_MISSING (R244). -/
def State.setMissing (s : State) (n : Nat) : State :=
  if s.modelled n then s else s.raise (Gal.FAULTS.ESTIM_FAULTS n) 0

/-- MODEL_STEP (R225, R36): the latest complete superframe, at the rate of R263. -/
def execModelStep (n : Nat) (s : State) : Out :=
  if s.hasGal n && s.strOn n then
    match (s.g n).mdl with
    | none => .next (s.setMissing n)
    | some x =>
      let acc := (s.g n).est.rate + s.rateOf n
      let s := s.updG n (fun g => { g with mdl := none, est := { g.est with rate := if 1 ≤ acc then acc - 1 else acc } })
      if 1 ≤ acc then
        let s := s.installSet n
        .next ((s.modelStep n x).setMissing n)
      else .next s
  else .next s

/-! ### Counting (R226) and rest (R229) -/

/-- The charge of one superframe: the string's accumulators, the closed-switch counts, and the rest timer. `gapped` is a counting gap. -/
def State.countCharge (s : State) (n : Nat) (hasData : Bool) : State :=
  let gapped := !hasData || decide (s.getN (Gal.PROT_STATUS.SENSOR n) = 1)
  let i := if hasData then s.stringI n else (s.g n).est.iHeld
  let q := i * 32 / 1000000
  let s := s.updEst n (fun e => { e with
    qd := if 0 < q then e.qd + q else e.qd, qc := if q < 0 then e.qc - q else e.qc, nSf := e.nSf + 1, iHeld := i
    gap := if gapped then e.gap + (q / 3600) * (q / 3600) else e.gap })
  let s := s.updG n (fun g => { g with
    cells := g.cells.map (fun c => if c.balClosed then { c with est := { c.est with closed := c.est.closed + 1 } } else c) })
  let s := if gapped then
      let s := (s.inc (Gal.COUNTERS.COUNT_GAPS n)).raise (Gal.FAULTS.ESTIM_FAULTS n) 4
      (s.updG n (fun g => { g with cells := g.cells.map (fun c => { c with est := { c.est with learn := none } }) })).learnsOpen n
    else s
  if hasData then
    if s.getQ (Gal.ESTIM_CFG.REST_I n) ≤ qabs i then s.updEst n (fun e => { e with restAt := s.now, moving := true, corrAt := none })
    else s.updEst n (fun e => { e with moving := false })
  else s

/-- REST_CORRECTION (R230): when the rest timer reaches REST_TIME, and every 60 s after. -/
def execRestCorrection (n : Nat) (s : State) : Out :=
  let due := match (s.g n).est.corrAt with
    | some t => s.passed t (secTicks 60)
    | none => true
  if s.hasGal n && s.strOn n && s.modelled n && s.rested n && due then
    let m := s.model n
    let k := s.free
    let sig := s.getQ (Gal.ESTIM_CFG.VOLT_SIGMA_REST n)
    let s := (List.range (s.posCount n)).foldl (fun s p =>
      match s.usableV n p with
      | some v =>
        if (s.cell n p).est.ready then
          (s.updPos n p (fun e =>
            let e := { e with xd := 0, xe := 0 }
            let e := if e.hUnknown then
                let a := inverse (m.ocvTable (-1) e.tc) v
                let b := inverse (m.ocvTable 1 e.tc) v
                { e with soc := (a + b) / 2, var := ((a - b) / 6) * ((a - b) / 6) }
              else
                let t := m.ocvTable e.h e.tc
                let x := inverse t v
                let d := divF k sig (slopeAt t x)
                { e with soc := x, var := d * d }
            e.bounds)).inc (Gal.COUNTERS.OCV_CORRECTIONS n)
        else s
      | none => s) s
    .next ({ s with free := s.free + 1 }.updEst n (fun e => { e with corrAt := some s.root }))
  else .next s

/-! ### Aggregates (R245 to R248) -/

/-- MODEL_AGE in superframes: the oldest state that the string has published. -/
def State.modelAge (s : State) (n : Nat) : Nat :=
  let l := ((s.g n).cells.filter (fun c => c.est.ready)).map (fun c => s.aged c.est.tick / 10000)
  l.foldl max 0

/-- The mean of a table over an interval. -/
def meanOver (t : List (Q × Q)) (a b : Q) : Q := if a < b then (integralTo t b - integralTo t a) / (b - a) else interp t a

/-- The values of ESTIM_STRING over the positions that are not STATE_INVALID. -/
def State.aggregate (s : State) (n : Nat) : State :=
  let m := s.model n
  let l := ((s.g n).cells.mapIdx (fun i c => (i, c.est))).filter (fun e => e.2.ready && !e.2.invalid)
  let es := l.map (·.2)
  let some_ := !es.isEmpty && s.modelled n
  let put := fun (s : State) (k : Nat) (x : Q) => s.setR k (if some_ then some x else none)
  let k := s.free
  let mn := fun (f : PosEst → Q) => qminD 0 (es.map f)
  let qd0 := mn (fun e => e.low * e.c)
  let qc0 := mn (fun e => (1 - e.high) * e.c)
  let lo := leastPair (l.map (fun e => (e.1, e.2.low)))
  let hi := leastPair (l.map (fun e => (e.1, -e.2.high)))
  let s := put s (Gal.ESTIM_STRING.SOC_STRING n) (divF k qd0 (qd0 + qc0))
  let s := put s (Gal.ESTIM_STRING.SOC_MEAN n) (qsum (es.map (·.soc)) / (es.length : Q))
  let s := put s (Gal.ESTIM_STRING.SOC_MIN n) ((lo.map (·.2)).getD 0)
  let s := s.setN (Gal.ESTIM_STRING.SOC_MIN_POS n) (if some_ then (lo.map (·.1)).getD 0xFFFF else 0xFFFF)
  let s := put s (Gal.ESTIM_STRING.SOC_MAX n) (-((hi.map (·.2)).getD 0))
  let s := s.setN (Gal.ESTIM_STRING.SOC_MAX_POS n) (if some_ then (hi.map (·.1)).getD 0xFFFF else 0xFFFF)
  let s := put s (Gal.ESTIM_STRING.CAPACITY_MIN n) (mn (·.c))
  let smin := s.getQ (Gal.LOOP_LIMITS.SOC_MIN n)
  let smax := s.getQ (Gal.LOOP_LIMITS.SOC_MAX n)
  let qd := qmax 0 (mn (fun e => (e.low - smin) * e.c))
  let qc := qmax 0 (mn (fun e => (smax - e.high) * e.c))
  let ud := qsum (es.map (fun e => meanOver (m.ocvTable (-1) e.tc) (e.low - divF k qd e.c) e.low))
  let uc := qsum (es.map (fun e => meanOver (m.ocvTable 1 e.tc) e.high (e.high + divF k qc e.c)))
  let s := put s (Gal.ESTIM_STRING.E_DIS n) (qmax 0 (qd * ud))
  let s := put s (Gal.ESTIM_STRING.E_CHG n) (qmax 0 (qc * uc))
  let rs := fun (e : PosEst) => s.getQ (Gal.ESTIM_CFG.SUSTAIN_RATIO n) * e.ohm / 1000
  let iAbs := s.getQ (Gal.CONV_CFG.I_ABS_MAX n)
  let idis := qmax 0 (qmin (s.inEffect n (Gal.LOOP_LIMITS.DCL n)) (qmin iAbs
    (mn (fun e => divF k (e.ocv - s.getQ (Gal.LOOP_LIMITS.VMIN_TARGET n)) (rs e)))))
  let ichg := qmax 0 (qmin (s.inEffect n (Gal.LOOP_LIMITS.CCL n)) (qmin iAbs
    (mn (fun e => divF k (s.getQ (Gal.LOOP_LIMITS.VMAX_TARGET n) - e.ocv) (rs e)))))
  let pdis := idis * qsum (es.map (fun e => e.ocv - idis * rs e))
  let pchg := ichg * qsum (es.map (fun e => e.ocv + ichg * rs e))
  let s := put s (Gal.ESTIM_STRING.I_DIS_CAP n) idis
  let s := put s (Gal.ESTIM_STRING.I_CHG_CAP n) ichg
  let s := put s (Gal.ESTIM_STRING.P_DIS_CAP n) (qabs pdis)
  let s := put s (Gal.ESTIM_STRING.P_CHG_CAP n) (qabs pchg)
  let s := put s (Gal.ESTIM_STRING.SOH_C n) (mn (fun e => e.c / s.getQ (Gal.ESTIM_CFG.RATED_CAPACITY n)))
  let bol := s.getQ (Gal.ESTIM_CFG.OHM_BOL n)
  let s := if bol = 0 then s.setR (Gal.ESTIM_STRING.SOH_R n) none
    else put s (Gal.ESTIM_STRING.SOH_R n) (mn (fun e => divF k bol e.ohm25))
  let s := put s (Gal.ESTIM_STRING.R_STRING n) (qsum (es.map (·.ohm)))
  let cells := (s.g n).cells
  let s := s.setN (Gal.ESTIM_STRING.UNCERTAIN_COUNT n) (cells.filter (fun c => c.est.uncertain)).length
  let s := s.setN (Gal.ESTIM_STRING.INVALID_COUNT n) (cells.filter (fun c => c.est.invalid)).length
  { s with free := s.free + 1 }
where
  /-- The lowest value, ties to the lower position. -/
  leastPair : List (Nat × Q) → Option (Nat × Q)
    | [] => none
    | e :: l => match leastPair l with
      | some b => if b.2 < e.2 then some b else some e
      | none => some e

/-- AGGREGATES (R245, R248): every 100 ms. -/
def execAggregates (n : Nat) (s : State) : Out :=
  if s.hasGal n && s.strOn n && s.passed (s.g n).est.aggAt (msTicks 100) then
    let s := (s.aggregate n).setMissing n
    let s := s.setN (Gal.ESTIM_STRING.AGGREGATE_AGE n) 0
    let s := s.setN (Gal.ESTIM_STRING.MODEL_AGE n) (s.modelAge n)
    let s := if s.getN (Gal.ESTIM_CFG.AGE_LIMIT n) < s.modelAge n then s.raise (Gal.FAULTS.ESTIM_FAULTS n) 3 else s
    let r := (s.g n).est
    let s := if s.passed r.secAt (secTicks 1) then
        (s.setR (Gal.ESTIM_STRING.MODEL_RATE n) (some ((r.steps : Q) * 312500000 / (s.since r.secAt : Q)))).updEst n (fun e => { e with
          steps := 0, secAt := s.root })
      else s
    .next (s.updEst n (fun e => { e with aggAt := s.root }))
  else .next s

/-! ### Saving state (R237, R238) -/

/-- Whether the string makes saves: it is enabled, and the power-down, which makes none (R66), does not run. -/
def State.saveable (s : State) (n : Nat) : Bool := s.strOn n && !s.powerDown

/-- The slot of a string that does not hold its newest image, and the SEQ of the next save. -/
def State.saveSlot (s : State) (n : Nat) : Nat × Nat :=
  match (s.imageAt n 0).map (·.seq), (s.imageAt n 1).map (·.seq) with
  | some a, some b => if a < b then (0, b + 1) else (1, a + 1)
  | some a, none => (1, a + 1)
  | none, some b => (0, b + 1)
  | none, none => (0, 1)

/-- STATE_SAVE (R238): a save falls due and starts, in the NAND operation queue (Table 3-14). Until it is complete its slot holds no image
(R239). -/
def execStateSave (n : Nat) (s : State) : Out :=
  let r := (s.g n).est
  if s.hasGal n && s.saveable n && r.saving.isNone && s.nandFree &&
      (r.saveDue.isSome || s.passed r.savedAt (secTicks (s.getN (Gal.ESTIM_CFG.SAVE_INTERVAL n)))) then
    let (slot, seq) := s.saveSlot n
    let s := s.updNand (fun d => { d with images := SMap.erase d.images (2 * n + slot) })
    .next (s.updEst n (fun e => { e with saving := some (s.energised n), saveSlot := slot, saveSeq := seq }))
  else .next s

/-- One position of an image (Table 8-4). Of one that has not been through the first-use path yet the image has no soc, and the
capacity, ohm_25 and LEARNS that the path would take. -/
def State.imagePos (s : State) (n p : Nat) (m : ModelSet) : List Byte :=
  let c := s.cell n p
  let e := if c.est.ready then c.est
    else (s.firstParams n p c.est.why m { c.est with uncertain := true, hUnknown := true, h := 0 }).1
  real4 (if c.est.ready then some e.soc else none) ++ real4 (if c.est.ready then some e.var else none) ++ real4 (some e.c) ++
  real4 (if s.modelled n || c.est.ready then some e.ohm25 else none) ++ leBytes 2 (ofSigned 16 (qround (e.h * 32767))) ++
  leBytes 2 (b2n e.uncertain + 2 * b2n e.hUnknown + 4 * b2n e.capDef + 8 * b2n c.balOn) ++
  leBytes 2 (ofSigned 16 (qround (e.tc * 100))) ++ leBytes 2 (min 65535 e.learns) ++ List.replicate 8 0

/-- A state image (Table 8-4). -/
def State.imageBytes (s : State) (n seq : Nat) (on : Bool) : List Byte :=
  let r := (s.g n).est
  let m := s.model n
  let b := leBytes 2 1 ++ leBytes 1 n ++ leBytes 1 (b2n on) ++ leBytes 2 (s.posCount n) ++ leBytes 2 0 ++ leBytes 4 seq ++
    leBytes 4 (s.getN (Gal.ESTIM_CFG.MODEL_CRC n)) ++ leBytes 8 s.now ++ leBytes 8 (if r.moving then 2 ^ 64 - 1 else r.restAt) ++
    List.replicate 32 0 ++ (List.range (s.posCount n)).flatMap (fun p => s.imagePos n p m)
  b ++ leBytes 4 (crc32c b)

/-- STATE_SAVE_DONE (R237, R238): the image is complete in the slot that does not hold the newest. -/
def execStateSaveDone (n : Nat) (s : State) : Out :=
  match (s.g n).est.saving with
  | some wasOn =>
    if s.hasGal n then
      let r := (s.g n).est
      let on := wasOn || s.energised n
      let im := s.imageBytes n r.saveSeq on
      let s := s.updNand (fun d => { d with images := SMap.put d.images (2 * n + r.saveSlot) im })
      let s := (s.inc (Gal.COUNTERS.STATE_SAVES n)).setN (Gal.ESTIM_STRING.LAST_SAVE n) s.now
      let s := if on then s else s.updVest (fun v => { v with sinceSave := withBit v.sinceSave n false })
      .next (s.updEst n (fun e => { e with saving := none, saveDue := none, saveDe := false, savedAt := s.root }))
    else .next s
  | none => .next s

/-- SAVE_FAILED (R238): no save has completed within SAVE_INTERVAL after one fell due. -/
def execSaveFailed (n : Nat) (s : State) : Out :=
  let r := (s.g n).est
  let iv := secTicks (s.getN (Gal.ESTIM_CFG.SAVE_INTERVAL n))
  let late := match r.saveDue with
    | some t => s.passed t iv
    | none => false
  if s.hasGal n && s.saveable n && (late || s.passed r.savedAt (2 * iv)) then .next (s.raise (Gal.FAULTS.ESTIM_FAULTS n) 5)
  else .next s

/-! ### Writes -/

/-- MODEL_SET (R224): an accepted set takes effect at the next model step; in a disabled string, which makes none, at once. -/
def modelSetEff (n : Nat) (v : Val) (s : State) : Except Nat State :=
  if modelSetOk v.toB then
    let t := s.updEst n (fun e => { e with setNext := some v.toB })
    .ok (if s.strOn n then t else t.installSet n)
  else .error abortRange

/-- MODEL_SET. -/
def execModelSet (path : Path) (n : Nat) (data : List Byte) (s : State) : Out :=
  .next (s.write path (0x4018 + 0x40 * n) 2 data (modelSetEff n))

/-- REPLACED (R234, R240): refused while the string is energised. -/
def replacedEff (n : Nat) (v : Val) (s : State) : Except Nat State :=
  if s.energised n then .error abortState
  else .ok ((s.updPos n v.toN (fun e => { e with why := e.why ++ [.replaced], learn := none })).updEst n (fun r => { r with
    saveDue := some (r.saveDue.getD s.root) }))

/-- REPLACED. -/
def execReplaced (path : Path) (n pos : Nat) (s : State) : Out :=
  .next (s.write path (0x401A + 0x40 * n) 0x0C (leBytes 2 pos) (replacedEff n))

end Sys2Proof.Machine
end

