-- ==== Sys2Proof/Machine/Thermal.lean ====
section
/-! DEFINITION. Temperature sweeps (R149, R150) and thermal management (chapter 9). -/
namespace Sys2Proof.Machine

/-! ### Readings (R250, R251) -/

/-- A reading of the wire: none for 0x8000, which is not a reading. -/
def readingOf (w : Nat) : Option Q := if w = 0x8000 then none else some ((toSigned 16 w : Q) / 100)
/-- Whether a reading is broken: open, short, or outside -40 to 125 degC (R251). -/
def brokenWord (w : Nat) : Bool :=
  decide (w = 0x7FFF) || decide (w = 0x8001) || (match readingOf w with
    | some t => decide (t < -40) || decide (125 < t)
    | none => false)

/-- The positions that thermistor `t` of the string covers (R250); none where it is ignored. -/
def State.thermPos (s : State) (n t : Nat) : List Nat :=
  let (first, count) := s.expected n (t / 8 + 1)
  let j := t % 8
  (if 2 * j < count then [first + 2 * j] else []) ++ (if 2 * j + 1 < count then [first + 2 * j + 1] else [])

/-- The thermistors of a string, one for each string index. -/
def State.therms (s : State) (n : Nat) : List Therm :=
  let k := 8 * s.nodeCount n
  ((s.g n).therm.therms ++ List.replicate k ({} : Therm)).take k

/-- Change a string's temperature state. -/
def State.updTherm (s : State) (n : Nat) (f : ThermRt → ThermRt) : State := s.updG n (fun g => { g with therm := f g.therm })

/-! ### Core temperatures and effective temperatures (R255) -/

/-- A position's core temperature where it is fresh. -/
def State.freshCore (s : State) (n p : Nat) : Option Q :=
  let c := s.cell n p
  match s.coreT n p with
  | some t =>
    if s.getQ (Gal.EXCITATION_CFG.Q_MIN n) ≤ c.coreQ ∧ s.aged c.coreAt ≤ secTicks (s.getN (Gal.THERMAL_CFG.CORE_MAX_AGE n)) then some t
    else none
  | none => none

/-- The higher of two that may be absent. -/
def optMax : Option Q → Option Q → Option Q
  | some a, some b => some (qmax a b)
  | some a, none => some a
  | none, b => b

/-- The highest value of a list, with the key that gives it (ties to the lower). -/
def bestOf : List (Nat × Q) → Option (Nat × Q)
  | [] => none
  | e :: l => match bestOf l with
    | some b => if e.2 < b.2 then some b else some e
    | none => some e

/-- The lowest value of a list, with the key that gives it (ties to the lower). -/
def leastOf (l : List (Nat × Q)) : Option (Nat × Q) := (bestOf (l.map (fun e => (e.1, -e.2)))).map (fun e => (e.1, -e.2))

/-- The higher fresh core temperature of some positions. -/
def State.coreOf (s : State) (n : Nat) (ps : List Nat) : Option Q := ps.foldl (fun a p => optMax a (s.freshCore n p)) none

/-- The effective temperature of a position. -/
def State.effTemp (s : State) (n p : Nat) : Option Q := optMax (s.cell n p).temp (s.freshCore n p)

/-! ### Broken and suspect sensors (R254, R256) -/

/-- The value of a thermistor's last reading, not broken. -/
def Therm.value (t : Therm) : Option Q := if t.known && !t.broken then readingOf t.raw else none
/-- The value where it is neither broken nor suspect. -/
def Therm.sound (t : Therm) : Option Q := if t.suspect then none else t.value

/-- The neighbours of a thermistor in the string. -/
def neighbours (l : List Therm) (t : Nat) : List Therm :=
  (if t = 0 then [] else (l[t - 1]?).toList) ++ (l[t + 1]?).toList

/-- Broken and suspect by the readings of a sweep; `used` are the thermistors that cover a position. A reading above its neighbours is
never suspect; else the suspicion ends after 10 successive sweeps without its condition, a broken reading being one without (R256). -/
def State.judge (s : State) (n : Nat) (l : List Therm) : List Therm :=
  let used := l.mapIdx (fun i t => if (s.thermPos n i).isEmpty then ({} : Therm) else { t with broken := brokenWord t.raw })
  let band := s.getQ (Gal.THERMAL_CFG.SUSPECT_BAND n)
  used.mapIdx (fun i t =>
    let away := if t.suspect then { t with suspect := decide (t.absent + 1 < 10), absent := t.absent + 1 } else t
    if !t.got then t
    else match t.value with
    | none => away
    | some v =>
      let adj := (neighbours used i).filterMap Therm.value
      let core := s.coreOf n (s.thermPos n i)
      let low := !adj.isEmpty && decide (v < qmaxD 0 adj - band) && (match core with
        | some c => decide (v < c - band)
        | none => true)
      if low then { t with suspect := true, absent := 0 }
      else if !adj.isEmpty && decide (qmaxD 0 adj < v) then { t with suspect := false, absent := 0 }
      else away)

/-- The chain of R254: the substitute of thermistor `i`, and whether it is the last resort. -/
def State.substitute (s : State) (n : Nat) (l : List Therm) (i : Nat) : Q × Bool :=
  let margin := s.getQ (Gal.THERMAL_CFG.NEIGHBOUR_MARGIN n)
  let adj := (neighbours l i).filterMap Therm.sound
  let core := s.coreOf n (s.thermPos n i)
  let any_ := l.filterMap Therm.value
  if !adj.isEmpty then ((match core with
    | some c => qmax (qmaxD 0 adj + margin) c
    | none => qmaxD 0 adj + margin), false)
  else match core with
    | some c => (c, false)
    | none => if any_.isEmpty then (200, true) else (qmaxD 0 any_ + margin, false)

/-! ### Rates of rise (R257, R258) -/

/-- The rate over a window of `w` seconds, in K/min. -/
def rateOver (hist : List (Nat × Q)) (t : Nat) (v : Q) (w : Nat) : Option Q :=
  match hist.find? (fun e => decide (e.1 + secTicks w ≤ t)) with
  | some e => some (60 * (v - e.2) / (((t - e.1 : Nat) : Q) / 312500000))
  | none => none

/-- A history without what no window can use any more. -/
def pruneHist (hist : List (Nat × Q)) (t : Nat) : List (Nat × Q) :=
  (hist.takeWhile (fun e => decide (t < e.1 + secTicks 60))) ++ (hist.find? (fun e => decide (e.1 + secTicks 60 ≤ t))).toList

/-- Whether a rate, where there is one, is at or above a level. -/
def atLeast (r : Option Q) (x : Q) : Bool := match r with
  | some v => decide (x ≤ v)
  | none => false

/-- A thermistor's rates after a sweep at plant time `t`; its history restarts when it is broken or suspect. -/
def Therm.rates (x : Therm) (t : Nat) (w10 w60 a10 a60 : Q) : Therm :=
  match x.sound with
  | none => { x with hist := [], r10 := none, r60 := none, warnRun := 0, alarmRun := 0 }
  | some v =>
    let r10 := rateOver x.hist t v 10
    let r60 := rateOver x.hist t v 60
    { x with
      hist := pruneHist ((t, v) :: x.hist) t, r10 := r10, r60 := r60
      warnRun := if atLeast r10 w10 || atLeast r60 w60 then x.warnRun + 1 else 0
      alarmRun := if atLeast r10 a10 || atLeast r60 a60 then x.alarmRun + 1 else 0 }

/-! ### The thermal stop request (R260) -/

/-- A cause of the thermal stop request arises or ends: bit 0 LEVEL, 1 RISE, 2 DIE. -/
def State.stopCause (s : State) (n bitNo : Nat) (on : Bool) : State :=
  let old := s.getN (Gal.THERMAL_STATUS.STOP_CAUSE n)
  if bit old bitNo == on then s
  else
    let new := withBit old bitNo on
    let s := s.setN (Gal.THERMAL_STATUS.STOP_CAUSE n) new
    let s := s.setFlag (Gal.THERMAL_STATUS.STATE n) 5 (decide (new ≠ 0))
    if on then
      let s := if old = 0 then (s.inc (Gal.COUNTERS.THERMAL_STOPS n)).raise (Gal.FAULTS.THERMAL_FAULTS n) 7 else s
      s.record 0x0203 1 n 1 [BitVec.ofNat 8 new, BitVec.ofNat 8 (2 ^ bitNo), if old = 0 then 0 else 1]
    else s

/-! ### Levels (Table 9-3) and the throttle (R253, R258, R259) -/

/-- A level state with hysteresis. -/
def hystState (was : Bool) (t level hyst : Q) : Bool := if was then !decide (t ≤ level - hyst) else decide (level ≤ t)

/-- One level of Table 9-3: state bit `i`, and its record on entry. -/
def State.level (s : State) (n i : Nat) (t lvl hyst : Q) : State :=
  let was := s.flag (Gal.THERMAL_STATUS.STATE n) i
  let now_ := hystState was t lvl hyst
  let s := s.setFlag (Gal.THERMAL_STATUS.STATE n) i now_
  if now_ && !was then s.record 0x0201 1 n 1 (leBytes 1 i ++ real4 (some t)) else s

/-- The cell throttle current. -/
def State.throttleSync (s : State) (n : Nat) : State :=
  let st := s.getN (Gal.THERMAL_STATUS.STATE n)
  let sh := s.getQ Obj.THERMAL_COMPAT.SHUTDOWN
  let th := s.getQ Obj.THERMAL_COMPAT.THROTTLE
  let f : Q := if bit st 2 then 0
    else if bit st 1 then qclamp 0 1 ((sh - s.getQ (Gal.THERMAL_STATUS.T_MAX n)) / (sh - th)) else 1
  s.setR (Gal.THERMAL_STATUS.THROTTLE_I n)
    (some (if bit st 4 || !(s.g n).therm.swept then 0 else s.getQ (Gal.CONV_CFG.I_ABS_MAX n) * f))

/-- The levels judged on the highest effective temperature (R259), after a sweep and at a new core temperature. -/
def State.levelEval (s : State) (n : Nat) : State :=
  if !(s.g n).therm.swept then s.throttleSync n
  else
    let eff := (List.range (s.posCount n)).filterMap (fun p => (s.effTemp n p).map (fun t => (p, t)))
    match bestOf eff, leastOf eff with
    | some hi, some lo =>
      let s := (s.setR (Gal.THERMAL_STATUS.T_MAX n) (some hi.2)).setN (Gal.THERMAL_STATUS.T_MAX_POS n) hi.1
      let s := s.setR (Gal.THERMAL_STATUS.T_MIN n) (some lo.2)
      let hy := s.getQ Obj.THERMAL_COMPAT.HYST
      let s := s.level n 0 hi.2 (s.getQ Obj.THERMAL_COMPAT.WARN) hy
      let s := s.level n 1 hi.2 (s.getQ Obj.THERMAL_COMPAT.THROTTLE) hy
      let s := s.level n 2 hi.2 (s.getQ Obj.THERMAL_COMPAT.SHUTDOWN) hy
      let s := s.stopCause n 0 (s.flag (Gal.THERMAL_STATUS.STATE n) 2)
      let gap := (List.range (s.posCount n)).any (fun p => match (s.cell n p).temp, s.freshCore n p with
        | some t, some c => decide (t + s.getQ (Gal.THERMAL_CFG.CORE_GAP_WARN n) < c)
        | _, _ => false)
      let s := s.setFlag (Gal.THERMAL_STATUS.STATE n) 6 gap
      let s := if gap then s.raise (Gal.FAULTS.THERMAL_FAULTS n) 4 else s
      s.throttleSync n
    | _, _ => s.throttleSync n

/-! ### RISE_WARN and RISE_ALARM (R258) -/

/-- RISE_WARN (bit 3) and RISE_ALARM (bit 4) after a sweep. -/
def State.riseEval (s : State) (n : Nat) : State :=
  let l := (s.g n).therm.therms
  let w10 := s.getQ (Gal.THERMAL_CFG.RISE_WARN_10S n)
  let w60 := s.getQ (Gal.THERMAL_CFG.RISE_WARN_60S n)
  let a10 := s.getQ (Gal.THERMAL_CFG.RISE_ALARM_10S n)
  let a60 := s.getQ (Gal.THERMAL_CFG.RISE_ALARM_60S n)
  let rated_ := l.any (fun t => t.r10.isSome || t.r60.isSome)
  let half := fun (x10 x60 : Q) => l.any (fun t => atLeast t.r10 (x10 / 2) || atLeast t.r60 (x60 / 2))
  let s := s.updTherm n (fun r => { r with
    warnAt := if half w10 w60 then s.root else r.warnAt, alarmAt := if half a10 a60 then s.root else r.alarmAt })
  let r := (s.g n).therm
  let warn := l.any (fun t => decide (2 ≤ t.warnRun))
  let s := if warn then (s.setFlag (Gal.THERMAL_STATUS.STATE n) 3 true).raise (Gal.FAULTS.THERMAL_FAULTS n) 5
    else if rated_ && s.passed r.warnAt (secTicks 60) then s.setFlag (Gal.THERMAL_STATUS.STATE n) 3 false
    else s
  let was := s.flag (Gal.THERMAL_STATUS.STATE n) 4
  let s := match (l.mapIdx (fun i t => (i, t))).find? (fun e => decide (2 ≤ e.2.alarmRun)) with
    | some e =>
      let s := (s.setFlag (Gal.THERMAL_STATUS.STATE n) 4 true).raise (Gal.FAULTS.THERMAL_FAULTS n) 6
      if was then s
      else
        let ten := atLeast e.2.r10 a10
        let s := (s.inc (Gal.COUNTERS.RISE_ALARMS n)).updTherm n (fun r => { r with alarmSince := some s.root })
        s.record 0x0200 1 n 1 (leBytes 2 e.1 ++ real4 (if ten then e.2.r10 else e.2.r60) ++ leBytes 1 (if ten then 10 else 60))
    | none =>
      if was && rated_ && s.passed r.alarmAt (secTicks 60) then
        ((s.setFlag (Gal.THERMAL_STATUS.STATE n) 4 false).updTherm n (fun r => { r with alarmSince := none })).stopCause n 1 false
      else s
  let best10 := bestOf ((l.mapIdx (fun i t => t.r10.map (fun r => (i, r)))).filterMap id)
  let best60 := bestOf ((l.mapIdx (fun i t => t.r60.map (fun r => (i, r)))).filterMap id)
  let s := (s.setR (Gal.THERMAL_STATUS.RISE_10S n) (best10.map (·.2))).setR (Gal.THERMAL_STATUS.RISE_60S n) (best60.map (·.2))
  let top := match best10, best60 with
    | some a, some b => some (if a.2 < b.2 then b.1 else a.1)
    | some a, none => some a.1
    | none, some b => some b.1
    | none, none => none
  s.setN (Gal.THERMAL_STATUS.RISE_POS n) (match top with
    | some i => (s.thermPos n i).headD 0xFFFF
    | none => 0xFFFF)

/-! ### Sweep intervals (Table 9-2) -/

/-- The interval of a row in ms. -/
def State.rowMs (s : State) (n row : Nat) : Nat :=
  if row = 1 then 10 else if row = 2 then 100 else s.getN (Gal.THERMAL_CFG.SWEEP_INTERVAL n)

/-- The interval in force (R252): a shorter one at once, a longer one after 10 s without the faster row's condition. -/
def State.intervalEval (s : State) (n : Nat) : State :=
  let hot := (List.range (s.posCount n)).any (fun p => match s.effTemp n p with
    | some t => decide (s.getQ Obj.THERMAL_COMPAT.WARN - 5 ≤ t)
    | none => false)
  let c1 := s.flag (Gal.THERMAL_STATUS.STATE n) 4
  let c2 := s.flag (Gal.THERMAL_STATUS.STATE n) 3 || hot
  let s := s.updTherm n (fun r =>
    let a1 := if c1 then none else some (r.absent1.getD s.root)
    let a2 := if c2 then none else some (r.absent2.getD s.root)
    let want := if c1 then 1 else if c2 then 2 else 3
    let long : Option Nat → Bool := fun a => match a with
      | some t => s.passed t (secTicks 10)
      | none => false
    let row := min r.row want
    let row := if row = 1 ∧ row < want ∧ long a1 = true then 2 else row
    let row := if row = 2 ∧ row < want ∧ long a2 = true then 3 else row
    { r with absent1 := a1, absent2 := a2, row := row })
  s.setN (Gal.THERMAL_STATUS.INTERVAL_NOW n) (s.rowMs n (s.g n).therm.row)

/-- SWEEP_INTERVAL_RELAX (R252). -/
def execSweepIntervalRelax (n : Nat) (s : State) : Out :=
  if s.hasGal n && s.strOn n then .next (s.intervalEval n) else .next s

/-! ### Sweeps (R149, R150) -/

/-- The temperatures of monitor `i`, as they arrive with TEMP_VALID. -/
def State.takeTemps (s : State) (n i : Nat) (words : List Nat) (tick : Nat) : State :=
  let l := s.therms n
  let s := s.updTherm n (fun r => { r with
    therms := l.mapIdx (fun t x =>
      if t / 8 + 1 = i then
        let w := words.getD (t % 8) 0x8000
        if w = 0x8000 then x else { x with raw := w, known := true, got := true }
      else x) })
  let s := (List.range' (8 * (i - 1)) 8).foldl (fun s t =>
    (s.thermPos n t).foldl (fun s p => s.updCell n p (fun c => { c with tempAt := tick })) s) s
  s.updBal n (fun b => { b with sweepGot := i :: b.sweepGot })

/-- A sweep is complete: substitutes, rates, levels, intervals (R252 to R259). -/
def State.sweepEval (s : State) (n tick : Nat) : State :=
  let s := (s.inc (Gal.COUNTERS.SWEEPS n)).setN (Gal.THERMAL_STATUS.LAST_SWEEP n) tick
  let l := s.judge n (s.therms n)
  let w10 := s.getQ (Gal.THERMAL_CFG.RISE_WARN_10S n)
  let w60 := s.getQ (Gal.THERMAL_CFG.RISE_WARN_60S n)
  let a10 := s.getQ (Gal.THERMAL_CFG.RISE_ALARM_10S n)
  let a60 := s.getQ (Gal.THERMAL_CFG.RISE_ALARM_60S n)
  let l := l.map (fun t => { (if t.got || t.sound.isNone then t.rates tick w10 w60 a10 a60 else t) with got := false })
  let s := s.updTherm n (fun r => { r with therms := l, swept := true })
  let s := (l.mapIdx (fun i t => (i, t))).foldl (fun s e =>
    let (i, t) := e
    if !t.known || (s.thermPos n i).isEmpty then s
    else
      let sub := t.broken || t.suspect
      let (v, last) := if sub then s.substitute n l i else ((t.value).getD 0, false)
      let s := if t.broken then s.raise (Gal.FAULTS.THERMAL_FAULTS n) 0 else s
      let s := if t.suspect then s.raise (Gal.FAULTS.THERMAL_FAULTS n) 1 else s
      let s := if last then s.raise (Gal.FAULTS.THERMAL_FAULTS n) 2 else s
      (s.thermPos n i).foldl (fun s p => s.updCell n p (fun c => { c with temp := some v, subst := sub })) s) s
  let s := s.setN (Gal.THERMAL_STATUS.SUBSTITUTES n) ((s.g n).cells.filter (·.subst)).length
  let s := ((s.riseEval n).levelEval n).intervalEval n
  s.updBal n (fun b => { b with sweepOut := false, sweepAns := none, sweepGot := [] })

/-- SWEEP_DUE (R150, R252): a sweep falls due by the interval in force; it goes out as a broadcast, or is skipped while results are
awaited. -/
def execSweepDue (n : Nat) (s : State) : Out :=
  let b := (s.g n).bal
  if s.hasGal n && s.trunkUp n && s.claims n &&
      (b.sweepFirst || s.passed b.sweepAt (msTicks (s.getN (Gal.THERMAL_STATUS.INTERVAL_NOW n)))) then
    let s := s.updBal n (fun b => { b with sweepAt := s.root, sweepFirst := false })
    if b.sweepOut then .next (s.inc (Gal.COUNTERS.SWEEP_LATE n))
    else .next ((s.updBal n (fun b => { b with sweepOut := true, sweepAns := none, sweepGot := [], sweepDueAt := s.root })).sendCmd n 5 0xFF [0xFF])
  else .next s

/-- SWEEP_MISSING (R150): no slot has shown TEMP_VALID within 12 superframes of the response. -/
def execSweepMissing (n : Nat) (s : State) : Out :=
  let b := (s.g n).bal
  match b.sweepAns with
  | some k =>
    if s.hasGal n && b.sweepOut && b.sweepGot.isEmpty && decide (12 ≤ k) then
      .next ((s.raise (Gal.FAULTS.SAMPLE_FAULTS n) 4).updBal n (fun b => { b with sweepOut := false, sweepAns := none }))
    else .next s
  | none => .next s

/-- The sweep results of a superframe: `slots` are the slots that show TEMP_VALID, with their words (R149). -/
def State.sweepFrame (s : State) (n tick : Nat) (slots : List (Nat × List Nat)) : State :=
  let b := (s.g n).bal
  if !b.sweepOut && (s.claims n || slots.isEmpty) then s
  else
    let s := if b.sweepOut then s else s.updBal n (fun b => { b with sweepOut := true, sweepAns := some 0, sweepGot := [] })
    let s := slots.foldl (fun s e => if (s.g n).bal.sweepGot.contains e.1 then s else s.takeTemps n e.1 e.2 tick) s
    let s := s.updBal n (fun b => { b with sweepAns := if b.sweepRsp then b.sweepAns else b.sweepAns.map (· + 1), sweepRsp := false })
    let b := (s.g n).bal
    let all_ := decide (0 < s.nodeCount n) && (List.range' 1 (s.nodeCount n)).all (fun i => b.sweepGot.contains i)
    let late := match b.sweepAns with
      | some k => decide (12 ≤ k) && !b.sweepGot.isEmpty
      | none => false
    if all_ || late then s.sweepEval n tick else s

/-- RISE_STOP_TIME (R258): RISE_ALARM has stood for RISE_STOP_TIME. -/
def execRiseStopTime (n : Nat) (s : State) : Out :=
  match (s.g n).therm.alarmSince with
  | some t =>
    if s.hasGal n && s.flag (Gal.THERMAL_STATUS.STATE n) 4 && s.passed t (secTicks (s.getN (Gal.THERMAL_CFG.RISE_STOP_TIME n))) then
      .next (s.stopCause n 1 true)
    else .next s
  | none => .next s

/-! ### Sparse sensors and the dies (R262, R263) -/

/-- T_hs of R191 from HEAD_T[0] and HEAD_T[1]: none while both are not measured; a broken heat sink reads 200. -/
def hsReading (words : List Nat) : Option Q × Bool :=
  let one := fun (i : Nat) =>
    let w := words.getD i 0x8000
    if w = 0x8000 then none else if brokenWord w then some 200 else readingOf w
  (optMax (one 0) (one 1), brokenWord (words.getD 0 0x8000) || brokenWord (words.getD 1 0x8000))

/-- A die sensor (R251). -/
def dieBroken (t : Option Q) : Bool := match t with
  | some v => decide (v < -55) || decide (150 < v)
  | none => true

/-- The temperature of a die: the higher of its two sensors, a broken one reading 200 (R262). -/
def dieTemp (ts : List (Option Q)) (d : Nat) : Q :=
  let one := fun (i : Nat) => let t := ts.getD i none; if dieBroken t then 200 else t.getD 0
  qmax (one (2 * d)) (one (2 * d + 1))

/-- g of a die (R263). -/
def State.dieFactor (s : State) (levels : Nat) (t : Q) : Q :=
  let sh := s.getQ Obj.MODULE_THERMAL.DIE_SHUT
  let th := s.getQ Obj.MODULE_THERMAL.DIE_THROTTLE
  if bit levels 1 || bit levels 2 then qclamp (s.getQ Obj.MODULE_THERMAL.RATE_FLOOR) 1 ((sh - t) / (sh - th)) else 1

/-- DIE_TEMPERATURE_READ (R263): the eight sensors, C0, C1, I/O and NAND; none is a sensor that gives no value. -/
def execDieTemperatureRead (temps : List (Option Q)) (s : State) : Out :=
  let t := (List.range 4).map (dieTemp temps)
  let s := s.setN Obj.MODULE_THERMAL.DIE_SENSORS (maskOf 8 (fun i => dieBroken (temps.getD i none)))
  let s := if (List.range 8).any (fun i => dieBroken (temps.getD i none)) then s.raise Obj.MODULE_THERMAL.FLAGS 3 else s
  let s := (List.range 4).foldl (fun s d => s.setR (Obj.MODULE_THERMAL.DIE_T_C0 + d) (some (t.getD d 0))) s
  let hy := s.getQ Obj.MODULE_THERMAL.DIE_HYST
  let lv := s.dies.mapIdx (fun d w =>
    let x := t.getD d 0
    b2n (hystState (bit w 0) x (s.getQ Obj.MODULE_THERMAL.DIE_WARN) hy) +
    2 * b2n (hystState (bit w 1) x (s.getQ Obj.MODULE_THERMAL.DIE_THROTTLE) hy) +
    4 * b2n (hystState (bit w 2) x (s.getQ Obj.MODULE_THERMAL.DIE_SHUT) hy))
  let s := { s with dies := lv }
  let s := (List.range 3).foldl (fun s i => if lv.any (fun w => bit w i) then s.raise Obj.MODULE_THERMAL.FLAGS i else s) s
  let g := fun (d : Nat) => s.dieFactor (lv.getD d 0) (t.getD d 0)
  let s := s.setR Obj.MODULE_THERMAL.RATE_DIE0 (some (qmin (g 0) (qmin (g 2) (g 3))))
  let s := s.setR Obj.MODULE_THERMAL.RATE_DIE1 (some (qmin (g 1) (qmin (g 2) (g 3))))
  let shut := lv.any (fun w => bit w 2)
  .next (s.forGal (fun n s => s.stopCause n 2 (s.strOn n && shut)))

/-- The room temperature from its channel (R262): none where the channel's sensor is broken. -/
def State.roomRead (s : State) (t : Option Q) : State :=
  let v := t.getD 200
  let s := s.setR Obj.MODULE_THERMAL.ROOM_T (some v)
  let s := if t.isNone then (s.raise Obj.MODULE_THERMAL.FLAGS 5).raise Obj.MODULE_THERMAL.FLAGS 4 else s
  if s.getQ Obj.MODULE_THERMAL.ROOM_WARN ≤ v then s.raise Obj.MODULE_THERMAL.FLAGS 4 else s

end Sys2Proof.Machine
end

