-- ==== Sys2Proof/Machine/Spectrum.lean ====
section
/-! DEFINITION. In-service impedance spectroscopy (chapter 7): the multisine, Table 7-4, windows, demodulation, results, archive. -/
namespace Sys2Proof.Machine

/-! ### The multisine (R199, R200) -/

/-- The window length N in superframes. -/
def ExcSet.size (x : ExcSet) : Nat := 2 ^ x.m
/-- The sum of the squared weights. -/
def ExcSet.power (x : ExcSet) : Q := qsum (x.tones.map (fun t => ((t.2 * t.2 : Nat) : Q)))
/-- The Schroeder phase of tone `t` (from 1), in turns. -/
def ExcSet.phase (x : ExcSet) (t : Nat) : Q :=
  -qsum ((x.tones.take (t - 1)).mapIdx (fun (i : Nat) y => ((t - (i + 1) : Nat) : Q) * (((y.2 * y.2 : Nat) : Q) / x.power)))
/-- The 32-bit phase accumulator of tone `t` (from 1) at an excitation index: it starts at the phase and steps by h x 2^32 / N. -/
def ExcSet.accum (x : ExcSet) (t h i : Nat) : Nat :=
  ((qround (x.phase t * ((2 ^ 32 : Nat) : Q)) + ((h * (2 ^ 32 / x.size) * i : Nat) : Int)) % ((2 ^ 32 : Nat) : Int)).toNat
/-- The cosine table at a phase: 16-bit entries, addressed by the 16 leading bits of the accumulator. -/
def cosEntry (acc : Nat) : Int := cos16 (acc / 2 ^ 16) (2 ^ 16)
/-- s(i): the multisine at an excitation index. -/
def ExcSet.sine (x : ExcSet) (i : Nat) : Q :=
  ((x.tones.mapIdx (fun (j : Nat) y => ((y.2 : Nat) : Int) * cosEntry (x.accum (j + 1) y.1 i))).foldl (· + ·) 0 : Int) / (32767 : Q)
/-- S_pk, the largest |s| over the period. -/
def ExcSet.peak (x : ExcSet) : Q := (List.range x.size).foldl (fun m i => qmax m (qabs (x.sine i))) 0
/-- CREST: S_pk over the effective value of the tones; none without tones. -/
def ExcSet.crest (x : ExcSet) : Option Q := if x.tones.isEmpty then none else some (x.spk / qsqrt (x.power / 2))
/-- ex at an index for an amplitude A. -/
def ExcSet.ex (x : ExcSet) (a : Q) (i : Nat) : Q :=
  if x.spk = 0 then 0 else (if x.invert then -1 else 1) * a * x.sine i / x.spk
/-- The sum of ex over the indices from `i` up to, not including, `j`. -/
def ExcSet.exSum (x : ExcSet) (a : Q) (i j : Nat) : Q := qsum ((List.range' i (j - i)).map (x.ex a))
/-- A_t: the amplitude that tone `t` (from 0) is commanded with. -/
def ExcSet.toneAmp (x : ExcSet) (a : Q) (t : Nat) : Q :=
  if x.spk = 0 then 0 else a * ((((x.tones.getD t (0, 0)).2 : Nat) : Q)) / x.spk

/-! ### The state of Table 7-4 -/

/-- STATE. -/
def State.specSt (s : State) (n : Nat) : Nat := s.getN (Gal.SPECTRUM_STATUS.STATE n)
/-- Change a string's spectroscopy. -/
def State.updSpec (s : State) (n : Nat) (f : SpecRt → SpecRt) : State := s.updG n (fun g => { g with spec := f g.spec })
/-- The applied set. -/
def State.excSet (s : State) (n : Nat) : ExcSet :=
  (s.g n).spec.applied.getD { m := 0, tones := [], amp := 0, invert := false, core := 0, lo := 0, hi := 0 }
/-- A of the applied set as it would be at an admission (R200). -/
def State.ampNow (s : State) (n : Nat) : Q := (s.excSet n).amp * s.getQ (Gal.CONV_CFG.I_ABS_MAX n)
/-- A at the last admission. -/
def State.ampRun (s : State) (n : Nat) : Q := s.getQ (Gal.SPECTRUM_STATUS.A_APPLIED n)
/-- Whether excitation is enabled: ENABLE is 1 and the applied TONE_COUNT above 0 (R205). -/
def State.specOn (s : State) (n : Nat) : Bool := decide (s.getN (Gal.EXCITATION_CFG.ENABLE n) = 1) && !(s.excSet n).tones.isEmpty

/-- A charge that is not paid back (R206), as signed absolute current times 32 us. -/
def State.residual (s : State) (n : Nat) (sum : Q) (dir : Int) : State :=
  s.setR (Gal.SPECTRUM_STATUS.RESIDUAL_CHARGE n) (some (s.getQ (Gal.SPECTRUM_STATUS.RESIDUAL_CHARGE n) + (dir : Q) * sum * 32 / 1000000))

/-- The unplayed part of a period is dropped (R206); nothing where none is pending. -/
def State.dropPending (s : State) (n from_ : Nat) (dir : Int) : State :=
  if from_ = 0xFFFFFFFF then s
  else
  let x := s.excSet n
  let s := (s.residual n (x.exSum (s.ampRun n) from_ x.size) dir).raise (Gal.FAULTS.SPECTRUM_FAULTS n) 2
  s.setN (Gal.SPECTRUM_STATUS.PENDING_INDEX n) 0xFFFFFFFF

/-- A window that began under a set that is no longer the applied one (R201: it completes with the old set). -/
def WinRt.ofOld (y : WinRt) (first : Bool) : WinRt := if y.old then y else { y with old := true, first := first }

/-- A computed set takes effect (R201, R213, R216). -/
def State.takeSet (s : State) (n : Nat) (x : ExcSet) : State :=
  let s := s.updG n (fun g => { g with
    spec := { g.spec with
      applied := some x, waitSet := none, fresh := true, wins := g.spec.wins.map (fun y => y.ofOld g.spec.fresh)
      pub := g.spec.pub.map (fun p => { p with win := p.win.ofOld p.first }) }
    cells := g.cells.map (fun c => { c with base := none, drops := 0 }) })
  let s := (s.setN (Gal.SPECTRUM_STATUS.M_APPLIED n) x.m).setN (Gal.SPECTRUM_STATUS.TONES_APPLIED n) x.tones.length
  let s := s.setR (Gal.SPECTRUM_STATUS.CREST n) x.crest
  let s := s.setR (Gal.SPECTRUM_STATUS.BASE_FREQ n) (some (31250 / ((x.size : Nat) : Q)))
  if s.getN (Gal.SPECTRUM_STATUS.APPLY_STATE n) = 1 ∧ (s.g n).spec.compSet.isSome then s
  else s.setN (Gal.SPECTRUM_STATUS.APPLY_STATE n) 3

/-- The set that waits, where one does. -/
def State.takeWaiting (s : State) (n : Nat) : State := match (s.g n).spec.waitSet with
  | some x => s.takeSet n x
  | none => s

/-- Change the window that began last, unless it is of a set no longer applied. -/
def State.updWin (s : State) (n : Nat) (f : WinRt → WinRt) : State :=
  s.updSpec n (fun r => { r with wins := modAt r.wins (r.wins.length - 1) (fun x => if x.old then x else f x) })

/-- Excitation goes OFF: the converter enters OFF, or BLOCK_CTRL re-initialises the tile. A set that waits takes effect (R201). -/
def State.specOff (s : State) (n : Nat) : State :=
  let st := s.specSt n
  let sp := (s.g n).spec
  let s := if (st = 2 ∨ st = 3) ∧ sp.n ≠ 0 then s.dropPending n sp.n (s.getI (Gal.LOOP_STATUS.DIRECTION n))
    else if st = 5 then s.dropPending n sp.n sp.pauseDir
    else if st = 4 then s.dropPending n (s.getN (Gal.SPECTRUM_STATUS.PENDING_INDEX n)) sp.pauseDir
    else s
  let s := if st = 2 ∨ st = 3 then s.updWin n (fun y => { y with reasons := y.reasons ||| 1 }) else s
  let s := (s.setN (Gal.SPECTRUM_STATUS.STATE n) 0).setR (Gal.LOOP_STATUS.RESERVED n) (some 0)
  (s.updSpec n (fun r => { r with a := 0, ex := 0, heldEx := 0, cleanI := [] })).takeWaiting n

/-- A window starts: kind 0 suspended, with its reasons; 1 priming; 2 measured. -/
def State.newWin (s : State) (n w kind reasons : Nat) (iSel : Q) : State :=
  let win : WinRt := { w := w, kind := kind, set := s.excSet n, reasons := reasons, iLo := some iSel, iHi := some iSel, amp := s.ampRun n,
                       dir := s.getI (Gal.LOOP_STATUS.DIRECTION n) }
  let s := s.updSpec n (fun r => { r with wins := r.wins ++ [win] })
  if kind = 0 then s.inc (Gal.COUNTERS.WINDOWS_SUSPENDED n) else s

/-- I_sel of a step that commands a window (Table 7-6, DRIFT). -/
def State.winSel (s : State) (n : Nat) (iSel : Q) : State :=
  s.updWin n (fun x => { x with
    iLo := some (match x.iLo with | some y => qmin y iSel | none => iSel)
    iHi := some (match x.iHi with | some y => qmax y iSel | none => iSel) })

/-- a(k), ex(k) and the next index of a step with excitation. -/
def State.excite (s : State) (n : Nat) (a ex : Q) (next : Nat) : State :=
  (s.updSpec n (fun r => { r with a := a, ex := ex, heldEx := ex, n := next, cleanI := [] })).setR (Gal.LOOP_STATUS.RESERVED n) (some a)

/-- A pause: pending index, sign, and the discarded window (Table 7-4). -/
def State.pauseExc (s : State) (n pending reasons : Nat) : State :=
  let s := (s.setN (Gal.SPECTRUM_STATUS.STATE n) 4).setN (Gal.SPECTRUM_STATUS.PENDING_INDEX n) pending
  let s := (s.inc (Gal.COUNTERS.PAUSES n)).updSpec n (fun r => { r with pauseDir := s.getI (Gal.LOOP_STATUS.DIRECTION n) })
  s.updWin n (fun x => { x with reasons := x.reasons ||| reasons })

/-- Plant time has stepped while index `i` was the next: TIME_STEP, and the rest of the period is dropped (R206). -/
def State.timeStepped (s : State) (n i : Nat) (dir : Int) : State :=
  ((s.dropPending n i dir).raise (Gal.FAULTS.SPECTRUM_FAULTS n) 3).updWin n (fun y => { y with reasons := y.reasons ||| 1024 })

/-- The stop conditions of Table 7-2 but for those on A: NOT_RUNNING, REF_CLAMP, STALE. -/
def stopBase (running clamped stale : Bool) : Nat := b2n (!running) + 4 * b2n clamped + 8 * b2n stale
/-- HEADROOM and NO_AMPLITUDE of Table 7-2, for an amplitude. -/
def stopAmp (amp iSel : Q) : Nat := 2 * b2n (decide (iSel < 2 * amp)) + 128 * b2n (decide (amp = 0))
/-- ADMIT (R204): 32 successive steps without a stop condition at the amplitude that would run. -/
def mayExcite (amp : Q) (iSels : List Q) : Bool :=
  decide (32 ≤ iSels.length) && iSels.all (fun i => decide (stopAmp amp i = 0))

/-- BALANCING at index `i` (R206): the value at it, and once index N - 1 is sent WAITING with nothing pending. -/
def State.balanceExc (s : State) (n i : Nat) (amp ex : Q) : State :=
  let s := s.excite n amp ex (i + 1)
  if i + 1 = (s.excSet n).size then
    ((s.setN (Gal.SPECTRUM_STATUS.STATE n) 1).setN (Gal.SPECTRUM_STATUS.PENDING_INDEX n) 0xFFFFFFFF).takeWaiting n
  else s.setN (Gal.SPECTRUM_STATUS.STATE n) 5

/-- The excitation state machine in step k (R203 to R206): `grid` is G(k + 3), `off` that the converter is OFF, `repeats` that the step
repeats the references sent last, `clamped` whether a demand would clamp some reference. -/
def State.specStep (s : State) (n grid : Nat) (iSel : Q) (running stale off repeats : Bool) (clamped : Q → Bool) : State :=
  let x := s.excSet n
  let size := x.size
  let sp := (s.g n).spec
  let st := s.specSt n
  let live := decide (st = 2) || decide (st = 3) || decide (st = 5)
  let amp := if live || decide (st = 4) then s.ampRun n else s.ampNow n
  let dir := s.getI (Gal.LOOP_STATUS.DIRECTION n)
  let sgn : Q := if dir = sp.pauseDir then 1 else -1
  let exAt := fun (i : Nat) => if st = 2 ∨ st = 3 then x.ex amp i else sgn * x.ex amp i
  let demand := if live then iSel - amp + exAt sp.n else iSel
  let base := stopBase running (clamped demand) stale
  let stops := base + stopAmp amp iSel
  let cleanI := if base = 0 ∧ live = false then (iSel :: sp.cleanI).take 32 else []
  let allow := mayExcite amp cleanI
  let boundary := decide (grid % size = 0)
  let w := grid / size
  let past := (cleanI.map (stopAmp amp)).foldl (· ||| ·) 0
  let why := if stops ≠ 0 then stops else if past ≠ 0 then past else sp.lastStop
  let carried := sp.heldEx
  let s := s.updSpec n (fun r => { r with
    a := 0, ex := 0, cleanI := cleanI, lastStop := if stops ≠ 0 then stops else r.lastStop })
  let s := s.setR (Gal.LOOP_STATUS.RESERVED n) (some 0)
  let s := if repeats then s.residual n carried dir else s.updSpec n (fun r => { r with heldEx := 0 })
  let goSt := fun (s : State) (k : Nat) => s.setN (Gal.SPECTRUM_STATUS.STATE n) k
  if st = 0 then (if s.specOn n && !off then goSt s 1 else s)
  else if off then s.specOff n
  else if st = 1 then
    if !s.specOn n then (if sp.wins.any (fun y => decide (y.kind ≠ 0)) then s else goSt s 0)
    else if !boundary then s
    else if allow then
      let s := (goSt s 2).setR (Gal.SPECTRUM_STATUS.A_APPLIED n) (some amp)
      (s.newWin n w 1 0 iSel).excite n amp (x.ex amp 0) (1 % size)
    else s.newWin n w 0 why iSel
  else if st = 2 ∨ st = 3 then
    if stops ≠ 0 then
      if sp.n = 0 then ((goSt s 1).newWin n w 0 stops iSel).takeWaiting n
      else s.pauseExc n sp.n stops
    else if boundary then
      let s := if sp.n = 0 then s else s.timeStepped n sp.n dir
      if s.specOn n && sp.waitSet.isNone then ((goSt s 3).newWin n w 2 0 iSel).excite n amp (exAt 0) (1 % size)
      else (goSt s 1).takeWaiting n
    else if sp.n ≠ grid % size then (s.pauseExc n sp.n 1024).timeStepped n sp.n dir
    else (s.winSel n iSel).excite n amp (exAt sp.n) ((sp.n + 1) % size)
  else
    let pend := s.getN (Gal.SPECTRUM_STATUS.PENDING_INDEX n)
    if st = 4 ∧ (s.specOn n = false ∨ sp.waitSet.isSome = true) then (goSt (s.dropPending n pend sp.pauseDir) 1).takeWaiting n
    else
      let s := if boundary then s.newWin n w 0 256 iSel else s
      if st = 4 then
        if !allow then s else if pend = 0xFFFFFFFF then goSt s 1 else s.balanceExc n pend amp (exAt pend)
      else if stops ≠ 0 then (goSt s 4).setN (Gal.SPECTRUM_STATUS.PENDING_INDEX n) sp.n
      else s.balanceExc n sp.n amp (exAt sp.n)

/-! ### Windows and demodulation (R208 to R211) -/

/-- c_t and s_t of R210 at an index. -/
def tonePhase (size h i : Nat) : Int × Int :=
  (cos16 (h * i) size, sin16 (h * i) size)

/-- One sample added to accumulators. -/
def addSample (x : ExcSet) (i : Nat) (acc : List (Int × Int)) (v : Int) : List (Int × Int) :=
  x.tones.mapIdx (fun t y =>
    let p := tonePhase x.size y.1 i
    let o := acc.getD t (0, 0)
    (o.1 + v * p.1, o.2 - v * p.2))

/-- K of R212. -/
def ExcSet.scale (x : ExcSet) : Q := ((x.size : Nat) : Q) * 32767 / 2
/-- |I_t| squared, in mA squared, of tone `t` of the current accumulators. -/
def ExcSet.iSquare (x : ExcSet) (acc : List (Int × Int)) (t : Nat) : Q :=
  let p := acc.getD t (0, 0)
  ((p.1 * p.1 + p.2 * p.2 : Int) : Q) / (x.scale * x.scale)

/-- The end of a window (R208, R209). -/
def State.winEnd (s : State) (n : Nat) (win : WinRt) (lastTick : Nat) : State :=
  let x := win.set
  let s := s.updSpec n (fun r => { r with wins := r.wins.filter (fun y => !(decide (y.w = win.w) && decide (y.old = win.old))) })
  let s := s.setN (Gal.SPECTRUM_STATUS.LAST_WINDOW_TICK n) win.tick
  let all_ := fun (s : State) => s.updG n (fun g => { g with cells := g.cells.map (fun c => { c with discarded := true, okOld := false }) })
  let done := fun (s : State) (res why acc : Nat) =>
    ((s.setN (Gal.SPECTRUM_STATUS.LAST_RESULT n) res).setN (Gal.SPECTRUM_STATUS.LAST_REASON n) why).setN
      (Gal.SPECTRUM_STATUS.POSITIONS_ACCEPTED n) acc
  if win.kind = 0 then done (all_ s) 3 win.reasons 0
  else if win.kind = 1 ∧ win.reasons = 0 then done s 4 0 0
  else
    let drift := match win.iLo, win.iHi with
      | some a, some b => decide (s.getQ (Gal.EXCITATION_CFG.I_DRIFT n) * win.amp < b - a)
      | _, _ => false
    let weak := (List.range x.tones.length).any (fun t =>
      let lim := 100 * x.toneAmp win.amp t
      decide (x.iSquare win.acc t < lim * lim))
    let why := win.reasons ||| (64 * b2n drift) ||| (512 * b2n weak)
    if win.kind = 1 then done s 4 win.reasons 0
    else if why ≠ 0 then done ((all_ s).inc (Gal.COUNTERS.WINDOWS_DISCARDED n)) 2 why 0
    else
      let s := s.updG n (fun g => { g with
        cells := g.cells.map (fun c => { c with accOld := c.acc, okOld := !c.excl, discarded := c.excl }) })
      let k := ((s.g n).cells.filter (·.okOld)).length
      if k = 0 then done (s.inc (Gal.COUNTERS.WINDOWS_DISCARDED n)) 2 0 0
      else
        let first := if win.old then win.first else (s.g n).spec.fresh
        let p : PubWin := { set := x, win := win, lastTick := lastTick, first := first }
        (done (s.inc (Gal.COUNTERS.WINDOWS_ACCEPTED n)) 1 0 k).updSpec n (fun r => { r with
          pub := some p, fresh := if win.old then r.fresh else false })

/-- Whether a switch test of a position or of a neighbour runs (Table 5-7). -/
def State.testing (s : State) (n p : Nat) : Bool :=
  let b := (s.g n).bal
  decide (b.phase ≠ .idle) && (decide (b.pos = p) || decide (b.pos + 1 = p) || decide (p + 1 = b.pos))

/-- Whether a window runs at a grid index, and whether it has run out before it. -/
def WinRt.runs (y : WinRt) (grid : Nat) : Bool := decide (y.w * y.set.size ≤ grid) && decide (grid < (y.w + 1) * y.set.size)
/-- One sample of the current enters a window (R210), with the reasons that a superframe gives (Table 7-6). -/
def WinRt.sample (y : WinRt) (grid tick : Nat) (iS : Int) (hasI align : Bool) : WinRt :=
  let i := grid - y.w * y.set.size
  let y := if i = 0 then { y with tick := tick, acc := [] } else y
  { y with
    acc := if hasI then addSample y.set i y.acc iS else y.acc
    reasons := y.reasons ||| (if y.kind = 0 then 0 else (16 * b2n align) ||| (32 * b2n (!hasI))) }

/-- The samples of a superframe enter the bank of the current and of every position (R210); at the first one the bank is zeroed. -/
def State.accumulate (s : State) (n grid tick : Nat) (hasI hasV align : Bool) : State :=
  match ((s.g n).spec.wins.filter (fun y => y.runs grid)).getLast? with
  | none => s
  | some y =>
    let x := y.set
    let i := grid - y.w * x.size
    let s := if i = 0 then
        s.updG n (fun g => { g with
          cells := g.cells.map (fun c => { c with acc := [], excl := false, accBal := c.balClosed }) })
      else s
    let iS := qround ((s.g n).meas.shunt * 1000)
    let s := s.updSpec n (fun r => { r with
      wins := r.wins.map (fun y => if y.runs grid then y.sample grid tick iS hasI align else y) })
    let out := (s.g n).cells.mapIdx (fun p c => !hasV || c.v.isNone || c.settling || (c.balClosed != c.accBal) || s.testing n p)
    s.updG n (fun g => { g with
      cells := g.cells.mapIdx (fun p c =>
        let bad := out.getD p true
        { c with
          acc := if bad then c.acc else addSample x i c.acc (qround ((c.v.getD 0) * 1000000))
          excl := c.excl || bad, accBal := c.balClosed }) })

/-- Superframe k at the demodulator (R210, R211). `hasI` is whether SHUNT_I has a value, `hasV` whether the superframe has come. A window
that was in progress when a set took effect goes on with its own (R201). In OFF nothing is accumulated; a window that had begun before
still ends. -/
def State.demodulate (s : State) (n grid tick : Nat) (hasI hasV align : Bool) : State :=
  let s := if s.coreMismatch n then s.raise (Gal.FAULTS.SPECTRUM_FAULTS n) 0 else s
  -- windows that ended without their last sample
  let s := ((s.g n).spec.wins.filter (fun y => decide ((y.w + 1) * y.set.size ≤ grid))).foldl (fun s y =>
    s.winEnd n { y with reasons := y.reasons ||| (if y.kind = 0 then 0 else 32) } tick) s
  let s := if s.specSt n = 0 then s else s.accumulate n grid tick hasI hasV align
  ((s.g n).spec.wins.filter (fun y => decide (grid + 1 = (y.w + 1) * y.set.size))).foldl (fun s y => s.winEnd n y tick) s

/-! ### Results (R212 to R217) -/

/-- Z_t in milliohm from the accumulators: -V_t / I_t. -/
def zOf (v i : Int × Int) : Q × Q :=
  let d : Q := ((i.1 * i.1 + i.2 * i.2 : Int) : Q)
  (-(((v.1 * i.1 + v.2 * i.2 : Int) : Q)) / d, -(((v.2 * i.1 - v.1 * i.2 : Int) : Q)) / d)

/-- The magnitude of a complex value. -/
def cabs (z : Q × Q) : Q := qsqrt (z.1 * z.1 + z.2 * z.2)

/-- The core temperature of an accepted position (R214, R215). -/
def State.coreEval (s : State) (n p : Nat) (x : ExcSet) (tick : Nat) : State :=
  let c := s.cell n p
  let pts := s.getN (Gal.EXCITATION_CFG.CAL_POINTS n)
  let f : Q := (((x.tones.getD (x.core - 1) (0, 0)).1 : Nat) : Q) * 31250 / ((x.size : Nat) : Q)
  let cal := s.getQ (Gal.EXCITATION_CFG.CAL_FREQ n)
  let none_ := fun (s : State) => s.updCell n p (fun c => { c with core := none, coreQ := 0, coreAt := tick })
  if x.core = 0 ∨ pts < 2 then none_ s
  else if cal / 100 < qabs (f - cal) then none_ (s.raise (Gal.FAULTS.SPECTRUM_FAULTS n) 0)
  else
    let z := c.z.getD (x.core - 1) (0, 0, 0)
    if z.2.2 < s.getQ (Gal.EXCITATION_CFG.Q_MIN n) ∨ !c.est.ready then s
    else
      let th := (if z.1 = 0 ∧ z.2.1 = 0 then Config.angleOfZero else qatan2 z.2.1 z.1) - s.getQ (Gal.EXCITATION_CFG.K_SOC n) * (c.est.soc - 1 / 2)
      let tab := (List.range' 1 pts).map (fun i => (s.getQ (Gal.EXCITATION_CFG.CAL_THETA n i), s.getQ (Gal.EXCITATION_CFG.CAL_T n i)))
      if th < (tab.headD (0, 0)).1 ∨ (tab.getLastD (0, 0)).1 < th then none_ s
      else s.updCell n p (fun c => { c with core := some (interp tab th), coreQ := z.2.2, coreAt := tick })

/-- The plating indicator of an accepted position (R216, R217). -/
def State.plateEval (s : State) (n p : Nat) (x : ExcSet) (dir : Int) : State :=
  let c := s.cell n p
  let za := c.z.getD (x.lo - 1) (0, 0, 0)
  let zb := c.z.getD (x.hi - 1) (0, 0, 0)
  let qm := s.getQ (Gal.EXCITATION_CFG.Q_MIN n)
  if x.lo = 0 ∨ x.hi = 0 ∨ za.2.2 < qm ∨ zb.2.2 < qm then s
  else
    let arc := za.1 - zb.1
    match c.temp with
    | none => s
    | some t =>
      if dir = 1 then
        s.updCell n p (fun c => { c with base := some (match c.base with
          | some (b, tb) => (b + (arc - b) / 16, tb + (t - tb) / 16)
          | none => (arc, t)) })
      else match c.base with
        | none => s
        | some (b, tb) =>
          if s.getQ (Gal.EXCITATION_CFG.PLATE_T_BAND n) < qabs (t - tb) then s
          else
            let low := decide (arc < (1 - s.getQ (Gal.EXCITATION_CFG.PLATE_DROP n)) * b)
            let k := if low then c.drops + 1 else 0
            let s := s.updCell n p (fun c => { c with drops := k })
            if low && decide (s.getN (Gal.EXCITATION_CFG.PLATE_WINDOWS n) ≤ k) && !c.plating then
              let s := (s.updCell n p (fun c => { c with plating := true })).raise (Gal.FAULTS.SPECTRUM_FAULTS n) 1
              let s := s.setN (Gal.SPECTRUM_STATUS.PLATING_CELLS n) ((s.g n).cells.filter (·.plating)).length
              s.record 0x0202 1 n 1 (leBytes 2 p ++ real4 (some (divF s.free arc b)))
            else s

/-- The flag word of a position (Table 3-11). -/
def Cell.flagWord (c : Cell) : Nat :=
  b2n c.settling + 2 * b2n (c.cmpOv || c.cmpUv) + 4 * b2n c.est.invalid + 8 * b2n c.est.uncertain + 16 * b2n c.subst +
  32 * b2n c.balFault + 64 * b2n c.plating + 128 * b2n c.discarded

/-- EXP of an archive record: the smallest that fits every component, in nanoohm. -/
def archExp (zs : List Q) : Nat :=
  ((List.range 64).find? (fun e => zs.all (fun z =>
    let k := qround (z / ((2 ^ e : Nat) : Q))
    decide (-32768 ≤ k) && decide (k ≤ 32767)))).getD 63

/-- An archive record of an accepted window, without its SEQ (Table 7-8); a discarded position has zero components. -/
def State.archBytes (s : State) (n : Nat) (p : PubWin) : List Byte :=
  let x := p.set
  let zOfCell := fun (c : Cell) => if c.okOld then c.z else List.replicate x.tones.length ((0, 0, 0) : Q × Q × Q)
  let all_ := (s.g n).cells.flatMap (fun c => (zOfCell c).flatMap (fun z => [z.1 * 1000000, z.2.1 * 1000000]))
  let e := archExp all_
  let i16 := fun (q : Q) => leBytes 2 (ofSigned 16 (qround q))
  let entry := fun (q : Nat) (c : Cell) =>
    (match s.coreT n q with
      | some t => i16 (t * 100)
      | none => leBytes 2 0x8000) ++ leBytes 2 c.flagWord ++
    (zOfCell c).flatMap (fun z => i16 (z.1 * 1000000 / ((2 ^ e : Nat) : Q)) ++ i16 (z.2.1 * 1000000 / ((2 ^ e : Nat) : Q)) ++
      leBytes 1 (qround (z.2.2 * 255)).toNat)
  leBytes 1 n ++ leBytes 1 x.m ++ leBytes 1 x.tones.length ++ leBytes 1 e ++ leBytes 8 p.win.tick ++ leBytes 2 (s.posCount n) ++
  leBytes 1 x.core ++ leBytes 1 (b2n x.invert) ++ leBytes 4 (qround (p.win.amp * 1000)).toNat ++
  real4 x.crest ++ List.replicate 36 0 ++
  (List.range 32).flatMap (fun t => leBytes 2 (x.tones.getD t (0, 0)).1) ++
  ((s.g n).cells.mapIdx entry).flatten

/-- SPECTRUM_PUBLISH (R212): results of the accepted window. -/
def execSpectrumPublish (n : Nat) (s : State) : Out :=
  match (s.g n).spec.pub with
  | none => .next s
  | some p =>
    if !s.hasGal n then .next s
    else
      let x := p.set
      let s := s.updSpec n (fun r => { r with pub := none })
      let tol := s.getQ (Gal.EXCITATION_CFG.QUALITY_TOL n)
      let k := s.free
      let iMag := (List.range x.tones.length).map (fun t => qsqrt (x.iSquare p.win.acc t))
      let ratio := iMag.mapIdx (fun t i => divF k i (1000 * x.toneAmp p.win.amp t))
      let s := s.setR (Gal.SPECTRUM_STATUS.MIN_I_RATIO n) (if ratio.isEmpty then none else some (qminD 0 ratio))
      let s := s.updG n (fun g => { g with
        cells := g.cells.map (fun c =>
          if c.okOld then
            let zs := x.tones.mapIdx (fun t _ =>
              let z := zOf (c.accOld.getD t (0, 0)) (p.win.acc.getD t (0, 0))
              let qi := qmin 1 (2 * (ratio.getD t 0))
              let qz := if c.zCur && !p.first then
                  let o := c.z.getD t (0, 0, 0)
                  qmax 0 (1 - divF k (cabs (z.1 - o.1, z.2 - o.2.1)) (tol * cabs z))
                else 1 / 2
              (z.1, z.2, qi * qz))
            { c with z := zs, zAt := p.lastTick, zCur := true }
          else if p.first then { c with zCur := false }
          else c) })
      let s := (List.range (s.posCount n)).foldl (fun s q =>
        if !(s.cell n q).okOld then s
        else if p.win.old then s.coreEval n q x p.lastTick
        else (s.coreEval n q x p.lastTick).plateEval n q x p.win.dir) s
      let s := { s with free := s.free + 1 }
      let r := (s.g n).spec
      let s := if r.archNow || r.archPend.isSome then
          s.updSpec n (fun r => { r with archNow := false, archPend := some (s.archBytes n p), archAt := p.win.tick })
        else s
      .next ((s.intervalEval n).levelEval n)

/-! ### APPLY (R201) -/

/-- The staged set. -/
def State.staged (s : State) (n : Nat) : ExcSet :=
  { m := s.getN (Gal.EXCITATION_CFG.M n), amp := s.getQ (Gal.EXCITATION_CFG.AMPLITUDE n),
    invert := decide (s.getN (Gal.EXCITATION_CFG.INVERT n) = 1), core := s.getN (Gal.EXCITATION_CFG.CORE_TONE n),
    lo := s.getN (Gal.EXCITATION_CFG.PLATE_TONE_LO n), hi := s.getN (Gal.EXCITATION_CFG.PLATE_TONE_HI n),
    tones := (List.range' 1 (s.getN (Gal.EXCITATION_CFG.TONE_COUNT n))).map (fun i =>
      let w := s.getN (Gal.EXCITATION_CFG.TONE n i)
      (bits w 15 0, bits w 23 16)) }

/-- CFG_ERROR of a set (Table 7-12). -/
def ExcSet.errors (x : ExcSet) : Nat :=
  let hs := x.tones.map (·.1)
  let k := x.tones.length
  b2n (hs.any (fun h => decide (h = 0) || decide (2 ^ (x.m - 5) < h))) + 2 * b2n (decide (hs.eraseDups.length ≠ hs.length)) +
  4 * b2n (x.tones.any (fun t => decide (t.2 = 0))) + 8 * b2n (decide (k < x.core)) +
  16 * b2n (decide (k < x.lo) || decide (k < x.hi) || (decide (x.lo = 0) != decide (x.hi = 0)) ||
    (decide (x.lo ≠ 0) && decide (x.hi ≠ 0) && decide ((x.tones.getD (x.hi - 1) (0, 0)).1 ≤ (x.tones.getD (x.lo - 1) (0, 0)).1)))

/-- APPLY: a set that breaks Table 7-12 is refused and CFG_ERROR names its faults; a valid one is computed by core 2. -/
def applyEff (n : Nat) (_ : Val) (s : State) : Option Nat × State :=
  if s.getN (Gal.SPECTRUM_STATUS.APPLY_STATE n) = 1 then (some abortState, s)
  else
    let x := s.staged n
    let e := x.errors
    let s := s.setN (Gal.EXCITATION_CFG.CFG_ERROR n) e
    if e ≠ 0 then (some abortRange, s)
    else
      let s := (s.setN (Gal.SPECTRUM_STATUS.APPLY_STATE n) 1).setR (Gal.SPECTRUM_STATUS.RESIDUAL_CHARGE n) (some 0)
      (none, s.updSpec n (fun r => { r with compSet := some x }))

/-- EXCITATION_APPLY (R201). -/
def execExcitationApply (path : Path) (n : Nat) (s : State) : Out := .next (s.writeX path (0x4014 + 0x40 * n) 9 [1] (applyEff n))

/-- SET_COMPUTED (R201): at once in OFF, WAITING and PAUSED; else it waits. -/
def execSetComputed (n : Nat) (s : State) : Out :=
  match (s.g n).spec.compSet with
  | none => .next s
  | some x =>
    if !s.hasGal n then .next s
    else
      let x := { x with spk := x.peak }
      let s := s.updSpec n (fun r => { r with compSet := none })
      let st := s.specSt n
      if st = 0 ∨ st = 1 then .next (s.takeSet n x)
      else if st = 4 then
        let s := s.dropPending n (s.getN (Gal.SPECTRUM_STATUS.PENDING_INDEX n)) (s.g n).spec.pauseDir
        .next ((s.setN (Gal.SPECTRUM_STATUS.STATE n) 1).takeSet n x)
      else .next ((s.setN (Gal.SPECTRUM_STATUS.APPLY_STATE n) 2).updSpec n (fun r => { r with waitSet := some x }))

/-- PLATING_CLEAR (R217): every position of the string. -/
def platingClearEff (n : Nat) (_ : Val) (s : State) : Except Nat State :=
  .ok ((s.updG n (fun g => { g with cells := g.cells.map (fun c => { c with plating := false }) })).setN
    (Gal.SPECTRUM_STATUS.PLATING_CELLS n) 0)

/-- PLATING_CLEAR. -/
def execPlatingClear (path : Path) (n : Nat) (s : State) : Out := .next (s.write path (0x4014 + 0x40 * n) 0x14 [1] (platingClearEff n))

/-! ### The archive (R218 to R220) -/

/-- ARCHIVE_NOW: the next accepted window is archived. -/
def archiveNowEff (n : Nat) (_ : Val) (s : State) : Except Nat State := .ok (s.updSpec n (fun r => { r with archNow := true }))

/-- ARCHIVE_NOW. -/
def execArchiveNow (path : Path) (n : Nat) (s : State) : Out := .next (s.write path (0x4014 + 0x40 * n) 0x16 [1] (archiveNowEff n))

/-- ARCHIVE_INTERVAL (R218): the interval has elapsed since the window of the last record. -/
def execArchiveInterval (n : Nat) (s : State) : Out :=
  let iv := s.getN (Gal.EXCITATION_CFG.ARCHIVE_INTERVAL n)
  if s.hasGal n && decide (iv ≠ 0) && decide (secTicks iv ≤ s.aged (s.g n).spec.archAt) then
    .next (s.updSpec n (fun r => { r with archNow := true }))
  else .next s

/-- ARCHIVE_FIRST and ARCHIVE_LAST from the records held (R219), and the window that ARCHIVE_INTERVAL counts from (R218). -/
def State.archSync (s : State) (n : Nat) : State :=
  let rs := s.nand.archive.filter (fun r => r.string == n)
  let l := rs.map (·.seq)
  let s := if (s.g n).spec.archPend.isSome then s
    else s.updSpec n (fun r => { r with archAt := (rs.getLast?.map (fun x => fieldN x.bytes 8 8)).getD r.archAt })
  (s.setN (Gal.SPECTRUM_STATUS.ARCHIVE_FIRST n) (l.headD 0xFFFFFFFF)).setN (Gal.SPECTRUM_STATUS.ARCHIVE_LAST n) (l.getLastD 0xFFFFFFFF)

/-- ARCHIVE_RECORD_WRITE (R218, R219): the pending record is written to whole pages, in the NAND operation queue. Before it enters the last
erased block, the oldest block is erased, and the record waits for that. -/
def execArchiveRecordWrite (n : Nat) (s : State) : Out :=
  match (s.g n).spec.archPend, s.recd.eraseArch with
  | some body, none =>
    if !s.hasGal n || s.powerDown || !s.nandFree then .next s
    else
      let seq := s.nand.archSeq
      let bytes := leBytes 4 seq ++ body
      let bytes := bytes ++ leBytes 4 (crc32c bytes)
      let pages := (bytes.length + pageBytes - 1) / pageBytes
      let s := if s.archLeft < pages ∧ s.nand.archFree.length < 2 then s.archMakeRoom s.nand.archRing else s
      let s := if s.recd.eraseArch.isSome then s
        else match s.archPlace pages with
          | none => s
          | some (ids, ring, free) =>
            let s := s.updNand (fun d => { d with
              archive := d.archive ++ [({ seq := seq, string := n, page := d.archPage, blocks := ids, bytes := bytes } : ArchRec)]
              archSeq := (seq + 1) % 2 ^ 32, archPage := d.archPage + pages, archRing := ring, archFree := free })
            (s.updSpec n (fun r => { r with archPend := none })).inc (Gal.COUNTERS.ARCHIVE_RECORDS n)
      .next (s.forGal (fun m s => s.archSync m))
  | _, _ => .next s

/-- ARCHIVE_SEL (R220): each path has its own. -/
def archiveSelEff (path : Path) (n : Nat) (v : Val) (s : State) : Except Nat State :=
  .ok (s.put (pathKey path (Gal.SPECTRUM_STATUS.ARCHIVE_SEL n)) v)

/-- ARCHIVE_SEL. -/
def execArchiveSel (path : Path) (n sel : Nat) (s : State) : Out :=
  .next (s.write path (0x4015 + 0x40 * n) 0x10 (leBytes 8 sel) (archiveSelEff path n))

/-- ARCHIVE_READ (R220): 128 header bytes and the entries selected. -/
def archiveReadOf (path : Path) (n : Nat) (s : State) : Except Nat (List Byte × State) :=
  let sel := s.getN (pathKey path (Gal.SPECTRUM_STATUS.ARCHIVE_SEL n))
  let first := bits sel 47 32
  let count := bits sel 63 48
  match s.nand.archive.find? (fun r => r.seq == bits sel 31 0 && r.string == n) with
  | none => .error abortNoData
  | some r =>
    let e := 4 + 5 * fieldN r.bytes 6 1
    if fieldN r.bytes 16 2 < first + count ∨ 65536 < 128 + count * e then .error abortRange
    else .ok (r.bytes.take 128 ++ slice r.bytes (128 + first * e) (count * e), s)

/-- ARCHIVE_READ. -/
def execArchiveRead (path : Path) (n : Nat) (s : State) : Out :=
  .next (s.readWith path (0x4015 + 0x40 * n) 0x11 (archiveReadOf path n))

end Sys2Proof.Machine
end

