-- ==== Sys2Proof/Machine/Balance.lean ====
section
/-! DEFINITION. Balancing and the balancing-switch test (R151 to R158). -/
namespace Sys2Proof.Machine

/-! ### Eligibility and decision (R152, R153) -/

/-- The monitor that serves a position, and the position's number within it; monitor 0 where none does. -/
def State.servedBy (s : State) (n p : Nat) : Nat × Nat :=
  match (List.range' 1 (s.nodeCount n)).find? (fun i =>
      decide ((s.expected n i).1 ≤ p) && decide (p < (s.expected n i).1 + (s.expected n i).2)) with
  | some i => (i, p - (s.expected n i).1)
  | none => (0, 0)

/-- Whether balancing may run: READY or RUN (R153, R158), the trunk UP and claimed. -/
def State.balOk (s : State) (n : Nat) : Bool :=
  (decide (s.mode = .ready) || decide (s.mode = .run)) && s.trunkUp n && s.claims n && !s.entering

/-- Whether a position is eligible in this superframe (R153). -/
def State.eligible (s : State) (n p : Nat) : Bool :=
  let c := s.cell n p
  (match c.v with
   | some v => decide (v < s.secQ (Gal.PROT_LIMITS.CELL_OV n) - s.getQ (Gal.BALANCE_CFG.GUARD n))
   | none => false) &&
  !c.settling && !c.cmpOv && !c.cmpUv &&
  (match c.temp with
   | some t => decide (t < s.getQ (Gal.BALANCE_CFG.MAX_TEMP n))
   | none => false) &&
  (decide (s.getN (Gal.BALANCE_CFG.MODE n) ≠ 2) || (c.est.ready && !c.est.uncertain)) &&
  !s.testing n p && !c.swFault

/-- The value that a decision compares: voltage in mode 1, SOC in mode 2. -/
def State.balValue (s : State) (n p : Nat) : Q :=
  if s.getN (Gal.BALANCE_CFG.MODE n) = 2 then (s.cell n p).est.soc else ((s.cell n p).v).getD 0

/-- Candidates in descending order, ties to the lower index. -/
def insertDesc (e : Nat × Q) : List (Nat × Q) → List (Nat × Q)
  | [] => [e]
  | f :: l => if f.2 < e.2 then e :: f :: l else f :: insertDesc e l

/-- Whether one more position fits MAX_CLOSED of its monitor and NO_ADJACENT. -/
def State.balFits (s : State) (n p : Nat) : Bool :=
  let on := fun (q : Nat) => (s.cell n q).balOn
  let i := (s.servedBy n p).1
  let e := s.expected n i
  decide (((List.range' e.1 e.2).filter on).length < s.getN (Gal.BALANCE_CFG.MAX_CLOSED n)) &&
  (decide (s.getN (Gal.BALANCE_CFG.NO_ADJACENT n) = 0) || (!(decide (0 < p) && on (p - 1)) && !on (p + 1)))

/-- ACTIVE_COUNT and FAULT_COUNT as they stand. -/
def State.balSync (s : State) (n : Nat) : State :=
  (s.setN (Gal.BALANCE_CFG.ACTIVE_COUNT n) ((s.g n).cells.filter (·.balOn)).length).setN (Gal.BALANCE_TEST.FAULT_COUNT n)
    ((s.g n).cells.filter (·.swFault)).length

/-- The decision of R152. -/
def State.balDecide (s : State) (n : Nat) : State :=
  let ps := (List.range (s.posCount n)).filter (s.eligible n)
  let v := s.balValue n
  let ref := qminD 0 (ps.map v)
  let start := s.getQ (Gal.BALANCE_CFG.DELTA_START n)
  let stop := s.getQ (Gal.BALANCE_CFG.DELTA_STOP n)
  let cand := ps.filter (fun p => !(s.cell n p).balOn && decide (start < v p - ref))
  let s := (List.range (s.posCount n)).foldl (fun s p =>
    if (s.cell n p).balOn && (!ps.contains p || decide (v p - ref ≤ stop)) then s.updCell n p (fun c => { c with balOn := false }) else s) s
  let order := (cand.map (fun p => (p, v p - ref))).foldl (fun l e => insertDesc e l) []
  let s := order.foldl (fun s e => if s.balFits n e.1 then s.updCell n e.1 (fun c => { c with balOn := true }) else s) s
  s.balSync n

/-- BALANCE_DECISION (R152): every 1 s. -/
def execBalanceDecision (n : Nat) (s : State) : Out :=
  if s.hasGal n && s.balOk n && decide (s.getN (Gal.BALANCE_CFG.MODE n) ≠ 0) && s.passed (s.g n).bal.decideAt (secTicks 1) then
    .next ((s.updBal n (fun b => { b with decideAt := s.root })).balDecide n)
  else .next s

/-- A position that stops being eligible, or MODE 0, has its bit cleared in the next superframe (R153). -/
def State.balFrame (s : State) (n : Nat) : State :=
  let off := decide (s.getN (Gal.BALANCE_CFG.MODE n) = 0) || !s.balOk n
  let out := (List.range (s.posCount n)).map (fun p => off || !s.eligible n p)
  let s := s.updG n (fun g => { g with
    cells := g.cells.mapIdx (fun p c => if out.getD p true then { c with balOn := false } else c) })
  s.balSync n

/-- The BAL bit commanded for each position, for the next downstream superframe (R152, R153, R156); a change restarts its age. -/
def State.balCommand (s : State) (n : Nat) : State :=
  let ok := s.balOk n
  s.updG n (fun g => { g with
    cells := g.cells.map (fun c =>
      let w := ok && c.balOn && !c.held
      if w == c.balCmd then c else { c with balCmd := w, balAge := 0, balDiff := 0 }) })

/-- BAL_STATE against the commanded bit (R154): after the first superframe that carries the change, 3 successive ones differ. -/
def State.balCheck (s : State) (n : Nat) : State :=
  let late := ((s.g n).cells.mapIdx (fun p c => (p, c))).filter (fun e =>
    e.2.v.isSome && decide (1 ≤ e.2.balAge) && (e.2.balClosed != e.2.balCmd) && decide (e.2.balDiff + 1 = 3) && !s.testing n e.1)
  let s := s.updG n (fun g => { g with
    cells := g.cells.mapIdx (fun p c =>
      let age := c.balAge + 1
      if c.v.isNone ∨ s.testing n p = true then { c with balAge := age }
      else if c.balAge = 0 then { c with balAge := age, balDiff := 0 }
      else { c with balAge := age, balDiff := if c.balClosed != c.balCmd then c.balDiff + 1 else 0 }) })
  late.foldl (fun s e =>
    let s := s.raise (Gal.FAULTS.SAMPLE_FAULTS n) 2
    let s := s.updCell n e.1 (fun c => { c with swFault := true, balOn := false })
    s.updBal n (fun b => { b with queue := if b.queue.contains e.1 then b.queue else b.queue ++ [e.1] })) s

/-! ### The switch test (R155 to R157) -/

/-- BALANCE_TEST STATE and NEXT as they stand. -/
def State.testSync (s : State) (n : Nat) : State :=
  let b := (s.g n).bal
  (s.setN (Gal.BALANCE_TEST.STATE n) (if b.phase ≠ .idle then 1 else if b.queue.isEmpty then 0 else 2)).setN
    (Gal.BALANCE_TEST.NEXT n) (b.queue.headD 0)

/-- SWITCH_TEST of the position under test. -/
def State.sendTest (s : State) (n step : Nat) : State :=
  let (i, k) := s.servedBy n (s.g n).bal.pos
  s.sendCmd n 6 i [BitVec.ofNat 8 k, BitVec.ofNat 8 step]

/-- The hold of the BAL bits of p - 1, p and p + 1. -/
def State.holdBal (s : State) (n p : Nat) (on : Bool) : State :=
  s.updG n (fun g => { g with
    cells := g.cells.mapIdx (fun q c => if q + 1 = p ∨ q = p ∨ q = p + 1 then { c with held := on } else c) })

/-- A test ends with a class (Table 5-8 and 4 for INCONCLUSIVE), and d1 where it was measured (R157, R158). -/
def State.testEnd (s : State) (n cls : Nat) (d1 : Option Q) : State :=
  let p := (s.g n).bal.pos
  let s := s.holdBal n p false
  let s := s.updBal n (fun b => { b with phase := .idle })
  let s := s.setN (Gal.BALANCE_TEST.LAST_RESULT n) (p + cls * 65536)
  let s := s.setR (Gal.BALANCE_TEST.LAST_DROP n) d1
  let s := if cls = 4 then s else s.inc (Gal.COUNTERS.SWITCH_TESTS n)
  let s := if cls = 0 then s.updCell n p (fun c => { c with swFault := false, balFault := false, balDiff := 0 })
    else if cls = 4 then s
    else (s.updCell n p (fun c => { c with swFault := true, balFault := true })).raise (Gal.FAULTS.SAMPLE_FAULTS n) 3
  s.balSync n

/-- Table 5-8. -/
def testClass (e d1 d2 : Q) (baseClosed step1Open step2Closed : Bool) : Nat :=
  if baseClosed || step2Closed || decide (d2 < d1 / 2) then 2
  else if step1Open || decide (d1 < e / 4) then 1
  else if d1 < 7 * e / 10 ∨ 2 * e < d1 then 3
  else 0

/-- A test starts: 4 superframes of preparation. -/
def State.testStart (s : State) (n : Nat) : State :=
  match (s.g n).bal.queue with
  | [] => s
  | p :: q =>
    let i := s.stringI n
    let s := s.updBal n (fun b => { b with
      phase := .prepare, pos := p, left := 4, acc := 0, v0 := 0, v1 := 0, baseClosed := false, step1Open := false
      step2Closed := false, testLost := false, i0 := i, queue := q })
    s.holdBal n p true

/-- One superframe of the running test (Table 5-7). -/
def State.testFrame (s : State) (n : Nat) : State :=
  let b := (s.g n).bal
  let s := if b.phase = .idle then (if s.balOk n && !b.queue.isEmpty then s.testStart n else s)
    else if !s.balOk n then
      (if decide (b.phase ≠ .prepare) && decide (b.phase ≠ .baseline) then s.sendTest n 2 else s).stopTest n
    else
      let c := s.cell n b.pos
      let bad := b.testLost || c.settling || c.v.isNone || decide (s.getQ (Gal.BALANCE_TEST.I_STEADY n) < qabs (s.stringI n - b.i0))
      if bad then
        let open_ := decide (b.phase ≠ .prepare) && decide (b.phase ≠ .baseline)
        (if open_ then s.sendTest n 2 else s).testEnd n 4 none
      else
        let v := c.v.getD 0
        let add := fun (s : State) (use : Bool) => s.updBal n (fun b => { b with left := b.left - 1, acc := if use then b.acc + v else b.acc })
        match b.phase with
        | .prepare =>
          if b.left ≤ 1 then s.updBal n (fun b => { b with phase := .baseline, left := 16, acc := 0 }) else add s false
        | .baseline =>
          let s := (add s true).updBal n (fun b => { b with baseClosed := b.baseClosed || c.balClosed })
          if b.left ≤ 1 then (s.updBal n (fun b => { b with v0 := b.acc / 16, phase := .closing })).sendTest n 1 else s
        | .settle1 =>
          let s := add s (decide (b.left ≤ 16))
          if b.left ≤ 1 then (s.updBal n (fun b => { b with v1 := b.acc / 16, phase := .opening })).sendTest n 2 else s
        | .settle2 =>
          let s := add s (decide (b.left ≤ 16))
          if b.left ≤ 1 then
            let b := (s.g n).bal
            let v2 := b.acc / 16
            let d1 := b.v0 - b.v1
            s.testEnd n (testClass (s.balDrop n) d1 (v2 - b.v1) b.baseClosed b.step1Open b.step2Closed) (some d1)
          else s
        | _ => s
  s.testSync n

/-- BALANCE_TEST:01 (R158): one position, or every position in turn; refused outside READY and RUN. -/
def balTestEff (n : Nat) (v : Val) (s : State) : Except Nat State :=
  if s.mode ≠ .ready ∧ s.mode ≠ .run then .error abortState
  else
    let l := if v.toN = 0xFFFF then List.range (s.posCount n) else [v.toN]
    .ok ((s.updBal n (fun b => { b with queue := b.queue ++ l.filter (fun p => !b.queue.contains p) })).testSync n)

/-- BALANCE_TEST_RUN. -/
def execBalanceTestRun (path : Path) (n pos : Nat) (s : State) : Out :=
  .next (s.write path (0x4007 + 0x40 * n) 1 (leBytes 2 pos) (balTestEff n))

/-- SWITCH_TEST_INTERVAL (R158): an automatic pass over the string. -/
def execSwitchTestInterval (n : Nat) (s : State) : Out :=
  let iv := s.getN (Gal.BALANCE_TEST.INTERVAL n)
  if s.hasGal n && s.strOn n && decide (iv ≠ 0) && s.passed (s.g n).bal.passAt (secTicks iv) then
    .next ((s.updBal n (fun b => { b with
      passAt := s.root, queue := b.queue ++ (List.range (s.posCount n)).filter (fun p => !b.queue.contains p) })).testSync n)
  else .next s

end Sys2Proof.Machine
end

