-- ==== Sys2Proof/Machine/Channels.lean ====
section
/-! DEFINITION. Newel and Baluster: the safety cycle, safety inputs and outputs with their tests, insulation monitoring, and the
reset of a lock-out (chapter 10). -/
namespace Sys2Proof.Machine

/-- Whether the channels run their safety cycle (R50). -/
def State.channelsRun (s : State) : Bool :=
  (match s.mode with | .ready | .run | .lockout => true | _ => false) &&
  (match s.md.transit with | .none | .resetWait _ _ _ => true | _ => false)

/-- Time enough for a load that went off to read off (R291). -/
def State.settledOff (s : State) (l : Nat) : Bool :=
  !s.loadOn l && (match (s.load l).offAt with | some t => s.passed t (msTicks 10) | none => true)

/-- External voltages by readback (R286, R480); a standby raises none (R356). -/
def State.externalCheck (s : State) : State :=
  if s.role = 3 then s
  else
    let s := (List.range 8).foldl (fun s m =>
      if s.settledOff (2 * m) && s.settledOff (2 * m + 1) && decide (5 < s.safe.soV.getD m 0) then s.outputFault m else s) s
    (List.range 16).foldl (fun s l =>
      if s.settledOff l && decide (s.safe.soV.getD (l / 2) 0 < 5) && decide (5 < s.safe.slV.getD l 0) then s.outputFault (8 + l)
      else s) s

/-- The input demands of a channel, by its own reading. -/
def State.chanDemands (s : State) (c : Channel) : Nat := maskOf 16 (fun i => s.siOn c.inputs i)
/-- The lock-out causes that stand in a channel: ESTOP by its own reading, the others in both. -/
def State.chanLockouts (s : State) (c : Channel) : Nat := clearBits s.causesNow 1 ||| b2n (s.chanFn c 1 none)

/-- Whether the channels' views differ (R279): input demands, group states, load commands, standing lock-out causes. -/
def State.viewsDiffer (s : State) : Bool :=
  let a := s.safe.newel
  let b := s.safe.baluster
  a.healthy && b.healthy && (decide (s.chanDemands a ≠ s.chanDemands b) || decide (a.groups ≠ b.groups) || decide (a.loads ≠ b.loads) ||
    decide (s.chanLockouts a ≠ s.chanLockouts b))

/-- How long the views have differed or agreed, and the end of CHANNEL_DISAGREE (Table 10-10). -/
def State.viewSync (s : State) : State :=
  let d := s.viewsDiffer
  let s := s.updSafe (fun r => { r with
    diffSince := if d then some (r.diffSince.getD s.root) else none
    sameSince := if d then none else some (r.sameSince.getD s.root) })
  let end_ := match s.safe.sameSince with
    | some t => s.safe.disagree && s.passed t (secTicks 1) && s.safe.selfPass
    | none => false
  if end_ then s.updSafe (fun r => { r with disagree := false }) else s

/-- The groups of a take-over (R360): an adopted group is entered in ENERGISED with its main load on; every other group waits, with
SEO where one of its heads obeys nobody. -/
def State.adoptCycle (s : State) : State :=
  match s.safe.adopt with
  | none => s
  | some gs =>
    let s := s.updSafe (fun r => { r with adopt := none })
    (List.range 8).foldl (fun s g =>
      if gs.contains g then
        let s := s.setGroup g .energised
        match s.mainLoad g with
        | some m => s.loadWant m
        | none => s
      else
        let s := (s.setGroup g .waitOff).updGrp g (fun r => { r with minOff := s.red.decideAt, pend := false })
        if (s.groupStrings g).any (fun n => decide ((s.g n).trunk.obeyPort = 0)) then s.enterOpening g false else s) s

/-- CHANNELS and CLEARED as they stand (Table 10-17). -/
def State.channelSync (s : State) : State :=
  let s := s.setN Obj.SAFETY_STATUS.CHANNELS
    (b2n s.safe.newel.healthy + 2 * b2n s.safe.baluster.healthy + 4 * b2n (!s.viewsDiffer) + 8 * b2n s.latched)
  s.setN Obj.LOCKOUT_RESET.CLEARED (b2n (decide (s.mode = .lockout) && decide (s.causesNow = 0) && !s.safe.resetDisc))

/-- Whether a period has passed since it last ran out; the first is due at once. -/
def State.periodic (s : State) (last : Option Nat) (ticks : Nat) : Bool := match last with
  | some t => s.passed t ticks
  | none => true

/-- SAFETY_CYCLE (R278): every 250 us inputs and readback, groups, loads, lock-out logic. -/
def execSafetyCycle (rb : Readback) (s : State) : Out :=
  if !s.channelsRun || !s.periodic s.safe.cycleAt (usTicks 250) then .next s
  else
    let s := s.updSafe (fun r => { r with soV := rb.so, slV := rb.sl, cycles := r.cycles + 1, cycleAt := some s.root })
    let s := s.externalCheck.viewSync.demandSync
    let s := if s.safe.fbFault && (List.range 8).all s.fbOpen then s.updSafe (fun r => { r with fbFault := false }) else s
    let s := s.adoptCycle
    let s := if s.safe.newel.healthy && s.safe.baluster.healthy then s else s.allSeo true
    let s := if s.role = 3 then s else ((List.range 8).foldl State.groupEvents s).serveLoads
    let s := s.lockoutCycle
    let s := s.forGal (fun n s => s.tripClear n)
    .next s.channelSync

/-! ### Safety inputs (R282 to R284) -/

/-- The channels of an input disagree: they differ for equal types, or are equal for the antivalent type (R284). -/
def State.siDisagree (s : State) (i : Nat) : Bool :=
  let x := s.si i
  if s.siFn i = 0 then false else if s.siAnti i then x.lv1 == x.lv2 else x.lv1 != x.lv2

/-- R284 as a level changes: when the disagreement began, and how a standing discrepancy ends. -/
def State.discSync (s : State) (i : Nat) : State :=
  let x := s.si i
  let rest2 := if s.siAnti i then !x.lv2 else x.lv2
  let both := !x.lv1 && !rest2
  let back := x.lv1 && rest2
  s.updSi i (fun y => { y with
    discSince := if s.siDisagree i then some (y.discSince.getD s.root) else none
    seenBoth := y.discStand && (y.seenBoth || both) && !(y.seenBoth && back)
    discStand := y.discStand && !(y.seenBoth && back) })

/-- RAW as the levels stand. -/
def State.rawSync (s : State) : State :=
  s.setN Obj.SAFETY_INPUTS.RAW (maskOf 32 (fun b => let x := s.si (b / 2); if b % 2 = 0 then x.lv1 else x.lv2))

/-- The pulse on the RESET input in a channel's reading: its start, and its end. -/
def Channel.pulse (c : Channel) (on : Bool) (root : Nat) : Channel :=
  match c.actAt, on with
  | none, true => { c with actAt := some root, endAt := none }
  | some _, false => if c.endAt = none then { c with endAt := some root } else c
  | _, _ => c

/-- The pulse on the RESET input (R299), in each channel by its own reading. -/
def State.resetTrack (s : State) (i : Nat) : State :=
  if s.siFn i = 4 then
    let idle := s.safe.newel.actAt.isNone && s.safe.baluster.actAt.isNone
    s.updSafe (fun r => { r with
      resetDisc := r.resetDisc && !idle
      newel := r.newel.pulse (s.siOn r.newel.inputs i) s.root
      baluster := r.baluster.pulse (s.siOn r.baluster.inputs i) s.root })
  else s

/-- SAFETY_INPUT_CHANGE (R282, R284): a channel of an input changes level after its filter; each safety channel reads it or not. -/
def execSafetyInputChange (i ch : Nat) (high newelSees balusterSees : Bool) (s : State) : Out :=
  if i < 16 ∧ (ch = 1 ∨ ch = 2) then
    let b := 2 * i + (ch - 1)
    let s := s.updSi i (fun x => if ch = 1 then { x with lv1 := high } else { x with lv2 := high })
    let s := s.updSafe (fun r => { r with
      newel := if newelSees then { r.newel with inputs := withBit r.newel.inputs b high } else r.newel
      baluster := if balusterSees then { r.baluster with inputs := withBit r.baluster.inputs b high } else r.baluster })
    let s := (s.rawSync.discSync i).demandSync.resetTrack i
    let s := s.viewSync
    .next (if s.siFn i = 6 ∧ s.demand i then s.raise Obj.SAFETY_STATUS.SAFETY_FAULTS 1 else s)
  else .next s

/-- DISCREPANCY_TIMEOUT (R284): the channels of an input have disagreed for longer than DISC_TIME. -/
def execDiscrepancyTimeout (i : Nat) (s : State) : Out :=
  match (s.si i).discSince with
  | some t =>
    if i < 16 ∧ !(s.si i).discStand ∧ msTicks (bits (s.siCfg i) 19 9) < s.since t then
      let s := (s.updSi i (fun x => { x with discStand := true, seenBoth := false })).raise Obj.SAFETY_INPUTS.INPUT_FAULTS i
      let s := if s.siFn i = 4 ∧ (s.safe.newel.actAt ≠ none ∨ s.safe.baluster.actAt ≠ none) then s.updSafe (fun r => { r with resetDisc := true }) else s
      .next (s.demandSync.resetTrack i)
    else .next s
  | none => .next s

/-- Whether an input has a TP type (Table 10-5). -/
def State.siTp (s : State) (i : Nat) : Bool := s.siFn i != 0 && decide (bits (s.siCfg i) 5 4 < 2)

/-- Whether the middle of an off-pulse of TP_1 or TP_2 has come (R283): every TP_PERIOD, TP_2 half a period after TP_1. -/
def State.tpDue (s : State) (source : Nat) : Bool :=
  let period := msTicks (s.secN Obj.SAFETY_CFG.TP_PERIOD)
  if source = 1 then s.periodic s.safe.tp1At period
  else match s.safe.tp1At with
    | some t => s.passed t (period / 2) && s.periodic s.safe.tp2At period
    | none => false

/-- Whether TP_1 or TP_2 is on (R283): off within half of TP_LEN after the middle of its pulse. -/
def State.tpOn (s : State) (source : Nat) : Bool :=
  s.periodic (if source = 1 then s.safe.tp1At else s.safe.tp2At) (usTicks (s.secN Obj.SAFETY_CFG.TP_LEN) / 2)

/-- TEST_PULSE (R283): at the middle of an off-pulse of TP_1 or TP_2 every channel of a TP type that reads high otherwise must read low;
`shorts` has a bit for every input whose channel of that source reads high in the pulse. -/
def execTestPulse (source shorts : Nat) (s : State) : Out :=
  if !s.channelsRun || !(source == 1 || source == 2) || !s.tpDue source then .next s
  else
  let s := s.updSafe (fun r => if source = 1 then { r with tp1At := some s.root } else { r with tp2At := some s.root })
  .next ((List.range 16).foldl (fun s i =>
    if !s.siTp i || !(if source = 1 then (s.si i).lv1 else (s.si i).lv2) then s
    else
      let bad := bit shorts i
      let s := s.updSi i (fun x =>
        if source = 1 then
          { x with crossA := bad || (x.crossA && decide (x.goodA + 1 < 4)), goodA := if bad then 0 else x.goodA + 1 }
        else { x with crossB := bad || (x.crossB && decide (x.goodB + 1 < 4)), goodB := if bad then 0 else x.goodB + 1 })
      if bad then s.raise Obj.SAFETY_INPUTS.INPUT_FAULTS (16 + i) else s) s)

/-! ### Safety outputs (R285 to R287) -/

/-- OUTPUT_STUCK of an output: bit m for SO_m, bit 8 + n for SL_n. -/
def State.outputStuck (s : State) (o : Nat) : State :=
  (s.updSafe (fun r => { r with stuck := withBit r.stuck o true, passes := SMap.set (fun _ => 0) r.passes o 0 })).raise
    Obj.SAFETY_OUTPUTS.OUTPUT_FAULTS (if o < 8 then o else o + 8)

/-- A passed off-state test; after 8 in succession OUTPUT_STUCK and OUTPUT_FAULT of the output end (Table 10-10). -/
def State.testPassed (s : State) (o : Nat) : State :=
  let k := SMap.get (fun _ => 0) s.safe.passes o + 1
  if 8 ≤ k then
    s.updSafe (fun r => { r with
      stuck := withBit r.stuck o false, outFault := withBit r.outFault o false, passes := SMap.set (fun _ => 0) r.passes o 0 })
  else s.updSafe (fun r => { r with passes := SMap.set (fun _ => 0) r.passes o k })

/-- OUTPUT_TEST_PULSE (R285, R286, R480): a test of one switch, once every OFF_PULSE_PERIOD. `fell`: the output was at its off level during the pulse; `returned`:
it was back at its on level within 200 us after it; `external`: an off output showed an external voltage. -/
def execOutputTestPulse (load : Nat) (onSl : Bool) (chan : SafetyChan) (fell returned external : Bool) (s : State) : Out :=
  let m := load / 2
  let o := if onSl then 8 + load else m
  let isOn := if onSl then s.loadOn load else s.loadOn (2 * m) || s.loadOn (2 * m + 1)
  let key := 2 * o + (match chan with | .newel => 0 | .baluster => 1)
  let due := s.periodic (SMap.find? s.safe.testAt key) (msTicks (s.secN Obj.SAFETY_OUTPUTS.OFF_PULSE_PERIOD))
  let tested := fun (s : State) => s.updSafe (fun r => { r with testAt := SMap.put r.testAt key s.root })
  if !s.channelsRun || !(s.safeChan chan).healthy || !decide (load < 16) || decide (s.role = 3) || !due then .next s
  else if isOn then
    let s := tested s
    let s := if fell then s else s.outputStuck o
    .next (if returned then s else s.outputFault o)
  else
    let soOn := decide (((s.getR Obj.SUPPLY_STATUS.VLOOP).getD 24) - 2 < s.safe.soV.getD m 0)
    if external then .next ((tested s).outputFault o)
    else if onSl && !soOn then .next s
    else if fell then .next ((tested s).testPassed o)
    else .next ((tested s).outputStuck o)

/-- SO_OVERCURRENT (R287): more than 2.6 A for 10 ms, or more than 6.0 A for 50 us. -/
def execSoOvercurrent (so : Nat) (amps : Q) (us : Nat) (s : State) : Out :=
  if decide (so < 8) && ((decide (13 / 5 < amps) && decide (10000 ≤ us)) || (decide (6 < amps) && decide (50 ≤ us))) then
    let s := s.setR (Obj.SAFETY_OUTPUTS.SO_CURRENT so) (some amps)
    let s := (List.range 8).foldl (fun s g =>
      if (s.groupLoads g).any (fun l => l / 2 == so) then (s.joinChan g .newel).joinChan g .baluster else s) s
    let s := [2 * so, 2 * so + 1].foldl (fun s l => (s.loadGoesOff l).updLoad l (fun x => { x with forced := x.want })) s
    .next (s.outputFault so)
  else .next s

/-! ### The channels themselves (R279, R280) -/

/-- CHANNEL_DISAGREE (R279): a difference has persisted for 10 ms. -/
def execChannelDisagree (s : State) : Out :=
  match s.safe.diffSince with
  | some t => if s.passed t (msTicks 10) then .next (s.updSafe (fun r => { r with disagree := true, selfPass := false })) else .next s
  | none => .next s

/-- A channel opens its own path, so that no load stays on; the other channel applies SEO of every group, and commands its own switches off
SEO_DELAY later (R280, R291). -/
def State.channelDown (s : State) (c : SafetyChan) (clock : Bool) : State :=
  let s := s.updSafeChan c (fun x => { x with healthy := false, clockOk := x.clockOk && !clock, supplyOk := x.supplyOk && clock })
  (s.updSafe (fun r => { r with chanFail := true })).switchSync.allSeo true

/-- CHANNEL_FAIL (R17, R280): a channel's clock or supply fails. -/
def execChannelFail (chan : SafetyChan) (clock : Bool) (s : State) : Out := .next (s.channelDown chan clock).channelSync

/-- CHANNEL_SELF_CHECK (R280), every 10 s, or at once after a write of LOCKOUT_RESET (R300): the result of each channel's check of its memories and instruction paths. A pass makes a failed
channel healthy again. -/
def execChannelSelfCheck (newel baluster : Bool) (s : State) : Out :=
  if !s.channelsRun || !s.periodic s.safe.checkAt (secTicks 10) then .next s
  else
    let s := s.updSafe (fun r => { r with checkAt := some s.root })
    let heal := fun (x : Channel) =>
      if x.healthy then x
      else { x with healthy := true, clockOk := true, supplyOk := true, lag := 0, groups := s.safe.groups.map (·.state) }
    let s := if newel then s.updSafe (fun r => { r with newel := heal r.newel }) else s.channelDown .newel false
    let s := if baluster then s.updSafe (fun r => { r with baluster := heal r.baluster }) else s.channelDown .baluster false
    let s := s.updSafe (fun r => { r with
      selfPass := newel && baluster, chanFail := !(newel && baluster), retest := false
      pllFail := r.pllFail && !(s.md.pllLocked && newel && baluster) })
    .next s.switchSync.channelSync

/-! ### Lock-out reset (R299, R300) -/

/-- LAST_RESULT of a pulse that has ended (Table 10-17). -/
def State.pulseResult (s : State) (a e : Nat) : Nat :=
  let d := e - a
  if d < msTicks 300 then 2
  else if msTicks 3000 < d then 3
  else if s.mode ≠ .lockout then 5
  else if s.causesNow ≠ 0 then 4
  else if s.safe.resetDisc then 6
  else 1

/-- The verdict on a pulse that has ended in each channel that saw it; none while there is no such pulse. Both channels must accept it; one
that has not seen it finds it too short. -/
def State.pulseVerdict (s : State) : Option Nat :=
  let view := fun (c : Channel) => match c.actAt, c.endAt with
    | none, _ => some 2
    | some a, some e => some (s.pulseResult a e)
    | some _, none => none
  if s.safe.newel.actAt.isNone && s.safe.baluster.actAt.isNone then none
  else match view s.safe.newel, view s.safe.baluster with
    | some a, some b => some (if a = 1 then b else a)
    | _, _ => none

/-- LOCKOUT_RESET_PULSE (R299, R62): the pulse is evaluated when it ends; accepted, both copies of the latch clear, and the module
enters READY with cause 0x0D. -/
def execLockoutResetPulse (s : State) : Out :=
  match s.pulseVerdict with
  | some r =>
    let f := fun (c : Channel) => { c with actAt := none, endAt := none }
    let s := s.updSafe (fun x => { x with newel := f x.newel, baluster := f x.baluster, resetDisc := false })
    let s := (s.setN Obj.LOCKOUT_RESET.LAST_RESULT r).setN Obj.LOCKOUT_RESET.LAST_TICK s.now
    let s := s.record 0x0102 0x07 0 0 [BitVec.ofNat 8 r]
    if r = 1 then
      let s := (s.updVest (fun v => { v with latch := false })).updNand (fun d => { d with latch := false, latchCauses := 0 })
      let s := (s.inc Obj.LOCKOUT_RESET.RESETS).setN Obj.LOCKOUT_RESET.REQUESTED 0
      .next ((s.updSafe (fun x => { x with reqAt := none })).toMode .ready 0x0D true).channelSync
    else .next s
  | none => .next s

/-- A write of LOCKOUT_RESET:01 (R300): every test that can end a cause is repeated, and REQUESTED is set. -/
def lockoutResetEff (_ : Val) (s : State) : Except Nat State :=
  .ok ((s.setN Obj.LOCKOUT_RESET.REQUESTED 1).updSafe (fun r => { r with retest := true, checkAt := none, testAt := [], reqAt := some s.root }))

/-- LOCKOUT_RESET. -/
def execLockoutReset (path : Path) (s : State) : Out := .next (s.write path 0x2904 1 [1] lockoutResetEff)

/-- REQUESTED_EXPIRY (R300): 600 s after the write. -/
def execRequestedExpiry (s : State) : Out :=
  match s.safe.reqAt with
  | some t =>
    if s.passed t (secTicks 600) then
      .next ((s.setN Obj.LOCKOUT_RESET.REQUESTED 0).updSafe (fun r => { r with reqAt := none }))
    else .next s
  | none => .next s

/-! ### Insulation monitoring (R277) -/

/-- IMD_EVALUATE (R277), every 100 ms: IMD_R from the channel; each flag is set after 1 s below its level and ends after 1 s above 1.1 times it. -/
def execImdEvaluate (s : State) : Out :=
  let c := s.getN Obj.SAFETY_CFG.IMD_CHANNEL
  if !s.periodic s.safe.imdAt (msTicks 100) then .next s
  else
  let s := s.updSafe (fun r => { r with imdAt := some s.root })
  if 16 ≤ c then
    let s := (s.setR Obj.SAFETY_STATUS.IMD_R none).updSafe (fun x => { x with
      imdLow := none, imdAlow := none, imdHigh := none, imdAhigh := none, imdWarn := false, imdAlarm := false })
    .next (if s.fnOn 6 then s.raise Obj.SAFETY_STATUS.SAFETY_FAULTS 1 else s)
  else
    let r := s.chNumber c
    let s := s.setR Obj.SAFETY_STATUS.IMD_R r
    match r with
    | none => .next ((s.raise Obj.SAFETY_STATUS.SAFETY_FAULTS 2).updSafe (fun x => { x with
        imdLow := none, imdAlow := none, imdHigh := none, imdAhigh := none }))
    | some x =>
      let w := s.getQ Obj.SAFETY_CFG.IMD_WARN
      let a := s.getQ Obj.SAFETY_CFG.IMD_ALARM
      let keep := fun (c : Bool) (o : Option Nat) => if c then some (o.getD s.root) else none
      let s := s.updSafe (fun y => { y with
        imdLow := keep (decide (x < w)) y.imdLow, imdAlow := keep (decide (x < a)) y.imdAlow
        imdHigh := keep (decide (w * 11 / 10 < x)) y.imdHigh, imdAhigh := keep (decide (a * 11 / 10 < x)) y.imdAhigh })
      let done := fun (o : Option Nat) => match o with
        | some t => s.passed t (secTicks 1)
        | none => false
      let s := s.updSafe (fun y => { y with
        imdWarn := (y.imdWarn || done y.imdLow) && !done y.imdHigh
        imdAlarm := (y.imdAlarm || done y.imdAlow) && !done y.imdAhigh })
      let s := if s.safe.imdWarn then s.raise Obj.SAFETY_STATUS.SAFETY_FAULTS 0 else s
      .next (if s.imdStands then s.raise Obj.SAFETY_STATUS.SAFETY_FAULTS 1 else s)

end Sys2Proof.Machine
end

