-- ==== Sys2Proof/Machine/Converter.lean ====
section
/-! DEFINITION. String converter control (chapter 6): the control step, converter states, references, telemetry windows, peaks. -/
namespace Sys2Proof.Machine

/-! ### Candidates (Table 6-3, R172, R175, R176) -/

/-- What the loops of a step see: DIRECTION, the current of R187, SETPOINT_MODE and the setpoint. -/
structure LoopIn where
  dir  : Int
  i    : Q
  mode : Nat
  set  : Q
deriving DecidableEq, Repr

/-- A candidate that participates: its number, feed-forward, error, gains, and whether it has an integrator. -/
structure Cand where
  no    : Nat
  ff    : Q
  e     : Q := 0
  kp    : Q := 0
  ki    : Q := 0
  integ : Bool := false
deriving DecidableEq, Repr

/-- X of a candidate. -/
def xOf (x : List Q) (no : Nat) : Q := x.getD no 0
/-- c = FF + KP e + X (R175). -/
def Cand.value (c : Cand) (x : List Q) : Q := if c.integ then c.ff + c.kp * c.e + xOf x c.no else c.ff

/-- Seconds of root ticks. -/
def secOf (ticks : Nat) : Q := (ticks : Q) / 312500000

/-- The ENVELOPE candidate: the SRS ramp (R290), the ramp-in (R295), else I_ABS_MAX. -/
def State.envelope (s : State) (n : Nat) : Q :=
  let iAbs := s.getQ (Gal.CONV_CFG.I_ABS_MAX n)
  let p := (s.g n).prot
  match s.gstate n, (s.grp (s.groupOf n)).srsAt, p.rampAt with
  | .rampDown, some t, _ => qmax 0 (p.srsE0 - s.secQ Obj.SAFETY_CFG.SRS_RAMP * secOf (s.since t))
  | _, _, some t => qmin iAbs (s.getQ Obj.SAFETY_CFG.RAMP_IN * secOf (s.since t))
  | _, _, none => iAbs

/-- v_min or v_max of R176: the lowest or highest last valid voltage, drop added back. -/
def State.extremeV (s : State) (n : Nat) (high : Bool) : Option (Nat × Q) :=
  let l := ((s.g n).cells.mapIdx (fun p c => c.vLast.map (fun v => (p, v)))).filterMap id
  if high then bestOf l else leastOf l

/-- L_fold of R182 for a limit, in terms of the way from the trip level to the knee. -/
def foldOf (lim f v knee floor : Q) : Q :=
  let x := (v - floor) / (knee - floor)
  if 1 ≤ x then lim else if x ≤ 0 then lim * f else lim * (f + (1 - f) * x)

/-- L_dir of R176, and L_fold (R182). -/
def State.folded (s : State) (n : Nat) (dir : Int) (v? : Option (Nat × Q)) : Q × Q :=
  let lim := s.inEffect n (if dir = 1 then Gal.LOOP_LIMITS.DCL n else Gal.LOOP_LIMITS.CCL n)
  let f := s.getQ (Gal.FOLDBACK.I_AT_FLOOR n)
  match v? with
  | none => (lim, lim * f)
  | some (_, v) =>
    if dir = 1 then (lim, foldOf lim f v (s.getQ (Gal.FOLDBACK.DIS_KNEE n)) (s.getQ (Gal.FOLDBACK.DIS_FLOOR n)))
    else (lim, foldOf lim f v (s.getQ (Gal.FOLDBACK.CHG_KNEE n)) (s.getQ (Gal.FOLDBACK.CHG_CEILING n)))

/-- R_lim in ohm (R176). -/
def State.rLim (s : State) (n p : Nat) : Q :=
  let e := (s.cell n p).est
  (if e.ready then e.ohm else s.getQ (Gal.LOOP_PARAMS.R_DEFAULT n)) / 1000

/-- I_head of R191. -/
def State.iHead (s : State) (n : Nat) : Q :=
  let iAbs := s.getQ (Gal.CONV_CFG.I_ABS_MAX n)
  let de := s.getQ (Gal.CONV_CFG.HS_DERATE n)
  let sh := s.getQ (Gal.CONV_CFG.HS_SHUT n)
  match (s.g n).tread.ths with
  | none => 0
  | some t => if t ≤ de then iAbs else qmax 0 (iAbs * (sh - t) / (sh - de))

/-- SOC_low and SOC_high of a string (R176). -/
def State.socBounds (s : State) (n : Nat) : Q × Q :=
  let l := (s.g n).cells.map (fun c => c.est.lowHigh)
  (qminD 0 (l.map (·.1)), qmaxD 1 (l.map (·.2)))

/-- The candidates that participate in DIRECTION (Table 6-3). -/
def State.candidates (s : State) (n : Nat) (x : LoopIn) : List Cand :=
  let q := s.getQ
  let v? := s.extremeV n (x.dir != 1)
  let (lim, fold) := s.folded n x.dir v?
  let bus := (s.g n).meas.bus
  let str := (s.g n).meas.string
  let volt := match v? with
    | none => []
    | some (p, v) =>
      let e := if x.dir = 1 then v - q (Gal.LOOP_LIMITS.VMIN_TARGET n) else q (Gal.LOOP_LIMITS.VMAX_TARGET n) - v
      let ff := x.i + divF s.free e (s.rLim n p)
      if x.dir = 1 then
        [({ no := 3, ff := ff, e := e, kp := q (Gal.LOOP_PARAMS.VMIN_KP n), ki := q (Gal.LOOP_PARAMS.VMIN_KI n), integ := true } : Cand)]
      else
        [({ no := 2, ff := ff, e := e, kp := q (Gal.LOOP_PARAMS.VMAX_KP n), ki := q (Gal.LOOP_PARAMS.VMAX_KI n), integ := true } : Cand)]
  let eSoc := if x.dir = 1 then (s.socBounds n).1 - q (Gal.LOOP_LIMITS.SOC_MIN n) else q (Gal.LOOP_LIMITS.SOC_MAX n) - (s.socBounds n).2
  let eBus := if x.dir = 1 then q (Gal.LOOP_LIMITS.BUS_V_HIGH n) - bus else bus - q (Gal.LOOP_LIMITS.BUS_V_LOW n)
  let demand : Cand :=
    if x.mode = 2 then
      if x.set = 0 then { no := 8, ff := 0 }
      else { no := 8, ff := divF s.free (qabs x.set) str, e := divF s.free (qabs x.set - str * x.i) str
             kp := q (Gal.LOOP_PARAMS.POWER_KP n), ki := q (Gal.LOOP_PARAMS.POWER_KI n), integ := true }
    else if x.mode = 1 ∧ x.set ≠ 0 then
      { no := 9, ff := qabs x.set, e := qabs x.set - x.i
        kp := q (Gal.LOOP_PARAMS.CURRENT_KP n), ki := q (Gal.LOOP_PARAMS.CURRENT_KI n), integ := true }
    else { no := 9, ff := 0 }
  [({ no := 1, ff := s.envelope n } : Cand)] ++ volt ++
  [{ no := 4, ff := fold, e := fold - x.i, kp := q (Gal.LOOP_PARAMS.FOLD_KP n), ki := q (Gal.LOOP_PARAMS.FOLD_KI n), integ := true },
   { no := 5, ff := qmin (q (Gal.THERMAL_STATUS.THROTTLE_I n)) (s.iHead n) },
   { no := 6, ff := lim * qclamp 0 1 (eSoc / q (Gal.LOOP_LIMITS.SOC_BAND n)) },
   { no := 7, ff := x.i + eBus * 1000 / q (Gal.LOOP_PARAMS.R_BUS n), e := eBus
     kp := q (Gal.LOOP_PARAMS.BUS_KP n), ki := q (Gal.LOOP_PARAMS.BUS_KI n), integ := true },
   demand]

/-! ### Selection (R177 to R180) -/

/-- The outcome of a selection: winner, I_sel, SATURATED, whether a hand-over took place, the winner's c, integrators. -/
structure Sel where
  w    : Nat
  iSel : Q
  sat  : Bool
  hand : Bool
  cw   : Q
  x    : List Q
deriving DecidableEq, Repr

/-- Selection in RUNNING (R177), the preload of a hand-over (R179) and the integrator of the winner (R178). -/
def selectRun (cands : List Cand) (x : List Q) (prev : Nat) (iPrev iAbs step : Q) : Sel :=
  let cs := cands.map (fun c => (c.no, c.value x))
  let w := ((leastOf cs).map (·.1)).getD 0
  let c := (cands.find? (fun c => c.no == w)).getD { no := 0, ff := 0 }
  let hand := decide (prev ≠ 0) && decide (w ≠ prev)
  let t := match leastOf (cs.filter (fun e => e.1 != w)) with
    | some o => qmin iPrev o.2
    | none => iPrev
  let x := if hand && c.integ then modAt x w (fun _ => t - c.ff - c.kp * c.e) else x
  let cw := if hand then t else c.value x
  let out := qmin (qmax 0 (qmin cw iAbs)) (iPrev + step)
  let sat := decide (out ≠ cw)
  { w := w, iSel := out, sat := sat, hand := hand, cw := cw
    x := if c.integ && !sat then modAt x w (fun y => y + c.ki * c.e * 32 / 1000000) else x }

/-- The output in REVERSING and STOPPING (R177): it falls at RAMP_RATE, or to a lower candidate other than POWER and CURRENT. -/
def fallOut (cands : List Cand) (x : List Q) (iPrev iAbs step : Q) : Q :=
  let cs := (cands.filter (fun c => decide (c.no < 8))).map (fun c => c.value x)
  qmax 0 (qmin (qmin (iPrev - step) iAbs) (qminD iAbs cs))

/-! ### Ripple and references (R185) -/

/-- The pair of voltages that the ripple uses: of this superframe, or the last valid pair. -/
def State.ripplePair (s : State) (n : Nat) : Option (Q × Q) :=
  let h := (s.g n).meas
  if h.headOk ∧ 0 < h.bus ∧ 0 < h.string then some (h.bus, h.string) else (s.g n).tread.vLast

/-- The peak-to-peak ripple of one phase, none while no pair has been valid. -/
def State.ripple (s : State) (n : Nat) : Option Q :=
  (s.ripplePair n).map (fun p =>
    let lo := qmin p.1 p.2
    let hi := qmax p.1 p.2
    lo * (1 - lo / hi) * (s.getN (Gal.CONV_CFG.PERIOD n) : Q) * (16 / 5) / (s.getN (Gal.CONV_CFG.PHASE_L n) : Q))

/-- The peak of a used phase in A, before its clamp. -/
def State.phasePeak (s : State) (n : Nat) (iDem : Q) : Q :=
  if iDem = 0 then 0 else iDem / (s.getN (Gal.CONV_CFG.PHASES_USED n) : Q) + ((s.ripple n).getD 0) / 2

/-- Whether a demand would clamp a reference at PHASE_I_MAX. -/
def State.clamps (s : State) (n : Nat) (iDem : Q) : Bool := decide (s.getQ (Gal.CONV_CFG.PHASE_I_MAX n) < qabs (s.phasePeak n iDem))

/-- Rounding to the nearest, ties away from zero. -/
def roundAway (x : Q) : Int := if x < 0 then -(qround (-x)) else qround x

/-- REF[0..7] in mA for a demand. -/
def State.refsOf (s : State) (n : Nat) (dir : Int) (iDem : Q) : List Int :=
  let pk := qmin (s.phasePeak n iDem) (s.getQ (Gal.CONV_CFG.PHASE_I_MAX n))
  (List.range 8).map (fun p => if p < s.getN (Gal.CONV_CFG.PHASES_USED n) then dir * roundAway (pk * 1000) else 0)

/-! ### Converter states (Table 6-6, R192) -/

/-- The code of a state. -/
def ConvState.code : ConvState → Nat
  | .off => 0 | .standby => 1 | .running => 2 | .reversing => 3 | .stopping => 4 | .held => 5 | .inhibited => 6 | .tripped => 7

/-- Whether a state runs control steps (R165). -/
def ConvState.steps : ConvState → Bool
  | .running | .reversing | .stopping => true
  | _ => false

/-- The setpoint in force with its mode (Table 6-8). -/
def State.setpoint (s : State) (n : Nat) : Nat × Q :=
  let m := s.getN (Gal.CONV_REFS.SETPOINT_MODE n)
  (m, if m = 1 then s.getQ (Gal.CONV_REFS.I_SET n) else if m = 2 then s.getQ (Gal.CONV_REFS.P_SET n) else 0)
/-- DIRECTION. -/
def State.dirOf (s : State) (n : Nat) : Int := s.getI (Gal.LOOP_STATUS.DIRECTION n)
/-- The sign of a setpoint. -/
def signOf (x : Q) : Int := if x < 0 then -1 else if x = 0 then 0 else 1
/-- HEAD INHIBITED: INHIBITED or INHIBIT_LATCH. -/
def State.headInh (s : State) (n : Nat) : Bool := s.flag (Gal.FLIGHT_STATUS.HEAD_STATUS n) 0 || s.flag (Gal.FLIGHT_STATUS.HEAD_STATUS n) 1
/-- TRIP: a trip cause of R183 or R191 stands. -/
def State.tripOn (s : State) (n : Nat) : Bool :=
  let t := (s.g n).tread
  decide (t.tripFold ≠ 0) || t.tripHs || t.tripOt

/-- The converter enters a state; STATE follows, and ENABLE by R192. -/
def State.toConv (s : State) (n : Nat) (st : ConvState) : State :=
  let s := (s.updTread n (fun t => { t with
    state := st, zero := 0, parityStart := decide (st = .held) && t.parityStart
    enable := match st with
      | .running => true
      | .standby | .tripped | .off => false
      | _ => t.enable })).setN (Gal.LOOP_STATUS.STATE n) st.code
  match st with
  | .held => (s.inc (Gal.COUNTERS.HOLDS n)).holdInsert n
  | .tripped =>
    let t := (s.g n).tread
    (s.inc (Gal.COUNTERS.TRIPS n)).setN (Gal.LOOP_STATUS.TRIP_CAUSE n)
      (if t.tripFold ≠ 0 then t.tripFold else if t.tripHs then 3 else 4)
  | _ => s

/-- I_sel := 0, and REF := 0. -/
def State.zeroOut (s : State) (n : Nat) : State :=
  (s.updTread n (fun t => { t with iPrev := 0, iDem := 0, refs := List.replicate 8 0 })).setR (Gal.LOOP_STATUS.I_SEL n) (some 0)
/-- Every integrator to 0, no previous winner. -/
def State.zeroX (s : State) (n : Nat) : State := s.updTread n (fun t => { t with x := List.replicate 10 0, prev := 0 })

/-- A start (R180, R172). -/
def State.start (s : State) (n : Nat) (dir : Int) : State := ((s.zeroX n).zeroOut n).setI (Gal.LOOP_STATUS.DIRECTION n) dir
/-- DIRECTION at a start by the setpoint. -/
def State.startDir (s : State) (n : Nat) : Int := if (s.setpoint n).2 < 0 then -1 else 1
/-- Entry to RUNNING with a start. -/
def State.startRun (s : State) (n : Nat) : State := (s.toConv n .running).start n (s.startDir n)
/-- RUNNING or STANDBY, by CONVERTER_ENABLE. -/
def State.byEnable (s : State) (n : Nat) (en : Bool) : State := if en then s.startRun n else (s.toConv n .standby).zeroOut n

/-- The one row of Table 6-6 that applies in a step, by the order of R192; `hold`: a HOLD cause stands; `fresh`: the step has data. -/
def State.convRow (s : State) (n : Nat) (hold fresh : Bool) : State :=
  let t := (s.g n).tread
  let en := decide (s.getN (Gal.CONV_CFG.CONVERTER_ENABLE n) = 1)
  let inh := s.headInh n
  let trip := s.tripOn n
  let sp := signOf (s.setpoint n).2
  let dir := s.dirOf n
  match t.state with
  | .off =>
    let s := s.updTread n (fun t => { t with evDe := if t.evEn then t.evDe else false, evEn := false, evRestart := false })
    if t.evEn then
      if inh then (s.toConv n .inhibited).zeroOut n
      else if trip then (s.toConv n .tripped).zeroOut n
      else s.byEnable n en
    else s
  | st =>
    let s := s.updTread n (fun t => { t with evEn := false })
    if t.evDe then
      let s := s.updTread n (fun t => { t with evDe := false, evRestart := false })
      (((s.toConv n .off).zeroOut n).zeroX n)
    else
      let busy := st.steps || decide (st = .held)
      if inh && (busy || decide (st = .standby)) then
        let s := s.toConv n .inhibited
        if busy then (s.zeroOut n).zeroX n else s
      else if trip && (busy || decide (st = .standby)) then (s.toConv n .tripped).zeroOut n
      else if hold && st.steps then s.toConv n .held
      else match st with
        | .tripped =>
          if t.evRestart then
            let s := s.updTread n (fun t => { t with evRestart := false })
            if !trip && !inh then (s.setN (Gal.LOOP_STATUS.TRIP_CAUSE n) 0).byEnable n en else s
          else s
        | .standby => if en then s.startRun n else s
        | .running =>
          if !en then s.toConv n .stopping
          else if sp ≠ 0 ∧ sp ≠ dir then s.toConv n .reversing
          else s
        | .reversing =>
          if !en then s.toConv n .stopping
          else if sp = 0 ∨ sp = dir then s.toConv n .running
          else if s.getN (Gal.CONV_CFG.REVERSE_DWELL n) ≤ t.zero then
            ((s.toConv n .running).start n (-dir)).inc (Gal.COUNTERS.REVERSALS n)
          else s
        | .stopping =>
          if en then s.toConv n .running
          else if t.iPrev = 0 then (s.toConv n .standby).zeroOut n
          else s
        | .held =>
          if hold || !fresh then s
          else
            let s := s.toConv n (if en then .running else .stopping)
            if t.parityStart then
              let s := s.start n (s.startDir n)
              s.updTread n (fun t => { t with iPrev := qmax 0 ((s.dirOf n : Q) * s.stringI n) })
            else s
        | .inhibited =>
          if inh then s
          else if trip then (s.toConv n .tripped).zeroOut n
          else s.byEnable n en
        | .off => s

/-! ### The checks of a step (R183, R191) -/

/-- T_hs from the readings of superframe k (R191, R251). -/
def State.thsUpdate (s : State) (n : Nat) : State :=
  let (r, broken) := hsReading (s.g n).meas.headT
  let s := if broken then s.raise (Gal.FAULTS.THERMAL_FAULTS n) 3 else s
  s.updTread n (fun t => { t with ths := match r with
    | some x => some x
    | none => t.ths })

/-- The count and the trip of R183; `counting`: the converter runs control steps. -/
def State.foldTrip (s : State) (n : Nat) (counting : Bool) : State :=
  let dir := s.dirOf n
  let t := (s.g n).tread
  let lo := s.extremeV n false
  let hi := s.extremeV n true
  let beyond := if dir = 1 then (match lo with
      | some v => decide (v.2 ≤ s.getQ (Gal.FOLDBACK.DIS_FLOOR n))
      | none => false)
    else (match hi with
      | some v => decide (s.getQ (Gal.FOLDBACK.CHG_CEILING n) ≤ v.2)
      | none => false)
  let cnt := if counting && beyond then t.foldCnt + 1 else 0
  let back := match t.tripFold, lo, hi with
    | 1, some v, _ => decide (s.getQ (Gal.FOLDBACK.DIS_KNEE n) ≤ v.2)
    | 2, _, some v => decide (v.2 ≤ s.getQ (Gal.FOLDBACK.CHG_KNEE n))
    | _, _, _ => false
  let fire := decide (t.tripFold = 0) && decide (0 < cnt) && decide (s.getN (Gal.FOLDBACK.TRIP_TIME n) ≤ cnt)
  let s := s.updTread n (fun t => { t with
    foldCnt := cnt, tripFold := if fire then (if dir = 1 then 1 else 2) else if back then 0 else t.tripFold })
  if fire then s.raise (Gal.FAULTS.CONV_FAULTS n) 1 else s

/-- The head temperatures of R191. -/
def State.headChecks (s : State) (n : Nat) : State :=
  let t := (s.g n).tread
  let warnSt := s.flag (Gal.FLIGHT_STATUS.HEAD_STATUS n) 6
  let shutSt := s.flag (Gal.FLIGHT_STATUS.HEAD_STATUS n) 7
  let sh := s.getQ (Gal.CONV_CFG.HS_SHUT n)
  let at_ : Q → Bool := fun l => match t.ths with
    | some x => decide (l ≤ x)
    | none => false
  let cool := (match t.ths with
    | some x => decide (x ≤ sh - s.getQ (Gal.CONV_CFG.HS_HYST n))
    | none => false) && !shutSt
  let s := if at_ (s.getQ (Gal.CONV_CFG.HS_WARN n)) || warnSt then s.raise (Gal.FAULTS.CONV_FAULTS n) 2 else s
  let s := if at_ sh || shutSt then s.raise (Gal.FAULTS.CONV_FAULTS n) 3 else s
  s.updTread n (fun t => { t with
    tripHs := if at_ sh then true else t.tripHs && !cool, tripOt := if shutSt then true else t.tripOt && !cool })

/-! ### The step (R165, R187 to R190) -/

/-- LOOP_STATUS and FOLDBACK of a step that computed the candidates. -/
def State.loopReport (s : State) (n : Nat) (cands : List Cand) (x : List Q) (dir : Int) : State :=
  let s := (List.range' 1 9).foldl (fun s i =>
    s.setR (Gal.LOOP_STATUS.CAND n i) ((cands.find? (fun c => c.no == i)).map (fun c => c.value x))) s
  let (lim, fold) := s.folded n dir (s.extremeV n (dir != 1))
  (s.setR (Gal.FOLDBACK.L_FOLD n) (some fold)).setN (Gal.FOLDBACK.FOLDING n) (b2n (decide (fold < lim)))

/-- I_sel of a step, with WINNER and SATURATED. -/
def State.selReport (s : State) (n w : Nat) (iSel : Q) (sat : Bool) : State :=
  ((s.setN (Gal.LOOP_STATUS.WINNER n) w).setR (Gal.LOOP_STATUS.I_SEL n) (some iSel)).setN (Gal.LOOP_STATUS.SATURATED n) (b2n sat)

/-- The current the loops see (R165). -/
def State.loopI (s : State) (n : Nat) (dir : Int) : Q := (dir : Q) * s.stringI n - ((s.g n).tread.exHist.getD 2 0)

/-- I_sel of a fresh step by the converter's state. -/
def State.loops (s : State) (n : Nat) : State :=
  let t := (s.g n).tread
  let dir := s.dirOf n
  let sp := s.setpoint n
  let cands := s.candidates n { dir := dir, i := s.loopI n dir, mode := sp.1, set := sp.2 }
  let iAbs := s.getQ (Gal.CONV_CFG.I_ABS_MAX n)
  let step := s.getQ (Gal.CONV_CFG.RAMP_RATE n) * 32 / 1000000
  let s := { s with free := s.free + 1 }
  match t.state with
  | .running =>
    let r := selectRun cands t.x t.prev t.iPrev iAbs step
    let s := (s.loopReport n cands t.x dir).setR (Gal.LOOP_STATUS.CAND n r.w) (some r.cw)
    let s := (s.selReport n r.w r.iSel r.sat).updTread n (fun t => { t with x := r.x, prev := r.w, iPrev := r.iSel })
    if r.hand then s.inc (Gal.COUNTERS.HANDOVERS n) else s
  | .reversing | .stopping =>
    let out := fallOut cands t.x t.iPrev iAbs step
    let s := s.loopReport n cands t.x dir
    (s.selReport n (s.getN (Gal.LOOP_STATUS.WINNER n)) out true).updTread n (fun t => { t with
      iPrev := out, zero := if out = 0 then t.zero + 1 else 0 })
  | .held => s.loopReport n cands t.x dir
  | _ => s

/-- References of a fresh step that ran the loops. -/
def State.formRefs (s : State) (n : Nat) : State :=
  let sp := (s.g n).spec
  let iDem := (s.g n).tread.iPrev - sp.a + sp.ex
  let s := if s.clamps n iDem then s.raise (Gal.FAULTS.CONV_FAULTS n) 6 else s
  s.updTread n (fun t => { t with refs := s.refsOf n (s.dirOf n) iDem, iDem := iDem })

/-- A parity error in the register file (R189, R190). -/
def State.parityFound (s : State) (n : Nat) : State :=
  let s := (s.inc (Gal.COUNTERS.TREAD_PARITY_ERRORS n)).raise (Gal.FAULTS.CONV_FAULTS n) 4
  (s.zeroX n).updTread n (fun t => { t with iPrev := 0, zero := 0, foldCnt := 0, parityStart := t.state.busy })

/-- Stale and fresh steps, and the HOLD cause of R188. -/
def State.staleCount (s : State) (n : Nat) (stale : Bool) : State :=
  let t := (s.g n).tread
  let k := if stale then t.stale + 1 else 0
  let f := if stale then 0 else t.fresh + 1
  let hold := if 4 ≤ k then true else if 4 ≤ f then false else t.staleHold
  let s := s.updTread n (fun t => { t with stale := k, fresh := f, staleHold := hold })
  let s := if hold && !t.staleHold && t.state.steps then s.raise (Gal.FAULTS.CONV_FAULTS n) 5 else s
  if stale && t.state.busy then s.inc (Gal.COUNTERS.STALE_STEPS n) else s

/-- The superframe with this SF_NUM is not complete at t = 10,000 (R34). -/
def State.sfDelayed (s : State) (n sf : Nat) : State := (s.inc Obj.DIAG.SF_DELAYED).record 0x0010 1 n 1 (leBytes 4 sf)

/-- The excitation of the active as a standby follows it from the mirror (R357). -/
def State.specMirror (s : State) (n grid : Nat) (m : MirStr) (iSel : Q) : State :=
  let x := s.excSet n
  let w := grid / x.size
  let old := s.specSt n
  let live := decide (m.exc = 2) || decide (m.exc = 3) || decide (m.exc = 5)
  let amp := s.ampNow n
  let s := (s.setN (Gal.SPECTRUM_STATUS.STATE n) m.exc).setR (Gal.SPECTRUM_STATUS.A_APPLIED n) (some amp)
  let s := s.setN (Gal.SPECTRUM_STATUS.PENDING_INDEX n) (if m.exc = 4 ∨ m.exc = 5 then m.excIdx else 0xFFFFFFFF)
  let s := s.updSpec n (fun r => { r with
    a := if live then amp else 0, ex := if live then x.ex amp (if m.exc = 5 then m.excIdx - 1 else m.excIdx) else 0
    n := if m.exc = 4 ∨ m.exc = 5 then m.excIdx else m.excIdx + 1
    wins := if m.exc = 0 then [] else r.wins })
  let why := b2n (decide (m.conv ≠ 2)) + 2 * b2n (decide (iSel < 2 * amp)) + 128 * b2n (decide (amp = 0))
  let why := if why ≠ 0 then why else if Config.freeBool s.free then 4 else 8
  let s := { s with free := s.free + 1 }
  let s := if m.exc = 0 ∨ m.exc = 1 ∨ m.exc = 4 then s.takeWaiting n else s
  if m.exc = 0 ∨ x.tones = [] then s
  else if grid % x.size = 0 then
    if m.exc = 2 then s.newWin n w 1 0 iSel
    else if m.exc = 3 then s.newWin n w 2 0 iSel
    else s.newWin n w 0 (if m.exc = 1 then why else 256) iSel
  else if (old = 2 ∨ old = 3) ∧ m.exc = 4 then s.updWin n (fun y => { y with reasons := y.reasons ||| why })
  else if m.exc = 2 ∨ m.exc = 3 then s.winSel n iSel
  else s

/-- The mirrored entry of a string. -/
def State.mirStr (s : State) (n : Nat) : Option MirStr := s.red.mirror.bind (fun m => m.strings[n]?)

/-- The Tread engine of a standby tracks the active's converter (R355). -/
def State.standbyStep (s : State) (n grid : Nat) : State :=
  match s.mirStr n with
  | none => s
  | some m =>
    let set : Q := if m.mode = 1 then (m.set : Q) / 1000 else if m.mode = 2 then (m.set : Q) else 0
    let i := s.loopI n m.dir
    let cands := s.candidates n { dir := m.dir, i := i, mode := m.mode, set := set }
    let x := (s.g n).tread.x
    let cs := cands.map (fun c => (c.no, c.value x))
    let w := ((leastOf cs).map (·.1)).getD 0
    let c := (cands.find? (fun c => c.no == w)).getD { no := 0, ff := 0 }
    let meas : Q := (m.dir : Q) * s.stringI n
    let t := match leastOf (cs.filter (fun e => e.1 != w)) with
      | some o => qmin meas o.2
      | none => meas
    let x := if c.integ then modAt x w (fun _ => t - c.ff - c.kp * c.e) else x
    let s := { s with free := s.free + 1 }
    let s := (s.loopReport n cands x m.dir).setR (Gal.LOOP_STATUS.CAND n w) (some t)
    let s := (s.selReport n w t false).setI (Gal.LOOP_STATUS.DIRECTION n) m.dir
    let s := s.updTread n (fun r => { r with x := x, prev := w, iPrev := t, zero := 0 })
    s.specMirror n grid m t

/-- One control step of a string. -/
def State.controlStep (s : State) (n : Nat) (parity : Bool) : State :=
  let s := s.takeHeld n
  let h := (s.g n).meas
  let come := !h.stepped
  let stale := !(come && h.fresh)
  let s := s.updG n (fun g => { g with meas := { g.meas with
    stepped := true, grid := if come then g.meas.grid else g.meas.grid + 1, sf := if come then g.meas.sf else (g.meas.sf + 1) % 2 ^ 32 } })
  let grid := (s.g n).meas.grid
  let s := if (!come || !h.whole) && s.trunkUp n then s.sfDelayed n (s.g n).meas.sf else s
  let s := s.staleCount n stale
  let s := if parity then s.parityFound n else s
  let s := if stale then s else s.thsUpdate n
  let t := (s.g n).tread
  let hold := t.staleHold || t.pauseHold || parity
  let s := s.convRow n hold (!stale)
  let st := (s.g n).tread.state
  let s := if s.role = 3 then (if stale then s else s.standbyStep n (grid + 3))
    else
      let s := if stale then s else s.loops n
      let sp := (s.g n).spec
      let s := if sp.takeEx = 0 then s
        else if s.flag (Gal.FLIGHT_STATUS.HEAD_STATUS n) 2 then s.residual n sp.takeEx (s.dirOf n)
        else s.updSpec n (fun r => { r with takeEx := 0 })
      let s := s.specStep n (grid + 3) (s.g n).tread.iPrev (decide (st = .running)) stale (decide (st = .off))
        (decide (st = .held) || stale && st.steps) (s.clamps n)
      if st.steps then (if stale then s else s.formRefs n)
      else if decide (st = .held) then s
      else s.updTread n (fun t => { t with refs := List.replicate 8 0, iDem := 0 })
  let s := s.setR (Gal.CONV_REFS.RIPPLE n) (s.ripple n)
  let s := s.updTread n (fun r => { r with
    resume := decide (st ≠ .held), refsValid := !(stale && st.busy)
    exHist := ((s.g n).spec.ex - (s.g n).spec.a) :: r.exHist.take 2
    vLast := s.ripplePair n })
  let s := if stale then s else (s.foldTrip n st.steps).headChecks n
  let s := s.updProt n (fun p => { p with rampAt := match p.rampAt with
    | some at_ =>
      if s.getQ (Gal.CONV_CFG.I_ABS_MAX n) ≤ s.getQ Obj.SAFETY_CFG.RAMP_IN * secOf (s.since at_) then none else p.rampAt
    | none => none })
  s.demodulate n grid h.tick (come && h.headOk && decide (s.getN (Gal.PROT_STATUS.SENSOR n) ≠ 1)) come h.alignStep

/-- CONTROL_STEP (R165): `parity` is a parity error found in the register file in this step. -/
def execControlStep (n : Nat) (parity : Bool) (s : State) : Out :=
  if s.hasGal n && s.strOn n then .next (s.controlStep n parity) else .next s

/-! ### RESTART and CONVERTER_ENABLE (R193, R82) -/

/-- RESTART: only in TRIPPED, with no TRIP and HEAD CLEAR. -/
def restartEff (n : Nat) (_ : Val) (s : State) : Except Nat State :=
  if decide ((s.g n).tread.state = .tripped) && !s.tripOn n && !s.headInh n then
    .ok (s.updTread n (fun t => { t with evRestart := true }))
  else .error abortState

/-- RESTART. -/
def execRestart (path : Path) (n : Nat) (s : State) : Out := .next (s.write path (0x4008 + 0x40 * n) 9 [1] (restartEff n))

/-- CONVERTER_ENABLE: the next step sees it. -/
def execConverterEnable (path : Path) (n on : Nat) (s : State) : Out :=
  .next (s.write path (0x4008 + 0x40 * n) 1 (leBytes 1 on) (storeVal (0x4008 + 0x40 * n) 1))

/-! ### Telemetry (R194 to R197) and plausibility (R275, R276) -/

/-- The mean of one of a window's sums; none where more than half of the window has no data, or it began before the start. -/
def Window.mean (w : Window) (len startAt : Nat) (x : Q) : Option Q :=
  if startAt ≤ w.idx * len ∧ len / 10000 ≤ 2 * w.count ∧ 0 < w.count then some (x / (w.count : Q)) else none

/-- Phase mismatch of a 100 ms window (R186). -/
def State.mismatchEval (s : State) (n : Nat) (means : List (Option Q)) : State :=
  let used := s.getN (Gal.CONV_CFG.PHASES_USED n)
  let ms := (means.take used).filterMap id
  let avg := qsum ms / (used : Q)
  if ms.length = used ∧ avg ≠ 0 ∧ s.getQ (Gal.CONV_CFG.PHASE_I_MAX n) / 10 ≤ qabs avg then
    match bestOf (ms.mapIdx (fun p m => (p, qabs (m - avg) / qabs avg))) with
    | none => s
    | some (p, m) =>
      let bad := decide (s.getQ (Gal.CONV_CFG.MISMATCH_WARN n) < m)
      let k := if bad then (s.g n).telem.mismatch + 1 else 0
      let s := (s.setR (Gal.PHASE_TELEM.MISMATCH n) (some m)).setN (Gal.PHASE_TELEM.WORST_PHASE n) p
      let s := s.updG n (fun g => { g with telem := { g.telem with mismatch := k } })
      if 10 ≤ k then s.raise (Gal.FAULTS.CONV_FAULTS n) 0 else s
  else s

/-- Plausibility of the current sensors over a 100 ms window (R275, R276). -/
def State.plausEval (s : State) (n : Nat) (shunt hall bus str : Option Q) (phases : List (Option Q)) : State :=
  let used := s.getN (Gal.CONV_CFG.PHASES_USED n)
  let ms := (phases.take used).filterMap id
  let ref : Option Q :=
    if (s.g n).tread.state ≠ .running ∨ ms.length ≠ used then none
    else if s.getN Obj.SAFETY_CFG.PHASE_SIDE = 1 then
      match bus, str with
      | some b, some v => if v = 0 then none else some (qsum ms * b / v)
      | _, _ => none
    else some (qsum ms)
  let s := s.setR (Gal.PROT_STATUS.PHASE_REF n) ref
  match shunt, hall with
  | some a, some b =>
    let pa := s.getQ Obj.SAFETY_CFG.PLAUS_ABS
    let pr := s.getQ Obj.SAFETY_CFG.PLAUS_REL
    let ok := decide (qabs (a - b) ≤ pa + pr * qabs a)
    let s := s.updProt n (fun p => { p with
      disagree := if ok then 0 else p.disagree + 1, agree := if ok then p.agree + 1 else 0 })
    let p := (s.g n).prot
    let sensor := s.getN (Gal.PROT_STATUS.SENSOR n)
    if sensor = 0 ∧ s.getN Obj.SAFETY_CFG.PLAUS_TIME ≤ p.disagree ∧ !ok then
      let out := match ref with
        | none => 3
        | some r =>
          let near : Q → Bool := fun x => decide (qabs (x - r) ≤ pa + 2 * pr * qabs r)
          if qabs (b - r) < qabs (a - r) ∧ near b = true then 1
          else if qabs (a - r) ≤ qabs (b - r) ∧ near a = true then 2
          else 3
      let s := s.setN (Gal.PROT_STATUS.SENSOR n) out
      if out = 1 then s.raise (Gal.FAULTS.PROT_FAULTS n) 2
      else if out = 2 then s.raise (Gal.FAULTS.PROT_FAULTS n) 3
      else s.setCause n 9 true 0xFFFF
    else if sensor ≠ 0 ∧ s.atRest n = true ∧ 10 ≤ p.agree then
      (s.setN (Gal.PROT_STATUS.SENSOR n) 0).setCause n 9 false 0xFFFF
    else s
  | _, _ => s.updProt n (fun p => { p with disagree := 0, agree := 0 })

/-- A window ends (R194, R195): its averages are published; `second` is the 1 s window, else the 100 ms window. -/
def State.windowClose (s : State) (n : Nat) (second : Bool) : State :=
  let len := if second then 312500000 else 31250000
  let tl := (s.g n).telem
  let w := if second then tl.w1s else tl.w100
  let m := fun (x : Q) => w.mean len tl.startAt x
  let at_ := fun (i : Nat) => m (w.sums.getD i 0)
  let key := fun (a b : Nat) => if second then b else a
  let had := (s.getR (key (Gal.TELEMETRY.I_100MS n) (Gal.TELEMETRY.I_1S n))).isSome
  let s := s.setR (key (Gal.TELEMETRY.I_100MS n) (Gal.TELEMETRY.I_1S n)) (at_ 0)
  let s := s.setR (key (Gal.TELEMETRY.P_100MS n) (Gal.TELEMETRY.P_1S n)) (at_ 1)
  let s := s.setR (key (Gal.TELEMETRY.BUS_V_100MS n) (Gal.TELEMETRY.BUS_V_1S n)) (at_ 2)
  let s := s.setR (key (Gal.TELEMETRY.STRING_V_100MS n) (Gal.TELEMETRY.STRING_V_1S n)) (at_ 3)
  let w' : Window := { idx := max (w.idx + 1) (s.now / len), endAt := if (at_ 0).isSome || had then s.root else w.endAt }
  let s := s.updG n (fun g => { g with
    telem := if second then { g.telem with w1s := w' } else { g.telem with w100 := w' } })
  if second then
    let s := s.setN (Gal.TELEMETRY.MISSING_1S n) (31250 - w.count)
    if s.energised n && decide (2 * w.count < 31250) then s.updEst n (fun e => { e with restAt := s.now, corrAt := none }) else s
  else
    let used := s.getN (Gal.CONV_CFG.PHASES_USED n)
    let ps := w.phases.map m
    let s := (List.range 8).foldl (fun s p => s.setR (Gal.PHASE_TELEM.PHASE_I n p) (if p < used then ps.getD p none else none)) s
    (s.mismatchEval n ps).plausEval n (at_ 5) (at_ 4) (at_ 2) (at_ 3) ps

/-- A superframe's values enter a window (R194); one that belongs to a later window closes the open one first. -/
def State.windowAdd (s : State) (n : Nat) (second : Bool) (tick : Nat) (sums phases : List Q) : State :=
  let len := if second then 312500000 else 31250000
  let w := if second then (s.g n).telem.w1s else (s.g n).telem.w100
  let s := if w.idx < tick / len then s.windowClose n second else s
  let add := fun (w : Window) => if tick / len < w.idx then w else
    { w with count := w.count + 1, sums := List.zipWith (· + ·) w.sums sums, phases := List.zipWith (· + ·) w.phases phases }
  s.updG n (fun g => { g with
    telem := if second then { g.telem with w1s := add g.telem.w1s } else { g.telem with w100 := add g.telem.w100 } })

/-- TELEMETRY_WINDOW (R194): a window that plant time has passed ends. -/
def execTelemetryWindow (n : Nat) (second : Bool) (s : State) : Out :=
  let len := if second then 312500000 else 31250000
  let w := if second then (s.g n).telem.w1s else (s.g n).telem.w100
  if s.hasGal n && s.strOn n && decide ((w.idx + 1) * len ≤ s.now) then .next (s.windowClose n second) else .next s

/-- One held peak meets a superframe value (R197); `new`: no superframe since the last read. -/
def peakOf (old : Option Q) (seen : Bool) (x : Q) (better : Q → Q → Bool) : Option Q :=
  match old, seen with
  | some o, true => some (if better x o then x else o)
  | _, _ => some x

/-- The objects of the held peaks, in the order of their numbers: 0 to 2, then the phases from 3 on. -/
def peakKey (n i : Nat) : Nat :=
  if i = 0 then Gal.TELEMETRY.PEAK_I_DIS n else if i = 1 then Gal.TELEMETRY.PEAK_I_CHG n
  else if i = 2 then Gal.TELEMETRY.PEAK_BUS_V n else Gal.PHASE_TELEM.PHASE_PEAK n (i - 3)

/-- Every held peak takes the values of a superframe. -/
def State.peaksAdd (s : State) (n : Nat) (i bus : Q) (phases : List Q) : State :=
  let put := fun (s : State) (k : Nat) (x : Q) (better : Q → Q → Bool) =>
    s.setR (peakKey n k) (peakOf (s.getR (peakKey n k)) ((s.g n).telem.peakNew.getD k false) x better)
  let up : Q → Q → Bool := fun a b => decide (b < a)
  let s := put (put (put s 0 i up) 1 i (fun a b => decide (a < b))) 2 bus up
  let s := (List.range 8).foldl (fun s p => match phases[p]? with
    | some x => put s (3 + p) x (fun a b => decide (qabs b < qabs a))
    | none => s) s
  s.updG n (fun g => { g with telem := { g.telem with peakNew := List.replicate 11 true } })

/-- A read of a held peak (R197, R46): the value, and a new hold from the next superframe; without a superframe since, not-a-number. -/
def peakReadOf (n i : Nat) (s : State) : Except Nat (List Byte × State) :=
  let v := if (s.g n).telem.peakNew.getD i false then s.getR (peakKey n i) else none
  .ok (leBytes 4 (bitsOfReal v),
    (s.setR (peakKey n i) none).updG n (fun g => { g with telem := { g.telem with peakNew := modAt g.telem.peakNew i (fun _ => false) } }))

/-- The index and sub-index of a held peak. -/
def peakPlace (n i : Nat) : Nat × Nat := if i < 3 then (0x4010 + 0x40 * n, 0x0D + i) else (0x4011 + 0x40 * n, 0x09 + (i - 3))

/-- A value meets held peak `i`: the more extreme stands. -/
def State.peakHit (s : State) (n i : Nat) (x : Q) : State :=
  let better : Q → Q → Bool := fun a b => if i = 1 then decide (a < b) else if i < 3 then decide (b < a) else decide (qabs b < qabs a)
  let seen := (s.g n).telem.peakNew.getD i false
  (s.setR (peakKey n i) (peakOf (s.getR (peakKey n i)) seen x better)).updG n (fun g => { g with
    telem := { g.telem with peakNew := modAt g.telem.peakNew i (fun _ => true) } })

/-- PEAK_READ (R197): held peak `i`, 0 to 2 of TELEMETRY, 3 to 10 of PHASE_TELEM. A new peak `meets` that comes in the cycle of the read is
held after it (R46). -/
def execPeakRead (path : Path) (n : Nat) (peak : PeakHit) (s : State) : Out :=
  let i := peak.idx
  if i < 11 then
    let t := s.readWith path (peakPlace n i).1 (peakPlace n i).2 (peakReadOf n i)
    .next (match peak.meets with
      | some x => if s.strOn n then t.peakHit n i x else t
      | none => t)
  else .next s

end Sys2Proof.Machine
end

