-- ==== Sys2Proof/Machine/Heads.lean ====
section
/-! DEFINITION. String head and cell monitors (chapters 4 and 5): blocks, authority, HOLD, references, loop path, commands at their
targets, sampling, comparators, sweeps, balancing switches and sleep. -/
namespace Sys2Proof.Machine

/-! ### Blocks (R109) -/

/-- A header block is used when its CRC over the payload is right and its K29.7 stands where it should. -/
def hdrGood (b : Blk) (len : Nat) : Bool := b.endOk && b.payload.length == len && crc32c b.payload == b.crc
/-- Every other block's CRC runs over SF_NUM and then the payload. -/
def blkGood (b : Blk) (sf len : Nat) : Bool := b.endOk && b.payload.length == len && crc32c (leBytes 4 sf ++ b.payload) == b.crc

/-- A header block as it is sent: its CRC runs over the payload. -/
def hdrOf (p : List Byte) : Blk := { payload := p, crc := crc32c p, endOk := true }
/-- Any other block as it is sent: its CRC runs over SF_NUM and the payload. -/
def blkOf (sf : Nat) (p : List Byte) : Blk := { payload := p, crc := crc32c (leBytes 4 sf ++ p), endOk := true }
/-- An empty slot: all zero, PRESENT 0, with a correct CRC (R112, R114). -/
def emptySlot (sf : Nat) : Blk := blkOf sf (List.replicate 88 0)

/-- The command entries of a CMD field (Table 4-9). -/
def entriesOf (bs : List Byte) : List Entry :=
  (List.range 4).map (fun i => { op := fieldN bs (16 * i) 1, target := fieldN bs (16 * i + 1) 1, tag := fieldN bs (16 * i + 2) 1,
                                 status := fieldN bs (16 * i + 3) 1, args := slice bs (16 * i + 4) 12 })

/-- The 16 bytes of an entry; `who` is TARGET or SOURCE. -/
def entryBytes (who : Nat) (e : Entry) : List Byte :=
  leBytes 1 e.op ++ leBytes 1 who ++ leBytes 1 e.tag ++ leBytes 1 e.status ++ (e.args ++ List.replicate 12 0).take 12

/-! ### The head's authority and HOLD (R130 to R133) -/

/-- Whether the head obeys a port: in DUAL the port obeyed first (Table 4-16). -/
def Head.obeys (h : Head) (onB : Bool) : Bool :=
  match h.auth with
  | .obeyA => !onB
  | .obeyB => onB
  | .dual => onB == h.firstB
  | _ => false

/-- Whether REFS and BAL of a port are used: the obeyed trunk, and both in DUAL (R132, R133). -/
def Head.takes (h : Head) (onB : Bool) : Bool :=
  match h.auth with
  | .dual => true
  | _ => h.obeys onB

/-- The port that times the head: the one obeyed, else its own port A (R104). -/
def Head.times (h : Head) (onB : Bool) : Bool :=
  match h.auth with
  | .none | .dualFault => !onB
  | _ => h.obeys onB

/-- Entry to HOLD: the references stay, and the hold timer runs. -/
def Head.enterHold (h : Head) (root : Nat) : Head := if h.holding then h else { h with holding := true, holdAt := root }

/-- Gate inhibit is asserted and latched (R128). -/
def Head.inhibit (h : Head) : Head := { h with inhibited := true, latch := true }

/-- Whether some HEAD_CMP or CMP bit is set. -/
def Head.anyCmp (h : Head) : Bool := decide (h.cmp ≠ 0) || h.nodeCmp

/-- While holding, the head inhibits on its own comparators (R130). -/
def Head.localCheck (h : Head) : Head := if h.holding && h.anyCmp then { h.inhibit with local_ := true } else h

/-- The tokens of `k` superframes on a port, one valid or `k` not valid, and Table 4-16. -/
def Head.token (h : Head) (onB valid : Bool) (k root : Nat) : Head :=
  let tok := if valid then (if onB then h.tokB else h.tokA) + 1 else 0
  let no := if valid then 0 else (if onB then h.noTokB else h.noTokA) + k
  let had := if onB then h.haveB else h.haveA
  let other := if onB then h.haveA else h.haveB
  let has := if 4 ≤ tok then true else if 4 ≤ no then false else had
  let h := if onB then { h with tokB := tok, noTokB := no, haveB := has } else { h with tokA := tok, noTokA := no, haveA := has }
  let gain := has && !had
  let lose := had && !has
  let h := match h.auth with
    | .none =>
      if gain then
        if other then { h with auth := .dual, firstB := false, overlap := 1 }
        else { h with auth := if onB then .obeyB else .obeyA, firstB := onB, gainAt := root }
      else h
    | .obeyA =>
      if gain && onB then { h with auth := .dual, firstB := false, overlap := 1 }
      else if lose && !onB then { h with auth := .none }
      else h
    | .obeyB =>
      if gain && !onB then { h with auth := .dual, firstB := decide (5000 ≤ root - h.gainAt), overlap := 1 }
      else if lose && onB then { h with auth := .none }
      else h
    | .dual =>
      if lose then { h with auth := if onB then .obeyA else .obeyB, firstB := !onB, overlap := 0 }
      else if onB == h.firstB then { h with overlap := h.overlap + k }
      else h
    | .dualFault => h
  match h.auth with
  | .none | .dualFault => h.enterHold root
  | _ => h

/-- The root tick of the last superframe on a port. -/
def Head.rx (h : Head) (onB : Bool) : Nat := if onB then h.rxB else h.rxA

/-- The superframes that are missing on a port before the one that arrives now: they carry no token and no REFS (R130, R131). -/
def Head.gap (h : Head) (onB : Bool) (root : Nat) : Head :=
  let k := (root - h.rx onB + 5000) / 10000 - 1
  if k = 0 then h
  else
    let h := if h.obeys onB then { h with missRefs := h.missRefs + k } else h
    h.token onB false k root

/-- A port that has been silent for 4 superframes loses its authority (R131). -/
def Head.silence (h : Head) (onB : Bool) (root : Nat) : Head :=
  let k := (root - h.rx onB) / 10000
  if k < 4 then h else h.token onB false k root

/-! ### References (R132, R168 to R171) -/

/-- A reference clamped to the head's own rating. -/
def rated (x : Int) : Int := if Config.headRating < x.natAbs then (if x < 0 then -(Config.headRating : Int) else Config.headRating) else x

/-- R132 for one phase: the smaller magnitude of equal signs, else 0. -/
def mergeRef (a b : Int) : Int :=
  if (0 ≤ a ∧ 0 ≤ b) ∨ (a ≤ 0 ∧ b ≤ 0) then (if a.natAbs ≤ b.natAbs then a else b) else 0

/-- The references, ENABLE and skipped phases that the head loads from its ports. -/
def Head.load (h : Head) (root : Nat) : Head :=
  let new := match h.auth with
    | .dual => List.zipWith mergeRef h.refsA h.refsB
    | .obeyB => h.refsB
    | _ => h.refsA
  let new := new.map rated
  let en := match h.auth with
    | .dual => h.enA && h.enB
    | .obeyB => h.enB
    | _ => h.enA
  { h with
    refs := new, enable := en
    otArm := h.otArm || (!h.otShut && en && !h.enable)
    skip := maskOf 8 (fun p => decide (h.refs.getD p 0 * new.getD p 0 < 0)), skipAt := root }

/-- Whether phase p is switched: enabled, not inhibited, no over-temperature, below PHASES_USED, and a reference other than 0. -/
def Head.switches (h : Head) (p root : Nat) : Bool :=
  h.enable && !h.inhibited && h.otArm && !h.otShut && decide (p < bits (h.regs.getD 4 0) 19 16) && decide (h.refs.getD p 0 ≠ 0) &&
  !(bit h.skip p && decide (root - h.skipAt < bits (h.regs.getD 4 0) 15 0))

/-- REFS of a superframe on a port (R130, R169). -/
def Head.takeRefs (h : Head) (onB ok : Bool) (payload : List Byte) (root : Nat) : Head :=
  let rs := (List.range 8).map (fun p => fieldI payload (4 * p) 4)
  let ctrl := fieldN payload 36 4
  let h := if ok then
      if onB then { h with refsB := rs, enB := bit ctrl 1 } else { h with refsA := rs, enA := bit ctrl 1 }
    else h
  if h.takes onB then
    let h := if h.obeys onB then { h with stale := !ok, missRefs := if ok then 0 else h.missRefs + 1 } else h
    let h := if ok && bit ctrl 0 && h.obeys onB then { h with holding := false } else h
    let h := if 4 ≤ h.missRefs then h.enterHold root else h
    if ok && !h.holding then h.load root else h
  else h

/-! ### Commands at the head (R117, R118, R121, R133) -/

/-- Whether a port alone holds authority. -/
def Head.alone (h : Head) (onB : Bool) : Bool := if onB then h.haveB && !h.haveA else h.haveA && !h.haveB

/-- Whether an address is one of the maker's (R121). -/
def makerReg (a : Nat) : Bool := decide (0x100 ≤ a)

/-- WRITE_REG at the head: the registers Table 4-13 marks rw, with the ranges it gives; none where it is refused with 0x02. -/
def headWrite (regs : List Nat) (a v : Nat) : Option (List Nat) :=
  let put := some (modAt regs a (fun _ => v))
  if a = 2 then (if v ≤ 39 then put else none)
  else if a = 3 then (if 30 ≤ v ∧ v ≤ 200 then put else none)
  else if a = 4 then
    let p := bits v 15 0
    let used := bits v 19 16
    if (p = 1000 ∨ p = 1250 ∨ p = 2000 ∨ p = 2500 ∨ p = 5000) ∧ used ≠ 0 ∧ used ≤ regs.getD 1 1 then put else none
  else if 5 ≤ a ∧ a ≤ 13 then put
  else none

/-- An entry executed by the head: status, data and the head. `result` is what SELFTEST finds; `maker` what a maker's register reads. -/
def Head.run (h : Head) (onB : Bool) (e : Entry) (result maker : Nat) : Nat × List Byte × Head :=
  let a := fieldN e.args 0 2
  let v := fieldN e.args 4 4
  let clear := decide (h.cmp = 0) && decide (h.trip = 0) && decide (h.cmpOld = 0) && !h.nodeCmp && !h.nodeCmpOld
  if e.op = 1 then
    (0, leBytes 2 (h.regs.getD 0 0) ++ leBytes 1 (h.regs.getD 1 1) ++ leBytes 1 h.nodesSeen ++ leBytes 4 (h.regs.getD 14 0) ++
      leBytes 2 Config.unitFw, h)
  else if e.op = 2 then
    if a < 16 then (0, leBytes 4 (h.regs.getD a 0), h) else if makerReg a then (0, leBytes 4 maker, h) else (2, [], h)
  else if !h.obeys onB && !(e.op == 9 && decide (h.auth = .dualFault) && h.alone onB) then (6, [], h)
  else if e.op = 3 then
    match headWrite h.regs a v with
    | some r => (0, leBytes 4 (r.getD a 0), { h with regs := r })
    | none => (2, [], h)
  else if e.op = 8 then
    match h.path with
    | .wrap | .split => (0, [], { h with path := .ring, breakAfter := 0xFF, breakTriple := false })
    | _ => (3, [], h)
  else if e.op = 9 then
    if clear then
      (0, [], { h with
        latch := false, inhibited := false, expired := false, local_ := false
        auth := if h.auth = .dualFault then (if onB then .obeyB else .obeyA) else h.auth
        firstB := if h.auth = .dualFault then onB else h.firstB
        overlap := if h.auth = .dualFault then 0 else h.overlap })
    else (3, [], h)
  else if e.op = 10 then
    if h.inhibited then (0, [], { h with asleep := true, checkMs := fieldN e.args 0 4 }) else (3, [], h)
  else if e.op = 11 then (0, leBytes 4 result, h)
  else (1, [], h)

/-- Whether the head executes a command of a port: from the trunk it obeys, and in DUAL_FAULT a RELEASE of the port that alone holds
authority (R133, Table 4-16). -/
def Head.executes (h : Head) (onB : Bool) (e : Entry) : Bool := h.obeys onB || (e.op == 9 && decide (h.auth = .dualFault) && h.alone onB)

/-- A command entry reaches the head on a port: a TAG equal to the last executed one has its stored response sent again (R119). -/
def Head.exec (h : Head) (onB : Bool) (e : Entry) (result maker : Nat) : Head :=
  let own := h.executes onB e
  let run :=
    let x := h.run onB e result maker
    let r := { e with target := 0, status := x.1, args := x.2.1 }
    { x.2.2 with
      resp := x.2.2.resp ++ [r], lastTag := if own then e.tag else h.lastTag, lastResp := if own then some r else h.lastResp }
  if e.op = 0 then h
  else match h.lastResp with
    | some r => if own && h.lastTag == e.tag then { h with resp := h.resp ++ [r] } else run
    | none => run

/-! ### Monitors (R115, R121, R139, R146, R148 to R151, R155, R159) -/

/-- POS_COUNT of a monitor. -/
def Monitor.count (m : Monitor) : Nat := min 16 (m.regs.getD 2 16)

/-- BAL_LIMITS enforced: the requested switches in ascending order, leaving open each that would break the limits (R151). -/
def limitBal (maxClosed : Nat) (noAdj : Bool) (count req : Nat) : Nat :=
  (List.range count).foldl (fun acc i =>
    let n := ((List.range 16).filter (fun j => bit acc j)).length
    if bit req i && decide (n < maxClosed) && !(noAdj && decide (0 < i) && bit acc (i - 1)) then withBit acc i true else acc) 0

/-- The switches closed by BAL and a switch test's override. -/
def Monitor.close (m : Monitor) (req : Nat) : Nat :=
  let lim := m.regs.getD 8 0x21
  let b := limitBal (bits lim 4 0) (bit lim 5) m.count req
  match m.ovr with
  | some (p, _) => withBit b p true
  | none => b

/-- Sleep: every switch opens (R151, R159). CHECK_FAIL ends. -/
def Monitor.sleep (m : Monitor) (ms : Nat) (tLimit : Int) (root : Nat) : Monitor :=
  { m with asleep := true, checkMs := ms, tLimit := tLimit, checkAt := root, bal := 0, balReq := 0, ovr := none, checkFail := false }

/-- The mask of COMP in DELAY_COMP that a write changes (Table 5-2). -/
def compWrite (old v : Nat) : Nat := old / 65536 * 65536 + v % 8192

/-- An entry executed by a monitor in loop frame `sf`. Step 2 of SWITCH_TEST lets the switch follow BAL again (R155). -/
def Monitor.run (m : Monitor) (e : Entry) (sf result maker root : Nat) : Nat × List Byte × Monitor :=
  let a := fieldN e.args 0 2
  let v := fieldN e.args 4 4
  if e.op = 1 then
    (0, leBytes 2 (m.regs.getD 1 0) ++ leBytes 1 (m.regs.getD 2 0) ++ leBytes 1 (m.regs.getD 0 0) ++ leBytes 4 (m.regs.getD 3 0) ++
      leBytes 2 Config.unitFw ++ leBytes 1 m.addr, m)
  else if e.op = 2 then
    if a < 10 then (0, leBytes 4 (m.regs.getD a 0), m) else if makerReg a then (0, leBytes 4 maker, m) else (2, [], m)
  else if e.op = 3 then
    let put := fun (w : Nat) => (0, leBytes 4 w, { m with regs := modAt m.regs a (fun _ => w) })
    if a = 5 then put (compWrite (m.regs.getD 5 0) v)
    else if a = 6 ∨ a = 7 then put v
    else if a = 8 then (if 1 ≤ bits v 4 0 ∧ bits v 4 0 ≤ 16 then put (v % 64) else (2, [], m))
    else if a = 9 then (if v % 16 = 0 then (2, [], m) else put (v % 16))
    else (2, [], m)
  else if e.op = 4 then
    let d := toSigned 32 (ofSigned 32 ((fieldN e.args 0 4 : Int) - sf))
    if d ≤ 0 then (0, [], { m with resetAt := some ((sf + 1) % 2 ^ 32) })
    else if d ≤ 1024 then (0, [], { m with resetAt := some (fieldN e.args 0 4) })
    else (2, [], m)
  else if e.op = 5 then
    if m.sweepBusy then (4, [], m) else (0, [], { m with sweepBusy := true, sweepMask := fieldN e.args 0 1 })
  else if e.op = 6 then
    let p := fieldN e.args 0 1
    let step := fieldN e.args 1 1
    if step = 1 ∧ p < 16 then (0, leBytes 4 3, { m with ovr := some (p, 64), bal := withBit m.bal p true })
    else if step = 2 ∧ p < 16 then
      let m := { m with ovr := none }
      let b := m.close m.balReq
      (0, leBytes 4 (b2n (bit b p)), { m with bal := b })
    else (2, [], m)
  else if e.op = 7 then
    if fieldN e.args 4 4 = m.regs.getD 3 0 then
      (0, [], { m with regs := modAt (modAt m.regs 1 (fun _ => fieldN e.args 0 2)) 2 (fun _ => fieldN e.args 2 1) })
    else (2, [], m)
  else if e.op = 10 then (0, [], m.sleep (fieldN e.args 0 4) (fieldI e.args 4 2) root)
  else if e.op = 11 then
    (0, leBytes 4 result ++ leBytes 4 m.lastCheck, { m with selfRes := result, selfFail := decide (result ≠ 0) })
  else (1, [], m)

/-- A command entry reaches a monitor (R117, R119). -/
def Monitor.exec (m : Monitor) (e : Entry) (sf result maker root : Nat) : Monitor :=
  if e.op = 0 then m
  else
    let fresh :=
      let x := m.run e sf result maker root
      let r := { e with target := m.addr, status := x.1, args := x.2.1 }
      { x.2.2 with resp := some r, lastTag := e.tag, lastResp := some r }
    match m.lastResp with
    | some r => if m.lastTag = e.tag then { m with resp := some r } else fresh
    | none => fresh

/-! ### Commands at their target, as steps of their own -/

/-- A command executed by unit `node`: 0 is the head on a port, else a monitor. -/
def State.unitExec (s : State) (n : Nat) (onB : Bool) (node : Nat) (e : Entry) (result : Nat) : State :=
  if !s.hasGal n then s
  else
    let maker := Config.freeNat s.take.1 % 2 ^ 32
    let s := s.take.2
    if node = 0 then s.updHead n (fun h => h.exec onB e result maker)
    else
      let sf := (s.g n).head.loopSf
      s.updMon n node (fun m => m.exec e sf result maker s.root)

/-- The twelve bytes of ARGS. -/
def args12 (bs : List Byte) : List Byte := (bs ++ List.replicate 12 0).take 12

/-- IDENTIFY (R122): in a frame with ASSIGN a monitor takes ADDR_CTR + 1, or ADDR_CTR - 1 on the reverse half. -/
def execIdentify (n : Nat) (onB : Bool) (node tag : Nat) (assign : Bool) (ctr : Nat) (reverse : Bool) (s : State) : Out :=
  let s := if assign && decide (0 < node) then s.updMon n node (fun m => { m with addr := if reverse then ctr - 1 else ctr + 1 }) else s
  .next (s.unitExec n onB node { op := 1, target := node, tag := tag, args := args12 [] } 0)

/-- READ_REG (R121). -/
def execReadReg (n : Nat) (onB : Bool) (node tag addr : Nat) (s : State) : Out :=
  .next (s.unitExec n onB node { op := 2, target := node, tag := tag, args := args12 (leBytes 2 addr) } 0)

/-- WRITE_REG (R121, R139, R167). -/
def execWriteReg (n : Nat) (onB : Bool) (node tag addr value : Nat) (s : State) : Out :=
  .next (s.unitExec n onB node { op := 3, target := node, tag := tag, args := args12 (leBytes 2 addr ++ leBytes 2 0 ++ leBytes 4 value) } 0)

/-- SYNC_RESET (R146): `sf` is the SF_NUM of the frame that carries it, `x` the frame at which it takes effect. -/
def execSyncReset (n node tag sf x : Nat) (s : State) : Out :=
  .next ((s.updHead n (fun h => { h with loopSf := sf })).unitExec n false node { op := 4, target := node, tag := tag, args := args12 (leBytes 4 x) } 0)

/-- SWEEP (R149). -/
def execSweep (n node tag mask : Nat) (s : State) : Out :=
  .next (s.unitExec n false node { op := 5, target := node, tag := tag, args := args12 (leBytes 1 mask) } 0)

/-- SWITCH_TEST (R155). -/
def execSwitchTest (n node tag pos step : Nat) (s : State) : Out :=
  .next (s.unitExec n false node { op := 6, target := node, tag := tag, args := args12 (leBytes 1 pos ++ leBytes 1 step) } 0)

/-- COMMISSION (R118). -/
def execCommission (n node tag first count serial : Nat) (s : State) : Out :=
  let a := args12 (leBytes 2 first ++ leBytes 1 count ++ leBytes 1 0 ++ leBytes 4 serial)
  .next (s.unitExec n false node { op := 7, target := node, tag := tag, args := a } 0)

/-- RESTORE_RING (Table 4-15). -/
def execRestoreRing (n : Nat) (onB : Bool) (tag : Nat) (s : State) : Out :=
  .next (s.unitExec n onB 0 { op := 8, target := 0, tag := tag, args := args12 [] } 0)

/-- RELEASE (R118, Table 4-16). -/
def execRelease (n : Nat) (onB : Bool) (tag : Nat) (s : State) : Out :=
  .next (s.unitExec n onB 0 { op := 9, target := 0, tag := tag, args := args12 [] } 0)

/-- SLEEP (R159). -/
def execSleep (n : Nat) (onB : Bool) (node tag ms : Nat) (tLimit : Int) (s : State) : Out :=
  .next (s.unitExec n onB node { op := 10, target := node, tag := tag, args := args12 (leBytes 4 ms ++ leBytes 2 (ofSigned 16 tLimit)) } 0)

/-- SELFTEST (R160): `result` is the result word (Table 5-11). -/
def execSelftest (n : Nat) (onB : Bool) (node tag : Nat) (result : Nat) (s : State) : Out :=
  .next (s.unitExec n onB node { op := 11, target := node, tag := tag, args := args12 [] } (result % 64))

/-! ### A downstream superframe at the head (R111, R113, R126) -/

/-- The code of a path state (Table 4-4). -/
def LoopPath.code : LoopPath → Nat
  | .down => 0 | .ring => 1 | .wrap => 2 | .split => 3

/-- HEAD_STATUS (Table 4-5). -/
def Head.status (h : Head) : Nat :=
  b2n h.inhibited + 2 * b2n h.latch + 4 * b2n h.holding + 8 * b2n h.expired + 16 * b2n h.local_ + 32 * b2n h.stale +
  64 * b2n h.otWarn + 128 * b2n h.otShut + 256 * b2n h.upA + 512 * b2n h.upB + 1024 * b2n h.slack +
  4096 * ((h.regs.getD 1 1 - 1) % 16)

/-- AUTH (Table 4-4); `validA` and `validB` are the tokens of the last superframes. -/
def Head.authByte (h : Head) : Nat :=
  b2n (decide (0 < h.tokA)) + 2 * b2n (decide (0 < h.tokB)) + 4 * b2n (h.obeys false) + 8 * b2n (h.obeys true) +
  16 * b2n (decide (h.auth = .dual)) + 32 * b2n (decide (h.auth = .dualFault))

/-- The header, measurement and response payloads of the upstream superframe that answers `sf` (Table 4-4). -/
def Head.answer (h : Head) (sf : Nat) : Head :=
  let hdr := leBytes 4 sf ++ leBytes 4 h.status ++ leBytes 1 h.nodesSeen ++ leBytes 1 h.path.code ++ leBytes 1 h.breakAfter ++
    leBytes 1 h.authByte ++ leBytes 2 h.downErr ++ leBytes 2 h.codeErr ++ List.replicate 8 0
  let m := fun i => h.meas.getD i 0
  let meas := (List.range 12).flatMap (fun i => int4 (m i)) ++ (List.range 4).flatMap (fun i => leBytes 2 (ofSigned 16 (h.meas.getD (12 + i) (-32768)))) ++
    leBytes 4 (h.cmp ||| h.trip ||| h.cmpOld) ++ leBytes 4 0
  let resp := (h.resp.take 4).flatMap (entryBytes 0)
  { h with
    upHdr := hdr, upMeas := meas, upResp := (resp ++ List.replicate 64 0).take 64, resp := h.resp.drop 4, sfEcho := sf
    cmpOld := h.cmp ||| h.trip, trip := 0, nodeCmpOld := h.nodeCmp, nodeCmp := false }

/-- The upstream superframe that answers loop frame k (R111, R112, R114): NODES_SEEN counts the slots filled so far; each slot as it
returned, and empty where none returned. -/
def Head.upFrame (h : Head) (leaves : Nat) : UpFrame :=
  let sf := h.sfEcho
  let back := if h.path = .down then [] else h.slots
  { sf := sf
    header := hdrOf (h.upHdr.take 8 ++ leBytes 1 back.length ++ h.upHdr.drop 9)
    head := blkOf sf h.upMeas, hresp := blkOf sf h.upResp
    nodes := (List.range' 1 39).map (fun i => (SMap.find? back i).getD (emptySlot sf))
    inserted := if h.breakTriple then 3 else 0, leaves := leaves, onA := h.upA, onB := h.upB }

/-- The upstream superframe with the slots that have come back by now. -/
def Head.refreshUp (h : Head) : Head := { h with up := h.up.map (fun u => h.upFrame u.leaves) }

/-- The loop frame of a downstream superframe (R113): SF_NUM, SAMPLE_AT, BAL and CMD as received; CARRIER_PHASE as written before. -/
def Head.launch (h : Head) (sf sample : Nat) (cmds : List Entry) : Head :=
  let bal := match h.auth with
    | .dual => List.zipWith (fun a b => a &&& b) h.balA h.balB
    | .obeyB => h.balB
    | .obeyA => h.balA
    | _ => h.loopBal
  let cmds := cmds.filter (fun e => e.op != 0)
  { h with
    loopSf := sf, sampleAt := sample, loopBal := bal, loopCmd := cmds, slots := [], ctrF := 0, ctrR := h.regs.getD 2 0 + 1
    insF := 0, insR := 0, assign := cmds.any (fun e => e.op == 1 && e.target == 0xFF) }

/-- Commands of a CMD field that is qualified: from the obeyed trunk those to the head; from another every one is answered. -/
def Head.commands (h : Head) (onB : Bool) (cmds : List Entry) (result maker : Nat) : Head :=
  cmds.foldl (fun h e =>
    if e.op = 0 then h
    else if e.target = 0 then h.exec onB e result maker
    else if h.obeys onB then h
    else { h with resp := h.resp ++ [{ e with target := 0, status := 6, args := [] }] }) h

/-- The head receives a downstream superframe on a port. A CARRIER_PHASE that it carries applies from the next loop frame (R138). -/
def Head.receive (h : Head) (onB : Bool) (d : DownSuper) (result maker root : Nat) : Head :=
  let many := decide (64 < d.inserted)
  let hdr := !many && hdrGood d.header 16
  let sf := if hdr then fieldN d.header.payload 0 4 else (h.sfEcho + 1) % 2 ^ 32
  let q := fun (b : Blk) (len : Nat) => hdr && blkGood b sf len
  let tk := q d.token 24
  let refs := q d.refs 44
  let bal := q d.bal 80
  let cmd := q d.cmd 64
  let bad := b2n (!hdr) + b2n (!tk) + b2n (!refs) + b2n (!bal) + b2n (!cmd)
  let h := (h.gap onB root).silence (!onB) root
  let h := if onB then { h with rxB := root } else { h with rxA := root }
  let h := { h with
    asleep := false, carrier := if h.times onB then h.regs.getD 5 0 else h.carrier
    wakeOut := h.wakeOut && decide (root < h.wakeAt + msTicks 20)
    slack := many, downErr := (h.downErr + bad) % 65536, codeErr := (h.codeErr + d.codeErrs) % 65536 }
  let h := if hdr then (if onB then { h with upB := true } else { h with upA := true }) else h
  let tp := d.token.payload
  let valid := tk && d.k27 && fieldN tp 12 1 == 1 && fieldN tp 0 8 != 0 && fieldN tp 14 4 == sf
  let h := h.token onB valid 1 root
  let rv := bit (fieldN d.header.payload 6 1) 0
  let h := h.takeRefs onB (refs && rv && fieldN d.refs.payload 32 4 == sf) d.refs.payload root
  let h := if d.hold && h.obeys onB then h.enterHold root else h
  let h := if d.inhibit then h.inhibit else h
  let bs := (List.range 40).map (fun i => fieldN d.bal.payload (2 * i) 2)
  let h := if bal then (if onB then { h with balB := bs } else { h with balA := bs }) else h
  let cmds := if cmd then entriesOf d.cmd.payload else []
  let h := h.commands onB cmds result maker
  let h := h.localCheck
  if h.times onB then
    let h := (h.launch sf (if hdr then fieldN d.header.payload 4 2 else 0xFFFF) (if h.obeys onB then cmds else [])).answer sf
    { h with up := some (h.upFrame (root + 4000)) }
  else h

/-- HEAD_SUPERFRAME_RX (R111). While SAMPLE_AT of the frame before is 0xFFFF nothing is latched (R135). -/
def execHeadSuperframeRx (n : Nat) (onB : Bool) (d : DownSuper) (s : State) : Out :=
  if !s.hasGal n then .next s
  else
    let result := Config.freeNat s.take.1 % 64
    let s := s.take.2
    let maker := Config.freeNat s.take.1 % 2 ^ 32
    let s := s.take.2
    let s := if (s.g n).head.sampleAt = 0xFFFF then
        s.updG n (fun g => { g with mons := g.mons.map (fun m => { m with v := List.replicate 16 0x800000 }) })
      else s
    .next (s.updHead n (fun h => h.receive onB d result maker s.root))

/-- HEAD_HOLD_TIMEOUT (R130): the hold timer runs out. -/
def execHeadHoldTimeout (n : Nat) (s : State) : Out :=
  let h := (s.g n).head
  if s.hasGal n && h.holding && s.passed h.holdAt (msTicks (h.regs.getD 3 40)) then
    .next (s.updHead n (fun h => (({ h.inhibit with expired := true } : Head).silence false s.root).silence true s.root))
  else .next s

/-- HEAD_TRUNK_LOSS (R130, R131, R104): the port no longer receives superframes; the obeyed trunk's loss enters HOLD, and a port that has
been silent for 4 superframes loses its authority. -/
def execHeadTrunkLoss (n : Nat) (onB : Bool) (s : State) : Out :=
  if s.hasGal n then
    .next (s.updHead n (fun h =>
      let lost := h.obeys onB
      let h := if onB then { h with upB := false } else { h with upA := false }
      let h := if lost then (h.enterHold s.root).localCheck else h
      ((h.silence onB s.root).localCheck).refreshUp))
  else .next s

/-- DUAL_FAULT (Table 4-16): the overlap count has reached 62 superframes. -/
def execDualFault (n : Nat) (s : State) : Out :=
  let h := (s.g n).head
  if s.hasGal n && decide (h.auth = .dual) && decide (62 ≤ h.overlap) then
    .next (s.updHead n (fun h => ({ h.inhibit with auth := .dualFault } : Head).enterHold s.root))
  else .next s

/-! ### The loop (R122, R125, R126, R114) -/

/-- The next path state (Table 4-15). -/
def nextPath (h : Head) (b : LoopBack) : LoopPath :=
  let seen := b.forward + b.reverse
  let all := (b.returned || b.turned) && decide (h.regs.getD 2 0 ≤ seen)
  match h.path with
  | .down => if b.returned || b.turned then .wrap else .down
  | .ring =>
    if seen = 0 ∧ 1 ≤ h.lostSf ∧ !b.returned then .down else if b.returned && !b.turned then .ring else .wrap
  | .wrap => if seen = 0 ∧ 1 ≤ h.lostSf then .down else if all then .wrap else .split
  | .split => if seen = 0 ∧ 1 ≤ h.lostSf then .down else if all then .wrap else .split

/-- LOOP_FRAME_EVALUATE (R126): the head evaluates loop frame k. -/
def execLoopFrameEvaluate (n : Nat) (back : LoopBack) (s : State) : Out :=
  if s.hasGal n then
    .next (s.updHead n (fun h =>
      let p := nextPath h back
      let seen := back.forward + back.reverse
      let cut := decide (p = .wrap) || decide (p = .split)
      let enters := cut && decide (p ≠ h.path)
      { h with
        path := p, nodesSeen := seen, lostSf := if seen = 0 then h.lostSf + 1 else 0
        breakAfter := if p = .ring then 0xFF else back.after
        breakTriple := cut, up := h.up.map (fun u => if enters then { u with inserted := u.inserted + 3 } else u) }))
  else .next s

/-- The comparator bits of a frame: those latched at S(k) (R148); as they stand while nothing is sampled. -/
def Monitor.cmpNow (m : Monitor) : Nat := m.cmpS.getD (m.cmp ||| m.trip)

/-- The frames a comparator's trip is still to be reported in, and the rest of a slot's state, move on by one frame. -/
def Monitor.nextFrame (m : Monitor) : Monitor :=
  { m with
    cmpOld := m.cmpNow, trip := if m.cmpS.isSome then m.trip else 0, cmpS := none
    settling := m.settling - 1, tempLeft := m.tempLeft - 1, resp := none
    ovr := match m.ovr with
      | some (p, k + 2) => some (p, k + 1)
      | _ => none }

/-- The words V of a slot (R115): no data for positions that the monitor does not serve. -/
def Monitor.volts (m : Monitor) : List Nat := (List.range 16).map (fun i => if i < m.count then m.v.getD i 0x800000 else 0x800000)

/-- The CMP bits of the positions that a monitor serves (R115). -/
def Monitor.served (m : Monitor) : Nat := maskOf 32 (fun i => decide (i % 16 < m.count))

/-- The CMP word of a slot: each trip in its frame and the next, for the positions served (R115). -/
def Monitor.cmpWord (m : Monitor) : Nat := (m.cmpNow ||| m.cmpOld) &&& m.served

/-- STATUS of a slot (Table 4-10). -/
def Monitor.statusWord (m : Monitor) (reverse rxErr : Bool) : Nat :=
  1 + 2 * b2n (decide (0 < m.settling)) + 4 * b2n (decide (0 < m.tempLeft)) + 8 * b2n m.selfFail + 16 * b2n rxErr + 32 * b2n reverse +
  64 * b2n m.turning + 128 * b2n (m.turning && m.farUp) + 256 * b2n m.checkFail + 1024 * (m.addr % 64) + 65536 * (m.bal % 65536)

/-- The 88 bytes of a slot's payload (Table 4-8). -/
def Monitor.slotBytes (m : Monitor) (reverse rxErr : Bool) : List Byte :=
  (m.volts.flatMap (leBytes 3)) ++ leBytes 4 m.cmpWord ++ leBytes 4 (m.statusWord reverse rxErr) ++
  ((List.range 8).flatMap (fun i => leBytes 2 (if 0 < m.tempLeft then m.temps.getD i 0x8000 else 0x8000))) ++
  (match m.resp with
   | some r => entryBytes r.target r
   | none => List.replicate 16 0)

/-- A loop frame arrives at a monitor after power-on or sleep, or with its lost link back: its receiver locks anew, with the forwarding
latency of this lock (R140), and its filters restart (R146); after power-on and sleep nothing is latched for this frame. -/
def Monitor.rouse (m : Monitor) (farUp : Bool) (lat : Nat) : Monitor :=
  let cold := m.asleep || !m.locked
  if cold || (m.sigLost && farUp) then
    { m with
      asleep := false, locked := true, settling := 5, v := if cold then List.replicate 16 0x800000 else m.v
      regs := modAt m.regs 5 (fun w => w % 2 ^ 24 + 2 ^ 24 * min 255 lat) }
  else m

/-- The echo of the loop K28.5 over the link towards address + 1 (R140): in RING the round trip, in units of 0.2 tick, sets LINK_MEAS; else
the output carries frames, or nothing comes back, and LINK_MEAS keeps its value. -/
def Monitor.echo (m : Monitor) (ring : Bool) (trip : Option Nat) : Monitor :=
  match trip with
  | some t =>
    if ring then
      { m with regs := modAt m.regs 5 (fun w => w % 2 ^ 16 + 2 ^ 16 * min 255 ((t - 40) / 2) + w / 2 ^ 24 * 2 ^ 24) }
    else m
  | none => m

/-- SYNC_RESET takes effect at its frame (R146). -/
def Monitor.resetIfDue (m : Monitor) (sf : Nat) : Monitor :=
  if m.resetAt = some sf then { m with resetAt := none, settling := 5 } else m

/-- A monitor's work on a passing frame: address, echo, balancing, commands, slot. Where more than 64 symbols have been inserted into the
frame every block of it counts as failed (R108). -/
def Monitor.frame (m : Monitor) (h : Head) (reverse rxErr farUp : Bool) (trip : Option Nat) (lat result maker root : Nat) : Monitor :=
  let good := decide ((if reverse then h.insR else h.insF) ≤ 64)
  let m := if h.assign && good then { m with addr := if reverse then h.ctrR - 1 else h.ctrF + 1 } else m
  let ring := h.path == .ring
  let named := h.path == .wrap || h.path == .split
  let turnAt := if reverse then h.breakAfter + 1 else h.breakAfter
  let lost := m.sigLost && !farUp
  let turns := lost || (named && m.addr == turnAt)
  let m := { (m.rouse farUp lat).echo ring trip with
    frameAt := root, farUp := farUp, sigLost := lost, turning := turns, breakTriple := turns, echoes := ring, rxErr := rxErr
    reverse := reverse }
  let fresh := m.resetAt = some h.loopSf || m.settling = 5
  let m := m.resetIfDue h.loopSf
  let req := if good then h.loopBal.getD m.addr 0 else m.balReq
  let m := { m with balReq := req, bal := m.close req }
  let mine := fun (e : Entry) => good && ((e.target == m.addr && e.target != 0) || e.target == 0xFF)
  let m := (h.loopCmd.filter mine).foldl (fun m e => m.exec e h.loopSf result maker root) m
  let m := { m with slot := (if fresh then { m with settling := 0 } else m).slotBytes reverse rxErr }
  m.nextFrame

/-- A monitor's slot in the frame: filled, with its CRC, where it has an address; else left as it arrived (R114). -/
def Head.fillSlot (h : Head) (m : Monitor) : Head :=
  if 1 ≤ m.addr ∧ m.addr ≤ 39 then
    { h with slots := SMap.put h.slots m.addr (blkOf h.loopSf m.slot), nodeCmp := h.nodeCmp || decide (fieldN m.slot 48 4 ≠ 0) }
  else h

/-- MONITOR_SLOT_FILL (R114): `node` is the monitor's place on the loop, `link` what it finds of the link on its
break side (R140). -/
def execMonitorSlotFill (n node : Nat) (reverse rxErr : Bool) (link : LinkIn) (s : State) : Out :=
  if s.hasGal n && decide (0 < node) && decide (node ≤ 39) then
    let result := Config.freeNat s.take.1 % 64
    let s := s.take.2
    let maker := Config.freeNat s.take.1 % 2 ^ 32
    let s := s.take.2
    let h := (s.g n).head
    let s := s.updMon n node (fun m => m.frame h reverse rxErr link.farUp link.echo link.lat result maker s.root)
    let m := s.mon n node
    let ins := if m.breakTriple then 3 else 0
    .next (s.updHead n (fun h => ((({ h with
      ctrF := if h.assign && !reverse then h.ctrF + 1 else h.ctrF
      ctrR := if h.assign && reverse then h.ctrR - 1 else h.ctrR
      insF := if reverse then h.insF else h.insF + ins
      insR := if reverse then h.insR + ins else h.insR } : Head).fillSlot m).localCheck).refreshUp))
  else .next s

/-- MONITOR_SIGNAL_LOSS (R125): the monitor turns back every frame that arrives on its other port. -/
def execMonitorSignalLoss (n node : Nat) (s : State) : Out :=
  if s.hasGal n && decide (0 < node) then .next (s.updMon n node (fun m => { m with sigLost := true, turning := true, farUp := false }))
  else .next s

/-- SAMPLE_LATCH (R135): head and monitors latch their readings at S(k), unless SAMPLE_AT was 0xFFFF. The head's over-temperature
bits follow levels of its maker's choosing (R171). -/
def execSampleLatch (n : Nat) (r : Reading) (s : State) : Out :=
  if !s.hasGal n then .next s
  else if (s.g n).head.sampleAt = 0xFFFF then
    .next (s.updG n (fun g => { g with mons := g.mons.map (fun m => { m with v := List.replicate 16 0x800000 }) }))
  else
    let hot := fun (lv : Int) => (r.headT.take 2).any (fun t => decide (lv ≤ toSigned 16 t) && t != 0x8000 && t != 0x7FFF && t != 0x8001)
    let s := s.updHead n (fun h => { h with
      meas := [r.shunt, r.hall, r.bus, r.string] ++ (List.range 8).map (fun p => r.phase.getD p 0) ++
        (List.range 4).map (fun i => toSigned 16 (r.headT.getD i 0x8000))
      otWarn := hot Config.headOtWarn, otShut := hot Config.headOtShut
      otArm := h.otArm && !hot Config.headOtShut })
    .next (s.updG n (fun g => { g with
      mons := g.mons.zipIdx.map (fun p => { p.1 with
        v := (List.range 16).map (fun i => (r.volts.getD p.2 []).getD i 0x800000), cmpS := some (p.1.cmp ||| p.1.trip), trip := 0 }) }))

/-- MONITOR_FRAME_TIMEOUT (R151, R159): no loop frame for 100 ms; the monitor sleeps with 10,000 ms and 60.00 degC. -/
def execMonitorFrameTimeout (n node : Nat) (s : State) : Out :=
  let m := s.mon n node
  if s.hasGal n && decide (0 < node) && !m.asleep && s.passed m.frameAt (msTicks 100) then
    .next (s.updMon n node (fun m => m.sleep 10000 6000 s.root))
  else .next s

/-! ### Comparators (R148, R269) -/

/-- The two comparators of a monitor's position, each on its own: successive outputs beyond the threshold set its bit, successive outputs
inside it by 2,000 uV clear it; 0 is comparator off. -/
def Monitor.compare (m : Monitor) (pos : Nat) (value : Int) (outs : Nat) : Monitor :=
  let deb := m.regs.getD 9 2
  let ov : Int := toSigned 32 (m.regs.getD 6 0)
  let uv : Int := toSigned 32 (m.regs.getD 7 0)
  let isOv := decide (ov ≠ 0) && decide (ov < value)
  let isUv := decide (uv ≠ 0) && decide (value < uv)
  let inOv := decide (ov = 0) || decide (value ≤ ov - 2000)
  let inUv := decide (uv = 0) || decide (uv + 2000 ≤ value)
  let o := if isOv then m.ovRun.getD pos 0 + outs else 0
  let u := if isUv then m.uvRun.getD pos 0 + outs else 0
  let k := if inOv then m.okRun.getD pos 0 + outs else 0
  let l := if inUv then m.okRunU.getD pos 0 + outs else 0
  let set1 := if deb ≤ o ∧ isOv then withBit m.cmp pos true else m.cmp
  let set2 := if deb ≤ u ∧ isUv then withBit set1 (16 + pos) true else set1
  let clr1 := if deb ≤ k ∧ inOv then withBit set2 pos false else set2
  let done := if deb ≤ l ∧ inUv then withBit clr1 (16 + pos) false else clr1
  { m with
    ovRun := modAt m.ovRun pos (fun _ => o), uvRun := modAt m.uvRun pos (fun _ => u), okRun := modAt m.okRun pos (fun _ => k)
    okRunU := modAt m.okRunU pos (fun _ => l)
    cmp := done, trip := m.trip ||| set2 }

/-- One comparator of the head (Table 10-2), by its HEAD_CMP bit: currents by magnitude, BUS_UV below, the others above. -/
def Head.compare (h : Head) (cmpBit : Nat) (value : Int) (outs : Nat) : Head :=
  let reg := if 8 ≤ cmpBit then 12 else 6 + cmpBit
  let lim : Int := toSigned 32 (h.regs.getD reg 0)
  let current := decide (8 ≤ cmpBit) || decide (cmpBit ≤ 1)
  let x : Int := if current then value.natAbs else value
  let broken := decide (cmpBit = 5) && (decide (value = 0x7FFF) || decide (value = -32767) || decide (value = -32768))
  let beyond := decide (lim ≠ 0) && !broken && (if cmpBit = 3 then decide (x < lim) else decide (lim < x))
  let run := if beyond then SMap.get (fun _ => 0) h.cmpRun cmpBit + outs else 0
  let on := beyond && decide (1 ≤ run)
  let c := withBit h.cmp cmpBit on
  { h with cmp := c, trip := if on then withBit h.trip cmpBit true else h.trip, cmpRun := SMap.set (fun _ => 0) h.cmpRun cmpBit run }

/-- COMPARATOR_TRIP (R148, R269): `outs` successive outputs of a monitor's position, or of the head's comparator `pos` (its HEAD_CMP
bit), have the value. -/
def execComparatorTrip (n node pos : Nat) (value : Int) (outs : Nat) (s : State) : Out :=
  if !s.hasGal n then .next s
  else if node = 0 then
    if pos ≤ 5 ∨ (8 ≤ pos ∧ pos ≤ 15) then .next (s.updHead n (fun h => (h.compare pos value outs).localCheck)) else .next s
  else if pos < (s.mon n node).count ∧ pos < 16 then .next (s.updMon n node (fun m => m.compare pos value outs))
  else .next s

/-- SWEEP_CONVERSION_DONE (R149): T is reported with TEMP_VALID in the next two loop frames. -/
def execSweepConversionDone (n node : Nat) (temps : List Nat) (s : State) : Out :=
  if s.hasGal n && decide (0 < node) && (s.mon n node).sweepBusy then
    .next (s.updMon n node (fun m => { m with
      sweepBusy := false, tempLeft := 2
      temps := (List.range 8).map (fun i => if bit m.sweepMask i then temps.getD i 0x8000 else 0x8000) }))
  else .next s

/-! ### The sleeping stack (R160, R161) -/

/-- The result word of a sleep check (Table 5-11). -/
def Monitor.checkWord (m : Monitor) (volts temps : List Nat) (selfRes : Nat) : Nat :=
  let ov : Int := toSigned 32 (m.regs.getD 6 0)
  let uv : Int := toSigned 32 (m.regs.getD 7 0)
  let vs := (volts.take m.count).map (fun w => toSigned 24 w)
  b2n (decide (ov ≠ 0) && vs.any (fun v => decide (ov < v))) + 2 * b2n (decide (uv ≠ 0) && vs.any (fun v => decide (v < uv))) +
  4 * b2n (temps.any (fun t => t != 0x7FFF && t != 0x8001 && t != 0x8000 && decide (m.tLimit < toSigned 16 t))) +
  8 * b2n (temps.any (fun t => t == 0x7FFF || t == 0x8001)) + 16 * bits selfRes 5 4

/-- SLEEP_CHECK (R160): a sleeping monitor converts each position and thermistor once and runs its self-test; on a failure it
records the result word, sets CHECK_FAIL and sends a wake burst. -/
def execSleepCheck (n node : Nat) (volts temps : List Nat) (selfRes : Nat) (s : State) : Out :=
  let m := s.mon n node
  if s.hasGal n && decide (0 < node) && m.asleep && s.passed m.checkAt (msTicks m.checkMs) then
    let w := m.checkWord volts temps selfRes
    let bad := decide (w ≠ 0)
    .next (s.updMon n node (fun m => { m with
      checkAt := s.root, lastCheck := if bad then w else m.lastCheck, checkFail := m.checkFail || bad
      selfFail := decide (bits selfRes 5 4 ≠ 0), burstAt := if bad then some s.root else m.burstAt }))
  else .next s

/-- WAKE_BURST (R161): a sleeping monitor relays one burst and ignores further ones for 10 ms; at the head (node 0) it drives the
wake output high. -/
def execWakeBurst (n node : Nat) (s : State) : Out :=
  if !s.hasGal n then .next s
  else if node = 0 then .next (s.updHead n (fun h => { h with wakeOut := true, wakeAt := s.root }))
  else
    let m := s.mon n node
    let free := match m.burstAt with
      | some t => s.passed t (msTicks 10)
      | none => true
    if m.asleep && free then .next (s.updMon n node (fun m => { m with burstAt := some s.root })) else .next s

end Sys2Proof.Machine
end

