-- ==== Sys2Proof/Machine/Seal.lean ====
section
/-! DEFINITION. The safety set and its seal, and the configuration store (R83 to R88, R301, R302). -/
namespace Sys2Proof.Machine

/-! ### The set and its CRC (R84) -/

/-- Every rw-S sub-index of the part with its type, in ascending order of index and sub-index. -/
def rwsKeys (p : Part) : List (Nat × Nat × OType) :=
  let rows := objRows.filter (fun r => decide (r.acc = .rwS))
  let expand := fun (r : ObjRow) (index : Nat) => (List.range' r.lo (r.hi + 1 - r.lo)).map (fun sub => (index, sub, r.ty))
  (rows.filter (fun r => decide (r.area = .fix))).flatMap (fun r => expand r r.base) ++
  (List.range p.galleries).flatMap (fun n =>
    (rows.filter (fun r => decide (r.area = .gal))).flatMap (fun r => expand r (0x4000 + 0x40 * n + r.base)))

/-- What one sub-index contributes to the CRC: index, sub-index, value length, value. -/
def crcItem (set : SMap Val) (k : Nat × Nat × OType) : List Byte :=
  let v := encodeVal k.2.2 (SMap.get dfltOf set (keyOf k.1 k.2.1))
  leBytes 2 k.1 ++ leBytes 1 k.2.1 ++ leBytes 4 v.length ++ v

/-- SEAL_CRC of a set (R84). -/
def sealCrcOf (p : Part) (set : SMap Val) : Nat := crc32 ((rwsKeys p).flatMap (crcItem set))

/-- PENDING_CRC, as it reads after the last rw-S write. -/
def State.pendingCrc (s : State) : Nat := sealCrcOf s.part s.safetySet.pendingSet

/-! ### Limit banks (R33, R85) -/

/-- The limits that the set in force gives a Gallery's bank. -/
def State.bankOf (s : State) (n : Nat) : Bank :=
  { cellOv := s.secQ (Gal.PROT_LIMITS.CELL_OV n), cellUv := s.secQ (Gal.PROT_LIMITS.CELL_UV n)
    hyst := s.secQ (Gal.PROT_LIMITS.CELL_HYST n)
    rest := [s.secQ (Gal.PROT_LIMITS.SHUNT_OC n), s.secQ (Gal.PROT_LIMITS.HALL_OC n), s.secQ (Gal.PROT_LIMITS.BUS_OV n),
      s.secQ (Gal.PROT_LIMITS.BUS_UV n), s.secQ (Gal.PROT_LIMITS.STRING_OV n), s.secQ (Gal.PROT_LIMITS.HEAD_OT n),
      s.secQ (Gal.PROT_LIMITS.PHASE_OC n), (s.secN (Gal.PROT_LIMITS.HEAD_CMP_FILTER n) : Q)] }

/-- Both copies of every Gallery's limit bank are loaded from the set in force. -/
def State.loadBanks (s : State) : State :=
  s.forGal (fun n s => let b := s.bankOf n; s.updProt n (fun p => { p with bank1 := b, bank2 := b }))

/-- ENERGISE.STATE and GROUP_STATE follow the groups after a change of the set in force. -/
def State.groupSync (s : State) : State :=
  s.forGal (fun n s => if s.groupOf n < 8 then s.setN (Gal.ENERGISE.STATE n) (s.gstate n).code else s)

/-- A set comes into force: banks, channels, thresholds (R85, R270). -/
def State.takeForce (s : State) (set : SMap Val) (sealedNow : Bool) : State :=
  let s := { s with safetySet := { s.safetySet with inForce := set, sealedNow := sealedNow } }
  let s := s.loadBanks.groupSync.demandSync
  s.forGal (fun n s => if s.trunkUp n then s.sendThresh n else s)

/-- At boot the stored set is loaded and compared with its CRC (R83, R86). -/
def State.bootSeal (s : State) : State :=
  let s := match s.nand.sealed with
    | some (set, crc) =>
      if s.nand.sealBad || decide (sealCrcOf s.part set ≠ crc) then
        { s with safetySet := { pendingSet := [], inForce := [], sealedNow := false } }
      else ({ s with safetySet := { pendingSet := set, inForce := set, sealedNow := true } }).setN Obj.SAFETY_CFG.SEAL_CRC crc
    | none => { s with safetySet := { pendingSet := [], inForce := [], sealedNow := false } }
  ((s.setN Obj.SAFETY_CFG.SEAL_STATE (if s.safetySet.sealedNow then 2 else 0)).setN Obj.SAFETY_CFG.SEAL_CHECK 0).loadBanks

/-! ### The rules of Table 10-11 -/

/-- A pending value. -/
def State.pendN (s : State) (k : Nat) : Nat := (SMap.get dfltOf s.safetySet.pendingSet k).toN
/-- A pending engineering value. -/
def State.pendQ (s : State) (k : Nat) : Q := ((SMap.get dfltOf s.safetySet.pendingSet k).toR).getD 0

/-- The loads that the pending groups name, main load before pre-charge load. -/
def State.pendLoads (s : State) : List Nat :=
  (List.range 8).flatMap (fun g =>
    let w := s.pendN (Obj.SAFETY_OUTPUTS.GROUP g)
    (if bit w 4 then [bits w 3 0] else []) ++ (if bit w 9 then [bits w 8 5] else []))

/-- SEAL_CHECK of the pending set, bits 0 to 6 (Table 10-11). -/
def State.sealCheck (s : State) : Nat :=
  let cell := s.galIds.any (fun n => decide (s.pendQ (Gal.PROT_LIMITS.CELL_OV n) ≤
    s.pendQ (Gal.PROT_LIMITS.CELL_UV n) + 2 * s.pendQ (Gal.PROT_LIMITS.CELL_HYST n)))
  let ld := fun l => s.pendN (Obj.SAFETY_OUTPUTS.LOAD l)
  let so := fun m => s.pendN (Obj.SAFETY_OUTPUTS.SO m)
  let rating := (List.range 16).any (fun l => decide (2000 < ld l)) ||
    (List.range 8).any (fun m => bit (so m) 0 && decide (2000 < ld (2 * m) + ld (2 * m + 1)))
  let overlap := (List.range 8).any (fun m =>
    let t := bits (so m) 9 1
    if bit (so m) 0 then decide (t < 20) || decide (500 < t) || decide (t ≤ s.pendN Obj.SAFETY_OUTPUTS.MAIN_CLOSE_TIME)
    else decide (t ≠ 0))
  let named := s.pendLoads
  let loads := !decide named.Nodup || named.any (fun l => decide (ld l = 0))
  let cfg := fun i => s.pendN (Obj.SAFETY_INPUTS.SI_CFG i)
  let noReset := !(List.range 16).any (fun i => bits (cfg i) 3 0 == 4)
  let filter := (List.range 16).any (fun i => bits (cfg i) 3 0 != 0 && decide (bits (cfg i) 5 4 < 2) &&
    decide (1000 * bits (cfg i) 24 20 ≤ s.pendN Obj.SAFETY_CFG.TP_LEN + 100))
  let ref := (List.range 16).any (fun i => (bits (cfg i) 3 0 == 3 || bits (cfg i) 3 0 == 5) &&
    !bit (s.pendN (Obj.SAFETY_OUTPUTS.GROUP (bits (cfg i) 8 6))) 4)
  b2n cell + 2 * b2n rating + 4 * b2n overlap + 8 * b2n loads + 16 * b2n noReset + 32 * b2n filter + 64 * b2n ref

/-! ### The commands -/

/-- A write of an rw-S object: only the pending set changes (R83). -/
def rwSEff (index sub : Nat) (v : Val) (s : State) : Except Nat State :=
  let s := { s with safetySet := { s.safetySet with
    pendingSet := SMap.set dfltOf s.safetySet.pendingSet (keyOf index sub) v } }
  .ok (if s.safetySet.sealedNow then s.setN Obj.SAFETY_CFG.SEAL_STATE 1 else s)

/-- RW_S_WRITE (R83, R281). -/
def execRwSWrite (path : Path) (index sub : Nat) (data : List Byte) (s : State) : Out :=
  match rowOf index sub with
  | some r => if r.acc = .rwS then .next (s.write path index sub data (rwSEff index sub)) else .next s
  | none => .next s

/-- A write of SEAL_CRC (R85, R302). `loadOk`: the banks and channels load and verify the new set; `reloadOk`: they load and verify
the previous one where the new one fails. -/
def sealEff (loadOk reloadOk : Bool) (v : Val) (s : State) : Option Nat × State :=
  if v.toN ≠ s.pendingCrc then (some abortSeal, s)
  else if s.sealCheck ≠ 0 then (some abortRange, s.setN Obj.SAFETY_CFG.SEAL_CHECK s.sealCheck)
  else if loadOk then
    let set := s.safetySet.pendingSet
    let s := s.updNand (fun d => { d with sealed := some (set, v.toN), sealedPrev := d.sealed, sealBad := false })
    let s := ((s.setN Obj.SAFETY_CFG.SEAL_CRC v.toN).setN Obj.SAFETY_CFG.SEAL_STATE 2).setN Obj.SAFETY_CFG.SEAL_CHECK 0
    (none, s.takeForce set true)
  else
    let s := s.setN Obj.SAFETY_CFG.SEAL_CHECK 128
    if reloadOk then (some abortStore, s.loadBanks)
    else
      let s := { s with safetySet := { s.safetySet with sealedNow := false } }
      (some abortStore, (s.forGal (fun n s => s.setCause n 7 true 0xFFFF)).setN Obj.SAFETY_CFG.SEAL_STATE 0)

/-- SEAL (R85, R301, R302). -/
def execSealSet (path : Path) (crc : Nat) (loadOk reloadOk : Bool) (s : State) : Out :=
  .next (s.writeX path 0x2900 1 (leBytes 4 crc) (sealEff loadOk reloadOk))

/-- SEAL_DISCARD (R87): the set in force is copied over the pending set. -/
def sealDiscardEff (_ : Val) (s : State) : Except Nat State :=
  let s := { s with safetySet := { s.safetySet with pendingSet := s.safetySet.inForce } }
  .ok (s.setN Obj.SAFETY_CFG.SEAL_STATE (if s.safetySet.sealedNow then 2 else 0))

/-- SEAL_DISCARD (R87). -/
def execSealDiscard (path : Path) (s : State) : Out := .next (s.write path 0x2900 4 [1] sealDiscardEff)

/-- Whether a key holds a setting that a save stores (R88). -/
def isSetting (key : Nat) : Bool :=
  let index := key / 256
  let sub := key % 256
  decide (key < 0x1000000) &&
  (match rowOf index sub with
   | some r =>
     (decide (r.acc = .rw) || decide (r.acc = .rwL)) && !r.w1c &&
     (match placeOf index with
      | (.gal, off) => !(off == 0x38 || off == 0x30 || decide (key = Gal.SPECTRUM_STATUS.ARCHIVE_SEL (galOf index)))
      | (.chn, _) => decide (key ≠ Chn.CH_OUT.OUT_VALUE (chnOf index))
      | (.can, _) => decide (key ≠ Can.HEAD_WAIT_MAX (index - 0x2700))
      | (.fix, i) =>
        !(i == 0x2000 || i == 0x2900 && sub == 1 || i == 0x1010 || i == 0x1011 || i == 0x1003 ||
          (i == 0x2201 && decide (6 ≤ sub) && decide (sub ≤ 8)) || key == Obj.RECORDER_CTRL.BUFFER_PEAK ||
          key == Obj.TWB_CFG.ALERT_PENDING || key == Obj.DISPATCH_SETPOINT.P_DEMAND || key == Obj.DISPATCH_SETPOINT.LEADER_TARGET ||
          (List.range 16).any (fun j => key == Obj.TWA_CFG.DATA (j + 1))))
   | none => false)

/-- The save signature of R88. -/
def storeEff (v : Val) (s : State) : Except Nat State :=
  if v.toN = 0x65766173 then
    let w := s.galIds.foldl (fun t n =>
      let t := t.withHeld n
      match (t.g n).est.setNext with
      | some bs => t.setB (Gal.ESTIM_CFG.MODEL_SET n) bs
      | none => t) s
    .ok (s.updNand (fun d => { d with saved := w.dict.filter (fun e => isSetting e.1) }))
  else .error abortStore

/-- STORE (R88): every rw and rw-L setting is stored. -/
def execStore (path : Path) (s : State) : Out := .next (s.write path 0x1010 1 (leBytes 4 0x65766173) storeEff)

/-- The load signature of R88. -/
def restoreEff (v : Val) (s : State) : Except Nat State :=
  if v.toN = 0x64616F6C then .ok (s.updNand (fun d => { d with loadNext := true })) else .error abortStore

/-- RESTORE (R88): the next boot replaces the stored set with the defaults. -/
def execRestore (path : Path) (s : State) : Out := .next (s.write path 0x1011 1 (leBytes 4 0x64616F6C) restoreEff)

/-- The stored settings come into force at boot (R88). -/
def State.loadSettings (s : State) : State :=
  let s := if s.nand.loadNext then s.updNand (fun d => { d with saved := [], loadNext := false }) else s
  s.nand.saved.foldl (fun s e => s.put e.1 e.2) s

end Sys2Proof.Machine
end

