-- ==== Sys2Proof/Machine/Redundancy.lean ====
section
/-! DEFINITION. Active and standby modules (chapter 13): roles, the Corridor and the mirror, readiness, take-over, swap. -/
namespace Sys2Proof.Machine

/-- Change the redundancy runtime. -/
def State.updRed (s : State) (f : RedRt → RedRt) : State := { s with red := f s.red }

/-- SF_NUM of the module's trunks in the present superframe; plant time counts superframes where no trunk runs. -/
def State.presentSf (s : State) : Nat :=
  match s.galIds.find? (fun n => s.strOn n && s.trunkUp n) with
  | some n => (s.g n).trunk.sentSf
  | none => (s.now / 10000) % 2 ^ 32

/-- Whether SF_NUM `a` is at or after `b`, modulo 2^32. -/
def sfReached (a b : Nat) : Bool := decide ((a + 2 ^ 32 - b) % 2 ^ 32 < 2 ^ 31)

/-- TRUNK_PORT: the head port that the module's trunks reach. -/
def State.ownPort (s : State) : Nat := s.getN Obj.REDUNDANCY_CFG.TRUNK_PORT

/-- "Heads obey x" (R352): the upstream AUTH of every enabled string whose trunk is UP shows obedience to the port. -/
def State.headsObey (s : State) (port : Nat) : Bool :=
  let up := s.galIds.filter (fun n => s.strOn n && s.trunkUp n)
  !up.isEmpty && up.all (fun n => bit (s.g n).trunk.obeyPort port)

/-- Whether a string is orphan (R352). -/
def State.orphaned (s : State) : Bool :=
  s.galIds.any (fun n => s.strOn n && decide (s.getN Obj.REDUNDANCY_CFG.ORPHAN_SF ≤ (s.g n).trunk.orphan))

/-! ### CONFIG_CRC (R351) -/

/-- The indices that R351 leaves out. -/
def configSkips (index : Nat) : Bool :=
  (decide (0x2100 ≤ index) && decide (index ≤ 0x2102)) ||
  [0x2400, 0x2500, 0x2600, 0x2610, 0x2700, 0x2701, 0x2708, 0x3410].contains index

/-- Every rw-L sub-index of the part with its type, in ascending order of index and sub-index. -/
def rwlKeys (p : Part) : List (Nat × Nat × OType) :=
  let rows := objRows.filter (fun r => decide (r.acc = .rwL))
  let expand := fun (r : ObjRow) (index : Nat) => (List.range' r.lo (r.hi + 1 - r.lo)).map (fun sub => (index, sub, r.ty))
  let fixed := (rows.filter (fun r => decide (r.area = .fix))).flatMap (fun r => expand r r.base)
  let low := fixed.filter (fun k => decide (k.1 < 0x2700))
  let high := fixed.filter (fun k => decide (0x2700 ≤ k.1) && decide (k.1 < 0x3000))
  let can := (List.range 2).flatMap (fun c => (rows.filter (fun r => decide (r.area = .can))).flatMap (fun r => expand r (r.base + c)))
  let chn := (List.range 16).flatMap (fun c =>
    (rows.filter (fun r => decide (r.area = .chn))).flatMap (fun r => expand r (0x3000 + 0x10 * c + r.base)))
  let late := fixed.filter (fun k => decide (0x3000 ≤ k.1))
  let gal := (List.range p.galleries).flatMap (fun n =>
    (rows.filter (fun r => decide (r.area = .gal))).flatMap (fun r => expand r (0x4000 + 0x40 * n + r.base)))
  (low ++ can ++ high ++ chn ++ late ++ gal).filter (fun k => !configSkips k.1)

/-- CONFIG_CRC: as SEAL_CRC is computed, over the rw-L values in force. -/
def State.configCrc (s : State) : Nat := crc32 ((rwlKeys s.part).flatMap (crcItem s.dict))

/-! ### Own frame (Tables 13-2, 13-3) -/

/-- The MAC address of a unit serial (R323): 0x02 and the low 40 bits. -/
def macOf (serial : Nat) : Nat := 0x02 * 2 ^ 40 + serial % 2 ^ 40
/-- The clockIdentity of a MAC address: its EUI-64. -/
def clockIdOf (mac : Nat) : Nat := (mac / 2 ^ 24) * 2 ^ 40 + 0xFFFE * 2 ^ 24 + mac % 2 ^ 24
/-- The own clockIdentity. -/
def State.clockId (s : State) : Nat := clockIdOf (macOf s.serial)

/-- Whether this module is PTP grandmaster. -/
def State.isGrandmaster (s : State) : Bool := s.time.master && decide (s.getN Obj.PTP_STATUS.GM_IDENTITY = s.clockId)

/-- Whether the partner path is up (R350): the Corridor, or a MIRROR read within the last 300 ms. -/
def State.arcadePath (s : State) : Bool :=
  match s.red.readAt with
  | some t => !s.passed t (msTicks 300)
  | none => false
/-- Whether the partner path is up. -/
def State.partnerPath (s : State) : Bool := s.red.corUp || s.arcadePath

/-- NOT_READY as it stands (Table 13-6). -/
def State.notReadyNow (s : State) : Nat :=
  let m := s.red.mirror
  b2n (decide (s.mode ≠ .run) || decide (s.phase ≠ 0)) +
  2 * b2n (decide (s.getN Obj.SAFETY_CFG.SEAL_STATE ≠ 2) || decide (m.map (·.sealCrc) ≠ some (s.getN Obj.SAFETY_CFG.SEAL_CRC))) +
  4 * b2n (decide (m.map (·.cfgCrc) ≠ some s.configCrc)) +
  8 * b2n (s.galIds.any (fun n => s.strOn n && !s.trunkUp n)) +
  16 * b2n (!s.timeLocked && !s.isGrandmaster) +
  32 * b2n (!s.partnerPath) +
  64 * b2n (!(s.safe.newel.healthy && s.safe.baluster.healthy) || s.latched) +
  128 * b2n s.red.overlapYield

/-- Whether YIELD is set: ACTIVE and in LOCKOUT, or in exit from RUN by a ladder step 3 or an NMT Reset node. -/
def State.yieldFlag (s : State) : Bool :=
  decide (s.role = 2) && (decide (s.mode = .lockout) || (decide (s.phase = 2) && decide (s.md.exitReset = some 5)))

/-- The 47 bytes of the header. -/
def State.corHeader (s : State) : List Byte :=
  let cf := s.ownPort + 2 * s.getN Obj.REDUNDANCY_CFG.PREFERRED + 4 * b2n s.yieldFlag + 8 * b2n s.timeLocked
  leBytes 4 s.presentSf ++ leBytes 8 s.serial ++ leBytes 2 s.part.hwType ++ leBytes 1 s.role ++ leBytes 1 s.mode.code ++
  leBytes 1 cf ++ leBytes 4 (s.getN Obj.REDUNDANCY_STATUS.EPOCH) ++ leBytes 4 s.red.handover ++
  leBytes 4 (if s.safetySet.sealedNow then s.getN Obj.SAFETY_CFG.SEAL_CRC else 0) ++ leBytes 4 s.configCrc ++
  leBytes 4 s.notReadyNow ++ leBytes 2 (s.getN Obj.SAFETY_STATUS.STANDING_CAUSES) ++ List.replicate 8 0

/-- SET_VALUE of a string. -/
def State.setValue (s : State) (n : Nat) : Int :=
  let sp := s.setpoint n
  if sp.1 = 1 then qround (sp.2 * 1000) else if sp.1 = 2 then qround sp.2 else 0

/-- EXC_INDEX of a string: the last index played, or the pending index. -/
def State.excIndex (s : State) (n : Nat) : Nat :=
  let st := s.specSt n
  let sp := (s.g n).spec
  if st = 4 then s.getN (Gal.SPECTRUM_STATUS.PENDING_INDEX n)
  else if st = 5 then sp.n
  else if st = 2 ∨ st = 3 then (if sp.n = 0 then (s.excSet n).size - 1 else sp.n - 1)
  else 0

/-- The 32 bytes of a string entry. -/
def State.corString (s : State) (n : Nat) : List Byte :=
  if !s.hasGal n then List.replicate 32 0
  else
    leBytes 1 (s.g n).tread.state.code ++ leBytes 1 (ofSigned 8 (s.dirOf n)) ++ leBytes 1 (s.getN (Gal.LOOP_STATUS.WINNER n)) ++
    leBytes 1 (if s.groupOf n < 8 then (s.gstate n).code else 0xFF) ++ int4 (qround (s.getQ (Gal.LOOP_STATUS.I_SEL n) * 1000)) ++
    leBytes 1 (s.getN (Gal.CONV_REFS.SETPOINT_MODE n)) ++ int4 (s.setValue n) ++ leBytes 1 (s.specSt n) ++ leBytes 4 (s.excIndex n) ++
    leBytes 2 (s.getN (Gal.FLIGHT_STATUS.TRUNK_DELAY n)) ++
    leBytes 1 (b2n (s.trunkUp n) + 2 * b2n (bit (s.g n).trunk.obeyPort s.ownPort) + 4 * b2n (s.flag (Gal.FLIGHT_STATUS.HEAD_STATUS n) 1)) ++
    List.replicate 11 0

/-- The own Corridor frame, offsets 1 to 1,081; K29.7 is the byte 0xFD. -/
def State.corFrame (s : State) : List Byte :=
  let h := s.corHeader
  let str := (List.range 32).flatMap s.corString
  h ++ leBytes 4 (crc32c h) ++ [0xFD] ++ str ++ leBytes 4 (crc32c (h.take 4 ++ str)) ++ [0xFD]

/-! ### The partner's frame -/

/-- A string entry as received. -/
def mirStrOf (b : List Byte) : MirStr :=
  { conv := fieldN b 0 1, dir := fieldI b 1 1, winner := fieldN b 2 1, group := fieldN b 3 1, iSel := fieldI b 4 4
    mode := fieldN b 8 1, set := fieldI b 9 4, exc := fieldN b 13 1, excIdx := fieldN b 14 4, delay := fieldN b 18 2
    flags := fieldN b 20 1 }

/-- A frame as received: its header payload, and the strings payload where its CRC is correct. -/
def mirrorOf (h : List Byte) (strings : List MirStr) : Mirror :=
  { sf := fieldN h 0 4, serial := fieldN h 4 8, hw := fieldN h 12 2, role := fieldN h 14 1, mode := fieldN h 15 1, flags := fieldN h 16 1
    epoch := fieldN h 17 4, handover := fieldN h 21 4, sealCrc := fieldN h 25 4, cfgCrc := fieldN h 29 4, notReady := fieldN h 33 4
    locks := fieldN h 37 2, strings := strings }

/-- A MIRROR read as a frame (Table 13-11); none where it is not one. -/
def mirrorFrame (d : List Byte) : Option CorFrame :=
  if d.length = 1081 then
    some { header := { payload := slice d 0 47, crc := fieldN d 47 4, endOk := d.getD 51 0 == 0xFD }
           strings := { payload := slice d 52 1024, crc := fieldN d 1076 4, endOk := d.getD 1080 0 == 0xFD } }
  else none

/-! ### Role changes -/

/-- Whether a role claims. -/
def roleCode (r : Nat) : Bool := r == 0 || r == 2 || r == 4 || r == 5

/-- A trunk that the module may claim anew outside a take-over: the head and the monitors are written as on entry to the state. -/
def State.claimAnew (s : State) (n : Nat) : State :=
  match s.trunk n with
  | 2 | 3 => s.toIdentify n
  | 4 => s.upWrites n
  | _ => s

/-- A trunk that the module no longer claims: only IDENTIFY and READ_REG addressed to the head stay (R353). -/
def State.claimEnd (s : State) (n : Nat) : State :=
  let ok : Entry → Bool := fun e => decide (e.target = 0) && (e.op == 1 || e.op == 2)
  let s := s.updTrunk n (fun t => { t with waiting := t.waiting.filter ok, outst := t.outst.filter (fun o => ok o.entry) })
  if s.trunk n = 3 then s.updTrunk n (fun t => { t with askPartner := true }) else s

/-- The module enters a role. -/
def State.roleTo (s : State) (r : Nat) : State :=
  let old := s.role
  let s := (s.setN Obj.REDUNDANCY_STATUS.ROLE r).updRed (fun x => { x with roleAt := s.root, roleSf := 0, passSwap := false })
  let s := if old = 2 ∧ r ≠ 2 ∧ r ≠ 5 then s.updNand (fun d => { d with swapFrom := some s.now })
    else if old = 5 ∧ r ≠ 2 then s.updNand (fun d => { d with swapFrom := some s.now })
    else if r = 3 ∧ s.nand.swapFrom = none then s.updNand (fun d => { d with swapFrom := some s.now })
    else s
  let s := if r = 2 then (s.setFlag Obj.REDUNDANCY_STATUS.FLAGS 8 false).updRed (fun x => { x with handover := 0xFFFFFFFF, yieldLoads := false }) else s
  let s := if roleCode r && (!roleCode old || (decide (old = 5) && decide (r = 2))) then
      s.forGal (fun n s => s.updTrunk n (fun t => { t with noClaim := false, authSf := 0 }))
    else s
  if roleCode r && !roleCode old && decide (r ≠ 4) then s.forGal (fun n s => s.claimAnew n)
  else if roleCode old && !roleCode r then s.forGal (fun n s => s.claimEnd n)
  else s

/-- EPOCH := max(own, partner) + 1. -/
def State.nextEpoch (s : State) : State :=
  let p := (s.red.mirror.map (·.epoch)).getD 0
  s.setN Obj.REDUNDANCY_STATUS.EPOCH ((max (s.getN Obj.REDUNDANCY_STATUS.EPOCH) p + 1) % 2 ^ 32)

/-- A converter enters OFF without DE-ENERGISED (R367). -/
def State.convOff (s : State) (n : Nat) : State :=
  if (s.g n).tread.state = .off then s
  else
    let s := ((s.toConv n .off).zeroOut n).zeroX n
    (s.updTread n (fun t => { t with evEn := false, evDe := false, evRestart := false })).specOff n

/-- Loads off and groups OFF directly (R367). -/
def State.groupsOff (s : State) : State :=
  let s := s.allLoadsOff
  let s := (List.range 8).foldl (fun s g => (s.setGroup g .off).updGrp g (fun r => { r with
    pend := false, mainAt := none, srsAt := none, firstK := none, trunkSeo := none, loadsOff := none })) s
  s.forGal (fun n s => s.updProt n (fun p => { p with
    seoInh := false, newel := false, baluster := false, downSeo := false, rampAt := none }))

/-- ACTIVE or YIELDING leaves for STANDBY (R367): converters and groups OFF without INHIBIT, SRS or SEO. -/
def State.leaveActive (s : State) : State :=
  let s := s.roleTo 3
  let s := s.forGal (fun n s => s.convOff n)
  if s.headsObey (1 - s.ownPort) then s.groupsOff.updRed (fun r => { r with yieldLoads := false, handover := 0xFFFFFFFF })
  else s.updRed (fun r => { r with yieldLoads := true, handover := 0xFFFFFFFF })

/-! ### Take-over (R358 to R362) -/

/-- The groups that a take-over by a cause adopts (R360). -/
def State.adopted (s : State) (cause : Nat) : List Nat :=
  match s.red.mirror with
  | none => []
  | some m =>
    if (cause = 1 ∨ cause = 3) ∧ s.since s.red.mirrorAt ≤ secTicks 1 then
      (List.range 8).filter (fun g =>
        let ns := s.groupStrings g
        !ns.isEmpty && ns.all (fun n => decide ((m.strings[n]?).map (·.group) = some 6)) &&
        (decide (cause = 1) ||
          (s.fbClosed g && ns.all (fun n => !s.flag (Gal.FLIGHT_STATUS.HEAD_STATUS n) 1))))
    else []

/-- A converter state by its code. -/
def convOfCode (c : Nat) : ConvState :=
  match c with
  | 1 => .standby | 2 => .running | 3 => .reversing | 4 => .stopping | 5 => .held | 6 => .inhibited | 7 => .tripped | _ => .off

/-- A string of an adopted group (R361): the converter in the mirrored state, RUNNING and HELD as RUNNING; the mirrored setpoint;
excitation paused. -/
def State.adoptString (s : State) (n : Nat) (m : MirStr) : State :=
  let st := match convOfCode m.conv with
    | .held => ConvState.running
    | c => c
  let s := (s.updTread n (fun t => { t with
    state := st, zero := 0, evEn := false, evDe := false, evRestart := false
    enable := st.steps })).setN (Gal.LOOP_STATUS.STATE n) st.code
  let s := s.setI (Gal.LOOP_STATUS.DIRECTION n) m.dir
  let s := s.setN (Gal.CONV_REFS.SETPOINT_MODE n) m.mode
  let s := if m.mode = 1 then s.setR (Gal.CONV_REFS.I_SET n) (some ((m.set : Q) / 1000))
    else if m.mode = 2 then s.setR (Gal.CONV_REFS.P_SET n) (some (m.set : Q)) else s
  let held := (s.g n).spec.ex
  let s := s.updSpec n (fun r => { r with pauseDir := m.dir, a := 0, ex := 0, cleanI := [] })
  let s := if st.steps then s.formRefs n else s
  let s := if m.exc = 2 ∨ m.exc = 3 ∨ m.exc = 5 then
      let i := if m.exc = 5 then m.excIdx else (m.excIdx + 1) % (s.excSet n).size
      let s := (s.setN (Gal.SPECTRUM_STATUS.STATE n) 4).setN (Gal.SPECTRUM_STATUS.PENDING_INDEX n) i
      (s.residual n (held * ((s.g n).trunk.holdSf : Q)) m.dir).updSpec n (fun r => { r with takeEx := held, n := i })
    else s
  s.updTread n (fun t => { t with resume := true, refsValid := true })

/-- The take-over: TAKING_OVER with the next EPOCH, the groups adopted for the next safety cycle, their converters. -/
def State.takeOver (s : State) (cause : Nat) : State :=
  let gs := s.adopted cause
  let s := s.nextEpoch.roleTo 4
  let s := (s.setN Obj.REDUNDANCY_STATUS.LAST_TAKEOVER_TICK s.now).setN Obj.REDUNDANCY_STATUS.LAST_CAUSE cause
  let s := s.updRed (fun r => { r with
    cause := cause, decideAt := s.root, yieldLoads := false, tookSf := (r.mirror.map (·.handover)).getD 0xFFFFFFFF })
  let s := { s.updSafe (fun r => { r with adopt := some gs }) with disp := { s.disp with fromActual := true } }
  s.forGal (fun n s =>
    if gs.contains (s.groupOf n) && s.strOn n then
      match s.mirStr n with
      | some m => s.adoptString n m
      | none => s
    else s)

/-- A trigger of Table 13-7 meets a STANDBY: take-over, or TAKEOVER_BLOCKED. -/
def State.trigger (s : State) (cause : Nat) : State :=
  if s.role = 3 then
    let nr := s.notReadyNow
    let nr := if cause = 3 then clearBits nr 32 else nr
    if nr = 0 then s.takeOver cause else s.raise Obj.REDUNDANCY_STATUS.FLAGS 5
  else s

/-- The end of a take-over: ACTIVE (Table 13-4). -/
def State.takeOverEnds (s : State) : State :=
  let us := (s.root - s.red.decideAt) * 2 / 625
  let s := (s.roleTo 2).inc Obj.REDUNDANCY_STATUS.TAKEOVERS
  let s := (s.setN Obj.REDUNDANCY_STATUS.LAST_DURATION us).updRed (fun r => { r with activeAt := some s.root })
  s.record 0x0400 0x06 0 2 (leBytes 1 s.red.cause ++ leBytes 4 (s.getN Obj.REDUNDANCY_STATUS.EPOCH) ++ leBytes 4 us)

/-- The partner's HANDOVER_SF is reached (Table 13-4). -/
def State.handoverCheck (s : State) : State :=
  match s.red.mirror with
  | some m =>
    if s.role = 3 ∧ m.handover ≠ 0xFFFFFFFF ∧ m.handover ≠ s.red.tookSf ∧ sfReached s.presentSf m.handover = true then
      (s.updRed (fun r => { r with tookSf := m.handover })).trigger 1
    else s
  | none => s

/-- Cause 3: the Corridor has been down for CORRIDOR_TIMEOUT superframes and a string is orphan. -/
def State.orphanCheck (s : State) : State :=
  if decide (s.role = 3) && decide (s.getN Obj.REDUNDANCY_CFG.CORRIDOR_TIMEOUT ≤ s.red.corBad) && s.orphaned then s.trigger 3 else s

/-- What an upstream header changes in the roles (Table 13-4, R364): `overlap` is AUTH bit 4 of the header. -/
def State.roleHeader (s : State) (overlap : Bool) : State :=
  let partner := 1 - s.ownPort
  match s.role with
  | 1 => if s.headsObey partner then s.roleTo 3 else s
  | 2 =>
    let yields := match s.red.mirror with
      | some m => decide (s.getN Obj.REDUNDANCY_STATUS.EPOCH < m.epoch) ||
          (decide (m.epoch = s.getN Obj.REDUNDANCY_STATUS.EPOCH) && decide (s.ownPort = 1))
      | none => decide (s.ownPort = 1)
    if overlap && yields then
      let s := (s.raise Obj.REDUNDANCY_STATUS.FLAGS 7).updRed (fun r => { r with overlapYield := true })
      s.leaveActive
    else s
  | 3 =>
    let s := if s.red.yieldLoads && s.headsObey partner then s.groupsOff.updRed (fun r => { r with yieldLoads := false }) else s
    s.orphanCheck
  | 4 => if s.headsObey s.ownPort then s.takeOverEnds else s
  | 5 => if s.headsObey partner then s.leaveActive else s
  | _ => s

/-! ### The Corridor (R349, R350) -/

/-- LINKS and PARTNER_SILENT as they stand. -/
def State.linkSync (s : State) : State :=
  let s := s.setN Obj.REDUNDANCY_STATUS.LINKS (b2n s.red.corUp + 2 * b2n s.arcadePath)
  if decide (s.getN Obj.REDUNDANCY_CFG.CORRIDOR_TIMEOUT ≤ s.red.corBad) && !s.partnerPath then
    s.raise Obj.REDUNDANCY_STATUS.FLAGS 4
  else s

/-- Whether the Corridor runs: the module is paired, and its mode is one in which it serves. -/
def State.corridorRuns (s : State) : Bool :=
  decide (s.role ≠ 0) && (match s.mode with | .ready | .run | .lockout => true | _ => false)

/-- CORRIDOR_FRAME_TX (R349): the own frame at a superframe boundary; what has not been heard counts, and time-driven rows of
Table 13-4 are judged. During an activation pause the last frame is sent again (R446). -/
def execCorridorFrameTx (s : State) : Out :=
  if !s.corridorRuns || decide (s.now % 10000 ≠ 0) || decide (s.red.txGrid = some (s.now / 10000)) then .next s
  else
    let s := s.updRed (fun r => { r with
      txGrid := some (s.now / 10000), corBad := if r.corHeard then 0 else r.corBad + 1, corHeard := false
      roleSf := r.roleSf + 1 })
    let s := s.linkSync.handoverCheck.orphanCheck
    let s := s.setN Obj.REDUNDANCY_STATUS.NOT_READY s.notReadyNow
    .next (if s.paused then s else s.updRed (fun r => { r with out := s.corFrame }))

/-- What of R347 a partner's frame breaks, as FLAGS bits 0 to 2. -/
def State.pairBreaks (s : State) (m : Mirror) : Nat :=
  let want := s.getN Obj.REDUNDANCY_CFG.PARTNER_SERIAL
  b2n (decide (m.hw ≠ s.part.hwType)) + 2 * b2n (decide (want ≠ 0) && decide (m.serial ≠ want)) +
  4 * b2n (decide (m.flags % 2 = s.ownPort))

/-- Whether this module's claim wins (R352). -/
def State.wins (s : State) (m : Mirror) : Bool :=
  let own := s.getN Obj.REDUNDANCY_CFG.PREFERRED
  let theirs := b2n (bit m.flags 1)
  if own = theirs then decide (s.ownPort = 0) else decide (own = 1)

/-- A partner frame meets the role (Table 13-4); `onCorridor` is the path. -/
def State.partnerSeen (s : State) (m : Mirror) (onCorridor : Bool) : State :=
  let br := s.pairBreaks m
  match s.role with
  | 1 =>
    if br ≠ 0 then (s.setN Obj.REDUNDANCY_STATUS.FLAGS (s.getN Obj.REDUNDANCY_STATUS.FLAGS ||| br)).roleTo 6
    else if s.headsObey (1 - s.ownPort) ∨ m.role = 2 then s.roleTo 3
    else if s.wins m then s.nextEpoch.roleTo 2
    else s
  | 6 => if br = 0 then s.roleTo 1 else s
  | 3 =>
    let s := s.handoverCheck
    let s := if s.role = 3 ∧ onCorridor = true ∧ bit m.flags 2 = true then s.trigger 2 else s
    let mask := 0x1D8
    if s.role = 3 ∧ m.mode = 5 ∧ m.locks ≠ 0 ∧ clearBits m.locks mask = 0 ∧ s.getN Obj.SAFETY_STATUS.STANDING_CAUSES &&& mask = 0 then
      s.trigger 4
    else s
  | _ => s

/-- A frame whose header is correct is taken into the mirror. -/
def State.mirrorTake (s : State) (f : CorFrame) (onCorridor : Bool) : State :=
  let sf := fieldN f.header.payload 0 4
  let strOk := blkGood f.strings sf 1024
  let strings := if strOk then (List.range 32).map (fun n => mirStrOf (slice f.strings.payload (32 * n) 32))
    else (s.red.mirror.map (·.strings)).getD []
  let m := mirrorOf f.header.payload strings
  let s := s.updRed (fun r => { r with mirror := some m, mirrorAt := if strOk then s.root else r.mirrorAt })
  let s := (s.setN Obj.REDUNDANCY_STATUS.PARTNER_ROLE m.role).setN Obj.REDUNDANCY_STATUS.PARTNER_SEEN m.serial
  let s := s.setN Obj.REDUNDANCY_STATUS.PARTNER_NOT_READY m.notReady
  s.partnerSeen m onCorridor

/-- CORRIDOR_FRAME_RX (R349, R350). -/
def execCorridorFrameRx (f : CorFrame) (s : State) : Out :=
  if !s.corridorRuns || !hdrGood f.header 47 then .next s
  else
    let up := s.red.corUp || decide (16 ≤ s.red.corGood + 1)
    let s := s.updRed (fun r => { r with
      corBad := 0, corHeard := true, corGood := if r.corUp then 0 else r.corGood + 1, corUp := up
      overlapYield := r.overlapYield && !(up && !r.corUp) })
    .next (s.linkSync.mirrorTake f true)

/-- CORRIDOR_DOWN (R350): CORRIDOR_TIMEOUT superframes without a good frame. -/
def execCorridorDown (s : State) : Out :=
  if s.corridorRuns && decide (s.getN Obj.REDUNDANCY_CFG.CORRIDOR_TIMEOUT ≤ s.red.corBad) then
    let s := (s.raise Obj.REDUNDANCY_STATUS.FLAGS 3).updRed (fun r => { r with corUp := false, corGood := 0, passSwap := false })
    .next s.linkSync.orphanCheck
  else .next s

/-- MIRROR_READ (R350): every 100 ms while the Corridor is down; `data` is the partner's MIRROR, none where the read failed. -/
def execMirrorRead (data : Option (List Byte)) (s : State) : Out :=
  if s.corridorRuns && !s.red.corUp && s.passed s.red.readTry (msTicks 100) then
    let s := s.updRed (fun r => { r with readTry := s.root })
    match data.bind mirrorFrame with
    | some f =>
      if hdrGood f.header 47 then .next ((s.updRed (fun r => { r with readAt := some s.root })).linkSync.mirrorTake f false)
      else .next s.linkSync
    | none => .next s.linkSync
  else .next s

/-! ### Requests and timers of the roles -/

/-- ENABLE (Table 13-4): 0 runs alone; 1 pairs an UNPAIRED module. -/
def redundancyEnableEff (v : Val) (s : State) : Except Nat State :=
  let s := s.put Obj.REDUNDANCY_CFG.ENABLE v
  if v.toN = 0 then
    if s.role = 0 then .ok s
    else
      let s := s.updRed (fun r => { r with mirror := none, corUp := false, corBad := 0, corGood := 0, readAt := none, yieldLoads := false })
      let s := (s.setN Obj.REDUNDANCY_STATUS.PARTNER_ROLE 0xFF).setN Obj.REDUNDANCY_STATUS.PARTNER_NOT_READY 0x7F
      .ok ((s.setN Obj.REDUNDANCY_STATUS.LINKS 0).roleTo 0)
  else if s.role = 0 then .ok (s.roleTo 1)
  else .ok s

/-- REDUNDANCY_ENABLE (R352): a write of ENABLE. -/
def execRedundancyEnable (path : Path) (on : Nat) (s : State) : Out := .next (s.write path 0x2400 1 (leBytes 1 on) redundancyEnableEff)

/-- PAIR_WAIT (Table 13-4): no partner, and no head obeys the partner's port. -/
def execPairWait (s : State) : Out :=
  let heads := s.galIds.any (fun n => s.strOn n && bit (s.g n).trunk.obeyPort (1 - s.ownPort))
  if decide (s.role = 1) && s.red.mirror.isNone && !heads && s.passed s.red.roleAt (msTicks (s.getN Obj.REDUNDANCY_CFG.PAIR_WAIT)) then
    .next (s.nextEpoch.roleTo 2)
  else .next s

/-- TAKEOVER_TIMEOUT (Table 13-4): 16 superframes in TAKING_OVER. -/
def execTakeoverTimeout (s : State) : Out :=
  if s.role = 4 ∧ 16 ≤ s.red.roleSf then
    if s.red.cause = 1 then
      let s := (s.raise Obj.REDUNDANCY_STATUS.FLAGS 6).roleTo 3
      .next ((s.forGal (fun n s => s.convOff n)).groupsOff.updSafe (fun r => { r with adopt := none }))
    else .next ((s.raise Obj.REDUNDANCY_STATUS.FLAGS 9).takeOverEnds)
  else .next s

/-- YIELD_TIMEOUT (Table 13-4): HANDOVER_SF + 8 without AUTH bit 4 on every string; the swap is aborted. -/
def execYieldTimeout (s : State) : Out :=
  let all := s.galIds.all (fun n => !(s.strOn n && s.trunkUp n) || (s.g n).trunk.noClaim)
  if s.role = 5 ∧ sfReached s.presentSf ((s.red.handover + 8) % 2 ^ 32) = true ∧ all = false then
    .next ((s.raise Obj.REDUNDANCY_STATUS.FLAGS 6).roleTo 2)
  else .next s

/-- RE_ARM (R364). -/
def reArmEff (_ : Val) (s : State) : Except Nat State := .ok (s.updRed (fun r => { r with overlapYield := false }))

/-- RE_ARM: a write of 1 clears OVERLAP_YIELD. -/
def execReArm (path : Path) (s : State) : Out := .next (s.write path 0x2400 0x0A [1] reArmEff)

/-- SWAP_DUE (R357): SWAP_INTERVAL since the module last left ACTIVE, on a STANDBY module. -/
def execSwapDue (s : State) : Out :=
  let iv := s.getN Obj.REDUNDANCY_CFG.SWAP_INTERVAL
  match s.nand.swapFrom with
  | some t =>
    if s.role = 3 ∧ iv ≠ 0 ∧ secTicks iv ≤ s.aged t then .next (s.raise Obj.REDUNDANCY_STATUS.FLAGS 8) else .next s
  | none => .next s

end Sys2Proof.Machine
end

