-- ==== Sys2Proof/Machine/Arcade.lean ====
section
/-! DEFINITION. The Arcade ring (chapter 12): ports and bypass, HSR, messages, beacons and members, the election (R317, R318). -/
namespace Sys2Proof

/-! ### Arcade PDUs (Table 12-3) -/

/-- FRESHNESS. -/
def ArcMsg.fresh (m : ArcMsg) : Nat := fieldN m.bytes 0 8
/-- TYPE. -/
def ArcMsg.type (m : ArcMsg) : Nat := fieldN m.bytes 9 1
/-- LENGTH. -/
def ArcMsg.len (m : ArcMsg) : Nat := fieldN m.bytes 10 2
/-- SOURCE. -/
def ArcMsg.source (m : ArcMsg) : Nat := fieldN m.bytes 12 8
/-- DEST. -/
def ArcMsg.dest (m : ArcMsg) : Nat := fieldN m.bytes 20 8
/-- REQ_ID. -/
def ArcMsg.reqId (m : ArcMsg) : Nat := fieldN m.bytes 28 4
/-- PAYLOAD. -/
def ArcMsg.payload (m : ArcMsg) : List Byte := slice m.bytes 32 m.len
/-- Whether the layout is that of Table 12-3; other values of VERSION are dropped. -/
def ArcMsg.formOk (m : ArcMsg) : Bool :=
  decide (m.bytes.length = 48 + m.len) && decide (m.len ≤ 1416) && decide (fieldN m.bytes 8 1 = 1)

/-- The tag of R101. -/
def arcTag (key body : List Byte) : List Byte := (Config.hmac384 key body).toList.take 16
/-- Whether a message's tag is correct under a key. -/
def ArcMsg.tagOk (m : ArcMsg) (key : List Byte) : Bool :=
  decide (slice m.bytes (32 + m.len) 16 = arcTag key (m.bytes.take (32 + m.len)))

end Sys2Proof

namespace Sys2Proof.Machine

/-- Change the Arcade runtime. -/
def State.updArc (s : State) (f : ArcadeRt → ArcadeRt) : State := { s with arc := f s.arc }
/-- Change the time base runtime. -/
def State.updTime (s : State) (f : TimeRt → TimeRt) : State := { s with time := f s.time }
/-- Change the dispatch runtime. -/
def State.updDisp (s : State) (f : DispRt → DispRt) : State := { s with disp := f s.disp }

/-! ### Ports (R324) -/

/-- Whether the ports are active (R324). -/
def State.arcActive (s : State) : Bool := s.getN Obj.ARCADE_CFG.ENABLE == 1 && s.served && !s.entering
/-- PORT_E or PORT_W: 0 down, 1 loopback test, 2 up. -/
def portKey (west : Bool) : Nat := if west then Obj.ARCADE_STATUS.PORT_W else Obj.ARCADE_STATUS.PORT_E
/-- Whether the module is inserted and a port's link is up. -/
def State.portUp (s : State) (west : Bool) : Bool := s.getN Obj.ARCADE_STATUS.BYPASS == 2 && s.getN (portKey west) == 2
/-- Whether some port is up. -/
def State.anyPortUp (s : State) : Bool := s.portUp false || s.portUp true

/-! ### Own messages -/

/-- A PDU of this module, tagged with a key. -/
def State.pdu (s : State) (key : List Byte) (type dest id : Nat) (payload : List Byte) : List Byte :=
  let b := leBytes 8 s.now ++ [1, BitVec.ofNat 8 type] ++ leBytes 2 payload.length ++ leBytes 8 s.serial ++ leBytes 8 dest ++
    leBytes 4 id ++ payload
  b ++ arcTag key b

/-- The MAC address that a PDU goes to: the broadcast address for a beacon, else that of its destination (R323, R329). -/
def pduMac (type dest : Nat) : Nat := if type = 1 then 2 ^ 48 - 1 else macOf dest

/-- A PDU is sent as an HSR frame of EtherType 0x88B5. Until a ring key is written none is (R100). -/
def State.sendPdu (s : State) (type dest id : Nat) (payload : List Byte) : State :=
  match s.nand.ringKey with
  | some key => s.updArc (fun a => { a with
      tx := a.tx ++ [{ dest := pduMac type dest, seq := a.seq, body := s.pdu key type dest id payload }], seq := (a.seq + 1) % 2 ^ 16 })
  | none => s.raise Obj.ARCADE_STATUS.FLAGS 7

/-- A message that fails a check of R101 or R332 is dropped and counted. -/
def State.dropMsg (s : State) (flag : Nat) : State := (s.inc Obj.ARCADE_STATUS.AUTH_DROPPED).raise Obj.ARCADE_STATUS.FLAGS flag

/-- The three checks of R101 on a dictionary message; the second component tells whether it is accepted. -/
def State.accept101 (s : State) (m : ArcMsg) : State × Bool :=
  match s.nand.ringKey with
  | none => (s.dropMsg 7, false)
  | some key =>
    let d : Nat := if s.now ≤ m.fresh then m.fresh - s.now else s.now - m.fresh
    let newer := match SMap.find? s.arc.fresh m.source with
      | some f => decide (f < m.fresh)
      | none => true
    if m.tagOk key && newer && decide (d ≤ 312500000) then
      (s.updArc (fun a => { a with fresh := SMap.put a.fresh m.source m.fresh }), true)
    else (s.dropMsg 3, false)

/-! ### Members (R333) and the election (R317, R318) -/

/-- The place of a member in the list: modules by serial, then other members by MAC address. -/
def Member.rank (m : Member) : Nat := if m.kind = 1 then 2 ^ 64 + m.mac else m.serial
/-- A member entered at its place, or replaced. -/
def memPut (x : Member) : List Member → List Member
  | [] => [x]
  | y :: l => if x.rank < y.rank then x :: y :: l else if x.rank = y.rank then x :: l else y :: memPut x l
/-- Whether an entry is a module. -/
def Member.isModule (m : Member) : Bool := decide (m.kind ≠ 1)
/-- Whether one more member fits, of the kind told. -/
def State.memRoom (s : State) (isModule : Bool) : Bool :=
  decide (s.arc.members.length + 1 < s.getN Obj.ARCADE_CFG.MEMBER_MAX) &&
  (!isModule || decide ((s.arc.members.filter Member.isModule).length + 1 < 16))

/-- The better of two candidates, priority and serial: the higher priority, then the lower serial. -/
def betterCand (a b : Nat × Nat) : Nat × Nat :=
  if b.1 < a.1 then a else if a.1 < b.1 then b else if a.2 ≤ b.2 then a else b

/-- The candidates of R317 as priority and serial. -/
def State.leaderCands (s : State) : List (Nat × Nat) :=
  let wait := secTicks (s.getN Obj.LEADER_CFG.JOIN_DELAY)
  let own : List (Nat × Nat) := if s.getN Obj.LEADER_CFG.ELIGIBLE = 1 ∧ s.role ≠ 3 ∧ (s.timeLocked || s.isGrandmaster) = true ∧
      s.passed s.arc.selfSince wait = true then [(s.getN Obj.LEADER_CFG.PRIORITY, s.serial)] else []
  own ++ (s.arc.members.filter (fun m => m.isModule && bit m.mflags 0 && !bit m.mflags 1 && (bit m.mflags 5 || bit m.mflags 3) &&
    s.passed m.since wait)).map (fun m => (m.prio, m.serial))

/-- The leader by R317; 0 while there is no candidate, no ring key, or the ports are inactive. -/
def State.elect (s : State) : Nat :=
  if s.nand.ringKey.isNone || !s.arcActive then 0
  else match s.leaderCands with
    | [] => 0
    | c :: l => (l.foldl betterCand c).2

/-- The election computed anew, and ROLE, LEADER_SERIAL and MODULES_LED as they follow. -/
def State.electSync (s : State) : State :=
  let l := s.elect
  let s := if l = s.arc.leader then s
    else
      let s := (s.inc Obj.LEADER_CFG.ELECTIONS).updArc (fun a => { a with leader := l, follow := [] })
      let s := s.record 0x0302 0x08 0 0 (leBytes 8 l)
      if l = s.serial then s.updDisp (fun d => { d with newLead := 2 }) else s
  let s := s.setN Obj.DISPATCH_STATUS.LEADER_SERIAL l
  let s := s.setN Obj.DISPATCH_STATUS.ROLE (if s.role = 3 then 3 else if l = 0 then 0 else if l = s.serial then 1 else 2)
  if s.getN Obj.DISPATCH_STATUS.ROLE = 1 then s else s.setN Obj.LEADER_CFG.MODULES_LED 0

/-! ### The time keeper (R334) -/

/-- The serial of the time keeper. -/
def State.keeperNow (s : State) : Nat :=
  if s.getN Obj.DISPATCH_STATUS.ROLE = 0 then s.serial
  else
    let mods := s.arc.members.filter Member.isModule
    let gms := (if s.isGrandmaster then [s.serial] else []) ++ (mods.filter (fun m => bit m.mflags 3)).map (·.serial)
    let low := fun (l : List Nat) (d : Nat) => l.foldl min d
    match gms with
    | g :: l => low l g
    | [] => low (mods.map (·.serial)) s.serial

/-- Whether this module is the keeper. -/
def State.isKeeper (s : State) : Bool := s.getN Obj.TIMEBASE.KEEPER_SERIAL == s.serial

/-- A forward step of plant time is due at the next superframe boundary (R337). -/
def State.stepDue (s : State) (ticks : Int) : State :=
  if 0 < ticks then s.updTime (fun t => { t with stepPend := t.stepPend + ticks.toNat }) else s

/-- The module follows its keeper (R334): the ORIGIN of the keeper's latest beacon; a lower ORIGIN_SEQ of the same keeper is ignored
(Table 12-12), and a new one that lowers ORIGIN steps plant time forward (Table 12-6). -/
def State.keeperSync (s : State) : State :=
  let k := s.keeperNow
  let s := s.setN Obj.TIMEBASE.KEEPER_SERIAL k
  if k = s.serial then s.updArc (fun a => { a with keeperSeq := none })
  else match s.arc.members.find? (fun m => m.isModule && decide (m.serial = k)) with
    | none => s
    | some m =>
      let old := s.getI Obj.TIMEBASE.ORIGIN
      match s.arc.keeperSeq with
      | some (k', q) =>
        if k' = k then
          if m.oseq = q ∨ toSigned 32 (m.oseq + 2 ^ 32 - q) < 0 then s
          else
            let s := (s.setI Obj.TIMEBASE.ORIGIN m.origin).updArc (fun a => { a with keeperSeq := some (k, m.oseq) })
            if m.origin < old then s.stepDue ((old - m.origin) * 5 / 16) else s
        else (s.setI Obj.TIMEBASE.ORIGIN m.origin).updArc (fun a => { a with keeperSeq := some (k, m.oseq) })
      | none => (s.setI Obj.TIMEBASE.ORIGIN m.origin).updArc (fun a => { a with keeperSeq := some (k, m.oseq) })

/-- The keeper hears of modules that are ahead (Table 12-6): ORIGIN falls to the lowest NEED_ORIGIN and its own plant time steps. -/
def State.keeperHears (s : State) : State :=
  let old := s.getI Obj.TIMEBASE.ORIGIN
  let low := ((s.arc.members.filter Member.isModule).map (·.need)).foldl min old
  if s.isKeeper && decide (low < old) then
    ((s.setI Obj.TIMEBASE.ORIGIN low).updTime (fun t => { t with originSeq := (t.originSeq + 1) % 2 ^ 32 })).stepDue ((old - low) * 5 / 16)
  else s

/-- What follows every change of the member list. -/
def State.ringSync (s : State) : State := s.electSync.keeperSync

/-! ### Own beacon (Table 12-5) -/

/-- The own MFLAGS, bits 6 to 0 of Table 12-9. -/
def State.ownMflags (s : State) : Nat :=
  b2n (s.getN Obj.LEADER_CFG.ELIGIBLE == 1) + 2 * b2n (s.role == 3) + 4 * b2n s.isKeeper + 8 * b2n s.isGrandmaster +
  16 * b2n s.time.ahead + 32 * b2n s.timeLocked + 64 * b2n (decide (s.arc.leader = s.serial) && decide (s.arc.leader ≠ 0))

/-- The 32 bytes of a beacon's payload with a mode code. -/
def State.beaconBody (s : State) (mode : Nat) : List Byte :=
  let o := s.getI Obj.TIMEBASE.ORIGIN
  leBytes 2 s.part.hwType ++ leBytes 1 s.ownMflags ++ leBytes 1 (s.getN Obj.LEADER_CFG.PRIORITY) ++ leBytes 1 mode ++
  leBytes 1 (s.getN Obj.TIMEBASE.STATE) ++ [0, 0] ++ leBytes 8 (ofSigned 64 o) ++
  leBytes 4 (if s.isKeeper then s.time.originSeq else 0) ++ leBytes 4 0 ++
  leBytes 8 (ofSigned 64 (if s.time.ahead then s.time.need else o))

/-- A member entry (Table 12-9) as MEMBER_1 to MEMBER_32 read. -/
def State.memberBytes (s : State) (m : Member) (self : Bool) : List Byte :=
  let age := min 0xFFFFFFFF (s.since m.since / 312500000)
  leBytes 8 m.serial ++ (leBytes 6 m.mac).reverse ++ leBytes 1 m.kind ++ leBytes 1 (m.mflags % 128 + 128 * b2n self) ++
  leBytes 1 m.prio ++ leBytes 1 m.ports ++ leBytes 1 m.mode ++ [0] ++ leBytes 4 age ++ leBytes 8 (ofSigned 64 m.origin)

/-- The own entry. -/
def State.selfMember (s : State) : Member :=
  { serial := s.serial, mac := macOf s.serial, kind := if s.part = .zs8848 then 2 else 3, mflags := s.ownMflags
    prio := s.getN Obj.LEADER_CFG.PRIORITY, ports := b2n s.arc.backE + 2 * b2n s.arc.backW, mode := s.mode.code
    since := s.arc.selfSince, heard := s.root, origin := s.getI Obj.TIMEBASE.ORIGIN }

/-- The member list with this module in it; empty while the ports are inactive. -/
def State.memberList (s : State) : List Member := if s.arcActive then memPut s.selfMember s.arc.members else []

/-! ### Bypass (R327, Table 12-2) -/

/-- The ports stop: nothing of the ring is left. -/
def State.portsStop (s : State) : State :=
  let s := (s.setN Obj.ARCADE_STATUS.BYPASS 0).setN Obj.ARCADE_STATUS.RING_STATE 0
  let s := (s.setN Obj.ARCADE_STATUS.PORT_E 0).setN Obj.ARCADE_STATUS.PORT_W 0
  s.updArc (fun a => { a with members := [], nodes := [], reqs := [], follow := [], opens := [], parts := [], backE := false, backW := false,
                              beaconAt := none, lifeAt := none })

/-- The hardware release of RESET_N, PFAIL and a loss of VIO: no beacon. -/
def State.bypassRelease (s : State) : State := if s.getN Obj.ARCADE_STATUS.BYPASS = 0 then s else s.portsStop.ringSync

/-- The ports follow R324: training starts when they become active; by request they go with a last beacon that carries the new mode,
and BYP goes low 1 ms later. -/
def State.arcSync (s : State) (newMode : Nat) : State :=
  let b := s.getN Obj.ARCADE_STATUS.BYPASS
  if s.arcActive then
    if b = 0 then
      let s := (s.setN Obj.ARCADE_STATUS.BYPASS 1).setN Obj.ARCADE_STATUS.PORT_E 1 |>.setN Obj.ARCADE_STATUS.PORT_W 1
      let s := if s.nand.ringKey.isNone then s.raise Obj.ARCADE_STATUS.FLAGS 7 else s
      (s.updArc (fun a => { a with testAt := s.root, selfSince := s.root })).ringSync
    else s
  else if b = 0 then s
  else
    let s := if b = 2 ∧ s.nand.ringKey.isSome = true then s.sendPdu 1 0 0 (s.beaconBody newMode) else s
    let s := if b = 2 then s.updArc (fun a => { a with bypUntil := s.root + msTicks 1 }) else s
    s.portsStop.ringSync

/-- ARCADE_CFG ENABLE. -/
def arcadeEnableEff (v : Val) (s : State) : Except Nat State := .ok ((s.put Obj.ARCADE_CFG.ENABLE v).arcSync s.mode.code)

/-- BYPASS_INSERT: both ports have passed the loopback test; BYP_E and BYP_W go high. -/
def execBypassInsert (s : State) : Out :=
  if s.getN Obj.ARCADE_STATUS.BYPASS = 1 then
    let s := (s.setN Obj.ARCADE_STATUS.BYPASS 2).setN Obj.ARCADE_STATUS.RING_STATE 1
    .next ((s.setN Obj.ARCADE_STATUS.PORT_E 0).setN Obj.ARCADE_STATUS.PORT_W 0)
  else .next s

/-- BYPASS_TEST_TIMEOUT: 5 s of testing without a pass of both ports; training restarts. -/
def execBypassTestTimeout (eastOk westOk : Bool) (s : State) : Out :=
  if s.getN Obj.ARCADE_STATUS.BYPASS = 1 ∧ s.passed s.arc.testAt (secTicks 5) = true ∧ (eastOk && westOk) = false then
    let s := if eastOk then s else s.raise Obj.ARCADE_STATUS.FLAGS 1
    let s := if westOk then s else s.raise Obj.ARCADE_STATUS.FLAGS 2
    .next (s.updArc (fun a => { a with testAt := s.root }))
  else .next s

/-- ARCADE_LINK_LOSS: an inserted port loses link and retrains; BYP stays high. -/
def execArcadeLinkLoss (west : Bool) (s : State) : Out :=
  if s.portUp west then .next ((s.setN (portKey west) 0).raise Obj.ARCADE_STATUS.FLAGS (if west then 2 else 1))
  else .next s

/-- ARCADE_LINK_UP: a port has trained with its neighbour. Under clause 37 a partner that advertises other than full duplex without pause is
refused, and the link does not come up (R323). -/
def execArcadeLinkUp (port : PortUp) (s : State) : Out :=
  let refused := s.getN Obj.ARCADE_CFG.AUTONEG == 1 && (!port.fullDuplex || port.pause)
  if s.getN Obj.ARCADE_STATUS.BYPASS = 2 ∧ s.getN (portKey port.west) = 0 ∧ refused = false then
    let first := !s.anyPortUp
    let s := s.setN (portKey port.west) 2
    .next (if first then s.updTime (fun t => { t with listenAt := s.root }) else s)
  else .next s

/-- A ladder step 1 or 2 on one Arcade port retrains it without touching BYP (R328). -/
def State.portRetrain (s : State) (west : Bool) : State :=
  match s.getN Obj.ARCADE_STATUS.BYPASS with
  | 1 => s.updArc (fun a => { a with testAt := s.root })
  | 2 => s.setN (portKey west) 0
  | _ => s

/-! ### HSR (R325, Table 12-1) -/

/-- RING_STATE of an inserted module; leaving CLOSED sets RING_OPEN. -/
def State.ringState (s : State) (r : Nat) : State :=
  let s := if r = 1 ∧ s.getN Obj.ARCADE_STATUS.RING_STATE = 2 then s.raise Obj.ARCADE_STATUS.FLAGS 0 else s
  s.setN Obj.ARCADE_STATUS.RING_STATE r

/-- A supervision frame of another node (R333). -/
def State.supervised (s : State) (west : Bool) (mac : Nat) : State :=
  let p := if west then 2 else 1
  match s.arc.members.find? (fun m => decide (m.mac = mac)) with
  | some m =>
    let m' := { m with ports := m.ports ||| p, heard := if m.kind = 1 then s.root else m.heard }
    s.updArc (fun a => { a with members := memPut m' a.members })
  | none =>
    if s.memRoom false then
      let m : Member := { serial := 0, mac := mac, kind := 1, ports := p, since := s.root, heard := s.root }
      (s.updArc (fun a => { a with members := memPut m a.members })).ringSync
    else s.raise Obj.ARCADE_STATUS.FLAGS 5

/-- The HSR node table: a node heard on a port, 64 entries, each forgotten 60 s after it was last heard (Table 12-1). -/
def State.nodeHeard (s : State) (west : Bool) (mac : Nat) : State :=
  let p := if west then 2 else 1
  let live := s.arc.nodes.filter (fun n => !s.passed n.at_ (secTicks 60))
  let n := match live.find? (fun n => decide (n.mac = mac)) with
    | some n => { n with at_ := s.root, ports := n.ports ||| p }
    | none => { mac := mac, at_ := s.root, ports := p }
  s.updArc (fun a => { a with nodes := (n :: live.filter (fun x => decide (x.mac ≠ mac))).take 64 })

/-- Whether a MAC address is a group address. -/
def macIsGroup (mac : Nat) : Bool := bit mac 40

/-- HSR_FRAME_RX: an error, an own frame that returns, or a frame that is forwarded, discarded as a duplicate, or taken. -/
def execHsrFrameRx (west : Bool) (f : HsrFrame) (s : State) : Out :=
  let me := macOf s.serial
  if !s.portUp west then .next s
  else if f.bad then .next (s.inc Obj.ARCADE_STATUS.RX_ERRORS)
  else if f.mac = me then
    let s := s.updArc (fun a => { a with fwd := none })
    if f.supervision then
      let s := s.updArc (fun a => { a with backE := a.backE || !west, backW := a.backW || west })
      .next (if s.arc.backE && s.arc.backW then s.ringState 2 else s)
    else .next s
  else
    let s := s.nodeHeard west f.mac
    let s := s.updArc (fun a => { a with
      fwd := if f.dest = me then none else some f
      dups := a.dups.filter (fun e => decide (s.root < e.2.2 + msTicks 400)) })
    if decide (f.dest = me) || macIsGroup f.dest then
      if s.arc.dups.any (fun e => decide (e.1 = f.mac) && decide (e.2.1 = f.seq)) then .next (s.inc Obj.ARCADE_STATUS.DUPLICATES)
      else
        let s := s.updArc (fun a => { a with dups := (f.mac, f.seq, s.root) :: a.dups })
        let s := if f.dest = me then s.inc Obj.ARCADE_STATUS.FRAMES_RX else s
        .next (if f.supervision then s.supervised west f.mac else s)
    else .next s

/-- HSR_SUPERVISION_TX: every LIFE_CHECK; the ring is judged on the frames sent before (R328). -/
def execHsrSupervisionTx (s : State) : Out :=
  let due := match s.arc.lifeAt with
    | some t => s.passed t (msTicks (s.getN Obj.ARCADE_CFG.LIFE_CHECK))
    | none => true
  if s.anyPortUp && due then
    let s := if s.arc.lifeAt.isSome then
        if s.arc.backE && s.arc.backW then s.ringState 2 else if s.arc.backE || s.arc.backW then s else s.ringState 1
      else s
    .next (s.updArc (fun a => { a with
      lifeAt := some s.root, backE := false, backW := false, seq := (a.seq + 1) % 2 ^ 16
      tx := [{ dest := 0x01154E000100, seq := a.seq, ether := 0x88FB, body := [] }] }))
  else .next s

/-- NODE_FORGET: a node leaves the node table 60 s after it was last heard, and another member the list 60 s after its last supervision
frame. -/
def execNodeForget (mac : Nat) (s : State) : Out :=
  let s := s.updArc (fun a => { a with nodes := a.nodes.filter (fun n => !(decide (n.mac = mac) && s.passed n.at_ (secTicks 60))) })
  let gone := fun (m : Member) => decide (m.kind = 1) && decide (m.mac = mac) && s.passed m.heard (secTicks 60)
  if s.arc.members.any gone then
    .next (s.updArc (fun a => { a with members := a.members.filter (fun m => !gone m) })).ringSync
  else .next s

/-! ### Beacons (R332, R333) -/

/-- BEACON_TX: every BEACON_INTERVAL. -/
def execBeaconTx (s : State) : Out :=
  let due := match s.arc.beaconAt with
    | some t => s.passed t (msTicks (s.getN Obj.ARCADE_CFG.BEACON_INTERVAL))
    | none => true
  if s.arcActive && s.anyPortUp && due then
    .next (((s.updArc (fun a => { a with tx := [] })).sendPdu 1 0 0 (s.beaconBody s.mode.code)).updArc (fun a => { a with
      beaconAt := some s.root }))
  else .next s

/-- The entry a beacon stands for. -/
def State.memberOf (s : State) (b : Beacon) (old : Option Member) : Member :=
  let p := b.payload
  let port := if b.west then 2 else 1
  { serial := b.source, mac := b.mac, kind := if fieldN p 0 2 = 0x8848 then 2 else 3, mflags := fieldN p 2 1 % 128
    prio := fieldN p 3 1, ports := ((old.map (·.ports)).getD 0) ||| port, mode := fieldN p 4 1
    since := (old.map (·.since)).getD s.root, heard := s.root, origin := fieldI p 8 8, need := fieldI p 24 8
    oseq := fieldN p 16 4 }

/-- An accepted beacon updates the list (R333). -/
def State.beaconMember (s : State) (b : Beacon) : State :=
  let isIt := fun (m : Member) => m.isModule && decide (m.serial = b.source)
  let old := s.arc.members.find? isIt
  let twice := match SMap.find? s.arc.macs b.source with
    | some m => decide (m ≠ b.mac)
    | none => false
  let s := s.updArc (fun a => { a with macs := SMap.put a.macs b.source b.mac })
  let away := s.updArc (fun a => { a with members := a.members.filter (fun m => !isIt m) })
  let mode := fieldN b.payload 4 1
  if twice then away.raise Obj.ARCADE_STATUS.FLAGS 4
  else if mode < 3 ∨ 5 < mode then away
  else
    let s := s.updArc (fun a => { a with members := a.members.filter (fun m => m.isModule || decide (m.mac ≠ b.mac)) })
    if old.isSome || s.memRoom true then s.updArc (fun a => { a with members := memPut (s.memberOf b old) a.members })
    else s.raise Obj.ARCADE_STATUS.FLAGS 5

/-- BEACON_RX: accepted on its tag and a FRESHNESS greater than the last of its source; the other copy of an accepted beacon is a
duplicate. -/
def execBeaconRx (b : Beacon) (s : State) : Out :=
  if !s.portUp b.west || !b.formOk || decide (b.type ≠ 1) || decide (b.len ≠ 32) then .next s
  else if b.source = s.serial then
    .next (if b.mac = macOf s.serial then s else s.raise Obj.ARCADE_STATUS.FLAGS 4)
  else match s.nand.ringKey with
    | none => .next (s.dropMsg 7)
    | some key =>
      let last := SMap.find? s.arc.freshB b.source
      let copyOf := s.arc.members.find? (fun m => m.isModule && decide (m.serial = b.source) && decide (m.mac = b.mac) &&
        !s.passed m.heard (msTicks 400))
      if !b.tagOk key then .next (s.dropMsg 3)
      else if last = some b.fresh ∧ copyOf.isSome = true then
        let p := if b.west then 2 else 1
        let s := s.inc Obj.ARCADE_STATUS.DUPLICATES
        .next (s.updArc (fun a => { a with members := a.members.map (fun m =>
          if m.isModule && decide (m.serial = b.source) then { m with ports := m.ports ||| p } else m) }))
      else if (last.map (fun l => decide (l < b.fresh))).getD true then
        let s := s.updArc (fun a => { a with freshB := SMap.put a.freshB b.source b.fresh })
        .next (s.beaconMember b).ringSync.keeperHears
      else .next (s.dropMsg 3)

/-- MEMBER_TIMEOUT: a module is removed MEMBER_TIMEOUT after its last accepted beacon. -/
def execMemberTimeout (serial : Nat) (s : State) : Out :=
  let gone := fun (m : Member) => m.isModule && decide (m.serial = serial) && s.passed m.heard (msTicks (s.getN Obj.ARCADE_CFG.MEMBER_TIMEOUT))
  if s.arc.members.any gone then
    .next (s.updArc (fun a => { a with members := a.members.filter (fun m => !gone m) })).ringSync
  else .next s

/-- JOIN_DELAY (R317): a member has been one for JOIN_DELAY, and the election is computed anew. -/
def execJoinDelay (serial : Nat) (s : State) : Out :=
  if decide (serial = s.serial) || s.arc.members.any (fun m => m.isModule && decide (m.serial = serial)) then .next s.ringSync
  else .next s

/-! ### Own requests (R319, R331) -/

/-- The payload of a read request (Table 12-4). -/
def readBody (index sub : Nat) : List Byte :=
  leBytes 2 index ++ leBytes 1 sub ++ [0] ++ leBytes 4 0 ++ leBytes 4 0 ++ leBytes 2 1400
/-- The payload of a write request in one segment. -/
def writeBody (index sub : Nat) (d : List Byte) : List Byte :=
  leBytes 2 index ++ leBytes 1 sub ++ [1] ++ leBytes 4 0 ++ leBytes 4 d.length ++ leBytes 4 0 ++ d

/-- A request of this module is sent, and waits for its response. -/
def State.request (s : State) (dest index sub : Nat) (d : Option (List Byte)) : State :=
  if s.nand.ringKey.isNone || !s.anyPortUp then s
  else
    let id := s.arc.nextId
    let s := s.sendPdu (if d.isSome then 3 else 2) dest id (match d with | some d => writeBody index sub d | none => readBody index sub)
    s.updArc (fun a => { a with
      nextId := (id + 1) % 2 ^ 32
      reqs := a.reqs ++ [({ id := id, dest := dest, write := d.isSome, index := index, sub := sub, at_ := s.root } : ArcReq)] })

/-! ### Planned swap -/

/-- SWAP (R366). A standby passes it to the partner over the Arcade as a write of the partner's SWAP; how the Corridor would carry it is not
stated (DESIGN CHOICE, log 73). -/
def swapEff (_ : Val) (s : State) : Except Nat State :=
  match s.role, s.red.mirror with
  | 2, some m =>
    let groups := (List.range 8).all (fun g => match (s.grp g).state with
      | .off | .waitOff | .energised => true
      | _ => false)
    let convs := s.galIds.all (fun n => match (s.g n).tread.state with
      | .reversing | .stopping => false
      | _ => true)
    if s.partnerPath && decide (m.notReady = 0) && groups && convs then
      .ok ((s.roleTo 5).updRed (fun r => { r with handover := (s.presentSf + 32) % 2 ^ 32 }))
    else .error abortState
  | 3, some m =>
    let ok := m.strings.all (fun x => [0, 1, 6, 0xFF].contains x.group && decide (x.conv ≠ 3) && decide (x.conv ≠ 4))
    if s.partnerPath && decide (s.notReadyNow = 0) && ok then .ok ((s.updRed (fun r => { r with passSwap := true })).request m.serial 0x2400 8 (some [1]))
    else .error abortState
  | _, _ => .error abortState

/-- SWAP (R366): accepted by the ACTIVE module, or by the STANDBY module, which passes it to its partner. -/
def execSwap (path : Path) (s : State) : Out := .next (s.write path 0x2400 8 [1] swapEff)

/-- The followers' values in the order of R319: P_DIS_AVAIL, P_CHG_AVAIL, SOC_MODULE, P_ACTUAL, as sub-indices of DISPATCH_STATUS. -/
def followSubs : List Nat := [2, 3, 6, 1]

/-- A response to a read of R319. -/
def Follow.take (f : Follow) (sub : Nat) (v : Option Q) : Follow :=
  match followSubs.findIdx? (· == sub) with
  | some i => { f with vals := modAt f.vals i (fun _ => v), got := modAt f.got i (fun _ => true) }
  | none => f

/-- ARCADE_RESPONSE: the response to an own request, checked by R101. -/
def execArcadeResponse (msg : ArcMsg) (s : State) : Out :=
  if !s.portUp msg.west || !msg.formOk || decide (msg.type ≠ 4) || decide (msg.dest ≠ s.serial) then .next s
  else
    let (s, ok) := s.accept101 msg
    if !ok then .next s
    else match s.arc.reqs.find? (fun r => decide (r.id = msg.reqId) && decide (r.dest = msg.source)) with
      | none => .next s
      | some r =>
        let s := s.updArc (fun a => { a with reqs := a.reqs.filter (fun q => decide (q.id ≠ r.id)) })
        let p := msg.payload
        let ok := decide (fieldN p 12 4 = 0) && decide (fieldN p 0 2 = r.index) && decide (fieldN p 2 1 = r.sub)
        let s := if r.write && decide (r.index = 0x2400) then s.updRed (fun x => { x with passSwap := false }) else s
        .next (s.updArc (fun a => { a with follow := a.follow.map (fun f =>
          if f.serial ≠ r.dest then f
          else if r.write then { f with wrote := f.wrote && ok }
          else if ok && decide (r.index = 0x3402) && decide (p.length = 20) then f.take r.sub (realOfBits (fieldN p 16 4))
          else f) }))

/-- ARCADE_REQ_TIMEOUT: no response within REQ_TIMEOUT. The module does not send the request again. -/
def execArcadeReqTimeout (reqId : Nat) (s : State) : Out :=
  let late := fun (r : ArcReq) => decide (r.id = reqId) && s.passed r.at_ (msTicks (s.getN Obj.ARCADE_CFG.REQ_TIMEOUT))
  if s.arc.reqs.any late then
    let s := (s.inc Obj.ARCADE_STATUS.REQUESTS_TIMED_OUT).raise Obj.ARCADE_STATUS.FLAGS 6
    let s := if s.arc.reqs.any (fun r => late r && r.write && decide (r.index = 0x2400)) then s.updRed (fun x => { x with passSwap := false })
      else s
    .next (s.updArc (fun a => { a with
      follow := a.follow.map (fun f => if a.reqs.any (fun r => late r && r.write && decide (r.dest = f.serial)) then
        { f with wrote := false } else f)
      reqs := a.reqs.filter (fun r => !late r) }))
  else .next s

end Sys2Proof.Machine
end

