-- ==== Sys2Proof/Machine/Chan.lean ====
section
/-! DEFINITION. Universal analogue channels (chapter 14): sampling, auto-ranging, characteristics, outputs, HART, test. -/
namespace Sys2Proof.Machine

/-- A channel's runtime. -/
def State.chan (s : State) (n : Nat) : ChanRt := s.chans.getD n {}
/-- Change a channel's runtime. -/
def State.updChan (s : State) (n : Nat) (f : ChanRt → ChanRt) : State := { s with chans := modAt s.chans n f }
/-- Change a channel's HART link. -/
def State.updHart (s : State) (n : Nat) (f : HartRt → HartRt) : State := s.updChan n (fun c => { c with hart := f c.hart })

/-- The index of an object of channel n; one that does not exist for a channel that does not. -/
def chIdx (n off : Nat) : Nat := if n < 16 then 0x3000 + 0x10 * n + off else 0x3100

/-- FUNCTION. -/
def State.chFn (s : State) (n : Nat) : Nat := s.getN (Chn.CH_CFG.FUNCTION n)
/-- Whether the channel is an output. -/
def State.chOut (s : State) (n : Nat) : Bool := s.chFn n == 5 || s.chFn n == 6
/-- Whether the channel serves its function: not on the burden of R370's first two cases. -/
def State.chRuns (s : State) (n : Nat) : Bool :=
  decide (n < 16) && (match s.mode with | .ready | .run | .lockout => true | _ => false) && (s.chan n).busy.isNone && !(s.chan n).stuck
/-- Whether the function needs VLOOP (R383). -/
def State.chNeedsLoop (s : State) (n : Nat) : Bool := s.chOut n || (s.chFn n == 2 && s.getN (Chn.CH_CFG.LOOP_POWER n) == 1)

/-! ### STATE and FAULTS (R373) -/

/-- STATE takes a value; FAULTS records every bit that comes on, and an input with a channel fault has no value. -/
def State.chState (s : State) (n w : Nat) : State :=
  let s := (s.setN (Chn.CH_STATUS.STATE n) w).setN (Chn.CH_STATUS.FAULTS n) (s.getN (Chn.CH_STATUS.FAULTS n) ||| w)
  if s.chFault n && !s.chOut n then (s.setR (Chn.CH_STATUS.VALUE n) none).setR (Chn.CH_STATUS.RAW n) none else s
/-- One bit of STATE set or cleared. -/
def State.chBit (s : State) (n i : Nat) (b : Bool) : State := s.chState n (withBit (s.getN (Chn.CH_STATUS.STATE n)) i b)

/-! ### Characteristics (R377, R378) -/

/-- The value of a piecewise linear function on pointsRise points, and whether the argument lies outside them. -/
def tableAt (pts : List (Q × Q)) (x : Q) : Q × Bool :=
  match pts, pts.getLast? with
  | p :: _, some l =>
    if x < p.1 then (p.2, true)
    else if l.1 < x then (l.2, true)
    else
      let seg := (pts.zip (pts.drop 1)).find? (fun e => decide (e.1.1 ≤ x) && decide (x ≤ e.2.1))
      match seg with
      | some (a, b) => (a.2 + (b.2 - a.2) * (x - a.1) / (b.1 - a.1), false)
      | none => (l.2, false)
  | _, _ => (0, true)

/-- RAW mapped to VALUE; the second component is OUT_OF_TABLE. -/
def CharSet.fwd (c : CharSet) (x : Q) : Q × Bool :=
  if c.type = 1 then
    let u := (x - c.xLo) / (c.xHi - c.xLo)
    (if c.cutoff ≤ u then c.yHi * qsqrt u else 0, false)
  else if c.type = 2 then tableAt c.pts x
  else (c.gain * x + c.offset, false)

/-- The electrical value whose VALUE is `y`; the second component is OUT_OF_TABLE. -/
def CharSet.back (c : CharSet) (y : Q) : Q × Bool :=
  if c.type = 2 then
    let inv := c.pts.map (fun p => (p.2, p.1))
    match inv, inv.getLast? with
    | p :: _, some l => tableAt (if p.1 ≤ l.1 then inv else inv.reverse) y
    | _, _ => (0, true)
  else ((y - c.offset) / c.gain, false)

/-- The staged characteristic. -/
def State.staged14 (s : State) (n : Nat) : CharSet :=
  { type := s.getN (Chn.CH_CHAR.CHAR_TYPE n), gain := s.getQ (Chn.CH_CHAR.GAIN n), offset := s.getQ (Chn.CH_CHAR.OFFSET n)
    xLo := s.getQ (Chn.CH_CHAR.X_LO n), xHi := s.getQ (Chn.CH_CHAR.X_HI n), yHi := s.getQ (Chn.CH_CHAR.Y_HI n)
    cutoff := s.getQ (Chn.CH_CHAR.CUTOFF n)
    pts := (List.range' 1 (s.getN (Chn.CH_CHAR.POINTS n))).map (fun i => (s.getQ (Chn.CH_CHAR.X n i), s.getQ (Chn.CH_CHAR.Y n i))) }

/-- Whether numbers rise strictly. -/
def pointsRise (l : List Q) : Bool := (l.zip (l.drop 1)).all (fun e => decide (e.1 < e.2))

/-- CHAR_ERROR of a set (R378). -/
def charErrors (out : Bool) (c : CharSet) : Nat :=
  let table := decide (c.type = 2)
  let xs := c.pts.map (·.1)
  let ys := c.pts.map (·.2)
  b2n (out && decide (c.type = 0) && decide (c.gain = 0)) +
  2 * b2n (decide (c.type = 1) && (decide (c.xHi ≤ c.xLo) || decide (c.yHi = 0))) +
  4 * b2n (out && decide (c.type = 1)) +
  8 * b2n (table && (decide (c.pts.length < 2) || decide (32 < c.pts.length))) +
  16 * b2n (table && !pointsRise xs) +
  32 * b2n (table && out && !pointsRise ys && !pointsRise ys.reverse)

/-- APPLY: a valid set takes effect at the next sample; another is refused, and CHAR_ERROR names the faults. -/
def chApplyEff (n : Nat) (_ : Val) (s : State) : Option Nat × State :=
  let c := s.staged14 n
  let e := charErrors (s.chOut n) c
  let s := s.setN (Chn.CH_CHAR.CHAR_ERROR n) e
  if e = 0 then (none, s.updChan n (fun r => { r with charNext := some c })) else (some abortRange, s)
/-- CH_CHAR_APPLY (R378). -/
def execChCharApply (path : Path) (n : Nat) (s : State) : Out := .next (s.writeX path (chIdx n 0x1) 9 [1] (chApplyEff n))

/-! ### HART (R384 to R387) -/

/-- Whether HART runs on a channel. -/
def State.hartOn (s : State) (n : Nat) : Bool :=
  s.getN (Chn.HART_CFG.HART_ENABLE n) == 1 && (s.chFn n == 2 || s.chFn n == 6) && s.getN (Chn.CH_CFG.RATE n) != 3 && s.chRuns n
/-- A request frame (R385): preambles, delimiter, address, command, byte count, data, longitudinal check byte. Command 0 goes with the short
address, every other with the long one. The delimiters, the place of the master bit and the exclusive-or check are PRESUMED as HART has
them. -/
def State.hartFrame (s : State) (n command : Nat) (data : List Byte) : List Byte :=
  let prim := b2n (s.getN (Chn.HART_CFG.MASTER n) == 0)
  let id := s.getN (Chn.HART_CFG.UNIQUE_ID n)
  let addr : List Byte := if command = 0 then 0x02 :: leBytes 1 (128 * prim + s.getN (Chn.HART_CFG.POLL_ADDRESS n))
    else 0x82 :: (leBytes 4 id ++ leBytes 1 (128 * prim + id / 2 ^ 32 % 64)).reverse
  let body := addr ++ leBytes 1 command ++ leBytes 1 data.length ++ data
  List.replicate (s.getN (Chn.HART_CFG.PREAMBLES n)) 0xFF ++ body ++ [body.foldl (fun a b => a ^^^ b) 0]
/-- The frame of a transaction: 1 identification, 2 poll, 3 the request. -/
def State.hartForm (s : State) (n what : Nat) : List Byte :=
  match what with
  | 1 => s.hartFrame n 0 []
  | 2 => s.hartFrame n 3 []
  | _ =>
    let r := (s.chan n).hart.req.getD []
    s.hartFrame n (r.headD 0).toNat (r.drop 1)

/-- A transaction starts. -/
def State.hartSend (s : State) (n what : Nat) : State :=
  let s := if what = 3 then s.setN (Chn.HART_XFER.XFER_STATE n) 2 else s
  s.updHart n (fun h => { h with doing := what, sentAt := s.root, tries := 0, tx := s.hartForm n what, pollAt := if what = 2 then some s.root else h.pollAt })
/-- A request that waits or runs ends ABORTED; no response is kept. -/
def State.hartAbort (s : State) (n : Nat) : State :=
  let x := s.getN (Chn.HART_XFER.XFER_STATE n)
  let s := if x = 1 ∨ x = 2 then s.setN (Chn.HART_XFER.XFER_STATE n) 5 else s
  s.updHart n (fun h => { h with doing := 0, req := none, resp := if x = 1 ∨ x = 2 then [] else h.resp })
/-- The link starts at identification, or is off where HART does not run. -/
def State.hartStart (s : State) (n : Nat) : State :=
  let s := (s.hartAbort n).chBit n 13 false
  if s.hartOn n then (s.setN (Chn.HART_CFG.LINK_STATE n) 1).hartSend n 1
  else s.setN (Chn.HART_CFG.LINK_STATE n) 0
/-- After a transaction, a queued request is sent. -/
def State.hartNext (s : State) (n : Nat) : State :=
  let s := s.updHart n (fun h => { h with doing := 0 })
  if s.getN (Chn.HART_XFER.XFER_STATE n) = 1 ∧ s.getN (Chn.HART_CFG.LINK_STATE n) = 2 then s.hartSend n 3 else s

/-- The link goes on after the pause of a test (R388): identification starts anew where it had not ended, and a queued request is sent. -/
def State.hartResume (s : State) (n : Nat) : State :=
  if !s.hartOn n || decide (s.getN (Chn.HART_CFG.LINK_STATE n) < 2) then s.hartStart n else s.hartNext n

/-- A big-endian REAL32 of a HART frame (PRESUMED, as HART sends it). -/
def hartReal (d : List Byte) (off : Nat) : Option Q :=
  if off + 4 ≤ d.length then realOfBits (leNat (slice d off 4).reverse) else none

/-- The data of command 3: loop current, then up to four variables with their unit codes. -/
def State.hartVars (s : State) (n : Nat) (d : List Byte) : State :=
  let s := s.setR (Chn.HART_CFG.LOOP_CURRENT n) (hartReal d 0)
  let s := ((s.setR (Chn.HART_CFG.PV n) (hartReal d 5)).setR (Chn.HART_CFG.SV n) (hartReal d 10)).setR (Chn.HART_CFG.TV n) (hartReal d 15)
  let s := s.setR (Chn.HART_CFG.QV n) (hartReal d 20)
  let unit := fun (i : Nat) => ((d[4 + 5 * i]?).map (·.toNat)).getD 0
  let s := s.setN (Chn.HART_CFG.UNITS n) (unit 0 + 256 * unit 1 + 65536 * unit 2 + 16777216 * unit 3)
  s.updHart n (fun h => { h with dataAt := some s.root })

/-- HART_POLL: command 3, every POLL_INTERVAL while the link is up; a request goes first. -/
def execHartPoll (n : Nat) (s : State) : Out :=
  let h := (s.chan n).hart
  let iv := s.getN (Chn.HART_CFG.POLL_INTERVAL n)
  let due := match h.pollAt with
    | some t => s.passed t (msTicks iv)
    | none => true
  if s.hartOn n && decide (s.getN (Chn.HART_CFG.LINK_STATE n) = 2) && decide (h.doing = 0) && decide (iv ≠ 0) && due then
    .next (s.hartSend n 2)
  else .next s

/-- HART_RESPONSE_RX: the response to the transaction that runs. -/
def execHartResponseRx (n : Nat) (f : HartFrame) (s : State) : Out :=
  let h := (s.chan n).hart
  let reqCmd := ((h.req.getD []).headD 0).toNat
  let expects := match h.doing with
    | 1 => decide (f.command = 0)
    | 2 => decide (f.command = 3)
    | 3 => decide (f.command = reqCmd)
    | _ => false
  if !s.hartOn n || f.bad || !expects then .next s
  else
    let s := (s.inc (Chn.HART_CFG.TRANSACTIONS n)).setN (Chn.HART_CFG.DEVICE_STATUS n) (f.code % 256 + 256 * (f.status % 256))
    let s := match h.doing with
      | 1 =>
        let s := (s.setN (Chn.HART_CFG.UNIQUE_ID n) (f.long % 2 ^ 40)).setN (Chn.HART_CFG.LINK_STATE n) 2
        (s.chBit n 13 false).updHart n (fun h => { h with pollAt := none })
      | 2 => s.hartVars n f.data
      | _ =>
        (s.setN (Chn.HART_XFER.XFER_STATE n) 3).updHart n (fun h => { h with
          req := none, resp := [BitVec.ofNat 8 f.command, BitVec.ofNat 8 f.code, BitVec.ofNat 8 f.status] ++ f.data })
    .next (s.hartNext n)

/-- HART_BURST_FRAME: an unasked frame with the data of command 3 updates the variables. -/
def execHartBurstFrame (n : Nat) (f : HartFrame) (s : State) : Out :=
  if s.hartOn n && !f.bad && decide (f.command = 3) then .next (s.hartVars n f.data) else .next s

/-- HART_RESPONSE_TIMEOUT: the request is repeated up to RETRIES times; then a poll or an identification fails the link. -/
def execHartResponseTimeout (n : Nat) (s : State) : Out :=
  let h := (s.chan n).hart
  if !s.hartOn n || decide (h.doing = 0) || !s.passed h.sentAt (msTicks (s.getN (Chn.HART_CFG.TIMEOUT n))) then .next s
  else if h.tries < s.getN (Chn.HART_CFG.RETRIES n) then
    .next (s.updHart n (fun h => { h with tries := h.tries + 1, sentAt := s.root, tx := s.hartForm n h.doing }))
  else
    let s := s.inc (Chn.HART_CFG.HART_FAILURES n)
    if h.doing = 3 then
      .next (((s.setN (Chn.HART_XFER.XFER_STATE n) 4).updHart n (fun h => { h with req := none, resp := [] })).hartNext n)
    else
      let s := (s.setN (Chn.HART_CFG.LINK_STATE n) 3).chBit n 13 true
      let s := if s.getN (Chn.HART_XFER.XFER_STATE n) = 1 then s.setN (Chn.HART_XFER.XFER_STATE n) 4 else s
      .next (s.updHart n (fun h => { h with doing := 0, req := none, failAt := s.root }))

/-- HART_IDENTIFY_RETRY: a failed link repeats identification every 30 s. -/
def execHartIdentifyRetry (n : Nat) (s : State) : Out :=
  let h := (s.chan n).hart
  if s.hartOn n && decide (s.getN (Chn.HART_CFG.LINK_STATE n) = 3) && decide (h.doing = 0) && s.passed h.failAt (secTicks 30) then
    .next ((s.setN (Chn.HART_CFG.LINK_STATE n) 1).hartSend n 1)
  else .next s

/-- REQUEST of HART_XFER (R387). -/
def hartRequestEff (n : Nat) (v : Val) (s : State) : Except Nat State :=
  let x := s.getN (Chn.HART_XFER.XFER_STATE n)
  if s.getN (Chn.HART_CFG.HART_ENABLE n) = 0 ∨ s.getN (Chn.HART_CFG.LINK_STATE n) ≠ 2 ∨ x = 1 ∨ x = 2 then .error abortState
  else
    let s := (s.setN (Chn.HART_XFER.XFER_STATE n) 1).updHart n (fun h => { h with req := some v.toB, resp := [] })
    .ok (if s.hartOn n && decide ((s.chan n).hart.doing = 0) then s.hartSend n 3 else s)
/-- HART_XFER_REQUEST (R387). -/
def execHartXferRequest (path : Path) (n : Nat) (data : List Byte) (s : State) : Out :=
  .next (s.write path (chIdx n 0x5) 1 data (hartRequestEff n))

/-- HART_ENABLE: the link starts or stops. -/
def hartEnableEff (n : Nat) (v : Val) (s : State) : Except Nat State := .ok ((s.put (Chn.HART_CFG.HART_ENABLE n) v).hartStart n)

/-! ### Sampling (R371 to R377) -/

/-- The sample period in ticks by RATE. -/
def State.chPeriod (s : State) (n : Nat) : Nat :=
  match s.getN (Chn.CH_CFG.RATE n) with
  | 0 => 31250000 | 1 => 6250000 | 2 => 3125000 | _ => 312500

/-- Full scale of a voltage range. -/
def rangeFs (r : Nat) : Q := if r = 1 then 1 / 10 else if r = 2 then 1 else if r = 3 then 10 else 30

/-- RANGE_NOW: the range in use; 0 where the function has none. An auto-ranging channel starts at 30 V (R376). -/
def State.chRange (s : State) (n : Nat) : Nat :=
  let r := s.getN (Chn.CH_CFG.RANGE n)
  if s.chFn n = 1 then (if r = 0 then 4 else r) else if s.chFn n = 5 then r else 0

/-- The resistance of a platinum sensor over that at 0 degC (Callendar-Van Dusen, IEC 60751; the coefficients of alpha = 0.00385 are
PRESUMED from that standard). -/
def rtdRatio (t : Q) : Q :=
  let lin : Q := 39083 / 10000000
  let sq : Q := -(5775 / 10000000000)
  let cub : Q := -(4183 / 1000000000000000)
  1 + lin * t + sq * t * t + (if t < 0 then cub * (t - 100) * t * t * t else 0)
/-- A temperature below 0 degC whose ratio is `r`, found by halving. -/
def rtdCold (r : Q) : Nat → Q → Q → Q
  | 0, lo, _ => lo
  | k + 1, lo, hi =>
    let mid := (lo + hi) / 2
    if rtdRatio mid ≤ r then rtdCold r k mid hi else rtdCold r k lo mid
/-- The temperature of a platinum sensor: SENSOR 1 is Pt100, 2 is Pt1000 (Table 14-1). -/
def rtdTemp (sensor : Nat) (ohm : Q) : Q :=
  let r := ohm / (if sensor = 1 then 100 else 1000)
  let lin : Q := 39083 / 10000000
  let sq : Q := -(5775 / 10000000000)
  if 1 ≤ r then (qsqrt (lin * lin - 4 * sq * (1 - r)) - lin) / (2 * sq) else rtdCold r 40 (-200) 0

/-- RAW of an input, with OVER_RANGE, UNDER_RANGE, OPEN_CIRCUIT and CJ_INVALID. -/
def State.chRaw (s : State) (n range : Nat) (c : ChanIn) (tripped : Bool) : Q × Nat :=
  let live := s.getN (Chn.CH_CFG.LIVE_ZERO n) == 1
  let sensor := s.getN (Chn.CH_CFG.SENSOR n)
  match s.chFn n with
  | 1 => (c.x, 8 * b2n (tripped || decide (rangeFs range * 105 / 100 < qabs c.x)))
  | 2 =>
    let loop := s.getN (Chn.CH_CFG.LOOP_POWER n) == 1
    (c.x, (if live then 8 * b2n (decide (21 < c.x)) + 16 * b2n (decide (c.x < 36 / 10)) else 8 * b2n (decide (24 < c.x))) +
      32 * b2n (loop && c.isOpen))
  | 3 =>
    let ohm := if s.getN (Chn.CH_CFG.WIRES n) = 2 then c.x - s.getQ (Chn.CH_CFG.LEAD_R n) else c.x
    let t := if sensor = 0 then ohm else rtdTemp sensor ohm
    (t, 8 * b2n (decide ((if sensor = 0 then 4000 else 850) < t)) + 32 * b2n c.isOpen)
  | 4 =>
    let cj := s.getN (Chn.CH_CFG.CJ_CHANNEL n)
    if cj = 0xFF then (Config.tcTemp sensor c.x (s.getQ (Chn.CH_CFG.CJ_FIXED n)), 32 * b2n c.isOpen)
    else
      match s.chFault cj || s.chFn cj != 3, s.getR (Chn.CH_STATUS.RAW cj) with
      | false, some t => (Config.tcTemp sensor c.x t, 32 * b2n c.isOpen)
      | _, _ => (0, 32 * b2n c.isOpen + 128)
  | _ => (c.x, 8 * b2n (decide (24 < c.x)))

/-- The bits that a sample forms anew; the others stand until their own events change them. -/
def sampleBits : Nat := 0x150FF

/-- A sample of an input is published. -/
def State.chPublish (s : State) (n : Nat) (x : Q) (w : Nat) : State :=
  let (y, out) := (s.chan n).char.fwd x
  let keep := clearBits (s.getN (Chn.CH_STATUS.STATE n)) sampleBits
  let s := (s.setR (Chn.CH_STATUS.RAW n) (some x)).setR (Chn.CH_STATUS.VALUE n) (some y)
  let s := s.chState n (keep ||| w ||| 64 * b2n out)
  if s.chFault n then s else s.updChan n (fun r => { r with last := some (x, y) })

/-- A discarded sample repeats the last valid one (R375). -/
def State.chHeld (s : State) (n : Nat) : State :=
  let s := (s.inc (Chn.CH_STATUS.RANGE_CHANGES n)).inc (Chn.CH_STATUS.HELD_SAMPLES n)
  let l := (s.chan n).last
  let old := s.getN (Chn.CH_STATUS.STATE n)
  let s := (s.setR (Chn.CH_STATUS.RAW n) (l.map (·.1))).setR (Chn.CH_STATUS.VALUE n) (l.map (·.2))
  s.chState n (clearBits old sampleBits ||| 6 ||| b2n l.isNone)

/-- A sample of an auto-ranging voltage input (R375). One beyond 105 % of a lower range has tripped the detector. -/
def State.chAuto (s : State) (n : Nat) (c : ChanIn) : State :=
  let r := s.chan n
  let trip := decide (r.range < 4) && decide (rangeFs r.range * 105 / 100 < qabs c.x)
  if r.discard || trip then
    ((s.updChan n (fun r => { r with discard := false, tripped := false, down := 0, range := if trip then 4 else r.range })).chHeld n).setN
      (Chn.CH_STATUS.RANGE_NOW n) (if trip then 4 else r.range)
  else
    let (x, w) := s.chRaw n r.range c r.tripped
    let down := if qabs c.x ≤ rangeFs r.range * 8 / 100 then r.down + 1 else 0
    let step := decide (s.getN (Chn.CH_CFG.DOWN_COUNT n) ≤ down) && decide (1 < r.range)
    let s := s.chPublish n x w
    let s := s.updChan n (fun r => { r with
      tripped := false, down := if step then 0 else down, range := if step then r.range - 1 else r.range, discard := step })
    s.setN (Chn.CH_STATUS.RANGE_NOW n) (s.chan n).range

/-- The fail level of an output (Table 14-4); none for a driver that is off. -/
def State.failLevel (s : State) (n : Nat) : Option Q :=
  let live := s.getN (Chn.CH_CFG.LIVE_ZERO n) == 1
  match s.getN (Chn.CH_OUT.FAIL_MODE n) with
  | 0 => (s.chan n).cmd
  | 1 => some (if s.chFn n = 6 then (if live then 36 / 10 else 0) else if s.getN (Chn.CH_CFG.RANGE n) = 2 then -(105 / 10) else 0)
  | 2 => some (if s.chFn n = 6 then (if live then 21 else 24) else 105 / 10)
  | _ => none

/-- The clamp of Table 14-4. -/
def State.outClamp (s : State) (n : Nat) (x : Q) : Q :=
  if s.chFn n = 6 then (if s.getN (Chn.CH_CFG.LIVE_ZERO n) = 1 then qclamp (38 / 10) (205 / 10) x else qclamp 0 24 x)
  else if s.getN (Chn.CH_CFG.RANGE n) = 2 then qclamp (-(105 / 10)) (105 / 10) x else qclamp 0 (105 / 10) x

/-- Full scale of the readback. -/
def State.outFs (s : State) (n : Nat) : Q := if s.chFn n = 6 then 24 else 105 / 10
/-- The tolerance of the readback. -/
def State.outTol (s : State) (n : Nat) : Q := s.getQ (Chn.CH_OUT.RB_TOL n) * s.outFs n

/-- The electrical command changes; a readback fault, a hot driver and a missing VLOOP keep the driver off. -/
def State.outDrive (s : State) (n : Nat) (x : Option Q) : State :=
  let c := s.chan n
  let off := s.flag (Chn.CH_STATUS.STATE n) 8 || c.hot || c.noLoop
  let big := match c.cmd, x with
    | some a, some b => decide (s.outTol n < qabs (a - b))
    | none, none => false
    | _, _ => true
  let s := s.updChan n (fun c => { c with cmd := if off then c.cmd else x, cmdAt := if big && !off then some s.root else c.cmdAt })
  s.setR (Chn.CH_OUT.COMMANDED n) (if off then none else x)

/-- The output goes to its fail level (R379). -/
def State.outFail (s : State) (n : Nat) : State := (s.chBit n 12 true).outDrive n (s.failLevel n)

/-- Whether OUT_VALUE has not been written within OUT_TIMEOUT. -/
def State.outLate (s : State) (n : Nat) : Bool :=
  let t := s.getN (Chn.CH_OUT.OUT_TIMEOUT n)
  s.getN (Chn.CH_OUT.OUT_SOURCE n) == 0 && t != 0 && decide (msTicks t < s.since (s.chan n).outAt)

/-- OVERLOAD_TRIP (R375): an auto-ranging channel goes to 30 V at once, and the sample in progress is discarded. -/
def execOverloadTrip (n : Nat) (s : State) : Out :=
  if s.chRuns n && decide (s.chFn n = 1) then
    if s.getN (Chn.CH_CFG.RANGE n) = 0 ∧ (s.chan n).range < 4 then
      .next ((s.updChan n (fun c => { c with range := 4, down := 0, discard := true })).setN (Chn.CH_STATUS.RANGE_NOW n) 4)
    else .next (s.updChan n (fun c => { c with tripped := true, down := 0 }))
  else .next s

/-! ### Outputs (R379 to R383) -/

/-- OUT_VALUE. -/
def outValueEff (n : Nat) (v : Val) (s : State) : Except Nat State :=
  .ok ((s.put (Chn.CH_OUT.OUT_VALUE n) v).updChan n (fun c => { c with outAt := s.root }))
/-- OUT_VALUE (R379). -/
def execOutValue (path : Path) (n : Nat) (data : List Byte) (s : State) : Out :=
  .next (s.write path (chIdx n 0x2) 1 data (outValueEff n))

/-- OUT_TIMEOUT: OUT_VALUE has not been written within OUT_TIMEOUT. -/
def execOutTimeout (n : Nat) (s : State) : Out :=
  if s.chRuns n && s.chOut n && s.outLate n then .next (s.outFail n) else .next s

/-- READBACK_COMPARE (R380): the mean readback of the last 10 ms; `limit` tells that a voltage output's current limit acts. -/
def execReadbackCompare (n : Nat) (readback : Q) (limit : Bool) (s : State) : Out :=
  if !s.chRuns n || !s.chOut n || !s.passed (s.chan n).cmpAt (msTicks 10) then .next s
  else
    let s := (s.updChan n (fun c => { c with cmpAt := s.root })).setR (Chn.CH_OUT.READBACK n) (some readback)
    let c := s.chan n
    let tol := s.outTol n
    let ceil := qmin (s.getQ Obj.SUPPLY_STATUS.VLOOP - 3 / 2) 30
    match s.getR (Chn.CH_OUT.COMMANDED n) with
    | none =>
      .next ((if s.flag (Chn.CH_STATUS.STATE n) 11 then s else s.chBit n 9 false).updChan n (fun c => { c with badAt := none }))
    | some x =>
      let comp := if s.chFn n = 6 then decide (ceil ≤ s.getQ (Chn.CH_OUT.RAIL n)) && decide (tol < x - readback) else limit
      let s := s.chBit n 9 comp
      let settle := match c.cmdAt with
        | some t => !s.passed t (msTicks 5)
        | none => false
      if settle || s.getN (Chn.CH_STATUS.STATE n) &&& 0xE00 != 0 then .next s
      else if tol < qabs (readback - x) then
        let since := c.badAt.getD s.root
        let s := s.updChan n (fun c => { c with badAt := some since })
        if s.passed since (msTicks (s.getN (Chn.CH_OUT.RB_TIME n))) then
          .next (((s.chBit n 8 true).setR (Chn.CH_OUT.COMMANDED n) none).updChan n (fun c => { c with badAt := none }))
        else .next s
      else .next (s.updChan n (fun c => { c with badAt := none }))

/-- RAIL_UPDATE (R381): every 100 us, from the voltage of the HI terminal. The headroom of a voltage output is left open. -/
def execRailUpdate (n : Nat) (hiVolts : Q) (s : State) : Out :=
  if !s.chRuns n || !s.chOut n || (s.chan n).noLoop || !s.passed (s.chan n).railAt (usTicks 100) then .next s
  else
    let s := s.updChan n (fun c => { c with railAt := s.root })
    if s.chFn n = 5 then
      let (k, s) := s.take
      .next (s.setR (Chn.CH_OUT.RAIL n) (some (Config.freeQ k)))
    else
      let goal := qclamp 3 (qmin (s.getQ Obj.SUPPLY_STATUS.VLOOP - 3 / 2) 30) (hiVolts + 5 / 2)
      let cur := (s.getR (Chn.CH_OUT.RAIL n)).getD 3
      .next (s.setR (Chn.CH_OUT.RAIL n) (some (if cur + 1 < goal then cur + 1 else if goal < cur - 1 / 10 then cur - 1 / 10 else goal)))

/-- DRIVER_THERMAL (R382). -/
def execDriverThermal (n : Nat) (temp : Q) (s : State) : Out :=
  if 16 ≤ n then .next s
  else
    let s := s.setR (Chn.CH_OUT.DRIVER_T n) (some temp)
    if 150 ≤ temp then
      let s := s.chBit n 10 true
      .next (if 165 ≤ temp then (s.updChan n (fun c => { c with hot := true })).setR (Chn.CH_OUT.COMMANDED n) none else s)
    else if temp ≤ 135 then .next ((s.chBit n 10 false).updChan n (fun c => { c with hot := false }))
    else .next s

/-- VLOOP lost or back (R383): SUPPLY on every channel that needs it, and its outputs carry no current. -/
def State.chanVloop (s : State) (ok : Bool) : State :=
  let s := if ok then { s with vloopAt := s.root } else s
  (List.range 16).foldl (fun s n =>
    if s.chNeedsLoop n then
      let s := s.chBit n 11 (!ok)
      if ok then s else (s.updChan n (fun c => { c with noLoop := s.chOut n })).setR (Chn.CH_OUT.COMMANDED n) none
    else s) s

/-- OUTPUT_RESUME (R383): VLOOP has been valid for 100 ms; the output resumes at the next sample, its rail from the floor. -/
def execOutputResume (n : Nat) (s : State) : Out :=
  if (s.chan n).noLoop && s.vloopOk && s.passed s.vloopAt (msTicks 100) then
    .next ((s.updChan n (fun c => { c with noLoop := false })).setR (Chn.CH_OUT.RAIL n) (some 3))
  else .next s

/-! ### Re-initialise, test and function changes (R388 to R390) -/

/-- The channel goes to the burden for a command: nothing driven, HART pauses, a request is aborted, and the thermocouples whose cold
junction it is lose it. -/
def State.chBurden (s : State) (n : Nat) : State :=
  let s := s.hartAbort n
  let s := s.chState n (s.getN (Chn.CH_STATUS.STATE n) ||| 1)
  let s := (s.setR (Chn.CH_STATUS.VALUE n) none).setR (Chn.CH_STATUS.RAW n) none
  let s := (s.setR (Chn.CH_OUT.COMMANDED n) none).updChan n (fun c => { c with cmdAt := none, badAt := none })
  (List.range 16).foldl (fun s m =>
    if s.chFn m = 4 ∧ s.getN (Chn.CH_CFG.CJ_CHANNEL m) = n then s.chBit m 7 true else s) s

/-- The runtime state is cleared (R388). -/
def State.chClear (s : State) (n : Nat) : State :=
  let s := s.updChan n (fun c => { c with
    stuck := false, range := 4, down := 0, tripped := false, discard := false, last := none, cmd := none, cmdAt := none, badAt := none
    noLoop := s.chOut n && !s.vloopOk })
  let s := s.chState n (clearBits (s.getN (Chn.CH_STATUS.STATE n)) 0x11100 ||| 1)
  let s := s.chBit n 11 (s.chNeedsLoop n && !s.vloopOk)
  let s := s.setN (Chn.CH_STATUS.RANGE_NOW n) (s.chRange n)
  let s := s.setR (Chn.CH_OUT.RAIL n) (if s.chFn n = 6 then some 3 else none)
  s.hartStart n

/-- COMMAND of CH_CTRL: 1 re-initialise, 2 test. -/
def chCommandEff (n : Nat) (v : Val) (s : State) : Except Nat State :=
  .ok (((s.chBurden n).setN (Chn.CH_CTRL.RESULT n) 1).updChan n (fun c => { c with busy := some (v.toN, s.root) }))
/-- CH_REINITIALISE (R388). -/
def execChReinitialise (path : Path) (n : Nat) (s : State) : Out := .next (s.write path (chIdx n 0xF) 1 [1] (chCommandEff n))
/-- CH_TEST (R388). -/
def execChTest (path : Path) (n : Nat) (s : State) : Out := .next (s.write path (chIdx n 0xF) 1 [2] (chCommandEff n))

/-- Whether a reading of the test lies within 0.2 % of the other and of nominal (R388). -/
def testReading (nominal x other : Q) : Bool :=
  let tol := nominal * 2 / 1000
  decide (qabs (x - nominal) ≤ tol) && decide (qabs (x - other) ≤ tol)

/-- TEST_RESULT of the readings in mA: the measuring and the readback converter at 4 mA, then at 20 mA; the order of the bits is a DESIGN
CHOICE (log 116). -/
def testBits (r : TestReadings) : Nat :=
  b2n (testReading 4 r.meas4 r.back4) + 2 * b2n (testReading 4 r.back4 r.meas4) +
  4 * b2n (testReading 20 r.meas20 r.back20) + 8 * b2n (testReading 20 r.back20 r.meas20)

/-- CH_COMMAND_DONE (R388): the four readings are judged. A failed re-initialise leaves the channel on the burden. -/
def execChCommandDone (n : Nat) (r : TestReadings) (s : State) : Out :=
  match (s.chan n).busy with
  | none => .next s
  | some (kind, _) =>
    let ok := testBits r == 15
    let s := (s.setN (Chn.CH_CTRL.TEST_RESULT n) (testBits r)).chBit n 15 (!ok)
    let s := if kind = 3 then s else s.setN (Chn.CH_CTRL.RESULT n) (if ok then 2 else 3)
    let s := s.updChan n (fun c => { c with busy := none, stuck := !ok && kind != 2, outAt := if kind = 3 then s.root else c.outAt })
    if kind = 2 then .next (s.hartResume n) else .next (if ok then s.chClear n else s)

/-- A change of FUNCTION, RANGE, SENSOR, WIRES or another field of CH_CFG that the function uses: burden, then as after a
re-initialise without the test. -/
def chFunctionEff (n : Nat) (k : Nat) (v : Val) (s : State) : Except Nat State :=
  let s := ((s.chBurden n).put k v).updChan n (fun c => { c with outAt := s.root })
  .ok (if (s.chan n).busy.isNone && !(s.chan n).stuck then s.chClear n else s)
/-- FUNCTION (R369, R390). -/
def execFunction (path : Path) (n code : Nat) (s : State) : Out :=
  .next (s.write path (chIdx n 0x0) 1 (leBytes 1 code) (chFunctionEff n (Chn.CH_CFG.FUNCTION n)))

/-- Every boot runs the sequence of a re-initialise on each channel before its function applies; the stored characteristic is applied
where it is valid. -/
def State.chanBoot (s : State) : State :=
  (List.range 16).foldl (fun s n =>
    let c := s.staged14 n
    let fresh : ChanRt := { busy := some (3, s.root), outAt := s.root, char := if charErrors (s.chOut n) c = 0 then c else {} }
    (s.updChan n (fun _ => fresh)).chState n 1) s

/-- Ladder step 1 on class 0x02 (R389): HART identification starts anew, and a request ends ABORTED. -/
def State.chRetry (s : State) (n : Nat) : State := if s.hartOn n then s.hartStart n else s

end Sys2Proof.Machine
end

