-- ==== Sys2Proof/Machine/Recorder.lean ====
section
/-! DEFINITION. The event recorder (chapter 16): admission, drain, flush, erase, rebuild, snapshots and reading. -/
namespace Sys2Proof.Machine

/-- The 64 bytes of a record (Table 16-1). -/
def recBytes (r : Rec) : List Byte :=
  let time := if r.format = 0 then leBytes 6 r.timeA ++ leBytes 4 (r.timeB % 2 ^ 30) ++ leBytes 1 r.quality ++ leBytes 1 0
    else leBytes 4 r.timeA ++ leBytes 2 0 ++ leBytes 4 r.timeB ++ leBytes 1 0 ++ leBytes 1 1
  let body := leBytes 8 r.seq ++ time ++ leBytes 8 r.plant ++ leBytes 2 r.code ++ leBytes 1 r.cls ++ leBytes 1 r.inst ++
    leBytes 1 (r.sev % 4) ++ leBytes 3 0 ++ (r.data ++ List.replicate 24 0).take 24
  body ++ leBytes 4 (crc32c body)

/-- RECORD_ENTRY (R420): a record is offered to the buffer and admitted with a SEQ, or dropped. -/
def execRecordEntry (code cls inst sev : Nat) (data : List Byte) (s : State) : Out :=
  .next (s.record code cls inst sev data)

/-- Whether the recorder and the NAND controller work: not in VAULT or RECOVERY, in WATCH only in a power-down, and the rebuild is done
(R429). -/
def State.recAwake (s : State) : Bool :=
  s.recd.ready && (match s.mode with | .vault | .recovery => false | .watch => s.powerDown | _ => true)

/-- Room at the write point beyond the pages in programming: the permanent region is open, or the last circulating block and the erased
blocks have a page left. -/
def State.recRoom (s : State) : Bool :=
  let left := match s.recd.circ.getLast? with | some b => 128 - b.pages | none => 0
  !s.recd.permClosed || decide (s.recd.inProg.length < left + 128 * s.recd.erased.length)

/-- Records that wait outside the pages in programming. -/
def State.recWaiting (s : State) : Nat := s.recd.buffer.length - s.recd.inProg.sum

/-- How many records the next page takes (R421, R422, R423): 32, or fewer in a flush, and none beyond the permanent region's end. -/
def State.pageSize (s : State) : Nat :=
  let w := s.recWaiting
  let k := if s.recd.flushTo.isSome || s.recd.redo then min 32 w else if 32 ≤ w then 32 else 0
  if s.recd.permClosed then k else min k (262144 - s.recd.perm.length - s.recd.inProg.sum)

/-- Whether the NAND controller's turn is the drain's (R421): a flush, then the drain at 1,024 records, then the NAND operation queue, then
the drain. -/
def State.drainTurn (s : State) : Bool :=
  s.recd.flushTo.isSome || decide (1024 ≤ s.recd.buffer.length) || decide (s.waiting .nand = 0)

/-- The erased block that the next page would be the first page of, as its place in the list. -/
def State.freshBlock (s : State) : Option Nat :=
  let left := match s.recd.circ.getLast? with | some b => 128 - b.pages | none => 0
  let k := s.recd.inProg.length
  if s.recd.permClosed && decide (left ≤ k) && decide ((k - left) % 128 = 0) then some ((k - left) / 128) else none

/-- DRAIN (R421): a page program begins; a flush has up to four pages in progress (R422). A block is blank-checked before its first program:
one that fails is treated as half-erased and erased again (R425). Whether it fails is a free choice. -/
def execDrain (s : State) : Out :=
  let k := s.pageSize
  let slots := if s.recd.flushTo.isSome then 4 else 1
  if s.recAwake && s.recRoom && s.drainTurn && decide (0 < k) && decide (s.recd.inProg.length < slots) then
    let begun := fun (s : State) => s.updRec (fun r => { r with inProg := r.inProg ++ [k], redo := false })
    match s.freshBlock with
    | some i =>
      let (f, s) := s.take
      if Config.freeBool f then .next (begun s)
      else
        match s.recd.erased[i]?, s.recd.erasing with
        | some b, none =>
          .next (((s.journalAdd (.start 0 b (s.erases b + 1) 0)).updRec (fun r => { r with
            erased := r.erased.eraseIdx i, erasing := some b })).raise Obj.RECORDER_CTRL.FLAGS 4)
        | _, _ => .next s
    | none => .next (begun s)
  else .next s

/-- A programmed page in the permanent region (R423): blocks beyond 64 come from the circulating region. -/
def State.permPage (s : State) (recs : List Rec) : State :=
  let pages := s.recd.permPages + 1
  let blocks := max 64 ((pages + 127) / 128)
  let more := blocks - s.getN Obj.RECORDER_CTRL.PERM_BLOCKS
  let s := s.updRec (fun r => { r with
    permPages := pages, perm := r.perm ++ recs,
    permClosed := decide (262144 ≤ r.perm.length + recs.length), erased := r.erased.drop more })
  let s := (s.setN Obj.RECORDER_CTRL.PERM_BLOCKS blocks).setN Obj.RECORDER_CTRL.PERM_RECORDS s.recd.perm.length
  let s := s.setN Obj.RECORDER_CTRL.CIRC_BLOCKS (s.getN Obj.RECORDER_CTRL.CIRC_BLOCKS - more)
  let s := match recs.getLast? with
    | some r => s.setN Obj.RECORDER_WINDOW.PERM_LAST (max (s.getN Obj.RECORDER_WINDOW.PERM_LAST) r.seq)
    | none => s
  if s.recd.permClosed && decide (s.getN Obj.RECORDER_CTRL.STATE = 0) then s.setN Obj.RECORDER_CTRL.STATE 1 else s

/-- The lowest SEQ of some records; 0 of none. -/
def lowSeq (l : List Rec) : Nat :=
  match l with
  | [] => 0
  | r :: rs => rs.foldl (fun a x => min a x.seq) r.seq

/-- CIRC_FIRST and FIRST as the regions and the buffer stand (Table 16-7). -/
def State.windowSync (s : State) : State :=
  let circ := s.recd.circ.flatMap (·.recs)
  let cf := lowSeq circ
  let first := lowSeq (s.recd.perm ++ circ ++ s.recd.buffer)
  (s.setN Obj.RECORDER_WINDOW.CIRC_FIRST cf).setN Obj.RECORDER_WINDOW.FIRST first

/-- PAGE_PROGRAM_DONE (R421, R427): the page's records are durable; or the page is abandoned, its block marked for retirement, and its records
are programmed again with the same SEQ on the next page, behind those already in programming. Whether the abandoned slots fail their CRC
is left open. -/
def execPageProgramDone (ok : Bool) (s : State) : Out :=
  match s.recd.inProg with
  | [] => .next s
  | k :: rest =>
    let recs := s.recd.buffer.take k
    if ok then
      let s := s.updRec (fun r => { r with inProg := rest, buffer := r.buffer.drop k })
      let s := if s.recd.permClosed then
          let ce := circAppend s.recd.circ s.recd.erased recs false false
          s.updRec (fun r => { r with circ := ce.1, erased := ce.2 })
        else s.permPage recs
      let s := match recs.getLast? with
        | some r => s.setN Obj.RECORDER_WINDOW.DURABLE (max (s.getN Obj.RECORDER_WINDOW.DURABLE) r.seq)
        | none => s
      .next (s.windowSync.levelSync.dropNotice)
    else
      let s := s.raise Obj.RECORDER_CTRL.FLAGS 7
      let (f, s) := s.take
      let s := s.updRec (fun r => { r with
        inProg := rest, redo := true, buffer := (r.buffer.drop k).take rest.sum ++ recs ++ (r.buffer.drop k).drop rest.sum })
      if s.recd.permClosed then
        let ce := circAppend s.recd.circ s.recd.erased [] true (Config.freeBool f)
        .next (s.updRec (fun r => { r with circ := ce.1, erased := ce.2 }))
      else .next ((s.permPage []).updRec (fun r => { r with permTorn := r.permTorn || Config.freeBool f }))

/-- A write of FLUSH starts a flush (R422). -/
def recFlushEff (_ : Val) (s : State) : Except Nat State := .ok s.startFlush

/-- RECORDER_FLUSH. -/
def execRecorderFlush (path : Path) (s : State) : Out := .next (s.write path 0x2200 1 [1] recFlushEff)

/-- BUFFER_CLOSE (R422): 1,000 us after PFAIL the buffer closes. -/
def execBufferClose (s : State) : Out :=
  match s.recd.closeAt with
  | some t => if t ≤ s.root then .next (s.updRec (fun r => { r with closed := true, closeAt := none })) else .next s
  | none => .next s

/-- Whether an open snapshot holds a record of a block (R424, R431). -/
def State.held (s : State) (b : RecBlock) : Bool :=
  s.recd.snaps.any (fun p => b.recs.any (fun r => decide (p.lo ≤ r.seq) && decide (r.seq ≤ p.hi)))

/-- A block is retired and replaced from the spare pool, or the circulating region shrinks (R428). Why: 0 worn, 1 program failure,
2 erase failure. -/
def State.retireBlock (s : State) (b why : Nat) : State :=
  let s := s.blockRetired b why
  match s.recd.spare with
  | e :: es => s.updRec (fun r => { r with spare := es, erased := r.erased ++ [e] })
  | [] =>
    let left := s.getN Obj.RECORDER_CTRL.CIRC_BLOCKS - 1
    let s := s.setN Obj.RECORDER_CTRL.CIRC_BLOCKS left
    if left < s.getN Obj.RECORDER_CTRL.CIRC_MIN_BLOCKS then
      let s := (s.setN Obj.RECORDER_CTRL.STATE 3).raise Obj.RECORDER_CTRL.FLAGS 3
      let s := s.updRec (fun r => { r with circ := [], erased := [], erasing := none })
      let s := (s.raise (keyOf 0x1001 0) 7).windowSync
      s.record 0x0005 0x0A 0 2 (leBytes 2 left ++ leBytes 1 3)
    else
      let s := (s.setN Obj.RECORDER_CTRL.STATE 2).raise Obj.RECORDER_CTRL.FLAGS 2
      s.record 0x0005 0x0A 0 1 (leBytes 2 left ++ leBytes 1 2)

/-- BLOCK_ERASE (R424, R425, R428): with fewer than two erased blocks the oldest block of the circulating region, unless a snapshot
holds it, is journalled with a START marker and erased; one that is worn or marked is retired instead. -/
def execBlockErase (s : State) : Out :=
  match s.recd.circ with
  | b :: b' :: rest =>
    if s.recAwake && decide (s.recd.erased.length < 2) && s.recd.erasing.isNone && !s.held b &&
        decide (s.getN Obj.RECORDER_CTRL.STATE ≠ 3) then
      let cnt := s.erases b.id + 1
      if s.worn b.id b.retire then
        .next ((s.updRec (fun r => { r with circ := b' :: rest })).windowSync.retireBlock b.id (if b.retire then 1 else 0))
      else
        let hi := (b.recs.getLast?.map (·.seq)).getD 0
        .next (((s.updRec (fun r => { r with circ := b' :: rest, erasing := some b.id })).journalAdd (.start 0 b.id cnt hi)).windowSync)
    else .next s
  | _ => .next s

/-- A completed erase: DONE marker, count, statistics (R425). -/
def State.erasedOk (s : State) (region b : Nat) : State :=
  let cnt := SMap.get (fun _ => 0) s.recd.eraseCnt b + 1
  let s := (s.journalAdd (.done region b)).updRec (fun r => { r with eraseCnt := SMap.set (fun _ => 0) r.eraseCnt b cnt })
  let s := s.inc Obj.RECORDER_CTRL.ERASES
  s.setN Obj.RECORDER_CTRL.ERASE_MAX (max cnt (s.getN Obj.RECORDER_CTRL.ERASE_MAX))

/-- ERASE_DONE (R425, R427): the erase completes and its DONE marker is programmed; an erase that fails retires the block. -/
def execEraseDone (ok : Bool) (s : State) : Out :=
  match s.recd.erasing, s.recd.eraseArch with
  | some b, _ =>
    let s := s.updRec (fun r => { r with erasing := none })
    if ok then .next ((s.erasedOk 0 b).updRec (fun r => { r with erased := r.erased ++ [b] }))
    else .next ((s.raise Obj.RECORDER_CTRL.FLAGS 8).retireBlock b 2)
  | none, some b =>
    let s := s.updRec (fun r => { r with eraseArch := none })
    if ok then .next ((s.erasedOk 1 b).updNand (fun d => { d with archFree := d.archFree ++ [b] }))
    else .next ((s.raise Obj.RECORDER_CTRL.FLAGS 8).archRetire b 2)
  | none, none => .next s

/-- The highest SEQ of some records; 0 of none. -/
def highSeq (l : List Rec) : Nat := l.foldl (fun a x => max a x.seq) 0

/-- Blocks with a START that no DONE follows (R425): half-erased, unless retired since. -/
def halfErased (l : List JMark) : List (Nat × Nat) :=
  (openStarts l).filterMap (fun m => match m with
    | .start r b _ _ => some (r, b)
    | .done _ _ => none)

/-- RECORDER_REBUILD (R429, R425): after boot the journal is completed, half-erased blocks are erased again, and the window is
rebuilt from the records in NAND; a programmed slot whose CRC fails is found (R415). -/
def execRecorderRebuild (s : State) : Out :=
  if s.recd.ready || !(match s.mode with | .ready | .run | .lockout => true | _ => false) then .next s
  else
    let half := (halfErased s.recd.journal).filter (fun p => !s.recd.bad.contains p.2)
    let s := half.foldl (fun s p =>
      let s := (s.journalAdd (.start p.1 p.2 (s.erases p.2 + 1) 0)).erasedOk p.1 p.2
      if p.1 = 0 then s.updRec (fun r => { r with erased := r.erased ++ [p.2] })
      else s.updNand (fun d => { d with archFree := d.archFree ++ [p.2] })) s
    let s := if half.isEmpty then s else s.raise Obj.RECORDER_CTRL.FLAGS 4
    let s := if s.recd.permTorn || s.recd.circ.any (·.torn) then s.raise Obj.RECORDER_CTRL.FLAGS 5 else s
    let dur := highSeq (s.recd.perm ++ s.recd.circ.flatMap (·.recs))
    let pl := highSeq s.recd.perm
    let s := (s.setN Obj.RECORDER_WINDOW.DURABLE dur).setN Obj.RECORDER_WINDOW.PERM_LAST pl
    .next ((s.updRec (fun r => { r with ready := true })).windowSync)

/-- A path's own copy of an object of RECORDER_WINDOW (R431). -/
def winKey (p : Path) (sub : Nat) : Nat := pathKey p (keyOf 0x2201 sub)

/-- A write of SNAP_COUNT (R431): 0 closes the path's snapshot; any other value opens one over the window as it stands. -/
def snapCountEff (path : Path) (v : Val) (s : State) : Except Nat State :=
  let c := v.toN
  let s := s.setN (winKey path 7) c
  let s := s.updRec (fun r => { r with snaps := r.snaps.filter (fun x => x.path != path.code) })
  if c = 0 then .ok (s.setN (winKey path 9) 0)
  else
    let first := s.getN (winKey path 6)
    let lo := max first (s.getN Obj.RECORDER_WINDOW.FIRST)
    let hi := min (first + c - 1) (s.getN Obj.RECORDER_WINDOW.LAST)
    let s := ((s.setN (winKey path 0x0A) hi).setN (winKey path 0x0B) lo).setN (winKey path 9) (if hi < lo then 3 else 1)
    .ok (s.updRec (fun r => { r with snaps := r.snaps ++ [{ path := path.code, lo := lo, hi := hi, readAt := s.root }] }))

/-- SNAP_COUNT. -/
def execSnapCount (path : Path) (count : Nat) (s : State) : Out :=
  .next (s.write path 0x2201 7 (leBytes 4 count) (snapCountEff path))

/-- A record put at its place in SEQ order. -/
def seqPut (x : Rec) : List Rec → List Rec
  | [] => [x]
  | y :: l => if x.seq ≤ y.seq then x :: y :: l else y :: seqPut x l

/-- Every record held; no SEQ is held twice (R427). -/
def State.allRecs (s : State) : List Rec :=
  let all := s.recd.perm ++ s.recd.circ.flatMap (·.recs) ++ s.recd.buffer
  all.filter (fun r => decide (r.seq ≠ 0))

/-- The records a read returns: of the path's open snapshot, from CURSOR in SEQ order, at most READ_COUNT (R432). -/
def State.readRecs (s : State) (p : Path) : List Rec :=
  if s.getN (winKey p 9) = 1 then
    let cur := s.getN (winKey p 0x0B)
    let hi := s.getN (winKey p 0x0A)
    ((s.allRecs.filter (fun r => decide (cur ≤ r.seq) && decide (r.seq ≤ hi))).foldr seqPut []).take (s.getN (winKey p 8))
  else []

/-- Whether a path's snapshot holds no record above a SEQ. -/
def State.readLast (s : State) (p : Path) (seq : Nat) : Bool :=
  s.allRecs.all (fun r => decide (r.seq ≤ seq) || decide (s.getN (winKey p 0x0A) < r.seq))

/-- CURSOR after a reply: past its last SEQ; 0 when the snapshot is then exhausted (Table 16-10). -/
def State.nextCursor (s : State) (p : Path) : Nat :=
  match (s.readRecs p).getLast? with
  | some r => if s.readLast p r.seq then 0 else r.seq + 1
  | none => if s.getN (winKey p 9) = 3 ∨ (s.getN (winKey p 9) = 1 ∧ s.getN (winKey p 8) ≠ 0) then 0 else s.getN (winKey p 0x0B)

/-- The reply of RECORDER_READ, frozen (Table 16-10). -/
def State.recReply (s : State) (p : Path) : List Byte :=
  let rs := s.readRecs p
  leBytes 8 (s.getN Obj.RECORDER_WINDOW.FIRST) ++ leBytes 8 (s.getN Obj.RECORDER_WINDOW.LAST) ++ leBytes 8 (s.nextCursor p) ++
  leBytes 2 rs.length ++ leBytes 1 (s.getN (winKey p 9)) ++ leBytes 5 0 ++ rs.flatMap recBytes

/-- The reply of a path is frozen: its last SEQ, and whether it exhausts the snapshot, stand until its transfer completes. -/
def State.recReadBegin (s : State) (p : Path) : State :=
  let rs := s.readRecs p
  let hi := (rs.getLast?.map (·.seq)).getD 0
  let out := if rs.isEmpty then decide (s.getN (winKey p 9) = 1) && decide (s.getN (winKey p 8) ≠ 0) else s.readLast p hi
  s.updRec (fun r => { r with reads := (p.code, hi, out) :: r.reads.filter (fun x => decide (x.1 ≠ p.code)) })

/-- The transfer of a reply completes: CURSOR moves past its last SEQ (R432); the snapshot is exhausted when no record is left. -/
def State.recReadDone (s : State) (p : Path) : State :=
  match s.recd.reads.find? (fun x => decide (x.1 = p.code)) with
  | none => s
  | some (_, hi, out) =>
    let s := s.updRec (fun r => { r with
      reads := r.reads.filter (fun x => decide (x.1 ≠ p.code))
      snaps := r.snaps.map (fun x => if x.path = p.code then { x with readAt := s.root } else x) })
    let s := if hi = 0 then s else s.setN (winKey p 0x0B) (hi + 1)
    if out && decide (s.getN (winKey p 9) = 1) then s.setN (winKey p 9) 3 else s

/-- A read of RECORDER_READ (R429, R432), up to its transfer. -/
def recReadOf (path : Path) (s : State) : Except Nat (List Byte × State) :=
  if !s.recd.ready then .error abortState else .ok (s.recReply path, s.recReadBegin path)

/-- What the completion of the transfer of an object's value changes (R430, R432). -/
def State.readEnd (s : State) (p : Path) (index sub : Nat) : State := if index = 0x2202 ∧ sub = 1 then s.recReadDone p else s

/-- RECORDER_READ: a read, with its transfer complete unless it waits in its queue. -/
def execRecorderRead (path : Path) (s : State) : Out :=
  let t := s.readWith path 0x2202 1 (recReadOf path)
  .next (match t.last with
    | some (.ok _) => t.readEnd path 0x2202 1
    | _ => t)

/-- SNAPSHOT_EXPIRY (R433): by 600 s without a completed read, or by drain pressure. -/
def execSnapshotExpiry (path : Path) (s : State) : Out :=
  match s.recd.snaps.find? (fun x => x.path == path.code) with
  | none => .next s
  | some x =>
    let pressure := decide (2048 ≤ s.recd.buffer.length) && decide (s.recd.erased.length < 2) &&
      (match s.recd.circ with
       | b :: _ => b.recs.any (fun r => decide (x.lo ≤ r.seq) && decide (r.seq ≤ x.hi))
       | [] => false)
    if pressure || s.passed x.readAt (secTicks 600) then
      let s := (s.setN (winKey path 9) 2).raise Obj.RECORDER_CTRL.FLAGS 6
      .next (s.updRec (fun r => { r with snaps := r.snaps.filter (fun y => y.path != path.code) }))
    else .next s

end Sys2Proof.Machine
end

