-- ==== Sys2Proof/Machine/Twa.lean ====
section
/-! DEFINITION. The two-wire ports' timeouts, the slots of TWA and the alerts of TWB (R404 to R407, R411, R413). -/
namespace Sys2Proof.Machine

/-- Change TWA. -/
def State.updTwa (s : State) (f : TwaRt → TwaRt) : State := { s with twa := f s.twa }
/-- Change TWB. -/
def State.updTwb (s : State) (f : TwbRt → TwbRt) : State := { s with twb := f s.twb }
/-- Whether TWA is in service. -/
def State.twaOn (s : State) : Bool := s.served && s.getN Obj.TWA_CFG.ENABLE == 1
/-- Whether TWB is in service; in RECOVERY Landing serves it (R451). -/
def State.twbOn (s : State) : Bool := s.served && s.getN Obj.TWB_CFG.ENABLE == 1 || decide (s.mode = .recovery) && !s.powerDown

/-- SCL as the module generates it, by SPEED: low and high clocks of 31.25 MHz (Table 15-4). -/
def sclClocks (speed : Nat) : Nat × Nat :=
  match speed with
  | 0 => (170, 143)
  | 1 => (42, 37)
  | _ => (17, 15)

/-! ### Slots (R406, R407) -/

/-- Slot i's word, for i from 1. -/
def State.slotWord (s : State) (i : Nat) : Nat := s.getN (Obj.TWA_CFG.SLOT i)

/-- Whether a slot word runs: OP is read or write. -/
def slotRuns (w : Nat) : Bool := bits w 11 10 == 1 || bits w 11 10 == 2

/-- The bytes that a run of a slot sends after the address: the pointer, low byte first, and the data of a write (R406). -/
def State.slotBytes (s : State) (i w : Nat) : List Byte :=
  leBytes (bits w 9 8) (bits w 31 16) ++ (if bits w 11 10 = 2 then leBytes (bits w 15 12 + 1) (s.getN (Obj.TWA_CFG.DATA i)) else [])

/-- The next due slot starts if none runs: ascending order, with the slot word in force now; more than half its period late sets
SLOT_LATE (R406). -/
def State.twaNext (s : State) : State :=
  if s.twa.running.isSome ∨ s.twaOn = false then s
  else match (List.range' 1 16).find? (fun i => decide (0 < s.twa.due.getD (i - 1) 0) && slotRuns (s.slotWord i)) with
    | none => s
    | some i =>
      let w := s.slotWord i
      let late := bits w 47 32 ≠ 0 ∧ msTicks (bits w 47 32) < 2 * s.since (s.twa.dueAt.getD (i - 1) 0)
      let s := if late then s.raise Obj.TWA_CFG.FLAGS 4 else s
      s.updTwa (fun t => { t with running := some (i, w), tx := s.slotBytes i w, due := modAt t.due (i - 1) (· - 1) })

/-- A slot is due once more. -/
def State.twaDue (s : State) (i : Nat) (once : Bool) : State :=
  let n := s.twa.due.getD (i - 1) 0
  let s := if n = 0 then s.updTwa (fun t => { t with dueAt := modAt t.dueAt (i - 1) (fun _ => s.root) }) else s
  s.updTwa (fun t => { t with due := modAt t.due (i - 1) (fun k => if once then max k 1 else k + 1) })

/-- TWA_SLOT_DUE: PERIOD ms after the last time. -/
def execTwaSlotDue (i : Nat) (s : State) : Out :=
  let w := s.slotWord i
  if s.twaOn = true ∧ 1 ≤ i ∧ i ≤ 16 ∧ slotRuns w = true ∧ bits w 47 32 ≠ 0 ∧
      s.passed (s.twa.lastDue.getD (i - 1) 0) (msTicks (bits w 47 32)) = true then
    .next ((s.twaDue i true).updTwa (fun t => { t with lastDue := modAt t.lastDue (i - 1) (fun _ => s.root) })).twaNext
  else .next s

/-- TRIGGER (R406): each slot of the mask with PERIOD 0 runs once. -/
def twaTriggerEff (v : Val) (s : State) : Except Nat State :=
  .ok (((List.range' 1 16).foldl (fun (s : State) i =>
    let w := s.slotWord i
    if bit v.toN (i - 1) && slotRuns w && bits w 47 32 == 0 && s.twaOn then s.twaDue i false else s) s).twaNext)

/-- TWA_TRIGGER: a write of TRIGGER. -/
def execTwaTrigger (path : Path) (mask : Nat) (s : State) : Out :=
  .next (s.write path 0x2600 0x06 (leBytes 2 mask) twaTriggerEff)

/-- A slot fails (R407): its previous DATA and AGE stay. -/
def State.twaFail (s : State) (i : Nat) : State :=
  (s.setFlag Obj.TWA_CFG.SLOT_OK (i - 1) false).inc Obj.TWA_CFG.FAILURES

/-- TWA_SLOT_DONE (R407): the running slot completes, loses arbitration, or fails; the next due slot starts. -/
def execTwaSlotDone (i : Nat) (r : TwaResult) (s : State) : Out :=
  match s.twa.running with
  | none => .next s
  | some (j, w) =>
    if i ≠ j then .next s
    else
      let s := s.updTwa (fun t => { t with running := none })
      let s := match r with
        | .ok data =>
          let s := if bits w 11 10 = 1 then s.setN (Obj.TWA_CFG.DATA i) (leNat (data.take (bits w 15 12 + 1))) else s
          let s := (s.raise Obj.TWA_CFG.SLOT_OK (i - 1)).inc Obj.TWA_CFG.TRANSFERS
          s.updTwa (fun t => { t with okAt := modAt t.okAt (i - 1) (fun _ => some s.root) })
        | .arbLost =>
          (s.raise Obj.TWA_CFG.FLAGS 2).updTwa (fun t => { t with retry := t.retry ++ [(i, s.root)] })
        | .nack => (s.raise Obj.TWA_CFG.FLAGS 3).twaFail i
        | .timeout => s.twaFail i
      .next s.twaNext

/-- TWA_ARB_RETRY: 1 ms after the loss the slot runs again. -/
def execTwaArbRetry (i : Nat) (s : State) : Out :=
  match s.twa.retry.find? (fun e => decide (e.1 = i)) with
  | some (_, t) =>
    if s.passed t (msTicks 1) then
      .next (((s.updTwa (fun a => { a with retry := a.retry.filter (fun e => decide (e.1 ≠ i)) })).twaDue i true).twaNext)
    else .next s
  | none => .next s

/-- AGE_i (R407): ms since the last completed run. -/
def State.twaAge (s : State) (i : Nat) : Nat :=
  match s.twa.okAt.getD (i - 1) none with
  | some t => min (s.since t / 312500) 0xFFFFFFFE
  | none => 0xFFFFFFFF

/-! ### Timeouts (R405) -/

/-- The transfer in progress of TWA ends by a timeout. -/
def State.twaCut (s : State) : State :=
  match s.twa.running with
  | some (i, _) => (s.updTwa (fun t => { t with running := none })).twaFail i
  | none => s

/-- CLK_LOW_TIMEOUT: the port releases both lines and ends the transfer in progress; a mailbox write is void (R412). -/
def execClkLowTimeout (twb : Bool) (s : State) : Out :=
  if twb then
    if s.twbOn = true ∧ s.getN Obj.TWB_CFG.CLK_LOW_TIMEOUT ≠ 0 then .next (s.raise Obj.TWB_CFG.FLAGS 0) else .next s
  else if s.twaOn = true ∧ s.getN Obj.TWA_CFG.CLK_LOW_TIMEOUT ≠ 0 then .next (s.raise Obj.TWA_CFG.FLAGS 0).twaCut.twaNext
  else .next s

/-- DATA_LOW_TIMEOUT: TWA clears the bus with up to nine pulses and a STOP, `freed` says whether SDA was released; TWB releases its
drive. -/
def execDataLowTimeout (twb freed : Bool) (s : State) : Out :=
  if twb then
    if s.twbOn = true ∧ s.getN Obj.TWB_CFG.DATA_LOW_TIMEOUT ≠ 0 then .next (s.raise Obj.TWB_CFG.FLAGS 1) else .next s
  else if s.twaOn = true ∧ s.getN Obj.TWA_CFG.DATA_LOW_TIMEOUT ≠ 0 then
    let s := (s.raise Obj.TWA_CFG.FLAGS 1).twaCut
    .next (if freed then s.twaNext else s)
  else .next s

/-! ### Alerts of TWB (R411) -/

/-- The alert (R411): a write to ALERT_ADDRESS of ADDRESS shifted left by one, then ALERT_PENDING, low byte first. -/
def State.alertBytes (s : State) : Nat × List Byte :=
  (s.getN Obj.TWB_CFG.ALERT_ADDRESS, leBytes 1 (2 * s.getN Obj.TWB_CFG.ADDRESS) ++ leBytes 2 (s.getN Obj.TWB_CFG.ALERT_PENDING))

/-- An attempt to send the alert ends. -/
def State.alertTry (s : State) (r : AlertResult) : State :=
  let s := s.updTwb (fun t => { t with alertTx := some s.alertBytes })
  match r with
  | .acked => (s.inc Obj.TWB_CFG.ALERTS_SENT).updTwb (fun t => { t with want := false, retryAt := none })
  | .arbLost | .nack =>
    let s := if r = .arbLost then s.raise Obj.TWB_CFG.FLAGS 5 else s
    let n := s.twb.tries + 1
    if s.getN Obj.TWB_CFG.ALERT_RETRIES ≤ n then
      (s.raise Obj.TWB_CFG.FLAGS 3).updTwb (fun t => { t with want := false, tries := n, retryAt := none })
    else s.updTwb (fun t => { t with tries := n, retryAt := some (if r = .arbLost then 1 else 10, s.root) })

/-- TWB_ALERT: the first attempt of an alert that waits. -/
def execTwbAlert (r : AlertResult) (s : State) : Out :=
  if s.served = true ∧ s.twbOn = true ∧ s.twb.want = true ∧ s.twb.retryAt = none then .next (s.alertTry r) else .next s

/-- ALERT_RETRY: a further attempt, 1 ms after a lost arbitration and 10 ms after a missing acknowledge. -/
def execAlertRetry (r : AlertResult) (s : State) : Out :=
  match s.twb.retryAt with
  | some (ms, t) =>
    if s.served = true ∧ s.twbOn = true ∧ s.twb.want = true ∧ s.passed t (msTicks ms) = true then .next (s.alertTry r) else .next s
  | none => .next s

/-! ### Recovery steps (Table 15-10) -/

/-- Step 1 of TWA: bus clear; slots continue. -/
def State.twaRetry (s : State) : State := s.twaNext
/-- Step 2 of TWA: DATA, AGE and SLOT_OK cleared; slots restart. -/
def State.twaRestart (s : State) : State :=
  let s := (List.range' 1 16).foldl (fun s i => s.setN (Obj.TWA_CFG.DATA i) 0) (s.setN Obj.TWA_CFG.SLOT_OK 0)
  { s with twa := { lastDue := List.replicate 16 s.root } }
/-- Step 1 of TWB: target state reset; mailbox kept. -/
def State.twbRetry (s : State) : State := s.updTwb (fun t => { t with ptr := 0 })
/-- Step 2 of TWB: mailbox emptied, RSP_STATE 0, frozen values dropped; ALERT_PENDING kept. -/
def State.twbRestart (s : State) : State :=
  { s with twb := { want := s.twb.want, tries := s.twb.tries, retryAt := s.twb.retryAt, alertTx := s.twb.alertTx },
           sreqs := s.sreqs.filter (fun r => decide (r.origin ≠ .mailbox)) }

end Sys2Proof.Machine
end

