-- ==== Sys2Proof/Machine/Time.lean ====
section
/-! DEFINITION. Plant time, TAI, PTP and the grandmaster inputs (chapter 12, R334 to R343). -/
namespace Sys2Proof.Machine

/-! ### Sources (R342) -/

/-- Whether PPS/TOD has been consistent for 4 s (R343). -/
def State.ppsValid (s : State) : Bool :=
  decide (s.part = .zs8848) && s.getN Obj.PTP_CFG.PPS_TOD_ENABLE == 1 && s.time.tod.isSome &&
  (match s.time.consSince with
   | some t => s.passed t (secTicks 4)
   | none => false)
/-- Whether PTP runs on a port. -/
def State.ptpOn (s : State) (west : Bool) : Bool := s.getN Obj.PTP_CFG.ENABLE == 1 && s.portUp west
/-- Whether receive time-stamps are taken and the servo acts: not during an activation pause (R446). -/
def State.ptpStamps (s : State) (west : Bool) : Bool := s.ptpOn west && !s.paused
/-- Whether PTP is a valid source: a master in SLAVE state, 8 peer-delay exchanges on both links. -/
def State.ptpValid (s : State) : Bool :=
  s.getN Obj.PTP_CFG.ENABLE == 1 && s.anyPortUp && s.time.parent.isSome && !s.time.master && decide (8 ≤ s.time.exchE) && decide (8 ≤ s.time.exchW)
/-- The valid source: 1 PPS/TOD, which takes precedence, 2 PTP, 0 none. -/
def State.sourceNow (s : State) : Nat := if s.ppsValid then 1 else if s.ptpValid then 2 else 0

/-- The time base enters ACQUIRING. -/
def State.toAcquiring (s : State) : State :=
  (s.setN Obj.TIMEBASE.STATE 1).updTime (fun t => { t with okSince := none, badCnt := 0, syncAt := some s.root })

/-- FREE or HOLDOVER with a valid source goes to ACQUIRING (Table 12-9b); SOURCE names the source. -/
def State.sourceCheck (s : State) : State :=
  let src := s.sourceNow
  if src = 0 then s
  else
    let s := s.setN Obj.TIMEBASE.SOURCE src
    if s.getN Obj.TIMEBASE.STATE = 0 ∨ s.getN Obj.TIMEBASE.STATE = 3 then s.toAcquiring.electSync else s

/-! ### The error and the servo (R335, R336) -/

/-- Rounding to the nearest whole number, halves away from 0. -/
def roundSym (x : Q) : Int := if x < 0 then -(qround (-x)) else qround x

/-- Table 12-6 on the error e in ticks. -/
def State.actOn (s : State) (e : Q) : State :=
  if qabs e < 5000 then
    s.updTime (fun t => { t with keepCnt := 0, posSince := none, negSince := none, ahead := false })
  else if s.isKeeper then
    if s.time.keepCnt + 1 < 4 then s.updTime (fun t => { t with keepCnt := t.keepCnt + 1, posSince := none, negSince := none })
    else
      let s := (s.setI Obj.TIMEBASE.ORIGIN (s.getI Obj.TIMEBASE.ORIGIN + 32000 * roundSym (e / 10000))).raise Obj.TIMEBASE.FLAGS 6
      s.updTime (fun t => { t with keepCnt := 0, originSeq := (t.originSeq + 1) % 2 ^ 32 })
  else if 0 < e then
    let s := s.updTime (fun t => { t with keepCnt := 0, negSince := none, posSince := some (t.posSince.getD s.root) })
    if s.passed (s.time.posSince.getD s.root) (secTicks 2) ∧ s.time.stepPend = 0 then
      (s.updTime (fun t => { t with posSince := none })).stepDue (10000 * roundSym (e / 10000))
    else s
  else
    let s := s.updTime (fun t => { t with keepCnt := 0, posSince := none, negSince := some (t.negSince.getD s.root) })
    if s.passed (s.time.negSince.getD s.root) (secTicks 2) then
      (s.updTime (fun t => { t with
        ahead := true, need := s.getI Obj.TIMEBASE.ORIGIN - 32000 * roundSym (-e / 10000) })).raise Obj.TIMEBASE.FLAGS 2
    else s

/-- The states of Table 12-9b at a Sync or a PPS edge with offset `o`. -/
def State.lockStep (s : State) (o e : Q) : State :=
  let th : Q := s.getN Obj.PTP_CFG.LOCK_THRESHOLD
  match s.getN Obj.TIMEBASE.STATE with
  | 1 =>
    if qabs o ≤ th then
      let s := s.updTime (fun t => { t with okSince := some (t.okSince.getD s.root) })
      if s.passed (s.time.okSince.getD s.root) (secTicks 2) ∧ s.time.stepPend = 0 ∧ qabs e < 5000 then
        (s.setN Obj.TIMEBASE.STATE 2).updTime (fun t => { t with badCnt := 0, wasPps := s.getN Obj.TIMEBASE.SOURCE == 1 })
      else s
    else s.updTime (fun t => { t with okSince := none })
  | 2 =>
    let bad := if 4 * th < qabs o then s.time.badCnt + 1 else 0
    let s := s.updTime (fun t => { t with badCnt := bad })
    if 4 ≤ bad ∨ 0 < s.time.stepPend then s.toAcquiring.raise Obj.TIMEBASE.FLAGS 1 else s
  | _ => s

/-- The phase term that removes r: of the sign of r, its size left open up to 20 ppm (R336). -/
def phaseTerm (r x : Q) : Q := qsign r * qclamp 0 20 x

/-- The trim: a frequency term that follows the source, left open, and the phase term, within 50 ppm together (R336). -/
def State.trimStep (s : State) (r : Q) : State :=
  let (k, s) := s.take
  let (j, s) := s.take
  let x := Config.freeQ k + phaseTerm r (Config.freeQ j)
  let s := s.setR Obj.TIMEBASE.TRIM (some (qclamp (-50) 50 x))
  if 50 < qabs x then s.raise Obj.TIMEBASE.FLAGS 5 else s

/-- A Sync, or a PPS edge, is used: `x` is the TAI estimate in ns of the instant at plant time `p`. -/
def State.timeUse (s : State) (x : Q) (p : Nat) : State :=
  let e := (x - (s.getI Obj.TIMEBASE.ORIGIN : Q)) * 5 / 16 - (p : Q)
  let r := e - 10000 * (roundSym (e / 10000) : Q)
  let s := s.updTime (fun t => { t with syncAt := some s.root, offs := ((r * 16 / 5) :: t.offs).take 64 })
  let o := qsum s.time.offs / (s.time.offs.length : Q)
  let s := s.setR Obj.TIMEBASE.OFFSET (some o)
  let s := (s.sourceCheck).actOn e
  ((s.lockStep o e).trimStep r).ringSync

/-! ### Best master (R339, Table 12-8) -/

/-- Own clockClass. -/
def State.ownClass (s : State) : Nat :=
  if s.part = .zs8824 then 255
  else if s.getN Obj.TIMEBASE.STATE = 2 ∧ s.getN Obj.TIMEBASE.SOURCE = 1 then 6
  else if s.getN Obj.TIMEBASE.STATE = 3 ∧ s.time.wasPps = true then 7
  else 248

/-- Whether the clock may be a master. -/
def State.gmCapable (s : State) : Bool := decide (s.part = .zs8848) && s.getN Obj.PTP_CFG.GM_CAPABLE == 1

/-- The own Announce; the variance is not stated and PRESUMED unknown, 0xFFFF. -/
def State.ownAnnounce (s : State) : PtpAnnounce :=
  let c := s.ownClass
  { domain := s.getN Obj.PTP_CFG.DOMAIN, seq := s.time.seqAnn, clock := s.clockId, port := 1
    prio1 := s.getN Obj.PTP_CFG.PRIORITY1, cls := c, acc := if c = 6 ∨ c = 7 then 0x21 else 0xFE, var := 0xFFFF
    prio2 := s.getN Obj.PTP_CFG.PRIORITY2, gm := s.clockId, steps := 0 }

/-- Lexicographic order on numbers. -/
def lexLt : List Nat → List Nat → Bool
  | a :: l, b :: m => decide (a < b) || (decide (a = b) && lexLt l m)
  | _, _ => false

/-- What the default algorithm compares: by grandmaster, or for one grandmaster by the path. -/
def annKey (a : PtpAnnounce) : List Nat := [a.prio1, a.cls, a.acc, a.var, a.prio2, a.gm, a.steps, a.clock, a.port]
/-- Whether the first Announce is better. -/
def annBetter (a b : PtpAnnounce) : Bool :=
  if a.gm = b.gm then lexLt [a.steps, a.clock, a.port] [b.steps, b.clock, b.port] else lexLt (annKey a) (annKey b)

/-- The best qualified foreign master: two Announces, the last within 4 s. -/
def State.bestForeign (s : State) : Option PtpAnnounce :=
  let ok := (s.time.foreign.filter (fun f => decide (2 ≤ f.2.1) && !s.passed f.2.2 (secTicks 4))).map (·.1)
  match ok with
  | [] => none
  | a :: l => some (l.foldl (fun x y => if annBetter y x then y else x) a)

/-- PORT_STATE of both ports: 3 DISABLED, 1 INITIALIZING while down, 6 MASTER, 9 SLAVE on the Sync port and 7 PASSIVE on the other or
where the own clock of class 127 or below is not the best, 4 LISTENING. -/
def State.portStates (s : State) (passive : Bool) : State :=
  let st := fun (west : Bool) =>
    if s.getN Obj.PTP_CFG.ENABLE = 0 then 3
    else if !s.portUp west then 1
    else if s.time.master then 6
    else if passive then 7
    else if s.time.parent.isSome then (if s.getN Obj.PTP_STATUS.SYNC_PORT = b2n !west then 7 else 9)
    else 4
  (s.setN Obj.PTP_STATUS.PORT_STATE_E (st false)).setN Obj.PTP_STATUS.PORT_STATE_W (st true)

/-- The module becomes master. -/
def State.toMaster (s : State) : State :=
  let s := s.updTime (fun t => { t with master := true, parent := none })
  ((s.setN Obj.PTP_STATUS.GM_IDENTITY s.clockId).setN Obj.PTP_STATUS.GM_CLASS s.ownClass).portStates false

/-- No master is known. -/
def State.toListening (s : State) : State :=
  let s := s.updTime (fun t => { t with master := false, parent := none, listenAt := s.root })
  ((s.setN Obj.PTP_STATUS.GM_IDENTITY 0).setN Obj.PTP_STATUS.GM_CLASS 255).portStates false

/-- A foreign master is followed; a new one starts the Sync port and the averages anew. -/
def State.toSlave (s : State) (a : PtpAnnounce) (passive : Bool) : State :=
  let new := decide (s.time.parent.map (fun p => (p.clock, p.port)) ≠ some (a.clock, a.port))
  let s := (s.setN Obj.PTP_STATUS.GM_IDENTITY a.gm).setN Obj.PTP_STATUS.GM_CLASS a.cls
  let s := s.updTime (fun t => { t with master := false, parent := if passive then none else some a })
  let s := if new && !passive then
      (s.setN Obj.PTP_STATUS.SYNC_PORT 0xFF).updTime (fun t => { t with seqLast := none, seqFu := none, waitFu := none, arrivals := [] })
    else s
  s.portStates passive

/-- The BMCA: `timedOut` tells that the announce receipt timeout has expired. -/
def State.bmca (s : State) (timedOut : Bool) : State :=
  let own := s.ownAnnounce
  match s.bestForeign with
  | none =>
    if s.gmCapable && (timedOut || s.time.master) then s.toMaster
    else if s.time.parent.isSome && timedOut then s.toListening
    else s.portStates false
  | some f =>
    if s.gmCapable && annBetter own f then s.toMaster
    else if s.gmCapable && decide (own.cls ≤ 127) then s.toSlave f true
    else s.toSlave f false

/-- PTP_ANNOUNCE_RX: a foreign master is heard, and the BMCA runs. -/
def execPtpAnnounceRx (west : Bool) (m : PtpAnnounce) (s : State) : Out :=
  if !s.ptpOn west || decide (m.domain ≠ s.getN Obj.PTP_CFG.DOMAIN) || decide (m.clock = s.clockId) || decide (255 ≤ m.steps) then .next s
  else
    let old := s.time.foreign.find? (fun f => decide (f.1.clock = m.clock) && decide (f.1.port = m.port))
    let again := (old.map (fun f => decide (f.1.seq = m.seq))).getD false
    let n := match old with
      | some f => if s.passed f.2.2 (secTicks 4) then 1 else if again then f.2.1 else f.2.1 + 1
      | none => 1
    let rest := s.time.foreign.filter (fun f => !(decide (f.1.clock = m.clock) && decide (f.1.port = m.port)))
    let s := s.updTime (fun t => { t with foreign := (m, n, s.root) :: rest })
    .next (s.bmca false).sourceCheck.ringSync

/-- PTP_ANNOUNCE_TIMEOUT: three announce intervals without an Announce of the master, or in LISTENING. -/
def execPtpAnnounceTimeout (s : State) : Out :=
  let late := match s.time.parent with
    | some p => s.time.foreign.all (fun f => !(decide (f.1.clock = p.clock) && decide (f.1.port = p.port)) || s.passed f.2.2 (secTicks 3))
    | none => !s.time.master && s.passed s.time.listenAt (secTicks 3)
  if s.getN Obj.PTP_CFG.ENABLE = 1 ∧ s.anyPortUp = true ∧ late = true then
    let s := s.updTime (fun t => { t with foreign := t.foreign.filter (fun f => !s.passed f.2.2 (secTicks 3)) })
    .next (s.bmca true).ringSync
  else .next s

/-! ### Sync and Follow_Up (R335, R339, R340) -/

/-- The receive time-stamp (R340). -/
def ptpStamp (m : PtpMsg) : Nat := m.entry - 212

/-- The mean link delay and the known asymmetry of a port, in ns. -/
def State.linkDelay (s : State) (west : Bool) : Option Q :=
  s.getR (if west then Obj.PTP_STATUS.LINK_DELAY_W else Obj.PTP_STATUS.LINK_DELAY_E)
/-- PORT_ASYM of a port. -/
def State.portAsym (s : State) (west : Bool) : Int := s.getI (if west then Obj.PTP_CFG.PORT_ASYM_W else Obj.PTP_CFG.PORT_ASYM_E)

/-- Whether a message comes from the master in force. -/
def State.fromParent (s : State) (m : PtpMsg) : Bool :=
  match s.time.parent with
  | some p => decide (p.clock = m.clock) && decide (p.port = m.port)
  | none => false

/-- Whether a 16-bit sequenceId is ahead of the last (Table 12-12). -/
def seqAhead (q : Nat) (last : Option Nat) : Bool :=
  match last with
  | some l => decide (0 < toSigned 16 (q + 65536 - l % 65536))
  | none => true

/-- The arrival of a Sync copy on a port. -/
def noteArrival (l : List (Nat × Option Nat × Option Nat)) (q at_ : Nat) (west : Bool) : List (Nat × Option Nat × Option Nat) :=
  if l.any (fun e => decide (e.1 = q)) then
    l.map (fun e => if e.1 = q then (if west then (q, e.2.1, e.2.2 <|> some at_) else (q, e.2.1 <|> some at_, e.2.2)) else e)
  else ((if west then (q, none, some at_) else (q, some at_, none)) :: l).take 16

/-- The Sync port: by the average over the last 16 Syncs; the other port takes over after 3 missing Syncs (Table 12-8). -/
def State.syncPort (s : State) (west : Bool) : Nat :=
  let cur := s.getN Obj.PTP_STATUS.SYNC_PORT
  let l := s.time.arrivals
  let lone := fun (w : Nat) (e : Nat × Option Nat × Option Nat) => if w = 0 then e.2.1.isNone && e.2.2.isSome else e.2.2.isNone && e.2.1.isSome
  if cur = 0xFF then b2n west
  else if 3 ≤ l.length ∧ (l.take 3).all (lone cur) = true then 1 - cur
  else
    let both := l.filterMap (fun (e : Nat × Option Nat × Option Nat) => match e.2.1, e.2.2 with
      | some a, some b => some ((a : Int) - (b : Int))
      | _, _ => none)
    if both.length < 16 then cur
    else
      let d : Int := both.foldl (· + ·) 0
      if d < 0 then 0 else if 0 < d then 1 else cur

/-- The instant that a Sync stands for is used, unless PPS/TOD takes precedence. -/
def State.syncUse (s : State) (west : Bool) (time corr : Q) (stamp : Nat) : State :=
  match s.linkDelay west with
  | none => s
  | some d =>
    if s.ppsValid then s
    else (s.inc Obj.PTP_STATUS.SYNC_RX).timeUse (time + corr + d + (s.portAsym west : Q)) stamp

/-- PTP_SYNC_RX. -/
def execPtpSyncRx (west : Bool) (m : PtpMsg) (s : State) : Out :=
  if !s.ptpStamps west || decide (m.domain ≠ s.getN Obj.PTP_CFG.DOMAIN) || !s.fromParent m then .next s
  else if m.near then .next (s.inc Obj.PTP_STATUS.TS_MISSED)
  else
    let s := s.updTime (fun t => { t with arrivals := noteArrival t.arrivals m.seq (ptpStamp m) west })
    let port := s.syncPort west
    let s := if s.getN Obj.PTP_STATUS.SYNC_PORT = port then s else (s.setN Obj.PTP_STATUS.SYNC_PORT port).portStates false
    if port = b2n west ∧ seqAhead m.seq s.time.seqLast = true then
      let s := s.updTime (fun t => { t with seqLast := some m.seq, waitFu := if m.twoStep then some m else none })
      .next (if m.twoStep then s else s.syncUse west m.time m.corr (ptpStamp m))
    else .next s

/-- PTP_FOLLOW_UP_RX: the time of a two-step Sync. -/
def execPtpFollowUpRx (west : Bool) (m : PtpMsg) (s : State) : Out :=
  if !s.ptpStamps west || decide (m.domain ≠ s.getN Obj.PTP_CFG.DOMAIN) || !s.fromParent m || !seqAhead m.seq s.time.seqFu then .next s
  else match s.time.waitFu with
    | some y =>
      if y.seq = m.seq then
        let s := s.updTime (fun t => { t with seqFu := some m.seq, waitFu := none })
        .next (s.syncUse (s.getN Obj.PTP_STATUS.SYNC_PORT == 1) m.time (y.corr + m.corr) (ptpStamp y))
      else .next s
    | none => .next s

/-! ### Peer delay -/

/-- A finished exchange: the mean link delay of the port in ns, and one more exchange. -/
def State.exchanged (s : State) (west : Bool) (d : Q) : State :=
  let s := s.setR (if west then Obj.PTP_STATUS.LINK_DELAY_W else Obj.PTP_STATUS.LINK_DELAY_E) (some d)
  let s := s.updTime (fun t => if west then { t with exchW := t.exchW + 1, reqW := none, respW := none }
    else { t with exchE := t.exchE + 1, reqE := none, respE := none })
  s.sourceCheck

/-- PDELAY_REQ_TX: every 1/8 s until LOCKED, then every 1 s. -/
def execPdelayReqTx (west : Bool) (s : State) : Out :=
  let last := if west then s.time.pdW else s.time.pdE
  let iv := if s.timeLocked then secTicks 1 else msTicks 125
  let due := match last with
    | some t => s.passed t iv
    | none => true
  if s.ptpOn west && due then
    let q := s.time.seqPd
    let m : PtpMsg := { domain := s.getN Obj.PTP_CFG.DOMAIN, seq := q, clock := s.clockId, port := 1 + b2n west, corr := 0, time := 0
                        twoStep := false, near := false, entry := 0, forUs := false }
    .next (s.updTime (fun t =>
      let t := { t with seqPd := (q + 1) % 65536, tx := [m] }
      if west then { t with pdW := some s.root, reqW := some (q, s.now), respW := none }
      else { t with pdE := some s.root, reqE := some (q, s.now), respE := none }))
  else .next s

/-- PDELAY_REQ_RX: answered with a one-step Pdelay_Resp, whose correctionField carries the turnaround. -/
def execPdelayReqRx (west : Bool) (m : PtpMsg) (s : State) : Out :=
  if !s.ptpStamps west || decide (m.domain ≠ s.getN Obj.PTP_CFG.DOMAIN) then .next s
  else if m.near then .next (s.inc Obj.PTP_STATUS.TS_MISSED)
  else
    let r : PtpMsg := { m with
      clock := s.clockId, port := 1 + b2n west, corr := m.corr + ((s.now : Q) - ((ptpStamp m) : Q)) * 16 / 5, time := 0
      twoStep := false, near := false, entry := 0, forUs := false }
    .next (s.updTime (fun t => { t with tx := [r] }))

/-- PDELAY_RESP_RX: one-step completes the exchange, two-step waits for its follow-up. -/
def execPdelayRespRx (west : Bool) (m : PtpMsg) (s : State) : Out :=
  if !s.ptpStamps west || decide (m.domain ≠ s.getN Obj.PTP_CFG.DOMAIN) || !m.forUs then .next s
  else match (if west then s.time.reqW else s.time.reqE) with
    | some (q, t1) =>
      if q ≠ m.seq then .next s
      else if m.near then
        .next ((s.inc Obj.PTP_STATUS.TS_MISSED).updTime (fun t => if west then { t with reqW := none } else { t with reqE := none }))
      else if m.twoStep then
        let w := some (m.seq, m.time, (ptpStamp m), m.corr)
        .next (s.updTime (fun t => if west then { t with respW := w } else { t with respE := w }))
      else .next (s.exchanged west (((((ptpStamp m) : Q) - (t1 : Q)) * 16 / 5 - m.corr) / 2))
    | none => .next s

/-- PDELAY_RESP_FOLLOW_UP_RX: the link delay of a two-step exchange. -/
def execPdelayRespFollowUpRx (west : Bool) (m : PtpMsg) (s : State) : Out :=
  if !s.ptpOn west || decide (m.domain ≠ s.getN Obj.PTP_CFG.DOMAIN) || !m.forUs then .next s
  else match (if west then s.time.reqW else s.time.reqE), (if west then s.time.respW else s.time.respE) with
    | some (q, t1), some (q', t2, t4, c) =>
      if q = m.seq ∧ q' = m.seq then
        .next (s.exchanged west ((((t4 : Q) - (t1 : Q)) * 16 / 5 - (m.time - t2) - c - m.corr) / 2))
      else .next s
    | _, _ => .next s

/-! ### As master, and forwarding -/

/-- TAI of a plant time in ns (R334). -/
def State.taiOf (s : State) (tick : Nat) : Q := (s.getI Obj.TIMEBASE.ORIGIN : Q) + (tick : Q) * 16 / 5

/-- PTP_SYNC_TX: as master, a one-step Sync every 1/8 s, its time inserted at the SFD. -/
def execPtpSyncTx (s : State) : Out :=
  let due := match s.time.syncTx with
    | some t => s.passed t (msTicks 125)
    | none => true
  if s.time.master && (s.ptpOn false || s.ptpOn true) && due then
    let m : PtpMsg := { domain := s.getN Obj.PTP_CFG.DOMAIN, seq := s.time.seqSync, clock := s.clockId, port := 1, corr := 0
                        time := s.taiOf s.now, twoStep := false, near := false, entry := 0, forUs := false }
    .next (s.updTime (fun t => { t with seqSync := (t.seqSync + 1) % 65536, syncTx := some s.root, tx := [m] }))
  else .next s

/-- PTP_ANNOUNCE_TX: as master, an Announce every second. -/
def execPtpAnnounceTx (s : State) : Out :=
  let due := match s.time.annTx with
    | some t => s.passed t (secTicks 1)
    | none => true
  if s.time.master && (s.ptpOn false || s.ptpOn true) && due then
    let a := s.ownAnnounce
    .next ((s.setN Obj.PTP_STATUS.GM_CLASS a.cls).updTime (fun t => { t with
      seqAnn := (t.seqAnn + 1) % 65536, annTx := some s.root, txAnn := some a }))
  else .next s

/-- PTP_EVENT_FORWARD (R341): residence time in bit times of 0.8 ns and the ingress port's mean link delay are added to
correctionField. A link delay that has not been measured is left open. -/
def execPtpEventForward (west : Bool) (m : PtpMsg) (residence : Nat) (s : State) : Out :=
  if s.portUp west then
    let (k, s) := s.take
    let d := (s.linkDelay west).getD (Config.freeQ k)
    .next (s.updTime (fun t => { t with tx := [{ m with corr := m.corr + (residence : Q) * 4 / 5 + d }] }))
  else .next s

/-! ### PPS and time of day (R343) -/

/-- Whether the grandmaster inputs are in use. -/
def State.ppsOn (s : State) : Bool := decide (s.part = .zs8848) && s.getN Obj.PTP_CFG.PPS_TOD_ENABLE == 1

/-- PPS/TOD is not consistent any more. -/
def State.ppsBreak (s : State) : State := s.updTime (fun t => { t with consSince := none, tod := none })

/-- The distance in ns to the nearest whole second. -/
def toSecond (x : Q) : Q := x - 1000000000 * (qround (x / 1000000000) : Q)

/-- PPS_IN: a rising edge captured at a plant time. It is valid 1 s within 100 us after the one before, at least 1 us wide. A valid
edge of a consistent source is used as R335 states, its TAI one second after the edge that the last sentence named. -/
def execPpsIn (tick widthNs : Nat) (s : State) : Out :=
  if !s.ppsOn then .next s
  else
    let ok := match s.time.ppsLast with
      | some p => decide (p + 312500000 ≤ tick + 31250) && decide (tick ≤ p + 312500000 + 31250) && decide (1000 ≤ widthNs)
      | none => false
    let delay := s.getI Obj.PTP_CFG.PPS_DELAY
    let s := s.setR Obj.PTP_STATUS.PPS_OFFSET (some (toSecond (s.taiOf tick - (delay : Q))))
    let named := s.time.ppsNamed
    let s := s.updTime (fun t => { t with ppsLast := some tick, ppsNamed := false, tod := t.tod.map (· + 1) })
    let s := if !ok then s.ppsBreak
      else
        let s := s.updTime (fun t => { t with ppsAt := some s.root })
        if named then s else s.ppsBreak.raise Obj.TIMEBASE.FLAGS 3
    match s.time.tod with
    | some sec => .next (if ok && s.ppsValid then s.timeUse ((sec : Q) * 1000000000 + (delay : Q)) tick else s)
    | none => .next s

/-- PPS_MISSING: no edge for 2 s. -/
def execPpsMissing (s : State) : Out :=
  match s.time.ppsAt with
  | some t =>
    if s.ppsOn && s.passed t (secTicks 2) then
      .next ((s.ppsBreak.updTime (fun t => { t with ppsAt := none })).raise Obj.TIMEBASE.FLAGS 4)
    else .next s
  | none => .next s

/-- The number that decimal digits spell. -/
def decimal (b : List Byte) : Option Nat :=
  if b.isEmpty then none
  else b.foldl (fun a x => match a with
    | some n => if 0x30 ≤ x.toNat ∧ x.toNat ≤ 0x39 then some (10 * n + (x.toNat - 0x30)) else none
    | none => none) (some 0)
/-- A hexadecimal digit. -/
def hexDigit (b : Byte) : Option Nat :=
  let n := b.toNat
  if 0x30 ≤ n ∧ n ≤ 0x39 then some (n - 0x30) else if 0x41 ≤ n ∧ n ≤ 0x46 then some (n - 0x37)
  else if 0x61 ≤ n ∧ n ≤ 0x66 then some (n - 0x57) else none
/-- Bytes cut at a separator. -/
def splitAt_ (c : Nat) : List Byte → List (List Byte)
  | [] => [[]]
  | b :: l => match splitAt_ c l with
    | [] => [[b]]
    | h :: t => if b.toNat = c then [] :: h :: t else (b :: h) :: t
/-- Days since 1970-01-01 of a date of the years 2020 to 2119. -/
def dayNumber (y m d : Nat) : Nat :=
  let leap := fun (y : Nat) => y % 4 == 0 && (y % 100 != 0 || y % 400 == 0)
  let years := (List.range (y - 1970)).foldl (fun a i => a + 365 + b2n (leap (1970 + i))) 0
  let len : List Nat := [31, 28 + b2n (leap y), 31, 30, 31, 30, 31, 31, 30, 31, 30, 31]
  years + (len.take (m - 1)).foldl (· + ·) 0 + (d - 1)

/-- The UTC second that a ZDA sentence names: dollar sign, talker, ZDA, hhmmss, day, month, year, star and checksum. -/
def zdaSecond (b : List Byte) : Option Nat :=
  let body := (b.drop 1).takeWhile (fun x => decide (x.toNat ≠ 0x2A))
  let tail := b.drop (2 + body.length)
  let sum := body.foldl (fun (a : Nat) x => a ^^^ x.toNat) 0
  let fields := splitAt_ 0x2C body
  match tail[0]?.bind hexDigit, tail[1]?.bind hexDigit, fields with
  | some h, some l, tag :: t :: dd :: mm :: yy :: _ =>
    if b.head? = some 0x24 ∧ 16 * h + l = sum ∧ tag.length = 5 ∧ tag.drop 2 = [0x5A, 0x44, 0x41] then
      match decimal (t.take 2), decimal (slice t 2 2), decimal (slice t 4 2), decimal dd, decimal mm, decimal yy with
      | some hh, some mi, some ss, some d, some m, some y =>
        if hh < 24 ∧ mi < 60 ∧ ss ≤ 60 ∧ 1 ≤ d ∧ d ≤ 31 ∧ 1 ≤ m ∧ m ≤ 12 ∧ 2020 ≤ y ∧ y ≤ 2119 then
          some (86400 * dayNumber y m d + 3600 * hh + 60 * mi + ss)
        else none
      | _, _, _, _, _, _ => none
    else none
  | _, _, _ => none

/-- TOD_IN: a sentence from 100 to 900 ms after an edge names it. What is no such sentence is ignored, and the next edge finds it
missing. -/
def execTodIn (sentence : List Byte) (s : State) : Out :=
  match s.ppsOn, zdaSecond sentence, s.time.ppsLast with
  | true, some utc, some p =>
    if p + 31250000 ≤ s.now ∧ s.now ≤ p + 281250000 ∧ s.time.ppsNamed = false then
      let sec : Int := (utc : Int) + s.getI Obj.TIMEBASE.TAI_UTC
      let s' := s.updTime (fun t => { t with ppsNamed := true, tod := some sec })
      match s.time.tod with
      | some x =>
        if x = sec then .next (s'.updTime (fun t => { t with consSince := some (t.consSince.getD s.root) })).sourceCheck
        else .next ((s'.updTime (fun t => { t with consSince := none })).raise Obj.TIMEBASE.FLAGS 3)
      | none => .next (s'.updTime (fun t => { t with consSince := none }))
    else .next s
  | _, _, _ => .next s

/-- PPS_OUT: it rises at the first tick of a whole TAI second, for 100 ms. -/
def execPpsOut (s : State) : Out :=
  let st := s.getN Obj.TIMEBASE.STATE
  let x := s.getI Obj.TIMEBASE.ORIGIN * 5 + ((s.now * 16 : Nat) : Int)
  if s.part = .zs8848 ∧ s.getN Obj.PTP_CFG.PPS_TOD_ENABLE = 1 ∧ s.getN Obj.PTP_CFG.PPS_OUT_ENABLE = 1 ∧ (st = 2 ∨ st = 3) ∧
      x % 5000000000 < 16 then
    .next (s.updTime (fun t => { t with ppsOutAt := some s.root }))
  else .next s

/-- GM_CAPABLE, PPS_TOD_ENABLE and PPS_OUT_ENABLE: a write of 1 is refused on the ZS8824 (R343). A change of GM_CAPABLE runs the BMCA anew:
a grandmaster that is no longer capable listens (R6). -/
def ppsCfgEff (k : Nat) (v : Val) (s : State) : Except Nat State :=
  if s.part = .zs8824 ∧ v.toN = 1 then .error abortRange
  else
    let s := s.put k v
    if k = Obj.PTP_CFG.PPS_TOD_ENABLE then .ok (s.ppsBreak.updTime (fun t => { t with ppsLast := none, ppsAt := some s.root, ppsNamed := true }))
    else if k = Obj.PTP_CFG.GM_CAPABLE ∧ s.getN Obj.PTP_CFG.ENABLE = 1 then
      .ok (if s.time.master && !s.gmCapable then s.toListening.ringSync else (s.bmca false).sourceCheck.ringSync)
    else .ok s

/-- PTP_CFG ENABLE and DOMAIN: PTP starts anew. -/
def ptpCfgEff (k : Nat) (v : Val) (s : State) : Except Nat State :=
  .ok (((s.put k v).updTime (fun t => { t with foreign := [] })).toListening).ringSync

/-! ### Loss of the source, and steps -/

/-- SOURCE_LOSS: no Sync or PPS for 3 s (Table 12-9b). -/
def execSourceLoss (s : State) : Out :=
  let late := match s.time.syncAt with
    | some t => s.passed t (secTicks 3)
    | none => true
  let s' := s.setN Obj.TIMEBASE.SOURCE 0
  match s.getN Obj.TIMEBASE.STATE, late with
  | 1, true => .next ((s'.setN Obj.TIMEBASE.STATE 0).ringSync)
  | 2, true => .next (((s'.setN Obj.TIMEBASE.STATE 3).raise Obj.TIMEBASE.FLAGS 1).updTime (fun t => { t with holdAt := s.root })).ringSync
  | _, _ => .next s

/-- HOLDOVER_EXPIRY: HOLDOVER_TIME has elapsed. -/
def execHoldoverExpiry (s : State) : Out :=
  if s.getN Obj.TIMEBASE.STATE = 3 ∧ s.passed s.time.holdAt (secTicks (s.getN Obj.TIMEBASE.HOLDOVER_TIME)) = true then
    .next (s.setN Obj.TIMEBASE.STATE 0).ringSync
  else .next s

/-- TIME_STEP (R337): the tick after P = 9,999 modulo 10,000 carries P + 1 and the step. What measures durations moves along (Table 12-7): the
last PPS edge, the peer-delay requests under way and the sweep history of the thermistors. A LOCKED time base is ACQUIRING again. -/
def execTimeStep (s : State) : Out :=
  let d := s.time.stepPend
  if d = 0 ∨ s.now % 10000 ≠ 0 then .next s
  else
    let t := s.now + d
    let s := { s with now := t }
    let later := Option.map (fun (q : Nat × Nat) => (q.1, q.2 + d))
    let s := s.updTime (fun x => { x with
      stepPend := 0, jumps := (t, d) :: x.jumps, ppsLast := x.ppsLast.map (· + d), reqE := later x.reqE, reqW := later x.reqW })
    let s := (s.inc Obj.TIMEBASE.STEPS).raise Obj.TIMEBASE.FLAGS 0
    let s := s.setI Obj.TIMEBASE.LAST_STEP (d : Int)
    let s := s.record 0x0007 0x09 0 0 (leBytes 8 d ++ leBytes 1 (b2n s.isKeeper))
    let s := if s.getN Obj.TIMEBASE.STATE = 2 then s.toAcquiring.raise Obj.TIMEBASE.FLAGS 1 else s
    .next (s.forGal (fun n s => s.updG n (fun g => { g with therm := { g.therm with
      therms := g.therm.therms.map (fun x => { x with hist := x.hist.map (fun h => (h.1 + d, h.2)) }) } })))

end Sys2Proof.Machine
end

