-- ==== Sys2Proof/Machine/Plant.lean ====
section
/-! DEFINITION. Plant dispatch (chapter 11): sources, the ramp, capabilities, the allocation of R313, the leader. -/
namespace Sys2Proof.Machine

/-! ### Sources (R308, R309) -/

/-- Whether the HOST value is valid. -/
def State.hostValid (s : State) : Bool :=
  match s.disp.hostAt with
  | some t => s.getN Obj.DISPATCH_CFG.HOST_TIMEOUT == 0 || decide (s.since t ≤ msTicks (s.getN Obj.DISPATCH_CFG.HOST_TIMEOUT))
  | none => false
/-- Whether the age of LEADER_TARGET is within LEADER_TIMEOUT. -/
def State.leadFresh (s : State) : Bool :=
  match s.disp.leadAt with
  | some t => decide (s.since t ≤ msTicks (s.getN Obj.LEADER_CFG.LEADER_TIMEOUT))
  | none => false
/-- The analogue value: a number of a channel without a fault. -/
def State.analogue (s : State) : Option Q :=
  let c := s.getN Obj.DISPATCH_CFG.ANALOG_CHANNEL
  if c < 16 then s.chNumber c else none

/-- The source in force (Table 11-1) and its value. -/
def State.dispSource (s : State) : Nat × Q :=
  let mask := s.getN Obj.DISPATCH_CFG.SOURCE_MASK
  if (bit mask 1 && s.getN Obj.DISPATCH_STATUS.ROLE == 2 && s.leadFresh) = true then (2, s.getQ Obj.DISPATCH_SETPOINT.LEADER_TARGET)
  else if (bit mask 0 && s.hostValid) = true then (1, s.getQ Obj.DISPATCH_SETPOINT.P_DEMAND)
  else match bit mask 2, s.analogue with
    | true, some x => (3, x)
    | _, _ => (4, if s.disp.fbDone then s.getQ Obj.DISPATCH_CFG.FALLBACK_P else s.disp.fbVal)

/-- HOST_TIMEOUT: HOST_AGE has run out; reported once. -/
def State.hostExpire (s : State) : State :=
  if s.disp.hostAt.isSome && !s.hostValid && !s.disp.hostOut then
    (s.raise Obj.DISPATCH_STATUS.FLAGS 4).updDisp (fun d => { d with hostOut := true })
  else s
/-- LEADER_LOST: LEADER_AGE has run out; reported once. -/
def State.leaderExpire (s : State) : State :=
  if s.disp.leadAt.isSome && !s.leadFresh && !s.disp.leadOut then
    (s.raise Obj.DISPATCH_STATUS.FLAGS 2).updDisp (fun d => { d with leadOut := true })
  else s
/-- FALLBACK_HOLD ends. -/
def State.fallbackExpire (s : State) : State :=
  if s.getN Obj.DISPATCH_SETPOINT.SOURCE = 4 ∧ s.passed s.disp.fbAt (secTicks (s.getN Obj.DISPATCH_CFG.FALLBACK_HOLD)) = true then
    s.updDisp (fun d => { d with fbDone := true })
  else s

/-- The source of this allocation, with what a change of it does (R309); the value it gives. -/
def State.sourceStep (s : State) : State × Q :=
  let s := s.hostExpire.leaderExpire
  let old := s.getN Obj.DISPATCH_SETPOINT.SOURCE
  let new := s.dispSource.1
  let tgt := s.getQ Obj.DISPATCH_SETPOINT.TARGET_IN_FORCE
  let s := s.setN Obj.DISPATCH_SETPOINT.SOURCE new
  let s := if old ≠ new ∧ old ≠ 0 then
      (s.raise Obj.DISPATCH_STATUS.FLAGS 1).record 0x0300 0x08 0 0
        ([BitVec.ofNat 8 old, BitVec.ofNat 8 new] ++ real4 (some tgt))
    else s
  let s := if new = 4 ∧ old ≠ 4 then s.updDisp (fun d => { d with fbAt := s.root, fbDone := false }) else s
  let s := s.fallbackExpire
  let s := if bit (s.getN Obj.DISPATCH_CFG.SOURCE_MASK) 2 && decide (s.getN Obj.DISPATCH_CFG.ANALOG_CHANNEL ≠ 0xFF) && s.analogue.isNone then
      s.raise Obj.DISPATCH_STATUS.FLAGS 3 else s
  let s := s.forGal (fun n s => s.setN (Gal.CONV_REFS.SOURCE n) new)
  (s, s.dispSource.2)

/-- The ramp of R310. -/
def rampTo (cur goal step : Q) : Q := if cur + step < goal then cur + step else if goal + step < cur then cur - step else goal

/-! ### Eligible strings and capability (R311, R312) -/

/-- V_s. -/
def State.strV (s : State) (n : Nat) : Option Q :=
  match s.getR (Gal.TELEMETRY.STRING_V_100MS n) with
  | some v => some v
  | none => s.getR (Gal.TELEMETRY.STRING_V_SF n)

/-- Whether a string is eligible (R311). -/
def State.dispEligible (s : State) (n : Nat) : Bool :=
  s.strOn n && s.flag Obj.DISPATCH_CFG.STRING_MASK n && decide (s.gstate n = .energised) &&
  (decide ((s.g n).tread.state = .running) || decide ((s.g n).tread.state = .reversing)) &&
  decide (s.getN (Gal.PROT_STATUS.LOST n) = 0) && (s.strV n).isSome

/-- The eligible strings. -/
def State.eligibles (s : State) : List Nat := s.galIds.filter s.dispEligible

/-- c_s in a direction, 1 discharge or -1 charge (R312); what is not a number counts as 0. -/
def State.capability (s : State) (n : Nat) (dir : Int) : Q :=
  match s.strV n, s.getR (if dir = 1 then Gal.ESTIM_STRING.P_DIS_CAP n else Gal.ESTIM_STRING.P_CHG_CAP n), s.getR (Gal.THERMAL_STATUS.THROTTLE_I n) with
  | some v, some p, some i =>
    let cands := ((List.range' 1 7).map (fun k => s.getR (Gal.LOOP_STATUS.CAND n k))).filterMap id
    let l : List Q := if s.getI (Gal.LOOP_STATUS.DIRECTION n) = dir then cands.map (fun c => c * v) else []
    qmax 0 (qminD p (p :: i * v :: l))
  | _, _, _ => 0

/-! ### The allocation (R313) -/

/-- The rounds of R313 over what is left: number, capability, weight. -/
def allocRounds : Nat → List (Nat × Q × Q) → Q → List (Nat × Q)
  | 0, l, _ => l.map (fun x => (x.1, 0))
  | k + 1, l, rem =>
    let ws := qsum (l.map (fun x => x.2.2))
    let isOver := fun (x : Nat × Q × Q) => decide (x.2.1 < rem * x.2.2 / ws)
    let high := l.filter isOver
    if high.isEmpty then l.map (fun x => (x.1, rem * x.2.2 / ws))
    else high.map (fun x => (x.1, x.2.1)) ++ allocRounds k (l.filter (fun x => !isOver x)) (rem - qsum (high.map (fun x => x.2.1)))

/-- The capability-weighted mean of the SOC values known; none without a weight. -/
def meanSoc (l : List (Q × Option Q)) : Option Q :=
  let known := l.filterMap (fun x => x.2.map (fun v => (x.1, v)))
  let c := qsum (known.map (·.1))
  if c = 0 then none else some (qsum (known.map (fun x => x.1 * x.2)) / c)

/-- Shares by R313, as magnitudes, and the shortfall: number, capability and SOC of each, and p. One whose SOC is not known weighs by
its capability. -/
def allocate (kEq : Q) (items : List (Nat × Q × Option Q)) (p : Q) : List (Nat × Q) × Q :=
  let a := items.filter (fun x => decide (0 < x.2.1))
  let total := qsum (a.map (fun x => x.2.1))
  if total ≤ qabs p then (a.map (fun x => (x.1, x.2.1)), qabs p - total)
  else
    let mean := (meanSoc (a.map (fun x => (x.2.1, x.2.2)))).getD 0
    let w := fun (x : Nat × Q × Option Q) => match x.2.2 with
      | some v => x.2.1 * qmax (1 / 10) (1 + kEq * (if 0 ≤ p then v - mean else mean - v))
      | none => x.2.1
    (allocRounds (a.length + 1) (a.map (fun x => (x.1, x.2.1, w x))) (qabs p), 0)

/-! ### Setpoints -/

/-- SETPOINT_MODE 0. -/
def State.zeroSet (s : State) (n : Nat) : State :=
  (s.setN (Gal.CONV_REFS.SETPOINT_MODE n) 0).updDisp (fun d => { d with shares := modAt d.shares n (fun _ => 0) })

/-- A share written to a string; `sg` is the sign of p. A share of 0 is SETPOINT_MODE 0. -/
def State.shareSet (s : State) (n : Nat) (sg share : Q) : State :=
  if share = 0 then s.zeroSet n
  else
    let s := s.updDisp (fun d => { d with shares := modAt d.shares n (fun _ => share) })
    if s.getN Obj.DISPATCH_CFG.STRING_OUTPUT = 2 then
      (s.setN (Gal.CONV_REFS.SETPOINT_MODE n) 2).setR (Gal.CONV_REFS.P_SET n) (some (sg * share))
    else
      (s.setN (Gal.CONV_REFS.SETPOINT_MODE n) 1).setR (Gal.CONV_REFS.I_SET n) ((s.strV n).map (fun v => sg * share / v))

/-- The last setpoint of a string. -/
def State.lastSet (s : State) (n : Nat) : Q :=
  match s.getN (Gal.CONV_REFS.SETPOINT_MODE n) with
  | 1 => s.getQ (Gal.CONV_REFS.I_SET n)
  | 2 => s.getQ (Gal.CONV_REFS.P_SET n)
  | _ => 0

/-- Strings in HELD that keep their setpoint at a target (R311). -/
def State.keepers (s : State) (target : Q) : List Nat :=
  s.galIds.filter (fun n => decide ((s.g n).tread.state = .held) && decide (s.lastSet n ≠ 0) && decide (qsign (s.lastSet n) = qsign target) &&
    decide (target ≠ 0))

/-- A kept setpoint scaled down. -/
def State.scaleSet (s : State) (n : Nat) (f : Q) : State :=
  let s := s.updDisp (fun d => { d with shares := modAt d.shares n (fun x => x * f) })
  match s.getN (Gal.CONV_REFS.SETPOINT_MODE n) with
  | 1 => s.setR (Gal.CONV_REFS.I_SET n) (some (s.getQ (Gal.CONV_REFS.I_SET n) * f))
  | 2 => s.setR (Gal.CONV_REFS.P_SET n) (some (s.getQ (Gal.CONV_REFS.P_SET n) * f))
  | _ => s

/-- Every string receives SETPOINT_MODE 0. -/
def State.zeroAll (s : State) : State := s.forGal (fun n s => s.zeroSet n)

/-- The target of this module given to its strings (R311 to R316); answers the shortfall, which without an eligible string is the magnitude
of the target (R315). -/
def State.stringAlloc (s : State) (target : Q) : State × Q :=
  let el := s.eligibles
  let keep := s.keepers target
  let s := s.forGal (fun n s => if el.contains n || keep.contains n then s else s.zeroSet n)
  let kept := qsum (keep.map (fun n => s.disp.shares.getD n 0))
  if qabs target < kept then
    let s := keep.foldl (fun s n => s.scaleSet n (qabs target / kept)) s
    (el.foldl (fun s n => s.zeroSet n) s, if el.isEmpty then qabs target else 0)
  else
    let sg := qsign target
    let p := target - sg * kept
    let dir : Int := if target < 0 then -1 else 1
    let items := el.map (fun n => (n, s.capability n dir, s.getR (Gal.ESTIM_STRING.SOC_STRING n)))
    let (shares, short) := allocate (s.getQ Obj.DISPATCH_CFG.K_EQ) items p
    let s := el.foldl (fun s n => s.shareSet n sg (((shares.find? (fun x => x.1 == n)).map (·.2)).getD 0)) s
    (s, if el.isEmpty then qabs target else short)

/-! ### What dispatch reports (R315) -/

/-- A sum, none when a term is not a number. -/
def optSum (l : List (Option Q)) : Option Q := l.foldl (fun a x => a.bind (fun y => x.map (fun z => y + z))) (some 0)

/-- The values of DISPATCH_STATUS as an allocation forms them at its start. -/
def State.dispReport (s : State) : State :=
  let el := s.eligibles
  let s := s.setR Obj.DISPATCH_STATUS.P_ACTUAL
    (optSum ((s.galIds.filter s.strOn).map (fun n => s.getR (Gal.TELEMETRY.P_100MS n))))
  let s := s.setR Obj.DISPATCH_STATUS.P_DIS_AVAIL (some (qsum (el.map (fun n => s.capability n 1))))
  let s := s.setR Obj.DISPATCH_STATUS.P_CHG_AVAIL (some (qsum (el.map (fun n => s.capability n (-1)))))
  let s := s.setR Obj.DISPATCH_STATUS.E_DIS (optSum (el.map (fun n => s.getR (Gal.ESTIM_STRING.E_DIS n))))
  let s := s.setR Obj.DISPATCH_STATUS.E_CHG (optSum (el.map (fun n => s.getR (Gal.ESTIM_STRING.E_CHG n))))
  let s := s.setN Obj.DISPATCH_STATUS.STRINGS_ELIGIBLE (maskOf 32 (fun n => el.contains n))
  if el.isEmpty then s.setR Obj.DISPATCH_STATUS.SOC_MODULE none
  else match meanSoc (el.map (fun n => (s.capability n 1, s.getR (Gal.ESTIM_STRING.SOC_STRING n)))) with
    | some m => s.setR Obj.DISPATCH_STATUS.SOC_MODULE (some m)
    | none =>
      let (k, s) := s.take
      s.setR Obj.DISPATCH_STATUS.SOC_MODULE (some (Config.freeQ k))

/-- SHORTFALL, its flag and its record once it has been above P_MIN for SHORTFALL_TIME. -/
def State.shortfall (s : State) (x : Q) : State :=
  let s := s.setR Obj.DISPATCH_STATUS.SHORTFALL (some x)
  if x ≤ s.getQ Obj.DISPATCH_CFG.P_MIN then s.updDisp (fun d => { d with shortAt := none, shortSaid := false })
  else
    let s := s.updDisp (fun d => { d with shortAt := some (d.shortAt.getD s.root) })
    if s.passed (s.disp.shortAt.getD s.root) (msTicks (s.getN Obj.DISPATCH_CFG.SHORTFALL_TIME)) && !s.disp.shortSaid then
      ((s.raise Obj.DISPATCH_STATUS.FLAGS 0).record 0x0301 0x08 0 1 (real4 (some x))).updDisp (fun d => { d with shortSaid := true })
    else s

/-! ### The leader (R319, R321) -/

/-- The follower list as the members stand; a period's reads judged. -/
def State.followSync (s : State) : State :=
  let now := (s.arc.members.filter (fun m => m.isModule && !bit m.mflags 1)).map (·.serial)
  let old := s.arc.follow.map (fun f => if f.got.all id then { f with fails := 0, seen := true } else { f with fails := f.fails + 1 })
  s.updArc (fun a => { a with follow := now.map (fun x => match old.find? (fun f => decide (f.serial = x)) with
    | some f => f
    | none => ({ serial := x } : Follow)) })

/-- The reads of the next period. -/
def State.followRead (s : State) : State :=
  let fs := s.arc.follow.map (·.serial)
  let s := s.updArc (fun a => { a with follow := a.follow.map (fun f => { f with got := [false, false, false, false], wrote := true }) })
  fs.foldl (fun s x => followSubs.foldl (fun s sub => s.request x 0x3402 sub none) s) s

/-- The followers that take part: fewer than 3 failed periods, and read before. -/
def State.ledModules (s : State) : List Follow := s.arc.follow.filter (fun f => decide (f.fails < 3) && f.seen)

/-- The leader's allocation across the modules: shares written to the followers, the own share answered with the shortfall. -/
def State.leadAlloc (s : State) (target : Q) : State × Q × Q :=
  let fs := s.ledModules
  let neg := decide (target < 0)
  let own := (0, s.getQ (if neg then Obj.DISPATCH_STATUS.P_CHG_AVAIL else Obj.DISPATCH_STATUS.P_DIS_AVAIL), s.getR Obj.DISPATCH_STATUS.SOC_MODULE)
  let items := own :: fs.map (fun f => (f.serial, qmax 0 (((f.vals.getD (b2n neg) none)).getD 0), f.vals.getD 2 none))
  let (shares, short) := allocate (s.getQ Obj.DISPATCH_CFG.K_EQ) items target
  let share := fun (k : Nat) => qsign target * (((shares.find? (fun x => x.1 == k)).map (·.2)).getD 0)
  let s := s.setN Obj.LEADER_CFG.MODULES_LED (fs.length + 1)
  let s := fs.foldl (fun s f => s.request f.serial 0x3401 2 (some (real4 (some (share f.serial))))) s
  (s, share 0, short)

/-! ### Commands -/

/-- The target moves by the ramp; below P_MIN every string receives zero demand. -/
def State.rampStep (s : State) (goal : Q) : State × Q :=
  let t := rampTo (s.getQ Obj.DISPATCH_SETPOINT.TARGET_IN_FORCE) goal (s.getQ Obj.DISPATCH_CFG.P_RAMP / 10)
  let s := s.setR Obj.DISPATCH_SETPOINT.TARGET_IN_FORCE (some t)
  let src := s.getN Obj.DISPATCH_SETPOINT.SOURCE
  let s := if src = 4 then s else s.updDisp (fun d => { d with fbVal := t })
  (s, if qabs t < s.getQ Obj.DISPATCH_CFG.P_MIN then 0 else t)

/-- An allocation of a module that dispatches for itself. The first after a take-over starts from P_ACTUAL (R361). -/
def State.allocOwn (s : State) (goal : Q) : State :=
  let s := if s.disp.fromActual then s.setR Obj.DISPATCH_SETPOINT.TARGET_IN_FORCE (some ((s.getR Obj.DISPATCH_STATUS.P_ACTUAL).getD 0)) else s
  let (s, p) := s.rampStep goal
  let (s, short) := s.stringAlloc p
  s.shortfall short

/-- An allocation of the leader. -/
def State.allocLead (s : State) (goal : Q) : State :=
  let s := s.followSync
  if s.disp.newLead = 2 then (s.updDisp (fun d => { d with newLead := 1 })).followRead
  else
    let s := if s.disp.newLead = 1 then
        let sum := (s.getR Obj.DISPATCH_STATUS.P_ACTUAL).getD 0 + qsum (s.arc.follow.filterMap (fun f => f.vals.getD 3 none))
        (s.setR Obj.DISPATCH_SETPOINT.TARGET_IN_FORCE (some sum)).updDisp (fun d => { d with newLead := 0 })
      else s
    let (s, p) := s.rampStep goal
    let (s, own, short) := s.leadAlloc p
    let s := s.followRead
    let (s, short') := s.stringAlloc own
    s.shortfall (short + short')

/-- Dispatch is off (R310): every string receives SETPOINT_MODE 0 and TARGET_IN_FORCE is 0 at once. -/
def State.dispOff (s : State) : State :=
  let s := s.zeroAll
  let s := s.forGal (fun n s => s.setN (Gal.CONV_REFS.SOURCE n) 0)
  let s := (s.setN Obj.DISPATCH_SETPOINT.SOURCE 0).setR Obj.DISPATCH_SETPOINT.TARGET_IN_FORCE (some 0)
  (s.setR Obj.DISPATCH_STATUS.SHORTFALL (some 0)).updDisp (fun d => { d with shortAt := none, shortSaid := false })

/-- DISPATCH_CFG ENABLE. -/
def dispatchEnableEff (v : Val) (s : State) : Except Nat State :=
  let s := s.put Obj.DISPATCH_CFG.ENABLE v
  .ok (if v.toN = 0 then s.dispOff else s)

/-- DISPATCH_ALLOCATION (R307): once for each multiple of 31,250,000 ticks of plant time. A STANDBY runs none and reports capability 0.
One that falls due in an activation pause runs when the pause ends (R446). -/
def execDispatchAllocation (s : State) : Out :=
  let idx := s.now / 31250000
  if !s.served || s.paused || decide (s.disp.allocIdx = some idx) then .next s
  else
    let s := (s.updDisp (fun d => { d with allocIdx := some idx })).updArc (fun a => { a with tx := [] })
    if s.role = 3 then
      let s := (s.setR Obj.DISPATCH_STATUS.P_DIS_AVAIL (some 0)).setR Obj.DISPATCH_STATUS.P_CHG_AVAIL (some 0)
      .next (s.setN Obj.DISPATCH_STATUS.STRINGS_ELIGIBLE 0)
    else
      let s := s.dispReport
      let s := if s.getN Obj.DISPATCH_CFG.ENABLE = 0 then s.dispOff
        else
          let (s, goal) := s.sourceStep
          if s.getN Obj.DISPATCH_STATUS.ROLE = 1 then s.allocLead goal else s.allocOwn goal
      .next (s.updDisp (fun d => { d with allocAt := s.root, fromActual := false }))

/-- A write of P_DEMAND is accepted whatever the source, and restarts HOST_AGE. -/
def pDemandEff (v : Val) (s : State) : Except Nat State :=
  .ok ((s.put Obj.DISPATCH_SETPOINT.P_DEMAND v).updDisp (fun d => { d with hostAt := some s.root, hostOut := false }))
/-- P_DEMAND (R308). -/
def execPDemand (path : Path) (data : List Byte) (s : State) : Out := .next (s.write path 0x3401 1 data pDemandEff)

/-- LEADER_TARGET is accepted over the Arcade from the elected leader alone (R320). -/
def leaderTargetEff (path : Path) (v : Val) (s : State) : Except Nat State :=
  match path with
  | .arcade serial =>
    if s.getN Obj.DISPATCH_STATUS.ROLE = 2 ∧ serial = s.arc.leader then
      .ok ((s.put Obj.DISPATCH_SETPOINT.LEADER_TARGET v).updDisp (fun d => { d with leadAt := some s.root, leadOut := false }))
    else .error abortState
  | _ => .error abortState
/-- LEADER_TARGET (R320). -/
def execLeaderTarget (path : Path) (data : List Byte) (s : State) : Out := .next (s.write path 0x3401 2 data (leaderTargetEff path))

/-- HOST_TIMEOUT (R309). -/
def execHostTimeout (s : State) : Out := .next s.hostExpire
/-- LEADER_LOST (R309). -/
def execLeaderLost (s : State) : Out := .next s.leaderExpire
/-- FALLBACK_HOLD (R309). -/
def execFallbackHold (s : State) : Out := .next s.fallbackExpire

end Sys2Proof.Machine
end

