-- ==== Sys2Proof/Machine/Can.lean ====
section
/-! DEFINITION. The CAN ports (chapter 15): in service, the transmit FIFO, error states, emergency messages, NMT states, heartbeats. -/
namespace Sys2Proof.Machine

/-- CAN port p: 0 for A, 1 for B. -/
def State.can (s : State) (p : Nat) : CanRt := s.cans.getD p {}
/-- Change a CAN port. -/
def State.updCan (s : State) (p : Nat) (f : CanRt → CanRt) : State := { s with cans := modAt s.cans p f }
/-- The path of a CAN port. -/
def canPath (p : Nat) : Path := if p = 0 then .canA else .canB

/-- Whether a port is in service: enabled while the dictionary is served; in RECOVERY CAN-A (R451). -/
def State.canOn (s : State) (p : Nat) : Bool :=
  decide (p < 2) &&
  (s.served && s.getN (Can.ENABLE p) == 1 || decide (s.mode = .recovery) && decide (p = 0) && !s.powerDown)

/-! ### Bit timing (R393) -/

/-- A line of Table 15-1: rate in bit/s, prescaler from the 1.25 GHz clock, time quanta per bit, sample point and SJW in quanta. -/
structure BitTiming where
  rate      : Nat
  prescaler : Nat
  quanta    : Nat
  sample    : Nat
  sjw       : Nat
deriving DecidableEq, Repr

/-- The nominal phase by NOMINAL_RATE. -/
def nominalTiming (code : Nat) : BitTiming :=
  match code with
  | 0 => ⟨125000, 200, 50, 44, 6⟩
  | 1 => ⟨250000, 100, 50, 44, 6⟩
  | 2 => ⟨500000, 50, 50, 44, 6⟩
  | _ => ⟨1000000, 25, 50, 44, 6⟩
/-- The data phase by DATA_RATE; none without bit-rate switching. -/
def dataTiming (code : Nat) : Option BitTiming :=
  match code with
  | 0 => none
  | 1 => some ⟨1000000, 25, 50, 40, 10⟩
  | 2 => some ⟨2000000, 25, 25, 20, 5⟩
  | _ => some ⟨5000000, 10, 25, 20, 5⟩
/-- The timing in force on a port: the rates as they stood at its last step 2 (R394). -/
def State.canTiming (s : State) (p : Nat) : BitTiming × Option BitTiming := (nominalTiming (s.can p).nominal, dataTiming (s.can p).rate)

/-! ### The transmit FIFO (R397 to R400, R403) -/

/-- FIFO_LEVEL follows the FIFO. -/
def State.fifoSync (s : State) (p : Nat) : State := s.setN (Can.FIFO_LEVEL p) (s.can p).fifo.length

/-- Frames that wait in core 0 enter as entries free (R397). -/
def State.fifoRefill (s : State) (p : Nat) : State :=
  let c := s.can p
  let k := 32 - c.fifo.length
  let headAt := if c.fifo.isEmpty then s.root else c.headAt
  (s.updCan p (fun c => { c with fifo := c.fifo ++ c.waitq.take k, waitq := c.waitq.drop k, headAt := headAt })).fifoSync p

/-- A frame is produced for a port (R397): it enters the FIFO; when the FIFO is full it is dropped and counted, or, an SDO response or
an EMCY, it waits. -/
def State.enqueue (s : State) (p : Nat) (e : TxEntry) : State :=
  if !s.canOn p then s
  else
    let c := s.can p
    let e := { e with brs := e.fd && (s.canTiming p).2.isSome }
    if c.fifo.length < 32 ∧ c.waitq = [] then
      (s.updCan p (fun c => { c with
        fifo := c.fifo ++ [e]
        headAt := if c.fifo.isEmpty then s.root else c.headAt })).fifoSync p
    else match e.kind with
      | .sdo | .emcy => s.updCan p (fun c => { c with waitq := c.waitq ++ [e] })
      | .tpdo | .beat => (s.inc (Can.TX_DROPPED p)).raise (Can.FLAGS p) 2

/-- The entries of a port that `drop` names and that have not begun are cancelled and counted (R399). -/
def State.cancel (s : State) (p : Nat) (drop : TxEntry → Bool) : State :=
  let gone := (s.can p).fifo.filter (fun e => !e.begun && drop e)
  let s := s.updCan p (fun c => { c with
    fifo := c.fifo.filter (fun e => e.begun || !drop e)
    headAt := if (match c.fifo with | e :: _ => !e.begun && drop e | [] => true) then s.root else c.headAt })
  (s.addTo (Can.CANCELLED p) gone.length).fifoRefill p

/-- The attempt of the head ends (R397, R398): it is complete and the next entry contends, or it has begun and stays at the head. `air`
is the time in ticks since the start-of-frame of the attempt: the wait at the head ends there (Table 15-3). -/
def State.txDone (s : State) (port : Nat) (ok : Bool) (air : Nat) : State :=
  let c := s.can port
  match c.fifo with
  | [] => s
  | e :: rest =>
    if port ≥ 2 ∨ s.getN (Can.STATE port) = 3 ∨ s.getN (Can.STATE port) = 0 then s
    else if ok then
      let us := (s.since c.headAt - air) * 2 / 625
      let s := s.inc (Can.TX_FRAMES port)
      let s := if s.getN (Can.HEAD_WAIT_MAX port) < us then s.setN (Can.HEAD_WAIT_MAX port) (min us 0xFFFFFFFF) else s
      (s.updCan port (fun c => { c with fifo := rest, headAt := s.root })).fifoRefill port
    else s.updCan port (fun c => { c with fifo := { e with begun := true } :: rest })

/-- FLUSH (R399): every entry that has not begun is cancelled. `begun` says that the head's first attempt runs; `late` that it starts in
the very controller cycle of the decision, which the transmission wins. -/
def canFlushEff (port : Nat) (begun late : Bool) (s : State) : State :=
  match (s.can port).fifo with
  | [] => s
  | e :: rest =>
    let s := if (begun || late) && !e.begun then s.updCan port (fun c => { c with fifo := { e with begun := true } :: rest }) else s
    let s := if late && !e.begun then s.raise (Can.FLAGS port) 7 else s
    s.cancel port (fun _ => true)

/-- CAN_FLUSH: a write of FLUSH. -/
def execCanFlush (path : Path) (port : Nat) (begun late : Bool) (s : State) : Out :=
  .next (s.write path (0x2700 + port) 0x09 [1] (fun _ s => .ok (canFlushEff port begun late s)))

/-- 100 ms after entry to WATCH or VAULT by request, the entries still held are discarded and counted (R403). -/
def State.fifoDrain (s : State) (p : Nat) : State :=
  let s := s.addTo (Can.CANCELLED p) (s.can p).fifo.length
  (s.updCan p (fun c => { c with fifo := [], waitq := [] })).fifoSync p

/-- FIFO_DRAIN_DEADLINE (R403). -/
def execFifoDrainDeadline (s : State) : Out :=
  match s.md.transit with
  | .toVault _ at_ | .toWatch _ at_ => if s.passed at_ (msTicks 100) then .next ((s.fifoDrain 0).fifoDrain 1) else .next s
  | _ => .next s

/-! ### Emergency messages and the error register (R394, Table 15-2) -/

/-- Whether the cause of an EMCY of Table 15-2 stands: a port in error passive or bus-off, or a consumer heartbeat missing. -/
def State.canCause (s : State) : Bool :=
  (List.range 2).any (fun p => decide (2 ≤ s.getN (Can.STATE p)) || decide ((s.can p).missing ≠ 0))

/-- The error register 0x1001 (Table 3-5, R394, R428): bit 4 while a cause stands, bit 7 as the recorder has set it, bit 0 with any
other. The spec does not say when bits 1 to 3 are set: they are a free value. -/
def State.errorRegister (s : State) : Nat :=
  let hi := (Config.freeNat s.free &&& 0x0E) ||| (16 * b2n s.canCause) ||| (s.getN (keyOf 0x1001 0) &&& 0x80)
  hi ||| b2n (hi ≠ 0)

/-- The COB-ID in force on a port: as written, else the default with the port's node ID (R394); bit 31 set makes it not valid. -/
def State.cobId (s : State) (p key base : Nat) (valid : Bool) : Nat :=
  match s.val key with
  | .n x => x
  | _ => base + (s.can p).node + (if valid then 0 else 0x80000000)

/-- An emergency message: on every enabled port, and in the error field (R394, R89). -/
def State.emcy (s : State) (code : Nat) : State :=
  let err := s.errorRegister
  let s := { s with free := s.free + 1 }
  let frame := leBytes 2 code ++ leBytes 1 err ++ List.replicate 5 0
  let n := s.getN (keyOf 0x1003 0)
  let s := (List.range 15).foldl (fun s i => s.setN (keyOf 0x1003 (16 - i)) (s.getN (keyOf 0x1003 (15 - i)))) s
  let s := (s.setN (keyOf 0x1003 1) code).setN (keyOf 0x1003 0) (min 16 (n + 1))
  (List.range 2).foldl (fun s p =>
    let cob := s.cobId p (keyOf 0x1014 0) 0x80 true
    if bit cob 31 then s else s.enqueue p { id := cob % 0x800, data := frame, kind := .emcy }) s

/-! ### Error states (R400) -/

/-- CAN_ERROR_PASSIVE: the error counters cross into error passive, or back. -/
def execCanErrorPassive (port tec rec_ : Nat) (s : State) : Out :=
  let st := s.getN (Can.STATE port)
  if !s.canOn port ∨ st = 0 ∨ st = 3 then .next s
  else
    let s := (s.setN (Can.TEC port) (min tec 255)).setN (Can.REC port) (min rec_ 255)
    if 128 ≤ tec ∨ 128 ≤ rec_ then
      if st = 2 then .next s else .next (((s.setN (Can.STATE port) 2).raise (Can.FLAGS port) 0).emcy 0x8120)
    else .next (s.setN (Can.STATE port) 1)

/-- CAN_BUS_OFF: counted, the port waits BUSOFF_DELAY. TEC then lies beyond its object: what it reads is a free value. -/
def execCanBusOff (port : Nat) (s : State) : Out :=
  let st := s.getN (Can.STATE port)
  if !s.canOn port ∨ st = 0 ∨ st = 3 then .next s
  else
    let (f, s) := s.take
    let s := (s.setN (Can.STATE port) 3).setN (Can.TEC port) (Config.freeNat f % 256)
    let s := ((s.inc (Can.BUS_OFFS port)).raise (Can.FLAGS port) 1).alertBit 5
    .next (s.updCan port (fun c => { c with offAt := s.root, recovering := false }))

/-- BUSOFF_DELAY ends, and the recovery begins. -/
def execBusoffDelay (port : Nat) (s : State) : Out :=
  let c := s.can port
  if s.getN (Can.STATE port) = 3 ∧ s.passed c.offAt (msTicks (s.getN (Can.BUSOFF_DELAY port))) then
    .next (s.updCan port (fun c => { c with recovering := true }))
  else .next s

/-- The port is back on the bus after bus-off: error counters 0, EMCY 0x8140. -/
def State.backOnBus (s : State) (p : Nat) : State :=
  let s := ((s.setN (Can.STATE p) 1).setN (Can.TEC p) 0).setN (Can.REC p) 0
  (s.updCan p (fun c => { c with recovering := false })).emcy 0x8140

/-- CAN_BUS_OFF_RECOVERED: the recovery is complete. -/
def execCanBusOffRecovered (port : Nat) (s : State) : Out :=
  if s.getN (Can.STATE port) = 3 ∧ (s.can port).recovering = true then .next (s.backOnBus port) else .next s

/-! ### Start, boot-up and the recovery steps (R394, R413) -/

/-- The boot-up message; the node is then pre-operational (R394). -/
def State.bootUp (s : State) (p : Nat) : State :=
  let s := s.updCan p (fun c => { c with nmt := 127 })
  s.enqueue p { id := 0x700 + (s.can p).node, data := [0], kind := .beat }

/-- The runtime state of a port is made new, with the settings in force and a begun entry still at the head. -/
def State.portFresh (s : State) (p : Nat) : State :=
  let s := (s.cancel p (fun _ => true)).updCan p (fun c => { c with
    waitq := []
    node := s.getN (Can.NODE_ID p)
    nominal := s.getN (Can.NOMINAL_RATE p)
    rate := s.getN (Can.DATA_RATE p)
    recovering := false
    sdo := { count := c.sdo.count + 1 }
    heard := []
    missing := 0
    tpdos := []
    held := [] })
  let s := ((s.setN (Can.STATE p) (s.getN (Can.ENABLE p))).setN (Can.TEC p) 0).setN (Can.REC p) 0
  s.fifoSync p

/-- Step 2 of a port, and the start of a port at boot: boot-up follows (Table 15-10). -/
def State.portRestart (s : State) (p : Nat) : State := (s.portFresh p).bootUp p

/-- Step 1 of a port: error counters to 0, rejoin, FIFO kept (Table 15-10). -/
def State.portRetry (s : State) (p : Nat) : State :=
  if s.getN (Can.STATE p) = 3 then s.backOnBus p
  else ((s.setN (Can.STATE p) (s.getN (Can.ENABLE p))).setN (Can.TEC p) 0).setN (Can.REC p) 0

/-- Both ports start: at a boot that reaches READY, LOCKOUT or RECOVERY, and at a wake from WATCH (R394). -/
def State.canStart (s : State) : State := { ((s.portRestart 0).portRestart 1) with beatAt := s.root }

/-- A write of ENABLE of a port: it is in service at once. -/
def canEnableEff (p : Nat) (v : Val) (s : State) : Except Nat State :=
  .ok ((s.put (Can.ENABLE p) v).setN (Can.STATE p) v.toN)

/-! ### NMT (R91) -/

/-- Whether an NMT command addresses the node of a port. -/
def State.nmtFor (s : State) (p node : Nat) : Bool := s.canOn p && (node == 0 || node == (s.can p).node)

/-- The node of a port enters an NMT state. PDO history starts anew on entry to Operational. -/
def State.nmtTo (s : State) (p st : Nat) : State :=
  s.updCan p (fun c => { c with
    nmt := st
    tpdos := if st = 5 ∧ c.nmt ≠ 5 then [] else c.tpdos
    held := if st = 5 then c.held else [] })

/-- NMT start: Operational. -/
def execNmtStart (port node : Nat) (s : State) : Out := .next (if s.nmtFor port node then s.nmtTo port 5 else s)
/-- NMT stop: Stopped, which stops PDOs and SDOs. -/
def execNmtStop (port node : Nat) (s : State) : Out :=
  .next (if s.nmtFor port node then (s.nmtTo port 4).updCan port (fun c => { c with sdo := { count := c.sdo.count + 1 } }) else s)
/-- NMT enter pre-operational, which stops PDOs. -/
def execNmtPreOperational (port node : Nat) (s : State) : Out := .next (if s.nmtFor port node then s.nmtTo port 127 else s)

/-! ### Heartbeats (R394) -/

/-- HEARTBEAT: 0x1017 ms after the last one, on every enabled port, with the NMT state. -/
def execHeartbeat (s : State) : Out :=
  let ms := s.getN (keyOf 0x1017 0)
  if s.served = true ∧ ms ≠ 0 ∧ s.passed s.beatAt (msTicks ms) = true then
    .next ((List.range 2).foldl (fun (s : State) p =>
      s.enqueue p { id := 0x700 + (s.can p).node, data := [BitVec.ofNat 8 (s.can p).nmt], kind := .beat }) { s with beatAt := s.root })
  else .next s

/-- A heartbeat of a node comes in on a port: the entries of 0x1016 that name it hear it. -/
def State.heartbeatIn (s : State) (p node : Nat) : State :=
  (List.range' 1 4).foldl (fun s k =>
    let w := s.getN (keyOf 0x1016 k)
    if bits w 23 16 = node ∧ bits w 15 0 ≠ 0 then
      s.updCan p (fun c => { c with heard := SMap.put c.heard k s.root, missing := withBit c.missing k false })
    else s) s

/-- HEARTBEAT_CONSUMER_TIMEOUT: an entry that has been heard on a port is silent for its time; EMCY 0x8130. -/
def execHeartbeatConsumerTimeout (port entry : Nat) (s : State) : Out :=
  let w := s.getN (keyOf 0x1016 entry)
  let c := s.can port
  match SMap.find? c.heard entry with
  | some t =>
    if s.canOn port = true ∧ 1 ≤ entry ∧ entry ≤ 4 ∧ bits w 15 0 ≠ 0 ∧ bit c.missing entry = false ∧
        s.passed t (msTicks (bits w 15 0)) = true then
      .next (((s.updCan port (fun c => { c with missing := withBit c.missing entry true })).raise (Can.FLAGS port) 4).emcy 0x8130)
    else .next s
  | none => .next s

end Sys2Proof.Machine
end

