-- ==== Sys2Proof/Machine/Reset.lean ====
section
/-! DEFINITION. The exit from RUN, and the ladder step 3: how a device reset is decided, waits, and begins BOOT anew (R61, R68, R422). -/
namespace Sys2Proof.Machine

/-- Exit from RUN begins (R61): every group receives OFF. -/
def State.startExit (s : State) (cause : Nat) : State :=
  if s.phase = 2 then s
  else
    let s := (s.setN Obj.MODE_STATUS.PHASE 2).updMd (fun m => { m with exitCause := cause })
    (List.range 8).foldl (fun s g => s.groupOff g) s

/-- Whether a value outlives a ladder step 3 (Table 2-9, R75): measured supplies, the charger's limits until the settings are loaded,
EVENTS, the counts of resets, power cycles and boot
failures, causes, the recorder's own regions, the epoch. -/
def keptKey (k : Nat) : Bool :=
  let i := k / 256
  let b := k % 256
  i == 0x2008 && decide (b ≤ 0xA) || i == 0x2002 && (b == 3 || b == 4 || b == 5) ||
  i == 0x2001 && (b == 3 || b == 4) ||
  [Obj.RECORDER_CTRL.STATE, Obj.RECORDER_CTRL.PERM_RECORDS, Obj.RECORDER_CTRL.PERM_BLOCKS, Obj.RECORDER_CTRL.CIRC_BLOCKS,
   Obj.RECORDER_CTRL.RETIRED, Obj.RECORDER_CTRL.ERASE_MAX, Obj.RECORDER_CTRL.DROPPED, Obj.RECORDER_CTRL.LOST,
   Obj.RECORDER_CTRL.ERASES, Obj.REDUNDANCY_STATUS.EPOCH, keyOf 0x1001 0].contains k

/-- A page program is cut off (Table 16-4): the page is never programmed again, and its slots hold no records. -/
def RecorderRt.tear (r : RecorderRt) : RecorderRt :=
  if r.permClosed then
    let ce := circAppend r.circ r.erased [] false true
    { r with circ := ce.1, erased := ce.2 }
  else { r with permPages := r.permPages + 1, permTorn := true }

/-- The recorder as NAND holds it after an interruption: what the buffer held is lost, and the pages in programming are torn. -/
def RecorderRt.onNand (r : RecorderRt) : RecorderRt :=
  let r := r.inProg.foldl (fun r _ => r.tear) r
  { perm := r.perm, circ := r.circ, erased := r.erased, spare := r.spare, eraseCnt := r.eraseCnt, journal := r.journal, jGen := r.jGen,
    bad := r.bad, permClosed := r.permClosed, permPages := r.permPages, permTorn := r.permTorn }

/-- BOOT begins with everything but the Vestibule and NAND new (Table 2-9); strings and carrier stay as they are. The root PLL locks
anew. -/
def State.bootAnew (s : State) (cause : Nat) (landing : Bool) : State :=
  let gal := s.gal.map (fun g => ({ head := g.head, mons := g.mons } : Gallery))
  let md : ModeRt := { modeSince := s.root, bootSince := s.root, bootCauseNow := cause, landingNext := landing, resetLow := s.md.resetLow }
  { part := s.part, serial := s.serial, root := s.root, now := s.now, md := md, vest := s.vest, nand := s.nand,
    dict := s.dict.filter (fun e => keptKey e.1), recd := s.recd.onNand, gal := gal, free := s.free, pending := s.pending
    arc := { bypUntil := s.arc.bypUntil } }

/-- Whether the tick count runs: the root PLL is locked, and the module is neither in VAULT nor in WATCH. -/
def State.ticking (s : State) : Bool := s.md.pllLocked && (match s.mode with | .vault | .watch => false | _ => true)

/-- The tick count is saved in the Vestibule. -/
def State.saveTick (s : State) : State :=
  if s.ticking then s.updVest (fun v => { v with savedTick := s.now, savedCycles := v.keepCycles }) else s

/-- A ladder step 3 takes effect now: counted, its cause kept; plant time is kept in the Vestibule (Table 2-9). -/
def State.deviceReset (s : State) (cause : Nat) (landing : Bool) : State :=
  let s := (s.inc Obj.RESET_LADDER.DEVICE_RESETS).setN Obj.RESET_LADDER.LAST_RESET_CAUSE cause
  s.saveTick.bootAnew cause landing

/-- A device reset is decided (Table 2-4, R422): from RUN after the exit from RUN; from READY and LOCKOUT once the flush is complete. No row
names it for RECOVERY, and once PFAIL has been detected the power-down runs to completion (R65). -/
def State.resetDecide (s : State) (cause : Nat) (landing : Bool) : State :=
  if s.powerDown then s
  else match s.mode with
  | .run => (s.startExit cause).updMd (fun m => { m with exitReset := some cause, deferRun := false })
  | .ready | .lockout => (s.startFlush.updMd (fun m => { m with transit := .resetWait cause landing s.root })).arcSync 0
  | _ => s

/-- Whether a save made on DE-ENERGISED, which a reset waits for, is still to be made (R238). -/
def State.savesPending (s : State) : Bool :=
  s.galIds.any (fun n => (s.g n).est.saveDe)

/-- A reset that waits takes effect once the flush is complete, and, after an exit from RUN, once the saves are made or 2 s have
passed (R238, R422). -/
def State.resetReady (s : State) : State :=
  match s.md.transit with
  | .resetWait cause landing since =>
    if s.recd.flushTo.isNone && (s.md.exitReset.isNone || !s.savesPending || s.passed since (secTicks 2)) then s.deviceReset cause landing
    else s
  | _ => s

end Sys2Proof.Machine
end

