-- ==== Sys2Proof/Machine/Update.lean ====
section
/-! DEFINITION. Firmware images, slots, download, activation, trial, fuses, owner key and boot selection (chapter 17). -/
namespace Sys2Proof.Machine

/-- Change the update runtime. -/
def State.updUpd (s : State) (f : UpdRt → UpdRt) : State := { s with upd := f s.upd }
/-- Slot i: 0 for A, 1 for B. -/
def State.slot (s : State) (i : Nat) : Slot := s.nand.slots.getD i {}
/-- Change a slot. -/
def State.updSlot (s : State) (i : Nat) (f : Slot → Slot) : State := s.updNand (fun d => { d with slots := modAt d.slots i f })
/-- The other slot. -/
def otherSlot (i : Nat) : Nat := 1 - i
/-- STATE of UPDATE_CTRL (Table 17-9). -/
def State.updState (s : State) : Nat := s.getN Obj.UPDATE_CTRL.STATE
/-- Set STATE and RESULT. -/
def State.updTo (s : State) (st result : Nat) : State := (s.setN Obj.UPDATE_CTRL.STATE st).setN Obj.UPDATE_CTRL.RESULT result

/-! ### The Dweheser image (Tables 17-2 and 17-3) -/

/-- The bytes of a slot's image, or as much of it as the header. -/
def Slot.header (x : Slot) : List Byte := x.image.getD Config.factoryHeader
/-- IFLAGS WARM_OK. -/
def warmOk (h : List Byte) : Bool := bit (fieldN h 22 2) 0
/-- SECURITY_VERSION. -/
def securityOf (h : List Byte) : Nat := fieldN h 20 1
/-- CONFIG_FORMAT. -/
def configFormat (h : List Byte) : Nat := fieldN h 28 4
/-- SAFETY_DIGEST. -/
def safetyDigest (h : List Byte) : List Byte := slice h 32 48
/-- The section entries: TYPE, OFFSET, LENGTH, CRC, and whether the reserved bytes are 0. -/
def sectionsOf (b : List Byte) : List (Nat × Nat × Nat × Nat × Bool) :=
  (List.range (fieldN b 21 1)).map (fun i =>
    let o := 256 + 16 * i
    (fieldN b o 1, fieldN b (o + 4) 4, fieldN b (o + 8) 4, fieldN b (o + 12) 4, fieldN b (o + 1) 3 == 0))

/-- Whether the section table keeps every rule of Table 17-3, each CRC included. -/
def sectionsOk (b : List Byte) : Bool :=
  let n := fieldN b 21 1
  let total := fieldN b 16 4
  let ss := sectionsOf b
  let count := fun t => (ss.filter (fun x => decide (x.1 = t))).length
  (n == 4 || n == 5) && [1, 2, 3, 4].all (fun t => count t == 1) && decide (count 5 ≤ 1) &&
  ss.all (fun x => decide (1 ≤ x.1) && decide (x.1 ≤ 5) && x.2.2.2.2 && decide (256 + 16 * n ≤ x.2.1) &&
    decide (x.2.1 + x.2.2.1 + 192 ≤ total) && crc32c (slice b x.2.1 x.2.2.1) == x.2.2.2.1) &&
  (List.range ss.length).all (fun i => (List.range i).all (fun j =>
    match ss[i]?, ss[j]? with
    | some x, some y => decide (x.2.1 + x.2.2.1 ≤ y.2.1) || decide (y.2.1 + y.2.2.1 ≤ x.2.1)
    | _, _ => true))

/-- The checks of Table 17-4 in their order, on the length that check 2 asks for: the REJECT bit of the first that fails. -/
def State.imageCheck (s : State) (b : List Byte) (want : Nat) : Option Nat :=
  let len := fieldN b 16 4
  let serial := fieldN b 8 8
  if fieldN b 0 4 ≠ 0x31585744 ∨ fieldN b 4 2 ≠ 1 then some 0
  else if len ≠ want ∨ b.length < len then some 1
  else if fieldN b 6 2 ≠ s.part.hwType then some 2
  else if (serial ≠ 0 ∨ s.nand.ownerBad = true) ∧ serial ≠ s.serial then some 3
  else if !sectionsOk b then some 8
  else if (Config.sha384 (slice b 256 (len - 192 - 256))).toList ≠ slice b 80 48 then some 4
  else if !Config.ecdsaOk Config.vendorKey (Config.sha384 (b.take (len - 192))).toList (slice b (len - 192) 96) then some 5
  else match s.nand.ownerKey with
    | some key =>
      if !s.nand.ownerBad && !Config.ecdsaOk key (Config.sha384 (b.take (len - 96))).toList (slice b (len - 96) 96) then some 6
      else if securityOf b < s.nand.fuses then some 7 else none
    | none => if securityOf b < s.nand.fuses then some 7 else none

/-- The checks on a slot at a boot or an activation: on the length of the slot record. The image of the factory has passed them, but
for check 9. -/
def State.slotCheck (s : State) (i : Nat) : Option Nat :=
  match (s.slot i).image with
  | some b => s.imageCheck b (s.slot i).len
  | none => if securityOf Config.factoryHeader < s.nand.fuses then some 7 else none

/-- A failed check: its bit in REJECT, the slot INVALID (R438). -/
def State.slotRejected (s : State) (i bitNo : Nat) : State :=
  (s.raise Obj.UPDATE_CTRL.REJECT bitNo).updSlot i (fun x => { x with state := 1 })

/-! ### Fuses (R440) -/

/-- Fuses are blown one at a time up to a SECURITY_VERSION, at most 64; the other slot whose version then lies below becomes REVOKED. -/
def State.blowFuses (s : State) (i : Nat) : State :=
  let f := max s.nand.fuses (min 64 (securityOf (s.slot i).header))
  let s := s.updNand (fun d => { d with fuses := f })
  let o := otherSlot i
  if 2 ≤ (s.slot o).state ∧ securityOf (s.slot o).header < f then s.updSlot o (fun x => { x with state := 6 }) else s

/-! ### Commands (Table 17-5) -/

/-- The path's code in UPDATE_BEGIN (Table 17-7). -/
def pathRec : Path → Nat
  | .canA => 0 | .canB => 1 | .twb => 2 | .arcade _ => 3

/-- The slot a download goes into: the one not in force, or in RECOVERY the one in force if that fails R438 (R451). -/
def State.downSlot (s : State) : Nat :=
  if s.mode = .recovery ∧ ((s.slot s.nand.active).state = 1 ∨ (s.slotCheck s.nand.active).isSome = true) then s.nand.active
  else otherSlot s.nand.active

/-- BEGIN. -/
def beginEff (path : Path) (s : State) : Except Nat State :=
  let len := s.getN Obj.UPDATE_CTRL.LENGTH
  let st := s.updState
  if (st = 0 ∨ st = 4 ∨ st = 5) ∧ 512 ≤ len ∧ len ≤ 67108864 then
    let i := s.downSlot
    let s := (s.updSlot i (fun _ => { state := 1 })).updUpd (fun u => { u with owner := some path, len := len, slot := i })
    let s := (s.setN Obj.UPDATE_CTRL.REJECT 0).updTo 1 1
    .ok (s.record 0x0500 0 0 0 (leBytes 4 len ++ [BitVec.ofNat 8 (pathRec path)]))
  else .error abortState

/-- SLOT_ERASE_DONE: RECEIVING from byte 0. A slot whose blocks cannot be erased stays INVALID and the command has failed. -/
def execSlotEraseDone (ok : Bool) (s : State) : Out :=
  if s.updState ≠ 1 then .next s
  else if ok then .next ((s.setN Obj.UPDATE_CTRL.RECEIVED 0).updTo 2 2)
  else .next (s.updTo 0 3)

/-- A write of UPDATE_DATA (R441). -/
def updateDataEff (path : Path) (v : Val) (s : State) : Except Nat State :=
  if s.updState ≠ 2 ∨ s.upd.owner ≠ some path then .error abortState
  else
    let got := s.getN Obj.UPDATE_CTRL.RECEIVED
    let d := v.toB
    if s.upd.len < got + d.length then .error abortLong
    else .ok ((s.updSlot s.upd.slot (fun x => { x with image := some (x.image.getD [] ++ d) })).setN Obj.UPDATE_CTRL.RECEIVED (got + d.length))

/-- UPDATE_DATA. -/
def execUpdateData (path : Path) (data : List Byte) (s : State) : Out :=
  .next (s.write path 0x2301 1 data (updateDataEff path))

/-- VERIFY. -/
def verifyEff (s : State) : Except Nat State :=
  if s.updState ≠ 2 then .error abortState
  else if s.getN Obj.UPDATE_CTRL.RECEIVED = s.upd.len then .ok (s.updTo 3 1)
  else .ok ((s.raise Obj.UPDATE_CTRL.REJECT 9).updTo 5 3)

/-- An image is rejected: record and state (Table 17-5). -/
def State.imageRejected (s : State) (i bitNo : Nat) : State :=
  let s := s.slotRejected i bitNo
  (s.record 0x0501 0 0 1 (leBytes 4 (s.getN Obj.UPDATE_CTRL.REJECT))).updTo 5 3

/-- CHECKS_COMPLETE: the checks of R438 at VERIFY. -/
def execChecksComplete (s : State) : Out :=
  if s.updState ≠ 3 then .next s
  else
    let i := s.upd.slot
    match s.imageCheck (s.slot i).header s.upd.len with
    | none => .next ((s.updSlot i (fun x => { x with state := 2, len := s.upd.len })).updTo 4 2)
    | some b => .next (s.imageRejected i b)

/-- Whether the image of slot i could take over the running module (R443). -/
def State.warmFits (s : State) (i : Nat) : Bool :=
  let h := (s.slot i).header
  let r := (s.slot s.nand.active).header
  warmOk h && configFormat h == configFormat r && safetyDigest h == safetyDigest r

/-- What forbids an activation whatever it is (R444). -/
def State.activateBlocked (s : State) : Bool :=
  decide (s.phase ≠ 0) ||
  (List.range 8).any (fun g => match (s.grp g).state with
    | .busCheck | .precharge | .closing | .releasing | .rampDown | .opening => true
    | _ => false) ||
  s.galIds.any (fun n => decide ((s.g n).tread.state = .held)) ||
  s.role == 4 || s.role == 5 || s.red.passSwap

/-- ACTIVATE in RECOVERY (R451): the new slot is TRIAL_PENDING, or COMMITTED if the other slot fails R438; reset with cause 0x11. -/
def State.landActivate (s : State) : State :=
  let i := s.upd.slot
  let o := otherSlot i
  let bad := (s.slot o).state = 1 ∨ (s.slot o).state = 0 ∨ (s.slotCheck o).isSome = true
  let s := if bad then (s.updSlot i (fun x => { x with state := 5 })).updNand (fun d => { d with active := i })
    else s.updSlot i (fun x => { x with state := 3 })
  if s.powerDown then s else s.deviceReset 0x11 false

/-- ACTIVATE (R443, R444): the image is checked again; a warm activation prepares, a cold one resets the device. -/
def activateEff (s : State) : Except Nat State :=
  let i := s.upd.slot
  if s.updState ≠ 4 then .error abortState
  else if s.mode = .recovery then
    match s.slotCheck i with
    | some b => .ok (s.imageRejected i b)
    | none => .ok s.landActivate
  else
    let warm := s.warmFits i
    if s.activateBlocked || (!warm && decide (s.mode = .run)) then .error abortState
    else match s.slotCheck i with
      | some b => .ok (s.imageRejected i b)
      | none =>
        if warm then .ok ((s.updTo 6 1).updUpd (fun u => { u with prepAt := some s.root }))
        else .ok (((s.updSlot i (fun x => { x with state := 3 })).setN Obj.UPDATE_CTRL.RESULT 1).resetDecide 5 false)

/-- COMMIT (R448). -/
def commitEff (s : State) : Except Nat State :=
  if s.updState ≠ 7 ∨ s.mode = .recovery then .error abortState
  else
    let i := s.nand.active
    let f0 := s.nand.fuses
    let s := (s.updSlot i (fun x => { x with state := 5 })).blowFuses i
    .ok ((s.record 0x0503 0 0 0 [BitVec.ofNat 8 i, BitVec.ofNat 8 f0, BitVec.ofNat 8 s.nand.fuses]).updTo 0 2)

/-- ABORT: the slot of the download becomes INVALID. -/
def abortEff (s : State) : Except Nat State :=
  let st := s.updState
  if 1 ≤ st ∧ st ≤ 5 then
    .ok ((s.updSlot s.upd.slot (fun x => { x with state := 1 })).updTo 0 2 |>.updUpd (fun u => { u with owner := none }))
  else .error abortState

/-- COMMAND of UPDATE_CTRL. -/
def updCommandEff (path : Path) (v : Val) (s : State) : Except Nat State :=
  if v.toN = 1 then beginEff path s else if v.toN = 2 then verifyEff s else if v.toN = 3 then activateEff s
  else if v.toN = 4 then commitEff s else abortEff s

/-- BEGIN: a write of 1 to COMMAND. -/
def execBegin (path : Path) (s : State) : Out := .next (s.write path 0x2300 1 [1] (updCommandEff path))
/-- VERIFY: a write of 2. -/
def execVerify (path : Path) (s : State) : Out := .next (s.write path 0x2300 1 [2] (updCommandEff path))
/-- ACTIVATE: a write of 3. -/
def execActivate (path : Path) (s : State) : Out := .next (s.write path 0x2300 1 [3] (updCommandEff path))
/-- COMMIT: a write of 4. -/
def execCommit (path : Path) (s : State) : Out := .next (s.write path 0x2300 1 [4] (updCommandEff path))
/-- ABORT: a write of 5. -/
def execAbort (path : Path) (s : State) : Out := .next (s.write path 0x2300 1 [5] (updCommandEff path))

/-! ### The pause (R445 to R447) -/

/-- Every Gallery raises or ends the pause HOLD cause of R189; the server stops or goes on. -/
def State.setPause (s : State) (on : Bool) : State :=
  let s := { s with paused := on }
  s.forGal (fun n s => s.updTread n (fun t => { t with pauseHold := on }))

/-- PREPARE_DONE: prepare is complete and the pause starts; the slot record names the new slot in TRIAL. Where a section copy fails its
CRC there is no pause, and the activation has failed. -/
def execPrepareDone (ok : Bool) (s : State) : Out :=
  if s.updState ≠ 6 ∨ s.upd.prepAt = none then .next s
  else
    let i := s.upd.slot
    let s := s.updUpd (fun u => { u with prepAt := none })
    if ok then
      let s := (s.updSlot i (fun x => { x with state := 4 })).updNand (fun d => { d with active := i })
      .next ((s.setPause true).updUpd (fun u => { u with pauseAt := some s.root }))
    else .next ((s.slotRejected i 10).updTo 5 3)

/-- Microseconds since a root tick. -/
def State.usSince (s : State) (t : Nat) : Nat := s.since t * 2 / 625

/-- PAUSE_END: the new image is confirmed; the trial starts, and an allocation that fell due runs (R446). -/
def execPauseEnd (s : State) : Out :=
  match s.upd.pauseAt with
  | some t =>
    let us := s.usSince t
    if 25000 < us then .next s
    else
      let s := (s.setPause false).updUpd (fun u => { u with pauseAt := none, trialAt := s.root })
      let s := (s.setN Obj.UPDATE_CTRL.LAST_PAUSE us).updTo 7 2
      let i := s.nand.active
      let s := s.record 0x0502 0 0 0 ([BitVec.ofNat 8 i, 0] ++ leBytes 4 (fieldN (s.slot i).header 24 4) ++ leBytes 4 us)
      execDispatchAllocation s
  | none => .next s

/-- PAUSE_TIMEOUT: not confirmed when 25 ms is reached; everything resumes on the old image (R447). -/
def execPauseTimeout (s : State) : Out :=
  match s.upd.pauseAt with
  | some t =>
    if s.passed t 7812500 then
      let i := s.nand.active
      let o := otherSlot i
      let s := (s.setPause false).updUpd (fun u => { u with pauseAt := none })
      let s := (s.slotRejected i 10).updNand (fun d => { d with active := o })
      let s := (s.setN Obj.UPDATE_CTRL.LAST_PAUSE 25000).updTo 5 3
      execDispatchAllocation (s.record 0x0504 0 0 2 [BitVec.ofNat 8 o, 5])
    else .next s
  | none => .next s

/-! ### Trial (R448) -/

/-- The trial fails: the module falls back to the previous slot, warm where that image fits, else by a device reset. -/
def State.trialFail (s : State) (cause : Nat) : State :=
  let i := s.nand.active
  let o := otherSlot i
  let warm := s.warmFits o
  let s := (s.updSlot i (fun x => { x with state := 1 })).updNand (fun d => { d with active := o })
  let s := (s.record 0x0504 0 0 2 [BitVec.ofNat 8 o, BitVec.ofNat 8 cause]).updTo 0 3
  if warm then s else s.resetDecide 5 false

/-- TRIAL_LEFT in s (Table 17-9). -/
def State.trialLeft (s : State) : Nat := if s.updState = 7 then 120 - s.since s.upd.trialAt / 312500000 else 0

/-- TRIAL_TIMEOUT: not committed within 120 s. -/
def execTrialTimeout (s : State) : Out :=
  if s.updState = 7 ∧ s.powerDown = false ∧ s.passed s.upd.trialAt (secTicks 120) = true then .next (s.trialFail 1) else .next s

/-! ### The owner key (R439) -/

/-- A write of OWNER_KEY; 96 zero bytes remove the key. -/
def ownerKeyEff (v : Val) (s : State) : Except Nat State :=
  let key := if v.toB.all (fun b => b == 0) then none else some v.toB
  .ok (s.updNand (fun d => { d with ownerKey := key, ownerBad := false }))

/-- OWNER_KEY. -/
def execOwnerKey (path : Path) (key : List Byte) (s : State) : Out := .next (s.write path 0x2300 9 key ownerKeyEff)

/-- OWNER_KEY_CHECK: the first 4 bytes of SHA-384 over the key, or 0. -/
def State.ownerCheck (s : State) : List Byte :=
  match s.nand.ownerKey with
  | some k => (Config.sha384 k).toList.take 4
  | none => [0, 0, 0, 0]

/-! ### Boot selection (R450, Table 17-6) -/

/-- Rows 1 to 4: RECOVERY, or the slot to be booted, which is then the one in force. -/
def State.bootSelect (s : State) : State :=
  if s.md.recoveryPin then s.updMd (fun m => { m with landCause := 0x0E })
  else if 3 ≤ s.getN Obj.RESET_LADDER.BOOT_FAILS then s.updMd (fun m => { m with landCause := 0x10 })
  else if s.md.landingNext then s.updMd (fun m => { m with landCause := s.md.bootCauseNow })
  else
    let i := s.nand.active
    let o := otherSlot i
    if (s.slot i).state = 4 then
      let s := (s.updSlot i (fun x => { x with state := 1 })).updNand (fun d => { d with active := o })
      s.updMd (fun m => { m with bootRecs := m.bootRecs ++ [(0x0504, 2, [BitVec.ofNat 8 o, 4])] })
    else
      match [0, 1].find? (fun j => (s.slot j).state == 3) with
      | some j => (s.updSlot j (fun x => { x with state := 4 })).updNand (fun d => { d with active := j })
      | none => s

/-- Whether a slot passes at boot: its stored bytes are intact and R438 passes. -/
def State.slotPasses (s : State) (i : Nat) (intact : Bool) : Option Nat := if intact then s.slotCheck i else some 4

/-- Rows 5 and 6, as Landing's verification ends: the slot in force, or the other if COMMITTED and passing, or RECOVERY. -/
def State.bootVerify (s : State) (slotOk otherOk : Bool) : State :=
  let i := s.nand.active
  let o := otherSlot i
  match s.slotPasses i slotOk with
  | none => s
  | some b =>
    let s := s.slotRejected i b
    if (s.slot o).state = 5 ∧ s.slotPasses o otherOk = none then
      let s := s.updNand (fun d => { d with active := o })
      s.updMd (fun m => { m with bootRecs := m.bootRecs ++
        [(0x0505, 2, [BitVec.ofNat 8 o] ++ leBytes 4 (s.getN Obj.UPDATE_CTRL.REJECT))] })
    else s.updMd (fun m => { m with landCause := 0x0F })

/-- The update state after a boot: STATE by R442, an unfinished blowing goes on (R440), the trial's commit timer starts (R448). -/
def State.updBoot (s : State) : State :=
  let i := s.nand.active
  let o := otherSlot i
  let s := s.updUpd (fun u => { u with slot := o, trialAt := s.root })
  let s := if (s.slot i).state = 5 then s.blowFuses i else s
  if (s.slot i).state = 4 then
    (s.record 0x0502 0 0 0 ([BitVec.ofNat 8 i, 1] ++ leBytes 4 (fieldN (s.slot i).header 24 4) ++ leBytes 4 0)).setN Obj.UPDATE_CTRL.STATE 7
  else if (s.slot o).state = 2 then
    match s.slotCheck o with
    | none => s.setN Obj.UPDATE_CTRL.STATE 4
    | some b => s.slotRejected o b
  else s

end Sys2Proof.Machine
end

