-- ==== Sys2Proof/Machine/Boot.lean ====
section
/-! DEFINITION. Supplies, the Vestibule and the keep cell, power-up and BOOT, power-down, resets and watchdogs (chapter 2). -/
namespace Sys2Proof.Machine

/-! ### Plant time across absence (R23, R26, R73, R74) -/

/-- The tick count resumed from the Vestibule: the saved count and the keep cycles since, by the last measured correction. -/
def State.resumedTick (s : State) : Nat :=
  let cycles : Q := ((s.vest.keepCycles - s.vest.savedCycles : Nat) : Q)
  s.vest.savedTick + (cycles * 312500000 / (32768 + s.vest.correction)).floor.toNat

/-- The time horizon is written to the configuration store with ORIGIN (R74, R334). -/
def State.writeHorizon (s : State) : State :=
  (s.updNand (fun d => { d with horizon := s.now + 37500000000, origin := s.getI Obj.TIMEBASE.ORIGIN })).updMd
    (fun m => { m with horizonAt := s.root })

/-- TIME_HORIZON_WRITE (R74): every 60 s while the module is awake, in RECOVERY too. -/
def execTimeHorizonWrite (s : State) : Out :=
  if s.ticking = true ∧ s.mode ≠ .boot ∧ s.passed s.md.horizonAt (secTicks 60) = true then
    .next s.writeHorizon
  else .next s

/-- KEEP_OSC_MEASURE (R23): once every second while awake, the keep cycles counted in a second of the root. -/
def execKeepOscMeasure (cycles : Nat) (s : State) : Out :=
  if s.ticking = true ∧ s.passed s.md.oscAt (secTicks 1) = true then
    .next ((s.updVest (fun v => { v with correction := (cycles : Q) - 32768 })).updMd (fun m => { m with oscAt := s.root }))
  else .next s

/-- A record that the spec asks for under no code of Table 16-3: code, severity and DATA are free values. -/
def State.recordOpen (s : State) : State :=
  let (f, s) := s.take
  let (g, s) := s.take
  let (h, s) := s.take
  s.record (Config.freeNat f % 65536) 0 0 (Config.freeNat g % 3) (leBytes 32 (Config.freeNat h))

/-! ### The Vestibule and the keep cell (R71, R72) -/

/-- The Vestibule loses its state: both its supplies are invalid. -/
def State.vestLost (s : State) : State :=
  let s := { s with vest := { alive := false } }
  [Obj.SUPPLY_STATUS.EVENTS, Obj.SUPPLY_STATUS.POWER_CYCLES, Obj.RESET_LADDER.DEVICE_RESETS].foldl (fun s k => s.setN k 0) s

/-- The Vestibule after a change of its supplies. -/
def State.vestSync (s : State) : State := if s.vauxOk || s.vkeepOk then s else s.vestLost

/-- The charger charges only while VAUX is valid, the keep cell is present and stands below KEEP_CHARGE_V (R72). -/
def State.chargeSync (s : State) (vkeep : Q) : State :=
  let s := s.setR Obj.SUPPLY_STATUS.VKEEP (some vkeep)
  s.setFlag Obj.SUPPLY_STATUS.FLAGS 5 (s.vauxOk && !s.supply 6 && decide (vkeep < s.getQ Obj.SUPPLY_STATUS.KEEP_CHARGE_V))

/-- The charger judged anew on the voltage measured last: VAUX has returned, or its limit has changed (R72). -/
def State.chargeAgain (s : State) : State :=
  match s.getR Obj.SUPPLY_STATUS.VKEEP with
  | some v => s.chargeSync v
  | none => s

/-- KEEP_CHARGE_V is written (R72). -/
def keepChargeEff (v : Val) (s : State) : Except Nat State := .ok (s.put Obj.SUPPLY_STATUS.KEEP_CHARGE_V v).chargeAgain

/-- VAUX becomes valid: the Vestibule moves to it where VKEEP stands below 2.1 V or is invalid (R71), and the charger may start (R72). -/
def State.vauxOn (s : State) : State :=
  let s := s.raise Obj.SUPPLY_STATUS.FLAGS 0
  let low := match s.getR Obj.SUPPLY_STATUS.VKEEP with
    | some v => decide (v < 21 / 10)
    | none => false
  (if low || !s.vkeepOk then s.raise Obj.SUPPLY_STATUS.FLAGS 7 else s).chargeAgain

/-- The keep cell is found absent: charging stops. -/
def State.keepOpen (s : State) : State :=
  ((s.raise Obj.SUPPLY_STATUS.FLAGS 6).setFlag Obj.SUPPLY_STATUS.FLAGS 5 false).event 1

/-- KEEP_PROBE: every 10 s while VAUX is valid; VKEEP before the probe and under 100 uA. -/
def execKeepProbe (before under : Q) (s : State) : Out :=
  if s.vauxOk = true ∧ s.passed s.vest.probeAt (secTicks 10) = true then
    let s := s.updVest (fun v => { v with probeAt := s.root })
    if 1 / 5 < before - under then .next ((s.setR Obj.SUPPLY_STATUS.VKEEP (some before)).keepOpen)
    else .next ((s.setFlag Obj.SUPPLY_STATUS.FLAGS 6 false).chargeSync before)
  else .next s

/-- KEEP_CELL_OVERVOLTAGE: VKEEP rises above KEEP_CHARGE_V + 150 mV while the charger is charging. -/
def execKeepCellOvervoltage (volts : Q) (s : State) : Out :=
  if s.supply 5 = true ∧ s.getQ Obj.SUPPLY_STATUS.KEEP_CHARGE_V + 3 / 20 < volts then
    .next ((s.setR Obj.SUPPLY_STATUS.VKEEP (some volts)).keepOpen)
  else .next s

/-- VKEEP_LOW: below 2.1 V with VAUX valid the Vestibule moves to VAUX. -/
def execVkeepLow (volts : Q) (s : State) : Out :=
  let s := s.chargeSync volts
  .next (if volts < 21 / 10 ∧ s.vauxOk = true then s.raise Obj.SUPPLY_STATUS.FLAGS 7 else s)

/-- VKEEP_VALID: at 2.2 V or above it returns to VKEEP. -/
def execVkeepValid (volts : Q) (s : State) : Out :=
  if 22 / 10 ≤ volts then
    .next (((s.raise Obj.SUPPLY_STATUS.FLAGS 2).setFlag Obj.SUPPLY_STATUS.FLAGS 7 false).chargeSync volts)
  else .next (s.chargeSync volts)

/-- VKEEP_INVALID: below 2.0 V; without VAUX the Vestibule loses its state. -/
def execVkeepInvalid (volts : Q) (s : State) : Out :=
  if volts < 2 then
    let s := (s.setFlag Obj.SUPPLY_STATUS.FLAGS 2 false).chargeSync volts
    .next (if s.vauxOk then s.raise Obj.SUPPLY_STATUS.FLAGS 7 else s.vestSync)
  else .next (s.chargeSync volts)

/-! ### VAULT (R64, R65) -/

/-- The module is OFF but for the Vestibule: counts, mode and cause saved in the Vestibule and the configuration store. VAULT is a mode that
is reached, so the count of boot failures is cleared (R57). -/
def State.enterVault (s : State) (cause : Nat) : State :=
  let s := s.saveTick
  let s := s.updVest (fun v => { v with savedMode := s.mode.code, savedCause := cause, opTicks := v.opTicks + (s.root - v.awakeAt) })
  let s := s.updNand (fun d => { d with
    savedTick := s.vest.savedTick, savedMode := s.mode.code, savedCause := cause, latch := s.latched })
  let s := (s.setN Obj.MODE_STATUS.LAST_CAUSE cause).setN Obj.RESET_LADDER.BOOT_FAILS 0
  let low := s.md.resetLow
  let s := s.bootAnew 0 false
  ({ s with md := { mode := .vault, modeSince := s.root, wakeOut := false, resetLow := low } }).vestSync

/-- BOOT from VAULT; a power cycle is counted where the supplies have become valid (Tables 2-4 and 2-8). A RESET_N that is low holds
it. -/
def State.vaultBoot (s : State) (cause : Nat) (cycled : Bool) : State :=
  let s := if cycled then s.inc Obj.SUPPLY_STATUS.POWER_CYCLES else s
  let s := s.updVest (fun v => { v with awakeAt := s.root })
  (s.bootAnew cause false).updMd (fun m => { m with resetHeld := m.resetLow })

/-! ### Supplies (Table 2-2) -/

/-- VAUX_VALID (R54): at 16.5 V or above with PFAIL_N high. While a power-down runs it is remembered. The power cycle is counted once both
VAUX and VIO are valid (Table 2-8). -/
def execVauxValid (volts : Q) (s : State) : Out :=
  let s := s.setR Obj.SUPPLY_STATUS.VAUX (some volts)
  if volts < 33 / 2 then .next s
  else
    if s.powerDown then .next (s.updMd (fun m => { m with vauxBack := true }))
    else if s.vauxOk then .next s
    else
      let s := s.vauxOn
      match s.mode with
      | .vault =>
        let cause := if s.md.wakeWait.isSome then s.md.wakeCause else 2
        .next (if s.vioOk then (s.vaultBoot cause true).setN Obj.RESET_LADDER.LAST_RESET_CAUSE 2 else s.vaultBoot cause false)
      | _ => .next s

/-- VIO_INVALID: the module is held in BOOT with every ball high-impedance. -/
def execVioInvalid (volts : Q) (s : State) : Out :=
  let s := s.setR Obj.SUPPLY_STATUS.VIO (some volts)
  if volts < 155 / 100 ∧ s.vioOk = true then
    let s := s.setFlag Obj.SUPPLY_STATUS.FLAGS 3 false
    if s.mode = .vault ∨ s.powerDown = true then .next s
    else .next ((s.bypassRelease.saveTick).bootAnew 2 false)
  else .next s

/-- VIO_VALID: at 1.62 V or above; BOOT then starts, as the supplies are valid after being invalid (Table 2-8). -/
def execVioValid (volts : Q) (s : State) : Out :=
  let s := s.setR Obj.SUPPLY_STATUS.VIO (some volts)
  if 162 / 100 ≤ volts ∧ s.vioOk = false then
    let s := s.raise Obj.SUPPLY_STATUS.FLAGS 3
    if s.mode = .boot then
      let s := (s.inc Obj.SUPPLY_STATUS.POWER_CYCLES).setN Obj.RESET_LADDER.LAST_RESET_CAUSE 2
      .next (s.updMd (fun m => { m with bootSince := s.root, bootCauseNow := 2 }))
    else .next s
  else .next s

/-- READY at the end of RUN (R61, R63): RESULT, a deferred request, and a device reset that follows. -/
def State.runEnds (s : State) (cause : Nat) : State :=
  let entry := decide (s.phase = 1)
  let s := (s.setN Obj.MODE_STATUS.PHASE 0).toMode .ready cause true
  let r := s.getN Obj.MODE_CTRL.RESULT
  let s := if s.md.deferRun || !(r == 1 || r == 5) then s
    else if entry && s.getN Obj.MODE_CTRL.REQUEST == 4 then (s.setN Obj.MODE_CTRL.RESULT 4).raise Obj.MODE_CTRL.REFUSE_REASON 4
    else s.setN Obj.MODE_CTRL.RESULT 2
  match s.md.exitReset with
  | some c => s.resetDecide c false
  | none => s

/-- VLOOP_LOST (R55): in RUN every energised string receives SEO and the module enters READY. -/
def execVloopLost (volts : Q) (s : State) : Out :=
  let s := s.setR Obj.SUPPLY_STATUS.VLOOP (some volts)
  if volts < 105 / 10 then
    let s := s.setFlag Obj.SUPPLY_STATUS.FLAGS 1 false
    let s := s.chanVloop false
    if s.mode = .run ∧ s.powerDown = false then .next (((s.allSeo false).event 4).runEnds 0x12) else .next s
  else .next s

/-- VLOOP_VALID: at 11.0 V or above. -/
def execVloopValid (volts : Q) (s : State) : Out :=
  let s := s.setR Obj.SUPPLY_STATUS.VLOOP (some volts)
  if 11 ≤ volts ∧ s.vloopOk = false then
    .next (({ s.raise Obj.SUPPLY_STATUS.FLAGS 1 with vloopAt := s.root }).chanVloop true)
  else .next s

/-- VHOLD is measured: its value, and HOLD_READY, which shows whether it is at or above 26.0 V (Table 2-11). -/
def State.vholdIn (s : State) (volts : Q) : State :=
  (s.setR Obj.SUPPLY_STATUS.VHOLD (some volts)).setFlag Obj.SUPPLY_STATUS.FLAGS 4 (decide (26 ≤ volts))

/-- HOLD_READY (R53): VHOLD at 26.0 V or above. -/
def execHoldReady (volts : Q) (s : State) : Out := .next (s.vholdIn volts)

/-- HOLD_LOW (Table 2-2, R66): below 24.0 V; in RUN before any PFAIL it is reported and recorded. -/
def execHoldLow (volts : Q) (s : State) : Out :=
  let s := s.vholdIn volts
  .next (if volts < 24 ∧ s.mode = .run ∧ s.powerDown = false then (s.event 3).recordOpen else s)

/-! ### PFAIL and the power-down (R54, R65, Table 2-7) -/

/-- PFAIL: `pin` says that PFAIL_N announced it; VAUX and VHOLD in V. The Vestibule then runs on VKEEP, where that is valid. -/
def execPfail (pin : Bool) (volts : PfailVolts) (s : State) : Out :=
  let s := (s.setR Obj.SUPPLY_STATUS.VAUX (some volts.vaux)).vholdIn volts.vhold
  if !s.vauxOk then .next (if s.powerDown then s.updMd (fun m => { m with vauxBack := false }) else s)
  else
    let s := s.setFlag Obj.SUPPLY_STATUS.FLAGS 0 false
    let s := (s.setFlag Obj.SUPPLY_STATUS.FLAGS 5 false).setFlag Obj.SUPPLY_STATUS.FLAGS 7 false
    match s.mode with
    | .vault => .next s.vestSync
    | .boot => .next (s.enterVault 3)
    | .recovery => .next ({ s with sreqs := [] }.updMd (fun m => { m with transit := .powerDown s.root }))
    | _ =>
      let s := s.record 0x0003 0 0 2 ([BitVec.ofNat 8 s.mode.code, BitVec.ofNat 8 (b2n pin)] ++ leBytes 2 (volts.vhold * 100).floor.toNat)
      let s := s.startFlush.updRec (fun r => { r with closeAt := some (s.root + usTicks 1000) })
      let s := s.forGal (fun n s => if s.energised n then s.inhibitInsert n none else s)
      let s := (s.allSeo true).allLoadsOff.bypassRelease
      .next ({ s with sreqs := [] }.updMd (fun m => { m with
        transit := .powerDown s.root, deferRun := false, exitReset := none, vauxBack := false }))

/-- POWER_DOWN_COMPLETE: the flush is done, or 15,000 us have passed; everything is OFF and the mode is VAULT. What came back while it
ran acts now. -/
def execPowerDownComplete (s : State) : Out :=
  match s.md.transit with
  | .powerDown t =>
    if s.recd.flushTo = none ∨ s.passed t (usTicks 15000) = true then
      let back := s.md.vauxBack
      let s := (s.event 2).enterVault 3
      .next (if !back then s
        else if s.vioOk then (s.vauxOn.vaultBoot 2 true).setN Obj.RESET_LADDER.LAST_RESET_CAUSE 2 else s.vauxOn.vaultBoot 2 false)
    else .next s
  | _ => .next s

/-! ### Power-up (R56, Table 2-3) -/

/-- Whether nothing holds the module back from starting: supplies and RESET_N. -/
def State.mayStart (s : State) : Bool := decide (s.mode = .boot) && s.vauxOk && s.vioOk && !s.md.resetHeld

/-- ROOT_PLL_LOCK (R56, R450, R457): internal reset released, the two straps sampled, the tick count resumes, Landing chooses. -/
def execRootPllLock (recoveryLow testLow : Bool) (s : State) : Out :=
  if s.mayStart = true ∧ s.md.pllLocked = false then
    let s := s.updMd (fun m => { m with pllLocked := true, released := true, recoveryPin := recoveryLow, testEn := testLow })
    let s := if s.vest.interrupted then s else { s with now := max s.now s.resumedTick }
    .next (if testLow then s else s.bootSelect)
  else .next s

/-- LANDING_VERIFY_DONE (Table 2-3, R450): the slot is verified; the safety firmware is loaded into the channels. The operands say
whether the stored bytes of the two slots and of the owner key can be read. -/
def execLandingVerifyDone (slotOk otherOk ownerKeyOk : Bool) (s : State) : Out :=
  if s.mayStart = true ∧ s.md.pllLocked = true ∧ s.md.testEn = false ∧ s.md.verified = false ∧ s.md.landCause = 0 then
    let s := s.updNand (fun d => { d with ownerBad := !ownerKeyOk })
    let s := (s.bootVerify slotOk otherOk).updMd (fun m => { m with verified := true })
    .next (s.updSafe (fun r => { r with newel := { r.newel with loaded := true }, baluster := { r.baluster with loaded := true } }))
  else .next s

/-- CHANNEL_SELF_TEST_DONE (R50, R280): each channel passes its self-test, or fails and stays unhealthy. -/
def execChannelSelfTestDone (newel baluster : Bool) (s : State) : Out :=
  if s.mayStart = true ∧ s.md.verified = true ∧ s.md.landCause = 0 ∧ s.md.selfTested = false then
    let s := s.updSafe (fun r => { r with
      newel := { r.newel with healthy := newel }, baluster := { r.baluster with healthy := baluster }
      chanFail := !(newel && baluster), selfPass := newel && baluster })
    .next ((s.updMd (fun m => { m with selfTested := true })).channelSync)
  else .next s

/-- The highest SEQ found in NAND (R417). -/
def State.nandTop (s : State) : Nat := (s.recd.perm ++ s.recd.circ.flatMap (·.recs)).foldl (fun a r => max a r.seq) 0

/-- The blocks of the module come up, at a boot and at a wake from WATCH: strings, groups in WAIT_OFF (Table 10-7), universal channels,
ports, role. -/
def State.startBlocks (s : State) : State :=
  let s := s.forGal (fun n s => (if s.strOn n then ((s.tileReset n).restBoot n).toAcquire n else s).archSync n)
  let anew := fun (c : Channel) => { c with groups := List.replicate 8 .waitOff, lag := 0, copies := [] }
  let s := s.updSafe (fun r => { r with
    groups := List.replicate 8 { minOff := s.root, since := s.root }, newel := anew r.newel, baluster := anew r.baluster })
  let s := s.groupSync.demandSync
  let s := if s.getN Obj.REDUNDANCY_CFG.ENABLE = 1 ∧ s.role = 0 then s.roleTo 1 else s
  let s := { s with time := { s.time with listenAt := s.root, ppsAt := some s.root }, twa := { lastDue := List.replicate 16 s.root } }
  (s.chanBoot.canStart).arcSync s.mode.code

/-- The first mode of a BOOT is reached: plant time (R73, R74), recorder numbers (R417), settings (R88), the safety set (R86). -/
def State.bootLoad (s : State) : State :=
  let cont := !s.vest.interrupted
  let s := if cont then s else { s with now := s.nand.horizon }.event 0
  let s := s.setFlag Obj.SUPPLY_STATUS.FLAGS 8 cont
  let s := if s.vest.alive then s.updVest (fun v => { v with nextSeq := max v.nextSeq (s.nandTop + 1) })
    else s.updVest (fun v => { v with alive := true, nextSeq := s.nandTop + 4097 })
  let s := s.updVest (fun v => { v with interrupted := false })
  let s := (s.put Obj.SUPPLY_STATUS.KEEP_CHARGE_V (dfltOf Obj.SUPPLY_STATUS.KEEP_CHARGE_V)).put Obj.SUPPLY_STATUS.KEEP_CHARGE_I
    (dfltOf Obj.SUPPLY_STATUS.KEEP_CHARGE_I)
  let s := (s.loadSettings.bootSeal).setI Obj.TIMEBASE.ORIGIN s.nand.origin
  let s := if s.latched then s.setN Obj.SAFETY_STATUS.LATCH_CAUSES s.nand.latchCauses else s
  (s.setN Obj.RESET_LADDER.BOOT_FAILS 0).updMd (fun m => { m with skipped := s.vest.nextSeq - s.nandTop - 1 })

/-- The numbers that a boot skips count in LOST, each once (R417, Table 16-4). -/
def State.countSkipped (s : State) : State :=
  let k := s.vest.nextSeq - 1 - max s.nandTop s.nand.lostTo
  let s := s.updNand (fun d => { d with lostTo := s.vest.nextSeq - 1 })
  if k = 0 then s else (s.setN Obj.RECORDER_CTRL.LOST (s.getN Obj.RECORDER_CTRL.LOST + k)).raise Obj.RECORDER_CTRL.FLAGS 1

/-- BOOT_COMPLETE (R59): the first mode is reached, and the boot record is written. -/
def execBootComplete (s : State) : Out :=
  let land := s.md.landCause ≠ 0
  if s.mayStart = true ∧ s.md.pllLocked = true ∧ s.md.testEn = false ∧ (land ∨ s.md.selfTested = true) then
    let s := s.bootLoad
    let cause := s.md.bootCauseNow
    if land then
      let s := s.writeHorizon.setN Obj.MODE_STATUS.BOOT_CAUSE cause
      .next ((s.toMode .recovery s.md.landCause false).canStart)
    else
      let s := s.writeHorizon.countSkipped
      let s := (s.setN Obj.MODE_STATUS.BOOT_CAUSE cause).toMode (if s.latched then .lockout else .ready) cause false
      let s := s.enter 0x0001 0 0 0 ([BitVec.ofNat 8 cause, BitVec.ofNat 8 s.mode.code] ++ leBytes 8 s.md.skipped)
      let s := s.md.bootRecs.foldl (fun s r => s.record r.1 0 0 r.2.1 r.2.2) s.dropNotice
      .next ((s.updMd (fun m => { m with bootRecs := [] })).updBoot.startBlocks.channelSync)
  else .next s

/-- BOOT_WATCHDOG_EXPIRY (R57): no mode within 5 s of t = 0; the failure is counted and BOOT restarts. Not while TEST_EN_N holds the
module (R457). -/
def execBootWatchdogExpiry (s : State) : Out :=
  if s.mayStart = true ∧ s.md.testEn = false ∧ s.passed s.md.bootSince (secTicks 5) = true then
    let s := s.setN Obj.RESET_LADDER.BOOT_FAILS (min 3 (s.getN Obj.RESET_LADDER.BOOT_FAILS + 1))
    .next ((s.setN Obj.RESET_LADDER.LAST_RESET_CAUSE 0x10).saveTick.bootAnew 0x10 false)
  else .next s

/-! ### Resets (R67, Table 2-8) -/

/-- RESET_N_ASSERT: ignored below 2 us, recognised from 10 us, between them as may be. Recognised, it holds the module in BOOT; a
power-down runs to its end first. -/
def execResetNAssert (lowUs : Nat) (s : State) : Out :=
  let (f, t) := s.take
  let seen := if lowUs < 2 then false else if 10 ≤ lowUs then true else Config.freeBool f
  let s := if 2 ≤ lowUs ∧ lowUs < 10 then t else s
  if !seen then .next s
  else if s.powerDown then .next (s.updMd (fun m => { m with resetLow := true }))
  else if s.mode = .vault then
    let s := s.updMd (fun m => { m with resetLow := true })
    if s.vauxOk then
      .next (((s.inc Obj.RESET_LADDER.DEVICE_RESETS).setN Obj.RESET_LADDER.LAST_RESET_CAUSE 4).vaultBoot 4 false)
    else .next s
  else
    let s := (s.bypassRelease.deviceReset 4 false)
    .next (s.updMd (fun m => { m with resetHeld := true, resetLow := true }))

/-- RESET_N_RELEASE: BOOT starts, and the times of Table 2-3 count from here. -/
def execResetNRelease (s : State) : Out :=
  let s := s.updMd (fun m => { m with resetLow := false })
  if s.md.resetHeld then .next (s.updMd (fun m => { m with resetHeld := false, bootSince := s.root })) else .next s

/-- ROOT_PLL_UNLOCK (R17, R22, R280): the channels de-energise, ROOT_PLL latches a lock-out, and the reset acts at once. -/
def execRootPllUnlock (s : State) : Out :=
  if s.md.pllLocked = false ∨ s.mode = .vault ∨ s.mode = .watch ∨ s.powerDown = true then .next s
  else
    let s := s.allLoadsOff.bypassRelease
    let s := (s.updVest (fun v => { v with latch := true })).updNand (fun d => { d with
      latch := true, latchCauses := if s.latched then d.latchCauses else 256 })
    let s := s.deviceReset 7 false
    let s := s.updSafe (fun r => { r with pllFail := true })
    .next (s.setN Obj.DIAG.PLL_UNLOCK 1)

/-- CORE_WATCHDOG_EXPIRY (Table 2-4, R448): a trial has failed; from RUN each string receives SRS and then SEO, and then the reset. -/
def execCoreWatchdogExpiry (s : State) : Out :=
  match s.mode with
  | .ready | .run | .lockout =>
    if s.powerDown then .next s
    else
      let s := if s.updState = 7 then
          let i := s.nand.active
          let o := otherSlot i
          let s := (s.updSlot i (fun x => { x with state := 1 })).updNand (fun d => { d with active := o })
          (s.record 0x0504 0 0 2 [BitVec.ofNat 8 o, 2]).updTo 0 3
        else s
      .next (s.resetDecide 6 false)
  | _ => .next s

/-- FLUSH_DONE (R422): every record that was in the buffer is durable; a reset that waits for it takes effect. -/
def execFlushDone (s : State) : Out :=
  match s.recd.flushTo with
  | none => .next s.resetReady
  | some k =>
    if s.recd.buffer.all (fun r => decide (k < r.seq)) then .next (s.updRec (fun r => { r with flushTo := none })).resetReady
    else .next s

end Sys2Proof.Machine
end

