-- ==== Sys2Proof/Machine/Modes.lean ====
section
/-! DEFINITION. Mode requests and transitions, WATCH and VAULT, wakes, the stack check, and the recovery ladder (chapter 2, R162, R402,
R413). -/
namespace Sys2Proof.Machine

/-! ### Entry conditions and requests (R60, R63) -/

/-- The entry conditions of R60 that fail, as REFUSE_REASON bits. -/
def State.runConds (s : State) : Nat :=
  b2n (s.getN Obj.SAFETY_CFG.SEAL_STATE != 2) + 2 * b2n (!s.safe.newel.healthy) + 4 * b2n (!s.safe.baluster.healthy) +
  8 * b2n s.latched + 16 * b2n (!s.vloopOk) + 32 * b2n (!s.holdReady) +
  64 * b2n (!s.galIds.any (fun n => s.strOn n && s.trunkUp n))

/-- A request RUN from READY acts: RUN with PHASE 1, and ON for every group with AUTO at a string (Table 10-7), or REFUSED. -/
def State.actRun (s : State) (result : Nat) : State :=
  let w := s.runConds
  if w ≠ 0 then (s.setN Obj.MODE_CTRL.RESULT 4).setN Obj.MODE_CTRL.REFUSE_REASON w
  else
    let s := ((s.toMode .run 1 true).setN Obj.MODE_STATUS.PHASE 1).setN Obj.MODE_CTRL.RESULT result
    if s.role = 3 then s
    else (List.range 8).foldl (fun s g =>
      if (s.groupStrings g).any (fun n => s.getN (Gal.ENERGISE.AUTO n) == 1) then s.groupOn g else s) s

/-- SLEEP to the stack of every enabled string whose trunk is UP (R159): the check interval and T_LIMIT. -/
def State.sendSleep (s : State) : State :=
  let limit := (s.getQ Obj.WATCH_CFG.SLEEP_T_LIMIT * 100).floor
  let args := leBytes 4 (s.getN Obj.WATCH_CFG.MONITOR_INTERVAL) ++ leBytes 2 (ofSigned 16 limit)
  s.forGal (fun n s => if s.strOn n && s.trunkUp n then s.sendCmd n 10 0xFF args else s)

/-- Entry to VAULT or to WATCH begins (R64, R479). Without VKEEP an entry to VAULT records that time continuity will not survive a loss
of VAUX. The channels no longer run: every load stays off and INHIBIT is requested on every trunk (R50). -/
def State.startEntry (s : State) (watch : Bool) : State :=
  let s := if !watch && !s.vkeepOk then s.recordOpen else s
  let s := s.allLoadsOff.sendSleep
  let s := s.updMd (fun m => { m with
    transit := if watch then .toWatch 1 s.root else .toVault 1 s.root, deferRun := false, wakeKept := none })
  (s.forGal (fun n s => s.inhibitInsert n none)).arcSync (if watch then 2 else 1)

/-- An accepted request: REQUEST reads it, REFUSE_REASON is cleared (R63). -/
def State.accepted (s : State) (r : Nat) : State :=
  (s.setN Obj.MODE_CTRL.REQUEST r).setN Obj.MODE_CTRL.REFUSE_REASON 0

/-- A write of REQUEST, decided by Table 2-4 and R63. -/
def requestEff (v : Val) (s : State) : Except Nat State :=
  let r := v.toN
  let deferred := s.md.deferRun
  let wait := if deferred then 5 else 1
  match s.mode with
  | .ready =>
    if s.entering then .error abortState
    else
      let s := (s.accepted r).updMd (fun m => { m with deferRun := false })
      if r = 4 then .ok (s.actRun wait)
      else if r = 3 then .ok (s.setN Obj.MODE_CTRL.RESULT 2)
      else
        let s := s.setN Obj.MODE_CTRL.RESULT wait
        if r = 6 then
          let s := s.record 0x0002 0 0 0 [3, 6, 1]
          .ok (s.resetDecide 1 true)
        else .ok (s.startEntry (decide (r = 2)))
  | .run =>
    if r ≠ 3 ∧ r ≠ 4 then .error abortState
    else
      let s := s.accepted r
      if s.phase = 2 then
        if r = 4 then .ok ((s.setN Obj.MODE_CTRL.RESULT 3).updMd (fun m => { m with deferRun := true }))
        else .ok ((s.setN Obj.MODE_CTRL.RESULT wait).updMd (fun m => { m with deferRun := false }))
      else if r = 4 then .ok (s.setN Obj.MODE_CTRL.RESULT (if s.phase = 0 then 2 else 1))
      else .ok ((s.setN Obj.MODE_CTRL.RESULT 1).startExit 1)
  | .lockout =>
    if r = 6 then
      let s := ((s.accepted r).setN Obj.MODE_CTRL.RESULT 1).record 0x0002 0 0 0 [5, 6, 1]
      .ok (s.resetDecide 1 true)
    else .error abortState
  | _ => .error abortState

/-- REQUEST_RUN. -/
def execRequestRun (path : Path) (s : State) : Out := .next (s.write path 0x2000 1 [4] requestEff)
/-- REQUEST_READY. -/
def execRequestReady (path : Path) (s : State) : Out := .next (s.write path 0x2000 1 [3] requestEff)
/-- REQUEST_WATCH. -/
def execRequestWatch (path : Path) (s : State) : Out := .next (s.write path 0x2000 1 [2] requestEff)
/-- REQUEST_VAULT. -/
def execRequestVault (path : Path) (s : State) : Out := .next (s.write path 0x2000 1 [1] requestEff)
/-- REQUEST_RECOVERY. -/
def execRequestRecovery (path : Path) (s : State) : Out := .next (s.write path 0x2000 1 [6] requestEff)

/-- ENTRY_TO_RUN_COMPLETE: no group is on its way to ENERGISED or waits; PHASE reads 0. -/
def execEntryToRunComplete (s : State) : Out :=
  let busy := (List.range 8).any (fun g => (s.grp g).pend || (match (s.grp g).state with
    | .busCheck | .precharge | .closing | .releasing => true
    | _ => false))
  if s.mode = .run ∧ s.phase = 1 ∧ busy = false then
    let s := s.setN Obj.MODE_STATUS.PHASE 0
    let r := s.getN Obj.MODE_CTRL.RESULT
    .next (if r = 1 ∨ r = 5 then s.setN Obj.MODE_CTRL.RESULT 2 else s)
  else .next s

/-- EXIT_FROM_RUN_COMPLETE (R61): the last string has been de-energised. -/
def execExitFromRunComplete (s : State) : Out :=
  let out := (List.range 8).all (fun g => match (s.grp g).state with
    | .off | .waitOff => true
    | _ => false)
  if s.mode = .run ∧ s.phase = 2 ∧ out = true ∧ s.powerDown = false then .next (s.runEnds s.md.exitCause) else .next s

/-- DEFERRED_RUN (R63): the minimum off time has elapsed; the conditions are checked again. -/
def execDeferredRun (s : State) : Out :=
  let waits := (List.range 8).any (fun g => decide ((s.grp g).state = .waitOff) && !(s.groupStrings g).isEmpty)
  if s.mode = .ready ∧ s.md.deferRun = true ∧ s.md.transit = .none ∧ waits = false then
    .next ((s.updMd (fun m => { m with deferRun := false })).actRun 1)
  else .next s

/-! ### VAULT and WATCH (R64, R479) -/

/-- Whether stage 1 is over: every stack sleeps and the FIFOs are empty, or 100 ms have passed. -/
def State.stage1Over (s : State) (t : Nat) : Bool :=
  s.passed t (msTicks 100) ||
  (s.galIds.all (fun n => !(s.strOn n && s.trunkUp n) || (s.g n).trunk.idle) && (s.cans.all (fun c => c.fifo.isEmpty && c.waitq.isEmpty)))

/-- Stage 2 begins: the mode change is recorded and the recorder flushed. -/
def State.stage2 (s : State) (m : Mode) (t : Nat) : State :=
  let s := (s.fifoDrain 0).fifoDrain 1
  let s := s.record 0x0002 0 0 0 [BitVec.ofNat 8 s.mode.code, BitVec.ofNat 8 m.code, 1]
  s.startFlush.updMd (fun r => { r with transit := if m = .vault then .toVault 2 t else .toWatch 2 t })

/-- Whether stage 2 is over: the flush is done, or 150 ms have passed since the request. -/
def State.stage2Over (s : State) (t : Nat) : Bool := s.recd.flushTo.isNone || s.passed t (msTicks 150)

/-- VAULT_ENTRY_STAGE1_DONE. -/
def execVaultEntryStage1Done (s : State) : Out :=
  match s.md.transit with
  | .toVault 1 t => if s.stage1Over t then .next (s.stage2 .vault t) else .next s
  | _ => .next s

/-- VAULT_ENTRY_DONE. -/
def execVaultEntryDone (s : State) : Out :=
  match s.md.transit with
  | .toVault 2 t => if s.stage2Over t then .next (s.enterVault 1) else .next s
  | _ => .next s

/-- WATCH_ENTRY_STAGE1_DONE. -/
def execWatchEntryStage1Done (s : State) : Out :=
  match s.md.transit with
  | .toWatch 1 t => if s.stage1Over t then .next (s.stage2 .watch t) else .next s
  | _ => .next s

/-- A wake from WATCH into READY (R58): plant time resumes, a horizon is written (R74), the blocks come up. -/
def State.wake (s : State) (cause : Nat) : State :=
  let s := { s with now := max s.now s.resumedTick }.writeHorizon
  let s := s.updMd (fun m => { m with transit := .none, wakeKept := none })
  ((s.toMode .ready cause true).startBlocks).channelSync

/-- WATCH (R479): tick count saved, every block OFF but for gated memory. -/
def State.enterWatch (s : State) : State :=
  let s := s.saveTick
  let s := (s.setN Obj.MODE_CTRL.RESULT 2).toMode .watch 1 false
  let s := s.forGal (fun n s => if s.trunk n = 0 then s else s.toOff n)
  let s := if s.role = 0 then s else s.roleTo 0
  let cans : List CanRt := s.cans.map (fun c => { c with nmt := 0 })
  let s := { s with sreqs := [], time := ({} : TimeRt), disp := ({} : DispRt), red := ({} : RedRt), twb := ({} : TwbRt), cans := cans }
  let s := ((s.setN Obj.TIMEBASE.STATE 0).setN Obj.TIMEBASE.SOURCE 0).setN Obj.PTP_STATUS.GM_CLASS (dfltOf Obj.PTP_STATUS.GM_CLASS).toN
  s.updMd (fun m => { m with transit := .none, watchAt := s.root })

/-- WATCH_ENTRY_DONE; a wake kept during the entry acts at once. -/
def execWatchEntryDone (s : State) : Out :=
  match s.md.transit with
  | .toWatch 2 t =>
    if s.stage2Over t then
      let kept := s.md.wakeKept
      let s := s.enterWatch
      .next (match kept with
        | some c => s.wake c
        | none => s)
    else .next s
  | _ => .next s

/-! ### Wakes (R51, R401, R402) -/

/-- A wake in VAULT: BOOT with VAUX valid, else WAKE_OUT for up to 2 s. -/
def State.vaultWake (s : State) (cause : Nat) : State :=
  if s.vauxOk then s.vaultBoot cause false
  else if s.md.wakeWait.isSome then s
  else s.updMd (fun m => { m with wakeWait := some s.root, wakeCause := cause, wakeOut := true })

/-- A wake in WATCH, or kept during the entry to it. -/
def State.watchWake (s : State) (cause : Nat) : State :=
  match s.md.transit with
  | .toWatch _ _ => if s.md.wakeKept.isSome then s else s.updMd (fun m => { m with wakeKept := some cause })
  | .none => if s.mode = .watch then s.wake cause else s
  | _ => s

/-- WAKE_IN high. -/
def execWakeIn (s : State) : Out := .next (if s.mode = .vault then s.vaultWake 8 else s.watchWake 8)

/-- CAN_A_DOMINANT_EDGE (R401): a low of 5 us or longer wakes from VAULT, one shorter than 1 us is ignored, between them as may be. -/
def execCanADominantEdge (lowUs : Nat) (s : State) : Out :=
  let (f, t) := s.take
  if s.mode ≠ .vault ∨ lowUs < 1 then .next s
  else if 5 ≤ lowUs then .next (s.vaultWake 9)
  else .next (if Config.freeBool f then t.vaultWake 9 else t)

/-- Whether a frame matches WAKE_FRAME (R402). -/
def State.wakeMatch (s : State) (port id : Nat) (ide : Bool) (data : List Byte) : Bool :=
  let w := s.getN Obj.WAKE_FRAME.ID
  let dm := s.getN Obj.WAKE_FRAME.DATA_MASK
  let dv := s.getN Obj.WAKE_FRAME.DATA
  s.getN Obj.WAKE_FRAME.ENABLE == 1 && s.getN Obj.WAKE_FRAME.BUS == port &&
  ((id ^^^ bits w 28 0) &&& s.getN Obj.WAKE_FRAME.ID_MASK) == 0 && (ide == bit w 29) &&
  (List.range 8).all (fun i =>
    let m := bits dm (8 * i + 7) (8 * i)
    m == 0 || (match data[i]? with
      | some b => ((b.toNat ^^^ bits dv (8 * i + 7) (8 * i)) &&& m) == 0
      | none => false))

/-- WAKE_FRAME: a frame received without error on the port that listens. -/
def execWakeFrame (port id : Nat) (ide : Bool) (data : List Byte) (s : State) : Out :=
  let listens := decide (s.mode = .watch) || (match s.md.transit with | .toWatch _ _ => true | _ => false)
  if listens = true ∧ s.wakeMatch port id ide data = true then .next ((s.inc Obj.WAKE_FRAME.WAKES).watchWake 0x0A) else .next s

/-- WAKE_NO_VAUX: 2 s without VAUX; WAKE_OUT is released. -/
def execWakeNoVaux (s : State) : Out :=
  match s.md.wakeWait with
  | some t =>
    if s.mode = .vault ∧ s.passed t (secTicks 2) = true then
      .next ((s.event 5).updMd (fun m => { m with wakeWait := none, wakeOut := false }))
    else .next s
  | none => .next s

/-! ### The stack check (R162, Table 5-12) -/

/-- The reason for which a string's check fails, in the order of Table 5-12; 0 when it passes. -/
def State.watchReason (s : State) (r : WatchResult) : Nat :=
  let n := r.string
  let warn := s.getQ Obj.THERMAL_COMPAT.WARN
  let temps := ((r.temps.mapIdx (fun t w => (t, w))).filter (fun e => !(s.thermPos n e.1).isEmpty)).map (·.2)
  if !r.up then 1
  else if r.nodes ≠ s.nodeCount n then 2
  else if r.cmp then 3
  else if r.volts.any (fun v => decide (s.secQ (Gal.PROT_LIMITS.CELL_OV n) < v) || decide (v < s.secQ (Gal.PROT_LIMITS.CELL_UV n))) then 4
  else if temps.any brokenWord then 8
  else if temps.any (fun w => match readingOf w with | some t => decide (warn ≤ t) | none => false) then 5
  else if r.checkFail then 6
  else if r.selfFail then 7
  else 0

/-- Whether a string is to be checked. -/
def State.watchChecks (s : State) (n : Nat) : Bool := s.strOn n && bit (s.getN Obj.WATCH_CFG.STRING_MASK) n

/-- The last step of Table 5-12: SLEEP to monitors and head, and the trunk in electrical idle. -/
def State.watchSleep (s : State) (n : Nat) : State :=
  let ms := s.getN Obj.WATCH_CFG.MONITOR_INTERVAL
  let lim := qround (s.getQ Obj.WATCH_CFG.SLEEP_T_LIMIT * 100)
  s.updG n (fun g => { g with
    head := { g.head with asleep := true, checkMs := ms }, trunk := { g.trunk with asleep := true, idle := true }
    mons := g.mons.mapIdx (fun i m => if i < s.nodeCount n then m.sleep ms lim s.root else m) })

/-- The check of one string by Table 5-12, with the reason for which it fails: SYNC_RESET once every monitor is seen, a sweep where the
voltages pass, and SLEEP where everything does. A string that gives no result has not come up. -/
def State.watchString (s : State) (results : List WatchResult) (n : Nat) : State × Nat :=
  match results.find? (fun r => r.string == n) with
  | none => (s, 1)
  | some r =>
    let w := s.watchReason r
    let s := if w = 1 ∨ w = 2 then s else s.inc (Gal.COUNTERS.SYNC_RESETS n)
    let s := if 1 ≤ w ∧ w ≤ 4 then s else s.inc (Gal.COUNTERS.SWEEPS n)
    (if w = 0 then s.watchSleep n else s, w)

/-- The checks of strings in turn up to the first that fails. -/
def State.watchStrings (results : List WatchResult) : List Nat → State → State × Option (Nat × Nat)
  | [], s => (s, none)
  | n :: ns, s =>
    let r := s.watchString results n
    if r.2 = 0 then State.watchStrings results ns r.1 else (r.1, some (n, r.2))

/-- WATCH_CHECK: every CHECK_INTERVAL; a failed check ends WATCH. The check of Table 5-12 is one step and whole, so nothing comes in between. -/
def execWatchCheck (results : List WatchResult) (s : State) : Out :=
  if s.mode ≠ .watch ∨ s.md.transit ≠ .none ∨ s.passed s.md.watchAt (secTicks (s.getN Obj.WATCH_CFG.CHECK_INTERVAL)) = false then .next s
  else
    let s := s.updMd (fun m => { m with watchAt := s.root })
    match State.watchStrings results (s.galIds.filter s.watchChecks) s with
    | (s, some (n, w)) => .next ((s.setN Obj.WATCH_CFG.LAST_FAIL (n + 256 * w)).wake 0x0B)
    | (s, none) => .next ((s.setN Obj.WATCH_CFG.LAST_CHECK s.resumedTick).inc Obj.WATCH_CFG.CHECKS)

/-! ### The recovery ladder (R68 to R70) -/

/-- Step 2 on a Gallery and its trunk (R93): refused while the string is energised. RESULT reads 1 until the Flight is trained again. -/
def State.galRestart (s : State) (n : Nat) : Except Nat State :=
  if s.energised n then .error abortState
  else
    let s := (s.specOff n).tileReset n
    let b := s.bankOf n
    let s := (s.updProt n (fun p => { p with bank1 := b, bank2 := b })).clear (Gal.PROT_STATUS.STANDING n) 0x80
    .ok (if s.strOn n then (s.setN (Gal.BLOCK_CTRL.RESULT n) 1).toAcquire n else s.setN (Gal.BLOCK_CTRL.RESULT n) 2)

/-- Step 2 on a block whose work is done at once: CAN, two-wire, Arcade port, Corridor. -/
def State.blockRestart (s : State) (cls i : Nat) : State :=
  if cls = 3 then s.portRestart i
  else if cls = 4 then (if i = 0 then s.twaRestart else s.twbRestart)
  else if cls = 5 then s.portRetrain (decide (i = 1))
  else (s.updRed (fun r => { r with corUp := false, corGood := 0 })).linkSync

/-- Step 1: the link of the class is trained again. -/
def State.blockRetry (s : State) (cls i : Nat) : State :=
  if cls = 1 then (if s.strOn i then s.toAcquire i else s)
  else if cls = 2 then s.chRetry i
  else if cls = 3 then s.portRetry i
  else if cls = 4 then (if i = 0 then s.twaRetry else s.twbRetry)
  else if cls = 5 then s.portRetrain (decide (i = 1))
  else (s.updRed (fun r => { r with corUp := false, corGood := 0 })).linkSync

/-- Instances of a block class (Table under RESET_LADDER:01). -/
def State.blockCount (s : State) (cls : Nat) : Nat :=
  if cls = 0 then 1 else if cls = 1 then s.part.galleries else if cls = 2 then 16
  else if cls = 3 ∨ cls = 4 ∨ cls = 5 then 2 else if cls = 6 then 1 else 0

/-- A write of REQUEST of RESET_LADDER. A step 2 on the CAN controller or the two-wire port that carried the request waits until the
response has left (R69). -/
def ladderEff (v : Val) (s : State) : Except Nat State :=
  let w := v.toN
  let step := bits w 7 0
  let cls := bits w 15 8
  let i := bits w 23 16
  if step = 0 ∨ 3 < step ∨ s.blockCount cls ≤ i ∨ (step = 3 ∧ cls ≠ 0) ∨ (step ≠ 3 ∧ cls = 0) then .error abortRange
  else
    let s := s.setN Obj.RESET_LADDER.RESULT 1
    let done := fun (t : State) => t.setN Obj.RESET_LADDER.RESULT 2
    if step = 3 then .ok (s.resetDecide 5 false)
    else if step = 1 then .ok (done (s.blockRetry cls i))
    else if cls = 1 then
      (s.galRestart i).map (fun t =>
        if t.getN (Gal.BLOCK_CTRL.RESULT i) = 1 then t.updMd (fun m => { m with ladderGal := some i }) else done t)
    else if cls = 2 then (chCommandEff i (.n 1) s).map done
    else
      let carried := match s.origin with
        | .sdo p _ => decide (cls = 3) && decide (i = p)
        | .mailbox => decide (cls = 4) && decide (i = 1)
        | _ => false
      .ok (if carried then s.updMd (fun m => { m with stepAfter := some (cls, i) }) else done (s.blockRestart cls i))

/-- A step 2 that waited for its response to leave. -/
def State.stepNow (s : State) (cls i : Nat) : State :=
  if s.md.stepAfter = some (cls, i) then
    ((s.updMd (fun m => { m with stepAfter := none })).blockRestart cls i).setN Obj.RESET_LADDER.RESULT 2
  else s

/-- LADDER_RETRY: step 1. -/
def execLadderRetry (path : Path) (cls inst : Nat) (s : State) : Out :=
  .next (s.write path 0x2002 1 (leBytes 4 (1 + 256 * (cls % 256) + 65536 * (inst % 256))) ladderEff)
/-- LADDER_REINITIALISE: step 2. -/
def execLadderReinitialise (path : Path) (cls inst : Nat) (s : State) : Out :=
  .next (s.write path 0x2002 1 (leBytes 4 (2 + 256 * (cls % 256) + 65536 * (inst % 256))) ladderEff)
/-- LADDER_DEVICE_RESET: step 3 on class 0x00. -/
def execLadderDeviceReset (path : Path) (s : State) : Out := .next (s.write path 0x2002 1 (leBytes 4 3) ladderEff)

/-- BLOCK_CTRL COMMAND (R93). -/
def blockCtrlEff (n : Nat) (_ : Val) (s : State) : Except Nat State := s.galRestart n

/-- BLOCK_CTRL_REINITIALISE. -/
def execBlockCtrlReinitialise (path : Path) (n : Nat) (s : State) : Out :=
  .next (s.write path (0x403F + 0x40 * n) 1 [1] (blockCtrlEff n))

/-! ### Pins that follow the mode -/

/-- CAN_x_STB: high in VAULT, and in WATCH for a port that does not listen for the wake frame (chapter 18). -/
def State.canStb (s : State) (p : Nat) : Bool :=
  decide (s.mode = .vault) ||
  (decide (s.mode = .watch) && !(s.getN Obj.WAKE_FRAME.ENABLE == 1 && s.getN Obj.WAKE_FRAME.BUS == p))

/-- SFP_x_TXDIS: high while the ports are inactive (R324, chapter 18). -/
def State.txDis (s : State) : Bool := s.getN Obj.ARCADE_STATUS.BYPASS == 0

end Sys2Proof.Machine
end

