-- ==== Sys2Proof/Machine/Dictionary.lean ====
section
/-! DEFINITION. General access to the dictionary: the effect of a write of any object, what any object reads as, the windows of the
per-cell arrays, and the rows of chapter 3 that are accesses (R76 to R102). -/
namespace Sys2Proof.Machine

/-! ### PDO mappings and COB-IDs (R395, Table 3-5) -/

/-- Bytes of a mapped object; none where the entry cannot be mapped into an RPDO (`tx` false) or a TPDO (R395). -/
def mappedSize (p : Part) (tx : Bool) (w : Nat) : Option Nat :=
  if !indexExists p (bits w 31 16) then none
  else match rowOf (bits w 31 16) (bits w 15 8) with
    | none => none
    | some r =>
      let kind := match r.ty with
        | .str | .octets _ | .domain => false
        | _ => true
      let acc := decide (r.acc = .rw) || (tx && decide (r.acc = .ro))
      match r.ty.size with
      | some k => if kind && acc && decide (bits w 7 0 = 8 * k) then some k else none
      | none => none

/-- The entries of a PDO's mapping in force: PDO i of the TPDOs or of the RPDOs. -/
def State.mapOf (s : State) (tx : Bool) (i : Nat) : List Nat :=
  let index := (if tx then 0x1A00 else 0x1600) + i
  (List.range (s.getN (keyOf index 0))).map (fun k => s.getN (keyOf index (k + 1)))

/-- The length of a PDO by its mapping. -/
def State.pdoLen (s : State) (tx : Bool) (i : Nat) : Nat := ((s.mapOf tx i).map (fun w => bits w 7 0 / 8)).sum

/-- Whether every TPDO longer than 8 bytes is selected only on ports with FD_ENABLE 1 (R395). -/
def State.fdMasksOk (s : State) : Bool :=
  (List.range 2).all (fun p => s.getN (Can.FD_ENABLE p) == 1 ||
    (List.range 32).all (fun i => !bit (s.getN (Can.TPDO_MASK p)) i || decide (s.pdoLen true i ≤ 8)))

/-- A mapping entry or the number of entries is written: the mapping must keep the rules of R395 and fit 64 bytes. -/
def mapEff (tx : Bool) (i sub : Nat) (v : Val) (s : State) : Except Nat State :=
  let t := s.put (keyOf ((if tx then 0x1A00 else 0x1600) + i) sub) v
  let entryOk := decide (sub = 0) || decide (v.toN = 0) || (mappedSize s.part tx v.toN).isSome
  let all := (t.mapOf tx i).all (fun w => (mappedSize s.part tx w).isSome)
  if entryOk && all && decide (t.pdoLen tx i ≤ 64) && (!tx || t.fdMasksOk) then .ok t else .error abortMap

/-- TPDO_MASK or FD_ENABLE of a port is written (R395). -/
def maskEff (k : Nat) (v : Val) (s : State) : Except Nat State :=
  let t := s.put k v
  if t.fdMasksOk then .ok t else .error abortMap

/-- A COB-ID that the module sends with has a base identifier, one that it receives a base or an extended one (R392). -/
def cobEff (tx : Bool) (k : Nat) (v : Val) (s : State) : Except Nat State :=
  let w := v.toN
  let ok := if tx then decide (bits w 29 11 = 0) else bit w 29 || decide (bits w 28 11 = 0)
  if ok then .ok (s.put k v) else .error abortRange

/-- The COB-ID of a PDO in force on a port: the first four have the defaults of CiA 301, the others are not valid until written. -/
def State.pdoCob (s : State) (p : Nat) (tx : Bool) (i : Nat) : Nat :=
  let key := keyOf ((if tx then 0x1800 else 0x1400) + i) 1
  let base := (if tx then 0x180 else 0x200) + 0x100 * i
  if i < 4 then s.cobId p key base true
  else match s.val key with
    | .n x => x
    | _ => 0x80000000

/-! ### The effect of a write (R76, R80) -/

/-- An effect that leaves no mark where it refuses. -/
def lift (e : Except Nat State) (s : State) : Option Nat × State :=
  match e with
  | .error c => (some c, s)
  | .ok t => (none, t)

/-- A write of 0 to 0x1003:00 clears the error field (R89). -/
def errorFieldEff (_ : Val) (s : State) : Except Nat State :=
  .ok ((List.range 17).foldl (fun s k => s.setN (keyOf 0x1003 k) 0) s)

/-- The ring key (R100). -/
def ringKeyEff (v : Val) (s : State) : Except Nat State := .ok (s.updNand (fun d => { d with ringKey := some v.toB }))

/-- A held value whose write of 0 restarts it (R88); no other value has an effect. -/
def restartHeld (k : Nat) (v : Val) (s : State) : Except Nat State := .ok (if v.toN = 0 then s.setN k 0 else s)

/-! ### Scheduled actions (R27) -/

/-- The objects that hold the target of a scheduled action: the spec names none. -/
def targetKeys : List Nat := []

/-- Whether a target of R27 is reached or passed. -/
def targetDue (now target : Nat) : Bool := decide (toSigned 32 (ofSigned 32 ((target : Int) - ((now % 2 ^ 32 : Nat) : Int))) ≤ 0)

/-- A target is accepted from 1 to 2^31 - 1 ticks ahead, else refused as out of range. -/
def scheduleEff (k : Nat) (v : Val) (s : State) : Except Nat State :=
  if targetDue s.now v.toN then .error abortRange
  else .ok { s with sched := s.sched ++ [{ target := v.toN, action := k }] }

/-- The effect of a write in a Gallery block. -/
def galEff (path : Path) (n off index sub : Nat) (v : Val) (s : State) : Option Nat × State :=
  let store := storeVal index sub v s
  match off with
  | 0x00 => if sub = 7 then lift (restoreNowEff n v s) s else lift (stringCfgEff n index sub v s) s
  | 0x02 => if sub = 0x70 then lift (commissionEff n v s) s else lift (stringCfgEff n index sub v s) s
  | 0x04 =>
    lift (if sub = 8 then syncNowEff n v s else store) s
  | 0x07 => lift (if sub = 1 then balTestEff n v s else store) s
  | 0x08 =>
    lift (if sub = 9 then restartEff n v s else store) s
  | 0x14 =>
    if sub = 9 then applyEff n v s
    else lift (if sub = 0x14 then platingClearEff n v s else if sub = 0x16 then archiveNowEff n v s else store) s
  | 0x15 => lift (if sub = 0x10 then archiveSelEff path n v s else store) s
  | 0x18 => lift (if sub = 2 then modelSetEff n v s else store) s
  | 0x1A => lift (if sub = 0x0C then replacedEff n v s else store) s
  | 0x24 => lift (if sub = 3 then energiseEff n v s else if sub = 8 then lostClearEff n v s else store) s
  | 0x30 => lift (.ok (s.put (pathKey path (keyOf index sub)) v)) s
  | 0x3F => lift (blockCtrlEff n v s) s
  | _ => lift store s

/-- The effect of a write in a channel block. -/
def chnEff (n off index sub : Nat) (v : Val) (s : State) : Option Nat × State :=
  let store := storeVal index sub v s
  match off with
  | 0x0 => lift (if sub = 5 ∨ sub = 0x0A then store else chFunctionEff n (keyOf index sub) v s) s
  | 0x1 => if sub = 9 then chApplyEff n v s else lift store s
  | 0x2 => lift (if sub = 1 then outValueEff n v s else store) s
  | 0x4 => lift (if sub = 1 then hartEnableEff n v s else store) s
  | 0x5 => lift (hartRequestEff n v s) s
  | 0xF => lift (chCommandEff n v s) s
  | _ => lift store s

/-- The effect of a write in CAN_CFG of port p. How far the head's transmission is at a FLUSH by a general write is left free. -/
def canEff (p index sub : Nat) (v : Val) (s : State) : Option Nat × State :=
  match sub with
  | 0x01 => lift (canEnableEff p v s) s
  | 0x05 => lift (maskEff (Can.FD_ENABLE p) v s) s
  | 0x06 => lift (maskEff (Can.TPDO_MASK p) v s) s
  | 0x09 =>
    let (f, t) := s.take
    let (g, t) := t.take
    (none, canFlushEff p (Config.freeBool f) (Config.freeBool g) t)
  | 0x14 => lift (restartHeld (Can.HEAD_WAIT_MAX p) v s) s
  | _ => lift (storeVal index sub v s) s

/-- The effect of a write of a communication object of Table 3-5. -/
def ciaEff (index sub : Nat) (v : Val) (s : State) : Except Nat State :=
  let k := keyOf index sub
  if index = 0x1003 then errorFieldEff v s
  else if index = 0x1005 then (if bit v.toN 30 then .error abortRange else cobEff false k v s)
  else if index = 0x1010 then storeEff v s
  else if index = 0x1011 then restoreEff v s
  else if index = 0x1014 then cobEff true k v s
  else if 0x1400 ≤ index ∧ index ≤ 0x140F ∧ sub = 1 then cobEff false k v s
  else if 0x1600 ≤ index ∧ index ≤ 0x160F then mapEff false (index - 0x1600) sub v s
  else if 0x1800 ≤ index ∧ index ≤ 0x181F ∧ sub = 1 then cobEff true k v s
  else if 0x1A00 ≤ index ∧ index ≤ 0x1A1F then mapEff true (index - 0x1A00) sub v s
  else storeVal index sub v s

/-- The effect of a write of an object at a fixed index. Whether a seal by a general write loads and verifies is left free. -/
def fixEff (path : Path) (index sub : Nat) (v : Val) (s : State) : Option Nat × State :=
  let k := keyOf index sub
  let store := storeVal index sub v s
  if index < 0x2000 then lift (ciaEff index sub v s) s
  else match index with
  | 0x2000 => lift (requestEff v s) s
  | 0x2002 => lift (ladderEff v s) s
  | 0x2008 => lift (if sub = 7 then keepChargeEff v s else store) s
  | 0x2101 =>
    lift (if sub = 1 ∨ sub = 2 then ptpCfgEff k v s else if sub = 5 ∨ sub = 6 ∨ sub = 0x0C then ppsCfgEff k v s else store) s
  | 0x2200 =>
    lift (if sub = 1 then recFlushEff v s
      else if sub = 0x0A then (restartHeld k v s).map (fun t => t.levelSync) else store) s
  | 0x2201 =>
    lift (if sub = 7 then snapCountEff path v s else if sub = 6 ∨ sub = 8 then .ok (s.put (winKey path sub) v) else store) s
  | 0x2300 => lift (if sub = 1 then updCommandEff path v s else if sub = 9 then ownerKeyEff v s else store) s
  | 0x2301 => lift (updateDataEff path v s) s
  | 0x2400 =>
    lift (if sub = 1 then redundancyEnableEff v s else if sub = 8 then swapEff v s else if sub = 0x0A then reArmEff v s else store) s
  | 0x2500 => lift (if sub = 1 then arcadeEnableEff v s else if sub = 2 then ringKeyEff v s else store) s
  | 0x2600 => lift (if sub = 6 then twaTriggerEff v s else store) s
  | 0x2900 =>
    if sub = 1 then
      let (f, t) := s.take
      let (g, t) := t.take
      sealEff (Config.freeBool f) (Config.freeBool g) v t
    else lift (if sub = 4 then sealDiscardEff v s else store) s
  | 0x2904 => lift (lockoutResetEff v s) s
  | 0x3400 => lift (if sub = 1 then dispatchEnableEff v s else store) s
  | 0x3401 => lift (if sub = 1 then pDemandEff v s else if sub = 2 then leaderTargetEff path v s else store) s
  | _ => lift store s

/-- The effect of an accepted write of any object: a sticky word loses the bits written as 1 (R45), an rw-S object changes the pending
set (R83), every other object has the effect of its chapter. -/
def objEff (path : Path) (index sub : Nat) (v : Val) (s : State) : Option Nat × State :=
  match rowOf index sub with
  | none => (some abortNoSub, s)
  | some r =>
    if r.w1c then (none, s.clear (keyOf index sub) v.toN)
    else if r.acc = .rwS then lift (rwSEff index sub v s) s
    else if targetKeys.contains (keyOf index sub) then lift (scheduleEff (keyOf index sub) v s) s
    else match placeOf index with
      | (.gal, off) => galEff path (galOf index) off index sub v s
      | (.chn, off) => chnEff (chnOf index) off index sub v s
      | (.can, _) => canEff (index - 0x2700) index sub v s
      | (.fix, i) => fixEff path i sub v s

/-- A write of any object. -/
def State.writeObj (s : State) (path : Path) (index sub : Nat) (d : List Byte) : State :=
  s.writeX path index sub d (objEff path index sub)

/-! ### Per-cell arrays (R94 to R96) -/

/-- Bytes per entry of an array (Table 3-10). -/
def entrySize (a : Nat) : Nat := if a = 6 then 12 else if a = 8 then 1 else if a = 9 then 2 else 4

/-- Balance state of a position (Table 3-10, Table 5-7): inhibited is one that balancing may not close although a mode is set. -/
def State.balState (s : State) (n p : Nat) : Nat :=
  let c := s.cell n p
  if (s.g n).bal.phase ≠ .idle ∧ (s.g n).bal.pos = p then 2 else if c.swFault then 4 else if c.balClosed then 1
  else if decide (s.getN (Gal.BALANCE_CFG.MODE n) ≠ 0) && !s.eligible n p then 3 else 0

/-- One entry of an array, and the plant time of the superframe it comes from; of one that is not available, that of its last value, 0 where
there was none (R11). -/
def State.cellEntry (s : State) (n a tone p : Nat) : List Byte × Nat :=
  let c := s.cell n p
  let m := (s.g n).meas.tick
  let one := fun (x : Option Q) (t : Nat) => (real4 x, t)
  let est := fun (x : Q) => one (if c.est.ready then some x else none) c.est.tick
  match a with
  | 1 => (real4 c.v, m)
  | 2 => one c.temp c.tempAt
  | 3 => est c.est.soc
  | 4 => est (divF s.free c.est.c (s.getQ (Gal.ESTIM_CFG.RATED_CAPACITY n)))
  | 5 => est c.est.ohm
  | 6 =>
    match c.z[tone]? with
    | some z => (real4 (some z.1) ++ real4 (some z.2.1) ++ real4 (some z.2.2), c.zAt)
    | none => (real4 none ++ real4 none ++ real4 none, c.zAt)
  | 7 => one (s.coreT n p) c.coreAt
  | 8 => (leBytes 1 (s.balState n p), m)
  | _ => (leBytes 2 (c.flagWord ||| (4 * b2n (c.est.why.contains .poisoned))), m)

/-- The reply of CELL_WINDOW for a selector (Table 3-9). -/
def State.windowReply (s : State) (n sel : Nat) : List Byte :=
  let a := bits sel 7 0
  let tone := bits sel 15 8
  let first := bits sel 31 16
  let count := bits sel 47 32
  let es := (List.range count).map (fun k => s.cellEntry n a tone (first + k))
  let m := (s.g n).meas.tick
  let oldest := es.foldl (fun x e => if s.aged x < s.aged e.2 then e.2 else x) m
  let age := (s.aged oldest - s.aged m) / 10000
  leBytes 1 a ++ leBytes 1 tone ++ leBytes 2 first ++ leBytes 2 count ++ leBytes 2 (entrySize a) ++
  leBytes 8 oldest ++ leBytes 4 (min age 0xFFFFFFFF) ++ leBytes 4 0 ++ es.flatMap (·.1)

/-- A read of CELL_WINDOW (R92, R94, R95). -/
def windowOf (path : Path) (n : Nat) (s : State) : Except Nat (List Byte × State) :=
  let sel := s.getN (pathKey path (Gal.CELL_WINDOW_SEL.SELECT n))
  if !s.strOn n then .error abortNoData
  else if !selectOk s n sel then .error abortRange
  else .ok (s.windowReply n sel, s)

/-! ### What objects read as -/

/-- Milliseconds since a root tick, 0xFFFF_FFFF for never. -/
def State.msSince (s : State) (t : Option Nat) : Nat :=
  match t with
  | some t => min (s.since t / 312500) 0xFFFFFFFE
  | none => 0xFFFFFFFF

/-- Decimal digits. -/
def decBytes (n : Nat) : List Byte := (Nat.toDigits 10 n).map (fun c => BitVec.ofNat 8 c.toNat)

/-- 0x1008: ZS8848 or ZS8824. -/
def nameBytes (p : Part) : List Byte := ([0x5A, 0x53, 0x38, 0x38] : List Byte) ++ (match p with | .zs8848 => [0x34, 0x38] | .zs8824 => [0x32, 0x34])

/-- ORDERING_CODE: the part number, then -C-LG1296. -/
def orderingCode (p : Part) : List Byte := nameBytes p ++ [0x2D, 0x43, 0x2D, 0x4C, 0x47, 0x31, 0x32, 0x39, 0x36]

/-- 0x100A: the version of the slot in force as major.minor.build. -/
def State.versionBytes (s : State) : List Byte :=
  let v := fieldN (s.slot s.nand.active).header 24 4
  decBytes (bits v 31 24) ++ [0x2E] ++ decBytes (bits v 23 16) ++ [0x2E] ++ decBytes (bits v 15 0)

/-- KEY_CHECK (R100). -/
def State.keyCheck (s : State) : List Byte :=
  match s.nand.ringKey with
  | some k => (Config.hmac384 k (List.replicate 16 0)).toList.take 4
  | none => [0, 0, 0, 0]

/-- A field of SLOT_INFO for slot i; fields of the header only while the slot holds a verified image. -/
def State.slotInfo (s : State) (i field : Nat) : Nat :=
  let x := s.slot i
  let h := x.header
  if field = 0 then x.state
  else if x.state < 2 then 0
  else if field = 1 then fieldN h 24 4
  else if field = 2 then securityOf h
  else if field = 3 then fieldN h 8 8
  else fieldN h 22 2

/-- SCRUB_AGE (R44): the oldest completed pass of an active tile, in ms. -/
def State.scrubAge (s : State) : Nat :=
  (s.galIds.filter (fun n => s.strOn n)).foldl (fun a n => max a (s.since (s.g n).scrubDone / 312500)) 0

/-- What a communication object reads as on a path (Table 3-5). -/
def State.ciaVal (s : State) (path : Path) (index sub : Nat) : Val :=
  let p := match path with | .canB => 1 | _ => 0
  let k := keyOf index sub
  match index with
  | 0x1001 => .n s.errorRegister
  | 0x1008 => .b (nameBytes s.part)
  | 0x1009 => .b [0x43]
  | 0x100A => .b s.versionBytes
  | 0x1014 => .n (s.cobId p k 0x80 true)
  | 0x1018 =>
    match sub with
    | 1 => .n 0x49464552
    | 2 => .n s.part.hwType
    | 3 => .n 3
    | 4 => .n (s.serial % 2 ^ 32)
    | _ => s.val k
  | 0x1200 =>
    match sub with
    | 1 => .n (0x600 + (s.can p).node)
    | 2 => .n (0x580 + (s.can p).node)
    | _ => s.val k
  | _ =>
    if 0x1400 ≤ index ∧ index ≤ 0x140F ∧ sub = 1 then .n (s.pdoCob p false (index - 0x1400))
    else if 0x1800 ≤ index ∧ index ≤ 0x181F ∧ sub = 1 then .n (s.pdoCob p true (index - 0x1800))
    else s.val k

/-- What an object at a fixed index reads as: values that follow the time or the state are formed at the read. -/
def State.fixVal (s : State) (path : Path) (index sub : Nat) : Val :=
  let k := keyOf index sub
  if index < 0x2000 then s.ciaVal path index sub
  else if index = 0x2502 then
    let l := s.memberList
    if 1 ≤ sub ∧ sub ≤ 0x20 then
      match l[sub - 1]? with
      | some m => .b (s.memberBytes m (m.serial == s.serial && m.isModule))
      | none => .b (List.replicate 32 0)
    else if sub = 0x21 then .n (min 32 l.length) else s.val k
  else if index = 0x2201 then (if 6 ≤ sub then s.val (winKey path sub) else s.val k)
  else if index = 0x2600 ∧ 0x31 ≤ sub then .n (s.twaAge (sub - 0x30))
  else if index = 0x2302 then
    if sub = 1 then .n s.nand.active
    else if 2 ≤ sub ∧ sub ≤ 6 then .n (s.slotInfo 0 (sub - 2))
    else if 7 ≤ sub ∧ sub ≤ 0x0B then .n (s.slotInfo 1 (sub - 7))
    else if sub = 0x0C then .n (fieldN (safetyDigest (s.slot s.nand.active).header) 0 4)
    else s.val k
  else if index = 0x2010 then
    match sub with
    | 1 => .n s.serial
    | 2 => .n s.part.hwType
    | 3 => .b (orderingCode s.part)
    | 4 => .n Config.manufactured
    | 5 => .n Config.factoryBadBlocks
    | _ => s.val k
  else if k = Obj.DIAG.FABRIC_LOAD then
    .r (some (if s.passed s.md.bootSince (secTicks 1) then qclamp 0 1 (Config.freeQ s.free) else 0))
  else if k = Obj.DIAG.SCRUB_AGE then .n (min s.scrubAge 0xFFFFFFFF)
  else if k = Obj.MODE_STATUS.TIME_IN_MODE then .n (min 0xFFFFFFFF (s.since s.md.modeSince / 312500000))
  else if k = Obj.SUPPLY_STATUS.OPERATING_SECONDS then .n (s.operatingSeconds % 2 ^ 32)
  else if k = Obj.SAFETY_CFG.PENDING_CRC then .n s.pendingCrc
  else if k = Obj.TIMEBASE.PLANT_TIME then .n s.now
  else if k = Obj.TIMEBASE.TIME_QUALITY then .n s.timeQuality
  else if k = Obj.PTP_STATUS.CLOCK_IDENTITY then .n s.clockId
  else if k = Obj.ARCADE_CFG.KEY_CHECK then .b s.keyCheck
  else if k = Obj.UPDATE_CTRL.TRIAL_LEFT then .n s.trialLeft
  else if k = Obj.UPDATE_CTRL.FUSES then .n s.nand.fuses
  else if k = Obj.UPDATE_CTRL.OWNER_KEY_CHECK then .b s.ownerCheck
  else if k = Obj.UPDATE_CTRL.RUNNING_FROM then .n (b2n (decide (s.mode = .recovery)))
  else if k = Obj.DISPATCH_SETPOINT.HOST_AGE then .n (s.msSince s.disp.hostAt)
  else if k = Obj.DISPATCH_SETPOINT.LEADER_AGE then .n (s.msSince s.disp.leadAt)
  else if k = Obj.DISPATCH_STATUS.ALLOC_AGE then .n (if s.disp.allocIdx.isSome then s.msSince (some s.disp.allocAt) else 0)
  else if k = Obj.REDUNDANCY_STATUS.ACTIVE_AGE then
    .n (match s.red.activeAt with
      | some t => min (s.since t / 312500000) 0xFFFFFFFE
      | none => 0xFFFFFFFF)
  else if k = Obj.REDUNDANCY_STATUS.NOT_READY then (if s.role = 0 then s.val k else .n s.notReadyNow)
  else if k = Obj.REDUNDANCY_STATUS.MIRROR then .b (if s.red.out.isEmpty then s.corFrame else s.red.out)
  else s.val k

/-- Whether a sub-index of a Gallery block is a status object, which reads as not-a-number or 0 while the string is disabled (R92). -/
def isGalStatus (off : Nat) (r : ObjRow) : Bool :=
  (decide (r.acc = .ro) && decide (r.ty ≠ .domain) && off != 0x18 && off != 0x14 && off != 0x3F) || r.w1c

/-- What an object of a Gallery block reads as. -/
def State.galVal (s : State) (path : Path) (n off index sub : Nat) (r : ObjRow) : Val :=
  let k := keyOf index sub
  if !s.strOn n && isGalStatus off r then (match r.ty with | .real => .r none | .i8 | .i16 | .i32 | .i64 => .i 0 | _ => .n 0)
  else if off = 0x30 ∧ sub = 1 then s.val (pathKey path k)
  else if k = Gal.SPECTRUM_STATUS.ARCHIVE_SEL n then s.val (pathKey path k)
  else if k = Gal.TELEMETRY.AGE_100MS n then .n (s.msSince (some (s.g n).telem.w100.endAt))
  else if k = Gal.TELEMETRY.AGE_1S n then .n (s.msSince (some (s.g n).telem.w1s.endAt))
  else if k = Gal.ESTIM_STRING.REST_ELAPSED n then
    let e := (s.g n).est
    .n (if e.moving then 0 else min 0xFFFFFFFF (s.aged e.restAt / 312500000))
  else if k = Gal.ESTIM_STRING.SOH_R n ∧ (s.withHeld n).getQ (Gal.ESTIM_CFG.OHM_BOL n) = 0 then .r none
  else if k = Gal.ESTIM_STRING.MODEL_AGE n then .n (min 0xFFFFFFFF (s.modelAge n))
  else if k = Gal.ESTIM_STRING.AGGREGATE_AGE n then .n (s.msSince (some (s.g n).est.aggAt))
  else (s.withHeld n).val k

/-- What an object of a channel reads as. -/
def State.chnVal (s : State) (n off index sub : Nat) : Val :=
  let k := keyOf index sub
  if k = Chn.CH_STATUS.AGE n then
    .n (min 0xFFFFFFFF (s.aged (s.getN (Chn.CH_STATUS.SAMPLE_TICK n)) / 312500))
  else if k = Chn.HART_CFG.DATA_AGE n then .n (s.msSince (s.chan n).hart.dataAt)
  else if off = 5 ∧ sub = 2 then .b (s.chan n).hart.resp
  else s.val k

/-- The value of an object as a path reads it; an rw-S object reads the pending value (Table 3-3). -/
def State.objVal (s : State) (path : Path) (index sub : Nat) (r : ObjRow) : Val :=
  if r.acc = .rwS then SMap.get dfltOf s.safetySet.pendingSet (keyOf index sub)
  else match placeOf index with
    | (.gal, off) => s.galVal path (galOf index) off index sub r
    | (.chn, off) => s.chnVal (chnOf index) off index sub
    | (.can, _) => s.val (keyOf index sub)
    | (.fix, i) => s.fixVal path i sub

/-- The held peak of a sub-index (R197). -/
def peakOfSub (off sub : Nat) : Option Nat :=
  if off = 0x10 ∧ 0x0D ≤ sub ∧ sub ≤ 0x0F then some (sub - 0x0D)
  else if off = 0x11 ∧ 0x09 ≤ sub ∧ sub ≤ 0x10 then some (sub - 0x09 + 3)
  else none

/-- A read of any object: its bytes, and what the read itself changes. A DOMAIN with nothing to send is refused (R97). -/
def readOf (path : Path) (index sub : Nat) (s : State) : Except Nat (List Byte × State) :=
  match rowOf index sub with
  | none => .error abortNoSub
  | some r =>
    let plain : Except Nat (List Byte × State) :=
      let d := encodeVal r.ty (s.objVal path index sub r)
      if d.isEmpty then .error abortNoData
      else .ok (d, if index = 0x1001 ∨ index = 0x5F00 then { s with free := s.free + 1 } else s)
    match placeOf index with
    | (.gal, off) =>
      let n := galOf index
      if off = 0x31 ∧ sub = 1 then windowOf path n s
      else if off = 0x15 ∧ sub = 0x11 then archiveReadOf path n s
      else match peakOfSub off sub with
        | some i => if s.strOn n then peakReadOf n i s else plain
        | none => plain
    | (.chn, off) =>
      if off = 5 ∧ sub = 2 ∧ s.getN (Chn.HART_XFER.XFER_STATE (chnOf index)) ≠ 3 then .error abortNoData else plain
    | (.fix, i) => if i = 0x2202 ∧ sub = 1 then recReadOf path s else plain
    | (.can, _) => plain

/-- A read of any object. -/
def State.readObj (s : State) (path : Path) (index sub : Nat) : State := s.readWith path index sub (readOf path index sub)

/-! ### Rows of the chapter that are accesses -/

/-- REGISTER_WRITE (R80): a write of any object. -/
def execRegisterWrite (path : Path) (index sub : Nat) (data : List Byte) (s : State) : Out := .next (s.writeObj path index sub data)

/-- The held values that a write of 0 restarts (R46, R88). -/
def heldKeys : List Nat := [Can.HEAD_WAIT_MAX 0, Can.HEAD_WAIT_MAX 1, Obj.RECORDER_CTRL.BUFFER_PEAK]

/-- What hardware sets in the cycle of a software clear stands after it: the bits of a sticky word (R45), the new peak of a held value
(R46). -/
def State.hwSets (s : State) (index sub hw : Nat) : State :=
  let k := keyOf index sub
  match rowOf index sub with
  | some r =>
    let m := match r.rng with
      | .mask m => hw &&& m
      | _ => hw % 2 ^ 32
    if !s.hasIndex index then s
    else if r.w1c then s.setN k (s.getN k ||| m)
    else if heldKeys.contains k then s.setN k (max (s.getN k) m)
    else s
  | none => s

/-- WRITE_ONE_TO_CLEAR (R45, R46): a write to a sticky word, or the restart of a held value, with what hardware sets in the same cycle; a
write that waits in its queue keeps it until it is served. -/
def execWriteOneToClear (path : Path) (index sub ones hwSet : Nat) (s : State) : Out :=
  match rowOf index sub with
  | some r =>
    if r.w1c || heldKeys.contains (keyOf index sub) then
      let t := s.writeObj path index sub (leBytes ((r.ty.size).getD 4) ones)
      .next (if t.last = some .queued then
        { t with sreqs := modAt t.sreqs (t.sreqs.length - 1) (fun q => { q with hw := hwSet }) }
      else t.hwSets index sub hwSet)
    else .next s
  | none => .next s

/-- CELL_WINDOW_SEL (R94, R95): the selector of the writing path. -/
def execCellWindowSel (path : Path) (n select : Nat) (s : State) : Out :=
  .next (s.writeObj path (0x4030 + 0x40 * n) 1 (leBytes 8 select))

/-- CELL_WINDOW (R94 to R96): the reply, frozen at the read. -/
def execCellWindow (path : Path) (n : Nat) (s : State) : Out := .next (s.readObj path (0x4031 + 0x40 * n) 1)

/-- ERROR_FIELD_CLEAR (R89). -/
def execErrorFieldClear (path : Path) (s : State) : Out := .next (s.write path 0x1003 0 [0] errorFieldEff)

/-- RING_KEY (R100). -/
def execRingKey (path : Path) (key : List Byte) (s : State) : Out := .next (s.write path 0x2500 2 key ringKeyEff)

/-- SCHEDULED_ACTION_FIRE (R27): a pending action whose target is reached or passed fires. No object of the spec schedules one. -/
def execScheduledActionFire (target : Nat) (s : State) : Out :=
  if targetDue s.now target then .next { s with sched := s.sched.filter (fun a => decide (a.target ≠ target)) } else .next s

end Sys2Proof.Machine
end

