-- ==== Sys2Proof/Machine/Segments.lean ====
section
/-! DEFINITION. Values in segments, as the Arcade and the mailbox of TWB carry them (R330, R410). -/
namespace Sys2Proof.Machine

/-- A segment of a write: the bytes so far and whether the value is complete. Checks 1 to 4 of R80 come first, check 4 on TOTAL; a gap or a
repeated offset is refused (R330), and the segments must add up to TOTAL. -/
def State.segWrite (s : State) (p : Path) (index sub : Nat) (part : Option (List Byte)) (offset total : Nat) (last : Bool)
    (d : List Byte) : Except Nat (List Byte × Bool) :=
  let d' := part.getD [] ++ d
  match frontCheck s p index sub with
  | .error c => .error c
  | .ok r => match lenOk r.ty index total with
    | some c => .error c
    | none =>
      if offset ≠ (part.getD []).length then .error abortSeqNo
      else if total < d'.length ∨ (last = true ∧ d'.length ≠ total) then .error abortLen
      else .ok (d', last)

/-- A segment of a frozen value from an offset on. -/
def segRead (v : List Byte) (offset max : Nat) : Except Nat (List Byte) :=
  if offset ≠ 0 ∧ v.length ≤ offset then .error abortNoData else .ok (slice v offset max)

/-- The partial value of a source for an object. -/
def partOf (l : List ArcPart) (serial index sub : Nat) : Option (List Byte) :=
  (l.find? (fun p => decide (p.serial = serial) && decide (p.index = index) && decide (p.sub = sub))).map (·.data)
/-- It is discarded. -/
def dropPart (l : List ArcPart) (serial index sub : Nat) : List ArcPart :=
  l.filter (fun p => !(decide (p.serial = serial) && decide (p.index = index) && decide (p.sub = sub)))
/-- It is replaced. -/
def setPart (l : List ArcPart) (serial index sub : Nat) (d : List Byte) : List ArcPart :=
  dropPart l serial index sub ++ [{ serial := serial, index := index, sub := sub, data := d }]

/-- The frozen value of a source for an object. -/
def frozenOf (l : List Frozen) (who index sub : Nat) : Option (List Byte) :=
  (l.find? (fun f => decide (f.path = who) && decide (f.index = index) && decide (f.sub = sub))).map (·.value)
/-- A value is frozen, or read again, at a root tick. -/
def freeze (l : List Frozen) (who index sub : Nat) (v : List Byte) (at_ : Nat) : List Frozen :=
  l.filter (fun f => !(decide (f.path = who) && decide (f.index = index) && decide (f.sub = sub))) ++
    [{ path := who, index := index, sub := sub, value := v, at_ := at_ }]

end Sys2Proof.Machine
end

