-- ==== Sys2Proof/Machine/ArcServe.lean ====
section
/-! DEFINITION. Dictionary requests over the Arcade as this module serves them (R330, R331). -/
namespace Sys2Proof.Machine

/-- A response is sent and kept: the last 8 of each source (R331). -/
def State.arcRespond (s : State) (serial id : Nat) (body : List Byte) : State :=
  let s := (s.sendPdu 4 serial id body).inc Obj.ARCADE_STATUS.REQUESTS_SERVED
  s.updArc (fun a =>
    let mine := (a.answered.filter (fun e => decide (e.1 = serial))).take 7
    { a with answered := (serial, id, body) :: mine ++ a.answered.filter (fun e => decide (e.1 ≠ serial)) })

/-- The payload of a response (Table 12-4). -/
def arcBody (o : ArcOpen) (last : Bool) (total abort : Nat) (d : List Byte) : List Byte :=
  leBytes 2 o.index ++ leBytes 1 o.sub ++ leBytes 1 (b2n last) ++ leBytes 4 o.offset ++ leBytes 4 total ++ leBytes 4 abort ++ d

/-- A refusal. -/
def State.arcAbort (s : State) (o : ArcOpen) (c : Nat) : State := s.arcRespond o.serial o.id (arcBody o true o.total c [])

/-- The segment of a frozen value that a read asks for. -/
def State.arcSegment (s : State) (o : ArcOpen) (v : List Byte) : State :=
  match segRead v o.offset o.max with
  | .error c => s.arcAbort o c
  | .ok d =>
    let whole := decide (o.offset + d.length = v.length)
    let s := (s.updArc (fun a => { a with frozen := freeze a.frozen o.serial o.index o.sub v s.root })).arcRespond o.serial o.id
      (arcBody o whole v.length 0 d)
    if whole then s.readEnd (.arcade o.serial) o.index o.sub else s

/-- What follows the access of a request. -/
def State.arcAnswer (s : State) (o : ArcOpen) : State :=
  match s.last with
  | some (.ok d) => if o.write then s.arcRespond o.serial o.id (arcBody o true o.total 0 []) else s.arcSegment o d
  | some (.abort c) => s.arcAbort o c
  | some .queued => s.updArc (fun a => { a with opens := a.opens ++ [o] })
  | _ => s

/-- The access of a request that is served, and its answer. -/
def State.arcAccess (s : State) (o : ArcOpen) (data : Option (List Byte)) : State :=
  let s := match data with
    | some d => s.writeObj (.arcade o.serial) o.index o.sub d
    | none => s.readObj (.arcade o.serial) o.index o.sub
  s.arcAnswer o

/-- A request that is served: OFFSET 0 reads and freezes the value, a later OFFSET takes a segment of the frozen value; a write takes effect
when the segment with LAST is served. -/
def State.arcRun (s : State) (o : ArcOpen) (data : List Byte) : State :=
  if o.write then
    let clean := s.updArc (fun a => { a with parts := dropPart a.parts o.serial o.index o.sub })
    match s.segWrite (.arcade o.serial) o.index o.sub (partOf s.arc.parts o.serial o.index o.sub) o.offset o.total (bit o.flags 0) data with
    | .error c => clean.arcAbort o c
    | .ok (d, true) => if o.flags / 2 ≠ 0 then clean.arcAbort o abortRange else clean.arcAccess o (some d)
    | .ok (d, false) =>
      if o.flags / 2 ≠ 0 then clean.arcAbort o abortRange
      else (s.updArc (fun a => { a with parts := setPart a.parts o.serial o.index o.sub d })).arcRespond o.serial o.id
        (arcBody o false o.total 0 [])
  else if o.max = 0 ∨ 1400 < o.max ∨ o.flags / 2 ≠ 0 then s.arcAbort o abortRange
  else if o.offset = 0 then s.arcAccess o none
  else match frozenOf s.arc.frozen o.serial o.index o.sub with
    | some v => s.arcSegment o v
    | none => s.arcAbort o abortNoData

/-- A request arrives at the Arcade dictionary queue (R99): it is served, waits, or is refused as busy. Every request takes a place, one for a
segment too. -/
def State.arcAdmit (s : State) (o : ArcOpen) (data : List Byte) : State :=
  if !s.serves (.arcade o.serial) then s
  else if s.mustWait then
    let t := State.queueUp { s with origin := .arcade o.serial o.id } (.arcade o.serial) o.write o.index o.sub data
    State.arcAnswer { t with origin := .plain } o
  else
    let t := State.arcRun { s with serveNow := true, origin := .arcade o.serial o.id } o data
    { t with serveNow := false, origin := .plain }

/-- A request that R101 has accepted: a repeated REQ_ID has its stored response sent again; one that still waits is not run twice. -/
def State.arcServe (s : State) (m : ArcMsg) (run : State → State) : State :=
  match s.arc.answered.find? (fun e => decide (e.1 = m.source) && decide (e.2.1 = m.reqId)) with
  | some (_, _, body) => s.sendPdu 4 m.source m.reqId body
  | none =>
    if s.arc.opens.any (fun o => decide (o.serial = m.source) && decide (o.id = m.reqId)) then s else run s

/-- Whether a request of a type reaches this module. -/
def State.arcFor (s : State) (m : ArcMsg) (type : Nat) : Bool :=
  s.portUp m.west && m.formOk && decide (m.type = type) && decide (m.dest = s.serial)

/-- ARCADE_READ_REQUEST: a read, or a segment of a frozen value. -/
def execArcadeReadRequest (msg : ArcMsg) (s : State) : Out :=
  if !s.arcFor msg 2 then .next s
  else
    let (s, ok) := s.accept101 msg
    let p := msg.payload
    if !ok ∨ p.length ≠ 14 then .next s
    else
      let s := s.updArc (fun a => { a with tx := [] })
      let o : ArcOpen := { serial := msg.source, id := msg.reqId, index := fieldN p 0 2, sub := fieldN p 2 1, offset := fieldN p 4 4,
                           max := fieldN p 12 2, total := 0, write := false, flags := fieldN p 3 1 }
      .next (s.arcServe msg (fun s => s.arcAdmit o []))

/-- ARCADE_WRITE_REQUEST: a segment of a write. -/
def execArcadeWriteRequest (msg : ArcMsg) (s : State) : Out :=
  if !s.arcFor msg 3 then .next s
  else
    let (s, ok) := s.accept101 msg
    let p := msg.payload
    if !ok ∨ p.length < 16 then .next s
    else
      let s := s.updArc (fun a => { a with tx := [] })
      let o : ArcOpen := { serial := msg.source, id := msg.reqId, index := fieldN p 0 2, sub := fieldN p 2 1, offset := fieldN p 4 4,
                           max := 0, total := fieldN p 8 4, write := true, flags := fieldN p 3 1 }
      .next (s.arcServe msg (fun s => s.arcAdmit o (p.drop 16)))

/-- ARCADE_FROZEN_EXPIRY: the frozen values of a source are dropped after 1 s without a read. -/
def execArcadeFrozenExpiry (serial : Nat) (s : State) : Out :=
  .next (s.updArc (fun a => { a with frozen := a.frozen.filter (fun f => !(decide (f.path = serial) && s.passed f.at_ (secTicks 1))) }))

/-- A queued request is taken out of its queue: it is run, or refused, and answered. -/
def State.arcClosed (s : State) (serial id : Nat) (run : State → ArcOpen → State) : State :=
  match s.arc.opens.find? (fun o => decide (o.serial = serial) && decide (o.id = id)) with
  | none => s
  | some o =>
    run (s.updArc (fun a => { a with
      opens := a.opens.filter (fun x => !(decide (x.serial = serial) && decide (x.id = id))), tx := [] })) o

/-- A queued request is served. -/
def State.arcServed (s : State) (serial id : Nat) (data : List Byte) : State := s.arcClosed serial id (fun s o => s.arcRun o data)
/-- A queued request has waited too long; the refusal stands in `last`. -/
def State.arcBusy (s : State) (serial id : Nat) : State := s.arcClosed serial id (fun s o => s.arcAnswer o)

end Sys2Proof.Machine
end

