-- ==== Sys2Proof/Machine/ChanSample.lean ====
section
/-! DEFINITION. The sample instants of the universal channels (R371, R372, R379): an output reads its source as any object is read. -/
namespace Sys2Proof.Machine

/-- The engineering value of an output: OUT_SOURCE read directly, or OUT_VALUE; none where it fails. -/
def State.outEng (s : State) (n : Nat) : Option Q :=
  let w := s.getN (Chn.CH_OUT.OUT_SOURCE n)
  if w = 0 then (if s.outLate n then none else s.getR (Chn.CH_OUT.OUT_VALUE n))
  else
    let index := bits w 31 16
    let gone := match placeOf index with
      | (.gal, _) => !s.strOn (galOf index)
      | _ => false
    match rowOf index (bits w 15 8), gone with
    | some r, false => (s.objVal .canA index (bits w 15 8) r).toR
    | _, _ => none

/-- A sample instant of an output (R372, R378, R379): the command, and VALUE from the readback. -/
def State.outSample (s : State) (n : Nat) : State :=
  let ch := (s.chan n).char
  let rb := s.getR (Chn.CH_OUT.READBACK n)
  let s := (s.setR (Chn.CH_STATUS.RAW n) rb).setR (Chn.CH_STATUS.VALUE n) (rb.map (fun x => (ch.fwd x).1))
  let keep := clearBits (s.getN (Chn.CH_STATUS.STATE n)) sampleBits
  match s.outEng n with
  | none => (s.chState n keep).outFail n
  | some y =>
    let (x, out) := ch.back y
    let z := s.outClamp n x
    (s.chState n (keep ||| 64 * b2n out ||| 65536 * b2n (decide (z ≠ x)))).outDrive n (some z)

/-- CHANNEL_SAMPLE (R371): the sample of a period that ends at a plant-time multiple. -/
def execChannelSample (n : Nat) (x : ChanIn) (s : State) : Out :=
  let p := s.chPeriod n
  let tick := s.now / p * p
  if !s.chRuns n || decide ((s.chan n).idx = some tick) then .next s
  else
    let s := (s.updChan n (fun c => { c with idx := some tick })).setN (Chn.CH_STATUS.SAMPLE_TICK n) tick
    let isAuto := s.chFn n == 1 && s.getN (Chn.CH_CFG.RANGE n) == 0
    let s := if s.chOut n then s.outSample n
      else if isAuto then s.chAuto n x
      else
        let r := s.getN (Chn.CH_CFG.RANGE n)
        let (y, w) := s.chRaw n r x (s.chan n).tripped
        let s := s.updChan n (fun c => { c with tripped := false })
        (s.chPublish n y (w + 0x4000 * b2n (x.limiting && (s.chFn n == 0 || s.chFn n == 2)))).setN (Chn.CH_STATUS.RANGE_NOW n) (s.chRange n)
    let s := match (s.chan n).charNext with
      | some c => s.updChan n (fun r => { r with char := c, charNext := none })
      | none => s
    if s.getN Obj.MODULE_THERMAL.ROOM_CHANNEL = n then
      .next (s.roomRead ((s.chNumber n).bind (fun t => if -40 ≤ t ∧ t ≤ 125 then some t else none)))
    else .next s

end Sys2Proof.Machine
end

