-- ==== Sys2Proof/Machine/Sdo.lean ====
section
/-! DEFINITION. The SDO server of each CAN port (R90, R397, R399): expedited, segmented and block transfers as CiA 301 defines them. Frame
layouts and the CRC of block transfers are those of CiA 301 (PRESUMED, log entry 12). -/
namespace Sys2Proof.Machine

/-! ### Frames -/

/-- One bit of the CRC of a block transfer. -/
def crc16Bit (c : Nat) : Nat := if bit c 15 then ((c * 2) % 65536) ^^^ 0x1021 else (c * 2) % 65536
/-- One byte of it. -/
def crc16Byte (c : Nat) (b : Byte) : Nat := Nat.repeat crc16Bit 8 (c ^^^ (b.toNat * 256))
/-- The CRC of a block transfer (CiA 301). -/
def crc16 (d : List Byte) : Nat := d.foldl crc16Byte 0

/-- The block size that the server states for a block download (R90: 1 to 127). -/
def blockSize : Nat := 127

/-- Change the SDO transfer of a port. -/
def State.updSdo (s : State) (p : Nat) (f : SdoRt → SdoRt) : State := s.updCan p (fun c => { c with sdo := f c.sdo })
/-- The SDO transfer of a port. -/
def State.sdo (s : State) (p : Nat) : SdoRt := (s.can p).sdo

/-- Whether a port serves SDOs: in service, and the node pre-operational or operational (R91). -/
def State.sdoOn (s : State) (p : Nat) : Bool := s.canOn p && (decide ((s.can p).nmt = 127) || decide ((s.can p).nmt = 5))

/-- A response of 8 bytes enters the FIFO, in the format of the request. -/
def State.sdoSend (s : State) (p : Nat) (d : List Byte) : State :=
  s.enqueue p { id := 0x580 + (s.can p).node, data := d, kind := .sdo, fd := (s.sdo p).fd, xfer := (s.sdo p).count }

/-- A frame with index and sub-index and four more bytes. -/
def sdoFrame (cmd index sub : Nat) (d : List Byte) : List Byte :=
  leBytes 1 cmd ++ leBytes 2 index ++ leBytes 1 sub ++ (d ++ List.replicate 4 0).take 4
/-- A segment: its command byte and up to seven bytes. -/
def segFrame (cmd : Nat) (d : List Byte) : List Byte := leBytes 1 cmd ++ (d ++ List.replicate 7 0).take 7

/-- The transfer of a port is over. -/
def State.sdoIdle (s : State) (p : Nat) : State := s.updSdo p (fun x => { x with phase := .idle })

/-- The segments of an aborted transfer that are still queued are cancelled (R399). -/
def State.sdoDrop (s : State) (p : Nat) : State :=
  let n := (s.sdo p).count
  let mine := fun (e : TxEntry) => decide (e.kind = .sdo) && decide (e.xfer = n)
  (s.updCan p (fun c => { c with waitq := c.waitq.filter (fun e => !mine e) })).cancel p mine

/-- The server aborts the transfer. -/
def State.sdoAbort (s : State) (p code : Nat) : State :=
  let x := s.sdo p
  ((s.sdoDrop p).sdoIdle p).sdoSend p (sdoFrame 0x80 x.index x.sub (leBytes 4 code))

/-- A download whose number of bytes is refused; one of checks 1 to 3 of R80 decides before it. -/
def State.sdoRefuse (s : State) (p c : Nat) : State := s.sdoAbort p (frontOr s (canPath p) (s.sdo p).index (s.sdo p).sub c)

/-! ### The answer to an access -/

/-- What follows an access of the transfer. `answer`: 0 download, 1 download segment with its toggle, 2 block download, 3 upload, 4 block
upload with its block size and whether the client takes a CRC. -/
def State.sdoAnswer (s : State) (p answer : Nat) (flag : Bool) (blk : Nat) : State :=
  let x := s.sdo p
  match s.last with
  | some (.ok d) =>
    let s := s.updSdo p (fun x => { x with at_ := s.root })
    match answer with
    | 0 => (s.sdoIdle p).sdoSend p (sdoFrame 0x60 x.index x.sub [])
    | 1 => (s.sdoIdle p).sdoSend p (segFrame (0x20 + 16 * b2n flag) [])
    | 2 => (s.sdoIdle p).sdoSend p (segFrame 0xA1 [])
    | 3 =>
      if d.length ≤ 4 then (s.sdoIdle p).sdoSend p (sdoFrame (0x43 + 4 * (4 - d.length)) x.index x.sub d)
      else (s.updSdo p (fun x => { x with phase := .upSeg d false })).sdoSend p (sdoFrame 0x41 x.index x.sub (leBytes 4 d.length))
    | _ => (s.updSdo p (fun x => { x with phase := .upBlk d 0 0 blk flag false })).sdoSend p
        (sdoFrame 0xC6 x.index x.sub (leBytes 4 d.length))
  | some (.abort c) => s.sdoAbort p c
  | some .queued => s.updSdo p (fun x => { x with phase := .waiting answer flag blk })
  | _ => s.sdoIdle p

/-- The access of a transfer, and its answer unless it waits in its queue. -/
def State.sdoAccess (s : State) (p : Nat) (data : Option (List Byte)) (answer : Nat) (flag : Bool) (blk : Nat) : State :=
  let x := s.sdo p
  let s := { s with origin := .sdo p x.count }
  let s := match data with
    | some d => s.writeObj (canPath p) x.index x.sub d
    | none => s.readObj (canPath p) x.index x.sub
  State.sdoAnswer { s with origin := .plain } p answer flag blk

/-- A new transfer of an object begins; one that is in progress is left. -/
def State.sdoBegin (s : State) (p index sub : Nat) (fd : Bool) : State :=
  s.updSdo p (fun x => { phase := .idle, index := index % 65536, sub := sub % 256, count := x.count + 1, at_ := s.root, fd := fd })

/-- A request of a transfer in progress is received. -/
def State.sdoTouch (s : State) (p : Nat) (fd : Bool) : State := s.updSdo p (fun x => { x with at_ := s.root, fd := fd })

/-- The number of bytes of an expedited download that states none: those of its object, 4 at most. -/
def expeditedLen (index sub : Nat) : Nat :=
  match rowOf index sub with
  | some r => match r.ty.size with
    | some k => min 4 k
    | none => 4
  | none => 4

/-! ### Rows: segmented transfers -/

/-- SDO_INITIATE_DOWNLOAD: an expedited download is one access; a segmented one begins. -/
def execSdoInitiateDownload (port : Nat) (req : SdoData) (expedited : Bool) (size : Option Nat) (fd : Bool) (s : State) : Out :=
  if !s.sdoOn port then .next s
  else
    let s := s.sdoBegin port req.index req.sub fd
    if expedited then .next (s.sdoAccess port (some req.data) 0 false 0)
    else
      .next ((s.updSdo port (fun x => { x with phase := .downSeg size false [] })).sdoSend port
        (sdoFrame 0x60 (s.sdo port).index (s.sdo port).sub []))

/-- SDO_DOWNLOAD_SEGMENT: the value is written when the last segment has come; its length must be the one stated. -/
def execSdoDownloadSegment (port : Nat) (toggle last : Bool) (data : List Byte) (fd : Bool) (s : State) : Out :=
  if !s.sdoOn port then .next s
  else
    let s := s.sdoTouch port fd
    match (s.sdo port).phase with
    | .downSeg size t d =>
      let d' := d ++ data
      if toggle ≠ t then .next (s.sdoAbort port abortCs)
      else if 65536 < d'.length then .next (s.sdoRefuse port abortLong)
      else if last then
        if (size.map (fun k => decide (k ≠ d'.length))).getD false then .next (s.sdoRefuse port abortLen)
        else .next (s.sdoAccess port (some d') 1 toggle 0)
      else
        .next ((s.updSdo port (fun x => { x with phase := .downSeg size (!t) d' })).sdoSend port (segFrame (0x20 + 16 * b2n toggle) []))
    | _ => .next (s.sdoAbort port abortCs)

/-- SDO_INITIATE_UPLOAD: the value is read; up to 4 bytes go at once, a longer value in segments. -/
def execSdoInitiateUpload (port index sub : Nat) (fd : Bool) (s : State) : Out :=
  if !s.sdoOn port then .next s else .next ((s.sdoBegin port index sub fd).sdoAccess port none 3 false 0)

/-- SDO_UPLOAD_SEGMENT: the next seven bytes. -/
def execSdoUploadSegment (port : Nat) (toggle : Bool) (fd : Bool) (s : State) : Out :=
  if !s.sdoOn port then .next s
  else
    let s := s.sdoTouch port fd
    match (s.sdo port).phase with
    | .upSeg left t =>
      if toggle ≠ t then .next (s.sdoAbort port abortCs)
      else
        let now := left.take 7
        let rest := left.drop 7
        let s := s.updSdo port (fun x => { x with phase := if rest.isEmpty then .idle else .upSeg rest (!t) })
        let s := if rest.isEmpty then s.readEnd (canPath port) (s.sdo port).index (s.sdo port).sub else s
        .next (s.sdoSend port (segFrame (16 * b2n toggle + 2 * (7 - now.length) + b2n rest.isEmpty) now))
    | _ => .next (s.sdoAbort port abortCs)

/-! ### Rows: block transfers -/

/-- SDO_BLOCK_DOWNLOAD_INITIATE: the server supports the CRC and states its block size. -/
def execSdoBlockDownloadInitiate (port index sub : Nat) (size : Option Nat) (crc fd : Bool) (s : State) : Out :=
  if !s.sdoOn port then .next s
  else
    let s := (s.sdoBegin port index sub fd).updSdo port (fun x => { x with phase := .downBlk size crc [] [] })
    .next (s.sdoSend port (sdoFrame 0xA4 (s.sdo port).index (s.sdo port).sub (leBytes 4 blockSize)))

/-- SDO_BLOCK_DOWNLOAD_SUBBLOCK: segments are taken in sequence; after the last of a sub-block the server tells how many it took. -/
def execSdoBlockDownloadSubblock (port seq : Nat) (last : Bool) (data : List Byte) (fd : Bool) (s : State) : Out :=
  if !s.sdoOn port then .next s
  else
    let s := s.sdoTouch port fd
    match (s.sdo port).phase with
    | .downBlk size crc d segs =>
      if seq = 0 ∨ blockSize < seq then .next (s.sdoAbort port abortSeqNo)
      else
        let good := decide (seq = segs.length + 1)
        let segs' := if good then segs ++ [(data ++ List.replicate 7 0).take 7] else segs
        if !last && decide (seq ≠ blockSize) then .next (s.updSdo port (fun x => { x with phase := .downBlk size crc d segs' }))
        else
          let d' := d ++ segs'.flatten
          if 65536 + 7 < d'.length then .next (s.sdoRefuse port abortLong)
          else
            let next : SdoPhase := if last && good then .downEnd size crc d' else .downBlk size crc d' []
            .next ((s.updSdo port (fun x => { x with phase := next })).sdoSend port
              (segFrame 0xA2 (leBytes 1 segs'.length ++ leBytes 1 blockSize)))
    | _ => .next (s.sdoAbort port abortCs)

/-- SDO_BLOCK_DOWNLOAD_END: the bytes of the last segment without data are dropped, the CRC is compared, and the value is written. -/
def execSdoBlockDownloadEnd (port unused crc : Nat) (fd : Bool) (s : State) : Out :=
  if !s.sdoOn port then .next s
  else
    let s := s.sdoTouch port fd
    match (s.sdo port).phase with
    | .downEnd size checked d =>
      let d' := d.take (d.length - unused % 8)
      if checked && decide (crc16 d' ≠ crc) then .next (s.sdoAbort port abortCrc)
      else if (size.map (fun k => decide (k ≠ d'.length))).getD false then .next (s.sdoRefuse port abortLen)
      else .next (s.sdoAccess port (some d') 2 false 0)
    | _ => .next (s.sdoAbort port abortCs)

/-- SDO_BLOCK_UPLOAD_INITIATE: a block size of 0 or above 127 is refused. -/
def execSdoBlockUploadInitiate (port index sub blksize : Nat) (crc fd : Bool) (s : State) : Out :=
  if !s.sdoOn port then .next s
  else
    let s := s.sdoBegin port index sub fd
    if blksize = 0 ∨ 127 < blksize then .next (s.sdoAbort port abortBlk)
    else .next (s.sdoAccess port none 4 crc blksize)

/-- The segments of the next sub-block of an upload, numbered from 1; the last segment of the value is marked. -/
def blockFrames : Nat → Nat → List Byte → List (List Byte)
  | 0, _, _ => []
  | k + 1, seq, d =>
    if d.length ≤ 7 then [segFrame (seq + 128) d]
    else segFrame seq (d.take 7) :: blockFrames k (seq + 1) (d.drop 7)

/-- A sub-block is sent from the bytes acknowledged on. -/
def State.sdoBlock (s : State) (p : Nat) (d : List Byte) (acked blk : Nat) (crc : Bool) : State :=
  let fs := blockFrames blk 1 (d.drop acked)
  fs.foldl (fun s f => s.sdoSend p f) (s.updSdo p (fun x => { x with phase := .upBlk d acked fs.length blk crc true }))

/-- SDO_BLOCK_UPLOAD_START: the first sub-block. -/
def execSdoBlockUploadStart (port : Nat) (fd : Bool) (s : State) : Out :=
  if !s.sdoOn port then .next s
  else
    let s := s.sdoTouch port fd
    match (s.sdo port).phase with
    | .upBlk d acked _ blk crc false => .next (s.sdoBlock port d acked blk crc)
    | _ => .next (s.sdoAbort port abortCs)

/-- SDO_BLOCK_UPLOAD_ACK: the next sub-block from the last segment taken on, or the end of the transfer with its CRC. -/
def execSdoBlockUploadAck (port ackseq blksize : Nat) (fd : Bool) (s : State) : Out :=
  if !s.sdoOn port then .next s
  else
    let s := s.sdoTouch port fd
    match (s.sdo port).phase with
    | .upBlk d acked sent _ crc true =>
      if sent < ackseq then .next (s.sdoAbort port abortSeqNo)
      else if d.length ≤ acked + 7 * ackseq then
        let unused := acked + 7 * ackseq - d.length
        .next ((s.updSdo port (fun x => { x with phase := .upEnd })).sdoSend port
          (segFrame (0xC1 + 4 * unused) (leBytes 2 (if crc then crc16 d else 0))))
      else if blksize = 0 ∨ 127 < blksize then .next (s.sdoAbort port abortBlk)
      else .next (s.sdoBlock port d (acked + 7 * ackseq) blksize crc)
    | _ => .next (s.sdoAbort port abortCs)

/-- SDO_BLOCK_UPLOAD_END: the client has taken the whole value. -/
def execSdoBlockUploadEnd (port : Nat) (s : State) : Out :=
  if !s.sdoOn port then .next s
  else match (s.sdo port).phase with
    | .upEnd => .next ((s.sdoIdle port).readEnd (canPath port) (s.sdo port).index (s.sdo port).sub)
    | _ => .next (s.sdoAbort port abortCs)

/-! ### Rows: aborts -/

/-- SDO_ABORT_TRANSFER: the client leaves the transfer; its segments still queued are cancelled (R399). -/
def execSdoAbortTransfer (port _code : Nat) (s : State) : Out :=
  if !s.sdoOn port then .next s
  else .next (((s.sdoDrop port).sdoIdle port).updSdo port (fun x => { x with count := x.count + 1 }))

/-- Whether a transfer waits for its client. -/
def SdoPhase.open? : SdoPhase → Bool
  | .idle => false
  | .waiting _ _ _ => false
  | _ => true

/-- SDO_TIMEOUT: a segmented or block transfer idle for 1,000 ms is aborted (R90). -/
def execSdoTimeout (port : Nat) (s : State) : Out :=
  let x := s.sdo port
  if s.sdoOn port = true ∧ x.phase.open? = true ∧ s.passed x.at_ (msTicks 1000) = true then .next (s.sdoAbort port abortTimeout) else .next s

/-! ### The response has left (R69) -/

/-- CAN_FRAME_TX_DONE (R397): the attempt of the head ends. When the last SDO response of the port has left, a step 2 that waited for it
runs. -/
def execCanFrameTxDone (port : Nat) (ok : Bool) (air : Nat) (s : State) : Out :=
  let t := s.txDone port ok air
  let sdo := fun (e : TxEntry) => decide (e.kind = .sdo)
  if (s.can port).fifo.any sdo && !((t.can port).fifo.any sdo || (t.can port).waitq.any sdo) then .next (t.stepNow 3 port) else .next t

/-- The outcome of a queued access of an SDO transfer: its answer, unless the transfer has been left meanwhile. -/
def State.sdoServed (s : State) (p count : Nat) : State :=
  match (s.sdo p).phase with
  | .waiting answer flag blk => if (s.sdo p).count = count then s.sdoAnswer p answer flag blk else s
  | _ => s

end Sys2Proof.Machine
end

