-- ==== Sys2Proof/Machine/Pdo.lean ====
section
/-! DEFINITION. PDOs, SYNC, the NMT resets, and the dispatch of received CAN frames (R91, R392, R395, R396). Frame layouts are those of
CiA 301 (PRESUMED, log entry 12). -/
namespace Sys2Proof.Machine

/-- Whether a port exchanges PDOs: in service and operational; Landing sends none (R91, R451). -/
def State.pdoOn (s : State) (p : Nat) : Bool := s.canOn p && decide ((s.can p).nmt = 5) && decide (s.mode ≠ .recovery)

/-! ### RPDOs (R396) -/

/-- A refused mapped write is told in FLAGS and counted (R396). -/
def State.rpdoOutcome (s : State) (p : Nat) : State :=
  match s.last with
  | some (.abort _) => (s.raise (Can.FLAGS p) 6).updCan p (fun c => { c with refused := min (c.refused + 1) 0xFFFFFFFF })
  | _ => s

/-- The mapped objects are written in mapping order. -/
def State.rpdoWrites (p : Nat) : List Nat → List Byte → State → State
  | [], _, s => s
  | w :: l, d, s =>
    let k := bits w 7 0 / 8
    let s := State.writeObj { s with origin := .rpdo p } (canPath p) (bits w 31 16) (bits w 15 8) (d.take k)
    State.rpdoWrites p l (d.drop k) (State.rpdoOutcome { s with origin := .plain } p)

/-- The length of a frame's data for a PDO: above 8 bytes the next that a DLC can code (R395). -/
def dlcLen (n : Nat) : Nat :=
  if n ≤ 8 then n else if n ≤ 12 then 12 else if n ≤ 16 then 16 else if n ≤ 20 then 20 else if n ≤ 24 then 24
  else if n ≤ 32 then 32 else if n ≤ 48 then 48 else 64

/-- A received RPDO: shorter than its mapping it is not processed, longer its extra bytes are ignored (Table 15-2); with a transmission
type of 0 to 240 it waits for the next SYNC. -/
def State.rpdoIn (s : State) (p i : Nat) (d : List Byte) : State :=
  let n := s.pdoLen false i
  if d.length < n then (s.raise (Can.FLAGS p) 5).emcy 0x8210
  else
    let s := if dlcLen n < d.length then (s.raise (Can.FLAGS p) 5).emcy 0x8220 else s
    if s.getN (keyOf (0x1400 + i) 2) ≤ 240 then
      s.updCan p (fun c => { c with held := c.held.filter (fun h => decide (h.1 ≠ i)) ++ [(i, d.take n)] })
    else State.rpdoWrites p (s.mapOf false i) d s

/-- Whether a port accepts RPDO i: selected by RPDO_MASK, valid, and with mapped objects. -/
def State.rpdoFor (s : State) (p i : Nat) : Bool :=
  s.pdoOn p && decide (i < 16) && bit (s.getN (Can.RPDO_MASK p)) i && !bit (s.pdoCob p false i) 31 && !(s.mapOf false i).isEmpty

/-- RPDO: a received RPDO. -/
def execRpdo (port i : Nat) (data : List Byte) (s : State) : Out := .next (if s.rpdoFor port i then s.rpdoIn port i data else s)

/-! ### TPDOs (R395) -/

/-- The data of a TPDO, and the state after the reads. -/
def State.tpdoData (p : Nat) : List Nat → State → List Byte × State
  | [], s => ([], s)
  | w :: l, s =>
    let k := bits w 7 0 / 8
    let (d, s) := match readOf (canPath p) (bits w 31 16) (bits w 15 8) s with
      | .ok (d, t) => (d, t)
      | .error _ => (List.replicate k 0, s)
    let (ds, s) := State.tpdoData p l s
    ((d ++ List.replicate k 0).take k ++ ds, s)

/-- Whether a port sends TPDO i. -/
def State.tpdoFor (s : State) (p i : Nat) : Bool :=
  s.pdoOn p && decide (i < 32) && bit (s.getN (Can.TPDO_MASK p)) i && !bit (s.pdoCob p true i) 31 && !(s.mapOf true i).isEmpty

/-- The runtime of a TPDO. -/
def State.tpdo (s : State) (p i : Nat) : TpdoRt := (SMap.find? (s.can p).tpdos i).getD {}

/-- TPDO i is sampled and enters the FIFO, padded where it goes in the FD format. -/
def State.tpdoSend (s : State) (p i : Nat) : State :=
  let (d, s) := State.tpdoData p (s.mapOf true i) s
  let pad := d ++ List.replicate (dlcLen d.length - d.length) 0
  let s := s.updCan p (fun c => { c with tpdos := SMap.put c.tpdos i { count := 0, sent := some d, at_ := s.root } })
  s.enqueue p { id := s.pdoCob p true i % 0x800, data := pad, kind := .tpdo, fd := decide (8 < d.length) }

/-- Whether the mapped data differ from what was last sent. -/
def State.tpdoNew (s : State) (p i : Nat) : Bool := decide ((s.tpdo p i).sent ≠ some (State.tpdoData p (s.mapOf true i) s).1)

/-- Whether the inhibit time since the last TPDO i has passed, in 100 us. -/
def State.tpdoFree (s : State) (p i : Nat) : Bool :=
  (s.tpdo p i).sent.isNone || s.passed (s.tpdo p i).at_ (usTicks (100 * s.getN (keyOf (0x1800 + i) 3)))

/-- Whether the event timer of TPDO i has run out. -/
def State.tpdoTimer (s : State) (p i : Nat) : Bool :=
  let ms := s.getN (keyOf (0x1800 + i) 5)
  decide (ms ≠ 0) && s.passed (s.tpdo p i).at_ (msTicks ms)

/-- TPDO: one of transmission type 254 or 255 is due when its data have changed or its event timer has run out, once the inhibit time
has passed. -/
def execTpdo (port i : Nat) (s : State) : Out :=
  if s.tpdoFor port i && decide (254 ≤ s.getN (keyOf (0x1800 + i) 2)) && s.tpdoFree port i && (s.tpdoNew port i || s.tpdoTimer port i) then
    .next (s.tpdoSend port i)
  else .next s

/-! ### SYNC -/

/-- A synchronous TPDO at a SYNC: type 0 when its data have changed, type n at every n-th SYNC. -/
def State.tpdoSync (s : State) (p i : Nat) : State :=
  let t := s.getN (keyOf (0x1800 + i) 2)
  if !s.tpdoFor p i || decide (240 < t) then s
  else if t = 0 then (if s.tpdoNew p i then s.tpdoSend p i else s)
  else
    let x := s.tpdo p i
    if t ≤ x.count + 1 then s.tpdoSend p i
    else s.updCan p (fun c => { c with tpdos := SMap.put c.tpdos i { x with count := x.count + 1 } })

/-- A SYNC: the RPDOs that wait for it are written, then the synchronous TPDOs are sampled. -/
def State.syncIn (s : State) (p : Nat) : State :=
  let held := (s.can p).held
  let s := s.updCan p (fun c => { c with held := [] })
  let s := held.foldl (fun s h => if s.rpdoFor p h.1 then State.rpdoWrites p (s.mapOf false h.1) h.2 s else s) s
  (List.range 32).foldl (fun s i => s.tpdoSync p i) s

/-- SYNC: a SYNC frame is received on a port. -/
def execSync (port : Nat) (s : State) : Out := .next (if s.pdoOn port then s.syncIn port else s)

/-! ### NMT resets (R91, Table 2-8) -/

/-- NMT_RESET_NODE: a ladder step 3, with the orderly stop of RUN. -/
def execNmtResetNode (port node : Nat) (s : State) : Out := .next (if s.nmtFor port node then s.resetDecide 5 false else s)

/-- The communication objects return to their stored values; the recorder's bit of the error register stays. -/
def State.comReset (s : State) : State :=
  let com := fun (k : Nat) => decide (0x100000 ≤ k) && decide (k < 0x200000) && decide (k ≠ keyOf 0x1001 0)
  let s := { s with dict := s.dict.filter (fun e => !com e.1) }
  (s.nand.saved.filter (fun e => com e.1)).foldl (fun s e => s.put e.1 e.2) s

/-- NMT_RESET_COMMUNICATION: a ladder step 2 for both CAN controllers and the objects 0x1000 to 0x1FFF. -/
def execNmtResetCommunication (port node : Nat) (s : State) : Out :=
  if s.nmtFor port node then
    .next (((s.comReset.portRestart 0).portRestart 1).setN Obj.RESET_LADDER.LAST_RESET_CAUSE 5)
  else .next s

/-! ### Received frames (R392) -/

/-- What a meaning answers, as a state. -/
def outState (o : Out) (s : State) : State :=
  match o with
  | .next t => t
  | _ => s

/-- An NMT command. -/
def State.nmtIn (s : State) (p : Nat) (d : List Byte) : State :=
  let node := fieldN d 1 1
  match fieldN d 0 1 with
  | 1 => outState (execNmtStart p node s) s
  | 2 => outState (execNmtStop p node s) s
  | 128 => outState (execNmtPreOperational p node s) s
  | 129 => outState (execNmtResetNode p node s) s
  | 130 => outState (execNmtResetCommunication p node s) s
  | _ => s

/-- An SDO request frame of 8 bytes: the row it stands for, by its command specifier and, in a block download, by the transfer. -/
def sdoMeaning (s : State) (p : Nat) (d : List Byte) (fd : Bool) : Out :=
  let c := fieldN d 0 1
  let index := fieldN d 1 2
  let sub := fieldN d 3 1
  let size := if bit c 0 then some (fieldN d 4 4) else none
  let bsize := if bit c 1 then some (fieldN d 4 4) else none
  let inBlock := match (s.sdo p).phase with
    | .downBlk _ _ _ _ => true
    | _ => false
  if c = 0x80 then execSdoAbortTransfer p (fieldN d 4 4) s
  else if inBlock then execSdoBlockDownloadSubblock p (c % 128) (bit c 7) (slice d 1 7) fd s
  else match bits c 7 5 with
    | 0 => execSdoDownloadSegment p (bit c 4) (bit c 0) (slice d 1 (7 - bits c 3 1)) fd s
    | 1 =>
      let n := if bit c 0 then 4 - bits c 3 2 else expeditedLen index sub
      execSdoInitiateDownload p { index := index, sub := sub, data := slice d 4 n } (bit c 1) size fd s
    | 2 => execSdoInitiateUpload p index sub fd s
    | 3 => execSdoUploadSegment p (bit c 4) fd s
    | 5 => (match bits c 1 0 with
      | 0 => execSdoBlockUploadInitiate p index sub (fieldN d 4 1) (bit c 2) fd s
      | 1 => execSdoBlockUploadEnd p s
      | 2 => execSdoBlockUploadAck p (fieldN d 1 1) (fieldN d 2 1) fd s
      | _ => execSdoBlockUploadStart p fd s)
    | 6 =>
      if bit c 0 then execSdoBlockDownloadEnd p (bits c 4 2) (fieldN d 1 2) fd s
      else execSdoBlockDownloadInitiate p index sub bsize (bit c 2) fd s
    | _ => if s.sdoOn p then .next ((s.sdoTouch p fd).sdoAbort p abortCs) else .next s

/-- An SDO request frame; one that is not 8 bytes long is malformed. -/
def State.sdoIn (s : State) (p : Nat) (d : List Byte) (fd : Bool) : State :=
  if d.length = 8 then outState (sdoMeaning s p d fd) s
  else if s.sdoOn p then (s.sdoTouch p fd).sdoAbort p abortCs else s

/-- Whether a frame carries a COB-ID: bit 29 tells an extended identifier. -/
def cobMatch (cob : Nat) (f : CanFrame) : Bool :=
  f.ide == bit cob 29 && f.id == (if bit cob 29 then cob % 2 ^ 29 else cob % 0x800)

/-- A data frame is dispatched by its identifier. -/
def State.frameIn (s : State) (p : Nat) (f : CanFrame) : State :=
  let basic := !f.ide
  if basic ∧ f.id = 0 then (if 2 ≤ f.data.length then s.nmtIn p f.data else s)
  else if basic ∧ f.id = 0x600 + (s.can p).node then s.sdoIn p f.data f.fd
  else if basic ∧ 0x700 < f.id ∧ f.id ≤ 0x77F then (if f.data.isEmpty then s else s.heartbeatIn p (f.id - 0x700))
  else if cobMatch (s.getN (keyOf 0x1005 0)) f then (if s.pdoOn p then s.syncIn p else s)
  else
    ((List.range 16).filter (fun i => s.rpdoFor p i && cobMatch (s.pdoCob p false i) f)).foldl
      (fun s i => if s.rpdoFor p i then s.rpdoIn p i f.data else s) s

/-- CAN_FRAME_RX: a frame received without error. A remote frame is ignored, an FD frame is none with FD_ENABLE 0 (R392); a frame that
finds the receive buffer full is lost (Table 15-2). -/
def execCanFrameRx (port : Nat) (f : CanFrame) (s : State) : Out :=
  let st := s.getN (Can.STATE port)
  if !s.canOn port ∨ st = 0 ∨ st = 3 then .next s
  else if f.fd = true ∧ (s.getN (Can.FD_ENABLE port) = 0 ∨ s.mode = .recovery) then .next s
  else if f.overrun then .next ((s.raise (Can.FLAGS port) 3).emcy 0x8110)
  else
    let s := s.inc (Can.RX_FRAMES port)
    if f.rtr then .next s else .next (s.frameIn port f)

end Sys2Proof.Machine
end

