-- ==== Sys2Proof/Machine/Twb.lean ====
section
/-! DEFINITION. TWB as a target: its windows, the control page, and the mailbox (R408 to R410, R451). -/
namespace Sys2Proof.Machine

/-! ### What the windows show -/

/-- The bytes of a field of a window from its offset on, little-endian. -/
def fieldByte (off len v a : Nat) : Byte := (leBytes len v).getD (a - off) 0

/-- A byte of the mailbox that nothing has written reads as 0. -/
def noByte (_ : Nat) : Byte := 0

/-- The mailbox window (Table 15-6). -/
def State.mailByte (s : State) (a : Nat) : Byte :=
  let t := s.twb
  let r := t.rsp
  if a < 0x12 then (if a = 6 ∨ a = 7 then 0 else SMap.get noByte t.mem a)
  else if a = 0x40 then BitVec.ofNat 8 r.id
  else if a = 0x41 then (if t.req.isSome then 1 else BitVec.ofNat 8 r.state)
  else if 0x44 ≤ a ∧ a < 0x48 then fieldByte 0x44 4 r.abort a
  else if 0x48 ≤ a ∧ a < 0x4C then fieldByte 0x48 4 r.total a
  else if 0x4C ≤ a ∧ a < 0x4E then fieldByte 0x4C 2 r.data.length a
  else if 0x1000 ≤ a ∧ a < 0x5000 then SMap.get noByte t.mem a
  else if 0x5000 ≤ a ∧ a < 0x9000 then r.data.getD (a - 0x5000) 0
  else 0

/-- The control page (Table 15-7). -/
def State.controlByte (s : State) (a : Nat) : Byte :=
  if a = 0xFFC0 then BitVec.ofNat 8 (s.getN Obj.TWB_CFG.WINDOW)
  else if a = 0xFFC1 then 1
  else if 0xFFC2 ≤ a ∧ a < 0xFFC4 then fieldByte 0xFFC2 2 (s.getN Obj.TWB_CFG.ALERT_PENDING) a
  else if 0xFFC4 ≤ a ∧ a < 0xFFC8 then fieldByte 0xFFC4 4 (s.getN Obj.TWB_CFG.FLAGS) a
  else 0

/-- The bytes of an object as the status window shows it. -/
def State.shown (s : State) (index sub : Nat) : List Byte :=
  match rowOf index sub with
  | some r => encodeVal r.ty (s.objVal .twb index sub r)
  | none => []

/-- The status window (Table 15-8), all from one instant. -/
def State.statusBytes (s : State) : List Byte :=
  s.shown 0x2001 1 ++ s.shown 0x2001 2 ++ s.shown 0x2001 3 ++ s.shown 0x2001 4 ++ s.shown 0x2008 1 ++ s.shown 0x2008 9 ++
  s.shown 0x1001 0 ++ s.shown 0x2900 2 ++ s.shown 0x2903 1 ++ [0] ++ s.shown 0x2100 1 ++ s.shown 0x2903 2 ++ s.shown 0x2903 3 ++
  s.shown 0x3402 1

/-- The window in force; Landing serves the mailbox only (R451). -/
def State.twbWindow (s : State) : Nat := if s.mode = .recovery then 0 else s.getN Obj.TWB_CFG.WINDOW

/-- A byte as a read transaction returns it, with the snapshot of the status window. -/
def State.twbByte (s : State) (status : List Byte) (a : Nat) : Byte :=
  if 0xFFC0 ≤ a then s.controlByte a else if s.twbWindow = 0 then s.mailByte a else status.getD a 0

/-! ### The mailbox (R410) -/

/-- A number in the request header as written. -/
def State.mailField (s : State) (off len : Nat) : Nat := leNat ((List.range len).map (fun k => SMap.get noByte s.twb.mem (off + k)))

/-- The header and REQ_DATA as they stand, copied. -/
def State.mailCopy (s : State) : MailReq :=
  let op := s.mailField 1 1
  let len := s.mailField 0x10 2
  let from_ := fun (k : Nat) => SMap.get noByte s.twb.mem (0x1000 + k)
  { id := s.mailField 0 1, op := op, index := s.mailField 2 2, sub := s.mailField 4 1, isLast := bit (s.mailField 5 1) 0
    reserved := decide (s.mailField 5 1 / 2 ≠ 0), offset := s.mailField 8 4, total := s.mailField 0x0C 4, length := len
    data := if op = 2 then (List.range (min len 16384)).map from_ else [] }

/-- A response is formed; MAILBOX_DONE puts it in place. -/
def State.mailMade (s : State) (r : MailRsp) : State := s.updTwb (fun t => { t with made := some r })
/-- A refusal. -/
def State.mailAbort (s : State) (q : MailReq) (c : Nat) : State := s.mailMade { id := q.id, state := 3, abort := c }

/-- The segment of a frozen value that a request asks for. -/
def State.mailSegment (s : State) (q : MailReq) (v : List Byte) : State :=
  match segRead v q.offset q.length with
  | .error c => s.mailAbort q c
  | .ok d =>
    let s := (s.updTwb (fun t => { t with frozen := freeze t.frozen 0 q.index q.sub v s.root })).mailMade
      { id := q.id, state := 2, total := v.length, data := d }
    if q.offset + d.length = v.length then s.readEnd .twb q.index q.sub else s

/-- What follows the access of the request that runs. -/
def State.mailAnswer (s : State) : State :=
  match s.twb.req with
  | none => s
  | some q =>
    match s.last with
    | some (.ok d) => if q.op = 1 then s.mailSegment q d else s.mailMade { id := q.id, state := 2 }
    | some (.abort c) => s.mailAbort q c
    | some .queued => s
    | _ => s.updTwb (fun t => { t with req := none })

/-- The access of a request that is served, and its answer. -/
def State.mailAccess (s : State) (q : MailReq) (data : Option (List Byte)) : State :=
  let s := match data with
    | some d => s.writeObj .twb q.index q.sub d
    | none => s.readObj .twb q.index q.sub
  s.mailAnswer

/-- A request runs: reads and writes in segments follow R330. -/
def State.mailRun (s : State) (q : MailReq) : State :=
  let badLen := decide (q.length = 0) || decide (16384 < q.length)
  if q.op = 1 then
    if badLen || q.reserved then s.mailAbort q abortRange
    else if q.offset = 0 then s.mailAccess q none
    else match frozenOf s.twb.frozen 0 q.index q.sub with
      | some v => s.mailSegment q v
      | none => s.mailAbort q abortNoData
  else if q.op = 2 then
    let clean := s.updTwb (fun t => { t with parts := dropPart t.parts 0 q.index q.sub })
    match s.segWrite .twb q.index q.sub (partOf s.twb.parts 0 q.index q.sub) q.offset q.total q.isLast q.data with
    | .error c => clean.mailAbort q c
    | .ok (d, last) =>
      if badLen || q.reserved then clean.mailAbort q abortRange
      else if last then clean.mailAccess q (some d)
      else (s.updTwb (fun t => { t with parts := setPart t.parts 0 q.index q.sub d })).mailMade { id := q.id, state := 2 }
  else s.mailAbort q abortRange

/-- A request that has waited in its queue is served. -/
def State.mailServed (s : State) : State := match s.twb.req with
  | some q => s.mailRun q
  | none => s

/-- A request arrives at the dictionary server (R99, R410): it is served, waits, or is refused as busy. -/
def State.mailAdmit (s : State) (q : MailReq) : State :=
  let s := s.updTwb (fun t => { t with req := some q, made := none })
  if !s.serves .twb then s.updTwb (fun t => { t with req := none })
  else if s.mustWait then
    let t := State.queueUp { s with origin := .mailbox } .twb (decide (q.op = 2)) q.index q.sub q.data
    State.mailAnswer { t with origin := .plain }
  else { State.mailRun { s with serveNow := true, origin := .mailbox } q with serveNow := false, origin := .plain }

/-- The STOP of a transaction that wrote REQ_ID. -/
def State.mailStop (s : State) : State :=
  let q := s.mailCopy
  if q.id = 0 then s
  else if s.twb.req.isSome then s.raise Obj.TWB_CFG.FLAGS 2
  else if q.id = s.twb.rsp.id ∧ s.twb.rsp.state ≠ 0 then s
  else s.mailAdmit q

/-! ### Transactions -/

/-- The address of the k-th byte of a write: bits 15 to 6 stay fixed. -/
def wrapAddr (ptr k : Nat) : Nat := ptr / 64 * 64 + (ptr + k) % 64

/-- A byte stored in the mailbox window, as far as it is a field that is written. -/
def State.mailStore (s : State) (a : Nat) (b : Byte) : State :=
  if (a < 0x12 ∧ a ≠ 6 ∧ a ≠ 7) ∨ (0x1000 ≤ a ∧ a < 0x5000) then s.updTwb (fun t => { t with mem := SMap.set noByte t.mem a b }) else s

/-- A byte of the control page takes effect at the STOP. -/
def State.controlStore (s : State) (a : Nat) (b : Byte) : State :=
  if a = 0xFFC0 then
    (if s.mode = .recovery then s
     else if b.toNat ≤ 1 then s.setN Obj.TWB_CFG.WINDOW b.toNat else s.raise Obj.TWB_CFG.FLAGS 4)
  else if 0xFFC2 ≤ a ∧ a < 0xFFC4 then s.clear Obj.TWB_CFG.ALERT_PENDING (b.toNat * 256 ^ (a - 0xFFC2))
  else if 0xFFC4 ≤ a ∧ a < 0xFFC8 then s.clear Obj.TWB_CFG.FLAGS (b.toNat * 256 ^ (a - 0xFFC4))
  else s

/-- TWB_WRITE_TRANSACTION (R408, R409): two bytes of pointer, low byte first, then data; fewer than two bytes are ignored. A request that
the transaction starts runs before a change of window. -/
def execTwbWriteTransaction (bytes : List Byte) (s : State) : Out :=
  if !s.twbOn ∨ bytes.length < 2 then .next s
  else
    let ptr := leNat (bytes.take 2)
    let d := bytes.drop 2
    let cells := (List.range d.length).map (fun k => (wrapAddr ptr k, d.getD k 0))
    let mail := s.twbWindow == 0 && decide (ptr < 0xFFC0)
    let s := s.updTwb (fun t => { t with ptr := ptr })
    let s := if mail then cells.foldl (fun s c => s.mailStore c.1 c.2) s else s
    let s := if mail && cells.any (fun c => c.1 == 0) then s.mailStop else s
    .next (if 0xFFC0 ≤ ptr then cells.foldl (fun s c => s.controlStore c.1 c.2) s else s)

/-- TWB_READ_TRANSACTION (R408): from the pointer given, else from where the last read ended. Once a response that a step 2 of the port
waits for has been read, the step runs (R69). -/
def execTwbReadTransaction (ptr : Option Nat) (len : Nat) (s : State) : Out :=
  if !s.twbOn then .next s
  else
    let from_ := (ptr.getD s.twb.ptr) % 65536
    let addrs := (List.range len).map (fun k => (from_ + k) % 65536)
    let status := s.statusBytes
    let out := addrs.map (s.twbByte status)
    let answered := s.twb.req.isNone && s.twbWindow == 0 && addrs.any (fun a => a == 0x41)
    let s := s.updTwb (fun t => { t with ptr := (from_ + len) % 65536, out := out })
    let s := if s.twbWindow ≠ 0 ∧ addrs.any (fun a => a == 0x0C) then { s with free := s.free + 1 } else s
    .next (if answered then s.stepNow 4 1 else s)

/-- MAILBOX_DONE (R410): the response is in place, and RSP_STATE reads done or aborted. -/
def execMailboxDone (s : State) : Out :=
  match s.twb.made with
  | none => .next s
  | some r =>
    let s := s.updTwb (fun t => { t with req := none, made := none, rsp := r })
    .next ((s.inc Obj.TWB_CFG.REQUESTS).alertBit 0)

/-- MAILBOX_FROZEN_EXPIRY (R410): frozen values are dropped after 10 s without a read. -/
def execMailboxFrozenExpiry (s : State) : Out :=
  .next (s.updTwb (fun t => { t with frozen := t.frozen.filter (fun f => !s.passed f.at_ (secTicks 10)) }))

end Sys2Proof.Machine
end

