-- ==== Sys2Proof/Machine/Serve.lean ====
section
/-! DEFINITION. Service of the class S requests that wait (R99): the oldest is served, a request older than 500 ms is refused; and what
passes with time whatever is commanded (the tick of an empty queue, log entry 1). -/
namespace Sys2Proof.Machine

/-- What awaits the outcome of a request, which stands in `last`, is told. -/
def State.tell (s : State) (o : Origin) : State :=
  match o with
  | .plain => s
  | .sdo p count => s.sdoServed p count
  | .rpdo p => s.rpdoOutcome p
  | .mailbox => s.mailAnswer
  | .arcade serial id => s.arcBusy serial id

/-- A waiting request begins service: it completes or fails on its own terms (R99). -/
def State.serveReq (s : State) (r : SReq) : State :=
  let s := { s with serveNow := true, origin := r.origin }
  match r.origin with
  | .arcade serial id => { s.arcServed serial id r.data with serveNow := false, origin := .plain }
  | .mailbox => { s.mailServed with serveNow := false, origin := .plain }
  | _ =>
    let s := if r.write then (s.writeObj r.path r.index r.sub r.data).hwSets r.index r.sub r.hw
      else
        let t := s.readObj r.path r.index r.sub
        match r.origin, t.last with
        | .plain, some (.ok _) => t.readEnd r.path r.index r.sub
        | _, _ => t
    State.tell { s with serveNow := false, origin := .plain } r.origin

/-- The oldest waiting request is served, unless the server pauses. -/
def State.serveOne (s : State) : State :=
  if s.paused then s
  else match s.sreqs with
    | [] => s
    | r :: rest => State.serveReq { s with sreqs := rest } r

/-- CLASS_S_WAIT_EXPIRY (R99): every request that has waited 500 ms is refused as busy. -/
def execClassSWaitExpiry (s : State) : Out :=
  let late := s.sreqs.filter (fun r => s.passed r.at_ (msTicks 500))
  let s := { s with sreqs := s.sreqs.filter (fun r => !s.passed r.at_ (msTicks 500)) }
  .next (late.foldl (fun s r => s.busy.tell r.origin) s)

/-- The keep-cycle counter of the Vestibule after one tick of the root: 32,768 cycles a second (R23). -/
def Vestibule.tick (v : Vestibule) : Vestibule :=
  if v.alive then
    let p := v.phase + 32768
    if 312500000 ≤ p then { v with phase := p - 312500000, keepCycles := (v.keepCycles + 1) % 2 ^ 48 } else { v with phase := p }
  else v

/-- One tick of 3.2 ns: time passes, every scheduled action whose target is reached or passed fires (R27), and one waiting request is
served. -/
def State.tick (s : State) : State :=
  let now := if s.ticking then s.now + 1 else s.now
  State.serveOne { s with root := s.root + 1, now := now, vest := s.vest.tick, sched := s.sched.filter (fun a => !targetDue now a.target) }

end Sys2Proof.Machine
end

