-- ==== Sys2Proof/Machine/Superframe.lean ====
section
/-! DEFINITION. The trunk superframes at the module: reception, class P limits, telemetry (UPSTREAM_SUPERFRAME), and transmission
(DOWNSTREAM_SUPERFRAME) (chapters 1, 4, 5 and 10). -/
namespace Sys2Proof.Machine

/-! ### Reception (R107 to R112, R123) -/

/-- The qualified blocks of an upstream superframe: SF_NUM by the header or by count, whether the header qualifies, whether its K28.5
came at its tick, and the numbers of the blocks that failed. -/
structure UpIn where
  sf     : Nat
  startOk : Bool
  hdrOk  : Bool
  headOk : Bool
  respOk : Bool
  nodeOk : List Bool
deriving DecidableEq, Repr

/-- The tick at which the K28.5 is expected: one superframe after the last one, or the mean of the last 16 arrivals on a trunk that the
module does not claim (R353). -/
def State.expectTick (s : State) (n : Nat) : Option Nat :=
  let t := (s.g n).trunk
  if s.claims n || t.arrivals.isEmpty then t.expect
  else some (qround ((t.arrivals.sum : Q) / (t.arrivals.length : Q))).toNat

/-- Whether the K28.5 came within 2 ticks of its expected tick, or within 40 after a take-over (R123, R361). -/
def State.startOk (s : State) (n : Nat) (u : UpSuper) : Bool :=
  match u.trip, s.expectTick n with
  | some t, some e =>
    let w := if 0 < (s.g n).trunk.recentre then 40 else 2
    decide (t ≤ e + w) && decide (e ≤ t + w)
  | some _, none => true
  | none, _ => false

/-- The blocks qualified; more than 64 inserted symbols fail every block (R108). -/
def State.qualify (s : State) (n : Nat) (u : UpSuper) : UpIn :=
  let slack := decide (u.inserted ≤ 64)
  let start := s.startOk n u
  let hdr := start && slack && hdrGood u.header 24
  let sf := if hdr then fieldN u.header.payload 0 4 else ((s.g n).trunk.lastUp + 1) % 2 ^ 32
  { sf := sf, startOk := start, hdrOk := hdr, headOk := slack && blkGood u.head sf 64, respOk := slack && blkGood u.hresp sf 64
    nodeOk := (List.range 39).map (fun i => match u.nodes[i]? with
      | some b => slack && blkGood b sf 88
      | none => false) }

/-- The numbers of the blocks that failed: 0 header, 1 measurement, 2 responses, 2 + i node i. -/
def UpIn.failed (x : UpIn) : List Nat :=
  let all_ : List (Nat × Bool) := [(0, x.hdrOk), (1, x.headOk), (2, x.respOk)] ++ x.nodeOk.mapIdx (fun i ok => (3 + i, ok))
  all_.filterMap (fun e => if e.2 then none else some e.1)

/-- Where the K28.5 is expected next, and the arrivals of an unclaimed trunk. -/
def State.arrive (s : State) (n : Nat) (u : UpSuper) (ok : Bool) : State :=
  s.updTrunk n (fun t => { t with
    expect := match u.trip with
      | some a => if ok || decide (0 < t.recentre) then some a else t.expect
      | none => t.expect
    arrivals := match u.trip with
      | some a => (a :: t.arrivals).take 16
      | none => t.arrivals
    recentre := t.recentre - 1 })

/-! ### The header -/

/-- The one-way delay of a superframe (R123, R353). -/
def State.oneWay (s : State) (n trip : Nat) : Nat :=
  if s.claims n then (trip - 4000) / 2
  else trip - 4000 - ((s.mirStr n).map (·.delay)).getD 0

/-- The authority that the head reports (R131, R352, R363, Table 13-12). -/
def State.authHeader (s : State) (n auth : Nat) : State :=
  let t := (s.g n).trunk
  let obey := bits auth 3 2
  let port := s.ownPort
  let dual := bit auth 4
  let claims := s.claims n
  let gained := bit obey port && !bit t.obeyPort port
  let s := if obey ≠ t.obeyPort then s.setN (Gal.AUTHORITY_VIEW.LAST_CHANGE n) s.now else s
  let s := if obey = 0 ∧ t.obeyPort ≠ 0 then s.inc (Gal.AUTHORITY_VIEW.ORPHANS n) else s
  let s := if bit auth 5 && !s.flag (Gal.FLIGHT_STATUS.AUTH n) 5 then s.inc (Gal.AUTHORITY_VIEW.DUAL_FAULTS n) else s
  let s := if bit auth 5 then s.raise (Gal.FAULTS.FLIGHT_FAULTS n) 7 else s
  let s := s.setN (Gal.AUTHORITY_VIEW.OBEYED n) (b2n (bit obey port))
  let s := if dual then s
    else if t.ovl = 0 then s
    else
      let s := s.setN (Gal.AUTHORITY_VIEW.OVERLAP_LAST n) (min 255 t.ovl)
      s.setN (Gal.AUTHORITY_VIEW.OVERLAP_MAX n) (max (min 255 t.ovl) (s.getN (Gal.AUTHORITY_VIEW.OVERLAP_MAX n)))
  let s := s.setN (Gal.FLIGHT_STATUS.AUTH n) auth
  let own := if dual && claims then t.authSf + 1 else 0
  let s := s.updTrunk n (fun t => { t with
    obeyPort := obey, orphan := if obey = 0 then t.orphan + 1 else 0, ovl := if dual then t.ovl + 1 else 0, authSf := own
    noClaim := t.noClaim || (dual && claims && (decide (s.role = 5) || decide (12 ≤ own))) })
  if gained && (decide (s.role = 4) || (decide (s.role = 2) && decide (s.red.cause ≠ 0))) then
    let s := s.updTrunk n (fun t => { t with recentre := 16 })
    ((s.sendCarrierPhase n true).sendThresh n)
  else s

/-- The loop path that the head reports (Table 4-15): entries to WRAP, SPLIT and DOWN count, also one that came about while the trunk was
lost. From a change of it on the alignment is DEGRADED until COMP is written (R143). -/
def State.pathHeader (s : State) (n path : Nat) : State :=
  let t := (s.g n).trunk
  let old := s.getN (Gal.FLIGHT_STATUS.LOOP_STATE n)
  let s := (s.setN (Gal.FLIGHT_STATUS.LOOP_STATE n) path).updTrunk n (fun t => { t with pathSeen := true })
  if !t.pathSeen || old = path then s
  else
    let s := if path = 2 then s.raise (Gal.FAULTS.FLIGHT_FAULTS n) 4
      else if path = 1 then s
      else s.raise (Gal.FAULTS.FLIGHT_FAULTS n) 5
    let s := if path = 1 then s else s.inc (Gal.COUNTERS.LOOP_BREAKS n)
    let s := s.updTrunk n (fun t => { t with farSince := none })
    if s.trunkUp n then
      let s := s.toEnumerate n
      if s.claims n then (s.updTrunk n (fun t => { t with degraded := true })).alignSync n else s
    else s

/-- A running count modulo 2^16 has moved by this much. -/
def countDelta (old new : Nat) : Nat := (new + 65536 - old) % 65536

/-- The counts and faults of the header. -/
def State.countsHeader (s : State) (n : Nat) (p : List Byte) : State :=
  let t := (s.g n).trunk
  let down := fieldN p 12 2
  let code := fieldN p 14 2
  let s := if t.headSeen then
      (s.addTo (Gal.COUNTERS.DOWN_BLOCK_CRC n) (countDelta t.lastDownErr down)).addTo (Gal.COUNTERS.CODE_ERRORS n) (countDelta t.lastCodeErr code)
    else s
  let st := fieldN p 4 4
  let s := s.updTrunk n (fun t => { t with
    lastDownErr := down, lastCodeErr := code, headSeen := true, holdSf := if bit st 2 then t.holdSf + 1 else 0 })
  let s := s.setN (Gal.FLIGHT_STATUS.HEAD_STATUS n) st
  let s := if bit st 3 then s.raise (Gal.FAULTS.FLIGHT_FAULTS n) 8 else s
  let s := if bit st 10 then s.raise (Gal.FAULTS.FLIGHT_FAULTS n) 9 else s
  (s.setN (Gal.FLIGHT_STATUS.NODES_SEEN n) (fieldN p 8 1)).setN (Gal.FLIGHT_STATUS.BREAK_AFTER n) (fieldN p 10 1)

/-- A good header moves the trunk (Table 4-14): SF_NUM on a trunk not claimed, delay, and the end of ACQUIRE. -/
def State.acquireHeader (s : State) (n trip sf : Nat) : State :=
  let t := (s.g n).trunk
  let unclaimed := !s.claims n
  let s := if unclaimed && decide (3900 ≤ trip) && decide (trip ≤ 5400) && decide (sf ≠ t.sentSf) && decide (s.trunk n = 1) then
      s.updTrunk n (fun t => { t with sentSf := sf, sfNum := (sf + 1) % 2 ^ 32, grids := t.grids.map (fun g => ((sf + g.1 + 2 ^ 32 - t.sentSf) % 2 ^ 32, g.2)) })
    else s
  let t := (s.g n).trunk
  let fits := decide (sf = t.sentSf) || decide ((sf + 1) % 2 ^ 32 = t.sentSf)
  let d := s.oneWay n trip
  let good := if fits then t.good + 1 else 0
  let s := s.updTrunk n (fun t => { t with good := good, seenGood := true, delays := (d :: t.delays).take 1024 })
  if s.trunk n = 1 then
    if 16 ≤ good then
      if d ≤ 625 then (s.setN (Gal.FLIGHT_STATUS.TRUNK_DELAY n) d).toIdentify n
      else (s.raise (Gal.FAULTS.FLIGHT_FAULTS n) 2).toRetry n
    else s
  else s.setN (Gal.FLIGHT_STATUS.TRUNK_DELAY n) d

/-- What the header of a superframe says; a header that fails counts towards trunk loss and breaks the run of ACQUIRE. -/
def State.headerIn (s : State) (n : Nat) (u : UpSuper) (x : UpIn) : State :=
  if x.hdrOk then
    let p := u.header.payload
    let s := s.updTrunk n (fun t => { t with bad := 0, lastUp := x.sf })
    let s := (s.pathHeader n (fieldN p 9 1)).countsHeader n p
    let s := s.authHeader n (fieldN p 11 1)
    let s := s.acquireHeader n (u.trip.getD 0) x.sf
    s.roleHeader (bit (fieldN p 11 1) 4)
  else s.updTrunk n (fun t => { t with bad := t.bad + 1, good := 0, lastUp := x.sf })

/-! ### Measurements -/

/-- A signed 32-bit field in thousandths. -/
def milli (p : List Byte) (off : Nat) : Q := (fieldI p off 4 : Q) / 1000

/-- The head measurement of superframe k, with its sample instant (R135, R202). -/
def State.headIn (s : State) (n : Nat) (u : UpSuper) (x : UpIn) : State :=
  let t := (s.g n).trunk
  let prev := (x.sf + 2 ^ 32 - 1) % 2 ^ 32
  let (grid, at_) := match t.grids.find? (fun g => g.1 == prev) with
    | some g => g.2
    | none => (s.now / 10000 - 1, s.getN (Gal.SAMPLE_SCHED.SAMPLE_AT n))
  let tick := if at_ = 0xFFFF then grid * 10000 + s.getN (Gal.SAMPLE_SCHED.SAMPLE_PHASE n)
    else grid * 10000 + s.meanDelay n + 64 + at_
  let p := u.head.payload
  let align := decide (s.getN (Gal.SAMPLE_SCHED.ALIGN_STATE n) = 3) || decide (t.recentre = 16)
  let old := (s.g n).meas
  let m : HeadMeas := { old with
    fresh := u.complete && x.hdrOk && x.headOk, whole := u.complete, hdrOk := x.hdrOk, headOk := x.headOk, sf := x.sf, tick := tick
    alignStep := align, grid := grid, stepped := false }
  let m := if x.headOk then
      { m with
        shunt := milli p 0, hall := milli p 4, bus := milli p 8, string := milli p 12
        phase := (List.range 8).map (fun i => milli p (16 + 4 * i)), headT := (List.range 4).map (fun i => fieldN p (48 + 2 * i) 2)
        cmp := fieldN p 56 4 }
    else m
  s.updG n (fun g => { g with meas := m })

/-- One slot (Table 4-8). A slot that fails leaves its run of SETTLING as it was. -/
def nodeIn (old : NodeMeas) (ok : Bool) (p : List Byte) : NodeMeas :=
  if ok then
    let st := fieldN p 52 4
    { ok := true, present := bit st 0, status := st, cmp := fieldN p 48 4, settle := if bit st 0 && bit st 1 then old.settle + 1 else 0
      temps := (List.range 8).map (fun i => fieldN p (56 + 2 * i) 2) }
  else { old with ok := false, present := false, cmp := 0 }

/-- The position's monitor and its place in the slot, by FLIGHT_NODES. -/
def State.placeOfPos (s : State) (n p : Nat) : Option (Nat × Nat) :=
  ((List.range' 1 39).find? (fun i => let e := s.expected n i; decide (e.1 ≤ p) && decide (p < e.1 + e.2))).map
    (fun i => (i, p - (s.expected n i).1))

/-- Slots and positions of superframe k (R115, R116, R147). -/
def State.nodesIn (s : State) (n : Nat) (u : UpSuper) (x : UpIn) : State :=
  let old := (s.g n).nodes
  let nodes := (List.range 39).map (fun i =>
    nodeIn (old.getD i {}) (x.nodeOk.getD i false) ((u.nodes[i]?.map (·.payload)).getD []))
  let stuck := nodes.any (fun m => m.ok && decide (4 < m.settle))
  let s := if stuck then s.raise (Gal.FAULTS.SAMPLE_FAULTS n) 0 else s
  let tick := (s.g n).meas.tick
  let cells := (s.g n).cells.mapIdx (fun p c =>
    match s.placeOfPos n p with
    | none => { c with v := none, noData := c.noData + 1 }
    | some (i, j) =>
      let m := nodes.getD (i - 1) {}
      let raw := fieldN ((u.nodes[i - 1]?.map (·.payload)).getD []) (3 * j) 3
      let has := m.ok && m.present && decide (raw ≠ 0x800000) && decide (m.settle ≤ 4)
      let seen := m.ok && m.present
      { c with
        v := if has then some ((toSigned 24 raw : Q) / 1000000) else none
        settling := seen && bit m.status 1, cmpOv := seen && bit m.cmp j, cmpUv := seen && bit m.cmp (16 + j)
        noData := if has then 0 else c.noData + 1, balClosed := if seen then bit m.status (16 + j) else c.balClosed, tick := tick })
  let s := s.updG n (fun g => { g with nodes := nodes, cells := cells })
  let vs := (List.range (s.posCount n)).map (fun p => s.usableV n p)
  s.updG n (fun g => { g with
    cells := g.cells.mapIdx (fun p c => match vs.getD p none with
      | some v => { c with vLast := some v }
      | none => c) })

/-- A complete superframe is the latest one for the model engine (R36); one that is not leaves the last complete one to it. -/
def State.modelIn (s : State) (n : Nat) : State :=
  let m := (s.g n).meas
  if m.fresh then
    let x : ModelIn := { sf := m.sf, tick := m.tick, i := s.stringI n, vs := (List.range (s.posCount n)).map (fun p => s.usableV n p)
                         bals := (s.g n).cells.map (·.balClosed) }
    s.updG n (fun g => { g with mdl := some x })
  else s

/-- The responses of head and monitors. -/
def State.responsesIn (s : State) (n : Nat) (u : UpSuper) (x : UpIn) : State :=
  let s := if x.respOk then
      (entriesOf u.hresp.payload).foldl (fun s e => if e.target = 0 then s.response n 0 e else s) s
    else s
  (List.range 39).foldl (fun s i =>
    if x.nodeOk.getD i false then
      match u.nodes[i]? with
      | some b =>
        let p := slice b.payload 72 16
        s.response n (i + 1) { op := fieldN p 0 1, target := fieldN p 1 1, tag := fieldN p 2 1, status := fieldN p 3 1, args := slice p 4 12 }
      | none => s
    else s) s

/-! ### Class P (R31, R33, R271) -/

/-- The first position whose voltage or bits meet a condition; 0xFFFF none. -/
def firstPos (cells : List Cell) (f : Cell → Bool) : Nat :=
  match cells.findIdx? f with
  | some p => p
  | none => 0xFFFF

/-- The causes 0 to 6 present in this superframe, with the position that shows each. -/
def State.presentCauses (s : State) (n : Nat) (x : UpIn) : List (Bool × Nat) :=
  let g := s.g n
  let b := g.prot.bank1
  let v := fun (c : Cell) (f : Q → Bool) => match c.v with
    | some y => !c.settling && f y
    | none => false
  let ov := fun (c : Cell) => v c (fun y => if g.prot.ovHold then decide (b.cellOv - b.hyst < y) else decide (b.cellOv ≤ y))
  let uv := fun (c : Cell) => v c (fun y => if g.prot.uvHold then decide (y < b.cellUv + b.hyst) else decide (y ≤ b.cellUv))
  let gone := fun (c : Cell) => decide (2 ≤ c.noData)
  let on := fun (f : Cell → Bool) => (g.cells.any f, firstPos g.cells f)
  [on ov, on uv, on (·.cmpOv), on (·.cmpUv), (x.headOk && decide (g.meas.cmp ≠ 0), 0xFFFF),
   if s.energised n then on gone else (false, 0xFFFF),
   (x.failed.any (fun k => g.prot.badBlk.contains k), 0xFFFF)]

/-- One of the causes 0 to 6: it stands while present and for less than 4 superframes without. -/
def State.causeIn (s : State) (n i : Nat) (present advance : Bool) (pos : Nat) : State :=
  let k := (s.g n).prot.absent.getD i 4
  let k := if present then 0 else if advance then k + 1 else k
  let s := s.updProt n (fun p => { p with absent := modAt p.absent i (fun _ => min k 4) })
  s.setCause n i (decide (k < 4)) pos

/-- The bitmap copies of a superframe reach each channel on its own path (R18, R273): causes 2 to 4 as each detects them. -/
def State.copyBitmaps (s : State) (n : Nat) (x : UpIn) : State :=
  let cs := s.presentCauses n x
  let w := maskOf 5 (fun i => decide (2 ≤ i) && (cs.getD i (false, 0)).1)
  let copy := fun (c : Channel) => if c.healthy then { c with copies := SMap.set (fun _ => 0) c.copies n w } else c
  s.updSafe (fun r => { r with newel := copy r.newel, baluster := copy r.baluster })

/-- The protection arbiter on superframe k: causes 0 to 7 and 10, and INHIBIT on a new one. -/
def State.arbiter (s : State) (n share : Nat) (x : UpIn) : State :=
  let before := s.getN (Gal.PROT_STATUS.STANDING n)
  let live := match s.trunk n with
    | 2 | 3 | 4 | 5 => true
    | _ => false
  let s := if live then
      let cs := s.presentCauses n x
      let s := s.updProt n (fun p => { p with ovHold := (cs.getD 0 (false, 0)).1, uvHold := (cs.getD 1 (false, 0)).1 })
      (List.range 7).foldl (fun s i => let c := cs.getD i (false, 0xFFFF); s.causeIn n i c.1 x.hdrOk c.2) s
    else s
  let p : ProtRt := (s.g n).prot
  let s := if p.bank1 = p.bank2 then s else s.setCause n 7 true 0xFFFF
  let latch := s.flag (Gal.FLIGHT_STATUS.HEAD_STATUS n) 1
  let s := s.copyBitmaps n x
  let s := if x.hdrOk then s.setCause n 10 (latch && decide (s.gstate n = .energised) && !p.inhSent) 0xFFFF else s
  let s := s.updProt n (fun p => { p with badOld := p.badBlk, badBlk := x.failed })
  if clearBits (s.getN (Gal.PROT_STATUS.STANDING n)) before ≠ 0 then s.inhibitInsert n (some share) else s

/-! ### What a sampled superframe feeds -/

/-- The superframe values of telemetry and its windows (R194, R195, R197). -/
def State.telemetryIn (s : State) (n : Nat) : State :=
  let m := (s.g n).meas
  if m.fresh then
    let i := s.stringI n
    let s := (s.setR (Gal.TELEMETRY.I_SF n) (some i)).setR (Gal.TELEMETRY.P_SF n) (some (i * m.string))
    let s := (s.setR (Gal.TELEMETRY.BUS_V_SF n) (some m.bus)).setR (Gal.TELEMETRY.STRING_V_SF n) (some m.string)
    let sums := [i, i * m.string, m.bus, m.string, m.hall, m.shunt]
    let s := (s.windowAdd n false m.tick sums m.phase).windowAdd n true m.tick sums m.phase
    s.peaksAdd n i m.bus (m.phase.take (s.getN (Gal.CONV_CFG.PHASES_USED n)))
  else
    [Gal.TELEMETRY.I_SF n, Gal.TELEMETRY.P_SF n, Gal.TELEMETRY.BUS_V_SF n, Gal.TELEMETRY.STRING_V_SF n].foldl (fun s k => s.setR k none) s

/-- PRE_V_DIFF: the sum of the position voltages less STRING_V (R294). -/
def State.preDiffIn (s : State) (n : Nat) : State :=
  let m := (s.g n).meas
  let vs := (s.g n).cells.filterMap (·.v)
  s.setR (Gal.ENERGISE.PRE_V_DIFF n)
    (if m.fresh && decide (vs.length = s.posCount n) then some (qsum vs - m.string) else none)

/-- The bus check of a group in a superframe of its first string (R293). -/
def State.busMatchIn (s : State) (n : Nat) : State :=
  let g := s.groupOf n
  if g < 8 ∧ (s.grp g).state = .busCheck ∧ (s.groupStrings g).head? = some n then
    let ns := s.groupStrings g
    let busOf := fun (i : Nat) => if (s.g i).meas.fresh && s.trunkUp i then some (s.g i).meas.bus else none
    let run := s.galIds.filter (fun i => s.strOn i && decide (s.gstate i = .energised))
    let ref := median ((if run.isEmpty then ns else run).filterMap busOf)
    let ok := match ref with
      | some r => ns.all (fun i => match busOf i with
        | some b => decide (qabs (b - r) ≤ s.secQ Obj.SAFETY_CFG.BUS_MATCH)
        | none => false)
      | none => false
    s.updGrp g (fun r => { r with matchSf := if ok then r.matchSf + 1 else 0 })
  else s

/-- The current of a superframe against the SRS envelope (R290) and against a lost string (R296). -/
def State.currentIn (s : State) (n : Nat) : State :=
  let ok := (s.g n).meas.fresh
  let i := qabs (s.stringI n)
  let above := ok && decide (s.gstate n = .rampDown) && decide (s.envelope n + s.secQ Obj.SAFETY_CFG.SRS_MARGIN < i)
  let zero := ok && decide (s.gstate n = .rampDown) && decide (i ≤ s.secQ Obj.SAFETY_CFG.SRS_ZERO_I)
  let lost := ok && decide (s.gstate n = .energised) && decide ((s.g n).tread.state = .running) &&
    decide (s.getQ Obj.SAFETY_CFG.LOST_CMD ≤ qabs (s.g n).tread.iDem) && decide (i < s.getQ Obj.SAFETY_CFG.LOST_I)
  s.updProt n (fun p => { p with
    srsOver := if above then p.srsOver + 1 else 0, srsZero := if zero then p.srsZero + 1 else 0
    lostCnt := if lost then p.lostCnt + 1 else 0 })

/-- FAR_LINK_UP of both TURNING monitors, those on either side of BREAK_AFTER, since when (R127). -/
def State.farIn (s : State) (n : Nat) : State :=
  let b := s.getN (Gal.FLIGHT_STATUS.BREAK_AFTER n)
  let sides := [b, b + 1].filter (fun i => decide (1 ≤ i) && decide (i ≤ s.nodeCount n))
  let far := fun (i : Nat) => let m := (s.g n).nodes.getD (i - 1) {}; m.ok && m.present && bit m.status 6 && bit m.status 7
  let up := !sides.isEmpty && sides.all far
  s.updTrunk n (fun t => { t with farSince := if up then some (t.farSince.getD s.root) else none })

/-- The slots that show TEMP_VALID, with their words. -/
def State.tempSlots (s : State) (n : Nat) : List (Nat × List Nat) :=
  ((s.g n).nodes.mapIdx (fun i m => (i + 1, m))).filterMap (fun e =>
    if e.2.ok && e.2.present && bit e.2.status 2 then some (e.1, e.2.temps) else none)

/-- A superframe of a trunk that samples. -/
def State.sampledIn (s : State) (n : Nat) : State :=
  let s := (((s.telemetryIn n).preDiffIn n).busMatchIn n).currentIn n
  let s := s.sweepFrame n (s.g n).meas.tick (s.tempSlots n)
  let s := ((s.balCheck n).balFrame n).testFrame n
  s.alignSync n

/-- UPSTREAM_SUPERFRAME (R111, R123, R271): an upstream superframe is received on a trunk that is not OFF. -/
def execUpstreamSuperframe (n : Nat) (u : UpSuper) (s : State) : Out :=
  if !(s.hasGal n && s.strOn n) || decide (s.trunk n = 0) || (s.g n).trunk.idle then .next s
  else
    let x := s.qualify n u
    let s := s.arrive n u x.startOk
    let s := s.addTo (Gal.COUNTERS.UP_BLOCK_CRC n) x.failed.length
    let s := s.addTo (Gal.COUNTERS.CODE_ERRORS n) u.codeErrs
    let s := if 64 < u.inserted then s.raise (Gal.FAULTS.FLIGHT_FAULTS n) 9 else s
    let s := s.headerIn n u x
    let s := ((s.headIn n u x).nodesIn n u x).modelIn n
    let s := s.responsesIn n u x
    let s := s.arbiter n u.share x
    let sampling := (decide (s.trunk n = 4) || decide (s.trunk n = 3)) && decide (s.getN (Gal.SAMPLE_SCHED.SAMPLE_AT n) ≠ 0xFFFF)
    let s := (s.farIn n).countCharge n (sampling && x.hdrOk && x.headOk)
    .next (if sampling then s.sampledIn n else s)

/-! ### Transmission (R110, R136, Table 4-3) -/

/-- SAMPLE_AT moves by at most one tick towards its target (R136). -/
def State.moveSample (s : State) (n : Nat) : State :=
  let at_ := s.getN (Gal.SAMPLE_SCHED.SAMPLE_AT n)
  if at_ = 0xFFFF then s
  else
    let (target, clamped) := s.sampleTarget n
    let next := if at_ < target then at_ + 1 else if target < at_ then at_ - 1 else at_
    let s := s.setN (Gal.SAMPLE_SCHED.SAMPLE_AT n) next
    let s := s.sendCarrierPhase n false
    if clamped then
      let s := s.raise (Gal.FAULTS.SAMPLE_FAULTS n) 1
      if s.energised n then s else s.toAcquire n
    else s

/-- The BAL field: bit i of BAL[j] for position i of monitor j. -/
def State.balField (s : State) (n : Nat) : List Byte :=
  (List.range 40).flatMap (fun j =>
    if j = 0 ∨ !s.claims n then leBytes 2 0
    else
      let e := s.expected n j
      leBytes 2 (maskOf e.2 (fun i => (s.cell n (e.1 + i)).balCmd)))

/-- The downstream superframe as Table 4-3 lays it out. -/
def State.downFrame (s : State) (n : Nat) : DownSuper :=
  let t := (s.g n).trunk
  let sf := t.sentSf
  let cl := s.claims n
  let tr := (s.g n).tread
  let hdr := leBytes 4 sf ++ leBytes 2 (s.getN (Gal.SAMPLE_SCHED.SAMPLE_AT n)) ++ leBytes 1 (b2n (cl && tr.refsValid)) ++ leBytes 1 0 ++
    leBytes 8 s.now
  let tok := leBytes 8 s.serial ++ leBytes 4 (s.getN Obj.REDUNDANCY_STATUS.EPOCH) ++ leBytes 1 (b2n cl) ++ leBytes 1 0 ++ leBytes 4 sf ++
    List.replicate 6 0
  let refs := (if cl then tr.refs else List.replicate 8 0).flatMap int4
  let ctrl := if cl then b2n tr.resume + 2 * b2n tr.enable else 0
  let cmds := (t.sentCmds ++ List.replicate 4 ({ op := 0, target := 0, tag := 0 } : Entry)).take 4
  { header := { payload := hdr, crc := crc32c hdr, endOk := true }, k27 := true, token := blkOf sf tok
    refs := blkOf sf (refs ++ leBytes 4 sf ++ leBytes 4 ctrl ++ leBytes 4 0), bal := blkOf sf (s.balField n)
    cmd := blkOf sf (cmds.flatMap (fun e => entryBytes e.target e))
    inhibit := s.inhibitReq n, hold := s.holdReq n, inserted := t.inserted, codeErrs := 0 }

/-- DOWNSTREAM_SUPERFRAME (R110, R131, R136, R166, R353): the superframe of a trunk leaves at its boundary of plant time. -/
def execDownstreamSuperframe (n : Nat) (s : State) : Out :=
  let t := (s.g n).trunk
  let grid := s.now / 10000
  if !(s.hasGal n && s.strOn n) || decide (s.trunk n = 0) || t.idle || decide (s.now % 10000 ≠ 0) ||
      decide ((t.grids.head?).map (·.2.1) = some grid) then .next s
  else
    let s := s.moveSample n
    let sf := (s.g n).trunk.sfNum
    let s := s.updTrunk n (fun t => { t with
      sentSf := sf, sfNum := (sf + 1) % 2 ^ 32, inserted := 0, lastTick := s.now
      grids := ((sf, grid, s.getN (Gal.SAMPLE_SCHED.SAMPLE_AT n)) :: t.grids).take 4 })
    let s := s.handoverCheck
    let cl := s.claims n
    let s := (s.setN (Gal.AUTHORITY_VIEW.CLAIMING n) (b2n cl)).setN (Gal.AUTHORITY_VIEW.EPOCH_SENT n) (s.getN Obj.REDUNDANCY_STATUS.EPOCH)
    let refs := if cl then (s.g n).tread.refs else List.replicate 8 0
    let s := (List.range 8).foldl (fun s p => s.setI (Gal.CONV_REFS.REF n p) (refs.getD p 0)) s
    let s := s.setN (Gal.CONV_REFS.REF_SF n) sf
    let s := (s.balCommand n).sendCmds n
    let s := if s.inhibitReq n then s.inhibitInsert n none else s
    let s := if s.holdReq n then (s.insertTriple n true).1 else s
    .next (s.updTrunk n (fun t => { t with out := some (s.downFrame n) }))

end Sys2Proof.Machine
end

