-- ==== Sys2Proof/Machine/Sram.lean ====
section
/-! DEFINITION. SRAM lines with their integrity tags and the scrubber (R40 to R44, Tables 1-11 and 1-12). -/
namespace Sys2Proof.Machine

/-- Whether an address is that of a line of an active tile. -/
def State.lineOk (s : State) (n addr : Nat) : Bool :=
  s.hasGal n && s.strOn n && decide (addr % 64 = 0) && decide (addr / 64 < sramLines)

/-- Bits 0 to 511 of the data and 512 to 575 of the ECC flipped. -/
def flipBit (b : Byte) (i : Nat) : Byte := b ^^^ BitVec.ofNat 8 (2 ^ i)

/-- A line after some of its bits have flipped. -/
def Line.upset (l : Line) (us : List Nat) : Line :=
  us.foldl (fun l u =>
    if u < 512 then { l with data := modAt l.data (u / 8) (fun b => flipBit b (u % 8)) }
    else if u < 576 then { l with ecc := modAt l.ecc ((u - 512) / 8) (fun b => flipBit b (u % 8)) }
    else l) l

/-- Whether a flipped bit belongs to word k. -/
def inWord (k u : Nat) : Bool := if u < 512 then u / 64 == k else (u - 512) / 8 == k

/-- What SECDED makes of word k of a line with flipped bits: the word, its check bits, whether a bit was corrected, whether it is
uncorrectable. One flipped bit is corrected, two are found; of more the code says nothing certain. -/
def secded (l : Line) (us : List Nat) (k : Nat) : List Byte × Byte × Bool × Bool :=
  let here := us.filter (inWord k)
  let hit := l.upset here
  let raw := slice hit.data (8 * k) 8
  let chk := hit.ecc.getD k 0
  if l.bad.contains k then (raw, chk, false, true)
  else if here.length = 0 then (raw, chk, false, false)
  else if here.length = 1 then (slice l.data (8 * k) 8, l.ecc.getD k 0, true, false)
  else if here.length = 2 then (raw, chk, false, true)
  else
    let f := Config.eccFix raw chk
    if f.2.2 then (raw, chk, false, true) else (f.1, Config.eccOf f.1, f.2.1, false)

/-! ### What follows a poisoned line (Table 1-12) -/

/-- A stream-engine line buffer: block k of the present superframe counts as failed (R31). -/
def State.bufferPoisoned (s : State) (n k : Nat) : State :=
  if (s.g n).prot.badBlk.contains k then s
  else
    let s := (s.updProt n (fun p => { p with badBlk := p.badBlk ++ [k] })).inc (Gal.COUNTERS.UP_BLOCK_CRC n)
    let noModel : Gallery → Gallery := fun g => if (g.mdl.map (·.sf)) = some g.meas.sf then { g with mdl := none } else g
    let s := match k with
      | 0 => (s.updG n (fun g => noModel { g with meas := { g.meas with hdrOk := false, fresh := false } })).updTrunk n (fun t => { t with
          bad := t.bad + 1, good := 0 })
      | 1 => s.updG n (fun g => noModel { g with meas := { g.meas with headOk := false, fresh := false } })
      | 2 => s
      | node + 2 =>
        let e := s.expected n node
        let mine := fun (p : Nat) => decide (e.1 ≤ p) && decide (p < e.1 + e.2)
        s.updG n (fun g => { g with
          nodes := modAt g.nodes (node - 1) (fun m => { m with ok := false, present := false, cmp := 0 })
          mdl := g.mdl.map (fun (m : ModelIn) => if m.sf = g.meas.sf then
            { m with vs := m.vs.mapIdx (fun p v => if mine p then none else v) } else m)
          cells := g.cells.mapIdx (fun (p : Nat) (c : Cell) =>
            if mine p && c.v.isSome then
              { c with v := none, noData := c.noData + 1, cmpOv := false, cmpUv := false, settling := false }
            else c) })
    if (s.g n).prot.badOld.contains k then (s.causeIn n 6 true false 0xFFFF).inhibitInsert n none else s

/-- The fault is reported to the owner of the line. -/
def State.poisoned (s : State) (n addr : Nat) (o : LineOwner) : State :=
  match o with
  | .cellState p =>
    let s := s.updPos n p (fun e => { e with invalid := true, ready := false, why := e.why ++ [.poisoned], learn := none })
    let s := s.updG n (fun g => { g with stateLines := g.stateLines ++ [(p, addr)] })
    (s.raise (Gal.FAULTS.ESTIM_FAULTS n) 6).learnsOpen n
  | .accumulator p => s.updCell n p (fun c => { c with excl := true })
  | .lineBuffer i => s.bufferPoisoned n i
  | .shadow k =>
    match rowOf (k / 256) (k % 256) with
    | some r => if r.ty = .real then s.put k (.r none) else s
    | none => s

/-! ### Access -/

/-- A checked read (R43): every word is corrected by SECDED, each correction is written back and counted; an uncorrectable word or a TAG
that does not match poisons the line first. The state after it, the data, and the poison indication. -/
def State.lineRead (s : State) (n addr : Nat) (o : LineOwner) (upset : List Nat) : State × List Byte × Bool :=
  let l := s.line n addr
  let ws := (List.range 8).map (secded l upset.dedup)
  let data := ws.flatMap (·.1)
  let bad := (List.range 8).filter (fun k => ((ws.map (·.2.2.2)).getD k false))
  let found := !bad.isEmpty || decide (tagOf addr data ≠ l.tag)
  let l' : Line := { data := data, ecc := ws.map (·.2.1), tag := l.tag, poison := l.poison || found, bad := bad }
  let s := (s.setLine n addr l').addTo Obj.DIAG.SRAM_CORRECTED (ws.filter (·.2.2.1)).length
  (if found && !l.poison then (s.inc Obj.DIAG.SRAM_POISONED).poisoned n addr o else s, data, l'.poison)

/-- SRAM_FULL_LINE_WRITE (R41): new data, new ECC, a new TAG; POISON clears. -/
def execSramFullLineWrite (n addr : Nat) (data : List Byte) (s : State) : Out :=
  if s.lineOk n addr && decide (data.length = 64) then .next (s.setLine n addr (validLine addr data)) else .next s

/-- SRAM_PARTIAL_WRITE (R42): fewer than 64 bytes; not performed on a line that does not check, which is poisoned. -/
def execSramPartialWrite (n addr off : Nat) (data : List Byte) (owner : LineOwner) (upset : List Nat) (s : State) : Out :=
  if s.lineOk n addr && decide (data.length < 64) && decide (off + data.length ≤ 64) then
    let was := (s.line n addr).poison
    let r := s.lineRead n addr owner upset
    if r.2.2 then .next (if was then r.1.poisoned n addr owner else r.1)
    else .next (r.1.setLine n addr (validLine addr (r.2.1.take off ++ data ++ r.2.1.drop (off + data.length))))
  else .next s

/-- SRAM_LINE_READ (R43): the data and the poison indication stand in `sramOut`. -/
def execSramLineRead (n addr : Nat) (owner : LineOwner) (upset : List Nat) (s : State) : Out :=
  if s.lineOk n addr then
    let r := s.lineRead n addr owner upset
    .next { r.1 with sramOut := some r.2 }
  else .next s

/-- SCRUB_PASS (R44): a line of an active tile is read; the pass is complete after its last line. -/
def execScrubPass (n addr : Nat) (owner : LineOwner) (upset : List Nat) (s : State) : Out :=
  if s.lineOk n addr then
    let s := (s.lineRead n addr owner upset).1
    let g := s.g n
    if addr / 64 = g.scrubNext then
      if g.scrubNext + 1 = sramLines then .next (s.updG n (fun g => { g with scrubNext := 0, scrubDone := s.root }))
      else .next (s.updG n (fun g => { g with scrubNext := g.scrubNext + 1 }))
    else .next s
  else .next s

end Sys2Proof.Machine
end

