-- ==== Sys2Proof/Machine/Dispatch.lean ====
section
/-! DEFINITION. One arm for each command. -/
namespace Sys2Proof.Machine

/-- The effect of a command on everything but the queue. -/
def exec (i : Instr) (s : State) : Host.Outcome State Fault Refusal :=
  match i with
  | .upstreamSuperframe n u => Sys2Proof.Machine.execUpstreamSuperframe n u s
  | .downstreamSuperframe n => Sys2Proof.Machine.execDownstreamSuperframe n s
  | .controlStep n parity => Sys2Proof.Machine.execControlStep n parity s
  | .modelStep n => Sys2Proof.Machine.execModelStep n s
  | .spectrumPublish n => Sys2Proof.Machine.execSpectrumPublish n s
  | .sramFullLineWrite n addr data => Sys2Proof.Machine.execSramFullLineWrite n addr data s
  | .sramPartialWrite n addr off data owner upset => Sys2Proof.Machine.execSramPartialWrite n addr off data owner upset s
  | .sramLineRead n addr owner upset => Sys2Proof.Machine.execSramLineRead n addr owner upset s
  | .scrubPass n addr owner upset => Sys2Proof.Machine.execScrubPass n addr owner upset s
  | .keepOscMeasure cycles => Sys2Proof.Machine.execKeepOscMeasure cycles s
  | .scheduledActionFire target => Sys2Proof.Machine.execScheduledActionFire target s
  | .classSWaitExpiry => Sys2Proof.Machine.execClassSWaitExpiry s
  | .pfail pin volts => Sys2Proof.Machine.execPfail pin volts s
  | .powerDownComplete => Sys2Proof.Machine.execPowerDownComplete s
  | .vauxValid volts => Sys2Proof.Machine.execVauxValid volts s
  | .vioValid volts => Sys2Proof.Machine.execVioValid volts s
  | .vioInvalid volts => Sys2Proof.Machine.execVioInvalid volts s
  | .vloopLost volts => Sys2Proof.Machine.execVloopLost volts s
  | .vloopValid volts => Sys2Proof.Machine.execVloopValid volts s
  | .vkeepLow volts => Sys2Proof.Machine.execVkeepLow volts s
  | .vkeepValid volts => Sys2Proof.Machine.execVkeepValid volts s
  | .holdReady volts => Sys2Proof.Machine.execHoldReady volts s
  | .holdLow volts => Sys2Proof.Machine.execHoldLow volts s
  | .rootPllLock recoveryLow testLow => Sys2Proof.Machine.execRootPllLock recoveryLow testLow s
  | .rootPllUnlock => Sys2Proof.Machine.execRootPllUnlock s
  | .landingVerifyDone slotOk otherOk ownerKeyOk => Sys2Proof.Machine.execLandingVerifyDone slotOk otherOk ownerKeyOk s
  | .channelSelfTestDone newel baluster => Sys2Proof.Machine.execChannelSelfTestDone newel baluster s
  | .bootComplete => Sys2Proof.Machine.execBootComplete s
  | .bootWatchdogExpiry => Sys2Proof.Machine.execBootWatchdogExpiry s
  | .resetNAssert lowUs => Sys2Proof.Machine.execResetNAssert lowUs s
  | .resetNRelease => Sys2Proof.Machine.execResetNRelease s
  | .coreWatchdogExpiry => Sys2Proof.Machine.execCoreWatchdogExpiry s
  | .requestRun path => Sys2Proof.Machine.execRequestRun path s
  | .requestReady path => Sys2Proof.Machine.execRequestReady path s
  | .requestWatch path => Sys2Proof.Machine.execRequestWatch path s
  | .requestVault path => Sys2Proof.Machine.execRequestVault path s
  | .requestRecovery path => Sys2Proof.Machine.execRequestRecovery path s
  | .entryToRunComplete => Sys2Proof.Machine.execEntryToRunComplete s
  | .exitFromRunComplete => Sys2Proof.Machine.execExitFromRunComplete s
  | .deferredRun => Sys2Proof.Machine.execDeferredRun s
  | .vaultEntryStage1Done => Sys2Proof.Machine.execVaultEntryStage1Done s
  | .vaultEntryDone => Sys2Proof.Machine.execVaultEntryDone s
  | .watchEntryStage1Done => Sys2Proof.Machine.execWatchEntryStage1Done s
  | .watchEntryDone => Sys2Proof.Machine.execWatchEntryDone s
  | .wakeIn => Sys2Proof.Machine.execWakeIn s
  | .canADominantEdge lowUs => Sys2Proof.Machine.execCanADominantEdge lowUs s
  | .wakeFrame port id ide data => Sys2Proof.Machine.execWakeFrame port id ide data s
  | .wakeNoVaux => Sys2Proof.Machine.execWakeNoVaux s
  | .ladderRetry path cls inst => Sys2Proof.Machine.execLadderRetry path cls inst s
  | .ladderReinitialise path cls inst => Sys2Proof.Machine.execLadderReinitialise path cls inst s
  | .ladderDeviceReset path => Sys2Proof.Machine.execLadderDeviceReset path s
  | .keepProbe before under => Sys2Proof.Machine.execKeepProbe before under s
  | .timeHorizonWrite => Sys2Proof.Machine.execTimeHorizonWrite s
  | .writeOneToClear path index sub ones hwSet => Sys2Proof.Machine.execWriteOneToClear path index sub ones hwSet s
  | .registerWrite path index sub data => Sys2Proof.Machine.execRegisterWrite path index sub data s
  | .rwSWrite path index sub data => Sys2Proof.Machine.execRwSWrite path index sub data s
  | .sealSet path crc loadOk reloadOk => Sys2Proof.Machine.execSealSet path crc loadOk reloadOk s
  | .sealDiscard path => Sys2Proof.Machine.execSealDiscard path s
  | .store path => Sys2Proof.Machine.execStore path s
  | .restore path => Sys2Proof.Machine.execRestore path s
  | .cellWindowSel path n select => Sys2Proof.Machine.execCellWindowSel path n select s
  | .cellWindow path n => Sys2Proof.Machine.execCellWindow path n s
  | .blockCtrlReinitialise path n => Sys2Proof.Machine.execBlockCtrlReinitialise path n s
  | .errorFieldClear path => Sys2Proof.Machine.execErrorFieldClear path s
  | .sdoInitiateDownload port req expedited size fd => Sys2Proof.Machine.execSdoInitiateDownload port req expedited size fd s
  | .sdoDownloadSegment port toggle last data fd => Sys2Proof.Machine.execSdoDownloadSegment port toggle last data fd s
  | .sdoInitiateUpload port index sub fd => Sys2Proof.Machine.execSdoInitiateUpload port index sub fd s
  | .sdoUploadSegment port toggle fd => Sys2Proof.Machine.execSdoUploadSegment port toggle fd s
  | .sdoBlockDownloadInitiate port index sub size crc fd => Sys2Proof.Machine.execSdoBlockDownloadInitiate port index sub size crc fd s
  | .sdoBlockDownloadSubblock port seq last data fd => Sys2Proof.Machine.execSdoBlockDownloadSubblock port seq last data fd s
  | .sdoBlockDownloadEnd port unused crc fd => Sys2Proof.Machine.execSdoBlockDownloadEnd port unused crc fd s
  | .sdoBlockUploadInitiate port index sub blksize crc fd => Sys2Proof.Machine.execSdoBlockUploadInitiate port index sub blksize crc fd s
  | .sdoBlockUploadStart port fd => Sys2Proof.Machine.execSdoBlockUploadStart port fd s
  | .sdoBlockUploadAck port ackseq blksize fd => Sys2Proof.Machine.execSdoBlockUploadAck port ackseq blksize fd s
  | .sdoBlockUploadEnd port => Sys2Proof.Machine.execSdoBlockUploadEnd port s
  | .sdoAbortTransfer port code => Sys2Proof.Machine.execSdoAbortTransfer port code s
  | .sdoTimeout port => Sys2Proof.Machine.execSdoTimeout port s
  | .nmtStart port node => Sys2Proof.Machine.execNmtStart port node s
  | .nmtStop port node => Sys2Proof.Machine.execNmtStop port node s
  | .nmtPreOperational port node => Sys2Proof.Machine.execNmtPreOperational port node s
  | .nmtResetNode port node => Sys2Proof.Machine.execNmtResetNode port node s
  | .nmtResetCommunication port node => Sys2Proof.Machine.execNmtResetCommunication port node s
  | .sync port => Sys2Proof.Machine.execSync port s
  | .rpdo port idx data => Sys2Proof.Machine.execRpdo port idx data s
  | .tpdo port idx => Sys2Proof.Machine.execTpdo port idx s
  | .heartbeat => Sys2Proof.Machine.execHeartbeat s
  | .heartbeatConsumerTimeout port entry => Sys2Proof.Machine.execHeartbeatConsumerTimeout port entry s
  | .arcadeReadRequest msg => Sys2Proof.Machine.execArcadeReadRequest msg s
  | .arcadeWriteRequest msg => Sys2Proof.Machine.execArcadeWriteRequest msg s
  | .arcadeResponse msg => Sys2Proof.Machine.execArcadeResponse msg s
  | .arcadeReqTimeout reqId => Sys2Proof.Machine.execArcadeReqTimeout reqId s
  | .arcadeFrozenExpiry serial => Sys2Proof.Machine.execArcadeFrozenExpiry serial s
  | .ringKey path key => Sys2Proof.Machine.execRingKey path key s
  | .ownerKey path key => Sys2Proof.Machine.execOwnerKey path key s
  | .stringCfg path index sub data => Sys2Proof.Machine.execStringCfg path index sub data s
  | .acquireTimeout n => Sys2Proof.Machine.execAcquireTimeout n s
  | .retryWaitExpiry n => Sys2Proof.Machine.execRetryWaitExpiry n s
  | .trunkLoss n => Sys2Proof.Machine.execTrunkLoss n s
  | .commandResend n => Sys2Proof.Machine.execCommandResend n s
  | .identify n onB node tag assign ctr reverse => Sys2Proof.Machine.execIdentify n onB node tag assign ctr reverse s
  | .readReg n onB node tag addr => Sys2Proof.Machine.execReadReg n onB node tag addr s
  | .writeReg n onB node tag addr value => Sys2Proof.Machine.execWriteReg n onB node tag addr value s
  | .syncReset n node tag sf x => Sys2Proof.Machine.execSyncReset n node tag sf x s
  | .sweep n node tag mask => Sys2Proof.Machine.execSweep n node tag mask s
  | .switchTest n node tag pos step => Sys2Proof.Machine.execSwitchTest n node tag pos step s
  | .commission n node tag first count serial => Sys2Proof.Machine.execCommission n node tag first count serial s
  | .restoreRing n onB tag => Sys2Proof.Machine.execRestoreRing n onB tag s
  | .release n onB tag => Sys2Proof.Machine.execRelease n onB tag s
  | .sleep n onB node tag ms tLimit => Sys2Proof.Machine.execSleep n onB node tag ms tLimit s
  | .selftest n onB node tag result => Sys2Proof.Machine.execSelftest n onB node tag result s
  | .flightNodesCommission path n => Sys2Proof.Machine.execFlightNodesCommission path n s
  | .restoreNow path n => Sys2Proof.Machine.execRestoreNow path n s
  | .autoRestore n => Sys2Proof.Machine.execAutoRestore n s
  | .headSuperframeRx n onB d => Sys2Proof.Machine.execHeadSuperframeRx n onB d s
  | .headHoldTimeout n => Sys2Proof.Machine.execHeadHoldTimeout n s
  | .headTrunkLoss n onB => Sys2Proof.Machine.execHeadTrunkLoss n onB s
  | .dualFault n => Sys2Proof.Machine.execDualFault n s
  | .loopFrameEvaluate n back => Sys2Proof.Machine.execLoopFrameEvaluate n back s
  | .monitorSlotFill n node reverse rxErr link => Sys2Proof.Machine.execMonitorSlotFill n node reverse rxErr link s
  | .monitorSignalLoss n node => Sys2Proof.Machine.execMonitorSignalLoss n node s
  | .sampleLatch n r => Sys2Proof.Machine.execSampleLatch n r s
  | .monitorFrameTimeout n node => Sys2Proof.Machine.execMonitorFrameTimeout n node s
  | .sleepCheck n node volts temps selfRes => Sys2Proof.Machine.execSleepCheck n node volts temps selfRes s
  | .wakeBurst n node => Sys2Proof.Machine.execWakeBurst n node s
  | .delayCompReread n => Sys2Proof.Machine.execDelayCompReread n s
  | .syncNow path n => Sys2Proof.Machine.execSyncNow path n s
  | .balanceDecision n => Sys2Proof.Machine.execBalanceDecision n s
  | .balanceTestRun path n pos => Sys2Proof.Machine.execBalanceTestRun path n pos s
  | .switchTestInterval n => Sys2Proof.Machine.execSwitchTestInterval n s
  | .sweepDue n => Sys2Proof.Machine.execSweepDue n s
  | .sweepMissing n => Sys2Proof.Machine.execSweepMissing n s
  | .sweepIntervalRelax n => Sys2Proof.Machine.execSweepIntervalRelax n s
  | .watchCheck results => Sys2Proof.Machine.execWatchCheck results s
  | .restart path n => Sys2Proof.Machine.execRestart path n s
  | .converterEnable path n on => Sys2Proof.Machine.execConverterEnable path n on s
  | .peakRead path n peak => Sys2Proof.Machine.execPeakRead path n peak s
  | .telemetryWindow n second => Sys2Proof.Machine.execTelemetryWindow n second s
  | .excitationApply path n => Sys2Proof.Machine.execExcitationApply path n s
  | .setComputed n => Sys2Proof.Machine.execSetComputed n s
  | .platingClear path n => Sys2Proof.Machine.execPlatingClear path n s
  | .archiveNow path n => Sys2Proof.Machine.execArchiveNow path n s
  | .archiveInterval n => Sys2Proof.Machine.execArchiveInterval n s
  | .archiveRecordWrite n => Sys2Proof.Machine.execArchiveRecordWrite n s
  | .archiveSel path n sel => Sys2Proof.Machine.execArchiveSel path n sel s
  | .archiveRead path n => Sys2Proof.Machine.execArchiveRead path n s
  | .modelSet path n data => Sys2Proof.Machine.execModelSet path n data s
  | .replaced path n pos => Sys2Proof.Machine.execReplaced path n pos s
  | .restCorrection n => Sys2Proof.Machine.execRestCorrection n s
  | .aggregates n => Sys2Proof.Machine.execAggregates n s
  | .stateSave n => Sys2Proof.Machine.execStateSave n s
  | .stateSaveDone n => Sys2Proof.Machine.execStateSaveDone n s
  | .saveFailed n => Sys2Proof.Machine.execSaveFailed n s
  | .dieTemperatureRead temps => Sys2Proof.Machine.execDieTemperatureRead temps s
  | .riseStopTime n => Sys2Proof.Machine.execRiseStopTime n s
  | .safetyCycle rb => Sys2Proof.Machine.execSafetyCycle rb s
  | .energiseOn path n => Sys2Proof.Machine.execEnergiseOn path n s
  | .energiseOff path n => Sys2Proof.Machine.execEnergiseOff path n s
  | .busCheckTimeout g => Sys2Proof.Machine.execBusCheckTimeout g s
  | .preTimeExpiry g => Sys2Proof.Machine.execPreTimeExpiry g s
  | .fbTimeExpiry g => Sys2Proof.Machine.execFbTimeExpiry g s
  | .minOffElapsed g => Sys2Proof.Machine.execMinOffElapsed g s
  | .maxOverlapExpiry so current => Sys2Proof.Machine.execMaxOverlapExpiry so current s
  | .mainCloseTimeExpiry g => Sys2Proof.Machine.execMainCloseTimeExpiry g s
  | .seoDelayExpiry g => Sys2Proof.Machine.execSeoDelayExpiry g s
  | .srsMaxTimeExpiry g => Sys2Proof.Machine.execSrsMaxTimeExpiry g s
  | .trunkLossSeoTimer g => Sys2Proof.Machine.execTrunkLossSeoTimer g s
  | .soOvercurrent so amps us => Sys2Proof.Machine.execSoOvercurrent so amps us s
  | .safetyInputChange idx ch high newelSees balusterSees => Sys2Proof.Machine.execSafetyInputChange idx ch high newelSees balusterSees s
  | .discrepancyTimeout idx => Sys2Proof.Machine.execDiscrepancyTimeout idx s
  | .testPulse source shorts => Sys2Proof.Machine.execTestPulse source shorts s
  | .outputTestPulse load onSl chan fell returned external => Sys2Proof.Machine.execOutputTestPulse load onSl chan fell returned external s
  | .channelDisagree => Sys2Proof.Machine.execChannelDisagree s
  | .channelSelfCheck newel baluster => Sys2Proof.Machine.execChannelSelfCheck newel baluster s
  | .channelFail chan clock => Sys2Proof.Machine.execChannelFail chan clock s
  | .lockoutResetPulse => Sys2Proof.Machine.execLockoutResetPulse s
  | .lockoutReset path => Sys2Proof.Machine.execLockoutReset path s
  | .requestedExpiry => Sys2Proof.Machine.execRequestedExpiry s
  | .lostClear path n => Sys2Proof.Machine.execLostClear path n s
  | .stringLost n => Sys2Proof.Machine.execStringLost n s
  | .imdEvaluate => Sys2Proof.Machine.execImdEvaluate s
  | .threshRewrite n => Sys2Proof.Machine.execThreshRewrite n s
  | .dispatchAllocation => Sys2Proof.Machine.execDispatchAllocation s
  | .pDemand path data => Sys2Proof.Machine.execPDemand path data s
  | .leaderTarget path data => Sys2Proof.Machine.execLeaderTarget path data s
  | .hostTimeout => Sys2Proof.Machine.execHostTimeout s
  | .leaderLost => Sys2Proof.Machine.execLeaderLost s
  | .fallbackHold => Sys2Proof.Machine.execFallbackHold s
  | .joinDelay serial => Sys2Proof.Machine.execJoinDelay serial s
  | .bypassInsert => Sys2Proof.Machine.execBypassInsert s
  | .bypassTestTimeout eastOk westOk => Sys2Proof.Machine.execBypassTestTimeout eastOk westOk s
  | .arcadeLinkLoss west => Sys2Proof.Machine.execArcadeLinkLoss west s
  | .hsrFrameRx west f => Sys2Proof.Machine.execHsrFrameRx west f s
  | .hsrSupervisionTx => Sys2Proof.Machine.execHsrSupervisionTx s
  | .nodeForget mac => Sys2Proof.Machine.execNodeForget mac s
  | .beaconTx => Sys2Proof.Machine.execBeaconTx s
  | .beaconRx b => Sys2Proof.Machine.execBeaconRx b s
  | .memberTimeout serial => Sys2Proof.Machine.execMemberTimeout serial s
  | .ptpSyncRx west m => Sys2Proof.Machine.execPtpSyncRx west m s
  | .ptpFollowUpRx west m => Sys2Proof.Machine.execPtpFollowUpRx west m s
  | .ptpAnnounceRx west m => Sys2Proof.Machine.execPtpAnnounceRx west m s
  | .ptpAnnounceTimeout => Sys2Proof.Machine.execPtpAnnounceTimeout s
  | .pdelayReqRx west m => Sys2Proof.Machine.execPdelayReqRx west m s
  | .pdelayRespRx west m => Sys2Proof.Machine.execPdelayRespRx west m s
  | .pdelayRespFollowUpRx west m => Sys2Proof.Machine.execPdelayRespFollowUpRx west m s
  | .ptpSyncTx => Sys2Proof.Machine.execPtpSyncTx s
  | .ptpAnnounceTx => Sys2Proof.Machine.execPtpAnnounceTx s
  | .pdelayReqTx west => Sys2Proof.Machine.execPdelayReqTx west s
  | .ptpEventForward west m residence => Sys2Proof.Machine.execPtpEventForward west m residence s
  | .ppsIn tick widthNs => Sys2Proof.Machine.execPpsIn tick widthNs s
  | .todIn sentence => Sys2Proof.Machine.execTodIn sentence s
  | .ppsOut => Sys2Proof.Machine.execPpsOut s
  | .sourceLoss => Sys2Proof.Machine.execSourceLoss s
  | .holdoverExpiry => Sys2Proof.Machine.execHoldoverExpiry s
  | .timeStep => Sys2Proof.Machine.execTimeStep s
  | .corridorFrameTx => Sys2Proof.Machine.execCorridorFrameTx s
  | .corridorFrameRx f => Sys2Proof.Machine.execCorridorFrameRx f s
  | .corridorDown => Sys2Proof.Machine.execCorridorDown s
  | .mirrorRead data => Sys2Proof.Machine.execMirrorRead data s
  | .redundancyEnable path on => Sys2Proof.Machine.execRedundancyEnable path on s
  | .pairWait => Sys2Proof.Machine.execPairWait s
  | .swap path => Sys2Proof.Machine.execSwap path s
  | .takeoverTimeout => Sys2Proof.Machine.execTakeoverTimeout s
  | .yieldTimeout => Sys2Proof.Machine.execYieldTimeout s
  | .reArm path => Sys2Proof.Machine.execReArm path s
  | .swapDue => Sys2Proof.Machine.execSwapDue s
  | .channelSample n x => Sys2Proof.Machine.execChannelSample n x s
  | .overloadTrip n => Sys2Proof.Machine.execOverloadTrip n s
  | .readbackCompare n readback limit => Sys2Proof.Machine.execReadbackCompare n readback limit s
  | .railUpdate n hiVolts => Sys2Proof.Machine.execRailUpdate n hiVolts s
  | .driverThermal n temp => Sys2Proof.Machine.execDriverThermal n temp s
  | .outValue path n data => Sys2Proof.Machine.execOutValue path n data s
  | .outTimeout n => Sys2Proof.Machine.execOutTimeout n s
  | .chCharApply path n => Sys2Proof.Machine.execChCharApply path n s
  | .chReinitialise path n => Sys2Proof.Machine.execChReinitialise path n s
  | .chTest path n => Sys2Proof.Machine.execChTest path n s
  | .chCommandDone n r => Sys2Proof.Machine.execChCommandDone n r s
  | .outputResume n => Sys2Proof.Machine.execOutputResume n s
  | .function path n code => Sys2Proof.Machine.execFunction path n code s
  | .hartPoll n => Sys2Proof.Machine.execHartPoll n s
  | .hartResponseRx n f => Sys2Proof.Machine.execHartResponseRx n f s
  | .hartBurstFrame n f => Sys2Proof.Machine.execHartBurstFrame n f s
  | .hartResponseTimeout n => Sys2Proof.Machine.execHartResponseTimeout n s
  | .hartIdentifyRetry n => Sys2Proof.Machine.execHartIdentifyRetry n s
  | .hartXferRequest path n data => Sys2Proof.Machine.execHartXferRequest path n data s
  | .canFrameRx port f => Sys2Proof.Machine.execCanFrameRx port f s
  | .canFrameTxDone port ok air => Sys2Proof.Machine.execCanFrameTxDone port ok air s
  | .canBusOff port => Sys2Proof.Machine.execCanBusOff port s
  | .busoffDelay port => Sys2Proof.Machine.execBusoffDelay port s
  | .canBusOffRecovered port => Sys2Proof.Machine.execCanBusOffRecovered port s
  | .canFlush path port begun late => Sys2Proof.Machine.execCanFlush path port begun late s
  | .fifoDrainDeadline => Sys2Proof.Machine.execFifoDrainDeadline s
  | .twaSlotDue idx => Sys2Proof.Machine.execTwaSlotDue idx s
  | .twaTrigger path mask => Sys2Proof.Machine.execTwaTrigger path mask s
  | .twaSlotDone idx r => Sys2Proof.Machine.execTwaSlotDone idx r s
  | .twaArbRetry idx => Sys2Proof.Machine.execTwaArbRetry idx s
  | .clkLowTimeout twb => Sys2Proof.Machine.execClkLowTimeout twb s
  | .dataLowTimeout twb freed => Sys2Proof.Machine.execDataLowTimeout twb freed s
  | .twbWriteTransaction bytes => Sys2Proof.Machine.execTwbWriteTransaction bytes s
  | .twbReadTransaction ptr len => Sys2Proof.Machine.execTwbReadTransaction ptr len s
  | .mailboxDone => Sys2Proof.Machine.execMailboxDone s
  | .mailboxFrozenExpiry => Sys2Proof.Machine.execMailboxFrozenExpiry s
  | .twbAlert r => Sys2Proof.Machine.execTwbAlert r s
  | .alertRetry r => Sys2Proof.Machine.execAlertRetry r s
  | .recordEntry code cls inst sev data => Sys2Proof.Machine.execRecordEntry code cls inst sev data s
  | .drain => Sys2Proof.Machine.execDrain s
  | .pageProgramDone ok => Sys2Proof.Machine.execPageProgramDone ok s
  | .recorderFlush path => Sys2Proof.Machine.execRecorderFlush path s
  | .flushDone => Sys2Proof.Machine.execFlushDone s
  | .blockErase => Sys2Proof.Machine.execBlockErase s
  | .eraseDone ok => Sys2Proof.Machine.execEraseDone ok s
  | .recorderRebuild => Sys2Proof.Machine.execRecorderRebuild s
  | .snapCount path count => Sys2Proof.Machine.execSnapCount path count s
  | .recorderRead path => Sys2Proof.Machine.execRecorderRead path s
  | .snapshotExpiry path => Sys2Proof.Machine.execSnapshotExpiry path s
  | .begin path => Sys2Proof.Machine.execBegin path s
  | .slotEraseDone ok => Sys2Proof.Machine.execSlotEraseDone ok s
  | .updateData path data => Sys2Proof.Machine.execUpdateData path data s
  | .verify path => Sys2Proof.Machine.execVerify path s
  | .checksComplete => Sys2Proof.Machine.execChecksComplete s
  | .activate path => Sys2Proof.Machine.execActivate path s
  | .prepareDone ok => Sys2Proof.Machine.execPrepareDone ok s
  | .pauseEnd => Sys2Proof.Machine.execPauseEnd s
  | .pauseTimeout => Sys2Proof.Machine.execPauseTimeout s
  | .commit path => Sys2Proof.Machine.execCommit path s
  | .abort path => Sys2Proof.Machine.execAbort path s
  | .trialTimeout => Sys2Proof.Machine.execTrialTimeout s
  | .vkeepInvalid volts => Sys2Proof.Machine.execVkeepInvalid volts s
  | .keepCellOvervoltage volts => Sys2Proof.Machine.execKeepCellOvervoltage volts s
  | .comparatorTrip n node pos value outs => Sys2Proof.Machine.execComparatorTrip n node pos value outs s
  | .sweepConversionDone n node temps => Sys2Proof.Machine.execSweepConversionDone n node temps s
  | .arcadeLinkUp port => Sys2Proof.Machine.execArcadeLinkUp port s
  | .ppsMissing => Sys2Proof.Machine.execPpsMissing s
  | .canErrorPassive port tec rec => Sys2Proof.Machine.execCanErrorPassive port tec rec s
  | .bufferClose => Sys2Proof.Machine.execBufferClose s

end Sys2Proof.Machine
end

