-- ==== Sys2Proof/Safety.lean ====
section
/-! DEFINITION. The terms in which claims are made: the invariant of every state that a run reaches, when an access is taken at once, and
when a run is safe. -/
namespace Sys2Proof.Machine

/-- The canonical forms: the dictionary, the SRAM of every tile and the mailbox. -/
def State.canonical (s : State) : Prop :=
  SMap.wf dfltOf s.dict = true ∧ (∀ g ∈ s.gal, SMap.wf zeroLine g.sram = true) ∧ SMap.wf noByte s.twb.mem = true

/-- The fixed shape of the module: how many there are of each numbered part, and that the firmware slots named are slots A or B. -/
def State.shaped (s : State) : Prop :=
  s.gal.length = 32 ∧ s.chans.length = 16 ∧ s.cans.length = 2 ∧
  s.safe.groups.length = 8 ∧ s.safe.inputs.length = 16 ∧ s.safe.loads.length = 16 ∧
  s.twa.due.length = 16 ∧ s.twa.lastDue.length = 16 ∧ s.twa.okAt.length = 16 ∧
  s.nand.slots.length = 2 ∧ s.nand.active < 2 ∧ s.upd.slot < 2

/-- What holds of every state that a run reaches. -/
def State.Inv (s : State) : Prop := s.canonical ∧ s.shaped

/-- A step is safe: it ends in a next state. -/
def safeStep (s : State) : Prop := ∃ t, step s = .next t

/-- An access over a path is taken at once: its path is answered, and no earlier request waits (R81, R99). -/
def State.atOnce (s : State) (p : Path) : Prop :=
  s.serves p = true ∧ s.mustWait = false

/-- A write of an object is taken at once and passes the five checks of R80 with a value. -/
def State.takesWrite (s : State) (p : Path) (index sub : Nat) (d : List Byte) (v : Val) : Prop :=
  s.atOnce p ∧ ∃ r, checkWrite s p index sub d = .ok (v, r)

/-- A read of an object is taken at once and the object exists and is not write-only. -/
def State.takesRead (s : State) (p : Path) (index sub : Nat) : Prop :=
  s.atOnce p ∧ s.hasIndex index = true ∧ ∃ r, rowOf index sub = some r ∧ r.acc ≠ .wo ∧ r.acc ≠ .key

/-- An SDO response of a port has been produced: it stands in the transmit FIFO or waits for an entry. -/
def State.sdoSent (s : State) (p : Nat) (d : List Byte) : Prop :=
  ∃ e ∈ (s.can p).fifo ++ (s.can p).waitq, e.kind = .sdo ∧ e.data = d

/-! ### Units of a string -/

/-- A command with this TAG reaches the head on the port that it obeys, and the head has not executed that TAG last. -/
def State.headTakes (s : State) (n : Nat) (onB : Bool) (tag : Nat) : Prop :=
  s.hasGal n = true ∧ s.gal.length = 32 ∧ (s.g n).head.obeys onB = true ∧
  ((s.g n).head.lastResp = none ∨ (s.g n).head.lastTag ≠ tag)

/-- A command with this TAG reaches monitor `node`, which has not executed that TAG last. -/
def State.monTakes (s : State) (n node tag : Nat) : Prop :=
  s.hasGal n = true ∧ s.gal.length = 32 ∧ 1 ≤ node ∧ node ≤ (s.g n).mons.length ∧
  ((s.mon n node).lastResp = none ∨ (s.mon n node).lastTag ≠ tag)

/-- Only the head of string n differs, and the count of free values. -/
def State.onlyHead (s t : State) (n : Nat) : Prop :=
  t = { s with gal := t.gal, free := t.free } ∧ (∀ m, m ≠ n → t.g m = s.g m) ∧ t.g n = { s.g n with head := (t.g n).head }

/-- Only monitor `node` of string n differs, and the count of free values. -/
def State.onlyMon (s t : State) (n node : Nat) : Prop :=
  t = { s with gal := t.gal, free := t.free } ∧ (∀ m, m ≠ n → t.g m = s.g m) ∧ t.g n = { s.g n with mons := (t.g n).mons } ∧
  ∀ a, 1 ≤ a → a ≠ node → t.mon n a = s.mon n a

/-- One of the safety channels takes part in what the groups of a load do. -/
def State.follows (s : State) (l : Nat) : Prop :=
  bit (s.lagLoads s.safe.newel) l = false ∨ bit (s.lagLoads s.safe.baluster) l = false

/-- A load is commanded off, and it is off where a safety channel takes part. -/
def State.offCommanded (s t : State) (l : Nat) : Prop := t.loadCmd l = false ∧ (s.follows l → t.loadOn l = false)

/-- A time estimate is used: `x` is the TAI in ns of the instant at plant time `p`. The error in ticks, taken to the nearest superframe,
enters the last 64 offsets, whose mean is OFFSET, and the source counts as heard now. -/
def State.timeUsed (s t : State) (x : Q) (p : Nat) : Prop :=
  let e := (x - (s.getI Obj.TIMEBASE.ORIGIN : Q)) * 5 / 16 - (p : Q)
  t.time.syncAt = some s.root ∧ t.time.offs = ((e - 10000 * (roundSym (e / 10000) : Q)) * 16 / 5 :: s.time.offs).take 64 ∧
  t.getR Obj.TIMEBASE.OFFSET = some (qsum t.time.offs / (t.time.offs.length : Q))

/-- Every object but those of a list reads as before. -/
def State.sameBut (s t : State) (ks : List Nat) : Prop := ∀ k, k ∉ ks → t.val k = s.val k

end Sys2Proof.Machine
end

