-- ==== Sys2Proof/Certificates/Slice0/Obligations.lean ====
section
/-! DEFINITION. The statements about the model, one `def` each: what the commands do, by chapter of the specification. -/

open Sys2Proof Sys2Proof.Machine

/-- A step takes the command at the front of the queue and runs it on the state with the queue's rest. -/
def Obligations.StepRunsFrontCommand : Prop :=
  ∀ (s : State) (c : Instr) (rest : List Instr), s.pending = c :: rest → step s = exec c { s with pending := rest }

/-- On an empty queue with no request waiting, only time passes, and scheduled actions that are due fire. That a step is then one tick is
the model's choice (log entry 1). -/
def Obligations.IdleStepIsOneTick : Prop :=
  ∀ s : State, s.pending = [] → s.sreqs = [] →
    step s = .next { s with
      root := s.root + 1, now := if s.ticking then s.now + 1 else s.now, vest := s.vest.tick
      sched := s.sched.filter (fun a => !targetDue (if s.ticking then s.now + 1 else s.now) a.target) }

/-- The state right after reset: BOOT, supplies valid, nothing sealed, nothing waiting, objects at their defaults. -/
def Obligations.ResetStateValues : Prop :=
  State.reset.mode = .boot ∧ State.reset.vauxOk = true ∧ State.reset.vioOk = true ∧ State.reset.latched = false ∧
  State.reset.safetySet.sealedNow = false ∧ State.reset.pending = [] ∧ State.reset.sreqs = [] ∧
  State.reset.getN Obj.SUPPLY_STATUS.POWER_CYCLES = 1 ∧ (∀ n, State.reset.strOn n = false) ∧
  ∀ k, k ≠ Obj.RESET_LADDER.LAST_RESET_CAUSE → k ≠ Obj.SUPPLY_STATUS.FLAGS → k ≠ Obj.SUPPLY_STATUS.POWER_CYCLES →
    State.reset.val k = dfltOf k

/-- The invariant holds right after reset. -/
def Obligations.ResetStateMeetsInvariant : Prop := State.reset.Inv

/-- Every step keeps the invariant, whatever command it runs. -/
def Obligations.EveryStepKeepsInvariant : Prop := ∀ s t : State, s.Inv → step s = .next t → t.Inv

/-- No command changes the queue behind it, the part or the unit serial. -/
def Obligations.IdentityAndQueueUntouched : Prop :=
  ∀ (c : Instr) (s t : State), exec c s = .next t → t.pending = s.pending ∧ t.part = s.part ∧ t.serial = s.serial

/-- Every command answers a next state from every state. -/
def Obligations.EveryCommandCompletes : Prop := ∀ (c : Instr) (s : State), ∃ t, exec c s = .next t

/-- R41, and of R42 the merged write, the write that finds a wrong TAG and the write of a poisoned line. -/
def Obligations.SramLineWrites : Prop :=
  (∀ (s : State) (n addr : Nat) (data : List Byte), s.lineOk n addr = true → s.gal.length = 32 → data.length = 64 →
    ∃ t, exec (.sramFullLineWrite n addr data) s = .next t ∧ t.line n addr = validLine addr data ∧
      (∀ m a, (m, a) ≠ (n, addr) → t.line m a = s.line m a) ∧ ∀ k, t.val k = s.val k) ∧
  (∀ (s : State) (n addr off : Nat) (data old : List Byte) (o : LineOwner), s.lineOk n addr = true → s.gal.length = 32 →
    data.length < 64 → off + data.length ≤ 64 → old.length = 64 → s.line n addr = validLine addr old →
    ∃ t, exec (.sramPartialWrite n addr off data o []) s = .next t ∧
      t.line n addr = validLine addr (old.take off ++ data ++ old.drop (off + data.length)) ∧
      (∀ m a, (m, a) ≠ (n, addr) → t.line m a = s.line m a)) ∧
  (∀ (s : State) (n addr off : Nat) (data : List Byte) (o : LineOwner), s.lineOk n addr = true → s.gal.length = 32 →
    data.length < 64 → off + data.length ≤ 64 → (s.line n addr).data.length = 64 → (s.line n addr).poison = false →
    (s.line n addr).tag ≠ tagOf addr (s.line n addr).data →
    ∃ t, exec (.sramPartialWrite n addr off data o []) s = .next t ∧ (t.line n addr).data = (s.line n addr).data ∧
      (t.line n addr).poison = true ∧
      t.getN Obj.DIAG.SRAM_POISONED = min 0xFFFFFFFF (s.getN Obj.DIAG.SRAM_POISONED + 1)) ∧
  (∀ (s : State) (n addr off : Nat) (data : List Byte) (o : LineOwner), s.lineOk n addr = true → s.gal.length = 32 →
    data.length < 64 → off + data.length ≤ 64 → (s.line n addr).data.length = 64 → (s.line n addr).poison = true →
    ∃ t, exec (.sramPartialWrite n addr off data o []) s = .next t ∧ (t.line n addr).data = (s.line n addr).data ∧
      (t.line n addr).poison = true)

/-- R43: what a read returns, corrects, counts and poisons; the scrubber (R44) applies it line by line. -/
def Obligations.SramReadsAndScrub : Prop :=
  (∀ (s : State) (n addr : Nat) (old : List Byte) (o : LineOwner), s.lineOk n addr = true → s.gal.length = 32 →
    old.length = 64 → s.line n addr = validLine addr old →
    ∃ t, exec (.sramLineRead n addr o []) s = .next t ∧ t.sramOut = some (old, false) ∧ t.line n addr = s.line n addr ∧
      s.sameBut t [Obj.DIAG.SRAM_CORRECTED]) ∧
  (∀ (s : State) (n addr u : Nat) (old : List Byte) (o : LineOwner), s.lineOk n addr = true → s.gal.length = 32 →
    old.length = 64 → s.line n addr = validLine addr old → u < 576 →
    ∃ t, exec (.sramLineRead n addr o [u]) s = .next t ∧ t.sramOut = some (old, false) ∧ t.line n addr = validLine addr old ∧
      t.getN Obj.DIAG.SRAM_CORRECTED = min 0xFFFFFFFF (s.getN Obj.DIAG.SRAM_CORRECTED + 1) ∧
      s.sameBut t [Obj.DIAG.SRAM_CORRECTED]) ∧
  (∀ (s : State) (n addr : Nat) (o : LineOwner), s.lineOk n addr = true → s.gal.length = 32 →
    (s.line n addr).data.length = 64 → (s.line n addr).poison = true →
    ∃ t, exec (.sramLineRead n addr o []) s = .next t ∧ t.sramOut = some ((s.line n addr).data, true) ∧
      (t.line n addr).poison = true ∧ (t.line n addr).data = (s.line n addr).data) ∧
  (∀ (s : State) (n addr : Nat) (o : LineOwner), s.lineOk n addr = true → s.gal.length = 32 →
    (s.line n addr).data.length = 64 → (s.line n addr).poison = false → (s.line n addr).tag ≠ tagOf addr (s.line n addr).data →
    ∃ t, exec (.sramLineRead n addr o []) s = .next t ∧ t.sramOut = some ((s.line n addr).data, true) ∧
      (t.line n addr).poison = true ∧
      t.getN Obj.DIAG.SRAM_POISONED = min 0xFFFFFFFF (s.getN Obj.DIAG.SRAM_POISONED + 1)) ∧
  (∀ (s : State) (n addr k u v : Nat) (old : List Byte) (o : LineOwner), s.lineOk n addr = true → s.gal.length = 32 →
    old.length = 64 → s.line n addr = validLine addr old → k < 8 → u < 576 → v < 576 → u ≠ v → inWord k u = true →
    inWord k v = true →
    ∃ t, exec (.sramLineRead n addr o [u, v]) s = .next t ∧ (∃ d, t.sramOut = some (d, true)) ∧ (t.line n addr).poison = true ∧
      t.getN Obj.DIAG.SRAM_POISONED = min 0xFFFFFFFF (s.getN Obj.DIAG.SRAM_POISONED + 1)) ∧
  (∀ (s : State) (n addr : Nat) (o : LineOwner) (us : List Nat), s.lineOk n addr = true → s.gal.length = 32 →
    addr / 64 = (s.g n).scrubNext →
    ∃ t u, exec (.scrubPass n addr o us) s = .next t ∧ exec (.sramLineRead n addr o us) s = .next u ∧
      t.line n addr = u.line n addr ∧ t.dict = u.dict ∧
      (t.g n).scrubNext = (if addr / 64 + 1 = sramLines then 0 else addr / 64 + 1) ∧
      (addr / 64 + 1 = sramLines → (t.g n).scrubDone = s.root))

/-- The firing of scheduled actions (R27), the measurement of the keep oscillator (R23), the wait limit of class S requests (R99). -/
def Obligations.ArchitectureTimersComplete : Prop :=
  (∀ (s : State) (target : Nat), targetDue s.now target = true →
    ∃ t, exec (.scheduledActionFire target) s = .next t ∧ (∀ a ∈ t.sched, a ∈ s.sched ∧ a.target ≠ target) ∧
      ∀ a ∈ s.sched, a.target ≠ target → a ∈ t.sched) ∧
  (∀ (s : State) (cycles : Nat), s.ticking = true → s.passed s.md.oscAt (secTicks 1) = true →
    ∃ t, exec (.keepOscMeasure cycles) s = .next t ∧ t.vest.correction = (cycles : Q) - 32768 ∧ t.md.oscAt = s.root) ∧
  (∀ s : State, ∃ t, exec .classSWaitExpiry s = .next t ∧ t.sreqs = s.sreqs.filter (fun r => !s.passed r.at_ (msTicks 500))) ∧
  (∀ (s : State) (r : SReq), s.sreqs = [r] → r.origin = .plain → s.passed r.at_ (msTicks 500) = true →
    ∃ t, exec .classSWaitExpiry s = .next t ∧ t.last = some (.abort abortBusy) ∧
      t.getN Obj.DIAG.CLASS_S_REFUSED = min 0xFFFFFFFF (s.getN Obj.DIAG.CLASS_S_REFUSED + 1))
/-- Table 2-2, R54, R55, R66, R71 and R72: what each supply event does. -/
def Obligations.SupplyEventsComplete : Prop :=
  (∀ (s : State) (v : Q), 33 / 2 ≤ v → s.powerDown = false → s.vauxOk = false → s.mode = .vault →
    ∃ t, exec (.vauxValid v) s = .next t ∧ t.mode = .boot ∧ t.vauxOk = true ∧
      (s.vioOk = true → t.getN Obj.RESET_LADDER.LAST_RESET_CAUSE = 2 ∧
        t.getN Obj.SUPPLY_STATUS.POWER_CYCLES = min 0xFFFFFFFF (s.getN Obj.SUPPLY_STATUS.POWER_CYCLES + 1))) ∧
  (∀ (s : State) (v : Q), 33 / 2 ≤ v → s.powerDown = true →
    ∃ t, exec (.vauxValid v) s = .next t ∧ t.md.vauxBack = true ∧ t.mode = s.mode ∧ t.vauxOk = s.vauxOk) ∧
  (∀ (s : State) (v : Q), 162 / 100 ≤ v → s.vioOk = false → s.mode = .boot →
    ∃ t, exec (.vioValid v) s = .next t ∧ t.mode = .boot ∧ t.vioOk = true ∧ t.md.bootSince = s.root ∧ t.md.bootCauseNow = 2 ∧
      t.getN Obj.RESET_LADDER.LAST_RESET_CAUSE = 2 ∧
      t.getN Obj.SUPPLY_STATUS.POWER_CYCLES = min 0xFFFFFFFF (s.getN Obj.SUPPLY_STATUS.POWER_CYCLES + 1)) ∧
  (∀ (s : State) (v : Q), v < 155 / 100 → s.vioOk = true → s.mode ≠ .vault → s.powerDown = false →
    ∃ t, exec (.vioInvalid v) s = .next t ∧ t.mode = .boot ∧ t.vioOk = false ∧ t.mayStart = false ∧ t.sreqs = []) ∧
  (∀ (s : State) (v : Q), v < 105 / 10 → s.mode = .run → s.powerDown = false → s.md.exitReset = none → s.safe.groups.length = 8 →
    ∃ t, exec (.vloopLost v) s = .next t ∧ t.mode = .ready ∧ t.getN Obj.MODE_STATUS.LAST_CAUSE = 0x12 ∧ t.vloopOk = false ∧
      t.flag Obj.SUPPLY_STATUS.EVENTS 4 = true ∧ ∀ g < 8, (s.grp g).state = .energised → (t.grp g).state = .opening) ∧
  (∀ (s : State) (v : Q), v < 105 / 10 → s.mode = .ready →
    ∃ t, exec (.vloopLost v) s = .next t ∧ t.mode = .ready ∧ t.vloopOk = false) ∧
  (∀ (s : State) (v : Q), 11 ≤ v → s.vloopOk = false →
    ∃ t, exec (.vloopValid v) s = .next t ∧ t.vloopOk = true ∧ t.vloopAt = s.root) ∧
  (∀ (s : State) (v : Q), v < 21 / 10 → s.vauxOk = true →
    ∃ t, exec (.vkeepLow v) s = .next t ∧ t.supply 7 = true ∧ t.getR Obj.SUPPLY_STATUS.VKEEP = some v) ∧
  (∀ (s : State) (v : Q), 22 / 10 ≤ v →
    ∃ t, exec (.vkeepValid v) s = .next t ∧ t.vkeepOk = true ∧ t.supply 7 = false ∧ t.getR Obj.SUPPLY_STATUS.VKEEP = some v) ∧
  (∀ (s : State) (v : Q), v < 2 → s.vauxOk = true →
    ∃ t, exec (.vkeepInvalid v) s = .next t ∧ t.vkeepOk = false ∧ t.supply 7 = true) ∧
  (∀ (s : State) (v : Q), v < 2 → s.vauxOk = false →
    ∃ t, exec (.vkeepInvalid v) s = .next t ∧ t.vkeepOk = false ∧ t.vest = { alive := false }) ∧
  (∀ (s : State) (v : Q), 26 ≤ v →
    ∃ t, exec (.holdReady v) s = .next t ∧ t.supply 4 = true ∧ t.getR Obj.SUPPLY_STATUS.VHOLD = some v) ∧
  (∀ (s : State) (v : Q), v < 24 → s.mode ≠ .run →
    ∃ t, exec (.holdLow v) s = .next t ∧ t.supply 4 = false ∧ t.getR Obj.SUPPLY_STATUS.VHOLD = some v) ∧
  (∀ (s : State) (v : Q), v < 24 → s.mode = .run → s.powerDown = false →
    ∃ t, exec (.holdLow v) s = .next t ∧ t.mode = .run ∧ t.supply 4 = false ∧ t.flag Obj.SUPPLY_STATUS.EVENTS 3 = true) ∧
  (∀ (s : State) (a b : Q), s.vauxOk = true → s.passed s.vest.probeAt (secTicks 10) = true → 1 / 5 < a - b →
    ∃ t, exec (.keepProbe a b) s = .next t ∧ t.supply 6 = true ∧ t.supply 5 = false ∧ t.vest.probeAt = s.root) ∧
  (∀ (s : State) (a b : Q), s.vauxOk = true → s.passed s.vest.probeAt (secTicks 10) = true → a - b ≤ 1 / 5 →
    ∃ t, exec (.keepProbe a b) s = .next t ∧ t.supply 6 = false ∧
      t.supply 5 = decide (a < s.getQ Obj.SUPPLY_STATUS.KEEP_CHARGE_V) ∧ t.getR Obj.SUPPLY_STATUS.VKEEP = some a) ∧
  (∀ (s : State) (v : Q), s.supply 5 = true → s.getQ Obj.SUPPLY_STATUS.KEEP_CHARGE_V + 3 / 20 < v →
    ∃ t, exec (.keepCellOvervoltage v) s = .next t ∧ t.supply 6 = true ∧ t.supply 5 = false)

/-- R54, R56, R57, R62, R65, R67, R422 and Tables 2-3, 2-4, 2-7 and 2-8. -/
def Obligations.PowerDownAndBootComplete : Prop :=
  (∀ (s : State) (pin : Bool) (v h : Q), s.vauxOk = true → s.mode ≠ .vault → s.mode ≠ .boot → s.mode ≠ .recovery →
      s.safe.groups.length = 8 →
    ∃ t, exec (.pfail pin ⟨v, h⟩) s = .next t ∧ t.powerDown = true ∧ t.mode = s.mode ∧ t.served = false ∧ t.sreqs = [] ∧
      t.vauxOk = false ∧ t.getR Obj.SUPPLY_STATUS.VAUX = some v ∧ t.getR Obj.SUPPLY_STATUS.VHOLD = some h ∧
      (∀ l < 16, t.loadOn l = false) ∧ ∀ g < 8, (s.grp g).state = .energised → (t.grp g).state = .opening) ∧
  (∀ (s : State) (pin : Bool) (v h : Q), s.vauxOk = true → s.mode = .recovery →
    ∃ t, exec (.pfail pin ⟨v, h⟩) s = .next t ∧ t.powerDown = true ∧ t.mode = .recovery ∧ t.sreqs = [] ∧ t.vauxOk = false) ∧
  (∀ (s : State) (pin : Bool) (v h : Q), s.vauxOk = true → s.mode = .boot →
    ∃ t, exec (.pfail pin ⟨v, h⟩) s = .next t ∧ t.mode = .vault ∧ t.getN Obj.MODE_STATUS.LAST_CAUSE = 3 ∧ t.vauxOk = false) ∧
  (∀ (s : State) (at_ : Nat), s.md.transit = .powerDown at_ → s.recd.flushTo = none ∨ s.passed at_ (usTicks 15000) = true →
      s.md.vauxBack = false →
    ∃ t, exec .powerDownComplete s = .next t ∧ t.mode = .vault ∧ t.served = false ∧ t.getN Obj.MODE_STATUS.LAST_CAUSE = 3) ∧
  (∀ (s : State) (at_ : Nat), s.md.transit = .powerDown at_ → s.recd.flushTo = none ∨ s.passed at_ (usTicks 15000) = true →
      s.md.vauxBack = true →
    ∃ t, exec .powerDownComplete s = .next t ∧ t.mode = .boot ∧ t.vauxOk = true) ∧
  (∀ (s : State) (a b : Bool), s.mayStart = true → s.md.pllLocked = false →
    ∃ t, exec (.rootPllLock a b) s = .next t ∧ t.md.pllLocked = true ∧ t.md.released = true ∧ t.md.recoveryPin = a ∧
      t.md.testEn = b ∧ s.now ≤ t.now ∧ (a = true → b = false → t.md.landCause = 0x0E)) ∧
  (∀ (s : State) (a b c : Bool), s.mayStart = true → s.md.pllLocked = true → s.md.testEn = false → s.md.verified = false →
      s.md.landCause = 0 →
    ∃ t, exec (.landingVerifyDone a b c) s = .next t ∧ t.md.verified = true ∧ t.safe.newel.loaded = true ∧
      t.safe.baluster.loaded = true ∧ (a = false → b = false → t.md.landCause = 0x0F)) ∧
  (∀ (s : State) (a b : Bool), s.mayStart = true → s.md.verified = true → s.md.landCause = 0 → s.md.selfTested = false →
    ∃ t, exec (.channelSelfTestDone a b) s = .next t ∧ t.md.selfTested = true ∧ t.safe.newel.healthy = a ∧
      t.safe.baluster.healthy = b) ∧
  (∀ s : State, s.mayStart = true → s.md.pllLocked = true → s.md.testEn = false → s.md.landCause ≠ 0 →
    ∃ t, exec .bootComplete s = .next t ∧ t.mode = .recovery) ∧
  (∀ s : State, s.mayStart = true → s.md.pllLocked = true → s.md.testEn = false → s.md.landCause = 0 → s.md.selfTested = true →
    ∃ t, exec .bootComplete s = .next t ∧ t.mode = if s.latched then .lockout else .ready) ∧
  (∀ s : State, s.mayStart = true → s.md.testEn = false → s.passed s.md.bootSince (secTicks 5) = true →
    ∃ t, exec .bootWatchdogExpiry s = .next t ∧ t.mode = .boot ∧ t.md.bootSince = s.root ∧ t.md.bootCauseNow = 0x10 ∧
      t.getN Obj.RESET_LADDER.BOOT_FAILS = min 3 (s.getN Obj.RESET_LADDER.BOOT_FAILS + 1)) ∧
  (∀ (s : State) (us : Nat), 10 ≤ us → s.powerDown = false → s.mode ≠ .vault →
    ∃ t, exec (.resetNAssert us) s = .next t ∧ t.mode = .boot ∧ t.md.resetHeld = true ∧ t.md.bootCauseNow = 4) ∧
  (∀ (s : State) (us : Nat), 10 ≤ us → s.mode = .vault → s.powerDown = false → s.vauxOk = true →
    ∃ t, exec (.resetNAssert us) s = .next t ∧ t.mode = .boot ∧ t.md.resetHeld = true ∧ t.md.bootCauseNow = 4) ∧
  (∀ (s : State) (us : Nat), us < 2 → exec (.resetNAssert us) s = .next s) ∧
  (∀ s : State, s.md.resetHeld = true →
    ∃ t, exec .resetNRelease s = .next t ∧ t.md.resetHeld = false ∧ t.md.bootSince = s.root) ∧
  (∀ s : State, s.md.pllLocked = true → s.mode ≠ .vault → s.mode ≠ .watch → s.powerDown = false →
    ∃ t, exec .rootPllUnlock s = .next t ∧ t.mode = .boot ∧ t.latched = true ∧ t.md.bootCauseNow = 7) ∧
  (∀ s : State, s.mode = .ready ∨ s.mode = .lockout → s.powerDown = false → s.updState ≠ 7 →
    ∃ t, exec .coreWatchdogExpiry s = .next t ∧ t.md.transit = .resetWait 6 false s.root) ∧
  (∀ s : State, s.mode = .run → s.powerDown = false → s.updState ≠ 7 → s.phase ≠ 2 →
    ∃ t, exec .coreWatchdogExpiry s = .next t ∧ t.mode = .run ∧ t.phase = 2 ∧ t.md.exitReset = some 6) ∧
  (∀ (s : State) (k : Nat), s.recd.flushTo = some k → s.recd.buffer.all (fun r => decide (k < r.seq)) = true →
      s.md.transit = .none →
    ∃ t, exec .flushDone s = .next t ∧ t.recd.flushTo = none ∧ t.dict = s.dict) ∧
  (∀ (s : State) (k c at_ : Nat) (land : Bool), s.recd.flushTo = some k →
      s.recd.buffer.all (fun r => decide (k < r.seq)) = true → s.md.transit = .resetWait c land at_ → s.md.exitReset = none →
    ∃ t, exec .flushDone s = .next t ∧ t.mode = .boot ∧ t.md.bootCauseNow = c ∧ t.md.landingNext = land)

/-- R60, R61, R63, R68, R69 and Tables 2-4 and 2-9: requests that are taken at once. That steps 1 and the steps 2 of ports are done at
once is the model's choice (log entry 14). -/
def Obligations.ModeRequestsComplete : Prop :=
  (∀ (s : State) (p : Path), s.takesWrite p 0x2000 1 [4] (.n 4) → s.mode = .ready → s.entering = false → s.runConds = 0 →
    ∃ t, exec (.requestRun p) s = .next t ∧ t.mode = .run ∧ t.phase = 1 ∧ t.getN Obj.MODE_STATUS.LAST_CAUSE = 1 ∧
      t.last = some (.ok [])) ∧
  (∀ (s : State) (p : Path), s.takesWrite p 0x2000 1 [4] (.n 4) → s.mode = .ready → s.entering = false → s.runConds ≠ 0 →
    ∃ t, exec (.requestRun p) s = .next t ∧ t.mode = .ready ∧ t.last = some (.ok []) ∧ t.phase = s.phase ∧
      t.getN Obj.MODE_CTRL.RESULT = 4 ∧ t.getN Obj.MODE_CTRL.REFUSE_REASON = s.runConds ∧ t.getN Obj.MODE_CTRL.REQUEST = 4) ∧
  (∀ (s : State) (p : Path), s.takesWrite p 0x2000 1 [3] (.n 3) → s.mode = .ready → s.entering = false →
    ∃ t, exec (.requestReady p) s = .next t ∧ t.mode = .ready ∧ t.last = some (.ok []) ∧ t.getN Obj.MODE_CTRL.RESULT = 2 ∧
      t.getN Obj.MODE_CTRL.REQUEST = 3) ∧
  (∀ (s : State) (p : Path), s.takesWrite p 0x2000 1 [3] (.n 3) → s.mode = .run → s.phase ≠ 2 →
    ∃ t, exec (.requestReady p) s = .next t ∧ t.mode = .run ∧ t.phase = 2 ∧ t.last = some (.ok []) ∧
      t.getN Obj.MODE_CTRL.RESULT = 1 ∧ t.getN Obj.MODE_CTRL.REQUEST = 3) ∧
  (∀ (s : State) (p : Path), s.takesWrite p 0x2000 1 [2] (.n 2) → s.mode = .ready → s.entering = false →
    ∃ t, exec (.requestWatch p) s = .next t ∧ t.last = some (.ok []) ∧ t.mode = .ready ∧ t.md.transit = .toWatch 1 s.root) ∧
  (∀ (s : State) (p : Path), s.takesWrite p 0x2000 1 [1] (.n 1) → s.mode = .ready → s.entering = false →
    ∃ t, exec (.requestVault p) s = .next t ∧ t.last = some (.ok []) ∧ t.mode = .ready ∧ t.md.transit = .toVault 1 s.root) ∧
  (∀ (s : State) (p : Path), s.takesWrite p 0x2000 1 [6] (.n 6) →
      (s.mode = .ready ∧ s.entering = false) ∨ (s.mode = .lockout ∧ s.powerDown = false) →
    ∃ t, exec (.requestRecovery p) s = .next t ∧ t.last = some (.ok []) ∧ t.md.transit = .resetWait 1 true s.root) ∧
  (∀ (s : State) (p : Path), s.takesWrite p 0x2000 1 [2] (.n 2) → s.mode = .run ∨ s.mode = .lockout →
    exec (.requestWatch p) s = .next (s.reply (.abort abortState))) ∧
  (∀ (s : State) (p : Path), s.takesWrite p 0x2000 1 [1] (.n 1) → s.mode = .run ∨ s.mode = .lockout →
    exec (.requestVault p) s = .next (s.reply (.abort abortState))) ∧
  (∀ (s : State) (p : Path), s.takesWrite p 0x2000 1 [6] (.n 6) → s.mode = .run →
    exec (.requestRecovery p) s = .next (s.reply (.abort abortState))) ∧
  (∀ (s : State) (p : Path), s.takesWrite p 0x2000 1 [3] (.n 3) → s.mode = .lockout →
    exec (.requestReady p) s = .next (s.reply (.abort abortState))) ∧
  (∀ (s : State) (p : Path), s.takesWrite p 0x2000 1 [4] (.n 4) → s.mode = .lockout →
    exec (.requestRun p) s = .next (s.reply (.abort abortState))) ∧
  (∀ (s : State) (p : Path) (c i : Nat), 1 ≤ c → c ≤ 6 → i < s.blockCount c →
      s.takesWrite p 0x2002 1 (leBytes 4 (1 + 256 * c + 65536 * i)) (.n (1 + 256 * c + 65536 * i)) →
    ∃ t, exec (.ladderRetry p c i) s = .next t ∧ t.last = some (.ok []) ∧ t.getN Obj.RESET_LADDER.RESULT = 2 ∧
      (c = 1 → s.strOn i = true → t.trunk i = 1)) ∧
  (∀ (s : State) (p : Path) (i : Nat), i < s.part.galleries → s.energised i = true →
      s.takesWrite p 0x2002 1 (leBytes 4 (2 + 256 + 65536 * i)) (.n (2 + 256 + 65536 * i)) →
    exec (.ladderReinitialise p 1 i) s = .next (s.reply (.abort abortState))) ∧
  (∀ (s : State) (p : Path) (i : Nat), i < s.part.galleries → s.energised i = false → s.strOn i = true →
      s.takesWrite p 0x2002 1 (leBytes 4 (2 + 256 + 65536 * i)) (.n (2 + 256 + 65536 * i)) →
    ∃ t, exec (.ladderReinitialise p 1 i) s = .next t ∧ t.last = some (.ok []) ∧ t.getN Obj.RESET_LADDER.RESULT = 1 ∧
      t.trunk i = 1) ∧
  (∀ (s : State) (p : Path) (c i : Nat), 3 ≤ c → c ≤ 6 → i < s.blockCount c → s.origin = .plain →
      s.takesWrite p 0x2002 1 (leBytes 4 (2 + 256 * c + 65536 * i)) (.n (2 + 256 * c + 65536 * i)) →
    ∃ t, exec (.ladderReinitialise p c i) s = .next t ∧ t.last = some (.ok []) ∧ t.getN Obj.RESET_LADDER.RESULT = 2) ∧
  (∀ (s : State) (p : Path), s.takesWrite p 0x2002 1 (leBytes 4 3) (.n 3) → s.mode = .ready ∨ s.mode = .lockout → s.powerDown = false →
    ∃ t, exec (.ladderDeviceReset p) s = .next t ∧ t.last = some (.ok []) ∧ t.md.transit = .resetWait 5 false s.root) ∧
  (∀ (s : State) (p : Path), s.takesWrite p 0x2002 1 (leBytes 4 3) (.n 3) → s.mode = .run → s.powerDown = false → s.phase ≠ 2 →
    ∃ t, exec (.ladderDeviceReset p) s = .next t ∧ t.last = some (.ok []) ∧ t.mode = .run ∧ t.phase = 2 ∧
      t.md.exitReset = some 5)

/-- Table 2-4, R51, R61, R63, R64, R74, R162, R401, R402, R479. -/
def Obligations.ModeTransitionsComplete : Prop :=
  (∀ s : State, s.mode = .run → s.phase = 1 →
      (∀ g < 8, (s.grp g).pend = false ∧ (s.grp g).state ∉ [.busCheck, .precharge, .closing, .releasing]) →
    ∃ t, exec .entryToRunComplete s = .next t ∧ t.phase = 0 ∧ t.mode = .run ∧
      (s.getN Obj.MODE_CTRL.RESULT = 1 → t.getN Obj.MODE_CTRL.RESULT = 2)) ∧
  (∀ s : State, s.mode = .run → s.phase = 2 → s.powerDown = false → s.md.exitReset = none →
      (∀ g < 8, (s.grp g).state = .off ∨ (s.grp g).state = .waitOff) →
    ∃ t, exec .exitFromRunComplete s = .next t ∧ t.mode = .ready ∧ t.phase = 0 ∧
      t.getN Obj.MODE_STATUS.LAST_CAUSE = s.md.exitCause) ∧
  (∀ (s : State) (c : Nat), s.mode = .run → s.phase = 2 → s.powerDown = false → s.md.exitReset = some c →
      (∀ g < 8, (s.grp g).state = .off ∨ (s.grp g).state = .waitOff) →
    ∃ t, exec .exitFromRunComplete s = .next t ∧ t.mode = .ready ∧ t.md.transit = .resetWait c false s.root) ∧
  (∀ s : State, s.mode = .ready → s.md.deferRun = true → s.md.transit = .none → (∀ g < 8, (s.grp g).state ≠ .waitOff) → s.runConds ≠ 0 →
    ∃ t, exec .deferredRun s = .next t ∧ t.mode = .ready ∧ t.md.deferRun = false ∧ t.getN Obj.MODE_CTRL.RESULT = 4 ∧
      t.getN Obj.MODE_CTRL.REFUSE_REASON = s.runConds) ∧
  (∀ s : State, s.mode = .ready → s.md.deferRun = true → s.md.transit = .none → (∀ g < 8, (s.grp g).state ≠ .waitOff) → s.runConds = 0 →
    ∃ t, exec .deferredRun s = .next t ∧ t.mode = .run ∧ t.md.deferRun = false ∧ t.phase = 1) ∧
  (∀ (s : State) (at_ : Nat), s.md.transit = .toVault 1 at_ → s.stage1Over at_ = true →
    ∃ t, exec .vaultEntryStage1Done s = .next t ∧ t.md.transit = .toVault 2 at_ ∧ t.recd.flushTo ≠ none) ∧
  (∀ (s : State) (at_ : Nat), s.md.transit = .toVault 2 at_ → s.recd.flushTo = none ∨ s.passed at_ (msTicks 150) = true →
    ∃ t, exec .vaultEntryDone s = .next t ∧ t.mode = .vault ∧ t.getN Obj.MODE_STATUS.LAST_CAUSE = 1) ∧
  (∀ (s : State) (at_ : Nat), s.md.transit = .toWatch 1 at_ → s.stage1Over at_ = true →
    ∃ t, exec .watchEntryStage1Done s = .next t ∧ t.md.transit = .toWatch 2 at_ ∧ t.recd.flushTo ≠ none) ∧
  (∀ (s : State) (at_ : Nat), s.md.transit = .toWatch 2 at_ → s.recd.flushTo = none ∨ s.passed at_ (msTicks 150) = true →
      s.md.wakeKept = none →
    ∃ t, exec .watchEntryDone s = .next t ∧ t.mode = .watch ∧ t.md.transit = .none) ∧
  (∀ (s : State) (at_ c : Nat), s.md.transit = .toWatch 2 at_ → s.recd.flushTo = none ∨ s.passed at_ (msTicks 150) = true →
      s.md.wakeKept = some c →
    ∃ t, exec .watchEntryDone s = .next t ∧ t.mode = .ready ∧ t.md.transit = .none ∧ t.md.wakeKept = none ∧
      t.getN Obj.MODE_STATUS.LAST_CAUSE = c) ∧
  (∀ s : State, s.mode = .vault → s.vauxOk = true → ∃ t, exec .wakeIn s = .next t ∧ t.mode = .boot ∧ t.md.bootCauseNow = 8) ∧
  (∀ s : State, s.mode = .vault → s.vauxOk = false → s.md.wakeWait = none →
    ∃ t, exec .wakeIn s = .next t ∧ t.mode = .vault ∧ t.md.wakeOut = true ∧ t.md.wakeWait = some s.root) ∧
  (∀ s : State, s.mode = .watch → s.md.transit = .none →
    ∃ t, exec .wakeIn s = .next t ∧ t.mode = .ready ∧ t.getN Obj.MODE_STATUS.LAST_CAUSE = 8) ∧
  (∀ (s : State) (k at_ : Nat), s.mode = .ready → s.md.transit = .toWatch k at_ → s.md.wakeKept = none →
    ∃ t, exec .wakeIn s = .next t ∧ t.mode = .ready ∧ t.md.wakeKept = some 8) ∧
  (∀ (s : State) (us : Nat), s.mode = .vault → s.vauxOk = true → 5 ≤ us →
    ∃ t, exec (.canADominantEdge us) s = .next t ∧ t.mode = .boot ∧ t.md.bootCauseNow = 9) ∧
  (∀ (s : State) (us : Nat), s.mode = .vault → s.vauxOk = false → s.md.wakeWait = none → 5 ≤ us →
    ∃ t, exec (.canADominantEdge us) s = .next t ∧ t.mode = .vault ∧ t.md.wakeOut = true ∧ t.md.wakeWait = some s.root) ∧
  (∀ (s : State) (us : Nat), us < 1 → exec (.canADominantEdge us) s = .next s) ∧
  (∀ (s : State) (port id : Nat) (ide : Bool) (d : List Byte), s.mode = .watch → s.md.transit = .none → s.wakeMatch port id ide d = true →
    ∃ t, exec (.wakeFrame port id ide d) s = .next t ∧ t.mode = .ready ∧ t.getN Obj.MODE_STATUS.LAST_CAUSE = 0x0A ∧
      t.getN Obj.WAKE_FRAME.WAKES = min 0xFFFFFFFF (s.getN Obj.WAKE_FRAME.WAKES + 1)) ∧
  (∀ (s : State) (at_ : Nat), s.mode = .vault → s.md.wakeWait = some at_ → s.passed at_ (secTicks 2) = true →
    ∃ t, exec .wakeNoVaux s = .next t ∧ t.mode = .vault ∧ t.md.wakeWait = none ∧ t.md.wakeOut = false ∧
      t.flag Obj.SUPPLY_STATUS.EVENTS 5 = true) ∧
  (∀ s : State, s.mode = .watch → s.md.transit = .none → s.passed s.md.watchAt (secTicks (s.getN Obj.WATCH_CFG.CHECK_INTERVAL)) = true →
      (∀ n, s.watchChecks n = false) →
    ∃ t, exec (.watchCheck []) s = .next t ∧ t.mode = .watch ∧ t.md.watchAt = s.root ∧
      t.getN Obj.WATCH_CFG.CHECKS = min 0xFFFFFFFF (s.getN Obj.WATCH_CFG.CHECKS + 1)) ∧
  (∀ (s : State) (r : WatchResult), s.mode = .watch → s.md.transit = .none → s.gal.length = 32 →
      s.passed s.md.watchAt (secTicks (s.getN Obj.WATCH_CFG.CHECK_INTERVAL)) = true → s.watchChecks r.string = true →
      (∀ m, m ≠ r.string → s.watchChecks m = false) → s.watchReason r = 0 →
    ∃ t, exec (.watchCheck [r]) s = .next t ∧ t.mode = .watch ∧ t.md.watchAt = s.root ∧
      t.getN Obj.WATCH_CFG.CHECKS = min 0xFFFFFFFF (s.getN Obj.WATCH_CFG.CHECKS + 1) ∧ (t.g r.string).head.asleep = true) ∧
  (∀ s : State, s.ticking = true → s.mode ≠ .boot → s.passed s.md.horizonAt (secTicks 60) = true →
    ∃ t, exec .timeHorizonWrite s = .next t ∧ t.nand.horizon = s.now + 37500000000 ∧ t.md.horizonAt = s.root)

/-- R80 and R98: a write that the checks refuse, and a read of no object or of a write-only one, change nothing but the outcome told. -/
def Obligations.RefusedAccessChangesNothing : Prop :=
  (∀ (s : State) (p : Path) (index sub : Nat) (d : List Byte) (c : Nat), s.atOnce p →
    checkWrite s p index sub d = .error c → exec (.registerWrite p index sub d) s = .next { s with last := some (.abort c) }) ∧
  (∀ (s : State) (p : Path) (index sub : Nat), s.atOnce p → s.hasIndex index = false →
    s.readObj p index sub = { s with last := some (.abort 0x06020000) }) ∧
  (∀ (s : State) (p : Path) (index sub : Nat), s.atOnce p → s.hasIndex index = true → rowOf index sub = none →
    s.readObj p index sub = { s with last := some (.abort 0x06090011) }) ∧
  (∀ (s : State) (p : Path) (index sub : Nat) (r : ObjRow), s.atOnce p → s.hasIndex index = true → rowOf index sub = some r →
    r.acc = .wo ∨ r.acc = .key → s.readObj p index sub = { s with last := some (.abort 0x06010001) })

/-- R77, R80, R97, R102: the first check that fails decides the abort code. -/
def Obligations.CheckOrderOfWrites : Prop :=
  (∀ (s : State) (p : Path) (i j : Nat) (d : List Byte), s.hasIndex i = false → checkWrite s p i j d = .error 0x06020000) ∧
  (∀ (s : State) (p : Path) (i j : Nat) (d : List Byte), s.hasIndex i = true → rowOf i j = none →
    checkWrite s p i j d = .error 0x06090011) ∧
  (∀ (s : State) (p : Path) (i j : Nat) (d : List Byte) (r : ObjRow), s.hasIndex i = true → rowOf i j = some r →
    (r.acc = .ro ∨ r.acc = .const → checkWrite s p i j d = .error 0x06010002) ∧
    (r.acc = .rwS ∨ r.acc = .key → p.isArcade = true → checkWrite s p i j d = .error 0x08000021) ∧
    (i = 0x2900 → j = 1 → p.isArcade = true → checkWrite s p i j d = .error 0x08000021) ∧
    (r.acc = .rwS → p.isArcade = false → s.mode ≠ .ready ∨ s.phase ≠ 0 → checkWrite s p i j d = .error 0x08000022) ∧
    (r.acc = .key → p.isArcade = false → (s.mode ≠ .ready ∧ s.mode ≠ .lockout) ∨ s.phase ≠ 0 →
      checkWrite s p i j d = .error 0x08000022) ∧
    (r.acc = .rwL → ¬ (p.isArcade = true ∧ i = 0x2900 ∧ j = 1) → (s.mode ≠ .ready ∧ s.mode ≠ .lockout) ∨ s.phase ≠ 0 →
      checkWrite s p i j d = .error 0x08000022) ∧
    (r.acc = .rw ∨ r.acc = .wo ∨ r.acc = .rwL → ¬ (i = 0x2900 ∧ j = 1) → p.isArcade = true → s.timeLocked = false →
      checkWrite s p i j d = .error 0x08000022)) ∧
  (∀ (s : State) (p : Path) (i j : Nat) (r : ObjRow), frontCheck s p i j = .ok r →
    checkWrite s p i j [] = .error 0x06070013) ∧
  (∀ (s : State) (p : Path) (i j k : Nat) (d : List Byte) (r : ObjRow), frontCheck s p i j = .ok r → d ≠ [] → r.ty.size = some k →
    d.length ≠ k → checkWrite s p i j d = .error 0x06070010) ∧
  (∀ (s : State) (p : Path) (i j k : Nat) (d : List Byte) (r : ObjRow), frontCheck s p i j = .ok r → d ≠ [] → r.ty.size = some k →
    d.length = k → decodeVal r.ty d = none → checkWrite s p i j d = .error 0x06090030) ∧
  (∀ (s : State) (p : Path) (i j k : Nat) (d : List Byte) (r : ObjRow) (v : Val), frontCheck s p i j = .ok r → d ≠ [] →
    r.ty.size = some k → d.length = k → decodeVal r.ty d = some v →
    r.rng.admits r.ty v = false ∨ orderOk (s.seen i) i j (keyOf i j) v = false → checkWrite s p i j d = .error 0x06090030)

/-- R45 and R46: hardware wins over a clear in the same cycle. -/
def Obligations.HardwareWinsOverClear : Prop :=
  (∀ (s : State) (p : Path) (index sub ones hw m i : Nat) (r : ObjRow), rowOf index sub = some r → r.w1c = true → r.rng = .mask m →
    s.hasIndex index = true → s.mustWait = false → bit hw i = true → bit m i = true →
    ∃ t, exec (.writeOneToClear p index sub ones hw) s = .next t ∧ bit (t.getN (keyOf index sub)) i = true) ∧
  (∀ (s : State) (q : SReq) (r : ObjRow) (m i : Nat), q.write = true → q.origin = .plain → rowOf q.index q.sub = some r →
    r.w1c = true → r.rng = .mask m → s.hasIndex q.index = true → bit q.hw i = true → bit m i = true →
    bit ((s.serveReq q).getN (keyOf q.index q.sub)) i = true) ∧
  (∀ (s : State) (p : Path) (i hw : Nat), i < 2 → s.takesWrite p (0x2700 + i) 0x14 (leBytes 4 0) (.n 0) →
    ∃ t, exec (.writeOneToClear p (0x2700 + i) 0x14 0 hw) s = .next t ∧ t.getN (Can.HEAD_WAIT_MAX i) = hw % 2 ^ 32)

/-- R45, R80, R82, R88, R89, R93, R94, R100, R439. -/
def Obligations.PlainWritesAndSelectors : Prop :=
  (∀ (s : State) (p : Path) (i j ones hw m k : Nat) (r : ObjRow), rowOf i j = some r → r.w1c = true → r.rng = .mask m →
      r.ty.size = some k → s.takesWrite p i j (leBytes k ones) (.n ones) →
    ∃ t, exec (.writeOneToClear p i j ones hw) s = .next t ∧ t.last = some (.ok []) ∧
      (∀ b, bit (t.getN (keyOf i j)) b = (bit (s.getN (keyOf i j)) b && !bit ones b || bit hw b && bit m b)) ∧
      s.sameBut t [keyOf i j]) ∧
  (∀ (s : State) (p : Path) (n j : Nat) (d : List Byte) (v : Val), n < 32 → s.takesWrite p (0x400B + 0x40 * n) j d v →
      s.strOn n = false →
    ∃ t, exec (.registerWrite p (0x400B + 0x40 * n) j d) s = .next t ∧ t.last = some (.ok []) ∧
      t.val (keyOf (0x400B + 0x40 * n) j) = v ∧ s.sameBut t [keyOf (0x400B + 0x40 * n) j]) ∧
  (∀ (s : State) (p : Path) (n j : Nat) (d : List Byte) (v : Val), n < 32 → s.gal.length = 32 →
      s.takesWrite p (0x400B + 0x40 * n) j d v → s.strOn n = true →
    ∃ t, exec (.registerWrite p (0x400B + 0x40 * n) j d) s = .next t ∧ t.last = some (.ok []) ∧
      (keyOf (0x400B + 0x40 * n) j, v) ∈ (t.g n).held ∧ ∀ k, t.val k = s.val k) ∧
  (∀ (s : State) (p : Path) (i : Nat) (b : Byte), i < 2 → s.takesWrite p (0x2700 + i) 2 [b] (.n b.toNat) →
    ∃ t, exec (.registerWrite p (0x2700 + i) 2 [b]) s = .next t ∧ t.last = some (.ok []) ∧ t.getN (Can.NODE_ID i) = b.toNat ∧
      s.sameBut t [Can.NODE_ID i]) ∧
  (∀ (s : State) (p : Path) (n w : Nat), n < 32 → s.takesWrite p (0x4030 + 0x40 * n) 1 (leBytes 8 w) (.n w) →
    ∃ t, exec (.cellWindowSel p n w) s = .next t ∧ t.last = some (.ok []) ∧
      t.getN (pathKey p (Gal.CELL_WINDOW_SEL.SELECT n)) = w ∧ s.sameBut t [pathKey p (Gal.CELL_WINDOW_SEL.SELECT n)]) ∧
  (∀ (s : State) (p : Path), s.takesWrite p 0x1010 1 (leBytes 4 0x65766173) (.n 0x65766173) →
      (∀ n < 32, (s.g n).held = [] ∧ (s.g n).est.setNext = none) →
    ∃ t, exec (.store p) s = .next t ∧ t.last = some (.ok []) ∧ t.nand.saved = s.dict.filter (fun e => isSetting e.1) ∧
      ∀ k, t.val k = s.val k) ∧
  (∀ (s : State) (p : Path), s.takesWrite p 0x1011 1 (leBytes 4 0x64616F6C) (.n 0x64616F6C) →
    ∃ t, exec (.restore p) s = .next t ∧ t.last = some (.ok []) ∧ t.nand.loadNext = true ∧ ∀ k, t.val k = s.val k) ∧
  (∀ (s : State) (p : Path) (i w : Nat), i = 0x1010 ∧ w ≠ 0x65766173 ∨ i = 0x1011 ∧ w ≠ 0x64616F6C →
      s.takesWrite p i 1 (leBytes 4 w) (.n w) →
    exec (.registerWrite p i 1 (leBytes 4 w)) s = .next (s.reply (.abort 0x08000020))) ∧
  (∀ (s : State) (p : Path), s.takesWrite p 0x1003 0 [0] (.n 0) →
    ∃ t, exec (.errorFieldClear p) s = .next t ∧ t.last = some (.ok []) ∧ ∀ j ≤ 16, t.getN (keyOf 0x1003 j) = 0) ∧
  (∀ (s : State) (p : Path) (key : List Byte), s.takesWrite p 0x2500 2 key (.b key) →
    ∃ t, exec (.ringKey p key) s = .next t ∧ t.last = some (.ok []) ∧ t.nand.ringKey = some key ∧ ∀ k, t.val k = s.val k) ∧
  (∀ (s : State) (p : Path) (key : List Byte), s.takesWrite p 0x2300 9 key (.b key) →
    ∃ t, exec (.ownerKey p key) s = .next t ∧ t.last = some (.ok []) ∧
      t.nand.ownerKey = (if key.all (fun b => b == 0) then none else some key)) ∧
  (∀ (s : State) (p : Path) (n : Nat), n < 32 → s.takesWrite p (0x403F + 0x40 * n) 1 [1] (.n 1) → s.energised n = false →
      s.strOn n = false →
    ∃ t, exec (.blockCtrlReinitialise p n) s = .next t ∧ t.last = some (.ok []) ∧ t.getN (Gal.BLOCK_CTRL.RESULT n) = 2) ∧
  (∀ (s : State) (p : Path) (n : Nat), n < 32 → s.takesWrite p (0x403F + 0x40 * n) 1 [1] (.n 1) → s.energised n = false →
      s.strOn n = true →
    ∃ t, exec (.blockCtrlReinitialise p n) s = .next t ∧ t.last = some (.ok []) ∧ t.getN (Gal.BLOCK_CTRL.RESULT n) = 1 ∧ t.trunk n = 1) ∧
  (∀ (s : State) (p : Path) (n : Nat), n < 32 → s.takesWrite p (0x403F + 0x40 * n) 1 [1] (.n 1) → s.energised n = true →
    exec (.blockCtrlReinitialise p n) s = .next (s.reply (.abort abortState)))

/-- R92, R94, R95: reads of CELL_WINDOW. -/
def Obligations.CellWindowReads : Prop :=
  ∀ (s : State) (p : Path) (n : Nat), n < 32 → s.takesRead p (0x4031 + 0x40 * n) 1 →
    (s.strOn n = true → selectOk s n (s.getN (pathKey p (Gal.CELL_WINDOW_SEL.SELECT n))) = true →
      exec (.cellWindow p n) s =
        .next { s with last := some (.ok (s.windowReply n (s.getN (pathKey p (Gal.CELL_WINDOW_SEL.SELECT n))))) }) ∧
    (s.strOn n = false → exec (.cellWindow p n) s = .next { s with last := some (.abort 0x08000024) }) ∧
    (s.strOn n = true → selectOk s n (s.getN (pathKey p (Gal.CELL_WINDOW_SEL.SELECT n))) = false →
      exec (.cellWindow p n) s = .next { s with last := some (.abort 0x06090030) })

/-- R83: an rw-S write changes only the pending set (and SEAL_STATE while a sealed set is in force); what a boot makes of the sets. -/
def Obligations.SafetySetWritesArePending : Prop :=
  (∀ (s : State) (p : Path) (index sub : Nat) (d : List Byte) (v : Val) (r : ObjRow), rowOf index sub = some r → r.acc = .rwS →
    s.takesWrite p index sub d v →
    ∃ t, exec (.rwSWrite p index sub d) s = .next t ∧ t.last = some (.ok []) ∧
      SMap.get dfltOf t.safetySet.pendingSet (keyOf index sub) = v ∧
      (∀ k, k ≠ keyOf index sub → SMap.get dfltOf t.safetySet.pendingSet k = SMap.get dfltOf s.safetySet.pendingSet k) ∧
      t.safetySet.inForce = s.safetySet.inForce ∧ t.nand = s.nand ∧ t.gal = s.gal ∧ t.safe = s.safe ∧
      s.sameBut t [Obj.SAFETY_CFG.SEAL_STATE] ∧
      t.getN Obj.SAFETY_CFG.SEAL_STATE = (if s.safetySet.sealedNow then 1 else s.getN Obj.SAFETY_CFG.SEAL_STATE)) ∧
  (∀ s : State, s.bootSeal.safetySet.pendingSet = s.bootSeal.safetySet.inForce ∧
    s.bootSeal.getN Obj.SAFETY_CFG.SEAL_STATE = (if s.bootSeal.safetySet.sealedNow then 2 else 0) ∧
    s.bootSeal.getN Obj.SAFETY_CFG.SEAL_CHECK = 0 ∧
    (s.bootSeal.safetySet.sealedNow = false → s.bootSeal.safetySet.inForce = []))

/-- R85, R87 and R301, R302. -/
def Obligations.SealingTakesEffect : Prop :=
  (∀ (s : State) (p : Path) (b : Bool), s.takesWrite p 0x2900 1 (leBytes 4 s.pendingCrc) (.n s.pendingCrc) → s.sealCheck = 0 →
    ∃ t, exec (.sealSet p s.pendingCrc true b) s = .next t ∧ t.last = some (.ok []) ∧
      t.safetySet.inForce = s.safetySet.pendingSet ∧ t.safetySet.sealedNow = true ∧
      t.nand.sealed = some (s.safetySet.pendingSet, s.pendingCrc) ∧ t.nand.sealedPrev = s.nand.sealed ∧
      t.getN Obj.SAFETY_CFG.SEAL_STATE = 2) ∧
  (∀ (s : State) (p : Path) (crc : Nat) (a b : Bool), s.takesWrite p 0x2900 1 (leBytes 4 crc) (.n crc) → crc ≠ s.pendingCrc →
    exec (.sealSet p crc a b) s = .next (s.reply (.abort abortSeal))) ∧
  (∀ (s : State) (p : Path) (a b : Bool), s.takesWrite p 0x2900 1 (leBytes 4 s.pendingCrc) (.n s.pendingCrc) → s.sealCheck ≠ 0 →
    ∃ t, exec (.sealSet p s.pendingCrc a b) s = .next t ∧ t.last = some (.abort 0x06090030) ∧ t.safetySet = s.safetySet ∧
      t.nand = s.nand ∧ t.getN Obj.SAFETY_CFG.SEAL_CHECK = s.sealCheck ∧ s.sameBut t [Obj.SAFETY_CFG.SEAL_CHECK]) ∧
  (∀ (s : State) (p : Path), s.takesWrite p 0x2900 1 (leBytes 4 s.pendingCrc) (.n s.pendingCrc) → s.sealCheck = 0 →
    ∃ t, exec (.sealSet p s.pendingCrc false true) s = .next t ∧ t.last = some (.abort 0x08000020) ∧ t.safetySet = s.safetySet ∧
      t.nand = s.nand ∧ t.getN Obj.SAFETY_CFG.SEAL_CHECK = 128 ∧ s.sameBut t [Obj.SAFETY_CFG.SEAL_CHECK]) ∧
  (∀ (s : State) (p : Path), s.takesWrite p 0x2900 1 (leBytes 4 s.pendingCrc) (.n s.pendingCrc) → s.sealCheck = 0 →
    ∃ t, exec (.sealSet p s.pendingCrc false false) s = .next t ∧ t.last = some (.abort 0x08000020) ∧
      t.safetySet.pendingSet = s.safetySet.pendingSet ∧ t.safetySet.sealedNow = false ∧
      t.getN Obj.SAFETY_CFG.SEAL_STATE = 0 ∧ ∀ n < s.part.galleries, t.flag (Gal.PROT_STATUS.STANDING n) 7 = true) ∧
  (∀ (s : State) (p : Path), s.takesWrite p 0x2900 4 [1] (.n 1) →
    ∃ t, exec (.sealDiscard p) s = .next t ∧ t.last = some (.ok []) ∧ t.safetySet.pendingSet = s.safetySet.inForce ∧
      t.safetySet.inForce = s.safetySet.inForce ∧ t.getN Obj.SAFETY_CFG.SEAL_STATE = if s.safetySet.sealedNow then 2 else 0)

/-- R90 with the frame layouts of CiA 301 (log entry 12): expedited and segmented transfers. -/
def Obligations.SdoSegmentedTransfers : Prop :=
  (∀ (s : State) (p i j : Nat) (size : Option Nat) (fd : Bool), s.sdoOn p = true → s.cans.length = 2 →
    ∃ t, exec (.sdoInitiateDownload p { index := i, sub := j, data := [] } false size fd) s = .next t ∧
      (t.sdo p).phase = .downSeg size false [] ∧ t.sdoSent p (sdoFrame 0x60 (i % 65536) (j % 256) [])) ∧
  (∀ (s : State) (p : Nat) (a b : Byte) (fd : Bool), s.sdoOn p = true → s.cans.length = 2 →
      s.takesWrite (canPath p) 0x1017 0 [a, b] (.n (leNat [a, b])) →
    ∃ t, exec (.sdoInitiateDownload p { index := 0x1017, sub := 0, data := [a, b] } true none fd) s = .next t ∧
      t.getN (keyOf 0x1017 0) = leNat [a, b] ∧ (t.sdo p).phase = .idle ∧ t.sdoSent p (sdoFrame 0x60 0x1017 0 [])) ∧
  (∀ (s : State) (p i j c : Nat) (d : List Byte) (fd : Bool), s.sdoOn p = true → s.cans.length = 2 → i < 65536 → j < 256 →
      s.atOnce (canPath p) → checkWrite s (canPath p) i j d = .error c →
    ∃ t, exec (.sdoInitiateDownload p { index := i, sub := j, data := d } true none fd) s = .next t ∧
      (t.sdo p).phase = .idle ∧ t.sdoSent p (sdoFrame 0x80 i j (leBytes 4 c))) ∧
  (∀ (s : State) (p : Nat) (size : Option Nat) (g fd : Bool) (d x : List Byte), s.sdoOn p = true → s.cans.length = 2 →
      (s.sdo p).phase = .downSeg size g d → (d ++ x).length ≤ 65536 →
    ∃ t, exec (.sdoDownloadSegment p g false x fd) s = .next t ∧ (t.sdo p).phase = .downSeg size (!g) (d ++ x) ∧
      t.sdoSent p (segFrame (0x20 + 16 * b2n g) [])) ∧
  (∀ (s : State) (p : Nat) (g fd : Bool) (a b : Byte) (d x : List Byte), s.sdoOn p = true → s.cans.length = 2 →
      (s.sdo p).phase = .downSeg (some 2) g d → d ++ x = [a, b] → (s.sdo p).index = 0x1017 → (s.sdo p).sub = 0 →
      s.takesWrite (canPath p) 0x1017 0 [a, b] (.n (leNat [a, b])) →
    ∃ t, exec (.sdoDownloadSegment p g true x fd) s = .next t ∧ (t.sdo p).phase = .idle ∧
      t.getN (keyOf 0x1017 0) = leNat [a, b] ∧ t.sdoSent p (segFrame (0x20 + 16 * b2n g) [])) ∧
  (∀ (s : State) (p : Nat) (size : Option Nat) (g l fd : Bool) (d x : List Byte), s.sdoOn p = true → s.cans.length = 2 →
      (s.sdo p).phase = .downSeg size (!g) d →
    ∃ t, exec (.sdoDownloadSegment p g l x fd) s = .next t ∧ (t.sdo p).phase = .idle ∧
      t.sdoSent p (sdoFrame 0x80 (s.sdo p).index (s.sdo p).sub (leBytes 4 abortCs))) ∧
  (∀ (s : State) (p : Nat) (fd : Bool), s.sdoOn p = true → s.cans.length = 2 → s.takesRead (canPath p) 0x1017 0 →
    ∃ t, exec (.sdoInitiateUpload p 0x1017 0 fd) s = .next t ∧ (t.sdo p).phase = .idle ∧
      t.sdoSent p (sdoFrame 0x4B 0x1017 0 (leBytes 2 (s.getN (keyOf 0x1017 0))))) ∧
  (∀ (s : State) (p : Nat) (fd : Bool), s.sdoOn p = true → s.cans.length = 2 → s.takesRead (canPath p) 0x1008 0 →
    ∃ t, exec (.sdoInitiateUpload p 0x1008 0 fd) s = .next t ∧ (t.sdo p).phase = .upSeg (nameBytes s.part) false ∧
      t.sdoSent p (sdoFrame 0x41 0x1008 0 (leBytes 4 6))) ∧
  (∀ (s : State) (p : Nat) (g fd : Bool) (d : List Byte), s.sdoOn p = true → s.cans.length = 2 → (s.sdo p).phase = .upSeg d g →
      7 < d.length →
    ∃ t, exec (.sdoUploadSegment p g fd) s = .next t ∧ (t.sdo p).phase = .upSeg (d.drop 7) (!g) ∧
      t.sdoSent p (segFrame (16 * b2n g) (d.take 7))) ∧
  (∀ (s : State) (p : Nat) (g fd : Bool) (d : List Byte), s.sdoOn p = true → s.cans.length = 2 → (s.sdo p).phase = .upSeg d g →
      d.length ≤ 7 →
    ∃ t, exec (.sdoUploadSegment p g fd) s = .next t ∧ (t.sdo p).phase = .idle ∧
      t.sdoSent p (segFrame (16 * b2n g + 2 * (7 - d.length) + 1) d))

/-- R90, R399 with the frame layouts of CiA 301 (log entry 12): block transfers, aborts, idle limit. -/
def Obligations.SdoBlockTransfers : Prop :=
  (∀ (s : State) (p i j : Nat) (size : Option Nat) (crc fd : Bool), s.sdoOn p = true → s.cans.length = 2 →
    ∃ t, exec (.sdoBlockDownloadInitiate p i j size crc fd) s = .next t ∧ (t.sdo p).phase = .downBlk size crc [] [] ∧
      t.sdoSent p (sdoFrame 0xA4 (i % 65536) (j % 256) (leBytes 4 blockSize))) ∧
  (∀ (s : State) (p : Nat) (size : Option Nat) (crc fd : Bool) (d x : List Byte) (segs : List (List Byte)), s.sdoOn p = true →
      s.cans.length = 2 → (s.sdo p).phase = .downBlk size crc d segs → segs.length + 1 < blockSize → x.length = 7 →
    ∃ t, exec (.sdoBlockDownloadSubblock p (segs.length + 1) false x fd) s = .next t ∧
      (t.sdo p).phase = .downBlk size crc d (segs ++ [x])) ∧
  (∀ (s : State) (p : Nat) (size : Option Nat) (crc fd : Bool) (d x : List Byte) (segs : List (List Byte)), s.sdoOn p = true →
      s.cans.length = 2 → (s.sdo p).phase = .downBlk size crc d segs → segs.length < blockSize → x.length = 7 →
      (d ++ (segs ++ [x]).flatten).length ≤ 65536 + 7 →
    ∃ t, exec (.sdoBlockDownloadSubblock p (segs.length + 1) true x fd) s = .next t ∧
      (t.sdo p).phase = .downEnd size crc (d ++ (segs ++ [x]).flatten) ∧
      t.sdoSent p (segFrame 0xA2 (leBytes 1 (segs.length + 1) ++ leBytes 1 blockSize))) ∧
  (∀ (s : State) (p k crc : Nat) (fd : Bool) (size : Option Nat) (d : List Byte), s.sdoOn p = true → s.cans.length = 2 →
      (s.sdo p).phase = .downEnd size true d → crc16 (d.take (d.length - k % 8)) ≠ crc →
    ∃ t, exec (.sdoBlockDownloadEnd p k crc fd) s = .next t ∧ (t.sdo p).phase = .idle ∧
      t.sdoSent p (sdoFrame 0x80 (s.sdo p).index (s.sdo p).sub (leBytes 4 abortCrc))) ∧
  (∀ (s : State) (p : Nat) (fd : Bool) (a b : Byte), s.sdoOn p = true → s.cans.length = 2 →
      (s.sdo p).phase = .downEnd (some 2) true ([a, b] ++ List.replicate 5 0) → (s.sdo p).index = 0x1017 → (s.sdo p).sub = 0 →
      s.takesWrite (canPath p) 0x1017 0 [a, b] (.n (leNat [a, b])) →
    ∃ t, exec (.sdoBlockDownloadEnd p 5 (crc16 [a, b]) fd) s = .next t ∧ (t.sdo p).phase = .idle ∧
      t.getN (keyOf 0x1017 0) = leNat [a, b] ∧ t.sdoSent p (segFrame 0xA1 [])) ∧
  (∀ (s : State) (p i j b : Nat) (crc fd : Bool), s.sdoOn p = true → s.cans.length = 2 → (b = 0 ∨ 127 < b) →
    ∃ t, exec (.sdoBlockUploadInitiate p i j b crc fd) s = .next t ∧ (t.sdo p).phase = .idle ∧
      t.sdoSent p (sdoFrame 0x80 (i % 65536) (j % 256) (leBytes 4 abortBlk))) ∧
  (∀ (s : State) (p b : Nat) (crc fd : Bool), s.sdoOn p = true → s.cans.length = 2 → s.takesRead (canPath p) 0x1017 0 →
      1 ≤ b → b ≤ 127 →
    ∃ t, exec (.sdoBlockUploadInitiate p 0x1017 0 b crc fd) s = .next t ∧
      (t.sdo p).phase = .upBlk (leBytes 2 (s.getN (keyOf 0x1017 0))) 0 0 b crc false ∧
      t.sdoSent p (sdoFrame 0xC6 0x1017 0 (leBytes 4 2))) ∧
  (∀ (s : State) (p a n b : Nat) (crc fd : Bool) (d : List Byte), s.sdoOn p = true → s.cans.length = 2 →
      (s.sdo p).phase = .upBlk d a n b crc false →
    ∃ t, exec (.sdoBlockUploadStart p fd) s = .next t ∧
      (t.sdo p).phase = .upBlk d a (blockFrames b 1 (d.drop a)).length b crc true ∧
      ∀ f ∈ blockFrames b 1 (d.drop a), t.sdoSent p f) ∧
  (∀ (s : State) (p b a c n : Nat) (crc fd : Bool) (d : List Byte), s.sdoOn p = true → s.cans.length = 2 →
      (s.sdo p).phase = .upBlk d a n b crc true → c ≤ n → d.length ≤ a + 7 * c →
    ∃ t, exec (.sdoBlockUploadAck p c b fd) s = .next t ∧ (t.sdo p).phase = .upEnd ∧
      t.sdoSent p (segFrame (0xC1 + 4 * (a + 7 * c - d.length)) (leBytes 2 (if crc then crc16 d else 0)))) ∧
  (∀ (s : State) (p b e a c n : Nat) (crc fd : Bool) (d : List Byte), s.sdoOn p = true → s.cans.length = 2 →
      (s.sdo p).phase = .upBlk d a n b crc true → c ≤ n → a + 7 * c < d.length → 1 ≤ e → e ≤ 127 →
    ∃ t, exec (.sdoBlockUploadAck p c e fd) s = .next t ∧
      (t.sdo p).phase = .upBlk d (a + 7 * c) (blockFrames e 1 (d.drop (a + 7 * c))).length e crc true ∧
      ∀ f ∈ blockFrames e 1 (d.drop (a + 7 * c)), t.sdoSent p f) ∧
  (∀ (s : State) (p : Nat), s.sdoOn p = true → s.cans.length = 2 → (s.sdo p).phase = .upEnd →
    ∃ t, exec (.sdoBlockUploadEnd p) s = .next t ∧ (t.sdo p).phase = .idle) ∧
  (∀ (s : State) (p c : Nat), s.sdoOn p = true → s.cans.length = 2 →
    ∃ t, exec (.sdoAbortTransfer p c) s = .next t ∧ (t.sdo p).phase = .idle ∧
      ∀ e ∈ (t.can p).fifo, e.kind = .sdo → e.begun = true ∨ e.xfer ≠ (s.sdo p).count) ∧
  (∀ (s : State) (p : Nat), s.sdoOn p = true → s.cans.length = 2 → (s.sdo p).phase.open? = true →
      s.passed (s.sdo p).at_ (msTicks 1000) = true →
    ∃ t, exec (.sdoTimeout p) s = .next t ∧ (t.sdo p).phase = .idle ∧
      t.sdoSent p (sdoFrame 0x80 (s.sdo p).index (s.sdo p).sub (leBytes 4 0x05040000)))

/-- R91: NMT governs only communication; Reset node is a ladder step 3, Reset communication a step 2 of both ports with cause 5. -/
def Obligations.NmtGovernsCommunicationOnly : Prop :=
  (∀ (s : State) (p node : Nat), s.nmtFor p node = true → s.cans.length = 2 →
    ∃ t, exec (.nmtStart p node) s = .next t ∧ (t.can p).nmt = 5 ∧
      t.md = s.md ∧ t.gal = s.gal ∧ t.safe = s.safe ∧ t.arc = s.arc ∧ t.dict = s.dict) ∧
  (∀ (s : State) (p node : Nat), s.nmtFor p node = true → s.cans.length = 2 →
    ∃ t, exec (.nmtStop p node) s = .next t ∧ (t.can p).nmt = 4 ∧ t.pdoOn p = false ∧ t.sdoOn p = false ∧
      t.md = s.md ∧ t.gal = s.gal ∧ t.safe = s.safe ∧ t.arc = s.arc ∧ t.dict = s.dict) ∧
  (∀ (s : State) (p node : Nat), s.nmtFor p node = true → s.cans.length = 2 →
    ∃ t, exec (.nmtPreOperational p node) s = .next t ∧ (t.can p).nmt = 127 ∧ t.pdoOn p = false ∧ t.sdoOn p = true ∧
      t.md = s.md ∧ t.gal = s.gal ∧ t.safe = s.safe ∧ t.arc = s.arc ∧ t.dict = s.dict) ∧
  (∀ (s : State) (p node : Nat), s.nmtFor p node = true → s.mode = .ready ∨ s.mode = .lockout →
    ∃ t, exec (.nmtResetNode p node) s = .next t ∧ t.mode = s.mode ∧ t.md.transit = .resetWait 5 false s.root) ∧
  (∀ (s : State) (p node : Nat), s.nmtFor p node = true → s.mode = .run → s.phase ≠ 2 →
    ∃ t, exec (.nmtResetNode p node) s = .next t ∧ t.mode = .run ∧ t.phase = 2 ∧ t.md.exitReset = some 5) ∧
  (∀ (s : State) (p node : Nat), s.nmtFor p node = true → s.cans.length = 2 →
    ∃ t, exec (.nmtResetCommunication p node) s = .next t ∧ t.getN Obj.RESET_LADDER.LAST_RESET_CAUSE = 5 ∧ t.md = s.md ∧
      t.gal = s.gal ∧ t.safe = s.safe ∧
      ∀ q < 2, (t.can q).nmt = 127 ∧ (t.can q).sdo.phase = .idle ∧ (t.can q).node = t.getN (Can.NODE_ID q))

/-- R394 to R396. -/
def Obligations.PdosAndHeartbeatsComplete : Prop :=
  (∀ (s : State) (p i : Nat) (a b : Byte), s.rpdoFor p i = true → s.cans.length = 2 → s.mapOf false i = [0x10170010] →
      240 < s.getN (keyOf (0x1400 + i) 2) → s.takesWrite (canPath p) 0x1017 0 [a, b] (.n (leNat [a, b])) →
    ∃ t, exec (.rpdo p i [a, b]) s = .next t ∧ t.getN (keyOf 0x1017 0) = leNat [a, b]) ∧
  (∀ (s : State) (p i c w : Nat) (d : List Byte), s.rpdoFor p i = true → s.cans.length = 2 → s.mapOf false i = [w] →
      s.pdoLen false i ≤ d.length → 240 < s.getN (keyOf (0x1400 + i) 2) → s.atOnce (canPath p) →
      checkWrite s (canPath p) (bits w 31 16) (bits w 15 8) (d.take (bits w 7 0 / 8)) = .error c →
    ∃ t, exec (.rpdo p i d) s = .next t ∧ t.flag (Can.FLAGS p) 6 = true ∧
      (t.can p).refused = min ((s.can p).refused + 1) 0xFFFFFFFF) ∧
  (∀ (s : State) (p i : Nat) (d : List Byte), s.rpdoFor p i = true → s.cans.length = 2 → d.length = s.pdoLen false i →
      s.getN (keyOf (0x1400 + i) 2) ≤ 240 →
    ∃ t, exec (.rpdo p i d) s = .next t ∧ (i, d) ∈ (t.can p).held ∧ ∀ k, t.val k = s.val k) ∧
  (∀ (s : State) (p i : Nat) (d : List Byte), s.rpdoFor p i = true → d.length < s.pdoLen false i →
    ∃ t, exec (.rpdo p i d) s = .next t ∧ t.flag (Can.FLAGS p) 5 = true) ∧
  (∀ (s : State) (p i : Nat), s.tpdoFor p i = true → s.cans.length = 2 → 254 ≤ s.getN (keyOf (0x1800 + i) 2) →
      s.tpdoFree p i = true → s.tpdoNew p i = true ∨ s.tpdoTimer p i = true →
    ∃ t, exec (.tpdo p i) s = .next t ∧ (t.tpdo p i).sent = some (State.tpdoData p (s.mapOf true i) s).1 ∧
      (t.tpdo p i).at_ = s.root) ∧
  (∀ (s : State) (p i : Nat), s.tpdoFor p i = true → s.cans.length = 2 → (s.can p).held = [] → s.getN (Can.TPDO_MASK p) = 2 ^ i →
      (s.getN (keyOf (0x1800 + i) 2) = 0 ∧ s.tpdoNew p i = true) ∨
        (1 ≤ s.getN (keyOf (0x1800 + i) 2) ∧ s.getN (keyOf (0x1800 + i) 2) ≤ 240 ∧
          s.getN (keyOf (0x1800 + i) 2) = (s.tpdo p i).count + 1) →
    ∃ t, exec (.sync p) s = .next t ∧ (t.tpdo p i).count = 0 ∧ (t.tpdo p i).sent = some (State.tpdoData p (s.mapOf true i) s).1) ∧
  (∀ (s : State) (p i : Nat) (a b : Byte), s.rpdoFor p i = true → s.cans.length = 2 → s.mapOf false i = [0x10170010] →
      (s.can p).held = [(i, [a, b])] → s.getN (Can.TPDO_MASK p) = 0 →
      s.takesWrite (canPath p) 0x1017 0 [a, b] (.n (leNat [a, b])) →
    ∃ t, exec (.sync p) s = .next t ∧ (t.can p).held = [] ∧ t.getN (keyOf 0x1017 0) = leNat [a, b]) ∧
  (∀ (s : State) (p : Nat), s.served = true → s.cans.length = 2 → s.getN (keyOf 0x1017 0) ≠ 0 →
      s.passed s.beatAt (msTicks (s.getN (keyOf 0x1017 0))) = true → s.canOn p = true → (s.can p).fifo.length < 32 →
      (s.can p).waitq = [] →
    ∃ t, exec .heartbeat s = .next t ∧ t.beatAt = s.root ∧
      ∃ e ∈ (t.can p).fifo, e.kind = .beat ∧ e.id = 0x700 + (s.can p).node ∧ e.data = [BitVec.ofNat 8 (s.can p).nmt]) ∧
  (∀ (s : State) (p e at_ : Nat), s.canOn p = true → s.cans.length = 2 → 1 ≤ e → e ≤ 4 → SMap.find? (s.can p).heard e = some at_ →
      bits (s.getN (keyOf 0x1016 e)) 15 0 ≠ 0 → bit (s.can p).missing e = false →
      s.passed at_ (msTicks (bits (s.getN (keyOf 0x1016 e)) 15 0)) = true →
    ∃ t, exec (.heartbeatConsumerTimeout p e) s = .next t ∧ bit (t.can p).missing e = true ∧ t.flag (Can.FLAGS p) 4 = true)

/-- R102, R330, R331. -/
def Obligations.ArcadeRequestsServed : Prop :=
  (∀ (s u : State) (m : ArcMsg), s.arcFor m 2 = true → s.accept101 m = (u, true) → s.served = true → s.mustWait = false →
      m.payload.length = 14 → (∀ e ∈ u.arc.answered, ¬ (e.1 = m.source ∧ e.2.1 = m.reqId)) →
      (∀ o ∈ u.arc.opens, ¬ (o.serial = m.source ∧ o.id = m.reqId)) → fieldN m.payload 0 2 = 0x1017 → fieldN m.payload 2 1 = 0 →
      fieldN m.payload 3 1 = 0 → fieldN m.payload 4 4 = 0 → 2 ≤ fieldN m.payload 12 2 → fieldN m.payload 12 2 ≤ 1400 →
    ∃ t, exec (.arcadeReadRequest m) s = .next t ∧
      t.getN Obj.ARCADE_STATUS.REQUESTS_SERVED = min 0xFFFFFFFF (s.getN Obj.ARCADE_STATUS.REQUESTS_SERVED + 1) ∧
      ∃ body, (m.source, m.reqId, body) ∈ t.arc.answered ∧ body.drop 16 = leBytes 2 (s.getN (keyOf 0x1017 0))) ∧
  (∀ (s u : State) (m : ArcMsg) (v : List Byte), s.arcFor m 2 = true → s.accept101 m = (u, true) → s.served = true →
      s.mustWait = false → m.payload.length = 14 → (∀ e ∈ u.arc.answered, ¬ (e.1 = m.source ∧ e.2.1 = m.reqId)) →
      (∀ o ∈ u.arc.opens, ¬ (o.serial = m.source ∧ o.id = m.reqId)) → fieldN m.payload 3 1 = 0 → 1 ≤ fieldN m.payload 12 2 →
      fieldN m.payload 12 2 ≤ 1400 → 0 < fieldN m.payload 4 4 → fieldN m.payload 4 4 < v.length →
      frozenOf u.arc.frozen m.source (fieldN m.payload 0 2) (fieldN m.payload 2 1) = some v →
    ∃ t, exec (.arcadeReadRequest m) s = .next t ∧
      t.getN Obj.ARCADE_STATUS.REQUESTS_SERVED = min 0xFFFFFFFF (s.getN Obj.ARCADE_STATUS.REQUESTS_SERVED + 1) ∧
      ∃ body, (m.source, m.reqId, body) ∈ t.arc.answered ∧ body.drop 16 = slice v (fieldN m.payload 4 4) (fieldN m.payload 12 2)) ∧
  (∀ (s u : State) (m : ArcMsg) (a b : Byte) (r : ObjRow), s.arcFor m 3 = true → s.accept101 m = (u, true) → s.served = true →
      s.mustWait = false → m.payload.drop 16 = [a, b] → (∀ e ∈ u.arc.answered, ¬ (e.1 = m.source ∧ e.2.1 = m.reqId)) →
      (∀ o ∈ u.arc.opens, ¬ (o.serial = m.source ∧ o.id = m.reqId)) → fieldN m.payload 0 2 = 0x1017 → fieldN m.payload 2 1 = 0 →
      partOf u.arc.parts m.source 0x1017 0 = none → fieldN m.payload 3 1 = 1 → fieldN m.payload 4 4 = 0 → fieldN m.payload 8 4 = 2 →
      checkWrite s (.arcade m.source) 0x1017 0 [a, b] = .ok (.n (leNat [a, b]), r) →
    ∃ t, exec (.arcadeWriteRequest m) s = .next t ∧ t.getN (keyOf 0x1017 0) = leNat [a, b] ∧
      ∃ body, (m.source, m.reqId, body) ∈ t.arc.answered ∧ fieldN body 12 4 = 0) ∧
  (∀ (s u : State) (m : ArcMsg) (r : ObjRow), s.arcFor m 3 = true → s.accept101 m = (u, true) → s.served = true →
      s.mustWait = false → 16 < m.payload.length → (∀ e ∈ u.arc.answered, ¬ (e.1 = m.source ∧ e.2.1 = m.reqId)) →
      (∀ o ∈ u.arc.opens, ¬ (o.serial = m.source ∧ o.id = m.reqId)) →
      partOf u.arc.parts m.source (fieldN m.payload 0 2) (fieldN m.payload 2 1) = none → fieldN m.payload 3 1 = 0 →
      fieldN m.payload 4 4 = 0 → m.payload.length - 16 ≤ fieldN m.payload 8 4 →
      frontCheck s (.arcade m.source) (fieldN m.payload 0 2) (fieldN m.payload 2 1) = .ok r →
      lenOk r.ty (fieldN m.payload 0 2) (fieldN m.payload 8 4) = none →
    ∃ t, exec (.arcadeWriteRequest m) s = .next t ∧ partOf t.arc.parts m.source (fieldN m.payload 0 2) (fieldN m.payload 2 1) =
      some (m.payload.drop 16)) ∧
  (∀ (s u : State) (m : ArcMsg) (r : ArcReq), s.portUp m.west = true → m.formOk = true → m.type = 4 → m.dest = s.serial →
      s.accept101 m = (u, true) → u.arc.reqs.find? (fun r => decide (r.id = m.reqId) && decide (r.dest = m.source)) = some r →
    ∃ t, exec (.arcadeResponse m) s = .next t ∧ t.arc.reqs = u.arc.reqs.filter (fun q => decide (q.id ≠ r.id))) ∧
  (∀ (s : State) (r : ArcReq), s.arc.reqs = [r] → s.passed r.at_ (msTicks (s.getN Obj.ARCADE_CFG.REQ_TIMEOUT)) = true →
    ∃ t, exec (.arcadeReqTimeout r.id) s = .next t ∧ t.arc.reqs = [] ∧ t.flag Obj.ARCADE_STATUS.FLAGS 6 = true ∧
      t.getN Obj.ARCADE_STATUS.REQUESTS_TIMED_OUT = min 0xFFFFFFFF (s.getN Obj.ARCADE_STATUS.REQUESTS_TIMED_OUT + 1)) ∧
  (∀ (s : State) (serial : Nat), ∃ t, exec (.arcadeFrozenExpiry serial) s = .next t ∧
    t.arc.frozen = s.arc.frozen.filter (fun f => !(decide (f.path = serial) && s.passed f.at_ (secTicks 1)))) ∧
  (∀ (s : State) (r : ObjRow) (serial : Nat), s.timeLocked = false → modeCheck s r (.arcade serial) = some abortState)
/-- R117, R119, R121, R133: commands at the head. -/
def Obligations.HeadCommandsAnswered : Prop :=
  (∀ (s : State) (n tag : Nat) (onB : Bool), s.headTakes n onB tag →
    ∃ t, exec (.identify n onB 0 tag false 0 false) s = .next t ∧ s.onlyHead t n ∧
      ∃ d, (t.g n).head.resp = (s.g n).head.resp ++ [{ op := 1, target := 0, tag := tag, status := 0, args := d }] ∧
        d.take 8 = leBytes 2 ((s.g n).head.regs.getD 0 0) ++ leBytes 1 ((s.g n).head.regs.getD 1 1) ++
          leBytes 1 (s.g n).head.nodesSeen ++ leBytes 4 ((s.g n).head.regs.getD 14 0)) ∧
  (∀ (s : State) (n tag a : Nat) (onB : Bool), s.headTakes n onB tag → a < 16 →
    ∃ t, exec (.readReg n onB 0 tag a) s = .next t ∧ s.onlyHead t n ∧ (t.g n).head.regs = (s.g n).head.regs ∧
      (t.g n).head.resp = (s.g n).head.resp ++
        [{ op := 2, target := 0, tag := tag, status := 0, args := leBytes 4 ((s.g n).head.regs.getD a 0) }]) ∧
  (∀ (s : State) (n tag a : Nat) (onB : Bool), s.headTakes n onB tag → 16 ≤ a → a < 256 →
    ∃ t, exec (.readReg n onB 0 tag a) s = .next t ∧ s.onlyHead t n ∧
      (t.g n).head.resp = (s.g n).head.resp ++ [{ op := 2, target := 0, tag := tag, status := 2, args := [] }]) ∧
  (∀ (s : State) (n tag a v : Nat) (onB : Bool), s.headTakes n onB tag → (a = 2 ∧ v ≤ 39) ∨ (a = 3 ∧ 30 ≤ v ∧ v ≤ 200) →
    ∃ t, exec (.writeReg n onB 0 tag a v) s = .next t ∧ s.onlyHead t n ∧
      (t.g n).head.regs = modAt (s.g n).head.regs a (fun _ => v) ∧ (t.g n).head.lastTag = tag) ∧
  (∀ (s : State) (n tag a v : Nat) (onB : Bool), s.headTakes n onB tag → v < 2 ^ 32 → (a = 2 ∧ 39 < v) ∨ (a = 3 ∧ (v < 30 ∨ 200 < v)) →
    ∃ t, exec (.writeReg n onB 0 tag a v) s = .next t ∧ s.onlyHead t n ∧ (t.g n).head.regs = (s.g n).head.regs ∧
      (t.g n).head.resp = (s.g n).head.resp ++ [{ op := 3, target := 0, tag := tag, status := 2, args := [] }]) ∧
  (∀ (s : State) (n tag a v : Nat) (onB : Bool), s.headTakes n onB tag → 5 ≤ a → a ≤ 13 → v < 2 ^ 32 →
    ∃ t, exec (.writeReg n onB 0 tag a v) s = .next t ∧ s.onlyHead t n ∧
      (t.g n).head.regs = modAt (s.g n).head.regs a (fun _ => v) ∧ (t.g n).head.lastTag = tag) ∧
  (∀ (s : State) (n tag a v : Nat) (onB : Bool), s.headTakes n onB tag → a ∈ [0, 1, 14, 15, 16, 255] → v < 2 ^ 32 →
    ∃ t, exec (.writeReg n onB 0 tag a v) s = .next t ∧ s.onlyHead t n ∧ (t.g n).head.regs = (s.g n).head.regs ∧
      (t.g n).head.resp = (s.g n).head.resp ++ [{ op := 3, target := 0, tag := tag, status := 2, args := [] }]) ∧
  (∀ (s : State) (n tag : Nat) (onB : Bool), s.headTakes n onB tag → ((s.g n).head.path = .wrap ∨ (s.g n).head.path = .split) →
    ∃ t, exec (.restoreRing n onB tag) s = .next t ∧ s.onlyHead t n ∧ (t.g n).head.path = .ring ∧ (t.g n).head.breakAfter = 0xFF) ∧
  (∀ (s : State) (n tag : Nat) (onB : Bool), s.headTakes n onB tag → ((s.g n).head.path = .ring ∨ (s.g n).head.path = .down) →
    ∃ t, exec (.restoreRing n onB tag) s = .next t ∧ s.onlyHead t n ∧ (t.g n).head.path = (s.g n).head.path ∧
      (t.g n).head.resp = (s.g n).head.resp ++ [{ op := 8, target := 0, tag := tag, status := 3, args := [] }]) ∧
  (∀ (s : State) (n tag ms : Nat) (tl : Int) (onB : Bool), s.headTakes n onB tag → (s.g n).head.inhibited = true → ms < 2 ^ 32 →
    ∃ t, exec (.sleep n onB 0 tag ms tl) s = .next t ∧ s.onlyHead t n ∧ (t.g n).head.asleep = true ∧ (t.g n).head.checkMs = ms) ∧
  (∀ (s : State) (n tag ms : Nat) (tl : Int) (onB : Bool), s.headTakes n onB tag → (s.g n).head.inhibited = false →
    ∃ t, exec (.sleep n onB 0 tag ms tl) s = .next t ∧ s.onlyHead t n ∧ (t.g n).head.asleep = (s.g n).head.asleep ∧
      ∃ e, (t.g n).head.resp = (s.g n).head.resp ++ [e] ∧ e.status = 3 ∧ e.tag = tag) ∧
  (∀ (s : State) (n tag r : Nat) (onB : Bool), s.headTakes n onB tag → r < 64 →
    ∃ t, exec (.selftest n onB 0 tag r) s = .next t ∧ s.onlyHead t n ∧
      (t.g n).head.resp = (s.g n).head.resp ++ [{ op := 11, target := 0, tag := tag, status := 0, args := leBytes 4 r }]) ∧
  (∀ (s : State) (n tag a : Nat) (onB : Bool), s.hasGal n = true → s.gal.length = 32 → (s.g n).head.obeys onB = false → a < 16 →
    ∃ t, exec (.readReg n onB 0 tag a) s = .next t ∧ s.onlyHead t n ∧
      (t.g n).head = { (s.g n).head with resp := (s.g n).head.resp ++
        [{ op := 2, target := 0, tag := tag, status := 0, args := leBytes 4 ((s.g n).head.regs.getD a 0) }] }) ∧
  (∀ (s : State) (n tag : Nat) (onB : Bool), s.hasGal n = true → s.gal.length = 32 → (s.g n).head.obeys onB = false →
    ∃ t, exec (.identify n onB 0 tag false 0 false) s = .next t ∧ s.onlyHead t n ∧
      ∃ e, (t.g n).head = { (s.g n).head with resp := (s.g n).head.resp ++ [e] } ∧ e.status = 0 ∧ e.tag = tag) ∧
  (∀ (s : State) (n tag a v ms r : Nat) (tl : Int) (onB : Bool) (c : Instr), s.hasGal n = true → s.gal.length = 32 →
      (s.g n).head.obeys onB = false →
      c ∈ [.writeReg n onB 0 tag a v, .restoreRing n onB tag, .sleep n onB 0 tag ms tl, .selftest n onB 0 tag r] →
    ∃ t, exec c s = .next t ∧ s.onlyHead t n ∧
      ∃ e, (t.g n).head = { (s.g n).head with resp := (s.g n).head.resp ++ [e] } ∧ e.status = 6 ∧ e.tag = tag) ∧
  (∀ (s : State) (n tag a v : Nat) (onB : Bool) (r : Entry), s.hasGal n = true → s.gal.length = 32 →
      (s.g n).head.obeys onB = true → (s.g n).head.lastResp = some r → (s.g n).head.lastTag = tag →
    ∃ t, exec (.writeReg n onB 0 tag a v) s = .next t ∧ s.onlyHead t n ∧
      (t.g n).head = { (s.g n).head with resp := (s.g n).head.resp ++ [r] })

/-- R118, R128, Table 4-16: RELEASE. -/
def Obligations.ReleaseClearsTheLatch : Prop :=
  (∀ (s : State) (n tag : Nat) (onB : Bool), s.headTakes n onB tag →
    ((s.g n).head.cmp = 0 → (s.g n).head.trip = 0 → (s.g n).head.cmpOld = 0 → (s.g n).head.nodeCmp = false →
      (s.g n).head.nodeCmpOld = false →
      ∃ t, exec (.release n onB tag) s = .next t ∧ s.onlyHead t n ∧ (t.g n).head.latch = false ∧ (t.g n).head.inhibited = false ∧
        (t.g n).head.expired = false ∧ (t.g n).head.local_ = false) ∧
    (((s.g n).head.cmp ≠ 0 ∨ (s.g n).head.trip ≠ 0 ∨ (s.g n).head.cmpOld ≠ 0 ∨ (s.g n).head.nodeCmp = true ∨
        (s.g n).head.nodeCmpOld = true) →
      ∃ t, exec (.release n onB tag) s = .next t ∧ s.onlyHead t n ∧ (t.g n).head.latch = (s.g n).head.latch ∧
        (t.g n).head.inhibited = (s.g n).head.inhibited ∧
        (t.g n).head.resp = (s.g n).head.resp ++ [{ op := 9, target := 0, tag := tag, status := 3, args := [] }])) ∧
  (∀ (s : State) (n tag : Nat) (onB : Bool), s.hasGal n = true → s.gal.length = 32 → (s.g n).head.auth = .dualFault →
      (s.g n).head.alone onB = true → ((s.g n).head.lastResp = none ∨ (s.g n).head.lastTag ≠ tag) →
      (s.g n).head.cmp = 0 → (s.g n).head.trip = 0 → (s.g n).head.cmpOld = 0 → (s.g n).head.nodeCmp = false →
      (s.g n).head.nodeCmpOld = false →
    ∃ t, exec (.release n onB tag) s = .next t ∧ s.onlyHead t n ∧ (t.g n).head.latch = false ∧ (t.g n).head.inhibited = false ∧
      (t.g n).head.auth = (if onB then .obeyB else .obeyA))

/-- R117 to R121, R139, R146, R149, R155, R159: commands at a monitor. -/
def Obligations.MonitorCommandsExecuted : Prop :=
  (∀ (s : State) (n node tag a : Nat) (onB : Bool), s.monTakes n node tag → a < 10 →
    ∃ t, exec (.readReg n onB node tag a) s = .next t ∧ s.onlyMon t n node ∧ (t.mon n node).regs = (s.mon n node).regs ∧
      (t.mon n node).resp = some { op := 2, target := (s.mon n node).addr, tag := tag, status := 0,
                                   args := leBytes 4 ((s.mon n node).regs.getD a 0) }) ∧
  (∀ (s : State) (n node tag ctr : Nat) (onB : Bool), s.monTakes n node tag →
    ∃ t, exec (.identify n onB node tag false ctr false) s = .next t ∧ s.onlyMon t n node ∧
      (t.mon n node).addr = (s.mon n node).addr ∧ ∃ r, (t.mon n node).resp = some r ∧ r.status = 0 ∧ r.tag = tag) ∧
  (∀ (s : State) (n node tag v : Nat) (onB : Bool), s.monTakes n node tag → v < 2 ^ 32 →
    ∃ t, exec (.writeReg n onB node tag 5 v) s = .next t ∧ s.onlyMon t n node ∧
      (t.mon n node).regs = modAt (s.mon n node).regs 5 (fun _ => compWrite ((s.mon n node).regs.getD 5 0) v)) ∧
  (∀ (s : State) (n node tag a v : Nat) (onB : Bool), s.monTakes n node tag → v < 2 ^ 32 → a = 6 ∨ a = 7 →
    ∃ t, exec (.writeReg n onB node tag a v) s = .next t ∧ s.onlyMon t n node ∧
      (t.mon n node).regs = modAt (s.mon n node).regs a (fun _ => v)) ∧
  (∀ (s : State) (n node tag v : Nat) (onB : Bool), s.monTakes n node tag → v < 64 → 1 ≤ bits v 4 0 → bits v 4 0 ≤ 16 →
    ∃ t, exec (.writeReg n onB node tag 8 v) s = .next t ∧ s.onlyMon t n node ∧
      (t.mon n node).regs = modAt (s.mon n node).regs 8 (fun _ => v)) ∧
  (∀ (s : State) (n node tag v : Nat) (onB : Bool), s.monTakes n node tag → 1 ≤ v → v ≤ 15 →
    ∃ t, exec (.writeReg n onB node tag 9 v) s = .next t ∧ s.onlyMon t n node ∧
      (t.mon n node).regs = modAt (s.mon n node).regs 9 (fun _ => v)) ∧
  (∀ (s : State) (n node tag a v : Nat) (onB : Bool), s.monTakes n node tag → a ≤ 4 →
    ∃ t, exec (.writeReg n onB node tag a v) s = .next t ∧ s.onlyMon t n node ∧ (t.mon n node).regs = (s.mon n node).regs ∧
      (t.mon n node).resp = some { op := 3, target := (s.mon n node).addr, tag := tag, status := 2, args := [] }) ∧
  (∀ (s : State) (n node tag first count serial : Nat), s.monTakes n node tag → first < 65536 → count < 256 → serial < 2 ^ 32 →
    ∃ t, exec (.commission n node tag first count serial) s = .next t ∧ s.onlyMon t n node ∧
      (t.mon n node).regs = (if serial = (s.mon n node).regs.getD 3 0 then
        modAt (modAt (s.mon n node).regs 1 (fun _ => first)) 2 (fun _ => count) else (s.mon n node).regs) ∧
      ∃ r, (t.mon n node).resp = some r ∧ r.status = if serial = (s.mon n node).regs.getD 3 0 then 0 else 2) ∧
  (∀ (s : State) (n node tag sf x : Nat), s.monTakes n node tag → sf < x → x ≤ sf + 1024 → x < 2 ^ 32 →
    ∃ t, exec (.syncReset n node tag sf x) s = .next t ∧ (t.mon n node).resetAt = some x) ∧
  (∀ (s : State) (n node tag sf x : Nat), s.monTakes n node tag → x ≤ sf → sf < 2 ^ 31 →
    ∃ t, exec (.syncReset n node tag sf x) s = .next t ∧ (t.mon n node).resetAt = some ((sf + 1) % 2 ^ 32)) ∧
  (∀ (s : State) (n node tag sf x : Nat), s.monTakes n node tag → sf + 1024 < x → x < 2 ^ 31 →
    ∃ t, exec (.syncReset n node tag sf x) s = .next t ∧ (t.mon n node).resetAt = (s.mon n node).resetAt ∧
      (t.mon n node).resp = some { op := 4, target := (s.mon n node).addr, tag := tag, status := 2, args := [] }) ∧
  (∀ (s : State) (n node tag mask : Nat), s.monTakes n node tag → mask < 256 → (s.mon n node).sweepBusy = false →
    ∃ t, exec (.sweep n node tag mask) s = .next t ∧ s.onlyMon t n node ∧ (t.mon n node).sweepBusy = true ∧
      (t.mon n node).sweepMask = mask) ∧
  (∀ (s : State) (n node tag mask : Nat), s.monTakes n node tag → mask < 256 → (s.mon n node).sweepBusy = true →
    ∃ t, exec (.sweep n node tag mask) s = .next t ∧ s.onlyMon t n node ∧
      (t.mon n node).resp = some { op := 5, target := (s.mon n node).addr, tag := tag, status := 4, args := [] }) ∧
  (∀ (s : State) (n node tag p : Nat), s.monTakes n node tag → p < 16 →
    ∃ t, exec (.switchTest n node tag p 1) s = .next t ∧ s.onlyMon t n node ∧ bit (t.mon n node).bal p = true ∧
      (t.mon n node).ovr = some (p, 64)) ∧
  (∀ (s : State) (n node tag p : Nat), s.monTakes n node tag → p < 16 →
    ∃ t, exec (.switchTest n node tag p 2) s = .next t ∧ s.onlyMon t n node ∧ (t.mon n node).ovr = none ∧
      (t.mon n node).bal = limitBal (bits ((s.mon n node).regs.getD 8 0x21) 4 0) (bit ((s.mon n node).regs.getD 8 0x21) 5)
        (s.mon n node).count (s.mon n node).balReq) ∧
  (∀ (s : State) (n node tag ms : Nat) (tl : Int) (onB : Bool), s.monTakes n node tag → ms < 2 ^ 32 → -32768 ≤ tl → tl ≤ 32767 →
    ∃ t, exec (.sleep n onB node tag ms tl) s = .next t ∧ s.onlyMon t n node ∧ (t.mon n node).asleep = true ∧
      (t.mon n node).checkMs = ms ∧ (t.mon n node).tLimit = tl ∧ (t.mon n node).bal = 0) ∧
  (∀ (s : State) (n node tag r : Nat) (onB : Bool), s.monTakes n node tag → r < 64 →
    ∃ t, exec (.selftest n onB node tag r) s = .next t ∧ s.onlyMon t n node ∧ (t.mon n node).selfRes = r ∧
      (t.mon n node).selfFail = decide (r ≠ 0)) ∧
  (∀ (s : State) (n node tag mask : Nat) (r : Entry), s.hasGal n = true → s.gal.length = 32 → 1 ≤ node →
      node ≤ (s.g n).mons.length → (s.mon n node).lastResp = some r → (s.mon n node).lastTag = tag →
    ∃ t, exec (.sweep n node tag mask) s = .next t ∧ s.onlyMon t n node ∧ t.mon n node = { s.mon n node with resp := some r })

/-- R122; R108 fails every block of a frame with more than 64 insertions, R114 keeps each slot under its address. -/
def Obligations.AddressesOnlyFromAssign : Prop :=
  (∀ (s : State) (n node lat : Nat) (rx far : Bool) (echo : Option Nat), s.hasGal n = true → s.gal.length = 32 → 1 ≤ node → node ≤ 39 →
      (s.g n).mons.length = 39 → (s.g n).head.insF ≤ 64 →
    ∃ t, exec (.monitorSlotFill n node false rx ⟨far, echo, lat⟩) s = .next t ∧
      (t.mon n node).addr = (if (s.g n).head.assign then (s.g n).head.ctrF + 1 else (s.mon n node).addr) ∧
      (t.g n).head.ctrF = (if (s.g n).head.assign then (s.g n).head.ctrF + 1 else (s.g n).head.ctrF) ∧
      (t.mon n node).frameAt = s.root ∧
      (1 ≤ (t.mon n node).addr → (t.mon n node).addr ≤ 39 →
        SMap.find? (t.g n).head.slots (t.mon n node).addr = some (blkOf (s.g n).head.loopSf (t.mon n node).slot))) ∧
  (∀ (s : State) (n node lat : Nat) (rx far : Bool) (echo : Option Nat), s.hasGal n = true → s.gal.length = 32 → 1 ≤ node → node ≤ 39 →
      (s.g n).mons.length = 39 → (s.g n).head.insR ≤ 64 →
    ∃ t, exec (.monitorSlotFill n node true rx ⟨far, echo, lat⟩) s = .next t ∧
      (t.mon n node).addr = (if (s.g n).head.assign then (s.g n).head.ctrR - 1 else (s.mon n node).addr) ∧
      (t.g n).head.ctrR = (if (s.g n).head.assign then (s.g n).head.ctrR - 1 else (s.g n).head.ctrR) ∧
      (t.mon n node).frameAt = s.root ∧
      (1 ≤ (t.mon n node).addr → (t.mon n node).addr ≤ 39 →
        SMap.find? (t.g n).head.slots (t.mon n node).addr = some (blkOf (s.g n).head.loopSf (t.mon n node).slot))) ∧
  (∀ (s : State) (n node tag ctr : Nat) (onB rev : Bool), s.monTakes n node tag →
    ∃ t, exec (.identify n onB node tag true ctr rev) s = .next t ∧ s.onlyMon t n node ∧
      (t.mon n node).addr = if rev then ctr - 1 else ctr + 1) ∧
  (∀ (h : Head) (sf sample : Nat) (cmds : List Entry),
    (h.launch sf sample cmds).ctrF = 0 ∧ (h.launch sf sample cmds).ctrR = h.regs.getD 2 0 + 1 ∧
    ((h.launch sf sample cmds).assign = true ↔ ∃ e ∈ cmds, e.op = 1 ∧ e.target = 0xFF))

/-- R111, R113, R126, R128, R130 to R132. -/
def Obligations.HeadInhibitsOnK281 : Prop :=
  (∀ (s : State) (n : Nat) (onB : Bool) (d : DownSuper), s.hasGal n = true → s.gal.length = 32 → d.inhibit = true →
      (∀ e ∈ entriesOf d.cmd.payload, e.op ≠ 9) →
    ∃ t, exec (.headSuperframeRx n onB d) s = .next t ∧ (t.g n).head.inhibited = true ∧ (t.g n).head.latch = true ∧
      ∀ k, t.val k = s.val k) ∧
  (∀ (s : State) (n sf : Nat) (d : DownSuper), s.hasGal n = true → s.gal.length = 32 → (s.g n).head.auth = .obeyA →
      (s.g n).head.holding = false → s.root < (s.g n).head.rxA + 15000 → d.inserted ≤ 64 → d.hold = false →
      hdrGood d.header 16 = true → sf = fieldN d.header.payload 0 4 → bit (fieldN d.header.payload 6 1) 0 = true →
      blkGood d.token sf 24 = true → d.k27 = true → fieldN d.token.payload 12 1 = 1 → fieldN d.token.payload 0 8 ≠ 0 →
      fieldN d.token.payload 14 4 = sf → blkGood d.refs sf 44 = true → fieldN d.refs.payload 32 4 = sf →
    ∃ t, exec (.headSuperframeRx n false d) s = .next t ∧ (t.g n).head.rxA = s.root ∧ (t.g n).head.loopSf = sf ∧
      (t.g n).head.sampleAt = fieldN d.header.payload 4 2 ∧
      (t.g n).head.refs = (List.range 8).map (fun i => rated (fieldI d.refs.payload (4 * i) 4)) ∧
      ((t.g n).head.up.map (·.sf)) = some sf ∧ ∀ k, t.val k = s.val k) ∧
  (∀ (s : State) (n : Nat), s.hasGal n = true → s.gal.length = 32 → (s.g n).head.holding = true →
      s.passed (s.g n).head.holdAt (msTicks ((s.g n).head.regs.getD 3 40)) = true →
    ∃ t, exec (.headHoldTimeout n) s = .next t ∧ s.onlyHead t n ∧ (t.g n).head.latch = true ∧ (t.g n).head.inhibited = true ∧
      (t.g n).head.expired = true ∧ (t.g n).head.refs = (s.g n).head.refs) ∧
  (∀ (s : State) (n : Nat) (onB : Bool), s.hasGal n = true → s.gal.length = 32 →
    ∃ t, exec (.headTrunkLoss n onB) s = .next t ∧ s.onlyHead t n ∧ (if onB then (t.g n).head.upB else (t.g n).head.upA) = false ∧
      ((s.g n).head.obeys onB = true → (t.g n).head.holding = true) ∧ (t.g n).head.refs = (s.g n).head.refs) ∧
  (∀ (s : State) (n : Nat), s.hasGal n = true → s.gal.length = 32 → (s.g n).head.auth = .dual → 62 ≤ (s.g n).head.overlap →
    ∃ t, exec (.dualFault n) s = .next t ∧ s.onlyHead t n ∧ (t.g n).head.auth = .dualFault ∧ (t.g n).head.latch = true) ∧
  (∀ (s : State) (n : Nat) (b : LoopBack), s.hasGal n = true → s.gal.length = 32 → 0 < b.forward + b.reverse →
    ∃ t, exec (.loopFrameEvaluate n b) s = .next t ∧ s.onlyHead t n ∧ (t.g n).head.nodesSeen = b.forward + b.reverse ∧
      ((s.g n).head.path = .ring → b.returned = true → b.turned = false → (t.g n).head.path = .ring ∧ (t.g n).head.breakAfter = 0xFF) ∧
      ((s.g n).head.path = .ring → b.returned = false → (t.g n).head.path = .wrap ∧ (t.g n).head.breakAfter = b.after ∧
        (t.g n).head.breakTriple = true) ∧
      ((s.g n).head.path = .wrap → b.forward + b.reverse < (s.g n).head.regs.getD 2 0 → (t.g n).head.path = .split) ∧
      ((s.g n).head.path = .split → b.turned = true → (s.g n).head.regs.getD 2 0 ≤ b.forward + b.reverse →
        (t.g n).head.path = .wrap) ∧
      ((s.g n).head.path = .down → b.turned = true ∨ b.returned = true → (t.g n).head.path = .wrap)) ∧
  (∀ (s : State) (n : Nat) (b : LoopBack), s.hasGal n = true → s.gal.length = 32 → b.forward = 0 → b.reverse = 0 →
      b.returned = false → 1 ≤ (s.g n).head.lostSf → (s.g n).head.path ≠ .down →
    ∃ t, exec (.loopFrameEvaluate n b) s = .next t ∧ s.onlyHead t n ∧ (t.g n).head.path = .down) ∧
  (∀ (s : State) (n node : Nat), s.hasGal n = true → s.gal.length = 32 → 1 ≤ node → node ≤ (s.g n).mons.length →
    ∃ t, exec (.monitorSignalLoss n node) s = .next t ∧ s.onlyMon t n node ∧ (t.mon n node).turning = true ∧
      (t.mon n node).sigLost = true)

/-- R107 to R112, R119, R123, R127, R134, R271. -/
def Obligations.TrunkStatesFollow : Prop :=
  (∀ (s : State) (n : Nat) (u : UpSuper), s.hasGal n = true → s.gal.length = 32 → s.strOn n = true → s.trunk n ≠ 0 →
      (s.g n).trunk.idle = false → (s.qualify n u).hdrOk = true →
    ∃ t, exec (.upstreamSuperframe n u) s = .next t ∧
      t.getN (Gal.FLIGHT_STATUS.HEAD_STATUS n) = fieldN u.header.payload 4 4 ∧
      t.getN (Gal.FLIGHT_STATUS.NODES_SEEN n) = fieldN u.header.payload 8 1 ∧
      t.getN (Gal.FLIGHT_STATUS.LOOP_STATE n) = fieldN u.header.payload 9 1 ∧
      t.getN (Gal.FLIGHT_STATUS.BREAK_AFTER n) = fieldN u.header.payload 10 1 ∧
      t.getN (Gal.FLIGHT_STATUS.AUTH n) = fieldN u.header.payload 11 1 ∧ (t.g n).trunk.bad = 0 ∧
      t.getN (Gal.COUNTERS.UP_BLOCK_CRC n) = min 0xFFFFFFFF (s.getN (Gal.COUNTERS.UP_BLOCK_CRC n) + (s.qualify n u).failed.length) ∧
      ((s.qualify n u).headOk = true → (t.g n).meas.sf = fieldN u.header.payload 0 4 ∧ (t.g n).meas.shunt = milli u.head.payload 0 ∧
        (t.g n).meas.hall = milli u.head.payload 4 ∧ (t.g n).meas.bus = milli u.head.payload 8 ∧
        (t.g n).meas.string = milli u.head.payload 12)) ∧
  (∀ (s : State) (n : Nat) (u : UpSuper), s.hasGal n = true → s.gal.length = 32 → s.strOn n = true → s.trunk n ≠ 0 →
      (s.g n).trunk.idle = false → 64 < u.inserted →
    ∃ t, exec (.upstreamSuperframe n u) s = .next t ∧ (t.g n).trunk.bad = (s.g n).trunk.bad + 1 ∧ (t.g n).trunk.good = 0 ∧
      t.flag (Gal.FAULTS.FLIGHT_FAULTS n) 9 = true ∧
      t.getN (Gal.COUNTERS.UP_BLOCK_CRC n) = min 0xFFFFFFFF (s.getN (Gal.COUNTERS.UP_BLOCK_CRC n) + 42)) ∧
  (∀ (s : State) (n : Nat), s.hasGal n = true → s.gal.length = 32 → s.strOn n = true → s.trunk n ≠ 0 → (s.g n).trunk.idle = false →
      s.now % 10000 = 0 → (s.g n).trunk.grids.head?.map (·.2.1) ≠ some (s.now / 10000) →
    ∃ t, exec (.downstreamSuperframe n) s = .next t ∧ (t.g n).trunk.sentSf = (s.g n).trunk.sfNum ∧ (t.g n).trunk.lastTick = s.now ∧
      ∃ f, (t.g n).trunk.out = some f ∧ hdrGood f.header 16 = true ∧ f.header.payload.take 4 = leBytes 4 (s.g n).trunk.sfNum ∧
        blkGood f.token (s.g n).trunk.sfNum 24 = true ∧ fieldN f.token.payload 12 1 = b2n (t.claims n)) ∧
  (∀ (s : State) (n : Nat), s.hasGal n = true → s.gal.length = 32 → s.trunk n = 1 → s.passed (s.g n).trunk.since (msTicks 100) = true →
    ∃ t, exec (.acquireTimeout n) s = .next t ∧ t.trunk n = 6 ∧ t.flag (Gal.FAULTS.FLIGHT_FAULTS n) 1 = true ∧
      s.sameBut t [Gal.FLIGHT_STATUS.TRUNK_STATE n, Gal.FAULTS.FLIGHT_FAULTS n, Gal.BALANCE_TEST.STATE n, Gal.BALANCE_TEST.NEXT n]) ∧
  (∀ (s : State) (n : Nat), s.hasGal n = true → s.gal.length = 32 → s.trunk n = 6 → s.passed (s.g n).trunk.since (secTicks 1) = true →
    ∃ t, exec (.retryWaitExpiry n) s = .next t ∧ t.trunk n = 1 ∧ t.getN (Gal.SAMPLE_SCHED.SAMPLE_AT n) = 0xFFFF ∧
      s.sameBut t [Gal.FLIGHT_STATUS.TRUNK_STATE n, Gal.SAMPLE_SCHED.SAMPLE_AT n, Gal.SAMPLE_SCHED.ALIGN_STATE n,
        Gal.SAMPLE_SCHED.ALIGN_BOUND n, Gal.BALANCE_TEST.STATE n, Gal.BALANCE_TEST.NEXT n]) ∧
  (∀ (s : State) (n : Nat), s.hasGal n = true → s.gal.length = 32 →
      (s.trunk n = 1 ∧ (s.g n).trunk.seenGood = true) ∨ s.trunk n = 2 ∨ s.trunk n = 3 ∨ s.trunk n = 4 → 3 ≤ (s.g n).trunk.bad →
    ∃ t, exec (.trunkLoss n) s = .next t ∧ t.trunk n = 1 ∧ t.getN (Gal.SAMPLE_SCHED.SAMPLE_AT n) = 0xFFFF ∧
      t.flag (Gal.FAULTS.FLIGHT_FAULTS n) 0 = true ∧ t.flag (Gal.PROT_STATUS.STANDING n) 8 = true ∧
      t.getN (Gal.COUNTERS.TRUNK_LOSSES n) = min 0xFFFFFFFF (s.getN (Gal.COUNTERS.TRUNK_LOSSES n) + 1)) ∧
  (∀ (s : State) (n : Nat) (o : Outst), s.hasGal n = true → s.gal.length = 32 → (s.g n).trunk.outst = [o] → o.dueSf = false →
      16 ≤ o.age → o.resends < 3 →
    ∃ t, exec (.commandResend n) s = .next t ∧
      (t.g n).trunk.outst = [{ o with dueSf := true, resends := o.resends + 1, age := 0 }] ∧
      t.getN (Gal.COUNTERS.CMD_RETRIES n) = min 0xFFFFFFFF (s.getN (Gal.COUNTERS.CMD_RETRIES n) + 1) ∧
      s.sameBut t [Gal.COUNTERS.CMD_RETRIES n]) ∧
  (∀ (s : State) (n : Nat) (o : Outst), s.hasGal n = true → s.gal.length = 32 → (s.g n).trunk.outst = [o] → o.dueSf = false →
      16 ≤ o.age → 3 ≤ o.resends → o.entry.target ≠ 0xFF ∨ o.seen = [] →
    ∃ t, exec (.commandResend n) s = .next t ∧ (t.g n).trunk.outst = [] ∧ t.flag (Gal.FAULTS.FLIGHT_FAULTS n) 6 = true) ∧
  (∀ (s : State) (p : Path) (n : Nat), n < 32 → s.gal.length = 32 → s.takesWrite p (0x4000 + 0x40 * n) 7 [1] (.n 1) →
      s.energised n = false → s.getN (Gal.FLIGHT_STATUS.LOOP_STATE n) = 2 ∨ s.getN (Gal.FLIGHT_STATUS.LOOP_STATE n) = 3 →
      s.claims n = true →
    ∃ t, exec (.restoreNow p n) s = .next t ∧ t.last = some (.ok []) ∧ (∀ k, t.val k = s.val k) ∧
      ∃ e, (t.g n).trunk.waiting = (s.g n).trunk.waiting ++ [e] ∧ e.op = 8 ∧ e.target = 0) ∧
  (∀ (s : State) (p : Path) (n : Nat), s.takesWrite p (0x4000 + 0x40 * n) 7 [1] (.n 1) → s.energised n = true →
    exec (.restoreNow p n) s = .next (s.reply (.abort abortState))) ∧
  (∀ (s : State) (n at_ : Nat), s.hasGal n = true → s.gal.length = 32 → (s.g n).trunk.farSince = some at_ →
      s.getN (Gal.STRING_CFG.LOOP_RESTORE_MODE n) = 1 → s.energised n = false → s.passed at_ (secTicks 1) = true →
      s.getN (Gal.FLIGHT_STATUS.LOOP_STATE n) = 2 ∨ s.getN (Gal.FLIGHT_STATUS.LOOP_STATE n) = 3 → s.claims n = true →
    ∃ t, exec (.autoRestore n) s = .next t ∧ (∀ k, t.val k = s.val k) ∧
      ∃ e, (t.g n).trunk.waiting = (s.g n).trunk.waiting ++ [e] ∧ e.op = 8 ∧ e.target = 0) ∧
  (∀ (s : State) (p : Path) (n : Nat), n < 32 → s.gal.length = 32 → s.takesWrite p (0x4002 + 0x40 * n) 0x70 [1] (.n 1) →
      s.mode = .ready → s.energised n = false → s.trunk n ∉ [0, 1, 6] → s.claims n = true →
      (∃ i, 1 ≤ i ∧ i ≤ 39 ∧ 0 < (s.expected n i).2) →
    ∃ t, exec (.flightNodesCommission p n) s = .next t ∧ t.last = some (.ok []) ∧ (∀ k, t.val k = s.val k) ∧
      (t.g n).trunk.commission = (List.range' 1 39).filter (fun i => decide (0 < (s.expected n i).2)) ∧
      ∀ i ∈ (t.g n).trunk.commission, ∃ e ∈ (t.g n).trunk.waiting, e.op = 7 ∧ e.target = i) ∧
  (∀ (s : State) (p : Path) (n i sub : Nat) (d : List Byte) (v : Nat), n < 32 → s.gal.length = 32 →
      (i = 0x4000 + 0x40 * n ∧ 1 ≤ sub ∧ sub ≤ 6) ∨ (i = 0x4002 + 0x40 * n ∧ 1 ≤ sub ∧ sub ≤ 0x27) →
      s.takesWrite p i sub d (.n v) →
      (∀ e ∈ (s.g n).held, e.1 / 256 ≠ 0x4000 + 0x40 * n ∧ e.1 / 256 ≠ 0x4002 + 0x40 * n) →
    ∃ t, exec (.stringCfg p i sub d) s = .next t ∧ t.last = some (.ok []) ∧
      t.getN (keyOf i sub) = v ∧ t.trunk n = if t.strOn n then 1 else 0)
/-- R135, R148, R149, R151, R159 to R161. -/
def Obligations.ReadingsLatched : Prop :=
  (∀ (s : State) (n : Nat) (r : Reading), s.hasGal n = true → s.gal.length = 32 → (s.g n).head.sampleAt ≠ 0xFFFF →
    ∃ t, exec (.sampleLatch n r) s = .next t ∧ (t.g n).head.meas.take 4 = [r.shunt, r.hall, r.bus, r.string] ∧
      (∀ node, 1 ≤ node → node ≤ (s.g n).mons.length →
        (t.mon n node).v = (List.range 16).map (fun i => (r.volts.getD (node - 1) []).getD i 0x800000)) ∧ ∀ k, t.val k = s.val k) ∧
  (∀ (s : State) (n : Nat) (r : Reading), s.hasGal n = true → s.gal.length = 32 → (s.g n).head.sampleAt = 0xFFFF →
    ∃ t, exec (.sampleLatch n r) s = .next t ∧ (t.g n).head = (s.g n).head ∧
      (∀ node, 1 ≤ node → node ≤ (s.g n).mons.length → (t.mon n node).v = List.replicate 16 0x800000) ∧ ∀ k, t.val k = s.val k) ∧
  (∀ (s : State) (n node pos outs : Nat) (value : Int), s.hasGal n = true → s.gal.length = 32 → 1 ≤ node →
      node ≤ (s.g n).mons.length → pos < (s.mon n node).count → toSigned 32 ((s.mon n node).regs.getD 6 0) ≠ 0 →
      toSigned 32 ((s.mon n node).regs.getD 6 0) < value → (s.mon n node).regs.getD 9 2 ≤ outs →
    ∃ t, exec (.comparatorTrip n node pos value outs) s = .next t ∧ s.onlyMon t n node ∧ bit (t.mon n node).cmp pos = true) ∧
  (∀ (s : State) (n node pos outs : Nat) (value : Int), s.hasGal n = true → s.gal.length = 32 → 1 ≤ node →
      node ≤ (s.g n).mons.length → pos < (s.mon n node).count → toSigned 32 ((s.mon n node).regs.getD 7 0) ≠ 0 →
      value < toSigned 32 ((s.mon n node).regs.getD 7 0) → (s.mon n node).regs.getD 9 2 ≤ outs →
    ∃ t, exec (.comparatorTrip n node pos value outs) s = .next t ∧ s.onlyMon t n node ∧ bit (t.mon n node).cmp (16 + pos) = true) ∧
  (∀ (s : State) (n node pos outs : Nat) (value : Int), s.hasGal n = true → s.gal.length = 32 → 1 ≤ node →
      node ≤ (s.g n).mons.length → pos < (s.mon n node).count →
      toSigned 32 ((s.mon n node).regs.getD 7 0) + 2000 ≤ value → value ≤ toSigned 32 ((s.mon n node).regs.getD 6 0) - 2000 →
      (s.mon n node).regs.getD 9 2 ≤ outs →
    ∃ t, exec (.comparatorTrip n node pos value outs) s = .next t ∧ s.onlyMon t n node ∧ bit (t.mon n node).cmp pos = false ∧
      bit (t.mon n node).cmp (16 + pos) = false) ∧
  (∀ (s : State) (n outs : Nat) (value : Int), s.hasGal n = true → s.gal.length = 32 →
      toSigned 32 ((s.g n).head.regs.getD 6 0) ≠ 0 → toSigned 32 ((s.g n).head.regs.getD 6 0) < value.natAbs → 1 ≤ outs →
    ∃ t, exec (.comparatorTrip n 0 0 value outs) s = .next t ∧ s.onlyHead t n ∧ bit (t.g n).head.cmp 0 = true ∧
      ((s.g n).head.holding = true → (t.g n).head.latch = true ∧ (t.g n).head.local_ = true)) ∧
  (∀ (s : State) (n outs : Nat) (value : Int), s.hasGal n = true → s.gal.length = 32 →
      toSigned 32 ((s.g n).head.regs.getD 9 0) ≠ 0 → value < toSigned 32 ((s.g n).head.regs.getD 9 0) → 1 ≤ outs →
    ∃ t, exec (.comparatorTrip n 0 3 value outs) s = .next t ∧ s.onlyHead t n ∧ bit (t.g n).head.cmp 3 = true ∧
      ((s.g n).head.holding = true → (t.g n).head.latch = true ∧ (t.g n).head.local_ = true)) ∧
  (∀ (s : State) (n node : Nat) (temps : List Nat), s.hasGal n = true → s.gal.length = 32 → 1 ≤ node →
      node ≤ (s.g n).mons.length → (s.mon n node).sweepBusy = true →
    ∃ t, exec (.sweepConversionDone n node temps) s = .next t ∧ s.onlyMon t n node ∧ (t.mon n node).sweepBusy = false ∧
      (t.mon n node).tempLeft = 2 ∧ (t.mon n node).temps = (List.range 8).map (fun i => if bit (s.mon n node).sweepMask i then temps.getD i 0x8000 else 0x8000)) ∧
  (∀ (s : State) (n node : Nat), s.hasGal n = true → s.gal.length = 32 → 1 ≤ node → node ≤ (s.g n).mons.length →
      (s.mon n node).asleep = false → s.passed (s.mon n node).frameAt (msTicks 100) = true →
    ∃ t, exec (.monitorFrameTimeout n node) s = .next t ∧ s.onlyMon t n node ∧ (t.mon n node).asleep = true ∧
      (t.mon n node).checkMs = 10000 ∧ (t.mon n node).tLimit = 6000 ∧ (t.mon n node).bal = 0) ∧
  (∀ (s : State) (n node self : Nat) (volts temps : List Nat), s.hasGal n = true → s.gal.length = 32 → 1 ≤ node →
      node ≤ (s.g n).mons.length → (s.mon n node).asleep = true →
      s.passed (s.mon n node).checkAt (msTicks (s.mon n node).checkMs) = true → (s.mon n node).checkWord volts temps self ≠ 0 →
    ∃ t, exec (.sleepCheck n node volts temps self) s = .next t ∧ s.onlyMon t n node ∧ (t.mon n node).checkFail = true ∧
      (t.mon n node).lastCheck = (s.mon n node).checkWord volts temps self ∧ (t.mon n node).burstAt = some s.root) ∧
  (∀ (s : State) (n node self : Nat) (volts temps : List Nat), s.hasGal n = true → s.gal.length = 32 → 1 ≤ node →
      node ≤ (s.g n).mons.length → (s.mon n node).asleep = true →
      s.passed (s.mon n node).checkAt (msTicks (s.mon n node).checkMs) = true → (s.mon n node).checkWord volts temps self = 0 →
    ∃ t, exec (.sleepCheck n node volts temps self) s = .next t ∧ s.onlyMon t n node ∧ (t.mon n node).checkAt = s.root ∧
      (t.mon n node).checkFail = (s.mon n node).checkFail ∧ (t.mon n node).lastCheck = (s.mon n node).lastCheck ∧
      (t.mon n node).burstAt = (s.mon n node).burstAt) ∧
  (∀ (s : State) (n : Nat), s.hasGal n = true → s.gal.length = 32 →
    ∃ t, exec (.wakeBurst n 0) s = .next t ∧ s.onlyHead t n ∧ (t.g n).head.wakeOut = true ∧ (t.g n).head.wakeAt = s.root) ∧
  (∀ (s : State) (n node : Nat), s.hasGal n = true → s.gal.length = 32 → 1 ≤ node → node ≤ (s.g n).mons.length →
      (s.mon n node).asleep = true → (s.mon n node).burstAt = none →
    ∃ t, exec (.wakeBurst n node) s = .next t ∧ s.onlyMon t n node ∧ (t.mon n node).burstAt = some s.root)

/-- R143, R147, R150, R152, R153, R158, R162. That a string without a result has not come up is the model's choice (log entry 121). -/
def Obligations.FlightUpkeepComplete : Prop :=
  (∀ (s : State) (p : Path) (n : Nat), n < 32 → s.gal.length = 32 → s.takesWrite p (0x4004 + 0x40 * n) 8 [1] (.n 1) →
      s.energised n = false → s.claims n = true →
    ∃ t, exec (.syncNow p n) s = .next t ∧ t.last = some (.ok []) ∧ (∀ k, t.val k = s.val k) ∧
      ∃ e, (t.g n).trunk.waiting = (s.g n).trunk.waiting ++ [e] ∧ e.op = 4 ∧ e.target = 0xFF) ∧
  (∀ (s : State) (p : Path) (n : Nat), s.takesWrite p (0x4004 + 0x40 * n) 8 [1] (.n 1) → s.energised n = true →
    exec (.syncNow p n) s = .next (s.reply (.abort abortState))) ∧
  (∀ (s : State) (n : Nat), s.hasGal n = true → s.gal.length = 32 → s.trunk n = 4 → s.claims n = true →
      s.passed (s.g n).trunk.rereadAt (secTicks 10) = true → s.compReading n = false →
    ∃ t, exec (.delayCompReread n) s = .next t ∧ (t.g n).trunk.rereadAt = s.root ∧ (∀ k, t.val k = s.val k) ∧
      (t.g n).trunk.waiting.length = (s.g n).trunk.waiting.length + s.nodeCount n) ∧
  (∀ (s : State) (n : Nat), s.hasGal n = true → s.gal.length = 32 → s.trunk n = 4 → s.claims n = true →
      (s.g n).bal.sweepFirst = true ∨ s.passed (s.g n).bal.sweepAt (msTicks (s.getN (Gal.THERMAL_STATUS.INTERVAL_NOW n))) = true →
      (s.g n).bal.sweepOut = false →
    ∃ t, exec (.sweepDue n) s = .next t ∧ (t.g n).bal.sweepOut = true ∧ (t.g n).bal.sweepAt = s.root ∧ (∀ k, t.val k = s.val k) ∧
      ∃ e, (t.g n).trunk.waiting = (s.g n).trunk.waiting ++ [e] ∧ e.op = 5 ∧ e.target = 0xFF ∧ e.args.take 1 = [0xFF]) ∧
  (∀ (s : State) (n : Nat), s.hasGal n = true → s.gal.length = 32 → s.trunk n = 4 → s.claims n = true →
      (s.g n).bal.sweepFirst = true ∨ s.passed (s.g n).bal.sweepAt (msTicks (s.getN (Gal.THERMAL_STATUS.INTERVAL_NOW n))) = true →
      (s.g n).bal.sweepOut = true →
    ∃ t, exec (.sweepDue n) s = .next t ∧ (t.g n).trunk = (s.g n).trunk ∧
      t.getN (Gal.COUNTERS.SWEEP_LATE n) = min 0xFFFFFFFF (s.getN (Gal.COUNTERS.SWEEP_LATE n) + 1) ∧
      s.sameBut t [Gal.COUNTERS.SWEEP_LATE n]) ∧
  (∀ (s : State) (n k : Nat), s.hasGal n = true → s.gal.length = 32 → (s.g n).bal.sweepOut = true → (s.g n).bal.sweepGot = [] →
      (s.g n).bal.sweepAns = some k → 12 ≤ k →
    ∃ t, exec (.sweepMissing n) s = .next t ∧ (t.g n).bal.sweepOut = false ∧ t.flag (Gal.FAULTS.SAMPLE_FAULTS n) 4 = true ∧
      s.sameBut t [Gal.FAULTS.SAMPLE_FAULTS n]) ∧
  (∀ (s : State) (n : Nat), s.hasGal n = true → s.gal.length = 32 → s.balOk n = true → s.getN (Gal.BALANCE_CFG.MODE n) ≠ 0 →
      s.passed (s.g n).bal.decideAt (secTicks 1) = true →
    ∃ t, exec (.balanceDecision n) s = .next t ∧ (t.g n).bal.decideAt = s.root ∧
      (∀ p < s.posCount n, s.eligible n p = false → (t.cell n p).balOn = false) ∧
      t.getN (Gal.BALANCE_CFG.ACTIVE_COUNT n) = ((t.g n).cells.filter (·.balOn)).length ∧
      s.sameBut t [Gal.BALANCE_CFG.ACTIVE_COUNT n, Gal.BALANCE_TEST.FAULT_COUNT n]) ∧
  (∀ (s : State) (n p : Nat), s.hasGal n = true → s.gal.length = 32 → s.balOk n = true → s.getN (Gal.BALANCE_CFG.MODE n) ≠ 0 →
      s.passed (s.g n).bal.decideAt (secTicks 1) = true → (∀ q, (s.cell n q).balOn = false) → 1 ≤ s.getN (Gal.BALANCE_CFG.MAX_CLOSED n) →
      p < s.posCount n → p < (s.g n).cells.length → s.eligible n p = true →
      (∀ q < s.posCount n, s.eligible n q = true →
        (s.getQ (Gal.BALANCE_CFG.DELTA_START n) < s.balValue n q - qminD 0 (((List.range (s.posCount n)).filter (s.eligible n)).map (s.balValue n)) ↔ q = p)) →
    ∃ t, exec (.balanceDecision n) s = .next t ∧ (t.cell n p).balOn = true ∧ t.getN (Gal.BALANCE_CFG.ACTIVE_COUNT n) = 1) ∧
  (∀ (s : State) (p : Path) (n pos : Nat), n < 32 → s.gal.length = 32 → s.takesWrite p (0x4007 + 0x40 * n) 1 (leBytes 2 pos) (.n pos) →
      s.mode = .run ∨ s.mode = .ready → pos ≠ 0xFFFF → (s.g n).bal.queue = [] → (s.g n).bal.phase = .idle →
    ∃ t, exec (.balanceTestRun p n pos) s = .next t ∧ t.last = some (.ok []) ∧ (t.g n).bal.queue = [pos] ∧
      t.getN (Gal.BALANCE_TEST.STATE n) = 2 ∧ t.getN (Gal.BALANCE_TEST.NEXT n) = pos) ∧
  (∀ (s : State) (p : Path) (n : Nat), n < 32 → s.gal.length = 32 → s.takesWrite p (0x4007 + 0x40 * n) 1 (leBytes 2 0xFFFF) (.n 0xFFFF) →
      s.mode = .run ∨ s.mode = .ready → (s.g n).bal.queue = [] →
    ∃ t, exec (.balanceTestRun p n 0xFFFF) s = .next t ∧ t.last = some (.ok []) ∧ (t.g n).bal.queue = List.range (s.posCount n)) ∧
  (∀ (s : State) (p : Path) (n pos : Nat), s.takesWrite p (0x4007 + 0x40 * n) 1 (leBytes 2 pos) (.n pos) → s.mode = .lockout →
    exec (.balanceTestRun p n pos) s = .next (s.reply (.abort abortState))) ∧
  (∀ (s : State) (n : Nat), s.gal.length = 32 → s.strOn n = true → s.getN (Gal.BALANCE_TEST.INTERVAL n) ≠ 0 →
      s.passed (s.g n).bal.passAt (secTicks (s.getN (Gal.BALANCE_TEST.INTERVAL n))) = true → (s.g n).bal.queue = [] →
    ∃ t, exec (.switchTestInterval n) s = .next t ∧ (t.g n).bal.queue = List.range (s.posCount n) ∧ (t.g n).bal.passAt = s.root) ∧
  (∀ (s : State) (r : WatchResult), s.mode = .watch → s.md.transit = .none →
      s.passed s.md.watchAt (secTicks (s.getN Obj.WATCH_CFG.CHECK_INTERVAL)) = true → s.watchChecks r.string = true →
      (∀ m, m ≠ r.string → s.watchChecks m = false) → s.watchReason r ≠ 0 →
    ∃ t, exec (.watchCheck [r]) s = .next t ∧ t.mode = .ready ∧ t.getN Obj.MODE_STATUS.LAST_CAUSE = 0x0B ∧
      t.getN Obj.WATCH_CFG.LAST_FAIL = r.string + 256 * s.watchReason r) ∧
  (∀ (s : State) (n : Nat), s.mode = .watch → s.md.transit = .none →
      s.passed s.md.watchAt (secTicks (s.getN Obj.WATCH_CFG.CHECK_INTERVAL)) = true → s.watchChecks n = true →
      (∀ m, m ≠ n → s.watchChecks m = false) →
    ∃ t, exec (.watchCheck []) s = .next t ∧ t.mode = .ready ∧ t.getN Obj.MODE_STATUS.LAST_CAUSE = 0x0B ∧
      t.getN Obj.WATCH_CFG.LAST_FAIL = n + 256)
/-- R165, R172, R180, R188, R190, R192, R193: rows of Table 6-6. -/
def Obligations.ConverterStatesFollow : Prop :=
  (∀ (s : State) (n : Nat), s.gal.length = 32 → s.strOn n = true → (s.takeHeld n).role ≠ 3 → (s.g n).meas.stepped = false →
      (s.g n).meas.fresh = true → (s.g n).tread.evDe = false → (s.g n).tread.staleHold = false → (s.g n).tread.pauseHold = false →
    let u := s.takeHeld n
    let on := u.getN (Gal.CONV_CFG.CONVERTER_ENABLE n) = 1
    let clear := u.headInh n = false ∧ u.tripOn n = false
    let old := (s.g n).tread
    ∃ t, exec (.controlStep n false) s = .next t ∧
      ((t.g n).tread.state ≠ old.state → t.getN (Gal.LOOP_STATUS.STATE n) = (t.g n).tread.state.code) ∧
      (old.state = .off → old.evEn = false → (t.g n).tread.state = .off ∧ (t.g n).tread.refs = List.replicate 8 0 ∧
        (t.g n).tread.refsValid = true ∧ (t.g n).tread.resume = true) ∧
      (old.state = .off → old.evEn = true → u.headInh n = true → (t.g n).tread.state = .inhibited) ∧
      (old.state = .off → old.evEn = true → u.headInh n = false → u.tripOn n = true → (t.g n).tread.state = .tripped) ∧
      ((old.state = .off ∧ old.evEn = true) ∨ old.state = .standby ∨ old.state = .inhibited → clear → on →
        (t.g n).tread.state = .running ∧ t.getI (Gal.LOOP_STATUS.DIRECTION n) = u.startDir n) ∧
      ((old.state = .off ∧ old.evEn = true) ∨ old.state = .standby ∨ old.state = .inhibited → clear → ¬on →
        (t.g n).tread.state = .standby ∧ (t.g n).tread.refs = List.replicate 8 0) ∧
      (old.state = .standby ∨ old.state = .running ∨ old.state = .stopping → u.headInh n = true →
        (t.g n).tread.state = .inhibited ∧ (t.g n).tread.refs = List.replicate 8 0 ∧ (t.g n).tread.refsValid = true ∧
        (t.g n).tread.resume = true) ∧
      (old.state = .standby ∨ old.state = .running ∨ old.state = .stopping → u.headInh n = false → u.tripOn n = true →
        (t.g n).tread.state = .tripped ∧ (t.g n).tread.refs = List.replicate 8 0 ∧ (t.g n).tread.refsValid = true ∧
        (t.g n).tread.resume = true) ∧
      (old.state = .running → clear → ¬on → (t.g n).tread.state = .stopping) ∧
      (old.state = .running → clear → on → signOf (u.setpoint n).2 ≠ 0 → signOf (u.setpoint n).2 ≠ u.dirOf n →
        (t.g n).tread.state = .reversing) ∧
      (old.state = .reversing → clear → on → signOf (u.setpoint n).2 ≠ 0 → signOf (u.setpoint n).2 ≠ u.dirOf n →
        u.getN (Gal.CONV_CFG.REVERSE_DWELL n) ≤ old.zero →
        (t.g n).tread.state = .running ∧ t.getI (Gal.LOOP_STATUS.DIRECTION n) = -u.dirOf n) ∧
      (old.state = .stopping → clear → ¬on → old.iPrev = 0 → (t.g n).tread.state = .standby ∧
        (t.g n).tread.refs = List.replicate 8 0) ∧
      (old.state = .held → clear → (t.g n).tread.state = (if u.getN (Gal.CONV_CFG.CONVERTER_ENABLE n) = 1 then .running else .stopping)) ∧
      (old.state = .tripped → old.evRestart = true → clear →
        (t.g n).tread.state = (if u.getN (Gal.CONV_CFG.CONVERTER_ENABLE n) = 1 then .running else .standby)) ∧
      (old.state = .tripped → old.evRestart = false → (t.g n).tread.state = .tripped ∧ (t.g n).tread.refs = List.replicate 8 0)) ∧
  (∀ (s : State) (n : Nat), s.gal.length = 32 → s.strOn n = true → (s.takeHeld n).role ≠ 3 → (s.g n).tread.state ≠ .off →
      (s.g n).tread.evDe = true →
    ∃ t, exec (.controlStep n false) s = .next t ∧ (t.g n).tread.state = .off ∧ (t.g n).tread.refs = List.replicate 8 0 ∧
      t.getR (Gal.LOOP_STATUS.I_SEL n) = some 0 ∧ (t.g n).tread.resume = true) ∧
  (∀ (s : State) (n : Nat), s.gal.length = 32 → s.strOn n = true → (s.takeHeld n).role ≠ 3 → (s.g n).tread.state = .running →
      (s.g n).tread.evDe = false → (s.takeHeld n).headInh n = false → (s.takeHeld n).tripOn n = false → (s.g n).tread.pauseHold = true →
    ∃ t, exec (.controlStep n false) s = .next t ∧ (t.g n).tread.state = .held ∧ (t.g n).tread.refs = (s.g n).tread.refs ∧
      (t.g n).tread.resume = false) ∧
  (∀ (s : State) (n : Nat), s.gal.length = 32 → s.strOn n = true → (s.takeHeld n).role ≠ 3 → (s.g n).tread.state = .running →
      (s.g n).tread.evDe = false → (s.takeHeld n).headInh n = false → (s.takeHeld n).tripOn n = false → (s.g n).meas.stepped = true →
    ∃ t, exec (.controlStep n false) s = .next t ∧ (t.g n).tread.refs = (s.g n).tread.refs ∧
      (t.g n).tread.iPrev = (s.g n).tread.iPrev ∧ (t.g n).tread.refsValid = false ∧ (t.g n).tread.stale = (s.g n).tread.stale + 1 ∧
      t.getN (Gal.COUNTERS.STALE_STEPS n) = min 0xFFFFFFFF ((s.takeHeld n).getN (Gal.COUNTERS.STALE_STEPS n) + 1))

/-- R177: the selected current is bounded and its rise is ramped. -/
def Obligations.SelectedCurrentIsBounded : Prop :=
  ∀ (s t : State) (n : Nat), s.gal.length = 32 → s.strOn n = true → (s.takeHeld n).role ≠ 3 → (s.g n).meas.stepped = false →
    (s.g n).meas.fresh = true → (s.g n).tread.state = .running → (t.g n).tread.state = .running → 0 ≤ (s.g n).tread.iPrev →
    0 ≤ (s.takeHeld n).getQ (Gal.CONV_CFG.I_ABS_MAX n) → 0 ≤ (s.takeHeld n).getQ (Gal.CONV_CFG.RAMP_RATE n) →
    exec (.controlStep n false) s = .next t →
    0 ≤ (t.g n).tread.iPrev ∧ (t.g n).tread.iPrev ≤ (s.takeHeld n).getQ (Gal.CONV_CFG.I_ABS_MAX n) ∧
    (t.g n).tread.iPrev ≤ (s.g n).tread.iPrev + (s.takeHeld n).getQ (Gal.CONV_CFG.RAMP_RATE n) * 32 / 1000000

/-- R46, R82, R193, R194, R197. -/
def Obligations.ConverterRequestsComplete : Prop :=
  (∀ (s : State) (p : Path) (n : Nat), n < 32 → s.gal.length = 32 → s.takesWrite p (0x4008 + 0x40 * n) 9 [1] (.n 1) →
      (s.g n).tread.state = .tripped → s.tripOn n = false → s.headInh n = false →
    ∃ t, exec (.restart p n) s = .next t ∧ t.last = some (.ok []) ∧ (t.g n).tread = { (s.g n).tread with evRestart := true } ∧
      ∀ k, t.val k = s.val k) ∧
  (∀ (s : State) (p : Path) (n : Nat), s.takesWrite p (0x4008 + 0x40 * n) 9 [1] (.n 1) →
      (s.g n).tread.state ≠ .tripped ∨ s.tripOn n = true ∨ s.headInh n = true →
    exec (.restart p n) s = .next (s.reply (.abort abortState))) ∧
  (∀ (s : State) (p : Path) (n on : Nat), n < 32 → s.takesWrite p (0x4008 + 0x40 * n) 1 (leBytes 1 on) (.n on) → s.strOn n = false →
    ∃ t, exec (.converterEnable p n on) s = .next t ∧ t.last = some (.ok []) ∧
      t.getN (Gal.CONV_CFG.CONVERTER_ENABLE n) = on ∧ s.sameBut t [Gal.CONV_CFG.CONVERTER_ENABLE n]) ∧
  (∀ (s : State) (p : Path) (n on : Nat), n < 32 → s.gal.length = 32 → s.takesWrite p (0x4008 + 0x40 * n) 1 (leBytes 1 on) (.n on) →
      s.strOn n = true →
    ∃ t, exec (.converterEnable p n on) s = .next t ∧ t.last = some (.ok []) ∧ (∀ k, t.val k = s.val k) ∧
      (t.g n).held.getLast? = some (Gal.CONV_CFG.CONVERTER_ENABLE n, .n on)) ∧
  (∀ (s : State) (n : Nat), s.gal.length = 32 → s.strOn n = true → ((s.g n).telem.w1s.idx + 1) * 312500000 ≤ s.now →
    ∃ t, exec (.telemetryWindow n true) s = .next t ∧ (s.g n).telem.w1s.idx < (t.g n).telem.w1s.idx ∧ (t.g n).telem.w1s.count = 0 ∧
      t.getN (Gal.TELEMETRY.MISSING_1S n) = 31250 - (s.g n).telem.w1s.count ∧
      [t.getR (Gal.TELEMETRY.I_1S n), t.getR (Gal.TELEMETRY.P_1S n), t.getR (Gal.TELEMETRY.BUS_V_1S n), t.getR (Gal.TELEMETRY.STRING_V_1S n)] =
        [0, 1, 2, 3].map (fun i => (s.g n).telem.w1s.mean 312500000 (s.g n).telem.startAt ((s.g n).telem.w1s.sums.getD i 0))) ∧
  (∀ (s : State) (n : Nat), s.gal.length = 32 → s.strOn n = true → ((s.g n).telem.w100.idx + 1) * 31250000 ≤ s.now →
    ∃ t, exec (.telemetryWindow n false) s = .next t ∧ (s.g n).telem.w100.idx < (t.g n).telem.w100.idx ∧ (t.g n).telem.w100.count = 0 ∧
      [t.getR (Gal.TELEMETRY.I_100MS n), t.getR (Gal.TELEMETRY.P_100MS n), t.getR (Gal.TELEMETRY.BUS_V_100MS n),
        t.getR (Gal.TELEMETRY.STRING_V_100MS n)] =
        [0, 1, 2, 3].map (fun i => (s.g n).telem.w100.mean 31250000 (s.g n).telem.startAt ((s.g n).telem.w100.sums.getD i 0))) ∧
  (∀ (s : State) (p : Path) (n i : Nat), n < 32 → s.gal.length = 32 → i < 11 → (s.g n).telem.peakNew.length = 11 →
      s.takesRead p (peakPlace n i).1 (peakPlace n i).2 →
    ∃ t, exec (.peakRead p n ⟨i, none⟩) s = .next t ∧
      t.last = some (.ok (leBytes 4 (bitsOfReal (if (s.g n).telem.peakNew.getD i false then s.getR (peakKey n i) else none)))) ∧
      t.getR (peakKey n i) = none ∧ (t.g n).telem.peakNew.getD i true = false ∧ s.sameBut t [peakKey n i]) ∧
  (∀ (s : State) (p : Path) (n i : Nat) (x : Q), n < 32 → s.gal.length = 32 → s.strOn n = true → i < 11 →
      (s.g n).telem.peakNew.length = 11 → s.takesRead p (peakPlace n i).1 (peakPlace n i).2 →
    ∃ t, exec (.peakRead p n ⟨i, some x⟩) s = .next t ∧
      t.last = some (.ok (leBytes 4 (bitsOfReal (if (s.g n).telem.peakNew.getD i false then s.getR (peakKey n i) else none)))) ∧
      t.getR (peakKey n i) = some x ∧ (t.g n).telem.peakNew.getD i false = true ∧ s.sameBut t [peakKey n i])
/-- R201, R212, R217 to R220. -/
def Obligations.ExcitationSetsAndArchive : Prop :=
  (∀ (s : State) (p : Path) (n : Nat), n < 32 → s.gal.length = 32 → s.takesWrite p (0x4014 + 0x40 * n) 9 [1] (.n 1) →
      s.getN (Gal.SPECTRUM_STATUS.APPLY_STATE n) ≠ 1 → (s.staged n).errors = 0 →
    ∃ t, exec (.excitationApply p n) s = .next t ∧ t.last = some (.ok []) ∧ t.getN (Gal.SPECTRUM_STATUS.APPLY_STATE n) = 1 ∧
      t.getN (Gal.EXCITATION_CFG.CFG_ERROR n) = 0 ∧ t.getR (Gal.SPECTRUM_STATUS.RESIDUAL_CHARGE n) = some 0 ∧
      (t.g n).spec.compSet = some (s.staged n) ∧ (t.g n).spec.applied = (s.g n).spec.applied) ∧
  (∀ (s : State) (p : Path) (n : Nat), n < 32 → s.takesWrite p (0x4014 + 0x40 * n) 9 [1] (.n 1) →
      s.getN (Gal.SPECTRUM_STATUS.APPLY_STATE n) ≠ 1 → (s.staged n).errors ≠ 0 →
    ∃ t, exec (.excitationApply p n) s = .next t ∧ t.last = some (.abort abortRange) ∧
      t.getN (Gal.EXCITATION_CFG.CFG_ERROR n) = (s.staged n).errors ∧ s.sameBut t [Gal.EXCITATION_CFG.CFG_ERROR n] ∧
      t.gal = s.gal) ∧
  (∀ (s : State) (p : Path) (n : Nat), s.takesWrite p (0x4014 + 0x40 * n) 9 [1] (.n 1) → s.getN (Gal.SPECTRUM_STATUS.APPLY_STATE n) = 1 →
    exec (.excitationApply p n) s = .next (s.reply (.abort abortState))) ∧
  (∀ (s : State) (n : Nat) (x : ExcSet), s.hasGal n = true → s.gal.length = 32 → (s.g n).spec.compSet = some x →
      s.specSt n = 0 ∨ s.specSt n = 1 →
    ∃ t, exec (.setComputed n) s = .next t ∧ (t.g n).spec.applied = some { x with spk := x.peak } ∧ (t.g n).spec.compSet = none ∧
      t.getN (Gal.SPECTRUM_STATUS.M_APPLIED n) = x.m ∧ t.getN (Gal.SPECTRUM_STATUS.TONES_APPLIED n) = x.tones.length ∧
      t.getN (Gal.SPECTRUM_STATUS.APPLY_STATE n) = 3) ∧
  (∀ (s : State) (n : Nat) (x : ExcSet), s.hasGal n = true → s.gal.length = 32 → (s.g n).spec.compSet = some x → s.specSt n = 4 →
    ∃ t, exec (.setComputed n) s = .next t ∧ (t.g n).spec.applied = some { x with spk := x.peak } ∧ t.specSt n = 1 ∧
      t.getN (Gal.SPECTRUM_STATUS.PENDING_INDEX n) = 0xFFFFFFFF ∧ t.getN (Gal.SPECTRUM_STATUS.APPLY_STATE n) = 3) ∧
  (∀ (s : State) (n : Nat) (x : ExcSet), s.hasGal n = true → s.gal.length = 32 → (s.g n).spec.compSet = some x →
      s.specSt n ≠ 0 → s.specSt n ≠ 1 → s.specSt n ≠ 4 →
    ∃ t, exec (.setComputed n) s = .next t ∧ (t.g n).spec.applied = (s.g n).spec.applied ∧
      (t.g n).spec.waitSet = some { x with spk := x.peak } ∧ t.getN (Gal.SPECTRUM_STATUS.APPLY_STATE n) = 2 ∧
      s.sameBut t [Gal.SPECTRUM_STATUS.APPLY_STATE n]) ∧
  (∀ (s : State) (n : Nat) (w : PubWin), s.hasGal n = true → s.gal.length = 32 → (s.g n).spec.pub = some w →
    ∃ t, exec (.spectrumPublish n) s = .next t ∧ (t.g n).spec.pub = none ∧
      (∀ q < (s.g n).cells.length, (s.cell n q).okOld = true → (t.cell n q).zAt = w.lastTick ∧ (t.cell n q).zCur = true ∧
        (t.cell n q).z.map (fun z => (z.1, z.2.1)) =
          (List.range w.set.tones.length).map (fun k => zOf ((s.cell n q).accOld.getD k (0, 0)) (w.win.acc.getD k (0, 0)))) ∧
      ∀ q, (s.cell n q).okOld = false → (t.cell n q).z = (s.cell n q).z) ∧
  (∀ (s : State) (p : Path) (n : Nat), n < 32 → s.gal.length = 32 → s.takesWrite p (0x4014 + 0x40 * n) 0x14 [1] (.n 1) →
    ∃ t, exec (.platingClear p n) s = .next t ∧ t.last = some (.ok []) ∧ t.getN (Gal.SPECTRUM_STATUS.PLATING_CELLS n) = 0 ∧
      (∀ c ∈ (t.g n).cells, c.plating = false) ∧ s.sameBut t [Gal.SPECTRUM_STATUS.PLATING_CELLS n]) ∧
  (∀ (s : State) (p : Path) (n : Nat), n < 32 → s.gal.length = 32 → s.takesWrite p (0x4014 + 0x40 * n) 0x16 [1] (.n 1) →
    ∃ t, exec (.archiveNow p n) s = .next t ∧ t.last = some (.ok []) ∧ (t.g n).spec = { (s.g n).spec with archNow := true } ∧
      ∀ k, t.val k = s.val k) ∧
  (∀ (s : State) (n : Nat), s.hasGal n = true → s.gal.length = 32 → s.getN (Gal.EXCITATION_CFG.ARCHIVE_INTERVAL n) ≠ 0 →
      secTicks (s.getN (Gal.EXCITATION_CFG.ARCHIVE_INTERVAL n)) ≤ s.aged (s.g n).spec.archAt →
    ∃ t, exec (.archiveInterval n) s = .next t ∧ (t.g n).spec = { (s.g n).spec with archNow := true } ∧ ∀ k, t.val k = s.val k) ∧
  (∀ (s : State) (n : Nat) (body : List Byte), s.hasGal n = true → s.gal.length = 32 → (s.g n).spec.archPend = some body →
      s.recd.eraseArch = none → s.powerDown = false → s.nandFree = true → (body.length + 8 + 2047) / 2048 ≤ s.archLeft →
    ∃ t, exec (.archiveRecordWrite n) s = .next t ∧ (t.g n).spec.archPend = none ∧
      t.nand.archSeq = (s.nand.archSeq + 1) % 2 ^ 32 ∧ t.getN (Gal.SPECTRUM_STATUS.ARCHIVE_LAST n) = s.nand.archSeq ∧
      ∃ r, t.nand.archive = s.nand.archive ++ [r] ∧ r.seq = s.nand.archSeq ∧ r.string = n ∧
        r.bytes = (leBytes 4 s.nand.archSeq ++ body) ++ leBytes 4 (crc32c (leBytes 4 s.nand.archSeq ++ body))) ∧
  (∀ (s : State) (n : Nat) (body : List Byte) (b b' : ArchBlock) (ring : List ArchBlock), s.hasGal n = true → s.gal.length = 32 →
      (s.g n).spec.archPend = some body → s.recd.eraseArch = none → s.powerDown = false → s.nandFree = true →
      s.archLeft < (body.length + 8 + 2047) / 2048 → s.nand.archFree.length < 2 → s.nand.archRing = b :: b' :: ring →
      s.erases b.id < 100000 →
    ∃ t, exec (.archiveRecordWrite n) s = .next t ∧ t.recd.eraseArch = some b.id ∧ (t.g n).spec.archPend = some body ∧
      t.recd.journal.getLast? = some (.start 1 b.id (s.erases b.id + 1) (s.archHigh b.id)) ∧
      t.nand.archive = s.nand.archive.filter (fun r => !r.blocks.contains b.id)) ∧
  (∀ (s : State) (p : Path) (n w : Nat), n < 32 → s.takesWrite p (0x4015 + 0x40 * n) 0x10 (leBytes 8 w) (.n w) →
    ∃ t, exec (.archiveSel p n w) s = .next t ∧ t.last = some (.ok []) ∧
      t.getN (pathKey p (Gal.SPECTRUM_STATUS.ARCHIVE_SEL n)) = w ∧ s.sameBut t [pathKey p (Gal.SPECTRUM_STATUS.ARCHIVE_SEL n)]) ∧
  (∀ (s : State) (p : Path) (n : Nat), s.takesRead p (0x4015 + 0x40 * n) 0x11 → s.nand.archive = [] →
    exec (.archiveRead p n) s = .next (s.reply (.abort 0x08000024))) ∧
  (∀ (s : State) (p : Path) (n w : Nat) (r : ArchRec), s.takesRead p (0x4015 + 0x40 * n) 0x11 → s.nand.archive = [r] →
      r.string = n → s.getN (pathKey p (Gal.SPECTRUM_STATUS.ARCHIVE_SEL n)) = w → bits w 31 0 = r.seq →
      bits w 47 32 + bits w 63 48 ≤ fieldN r.bytes 16 2 → 128 + bits w 63 48 * (4 + 5 * fieldN r.bytes 6 1) ≤ 65536 →
    exec (.archiveRead p n) s = .next (s.reply (.ok (r.bytes.take 128 ++
      slice r.bytes (128 + bits w 47 32 * (4 + 5 * fieldN r.bytes 6 1)) (bits w 63 48 * (4 + 5 * fieldN r.bytes 6 1)))))) ∧
  (∀ (s : State) (p : Path) (n w : Nat) (r : ArchRec), s.takesRead p (0x4015 + 0x40 * n) 0x11 → s.nand.archive = [r] →
      r.string = n → s.getN (pathKey p (Gal.SPECTRUM_STATUS.ARCHIVE_SEL n)) = w → bits w 31 0 = r.seq →
      fieldN r.bytes 16 2 < bits w 47 32 + bits w 63 48 →
    exec (.archiveRead p n) s = .next (s.reply (.abort abortRange)))
/-- R224, R226, R230, R234, R236 to R240, R244, R245. -/
def Obligations.EstimationCommandsComplete : Prop :=
  (∀ (s : State) (n : Nat) (x : ModelIn), s.gal.length = 32 → s.strOn n = true → (s.g n).mdl = some x →
      (s.installSet n).modelled n = true → 1 ≤ (s.g n).est.rate + s.rateOf n →
    ∃ t, exec (.modelStep n) s = .next t ∧ (t.g n).mdl = none ∧ (t.g n).est.setNext = none ∧ (t.g n).est.qd = 0 ∧
      (t.g n).est.qc = 0 ∧ (t.g n).est.nSf = 0 ∧ (t.g n).est.gap = 0 ∧ (t.g n).est.lastSf = some x.sf ∧ (t.g n).est.iPrev = x.i ∧
      (t.g n).est.rate = (s.g n).est.rate + s.rateOf n - 1 ∧
      ∀ p < s.posCount n, p < (s.g n).cells.length → (t.cell n p).est.tick = x.tick ∧ (t.cell n p).est.why = []) ∧
  (∀ (s : State) (n : Nat) (x : ModelIn), s.gal.length = 32 → s.strOn n = true → (s.g n).mdl = some x →
      s.modelled n = false → (s.g n).est.setNext = none → 1 ≤ (s.g n).est.rate + s.rateOf n →
    ∃ t, exec (.modelStep n) s = .next t ∧ t.flag (Gal.FAULTS.ESTIM_FAULTS n) 0 = true ∧
      (∀ c ∈ (t.g n).cells, c.est.ready = false ∧ c.est.uncertain = true ∧ c.est.lo = 0 ∧ c.est.hi = 1) ∧
      s.sameBut t [Gal.FAULTS.ESTIM_FAULTS n]) ∧
  (∀ (s : State) (n : Nat) (x : ModelIn), s.gal.length = 32 → s.strOn n = true → (s.g n).mdl = some x →
      (s.g n).est.rate + s.rateOf n < 1 →
    ∃ t, exec (.modelStep n) s = .next t ∧ (t.g n).mdl = none ∧ (t.g n).est = { (s.g n).est with rate := (s.g n).est.rate + s.rateOf n } ∧
      (t.g n).cells = (s.g n).cells ∧ ∀ k, t.val k = s.val k) ∧
  (∀ (s : State) (n : Nat), s.gal.length = 32 → s.strOn n = true → s.modelled n = true → s.rested n = true →
      (∀ k, (s.g n).est.corrAt = some k → s.passed k (secTicks 60) = true) →
    ∃ t, exec (.restCorrection n) s = .next t ∧ (t.g n).est.corrAt = some s.root ∧
      ∀ (p : Nat) (v : Q), p < s.posCount n → s.usableV n p = some v → (s.cell n p).est.ready = true →
        (t.cell n p).est.xd = 0 ∧ (t.cell n p).est.xe = 0 ∧ ((s.cell n p).est.hUnknown = false →
          (t.cell n p).est.soc = inverse ((s.model n).ocvTable (s.cell n p).est.h (s.cell n p).est.tc) v)) ∧
  (∀ (s : State) (n : Nat), s.gal.length = 32 → s.strOn n = true → s.passed (s.g n).est.aggAt (msTicks 100) = true →
    let es := (s.g n).cells.filter (fun c => c.est.ready && !c.est.invalid)
    ∃ t, exec (.aggregates n) s = .next t ∧ (t.g n).est.aggAt = s.root ∧ t.getN (Gal.ESTIM_STRING.AGGREGATE_AGE n) = 0 ∧
      t.getN (Gal.ESTIM_STRING.INVALID_COUNT n) = ((s.g n).cells.filter (fun c => c.est.invalid)).length ∧
      t.getN (Gal.ESTIM_STRING.UNCERTAIN_COUNT n) = ((s.g n).cells.filter (fun c => c.est.uncertain)).length ∧
      (s.modelled n = true → es ≠ [] →
        t.getR (Gal.ESTIM_STRING.SOC_MEAN n) = some (qsum (es.map (fun c => c.est.soc)) / (es.length : Q))) ∧
      (s.modelled n = false → t.getR (Gal.ESTIM_STRING.SOC_STRING n) = none ∧ t.getN (Gal.ESTIM_STRING.SOC_MIN_POS n) = 0xFFFF ∧
        t.flag (Gal.FAULTS.ESTIM_FAULTS n) 0 = true)) ∧
  (∀ (s : State) (n : Nat), s.gal.length = 32 → s.saveable n = true → (s.g n).est.saving = none → s.nandFree = true →
      (s.g n).est.saveDue.isSome = true ∨ s.passed (s.g n).est.savedAt (secTicks (s.getN (Gal.ESTIM_CFG.SAVE_INTERVAL n))) = true →
    ∃ t, exec (.stateSave n) s = .next t ∧
      (t.g n).est = { (s.g n).est with saving := some (s.energised n), saveSlot := (s.saveSlot n).1, saveSeq := (s.saveSlot n).2 } ∧
      SMap.find? t.nand.images (2 * n + (s.saveSlot n).1) = none ∧ ∀ k, t.val k = s.val k) ∧
  (∀ (s : State) (n : Nat) (on : Bool), s.hasGal n = true → s.gal.length = 32 → (s.g n).est.saving = some on →
    ∃ t, exec (.stateSaveDone n) s = .next t ∧ (t.g n).est.saving = none ∧ (t.g n).est.saveDue = none ∧
      t.getN (Gal.ESTIM_STRING.LAST_SAVE n) = s.now ∧ t.getN (Gal.COUNTERS.STATE_SAVES n) = min 0xFFFFFFFF (s.getN (Gal.COUNTERS.STATE_SAVES n) + 1) ∧
      SMap.find? t.nand.images (2 * n + (s.g n).est.saveSlot) = some (s.imageBytes n (s.g n).est.saveSeq (on || s.energised n)) ∧
      s.sameBut t [Gal.ESTIM_STRING.LAST_SAVE n, Gal.COUNTERS.STATE_SAVES n]) ∧
  (∀ (s : State) (n k : Nat), s.gal.length = 32 → s.saveable n = true → (s.g n).est.saveDue = some k →
      s.passed k (secTicks (s.getN (Gal.ESTIM_CFG.SAVE_INTERVAL n))) = true →
    ∃ t, exec (.saveFailed n) s = .next t ∧ t.flag (Gal.FAULTS.ESTIM_FAULTS n) 5 = true ∧ s.sameBut t [Gal.FAULTS.ESTIM_FAULTS n]) ∧
  (∀ (s : State) (p : Path) (n : Nat) (d : List Byte), n < 32 → s.gal.length = 32 → s.takesWrite p (0x4018 + 0x40 * n) 2 d (.b d) →
      modelSetOk d = true → s.strOn n = true →
    ∃ t, exec (.modelSet p n d) s = .next t ∧ t.last = some (.ok []) ∧ (t.g n).est = { (s.g n).est with setNext := some d } ∧
      (t.g n).cells = (s.g n).cells ∧ ∀ k, t.val k = s.val k) ∧
  (∀ (s : State) (p : Path) (n : Nat) (d : List Byte), n < 32 → s.gal.length = 32 → s.takesWrite p (0x4018 + 0x40 * n) 2 d (.b d) →
      modelSetOk d = true → s.strOn n = false →
    ∃ t, exec (.modelSet p n d) s = .next t ∧ t.last = some (.ok []) ∧ t.getB (Gal.ESTIM_CFG.MODEL_SET n) = d ∧
      t.getN (Gal.ESTIM_CFG.MODEL_CRC n) = fieldN d (d.length - 4) 4 ∧ (∀ c ∈ (t.g n).cells, .paramSet ∈ c.est.why) ∧
      s.sameBut t [Gal.ESTIM_CFG.MODEL_SET n, Gal.ESTIM_CFG.MODEL_CRC n]) ∧
  (∀ (s : State) (p : Path) (n : Nat) (d : List Byte), s.takesWrite p (0x4018 + 0x40 * n) 2 d (.b d) → modelSetOk d = false →
    exec (.modelSet p n d) s = .next (s.reply (.abort 0x06090030))) ∧
  (∀ (s : State) (p : Path) (n pos : Nat), n < 32 → s.gal.length = 32 → pos < (s.g n).cells.length →
      s.takesWrite p (0x401A + 0x40 * n) 0x0C (leBytes 2 pos) (.n pos) → s.energised n = false →
    ∃ t, exec (.replaced p n pos) s = .next t ∧ t.last = some (.ok []) ∧ .replaced ∈ (t.cell n pos).est.why ∧
      (t.cell n pos).est.learn = none ∧ (t.g n).est.saveDue.isSome = true ∧
      (∀ q, q ≠ pos → t.cell n q = s.cell n q) ∧ ∀ k, t.val k = s.val k) ∧
  (∀ (s : State) (p : Path) (n pos : Nat), s.takesWrite p (0x401A + 0x40 * n) 0x0C (leBytes 2 pos) (.n pos) → s.energised n = true →
    exec (.replaced p n pos) s = .next (s.reply (.abort abortState)))
/-- R251, R252, R258, R260, R262, R263. -/
def Obligations.ThermalCommandsComplete : Prop :=
  (∀ (s : State) (temps : List (Option Q)), s.dies.length = 4 →
    ∃ t, exec (.dieTemperatureRead temps) s = .next t ∧ (∀ d < 4, t.getR (Obj.MODULE_THERMAL.DIE_T_C0 + d) = some (dieTemp temps d)) ∧
      (∀ i < 8, t.flag Obj.MODULE_THERMAL.DIE_SENSORS i = dieBroken (temps.getD i none)) ∧
      ((∃ i < 8, dieBroken (temps.getD i none) = true) → t.flag Obj.MODULE_THERMAL.FLAGS 3 = true)) ∧
  (∀ (s : State) (temps : List (Option Q)) (d : Nat), d < 4 → s.dies.length = 4 → 0 < s.getQ Obj.MODULE_THERMAL.DIE_HYST →
      s.getQ Obj.MODULE_THERMAL.DIE_SHUT ≤ dieTemp temps d →
    ∃ t, exec (.dieTemperatureRead temps) s = .next t ∧ bit (t.dies.getD d 0) 2 = true ∧ t.flag Obj.MODULE_THERMAL.FLAGS 2 = true ∧
      ∀ n < s.part.galleries, t.flag (Gal.THERMAL_STATUS.STOP_CAUSE n) 2 = s.strOn n) ∧
  (∀ (s : State) (temps : List (Option Q)), s.dies.length = 4 → 0 < s.getQ Obj.MODULE_THERMAL.DIE_HYST →
      (∀ d < 4, dieTemp temps d ≤ s.getQ Obj.MODULE_THERMAL.DIE_SHUT - s.getQ Obj.MODULE_THERMAL.DIE_HYST) →
    ∃ t, exec (.dieTemperatureRead temps) s = .next t ∧ ∀ n < s.part.galleries, t.flag (Gal.THERMAL_STATUS.STOP_CAUSE n) 2 = false) ∧
  (∀ (s : State) (n at_ : Nat), s.hasGal n = true → s.gal.length = 32 → (s.g n).therm.alarmSince = some at_ →
      s.flag (Gal.THERMAL_STATUS.STATE n) 4 = true →
      s.passed at_ (secTicks (s.getN (Gal.THERMAL_CFG.RISE_STOP_TIME n))) = true →
    ∃ t, exec (.riseStopTime n) s = .next t ∧ t.flag (Gal.THERMAL_STATUS.STOP_CAUSE n) 1 = true ∧
      (s.getN (Gal.THERMAL_STATUS.STOP_CAUSE n) = 0 → t.flag (Gal.THERMAL_STATUS.STATE n) 5 = true ∧
        t.flag (Gal.FAULTS.THERMAL_FAULTS n) 7 = true ∧
        t.getN (Gal.COUNTERS.THERMAL_STOPS n) = min 0xFFFFFFFF (s.getN (Gal.COUNTERS.THERMAL_STOPS n) + 1))) ∧
  (∀ (s : State) (n : Nat), s.gal.length = 32 → s.strOn n = true → s.flag (Gal.THERMAL_STATUS.STATE n) 4 = true →
      1 ≤ (s.g n).therm.row →
    ∃ t, exec (.sweepIntervalRelax n) s = .next t ∧ t.getN (Gal.THERMAL_STATUS.INTERVAL_NOW n) = 10 ∧
      s.sameBut t [Gal.THERMAL_STATUS.INTERVAL_NOW n]) ∧
  (∀ (s : State) (n at_ : Nat), s.gal.length = 32 → s.strOn n = true → s.flag (Gal.THERMAL_STATUS.STATE n) 4 = false →
      s.flag (Gal.THERMAL_STATUS.STATE n) 3 = true → (s.g n).therm.row = 1 → (s.g n).therm.absent1 = some at_ →
      s.passed at_ (secTicks 10) = true →
    ∃ t, exec (.sweepIntervalRelax n) s = .next t ∧ (t.g n).therm.row = 2 ∧ t.getN (Gal.THERMAL_STATUS.INTERVAL_NOW n) = s.rowMs n 2 ∧
      s.sameBut t [Gal.THERMAL_STATUS.INTERVAL_NOW n]) ∧
  (∀ (s : State) (n at_ : Nat), s.gal.length = 32 → s.strOn n = true → s.flag (Gal.THERMAL_STATUS.STATE n) 4 = false →
      s.flag (Gal.THERMAL_STATUS.STATE n) 3 = false → (∀ p < s.posCount n, s.effTemp n p = none) → (s.g n).therm.row = 2 →
      (s.g n).therm.absent2 = some at_ → s.passed at_ (secTicks 10) = true →
    ∃ t, exec (.sweepIntervalRelax n) s = .next t ∧
      t.getN (Gal.THERMAL_STATUS.INTERVAL_NOW n) = s.getN (Gal.THERMAL_CFG.SWEEP_INTERVAL n) ∧
      s.sameBut t [Gal.THERMAL_STATUS.INTERVAL_NOW n])
/-- R290, R292, R297, R356: ENERGISE:03. That a string without a group is answered with RESULT 4 is the model's choice (log entry 117). -/
def Obligations.EnergiseRequestsFollowTheTable : Prop :=
  (∀ (s : State) (p : Path) (n g : Nat), n < 32 → s.gal.length = 32 → s.safe.groups.length = 8 → s.strOn n = true → s.groupOf n = g →
      g < 8 →
    (s.takesWrite p (0x4024 + 0x40 * n) 3 [1] (.n 1) → s.role ≠ 3 →
      ((s.grp g).state = .off → s.refuseBits g = 0 →
        ∃ t, exec (.energiseOn p n) s = .next t ∧ t.last = some (.ok []) ∧ (t.grp g).state = .busCheck ∧
          t.getN (Obj.SAFETY_STATUS.GROUP_STATE g) = 2 ∧ t.getN (Gal.ENERGISE.RESULT n) = 1 ∧ t.getN (Gal.ENERGISE.REFUSE n) = 0) ∧
      ((s.grp g).state = .off → s.refuseBits g ≠ 0 →
        ∃ t, exec (.energiseOn p n) s = .next t ∧ t.last = some (.ok []) ∧ (t.grp g).state = .off ∧
          t.getN (Gal.ENERGISE.RESULT n) = 4 ∧ t.getN (Gal.ENERGISE.REFUSE n) = s.refuseBits g) ∧
      ((s.grp g).state = .waitOff ∨ (s.grp g).state = .rampDown ∨ (s.grp g).state = .opening →
        ∃ t, exec (.energiseOn p n) s = .next t ∧ t.last = some (.ok []) ∧ (t.grp g).state = (s.grp g).state ∧
          (t.grp g).pend = true ∧ t.getN (Gal.ENERGISE.RESULT n) = 3)) ∧
    (s.takesWrite p (0x4024 + 0x40 * n) 3 [0] (.n 0) →
      ((s.grp g).state = .busCheck →
        ∃ t, exec (.energiseOff p n) s = .next t ∧ t.last = some (.ok []) ∧ (t.grp g).state = .off) ∧
      ((s.grp g).state = .precharge →
        ∃ t, exec (.energiseOff p n) s = .next t ∧ t.last = some (.ok []) ∧ (t.grp g).state = .waitOff ∧
          (t.grp g).minOff = s.root ∧ ∀ l, s.preLoad g = some l → s.offCommanded t l) ∧
      ((s.grp g).state = .closing ∨ (s.grp g).state = .releasing →
        ∃ t, exec (.energiseOff p n) s = .next t ∧ t.last = some (.ok []) ∧ (t.grp g).state = .opening) ∧
      ((s.grp g).state = .energised → (s.groupStrings g).any (fun m => (s.g m).tread.state.busy) = true →
        ∃ t, exec (.energiseOff p n) s = .next t ∧ t.last = some (.ok []) ∧ (t.grp g).state = .rampDown ∧
          (t.grp g).srsAt = some s.root ∧ t.getN (Gal.ENERGISE.STATE n) = 7) ∧
      ((s.grp g).state = .energised → (s.groupStrings g).any (fun m => (s.g m).tread.state.busy) = false →
        ∃ t, exec (.energiseOff p n) s = .next t ∧ t.last = some (.ok []) ∧ (t.grp g).state = .opening ∧
          t.getN Obj.SAFETY_STATUS.SEO_COUNT = min 0xFFFFFFFF (s.getN Obj.SAFETY_STATUS.SEO_COUNT + 1)) ∧
      ((s.grp g).state = .waitOff ∨ (s.grp g).state = .rampDown ∨ (s.grp g).state = .opening →
        ∃ t, exec (.energiseOff p n) s = .next t ∧ t.last = some (.ok []) ∧ (t.grp g).state = (s.grp g).state ∧ (t.grp g).pend = false))) ∧
  (∀ (s : State) (p : Path) (n : Nat), s.takesWrite p (0x4024 + 0x40 * n) 3 [1] (.n 1) → s.role = 3 →
    exec (.energiseOn p n) s = .next (s.reply (.abort abortState))) ∧
  (∀ (s : State) (p : Path) (n : Nat), n < 32 → s.takesWrite p (0x4024 + 0x40 * n) 3 [1] (.n 1) → s.role ≠ 3 → 8 ≤ s.groupOf n →
    ∃ t, exec (.energiseOn p n) s = .next t ∧ t.last = some (.ok []) ∧ t.getN (Gal.ENERGISE.RESULT n) = 4 ∧
      t.getN (Gal.ENERGISE.REFUSE n) = 4 ∧ s.sameBut t [Gal.ENERGISE.RESULT n, Gal.ENERGISE.REFUSE n])

/-- R270, R274, R288 to R292, R294, R296, R354. -/
def Obligations.GroupTimersComplete : Prop :=
  (∀ (s : State) (g n : Nat), g < 8 → s.safe.groups.length = 8 → n ∈ s.groupStrings g → (s.grp g).state = .busCheck →
      s.passed (s.grp g).since (secTicks 1) = true →
    ∃ t, exec (.busCheckTimeout g) s = .next t ∧ (t.grp g).state = .off ∧ t.getN (Gal.ENERGISE.RESULT n) = 5 ∧
      t.flag (Gal.FAULTS.PROT_FAULTS n) 7 = true) ∧
  (∀ (s : State) (g n : Nat), g < 8 → s.safe.groups.length = 8 → n ∈ s.groupStrings g → (s.grp g).state = .precharge →
      s.passed (s.grp g).since (msTicks (s.secN Obj.SAFETY_CFG.PRE_TIME)) = true →
    ∃ t, exec (.preTimeExpiry g) s = .next t ∧ (t.grp g).state = .waitOff ∧ t.getN (Gal.ENERGISE.RESULT n) = 5 ∧
      t.flag (Gal.FAULTS.PROT_FAULTS n) 5 = true ∧ ∀ l, s.preLoad g = some l → s.offCommanded t l) ∧
  (∀ (s : State) (g at_ n : Nat), g < 8 → s.safe.groups.length = 8 → n ∈ s.groupStrings g → (s.grp g).state = .closing →
      (s.grp g).mainAt = some at_ → s.passed at_ (msTicks (s.secN Obj.SAFETY_OUTPUTS.FB_TIME)) = true → s.fbClosed g = false →
    ∃ t, exec (.fbTimeExpiry g) s = .next t ∧ (t.grp g).state = .opening ∧ t.getN (Gal.ENERGISE.FAIL_CAUSE n) = 3 ∧
      t.flag (Gal.FAULTS.PROT_FAULTS n) 6 = true) ∧
  (∀ (s : State) (g at_ n : Nat), g < 8 → s.safe.groups.length = 8 → n ∈ s.groupStrings g → (s.grp g).state = .opening →
      (s.grp g).loadsOff = some at_ → s.passed at_ (msTicks (s.secN Obj.SAFETY_OUTPUTS.FB_TIME)) = true → s.fbOpen g = false →
    ∃ t, exec (.fbTimeExpiry g) s = .next t ∧ t.safe.fbFault = true ∧ (t.grp g).fbFailed = true ∧ t.getN (Gal.ENERGISE.FAIL_CAUSE n) = 7) ∧
  (∀ (s : State) (g : Nat), g < 8 → s.safe.groups.length = 8 → (s.grp g).state = .waitOff → (s.grp g).pend = false →
      s.passed (s.grp g).minOff (msTicks (s.secN Obj.SAFETY_OUTPUTS.MIN_OFF)) = true →
    ∃ t, exec (.minOffElapsed g) s = .next t ∧ (t.grp g).state = .off ∧ t.getN (Obj.SAFETY_STATUS.GROUP_STATE g) = 0) ∧
  (∀ (s : State) (g : Nat), g < 8 → s.safe.groups.length = 8 → (s.grp g).state = .waitOff → (s.grp g).pend = true → s.refuseBits g = 0 →
      s.passed (s.grp g).minOff (msTicks (s.secN Obj.SAFETY_OUTPUTS.MIN_OFF)) = true →
    ∃ t, exec (.minOffElapsed g) s = .next t ∧ (t.grp g).state = .busCheck ∧ (t.grp g).pend = false) ∧
  (∀ (s : State) (so l at_ : Nat) (current : Bool), s.safe.loads.length = 16 → l < 16 → s.safe.soFirst.getD so none = some (l, at_) →
      current = true ∨ s.passed at_ (msTicks (s.pairOf so).2) = true →
    ∃ t, exec (.maxOverlapExpiry so current) s = .next t ∧ s.offCommanded t l ∧ (t.load l).forced = true ∧
      t.flag Obj.SAFETY_STATUS.SAFETY_FAULTS (if current then 4 else 3) = true) ∧
  (∀ (s : State) (g l at_ : Nat), (s.grp g).state = .closing → (s.grp g).mainAt = some at_ → s.preLoad g = some l →
      s.passed at_ (msTicks (s.secN Obj.SAFETY_OUTPUTS.MAIN_CLOSE_TIME)) = true →
    ∃ t, exec (.mainCloseTimeExpiry g) s = .next t ∧ s.offCommanded t l) ∧
  (∀ (s : State) (g at_ : Nat), g < 8 → s.safe.groups.length = 8 → (s.grp g).state = .opening → (s.grp g).loadsOff = none →
      (s.grp g).firstK = some at_ → s.passed at_ (usTicks (s.secN Obj.SAFETY_OUTPUTS.SEO_DELAY)) = true →
    ∃ t, exec (.seoDelayExpiry g) s = .next t ∧ (t.grp g).loadsOff = some s.root ∧ ∀ l ∈ s.groupLoads g, s.offCommanded t l) ∧
  (∀ (s : State) (g at_ : Nat), g < 8 → s.safe.groups.length = 8 → (s.grp g).state = .opening → (s.grp g).loadsOff = none →
      (s.grp g).trunkSeo = some at_ → at_ ≤ s.root →
    ∃ t, exec (.trunkLossSeoTimer g) s = .next t ∧ (t.grp g).loadsOff = some s.root ∧ ∀ l ∈ s.groupLoads g, s.offCommanded t l) ∧
  (∀ (s : State) (g at_ n : Nat), g < 8 → s.safe.groups.length = 8 → n ∈ s.groupStrings g → (s.grp g).state = .rampDown →
      (s.grp g).srsAt = some at_ → s.passed at_ (msTicks (s.secN Obj.SAFETY_CFG.SRS_MAX_TIME)) = true →
    ∃ t, exec (.srsMaxTimeExpiry g) s = .next t ∧ (t.grp g).state = .opening ∧ t.flag Obj.SAFETY_STATUS.SAFETY_FAULTS 5 = true ∧
      t.getN (Gal.ENERGISE.FAIL_CAUSE n) = 5) ∧
  (∀ (s : State) (p : Path) (n : Nat), n < 32 → s.gal.length = 32 → s.takesWrite p (0x4024 + 0x40 * n) 8 [1] (.n 1) → s.atRest n = true →
    ∃ t, exec (.lostClear p n) s = .next t ∧ t.last = some (.ok []) ∧ t.getN (Gal.PROT_STATUS.LOST n) = 0 ∧
      (t.g n).prot.lostInh = false ∧ s.sameBut t [Gal.PROT_STATUS.LOST n]) ∧
  (∀ (s : State) (p : Path) (n : Nat), s.takesWrite p (0x4024 + 0x40 * n) 8 [1] (.n 1) → s.atRest n = false →
    exec (.lostClear p n) s = .next (s.reply (.abort abortState))) ∧
  (∀ (s : State) (n : Nat), s.hasGal n = true → s.gal.length = 32 → s.gstate n = .energised →
      s.getN Obj.SAFETY_CFG.LOST_TIME ≤ (s.g n).prot.lostCnt → s.getN (Gal.PROT_STATUS.LOST n) = 0 →
    ∃ t, exec (.stringLost n) s = .next t ∧ t.getN (Gal.PROT_STATUS.LOST n) = 1 ∧ (t.g n).prot.lostInh = true ∧
      t.flag (Gal.FAULTS.PROT_FAULTS n) 4 = true) ∧
  (∀ (s : State) (n : Nat), s.hasGal n = true → s.gal.length = 32 → s.trunk n = 4 → (s.g n).prot.threshMis = true →
      s.passed (s.g n).prot.threshAt (secTicks 1) = true →
    ∃ t, exec (.threshRewrite n) s = .next t ∧ (t.g n).prot.threshMis = false ∧ (t.g n).prot.threshAt = s.root ∧
      (t.g n).trunk.waiting.length = (s.g n).trunk.waiting.length + (if s.claims n then 10 else 8) ∧
      t.getN (Gal.PROT_STATUS.THRESH_OK n) = 0)

/-- R277 to R280, R283 to R287, R298. -/
def Obligations.SafetyChannelsComplete : Prop :=
  (∀ (s : State) (i : Nat) (h a b : Bool), i < 16 → s.safe.inputs.length = 16 →
    ∃ t, exec (.safetyInputChange i 1 h a b) s = .next t ∧ (t.si i).lv1 = h ∧ (t.si i).lv2 = (s.si i).lv2 ∧
      bit (t.getN Obj.SAFETY_INPUTS.RAW) (2 * i) = h ∧
      bit t.safe.newel.inputs (2 * i) = (if a then h else bit s.safe.newel.inputs (2 * i)) ∧
      bit t.safe.baluster.inputs (2 * i) = (if b then h else bit s.safe.baluster.inputs (2 * i))) ∧
  (∀ (s : State) (i : Nat) (h a b : Bool), i < 16 → s.safe.inputs.length = 16 →
    ∃ t, exec (.safetyInputChange i 2 h a b) s = .next t ∧ (t.si i).lv2 = h ∧ (t.si i).lv1 = (s.si i).lv1 ∧
      bit (t.getN Obj.SAFETY_INPUTS.RAW) (2 * i + 1) = h ∧
      bit t.safe.newel.inputs (2 * i + 1) = (if a then h else bit s.safe.newel.inputs (2 * i + 1)) ∧
      bit t.safe.baluster.inputs (2 * i + 1) = (if b then h else bit s.safe.baluster.inputs (2 * i + 1))) ∧
  (∀ (s : State) (i at_ : Nat), i < 16 → s.safe.inputs.length = 16 → (s.si i).discSince = some at_ → (s.si i).discStand = false →
      msTicks (bits (s.siCfg i) 19 9) < s.since at_ →
    ∃ t, exec (.discrepancyTimeout i) s = .next t ∧ (t.si i).discStand = true ∧ t.flag Obj.SAFETY_INPUTS.INPUT_FAULTS i = true) ∧
  (∀ (s : State) (source i shorts : Nat), source = 1 ∨ source = 2 → i < 16 → s.safe.inputs.length = 16 → s.channelsRun = true →
      s.tpDue source = true → s.siTp i = true → (if source = 1 then (s.si i).lv1 else (s.si i).lv2) = true →
    ∃ t, exec (.testPulse source shorts) s = .next t ∧ (if source = 1 then t.safe.tp1At else t.safe.tp2At) = some s.root ∧
      (bit shorts i = true → (if source = 1 then (t.si i).crossA else (t.si i).crossB) = true ∧
        t.flag Obj.SAFETY_INPUTS.INPUT_FAULTS (16 + i) = true) ∧
      (bit shorts i = false → (if source = 1 then (t.si i).goodA else (t.si i).goodB) =
          (if source = 1 then (s.si i).goodA else (s.si i).goodB) + 1)) ∧
  (∀ (s : State) (load : Nat) (onSl : Bool) (c : SafetyChan) (fell returned external : Bool), load < 16 → s.channelsRun = true →
      (s.safeChan c).healthy = true → s.role ≠ 3 →
      s.periodic (SMap.find? s.safe.testAt (2 * (if onSl then 8 + load else load / 2) + (if c = .newel then 0 else 1)))
        (msTicks (s.secN Obj.SAFETY_OUTPUTS.OFF_PULSE_PERIOD)) = true →
    let o := if onSl then 8 + load else load / 2
    let isOn := if onSl then s.loadOn load else s.loadOn (2 * (load / 2)) || s.loadOn (2 * (load / 2) + 1)
    ∃ t, exec (.outputTestPulse load onSl c fell returned external) s = .next t ∧
      (isOn = true → fell = false → bit t.safe.stuck o = true ∧ t.flag Obj.SAFETY_OUTPUTS.OUTPUT_FAULTS (if onSl then 16 + load else load / 2) = true) ∧
      (isOn = true → returned = false → bit t.safe.outFault o = true ∧ t.flag Obj.SAFETY_OUTPUTS.OUTPUT_FAULTS (8 + load / 2) = true) ∧
      (isOn = true → fell = true → returned = true → ∀ k, t.val k = s.val k) ∧
      (isOn = false → external = true → bit t.safe.outFault o = true) ∧
      (isOn = false → external = false → onSl = false → fell = false → bit t.safe.stuck o = true) ∧
      (isOn = false → external = false → onSl = false → fell = true → SMap.get (fun _ => 0) s.safe.passes o < 7 →
        SMap.get (fun _ => 0) t.safe.passes o = SMap.get (fun _ => 0) s.safe.passes o + 1)) ∧
  (∀ (s : State) (so us : Nat) (a : Q), so < 8 → (13 / 5 < a ∧ 10000 ≤ us) ∨ (6 < a ∧ 50 ≤ us) →
    ∃ t, exec (.soOvercurrent so a us) s = .next t ∧ t.loadOn (2 * so) = false ∧ t.loadOn (2 * so + 1) = false ∧
      t.getR (Obj.SAFETY_OUTPUTS.SO_CURRENT so) = some a ∧ bit t.safe.outFault so = true ∧
      t.flag Obj.SAFETY_OUTPUTS.OUTPUT_FAULTS (8 + so) = true) ∧
  (∀ (s : State) (at_ : Nat), s.safe.diffSince = some at_ → s.passed at_ (msTicks 10) = true →
    ∃ t, exec .channelDisagree s = .next t ∧ t.safe.disagree = true ∧ ∀ k, t.val k = s.val k) ∧
  (∀ (s : State) (c : SafetyChan) (clock : Bool), s.safe.groups.length = 8 →
    ∃ t, exec (.channelFail c clock) s = .next t ∧ t.safe.chanFail = true ∧ (∀ l < 16, t.loadOn l = false) ∧
      (t.safeChan c).healthy = false ∧ ∀ g < 8, (s.grp g).state.live = true → (t.grp g).state = .opening) ∧
  (∀ s : State, s.channelsRun = true → s.periodic s.safe.checkAt (secTicks 10) = true →
    ∃ t, exec (.channelSelfCheck true true) s = .next t ∧ t.safe.chanFail = false ∧ t.safe.selfPass = true ∧
      t.safe.newel.healthy = true ∧ t.safe.baluster.healthy = true ∧ t.safe.checkAt = some s.root) ∧
  (∀ s : State, s.channelsRun = true → s.periodic s.safe.checkAt (secTicks 10) = true →
    ∃ t, exec (.channelSelfCheck false true) s = .next t ∧ t.safe.chanFail = true ∧ t.safe.newel.healthy = false ∧
      ∀ l < 16, t.loadOn l = false) ∧
  (∀ (s : State) (rb : Readback), s.channelsRun = true → s.periodic s.safe.cycleAt (usTicks 250) = true →
    ∃ t, exec (.safetyCycle rb) s = .next t ∧ t.safe.cycles = s.safe.cycles + 1 ∧ t.safe.cycleAt = some s.root ∧ t.safe.soV = rb.so ∧
      t.safe.slV = rb.sl ∧ t.getN Obj.SAFETY_STATUS.STANDING_CAUSES = t.causesNow ∧
      (s.mode = .run ∨ s.mode = .ready → s.safe.chanFail = true → t.mode = .lockout ∧ t.vest.latch = true ∧ t.nand.latch = true ∧
        t.getN Obj.MODE_STATUS.LAST_CAUSE = 0x0C)) ∧
  (∀ s : State, s.periodic s.safe.imdAt (msTicks 100) = true → 16 ≤ s.getN Obj.SAFETY_CFG.IMD_CHANNEL →
    ∃ t, exec .imdEvaluate s = .next t ∧ t.getR Obj.SAFETY_STATUS.IMD_R = none ∧ t.safe.imdAlarm = false ∧ t.safe.imdAt = some s.root) ∧
  (∀ s : State, s.periodic s.safe.imdAt (msTicks 100) = true → s.getN Obj.SAFETY_CFG.IMD_CHANNEL < 16 →
      s.chNumber (s.getN Obj.SAFETY_CFG.IMD_CHANNEL) = none →
    ∃ t, exec .imdEvaluate s = .next t ∧ t.getR Obj.SAFETY_STATUS.IMD_R = none ∧ t.flag Obj.SAFETY_STATUS.SAFETY_FAULTS 2 = true) ∧
  (∀ (s : State) (x : Q), s.periodic s.safe.imdAt (msTicks 100) = true → s.getN Obj.SAFETY_CFG.IMD_CHANNEL < 16 →
      s.chNumber (s.getN Obj.SAFETY_CFG.IMD_CHANNEL) = some x →
    ∃ t, exec .imdEvaluate s = .next t ∧ t.getR Obj.SAFETY_STATUS.IMD_R = some x ∧
      s.sameBut t [Obj.SAFETY_STATUS.IMD_R, Obj.SAFETY_STATUS.SAFETY_FAULTS] ∧
      (0 ≤ s.getQ Obj.SAFETY_CFG.IMD_ALARM → x < s.getQ Obj.SAFETY_CFG.IMD_ALARM →
        (∃ at_, s.safe.imdAlow = some at_ ∧ s.passed at_ (secTicks 1) = true) →
        t.safe.imdAlarm = true ∧ t.flag Obj.SAFETY_STATUS.SAFETY_FAULTS 1 = true))

/-- R62, R299: the lock-out reset. -/
def Obligations.OnlyAResetPulseEndsALockout : Prop :=
  (∀ (c : Instr) (s t : State), c ≠ .lockoutResetPulse → exec c s = .next t → s.nand.latch = true → t.nand.latch = true) ∧
  (∀ (s : State) (i ch : Nat) (h a b : Bool), i < 16 → ch = 1 ∨ ch = 2 → s.siFn i = 4 → s.safe.newel.actAt = none →
      s.safe.baluster.actAt = none →
    ∃ t, exec (.safetyInputChange i ch h a b) s = .next t ∧
      t.safe.newel.actAt = (if t.siOn t.safe.newel.inputs i then some s.root else none) ∧
      t.safe.baluster.actAt = (if t.siOn t.safe.baluster.inputs i then some s.root else none)) ∧
  (∀ (s : State) (a e b f : Nat), s.safe.newel.actAt = some a → s.safe.newel.endAt = some e → s.safe.baluster.actAt = some b →
      s.safe.baluster.endAt = some f →
    (msTicks 300 ≤ e - a ∧ e - a ≤ msTicks 3000 ∧ msTicks 300 ≤ f - b ∧ f - b ≤ msTicks 3000 ∧ s.mode = .lockout ∧ s.causesNow = 0 ∧
        s.safe.resetDisc = false →
      ∃ t, exec .lockoutResetPulse s = .next t ∧ t.vest.latch = false ∧ t.nand.latch = false ∧ t.mode = .ready ∧
        t.getN Obj.MODE_STATUS.LAST_CAUSE = 0x0D ∧ t.getN Obj.LOCKOUT_RESET.LAST_RESULT = 1 ∧ t.getN Obj.LOCKOUT_RESET.REQUESTED = 0) ∧
    (¬(msTicks 300 ≤ e - a ∧ e - a ≤ msTicks 3000 ∧ msTicks 300 ≤ f - b ∧ f - b ≤ msTicks 3000 ∧ s.mode = .lockout ∧ s.causesNow = 0 ∧
        s.safe.resetDisc = false) →
      ∃ t, exec .lockoutResetPulse s = .next t ∧ t.vest.latch = s.vest.latch ∧ t.nand.latch = s.nand.latch ∧ t.mode = s.mode ∧
        t.getN Obj.LOCKOUT_RESET.LAST_RESULT ≠ 1)) ∧
  (∀ (s : State) (x y : SafetyChan) (a e : Nat), x ≠ y → (s.safeChan x).actAt = none → (s.safeChan y).actAt = some a →
      (s.safeChan y).endAt = some e →
    ∃ t, exec .lockoutResetPulse s = .next t ∧ t.vest.latch = s.vest.latch ∧ t.nand.latch = s.nand.latch ∧ t.mode = s.mode ∧
      t.getN Obj.LOCKOUT_RESET.LAST_RESULT ≠ 1)

/-- R300. -/
def Obligations.ResetRequestPerformsNothing : Prop :=
  (∀ (s : State) (p : Path), s.takesWrite p 0x2904 1 [1] (.n 1) →
    ∃ t, exec (.lockoutReset p) s = .next t ∧ t.last = some (.ok []) ∧ t.getN Obj.LOCKOUT_RESET.REQUESTED = 1 ∧
      t.safe.retest = true ∧ t.safe.checkAt = none ∧ t.safe.testAt = [] ∧ t.md = s.md ∧ t.vest = s.vest ∧ t.nand = s.nand ∧
      s.sameBut t [Obj.LOCKOUT_RESET.REQUESTED]) ∧
  (∀ (s : State) (at_ : Nat), s.safe.reqAt = some at_ → s.passed at_ (secTicks 600) = true →
    ∃ t, exec .requestedExpiry s = .next t ∧ t.getN Obj.LOCKOUT_RESET.REQUESTED = 0 ∧ t.safe.reqAt = none ∧
      s.sameBut t [Obj.LOCKOUT_RESET.REQUESTED])
/-- R308, R309, R317, R318, R320. -/
def Obligations.DispatchRegistersAndTimers : Prop :=
  (∀ (s : State) (p : Path) (d : List Byte) (v : Val), s.takesWrite p 0x3401 1 d v →
    ∃ t, exec (.pDemand p d) s = .next t ∧ t.last = some (.ok []) ∧ t.val Obj.DISPATCH_SETPOINT.P_DEMAND = v ∧
      t.disp.hostAt = some s.root ∧ s.sameBut t [Obj.DISPATCH_SETPOINT.P_DEMAND] ∧ t.gal = s.gal) ∧
  (∀ (s : State) (m : Nat) (d : List Byte) (v : Val), s.takesWrite (.arcade m) 0x3401 2 d v →
      s.getN Obj.DISPATCH_STATUS.ROLE = 2 → m = s.arc.leader →
    ∃ t, exec (.leaderTarget (.arcade m) d) s = .next t ∧ t.last = some (.ok []) ∧ t.val Obj.DISPATCH_SETPOINT.LEADER_TARGET = v ∧
      t.disp.leadAt = some s.root ∧ s.sameBut t [Obj.DISPATCH_SETPOINT.LEADER_TARGET] ∧ t.gal = s.gal) ∧
  (∀ (s : State) (p : Path) (d : List Byte) (v : Val), s.takesWrite p 0x3401 2 d v →
      (p.isArcade = false ∨ s.getN Obj.DISPATCH_STATUS.ROLE ≠ 2 ∨ p ≠ .arcade s.arc.leader) →
    exec (.leaderTarget p d) s = .next (s.reply (.abort abortState))) ∧
  (∀ (s : State) (at_ : Nat), s.disp.hostAt = some at_ → 0 < s.getN Obj.DISPATCH_CFG.HOST_TIMEOUT →
      msTicks (s.getN Obj.DISPATCH_CFG.HOST_TIMEOUT) < s.since at_ → s.disp.hostOut = false →
    ∃ t, exec .hostTimeout s = .next t ∧ t.flag Obj.DISPATCH_STATUS.FLAGS 4 = true ∧ t.disp.hostOut = true ∧
      s.sameBut t [Obj.DISPATCH_STATUS.FLAGS] ∧ t.gal = s.gal) ∧
  (∀ (s : State) (at_ : Nat), s.disp.leadAt = some at_ → msTicks (s.getN Obj.LEADER_CFG.LEADER_TIMEOUT) < s.since at_ →
      s.disp.leadOut = false →
    ∃ t, exec .leaderLost s = .next t ∧ t.flag Obj.DISPATCH_STATUS.FLAGS 2 = true ∧ t.disp.leadOut = true ∧
      s.sameBut t [Obj.DISPATCH_STATUS.FLAGS] ∧ t.gal = s.gal) ∧
  (∀ s : State, s.getN Obj.DISPATCH_SETPOINT.SOURCE = 4 →
      s.passed s.disp.fbAt (secTicks (s.getN Obj.DISPATCH_CFG.FALLBACK_HOLD)) = true →
    ∃ t, exec .fallbackHold s = .next t ∧ t.disp.fbDone = true ∧ t.dict = s.dict ∧ t.gal = s.gal) ∧
  (∀ (s : State) (serial : Nat), serial = s.serial ∨ (∃ m ∈ s.arc.members, m.isModule = true ∧ m.serial = serial) →
    ∃ t, exec (.joinDelay serial) s = .next t ∧ t.getN Obj.DISPATCH_STATUS.LEADER_SERIAL = s.elect ∧ t.arc.leader = s.elect ∧
      t.getN Obj.DISPATCH_STATUS.ROLE = (if s.role = 3 then 3 else if s.elect = 0 then 0 else if s.elect = s.serial then 1 else 2) ∧
      t.getN Obj.LEADER_CFG.ELECTIONS = (if s.elect = s.arc.leader then s.getN Obj.LEADER_CFG.ELECTIONS
        else min 0xFFFFFFFF (s.getN Obj.LEADER_CFG.ELECTIONS + 1)) ∧
      t.gal = s.gal)

/-- R307 to R311, R314 to R316, R319, R321. -/
def Obligations.AllocationFollowsTheSource : Prop :=
  (∀ s : State, s.served = true → s.paused = false → s.disp.allocIdx ≠ some (s.now / 31250000) → s.role ≠ 3 →
      s.getN Obj.DISPATCH_CFG.ENABLE = 0 →
    ∃ t, exec .dispatchAllocation s = .next t ∧ t.getR Obj.DISPATCH_SETPOINT.TARGET_IN_FORCE = some 0 ∧
      t.getN Obj.DISPATCH_SETPOINT.SOURCE = 0 ∧ t.disp.allocAt = s.root ∧ t.disp.allocIdx = some (s.now / 31250000) ∧ t.gal = s.gal ∧
      ∀ n < s.part.galleries, t.getN (Gal.CONV_REFS.SETPOINT_MODE n) = 0 ∧ t.getN (Gal.CONV_REFS.SOURCE n) = 0) ∧
  (∀ s : State, s.served = true → s.paused = false → s.disp.allocIdx ≠ some (s.now / 31250000) → s.role ≠ 3 →
      s.getN Obj.DISPATCH_CFG.ENABLE ≠ 0 → s.getN Obj.DISPATCH_STATUS.ROLE ≠ 1 →
    ∃ t, exec .dispatchAllocation s = .next t ∧ t.disp.allocAt = s.root ∧ t.gal = s.gal ∧
      t.getN Obj.DISPATCH_SETPOINT.SOURCE = s.dispSource.1 ∧
      (s.getN Obj.DISPATCH_SETPOINT.SOURCE ≠ 0 → s.getN Obj.DISPATCH_SETPOINT.SOURCE ≠ s.dispSource.1 →
        t.flag Obj.DISPATCH_STATUS.FLAGS 1 = true) ∧
      (let old := if s.disp.fromActual then t.getQ Obj.DISPATCH_STATUS.P_ACTUAL else s.getQ Obj.DISPATCH_SETPOINT.TARGET_IN_FORCE
        let held := if s.getN Obj.DISPATCH_SETPOINT.SOURCE = 4 then !s.disp.fbDone &&
            !s.passed s.disp.fbAt (secTicks (s.getN Obj.DISPATCH_CFG.FALLBACK_HOLD))
          else decide (0 < s.getN Obj.DISPATCH_CFG.FALLBACK_HOLD)
        t.disp.fromActual = false ∧ t.getR Obj.DISPATCH_SETPOINT.TARGET_IN_FORCE = some (rampTo old
          (if s.dispSource.1 ≠ 4 then s.dispSource.2 else if held then s.disp.fbVal else s.getQ Obj.DISPATCH_CFG.FALLBACK_P)
          (s.getQ Obj.DISPATCH_CFG.P_RAMP / 10))) ∧
      (∀ n < s.part.galleries, t.getN (Gal.CONV_REFS.SOURCE n) = s.dispSource.1) ∧
      (qabs (t.getQ Obj.DISPATCH_SETPOINT.TARGET_IN_FORCE) < s.getQ Obj.DISPATCH_CFG.P_MIN →
        ∀ n < s.part.galleries, t.getN (Gal.CONV_REFS.SETPOINT_MODE n) = 0) ∧
      (∀ n < s.part.galleries, s.dispEligible n = false → (s.g n).tread.state ≠ .held → t.getN (Gal.CONV_REFS.SETPOINT_MODE n) = 0) ∧
      (s.getQ Obj.DISPATCH_CFG.P_MIN ≤ qabs (t.getQ Obj.DISPATCH_SETPOINT.TARGET_IN_FORCE) →
        (∀ n < s.part.galleries, s.dispEligible n = false ∧ (s.g n).tread.state ≠ .held) →
        t.getR Obj.DISPATCH_STATUS.SHORTFALL = some (qabs (t.getQ Obj.DISPATCH_SETPOINT.TARGET_IN_FORCE))) ∧
      ((∀ n < s.part.galleries, ∀ v, s.strV n = some v → 0 < v) →
        ∀ m n, m < s.part.galleries → n < s.part.galleries → ¬ (0 < t.lastSet m ∧ t.lastSet n < 0))) ∧
  (∀ s : State, s.served = true → s.paused = false → s.disp.allocIdx ≠ some (s.now / 31250000) → s.role ≠ 3 →
      s.getN Obj.DISPATCH_CFG.ENABLE ≠ 0 → s.getN Obj.DISPATCH_STATUS.ROLE = 1 →
    ∃ t, exec .dispatchAllocation s = .next t ∧
      (s.disp.newLead = 2 → t.disp.newLead = 1 ∧
        t.getR Obj.DISPATCH_SETPOINT.TARGET_IN_FORCE = s.getR Obj.DISPATCH_SETPOINT.TARGET_IN_FORCE) ∧
      (s.disp.newLead ≠ 2 → t.getN Obj.LEADER_CFG.MODULES_LED = s.followSync.ledModules.length + 1) ∧
      (s.disp.newLead = 1 → s.dispSource.1 ≠ 4 → t.disp.newLead = 0 ∧
        t.getR Obj.DISPATCH_SETPOINT.TARGET_IN_FORCE = some (rampTo (t.getQ Obj.DISPATCH_STATUS.P_ACTUAL +
          qsum (s.followSync.arc.follow.filterMap (fun f => f.vals.getD 3 none))) s.dispSource.2
          (s.getQ Obj.DISPATCH_CFG.P_RAMP / 10)))) ∧
  (∀ s : State, s.served = true → s.paused = false → s.disp.allocIdx ≠ some (s.now / 31250000) → s.role = 3 →
    ∃ t, exec .dispatchAllocation s = .next t ∧ t.getR Obj.DISPATCH_STATUS.P_DIS_AVAIL = some 0 ∧
      t.getR Obj.DISPATCH_STATUS.P_CHG_AVAIL = some 0 ∧ t.getN Obj.DISPATCH_STATUS.STRINGS_ELIGIBLE = 0 ∧ t.gal = s.gal ∧
      s.sameBut t [Obj.DISPATCH_STATUS.P_DIS_AVAIL, Obj.DISPATCH_STATUS.P_CHG_AVAIL, Obj.DISPATCH_STATUS.STRINGS_ELIGIBLE])

/-- R313: the shares of an allocation. -/
def Obligations.AllocationSplitsTheDemand : Prop :=
  ∀ (kEq : Q) (items : List (Nat × Q × Option Q)) (p : Q),
    (∀ x ∈ (allocate kEq items p).1, 0 ≤ x.2 ∧ ∃ it ∈ items, it.1 = x.1 ∧ 0 < it.2.1 ∧ x.2 ≤ it.2.1) ∧
    (allocate kEq items p).1.length = (items.filter (fun it => decide (0 < it.2.1))).length ∧
    0 ≤ (allocate kEq items p).2 ∧
    qsum ((allocate kEq items p).1.map (·.2)) + (allocate kEq items p).2 = qabs p

/-- Chapter 12: R323 to R325, R327 and R328; the node table is that of Table 12-1. That a partner refused under clause 37 is told by the
operands of ARCADE_LINK_UP is the model's choice (log entry 118). -/
def Obligations.RingPortsAndFrames : Prop :=
  (∀ s : State, s.getN Obj.ARCADE_STATUS.BYPASS = 1 →
    ∃ t, exec .bypassInsert s = .next t ∧ t.getN Obj.ARCADE_STATUS.BYPASS = 2 ∧ t.getN Obj.ARCADE_STATUS.RING_STATE = 1 ∧
      t.getN Obj.ARCADE_STATUS.PORT_E = 0 ∧ t.getN Obj.ARCADE_STATUS.PORT_W = 0 ∧ t.arc = s.arc) ∧
  (∀ (s : State) (e w : Bool), s.getN Obj.ARCADE_STATUS.BYPASS = 1 → s.passed s.arc.testAt (secTicks 5) = true →
      (e && w) = false →
    ∃ t, exec (.bypassTestTimeout e w) s = .next t ∧ t.arc.testAt = s.root ∧ (e = false → t.flag Obj.ARCADE_STATUS.FLAGS 1 = true) ∧
      (w = false → t.flag Obj.ARCADE_STATUS.FLAGS 2 = true) ∧ s.sameBut t [Obj.ARCADE_STATUS.FLAGS]) ∧
  (∀ (s : State) (west : Bool), s.portUp west = true →
    ∃ t, exec (.arcadeLinkLoss west) s = .next t ∧ t.getN (portKey west) = 0 ∧
      t.flag Obj.ARCADE_STATUS.FLAGS (if west then 2 else 1) = true ∧ s.sameBut t [portKey west, Obj.ARCADE_STATUS.FLAGS]) ∧
  (∀ (s : State) (west fullDuplex pause : Bool), s.getN Obj.ARCADE_STATUS.BYPASS = 2 → s.getN (portKey west) = 0 →
      s.getN Obj.ARCADE_CFG.AUTONEG ≠ 1 ∨ (fullDuplex = true ∧ pause = false) →
    ∃ t, exec (.arcadeLinkUp ⟨west, fullDuplex, pause⟩) s = .next t ∧ t.portUp west = true ∧
      (s.anyPortUp = false → t.time.listenAt = s.root) ∧ s.sameBut t [portKey west]) ∧
  (∀ (s : State) (west fullDuplex pause : Bool), s.getN Obj.ARCADE_CFG.AUTONEG = 1 → fullDuplex = false ∨ pause = true →
    exec (.arcadeLinkUp ⟨west, fullDuplex, pause⟩) s = .next s) ∧
  (∀ (s : State) (west : Bool) (f : HsrFrame), s.portUp west = true → f.bad = true →
    ∃ t, exec (.hsrFrameRx west f) s = .next t ∧
      t.getN Obj.ARCADE_STATUS.RX_ERRORS = min 0xFFFFFFFF (s.getN Obj.ARCADE_STATUS.RX_ERRORS + 1) ∧ t.arc = s.arc ∧
      s.sameBut t [Obj.ARCADE_STATUS.RX_ERRORS]) ∧
  (∀ (s : State) (west : Bool) (f : HsrFrame), s.portUp west = true → f.bad = false → f.mac = macOf s.serial →
    ∃ t, exec (.hsrFrameRx west f) s = .next t ∧ t.arc.fwd = none ∧
      (f.supervision = true → (if west then s.arc.backE else s.arc.backW) = true → t.getN Obj.ARCADE_STATUS.RING_STATE = 2)) ∧
  (∀ (s : State) (west : Bool) (f : HsrFrame), s.portUp west = true → f.bad = false → f.mac ≠ macOf s.serial →
      f.dest = macOf s.serial → f.supervision = false →
      (∀ e ∈ s.arc.dups, e.1 = f.mac → e.2.1 = f.seq → e.2.2 + msTicks 400 ≤ s.root) →
    ∃ t, exec (.hsrFrameRx west f) s = .next t ∧ t.arc.fwd = none ∧ (f.mac, f.seq, s.root) ∈ t.arc.dups ∧
      t.getN Obj.ARCADE_STATUS.FRAMES_RX = min 0xFFFFFFFF (s.getN Obj.ARCADE_STATUS.FRAMES_RX + 1) ∧
      s.sameBut t [Obj.ARCADE_STATUS.FRAMES_RX]) ∧
  (∀ (s : State) (west : Bool) (f : HsrFrame), s.portUp west = true → f.bad = false → f.mac ≠ macOf s.serial →
      f.dest = macOf s.serial ∨ macIsGroup f.dest = true →
      (∃ e ∈ s.arc.dups, e.1 = f.mac ∧ e.2.1 = f.seq ∧ s.root < e.2.2 + msTicks 400) →
    ∃ t, exec (.hsrFrameRx west f) s = .next t ∧ t.arc.fwd = (if f.dest = macOf s.serial then none else some f) ∧
      t.getN Obj.ARCADE_STATUS.DUPLICATES = min 0xFFFFFFFF (s.getN Obj.ARCADE_STATUS.DUPLICATES + 1) ∧
      t.arc.members = s.arc.members ∧ s.sameBut t [Obj.ARCADE_STATUS.DUPLICATES]) ∧
  (∀ (s : State) (west : Bool) (f : HsrFrame), s.portUp west = true → f.bad = false → f.mac ≠ macOf s.serial →
      f.dest ≠ macOf s.serial → macIsGroup f.dest = false →
    ∃ t, exec (.hsrFrameRx west f) s = .next t ∧ t.arc.fwd = some f ∧ t.dict = s.dict ∧ t.arc.members = s.arc.members ∧
      ∃ n ∈ t.arc.nodes, n.mac = f.mac ∧ n.at_ = s.root) ∧
  (∀ s : State, s.anyPortUp = true →
      (∀ at_, s.arc.lifeAt = some at_ → s.passed at_ (msTicks (s.getN Obj.ARCADE_CFG.LIFE_CHECK)) = true) →
    ∃ t, exec .hsrSupervisionTx s = .next t ∧ t.arc.lifeAt = some s.root ∧ t.arc.backE = false ∧ t.arc.backW = false ∧
      t.arc.tx = [{ dest := 0x01154E000100, seq := s.arc.seq, ether := 0x88FB, body := [] }] ∧
      t.arc.seq = (s.arc.seq + 1) % 65536 ∧
      (s.arc.lifeAt ≠ none → s.arc.backE = false → s.arc.backW = false → t.getN Obj.ARCADE_STATUS.RING_STATE = 1 ∧
        (s.getN Obj.ARCADE_STATUS.RING_STATE = 2 → t.flag Obj.ARCADE_STATUS.FLAGS 0 = true)) ∧
      (s.arc.lifeAt ≠ none → s.arc.backE = true → s.arc.backW = true → t.getN Obj.ARCADE_STATUS.RING_STATE = 2) ∧
      s.sameBut t [Obj.ARCADE_STATUS.RING_STATE, Obj.ARCADE_STATUS.FLAGS])

/-- R101, R332 and R333, and the node table of Table 12-1. -/
def Obligations.BeaconsAndMembers : Prop :=
  (∀ (s : State) (key : List Byte), s.arcActive = true → s.anyPortUp = true → s.nand.ringKey = some key →
      (∀ at_, s.arc.beaconAt = some at_ → s.passed at_ (msTicks (s.getN Obj.ARCADE_CFG.BEACON_INTERVAL)) = true) →
    ∃ t, exec .beaconTx s = .next t ∧ t.arc.beaconAt = some s.root ∧
      t.arc.tx = [{ dest := 2 ^ 48 - 1, seq := s.arc.seq, body := s.pdu key 1 0 0 (s.beaconBody s.mode.code) }] ∧
      t.dict = s.dict) ∧
  (∀ (s : State) (b : Beacon) (key : List Byte), s.portUp b.west = true → b.formOk = true → b.type = 1 → b.len = 32 →
      b.source ≠ s.serial → s.nand.ringKey = some key → b.tagOk key = true →
      (∀ l, SMap.find? s.arc.freshB b.source = some l → l < b.fresh) →
      (∀ m, SMap.find? s.arc.macs b.source = some m → m = b.mac) → 3 ≤ fieldN b.payload 4 1 → fieldN b.payload 4 1 ≤ 5 →
      ((∃ m ∈ s.arc.members, m.isModule = true ∧ m.serial = b.source) ∨ s.memRoom true = true) →
    ∃ t, exec (.beaconRx b) s = .next t ∧ SMap.find? t.arc.freshB b.source = some b.fresh ∧
      ∃ m ∈ t.arc.members, m.isModule = true ∧ m.serial = b.source ∧ m.mac = b.mac ∧ m.heard = s.root ∧
        m.mflags = fieldN b.payload 2 1 % 128 ∧ m.prio = fieldN b.payload 3 1 ∧ m.mode = fieldN b.payload 4 1 ∧
        m.origin = fieldI b.payload 8 8 ∧ m.oseq = fieldN b.payload 16 4 ∧ m.need = fieldI b.payload 24 8) ∧
  (∀ (s : State) (b : Beacon) (key : List Byte), s.portUp b.west = true → b.formOk = true → b.type = 1 → b.len = 32 →
      b.source ≠ s.serial → s.nand.ringKey = some key →
      (b.tagOk key = false ∨ ∃ l, SMap.find? s.arc.freshB b.source = some l ∧ (b.fresh < l ∨ b.fresh = l ∧
        ∀ m ∈ s.arc.members, m.isModule = true → m.serial = b.source → m.mac = b.mac → s.passed m.heard (msTicks 400) = true)) →
    ∃ t, exec (.beaconRx b) s = .next t ∧ t.arc = s.arc ∧ t.flag Obj.ARCADE_STATUS.FLAGS 3 = true ∧
      t.getN Obj.ARCADE_STATUS.AUTH_DROPPED = min 0xFFFFFFFF (s.getN Obj.ARCADE_STATUS.AUTH_DROPPED + 1) ∧
      s.sameBut t [Obj.ARCADE_STATUS.FLAGS, Obj.ARCADE_STATUS.AUTH_DROPPED]) ∧
  (∀ (s : State) (b : Beacon) (key : List Byte) (m : Member), s.portUp b.west = true → b.formOk = true → b.type = 1 → b.len = 32 →
      b.source ≠ s.serial → s.nand.ringKey = some key → b.tagOk key = true →
      SMap.find? s.arc.freshB b.source = some b.fresh → m ∈ s.arc.members → m.isModule = true → m.serial = b.source →
      m.mac = b.mac → s.passed m.heard (msTicks 400) = false →
    ∃ t, exec (.beaconRx b) s = .next t ∧
      t.getN Obj.ARCADE_STATUS.DUPLICATES = min 0xFFFFFFFF (s.getN Obj.ARCADE_STATUS.DUPLICATES + 1) ∧
      t.arc.members = s.arc.members.map (fun x => if x.isModule = true ∧ x.serial = b.source then
        { x with ports := x.ports ||| (if b.west then 2 else 1) } else x) ∧ s.sameBut t [Obj.ARCADE_STATUS.DUPLICATES]) ∧
  (∀ (s : State) (b : Beacon), s.portUp b.west = true → b.formOk = true → b.type = 1 → b.len = 32 → b.source = s.serial →
      b.mac ≠ macOf s.serial →
    ∃ t, exec (.beaconRx b) s = .next t ∧ t.flag Obj.ARCADE_STATUS.FLAGS 4 = true ∧ t.arc = s.arc) ∧
  (∀ (s : State) (b : Beacon) (key : List Byte) (m : Nat), s.portUp b.west = true → b.formOk = true → b.type = 1 → b.len = 32 →
      b.source ≠ s.serial → s.nand.ringKey = some key → b.tagOk key = true →
      (∀ l, SMap.find? s.arc.freshB b.source = some l → l < b.fresh) → SMap.find? s.arc.macs b.source = some m → m ≠ b.mac →
    ∃ t, exec (.beaconRx b) s = .next t ∧ t.flag Obj.ARCADE_STATUS.FLAGS 4 = true ∧
      ∀ x ∈ t.arc.members, x.isModule = true → x.serial ≠ b.source) ∧
  (∀ (s : State) (serial : Nat), (∃ m ∈ s.arc.members, m.isModule = true ∧ m.serial = serial ∧
      s.passed m.heard (msTicks (s.getN Obj.ARCADE_CFG.MEMBER_TIMEOUT)) = true) →
    ∃ t, exec (.memberTimeout serial) s = .next t ∧ ∀ m, m ∈ t.arc.members ↔ m ∈ s.arc.members ∧
      ¬ (m.isModule = true ∧ m.serial = serial ∧ s.passed m.heard (msTicks (s.getN Obj.ARCADE_CFG.MEMBER_TIMEOUT)) = true)) ∧
  (∀ (s : State) (mac : Nat),
    ∃ t, exec (.nodeForget mac) s = .next t ∧
      (∀ n, n ∈ t.arc.nodes ↔ n ∈ s.arc.nodes ∧ ¬ (n.mac = mac ∧ s.passed n.at_ (secTicks 60) = true)) ∧
      ∀ m, m ∈ t.arc.members ↔ m ∈ s.arc.members ∧
        ¬ (m.kind = 1 ∧ m.mac = mac ∧ s.passed m.heard (secTicks 60) = true)) ∧
  (∀ (s : State) (west : Bool) (f : HsrFrame), s.portUp west = true → f.bad = false → f.mac ≠ macOf s.serial →
      macIsGroup f.dest = true → f.supervision = true →
      (∀ e ∈ s.arc.dups, e.1 = f.mac → e.2.1 = f.seq → e.2.2 + msTicks 400 ≤ s.root) → s.memRoom false = true →
      (∀ m ∈ s.arc.members, m.mac ≠ f.mac) →
    ∃ t, exec (.hsrFrameRx west f) s = .next t ∧ ∃ m ∈ t.arc.members, m.kind = 1 ∧ m.mac = f.mac ∧ m.since = s.root ∧
      m.ports = (if west then 2 else 1))

/-- Chapter 12: R335 and R338 to R341. -/
def Obligations.PtpMessagesComplete : Prop :=
  (∀ (s : State) (west : Bool) (m : PtpMsg) (d : Q), s.ptpStamps west = true → m.domain = s.getN Obj.PTP_CFG.DOMAIN →
      s.fromParent m = true → m.near = false →
      (s.updTime (fun t => { t with arrivals := noteArrival t.arrivals m.seq (ptpStamp m) west })).syncPort west = b2n west →
      seqAhead m.seq s.time.seqLast = true → m.twoStep = false → s.linkDelay west = some d → s.ppsValid = false →
    ∃ t, exec (.ptpSyncRx west m) s = .next t ∧ t.time.seqLast = some m.seq ∧
      t.getN Obj.PTP_STATUS.SYNC_RX = min 0xFFFFFFFF (s.getN Obj.PTP_STATUS.SYNC_RX + 1) ∧
      t.getN Obj.PTP_STATUS.SYNC_PORT = b2n west ∧ s.timeUsed t (m.time + m.corr + d + (s.portAsym west : Q)) (ptpStamp m)) ∧
  (∀ (s : State) (west : Bool) (m : PtpMsg), s.ptpStamps west = true → m.domain = s.getN Obj.PTP_CFG.DOMAIN →
      s.fromParent m = true → m.near = false →
      (s.updTime (fun t => { t with arrivals := noteArrival t.arrivals m.seq (ptpStamp m) west })).syncPort west = b2n west →
      seqAhead m.seq s.time.seqLast = true → m.twoStep = true →
    ∃ t, exec (.ptpSyncRx west m) s = .next t ∧ t.time.seqLast = some m.seq ∧ t.time.waitFu = some m) ∧
  (∀ (s : State) (west : Bool) (m : PtpMsg), s.ptpStamps west = true → m.domain = s.getN Obj.PTP_CFG.DOMAIN →
      s.fromParent m = true → m.near = true →
    ∃ t, exec (.ptpSyncRx west m) s = .next t ∧ t.time = s.time ∧
      t.getN Obj.PTP_STATUS.TS_MISSED = min 0xFFFFFFFF (s.getN Obj.PTP_STATUS.TS_MISSED + 1) ∧
      s.sameBut t [Obj.PTP_STATUS.TS_MISSED]) ∧
  (∀ (s : State) (west : Bool) (m y : PtpMsg) (d : Q), s.ptpStamps west = true → m.domain = s.getN Obj.PTP_CFG.DOMAIN →
      s.fromParent m = true → seqAhead m.seq s.time.seqFu = true → s.time.waitFu = some y → y.seq = m.seq →
      s.linkDelay (s.getN Obj.PTP_STATUS.SYNC_PORT == 1) = some d → s.ppsValid = false →
    ∃ t, exec (.ptpFollowUpRx west m) s = .next t ∧ t.time.seqFu = some m.seq ∧ t.time.waitFu = none ∧
      t.getN Obj.PTP_STATUS.SYNC_RX = min 0xFFFFFFFF (s.getN Obj.PTP_STATUS.SYNC_RX + 1) ∧
      s.timeUsed t (m.time + (y.corr + m.corr) + d + (s.portAsym (s.getN Obj.PTP_STATUS.SYNC_PORT == 1) : Q)) (ptpStamp y)) ∧
  (∀ (s : State) (west : Bool) (m a : PtpAnnounce) (at_ : Nat), s.ptpOn west = true → m.domain = s.getN Obj.PTP_CFG.DOMAIN →
      m.clock ≠ s.clockId → m.steps < 255 → s.time.foreign = [(a, 1, at_)] → a.clock = m.clock → a.port = m.port → a.seq ≠ m.seq →
      s.passed at_ (secTicks 4) = false → s.gmCapable = false →
    ∃ t, exec (.ptpAnnounceRx west m) s = .next t ∧ t.time.foreign = [(m, 2, s.root)] ∧ t.time.parent = some m ∧
      t.getN Obj.PTP_STATUS.GM_IDENTITY = m.gm ∧ t.getN Obj.PTP_STATUS.GM_CLASS = m.cls) ∧
  (∀ (s : State) (west : Bool) (m : PtpAnnounce), s.ptpOn west = true → m.domain = s.getN Obj.PTP_CFG.DOMAIN →
      m.clock ≠ s.clockId → m.steps < 255 →
    ∃ t n, exec (.ptpAnnounceRx west m) s = .next t ∧ 1 ≤ n ∧
      t.time.foreign = (m, n, s.root) :: s.time.foreign.filter (fun f => !(decide (f.1.clock = m.clock) && decide (f.1.port = m.port)))) ∧
  (∀ s : State, s.getN Obj.PTP_CFG.ENABLE = 1 → s.anyPortUp = true → s.time.parent ≠ none →
      (∀ f ∈ s.time.foreign, s.passed f.2.2 (secTicks 3) = true) →
    ∃ t, exec .ptpAnnounceTimeout s = .next t ∧ t.time.parent = none ∧ t.time.foreign = [] ∧ t.time.master = s.gmCapable ∧
      t.getN Obj.PTP_STATUS.GM_IDENTITY = (if s.gmCapable then s.clockId else 0)) ∧
  (∀ (s : State) (west : Bool) (m : PtpMsg), s.ptpStamps west = true → m.domain = s.getN Obj.PTP_CFG.DOMAIN → m.near = false →
    ∃ t r, exec (.pdelayReqRx west m) s = .next t ∧ t.time.tx = [r] ∧ r.seq = m.seq ∧ r.clock = s.clockId ∧ r.twoStep = false ∧
      r.corr = m.corr + ((s.now : Q) - (ptpStamp m : Q)) * 16 / 5 ∧ t.dict = s.dict) ∧
  (∀ (s : State) (west : Bool) (m : PtpMsg) (t1 : Nat), s.ptpStamps west = true → m.domain = s.getN Obj.PTP_CFG.DOMAIN →
      m.forUs = true → (if west then s.time.reqW else s.time.reqE) = some (m.seq, t1) → m.near = false → m.twoStep = false →
    ∃ t, exec (.pdelayRespRx west m) s = .next t ∧ (if west then t.time.reqW else t.time.reqE) = none ∧
      t.linkDelay west = some (((((ptpStamp m) : Q) - (t1 : Q)) * 16 / 5 - m.corr) / 2)) ∧
  (∀ (s : State) (west : Bool) (m : PtpMsg) (t1 t4 : Nat) (t2 c : Q), s.ptpOn west = true → m.domain = s.getN Obj.PTP_CFG.DOMAIN →
      m.forUs = true → (if west then s.time.reqW else s.time.reqE) = some (m.seq, t1) →
      (if west then s.time.respW else s.time.respE) = some (m.seq, t2, t4, c) →
    ∃ t, exec (.pdelayRespFollowUpRx west m) s = .next t ∧ (if west then t.time.respW else t.time.respE) = none ∧
      t.linkDelay west = some ((((t4 : Q) - (t1 : Q)) * 16 / 5 - (m.time - t2) - c - m.corr) / 2)) ∧
  (∀ s : State, s.time.master = true → (s.ptpOn false || s.ptpOn true) = true →
      (∀ at_, s.time.syncTx = some at_ → s.passed at_ (msTicks 125) = true) →
    ∃ t r, exec .ptpSyncTx s = .next t ∧ t.time.tx = [r] ∧ r.time = s.taiOf s.now ∧ r.seq = s.time.seqSync ∧ r.twoStep = false ∧
      t.time.syncTx = some s.root ∧ t.time.seqSync = (s.time.seqSync + 1) % 65536 ∧ t.dict = s.dict) ∧
  (∀ s : State, s.time.master = true → (s.ptpOn false || s.ptpOn true) = true →
      (∀ at_, s.time.annTx = some at_ → s.passed at_ (secTicks 1) = true) →
    ∃ t, exec .ptpAnnounceTx s = .next t ∧ t.time.txAnn = some s.ownAnnounce ∧ t.time.annTx = some s.root ∧
      t.getN Obj.PTP_STATUS.GM_CLASS = s.ownClass ∧ s.sameBut t [Obj.PTP_STATUS.GM_CLASS]) ∧
  (∀ (s : State) (west : Bool), s.ptpOn west = true →
      (∀ at_, (if west then s.time.pdW else s.time.pdE) = some at_ →
        s.passed at_ (if s.timeLocked then secTicks 1 else msTicks 125) = true) →
    ∃ t, exec (.pdelayReqTx west) s = .next t ∧ (if west then t.time.reqW else t.time.reqE) = some (s.time.seqPd, s.now) ∧
      (∃ r, t.time.tx = [r] ∧ r.seq = s.time.seqPd ∧ r.clock = s.clockId ∧ r.port = 1 + b2n west) ∧
      (if west then t.time.pdW else t.time.pdE) = some s.root ∧ t.dict = s.dict) ∧
  (∀ (s : State) (west : Bool) (m : PtpMsg) (residence : Nat) (d : Q), s.portUp west = true → s.linkDelay west = some d →
    ∃ t, exec (.ptpEventForward west m residence) s = .next t ∧
      t.time.tx = [{ m with corr := m.corr + (residence : Q) * 4 / 5 + d }] ∧ t.dict = s.dict)

/-- Chapter 12: R334, R335, R337, R342, R343 and Table 12-9b. -/
def Obligations.TimeBaseAndGrandmasterInputs : Prop :=
  (∀ (s : State) (tick width p : Nat) (sec : Int) (at_ : Nat), s.ppsOn = true → s.time.ppsLast = some p →
      p + 312500000 ≤ tick + 31250 → tick ≤ p + 312500000 + 31250 → 1000 ≤ width → s.time.ppsNamed = true →
      s.time.tod = some sec → s.time.consSince = some at_ → s.passed at_ (secTicks 4) = true →
    ∃ t, exec (.ppsIn tick width) s = .next t ∧ t.time.ppsLast = some tick ∧ t.time.tod = some (sec + 1) ∧
      t.getR Obj.PTP_STATUS.PPS_OFFSET = some (toSecond (s.taiOf tick - (s.getI Obj.PTP_CFG.PPS_DELAY : Q))) ∧
      s.timeUsed t (((sec + 1 : Int) : Q) * 1000000000 + (s.getI Obj.PTP_CFG.PPS_DELAY : Q)) tick) ∧
  (∀ (s : State) (tick width p : Nat), s.ppsOn = true → s.time.ppsLast = some p →
      p + 312500000 ≤ tick + 31250 → tick ≤ p + 312500000 + 31250 → 1000 ≤ width → s.time.ppsNamed = false →
    ∃ t, exec (.ppsIn tick width) s = .next t ∧ t.time.ppsLast = some tick ∧ t.time.consSince = none ∧
      t.flag Obj.TIMEBASE.FLAGS 3 = true ∧ s.sameBut t [Obj.PTP_STATUS.PPS_OFFSET, Obj.TIMEBASE.FLAGS]) ∧
  (∀ (s : State) (tick width : Nat), s.ppsOn = true →
      (∀ p, s.time.ppsLast = some p → tick + 31250 < p + 312500000 ∨ p + 312500000 + 31250 < tick ∨ width < 1000) →
    ∃ t, exec (.ppsIn tick width) s = .next t ∧ t.time.ppsLast = some tick ∧ t.time.consSince = none ∧ t.time.tod = none ∧
      t.time.ppsAt = s.time.ppsAt ∧ s.sameBut t [Obj.PTP_STATUS.PPS_OFFSET]) ∧
  (∀ (s : State) (b : List Byte) (utc p : Nat), s.ppsOn = true → zdaSecond b = some utc → s.time.ppsLast = some p →
      p + 31250000 ≤ s.now → s.now ≤ p + 281250000 → s.time.ppsNamed = false →
    ∃ t, exec (.todIn b) s = .next t ∧ t.time.ppsNamed = true ∧
      t.time.tod = some ((utc : Int) + s.getI Obj.TIMEBASE.TAI_UTC) ∧
      (s.time.tod = some ((utc : Int) + s.getI Obj.TIMEBASE.TAI_UTC) →
        t.time.consSince = some (s.time.consSince.getD s.root)) ∧
      (∀ x, s.time.tod = some x → x ≠ (utc : Int) + s.getI Obj.TIMEBASE.TAI_UTC →
        t.time.consSince = none ∧ t.flag Obj.TIMEBASE.FLAGS 3 = true)) ∧
  (∀ (s : State) (at_ : Nat), s.ppsOn = true → s.time.ppsAt = some at_ → s.passed at_ (secTicks 2) = true →
    ∃ t, exec .ppsMissing s = .next t ∧ t.time.consSince = none ∧ t.time.ppsAt = none ∧ t.flag Obj.TIMEBASE.FLAGS 4 = true ∧
      s.sameBut t [Obj.TIMEBASE.FLAGS]) ∧
  (∀ s : State, s.part = .zs8848 → s.getN Obj.PTP_CFG.PPS_TOD_ENABLE = 1 → s.getN Obj.PTP_CFG.PPS_OUT_ENABLE = 1 →
      s.getN Obj.TIMEBASE.STATE = 2 ∨ s.getN Obj.TIMEBASE.STATE = 3 →
      (s.getI Obj.TIMEBASE.ORIGIN * 5 + ((s.now * 16 : Nat) : Int)) % 5000000000 < 16 →
    ∃ t, exec .ppsOut s = .next t ∧ t.time.ppsOutAt = some s.root ∧ t.dict = s.dict) ∧
  (∀ s : State, (∀ at_, s.time.syncAt = some at_ → s.passed at_ (secTicks 3) = true) →
      (s.getN Obj.TIMEBASE.STATE = 1 →
        ∃ t, exec .sourceLoss s = .next t ∧ t.getN Obj.TIMEBASE.STATE = 0 ∧ t.getN Obj.TIMEBASE.SOURCE = 0) ∧
      (s.getN Obj.TIMEBASE.STATE = 2 →
        ∃ t, exec .sourceLoss s = .next t ∧ t.getN Obj.TIMEBASE.STATE = 3 ∧ t.getN Obj.TIMEBASE.SOURCE = 0 ∧
          t.flag Obj.TIMEBASE.FLAGS 1 = true ∧ t.time.holdAt = s.root)) ∧
  (∀ s : State, s.getN Obj.TIMEBASE.STATE = 3 →
      s.passed s.time.holdAt (secTicks (s.getN Obj.TIMEBASE.HOLDOVER_TIME)) = true →
    ∃ t, exec .holdoverExpiry s = .next t ∧ t.getN Obj.TIMEBASE.STATE = 0) ∧
  (∀ s : State, 0 < s.time.stepPend → s.now % 10000 = 0 →
    ∃ t, exec .timeStep s = .next t ∧ t.now = s.now + s.time.stepPend ∧ t.root = s.root ∧ t.time.stepPend = 0 ∧
      t.getI Obj.TIMEBASE.LAST_STEP = s.time.stepPend ∧
      t.getN Obj.TIMEBASE.STEPS = min 0xFFFFFFFF (s.getN Obj.TIMEBASE.STEPS + 1) ∧ t.flag Obj.TIMEBASE.FLAGS 0 = true ∧
      (s.getN Obj.TIMEBASE.STATE = 2 → t.getN Obj.TIMEBASE.STATE = 1) ∧ ∀ tick ≤ s.now, t.aged tick = s.aged tick)

/-- Chapter 13: R347, R352 with Table 13-4, R357, R358, R364 and R366. That a standby passes SWAP on as an Arcade write of the partner's
SWAP is the model's choice (log entry 73). -/
def Obligations.RolesFollowTheTable : Prop :=
  (∀ (s : State) (p : Path), s.takesWrite p 0x2400 1 [0] (.n 0) → s.role ≠ 0 →
    ∃ t, exec (.redundancyEnable p 0) s = .next t ∧ t.last = some (.ok []) ∧ t.role = 0 ∧ t.red.mirror = none ∧
      t.getN Obj.REDUNDANCY_CFG.ENABLE = 0 ∧ t.getN Obj.REDUNDANCY_STATUS.LINKS = 0 ∧
      t.getN Obj.REDUNDANCY_STATUS.PARTNER_ROLE = 0xFF) ∧
  (∀ (s : State) (p : Path), s.takesWrite p 0x2400 1 [1] (.n 1) → s.role = 0 →
    ∃ t, exec (.redundancyEnable p 1) s = .next t ∧ t.last = some (.ok []) ∧ t.role = 1 ∧
      t.getN Obj.REDUNDANCY_CFG.ENABLE = 1 ∧ ∀ n, t.claims n = false) ∧
  (∀ (s : State) (p : Path), s.takesWrite p 0x2400 1 [1] (.n 1) → s.role ≠ 0 →
    ∃ t, exec (.redundancyEnable p 1) s = .next t ∧ t.last = some (.ok []) ∧ t.role = s.role ∧ t.red = s.red) ∧
  (∀ s : State, s.role = 1 → s.red.mirror = none →
      (∀ n < s.part.galleries, s.strOn n = true → bit (s.g n).trunk.obeyPort (1 - s.ownPort) = false) →
      s.passed s.red.roleAt (msTicks (s.getN Obj.REDUNDANCY_CFG.PAIR_WAIT)) = true →
    ∃ t, exec .pairWait s = .next t ∧ t.role = 2 ∧
      t.getN Obj.REDUNDANCY_STATUS.EPOCH = (s.getN Obj.REDUNDANCY_STATUS.EPOCH + 1) % 2 ^ 32) ∧
  (∀ (s : State) (p : Path) (m : Mirror), s.takesWrite p 0x2400 8 [1] (.n 1) → s.role = 2 → s.red.mirror = some m →
      s.partnerPath = true → m.notReady = 0 →
      (∀ g < 8, (s.grp g).state = .off ∨ (s.grp g).state = .waitOff ∨ (s.grp g).state = .energised) →
      (∀ n < s.part.galleries, (s.g n).tread.state ≠ .reversing ∧ (s.g n).tread.state ≠ .stopping) →
    ∃ t, exec (.swap p) s = .next t ∧ t.last = some (.ok []) ∧ t.role = 5 ∧ t.red.handover = (s.presentSf + 32) % 2 ^ 32 ∧
      s.sameBut t [Obj.REDUNDANCY_STATUS.ROLE]) ∧
  (∀ (s : State) (p : Path) (m : Mirror) (key : List Byte), s.takesWrite p 0x2400 8 [1] (.n 1) → s.role = 3 →
      s.red.mirror = some m → s.partnerPath = true → s.notReadyNow = 0 →
      (∀ x ∈ m.strings, (x.group = 0 ∨ x.group = 1 ∨ x.group = 6 ∨ x.group = 0xFF) ∧ x.conv ≠ 3 ∧ x.conv ≠ 4) →
      s.nand.ringKey = some key → s.anyPortUp = true →
    ∃ t, exec (.swap p) s = .next t ∧ t.last = some (.ok []) ∧ t.role = 3 ∧ t.red.passSwap = true ∧
      t.arc.reqs = s.arc.reqs ++ [{ id := s.arc.nextId, dest := m.serial, write := true, index := 0x2400, sub := 8, at_ := s.root }]) ∧
  (∀ (s : State) (p : Path), s.takesWrite p 0x2400 8 [1] (.n 1) →
      (s.role ≠ 2 ∧ s.role ≠ 3) ∨ s.red.mirror = none ∨ s.partnerPath = false ∨
        (s.role = 2 ∧ ∃ m, s.red.mirror = some m ∧ m.notReady ≠ 0) ∨ (s.role = 3 ∧ s.notReadyNow ≠ 0) ∨
        (s.role = 2 ∧ ((∃ g < 8, (s.grp g).state ≠ .off ∧ (s.grp g).state ≠ .waitOff ∧ (s.grp g).state ≠ .energised) ∨
          ∃ n < s.part.galleries, (s.g n).tread.state = .reversing ∨ (s.g n).tread.state = .stopping)) ∨
        (s.role = 3 ∧ ∃ m, s.red.mirror = some m ∧ ∃ x ∈ m.strings, x.conv = 3 ∨ x.conv = 4 ∨
          (x.group ≠ 0 ∧ x.group ≠ 1 ∧ x.group ≠ 6 ∧ x.group ≠ 0xFF)) →
    exec (.swap p) s = .next (s.reply (.abort abortState))) ∧
  (∀ s : State, s.safe.groups.length = 8 → s.role = 4 → 16 ≤ s.red.roleSf → s.red.cause = 1 →
    ∃ t, exec .takeoverTimeout s = .next t ∧ t.role = 3 ∧ t.flag Obj.REDUNDANCY_STATUS.FLAGS 6 = true ∧
      (∀ l < 16, s.offCommanded t l) ∧ ∀ g < 8, (t.grp g).state = .off) ∧
  (∀ s : State, s.role = 4 → 16 ≤ s.red.roleSf → s.red.cause ≠ 1 →
    ∃ t, exec .takeoverTimeout s = .next t ∧ t.role = 2 ∧ t.flag Obj.REDUNDANCY_STATUS.FLAGS 9 = true ∧
      t.getN Obj.REDUNDANCY_STATUS.TAKEOVERS = min 0xFFFFFFFF (s.getN Obj.REDUNDANCY_STATUS.TAKEOVERS + 1)) ∧
  (∀ (s : State) (n : Nat), s.role = 5 → sfReached s.presentSf ((s.red.handover + 8) % 2 ^ 32) = true → s.strOn n = true →
      s.trunkUp n = true → (s.g n).trunk.noClaim = false →
    ∃ t, exec .yieldTimeout s = .next t ∧ t.role = 2 ∧ t.red.handover = 0xFFFFFFFF ∧
      t.flag Obj.REDUNDANCY_STATUS.FLAGS 6 = true) ∧
  (∀ (s : State) (p : Path), s.takesWrite p 0x2400 0x0A [1] (.n 1) →
    ∃ t, exec (.reArm p) s = .next t ∧ t.last = some (.ok []) ∧ t.red = { s.red with overlapYield := false } ∧ t.dict = s.dict ∧
      t.gal = s.gal) ∧
  (∀ (s : State) (at_ : Nat), s.nand.swapFrom = some at_ → s.role = 3 → s.getN Obj.REDUNDANCY_CFG.SWAP_INTERVAL ≠ 0 →
      secTicks (s.getN Obj.REDUNDANCY_CFG.SWAP_INTERVAL) ≤ s.aged at_ →
    ∃ t, exec .swapDue s = .next t ∧ t.flag Obj.REDUNDANCY_STATUS.FLAGS 8 = true ∧ s.sameBut t [Obj.REDUNDANCY_STATUS.FLAGS])

/-- Chapter 13: R347, R349, R350 and R352 with Table 13-4; the pause is that of chapter 17. -/
def Obligations.CorridorAndMirrorComplete : Prop :=
  (∀ s : State, s.corridorRuns = true → s.now % 10000 = 0 → s.red.txGrid ≠ some (s.now / 10000) → s.paused = false →
    ∃ t, exec .corridorFrameTx s = .next t ∧ t.red.out = t.corFrame ∧ t.red.out.length = 1081 ∧
      t.red.txGrid = some (s.now / 10000) ∧ t.red.corBad = (if s.red.corHeard then 0 else s.red.corBad + 1) ∧
      t.getN Obj.REDUNDANCY_STATUS.NOT_READY = t.notReadyNow ∧ (s.role ≠ 3 → t.role = s.role)) ∧
  (∀ s : State, s.corridorRuns = true → s.now % 10000 = 0 → s.red.txGrid ≠ some (s.now / 10000) → s.paused = true →
    ∃ t, exec .corridorFrameTx s = .next t ∧ t.red.out = s.red.out ∧ t.red.txGrid = some (s.now / 10000)) ∧
  (∀ (s : State) (f : CorFrame), s.corridorRuns = true → hdrGood f.header 47 = true →
    ∃ t m, exec (.corridorFrameRx f) s = .next t ∧ t.red.mirror = some m ∧ m.serial = fieldN f.header.payload 4 8 ∧
      m.role = fieldN f.header.payload 14 1 ∧ m.flags = fieldN f.header.payload 16 1 ∧ m.epoch = fieldN f.header.payload 17 4 ∧ m.notReady = fieldN f.header.payload 33 4 ∧
      t.getN Obj.REDUNDANCY_STATUS.PARTNER_SEEN = m.serial ∧ t.getN Obj.REDUNDANCY_STATUS.PARTNER_ROLE = m.role ∧
      t.red.corHeard = true ∧ t.red.corBad = 0 ∧ (15 ≤ s.red.corGood → t.red.corUp = true) ∧
      (s.role = 1 → s.pairBreaks m ≠ 0 → t.role = 6) ∧
      (s.role = 1 → s.pairBreaks m = 0 → m.role = 2 ∨ s.headsObey (1 - s.ownPort) = true → t.role = 3) ∧
      (s.role = 1 → s.pairBreaks m = 0 → m.role ≠ 2 → s.headsObey (1 - s.ownPort) = false → s.wins m = false → t.role = 1) ∧
      (s.role = 3 → bit m.flags 2 = true → t.role = 4 ∨ t.flag Obj.REDUNDANCY_STATUS.FLAGS 5 = true) ∧
      (s.role = 1 → s.pairBreaks m = 0 → m.role ≠ 2 → s.headsObey (1 - s.ownPort) = false → s.wins m = true →
        t.role = 2 ∧ t.getN Obj.REDUNDANCY_STATUS.EPOCH = (max (s.getN Obj.REDUNDANCY_STATUS.EPOCH) m.epoch + 1) % 2 ^ 32) ∧
      (s.role = 6 → s.pairBreaks m = 0 → t.role = 1) ∧ (s.role = 2 → t.role = 2)) ∧
  (∀ s : State, s.corridorRuns = true → s.getN Obj.REDUNDANCY_CFG.CORRIDOR_TIMEOUT ≤ s.red.corBad →
    ∃ t, exec .corridorDown s = .next t ∧ t.red.corUp = false ∧ t.red.corGood = 0 ∧
      t.flag Obj.REDUNDANCY_STATUS.FLAGS 3 = true ∧ bit (t.getN Obj.REDUNDANCY_STATUS.LINKS) 0 = false) ∧
  (∀ (s : State) (d : List Byte) (f : CorFrame), s.corridorRuns = true → s.red.corUp = false →
      s.passed s.red.readTry (msTicks 100) = true → mirrorFrame d = some f → hdrGood f.header 47 = true →
    ∃ t m, exec (.mirrorRead (some d)) s = .next t ∧ t.red.readAt = some s.root ∧ t.red.mirror = some m ∧
      m.serial = fieldN f.header.payload 4 8 ∧ t.red.corUp = false) ∧
  (∀ (s : State) (data : Option (List Byte)), s.corridorRuns = true → s.red.corUp = false →
      s.passed s.red.readTry (msTicks 100) = true → (∀ f, data.bind mirrorFrame = some f → hdrGood f.header 47 = false) →
    ∃ t, exec (.mirrorRead data) s = .next t ∧ t.red.readTry = s.root ∧ t.red.readAt = s.red.readAt ∧
      t.red.mirror = s.red.mirror)

/-- Chapter 14: R371, R373, R375 and R377 to R383. The rail of a voltage output is a free value (log entry 90). -/
def Obligations.ChannelsSampleAndDrive : Prop :=
  (∀ (s : State) (n : Nat) (c : ChanIn), s.chans.length = 16 → s.chRuns n = true →
      (s.chan n).idx ≠ some (s.now / s.chPeriod n * s.chPeriod n) → s.chOut n = false →
      s.chFn n ≠ 1 ∨ s.getN (Chn.CH_CFG.RANGE n) ≠ 0 →
    ∃ t, exec (.channelSample n c) s = .next t ∧
      t.getN (Chn.CH_STATUS.SAMPLE_TICK n) = s.now / s.chPeriod n * s.chPeriod n ∧
      t.getN (Chn.CH_STATUS.STATE n) = clearBits (s.getN (Chn.CH_STATUS.STATE n)) sampleBits |||
        ((s.chRaw n (s.getN (Chn.CH_CFG.RANGE n)) c (s.chan n).tripped).2 +
          0x4000 * b2n (c.limiting && (s.chFn n == 0 || s.chFn n == 2))) |||
        64 * b2n ((s.chan n).char.fwd (s.chRaw n (s.getN (Chn.CH_CFG.RANGE n)) c (s.chan n).tripped).1).2 ∧
      (t.chFault n = false →
        t.getR (Chn.CH_STATUS.RAW n) = some (s.chRaw n (s.getN (Chn.CH_CFG.RANGE n)) c (s.chan n).tripped).1 ∧
        t.getR (Chn.CH_STATUS.VALUE n) =
          some ((s.chan n).char.fwd (s.chRaw n (s.getN (Chn.CH_CFG.RANGE n)) c (s.chan n).tripped).1).1) ∧
      (t.chFault n = true → t.getR (Chn.CH_STATUS.RAW n) = none ∧ t.getR (Chn.CH_STATUS.VALUE n) = none) ∧
      (s.chFn n = 1 → rangeFs (s.getN (Chn.CH_CFG.RANGE n)) * 105 / 100 < qabs c.x →
        t.flag (Chn.CH_STATUS.STATE n) 3 = true ∧ t.flag (Chn.CH_STATUS.FAULTS n) 3 = true)) ∧
  (∀ (s : State) (n : Nat) (c : ChanIn) (x y : Q), s.chans.length = 16 → s.chRuns n = true →
      (s.chan n).idx ≠ some (s.now / s.chPeriod n * s.chPeriod n) → s.chFn n = 1 → s.getN (Chn.CH_CFG.RANGE n) = 0 →
      clearBits (s.getN (Chn.CH_STATUS.STATE n)) sampleBits = 0 →
    ((s.chan n).discard = true ∨ (s.chan n).range < 4 ∧ rangeFs (s.chan n).range * 105 / 100 < qabs c.x →
      (s.chan n).last = some (x, y) →
      ∃ t, exec (.channelSample n c) s = .next t ∧ t.getR (Chn.CH_STATUS.RAW n) = some x ∧
        t.getR (Chn.CH_STATUS.VALUE n) = some y ∧ (t.chan n).discard = false ∧
        ((s.chan n).range < 4 → rangeFs (s.chan n).range * 105 / 100 < qabs c.x → (t.chan n).range = 4) ∧
        t.getN (Chn.CH_STATUS.HELD_SAMPLES n) = min 0xFFFFFFFF (s.getN (Chn.CH_STATUS.HELD_SAMPLES n) + 1)) ∧
    ((s.chan n).discard = false → (s.chan n).tripped = false → qabs c.x ≤ rangeFs (s.chan n).range * 105 / 100 →
      ∃ t, exec (.channelSample n c) s = .next t ∧ t.getR (Chn.CH_STATUS.RAW n) = some c.x ∧
        t.getR (Chn.CH_STATUS.VALUE n) = some ((s.chan n).char.fwd c.x).1)) ∧
  (∀ (s : State) (n : Nat) (c : ChanIn) (y : Q),
    let s1 := ((s.setN (Chn.CH_STATUS.SAMPLE_TICK n) (s.now / s.chPeriod n * s.chPeriod n)).setR (Chn.CH_STATUS.RAW n)
      (s.getR (Chn.CH_OUT.READBACK n))).setR (Chn.CH_STATUS.VALUE n)
        ((s.getR (Chn.CH_OUT.READBACK n)).map (fun x => ((s.chan n).char.fwd x).1))
    s.chans.length = 16 → s.chRuns n = true → (s.chan n).idx ≠ some (s.now / s.chPeriod n * s.chPeriod n) → s.chOut n = true →
      s1.outEng n = some y →
    ∃ t, exec (.channelSample n c) s = .next t ∧ t.getR (Chn.CH_STATUS.RAW n) = s.getR (Chn.CH_OUT.READBACK n) ∧
      t.getR (Chn.CH_OUT.COMMANDED n) =
        (if s.flag (Chn.CH_STATUS.STATE n) 8 || (s.chan n).hot || (s.chan n).noLoop then none
         else some (s.outClamp n ((s.chan n).char.back y).1))) ∧
  (∀ (s : State) (n : Nat), s.chans.length = 16 → s.chRuns n = true → s.chFn n = 1 →
    ∃ t, exec (.overloadTrip n) s = .next t ∧
      (s.getN (Chn.CH_CFG.RANGE n) = 0 → (s.chan n).range < 4 →
        (t.chan n).range = 4 ∧ (t.chan n).discard = true ∧ t.getN (Chn.CH_STATUS.RANGE_NOW n) = 4) ∧
      (s.getN (Chn.CH_CFG.RANGE n) ≠ 0 ∨ 4 ≤ (s.chan n).range → (t.chan n).tripped = true ∧ t.dict = s.dict)) ∧
  (∀ (s : State) (p : Path) (n : Nat) (d : List Byte) (v : Val), n < 16 → s.chans.length = 16 →
      s.takesWrite p (0x3002 + 0x10 * n) 1 d v →
    ∃ t, exec (.outValue p n d) s = .next t ∧ t.last = some (.ok []) ∧ t.val (Chn.CH_OUT.OUT_VALUE n) = v ∧
      (t.chan n).outAt = s.root ∧ s.sameBut t [Chn.CH_OUT.OUT_VALUE n]) ∧
  (∀ (s : State) (n : Nat), s.chRuns n = true → s.chOut n = true → s.outLate n = true →
    ∃ t, exec (.outTimeout n) s = .next t ∧ t.flag (Chn.CH_STATUS.STATE n) 12 = true ∧
      t.getR (Chn.CH_OUT.COMMANDED n) =
        (if s.flag (Chn.CH_STATUS.STATE n) 8 || (s.chan n).hot || (s.chan n).noLoop then none else s.failLevel n)) ∧
  (∀ (s : State) (n b : Nat) (rb x : Q) (limit : Bool), s.chans.length = 16 → s.chRuns n = true → s.chOut n = true →
      s.passed (s.chan n).cmpAt (msTicks 10) = true → s.getR (Chn.CH_OUT.COMMANDED n) = some x →
      (∀ a, (s.chan n).cmdAt = some a → s.passed a (msTicks 5) = true) → s.flag (Chn.CH_STATUS.STATE n) 10 = false →
      s.flag (Chn.CH_STATUS.STATE n) 11 = false → (s.chFn n = 5 → limit = false) →
      (s.chFn n = 6 → s.getQ (Chn.CH_OUT.RAIL n) < qmin (s.getQ Obj.SUPPLY_STATUS.VLOOP - 3 / 2) 30 ∨ x - rb ≤ s.outTol n) →
      s.outTol n < qabs (rb - x) → (s.chan n).badAt = some b →
      s.passed b (msTicks (s.getN (Chn.CH_OUT.RB_TIME n))) = true →
    ∃ t, exec (.readbackCompare n rb limit) s = .next t ∧ t.flag (Chn.CH_STATUS.STATE n) 8 = true ∧
      t.flag (Chn.CH_STATUS.FAULTS n) 8 = true ∧ t.getR (Chn.CH_OUT.COMMANDED n) = none ∧
      t.getR (Chn.CH_OUT.READBACK n) = some rb) ∧
  (∀ (s : State) (n : Nat) (rb : Q) (limit : Bool), s.chans.length = 16 → s.chRuns n = true → s.chOut n = true →
      s.passed (s.chan n).cmpAt (msTicks 10) = true → s.getR (Chn.CH_OUT.COMMANDED n) = none →
    ∃ t, exec (.readbackCompare n rb limit) s = .next t ∧ t.getR (Chn.CH_OUT.READBACK n) = some rb ∧
      (t.chan n).cmpAt = s.root ∧ (t.chan n).badAt = none ∧
      t.flag (Chn.CH_STATUS.STATE n) 8 = s.flag (Chn.CH_STATUS.STATE n) 8) ∧
  (∀ (s : State) (n : Nat) (hi cur : Q), s.chans.length = 16 → s.chRuns n = true → s.chFn n = 6 → (s.chan n).noLoop = false →
      s.passed (s.chan n).railAt (usTicks 100) = true → s.getR (Chn.CH_OUT.RAIL n) = some cur →
    ∃ t, exec (.railUpdate n hi) s = .next t ∧ t.getR (Chn.CH_OUT.RAIL n) = some (qclamp (cur - 1 / 10) (cur + 1)
        (qclamp 3 (qmin (s.getQ Obj.SUPPLY_STATUS.VLOOP - 3 / 2) 30) (hi + 5 / 2))) ∧
      (t.chan n).railAt = s.root ∧ s.sameBut t [Chn.CH_OUT.RAIL n]) ∧
  (∀ (s : State) (n : Nat) (hi : Q), s.chans.length = 16 → s.chRuns n = true → s.chFn n = 5 → (s.chan n).noLoop = false →
      s.passed (s.chan n).railAt (usTicks 100) = true →
    ∃ t x, exec (.railUpdate n hi) s = .next t ∧ t.getR (Chn.CH_OUT.RAIL n) = some x ∧ (t.chan n).railAt = s.root ∧
      s.sameBut t [Chn.CH_OUT.RAIL n]) ∧
  (∀ (s : State) (n : Nat) (x : Q), n < 16 → s.chans.length = 16 →
    ∃ t, exec (.driverThermal n x) s = .next t ∧ t.getR (Chn.CH_OUT.DRIVER_T n) = some x ∧
      (150 ≤ x → t.flag (Chn.CH_STATUS.STATE n) 10 = true) ∧
      (165 ≤ x → (t.chan n).hot = true ∧ t.getR (Chn.CH_OUT.COMMANDED n) = none) ∧
      (135 < x → x < 150 → s.sameBut t [Chn.CH_OUT.DRIVER_T n]) ∧
      (x ≤ 135 → t.flag (Chn.CH_STATUS.STATE n) 10 = false ∧ (t.chan n).hot = false)) ∧
  (∀ (s : State) (n : Nat), n < 16 → s.chans.length = 16 → (s.chan n).noLoop = true → s.vloopOk = true →
      s.passed s.vloopAt (msTicks 100) = true →
    ∃ t, exec (.outputResume n) s = .next t ∧ (t.chan n).noLoop = false ∧ t.getR (Chn.CH_OUT.RAIL n) = some 3 ∧
      s.sameBut t [Chn.CH_OUT.RAIL n]) ∧
  (∀ (s : State) (p : Path) (n : Nat), n < 16 → s.chans.length = 16 → s.takesWrite p (0x3001 + 0x10 * n) 9 [1] (.n 1) →
    ∃ t, exec (.chCharApply p n) s = .next t ∧
      t.getN (Chn.CH_CHAR.CHAR_ERROR n) = charErrors (s.chOut n) (s.staged14 n) ∧ s.sameBut t [Chn.CH_CHAR.CHAR_ERROR n] ∧
      (t.chan n).char = (s.chan n).char ∧
      (charErrors (s.chOut n) (s.staged14 n) = 0 → t.last = some (.ok []) ∧ (t.chan n).charNext = some (s.staged14 n)) ∧
      (charErrors (s.chOut n) (s.staged14 n) ≠ 0 → t.last = some (.abort abortRange) ∧ t.chans = s.chans))

/-- Chapter 14: R384 to R388 and R390. The order of the bits of TEST_RESULT is the model's choice (log entry 116), as are the bytes of a
HART frame (log entry 119). -/
def Obligations.ChannelCommandsAndHart : Prop :=
  (∀ (s : State) (p : Path) (n : Nat), n < 16 → s.chans.length = 16 → s.takesWrite p (0x300F + 0x10 * n) 1 [1] (.n 1) →
    ∃ t, exec (.chReinitialise p n) s = .next t ∧ t.last = some (.ok []) ∧ t.getN (Chn.CH_CTRL.RESULT n) = 1 ∧
      (t.chan n).busy = some (1, s.root) ∧ t.getR (Chn.CH_OUT.COMMANDED n) = none ∧ t.getR (Chn.CH_STATUS.VALUE n) = none ∧
      t.flag (Chn.CH_STATUS.STATE n) 0 = true) ∧
  (∀ (s : State) (p : Path) (n : Nat), n < 16 → s.chans.length = 16 → s.takesWrite p (0x300F + 0x10 * n) 1 [2] (.n 2) →
    ∃ t, exec (.chTest p n) s = .next t ∧ t.last = some (.ok []) ∧ t.getN (Chn.CH_CTRL.RESULT n) = 1 ∧
      (t.chan n).busy = some (2, s.root) ∧ t.getR (Chn.CH_OUT.COMMANDED n) = none ∧ t.getR (Chn.CH_STATUS.VALUE n) = none ∧
      t.flag (Chn.CH_STATUS.STATE n) 0 = true) ∧
  (∀ (s : State) (n kind at_ : Nat) (r : TestReadings), n < 16 → s.chans.length = 16 → (s.chan n).busy = some (kind, at_) →
      kind = 1 ∨ kind = 2 ∨ kind = 3 →
    ∃ t, exec (.chCommandDone n r) s = .next t ∧ (t.chan n).busy = none ∧ t.getN (Chn.CH_CTRL.TEST_RESULT n) = testBits r ∧
      t.getN (Chn.CH_CTRL.RESULT n) =
        (if kind = 3 then s.getN (Chn.CH_CTRL.RESULT n) else if testBits r = 15 then 2 else 3) ∧
      t.flag (Chn.CH_STATUS.STATE n) 15 = decide (testBits r ≠ 15) ∧
      (t.chan n).stuck = (decide (testBits r ≠ 15) && decide (kind ≠ 2))) ∧
  (∀ (s : State) (p : Path) (n code : Nat), n < 16 → s.chans.length = 16 →
      s.takesWrite p (0x3000 + 0x10 * n) 1 (leBytes 1 code) (.n code) →
    ∃ t, exec (.function p n code) s = .next t ∧ t.last = some (.ok []) ∧ t.chFn n = code ∧
      t.getR (Chn.CH_OUT.COMMANDED n) = none ∧ t.flag (Chn.CH_STATUS.STATE n) 0 = true) ∧
  (∀ (s : State) (n : Nat), s.chans.length = 16 → s.hartOn n = true → s.getN (Chn.HART_CFG.LINK_STATE n) = 2 →
      (s.chan n).hart.doing = 0 → s.getN (Chn.HART_CFG.POLL_INTERVAL n) ≠ 0 →
      (∀ a, (s.chan n).hart.pollAt = some a → s.passed a (msTicks (s.getN (Chn.HART_CFG.POLL_INTERVAL n))) = true) →
    ∃ t, exec (.hartPoll n) s = .next t ∧ (t.chan n).hart.doing = 2 ∧ (t.chan n).hart.sentAt = s.root ∧
      (t.chan n).hart.pollAt = some s.root ∧ (t.chan n).hart.tx = s.hartFrame n 3 [] ∧ t.dict = s.dict) ∧
  (∀ (s : State) (n : Nat) (f : HartFrame), s.chans.length = 16 → s.hartOn n = true → f.bad = false → f.command = 0 →
      (s.chan n).hart.doing = 1 →
    ∃ t, exec (.hartResponseRx n f) s = .next t ∧ t.getN (Chn.HART_CFG.LINK_STATE n) = 2 ∧
      t.getN (Chn.HART_CFG.UNIQUE_ID n) = f.long % 2 ^ 40 ∧
      t.getN (Chn.HART_CFG.TRANSACTIONS n) = min 0xFFFFFFFF (s.getN (Chn.HART_CFG.TRANSACTIONS n) + 1) ∧
      t.flag (Chn.CH_STATUS.STATE n) 13 = false) ∧
  (∀ (s : State) (n : Nat) (f : HartFrame), s.chans.length = 16 → s.hartOn n = true → f.bad = false → f.command = 3 →
      (s.chan n).hart.doing = 2 →
    ∃ t, exec (.hartResponseRx n f) s = .next t ∧ t.getR (Chn.HART_CFG.LOOP_CURRENT n) = hartReal f.data 0 ∧
      t.getR (Chn.HART_CFG.PV n) = hartReal f.data 5 ∧ (t.chan n).hart.dataAt = some s.root ∧
      t.getN (Chn.HART_CFG.TRANSACTIONS n) = min 0xFFFFFFFF (s.getN (Chn.HART_CFG.TRANSACTIONS n) + 1)) ∧
  (∀ (s : State) (n : Nat) (f : HartFrame) (req : List Byte), s.chans.length = 16 → s.hartOn n = true → f.bad = false →
      (s.chan n).hart.doing = 3 → (s.chan n).hart.req = some req → f.command = (req.headD 0).toNat →
    ∃ t, exec (.hartResponseRx n f) s = .next t ∧ t.getN (Chn.HART_XFER.XFER_STATE n) = 3 ∧ (t.chan n).hart.req = none ∧
      (t.chan n).hart.doing = 0 ∧
      (t.chan n).hart.resp = [BitVec.ofNat 8 f.command, BitVec.ofNat 8 f.code, BitVec.ofNat 8 f.status] ++ f.data) ∧
  (∀ (s : State) (n : Nat) (f : HartFrame), s.chans.length = 16 → s.hartOn n = true → f.bad = false → f.command = 3 →
    ∃ t, exec (.hartBurstFrame n f) s = .next t ∧ t.getR (Chn.HART_CFG.LOOP_CURRENT n) = hartReal f.data 0 ∧
      t.getR (Chn.HART_CFG.PV n) = hartReal f.data 5 ∧ t.getR (Chn.HART_CFG.QV n) = hartReal f.data 20 ∧
      (t.chan n).hart.dataAt = some s.root) ∧
  (∀ (s : State) (n : Nat), s.chans.length = 16 → s.hartOn n = true → (s.chan n).hart.doing ≠ 0 →
      s.passed (s.chan n).hart.sentAt (msTicks (s.getN (Chn.HART_CFG.TIMEOUT n))) = true →
    ∃ t, exec (.hartResponseTimeout n) s = .next t ∧
      ((s.chan n).hart.tries < s.getN (Chn.HART_CFG.RETRIES n) → (t.chan n).hart.tries = (s.chan n).hart.tries + 1 ∧
        (t.chan n).hart.sentAt = s.root ∧ t.dict = s.dict) ∧
      (s.getN (Chn.HART_CFG.RETRIES n) ≤ (s.chan n).hart.tries →
        t.getN (Chn.HART_CFG.HART_FAILURES n) = min 0xFFFFFFFF (s.getN (Chn.HART_CFG.HART_FAILURES n) + 1) ∧
        ((s.chan n).hart.doing = 3 → t.getN (Chn.HART_XFER.XFER_STATE n) = 4 ∧
          t.getN (Chn.HART_CFG.LINK_STATE n) = s.getN (Chn.HART_CFG.LINK_STATE n)) ∧
        ((s.chan n).hart.doing ≠ 3 → t.getN (Chn.HART_CFG.LINK_STATE n) = 3 ∧ t.flag (Chn.CH_STATUS.STATE n) 13 = true ∧
          (t.chan n).hart.failAt = s.root))) ∧
  (∀ (s : State) (n : Nat), s.chans.length = 16 → s.hartOn n = true → s.getN (Chn.HART_CFG.LINK_STATE n) = 3 →
      (s.chan n).hart.doing = 0 → s.passed (s.chan n).hart.failAt (secTicks 30) = true →
    ∃ t, exec (.hartIdentifyRetry n) s = .next t ∧ t.getN (Chn.HART_CFG.LINK_STATE n) = 1 ∧ (t.chan n).hart.doing = 1 ∧
      s.sameBut t [Chn.HART_CFG.LINK_STATE n]) ∧
  (∀ (s : State) (p : Path) (n : Nat) (d : List Byte), n < 16 → s.chans.length = 16 →
      s.takesWrite p (0x3005 + 0x10 * n) 1 d (.b d) →
    (s.getN (Chn.HART_CFG.HART_ENABLE n) ≠ 0 → s.getN (Chn.HART_CFG.LINK_STATE n) = 2 →
      s.getN (Chn.HART_XFER.XFER_STATE n) ≠ 1 → s.getN (Chn.HART_XFER.XFER_STATE n) ≠ 2 →
      ∃ t, exec (.hartXferRequest p n d) s = .next t ∧ t.last = some (.ok []) ∧ (t.chan n).hart.req = some d ∧
        t.getN (Chn.HART_XFER.XFER_STATE n) = (if s.hartOn n = true ∧ (s.chan n).hart.doing = 0 then 2 else 1) ∧
        s.sameBut t [Chn.HART_XFER.XFER_STATE n]) ∧
    (s.getN (Chn.HART_CFG.HART_ENABLE n) = 0 ∨ s.getN (Chn.HART_CFG.LINK_STATE n) ≠ 2 ∨
      s.getN (Chn.HART_XFER.XFER_STATE n) = 1 ∨ s.getN (Chn.HART_XFER.XFER_STATE n) = 2 →
      exec (.hartXferRequest p n d) s = .next (s.reply (.abort abortState))))

/-- Chapter 15: R392, R397 to R400 and R403; NMT is that of chapter 3 (R91). -/
def Obligations.CanPortsComplete : Prop :=
  (∀ (s : State) (p : Nat) (f : CanFrame), s.canOn p = true → s.getN (Can.STATE p) = 1 ∨ s.getN (Can.STATE p) = 2 →
    (f.fd = true → s.getN (Can.FD_ENABLE p) = 0 → exec (.canFrameRx p f) s = .next s) ∧
    (f.fd = false ∨ (s.getN (Can.FD_ENABLE p) ≠ 0 ∧ s.mode ≠ .recovery) → f.overrun = true → ∃ t, exec (.canFrameRx p f) s = .next t ∧ t.flag (Can.FLAGS p) 3 = true ∧
      t.getN (keyOf 0x1003 1) = 0x8110) ∧
    (f.fd = false ∨ (s.getN (Can.FD_ENABLE p) ≠ 0 ∧ s.mode ≠ .recovery) → f.overrun = false → f.rtr = true → ∃ t, exec (.canFrameRx p f) s = .next t ∧ t.cans = s.cans ∧
      t.getN (Can.RX_FRAMES p) = min 0xFFFFFFFF (s.getN (Can.RX_FRAMES p) + 1) ∧ s.sameBut t [Can.RX_FRAMES p]) ∧
    (∀ node, f.fd = false → f.overrun = false → f.rtr = false → f.ide = false → f.id = 0 →
      f.data = [1, BitVec.ofNat 8 node] → node = 0 ∨ node = (s.can p).node → node < 128 → s.cans.length = 2 →
      ∃ t, exec (.canFrameRx p f) s = .next t ∧ (t.can p).nmt = 5 ∧ (t.can p).fifo = (s.can p).fifo ∧
        s.sameBut t [Can.RX_FRAMES p])) ∧
  (∀ (s : State) (p : Nat) (e : TxEntry) (rest : List TxEntry), p < 2 → s.cans.length = 2 →
      s.getN (Can.STATE p) = 1 ∨ s.getN (Can.STATE p) = 2 → (s.can p).fifo = e :: rest →
      e.kind ≠ .sdo ∨ s.md.stepAfter ≠ some (3, p) →
    (∀ air, ∃ t, exec (.canFrameTxDone p true air) s = .next t ∧ 
      (t.can p).fifo = rest ++ (s.can p).waitq.take (32 - rest.length) ∧ t.getN (Can.FIFO_LEVEL p) = (t.can p).fifo.length ∧
      t.getN (Can.TX_FRAMES p) = min 0xFFFFFFFF (s.getN (Can.TX_FRAMES p) + 1) ∧
      (s.getN (Can.HEAD_WAIT_MAX p) ≤ 0xFFFFFFFF → t.getN (Can.HEAD_WAIT_MAX p) =
        max (s.getN (Can.HEAD_WAIT_MAX p)) (min ((s.since (s.can p).headAt - air) * 2 / 625) 0xFFFFFFFF))) ∧
    (∀ air, ∃ t, exec (.canFrameTxDone p false air) s = .next t ∧ (t.can p).fifo = { e with begun := true } :: rest ∧ t.dict = s.dict)) ∧
  (∀ (s : State) (p tec rec_ : Nat), s.canOn p = true → s.getN (Can.STATE p) = 1 ∨ s.getN (Can.STATE p) = 2 →
    (128 ≤ tec ∨ 128 ≤ rec_ → ∃ t, exec (.canErrorPassive p tec rec_) s = .next t ∧ t.getN (Can.STATE p) = 2 ∧
      t.getN (Can.TEC p) = min tec 255 ∧ t.getN (Can.REC p) = min rec_ 255 ∧
      (s.getN (Can.STATE p) = 1 → t.flag (Can.FLAGS p) 0 = true ∧ t.getN (keyOf 0x1003 1) = 0x8120)) ∧
    (tec < 128 → rec_ < 128 → ∃ t, exec (.canErrorPassive p tec rec_) s = .next t ∧ t.getN (Can.STATE p) = 1 ∧
      t.getN (Can.TEC p) = tec ∧ t.getN (Can.REC p) = rec_)) ∧
  (∀ (s : State) (p : Nat), s.cans.length = 2 → s.canOn p = true → s.getN (Can.STATE p) = 1 ∨ s.getN (Can.STATE p) = 2 →
    ∃ t, exec (.canBusOff p) s = .next t ∧ t.getN (Can.STATE p) = 3 ∧ t.flag (Can.FLAGS p) 1 = true ∧ (t.can p).offAt = s.root ∧
      t.getN (Can.BUS_OFFS p) = min 0xFFFFFFFF (s.getN (Can.BUS_OFFS p) + 1) ∧ (t.can p).fifo = (s.can p).fifo) ∧
  (∀ (s : State) (p : Nat), p < 2 → s.cans.length = 2 → s.getN (Can.STATE p) = 3 →
      s.passed (s.can p).offAt (msTicks (s.getN (Can.BUSOFF_DELAY p))) = true →
    ∃ t, exec (.busoffDelay p) s = .next t ∧ (t.can p).recovering = true ∧ t.dict = s.dict) ∧
  (∀ (s : State) (p : Nat), p < 2 → s.cans.length = 2 → s.getN (Can.STATE p) = 3 → (s.can p).recovering = true →
    ∃ t, exec (.canBusOffRecovered p) s = .next t ∧ t.getN (Can.STATE p) = 1 ∧ t.getN (Can.TEC p) = 0 ∧ t.getN (Can.REC p) = 0 ∧
      t.getN (keyOf 0x1003 1) = 0x8140) ∧
  (∀ (s : State) (q : Path) (p : Nat) (begun late : Bool), p < 2 → s.cans.length = 2 → s.takesWrite q (0x2700 + p) 9 [1] (.n 1) →
    ((s.can p).fifo = [] →
      ∃ t, exec (.canFlush q p begun late) s = .next t ∧ t.last = some (.ok []) ∧ t.cans = s.cans ∧ t.dict = s.dict) ∧
    (∀ e rest, (s.can p).fifo = e :: rest →
      let l := (if begun || late then { e with begun := true } else e) :: rest
      ∃ t, exec (.canFlush q p begun late) s = .next t ∧ t.last = some (.ok []) ∧
        (t.can p).fifo = l.filter (fun x => x.begun) ++ (s.can p).waitq.take (32 - (l.filter (fun x => x.begun)).length) ∧
        t.getN (Can.FIFO_LEVEL p) = (t.can p).fifo.length ∧ (late = true → e.begun = false → t.flag (Can.FLAGS p) 7 = true) ∧
        t.getN (Can.CANCELLED p) = min 0xFFFFFFFF (s.getN (Can.CANCELLED p) + (l.filter (fun x => !x.begun)).length))) ∧
  (∀ (s : State) (st at_ : Nat), s.cans.length = 2 → s.md.transit = .toVault st at_ ∨ s.md.transit = .toWatch st at_ →
      s.passed at_ (msTicks 100) = true →
    ∃ t, exec .fifoDrainDeadline s = .next t ∧ ∀ p < 2, (t.can p).fifo = [] ∧ (t.can p).waitq = [] ∧
      t.getN (Can.FIFO_LEVEL p) = 0 ∧
      t.getN (Can.CANCELLED p) = min 0xFFFFFFFF (s.getN (Can.CANCELLED p) + (s.can p).fifo.length))

/-- Chapter 15: R405 to R411. -/
def Obligations.TwoWirePortsComplete : Prop :=
  (∀ (s : State) (i : Nat), 1 ≤ i → i ≤ 16 → s.twa.due = List.replicate 16 0 → s.twa.lastDue.length = 16 → s.twaOn = true →
      s.twa.running = none → slotRuns (s.slotWord i) = true → bits (s.slotWord i) 47 32 ≠ 0 →
      s.passed (s.twa.lastDue.getD (i - 1) 0) (msTicks (bits (s.slotWord i) 47 32)) = true →
    ∃ t, exec (.twaSlotDue i) s = .next t ∧ t.twa.running = some (i, s.slotWord i) ∧ t.twa.lastDue.getD (i - 1) 0 = s.root ∧
      t.twa.tx = s.slotBytes i (s.slotWord i) ∧ t.twa.due = List.replicate 16 0 ∧ s.sameBut t [Obj.TWA_CFG.FLAGS]) ∧
  (∀ (s : State) (i : Nat) (r : Nat × Nat), 1 ≤ i → i ≤ 16 → s.twa.due.length = 16 → s.twa.lastDue.length = 16 → s.twaOn = true →
      s.twa.running = some r → slotRuns (s.slotWord i) = true → bits (s.slotWord i) 47 32 ≠ 0 →
      s.passed (s.twa.lastDue.getD (i - 1) 0) (msTicks (bits (s.slotWord i) 47 32)) = true →
    ∃ t, exec (.twaSlotDue i) s = .next t ∧ t.twa.running = some r ∧ 1 ≤ t.twa.due.getD (i - 1) 0 ∧ t.dict = s.dict) ∧
  (∀ (s : State) (p : Path) (mask : Nat) (r : Nat × Nat), s.takesWrite p 0x2600 6 (leBytes 2 mask) (.n mask) → s.twaOn = true →
      s.twa.due.length = 16 → s.twa.running = some r →
    ∃ t, exec (.twaTrigger p mask) s = .next t ∧ t.last = some (.ok []) ∧ t.twa.running = some r ∧ t.dict = s.dict ∧
      ∀ i, 1 ≤ i → i ≤ 16 → t.twa.due.getD (i - 1) 0 = s.twa.due.getD (i - 1) 0 +
        b2n (bit mask (i - 1) && slotRuns (s.slotWord i) && bits (s.slotWord i) 47 32 == 0)) ∧
  (∀ (s : State) (p : Path) (i : Nat), 1 ≤ i → i ≤ 16 → s.takesWrite p 0x2600 6 (leBytes 2 (2 ^ (i - 1))) (.n (2 ^ (i - 1))) →
      s.twaOn = true → s.twa.due = List.replicate 16 0 → s.twa.running = none → slotRuns (s.slotWord i) = true →
      bits (s.slotWord i) 47 32 = 0 →
    ∃ t, exec (.twaTrigger p (2 ^ (i - 1))) s = .next t ∧ t.last = some (.ok []) ∧ t.twa.running = some (i, s.slotWord i) ∧
      t.twa.tx = s.slotBytes i (s.slotWord i) ∧ t.dict = s.dict) ∧
  (∀ (s : State) (i w : Nat), 1 ≤ i → i ≤ 16 → s.twa.okAt.length = 16 → s.twa.running = some (i, w) →
    (∀ d, ∃ t, exec (.twaSlotDone i (.ok d)) s = .next t ∧
      t.getN (Obj.TWA_CFG.DATA i) =
        (if bits w 11 10 = 1 then leNat (d.take (bits w 15 12 + 1)) else s.getN (Obj.TWA_CFG.DATA i)) ∧ t.flag Obj.TWA_CFG.SLOT_OK (i - 1) = true ∧
      t.getN Obj.TWA_CFG.TRANSFERS = min 0xFFFFFFFF (s.getN Obj.TWA_CFG.TRANSFERS + 1) ∧ t.twaAge i = 0) ∧
    (∃ t, exec (.twaSlotDone i .nack) s = .next t ∧ t.flag Obj.TWA_CFG.FLAGS 3 = true ∧
      t.flag Obj.TWA_CFG.SLOT_OK (i - 1) = false ∧
      t.getN Obj.TWA_CFG.FAILURES = min 0xFFFFFFFF (s.getN Obj.TWA_CFG.FAILURES + 1) ∧
      s.sameBut t [Obj.TWA_CFG.FLAGS, Obj.TWA_CFG.SLOT_OK, Obj.TWA_CFG.FAILURES]) ∧
    (∃ t, exec (.twaSlotDone i .timeout) s = .next t ∧ t.flag Obj.TWA_CFG.SLOT_OK (i - 1) = false ∧
      t.getN Obj.TWA_CFG.FAILURES = min 0xFFFFFFFF (s.getN Obj.TWA_CFG.FAILURES + 1) ∧
      s.sameBut t [Obj.TWA_CFG.FLAGS, Obj.TWA_CFG.SLOT_OK, Obj.TWA_CFG.FAILURES]) ∧
    (∃ t, exec (.twaSlotDone i .arbLost) s = .next t ∧ t.flag Obj.TWA_CFG.FLAGS 2 = true ∧ (i, s.root) ∈ t.twa.retry ∧
      s.sameBut t [Obj.TWA_CFG.FLAGS])) ∧
  (∀ (s : State) (i at_ : Nat), 1 ≤ i → i ≤ 16 → s.twa.due = List.replicate 16 0 → s.twa.running = none → s.twaOn = true →
      s.twa.retry = [(i, at_)] → s.passed at_ (msTicks 1) = true → slotRuns (s.slotWord i) = true →
    ∃ t, exec (.twaArbRetry i) s = .next t ∧ t.twa.running = some (i, s.slotWord i) ∧ t.twa.retry = []) ∧
  (∀ s : State, s.twaOn = true → s.getN Obj.TWA_CFG.CLK_LOW_TIMEOUT ≠ 0 →
    ∃ t, exec (.clkLowTimeout false) s = .next t ∧ t.flag Obj.TWA_CFG.FLAGS 0 = true ∧
      (∀ i w, s.twa.running = some (i, w) →
        t.getN Obj.TWA_CFG.FAILURES = min 0xFFFFFFFF (s.getN Obj.TWA_CFG.FAILURES + 1))) ∧
  (∀ s : State, s.twbOn = true → s.getN Obj.TWB_CFG.CLK_LOW_TIMEOUT ≠ 0 →
    ∃ t, exec (.clkLowTimeout true) s = .next t ∧ t.flag Obj.TWB_CFG.FLAGS 0 = true ∧ t.twb = s.twb ∧
      s.sameBut t [Obj.TWB_CFG.FLAGS]) ∧
  (∀ (s : State) (freed : Bool), s.twaOn = true → s.getN Obj.TWA_CFG.DATA_LOW_TIMEOUT ≠ 0 →
    ∃ t, exec (.dataLowTimeout false freed) s = .next t ∧ t.flag Obj.TWA_CFG.FLAGS 1 = true ∧
      (freed = false → t.twa.running = none) ∧ (∀ i w, s.twa.running = some (i, w) →
        t.getN Obj.TWA_CFG.FAILURES = min 0xFFFFFFFF (s.getN Obj.TWA_CFG.FAILURES + 1))) ∧
  (∀ (s : State) (freed : Bool), s.twbOn = true → s.getN Obj.TWB_CFG.DATA_LOW_TIMEOUT ≠ 0 →
    ∃ t, exec (.dataLowTimeout true freed) s = .next t ∧ t.flag Obj.TWB_CFG.FLAGS 1 = true ∧ t.twb = s.twb ∧
      s.sameBut t [Obj.TWB_CFG.FLAGS]) ∧
  (∀ (s : State) (ptr : Nat) (b : Byte), s.twbOn = true → s.twbWindow = 0 → 0x1000 ≤ ptr → ptr < 0x5000 →
    ∃ t, exec (.twbWriteTransaction (leBytes 2 ptr ++ [b])) s = .next t ∧ t.twb.ptr = ptr ∧ SMap.get noByte t.twb.mem ptr = b ∧
      (∀ a, a ≠ ptr → SMap.get noByte t.twb.mem a = SMap.get noByte s.twb.mem a) ∧ t.dict = s.dict) ∧
  (∀ (s : State) (b : Byte), s.twbOn = true → s.twbWindow = 0 → b ≠ 0 → s.twb.req ≠ none →
    ∃ t, exec (.twbWriteTransaction [0, 0, b]) s = .next t ∧ t.flag Obj.TWB_CFG.FLAGS 2 = true ∧ t.twb.req = s.twb.req ∧
      t.twb.made = s.twb.made) ∧
  (∀ (s : State) (b : Byte), s.twbOn = true → s.twbWindow = 0 → b ≠ 0 → s.twb.req = none → s.mustWait = false →
      (b.toNat = s.twb.rsp.id → s.twb.rsp.state = 0) → SMap.get noByte s.twb.mem 1 = 3 →
    ∃ t r, exec (.twbWriteTransaction [0, 0, b]) s = .next t ∧ t.twb.made = some r ∧ r.id = b.toNat ∧ r.state = 3 ∧
      r.abort = abortRange) ∧
  (∀ (s : State) (b : Byte) (q : MailReq) (v : List Byte),
    let s1 := s.updTwb (fun t => { t with ptr := 0, mem := SMap.set noByte t.mem 0 b })
    let s2 := { s1.updTwb (fun t => { t with req := some q, made := none }) with serveNow := true, origin := .mailbox }
    s.twbOn = true → s.twbWindow = 0 → b ≠ 0 → s.twb.req = none → s.mustWait = false →
      (b.toNat = s.twb.rsp.id → s.twb.rsp.state = 0) → s1.mailCopy = q → q.op = 1 → q.reserved = false → 0 < q.length →
      q.length ≤ 16384 → q.offset = 0 → (s2.readObj .twb q.index q.sub).last = some (.ok v) →
    ∃ t, exec (.twbWriteTransaction [0, 0, b]) s = .next t ∧
      t.twb.made = some { id := q.id, state := 2, total := v.length, data := slice v 0 q.length }) ∧
  (∀ (s : State) (b : Byte), s.twbOn = true → s.mode ≠ .recovery →
    ∃ t, exec (.twbWriteTransaction [0xC0, 0xFF, b]) s = .next t ∧
      (b.toNat ≤ 1 → t.getN Obj.TWB_CFG.WINDOW = b.toNat ∧ s.sameBut t [Obj.TWB_CFG.WINDOW]) ∧
      (1 < b.toNat → t.flag Obj.TWB_CFG.FLAGS 4 = true ∧ s.sameBut t [Obj.TWB_CFG.FLAGS])) ∧
  (∀ (s : State) (ptr : Option Nat) (len : Nat), s.twbOn = true → s.md.stepAfter ≠ some (4, 1) →
    ∃ t, exec (.twbReadTransaction ptr len) s = .next t ∧
      t.twb.out = (List.range len).map (fun k => s.twbByte s.statusBytes ((ptr.getD s.twb.ptr % 65536 + k) % 65536)) ∧
      t.twb.ptr = (ptr.getD s.twb.ptr % 65536 + len) % 65536 ∧ t.dict = s.dict) ∧
  (∀ (s : State) (r : MailRsp), s.twb.made = some r →
    ∃ t, exec .mailboxDone s = .next t ∧ t.twb.rsp = r ∧ t.twb.req = none ∧ t.twb.made = none ∧
      t.getN Obj.TWB_CFG.REQUESTS = min 0xFFFFFFFF (s.getN Obj.TWB_CFG.REQUESTS + 1) ∧
      t.flag Obj.TWB_CFG.ALERT_PENDING 0 = true) ∧
  (∀ s : State, ∃ t, exec .mailboxFrozenExpiry s = .next t ∧ t.dict = s.dict ∧
    ∀ f, f ∈ t.twb.frozen ↔ f ∈ s.twb.frozen ∧ s.passed f.at_ (secTicks 10) = false) ∧
  (∀ s : State, s.served = true → s.twbOn = true → s.twb.want = true → s.twb.retryAt = none →
    (∃ t, exec (.twbAlert .acked) s = .next t ∧ t.twb.want = false ∧ t.twb.alertTx = some s.alertBytes ∧
      t.getN Obj.TWB_CFG.ALERTS_SENT = min 0xFFFFFFFF (s.getN Obj.TWB_CFG.ALERTS_SENT + 1)) ∧
    (∃ t, exec (.twbAlert .arbLost) s = .next t ∧ t.flag Obj.TWB_CFG.FLAGS 5 = true ∧
      (s.twb.tries + 1 < s.getN Obj.TWB_CFG.ALERT_RETRIES → t.twb.want = true ∧ t.twb.retryAt = some (1, s.root))) ∧
    (∃ t, exec (.twbAlert .nack) s = .next t ∧
      (s.twb.tries + 1 < s.getN Obj.TWB_CFG.ALERT_RETRIES → t.twb.want = true ∧ t.twb.retryAt = some (10, s.root) ∧
        t.twb.tries = s.twb.tries + 1) ∧
      (s.getN Obj.TWB_CFG.ALERT_RETRIES ≤ s.twb.tries + 1 → t.twb.want = false ∧ t.flag Obj.TWB_CFG.FLAGS 3 = true))) ∧
  (∀ (s : State) (ms at_ : Nat), s.served = true → s.twbOn = true → s.twb.want = true → s.twb.retryAt = some (ms, at_) →
      s.passed at_ (msTicks ms) = true →
    ∃ t, exec (.alertRetry .acked) s = .next t ∧ t.twb.want = false ∧ t.twb.retryAt = none ∧ t.twb.alertTx = some s.alertBytes ∧
      t.getN Obj.TWB_CFG.ALERTS_SENT = min 0xFFFFFFFF (s.getN Obj.TWB_CFG.ALERTS_SENT + 1))

/-- Chapter 16: R417 and R420 to R433. How pages and blocks are numbered is the model's choice (log entries 105 and 120). -/
def Obligations.RecorderCommandsComplete : Prop :=
  (∀ (s : State) (code cls inst sev : Nat) (d : List Byte), s.mode ≠ .vault → s.mode ≠ .recovery → s.recd.closed = false →
      s.vest.dropped = 0 ∨ s.recFree ≤ 128 → s.ramOnly = false →
    (64 < s.recFree ∨ (code ≠ 3 ∧ sev = 2 ∧ 1 < s.recFree) ∨ (code = 3 ∧ 0 < s.recFree) →
      ∃ t r, exec (.recordEntry code cls inst sev d) s = .next t ∧ t.recd.buffer = s.recd.buffer ++ [r] ∧ r.seq = s.vest.nextSeq ∧
        r.code = code ∧ r.cls = cls ∧ r.inst = inst ∧ r.sev = sev ∧ r.data = d ∧ r.plant = s.now ∧
        t.vest.nextSeq = s.vest.nextSeq + 1 ∧ t.getN Obj.RECORDER_WINDOW.LAST = s.vest.nextSeq ∧
        (sev = 2 → t.recd.flushTo = some s.vest.nextSeq)) ∧
    (s.recFree ≤ 64 → (code = 3 → s.recFree = 0) → (sev = 2 → s.recFree ≤ 1) →
      ∃ t, exec (.recordEntry code cls inst sev d) s = .next t ∧ t.recd = s.recd ∧ t.vest.nextSeq = s.vest.nextSeq ∧
        t.vest.dropped = s.vest.dropped + 1 ∧
        t.getN Obj.RECORDER_CTRL.DROPPED = min 0xFFFFFFFF (s.getN Obj.RECORDER_CTRL.DROPPED + 1) ∧
        t.flag Obj.RECORDER_CTRL.FLAGS 0 = true)) ∧
  (∀ s : State, s.recAwake = true → s.recRoom = true → s.drainTurn = true → 0 < s.pageSize →
      s.recd.inProg.length < (if s.recd.flushTo.isSome then 4 else 1) →
    (s.freshBlock = none →
      ∃ t, exec .drain s = .next t ∧ t.recd.inProg = s.recd.inProg ++ [s.pageSize] ∧ t.recd.buffer = s.recd.buffer ∧
        t.dict = s.dict) ∧
    (∀ i b, s.freshBlock = some i → s.recd.erased[i]? = some b → s.recd.erasing = none →
      ∃ t, exec .drain s = .next t ∧ t.recd.buffer = s.recd.buffer ∧
        (t.recd.inProg = s.recd.inProg ++ [s.pageSize] ∧ t.recd.erased = s.recd.erased ∧ t.recd.erasing = none ∧ t.dict = s.dict ∨
         t.recd.inProg = s.recd.inProg ∧ t.recd.erased = s.recd.erased.eraseIdx i ∧ t.recd.erasing = some b ∧
          t.flag Obj.RECORDER_CTRL.FLAGS 4 = true))) ∧
  (∀ (s : State) (k : Nat) (rest : List Nat), s.recd.inProg = k :: rest →
    (∃ t l, exec (.pageProgramDone true) s = .next t ∧ t.recd.buffer = s.recd.buffer.drop k ++ l ∧ (s.vest.dropped = 0 → l = []) ∧
      t.recd.inProg = rest ∧
      (∀ r, (s.recd.buffer.take k).getLast? = some r →
        t.getN Obj.RECORDER_WINDOW.DURABLE = max (s.getN Obj.RECORDER_WINDOW.DURABLE) r.seq) ∧
      (s.recd.permClosed = false → t.recd.perm = s.recd.perm ++ s.recd.buffer.take k) ∧
      (s.recd.permClosed = true → (∃ b, s.recd.circ.getLast? = some b ∧ b.pages < 128) ∨ s.recd.erased ≠ [] →
        t.recd.circ.flatMap (fun x => x.recs) = s.recd.circ.flatMap (fun x => x.recs) ++ s.recd.buffer.take k)) ∧
    (∃ t, exec (.pageProgramDone false) s = .next t ∧ t.recd.inProg = rest ∧ t.recd.redo = true ∧
      t.recd.buffer = (s.recd.buffer.drop k).take rest.sum ++ s.recd.buffer.take k ++ (s.recd.buffer.drop k).drop rest.sum ∧
      t.flag Obj.RECORDER_CTRL.FLAGS 7 = true)) ∧
  (∀ (s : State) (p : Path), s.takesWrite p 0x2200 1 [1] (.n 1) →
    ∃ t, exec (.recorderFlush p) s = .next t ∧ t.last = some (.ok []) ∧
      t.recd.flushTo = some (s.getN Obj.RECORDER_WINDOW.LAST) ∧
      (s.recd.flushTo = none →
        t.getN Obj.RECORDER_CTRL.FLUSHES = min 0xFFFFFFFF (s.getN Obj.RECORDER_CTRL.FLUSHES + 1))) ∧
  (∀ (s : State) (b b' : RecBlock) (rest : List RecBlock), s.recd.circ = b :: b' :: rest → s.recAwake = true →
      s.recd.erased.length < 2 → s.recd.erasing = none → s.held b = false → s.getN Obj.RECORDER_CTRL.STATE ≠ 3 →
    (s.worn b.id b.retire = false →
      ∃ t, exec .blockErase s = .next t ∧ t.recd.circ = b' :: rest ∧ t.recd.erasing = some b.id ∧
        (s.recd.journal.length < Config.journalRoom → t.recd.journal = s.recd.journal ++
          [.start 0 b.id (s.erases b.id + 1) ((b.recs.getLast?.map (fun r => r.seq)).getD 0)])) ∧
    (∀ e es, s.worn b.id b.retire = true → s.recd.spare = e :: es →
      ∃ t, exec .blockErase s = .next t ∧ t.recd.circ = b' :: rest ∧ t.recd.erasing = none ∧ t.recd.spare = es ∧
        t.recd.erased = s.recd.erased ++ [e] ∧ t.recd.bad = s.recd.bad ++ [b.id] ∧
        t.getN Obj.RECORDER_CTRL.RETIRED = min 65535 (s.getN Obj.RECORDER_CTRL.RETIRED + 1)) ∧
    (s.worn b.id b.retire = true → s.recd.spare = [] →
      ∃ t, exec .blockErase s = .next t ∧ t.recd.bad = s.recd.bad ++ [b.id] ∧
        t.getN Obj.RECORDER_CTRL.CIRC_BLOCKS = s.getN Obj.RECORDER_CTRL.CIRC_BLOCKS - 1 ∧
        t.getN Obj.RECORDER_CTRL.STATE =
          (if s.getN Obj.RECORDER_CTRL.CIRC_BLOCKS - 1 < s.getN Obj.RECORDER_CTRL.CIRC_MIN_BLOCKS then 3 else 2))) ∧
  (∀ (s : State) (b : Nat), s.recd.erasing = some b →
    (∃ t, exec (.eraseDone true) s = .next t ∧ t.recd.erasing = none ∧ t.recd.erased = s.recd.erased ++ [b] ∧
      t.erases b = s.erases b + 1 ∧ (s.recd.journal.length < Config.journalRoom → t.recd.journal = s.recd.journal ++ [.done 0 b]) ∧
      t.getN Obj.RECORDER_CTRL.ERASES = min 0xFFFFFFFF (s.getN Obj.RECORDER_CTRL.ERASES + 1)) ∧
    (∃ t, exec (.eraseDone false) s = .next t ∧ t.recd.erasing = none ∧ t.flag Obj.RECORDER_CTRL.FLAGS 8 = true ∧
      t.recd.bad = s.recd.bad ++ [b] ∧
      t.getN Obj.RECORDER_CTRL.RETIRED = min 65535 (s.getN Obj.RECORDER_CTRL.RETIRED + 1))) ∧
  (∀ (s : State) (b : Nat), s.recd.erasing = none → s.recd.eraseArch = some b →
    (∃ t, exec (.eraseDone true) s = .next t ∧ t.recd.eraseArch = none ∧ t.nand.archFree = s.nand.archFree ++ [b] ∧
      t.erases b = s.erases b + 1 ∧ (s.recd.journal.length < Config.journalRoom → t.recd.journal = s.recd.journal ++ [.done 1 b])) ∧
    (∃ t, exec (.eraseDone false) s = .next t ∧ t.recd.eraseArch = none ∧ t.flag Obj.RECORDER_CTRL.FLAGS 8 = true ∧
      t.recd.bad = s.recd.bad ++ [b] ∧ ∀ e es, s.recd.spare = e :: es →
        t.recd.spare = es ∧ t.nand.archFree = s.nand.archFree ++ [e])) ∧
  (∀ s : State, s.recd.ready = false → s.mode = .ready ∨ s.mode = .run ∨ s.mode = .lockout →
    ∃ t, exec .recorderRebuild s = .next t ∧ t.recd.ready = true ∧ t.recd.perm = s.recd.perm ∧ t.recd.circ = s.recd.circ ∧
      t.getN Obj.RECORDER_WINDOW.DURABLE = highSeq (s.recd.perm ++ s.recd.circ.flatMap (fun x => x.recs)) ∧
      t.getN Obj.RECORDER_WINDOW.PERM_LAST = highSeq s.recd.perm ∧
      ((halfErased s.recd.journal).filter (fun p => !s.recd.bad.contains p.2) ≠ [] →
        t.flag Obj.RECORDER_CTRL.FLAGS 4 = true)) ∧
  (∀ (s : State) (p : Path) (c : Nat), s.takesWrite p 0x2201 7 (leBytes 4 c) (.n c) →
    (c = 0 → ∃ t, exec (.snapCount p c) s = .next t ∧ t.last = some (.ok []) ∧ t.getN (winKey p 9) = 0 ∧
      ∀ x ∈ t.recd.snaps, x.path ≠ p.code) ∧
    (0 < c → ∃ t, exec (.snapCount p c) s = .next t ∧ t.last = some (.ok []) ∧
      t.getN (winKey p 0x0B) = max (s.getN (winKey p 6)) (s.getN Obj.RECORDER_WINDOW.FIRST) ∧
      t.getN (winKey p 0x0A) = min (s.getN (winKey p 6) + c - 1) (s.getN Obj.RECORDER_WINDOW.LAST) ∧
      t.getN (winKey p 9) = (if t.getN (winKey p 0x0A) < t.getN (winKey p 0x0B) then 3 else 1) ∧
      ∃ x ∈ t.recd.snaps, x.path = p.code ∧ x.lo = t.getN (winKey p 0x0B) ∧ x.hi = t.getN (winKey p 0x0A))) ∧
  (∀ (s : State) (p : Path), s.takesRead p 0x2202 1 →
    (s.recd.ready = true → ∃ t, exec (.recorderRead p) s = .next t ∧ t.last = some (.ok (s.recReply p)) ∧
      (∀ r, (s.readRecs p).getLast? = some r → t.getN (winKey p 0x0B) = r.seq + 1)) ∧
    (s.recd.ready = false → exec (.recorderRead p) s = .next (s.reply (.abort abortState)))) ∧
  (∀ (s : State) (p : Path) (x : Snap), s.recd.snaps.find? (fun y => y.path == p.code) = some x →
      s.passed x.readAt (secTicks 600) = true ∨ (2048 ≤ s.recd.buffer.length ∧ s.recd.erased.length < 2 ∧
        ∃ b rest, s.recd.circ = b :: rest ∧ ∃ r ∈ b.recs, x.lo ≤ r.seq ∧ r.seq ≤ x.hi) →
    ∃ t, exec (.snapshotExpiry p) s = .next t ∧ (∀ y ∈ t.recd.snaps, y.path ≠ p.code) ∧ t.getN (winKey p 9) = 2 ∧
      t.flag Obj.RECORDER_CTRL.FLAGS 6 = true) ∧
  (∀ (s : State) (at_ : Nat), s.recd.closeAt = some at_ → at_ ≤ s.root →
    ∃ t, exec .bufferClose s = .next t ∧ t.recd.closed = true ∧ t.recd.buffer = s.recd.buffer ∧ t.dict = s.dict)
/-- Chapter 17: R436 to R448 and, in RECOVERY, R451. -/
def Obligations.UpdateCommandsComplete : Prop :=
  (∀ (s : State) (p : Path), s.takesWrite p 0x2300 1 [1] (.n 1) →
    (s.updState = 0 ∨ s.updState = 4 ∨ s.updState = 5 → 512 ≤ s.getN Obj.UPDATE_CTRL.LENGTH →
      s.getN Obj.UPDATE_CTRL.LENGTH ≤ 67108864 → s.nand.slots.length = 2 → s.downSlot < 2 →
      ∃ t, exec (.begin p) s = .next t ∧ t.last = some (.ok []) ∧ t.updState = 1 ∧ t.getN Obj.UPDATE_CTRL.RESULT = 1 ∧
        t.getN Obj.UPDATE_CTRL.REJECT = 0 ∧ t.upd.owner = some p ∧ t.upd.len = s.getN Obj.UPDATE_CTRL.LENGTH ∧
        (t.slot s.downSlot).state = 1 ∧ t.nand.active = s.nand.active) ∧
    (s.updState = 1 ∨ s.updState = 2 ∨ s.updState = 3 ∨ 6 ≤ s.updState ∨ s.getN Obj.UPDATE_CTRL.LENGTH < 512 ∨
      67108864 < s.getN Obj.UPDATE_CTRL.LENGTH →
      exec (.begin p) s = .next (s.reply (.abort abortState)))) ∧
  (∀ s : State, s.updState = 1 →
    (∃ t, exec (.slotEraseDone true) s = .next t ∧ t.updState = 2 ∧ t.getN Obj.UPDATE_CTRL.RECEIVED = 0 ∧ t.nand = s.nand) ∧
    (∃ t, exec (.slotEraseDone false) s = .next t ∧ t.updState = 0 ∧ t.getN Obj.UPDATE_CTRL.RESULT = 3 ∧ t.nand = s.nand)) ∧
  (∀ (s : State) (p : Path) (d : List Byte), s.takesWrite p 0x2301 1 d (.b d) →
    (s.updState = 2 → s.upd.owner = some p → s.getN Obj.UPDATE_CTRL.RECEIVED + d.length ≤ s.upd.len →
      s.nand.slots.length = 2 → s.upd.slot < 2 →
      ∃ t, exec (.updateData p d) s = .next t ∧ t.last = some (.ok []) ∧
        t.getN Obj.UPDATE_CTRL.RECEIVED = s.getN Obj.UPDATE_CTRL.RECEIVED + d.length ∧
        (t.slot s.upd.slot).image = some ((s.slot s.upd.slot).image.getD [] ++ d) ∧ s.sameBut t [Obj.UPDATE_CTRL.RECEIVED]) ∧
    (s.updState = 2 → s.upd.owner = some p → s.upd.len < s.getN Obj.UPDATE_CTRL.RECEIVED + d.length →
      exec (.updateData p d) s = .next (s.reply (.abort abortLong))) ∧
    (s.updState ≠ 2 ∨ s.upd.owner ≠ some p → exec (.updateData p d) s = .next (s.reply (.abort abortState)))) ∧
  (∀ (s : State) (p : Path), s.takesWrite p 0x2300 1 [2] (.n 2) →
    (s.updState = 2 → s.getN Obj.UPDATE_CTRL.RECEIVED = s.upd.len →
      ∃ t, exec (.verify p) s = .next t ∧ t.last = some (.ok []) ∧ t.updState = 3 ∧ t.nand = s.nand) ∧
    (s.updState = 2 → s.getN Obj.UPDATE_CTRL.RECEIVED ≠ s.upd.len →
      ∃ t, exec (.verify p) s = .next t ∧ t.last = some (.ok []) ∧ t.updState = 5 ∧ t.flag Obj.UPDATE_CTRL.REJECT 9 = true) ∧
    (s.updState ≠ 2 → exec (.verify p) s = .next (s.reply (.abort abortState)))) ∧
  (∀ s : State, s.updState = 3 → s.nand.slots.length = 2 → s.upd.slot < 2 →
    (s.imageCheck (s.slot s.upd.slot).header s.upd.len = none →
      ∃ t, exec .checksComplete s = .next t ∧ t.updState = 4 ∧ (t.slot s.upd.slot).state = 2) ∧
    (∀ b, s.imageCheck (s.slot s.upd.slot).header s.upd.len = some b →
      ∃ t, exec .checksComplete s = .next t ∧ t.updState = 5 ∧ (t.slot s.upd.slot).state = 1 ∧
        t.flag Obj.UPDATE_CTRL.REJECT b = true)) ∧
  (∀ (s : State) (p : Path), s.takesWrite p 0x2300 1 [3] (.n 3) →
    (s.updState = 4 → s.mode ≠ .recovery → s.activateBlocked = false → s.slotCheck s.upd.slot = none → s.warmFits s.upd.slot = true →
      ∃ t, exec (.activate p) s = .next t ∧ t.last = some (.ok []) ∧ t.updState = 6 ∧ t.upd.prepAt = some s.root ∧
        t.nand = s.nand) ∧
    (∀ b, s.updState = 4 → s.slotCheck s.upd.slot = some b → s.nand.slots.length = 2 → s.upd.slot < 2 →
      s.mode = .recovery ∨ (s.activateBlocked = false ∧ (s.warmFits s.upd.slot = true ∨ s.mode ≠ .run)) →
      ∃ t, exec (.activate p) s = .next t ∧ t.last = some (.ok []) ∧ t.updState = 5 ∧ (t.slot s.upd.slot).state = 1 ∧
        t.flag Obj.UPDATE_CTRL.REJECT b = true) ∧
    (s.updState = 4 → s.mode = .recovery → s.powerDown = false → s.slotCheck s.upd.slot = none → s.nand.slots.length = 2 →
      s.upd.slot < 2 →
      ∃ t, exec (.activate p) s = .next t ∧ t.mode = .boot ∧ t.md.bootCauseNow = 0x11 ∧
        ((t.slot s.upd.slot).state = 3 ∨ ((t.slot s.upd.slot).state = 5 ∧ t.nand.active = s.upd.slot))) ∧
    (s.updState = 4 → s.mode = .ready ∨ s.mode = .lockout → s.powerDown = false → s.activateBlocked = false → s.slotCheck s.upd.slot = none →
      s.warmFits s.upd.slot = false → s.nand.slots.length = 2 → s.upd.slot < 2 →
      ∃ t, exec (.activate p) s = .next t ∧ t.last = some (.ok []) ∧ (t.slot s.upd.slot).state = 3 ∧
        t.md.transit = .resetWait 5 false s.root) ∧
    (s.updState ≠ 4 ∨ (s.mode ≠ .recovery ∧ s.activateBlocked = true) ∨
      (s.mode = .run ∧ s.warmFits s.upd.slot = false) →
      exec (.activate p) s = .next (s.reply (.abort abortState)))) ∧
  (∀ s : State, s.updState = 6 → s.upd.prepAt ≠ none → s.nand.slots.length = 2 → s.upd.slot < 2 →
    (∃ t, exec (.prepareDone true) s = .next t ∧ t.paused = true ∧ t.nand.active = s.upd.slot ∧ (t.slot s.upd.slot).state = 4 ∧
      t.upd.pauseAt = some s.root) ∧
    (∃ t, exec (.prepareDone false) s = .next t ∧ t.paused = s.paused ∧ t.updState = 5 ∧ (t.slot s.upd.slot).state = 1 ∧
      t.flag Obj.UPDATE_CTRL.REJECT 10 = true ∧ t.nand.active = s.nand.active)) ∧
  (∀ (s : State) (at_ : Nat), s.upd.pauseAt = some at_ → s.usSince at_ ≤ 25000 →
    ∃ t, exec .pauseEnd s = .next t ∧ t.paused = false ∧ t.updState = 7 ∧ t.upd.trialAt = s.root ∧ t.upd.pauseAt = none ∧
      t.getN Obj.UPDATE_CTRL.LAST_PAUSE = s.usSince at_ ∧ t.nand = s.nand) ∧
  (∀ (s : State) (at_ : Nat), s.upd.pauseAt = some at_ → s.passed at_ 7812500 = true → s.nand.slots.length = 2 → s.nand.active < 2 →
    ∃ t, exec .pauseTimeout s = .next t ∧ t.paused = false ∧ t.updState = 5 ∧ t.nand.active = otherSlot s.nand.active ∧
      (t.slot s.nand.active).state = 1) ∧
  (∀ (s : State) (p : Path), s.takesWrite p 0x2300 1 [4] (.n 4) →
    (s.updState = 7 → s.mode ≠ .recovery → s.nand.slots.length = 2 → s.nand.active < 2 →
      ∃ t, exec (.commit p) s = .next t ∧ t.last = some (.ok []) ∧ t.updState = 0 ∧ (t.slot s.nand.active).state = 5 ∧
        t.nand.fuses = max s.nand.fuses (min 64 (securityOf (s.slot s.nand.active).header))) ∧
    (s.updState ≠ 7 ∨ s.mode = .recovery → exec (.commit p) s = .next (s.reply (.abort abortState)))) ∧
  (∀ (s : State) (p : Path), s.takesWrite p 0x2300 1 [5] (.n 5) →
    (1 ≤ s.updState → s.updState ≤ 5 → s.nand.slots.length = 2 → s.upd.slot < 2 →
      ∃ t, exec (.abort p) s = .next t ∧ t.last = some (.ok []) ∧ t.updState = 0 ∧ (t.slot s.upd.slot).state = 1 ∧
        t.nand.active = s.nand.active) ∧
    (s.updState = 0 ∨ 5 < s.updState → exec (.abort p) s = .next (s.reply (.abort abortState)))) ∧
  (∀ s : State, s.updState = 7 → s.powerDown = false → s.passed s.upd.trialAt (secTicks 120) = true →
      s.nand.slots.length = 2 → s.nand.active < 2 → s.warmFits (otherSlot s.nand.active) = true ∨ s.mode = .ready ∨ s.mode = .lockout →
    ∃ t, exec .trialTimeout s = .next t ∧ t.updState = 0 ∧ t.getN Obj.UPDATE_CTRL.RESULT = 3 ∧
      t.nand.active = otherSlot s.nand.active ∧ (t.slot s.nand.active).state = 1 ∧
      (s.warmFits (otherSlot s.nand.active) = false → t.md.transit = .resetWait 5 false s.root))
end

