-- ==== Sys2Proof/Laws/State.lean ====
section
/-! SUPPORT. One lemma for each field and each update of the state, true by rfl; and what a written object reads as. -/
namespace Sys2Proof.Machine

/-! ### put -/
@[simp] theorem State.put_part (s : State) (k : Nat) (v : Val) : (s.put k v).part = s.part := rfl
@[simp] theorem State.put_serial (s : State) (k : Nat) (v : Val) : (s.put k v).serial = s.serial := rfl
@[simp] theorem State.put_root (s : State) (k : Nat) (v : Val) : (s.put k v).root = s.root := rfl
@[simp] theorem State.put_now (s : State) (k : Nat) (v : Val) : (s.put k v).now = s.now := rfl
@[simp] theorem State.put_md (s : State) (k : Nat) (v : Val) : (s.put k v).md = s.md := rfl
@[simp] theorem State.put_vest (s : State) (k : Nat) (v : Val) : (s.put k v).vest = s.vest := rfl
@[simp] theorem State.put_nand (s : State) (k : Nat) (v : Val) : (s.put k v).nand = s.nand := rfl
@[simp] theorem State.put_dict (s : State) (k : Nat) (v : Val) : (s.put k v).dict = SMap.set dfltOf s.dict k v := rfl
@[simp] theorem State.put_safetySet (s : State) (k : Nat) (v : Val) : (s.put k v).safetySet = s.safetySet := rfl
@[simp] theorem State.put_sreqs (s : State) (k : Nat) (v : Val) : (s.put k v).sreqs = s.sreqs := rfl
@[simp] theorem State.put_paused (s : State) (k : Nat) (v : Val) : (s.put k v).paused = s.paused := rfl
@[simp] theorem State.put_serveNow (s : State) (k : Nat) (v : Val) : (s.put k v).serveNow = s.serveNow := rfl
@[simp] theorem State.put_last (s : State) (k : Nat) (v : Val) : (s.put k v).last = s.last := rfl
@[simp] theorem State.put_sramOut (s : State) (k : Nat) (v : Val) : (s.put k v).sramOut = s.sramOut := rfl
@[simp] theorem State.put_sched (s : State) (k : Nat) (v : Val) : (s.put k v).sched = s.sched := rfl
@[simp] theorem State.put_recd (s : State) (k : Nat) (v : Val) : (s.put k v).recd = s.recd := rfl
@[simp] theorem State.put_safe (s : State) (k : Nat) (v : Val) : (s.put k v).safe = s.safe := rfl
@[simp] theorem State.put_gal (s : State) (k : Nat) (v : Val) : (s.put k v).gal = s.gal := rfl
@[simp] theorem State.put_red (s : State) (k : Nat) (v : Val) : (s.put k v).red = s.red := rfl
@[simp] theorem State.put_arc (s : State) (k : Nat) (v : Val) : (s.put k v).arc = s.arc := rfl
@[simp] theorem State.put_time (s : State) (k : Nat) (v : Val) : (s.put k v).time = s.time := rfl
@[simp] theorem State.put_disp (s : State) (k : Nat) (v : Val) : (s.put k v).disp = s.disp := rfl
@[simp] theorem State.put_chans (s : State) (k : Nat) (v : Val) : (s.put k v).chans = s.chans := rfl
@[simp] theorem State.put_vloopAt (s : State) (k : Nat) (v : Val) : (s.put k v).vloopAt = s.vloopAt := rfl
@[simp] theorem State.put_cans (s : State) (k : Nat) (v : Val) : (s.put k v).cans = s.cans := rfl
@[simp] theorem State.put_beatAt (s : State) (k : Nat) (v : Val) : (s.put k v).beatAt = s.beatAt := rfl
@[simp] theorem State.put_twa (s : State) (k : Nat) (v : Val) : (s.put k v).twa = s.twa := rfl
@[simp] theorem State.put_twb (s : State) (k : Nat) (v : Val) : (s.put k v).twb = s.twb := rfl
@[simp] theorem State.put_upd (s : State) (k : Nat) (v : Val) : (s.put k v).upd = s.upd := rfl
@[simp] theorem State.put_origin (s : State) (k : Nat) (v : Val) : (s.put k v).origin = s.origin := rfl
@[simp] theorem State.put_dies (s : State) (k : Nat) (v : Val) : (s.put k v).dies = s.dies := rfl
@[simp] theorem State.put_free (s : State) (k : Nat) (v : Val) : (s.put k v).free = s.free := rfl
@[simp] theorem State.put_pending (s : State) (k : Nat) (v : Val) : (s.put k v).pending = s.pending := rfl

/-! ### updG -/
@[simp] theorem State.updG_part (s : State) (n : Nat) (f : Gallery → Gallery) : (s.updG n f).part = s.part := rfl
@[simp] theorem State.updG_serial (s : State) (n : Nat) (f : Gallery → Gallery) : (s.updG n f).serial = s.serial := rfl
@[simp] theorem State.updG_root (s : State) (n : Nat) (f : Gallery → Gallery) : (s.updG n f).root = s.root := rfl
@[simp] theorem State.updG_now (s : State) (n : Nat) (f : Gallery → Gallery) : (s.updG n f).now = s.now := rfl
@[simp] theorem State.updG_md (s : State) (n : Nat) (f : Gallery → Gallery) : (s.updG n f).md = s.md := rfl
@[simp] theorem State.updG_vest (s : State) (n : Nat) (f : Gallery → Gallery) : (s.updG n f).vest = s.vest := rfl
@[simp] theorem State.updG_nand (s : State) (n : Nat) (f : Gallery → Gallery) : (s.updG n f).nand = s.nand := rfl
@[simp] theorem State.updG_dict (s : State) (n : Nat) (f : Gallery → Gallery) : (s.updG n f).dict = s.dict := rfl
@[simp] theorem State.updG_safetySet (s : State) (n : Nat) (f : Gallery → Gallery) : (s.updG n f).safetySet = s.safetySet := rfl
@[simp] theorem State.updG_sreqs (s : State) (n : Nat) (f : Gallery → Gallery) : (s.updG n f).sreqs = s.sreqs := rfl
@[simp] theorem State.updG_paused (s : State) (n : Nat) (f : Gallery → Gallery) : (s.updG n f).paused = s.paused := rfl
@[simp] theorem State.updG_serveNow (s : State) (n : Nat) (f : Gallery → Gallery) : (s.updG n f).serveNow = s.serveNow := rfl
@[simp] theorem State.updG_last (s : State) (n : Nat) (f : Gallery → Gallery) : (s.updG n f).last = s.last := rfl
@[simp] theorem State.updG_sramOut (s : State) (n : Nat) (f : Gallery → Gallery) : (s.updG n f).sramOut = s.sramOut := rfl
@[simp] theorem State.updG_sched (s : State) (n : Nat) (f : Gallery → Gallery) : (s.updG n f).sched = s.sched := rfl
@[simp] theorem State.updG_recd (s : State) (n : Nat) (f : Gallery → Gallery) : (s.updG n f).recd = s.recd := rfl
@[simp] theorem State.updG_safe (s : State) (n : Nat) (f : Gallery → Gallery) : (s.updG n f).safe = s.safe := rfl
@[simp] theorem State.updG_gal (s : State) (n : Nat) (f : Gallery → Gallery) : (s.updG n f).gal = modAt s.gal n f := rfl
@[simp] theorem State.updG_red (s : State) (n : Nat) (f : Gallery → Gallery) : (s.updG n f).red = s.red := rfl
@[simp] theorem State.updG_arc (s : State) (n : Nat) (f : Gallery → Gallery) : (s.updG n f).arc = s.arc := rfl
@[simp] theorem State.updG_time (s : State) (n : Nat) (f : Gallery → Gallery) : (s.updG n f).time = s.time := rfl
@[simp] theorem State.updG_disp (s : State) (n : Nat) (f : Gallery → Gallery) : (s.updG n f).disp = s.disp := rfl
@[simp] theorem State.updG_chans (s : State) (n : Nat) (f : Gallery → Gallery) : (s.updG n f).chans = s.chans := rfl
@[simp] theorem State.updG_vloopAt (s : State) (n : Nat) (f : Gallery → Gallery) : (s.updG n f).vloopAt = s.vloopAt := rfl
@[simp] theorem State.updG_cans (s : State) (n : Nat) (f : Gallery → Gallery) : (s.updG n f).cans = s.cans := rfl
@[simp] theorem State.updG_beatAt (s : State) (n : Nat) (f : Gallery → Gallery) : (s.updG n f).beatAt = s.beatAt := rfl
@[simp] theorem State.updG_twa (s : State) (n : Nat) (f : Gallery → Gallery) : (s.updG n f).twa = s.twa := rfl
@[simp] theorem State.updG_twb (s : State) (n : Nat) (f : Gallery → Gallery) : (s.updG n f).twb = s.twb := rfl
@[simp] theorem State.updG_upd (s : State) (n : Nat) (f : Gallery → Gallery) : (s.updG n f).upd = s.upd := rfl
@[simp] theorem State.updG_origin (s : State) (n : Nat) (f : Gallery → Gallery) : (s.updG n f).origin = s.origin := rfl
@[simp] theorem State.updG_dies (s : State) (n : Nat) (f : Gallery → Gallery) : (s.updG n f).dies = s.dies := rfl
@[simp] theorem State.updG_free (s : State) (n : Nat) (f : Gallery → Gallery) : (s.updG n f).free = s.free := rfl
@[simp] theorem State.updG_pending (s : State) (n : Nat) (f : Gallery → Gallery) : (s.updG n f).pending = s.pending := rfl

/-! ### updMd -/
@[simp] theorem State.updMd_part (s : State) (f : ModeRt → ModeRt) : (s.updMd f).part = s.part := rfl
@[simp] theorem State.updMd_serial (s : State) (f : ModeRt → ModeRt) : (s.updMd f).serial = s.serial := rfl
@[simp] theorem State.updMd_root (s : State) (f : ModeRt → ModeRt) : (s.updMd f).root = s.root := rfl
@[simp] theorem State.updMd_now (s : State) (f : ModeRt → ModeRt) : (s.updMd f).now = s.now := rfl
@[simp] theorem State.updMd_md (s : State) (f : ModeRt → ModeRt) : (s.updMd f).md = f s.md := rfl
@[simp] theorem State.updMd_vest (s : State) (f : ModeRt → ModeRt) : (s.updMd f).vest = s.vest := rfl
@[simp] theorem State.updMd_nand (s : State) (f : ModeRt → ModeRt) : (s.updMd f).nand = s.nand := rfl
@[simp] theorem State.updMd_dict (s : State) (f : ModeRt → ModeRt) : (s.updMd f).dict = s.dict := rfl
@[simp] theorem State.updMd_safetySet (s : State) (f : ModeRt → ModeRt) : (s.updMd f).safetySet = s.safetySet := rfl
@[simp] theorem State.updMd_sreqs (s : State) (f : ModeRt → ModeRt) : (s.updMd f).sreqs = s.sreqs := rfl
@[simp] theorem State.updMd_paused (s : State) (f : ModeRt → ModeRt) : (s.updMd f).paused = s.paused := rfl
@[simp] theorem State.updMd_serveNow (s : State) (f : ModeRt → ModeRt) : (s.updMd f).serveNow = s.serveNow := rfl
@[simp] theorem State.updMd_last (s : State) (f : ModeRt → ModeRt) : (s.updMd f).last = s.last := rfl
@[simp] theorem State.updMd_sramOut (s : State) (f : ModeRt → ModeRt) : (s.updMd f).sramOut = s.sramOut := rfl
@[simp] theorem State.updMd_sched (s : State) (f : ModeRt → ModeRt) : (s.updMd f).sched = s.sched := rfl
@[simp] theorem State.updMd_recd (s : State) (f : ModeRt → ModeRt) : (s.updMd f).recd = s.recd := rfl
@[simp] theorem State.updMd_safe (s : State) (f : ModeRt → ModeRt) : (s.updMd f).safe = s.safe := rfl
@[simp] theorem State.updMd_gal (s : State) (f : ModeRt → ModeRt) : (s.updMd f).gal = s.gal := rfl
@[simp] theorem State.updMd_red (s : State) (f : ModeRt → ModeRt) : (s.updMd f).red = s.red := rfl
@[simp] theorem State.updMd_arc (s : State) (f : ModeRt → ModeRt) : (s.updMd f).arc = s.arc := rfl
@[simp] theorem State.updMd_time (s : State) (f : ModeRt → ModeRt) : (s.updMd f).time = s.time := rfl
@[simp] theorem State.updMd_disp (s : State) (f : ModeRt → ModeRt) : (s.updMd f).disp = s.disp := rfl
@[simp] theorem State.updMd_chans (s : State) (f : ModeRt → ModeRt) : (s.updMd f).chans = s.chans := rfl
@[simp] theorem State.updMd_vloopAt (s : State) (f : ModeRt → ModeRt) : (s.updMd f).vloopAt = s.vloopAt := rfl
@[simp] theorem State.updMd_cans (s : State) (f : ModeRt → ModeRt) : (s.updMd f).cans = s.cans := rfl
@[simp] theorem State.updMd_beatAt (s : State) (f : ModeRt → ModeRt) : (s.updMd f).beatAt = s.beatAt := rfl
@[simp] theorem State.updMd_twa (s : State) (f : ModeRt → ModeRt) : (s.updMd f).twa = s.twa := rfl
@[simp] theorem State.updMd_twb (s : State) (f : ModeRt → ModeRt) : (s.updMd f).twb = s.twb := rfl
@[simp] theorem State.updMd_upd (s : State) (f : ModeRt → ModeRt) : (s.updMd f).upd = s.upd := rfl
@[simp] theorem State.updMd_origin (s : State) (f : ModeRt → ModeRt) : (s.updMd f).origin = s.origin := rfl
@[simp] theorem State.updMd_dies (s : State) (f : ModeRt → ModeRt) : (s.updMd f).dies = s.dies := rfl
@[simp] theorem State.updMd_free (s : State) (f : ModeRt → ModeRt) : (s.updMd f).free = s.free := rfl
@[simp] theorem State.updMd_pending (s : State) (f : ModeRt → ModeRt) : (s.updMd f).pending = s.pending := rfl

/-! ### updVest -/
@[simp] theorem State.updVest_part (s : State) (f : Vestibule → Vestibule) : (s.updVest f).part = s.part := rfl
@[simp] theorem State.updVest_serial (s : State) (f : Vestibule → Vestibule) : (s.updVest f).serial = s.serial := rfl
@[simp] theorem State.updVest_root (s : State) (f : Vestibule → Vestibule) : (s.updVest f).root = s.root := rfl
@[simp] theorem State.updVest_now (s : State) (f : Vestibule → Vestibule) : (s.updVest f).now = s.now := rfl
@[simp] theorem State.updVest_md (s : State) (f : Vestibule → Vestibule) : (s.updVest f).md = s.md := rfl
@[simp] theorem State.updVest_vest (s : State) (f : Vestibule → Vestibule) : (s.updVest f).vest = f s.vest := rfl
@[simp] theorem State.updVest_nand (s : State) (f : Vestibule → Vestibule) : (s.updVest f).nand = s.nand := rfl
@[simp] theorem State.updVest_dict (s : State) (f : Vestibule → Vestibule) : (s.updVest f).dict = s.dict := rfl
@[simp] theorem State.updVest_safetySet (s : State) (f : Vestibule → Vestibule) : (s.updVest f).safetySet = s.safetySet := rfl
@[simp] theorem State.updVest_sreqs (s : State) (f : Vestibule → Vestibule) : (s.updVest f).sreqs = s.sreqs := rfl
@[simp] theorem State.updVest_paused (s : State) (f : Vestibule → Vestibule) : (s.updVest f).paused = s.paused := rfl
@[simp] theorem State.updVest_serveNow (s : State) (f : Vestibule → Vestibule) : (s.updVest f).serveNow = s.serveNow := rfl
@[simp] theorem State.updVest_last (s : State) (f : Vestibule → Vestibule) : (s.updVest f).last = s.last := rfl
@[simp] theorem State.updVest_sramOut (s : State) (f : Vestibule → Vestibule) : (s.updVest f).sramOut = s.sramOut := rfl
@[simp] theorem State.updVest_sched (s : State) (f : Vestibule → Vestibule) : (s.updVest f).sched = s.sched := rfl
@[simp] theorem State.updVest_recd (s : State) (f : Vestibule → Vestibule) : (s.updVest f).recd = s.recd := rfl
@[simp] theorem State.updVest_safe (s : State) (f : Vestibule → Vestibule) : (s.updVest f).safe = s.safe := rfl
@[simp] theorem State.updVest_gal (s : State) (f : Vestibule → Vestibule) : (s.updVest f).gal = s.gal := rfl
@[simp] theorem State.updVest_red (s : State) (f : Vestibule → Vestibule) : (s.updVest f).red = s.red := rfl
@[simp] theorem State.updVest_arc (s : State) (f : Vestibule → Vestibule) : (s.updVest f).arc = s.arc := rfl
@[simp] theorem State.updVest_time (s : State) (f : Vestibule → Vestibule) : (s.updVest f).time = s.time := rfl
@[simp] theorem State.updVest_disp (s : State) (f : Vestibule → Vestibule) : (s.updVest f).disp = s.disp := rfl
@[simp] theorem State.updVest_chans (s : State) (f : Vestibule → Vestibule) : (s.updVest f).chans = s.chans := rfl
@[simp] theorem State.updVest_vloopAt (s : State) (f : Vestibule → Vestibule) : (s.updVest f).vloopAt = s.vloopAt := rfl
@[simp] theorem State.updVest_cans (s : State) (f : Vestibule → Vestibule) : (s.updVest f).cans = s.cans := rfl
@[simp] theorem State.updVest_beatAt (s : State) (f : Vestibule → Vestibule) : (s.updVest f).beatAt = s.beatAt := rfl
@[simp] theorem State.updVest_twa (s : State) (f : Vestibule → Vestibule) : (s.updVest f).twa = s.twa := rfl
@[simp] theorem State.updVest_twb (s : State) (f : Vestibule → Vestibule) : (s.updVest f).twb = s.twb := rfl
@[simp] theorem State.updVest_upd (s : State) (f : Vestibule → Vestibule) : (s.updVest f).upd = s.upd := rfl
@[simp] theorem State.updVest_origin (s : State) (f : Vestibule → Vestibule) : (s.updVest f).origin = s.origin := rfl
@[simp] theorem State.updVest_dies (s : State) (f : Vestibule → Vestibule) : (s.updVest f).dies = s.dies := rfl
@[simp] theorem State.updVest_free (s : State) (f : Vestibule → Vestibule) : (s.updVest f).free = s.free := rfl
@[simp] theorem State.updVest_pending (s : State) (f : Vestibule → Vestibule) : (s.updVest f).pending = s.pending := rfl

/-! ### updNand -/
@[simp] theorem State.updNand_part (s : State) (f : Store → Store) : (s.updNand f).part = s.part := rfl
@[simp] theorem State.updNand_serial (s : State) (f : Store → Store) : (s.updNand f).serial = s.serial := rfl
@[simp] theorem State.updNand_root (s : State) (f : Store → Store) : (s.updNand f).root = s.root := rfl
@[simp] theorem State.updNand_now (s : State) (f : Store → Store) : (s.updNand f).now = s.now := rfl
@[simp] theorem State.updNand_md (s : State) (f : Store → Store) : (s.updNand f).md = s.md := rfl
@[simp] theorem State.updNand_vest (s : State) (f : Store → Store) : (s.updNand f).vest = s.vest := rfl
@[simp] theorem State.updNand_nand (s : State) (f : Store → Store) : (s.updNand f).nand = f s.nand := rfl
@[simp] theorem State.updNand_dict (s : State) (f : Store → Store) : (s.updNand f).dict = s.dict := rfl
@[simp] theorem State.updNand_safetySet (s : State) (f : Store → Store) : (s.updNand f).safetySet = s.safetySet := rfl
@[simp] theorem State.updNand_sreqs (s : State) (f : Store → Store) : (s.updNand f).sreqs = s.sreqs := rfl
@[simp] theorem State.updNand_paused (s : State) (f : Store → Store) : (s.updNand f).paused = s.paused := rfl
@[simp] theorem State.updNand_serveNow (s : State) (f : Store → Store) : (s.updNand f).serveNow = s.serveNow := rfl
@[simp] theorem State.updNand_last (s : State) (f : Store → Store) : (s.updNand f).last = s.last := rfl
@[simp] theorem State.updNand_sramOut (s : State) (f : Store → Store) : (s.updNand f).sramOut = s.sramOut := rfl
@[simp] theorem State.updNand_sched (s : State) (f : Store → Store) : (s.updNand f).sched = s.sched := rfl
@[simp] theorem State.updNand_recd (s : State) (f : Store → Store) : (s.updNand f).recd = s.recd := rfl
@[simp] theorem State.updNand_safe (s : State) (f : Store → Store) : (s.updNand f).safe = s.safe := rfl
@[simp] theorem State.updNand_gal (s : State) (f : Store → Store) : (s.updNand f).gal = s.gal := rfl
@[simp] theorem State.updNand_red (s : State) (f : Store → Store) : (s.updNand f).red = s.red := rfl
@[simp] theorem State.updNand_arc (s : State) (f : Store → Store) : (s.updNand f).arc = s.arc := rfl
@[simp] theorem State.updNand_time (s : State) (f : Store → Store) : (s.updNand f).time = s.time := rfl
@[simp] theorem State.updNand_disp (s : State) (f : Store → Store) : (s.updNand f).disp = s.disp := rfl
@[simp] theorem State.updNand_chans (s : State) (f : Store → Store) : (s.updNand f).chans = s.chans := rfl
@[simp] theorem State.updNand_vloopAt (s : State) (f : Store → Store) : (s.updNand f).vloopAt = s.vloopAt := rfl
@[simp] theorem State.updNand_cans (s : State) (f : Store → Store) : (s.updNand f).cans = s.cans := rfl
@[simp] theorem State.updNand_beatAt (s : State) (f : Store → Store) : (s.updNand f).beatAt = s.beatAt := rfl
@[simp] theorem State.updNand_twa (s : State) (f : Store → Store) : (s.updNand f).twa = s.twa := rfl
@[simp] theorem State.updNand_twb (s : State) (f : Store → Store) : (s.updNand f).twb = s.twb := rfl
@[simp] theorem State.updNand_upd (s : State) (f : Store → Store) : (s.updNand f).upd = s.upd := rfl
@[simp] theorem State.updNand_origin (s : State) (f : Store → Store) : (s.updNand f).origin = s.origin := rfl
@[simp] theorem State.updNand_dies (s : State) (f : Store → Store) : (s.updNand f).dies = s.dies := rfl
@[simp] theorem State.updNand_free (s : State) (f : Store → Store) : (s.updNand f).free = s.free := rfl
@[simp] theorem State.updNand_pending (s : State) (f : Store → Store) : (s.updNand f).pending = s.pending := rfl

/-! ### updRec -/
@[simp] theorem State.updRec_part (s : State) (f : RecorderRt → RecorderRt) : (s.updRec f).part = s.part := rfl
@[simp] theorem State.updRec_serial (s : State) (f : RecorderRt → RecorderRt) : (s.updRec f).serial = s.serial := rfl
@[simp] theorem State.updRec_root (s : State) (f : RecorderRt → RecorderRt) : (s.updRec f).root = s.root := rfl
@[simp] theorem State.updRec_now (s : State) (f : RecorderRt → RecorderRt) : (s.updRec f).now = s.now := rfl
@[simp] theorem State.updRec_md (s : State) (f : RecorderRt → RecorderRt) : (s.updRec f).md = s.md := rfl
@[simp] theorem State.updRec_vest (s : State) (f : RecorderRt → RecorderRt) : (s.updRec f).vest = s.vest := rfl
@[simp] theorem State.updRec_nand (s : State) (f : RecorderRt → RecorderRt) : (s.updRec f).nand = s.nand := rfl
@[simp] theorem State.updRec_dict (s : State) (f : RecorderRt → RecorderRt) : (s.updRec f).dict = s.dict := rfl
@[simp] theorem State.updRec_safetySet (s : State) (f : RecorderRt → RecorderRt) : (s.updRec f).safetySet = s.safetySet := rfl
@[simp] theorem State.updRec_sreqs (s : State) (f : RecorderRt → RecorderRt) : (s.updRec f).sreqs = s.sreqs := rfl
@[simp] theorem State.updRec_paused (s : State) (f : RecorderRt → RecorderRt) : (s.updRec f).paused = s.paused := rfl
@[simp] theorem State.updRec_serveNow (s : State) (f : RecorderRt → RecorderRt) : (s.updRec f).serveNow = s.serveNow := rfl
@[simp] theorem State.updRec_last (s : State) (f : RecorderRt → RecorderRt) : (s.updRec f).last = s.last := rfl
@[simp] theorem State.updRec_sramOut (s : State) (f : RecorderRt → RecorderRt) : (s.updRec f).sramOut = s.sramOut := rfl
@[simp] theorem State.updRec_sched (s : State) (f : RecorderRt → RecorderRt) : (s.updRec f).sched = s.sched := rfl
@[simp] theorem State.updRec_recd (s : State) (f : RecorderRt → RecorderRt) : (s.updRec f).recd = f s.recd := rfl
@[simp] theorem State.updRec_safe (s : State) (f : RecorderRt → RecorderRt) : (s.updRec f).safe = s.safe := rfl
@[simp] theorem State.updRec_gal (s : State) (f : RecorderRt → RecorderRt) : (s.updRec f).gal = s.gal := rfl
@[simp] theorem State.updRec_red (s : State) (f : RecorderRt → RecorderRt) : (s.updRec f).red = s.red := rfl
@[simp] theorem State.updRec_arc (s : State) (f : RecorderRt → RecorderRt) : (s.updRec f).arc = s.arc := rfl
@[simp] theorem State.updRec_time (s : State) (f : RecorderRt → RecorderRt) : (s.updRec f).time = s.time := rfl
@[simp] theorem State.updRec_disp (s : State) (f : RecorderRt → RecorderRt) : (s.updRec f).disp = s.disp := rfl
@[simp] theorem State.updRec_chans (s : State) (f : RecorderRt → RecorderRt) : (s.updRec f).chans = s.chans := rfl
@[simp] theorem State.updRec_vloopAt (s : State) (f : RecorderRt → RecorderRt) : (s.updRec f).vloopAt = s.vloopAt := rfl
@[simp] theorem State.updRec_cans (s : State) (f : RecorderRt → RecorderRt) : (s.updRec f).cans = s.cans := rfl
@[simp] theorem State.updRec_beatAt (s : State) (f : RecorderRt → RecorderRt) : (s.updRec f).beatAt = s.beatAt := rfl
@[simp] theorem State.updRec_twa (s : State) (f : RecorderRt → RecorderRt) : (s.updRec f).twa = s.twa := rfl
@[simp] theorem State.updRec_twb (s : State) (f : RecorderRt → RecorderRt) : (s.updRec f).twb = s.twb := rfl
@[simp] theorem State.updRec_upd (s : State) (f : RecorderRt → RecorderRt) : (s.updRec f).upd = s.upd := rfl
@[simp] theorem State.updRec_origin (s : State) (f : RecorderRt → RecorderRt) : (s.updRec f).origin = s.origin := rfl
@[simp] theorem State.updRec_dies (s : State) (f : RecorderRt → RecorderRt) : (s.updRec f).dies = s.dies := rfl
@[simp] theorem State.updRec_free (s : State) (f : RecorderRt → RecorderRt) : (s.updRec f).free = s.free := rfl
@[simp] theorem State.updRec_pending (s : State) (f : RecorderRt → RecorderRt) : (s.updRec f).pending = s.pending := rfl

/-! ### updSafe -/
@[simp] theorem State.updSafe_part (s : State) (f : SafetyRt → SafetyRt) : (s.updSafe f).part = s.part := rfl
@[simp] theorem State.updSafe_serial (s : State) (f : SafetyRt → SafetyRt) : (s.updSafe f).serial = s.serial := rfl
@[simp] theorem State.updSafe_root (s : State) (f : SafetyRt → SafetyRt) : (s.updSafe f).root = s.root := rfl
@[simp] theorem State.updSafe_now (s : State) (f : SafetyRt → SafetyRt) : (s.updSafe f).now = s.now := rfl
@[simp] theorem State.updSafe_md (s : State) (f : SafetyRt → SafetyRt) : (s.updSafe f).md = s.md := rfl
@[simp] theorem State.updSafe_vest (s : State) (f : SafetyRt → SafetyRt) : (s.updSafe f).vest = s.vest := rfl
@[simp] theorem State.updSafe_nand (s : State) (f : SafetyRt → SafetyRt) : (s.updSafe f).nand = s.nand := rfl
@[simp] theorem State.updSafe_dict (s : State) (f : SafetyRt → SafetyRt) : (s.updSafe f).dict = s.dict := rfl
@[simp] theorem State.updSafe_safetySet (s : State) (f : SafetyRt → SafetyRt) : (s.updSafe f).safetySet = s.safetySet := rfl
@[simp] theorem State.updSafe_sreqs (s : State) (f : SafetyRt → SafetyRt) : (s.updSafe f).sreqs = s.sreqs := rfl
@[simp] theorem State.updSafe_paused (s : State) (f : SafetyRt → SafetyRt) : (s.updSafe f).paused = s.paused := rfl
@[simp] theorem State.updSafe_serveNow (s : State) (f : SafetyRt → SafetyRt) : (s.updSafe f).serveNow = s.serveNow := rfl
@[simp] theorem State.updSafe_last (s : State) (f : SafetyRt → SafetyRt) : (s.updSafe f).last = s.last := rfl
@[simp] theorem State.updSafe_sramOut (s : State) (f : SafetyRt → SafetyRt) : (s.updSafe f).sramOut = s.sramOut := rfl
@[simp] theorem State.updSafe_sched (s : State) (f : SafetyRt → SafetyRt) : (s.updSafe f).sched = s.sched := rfl
@[simp] theorem State.updSafe_recd (s : State) (f : SafetyRt → SafetyRt) : (s.updSafe f).recd = s.recd := rfl
@[simp] theorem State.updSafe_safe (s : State) (f : SafetyRt → SafetyRt) : (s.updSafe f).safe = f s.safe := rfl
@[simp] theorem State.updSafe_gal (s : State) (f : SafetyRt → SafetyRt) : (s.updSafe f).gal = s.gal := rfl
@[simp] theorem State.updSafe_red (s : State) (f : SafetyRt → SafetyRt) : (s.updSafe f).red = s.red := rfl
@[simp] theorem State.updSafe_arc (s : State) (f : SafetyRt → SafetyRt) : (s.updSafe f).arc = s.arc := rfl
@[simp] theorem State.updSafe_time (s : State) (f : SafetyRt → SafetyRt) : (s.updSafe f).time = s.time := rfl
@[simp] theorem State.updSafe_disp (s : State) (f : SafetyRt → SafetyRt) : (s.updSafe f).disp = s.disp := rfl
@[simp] theorem State.updSafe_chans (s : State) (f : SafetyRt → SafetyRt) : (s.updSafe f).chans = s.chans := rfl
@[simp] theorem State.updSafe_vloopAt (s : State) (f : SafetyRt → SafetyRt) : (s.updSafe f).vloopAt = s.vloopAt := rfl
@[simp] theorem State.updSafe_cans (s : State) (f : SafetyRt → SafetyRt) : (s.updSafe f).cans = s.cans := rfl
@[simp] theorem State.updSafe_beatAt (s : State) (f : SafetyRt → SafetyRt) : (s.updSafe f).beatAt = s.beatAt := rfl
@[simp] theorem State.updSafe_twa (s : State) (f : SafetyRt → SafetyRt) : (s.updSafe f).twa = s.twa := rfl
@[simp] theorem State.updSafe_twb (s : State) (f : SafetyRt → SafetyRt) : (s.updSafe f).twb = s.twb := rfl
@[simp] theorem State.updSafe_upd (s : State) (f : SafetyRt → SafetyRt) : (s.updSafe f).upd = s.upd := rfl
@[simp] theorem State.updSafe_origin (s : State) (f : SafetyRt → SafetyRt) : (s.updSafe f).origin = s.origin := rfl
@[simp] theorem State.updSafe_dies (s : State) (f : SafetyRt → SafetyRt) : (s.updSafe f).dies = s.dies := rfl
@[simp] theorem State.updSafe_free (s : State) (f : SafetyRt → SafetyRt) : (s.updSafe f).free = s.free := rfl
@[simp] theorem State.updSafe_pending (s : State) (f : SafetyRt → SafetyRt) : (s.updSafe f).pending = s.pending := rfl

/-! ### updRed -/
@[simp] theorem State.updRed_part (s : State) (f : RedRt → RedRt) : (s.updRed f).part = s.part := rfl
@[simp] theorem State.updRed_serial (s : State) (f : RedRt → RedRt) : (s.updRed f).serial = s.serial := rfl
@[simp] theorem State.updRed_root (s : State) (f : RedRt → RedRt) : (s.updRed f).root = s.root := rfl
@[simp] theorem State.updRed_now (s : State) (f : RedRt → RedRt) : (s.updRed f).now = s.now := rfl
@[simp] theorem State.updRed_md (s : State) (f : RedRt → RedRt) : (s.updRed f).md = s.md := rfl
@[simp] theorem State.updRed_vest (s : State) (f : RedRt → RedRt) : (s.updRed f).vest = s.vest := rfl
@[simp] theorem State.updRed_nand (s : State) (f : RedRt → RedRt) : (s.updRed f).nand = s.nand := rfl
@[simp] theorem State.updRed_dict (s : State) (f : RedRt → RedRt) : (s.updRed f).dict = s.dict := rfl
@[simp] theorem State.updRed_safetySet (s : State) (f : RedRt → RedRt) : (s.updRed f).safetySet = s.safetySet := rfl
@[simp] theorem State.updRed_sreqs (s : State) (f : RedRt → RedRt) : (s.updRed f).sreqs = s.sreqs := rfl
@[simp] theorem State.updRed_paused (s : State) (f : RedRt → RedRt) : (s.updRed f).paused = s.paused := rfl
@[simp] theorem State.updRed_serveNow (s : State) (f : RedRt → RedRt) : (s.updRed f).serveNow = s.serveNow := rfl
@[simp] theorem State.updRed_last (s : State) (f : RedRt → RedRt) : (s.updRed f).last = s.last := rfl
@[simp] theorem State.updRed_sramOut (s : State) (f : RedRt → RedRt) : (s.updRed f).sramOut = s.sramOut := rfl
@[simp] theorem State.updRed_sched (s : State) (f : RedRt → RedRt) : (s.updRed f).sched = s.sched := rfl
@[simp] theorem State.updRed_recd (s : State) (f : RedRt → RedRt) : (s.updRed f).recd = s.recd := rfl
@[simp] theorem State.updRed_safe (s : State) (f : RedRt → RedRt) : (s.updRed f).safe = s.safe := rfl
@[simp] theorem State.updRed_gal (s : State) (f : RedRt → RedRt) : (s.updRed f).gal = s.gal := rfl
@[simp] theorem State.updRed_red (s : State) (f : RedRt → RedRt) : (s.updRed f).red = f s.red := rfl
@[simp] theorem State.updRed_arc (s : State) (f : RedRt → RedRt) : (s.updRed f).arc = s.arc := rfl
@[simp] theorem State.updRed_time (s : State) (f : RedRt → RedRt) : (s.updRed f).time = s.time := rfl
@[simp] theorem State.updRed_disp (s : State) (f : RedRt → RedRt) : (s.updRed f).disp = s.disp := rfl
@[simp] theorem State.updRed_chans (s : State) (f : RedRt → RedRt) : (s.updRed f).chans = s.chans := rfl
@[simp] theorem State.updRed_vloopAt (s : State) (f : RedRt → RedRt) : (s.updRed f).vloopAt = s.vloopAt := rfl
@[simp] theorem State.updRed_cans (s : State) (f : RedRt → RedRt) : (s.updRed f).cans = s.cans := rfl
@[simp] theorem State.updRed_beatAt (s : State) (f : RedRt → RedRt) : (s.updRed f).beatAt = s.beatAt := rfl
@[simp] theorem State.updRed_twa (s : State) (f : RedRt → RedRt) : (s.updRed f).twa = s.twa := rfl
@[simp] theorem State.updRed_twb (s : State) (f : RedRt → RedRt) : (s.updRed f).twb = s.twb := rfl
@[simp] theorem State.updRed_upd (s : State) (f : RedRt → RedRt) : (s.updRed f).upd = s.upd := rfl
@[simp] theorem State.updRed_origin (s : State) (f : RedRt → RedRt) : (s.updRed f).origin = s.origin := rfl
@[simp] theorem State.updRed_dies (s : State) (f : RedRt → RedRt) : (s.updRed f).dies = s.dies := rfl
@[simp] theorem State.updRed_free (s : State) (f : RedRt → RedRt) : (s.updRed f).free = s.free := rfl
@[simp] theorem State.updRed_pending (s : State) (f : RedRt → RedRt) : (s.updRed f).pending = s.pending := rfl

/-! ### updArc -/
@[simp] theorem State.updArc_part (s : State) (f : ArcadeRt → ArcadeRt) : (s.updArc f).part = s.part := rfl
@[simp] theorem State.updArc_serial (s : State) (f : ArcadeRt → ArcadeRt) : (s.updArc f).serial = s.serial := rfl
@[simp] theorem State.updArc_root (s : State) (f : ArcadeRt → ArcadeRt) : (s.updArc f).root = s.root := rfl
@[simp] theorem State.updArc_now (s : State) (f : ArcadeRt → ArcadeRt) : (s.updArc f).now = s.now := rfl
@[simp] theorem State.updArc_md (s : State) (f : ArcadeRt → ArcadeRt) : (s.updArc f).md = s.md := rfl
@[simp] theorem State.updArc_vest (s : State) (f : ArcadeRt → ArcadeRt) : (s.updArc f).vest = s.vest := rfl
@[simp] theorem State.updArc_nand (s : State) (f : ArcadeRt → ArcadeRt) : (s.updArc f).nand = s.nand := rfl
@[simp] theorem State.updArc_dict (s : State) (f : ArcadeRt → ArcadeRt) : (s.updArc f).dict = s.dict := rfl
@[simp] theorem State.updArc_safetySet (s : State) (f : ArcadeRt → ArcadeRt) : (s.updArc f).safetySet = s.safetySet := rfl
@[simp] theorem State.updArc_sreqs (s : State) (f : ArcadeRt → ArcadeRt) : (s.updArc f).sreqs = s.sreqs := rfl
@[simp] theorem State.updArc_paused (s : State) (f : ArcadeRt → ArcadeRt) : (s.updArc f).paused = s.paused := rfl
@[simp] theorem State.updArc_serveNow (s : State) (f : ArcadeRt → ArcadeRt) : (s.updArc f).serveNow = s.serveNow := rfl
@[simp] theorem State.updArc_last (s : State) (f : ArcadeRt → ArcadeRt) : (s.updArc f).last = s.last := rfl
@[simp] theorem State.updArc_sramOut (s : State) (f : ArcadeRt → ArcadeRt) : (s.updArc f).sramOut = s.sramOut := rfl
@[simp] theorem State.updArc_sched (s : State) (f : ArcadeRt → ArcadeRt) : (s.updArc f).sched = s.sched := rfl
@[simp] theorem State.updArc_recd (s : State) (f : ArcadeRt → ArcadeRt) : (s.updArc f).recd = s.recd := rfl
@[simp] theorem State.updArc_safe (s : State) (f : ArcadeRt → ArcadeRt) : (s.updArc f).safe = s.safe := rfl
@[simp] theorem State.updArc_gal (s : State) (f : ArcadeRt → ArcadeRt) : (s.updArc f).gal = s.gal := rfl
@[simp] theorem State.updArc_red (s : State) (f : ArcadeRt → ArcadeRt) : (s.updArc f).red = s.red := rfl
@[simp] theorem State.updArc_arc (s : State) (f : ArcadeRt → ArcadeRt) : (s.updArc f).arc = f s.arc := rfl
@[simp] theorem State.updArc_time (s : State) (f : ArcadeRt → ArcadeRt) : (s.updArc f).time = s.time := rfl
@[simp] theorem State.updArc_disp (s : State) (f : ArcadeRt → ArcadeRt) : (s.updArc f).disp = s.disp := rfl
@[simp] theorem State.updArc_chans (s : State) (f : ArcadeRt → ArcadeRt) : (s.updArc f).chans = s.chans := rfl
@[simp] theorem State.updArc_vloopAt (s : State) (f : ArcadeRt → ArcadeRt) : (s.updArc f).vloopAt = s.vloopAt := rfl
@[simp] theorem State.updArc_cans (s : State) (f : ArcadeRt → ArcadeRt) : (s.updArc f).cans = s.cans := rfl
@[simp] theorem State.updArc_beatAt (s : State) (f : ArcadeRt → ArcadeRt) : (s.updArc f).beatAt = s.beatAt := rfl
@[simp] theorem State.updArc_twa (s : State) (f : ArcadeRt → ArcadeRt) : (s.updArc f).twa = s.twa := rfl
@[simp] theorem State.updArc_twb (s : State) (f : ArcadeRt → ArcadeRt) : (s.updArc f).twb = s.twb := rfl
@[simp] theorem State.updArc_upd (s : State) (f : ArcadeRt → ArcadeRt) : (s.updArc f).upd = s.upd := rfl
@[simp] theorem State.updArc_origin (s : State) (f : ArcadeRt → ArcadeRt) : (s.updArc f).origin = s.origin := rfl
@[simp] theorem State.updArc_dies (s : State) (f : ArcadeRt → ArcadeRt) : (s.updArc f).dies = s.dies := rfl
@[simp] theorem State.updArc_free (s : State) (f : ArcadeRt → ArcadeRt) : (s.updArc f).free = s.free := rfl
@[simp] theorem State.updArc_pending (s : State) (f : ArcadeRt → ArcadeRt) : (s.updArc f).pending = s.pending := rfl

/-! ### updTime -/
@[simp] theorem State.updTime_part (s : State) (f : TimeRt → TimeRt) : (s.updTime f).part = s.part := rfl
@[simp] theorem State.updTime_serial (s : State) (f : TimeRt → TimeRt) : (s.updTime f).serial = s.serial := rfl
@[simp] theorem State.updTime_root (s : State) (f : TimeRt → TimeRt) : (s.updTime f).root = s.root := rfl
@[simp] theorem State.updTime_now (s : State) (f : TimeRt → TimeRt) : (s.updTime f).now = s.now := rfl
@[simp] theorem State.updTime_md (s : State) (f : TimeRt → TimeRt) : (s.updTime f).md = s.md := rfl
@[simp] theorem State.updTime_vest (s : State) (f : TimeRt → TimeRt) : (s.updTime f).vest = s.vest := rfl
@[simp] theorem State.updTime_nand (s : State) (f : TimeRt → TimeRt) : (s.updTime f).nand = s.nand := rfl
@[simp] theorem State.updTime_dict (s : State) (f : TimeRt → TimeRt) : (s.updTime f).dict = s.dict := rfl
@[simp] theorem State.updTime_safetySet (s : State) (f : TimeRt → TimeRt) : (s.updTime f).safetySet = s.safetySet := rfl
@[simp] theorem State.updTime_sreqs (s : State) (f : TimeRt → TimeRt) : (s.updTime f).sreqs = s.sreqs := rfl
@[simp] theorem State.updTime_paused (s : State) (f : TimeRt → TimeRt) : (s.updTime f).paused = s.paused := rfl
@[simp] theorem State.updTime_serveNow (s : State) (f : TimeRt → TimeRt) : (s.updTime f).serveNow = s.serveNow := rfl
@[simp] theorem State.updTime_last (s : State) (f : TimeRt → TimeRt) : (s.updTime f).last = s.last := rfl
@[simp] theorem State.updTime_sramOut (s : State) (f : TimeRt → TimeRt) : (s.updTime f).sramOut = s.sramOut := rfl
@[simp] theorem State.updTime_sched (s : State) (f : TimeRt → TimeRt) : (s.updTime f).sched = s.sched := rfl
@[simp] theorem State.updTime_recd (s : State) (f : TimeRt → TimeRt) : (s.updTime f).recd = s.recd := rfl
@[simp] theorem State.updTime_safe (s : State) (f : TimeRt → TimeRt) : (s.updTime f).safe = s.safe := rfl
@[simp] theorem State.updTime_gal (s : State) (f : TimeRt → TimeRt) : (s.updTime f).gal = s.gal := rfl
@[simp] theorem State.updTime_red (s : State) (f : TimeRt → TimeRt) : (s.updTime f).red = s.red := rfl
@[simp] theorem State.updTime_arc (s : State) (f : TimeRt → TimeRt) : (s.updTime f).arc = s.arc := rfl
@[simp] theorem State.updTime_time (s : State) (f : TimeRt → TimeRt) : (s.updTime f).time = f s.time := rfl
@[simp] theorem State.updTime_disp (s : State) (f : TimeRt → TimeRt) : (s.updTime f).disp = s.disp := rfl
@[simp] theorem State.updTime_chans (s : State) (f : TimeRt → TimeRt) : (s.updTime f).chans = s.chans := rfl
@[simp] theorem State.updTime_vloopAt (s : State) (f : TimeRt → TimeRt) : (s.updTime f).vloopAt = s.vloopAt := rfl
@[simp] theorem State.updTime_cans (s : State) (f : TimeRt → TimeRt) : (s.updTime f).cans = s.cans := rfl
@[simp] theorem State.updTime_beatAt (s : State) (f : TimeRt → TimeRt) : (s.updTime f).beatAt = s.beatAt := rfl
@[simp] theorem State.updTime_twa (s : State) (f : TimeRt → TimeRt) : (s.updTime f).twa = s.twa := rfl
@[simp] theorem State.updTime_twb (s : State) (f : TimeRt → TimeRt) : (s.updTime f).twb = s.twb := rfl
@[simp] theorem State.updTime_upd (s : State) (f : TimeRt → TimeRt) : (s.updTime f).upd = s.upd := rfl
@[simp] theorem State.updTime_origin (s : State) (f : TimeRt → TimeRt) : (s.updTime f).origin = s.origin := rfl
@[simp] theorem State.updTime_dies (s : State) (f : TimeRt → TimeRt) : (s.updTime f).dies = s.dies := rfl
@[simp] theorem State.updTime_free (s : State) (f : TimeRt → TimeRt) : (s.updTime f).free = s.free := rfl
@[simp] theorem State.updTime_pending (s : State) (f : TimeRt → TimeRt) : (s.updTime f).pending = s.pending := rfl

/-! ### updDisp -/
@[simp] theorem State.updDisp_part (s : State) (f : DispRt → DispRt) : (s.updDisp f).part = s.part := rfl
@[simp] theorem State.updDisp_serial (s : State) (f : DispRt → DispRt) : (s.updDisp f).serial = s.serial := rfl
@[simp] theorem State.updDisp_root (s : State) (f : DispRt → DispRt) : (s.updDisp f).root = s.root := rfl
@[simp] theorem State.updDisp_now (s : State) (f : DispRt → DispRt) : (s.updDisp f).now = s.now := rfl
@[simp] theorem State.updDisp_md (s : State) (f : DispRt → DispRt) : (s.updDisp f).md = s.md := rfl
@[simp] theorem State.updDisp_vest (s : State) (f : DispRt → DispRt) : (s.updDisp f).vest = s.vest := rfl
@[simp] theorem State.updDisp_nand (s : State) (f : DispRt → DispRt) : (s.updDisp f).nand = s.nand := rfl
@[simp] theorem State.updDisp_dict (s : State) (f : DispRt → DispRt) : (s.updDisp f).dict = s.dict := rfl
@[simp] theorem State.updDisp_safetySet (s : State) (f : DispRt → DispRt) : (s.updDisp f).safetySet = s.safetySet := rfl
@[simp] theorem State.updDisp_sreqs (s : State) (f : DispRt → DispRt) : (s.updDisp f).sreqs = s.sreqs := rfl
@[simp] theorem State.updDisp_paused (s : State) (f : DispRt → DispRt) : (s.updDisp f).paused = s.paused := rfl
@[simp] theorem State.updDisp_serveNow (s : State) (f : DispRt → DispRt) : (s.updDisp f).serveNow = s.serveNow := rfl
@[simp] theorem State.updDisp_last (s : State) (f : DispRt → DispRt) : (s.updDisp f).last = s.last := rfl
@[simp] theorem State.updDisp_sramOut (s : State) (f : DispRt → DispRt) : (s.updDisp f).sramOut = s.sramOut := rfl
@[simp] theorem State.updDisp_sched (s : State) (f : DispRt → DispRt) : (s.updDisp f).sched = s.sched := rfl
@[simp] theorem State.updDisp_recd (s : State) (f : DispRt → DispRt) : (s.updDisp f).recd = s.recd := rfl
@[simp] theorem State.updDisp_safe (s : State) (f : DispRt → DispRt) : (s.updDisp f).safe = s.safe := rfl
@[simp] theorem State.updDisp_gal (s : State) (f : DispRt → DispRt) : (s.updDisp f).gal = s.gal := rfl
@[simp] theorem State.updDisp_red (s : State) (f : DispRt → DispRt) : (s.updDisp f).red = s.red := rfl
@[simp] theorem State.updDisp_arc (s : State) (f : DispRt → DispRt) : (s.updDisp f).arc = s.arc := rfl
@[simp] theorem State.updDisp_time (s : State) (f : DispRt → DispRt) : (s.updDisp f).time = s.time := rfl
@[simp] theorem State.updDisp_disp (s : State) (f : DispRt → DispRt) : (s.updDisp f).disp = f s.disp := rfl
@[simp] theorem State.updDisp_chans (s : State) (f : DispRt → DispRt) : (s.updDisp f).chans = s.chans := rfl
@[simp] theorem State.updDisp_vloopAt (s : State) (f : DispRt → DispRt) : (s.updDisp f).vloopAt = s.vloopAt := rfl
@[simp] theorem State.updDisp_cans (s : State) (f : DispRt → DispRt) : (s.updDisp f).cans = s.cans := rfl
@[simp] theorem State.updDisp_beatAt (s : State) (f : DispRt → DispRt) : (s.updDisp f).beatAt = s.beatAt := rfl
@[simp] theorem State.updDisp_twa (s : State) (f : DispRt → DispRt) : (s.updDisp f).twa = s.twa := rfl
@[simp] theorem State.updDisp_twb (s : State) (f : DispRt → DispRt) : (s.updDisp f).twb = s.twb := rfl
@[simp] theorem State.updDisp_upd (s : State) (f : DispRt → DispRt) : (s.updDisp f).upd = s.upd := rfl
@[simp] theorem State.updDisp_origin (s : State) (f : DispRt → DispRt) : (s.updDisp f).origin = s.origin := rfl
@[simp] theorem State.updDisp_dies (s : State) (f : DispRt → DispRt) : (s.updDisp f).dies = s.dies := rfl
@[simp] theorem State.updDisp_free (s : State) (f : DispRt → DispRt) : (s.updDisp f).free = s.free := rfl
@[simp] theorem State.updDisp_pending (s : State) (f : DispRt → DispRt) : (s.updDisp f).pending = s.pending := rfl

/-! ### updChan -/
@[simp] theorem State.updChan_part (s : State) (n : Nat) (f : ChanRt → ChanRt) : (s.updChan n f).part = s.part := rfl
@[simp] theorem State.updChan_serial (s : State) (n : Nat) (f : ChanRt → ChanRt) : (s.updChan n f).serial = s.serial := rfl
@[simp] theorem State.updChan_root (s : State) (n : Nat) (f : ChanRt → ChanRt) : (s.updChan n f).root = s.root := rfl
@[simp] theorem State.updChan_now (s : State) (n : Nat) (f : ChanRt → ChanRt) : (s.updChan n f).now = s.now := rfl
@[simp] theorem State.updChan_md (s : State) (n : Nat) (f : ChanRt → ChanRt) : (s.updChan n f).md = s.md := rfl
@[simp] theorem State.updChan_vest (s : State) (n : Nat) (f : ChanRt → ChanRt) : (s.updChan n f).vest = s.vest := rfl
@[simp] theorem State.updChan_nand (s : State) (n : Nat) (f : ChanRt → ChanRt) : (s.updChan n f).nand = s.nand := rfl
@[simp] theorem State.updChan_dict (s : State) (n : Nat) (f : ChanRt → ChanRt) : (s.updChan n f).dict = s.dict := rfl
@[simp] theorem State.updChan_safetySet (s : State) (n : Nat) (f : ChanRt → ChanRt) : (s.updChan n f).safetySet = s.safetySet := rfl
@[simp] theorem State.updChan_sreqs (s : State) (n : Nat) (f : ChanRt → ChanRt) : (s.updChan n f).sreqs = s.sreqs := rfl
@[simp] theorem State.updChan_paused (s : State) (n : Nat) (f : ChanRt → ChanRt) : (s.updChan n f).paused = s.paused := rfl
@[simp] theorem State.updChan_serveNow (s : State) (n : Nat) (f : ChanRt → ChanRt) : (s.updChan n f).serveNow = s.serveNow := rfl
@[simp] theorem State.updChan_last (s : State) (n : Nat) (f : ChanRt → ChanRt) : (s.updChan n f).last = s.last := rfl
@[simp] theorem State.updChan_sramOut (s : State) (n : Nat) (f : ChanRt → ChanRt) : (s.updChan n f).sramOut = s.sramOut := rfl
@[simp] theorem State.updChan_sched (s : State) (n : Nat) (f : ChanRt → ChanRt) : (s.updChan n f).sched = s.sched := rfl
@[simp] theorem State.updChan_recd (s : State) (n : Nat) (f : ChanRt → ChanRt) : (s.updChan n f).recd = s.recd := rfl
@[simp] theorem State.updChan_safe (s : State) (n : Nat) (f : ChanRt → ChanRt) : (s.updChan n f).safe = s.safe := rfl
@[simp] theorem State.updChan_gal (s : State) (n : Nat) (f : ChanRt → ChanRt) : (s.updChan n f).gal = s.gal := rfl
@[simp] theorem State.updChan_red (s : State) (n : Nat) (f : ChanRt → ChanRt) : (s.updChan n f).red = s.red := rfl
@[simp] theorem State.updChan_arc (s : State) (n : Nat) (f : ChanRt → ChanRt) : (s.updChan n f).arc = s.arc := rfl
@[simp] theorem State.updChan_time (s : State) (n : Nat) (f : ChanRt → ChanRt) : (s.updChan n f).time = s.time := rfl
@[simp] theorem State.updChan_disp (s : State) (n : Nat) (f : ChanRt → ChanRt) : (s.updChan n f).disp = s.disp := rfl
@[simp] theorem State.updChan_chans (s : State) (n : Nat) (f : ChanRt → ChanRt) : (s.updChan n f).chans = modAt s.chans n f := rfl
@[simp] theorem State.updChan_vloopAt (s : State) (n : Nat) (f : ChanRt → ChanRt) : (s.updChan n f).vloopAt = s.vloopAt := rfl
@[simp] theorem State.updChan_cans (s : State) (n : Nat) (f : ChanRt → ChanRt) : (s.updChan n f).cans = s.cans := rfl
@[simp] theorem State.updChan_beatAt (s : State) (n : Nat) (f : ChanRt → ChanRt) : (s.updChan n f).beatAt = s.beatAt := rfl
@[simp] theorem State.updChan_twa (s : State) (n : Nat) (f : ChanRt → ChanRt) : (s.updChan n f).twa = s.twa := rfl
@[simp] theorem State.updChan_twb (s : State) (n : Nat) (f : ChanRt → ChanRt) : (s.updChan n f).twb = s.twb := rfl
@[simp] theorem State.updChan_upd (s : State) (n : Nat) (f : ChanRt → ChanRt) : (s.updChan n f).upd = s.upd := rfl
@[simp] theorem State.updChan_origin (s : State) (n : Nat) (f : ChanRt → ChanRt) : (s.updChan n f).origin = s.origin := rfl
@[simp] theorem State.updChan_dies (s : State) (n : Nat) (f : ChanRt → ChanRt) : (s.updChan n f).dies = s.dies := rfl
@[simp] theorem State.updChan_free (s : State) (n : Nat) (f : ChanRt → ChanRt) : (s.updChan n f).free = s.free := rfl
@[simp] theorem State.updChan_pending (s : State) (n : Nat) (f : ChanRt → ChanRt) : (s.updChan n f).pending = s.pending := rfl

/-! ### updCan -/
@[simp] theorem State.updCan_part (s : State) (p : Nat) (f : CanRt → CanRt) : (s.updCan p f).part = s.part := rfl
@[simp] theorem State.updCan_serial (s : State) (p : Nat) (f : CanRt → CanRt) : (s.updCan p f).serial = s.serial := rfl
@[simp] theorem State.updCan_root (s : State) (p : Nat) (f : CanRt → CanRt) : (s.updCan p f).root = s.root := rfl
@[simp] theorem State.updCan_now (s : State) (p : Nat) (f : CanRt → CanRt) : (s.updCan p f).now = s.now := rfl
@[simp] theorem State.updCan_md (s : State) (p : Nat) (f : CanRt → CanRt) : (s.updCan p f).md = s.md := rfl
@[simp] theorem State.updCan_vest (s : State) (p : Nat) (f : CanRt → CanRt) : (s.updCan p f).vest = s.vest := rfl
@[simp] theorem State.updCan_nand (s : State) (p : Nat) (f : CanRt → CanRt) : (s.updCan p f).nand = s.nand := rfl
@[simp] theorem State.updCan_dict (s : State) (p : Nat) (f : CanRt → CanRt) : (s.updCan p f).dict = s.dict := rfl
@[simp] theorem State.updCan_safetySet (s : State) (p : Nat) (f : CanRt → CanRt) : (s.updCan p f).safetySet = s.safetySet := rfl
@[simp] theorem State.updCan_sreqs (s : State) (p : Nat) (f : CanRt → CanRt) : (s.updCan p f).sreqs = s.sreqs := rfl
@[simp] theorem State.updCan_paused (s : State) (p : Nat) (f : CanRt → CanRt) : (s.updCan p f).paused = s.paused := rfl
@[simp] theorem State.updCan_serveNow (s : State) (p : Nat) (f : CanRt → CanRt) : (s.updCan p f).serveNow = s.serveNow := rfl
@[simp] theorem State.updCan_last (s : State) (p : Nat) (f : CanRt → CanRt) : (s.updCan p f).last = s.last := rfl
@[simp] theorem State.updCan_sramOut (s : State) (p : Nat) (f : CanRt → CanRt) : (s.updCan p f).sramOut = s.sramOut := rfl
@[simp] theorem State.updCan_sched (s : State) (p : Nat) (f : CanRt → CanRt) : (s.updCan p f).sched = s.sched := rfl
@[simp] theorem State.updCan_recd (s : State) (p : Nat) (f : CanRt → CanRt) : (s.updCan p f).recd = s.recd := rfl
@[simp] theorem State.updCan_safe (s : State) (p : Nat) (f : CanRt → CanRt) : (s.updCan p f).safe = s.safe := rfl
@[simp] theorem State.updCan_gal (s : State) (p : Nat) (f : CanRt → CanRt) : (s.updCan p f).gal = s.gal := rfl
@[simp] theorem State.updCan_red (s : State) (p : Nat) (f : CanRt → CanRt) : (s.updCan p f).red = s.red := rfl
@[simp] theorem State.updCan_arc (s : State) (p : Nat) (f : CanRt → CanRt) : (s.updCan p f).arc = s.arc := rfl
@[simp] theorem State.updCan_time (s : State) (p : Nat) (f : CanRt → CanRt) : (s.updCan p f).time = s.time := rfl
@[simp] theorem State.updCan_disp (s : State) (p : Nat) (f : CanRt → CanRt) : (s.updCan p f).disp = s.disp := rfl
@[simp] theorem State.updCan_chans (s : State) (p : Nat) (f : CanRt → CanRt) : (s.updCan p f).chans = s.chans := rfl
@[simp] theorem State.updCan_vloopAt (s : State) (p : Nat) (f : CanRt → CanRt) : (s.updCan p f).vloopAt = s.vloopAt := rfl
@[simp] theorem State.updCan_cans (s : State) (p : Nat) (f : CanRt → CanRt) : (s.updCan p f).cans = modAt s.cans p f := rfl
@[simp] theorem State.updCan_beatAt (s : State) (p : Nat) (f : CanRt → CanRt) : (s.updCan p f).beatAt = s.beatAt := rfl
@[simp] theorem State.updCan_twa (s : State) (p : Nat) (f : CanRt → CanRt) : (s.updCan p f).twa = s.twa := rfl
@[simp] theorem State.updCan_twb (s : State) (p : Nat) (f : CanRt → CanRt) : (s.updCan p f).twb = s.twb := rfl
@[simp] theorem State.updCan_upd (s : State) (p : Nat) (f : CanRt → CanRt) : (s.updCan p f).upd = s.upd := rfl
@[simp] theorem State.updCan_origin (s : State) (p : Nat) (f : CanRt → CanRt) : (s.updCan p f).origin = s.origin := rfl
@[simp] theorem State.updCan_dies (s : State) (p : Nat) (f : CanRt → CanRt) : (s.updCan p f).dies = s.dies := rfl
@[simp] theorem State.updCan_free (s : State) (p : Nat) (f : CanRt → CanRt) : (s.updCan p f).free = s.free := rfl
@[simp] theorem State.updCan_pending (s : State) (p : Nat) (f : CanRt → CanRt) : (s.updCan p f).pending = s.pending := rfl

/-! ### updTwa -/
@[simp] theorem State.updTwa_part (s : State) (f : TwaRt → TwaRt) : (s.updTwa f).part = s.part := rfl
@[simp] theorem State.updTwa_serial (s : State) (f : TwaRt → TwaRt) : (s.updTwa f).serial = s.serial := rfl
@[simp] theorem State.updTwa_root (s : State) (f : TwaRt → TwaRt) : (s.updTwa f).root = s.root := rfl
@[simp] theorem State.updTwa_now (s : State) (f : TwaRt → TwaRt) : (s.updTwa f).now = s.now := rfl
@[simp] theorem State.updTwa_md (s : State) (f : TwaRt → TwaRt) : (s.updTwa f).md = s.md := rfl
@[simp] theorem State.updTwa_vest (s : State) (f : TwaRt → TwaRt) : (s.updTwa f).vest = s.vest := rfl
@[simp] theorem State.updTwa_nand (s : State) (f : TwaRt → TwaRt) : (s.updTwa f).nand = s.nand := rfl
@[simp] theorem State.updTwa_dict (s : State) (f : TwaRt → TwaRt) : (s.updTwa f).dict = s.dict := rfl
@[simp] theorem State.updTwa_safetySet (s : State) (f : TwaRt → TwaRt) : (s.updTwa f).safetySet = s.safetySet := rfl
@[simp] theorem State.updTwa_sreqs (s : State) (f : TwaRt → TwaRt) : (s.updTwa f).sreqs = s.sreqs := rfl
@[simp] theorem State.updTwa_paused (s : State) (f : TwaRt → TwaRt) : (s.updTwa f).paused = s.paused := rfl
@[simp] theorem State.updTwa_serveNow (s : State) (f : TwaRt → TwaRt) : (s.updTwa f).serveNow = s.serveNow := rfl
@[simp] theorem State.updTwa_last (s : State) (f : TwaRt → TwaRt) : (s.updTwa f).last = s.last := rfl
@[simp] theorem State.updTwa_sramOut (s : State) (f : TwaRt → TwaRt) : (s.updTwa f).sramOut = s.sramOut := rfl
@[simp] theorem State.updTwa_sched (s : State) (f : TwaRt → TwaRt) : (s.updTwa f).sched = s.sched := rfl
@[simp] theorem State.updTwa_recd (s : State) (f : TwaRt → TwaRt) : (s.updTwa f).recd = s.recd := rfl
@[simp] theorem State.updTwa_safe (s : State) (f : TwaRt → TwaRt) : (s.updTwa f).safe = s.safe := rfl
@[simp] theorem State.updTwa_gal (s : State) (f : TwaRt → TwaRt) : (s.updTwa f).gal = s.gal := rfl
@[simp] theorem State.updTwa_red (s : State) (f : TwaRt → TwaRt) : (s.updTwa f).red = s.red := rfl
@[simp] theorem State.updTwa_arc (s : State) (f : TwaRt → TwaRt) : (s.updTwa f).arc = s.arc := rfl
@[simp] theorem State.updTwa_time (s : State) (f : TwaRt → TwaRt) : (s.updTwa f).time = s.time := rfl
@[simp] theorem State.updTwa_disp (s : State) (f : TwaRt → TwaRt) : (s.updTwa f).disp = s.disp := rfl
@[simp] theorem State.updTwa_chans (s : State) (f : TwaRt → TwaRt) : (s.updTwa f).chans = s.chans := rfl
@[simp] theorem State.updTwa_vloopAt (s : State) (f : TwaRt → TwaRt) : (s.updTwa f).vloopAt = s.vloopAt := rfl
@[simp] theorem State.updTwa_cans (s : State) (f : TwaRt → TwaRt) : (s.updTwa f).cans = s.cans := rfl
@[simp] theorem State.updTwa_beatAt (s : State) (f : TwaRt → TwaRt) : (s.updTwa f).beatAt = s.beatAt := rfl
@[simp] theorem State.updTwa_twa (s : State) (f : TwaRt → TwaRt) : (s.updTwa f).twa = f s.twa := rfl
@[simp] theorem State.updTwa_twb (s : State) (f : TwaRt → TwaRt) : (s.updTwa f).twb = s.twb := rfl
@[simp] theorem State.updTwa_upd (s : State) (f : TwaRt → TwaRt) : (s.updTwa f).upd = s.upd := rfl
@[simp] theorem State.updTwa_origin (s : State) (f : TwaRt → TwaRt) : (s.updTwa f).origin = s.origin := rfl
@[simp] theorem State.updTwa_dies (s : State) (f : TwaRt → TwaRt) : (s.updTwa f).dies = s.dies := rfl
@[simp] theorem State.updTwa_free (s : State) (f : TwaRt → TwaRt) : (s.updTwa f).free = s.free := rfl
@[simp] theorem State.updTwa_pending (s : State) (f : TwaRt → TwaRt) : (s.updTwa f).pending = s.pending := rfl

/-! ### updTwb -/
@[simp] theorem State.updTwb_part (s : State) (f : TwbRt → TwbRt) : (s.updTwb f).part = s.part := rfl
@[simp] theorem State.updTwb_serial (s : State) (f : TwbRt → TwbRt) : (s.updTwb f).serial = s.serial := rfl
@[simp] theorem State.updTwb_root (s : State) (f : TwbRt → TwbRt) : (s.updTwb f).root = s.root := rfl
@[simp] theorem State.updTwb_now (s : State) (f : TwbRt → TwbRt) : (s.updTwb f).now = s.now := rfl
@[simp] theorem State.updTwb_md (s : State) (f : TwbRt → TwbRt) : (s.updTwb f).md = s.md := rfl
@[simp] theorem State.updTwb_vest (s : State) (f : TwbRt → TwbRt) : (s.updTwb f).vest = s.vest := rfl
@[simp] theorem State.updTwb_nand (s : State) (f : TwbRt → TwbRt) : (s.updTwb f).nand = s.nand := rfl
@[simp] theorem State.updTwb_dict (s : State) (f : TwbRt → TwbRt) : (s.updTwb f).dict = s.dict := rfl
@[simp] theorem State.updTwb_safetySet (s : State) (f : TwbRt → TwbRt) : (s.updTwb f).safetySet = s.safetySet := rfl
@[simp] theorem State.updTwb_sreqs (s : State) (f : TwbRt → TwbRt) : (s.updTwb f).sreqs = s.sreqs := rfl
@[simp] theorem State.updTwb_paused (s : State) (f : TwbRt → TwbRt) : (s.updTwb f).paused = s.paused := rfl
@[simp] theorem State.updTwb_serveNow (s : State) (f : TwbRt → TwbRt) : (s.updTwb f).serveNow = s.serveNow := rfl
@[simp] theorem State.updTwb_last (s : State) (f : TwbRt → TwbRt) : (s.updTwb f).last = s.last := rfl
@[simp] theorem State.updTwb_sramOut (s : State) (f : TwbRt → TwbRt) : (s.updTwb f).sramOut = s.sramOut := rfl
@[simp] theorem State.updTwb_sched (s : State) (f : TwbRt → TwbRt) : (s.updTwb f).sched = s.sched := rfl
@[simp] theorem State.updTwb_recd (s : State) (f : TwbRt → TwbRt) : (s.updTwb f).recd = s.recd := rfl
@[simp] theorem State.updTwb_safe (s : State) (f : TwbRt → TwbRt) : (s.updTwb f).safe = s.safe := rfl
@[simp] theorem State.updTwb_gal (s : State) (f : TwbRt → TwbRt) : (s.updTwb f).gal = s.gal := rfl
@[simp] theorem State.updTwb_red (s : State) (f : TwbRt → TwbRt) : (s.updTwb f).red = s.red := rfl
@[simp] theorem State.updTwb_arc (s : State) (f : TwbRt → TwbRt) : (s.updTwb f).arc = s.arc := rfl
@[simp] theorem State.updTwb_time (s : State) (f : TwbRt → TwbRt) : (s.updTwb f).time = s.time := rfl
@[simp] theorem State.updTwb_disp (s : State) (f : TwbRt → TwbRt) : (s.updTwb f).disp = s.disp := rfl
@[simp] theorem State.updTwb_chans (s : State) (f : TwbRt → TwbRt) : (s.updTwb f).chans = s.chans := rfl
@[simp] theorem State.updTwb_vloopAt (s : State) (f : TwbRt → TwbRt) : (s.updTwb f).vloopAt = s.vloopAt := rfl
@[simp] theorem State.updTwb_cans (s : State) (f : TwbRt → TwbRt) : (s.updTwb f).cans = s.cans := rfl
@[simp] theorem State.updTwb_beatAt (s : State) (f : TwbRt → TwbRt) : (s.updTwb f).beatAt = s.beatAt := rfl
@[simp] theorem State.updTwb_twa (s : State) (f : TwbRt → TwbRt) : (s.updTwb f).twa = s.twa := rfl
@[simp] theorem State.updTwb_twb (s : State) (f : TwbRt → TwbRt) : (s.updTwb f).twb = f s.twb := rfl
@[simp] theorem State.updTwb_upd (s : State) (f : TwbRt → TwbRt) : (s.updTwb f).upd = s.upd := rfl
@[simp] theorem State.updTwb_origin (s : State) (f : TwbRt → TwbRt) : (s.updTwb f).origin = s.origin := rfl
@[simp] theorem State.updTwb_dies (s : State) (f : TwbRt → TwbRt) : (s.updTwb f).dies = s.dies := rfl
@[simp] theorem State.updTwb_free (s : State) (f : TwbRt → TwbRt) : (s.updTwb f).free = s.free := rfl
@[simp] theorem State.updTwb_pending (s : State) (f : TwbRt → TwbRt) : (s.updTwb f).pending = s.pending := rfl

/-! ### updUpd -/
@[simp] theorem State.updUpd_part (s : State) (f : UpdRt → UpdRt) : (s.updUpd f).part = s.part := rfl
@[simp] theorem State.updUpd_serial (s : State) (f : UpdRt → UpdRt) : (s.updUpd f).serial = s.serial := rfl
@[simp] theorem State.updUpd_root (s : State) (f : UpdRt → UpdRt) : (s.updUpd f).root = s.root := rfl
@[simp] theorem State.updUpd_now (s : State) (f : UpdRt → UpdRt) : (s.updUpd f).now = s.now := rfl
@[simp] theorem State.updUpd_md (s : State) (f : UpdRt → UpdRt) : (s.updUpd f).md = s.md := rfl
@[simp] theorem State.updUpd_vest (s : State) (f : UpdRt → UpdRt) : (s.updUpd f).vest = s.vest := rfl
@[simp] theorem State.updUpd_nand (s : State) (f : UpdRt → UpdRt) : (s.updUpd f).nand = s.nand := rfl
@[simp] theorem State.updUpd_dict (s : State) (f : UpdRt → UpdRt) : (s.updUpd f).dict = s.dict := rfl
@[simp] theorem State.updUpd_safetySet (s : State) (f : UpdRt → UpdRt) : (s.updUpd f).safetySet = s.safetySet := rfl
@[simp] theorem State.updUpd_sreqs (s : State) (f : UpdRt → UpdRt) : (s.updUpd f).sreqs = s.sreqs := rfl
@[simp] theorem State.updUpd_paused (s : State) (f : UpdRt → UpdRt) : (s.updUpd f).paused = s.paused := rfl
@[simp] theorem State.updUpd_serveNow (s : State) (f : UpdRt → UpdRt) : (s.updUpd f).serveNow = s.serveNow := rfl
@[simp] theorem State.updUpd_last (s : State) (f : UpdRt → UpdRt) : (s.updUpd f).last = s.last := rfl
@[simp] theorem State.updUpd_sramOut (s : State) (f : UpdRt → UpdRt) : (s.updUpd f).sramOut = s.sramOut := rfl
@[simp] theorem State.updUpd_sched (s : State) (f : UpdRt → UpdRt) : (s.updUpd f).sched = s.sched := rfl
@[simp] theorem State.updUpd_recd (s : State) (f : UpdRt → UpdRt) : (s.updUpd f).recd = s.recd := rfl
@[simp] theorem State.updUpd_safe (s : State) (f : UpdRt → UpdRt) : (s.updUpd f).safe = s.safe := rfl
@[simp] theorem State.updUpd_gal (s : State) (f : UpdRt → UpdRt) : (s.updUpd f).gal = s.gal := rfl
@[simp] theorem State.updUpd_red (s : State) (f : UpdRt → UpdRt) : (s.updUpd f).red = s.red := rfl
@[simp] theorem State.updUpd_arc (s : State) (f : UpdRt → UpdRt) : (s.updUpd f).arc = s.arc := rfl
@[simp] theorem State.updUpd_time (s : State) (f : UpdRt → UpdRt) : (s.updUpd f).time = s.time := rfl
@[simp] theorem State.updUpd_disp (s : State) (f : UpdRt → UpdRt) : (s.updUpd f).disp = s.disp := rfl
@[simp] theorem State.updUpd_chans (s : State) (f : UpdRt → UpdRt) : (s.updUpd f).chans = s.chans := rfl
@[simp] theorem State.updUpd_vloopAt (s : State) (f : UpdRt → UpdRt) : (s.updUpd f).vloopAt = s.vloopAt := rfl
@[simp] theorem State.updUpd_cans (s : State) (f : UpdRt → UpdRt) : (s.updUpd f).cans = s.cans := rfl
@[simp] theorem State.updUpd_beatAt (s : State) (f : UpdRt → UpdRt) : (s.updUpd f).beatAt = s.beatAt := rfl
@[simp] theorem State.updUpd_twa (s : State) (f : UpdRt → UpdRt) : (s.updUpd f).twa = s.twa := rfl
@[simp] theorem State.updUpd_twb (s : State) (f : UpdRt → UpdRt) : (s.updUpd f).twb = s.twb := rfl
@[simp] theorem State.updUpd_upd (s : State) (f : UpdRt → UpdRt) : (s.updUpd f).upd = f s.upd := rfl
@[simp] theorem State.updUpd_origin (s : State) (f : UpdRt → UpdRt) : (s.updUpd f).origin = s.origin := rfl
@[simp] theorem State.updUpd_dies (s : State) (f : UpdRt → UpdRt) : (s.updUpd f).dies = s.dies := rfl
@[simp] theorem State.updUpd_free (s : State) (f : UpdRt → UpdRt) : (s.updUpd f).free = s.free := rfl
@[simp] theorem State.updUpd_pending (s : State) (f : UpdRt → UpdRt) : (s.updUpd f).pending = s.pending := rfl

/-! ### reply -/
@[simp] theorem State.reply_part (s : State) (r : Reply) : (s.reply r).part = s.part := rfl
@[simp] theorem State.reply_serial (s : State) (r : Reply) : (s.reply r).serial = s.serial := rfl
@[simp] theorem State.reply_root (s : State) (r : Reply) : (s.reply r).root = s.root := rfl
@[simp] theorem State.reply_now (s : State) (r : Reply) : (s.reply r).now = s.now := rfl
@[simp] theorem State.reply_md (s : State) (r : Reply) : (s.reply r).md = s.md := rfl
@[simp] theorem State.reply_vest (s : State) (r : Reply) : (s.reply r).vest = s.vest := rfl
@[simp] theorem State.reply_nand (s : State) (r : Reply) : (s.reply r).nand = s.nand := rfl
@[simp] theorem State.reply_dict (s : State) (r : Reply) : (s.reply r).dict = s.dict := rfl
@[simp] theorem State.reply_safetySet (s : State) (r : Reply) : (s.reply r).safetySet = s.safetySet := rfl
@[simp] theorem State.reply_sreqs (s : State) (r : Reply) : (s.reply r).sreqs = s.sreqs := rfl
@[simp] theorem State.reply_paused (s : State) (r : Reply) : (s.reply r).paused = s.paused := rfl
@[simp] theorem State.reply_serveNow (s : State) (r : Reply) : (s.reply r).serveNow = s.serveNow := rfl
@[simp] theorem State.reply_last (s : State) (r : Reply) : (s.reply r).last = some r := rfl
@[simp] theorem State.reply_sramOut (s : State) (r : Reply) : (s.reply r).sramOut = s.sramOut := rfl
@[simp] theorem State.reply_sched (s : State) (r : Reply) : (s.reply r).sched = s.sched := rfl
@[simp] theorem State.reply_recd (s : State) (r : Reply) : (s.reply r).recd = s.recd := rfl
@[simp] theorem State.reply_safe (s : State) (r : Reply) : (s.reply r).safe = s.safe := rfl
@[simp] theorem State.reply_gal (s : State) (r : Reply) : (s.reply r).gal = s.gal := rfl
@[simp] theorem State.reply_red (s : State) (r : Reply) : (s.reply r).red = s.red := rfl
@[simp] theorem State.reply_arc (s : State) (r : Reply) : (s.reply r).arc = s.arc := rfl
@[simp] theorem State.reply_time (s : State) (r : Reply) : (s.reply r).time = s.time := rfl
@[simp] theorem State.reply_disp (s : State) (r : Reply) : (s.reply r).disp = s.disp := rfl
@[simp] theorem State.reply_chans (s : State) (r : Reply) : (s.reply r).chans = s.chans := rfl
@[simp] theorem State.reply_vloopAt (s : State) (r : Reply) : (s.reply r).vloopAt = s.vloopAt := rfl
@[simp] theorem State.reply_cans (s : State) (r : Reply) : (s.reply r).cans = s.cans := rfl
@[simp] theorem State.reply_beatAt (s : State) (r : Reply) : (s.reply r).beatAt = s.beatAt := rfl
@[simp] theorem State.reply_twa (s : State) (r : Reply) : (s.reply r).twa = s.twa := rfl
@[simp] theorem State.reply_twb (s : State) (r : Reply) : (s.reply r).twb = s.twb := rfl
@[simp] theorem State.reply_upd (s : State) (r : Reply) : (s.reply r).upd = s.upd := rfl
@[simp] theorem State.reply_origin (s : State) (r : Reply) : (s.reply r).origin = s.origin := rfl
@[simp] theorem State.reply_dies (s : State) (r : Reply) : (s.reply r).dies = s.dies := rfl
@[simp] theorem State.reply_free (s : State) (r : Reply) : (s.reply r).free = s.free := rfl
@[simp] theorem State.reply_pending (s : State) (r : Reply) : (s.reply r).pending = s.pending := rfl

/-! ### Sparse maps -/

@[simp] theorem SMap.find?_erase_same {V : Type} (m : SMap V) (x : Nat) : SMap.find? (SMap.erase m x) x = none := by
  induction m with
  | nil => rfl
  | cons e m ih =>
    obtain ⟨k, v⟩ := e
    unfold SMap.erase
    split
    · exact ih
    · next h => simp [SMap.find?, h, ih]

theorem SMap.find?_erase_other {V : Type} (m : SMap V) {x y : Nat} (h : y ≠ x) : SMap.find? (SMap.erase m x) y = SMap.find? m y := by
  induction m with
  | nil => rfl
  | cons e m ih =>
    obtain ⟨k, v⟩ := e
    unfold SMap.erase
    split
    · next hk => subst hk; simp [SMap.find?, h, ih]
    · simp [SMap.find?, ih]

@[simp] theorem SMap.find?_put_same {V : Type} (m : SMap V) (x : Nat) (v : V) : SMap.find? (SMap.put m x v) x = some v := by
  induction m with
  | nil => simp [SMap.put, SMap.find?]
  | cons e m ih =>
    obtain ⟨k, w⟩ := e
    unfold SMap.put
    split
    · simp [SMap.find?]
    · split
      · simp [SMap.find?]
      · next h _ => simp [SMap.find?, h, ih]

theorem SMap.find?_put_other {V : Type} (m : SMap V) {x y : Nat} (v : V) (h : y ≠ x) :
    SMap.find? (SMap.put m x v) y = SMap.find? m y := by
  induction m with
  | nil => simp [SMap.put, SMap.find?, h]
  | cons e m ih =>
    obtain ⟨k, w⟩ := e
    unfold SMap.put
    split
    · next hk => subst hk; simp [SMap.find?, h]
    · split
      · simp [SMap.find?, h]
      · simp [SMap.find?, ih]

/-- What a written key reads as: the value written. -/
@[simp] theorem SMap.get_set_same {V : Type} [DecidableEq V] (d : Nat → V) (m : SMap V) (x : Nat) (v : V) :
    SMap.get d (SMap.set d m x v) x = v := by
  unfold SMap.get SMap.set
  split <;> simp [*]

/-- A write leaves every other key alone. -/
theorem SMap.get_set_other {V : Type} [DecidableEq V] (d : Nat → V) (m : SMap V) {x y : Nat} (v : V) (h : y ≠ x) :
    SMap.get d (SMap.set d m x v) y = SMap.get d m y := by
  unfold SMap.get SMap.set
  split
  · rw [SMap.find?_erase_other m h]
  · rw [SMap.find?_put_other m v h]

/-! ### The canonical form -/

/-- Every key lies above a bound. -/
def SMap.above {V : Type} (m : SMap V) (b : Nat) : Prop := ∀ e ∈ m, b < e.1

theorem SMap.sorted_cons {V : Type} (k : Nat) (v : V) (m : SMap V) :
    SMap.sorted ((k, v) :: m) = true ↔ SMap.above m k ∧ SMap.sorted m = true := by
  induction m generalizing k v with
  | nil => simp [SMap.sorted, SMap.above]
  | cons e m ih =>
    obtain ⟨k', v'⟩ := e
    constructor
    · intro h
      simp only [SMap.sorted, Bool.and_eq_true, decide_eq_true_eq] at h
      obtain ⟨hk, hm⟩ := h
      have hm' : SMap.sorted ((k', v') :: m) = true := by simpa [SMap.sorted] using hm
      refine ⟨?_, hm'⟩
      intro e he
      rcases List.mem_cons.mp he with rfl | he
      · exact hk
      · exact Nat.lt_trans hk (((ih k' v').mp hm').1 e he)
    · intro h
      simp only [SMap.sorted, Bool.and_eq_true, decide_eq_true_eq]
      refine ⟨h.1 (k', v') (List.mem_cons_self ..), ?_⟩
      simpa [SMap.sorted] using h.2

theorem SMap.above_erase {V : Type} {m : SMap V} {b : Nat} (x : Nat) (h : SMap.above m b) : SMap.above (SMap.erase m x) b := by
  induction m with
  | nil => exact h
  | cons e m ih =>
    obtain ⟨k, v⟩ := e
    have ht : SMap.above m b := fun e he => h e (List.mem_cons_of_mem _ he)
    unfold SMap.erase
    split
    · exact ih ht
    · intro e he
      rcases List.mem_cons.mp he with rfl | he
      · exact h (k, v) (List.mem_cons_self ..)
      · exact ih ht e he

theorem SMap.above_put {V : Type} {m : SMap V} {b x : Nat} (v : V) (hx : b < x) (h : SMap.above m b) : SMap.above (SMap.put m x v) b := by
  induction m with
  | nil => intro e he; rcases List.mem_cons.mp he with rfl | he; exact hx; cases he
  | cons e m ih =>
    obtain ⟨k, w⟩ := e
    have ht : SMap.above m b := fun e he => h e (List.mem_cons_of_mem _ he)
    have hk : b < k := h (k, w) (List.mem_cons_self ..)
    unfold SMap.put
    split
    · intro e he
      rcases List.mem_cons.mp he with rfl | he
      · exact hx
      · exact ht e he
    · split
      · intro e he
        rcases List.mem_cons.mp he with rfl | he
        · exact hx
        · exact h e he
      · intro e he
        rcases List.mem_cons.mp he with rfl | he
        · exact hk
        · exact ih ht e he

theorem SMap.sorted_erase {V : Type} {m : SMap V} (x : Nat) (h : SMap.sorted m = true) : SMap.sorted (SMap.erase m x) = true := by
  induction m with
  | nil => rfl
  | cons e m ih =>
    obtain ⟨k, v⟩ := e
    obtain ⟨ha, hs⟩ := (SMap.sorted_cons k v m).mp h
    unfold SMap.erase
    split
    · exact ih hs
    · exact (SMap.sorted_cons ..).mpr ⟨SMap.above_erase x ha, ih hs⟩

theorem SMap.sorted_put {V : Type} {m : SMap V} (x : Nat) (v : V) (h : SMap.sorted m = true) : SMap.sorted (SMap.put m x v) = true := by
  induction m with
  | nil => rfl
  | cons e m ih =>
    obtain ⟨k, w⟩ := e
    obtain ⟨ha, hs⟩ := (SMap.sorted_cons k w m).mp h
    unfold SMap.put
    split
    · next hk => subst hk; exact (SMap.sorted_cons ..).mpr ⟨ha, hs⟩
    · split
      · next _ hk =>
        refine (SMap.sorted_cons ..).mpr ⟨?_, h⟩
        intro e he
        rcases List.mem_cons.mp he with rfl | he
        · exact hk
        · exact Nat.lt_trans hk (ha e he)
      · next h1 h2 => exact (SMap.sorted_cons ..).mpr ⟨SMap.above_put v (by omega) ha, ih hs⟩

theorem SMap.mem_erase {V : Type} {m : SMap V} {x : Nat} {e : Nat × V} (h : e ∈ SMap.erase m x) : e ∈ m := by
  induction m with
  | nil => exact h
  | cons a m ih =>
    obtain ⟨k, v⟩ := a
    unfold SMap.erase at h
    split at h
    · exact List.mem_cons_of_mem _ (ih h)
    · rcases List.mem_cons.mp h with rfl | h
      · exact List.mem_cons_self ..
      · exact List.mem_cons_of_mem _ (ih h)

theorem SMap.mem_put {V : Type} {m : SMap V} {x : Nat} {v : V} {e : Nat × V} (h : e ∈ SMap.put m x v) : e = (x, v) ∨ e ∈ m := by
  induction m with
  | nil => exact .inl (by simpa [SMap.put] using h)
  | cons a m ih =>
    obtain ⟨k, w⟩ := a
    unfold SMap.put at h
    split at h
    · rcases List.mem_cons.mp h with rfl | h
      · exact .inl rfl
      · exact .inr (List.mem_cons_of_mem _ h)
    · split at h
      · rcases List.mem_cons.mp h with rfl | h
        · exact .inl rfl
        · exact .inr h
      · rcases List.mem_cons.mp h with rfl | h
        · exact .inr (List.mem_cons_self ..)
        · rcases ih h with h | h
          · exact .inl h
          · exact .inr (List.mem_cons_of_mem _ h)

/-- A write keeps the canonical form. -/
theorem SMap.wf_set {V : Type} [DecidableEq V] (d : Nat → V) {m : SMap V} (x : Nat) (v : V) (h : SMap.wf d m = true) :
    SMap.wf d (SMap.set d m x v) = true := by
  simp only [SMap.wf, Bool.and_eq_true, List.all_eq_true, decide_eq_true_eq] at h ⊢
  unfold SMap.set
  split
  · exact ⟨SMap.sorted_erase x h.1, fun e he => h.2 e (SMap.mem_erase he)⟩
  · next hv =>
    refine ⟨SMap.sorted_put x v h.1, fun e he => ?_⟩
    rcases SMap.mem_put he with rfl | he
    · exact hv
    · exact h.2 e he

/-- Dropping entries keeps the canonical form. -/
theorem SMap.wf_filter {V : Type} [DecidableEq V] (d : Nat → V) {m : SMap V} (p : Nat × V → Bool) (h : SMap.wf d m = true) :
    SMap.wf d (m.filter p) = true := by
  simp only [SMap.wf, Bool.and_eq_true, List.all_eq_true, decide_eq_true_eq] at h ⊢
  refine ⟨?_, fun e he => h.2 e (List.mem_of_mem_filter he)⟩
  have hs := h.1
  clear h
  induction m with
  | nil => rfl
  | cons a m ih =>
    obtain ⟨k, v⟩ := a
    obtain ⟨ha, hm⟩ := (SMap.sorted_cons k v m).mp hs
    rw [List.filter_cons]
    split
    · exact (SMap.sorted_cons ..).mpr ⟨fun e he => ha e (List.mem_of_mem_filter he), ih hm⟩
    · exact ih hm

/-! ### Objects -/

/-- What an object reads as after a write of it or of another. -/
theorem State.val_put (s : State) (k k' : Nat) (v : Val) : (s.put k v).val k' = if k' = k then v else s.val k' := by
  by_cases h : k' = k
  · subst h; simp [State.val]
  · simp [State.val, h, SMap.get_set_other dfltOf s.dict v h]

@[simp] theorem State.val_put_same (s : State) (k : Nat) (v : Val) : (s.put k v).val k = v := by simp [State.val_put]
@[simp] theorem State.getN_setN_same (s : State) (k x : Nat) : (s.setN k x).getN k = x := by simp [State.getN, State.setN, Val.toN]

theorem State.getN_setN (s : State) (k k' x : Nat) : (s.setN k x).getN k' = if k' = k then x else s.getN k' := by
  simp only [State.getN, State.setN, State.val_put]
  split <;> rfl

theorem State.getN_setN_other (s : State) {k k' : Nat} (x : Nat) (h : k' ≠ k) : (s.setN k x).getN k' = s.getN k' := by
  simp [State.getN_setN, h]

/-! ### Lists by position -/

@[simp] theorem modAt_length {α : Type} (l : List α) (n : Nat) (f : α → α) : (modAt l n f).length = l.length := by
  induction l generalizing n with
  | nil => cases n <;> rfl
  | cons a l ih => cases n <;> simp [modAt, ih]

theorem modAt_getElem? {α : Type} (l : List α) (n k : Nat) (f : α → α) :
    (modAt l n f)[k]? = if k = n then (l[k]?).map f else l[k]? := by
  induction l generalizing n k with
  | nil => cases n <;> simp [modAt]
  | cons a l ih =>
    cases n with
    | zero => cases k <;> simp [modAt]
    | succ n => cases k <;> simp [modAt, ih]

theorem modAt_getD {α : Type} (l : List α) (n k : Nat) (f : α → α) (d : α) :
    (modAt l n f).getD k d = if k = n ∧ k < l.length then f (l.getD k d) else l.getD k d := by
  rw [List.getD_eq_getElem?_getD, List.getD_eq_getElem?_getD, modAt_getElem?]
  by_cases h : k = n
  · by_cases hl : k < l.length
    · simp [h, h ▸ hl]
    · simp [h, h ▸ hl]
  · simp [h]

/-- Gallery m after Gallery n is changed. -/
theorem State.g_updG (s : State) (n m : Nat) (f : Gallery → Gallery) :
    (s.updG n f).g m = if m = n ∧ m < s.gal.length then f (s.g m) else s.g m :=
  modAt_getD s.gal n m f {}

/-- Port q after port p is changed. -/
theorem State.can_updCan (s : State) (p q : Nat) (f : CanRt → CanRt) :
    (s.updCan p f).can q = if q = p ∧ q < s.cans.length then f (s.can q) else s.can q :=
  modAt_getD s.cans p q f {}

end Sys2Proof.Machine
end

