-- ==== Sys2Proof/Laws/Ops.lean ====
section
/-! SUPPORT. What each shared operation can do: accesses of objects, memories, changes of one part of the state, records. -/
namespace Sys2Proof.Machine

/-! ### Accesses (R80, R98, R99) -/

/-- An access taken at once runs. -/
theorem State.classS_atOnce {s : State} {p : Path} {index sub : Nat} {w : Bool} (h : s.atOnce p) (d : List Byte)
    (run : State → State) : s.classS p w index sub d run = run s := by
  simp [State.classS, h.1, h.2]

/-- Everything that the admission of an access can do: no answer, a refusal as busy, a place in the queues, or the access itself. -/
theorem State.classS_cases (s : State) (p : Path) (w : Bool) (index sub : Nat) (d : List Byte) (run : State → State) :
    s.classS p w index sub d run = s.reply .silent ∨ s.classS p w index sub d run = s.busy ∨
    (∃ r : SReq, s.classS p w index sub d run = State.reply { s with sreqs := s.sreqs ++ [r] } .queued) ∨
    s.classS p w index sub d run = run s := by
  unfold State.classS
  split
  · exact .inl rfl
  · split
    · unfold State.queueUp
      dsimp only
      split
      · exact .inr (.inl rfl)
      · exact .inr (.inr (.inl ⟨_, rfl⟩))
    · exact .inr (.inr (.inr rfl))

/-- A write taken at once does what its effect does. -/
theorem State.write_taken {s : State} {p : Path} {index sub : Nat} {d : List Byte} {v : Val} (h : s.takesWrite p index sub d v)
    (eff : Val → State → Except Nat State) :
    s.write p index sub d eff = match eff v s with
      | .error c => s.reply (.abort c)
      | .ok t => t.reply (.ok []) := by
  obtain ⟨ha, r, hr⟩ := h
  rw [State.write, State.classS_atOnce ha, hr]
  all_goals (cases he : eff v s <;> simp [he])

theorem State.write_ok {s t : State} {p : Path} {index sub : Nat} {d : List Byte} {v : Val} (h : s.takesWrite p index sub d v)
    {eff : Val → State → Except Nat State} (he : eff v s = .ok t) : s.write p index sub d eff = t.reply (.ok []) := by
  rw [State.write_taken h, he]

theorem State.write_refused {s : State} {p : Path} {index sub : Nat} {d : List Byte} {v : Val} {c : Nat} (h : s.takesWrite p index sub d v)
    {eff : Val → State → Except Nat State} (he : eff v s = .error c) : s.write p index sub d eff = s.reply (.abort c) := by
  rw [State.write_taken h, he]

/-- Everything that a write can do. -/
theorem State.write_cases (s : State) (p : Path) (index sub : Nat) (d : List Byte) (eff : Val → State → Except Nat State) :
    s.write p index sub d eff = s.reply .silent ∨ s.write p index sub d eff = s.busy ∨
    (∃ r : SReq, s.write p index sub d eff = State.reply { s with sreqs := s.sreqs ++ [r] } .queued) ∨
    (∃ c, s.write p index sub d eff = s.reply (.abort c)) ∨
    ∃ v r t, checkWrite s p index sub d = .ok (v, r) ∧ eff v s = .ok t ∧ s.write p index sub d eff = t.reply (.ok []) := by
  obtain ⟨run, h1, h2⟩ : ∃ run, s.write p index sub d eff = s.classS p true index sub d run ∧ run s = (match checkWrite s p index sub d with
    | .error c => s.reply (.abort c)
    | .ok (v, _) => match eff v s with
      | .error c => s.reply (.abort c)
      | .ok t => t.reply (.ok [])) := ⟨_, rfl, rfl⟩
  rw [h1]
  rcases State.classS_cases s p true index sub d run with h | h | h | h
  · exact .inl h
  · exact .inr (.inl h)
  · exact .inr (.inr (.inl h))
  · rw [h, h2]
    cases hc : checkWrite s p index sub d with
    | error c => exact .inr (.inr (.inr (.inl ⟨c, rfl⟩)))
    | ok vr =>
      obtain ⟨v, r⟩ := vr
      cases he : eff v s with
      | error c => exact .inr (.inr (.inr (.inl ⟨c, by simp [he]⟩)))
      | ok t => exact .inr (.inr (.inr (.inr ⟨v, r, t, rfl, he, by simp [he]⟩)))

/-- A write taken at once whose refusal may leave a mark. -/
theorem State.writeX_taken {s : State} {p : Path} {index sub : Nat} {d : List Byte} {v : Val} (h : s.takesWrite p index sub d v)
    (eff : Val → State → Option Nat × State) :
    s.writeX p index sub d eff = match eff v s with
      | (some c, t) => t.reply (.abort c)
      | (none, t) => t.reply (.ok []) := by
  obtain ⟨ha, r, hr⟩ := h
  rw [State.writeX, State.classS_atOnce ha, hr]
  all_goals (rcases he : eff v s with ⟨_ | _, _⟩ <;> simp [he])

/-- Everything that such a write can do. -/
theorem State.writeX_cases (s : State) (p : Path) (index sub : Nat) (d : List Byte) (eff : Val → State → Option Nat × State) :
    s.writeX p index sub d eff = s.reply .silent ∨ s.writeX p index sub d eff = s.busy ∨
    (∃ r : SReq, s.writeX p index sub d eff = State.reply { s with sreqs := s.sreqs ++ [r] } .queued) ∨
    (∃ c, s.writeX p index sub d eff = s.reply (.abort c)) ∨
    ∃ v r, checkWrite s p index sub d = .ok (v, r) ∧
      ((∃ c, s.writeX p index sub d eff = (eff v s).2.reply (.abort c)) ∨ s.writeX p index sub d eff = (eff v s).2.reply (.ok [])) := by
  obtain ⟨run, h1, h2⟩ : ∃ run, s.writeX p index sub d eff = s.classS p true index sub d run ∧ run s = (match checkWrite s p index sub d with
    | .error c => s.reply (.abort c)
    | .ok (v, _) => match eff v s with
      | (some c, t) => t.reply (.abort c)
      | (none, t) => t.reply (.ok [])) := ⟨_, rfl, rfl⟩
  rw [h1]
  rcases State.classS_cases s p true index sub d run with h | h | h | h
  · exact .inl h
  · exact .inr (.inl h)
  · exact .inr (.inr (.inl h))
  · rw [h, h2]
    cases hc : checkWrite s p index sub d with
    | error c => exact .inr (.inr (.inr (.inl ⟨c, rfl⟩)))
    | ok vr =>
      obtain ⟨v, r⟩ := vr
      refine .inr (.inr (.inr (.inr ⟨v, r, rfl, ?_⟩)))
      rcases he : eff v s with ⟨c | c, t⟩
      · exact .inr (by simp [he])
      · exact .inl ⟨c, by simp [he]⟩

/-- A read taken at once answers what the object gives. -/
theorem State.readWith_taken {s : State} {p : Path} {index sub : Nat} (h : s.takesRead p index sub)
    (f : State → Except Nat (List Byte × State)) :
    s.readWith p index sub f = match f s with
      | .error c => s.reply (.abort c)
      | .ok (d, t) => t.reply (.ok d) := by
  obtain ⟨ha, hi, r, hr, h1, h2⟩ := h
  rw [State.readWith, State.classS_atOnce ha]
  rcases hf : f s with c | ⟨d, t⟩ <;> simp [hi, hr, h1, h2]

/-- Everything that a read can do. -/
theorem State.readWith_cases (s : State) (p : Path) (index sub : Nat) (f : State → Except Nat (List Byte × State)) :
    s.readWith p index sub f = s.reply .silent ∨ s.readWith p index sub f = s.busy ∨
    (∃ r : SReq, s.readWith p index sub f = State.reply { s with sreqs := s.sreqs ++ [r] } .queued) ∨
    (∃ c, s.readWith p index sub f = s.reply (.abort c)) ∨
    ∃ d t, f s = .ok (d, t) ∧ s.readWith p index sub f = t.reply (.ok d) := by
  obtain ⟨run, h1, h2⟩ : ∃ run, s.readWith p index sub f = s.classS p false index sub [] run ∧ run s = (if !s.hasIndex index then s.reply (.abort abortNoObj)
    else match rowOf index sub with
      | none => s.reply (.abort abortNoSub)
      | some r =>
        if decide (r.acc = .wo) || decide (r.acc = .key) then s.reply (.abort abortWo)
        else match f s with
          | .error c => s.reply (.abort c)
          | .ok (d, t) => t.reply (.ok d)) := ⟨_, rfl, rfl⟩
  rw [h1]
  rcases State.classS_cases s p false index sub [] run with h | h | h | h
  · exact .inl h
  · exact .inr (.inl h)
  · exact .inr (.inr (.inl h))
  · rw [h, h2]
    refine .inr (.inr (.inr ?_))
    split
    · exact .inl ⟨_, rfl⟩
    · split
      · exact .inl ⟨_, rfl⟩
      · split
        · exact .inl ⟨_, rfl⟩
        · split
          · exact .inl ⟨_, rfl⟩
          · next d t he => exact .inr ⟨d, t, he, rfl⟩

/-! ### Loops over the Galleries -/

/-- A loop over Galleries keeps what each round keeps. -/
theorem State.forGal_keeps {P : State → Prop} {f : Nat → State → State} (hf : ∀ n t, P t → P (f n t)) {s : State} (h : P s) :
    P (s.forGal f) := by
  have key : ∀ (l : List Nat) (t : State), P t → P (l.foldl (fun t n => f n t) t) := by
    intro l
    induction l with
    | nil => exact fun t ht => ht
    | cons n l ih => exact fun t ht => ih _ (hf n t ht)
  exact key _ _ h

/-! ### The invariant and the named operations -/

/-- Two states that agree on what the invariant reads. -/
theorem State.Inv.congr {s t : State} (h : s.Inv) (hd : t.dict = s.dict) (hg : t.gal = s.gal) (hm : t.twb.mem = s.twb.mem)
    (hch : t.chans = s.chans) (hcan : t.cans = s.cans) (hs : t.safe = s.safe) (hw : t.twa = s.twa) (hn : t.nand = s.nand)
    (hu : t.upd = s.upd) : t.Inv := by
  unfold State.Inv State.canonical State.shaped at *
  rw [hd, hg, hm, hch, hcan, hs, hw, hn, hu]
  exact h

theorem State.Inv.reply {s : State} (h : s.Inv) (r : Reply) : (s.reply r).Inv := h.congr rfl rfl rfl rfl rfl rfl rfl rfl rfl
theorem State.Inv.updMd {s : State} (h : s.Inv) (f : ModeRt → ModeRt) : (s.updMd f).Inv := h.congr rfl rfl rfl rfl rfl rfl rfl rfl rfl
theorem State.Inv.updVest {s : State} (h : s.Inv) (f : Vestibule → Vestibule) : (s.updVest f).Inv :=
  h.congr rfl rfl rfl rfl rfl rfl rfl rfl rfl
theorem State.Inv.updRec {s : State} (h : s.Inv) (f : RecorderRt → RecorderRt) : (s.updRec f).Inv :=
  h.congr rfl rfl rfl rfl rfl rfl rfl rfl rfl

/-- A write of an object keeps the dictionary's canonical form, and so the invariant. -/
theorem State.Inv.put {s : State} (h : s.Inv) (k : Nat) (v : Val) : (s.put k v).Inv :=
  ⟨⟨SMap.wf_set dfltOf k v h.1.1, h.1.2⟩, h.2⟩
theorem State.Inv.setN {s : State} (h : s.Inv) (k x : Nat) : (s.setN k x).Inv := h.put k _
theorem State.Inv.setI {s : State} (h : s.Inv) (k : Nat) (x : Int) : (s.setI k x).Inv := h.put k _
theorem State.Inv.setR {s : State} (h : s.Inv) (k : Nat) (x : Option Q) : (s.setR k x).Inv := h.put k _
theorem State.Inv.setB {s : State} (h : s.Inv) (k : Nat) (x : List Byte) : (s.setB k x).Inv := h.put k _
theorem State.Inv.inc {s : State} (h : s.Inv) (k : Nat) : (s.inc k).Inv := h.put k _
theorem State.Inv.addTo {s : State} (h : s.Inv) (k d : Nat) : (s.addTo k d).Inv := h.put k _
theorem State.Inv.setFlag {s : State} (h : s.Inv) (k i : Nat) (b : Bool) : (s.setFlag k i b).Inv := h.put k _
theorem State.Inv.raise {s : State} (h : s.Inv) (k i : Nat) : (s.raise k i).Inv := h.put k _
theorem State.Inv.clear {s : State} (h : s.Inv) (k m : Nat) : (s.clear k m).Inv := h.put k _

/-- Returning objects to their defaults keeps the canonical form. -/
theorem State.Inv.filterDict {s : State} (h : s.Inv) (f : Nat × Val → Bool) : State.Inv { s with dict := s.dict.filter f } :=
  ⟨⟨SMap.wf_filter dfltOf f h.1.1, h.1.2⟩, h.2⟩

theorem modAt_mem {α : Type} {l : List α} {n : Nat} {f : α → α} {a : α} (h : a ∈ modAt l n f) : a ∈ l ∨ ∃ b ∈ l, a = f b := by
  induction l generalizing n with
  | nil => simp [modAt] at h
  | cons b l ih =>
    cases n with
    | zero =>
      rcases List.mem_cons.mp h with rfl | h
      · exact .inr ⟨b, List.mem_cons_self .., rfl⟩
      · exact .inl (List.mem_cons_of_mem _ h)
    | succ n =>
      rcases List.mem_cons.mp h with rfl | h
      · exact .inl (List.mem_cons_self ..)
      · rcases ih h with h | ⟨c, hc, rfl⟩
        · exact .inl (List.mem_cons_of_mem _ h)
        · exact .inr ⟨c, List.mem_cons_of_mem _ hc, rfl⟩

/-- A change of one Gallery that keeps its SRAM canonical keeps the invariant. -/
theorem State.Inv.updG {s : State} (h : s.Inv) (n : Nat) {f : Gallery → Gallery}
    (hf : ∀ g, SMap.wf zeroLine g.sram = true → SMap.wf zeroLine (f g).sram = true) : (s.updG n f).Inv := by
  refine ⟨⟨h.1.1, fun g hg => ?_, h.1.2.2⟩, (modAt_length ..).trans h.2.1, h.2.2⟩
  rcases modAt_mem hg with hg | ⟨b, hb, rfl⟩
  · exact h.1.2.1 g hg
  · exact hf b (h.1.2.1 b hb)

/-- A write of an SRAM line keeps the canonical form (R41). -/
theorem State.Inv.setLine {s : State} (h : s.Inv) (n addr : Nat) (l : Line) : (s.setLine n addr l).Inv :=
  h.updG n (fun _ hg => SMap.wf_set zeroLine addr l hg)

/-- A byte stored in the mailbox keeps the canonical form (R408). -/
theorem State.Inv.mailStore {s : State} (h : s.Inv) (a : Nat) (b : Byte) : (s.mailStore a b).Inv := by
  unfold State.mailStore
  split
  · exact ⟨⟨h.1.1, h.1.2.1, SMap.wf_set noByte a b h.1.2.2⟩, h.2⟩
  · exact h

theorem State.Inv.updCan {s : State} (h : s.Inv) (p : Nat) (f : CanRt → CanRt) : (s.updCan p f).Inv :=
  ⟨h.1, h.2.1, h.2.2.1, (modAt_length ..).trans h.2.2.2.1, h.2.2.2.2⟩
theorem State.Inv.updChan {s : State} (h : s.Inv) (n : Nat) (f : ChanRt → ChanRt) : (s.updChan n f).Inv :=
  ⟨h.1, h.2.1, (modAt_length ..).trans h.2.2.1, h.2.2.2⟩
theorem State.Inv.updGrp {s : State} (h : s.Inv) (g : Nat) (f : Group → Group) : (s.updGrp g f).Inv :=
  ⟨h.1, h.2.1, h.2.2.1, h.2.2.2.1, (modAt_length ..).trans h.2.2.2.2.1, h.2.2.2.2.2⟩
theorem State.Inv.updSi {s : State} (h : s.Inv) (i : Nat) (f : SInput → SInput) : (s.updSi i f).Inv :=
  ⟨h.1, h.2.1, h.2.2.1, h.2.2.2.1, h.2.2.2.2.1, (modAt_length ..).trans h.2.2.2.2.2.1, h.2.2.2.2.2.2⟩
theorem State.Inv.updLoad {s : State} (h : s.Inv) (l : Nat) (f : Load → Load) : (s.updLoad l f).Inv :=
  ⟨h.1, h.2.1, h.2.2.1, h.2.2.2.1, h.2.2.2.2.1, h.2.2.2.2.2.1, (modAt_length ..).trans h.2.2.2.2.2.2.1, h.2.2.2.2.2.2.2⟩
theorem State.Inv.updSlot {s : State} (h : s.Inv) (i : Nat) (f : Slot → Slot) : (s.updSlot i f).Inv := by
  obtain ⟨hc, h1, h2, h3, h4, h5, h6, h7, h8, h9, h10, h11⟩ := h
  exact ⟨hc, h1, h2, h3, h4, h5, h6, h7, h8, h9, (modAt_length ..).trans h10, h11⟩
/-- A change of the store that leaves the slots' number and the active slot a slot. -/
theorem State.Inv.updNand {s : State} (h : s.Inv) {f : Store → Store} (hs : (f s.nand).slots.length = s.nand.slots.length)
    (ha : (f s.nand).active < 2) : (s.updNand f).Inv := by
  obtain ⟨hc, h1, h2, h3, h4, h5, h6, h7, h8, h9, h10, _, h12⟩ := h
  exact ⟨hc, h1, h2, h3, h4, h5, h6, h7, h8, h9, hs.trans h10, ha, h12⟩
/-- A change of the safety runtime that leaves its lists' lengths. -/
theorem State.Inv.updSafe {s : State} (h : s.Inv) {f : SafetyRt → SafetyRt} (hg : (f s.safe).groups.length = 8)
    (hi : (f s.safe).inputs.length = 16) (hl : (f s.safe).loads.length = 16) : (s.updSafe f).Inv := by
  obtain ⟨hc, h1, h2, h3, _, _, _, h7⟩ := h
  exact ⟨hc, h1, h2, h3, hg, hi, hl, h7⟩

/-! ### Records, alerts and modes -/

theorem State.Inv.alertBit {s : State} (h : s.Inv) (i : Nat) : (s.alertBit i).Inv := by
  unfold State.alertBit
  split
  · exact h
  · simp only
    split
    · exact (h.raise _ _).congr rfl rfl rfl rfl rfl rfl rfl rfl rfl
    · exact h.raise _ _

theorem State.Inv.event {s : State} (h : s.Inv) (i : Nat) : (s.event i).Inv := (h.raise _ _).alertBit 4

theorem State.Inv.levelSync {s : State} (h : s.Inv) : s.levelSync.Inv := by
  unfold State.levelSync
  simp only
  split
  · exact (h.setN _ _).setN _ _
  · exact h.setN _ _

theorem State.Inv.startFlush {s : State} (h : s.Inv) : s.startFlush.Inv := by
  unfold State.startFlush
  simp only
  split
  · exact (h.inc _).updRec _
  · exact h.updRec _

/-- The entry of a record writes the recorder, the next SEQ and the recorder's objects only. -/
theorem State.Inv.enter {s : State} (h : s.Inv) (code cls inst sev : Nat) (d : List Byte) : (s.enter code cls inst sev d).Inv := by
  have h0 : ∀ (r : Rec) (k : Nat), State.Inv { s with
      recd := { s.recd with buffer := s.recd.buffer ++ [r] }
      vest := { s.vest with nextSeq := k } } := fun _ _ => h.congr rfl rfl rfl rfl rfl rfl rfl rfl rfl
  unfold State.enter
  simp only
  split <;> split
  · exact (((h0 _ _).setN _ _).setN _ _).levelSync.startFlush
  · exact ((h0 _ _).setN _ _).levelSync.startFlush
  · exact (((h0 _ _).setN _ _).setN _ _).levelSync
  · exact ((h0 _ _).setN _ _).levelSync

theorem State.Inv.dropRec {s : State} (h : s.Inv) : s.dropRec.Inv := ((h.inc _).raise _ _).updVest _
theorem State.Inv.overwrite {s : State} (h : s.Inv) : s.overwrite.Inv := ((h.setN _ _).raise _ _).updRec _
theorem State.Inv.dropNotice {s : State} (h : s.Inv) : s.dropNotice.Inv := by
  unfold State.dropNotice
  split
  · exact h
  · exact (h.updVest _).enter _ _ _ _ _

/-- A record keeps the invariant, whatever becomes of it. -/
theorem State.Inv.record {s : State} (h : s.Inv) (code cls inst sev : Nat) (d : List Byte) : (s.record code cls inst sev d).Inv := by
  have h1 : ∀ t : State, t.Inv → State.Inv (if t.ramOnly && decide (t.recFree = 0) && !t.oldestHeld then t.overwrite else t) := by
    intro t ht
    split
    · exact ht.overwrite
    · exact ht
  have h2 : ∀ t : State, t.Inv → State.Inv (if t.admits code sev || t.ramOnly && decide (0 < t.recFree) then t.enter code cls inst sev d else t.dropRec) := by
    intro t ht
    split
    · exact ht.enter _ _ _ _ _
    · exact ht.dropRec
  unfold State.record
  split
  · exact h
  · exact h
  · exact h2 _ (h1 _ h.dropNotice)

theorem State.Inv.toMode {s : State} (h : s.Inv) (m : Mode) (cause : Nat) (r : Bool) : (s.toMode m cause r).Inv := by
  have h1 : ∀ t : State, t.Inv → ((t.setN Obj.MODE_STATUS.MODE m.code).setN Obj.MODE_STATUS.LAST_CAUSE cause |>.alertBit 1).Inv :=
    fun t ht => ((ht.setN _ _).setN _ _).alertBit 1
  have h2 : ∀ t : State, t.Inv → State.Inv (if m = .lockout then t.alertBit 2 else t) := by
    intro t ht
    split
    · exact ht.alertBit 2
    · exact ht
  have h3 : State.Inv (if r then s.record 0x0002 0 0 (if m = .lockout then 2 else 0)
      [BitVec.ofNat 8 s.mode.code, BitVec.ofNat 8 m.code, BitVec.ofNat 8 cause] else s) := by
    split
    · exact h.record _ _ _ _ _
    · exact h
  unfold State.toMode
  exact (h2 _ (h1 _ h3)).congr rfl rfl rfl rfl rfl rfl rfl rfl rfl

end Sys2Proof.Machine
end

