-- ==== Sys2Proof/Machine/Power.lean ====
section
/-! DEFINITION. The power states of the module's blocks (R38, R39): each block decides its own from its configuration and the mode. -/
namespace Sys2Proof.Machine

/-- The three power states of R38. -/
inductive BlockPower where
  /-- Clocked and powered. -/
  | active
  /-- Clock stopped, state kept. -/
  | gated
  /-- Power removed, state lost. -/
  | off
deriving DecidableEq, Repr

/-- The blocks that decide a power state: a Gallery's tile, its trunk SerDes, its demodulator and model engine; a universal channel; a
CAN port; the two-wire controllers; an Arcade port; the Corridor; and the cores with the channels and the rest of the I/O die. -/
inductive Block where
  | tile (n : Nat) | serdes (n : Nat) | demodulator (n : Nat) | model (n : Nat) | channel (c : Nat) | can (p : Nat) | twa | twb
  | arcade (west : Bool) | corridor | cores
deriving DecidableEq, Repr

/-- Whether the module is awake: in VAULT and WATCH only the Vestibule runs, but for a stack check. -/
def State.awake (s : State) : Bool := match s.mode with
  | .vault | .watch => false
  | _ => s.md.pllLocked

/-- The power state of a block (R38, R39). A tile of a disabled string is OFF with its SerDes; the demodulator and the model engine of an
enabled string are gated between steps; a channel, a controller or a port that is not in use gates its own clock. -/
def State.blockPower (s : State) (b : Block) : BlockPower :=
  let use := fun (x : Bool) => if x then BlockPower.active else .gated
  if !s.awake then .off
  else match b with
    | .tile n | .serdes n => if s.strOn n then .active else .off
    | .demodulator n => if s.strOn n then use (!(s.g n).meas.stepped && !(s.g n).spec.wins.isEmpty) else .off
    | .model n => if s.strOn n then use (s.g n).mdl.isSome else .off
    | .channel c => use (decide (s.getN (Chn.CH_CFG.FUNCTION c) ≠ 0))
    | .can p => use (s.getN (Can.ENABLE p) == 1)
    | .twa => use (s.getN Obj.TWA_CFG.ENABLE == 1)
    | .twb => use (s.getN Obj.TWB_CFG.ENABLE == 1)
    | .arcade west => use (s.portUp west)
    | .corridor => use (decide (s.role ≠ 0))
    | .cores => .active

end Sys2Proof.Machine
end

