-- ==== Sys2Proof/WellFormed.lean ====
section
/-! DEFINITION. Which commands are well formed: every number lies in the range that its field, its unit or its object has. A command that
is not is still given a meaning by the machine; nothing outside the block can form one. -/
namespace Sys2Proof
open Machine

/-- A path: an Arcade member has a 64-bit serial. -/
def Machine.Path.ok : Path → Bool
  | .arcade m => decide (m < 2 ^ 64)
  | _ => true

/-- An SDO request: 16-bit index, 8-bit sub-index, and 1 to 4 bytes where it is expedited. -/
def SdoData.ok (d : SdoData) : Bool := decide (d.index < 65536) && decide (d.sub < 256) && decide (d.data.length ≤ 4)

/-- A CAN frame: an identifier of its format, and at most 8 bytes, or 64 in the FD format, which has no remote frames. -/
def CanFrame.ok (f : CanFrame) : Bool :=
  decide (f.id < (if f.ide then 2 ^ 29 else 2 ^ 11)) && decide (f.data.length ≤ (if f.fd then 64 else 8)) && !(f.fd && f.rtr)

/-- The range check of every command's operands. -/
def Instr.wf (i : Instr) : Bool :=
  match i with
  | .upstreamSuperframe n _ => decide (n < 32)
  | .downstreamSuperframe n => decide (n < 32)
  | .controlStep n _ => decide (n < 32)
  | .modelStep n => decide (n < 32)
  | .spectrumPublish n => decide (n < 32)
  | .sramFullLineWrite n _ data => decide (n < 32) && decide (data.length = 64)
  | .sramPartialWrite n _ _ _ _ _ => decide (n < 32)
  | .sramLineRead n _ _ _ => decide (n < 32)
  | .scrubPass n _ _ _ => decide (n < 32)
  | .keepOscMeasure _ => true
  | .scheduledActionFire target => decide (target < 2 ^ 32)
  | .classSWaitExpiry => true
  | .pfail _ _ => true
  | .powerDownComplete => true
  | .vauxValid _ => true
  | .vioValid _ => true
  | .vioInvalid _ => true
  | .vloopLost _ => true
  | .vloopValid _ => true
  | .vkeepLow _ => true
  | .vkeepValid _ => true
  | .holdReady _ => true
  | .holdLow _ => true
  | .rootPllLock _ _ => true
  | .rootPllUnlock => true
  | .landingVerifyDone _ _ _ => true
  | .channelSelfTestDone _ _ => true
  | .bootComplete => true
  | .bootWatchdogExpiry => true
  | .resetNAssert _ => true
  | .resetNRelease => true
  | .coreWatchdogExpiry => true
  | .requestRun path => path.ok
  | .requestReady path => path.ok
  | .requestWatch path => path.ok
  | .requestVault path => path.ok
  | .requestRecovery path => path.ok
  | .entryToRunComplete => true
  | .exitFromRunComplete => true
  | .deferredRun => true
  | .vaultEntryStage1Done => true
  | .vaultEntryDone => true
  | .watchEntryStage1Done => true
  | .watchEntryDone => true
  | .wakeIn => true
  | .canADominantEdge _ => true
  | .wakeFrame port id _ data => decide (port < 2) && decide (id < 2 ^ 29) && decide (data.length ≤ 64)
  | .wakeNoVaux => true
  | .ladderRetry path cls inst => path.ok && decide (cls < 256) && decide (inst < 256)
  | .ladderReinitialise path cls inst => path.ok && decide (cls < 256) && decide (inst < 256)
  | .ladderDeviceReset path => path.ok
  | .keepProbe _ _ => true
  | .timeHorizonWrite => true
  | .writeOneToClear path index sub _ _ => path.ok && decide (index < 65536) && decide (sub < 256)
  | .registerWrite path index sub _ => path.ok && decide (index < 65536) && decide (sub < 256)
  | .rwSWrite path index sub _ => path.ok && decide (index < 65536) && decide (sub < 256)
  | .sealSet path crc _ _ => path.ok && decide (crc < 2 ^ 32)
  | .sealDiscard path => path.ok
  | .store path => path.ok
  | .restore path => path.ok
  | .cellWindowSel path n select => path.ok && decide (n < 32) && decide (select < 2 ^ 64)
  | .cellWindow path n => path.ok && decide (n < 32)
  | .blockCtrlReinitialise path n => path.ok && decide (n < 32)
  | .errorFieldClear path => path.ok
  | .sdoInitiateDownload port req _ _ _ => decide (port < 2) && req.ok
  | .sdoDownloadSegment port _ _ data _ => decide (port < 2) && decide (data.length ≤ 7)
  | .sdoInitiateUpload port index sub _ => decide (port < 2) && decide (index < 65536) && decide (sub < 256)
  | .sdoUploadSegment port _ _ => decide (port < 2)
  | .sdoBlockDownloadInitiate port index sub _ _ _ => decide (port < 2) && decide (index < 65536) && decide (sub < 256)
  | .sdoBlockDownloadSubblock port seq _ data _ => decide (port < 2) && decide (seq < 128) && decide (data.length ≤ 7)
  | .sdoBlockDownloadEnd port unused crc _ => decide (port < 2) && decide (unused < 8) && decide (crc < 2 ^ 32)
  | .sdoBlockUploadInitiate port index sub blksize _ _ => decide (port < 2) && decide (index < 65536) && decide (sub < 256) && decide (blksize < 256)
  | .sdoBlockUploadStart port _ => decide (port < 2)
  | .sdoBlockUploadAck port ackseq blksize _ => decide (port < 2) && decide (ackseq < 256) && decide (blksize < 256)
  | .sdoBlockUploadEnd port => decide (port < 2)
  | .sdoAbortTransfer port code => decide (port < 2) && decide (code < 2 ^ 32)
  | .sdoTimeout port => decide (port < 2)
  | .nmtStart port node => decide (port < 2) && decide (node < 256)
  | .nmtStop port node => decide (port < 2) && decide (node < 256)
  | .nmtPreOperational port node => decide (port < 2) && decide (node < 256)
  | .nmtResetNode port node => decide (port < 2) && decide (node < 256)
  | .nmtResetCommunication port node => decide (port < 2) && decide (node < 256)
  | .sync port => decide (port < 2)
  | .rpdo port idx data => decide (port < 2) && decide (idx < 16) && decide (data.length ≤ 64)
  | .tpdo port idx => decide (port < 2) && decide (idx < 32)
  | .heartbeat => true
  | .heartbeatConsumerTimeout port entry => decide (port < 2) && decide (1 ≤ entry ∧ entry ≤ 4)
  | .arcadeReadRequest _ => true
  | .arcadeWriteRequest _ => true
  | .arcadeResponse _ => true
  | .arcadeReqTimeout reqId => decide (reqId < 2 ^ 32)
  | .arcadeFrozenExpiry serial => decide (serial < 2 ^ 64)
  | .ringKey path _ => path.ok
  | .ownerKey path _ => path.ok
  | .stringCfg path index sub _ => path.ok && decide (index < 65536) && decide (sub < 256)
  | .acquireTimeout n => decide (n < 32)
  | .retryWaitExpiry n => decide (n < 32)
  | .trunkLoss n => decide (n < 32)
  | .commandResend n => decide (n < 32)
  | .identify n _ node tag _ _ _ => decide (n < 32) && decide (node < 256) && decide (tag < 256)
  | .readReg n _ node tag _ => decide (n < 32) && decide (node < 256) && decide (tag < 256)
  | .writeReg n _ node tag _ value => decide (n < 32) && decide (node < 256) && decide (tag < 256) && decide (value < 65536)
  | .syncReset n node tag sf _ => decide (n < 32) && decide (node < 256) && decide (tag < 256) && decide (sf < 65536)
  | .sweep n node tag _ => decide (n < 32) && decide (node < 256) && decide (tag < 256)
  | .switchTest n node tag pos step => decide (n < 32) && decide (node < 256) && decide (tag < 256) && decide (pos < 512) && decide (step < 256)
  | .commission n node tag _ count serial => decide (n < 32) && decide (node < 256) && decide (tag < 256) && decide (count < 65536) && decide (serial < 2 ^ 64)
  | .restoreRing n _ tag => decide (n < 32) && decide (tag < 256)
  | .release n _ tag => decide (n < 32) && decide (tag < 256)
  | .sleep n _ node tag _ _ => decide (n < 32) && decide (node < 256) && decide (tag < 256)
  | .selftest n _ node tag _ => decide (n < 32) && decide (node < 256) && decide (tag < 256)
  | .flightNodesCommission path n => path.ok && decide (n < 32)
  | .restoreNow path n => path.ok && decide (n < 32)
  | .autoRestore n => decide (n < 32)
  | .headSuperframeRx n _ _ => decide (n < 32)
  | .headHoldTimeout n => decide (n < 32)
  | .headTrunkLoss n _ => decide (n < 32)
  | .dualFault n => decide (n < 32)
  | .loopFrameEvaluate n _ => decide (n < 32)
  | .monitorSlotFill n node _ _ _ => decide (n < 32) && decide (node < 256)
  | .monitorSignalLoss n node => decide (n < 32) && decide (node < 256)
  | .sampleLatch n _ => decide (n < 32)
  | .monitorFrameTimeout n node => decide (n < 32) && decide (node < 256)
  | .sleepCheck n node _ _ _ => decide (n < 32) && decide (node < 256)
  | .wakeBurst n node => decide (n < 32) && decide (node < 256)
  | .delayCompReread n => decide (n < 32)
  | .syncNow path n => path.ok && decide (n < 32)
  | .balanceDecision n => decide (n < 32)
  | .balanceTestRun path n pos => path.ok && decide (n < 32) && decide (pos < 512)
  | .switchTestInterval n => decide (n < 32)
  | .sweepDue n => decide (n < 32)
  | .sweepMissing n => decide (n < 32)
  | .sweepIntervalRelax n => decide (n < 32)
  | .watchCheck _ => true
  | .restart path n => path.ok && decide (n < 32)
  | .converterEnable path n on => path.ok && decide (n < 32) && decide (on < 2)
  | .peakRead path n peak => path.ok && decide (n < 32) && decide (peak.idx < 11)
  | .telemetryWindow n _ => decide (n < 32)
  | .excitationApply path n => path.ok && decide (n < 32)
  | .setComputed n => decide (n < 32)
  | .platingClear path n => path.ok && decide (n < 32)
  | .archiveNow path n => path.ok && decide (n < 32)
  | .archiveInterval n => decide (n < 32)
  | .archiveRecordWrite n => decide (n < 32)
  | .archiveSel path n sel => path.ok && decide (n < 32) && decide (sel < 2 ^ 64)
  | .archiveRead path n => path.ok && decide (n < 32)
  | .modelSet path n _ => path.ok && decide (n < 32)
  | .replaced path n pos => path.ok && decide (n < 32) && decide (pos < 512)
  | .restCorrection n => decide (n < 32)
  | .aggregates n => decide (n < 32)
  | .stateSave n => decide (n < 32)
  | .stateSaveDone n => decide (n < 32)
  | .saveFailed n => decide (n < 32)
  | .dieTemperatureRead _ => true
  | .riseStopTime n => decide (n < 32)
  | .safetyCycle _ => true
  | .energiseOn path n => path.ok && decide (n < 32)
  | .energiseOff path n => path.ok && decide (n < 32)
  | .busCheckTimeout g => decide (g < 8)
  | .preTimeExpiry g => decide (g < 8)
  | .fbTimeExpiry g => decide (g < 8)
  | .minOffElapsed g => decide (g < 8)
  | .maxOverlapExpiry so _ => decide (so < 8)
  | .mainCloseTimeExpiry g => decide (g < 8)
  | .seoDelayExpiry g => decide (g < 8)
  | .srsMaxTimeExpiry g => decide (g < 8)
  | .trunkLossSeoTimer g => decide (g < 8)
  | .soOvercurrent so _ _ => decide (so < 8)
  | .safetyInputChange idx ch _ _ _ => decide (idx < 16) && decide (ch < 4)
  | .discrepancyTimeout idx => decide (idx < 16)
  | .testPulse source _ => decide (source < 4)
  | .outputTestPulse load _ _ _ _ _ => decide (load < 16)
  | .channelDisagree => true
  | .channelSelfCheck _ _ => true
  | .channelFail _ _ => true
  | .lockoutResetPulse => true
  | .lockoutReset path => path.ok
  | .requestedExpiry => true
  | .lostClear path n => path.ok && decide (n < 32)
  | .stringLost n => decide (n < 32)
  | .imdEvaluate => true
  | .threshRewrite n => decide (n < 32)
  | .dispatchAllocation => true
  | .pDemand path _ => path.ok
  | .leaderTarget path _ => path.ok
  | .hostTimeout => true
  | .leaderLost => true
  | .fallbackHold => true
  | .joinDelay serial => decide (serial < 2 ^ 64)
  | .bypassInsert => true
  | .bypassTestTimeout _ _ => true
  | .arcadeLinkLoss _ => true
  | .hsrFrameRx _ _ => true
  | .hsrSupervisionTx => true
  | .nodeForget mac => decide (mac < 2 ^ 48)
  | .beaconTx => true
  | .beaconRx _ => true
  | .memberTimeout serial => decide (serial < 2 ^ 64)
  | .ptpSyncRx _ _ => true
  | .ptpFollowUpRx _ _ => true
  | .ptpAnnounceRx _ _ => true
  | .ptpAnnounceTimeout => true
  | .pdelayReqRx _ _ => true
  | .pdelayRespRx _ _ => true
  | .pdelayRespFollowUpRx _ _ => true
  | .ptpSyncTx => true
  | .ptpAnnounceTx => true
  | .pdelayReqTx _ => true
  | .ptpEventForward _ _ _ => true
  | .ppsIn _ _ => true
  | .todIn _ => true
  | .ppsOut => true
  | .sourceLoss => true
  | .holdoverExpiry => true
  | .timeStep => true
  | .corridorFrameTx => true
  | .corridorFrameRx _ => true
  | .corridorDown => true
  | .mirrorRead _ => true
  | .redundancyEnable path on => path.ok && decide (on < 2)
  | .pairWait => true
  | .swap path => path.ok
  | .takeoverTimeout => true
  | .yieldTimeout => true
  | .reArm path => path.ok
  | .swapDue => true
  | .channelSample n _ => decide (n < 16)
  | .overloadTrip n => decide (n < 16)
  | .readbackCompare n _ _ => decide (n < 16)
  | .railUpdate n _ => decide (n < 16)
  | .driverThermal n _ => decide (n < 16)
  | .outValue path n _ => path.ok && decide (n < 16)
  | .outTimeout n => decide (n < 16)
  | .chCharApply path n => path.ok && decide (n < 16)
  | .chReinitialise path n => path.ok && decide (n < 16)
  | .chTest path n => path.ok && decide (n < 16)
  | .chCommandDone n _ => decide (n < 16)
  | .outputResume n => decide (n < 16)
  | .function path n code => path.ok && decide (n < 16) && decide (code < 256)
  | .hartPoll n => decide (n < 16)
  | .hartResponseRx n _ => decide (n < 16)
  | .hartBurstFrame n _ => decide (n < 16)
  | .hartResponseTimeout n => decide (n < 16)
  | .hartIdentifyRetry n => decide (n < 16)
  | .hartXferRequest path n _ => path.ok && decide (n < 16)
  | .canFrameRx port f => decide (port < 2) && f.ok
  | .canFrameTxDone port _ _ => decide (port < 2)
  | .canBusOff port => decide (port < 2)
  | .busoffDelay port => decide (port < 2)
  | .canBusOffRecovered port => decide (port < 2)
  | .canFlush path port _ _ => path.ok && decide (port < 2)
  | .fifoDrainDeadline => true
  | .twaSlotDue idx => decide (1 ≤ idx ∧ idx ≤ 16)
  | .twaTrigger path mask => path.ok && decide (mask < 65536)
  | .twaSlotDone idx _ => decide (1 ≤ idx ∧ idx ≤ 16)
  | .twaArbRetry idx => decide (1 ≤ idx ∧ idx ≤ 16)
  | .clkLowTimeout _ => true
  | .dataLowTimeout _ _ => true
  | .twbWriteTransaction _ => true
  | .twbReadTransaction ptr _ => decide (ptr.getD 0 < 65536)
  | .mailboxDone => true
  | .mailboxFrozenExpiry => true
  | .twbAlert _ => true
  | .alertRetry _ => true
  | .recordEntry code cls inst sev _ => decide (code < 65536) && decide (cls < 256) && decide (inst < 256) && decide (sev < 4)
  | .drain => true
  | .pageProgramDone _ => true
  | .recorderFlush path => path.ok
  | .flushDone => true
  | .blockErase => true
  | .eraseDone _ => true
  | .recorderRebuild => true
  | .snapCount path count => path.ok && decide (count < 65536)
  | .recorderRead path => path.ok
  | .snapshotExpiry path => path.ok
  | .begin path => path.ok
  | .slotEraseDone _ => true
  | .updateData path _ => path.ok
  | .verify path => path.ok
  | .checksComplete => true
  | .activate path => path.ok
  | .prepareDone _ => true
  | .pauseEnd => true
  | .pauseTimeout => true
  | .commit path => path.ok
  | .abort path => path.ok
  | .trialTimeout => true
  | .vkeepInvalid _ => true
  | .keepCellOvervoltage _ => true
  | .comparatorTrip n node pos _ _ => decide (n < 32) && decide (node < 256) && decide (pos < 512)
  | .sweepConversionDone n node _ => decide (n < 32) && decide (node < 256)
  | .arcadeLinkUp _ => true
  | .ppsMissing => true
  | .canErrorPassive port _ _ => decide (port < 2)
  | .bufferClose => true

end Sys2Proof
end

