-- ==== Sys2Proof/Tests/Slice0.lean ====
section
/-! SUPPORT. Tests: each statement's hypotheses met by a concrete state and operands, and single steps against the spec. -/
section
set_option Elab.async false

namespace Sys2Proof.Machine

/-- A write taken at once, as a truth value. -/
def T.takesWrite (s : State) (p : Path) (index sub : Nat) (d : List Byte) (v : Val) : Bool :=
  s.serves p && !s.mustWait &&
  (match checkWrite s p index sub d with | .ok (w, _) => decide (w = v) | .error _ => false)

theorem T.check_iff (s : State) (p : Path) (index sub : Nat) (d : List Byte) (v : Val) :
    (match checkWrite s p index sub d with | .ok (w, _) => decide (w = v) | .error _ => false) = true ↔
    ∃ r, checkWrite s p index sub d = .ok (v, r) := by
  split
  · next w r h => rw [h]; simp
  · next c h => rw [h]; simp

theorem T.takesWrite_iff (s : State) (p : Path) (index sub : Nat) (d : List Byte) (v : Val) :
    T.takesWrite s p index sub d v = true ↔ s.takesWrite p index sub d v := by
  unfold T.takesWrite State.takesWrite State.atOnce
  rw [Bool.and_eq_true, T.check_iff]
  simp

/-- A read taken at once, as a truth value. -/
def T.takesRead (s : State) (p : Path) (index sub : Nat) : Bool :=
  s.serves p && !s.mustWait && s.hasIndex index &&
  (match rowOf index sub with | some r => decide (r.acc ≠ .wo) && decide (r.acc ≠ .key) | none => false)

theorem T.takesRead_iff (s : State) (p : Path) (index sub : Nat) :
    T.takesRead s p index sub = true ↔ s.takesRead p index sub := by
  unfold T.takesRead State.takesRead State.atOnce
  cases h : rowOf index sub <;> simp [and_assoc]

/-- A state in a mode, with the root PLL locked and supplies valid. -/
def T.mode (m : Mode) : State :=
  (State.reset.setN Obj.SUPPLY_STATUS.FLAGS 0x8F).updMd (fun x =>
    { x with
      mode := m, pllLocked := true, released := true, verified := true, selfTested := true })

/-- A module in READY. -/
def T.ready : State := T.mode .ready

/-- A state at a root tick. -/
def T.at (r : Nat) (s : State) : State := { s with root := r }

/-- String 0 enabled with 4 positions and one monitor. -/
def T.string (s : State) : State :=
  ((s.setN (Gal.STRING_CFG.ENABLE 0) 1).setN (Gal.STRING_CFG.POSITION_COUNT 0) 4).setN (Gal.STRING_CFG.NODE_COUNT 0) 1

/-- String 0 enabled and its trunk UP. -/
def T.up (s : State) : State := (T.string s).setN (Gal.FLIGHT_STATUS.TRUNK_STATE 0) 4

/-- READY with every condition for RUN met (Table 2-4). -/
def T.able : State :=
  (((T.up T.ready).setN Obj.SUPPLY_STATUS.FLAGS 0x9F).setN Obj.SAFETY_CFG.SEAL_STATE 2).setR Obj.SUPPLY_STATUS.VHOLD (some 26) |>.updSafe (fun x =>
    { x with
      newel := { healthy := true }
      baluster := { healthy := true } })

theorem T.noWatch (n : Nat) : (T.at (secTicks 100000) (T.mode .watch)).watchChecks n = false := by
  have h : ∀ n < 32, (T.at (secTicks 100000) (T.mode .watch)).watchChecks n = false := by decide +kernel
  by_cases hn : n < 32
  · exact h n hn
  · have hg : (T.at (secTicks 100000) (T.mode .watch)).hasGal n = false := by
      show decide (n < 32) = false
      exact decide_eq_false hn
    simp [State.watchChecks, State.strOn, hg]

/-- String 0 in group 0, and every group in a state. -/
def T.grouped (st : GState) (s : State) : State :=
  { s with
    safetySet := { s.safetySet with inForce := [(Gal.ENERGISE.GROUP 0, .n 0)] }
    safe := { s.safe with groups := List.replicate 8 { state := st } } }

/-! ### Sealing -/

/-- A pending set that passes Table 10-11: safety input 0 is a RESET input. -/
def T.sealable : State := { T.ready with safetySet := { pendingSet := [(Obj.SAFETY_INPUTS.SI_CFG 0, .n (4 + 2 * 16 + 500 * 512 + 3 * 2 ^ 20))] } }

theorem T.crcBit_lt (c : Nat) (h : c < 2 ^ 32) : crcBit 0xEDB88320 c < 2 ^ 32 := by
  unfold crcBit
  split
  · exact Nat.xor_lt_two_pow (by omega) (by norm_num)
  · omega

theorem T.crcByte_lt (c : Nat) (b : Byte) (h : c < 2 ^ 32) : crcByte 0xEDB88320 c b < 2 ^ 32 := by
  have hb : c ^^^ b.toNat < 2 ^ 32 := Nat.xor_lt_two_pow h (lt_trans b.isLt (by norm_num))
  have : ∀ (l : List Nat) (x : Nat), x < 2 ^ 32 → l.foldl (fun c _ => crcBit 0xEDB88320 c) x < 2 ^ 32 := by
    intro l
    induction l with
    | nil => intro x hx; exact hx
    | cons a l ih => intro x hx; exact ih _ (T.crcBit_lt x hx)
  exact this _ _ hb

theorem T.crc32_lt (l : List Byte) : crc32 l < 2 ^ 32 := by
  have : ∀ (l : List Byte) (x : Nat), x < 2 ^ 32 → l.foldl (crcByte 0xEDB88320) x < 2 ^ 32 := by
    intro l
    induction l with
    | nil => intro x hx; exact hx
    | cons a l ih => intro x hx; exact ih _ (T.crcByte_lt x a hx)
  exact Nat.xor_lt_two_pow (this l _ (by norm_num)) (by norm_num)

theorem T.leNat_leBytes4 (w : Nat) (h : w < 2 ^ 32) : leNat (leBytes 4 w) = w := by
  simp [leBytes, leNat]
  omega

theorem T.xor_one_ne (w : Nat) : w ^^^ 1 ≠ w := by
  intro h
  have := congrArg (w ^^^ ·) h
  simp at this

/-- Any value of SEAL_CRC passes the five checks of R80. -/
theorem T.seal_takes (s : State) (w : Nat) (h : w < 2 ^ 32) (hs : s.serves .canA = true) (hq : s.mustWait = false)
    (hi : s.hasIndex 0x2900 = true) (hm : s.phase = 0) (hr : s.mode = .ready) :
    s.takesWrite .canA 0x2900 1 (leBytes 4 w) (.n w) := by
  have hrow : ∃ r, rowOf 0x2900 1 = some r ∧ r.acc = .rwL ∧ r.ty = .u32 ∧ r.rng = .any := by
    refine ⟨(rowOf 0x2900 1).getD ⟨.fix, 0, 0, 0, .u8, .ro, .n 0, .any, false⟩, ?_⟩
    decide +kernel
  obtain ⟨r, h1, h2, h3, h4⟩ := hrow
  refine ⟨⟨hs, hq⟩, r, ?_⟩
  have hl : (leBytes 4 w).length = 4 := by simp [leBytes]
  have hp : placeOf 0x2900 = (.fix, 0x2900) := by decide +kernel
  have ho : orderOk (s.seen 0x2900) 0x2900 1 (keyOf 0x2900 1) (.n w) = true := by simp [orderOk, hp]
  have hf : frontCheck s .canA 0x2900 1 = .ok r := by
    simp [frontCheck, hi, h1, accessCheck, modeCheck, h2, hm, hr, Path.isArcade]
  have hc : lenCheck r.ty 0x2900 (leBytes 4 w) = none := by simp [lenCheck, lenOk, hl, h3, OType.size]
  have hd : decodeVal r.ty (leBytes 4 w) = some (.n w) := by simp [decodeVal, h3, T.leNat_leBytes4 w h]
  have ha : r.rng.admits r.ty (.n w) = true := by simp [Rng.admits, h3, h4]
  simp [checkWrite, hf, hc, hd, ha, ho]

/-! ### Tagged Arcade messages -/

/-- A ring key. -/
def T.key : List Byte := List.replicate 32 7

/-- The bytes of a message before its tag (Table 12-3). -/
def T.body (fresh type src dest id : Nat) (payload : List Byte) : List Byte :=
  leBytes 8 fresh ++ [1, BitVec.ofNat 8 type] ++ leBytes 2 payload.length ++ leBytes 8 src ++ leBytes 8 dest ++ leBytes 4 id ++ payload

/-- The message with its tag. -/
def T.msg (b : List Byte) : ArcMsg := { west := false, mac := 5, bytes := b ++ arcTag T.key b }

theorem T.arcTag_length (k b : List Byte) : (arcTag k b).length = 16 := by simp [arcTag]

theorem T.msg_tagOk (b : List Byte) (h : 32 + (T.msg b).len = b.length) : (T.msg b).tagOk T.key = true := by
  unfold ArcMsg.tagOk
  rw [h]
  have ht := T.arcTag_length T.key b
  simp [T.msg, slice, ht]

theorem T.msg_formOk (b : List Byte) (h : 32 + (T.msg b).len = b.length) (h1 : (T.msg b).len ≤ 1416)
    (h2 : fieldN (T.msg b).bytes 8 1 = 1) : (T.msg b).formOk = true := by
  have hl : (T.msg b).bytes.length = 48 + (T.msg b).len := by
    have ht := T.arcTag_length T.key b
    simp only [T.msg, List.length_append, ht] at h ⊢
    omega
  simp [ArcMsg.formOk, hl, h1, h2]

theorem T.arcFor (s : State) (m : ArcMsg) (type : Nat) (hp : s.portUp m.west = true) (hf : m.formOk = true) (ht : m.type = type)
    (hd : m.dest = s.serial) : s.arcFor m type = true := by simp [State.arcFor, hp, hf, ht, hd]

/-- The state once a fresh message has been accepted. -/
def T.taken (s : State) (m : ArcMsg) : State := s.updArc (fun a => { a with fresh := SMap.put a.fresh m.source m.fresh })

theorem T.accept (s : State) (m : ArcMsg) (hk : s.nand.ringKey = some T.key) (ht : m.tagOk T.key = true) (hf : s.arc.fresh = [])
    (hn : s.now ≤ m.fresh) (hd : m.fresh - s.now ≤ 312500000) : s.accept101 m = (T.taken s m, true) := by
  simp [State.accept101, hk, ht, hf, SMap.find?, hn, hd, T.taken]

/-- Both ring ports up, with a ring key. -/
def T.ring : State :=
  let s := ((T.ready.setN Obj.ARCADE_STATUS.BYPASS 2).setN Obj.ARCADE_STATUS.PORT_E 2).setN Obj.ARCADE_STATUS.PORT_W 2
  { s with nand := { s.nand with ringKey := some T.key } }

/-- CAN-A in service, with an SDO server in a phase. -/
def T.can (ph : SdoPhase) : State :=
  let s := T.ready.setN (Can.ENABLE 0) 1
  let c : CanRt := { nmt := 5, sdo := { phase := ph, index := 0x1017, count := 1 } }
  { s with cans := [c, {}] }

/-- CAN-A operational, with PDO 1 mapped on 0x1017 in both directions, of a transmission type. -/
def T.pdo (type : Nat) : State :=
  let s := (((T.can .idle).setN (Can.TPDO_MASK 0) 1).setN (Can.RPDO_MASK 0) 1).setN (keyOf 0x1600 0) 1
  let s := ((s.setN (keyOf 0x1600 1) 0x10170010).setN (keyOf 0x1A00 0) 1).setN (keyOf 0x1A00 1) 0x10170010
  ((s.setN (keyOf 0x1400 2) type).setN (keyOf 0x1800 2) type).setN (keyOf 0x1017 0) 1000

/-- READY with Gallery 0 as given, the others as at reset. -/
def T.gal (g : Gallery) (s : State) : State := { s with gal := g :: List.replicate 31 {} }

/-- String 0's head obeys port A. -/
def T.head (h : Head) : State := T.gal { head := { h with auth := .obeyA } } (T.up T.ready)

/-- Monitor 1 of string 0 as given. -/
def T.mon (m : Monitor) : State := T.gal { mons := m :: List.replicate 38 {} } (T.up T.ready)

/-- A block with nothing in it. -/
def T.blk : Blk := { payload := [], crc := 0, endOk := false }

/-- A downstream superframe that carries nothing but INHIBIT triples. -/
def T.down (inhibit : Bool) : DownSuper :=
  { header := T.blk, k27 := true, token := T.blk, refs := T.blk, bal := T.blk, cmd := T.blk, inhibit := inhibit, hold := false,
    inserted := 0, codeErrs := 0 }

/-- A downstream superframe of SF_NUM 7 with ENABLE, a good token of serial 1 and good references. -/
def T.downGood : DownSuper :=
  { T.down false with
    header := hdrOf ([7, 0, 0, 0, 100, 0, 1] ++ List.replicate 9 0)
    token := blkOf 7 ([1, 0, 0, 0, 0, 0, 0, 0, 0, 0, 0, 0, 1, 0, 7] ++ List.replicate 9 0)
    refs := blkOf 7 (List.replicate 32 0 ++ [7] ++ List.replicate 11 0) }

/-- Readings with nothing in them. -/
def T.reading : Reading := { shunt := 1, hall := 2, bus := 3, string := 4, phase := [5], headT := [], volts := [] }

/-- The next state of an outcome. -/
def T.next : Out → State
  | .next t => t
  | _ => State.reset

/-- Whether an outcome is a next state. -/
def T.isNext : Out → Bool
  | .next _ => true
  | _ => false

theorem T.next_eq (o : Out) (h : T.isNext o = true) : o = .next (T.next o) := by
  cases o <;> first | rfl | cases h

/-- A reception with no block good. -/
def T.upSuper (inserted : Nat) : UpSuper :=
  { trip := none, inserted := inserted, codeErrs := 0, complete := true, share := 0, header := T.blk, head := T.blk, hresp := T.blk,
    nodes := [] }

/-- A reception with a good header. -/
def T.upGood : UpSuper := { T.upSuper 0 with trip := some 100, header := hdrOf (7 :: List.replicate 23 0) }

/-- String 0 UP with its Tread engine in a state and a superframe to run on. -/
def T.step (st : ConvState) : State :=
  T.gal { tread := { state := st }, meas := { fresh := true, stepped := false } } (T.up T.ready)

/-- WATCH with the check of string 0 due. -/
def T.watch : State := T.at (secTicks 100000) ((T.string (T.mode .watch)).setN Obj.WATCH_CFG.STRING_MASK 1)

theorem T.onlyFirst (m : Nat) (hm : m ≠ 0) : T.watch.watchChecks m = false := by
  have h : ∀ k < 32, k ≠ 0 → T.watch.watchChecks k = false := by decide +kernel
  by_cases hn : m < 32
  · exact h m hn hm
  · have hg : T.watch.hasGal m = false := by
      show decide (m < 32) = false
      exact decide_eq_false hn
    simp [State.watchChecks, State.strOn, hg]

/-- Ten REAL32 of 1.0. -/
def T.ones : List Byte := (List.replicate 10 [0, 0, 0x80, 0x3F]).flatten
/-- The first 8 bytes of a parameter set of 11 SOC points and one temperature. -/
def T.modelHead : List Byte := [1, 0, 11, 1, 0, 0, 0, 0]
/-- A parameter set in which every REAL32 is 1.0 (Table 8-2), with its CRC. -/
def T.modelSet : List Byte :=
  T.modelHead ++ T.ones ++ T.ones ++ T.ones ++ T.ones ++ T.ones ++ T.ones ++ T.ones ++ [0x04, 0xC4, 0x61, 0x35]

theorem T.crc0 : T.modelHead.foldl (crcByte 0x82F63B78) 0xFFFFFFFF = 1447070779 := by decide +kernel
theorem T.crc1 : T.ones.foldl (crcByte 0x82F63B78) 1447070779 = 341552317 := by decide +kernel
theorem T.crc2 : T.ones.foldl (crcByte 0x82F63B78) 341552317 = 3232146690 := by decide +kernel
theorem T.crc3 : T.ones.foldl (crcByte 0x82F63B78) 3232146690 = 4141589122 := by decide +kernel
theorem T.crc4 : T.ones.foldl (crcByte 0x82F63B78) 4141589122 = 3689716470 := by decide +kernel
theorem T.crc5 : T.ones.foldl (crcByte 0x82F63B78) 3689716470 = 3566338595 := by decide +kernel
theorem T.crc6 : T.ones.foldl (crcByte 0x82F63B78) 3566338595 = 1859870709 := by decide +kernel
theorem T.crc7 : T.ones.foldl (crcByte 0x82F63B78) 1859870709 = 3399367675 := by decide +kernel

theorem T.crc_of (l : List Byte) (x : Nat) (h : l.foldl (crcByte 0x82F63B78) 0xFFFFFFFF = x) : crc32c l = x ^^^ 0xFFFFFFFF := by
  rw [← h]
  rfl

theorem T.modelSet_crc : crc32c (T.modelSet.take (T.modelSet.length - 4)) = fieldN T.modelSet (T.modelSet.length - 4) 4 := by
  have h : T.modelSet.take (T.modelSet.length - 4) =
      T.modelHead ++ T.ones ++ T.ones ++ T.ones ++ T.ones ++ T.ones ++ T.ones ++ T.ones := by decide +kernel
  have hf : fieldN T.modelSet (T.modelSet.length - 4) 4 = 895599620 := by decide +kernel
  rw [h, hf]
  exact T.crc_of _ _ (by
    rw [List.foldl_append, List.foldl_append, List.foldl_append, List.foldl_append, List.foldl_append, List.foldl_append,
      List.foldl_append, T.crc0, T.crc1, T.crc2, T.crc3, T.crc4, T.crc5, T.crc6, T.crc7])

theorem T.modelSet_ok : modelSetOk T.modelSet = true := by
  unfold modelSetOk
  rw [decide_eq_true T.modelSet_crc]
  decide +kernel

/-- String 0 UP with a parameter set. -/
def T.modelled : State := (T.up T.ready).setB (Gal.ESTIM_CFG.MODEL_SET 0) T.modelSet

/-- An excitation set. -/
def T.set : ExcSet := { m := 10, tones := [(1, 1)], amp := 1, invert := false, core := 1, lo := 0, hi := 0 }

/-- A state image. -/
def T.image (seq : Nat) : Image :=
  { energised := false, positions := 4, seq := seq, modelCrc := 0, saveTick := 0, restSince := none, pos := [] }

/-- String 0 in group 0, whose main load is 0 and whose feedback is input 0; and group 0 as given. -/
def T.group (g : Group) (s : State) : State :=
  { s with
    safetySet := { s.safetySet with inForce := [(Gal.ENERGISE.GROUP 0, .n 0), (Obj.SAFETY_OUTPUTS.GROUP 0, .n 0x230),
      (Obj.SAFETY_INPUTS.SI_CFG 0, .n 5)] }
    safe := { s.safe with groups := g :: List.replicate 7 {} } }

/-- PTP enabled on the ring, with a measured link delay. -/
def T.ptp : State := ((T.ring.setN Obj.PTP_CFG.ENABLE 1).setN Obj.PTP_STATUS.SYNC_PORT 1).setR Obj.PTP_STATUS.LINK_DELAY_W (some 100)

/-- PPS and time of day enabled. -/
def T.pps : State := T.ready.setN Obj.PTP_CFG.PPS_TOD_ENABLE 1

/-- A mirror of a partner that is ready. -/
def T.mirror : Mirror :=
  { sf := 0, serial := 2, hw := 0, role := 3, mode := 3, flags := 0, epoch := 0, handover := 0, sealCrc := 0, cfgCrc := 0, notReady := 0,
    locks := 0, strings := [] }

/-- A standby in RUN that nothing keeps from being ready, but for its partner. -/
def T.alone : State :=
  let s := (T.able.updMd (fun x => { x with mode := .run })).setN Obj.REDUNDANCY_STATUS.ROLE 3
  let s := (s.setN Obj.ARCADE_STATUS.BYPASS 2).setN Obj.ARCADE_STATUS.PORT_E 2
  let s := s.setN Obj.TIMEBASE.STATE 2
  { s with nand := { s.nand with ringKey := some T.key } }

/-- A partner with the same configuration. -/
def T.partner : Mirror := { T.mirror with cfgCrc := T.alone.configCrc }

/-- The standby with that partner. -/
def T.standby : State := { T.alone with red := { mirror := some T.partner, corUp := true } }

theorem T.notReady_zero (s : State) (m : Mirror) (hm : s.red.mirror = some m) (hc : m.cfgCrc = s.configCrc) (h1 : s.mode = .run)
    (h2 : s.phase = 0) (h3 : s.getN Obj.SAFETY_CFG.SEAL_STATE = 2) (h4 : m.sealCrc = s.getN Obj.SAFETY_CFG.SEAL_CRC)
    (h5 : s.galIds.any (fun n => s.strOn n && !s.trunkUp n) = false) (h6 : s.timeLocked = true) (h7 : s.partnerPath = true)
    (h8 : s.safe.newel.healthy = true) (h9 : s.safe.baluster.healthy = true) (h10 : s.latched = false) (h11 : s.red.overlapYield = false) :
    s.notReadyNow = 0 := by
  unfold State.notReadyNow
  rw [hm, h1, h2, h3, h5, h6, h7, h8, h9, h10, h11]
  simp [hc, h4, b2n]

theorem T.crc_red (s : State) (r : RedRt) : ({ s with red := r } : State).configCrc = s.configCrc := rfl

theorem T.standby_crc : T.standby.configCrc = T.alone.configCrc := T.crc_red T.alone _

theorem T.standby_ready : T.standby.notReadyNow = 0 :=
  T.notReady_zero T.standby T.partner rfl T.standby_crc.symm (by decide +kernel) (by decide +kernel) (by decide +kernel) (by decide +kernel)
    (by decide +kernel) (by decide +kernel) (by decide +kernel) (by decide +kernel) (by decide +kernel) (by decide +kernel) (by decide +kernel)

/-- A Corridor header of zeros with its CRC. -/
def T.corHeader : Blk := { payload := List.replicate 47 0, crc := 1214958059, endOk := true }

theorem T.corHeader_good : hdrGood T.corHeader 47 = true := by decide +kernel

/-- The bytes of a Corridor frame with that header, as MIRROR gives them. -/
def T.mirrorBytes : List Byte := List.replicate 47 0 ++ leBytes 4 1214958059 ++ [0xFD] ++ List.replicate 1029 0

/-- Channel 3 as given. -/
def T.chan (c : ChanRt) (s : State) : State := { s with chans := List.replicate 3 {} ++ [c] ++ List.replicate 12 {} }

/-- A slot with an image that fits a warm activation. -/
def T.slot : Slot := { state := 5, len := 256, image := some (List.replicate 256 0xFF) }

/-! ### An image that passes every check but the signature, which is opaque -/

theorem T.slice_left (a x : List Byte) (off len : Nat) (h : off + len ≤ a.length) : slice (a ++ x) off len = slice a off len := by
  unfold slice
  rw [List.drop_append_of_le_length (by omega), List.take_append_of_le_length (by simp; omega)]

theorem T.slice_right (a x : List Byte) (off len : Nat) (h : a.length ≤ off) : slice (a ++ x) off len = slice x (off - a.length) len := by
  unfold slice
  rw [List.drop_append, List.drop_eq_nil_of_le h, List.nil_append]

/-- The header of a 512-byte image up to its digest: WARM_OK, four sections. -/
def T.imgHead : List Byte := leBytes 4 0x31585744 ++ [1, 0] ++ leBytes 2 0x8848 ++ leBytes 8 0 ++ leBytes 4 512 ++ [0, 4, 1, 0] ++ List.replicate 56 0
/-- Four empty sections. -/
def T.imgTable : List Byte := ([1, 2, 3, 4].map (fun t => [BitVec.ofNat 8 t, 0, 0, 0, 0x40, 1, 0, 0, 0, 0, 0, 0, 0, 0, 0, 0])).flatten
/-- What follows the digest. -/
def T.imgTail : List Byte := List.replicate 128 0 ++ T.imgTable ++ List.replicate 192 0
/-- The image. -/
def T.img : List Byte := T.imgHead ++ ((Config.sha384 T.imgTable).toList ++ T.imgTail)

theorem T.img_head (off len : Nat) (h : off + len ≤ 80) : slice T.img off len = slice T.imgHead off len :=
  T.slice_left _ _ _ _ (by show _ ≤ 80; exact h)

theorem T.img_tail (off len : Nat) (h : 128 ≤ off) : slice T.img off len = slice T.imgTail (off - 128) len := by
  have key : ∀ (a d r : List Byte), a.length = 80 → d.length = 48 → slice (a ++ (d ++ r)) off len = slice r (off - 128) len := by
    intro a d r ha hd
    rw [T.slice_right _ _ _ _ (by omega), T.slice_right _ _ _ _ (by omega), ha, hd, Nat.sub_sub]
  exact key _ _ _ rfl (by simp)

theorem T.img_digest : slice T.img 80 48 = (Config.sha384 T.imgTable).toList := by
  have h1 : T.imgHead.length = 80 := rfl
  unfold T.img
  rw [T.slice_right _ _ _ _ (by omega), T.slice_left _ _ _ _ (by simp [h1])]
  simp [slice, h1]

theorem T.img_len : T.img.length = 512 := by
  have h1 : T.imgHead.length = 80 := rfl
  have h2 : T.imgTail.length = 384 := by decide +kernel
  unfold T.img
  rw [List.length_append, List.length_append, h1, h2]
  simp

theorem T.img_sections : sectionsOk T.img = true := by
  have h : sectionsOf T.img = [1, 2, 3, 4].map (fun t => (t, 320, 0, 0, true)) := by
    unfold sectionsOf fieldN
    rw [T.img_head _ _ (by omega)]
    show [0, 1, 2, 3].map _ = _
    simp only [List.map]
    repeat rw [T.img_tail _ _ (by omega)]
    decide +kernel
  unfold sectionsOk
  rw [h]
  unfold fieldN
  rw [T.img_head _ _ (by omega), T.img_head _ _ (by omega)]
  simp only [List.map, List.all_cons, slice, List.take_zero]
  decide +kernel

/-- What the opaque signature check would have to accept. -/
def T.signed : Bool := Config.ecdsaOk Config.vendorKey (Config.sha384 (T.img.take 320)).toList (slice T.img 320 96)

theorem T.img_check (s : State) (hw : s.part.hwType = 0x8848) (ho : s.nand.ownerBad = false) (hk : s.nand.ownerKey = none)
    (hf : s.nand.fuses = 0) (hs : T.signed = true) : s.imageCheck T.img 512 = none := by
  have f1 : fieldN T.img 16 4 = 512 := by unfold fieldN; rw [T.img_head _ _ (by omega)]; decide +kernel
  have f2 : fieldN T.img 8 8 = 0 := by unfold fieldN; rw [T.img_head _ _ (by omega)]; decide +kernel
  have f3 : fieldN T.img 0 4 = 0x31585744 := by unfold fieldN; rw [T.img_head _ _ (by omega)]; decide +kernel
  have f4 : fieldN T.img 4 2 = 1 := by unfold fieldN; rw [T.img_head _ _ (by omega)]; decide +kernel
  have f5 : fieldN T.img 6 2 = 0x8848 := by unfold fieldN; rw [T.img_head _ _ (by omega)]; decide +kernel
  have f6 : slice T.img 256 64 = T.imgTable := by rw [T.img_tail _ _ (by omega)]; decide +kernel
  unfold T.signed at hs
  simp [State.imageCheck, f1, f2, f3, f4, f5, f6, hw, ho, hk, hf, T.img_len, T.img_sections, T.img_digest, hs]

theorem T.img_warm : warmOk T.img = true := by
  unfold warmOk fieldN
  rw [T.img_head _ _ (by omega)]
  decide +kernel

/-- READY, the update state 4 or another, slot A active and slot B the one downloaded. -/
def T.store (st : Nat) (a b : Slot) : State :=
  { T.ready.setN Obj.UPDATE_CTRL.STATE st with
    nand := { slots := [a, b], active := 0 }
    upd := { slot := 1, len := 512 } }

/-- A slot with the image. -/
def T.slotImg : Slot := { state := 5, len := 512, image := some T.img }

theorem T.store_check (st : Nat) (a : Slot) (h : T.signed = true) : (T.store st a T.slotImg).slotCheck 1 = none :=
  T.img_check (T.store st a T.slotImg) rfl rfl rfl rfl h

theorem T.store_warm (st : Nat) : (T.store st T.slotImg T.slotImg).warmFits 1 = true := by
  have h : (warmOk T.img && configFormat T.img == configFormat T.img && safetyDigest T.img == safetyDigest T.img) = true := by
    simp [T.img_warm]
  exact h

/-- A slot whose image, 32 bytes, has a CONFIG_FORMAT. -/
def T.slotFmt (k : Nat) : Slot := { state := 5, len := 512, image := some (List.replicate 28 0 ++ leBytes 4 k) }

/-- A CONFIG_FORMAT that the image from manufacture does not have. -/
def T.otherFmt : Nat := if configFormat Config.factoryHeader = 0 then 1 else 0

/-- Slot A with that format, slot B with the image from manufacture. -/
def T.unfit : State := T.store 4 (T.slotFmt T.otherFmt) { state := 5, len := 512, image := none }

theorem T.unfit_check : T.unfit.slotCheck 1 = none := by
  have h : (if securityOf Config.factoryHeader < 0 then some 7 else none : Option Nat) = none := if_neg (by omega)
  exact h

theorem T.unfit_warm : T.unfit.warmFits 1 = false := by
  have hk : ∀ k, k ≤ 1 → configFormat (List.replicate 28 0 ++ leBytes 4 k) = k := by decide +kernel
  have hf : configFormat Config.factoryHeader ≠ configFormat (List.replicate 28 0 ++ leBytes 4 T.otherFmt) := by
    unfold T.otherFmt
    split
    · next h => rw [hk 1 (by omega), h]; omega
    · next h => rw [hk 0 (by omega)]; exact h
  have h : (warmOk Config.factoryHeader && configFormat Config.factoryHeader == configFormat (List.replicate 28 0 ++ leBytes 4 T.otherFmt) &&
      safetyDigest Config.factoryHeader == safetyDigest (List.replicate 28 0 ++ leBytes 4 T.otherFmt)) = false := by
    rw [beq_false_of_ne hf, Bool.and_false, Bool.false_and]
  exact h

/-- A recorder entry. -/
def T.entry : Rec := ⟨1, 0, 0, 0, 0, 0, 5, 0, 0, 0, []⟩
/-- READY with no room in the recorder's buffer. -/
def T.fullOf (l : List Rec) : State := T.ready.updRec (fun x => { x with buffer := l })
/-- READY with 4090 entries in the recorder's buffer. -/
def T.full : State := T.fullOf (List.replicate 4090 T.entry)

theorem T.full_free : T.full.recFree ≤ 64 := by
  have h : ∀ l, (T.fullOf l).recFree = 4096 - l.length := fun _ => rfl
  unfold T.full
  rw [h, List.length_replicate]
  omega


/-! ### Check values of the CRCs over the nine characters "123456789" -/

/-- The characters "123456789". -/
def T.digits : List Byte := [0x31, 0x32, 0x33, 0x34, 0x35, 0x36, 0x37, 0x38, 0x39]

theorem test_crc32c : crc32c T.digits = 0xE3069283 := by decide +kernel
theorem test_crc32 : crc32 T.digits = 0xCBF43926 := by decide +kernel
theorem test_crc16 : crc16 T.digits = 0x31C3 := by decide +kernel

/-! ### The spec's worked examples -/

/-- Chapter 3: FIRST 200, COUNT 64 of array 2 on 416 positions is accepted, FIRST 400, COUNT 32 is refused. -/
theorem test_selector :
    let s := T.ready.setN (Gal.STRING_CFG.POSITION_COUNT 12) 416
    selectOk s 12 0x0000004000C80002 = true ∧ selectOk s 12 0x0000002001900002 = false := by decide +kernel

/-- Chapter 6: the candidates of step k + 1 around the hand-over to VMIN, those that stay far away left out. -/
def T.handOver : List Cand :=
  [{ no := 3, ff := 5996 / 10, e := -2 / 10000, kp := 1000, ki := 100000, integ := true }, { no := 9, ff := 600, kp := 1 / 2, integ := true }]
/-- Table 6-4: VMIN wins, the output does not move, and X_VMIN is preloaded to 0.6 A and then integrates to 0.59936 A. -/
theorem test_hand_over :
    let r := selectRun T.handOver (List.replicate 10 0) 9 600 1000 1
    r.w = 3 ∧ r.iSel = 600 ∧ r.hand = true ∧ xOf r.x 3 = 59936 / 100000 ∧ xOf r.x 9 = 0 := by decide +kernel

/-- Table 6-4, step k + 2: I_sel falls to 599.69936 A. -/
theorem test_after_hand_over :
    (selectRun [{ no := 3, ff := 5994 / 10, e := -3 / 10000, kp := 1000, ki := 100000, integ := true },
      { no := 9, ff := 600, kp := 1 / 2, integ := true }] [0, 0, 0, 59936 / 100000, 0, 0, 0, 0, 0, 0] 3 600 1000 1).iSel =
      59969936 / 100000 := by decide +kernel

/-- Four phases of 250 uH at 1,180.0 V and 1,268.8 V. -/
def T.phases : State :=
  T.gal { tread := { vLast := some (1180, 12688 / 10) } } (((T.ready.setN (Gal.CONV_CFG.PHASES_USED 0) 4).setN (Gal.CONV_CFG.PERIOD 0) 5000).setN
    (Gal.CONV_CFG.PHASE_L 0) 250000 |>.setR (Gal.CONV_CFG.PHASE_I_MAX 0) (some 250))
/-- Chapter 6: REF[0] to REF[3] are 152,568 mA, the others 0. -/
theorem test_references : T.phases.refsOf 0 1 (59969936 / 100000) = [152568, 152568, 152568, 152568, 0, 0, 0, 0] := by decide +kernel

/-- Chapter 7: Z_6 of position 200, to a millionth of a milliohm. -/
theorem test_impedance :
    let z := zOf (-159252527186, -7730705203) (2415845376000, 483169075200)
    qabs (z.1 - 64 / 1000) < 1 / 1000000 ∧ qabs (z.2 + 96 / 10000) < 1 / 1000000 := by decide +kernel

/-- Table 11-2: 20 strings of class A, 4 of class B, 2 of class C, in W. -/
def T.orzelle : List (Nat × Q × Option Q) :=
  (List.range 20).map (fun i => (i, 1000000, some (6 / 10))) ++ (List.range 4).map (fun i => (20 + i, 1000000, some (7 / 10))) ++
    [(24, 400000, some (5 / 10)), (25, 400000, some (5 / 10))]
/-- Whether string i has a share within 10 W of a number. -/
def T.near (r : List (Nat × Q)) (i : Nat) (x : Q) : Bool := r.any (fun e => e.1 == i && decide (qabs (e.2 - x) ≤ 10))

/-- Chapter 11: at 18.0 MW each string gets its weight's share. -/
theorem test_allocate_18 :
    let r := allocate 2 T.orzelle 18000000
    r.2 = 0 ∧ T.near r.1 0 707080 = true ∧ T.near r.1 20 852240 = true ∧ T.near r.1 24 224770 = true := by decide +kernel
/-- At 24.0 MW class B is held at its capability and the rest is shared again. -/
theorem test_allocate_24 :
    let r := allocate 2 T.orzelle 24000000
    r.2 = 0 ∧ T.near r.1 0 969190 = true ∧ T.near r.1 20 1000000 = true ∧ T.near r.1 24 308090 = true := by decide +kernel
/-- At 26.0 MW every string gives its capability and 1.2 MW are missing. -/
theorem test_allocate_26 :
    let r := allocate 2 T.orzelle 26000000
    r.2 = 1200000 ∧ T.near r.1 0 1000000 = true ∧ T.near r.1 24 400000 = true := by decide +kernel

/-- Chapter 14: a valve at 62.5 % is driven with 14.0 mA. -/
theorem test_valve :
    let s := T.chan { char := { gain := 625 / 100, offset := -25 } } ((T.ready.setN (Chn.CH_CFG.FUNCTION 3) 6).setN (Chn.CH_CFG.LIVE_ZERO 3) 1)
    let s := s.setR (Chn.CH_OUT.OUT_VALUE 3) (some (625 / 10))
    (T.next (exec (.channelSample 3 ⟨0, false, false⟩) s)).getR (Chn.CH_OUT.COMMANDED 3) = some 14 := by decide +kernel

/-- Chapter 8: 752.008 Ah between SOC 0.99 and 0.02 take a capacity of 780.0 Ah a quarter of the way to 775.266 Ah. -/
theorem test_learn :
    let s := T.gal { cells := [{ est := { c := 780 } }] } T.ready
    qabs (((s.learnClose 0 0 (99 / 100) (752008 * 36 / 10) (2 / 100)).cell 0 0).est.c - 77882 / 100) < 1 / 100 := by decide +kernel

/-! ### The queue -/

/-- No word of the table spells a command. -/
theorem test_no_word (nbits w : Nat) : decodeTableWord nbits w = none := rfl
/-- The command in front runs on the queue's rest. -/
theorem test_step : T.isNext (step { State.reset with pending := [.powerDownComplete] }) = true := by decide +kernel

end Sys2Proof.Machine

namespace Sys2Proof
open Machine

/-! ### Well-formedness: an ill-formed term for each check -/

/-- An operand just outside its range is ill formed, whatever the others (1 of 13). -/
theorem test_wf_refused_1 :
    (∀ (a0 : UpSuper), (Instr.upstreamSuperframe 32 a0).wf = false) ∧
    ((Instr.downstreamSuperframe 32).wf = false) ∧
    (∀ (a0 : Bool), (Instr.controlStep 32 a0).wf = false) ∧
    ((Instr.modelStep 32).wf = false) ∧
    ((Instr.spectrumPublish 32).wf = false) ∧
    (∀ (a0 : Nat) (a1 : List Byte), (Instr.sramFullLineWrite 32 a0 a1).wf = false) ∧
    (∀ (a0 : Nat) (a1 : Nat), (Instr.sramFullLineWrite a0 a1 (List.replicate 63 0)).wf = false) ∧
    (∀ (a0 : Nat) (a1 : Nat), (Instr.sramFullLineWrite a0 a1 (List.replicate 65 0)).wf = false) ∧
    (∀ (a0 : Nat) (a1 : Nat) (a2 : List Byte) (a3 : LineOwner) (a4 : List Nat), (Instr.sramPartialWrite 32 a0 a1 a2 a3 a4).wf = false) ∧
    (∀ (a0 : Nat) (a1 : LineOwner) (a2 : List Nat), (Instr.sramLineRead 32 a0 a1 a2).wf = false) ∧
    (∀ (a0 : Nat) (a1 : LineOwner) (a2 : List Nat), (Instr.scrubPass 32 a0 a1 a2).wf = false) ∧
    ((Instr.scheduledActionFire (2 ^ 32)).wf = false) ∧
    ((Instr.requestRun (.arcade (2 ^ 64))).wf = false) ∧
    ((Instr.requestReady (.arcade (2 ^ 64))).wf = false) ∧
    ((Instr.requestWatch (.arcade (2 ^ 64))).wf = false) ∧
    ((Instr.requestVault (.arcade (2 ^ 64))).wf = false) ∧
    ((Instr.requestRecovery (.arcade (2 ^ 64))).wf = false) ∧
    (∀ (a0 : Nat) (a1 : Bool) (a2 : List Byte), (Instr.wakeFrame 2 a0 a1 a2).wf = false) ∧
    (∀ (a0 : Nat) (a1 : Bool) (a2 : List Byte), (Instr.wakeFrame a0 (2 ^ 29) a1 a2).wf = false) ∧
    (∀ (a0 : Nat) (a1 : Nat) (a2 : Bool), (Instr.wakeFrame a0 a1 a2 (List.replicate 65 0)).wf = false) ∧
    (∀ (a0 : Nat) (a1 : Nat), (Instr.ladderRetry (.arcade (2 ^ 64)) a0 a1).wf = false) ∧
    (∀ (a0 : Path) (a1 : Nat), (Instr.ladderRetry a0 256 a1).wf = false) ∧
    (∀ (a0 : Path) (a1 : Nat), (Instr.ladderRetry a0 a1 256).wf = false) ∧
    (∀ (a0 : Nat) (a1 : Nat), (Instr.ladderReinitialise (.arcade (2 ^ 64)) a0 a1).wf = false) ∧
    (∀ (a0 : Path) (a1 : Nat), (Instr.ladderReinitialise a0 256 a1).wf = false) := by
  simp [Instr.wf, Machine.Path.ok]

/-- An operand just outside its range is ill formed, whatever the others (2 of 13). -/
theorem test_wf_refused_2 :
    (∀ (a0 : Path) (a1 : Nat), (Instr.ladderReinitialise a0 a1 256).wf = false) ∧
    ((Instr.ladderDeviceReset (.arcade (2 ^ 64))).wf = false) ∧
    (∀ (a0 : Nat) (a1 : Nat) (a2 : Nat) (a3 : Nat), (Instr.writeOneToClear (.arcade (2 ^ 64)) a0 a1 a2 a3).wf = false) ∧
    (∀ (a0 : Path) (a1 : Nat) (a2 : Nat) (a3 : Nat), (Instr.writeOneToClear a0 65536 a1 a2 a3).wf = false) ∧
    (∀ (a0 : Path) (a1 : Nat) (a2 : Nat) (a3 : Nat), (Instr.writeOneToClear a0 a1 256 a2 a3).wf = false) ∧
    (∀ (a0 : Nat) (a1 : Nat) (a2 : List Byte), (Instr.registerWrite (.arcade (2 ^ 64)) a0 a1 a2).wf = false) ∧
    (∀ (a0 : Path) (a1 : Nat) (a2 : List Byte), (Instr.registerWrite a0 65536 a1 a2).wf = false) ∧
    (∀ (a0 : Path) (a1 : Nat) (a2 : List Byte), (Instr.registerWrite a0 a1 256 a2).wf = false) ∧
    (∀ (a0 : Nat) (a1 : Nat) (a2 : List Byte), (Instr.rwSWrite (.arcade (2 ^ 64)) a0 a1 a2).wf = false) ∧
    (∀ (a0 : Path) (a1 : Nat) (a2 : List Byte), (Instr.rwSWrite a0 65536 a1 a2).wf = false) ∧
    (∀ (a0 : Path) (a1 : Nat) (a2 : List Byte), (Instr.rwSWrite a0 a1 256 a2).wf = false) ∧
    (∀ (a0 : Nat) (a1 : Bool) (a2 : Bool), (Instr.sealSet (.arcade (2 ^ 64)) a0 a1 a2).wf = false) ∧
    (∀ (a0 : Path) (a1 : Bool) (a2 : Bool), (Instr.sealSet a0 (2 ^ 32) a1 a2).wf = false) ∧
    ((Instr.sealDiscard (.arcade (2 ^ 64))).wf = false) ∧
    ((Instr.store (.arcade (2 ^ 64))).wf = false) ∧
    ((Instr.restore (.arcade (2 ^ 64))).wf = false) ∧
    (∀ (a0 : Nat) (a1 : Nat), (Instr.cellWindowSel (.arcade (2 ^ 64)) a0 a1).wf = false) ∧
    (∀ (a0 : Path) (a1 : Nat), (Instr.cellWindowSel a0 32 a1).wf = false) ∧
    (∀ (a0 : Path) (a1 : Nat), (Instr.cellWindowSel a0 a1 (2 ^ 64)).wf = false) ∧
    (∀ (a0 : Nat), (Instr.cellWindow (.arcade (2 ^ 64)) a0).wf = false) ∧
    (∀ (a0 : Path), (Instr.cellWindow a0 32).wf = false) ∧
    (∀ (a0 : Nat), (Instr.blockCtrlReinitialise (.arcade (2 ^ 64)) a0).wf = false) ∧
    (∀ (a0 : Path), (Instr.blockCtrlReinitialise a0 32).wf = false) ∧
    ((Instr.errorFieldClear (.arcade (2 ^ 64))).wf = false) ∧
    (∀ (a0 : Bool) (a1 : Bool) (a2 : List Byte) (a3 : Bool), (Instr.sdoDownloadSegment 2 a0 a1 a2 a3).wf = false) := by
  simp [Instr.wf, Machine.Path.ok]

/-- An operand just outside its range is ill formed, whatever the others (3 of 13). -/
theorem test_wf_refused_3 :
    (∀ (a0 : Nat) (a1 : Bool) (a2 : Bool) (a3 : Bool), (Instr.sdoDownloadSegment a0 a1 a2 (List.replicate 8 0) a3).wf = false) ∧
    (∀ (a0 : Nat) (a1 : Nat) (a2 : Bool), (Instr.sdoInitiateUpload 2 a0 a1 a2).wf = false) ∧
    (∀ (a0 : Nat) (a1 : Nat) (a2 : Bool), (Instr.sdoInitiateUpload a0 65536 a1 a2).wf = false) ∧
    (∀ (a0 : Nat) (a1 : Nat) (a2 : Bool), (Instr.sdoInitiateUpload a0 a1 256 a2).wf = false) ∧
    (∀ (a0 : Bool) (a1 : Bool), (Instr.sdoUploadSegment 2 a0 a1).wf = false) ∧
    (∀ (a0 : Nat) (a1 : Nat) (a2 : Option Nat) (a3 : Bool) (a4 : Bool), (Instr.sdoBlockDownloadInitiate 2 a0 a1 a2 a3 a4).wf = false) ∧
    (∀ (a0 : Nat) (a1 : Nat) (a2 : Option Nat) (a3 : Bool) (a4 : Bool), (Instr.sdoBlockDownloadInitiate a0 65536 a1 a2 a3 a4).wf = false) ∧
    (∀ (a0 : Nat) (a1 : Nat) (a2 : Option Nat) (a3 : Bool) (a4 : Bool), (Instr.sdoBlockDownloadInitiate a0 a1 256 a2 a3 a4).wf = false) ∧
    (∀ (a0 : Nat) (a1 : Bool) (a2 : List Byte) (a3 : Bool), (Instr.sdoBlockDownloadSubblock 2 a0 a1 a2 a3).wf = false) ∧
    (∀ (a0 : Nat) (a1 : Bool) (a2 : List Byte) (a3 : Bool), (Instr.sdoBlockDownloadSubblock a0 128 a1 a2 a3).wf = false) ∧
    (∀ (a0 : Nat) (a1 : Nat) (a2 : Bool) (a3 : Bool), (Instr.sdoBlockDownloadSubblock a0 a1 a2 (List.replicate 8 0) a3).wf = false) ∧
    (∀ (a0 : Nat) (a1 : Nat) (a2 : Bool), (Instr.sdoBlockDownloadEnd 2 a0 a1 a2).wf = false) ∧
    (∀ (a0 : Nat) (a1 : Nat) (a2 : Bool), (Instr.sdoBlockDownloadEnd a0 8 a1 a2).wf = false) ∧
    (∀ (a0 : Nat) (a1 : Nat) (a2 : Bool), (Instr.sdoBlockDownloadEnd a0 a1 (2 ^ 32) a2).wf = false) ∧
    (∀ (a0 : Nat) (a1 : Nat) (a2 : Nat) (a3 : Bool) (a4 : Bool), (Instr.sdoBlockUploadInitiate 2 a0 a1 a2 a3 a4).wf = false) ∧
    (∀ (a0 : Nat) (a1 : Nat) (a2 : Nat) (a3 : Bool) (a4 : Bool), (Instr.sdoBlockUploadInitiate a0 65536 a1 a2 a3 a4).wf = false) ∧
    (∀ (a0 : Nat) (a1 : Nat) (a2 : Nat) (a3 : Bool) (a4 : Bool), (Instr.sdoBlockUploadInitiate a0 a1 256 a2 a3 a4).wf = false) ∧
    (∀ (a0 : Nat) (a1 : Nat) (a2 : Nat) (a3 : Bool) (a4 : Bool), (Instr.sdoBlockUploadInitiate a0 a1 a2 256 a3 a4).wf = false) ∧
    (∀ (a0 : Bool), (Instr.sdoBlockUploadStart 2 a0).wf = false) ∧
    (∀ (a0 : Nat) (a1 : Nat) (a2 : Bool), (Instr.sdoBlockUploadAck 2 a0 a1 a2).wf = false) ∧
    (∀ (a0 : Nat) (a1 : Nat) (a2 : Bool), (Instr.sdoBlockUploadAck a0 256 a1 a2).wf = false) ∧
    (∀ (a0 : Nat) (a1 : Nat) (a2 : Bool), (Instr.sdoBlockUploadAck a0 a1 256 a2).wf = false) ∧
    ((Instr.sdoBlockUploadEnd 2).wf = false) ∧
    (∀ (a0 : Nat), (Instr.sdoAbortTransfer 2 a0).wf = false) ∧
    (∀ (a0 : Nat), (Instr.sdoAbortTransfer a0 (2 ^ 32)).wf = false) := by
  simp [Instr.wf]

/-- An operand just outside its range is ill formed, whatever the others (4 of 13). -/
theorem test_wf_refused_4 :
    ((Instr.sdoTimeout 2).wf = false) ∧
    (∀ (a0 : Nat), (Instr.nmtStart 2 a0).wf = false) ∧
    (∀ (a0 : Nat), (Instr.nmtStart a0 256).wf = false) ∧
    (∀ (a0 : Nat), (Instr.nmtStop 2 a0).wf = false) ∧
    (∀ (a0 : Nat), (Instr.nmtStop a0 256).wf = false) ∧
    (∀ (a0 : Nat), (Instr.nmtPreOperational 2 a0).wf = false) ∧
    (∀ (a0 : Nat), (Instr.nmtPreOperational a0 256).wf = false) ∧
    (∀ (a0 : Nat), (Instr.nmtResetNode 2 a0).wf = false) ∧
    (∀ (a0 : Nat), (Instr.nmtResetNode a0 256).wf = false) ∧
    (∀ (a0 : Nat), (Instr.nmtResetCommunication 2 a0).wf = false) ∧
    (∀ (a0 : Nat), (Instr.nmtResetCommunication a0 256).wf = false) ∧
    ((Instr.sync 2).wf = false) ∧
    (∀ (a0 : Nat) (a1 : List Byte), (Instr.rpdo 2 a0 a1).wf = false) ∧
    (∀ (a0 : Nat) (a1 : List Byte), (Instr.rpdo a0 16 a1).wf = false) ∧
    (∀ (a0 : Nat) (a1 : Nat), (Instr.rpdo a0 a1 (List.replicate 65 0)).wf = false) ∧
    (∀ (a0 : Nat), (Instr.tpdo 2 a0).wf = false) ∧
    (∀ (a0 : Nat), (Instr.tpdo a0 32).wf = false) ∧
    (∀ (a0 : Nat), (Instr.heartbeatConsumerTimeout 2 a0).wf = false) ∧
    (∀ (a0 : Nat), (Instr.heartbeatConsumerTimeout a0 0).wf = false) ∧
    (∀ (a0 : Nat), (Instr.heartbeatConsumerTimeout a0 5).wf = false) ∧
    ((Instr.arcadeReqTimeout (2 ^ 32)).wf = false) ∧
    ((Instr.arcadeFrozenExpiry (2 ^ 64)).wf = false) ∧
    (∀ (a0 : List Byte), (Instr.ringKey (.arcade (2 ^ 64)) a0).wf = false) ∧
    (∀ (a0 : List Byte), (Instr.ownerKey (.arcade (2 ^ 64)) a0).wf = false) ∧
    (∀ (a0 : Nat) (a1 : Nat) (a2 : List Byte), (Instr.stringCfg (.arcade (2 ^ 64)) a0 a1 a2).wf = false) := by
  simp [Instr.wf, Machine.Path.ok]

/-- An operand just outside its range is ill formed, whatever the others (5 of 13). -/
theorem test_wf_refused_5 :
    (∀ (a0 : Path) (a1 : Nat) (a2 : List Byte), (Instr.stringCfg a0 65536 a1 a2).wf = false) ∧
    (∀ (a0 : Path) (a1 : Nat) (a2 : List Byte), (Instr.stringCfg a0 a1 256 a2).wf = false) ∧
    ((Instr.acquireTimeout 32).wf = false) ∧
    ((Instr.retryWaitExpiry 32).wf = false) ∧
    ((Instr.trunkLoss 32).wf = false) ∧
    ((Instr.commandResend 32).wf = false) ∧
    (∀ (a0 : Bool) (a1 : Nat) (a2 : Nat) (a3 : Bool) (a4 : Nat) (a5 : Bool), (Instr.identify 32 a0 a1 a2 a3 a4 a5).wf = false) ∧
    (∀ (a0 : Nat) (a1 : Bool) (a2 : Nat) (a3 : Bool) (a4 : Nat) (a5 : Bool), (Instr.identify a0 a1 256 a2 a3 a4 a5).wf = false) ∧
    (∀ (a0 : Nat) (a1 : Bool) (a2 : Nat) (a3 : Bool) (a4 : Nat) (a5 : Bool), (Instr.identify a0 a1 a2 256 a3 a4 a5).wf = false) ∧
    (∀ (a0 : Bool) (a1 : Nat) (a2 : Nat) (a3 : Nat), (Instr.readReg 32 a0 a1 a2 a3).wf = false) ∧
    (∀ (a0 : Nat) (a1 : Bool) (a2 : Nat) (a3 : Nat), (Instr.readReg a0 a1 256 a2 a3).wf = false) ∧
    (∀ (a0 : Nat) (a1 : Bool) (a2 : Nat) (a3 : Nat), (Instr.readReg a0 a1 a2 256 a3).wf = false) ∧
    (∀ (a0 : Bool) (a1 : Nat) (a2 : Nat) (a3 : Nat) (a4 : Nat), (Instr.writeReg 32 a0 a1 a2 a3 a4).wf = false) ∧
    (∀ (a0 : Nat) (a1 : Bool) (a2 : Nat) (a3 : Nat) (a4 : Nat), (Instr.writeReg a0 a1 256 a2 a3 a4).wf = false) ∧
    (∀ (a0 : Nat) (a1 : Bool) (a2 : Nat) (a3 : Nat) (a4 : Nat), (Instr.writeReg a0 a1 a2 256 a3 a4).wf = false) ∧
    (∀ (a0 : Nat) (a1 : Bool) (a2 : Nat) (a3 : Nat) (a4 : Nat), (Instr.writeReg a0 a1 a2 a3 a4 65536).wf = false) ∧
    (∀ (a0 : Nat) (a1 : Nat) (a2 : Nat) (a3 : Nat), (Instr.syncReset 32 a0 a1 a2 a3).wf = false) ∧
    (∀ (a0 : Nat) (a1 : Nat) (a2 : Nat) (a3 : Nat), (Instr.syncReset a0 256 a1 a2 a3).wf = false) ∧
    (∀ (a0 : Nat) (a1 : Nat) (a2 : Nat) (a3 : Nat), (Instr.syncReset a0 a1 256 a2 a3).wf = false) ∧
    (∀ (a0 : Nat) (a1 : Nat) (a2 : Nat) (a3 : Nat), (Instr.syncReset a0 a1 a2 65536 a3).wf = false) ∧
    (∀ (a0 : Nat) (a1 : Nat) (a2 : Nat), (Instr.sweep 32 a0 a1 a2).wf = false) ∧
    (∀ (a0 : Nat) (a1 : Nat) (a2 : Nat), (Instr.sweep a0 256 a1 a2).wf = false) ∧
    (∀ (a0 : Nat) (a1 : Nat) (a2 : Nat), (Instr.sweep a0 a1 256 a2).wf = false) ∧
    (∀ (a0 : Nat) (a1 : Nat) (a2 : Nat) (a3 : Nat), (Instr.switchTest 32 a0 a1 a2 a3).wf = false) ∧
    (∀ (a0 : Nat) (a1 : Nat) (a2 : Nat) (a3 : Nat), (Instr.switchTest a0 256 a1 a2 a3).wf = false) := by
  simp [Instr.wf]

/-- An operand just outside its range is ill formed, whatever the others (6 of 13). -/
theorem test_wf_refused_6 :
    (∀ (a0 : Nat) (a1 : Nat) (a2 : Nat) (a3 : Nat), (Instr.switchTest a0 a1 256 a2 a3).wf = false) ∧
    (∀ (a0 : Nat) (a1 : Nat) (a2 : Nat) (a3 : Nat), (Instr.switchTest a0 a1 a2 512 a3).wf = false) ∧
    (∀ (a0 : Nat) (a1 : Nat) (a2 : Nat) (a3 : Nat), (Instr.switchTest a0 a1 a2 a3 256).wf = false) ∧
    (∀ (a0 : Nat) (a1 : Nat) (a2 : Nat) (a3 : Nat) (a4 : Nat), (Instr.commission 32 a0 a1 a2 a3 a4).wf = false) ∧
    (∀ (a0 : Nat) (a1 : Nat) (a2 : Nat) (a3 : Nat) (a4 : Nat), (Instr.commission a0 256 a1 a2 a3 a4).wf = false) ∧
    (∀ (a0 : Nat) (a1 : Nat) (a2 : Nat) (a3 : Nat) (a4 : Nat), (Instr.commission a0 a1 256 a2 a3 a4).wf = false) ∧
    (∀ (a0 : Nat) (a1 : Nat) (a2 : Nat) (a3 : Nat) (a4 : Nat), (Instr.commission a0 a1 a2 a3 65536 a4).wf = false) ∧
    (∀ (a0 : Nat) (a1 : Nat) (a2 : Nat) (a3 : Nat) (a4 : Nat), (Instr.commission a0 a1 a2 a3 a4 (2 ^ 64)).wf = false) ∧
    (∀ (a0 : Bool) (a1 : Nat), (Instr.restoreRing 32 a0 a1).wf = false) ∧
    (∀ (a0 : Nat) (a1 : Bool), (Instr.restoreRing a0 a1 256).wf = false) ∧
    (∀ (a0 : Bool) (a1 : Nat), (Instr.release 32 a0 a1).wf = false) ∧
    (∀ (a0 : Nat) (a1 : Bool), (Instr.release a0 a1 256).wf = false) ∧
    (∀ (a0 : Bool) (a1 : Nat) (a2 : Nat) (a3 : Nat) (a4 : Int), (Instr.sleep 32 a0 a1 a2 a3 a4).wf = false) ∧
    (∀ (a0 : Nat) (a1 : Bool) (a2 : Nat) (a3 : Nat) (a4 : Int), (Instr.sleep a0 a1 256 a2 a3 a4).wf = false) ∧
    (∀ (a0 : Nat) (a1 : Bool) (a2 : Nat) (a3 : Nat) (a4 : Int), (Instr.sleep a0 a1 a2 256 a3 a4).wf = false) ∧
    (∀ (a0 : Bool) (a1 : Nat) (a2 : Nat) (a3 : Nat), (Instr.selftest 32 a0 a1 a2 a3).wf = false) ∧
    (∀ (a0 : Nat) (a1 : Bool) (a2 : Nat) (a3 : Nat), (Instr.selftest a0 a1 256 a2 a3).wf = false) ∧
    (∀ (a0 : Nat) (a1 : Bool) (a2 : Nat) (a3 : Nat), (Instr.selftest a0 a1 a2 256 a3).wf = false) ∧
    (∀ (a0 : Nat), (Instr.flightNodesCommission (.arcade (2 ^ 64)) a0).wf = false) ∧
    (∀ (a0 : Path), (Instr.flightNodesCommission a0 32).wf = false) ∧
    (∀ (a0 : Nat), (Instr.restoreNow (.arcade (2 ^ 64)) a0).wf = false) ∧
    (∀ (a0 : Path), (Instr.restoreNow a0 32).wf = false) ∧
    ((Instr.autoRestore 32).wf = false) ∧
    (∀ (a0 : Bool) (a1 : DownSuper), (Instr.headSuperframeRx 32 a0 a1).wf = false) ∧
    ((Instr.headHoldTimeout 32).wf = false) := by
  simp [Instr.wf, Machine.Path.ok]

/-- An operand just outside its range is ill formed, whatever the others (7 of 13). -/
theorem test_wf_refused_7 :
    (∀ (a0 : Bool), (Instr.headTrunkLoss 32 a0).wf = false) ∧
    ((Instr.dualFault 32).wf = false) ∧
    (∀ (a0 : LoopBack), (Instr.loopFrameEvaluate 32 a0).wf = false) ∧
    (∀ (a0 : Nat) (a1 : Bool) (a2 : Bool) (a3 : LinkIn), (Instr.monitorSlotFill 32 a0 a1 a2 a3).wf = false) ∧
    (∀ (a0 : Nat) (a1 : Bool) (a2 : Bool) (a3 : LinkIn), (Instr.monitorSlotFill a0 256 a1 a2 a3).wf = false) ∧
    (∀ (a0 : Nat), (Instr.monitorSignalLoss 32 a0).wf = false) ∧
    (∀ (a0 : Nat), (Instr.monitorSignalLoss a0 256).wf = false) ∧
    (∀ (a0 : Reading), (Instr.sampleLatch 32 a0).wf = false) ∧
    (∀ (a0 : Nat), (Instr.monitorFrameTimeout 32 a0).wf = false) ∧
    (∀ (a0 : Nat), (Instr.monitorFrameTimeout a0 256).wf = false) ∧
    (∀ (a0 : Nat) (a1 : List Nat) (a2 : List Nat) (a3 : Nat), (Instr.sleepCheck 32 a0 a1 a2 a3).wf = false) ∧
    (∀ (a0 : Nat) (a1 : List Nat) (a2 : List Nat) (a3 : Nat), (Instr.sleepCheck a0 256 a1 a2 a3).wf = false) ∧
    (∀ (a0 : Nat), (Instr.wakeBurst 32 a0).wf = false) ∧
    (∀ (a0 : Nat), (Instr.wakeBurst a0 256).wf = false) ∧
    ((Instr.delayCompReread 32).wf = false) ∧
    (∀ (a0 : Nat), (Instr.syncNow (.arcade (2 ^ 64)) a0).wf = false) ∧
    (∀ (a0 : Path), (Instr.syncNow a0 32).wf = false) ∧
    ((Instr.balanceDecision 32).wf = false) ∧
    (∀ (a0 : Nat) (a1 : Nat), (Instr.balanceTestRun (.arcade (2 ^ 64)) a0 a1).wf = false) ∧
    (∀ (a0 : Path) (a1 : Nat), (Instr.balanceTestRun a0 32 a1).wf = false) ∧
    (∀ (a0 : Path) (a1 : Nat), (Instr.balanceTestRun a0 a1 512).wf = false) ∧
    ((Instr.switchTestInterval 32).wf = false) ∧
    ((Instr.sweepDue 32).wf = false) ∧
    ((Instr.sweepMissing 32).wf = false) ∧
    ((Instr.sweepIntervalRelax 32).wf = false) := by
  simp [Instr.wf, Machine.Path.ok]

/-- An operand just outside its range is ill formed, whatever the others (8 of 13). -/
theorem test_wf_refused_8 :
    (∀ (a0 : Nat), (Instr.restart (.arcade (2 ^ 64)) a0).wf = false) ∧
    (∀ (a0 : Path), (Instr.restart a0 32).wf = false) ∧
    (∀ (a0 : Nat) (a1 : Nat), (Instr.converterEnable (.arcade (2 ^ 64)) a0 a1).wf = false) ∧
    (∀ (a0 : Path) (a1 : Nat), (Instr.converterEnable a0 32 a1).wf = false) ∧
    (∀ (a0 : Path) (a1 : Nat), (Instr.converterEnable a0 a1 2).wf = false) ∧
    (∀ (a0 : Nat) (a1 : PeakHit), (Instr.peakRead (.arcade (2 ^ 64)) a0 a1).wf = false) ∧
    (∀ (a0 : Path) (a1 : PeakHit), (Instr.peakRead a0 32 a1).wf = false) ∧
    (∀ (a0 : Path) (a1 : Nat), (Instr.peakRead a0 a1 (⟨11, none⟩)).wf = false) ∧
    (∀ (a0 : Bool), (Instr.telemetryWindow 32 a0).wf = false) ∧
    (∀ (a0 : Nat), (Instr.excitationApply (.arcade (2 ^ 64)) a0).wf = false) ∧
    (∀ (a0 : Path), (Instr.excitationApply a0 32).wf = false) ∧
    ((Instr.setComputed 32).wf = false) ∧
    (∀ (a0 : Nat), (Instr.platingClear (.arcade (2 ^ 64)) a0).wf = false) ∧
    (∀ (a0 : Path), (Instr.platingClear a0 32).wf = false) ∧
    (∀ (a0 : Nat), (Instr.archiveNow (.arcade (2 ^ 64)) a0).wf = false) ∧
    (∀ (a0 : Path), (Instr.archiveNow a0 32).wf = false) ∧
    ((Instr.archiveInterval 32).wf = false) ∧
    ((Instr.archiveRecordWrite 32).wf = false) ∧
    (∀ (a0 : Nat) (a1 : Nat), (Instr.archiveSel (.arcade (2 ^ 64)) a0 a1).wf = false) ∧
    (∀ (a0 : Path) (a1 : Nat), (Instr.archiveSel a0 32 a1).wf = false) ∧
    (∀ (a0 : Path) (a1 : Nat), (Instr.archiveSel a0 a1 (2 ^ 64)).wf = false) ∧
    (∀ (a0 : Nat), (Instr.archiveRead (.arcade (2 ^ 64)) a0).wf = false) ∧
    (∀ (a0 : Path), (Instr.archiveRead a0 32).wf = false) ∧
    (∀ (a0 : Nat) (a1 : List Byte), (Instr.modelSet (.arcade (2 ^ 64)) a0 a1).wf = false) ∧
    (∀ (a0 : Path) (a1 : List Byte), (Instr.modelSet a0 32 a1).wf = false) := by
  simp [Instr.wf, Machine.Path.ok]

/-- An operand just outside its range is ill formed, whatever the others (9 of 13). -/
theorem test_wf_refused_9 :
    (∀ (a0 : Nat) (a1 : Nat), (Instr.replaced (.arcade (2 ^ 64)) a0 a1).wf = false) ∧
    (∀ (a0 : Path) (a1 : Nat), (Instr.replaced a0 32 a1).wf = false) ∧
    (∀ (a0 : Path) (a1 : Nat), (Instr.replaced a0 a1 512).wf = false) ∧
    ((Instr.restCorrection 32).wf = false) ∧
    ((Instr.aggregates 32).wf = false) ∧
    ((Instr.stateSave 32).wf = false) ∧
    ((Instr.stateSaveDone 32).wf = false) ∧
    ((Instr.saveFailed 32).wf = false) ∧
    ((Instr.riseStopTime 32).wf = false) ∧
    (∀ (a0 : Nat), (Instr.energiseOn (.arcade (2 ^ 64)) a0).wf = false) ∧
    (∀ (a0 : Path), (Instr.energiseOn a0 32).wf = false) ∧
    (∀ (a0 : Nat), (Instr.energiseOff (.arcade (2 ^ 64)) a0).wf = false) ∧
    (∀ (a0 : Path), (Instr.energiseOff a0 32).wf = false) ∧
    ((Instr.busCheckTimeout 8).wf = false) ∧
    ((Instr.preTimeExpiry 8).wf = false) ∧
    ((Instr.fbTimeExpiry 8).wf = false) ∧
    ((Instr.minOffElapsed 8).wf = false) ∧
    (∀ (a0 : Bool), (Instr.maxOverlapExpiry 8 a0).wf = false) ∧
    ((Instr.mainCloseTimeExpiry 8).wf = false) ∧
    ((Instr.seoDelayExpiry 8).wf = false) ∧
    ((Instr.srsMaxTimeExpiry 8).wf = false) ∧
    ((Instr.trunkLossSeoTimer 8).wf = false) ∧
    (∀ (a0 : Q) (a1 : Nat), (Instr.soOvercurrent 8 a0 a1).wf = false) ∧
    (∀ (a0 : Nat) (a1 : Bool) (a2 : Bool) (a3 : Bool), (Instr.safetyInputChange 16 a0 a1 a2 a3).wf = false) ∧
    (∀ (a0 : Nat) (a1 : Bool) (a2 : Bool) (a3 : Bool), (Instr.safetyInputChange a0 4 a1 a2 a3).wf = false) := by
  simp [Instr.wf, Machine.Path.ok]

/-- An operand just outside its range is ill formed, whatever the others (10 of 13). -/
theorem test_wf_refused_10 :
    ((Instr.discrepancyTimeout 16).wf = false) ∧
    (∀ (a0 : Nat), (Instr.testPulse 4 a0).wf = false) ∧
    (∀ (a0 : Bool) (a1 : SafetyChan) (a2 : Bool) (a3 : Bool) (a4 : Bool), (Instr.outputTestPulse 16 a0 a1 a2 a3 a4).wf = false) ∧
    ((Instr.lockoutReset (.arcade (2 ^ 64))).wf = false) ∧
    (∀ (a0 : Nat), (Instr.lostClear (.arcade (2 ^ 64)) a0).wf = false) ∧
    (∀ (a0 : Path), (Instr.lostClear a0 32).wf = false) ∧
    ((Instr.stringLost 32).wf = false) ∧
    ((Instr.threshRewrite 32).wf = false) ∧
    (∀ (a0 : List Byte), (Instr.pDemand (.arcade (2 ^ 64)) a0).wf = false) ∧
    (∀ (a0 : List Byte), (Instr.leaderTarget (.arcade (2 ^ 64)) a0).wf = false) ∧
    ((Instr.joinDelay (2 ^ 64)).wf = false) ∧
    ((Instr.nodeForget (2 ^ 48)).wf = false) ∧
    ((Instr.memberTimeout (2 ^ 64)).wf = false) ∧
    (∀ (a0 : Nat), (Instr.redundancyEnable (.arcade (2 ^ 64)) a0).wf = false) ∧
    (∀ (a0 : Path), (Instr.redundancyEnable a0 2).wf = false) ∧
    ((Instr.swap (.arcade (2 ^ 64))).wf = false) ∧
    ((Instr.reArm (.arcade (2 ^ 64))).wf = false) ∧
    (∀ (a0 : ChanIn), (Instr.channelSample 16 a0).wf = false) ∧
    ((Instr.overloadTrip 16).wf = false) ∧
    (∀ (a0 : Q) (a1 : Bool), (Instr.readbackCompare 16 a0 a1).wf = false) ∧
    (∀ (a0 : Q), (Instr.railUpdate 16 a0).wf = false) ∧
    (∀ (a0 : Q), (Instr.driverThermal 16 a0).wf = false) ∧
    (∀ (a0 : Nat) (a1 : List Byte), (Instr.outValue (.arcade (2 ^ 64)) a0 a1).wf = false) ∧
    (∀ (a0 : Path) (a1 : List Byte), (Instr.outValue a0 16 a1).wf = false) ∧
    ((Instr.outTimeout 16).wf = false) := by
  simp [Instr.wf, Machine.Path.ok]

/-- An operand just outside its range is ill formed, whatever the others (11 of 13). -/
theorem test_wf_refused_11 :
    (∀ (a0 : Nat), (Instr.chCharApply (.arcade (2 ^ 64)) a0).wf = false) ∧
    (∀ (a0 : Path), (Instr.chCharApply a0 16).wf = false) ∧
    (∀ (a0 : Nat), (Instr.chReinitialise (.arcade (2 ^ 64)) a0).wf = false) ∧
    (∀ (a0 : Path), (Instr.chReinitialise a0 16).wf = false) ∧
    (∀ (a0 : Nat), (Instr.chTest (.arcade (2 ^ 64)) a0).wf = false) ∧
    (∀ (a0 : Path), (Instr.chTest a0 16).wf = false) ∧
    (∀ (a0 : TestReadings), (Instr.chCommandDone 16 a0).wf = false) ∧
    ((Instr.outputResume 16).wf = false) ∧
    (∀ (a0 : Nat) (a1 : Nat), (Instr.function (.arcade (2 ^ 64)) a0 a1).wf = false) ∧
    (∀ (a0 : Path) (a1 : Nat), (Instr.function a0 16 a1).wf = false) ∧
    (∀ (a0 : Path) (a1 : Nat), (Instr.function a0 a1 256).wf = false) ∧
    ((Instr.hartPoll 16).wf = false) ∧
    (∀ (a0 : HartFrame), (Instr.hartResponseRx 16 a0).wf = false) ∧
    (∀ (a0 : HartFrame), (Instr.hartBurstFrame 16 a0).wf = false) ∧
    ((Instr.hartResponseTimeout 16).wf = false) ∧
    ((Instr.hartIdentifyRetry 16).wf = false) ∧
    (∀ (a0 : Nat) (a1 : List Byte), (Instr.hartXferRequest (.arcade (2 ^ 64)) a0 a1).wf = false) ∧
    (∀ (a0 : Path) (a1 : List Byte), (Instr.hartXferRequest a0 16 a1).wf = false) ∧
    (∀ (a0 : Bool) (a1 : Nat), (Instr.canFrameTxDone 2 a0 a1).wf = false) ∧
    ((Instr.canBusOff 2).wf = false) ∧
    ((Instr.busoffDelay 2).wf = false) ∧
    ((Instr.canBusOffRecovered 2).wf = false) ∧
    (∀ (a0 : Nat) (a1 : Bool) (a2 : Bool), (Instr.canFlush (.arcade (2 ^ 64)) a0 a1 a2).wf = false) ∧
    (∀ (a0 : Path) (a1 : Bool) (a2 : Bool), (Instr.canFlush a0 2 a1 a2).wf = false) ∧
    ((Instr.twaSlotDue 0).wf = false) := by
  simp [Instr.wf, Machine.Path.ok]

/-- An operand just outside its range is ill formed, whatever the others (12 of 13). -/
theorem test_wf_refused_12 :
    ((Instr.twaSlotDue 17).wf = false) ∧
    (∀ (a0 : Nat), (Instr.twaTrigger (.arcade (2 ^ 64)) a0).wf = false) ∧
    (∀ (a0 : Path), (Instr.twaTrigger a0 65536).wf = false) ∧
    (∀ (a0 : TwaResult), (Instr.twaSlotDone 0 a0).wf = false) ∧
    (∀ (a0 : TwaResult), (Instr.twaSlotDone 17 a0).wf = false) ∧
    ((Instr.twaArbRetry 0).wf = false) ∧
    ((Instr.twaArbRetry 17).wf = false) ∧
    (∀ (a0 : Nat), (Instr.twbReadTransaction (some 65536) a0).wf = false) ∧
    (∀ (a0 : Nat) (a1 : Nat) (a2 : Nat) (a3 : List Byte), (Instr.recordEntry 65536 a0 a1 a2 a3).wf = false) ∧
    (∀ (a0 : Nat) (a1 : Nat) (a2 : Nat) (a3 : List Byte), (Instr.recordEntry a0 256 a1 a2 a3).wf = false) ∧
    (∀ (a0 : Nat) (a1 : Nat) (a2 : Nat) (a3 : List Byte), (Instr.recordEntry a0 a1 256 a2 a3).wf = false) ∧
    (∀ (a0 : Nat) (a1 : Nat) (a2 : Nat) (a3 : List Byte), (Instr.recordEntry a0 a1 a2 4 a3).wf = false) ∧
    ((Instr.recorderFlush (.arcade (2 ^ 64))).wf = false) ∧
    (∀ (a0 : Nat), (Instr.snapCount (.arcade (2 ^ 64)) a0).wf = false) ∧
    (∀ (a0 : Path), (Instr.snapCount a0 65536).wf = false) ∧
    ((Instr.recorderRead (.arcade (2 ^ 64))).wf = false) ∧
    ((Instr.snapshotExpiry (.arcade (2 ^ 64))).wf = false) ∧
    ((Instr.begin (.arcade (2 ^ 64))).wf = false) ∧
    (∀ (a0 : List Byte), (Instr.updateData (.arcade (2 ^ 64)) a0).wf = false) ∧
    ((Instr.verify (.arcade (2 ^ 64))).wf = false) ∧
    ((Instr.activate (.arcade (2 ^ 64))).wf = false) ∧
    ((Instr.commit (.arcade (2 ^ 64))).wf = false) ∧
    ((Instr.abort (.arcade (2 ^ 64))).wf = false) ∧
    (∀ (a0 : Nat) (a1 : Nat) (a2 : Int) (a3 : Nat), (Instr.comparatorTrip 32 a0 a1 a2 a3).wf = false) ∧
    (∀ (a0 : Nat) (a1 : Nat) (a2 : Int) (a3 : Nat), (Instr.comparatorTrip a0 256 a1 a2 a3).wf = false) := by
  simp [Instr.wf, Machine.Path.ok]

/-- An operand just outside its range is ill formed, whatever the others (13 of 13). -/
theorem test_wf_refused_13 :
    (∀ (a0 : Nat) (a1 : Nat) (a2 : Int) (a3 : Nat), (Instr.comparatorTrip a0 a1 512 a2 a3).wf = false) ∧
    (∀ (a0 : Nat) (a1 : List Nat), (Instr.sweepConversionDone 32 a0 a1).wf = false) ∧
    (∀ (a0 : Nat) (a1 : List Nat), (Instr.sweepConversionDone a0 256 a1).wf = false) ∧
    (∀ (a0 : Nat) (a1 : Nat), (Instr.canErrorPassive 2 a0 a1).wf = false) := by
  simp [Instr.wf]

/-- Operands at the end of their ranges are well formed (1 of 12). -/
theorem test_wf_accepted_1 :
    (∀ (a0 : UpSuper), (Instr.upstreamSuperframe (32 - 1) a0).wf = true) ∧
    ((Instr.downstreamSuperframe (32 - 1)).wf = true) ∧
    (∀ (a0 : Bool), (Instr.controlStep (32 - 1) a0).wf = true) ∧
    ((Instr.modelStep (32 - 1)).wf = true) ∧
    ((Instr.spectrumPublish (32 - 1)).wf = true) ∧
    (∀ (a0 : Nat), (Instr.sramFullLineWrite (32 - 1) a0 (List.replicate 64 0)).wf = true) ∧
    (∀ (a0 : Nat) (a1 : Nat) (a2 : List Byte) (a3 : LineOwner) (a4 : List Nat), (Instr.sramPartialWrite (32 - 1) a0 a1 a2 a3 a4).wf = true) ∧
    (∀ (a0 : Nat) (a1 : LineOwner) (a2 : List Nat), (Instr.sramLineRead (32 - 1) a0 a1 a2).wf = true) ∧
    (∀ (a0 : Nat) (a1 : LineOwner) (a2 : List Nat), (Instr.scrubPass (32 - 1) a0 a1 a2).wf = true) ∧
    (∀ (a0 : Nat), (Instr.keepOscMeasure a0).wf = true) ∧
    ((Instr.scheduledActionFire (2 ^ 32 - 1)).wf = true) ∧
    ((Instr.classSWaitExpiry).wf = true) ∧
    (∀ (a0 : Bool) (a1 : PfailVolts), (Instr.pfail a0 a1).wf = true) ∧
    ((Instr.powerDownComplete).wf = true) ∧
    (∀ (a0 : Q), (Instr.vauxValid a0).wf = true) ∧
    (∀ (a0 : Q), (Instr.vioValid a0).wf = true) ∧
    (∀ (a0 : Q), (Instr.vioInvalid a0).wf = true) ∧
    (∀ (a0 : Q), (Instr.vloopLost a0).wf = true) ∧
    (∀ (a0 : Q), (Instr.vloopValid a0).wf = true) ∧
    (∀ (a0 : Q), (Instr.vkeepLow a0).wf = true) ∧
    (∀ (a0 : Q), (Instr.vkeepValid a0).wf = true) ∧
    (∀ (a0 : Q), (Instr.holdReady a0).wf = true) ∧
    (∀ (a0 : Q), (Instr.holdLow a0).wf = true) ∧
    (∀ (a0 : Bool) (a1 : Bool), (Instr.rootPllLock a0 a1).wf = true) ∧
    ((Instr.rootPllUnlock).wf = true) := by
  simp [Instr.wf]

/-- Operands at the end of their ranges are well formed (2 of 12). -/
theorem test_wf_accepted_2 :
    (∀ (a0 : Bool) (a1 : Bool) (a2 : Bool), (Instr.landingVerifyDone a0 a1 a2).wf = true) ∧
    (∀ (a0 : Bool) (a1 : Bool), (Instr.channelSelfTestDone a0 a1).wf = true) ∧
    ((Instr.bootComplete).wf = true) ∧
    ((Instr.bootWatchdogExpiry).wf = true) ∧
    (∀ (a0 : Nat), (Instr.resetNAssert a0).wf = true) ∧
    ((Instr.resetNRelease).wf = true) ∧
    ((Instr.coreWatchdogExpiry).wf = true) ∧
    ((Instr.requestRun (.arcade (2 ^ 64 - 1))).wf = true) ∧
    ((Instr.requestReady (.arcade (2 ^ 64 - 1))).wf = true) ∧
    ((Instr.requestWatch (.arcade (2 ^ 64 - 1))).wf = true) ∧
    ((Instr.requestVault (.arcade (2 ^ 64 - 1))).wf = true) ∧
    ((Instr.requestRecovery (.arcade (2 ^ 64 - 1))).wf = true) ∧
    ((Instr.entryToRunComplete).wf = true) ∧
    ((Instr.exitFromRunComplete).wf = true) ∧
    ((Instr.deferredRun).wf = true) ∧
    ((Instr.vaultEntryStage1Done).wf = true) ∧
    ((Instr.vaultEntryDone).wf = true) ∧
    ((Instr.watchEntryStage1Done).wf = true) ∧
    ((Instr.watchEntryDone).wf = true) ∧
    ((Instr.wakeIn).wf = true) ∧
    (∀ (a0 : Nat), (Instr.canADominantEdge a0).wf = true) ∧
    (∀ (a0 : Bool), (Instr.wakeFrame (2 - 1) (2 ^ 29 - 1) a0 (List.replicate 64 0)).wf = true) ∧
    ((Instr.wakeNoVaux).wf = true) ∧
    ((Instr.ladderRetry (.arcade (2 ^ 64 - 1)) (256 - 1) (256 - 1)).wf = true) ∧
    ((Instr.ladderReinitialise (.arcade (2 ^ 64 - 1)) (256 - 1) (256 - 1)).wf = true) := by
  simp [Instr.wf, Machine.Path.ok]

/-- Operands at the end of their ranges are well formed (3 of 12). -/
theorem test_wf_accepted_3 :
    ((Instr.ladderDeviceReset (.arcade (2 ^ 64 - 1))).wf = true) ∧
    (∀ (a0 : Q) (a1 : Q), (Instr.keepProbe a0 a1).wf = true) ∧
    ((Instr.timeHorizonWrite).wf = true) ∧
    (∀ (a0 : Nat) (a1 : Nat), (Instr.writeOneToClear (.arcade (2 ^ 64 - 1)) (65536 - 1) (256 - 1) a0 a1).wf = true) ∧
    (∀ (a0 : List Byte), (Instr.registerWrite (.arcade (2 ^ 64 - 1)) (65536 - 1) (256 - 1) a0).wf = true) ∧
    (∀ (a0 : List Byte), (Instr.rwSWrite (.arcade (2 ^ 64 - 1)) (65536 - 1) (256 - 1) a0).wf = true) ∧
    (∀ (a0 : Bool) (a1 : Bool), (Instr.sealSet (.arcade (2 ^ 64 - 1)) (2 ^ 32 - 1) a0 a1).wf = true) ∧
    ((Instr.sealDiscard (.arcade (2 ^ 64 - 1))).wf = true) ∧
    ((Instr.store (.arcade (2 ^ 64 - 1))).wf = true) ∧
    ((Instr.restore (.arcade (2 ^ 64 - 1))).wf = true) ∧
    ((Instr.cellWindowSel (.arcade (2 ^ 64 - 1)) (32 - 1) (2 ^ 64 - 1)).wf = true) ∧
    ((Instr.cellWindow (.arcade (2 ^ 64 - 1)) (32 - 1)).wf = true) ∧
    ((Instr.blockCtrlReinitialise (.arcade (2 ^ 64 - 1)) (32 - 1)).wf = true) ∧
    ((Instr.errorFieldClear (.arcade (2 ^ 64 - 1))).wf = true) ∧
    (∀ (a0 : Bool) (a1 : Bool) (a2 : Bool), (Instr.sdoDownloadSegment (2 - 1) a0 a1 (List.replicate 7 0) a2).wf = true) ∧
    (∀ (a0 : Bool), (Instr.sdoInitiateUpload (2 - 1) (65536 - 1) (256 - 1) a0).wf = true) ∧
    (∀ (a0 : Bool) (a1 : Bool), (Instr.sdoUploadSegment (2 - 1) a0 a1).wf = true) ∧
    (∀ (a0 : Option Nat) (a1 : Bool) (a2 : Bool), (Instr.sdoBlockDownloadInitiate (2 - 1) (65536 - 1) (256 - 1) a0 a1 a2).wf = true) ∧
    (∀ (a0 : Bool) (a1 : Bool), (Instr.sdoBlockDownloadSubblock (2 - 1) (128 - 1) a0 (List.replicate 7 0) a1).wf = true) ∧
    (∀ (a0 : Bool), (Instr.sdoBlockDownloadEnd (2 - 1) (8 - 1) (2 ^ 32 - 1) a0).wf = true) ∧
    (∀ (a0 : Bool) (a1 : Bool), (Instr.sdoBlockUploadInitiate (2 - 1) (65536 - 1) (256 - 1) (256 - 1) a0 a1).wf = true) ∧
    (∀ (a0 : Bool), (Instr.sdoBlockUploadStart (2 - 1) a0).wf = true) ∧
    (∀ (a0 : Bool), (Instr.sdoBlockUploadAck (2 - 1) (256 - 1) (256 - 1) a0).wf = true) ∧
    ((Instr.sdoBlockUploadEnd (2 - 1)).wf = true) ∧
    ((Instr.sdoAbortTransfer (2 - 1) (2 ^ 32 - 1)).wf = true) := by
  simp [Instr.wf, Machine.Path.ok]

/-- Operands at the end of their ranges are well formed (4 of 12). -/
theorem test_wf_accepted_4 :
    ((Instr.sdoTimeout (2 - 1)).wf = true) ∧
    ((Instr.nmtStart (2 - 1) (256 - 1)).wf = true) ∧
    ((Instr.nmtStop (2 - 1) (256 - 1)).wf = true) ∧
    ((Instr.nmtPreOperational (2 - 1) (256 - 1)).wf = true) ∧
    ((Instr.nmtResetNode (2 - 1) (256 - 1)).wf = true) ∧
    ((Instr.nmtResetCommunication (2 - 1) (256 - 1)).wf = true) ∧
    ((Instr.sync (2 - 1)).wf = true) ∧
    ((Instr.rpdo (2 - 1) (16 - 1) (List.replicate 64 0)).wf = true) ∧
    ((Instr.tpdo (2 - 1) (32 - 1)).wf = true) ∧
    ((Instr.heartbeat).wf = true) ∧
    ((Instr.heartbeatConsumerTimeout (2 - 1) 4).wf = true) ∧
    (∀ (a0 : ArcMsg), (Instr.arcadeReadRequest a0).wf = true) ∧
    (∀ (a0 : ArcMsg), (Instr.arcadeWriteRequest a0).wf = true) ∧
    (∀ (a0 : ArcMsg), (Instr.arcadeResponse a0).wf = true) ∧
    ((Instr.arcadeReqTimeout (2 ^ 32 - 1)).wf = true) ∧
    ((Instr.arcadeFrozenExpiry (2 ^ 64 - 1)).wf = true) ∧
    (∀ (a0 : List Byte), (Instr.ringKey (.arcade (2 ^ 64 - 1)) a0).wf = true) ∧
    (∀ (a0 : List Byte), (Instr.ownerKey (.arcade (2 ^ 64 - 1)) a0).wf = true) ∧
    (∀ (a0 : List Byte), (Instr.stringCfg (.arcade (2 ^ 64 - 1)) (65536 - 1) (256 - 1) a0).wf = true) ∧
    ((Instr.acquireTimeout (32 - 1)).wf = true) ∧
    ((Instr.retryWaitExpiry (32 - 1)).wf = true) ∧
    ((Instr.trunkLoss (32 - 1)).wf = true) ∧
    ((Instr.commandResend (32 - 1)).wf = true) ∧
    (∀ (a0 : Bool) (a1 : Bool) (a2 : Nat) (a3 : Bool), (Instr.identify (32 - 1) a0 (256 - 1) (256 - 1) a1 a2 a3).wf = true) ∧
    (∀ (a0 : Bool) (a1 : Nat), (Instr.readReg (32 - 1) a0 (256 - 1) (256 - 1) a1).wf = true) := by
  simp [Instr.wf, Machine.Path.ok]

/-- Operands at the end of their ranges are well formed (5 of 12). -/
theorem test_wf_accepted_5 :
    (∀ (a0 : Bool) (a1 : Nat), (Instr.writeReg (32 - 1) a0 (256 - 1) (256 - 1) a1 (65536 - 1)).wf = true) ∧
    (∀ (a0 : Nat), (Instr.syncReset (32 - 1) (256 - 1) (256 - 1) (65536 - 1) a0).wf = true) ∧
    (∀ (a0 : Nat), (Instr.sweep (32 - 1) (256 - 1) (256 - 1) a0).wf = true) ∧
    ((Instr.switchTest (32 - 1) (256 - 1) (256 - 1) (512 - 1) (256 - 1)).wf = true) ∧
    (∀ (a0 : Nat), (Instr.commission (32 - 1) (256 - 1) (256 - 1) a0 (65536 - 1) (2 ^ 64 - 1)).wf = true) ∧
    (∀ (a0 : Bool), (Instr.restoreRing (32 - 1) a0 (256 - 1)).wf = true) ∧
    (∀ (a0 : Bool), (Instr.release (32 - 1) a0 (256 - 1)).wf = true) ∧
    (∀ (a0 : Bool) (a1 : Nat) (a2 : Int), (Instr.sleep (32 - 1) a0 (256 - 1) (256 - 1) a1 a2).wf = true) ∧
    (∀ (a0 : Bool) (a1 : Nat), (Instr.selftest (32 - 1) a0 (256 - 1) (256 - 1) a1).wf = true) ∧
    ((Instr.flightNodesCommission (.arcade (2 ^ 64 - 1)) (32 - 1)).wf = true) ∧
    ((Instr.restoreNow (.arcade (2 ^ 64 - 1)) (32 - 1)).wf = true) ∧
    ((Instr.autoRestore (32 - 1)).wf = true) ∧
    (∀ (a0 : Bool) (a1 : DownSuper), (Instr.headSuperframeRx (32 - 1) a0 a1).wf = true) ∧
    ((Instr.headHoldTimeout (32 - 1)).wf = true) ∧
    (∀ (a0 : Bool), (Instr.headTrunkLoss (32 - 1) a0).wf = true) ∧
    ((Instr.dualFault (32 - 1)).wf = true) ∧
    (∀ (a0 : LoopBack), (Instr.loopFrameEvaluate (32 - 1) a0).wf = true) ∧
    (∀ (a0 : Bool) (a1 : Bool) (a2 : LinkIn), (Instr.monitorSlotFill (32 - 1) (256 - 1) a0 a1 a2).wf = true) ∧
    ((Instr.monitorSignalLoss (32 - 1) (256 - 1)).wf = true) ∧
    (∀ (a0 : Reading), (Instr.sampleLatch (32 - 1) a0).wf = true) ∧
    ((Instr.monitorFrameTimeout (32 - 1) (256 - 1)).wf = true) ∧
    (∀ (a0 : List Nat) (a1 : List Nat) (a2 : Nat), (Instr.sleepCheck (32 - 1) (256 - 1) a0 a1 a2).wf = true) ∧
    ((Instr.wakeBurst (32 - 1) (256 - 1)).wf = true) ∧
    ((Instr.delayCompReread (32 - 1)).wf = true) ∧
    ((Instr.syncNow (.arcade (2 ^ 64 - 1)) (32 - 1)).wf = true) := by
  simp [Instr.wf, Machine.Path.ok]

/-- Operands at the end of their ranges are well formed (6 of 12). -/
theorem test_wf_accepted_6 :
    ((Instr.balanceDecision (32 - 1)).wf = true) ∧
    ((Instr.balanceTestRun (.arcade (2 ^ 64 - 1)) (32 - 1) (512 - 1)).wf = true) ∧
    ((Instr.switchTestInterval (32 - 1)).wf = true) ∧
    ((Instr.sweepDue (32 - 1)).wf = true) ∧
    ((Instr.sweepMissing (32 - 1)).wf = true) ∧
    ((Instr.sweepIntervalRelax (32 - 1)).wf = true) ∧
    (∀ (a0 : List WatchResult), (Instr.watchCheck a0).wf = true) ∧
    ((Instr.restart (.arcade (2 ^ 64 - 1)) (32 - 1)).wf = true) ∧
    ((Instr.converterEnable (.arcade (2 ^ 64 - 1)) (32 - 1) (2 - 1)).wf = true) ∧
    ((Instr.peakRead (.arcade (2 ^ 64 - 1)) (32 - 1) (⟨11 - 1, none⟩)).wf = true) ∧
    (∀ (a0 : Bool), (Instr.telemetryWindow (32 - 1) a0).wf = true) ∧
    ((Instr.excitationApply (.arcade (2 ^ 64 - 1)) (32 - 1)).wf = true) ∧
    ((Instr.setComputed (32 - 1)).wf = true) ∧
    ((Instr.platingClear (.arcade (2 ^ 64 - 1)) (32 - 1)).wf = true) ∧
    ((Instr.archiveNow (.arcade (2 ^ 64 - 1)) (32 - 1)).wf = true) ∧
    ((Instr.archiveInterval (32 - 1)).wf = true) ∧
    ((Instr.archiveRecordWrite (32 - 1)).wf = true) ∧
    ((Instr.archiveSel (.arcade (2 ^ 64 - 1)) (32 - 1) (2 ^ 64 - 1)).wf = true) ∧
    ((Instr.archiveRead (.arcade (2 ^ 64 - 1)) (32 - 1)).wf = true) ∧
    (∀ (a0 : List Byte), (Instr.modelSet (.arcade (2 ^ 64 - 1)) (32 - 1) a0).wf = true) ∧
    ((Instr.replaced (.arcade (2 ^ 64 - 1)) (32 - 1) (512 - 1)).wf = true) ∧
    ((Instr.restCorrection (32 - 1)).wf = true) ∧
    ((Instr.aggregates (32 - 1)).wf = true) ∧
    ((Instr.stateSave (32 - 1)).wf = true) ∧
    ((Instr.stateSaveDone (32 - 1)).wf = true) := by
  simp [Instr.wf, Machine.Path.ok]

/-- Operands at the end of their ranges are well formed (7 of 12). -/
theorem test_wf_accepted_7 :
    ((Instr.saveFailed (32 - 1)).wf = true) ∧
    (∀ (a0 : List (Option Q)), (Instr.dieTemperatureRead a0).wf = true) ∧
    ((Instr.riseStopTime (32 - 1)).wf = true) ∧
    (∀ (a0 : Readback), (Instr.safetyCycle a0).wf = true) ∧
    ((Instr.energiseOn (.arcade (2 ^ 64 - 1)) (32 - 1)).wf = true) ∧
    ((Instr.energiseOff (.arcade (2 ^ 64 - 1)) (32 - 1)).wf = true) ∧
    ((Instr.busCheckTimeout (8 - 1)).wf = true) ∧
    ((Instr.preTimeExpiry (8 - 1)).wf = true) ∧
    ((Instr.fbTimeExpiry (8 - 1)).wf = true) ∧
    ((Instr.minOffElapsed (8 - 1)).wf = true) ∧
    (∀ (a0 : Bool), (Instr.maxOverlapExpiry (8 - 1) a0).wf = true) ∧
    ((Instr.mainCloseTimeExpiry (8 - 1)).wf = true) ∧
    ((Instr.seoDelayExpiry (8 - 1)).wf = true) ∧
    ((Instr.srsMaxTimeExpiry (8 - 1)).wf = true) ∧
    ((Instr.trunkLossSeoTimer (8 - 1)).wf = true) ∧
    (∀ (a0 : Q) (a1 : Nat), (Instr.soOvercurrent (8 - 1) a0 a1).wf = true) ∧
    (∀ (a0 : Bool) (a1 : Bool) (a2 : Bool), (Instr.safetyInputChange (16 - 1) (4 - 1) a0 a1 a2).wf = true) ∧
    ((Instr.discrepancyTimeout (16 - 1)).wf = true) ∧
    (∀ (a0 : Nat), (Instr.testPulse (4 - 1) a0).wf = true) ∧
    (∀ (a0 : Bool) (a1 : SafetyChan) (a2 : Bool) (a3 : Bool) (a4 : Bool), (Instr.outputTestPulse (16 - 1) a0 a1 a2 a3 a4).wf = true) ∧
    ((Instr.channelDisagree).wf = true) ∧
    (∀ (a0 : Bool) (a1 : Bool), (Instr.channelSelfCheck a0 a1).wf = true) ∧
    (∀ (a0 : SafetyChan) (a1 : Bool), (Instr.channelFail a0 a1).wf = true) ∧
    ((Instr.lockoutResetPulse).wf = true) ∧
    ((Instr.lockoutReset (.arcade (2 ^ 64 - 1))).wf = true) := by
  simp [Instr.wf, Machine.Path.ok]

/-- Operands at the end of their ranges are well formed (8 of 12). -/
theorem test_wf_accepted_8 :
    ((Instr.requestedExpiry).wf = true) ∧
    ((Instr.lostClear (.arcade (2 ^ 64 - 1)) (32 - 1)).wf = true) ∧
    ((Instr.stringLost (32 - 1)).wf = true) ∧
    ((Instr.imdEvaluate).wf = true) ∧
    ((Instr.threshRewrite (32 - 1)).wf = true) ∧
    ((Instr.dispatchAllocation).wf = true) ∧
    (∀ (a0 : List Byte), (Instr.pDemand (.arcade (2 ^ 64 - 1)) a0).wf = true) ∧
    (∀ (a0 : List Byte), (Instr.leaderTarget (.arcade (2 ^ 64 - 1)) a0).wf = true) ∧
    ((Instr.hostTimeout).wf = true) ∧
    ((Instr.leaderLost).wf = true) ∧
    ((Instr.fallbackHold).wf = true) ∧
    ((Instr.joinDelay (2 ^ 64 - 1)).wf = true) ∧
    ((Instr.bypassInsert).wf = true) ∧
    (∀ (a0 : Bool) (a1 : Bool), (Instr.bypassTestTimeout a0 a1).wf = true) ∧
    (∀ (a0 : Bool), (Instr.arcadeLinkLoss a0).wf = true) ∧
    (∀ (a0 : Bool) (a1 : HsrFrame), (Instr.hsrFrameRx a0 a1).wf = true) ∧
    ((Instr.hsrSupervisionTx).wf = true) ∧
    ((Instr.nodeForget (2 ^ 48 - 1)).wf = true) ∧
    ((Instr.beaconTx).wf = true) ∧
    (∀ (a0 : Beacon), (Instr.beaconRx a0).wf = true) ∧
    ((Instr.memberTimeout (2 ^ 64 - 1)).wf = true) ∧
    (∀ (a0 : Bool) (a1 : PtpMsg), (Instr.ptpSyncRx a0 a1).wf = true) ∧
    (∀ (a0 : Bool) (a1 : PtpMsg), (Instr.ptpFollowUpRx a0 a1).wf = true) ∧
    (∀ (a0 : Bool) (a1 : PtpAnnounce), (Instr.ptpAnnounceRx a0 a1).wf = true) ∧
    ((Instr.ptpAnnounceTimeout).wf = true) := by
  simp [Instr.wf, Machine.Path.ok]

/-- Operands at the end of their ranges are well formed (9 of 12). -/
theorem test_wf_accepted_9 :
    (∀ (a0 : Bool) (a1 : PtpMsg), (Instr.pdelayReqRx a0 a1).wf = true) ∧
    (∀ (a0 : Bool) (a1 : PtpMsg), (Instr.pdelayRespRx a0 a1).wf = true) ∧
    (∀ (a0 : Bool) (a1 : PtpMsg), (Instr.pdelayRespFollowUpRx a0 a1).wf = true) ∧
    ((Instr.ptpSyncTx).wf = true) ∧
    ((Instr.ptpAnnounceTx).wf = true) ∧
    (∀ (a0 : Bool), (Instr.pdelayReqTx a0).wf = true) ∧
    (∀ (a0 : Bool) (a1 : PtpMsg) (a2 : Nat), (Instr.ptpEventForward a0 a1 a2).wf = true) ∧
    (∀ (a0 : Nat) (a1 : Nat), (Instr.ppsIn a0 a1).wf = true) ∧
    (∀ (a0 : List Byte), (Instr.todIn a0).wf = true) ∧
    ((Instr.ppsOut).wf = true) ∧
    ((Instr.sourceLoss).wf = true) ∧
    ((Instr.holdoverExpiry).wf = true) ∧
    ((Instr.timeStep).wf = true) ∧
    ((Instr.corridorFrameTx).wf = true) ∧
    (∀ (a0 : CorFrame), (Instr.corridorFrameRx a0).wf = true) ∧
    ((Instr.corridorDown).wf = true) ∧
    (∀ (a0 : Option (List Byte)), (Instr.mirrorRead a0).wf = true) ∧
    ((Instr.redundancyEnable (.arcade (2 ^ 64 - 1)) (2 - 1)).wf = true) ∧
    ((Instr.pairWait).wf = true) ∧
    ((Instr.swap (.arcade (2 ^ 64 - 1))).wf = true) ∧
    ((Instr.takeoverTimeout).wf = true) ∧
    ((Instr.yieldTimeout).wf = true) ∧
    ((Instr.reArm (.arcade (2 ^ 64 - 1))).wf = true) ∧
    ((Instr.swapDue).wf = true) ∧
    (∀ (a0 : ChanIn), (Instr.channelSample (16 - 1) a0).wf = true) := by
  simp [Instr.wf, Machine.Path.ok]

/-- Operands at the end of their ranges are well formed (10 of 12). -/
theorem test_wf_accepted_10 :
    ((Instr.overloadTrip (16 - 1)).wf = true) ∧
    (∀ (a0 : Q) (a1 : Bool), (Instr.readbackCompare (16 - 1) a0 a1).wf = true) ∧
    (∀ (a0 : Q), (Instr.railUpdate (16 - 1) a0).wf = true) ∧
    (∀ (a0 : Q), (Instr.driverThermal (16 - 1) a0).wf = true) ∧
    (∀ (a0 : List Byte), (Instr.outValue (.arcade (2 ^ 64 - 1)) (16 - 1) a0).wf = true) ∧
    ((Instr.outTimeout (16 - 1)).wf = true) ∧
    ((Instr.chCharApply (.arcade (2 ^ 64 - 1)) (16 - 1)).wf = true) ∧
    ((Instr.chReinitialise (.arcade (2 ^ 64 - 1)) (16 - 1)).wf = true) ∧
    ((Instr.chTest (.arcade (2 ^ 64 - 1)) (16 - 1)).wf = true) ∧
    (∀ (a0 : TestReadings), (Instr.chCommandDone (16 - 1) a0).wf = true) ∧
    ((Instr.outputResume (16 - 1)).wf = true) ∧
    ((Instr.function (.arcade (2 ^ 64 - 1)) (16 - 1) (256 - 1)).wf = true) ∧
    ((Instr.hartPoll (16 - 1)).wf = true) ∧
    (∀ (a0 : HartFrame), (Instr.hartResponseRx (16 - 1) a0).wf = true) ∧
    (∀ (a0 : HartFrame), (Instr.hartBurstFrame (16 - 1) a0).wf = true) ∧
    ((Instr.hartResponseTimeout (16 - 1)).wf = true) ∧
    ((Instr.hartIdentifyRetry (16 - 1)).wf = true) ∧
    (∀ (a0 : List Byte), (Instr.hartXferRequest (.arcade (2 ^ 64 - 1)) (16 - 1) a0).wf = true) ∧
    (∀ (a0 : Bool) (a1 : Nat), (Instr.canFrameTxDone (2 - 1) a0 a1).wf = true) ∧
    ((Instr.canBusOff (2 - 1)).wf = true) ∧
    ((Instr.busoffDelay (2 - 1)).wf = true) ∧
    ((Instr.canBusOffRecovered (2 - 1)).wf = true) ∧
    (∀ (a0 : Bool) (a1 : Bool), (Instr.canFlush (.arcade (2 ^ 64 - 1)) (2 - 1) a0 a1).wf = true) ∧
    ((Instr.fifoDrainDeadline).wf = true) ∧
    ((Instr.twaSlotDue 16).wf = true) := by
  simp [Instr.wf, Machine.Path.ok]

/-- Operands at the end of their ranges are well formed (11 of 12). -/
theorem test_wf_accepted_11 :
    ((Instr.twaTrigger (.arcade (2 ^ 64 - 1)) (65536 - 1)).wf = true) ∧
    (∀ (a0 : TwaResult), (Instr.twaSlotDone 16 a0).wf = true) ∧
    ((Instr.twaArbRetry 16).wf = true) ∧
    (∀ (a0 : Bool), (Instr.clkLowTimeout a0).wf = true) ∧
    (∀ (a0 : Bool) (a1 : Bool), (Instr.dataLowTimeout a0 a1).wf = true) ∧
    (∀ (a0 : List Byte), (Instr.twbWriteTransaction a0).wf = true) ∧
    (∀ (a0 : Nat), (Instr.twbReadTransaction (some (65536 - 1)) a0).wf = true) ∧
    ((Instr.mailboxDone).wf = true) ∧
    ((Instr.mailboxFrozenExpiry).wf = true) ∧
    (∀ (a0 : AlertResult), (Instr.twbAlert a0).wf = true) ∧
    (∀ (a0 : AlertResult), (Instr.alertRetry a0).wf = true) ∧
    (∀ (a0 : List Byte), (Instr.recordEntry (65536 - 1) (256 - 1) (256 - 1) (4 - 1) a0).wf = true) ∧
    ((Instr.drain).wf = true) ∧
    (∀ (a0 : Bool), (Instr.pageProgramDone a0).wf = true) ∧
    ((Instr.recorderFlush (.arcade (2 ^ 64 - 1))).wf = true) ∧
    ((Instr.flushDone).wf = true) ∧
    ((Instr.blockErase).wf = true) ∧
    (∀ (a0 : Bool), (Instr.eraseDone a0).wf = true) ∧
    ((Instr.recorderRebuild).wf = true) ∧
    ((Instr.snapCount (.arcade (2 ^ 64 - 1)) (65536 - 1)).wf = true) ∧
    ((Instr.recorderRead (.arcade (2 ^ 64 - 1))).wf = true) ∧
    ((Instr.snapshotExpiry (.arcade (2 ^ 64 - 1))).wf = true) ∧
    ((Instr.begin (.arcade (2 ^ 64 - 1))).wf = true) ∧
    (∀ (a0 : Bool), (Instr.slotEraseDone a0).wf = true) ∧
    (∀ (a0 : List Byte), (Instr.updateData (.arcade (2 ^ 64 - 1)) a0).wf = true) := by
  simp [Instr.wf, Machine.Path.ok]

/-- Operands at the end of their ranges are well formed (12 of 12). -/
theorem test_wf_accepted_12 :
    ((Instr.verify (.arcade (2 ^ 64 - 1))).wf = true) ∧
    ((Instr.checksComplete).wf = true) ∧
    ((Instr.activate (.arcade (2 ^ 64 - 1))).wf = true) ∧
    (∀ (a0 : Bool), (Instr.prepareDone a0).wf = true) ∧
    ((Instr.pauseEnd).wf = true) ∧
    ((Instr.pauseTimeout).wf = true) ∧
    ((Instr.commit (.arcade (2 ^ 64 - 1))).wf = true) ∧
    ((Instr.abort (.arcade (2 ^ 64 - 1))).wf = true) ∧
    ((Instr.trialTimeout).wf = true) ∧
    (∀ (a0 : Q), (Instr.vkeepInvalid a0).wf = true) ∧
    (∀ (a0 : Q), (Instr.keepCellOvervoltage a0).wf = true) ∧
    (∀ (a0 : Int) (a1 : Nat), (Instr.comparatorTrip (32 - 1) (256 - 1) (512 - 1) a0 a1).wf = true) ∧
    (∀ (a0 : List Nat), (Instr.sweepConversionDone (32 - 1) (256 - 1) a0).wf = true) ∧
    (∀ (a0 : PortUp), (Instr.arcadeLinkUp a0).wf = true) ∧
    ((Instr.ppsMissing).wf = true) ∧
    (∀ (a0 : Nat) (a1 : Nat), (Instr.canErrorPassive (2 - 1) a0 a1).wf = true) ∧
    ((Instr.bufferClose).wf = true) := by
  simp [Instr.wf, Machine.Path.ok]

/-- SDO_INITIATE_DOWNLOAD: the port, the index, the sub-index and the bytes of an expedited download. -/
theorem test_wf_download (e fd : Bool) (z : Option Nat) :
    (Instr.sdoInitiateDownload 2 ⟨0, 0, []⟩ e z fd).wf = false ∧ (Instr.sdoInitiateDownload 0 ⟨65536, 0, []⟩ e z fd).wf = false ∧
    (Instr.sdoInitiateDownload 0 ⟨0, 256, []⟩ e z fd).wf = false ∧ (Instr.sdoInitiateDownload 0 ⟨0, 0, [1, 2, 3, 4, 5]⟩ e z fd).wf = false ∧
    (Instr.sdoInitiateDownload 1 ⟨65535, 255, [1, 2, 3, 4]⟩ e z fd).wf = true := by simp [Instr.wf, SdoData.ok]

/-- CAN_FRAME_RX: the port, the identifier of each format, the lengths, and no remote frame in the FD format. -/
theorem test_wf_frame (o : Bool) :
    (Instr.canFrameRx 2 ⟨0, false, false, false, [], o⟩).wf = false ∧ (Instr.canFrameRx 0 ⟨2048, false, false, false, [], o⟩).wf = false ∧
    (Instr.canFrameRx 0 ⟨2 ^ 29, true, false, false, [], o⟩).wf = false ∧
    (Instr.canFrameRx 0 ⟨0, false, false, false, List.replicate 9 0, o⟩).wf = false ∧
    (Instr.canFrameRx 0 ⟨0, false, false, true, List.replicate 65 0, o⟩).wf = false ∧
    (Instr.canFrameRx 0 ⟨0, false, true, true, [], o⟩).wf = false ∧
    (Instr.canFrameRx 1 ⟨2 ^ 29 - 1, true, false, true, List.replicate 64 0, o⟩).wf = true := by simp [Instr.wf, CanFrame.ok]

/-! ### Witnesses: the hypotheses of each statement met together -/

/-- The hypotheses of `Obligations.StepRunsFrontCommand` can be met, clause by clause. -/
theorem test_witness_StepRunsFrontCommand :
  ∃ (s : State) (c : Instr) (rest : List Instr), s.pending = c :: rest :=
  ⟨({ State.reset with pending := [.powerDownComplete, .deferredRun] }), .powerDownComplete, [.deferredRun], (by decide +kernel)⟩

/-- The hypotheses of `Obligations.IdleStepIsOneTick` can be met, clause by clause. -/
theorem test_witness_IdleStepIsOneTick :
  ∃ (s : State), s.pending = [] ∧ s.sreqs = [] :=
  ⟨T.ready, (by decide +kernel), (by decide +kernel)⟩

/-- The hypotheses of `Obligations.ResetStateValues` can be met, clause by clause. -/
theorem test_witness_ResetStateValues :
  (∃ (k : _), k ≠ Obj.RESET_LADDER.LAST_RESET_CAUSE ∧ k ≠ Obj.SUPPLY_STATUS.FLAGS ∧ k ≠ Obj.SUPPLY_STATUS.POWER_CYCLES) :=
  ⟨0, (by decide +kernel), (by decide +kernel), (by decide +kernel)⟩


/-- The hypotheses of `Obligations.EveryStepKeepsInvariant` can be met, clause by clause. -/
theorem test_witness_EveryStepKeepsInvariant :
  ∃ (s : State) (t : State), s.Inv ∧ step s = .next t :=
  ⟨({ State.reset with pending := [.powerDownComplete] }), T.next (step { State.reset with pending := [.powerDownComplete] }), (by unfold State.Inv State.canonical State.shaped; decide +kernel), T.next_eq _ (by decide +kernel)⟩

/-- The hypotheses of `Obligations.IdentityAndQueueUntouched` can be met, clause by clause. -/
theorem test_witness_IdentityAndQueueUntouched :
  ∃ (c : Instr) (s : State) (t : State), exec c s = .next t :=
  ⟨.powerDownComplete, T.ready, T.next (exec .powerDownComplete T.ready), T.next_eq _ (by decide +kernel)⟩


/-- The hypotheses of `Obligations.SramLineWrites` can be met, clause by clause. -/
theorem test_witness_SramLineWrites :
  (∃ (s : State) (n : Nat) (addr : Nat) (data : List Byte), s.lineOk n addr = true ∧ s.gal.length = 32 ∧ data.length = 64) ∧
  (∃ (s : State) (n : Nat) (addr : Nat) (off : Nat) (data : List Byte) (old : List Byte), s.lineOk n addr = true ∧ s.gal.length = 32 ∧ data.length < 64 ∧ off + data.length ≤ 64 ∧ old.length = 64 ∧ s.line n addr = validLine addr old) ∧
  (∃ (s : State) (n : Nat) (addr : Nat) (off : Nat) (data : List Byte), s.lineOk n addr = true ∧ s.gal.length = 32 ∧ data.length < 64 ∧ off + data.length ≤ 64 ∧ (s.line n addr).data.length = 64 ∧ (s.line n addr).poison = false ∧ (s.line n addr).tag ≠ tagOf addr (s.line n addr).data) ∧
  (∃ (s : State) (n : Nat) (addr : Nat) (off : Nat) (data : List Byte), s.lineOk n addr = true ∧ s.gal.length = 32 ∧ data.length < 64 ∧ off + data.length ≤ 64 ∧ (s.line n addr).data.length = 64 ∧ (s.line n addr).poison = true) :=
  ⟨⟨T.string T.ready, 0, 64, List.replicate 64 1, (by decide +kernel), (by decide +kernel), (by decide +kernel)⟩,
   ⟨T.string T.ready, 0, 64, 61, [1,2,3], List.replicate 64 0, (by decide +kernel), (by decide +kernel), (by decide +kernel), (by decide +kernel), (by decide +kernel), rfl⟩,
   ⟨({ T.string T.ready with gal := { sram := [(0, ⟨List.replicate 64 0, [], 1, false, []⟩)] } :: List.replicate 31 {} }), 0, 0, 0, [1], (by decide +kernel), (by decide +kernel), (by decide +kernel), (by decide +kernel), (by decide +kernel), (by decide +kernel), (by decide +kernel)⟩,
   ⟨({ T.string T.ready with gal := { sram := [(0, ⟨List.replicate 64 0, [], 1, true, []⟩)] } :: List.replicate 31 {} }), 0, 0, 0, [1], (by decide +kernel), (by decide +kernel), (by decide +kernel), (by decide +kernel), (by decide +kernel), (by decide +kernel)⟩⟩

/-- The hypotheses of `Obligations.SramReadsAndScrub` can be met, clause by clause. -/
theorem test_witness_SramReadsAndScrub :
  (∃ (s : State) (n : Nat) (addr : Nat) (old : List Byte), s.lineOk n addr = true ∧ s.gal.length = 32 ∧ old.length = 64 ∧ s.line n addr = validLine addr old) ∧
  (∃ (s : State) (n : Nat) (addr : Nat) (u : Nat) (old : List Byte), s.lineOk n addr = true ∧ s.gal.length = 32 ∧ old.length = 64 ∧ s.line n addr = validLine addr old ∧ u < 576) ∧
  (∃ (s : State) (n : Nat) (addr : Nat), s.lineOk n addr = true ∧ s.gal.length = 32 ∧ (s.line n addr).data.length = 64 ∧ (s.line n addr).poison = true) ∧
  (∃ (s : State) (n : Nat) (addr : Nat), s.lineOk n addr = true ∧ s.gal.length = 32 ∧ (s.line n addr).data.length = 64 ∧ (s.line n addr).poison = false ∧ (s.line n addr).tag ≠ tagOf addr (s.line n addr).data) ∧
  (∃ (s : State) (n : Nat) (addr : Nat) (k : Nat) (u : Nat) (v : Nat) (old : List Byte), s.lineOk n addr = true ∧ s.gal.length = 32 ∧ old.length = 64 ∧ s.line n addr = validLine addr old ∧ k < 8 ∧ u < 576 ∧ v < 576 ∧ u ≠ v ∧ inWord k u = true ∧ inWord k v = true) ∧
  (∃ (s : State) (n : Nat) (addr : Nat), s.lineOk n addr = true ∧ s.gal.length = 32 ∧ addr / 64 = (s.g n).scrubNext) :=
  ⟨⟨T.string T.ready, 0, 64, List.replicate 64 0, (by decide +kernel), (by decide +kernel), (by decide +kernel), rfl⟩,
   ⟨T.string T.ready, 0, 64, 575, List.replicate 64 0, (by decide +kernel), (by decide +kernel), (by decide +kernel), rfl, (by decide +kernel)⟩,
   ⟨({ T.string T.ready with gal := { sram := [(0, ⟨List.replicate 64 0, [], 1, true, []⟩)] } :: List.replicate 31 {} }), 0, 0, (by decide +kernel), (by decide +kernel), (by decide +kernel), (by decide +kernel)⟩,
   ⟨({ T.string T.ready with gal := { sram := [(0, ⟨List.replicate 64 0, [], 1, false, []⟩)] } :: List.replicate 31 {} }), 0, 0, (by decide +kernel), (by decide +kernel), (by decide +kernel), (by decide +kernel), (by decide +kernel)⟩,
   ⟨T.string T.ready, 0, 64, 7, 575, 511, List.replicate 64 0, (by decide +kernel), (by decide +kernel), (by decide +kernel), rfl, (by decide +kernel), (by decide +kernel), (by decide +kernel), (by decide +kernel), (by decide +kernel), (by decide +kernel)⟩,
   ⟨T.string T.ready, 0, 0, (by decide +kernel), (by decide +kernel), (by decide +kernel)⟩⟩

/-- The hypotheses of `Obligations.ArchitectureTimersComplete` can be met, clause by clause. -/
theorem test_witness_ArchitectureTimersComplete :
  (∃ (s : State) (target : Nat), targetDue s.now target = true) ∧
  (∃ (s : State), s.ticking = true ∧ s.passed s.md.oscAt (secTicks 1) = true) ∧
  (∃ (s : State) (r : SReq), s.sreqs = [r] ∧ r.origin = .plain ∧ s.passed r.at_ (msTicks 500) = true) :=
  ⟨⟨({ T.ready with sched := [⟨0, 1⟩, ⟨5, 2⟩] }), 0, (by decide +kernel)⟩,
   ⟨T.at (secTicks 1) T.ready, (by decide +kernel), (by decide +kernel)⟩,
   ⟨({ T.at (msTicks 500) T.ready with sreqs := [⟨[.core0], .canA, false, 0x1018, 1, [], 0, .plain, 0⟩] }), ⟨[.core0], .canA, false, 0x1018, 1, [], 0, .plain, 0⟩, (by decide +kernel), (by decide +kernel), (by decide +kernel)⟩⟩

/-- The hypotheses of `Obligations.SupplyEventsComplete` can be met, clause by clause. -/
theorem test_witness_SupplyEventsComplete :
  (∃ (s : State) (v : Q), 33 / 2 ≤ v ∧ s.powerDown = false ∧ s.vauxOk = false ∧ s.mode = .vault) ∧
  (∃ (s : State) (v : Q), 33 / 2 ≤ v ∧ s.powerDown = true) ∧
  (∃ (s : State) (v : Q), 162 / 100 ≤ v ∧ s.vioOk = false ∧ s.mode = .boot) ∧
  (∃ (s : State) (v : Q), v < 155 / 100 ∧ s.vioOk = true ∧ s.mode ≠ .vault ∧ s.powerDown = false) ∧
  (∃ (s : State) (v : Q), v < 105 / 10 ∧ s.mode = .run ∧ s.powerDown = false ∧ s.md.exitReset = none ∧ s.safe.groups.length = 8) ∧
  (∃ (s : State) (v : Q), v < 105 / 10 ∧ s.mode = .ready) ∧
  (∃ (s : State) (v : Q), 11 ≤ v ∧ s.vloopOk = false) ∧
  (∃ (s : State) (v : Q), v < 21 / 10 ∧ s.vauxOk = true) ∧
  (∃ (v : Q), 22 / 10 ≤ v) ∧
  (∃ (s : State) (v : Q), v < 2 ∧ s.vauxOk = true) ∧
  (∃ (s : State) (v : Q), v < 2 ∧ s.vauxOk = false) ∧
  (∃ (v : Q), 26 ≤ v) ∧
  (∃ (s : State) (v : Q), v < 24 ∧ s.mode ≠ .run) ∧
  (∃ (s : State) (v : Q), v < 24 ∧ s.mode = .run ∧ s.powerDown = false) ∧
  (∃ (s : State) (a : Q) (b : Q), s.vauxOk = true ∧ s.passed s.vest.probeAt (secTicks 10) = true ∧ 1 / 5 < a - b) ∧
  (∃ (s : State) (a : Q) (b : Q), s.vauxOk = true ∧ s.passed s.vest.probeAt (secTicks 10) = true ∧ a - b ≤ 1 / 5) ∧
  (∃ (s : State) (v : Q), s.supply 5 = true ∧ s.getQ Obj.SUPPLY_STATUS.KEEP_CHARGE_V + 3 / 20 < v) :=
  ⟨⟨(T.mode .vault).setN Obj.SUPPLY_STATUS.FLAGS 0, 33/2, (by decide +kernel), (by decide +kernel), (by decide +kernel), (by decide +kernel)⟩,
   ⟨T.ready.updMd (fun x => { x with transit := .powerDown 7 }), 33/2, (by decide +kernel), (by decide +kernel)⟩,
   ⟨State.reset.setN Obj.SUPPLY_STATUS.FLAGS 1, 162/100, (by decide +kernel), (by decide +kernel), (by decide +kernel)⟩,
   ⟨T.ready, 1549/1000, (by decide +kernel), (by decide +kernel), (by decide +kernel), (by decide +kernel)⟩,
   ⟨T.mode .run, 10, (by decide +kernel), (by decide +kernel), (by decide +kernel), (by decide +kernel), (by decide +kernel)⟩,
   ⟨T.ready, 10, (by decide +kernel), (by decide +kernel)⟩,
   ⟨State.reset, 11, (by decide +kernel), (by decide +kernel)⟩,
   ⟨T.ready, 2, (by decide +kernel), (by decide +kernel)⟩,
   ⟨22/10, (by decide +kernel)⟩,
   ⟨T.ready, 1, (by decide +kernel), (by decide +kernel)⟩,
   ⟨State.reset.setN Obj.SUPPLY_STATUS.FLAGS 8, 1, (by decide +kernel), (by decide +kernel)⟩,
   ⟨26, (by decide +kernel)⟩,
   ⟨T.ready, 23, (by decide +kernel), (by decide +kernel)⟩,
   ⟨T.mode .run, 23, (by decide +kernel), (by decide +kernel), (by decide +kernel)⟩,
   ⟨T.at (secTicks 10) T.ready, 1, 1/2, (by decide +kernel), (by decide +kernel), (by decide +kernel)⟩,
   ⟨T.at (secTicks 10) T.ready, 3, 29/10, (by decide +kernel), (by decide +kernel), (by decide +kernel)⟩,
   ⟨T.ready.setN Obj.SUPPLY_STATUS.FLAGS 0x20, 3, (by decide +kernel), (by decide +kernel)⟩⟩

/-- The hypotheses of `Obligations.PowerDownAndBootComplete` can be met, clause by clause. -/
theorem test_witness_PowerDownAndBootComplete :
  (∃ (s : State), s.vauxOk = true ∧ s.mode ≠ .vault ∧ s.mode ≠ .boot ∧ s.mode ≠ .recovery ∧ s.safe.groups.length = 8) ∧
  (∃ (s : State), s.vauxOk = true ∧ s.mode = .recovery) ∧
  (∃ (s : State), s.vauxOk = true ∧ s.mode = .boot) ∧
  (∃ (s : State) (at_ : Nat), s.md.transit = .powerDown at_ ∧ (s.recd.flushTo = none ∨ s.passed at_ (usTicks 15000) = true) ∧ s.md.vauxBack = false) ∧
  (∃ (s : State) (at_ : Nat), s.md.transit = .powerDown at_ ∧ (s.recd.flushTo = none ∨ s.passed at_ (usTicks 15000) = true) ∧ s.md.vauxBack = true) ∧
  (∃ (s : State), s.mayStart = true ∧ s.md.pllLocked = false) ∧
  (∃ (s : State), s.mayStart = true ∧ s.md.pllLocked = true ∧ s.md.testEn = false ∧ s.md.verified = false ∧ s.md.landCause = 0) ∧
  (∃ (s : State), s.mayStart = true ∧ s.md.verified = true ∧ s.md.landCause = 0 ∧ s.md.selfTested = false) ∧
  (∃ (s : State), s.mayStart = true ∧ s.md.pllLocked = true ∧ s.md.testEn = false ∧ s.md.landCause ≠ 0) ∧
  (∃ (s : State), s.mayStart = true ∧ s.md.pllLocked = true ∧ s.md.testEn = false ∧ s.md.landCause = 0 ∧ s.md.selfTested = true) ∧
  (∃ (s : State), s.mayStart = true ∧ s.md.testEn = false ∧ s.passed s.md.bootSince (secTicks 5) = true) ∧
  (∃ (s : State) (us : Nat), 10 ≤ us ∧ s.powerDown = false ∧ s.mode ≠ .vault) ∧
  (∃ (s : State) (us : Nat), 10 ≤ us ∧ s.mode = .vault ∧ s.powerDown = false ∧ s.vauxOk = true) ∧
  (∃ (us : Nat), us < 2) ∧
  (∃ (s : State), s.md.resetHeld = true) ∧
  (∃ (s : State), s.md.pllLocked = true ∧ s.mode ≠ .vault ∧ s.mode ≠ .watch ∧ s.powerDown = false) ∧
  (∃ (s : State), (s.mode = .ready ∨ s.mode = .lockout) ∧ s.powerDown = false ∧ s.updState ≠ 7) ∧
  (∃ (s : State), s.mode = .run ∧ s.powerDown = false ∧ s.updState ≠ 7 ∧ s.phase ≠ 2) ∧
  (∃ (s : State) (k : Nat), s.recd.flushTo = some k ∧ s.recd.buffer.all (fun r => decide (k < r.seq)) = true ∧ s.md.transit = .none) ∧
  (∃ (s : State) (k : Nat) (c : Nat) (at_ : Nat) (land : Bool), s.recd.flushTo = some k ∧ s.recd.buffer.all (fun r => decide (k < r.seq)) = true ∧ s.md.transit = .resetWait c land at_ ∧ s.md.exitReset = none) :=
  ⟨⟨T.mode .run, (by decide +kernel), (by decide +kernel), (by decide +kernel), (by decide +kernel), (by decide +kernel)⟩,
   ⟨T.mode .recovery, (by decide +kernel), (by decide +kernel)⟩,
   ⟨T.mode .boot, (by decide +kernel), (by decide +kernel)⟩,
   ⟨T.ready.updMd (fun x => { x with transit := .powerDown 7 }), 7, (by decide +kernel), (by decide +kernel), (by decide +kernel)⟩,
   ⟨T.ready.updMd (fun x => { x with transit := .powerDown 7, vauxBack := true }), 7, (by decide +kernel), (by decide +kernel), (by decide +kernel)⟩,
   ⟨State.reset, (by decide +kernel), (by decide +kernel)⟩,
   ⟨State.reset.updMd (fun x => { x with pllLocked := true }), (by decide +kernel), (by decide +kernel), (by decide +kernel), (by decide +kernel), (by decide +kernel)⟩,
   ⟨State.reset.updMd (fun x => { x with pllLocked := true, verified := true }), (by decide +kernel), (by decide +kernel), (by decide +kernel), (by decide +kernel)⟩,
   ⟨State.reset.updMd (fun x => { x with pllLocked := true, landCause := 1 }), (by decide +kernel), (by decide +kernel), (by decide +kernel), (by decide +kernel)⟩,
   ⟨State.reset.updMd (fun x => { x with pllLocked := true, verified := true, selfTested := true }), (by decide +kernel), (by decide +kernel), (by decide +kernel), (by decide +kernel), (by decide +kernel)⟩,
   ⟨T.at (secTicks 5) State.reset, (by decide +kernel), (by decide +kernel), (by decide +kernel)⟩,
   ⟨T.ready, 10, (by decide +kernel), (by decide +kernel), (by decide +kernel)⟩,
   ⟨(T.mode .vault).setN Obj.SUPPLY_STATUS.FLAGS 1, 10, (by decide +kernel), (by decide +kernel), (by decide +kernel), (by decide +kernel)⟩,
   ⟨1, (by decide +kernel)⟩,
   ⟨State.reset.updMd (fun x => { x with resetHeld := true }), (by decide +kernel)⟩,
   ⟨T.mode .run, (by decide +kernel), (by decide +kernel), (by decide +kernel), (by decide +kernel)⟩,
   ⟨T.ready, (by decide +kernel), (by decide +kernel), (by decide +kernel)⟩,
   ⟨T.mode .run, (by decide +kernel), (by decide +kernel), (by decide +kernel), (by decide +kernel)⟩,
   ⟨T.ready.updRec (fun x => { x with flushTo := some 3 }), 3, (by decide +kernel), (by decide +kernel), (by decide +kernel)⟩,
   ⟨T.ready.updMd (fun x => { x with transit := .resetWait 6 false 0 }) |>.updRec (fun x => { x with flushTo := some 3 }), 3, 6, 0, false, (by decide +kernel), (by decide +kernel), (by decide +kernel), (by decide +kernel)⟩⟩

/-- The hypotheses of `Obligations.ModeRequestsComplete` can be met, clause by clause. -/
theorem test_witness_ModeRequestsComplete :
  (∃ (s : State) (p : Path), s.takesWrite p 0x2000 1 [4] (.n 4) ∧ s.mode = .ready ∧ s.entering = false ∧ s.runConds = 0) ∧
  (∃ (s : State) (p : Path), s.takesWrite p 0x2000 1 [4] (.n 4) ∧ s.mode = .ready ∧ s.entering = false ∧ s.runConds ≠ 0) ∧
  (∃ (s : State) (p : Path), s.takesWrite p 0x2000 1 [3] (.n 3) ∧ s.mode = .ready ∧ s.entering = false) ∧
  (∃ (s : State) (p : Path), s.takesWrite p 0x2000 1 [3] (.n 3) ∧ s.mode = .run ∧ s.phase ≠ 2) ∧
  (∃ (s : State) (p : Path), s.takesWrite p 0x2000 1 [2] (.n 2) ∧ s.mode = .ready ∧ s.entering = false) ∧
  (∃ (s : State) (p : Path), s.takesWrite p 0x2000 1 [1] (.n 1) ∧ s.mode = .ready ∧ s.entering = false) ∧
  (∃ (s : State) (p : Path), s.takesWrite p 0x2000 1 [6] (.n 6) ∧ ((s.mode = .ready ∧ s.entering = false) ∨ (s.mode = .lockout ∧ s.powerDown = false))) ∧
  (∃ (s : State) (p : Path), s.takesWrite p 0x2000 1 [2] (.n 2) ∧ (s.mode = .run ∨ s.mode = .lockout)) ∧
  (∃ (s : State) (p : Path), s.takesWrite p 0x2000 1 [1] (.n 1) ∧ (s.mode = .run ∨ s.mode = .lockout)) ∧
  (∃ (s : State) (p : Path), s.takesWrite p 0x2000 1 [6] (.n 6) ∧ s.mode = .run) ∧
  (∃ (s : State) (p : Path), s.takesWrite p 0x2000 1 [3] (.n 3) ∧ s.mode = .lockout) ∧
  (∃ (s : State) (p : Path), s.takesWrite p 0x2000 1 [4] (.n 4) ∧ s.mode = .lockout) ∧
  (∃ (s : State) (p : Path) (c : Nat) (i : Nat), 1 ≤ c ∧ c ≤ 6 ∧ i < s.blockCount c ∧ s.takesWrite p 0x2002 1 (leBytes 4 (1 + 256 * c + 65536 * i)) (.n (1 + 256 * c + 65536 * i))) ∧
  (∃ (s : State) (p : Path) (i : Nat), i < s.part.galleries ∧ s.energised i = true ∧ s.takesWrite p 0x2002 1 (leBytes 4 (2 + 256 + 65536 * i)) (.n (2 + 256 + 65536 * i))) ∧
  (∃ (s : State) (p : Path) (i : Nat), i < s.part.galleries ∧ s.energised i = false ∧ s.strOn i = true ∧ s.takesWrite p 0x2002 1 (leBytes 4 (2 + 256 + 65536 * i)) (.n (2 + 256 + 65536 * i))) ∧
  (∃ (s : State) (p : Path) (c : Nat) (i : Nat), 3 ≤ c ∧ c ≤ 6 ∧ i < s.blockCount c ∧ s.origin = .plain ∧ s.takesWrite p 0x2002 1 (leBytes 4 (2 + 256 * c + 65536 * i)) (.n (2 + 256 * c + 65536 * i))) ∧
  (∃ (s : State) (p : Path), s.takesWrite p 0x2002 1 (leBytes 4 3) (.n 3) ∧ (s.mode = .ready ∨ s.mode = .lockout) ∧ s.powerDown = false) ∧
  (∃ (s : State) (p : Path), s.takesWrite p 0x2002 1 (leBytes 4 3) (.n 3) ∧ s.mode = .run ∧ s.powerDown = false ∧ s.phase ≠ 2) :=
  ⟨⟨T.able, .canA, (T.takesWrite_iff _ _ _ _ _ _).1 (by decide +kernel), (by decide +kernel), (by decide +kernel), (by decide +kernel)⟩,
   ⟨T.ready, .canA, (T.takesWrite_iff _ _ _ _ _ _).1 (by decide +kernel), (by decide +kernel), (by decide +kernel), (by decide +kernel)⟩,
   ⟨T.ready, .canA, (T.takesWrite_iff _ _ _ _ _ _).1 (by decide +kernel), (by decide +kernel), (by decide +kernel)⟩,
   ⟨T.mode .run, .canA, (T.takesWrite_iff _ _ _ _ _ _).1 (by decide +kernel), (by decide +kernel), (by decide +kernel)⟩,
   ⟨T.ready, .canA, (T.takesWrite_iff _ _ _ _ _ _).1 (by decide +kernel), (by decide +kernel), (by decide +kernel)⟩,
   ⟨T.ready, .canA, (T.takesWrite_iff _ _ _ _ _ _).1 (by decide +kernel), (by decide +kernel), (by decide +kernel)⟩,
   ⟨T.ready, .canA, (T.takesWrite_iff _ _ _ _ _ _).1 (by decide +kernel), (by decide +kernel)⟩,
   ⟨T.mode .run, .canA, (T.takesWrite_iff _ _ _ _ _ _).1 (by decide +kernel), (by decide +kernel)⟩,
   ⟨T.mode .lockout, .canA, (T.takesWrite_iff _ _ _ _ _ _).1 (by decide +kernel), (by decide +kernel)⟩,
   ⟨T.mode .run, .canA, (T.takesWrite_iff _ _ _ _ _ _).1 (by decide +kernel), (by decide +kernel)⟩,
   ⟨T.mode .lockout, .canA, (T.takesWrite_iff _ _ _ _ _ _).1 (by decide +kernel), (by decide +kernel)⟩,
   ⟨T.mode .lockout, .canA, (T.takesWrite_iff _ _ _ _ _ _).1 (by decide +kernel), (by decide +kernel)⟩,
   ⟨T.ready, .canA, 1, 31, (by decide +kernel), (by decide +kernel), (by decide +kernel), (T.takesWrite_iff _ _ _ _ _ _).1 (by decide +kernel)⟩,
   ⟨T.grouped .energised T.ready, .canA, 0, (by decide +kernel), (by decide +kernel), (T.takesWrite_iff _ _ _ _ _ _).1 (by decide +kernel)⟩,
   ⟨T.string T.ready, .canA, 0, (by decide +kernel), (by decide +kernel), (by decide +kernel), (T.takesWrite_iff _ _ _ _ _ _).1 (by decide +kernel)⟩,
   ⟨T.ready, .canA, 3, 1, (by decide +kernel), (by decide +kernel), (by decide +kernel), (by decide +kernel), (T.takesWrite_iff _ _ _ _ _ _).1 (by decide +kernel)⟩,
   ⟨T.ready, .canA, (T.takesWrite_iff _ _ _ _ _ _).1 (by decide +kernel), (by decide +kernel), (by decide +kernel)⟩,
   ⟨T.mode .run, .canA, (T.takesWrite_iff _ _ _ _ _ _).1 (by decide +kernel), (by decide +kernel), (by decide +kernel), (by decide +kernel)⟩⟩

/-- The hypotheses of `Obligations.ModeTransitionsComplete` can be met, clause by clause. -/
theorem test_witness_ModeTransitionsComplete :
  (∃ (s : State), s.mode = .run ∧ s.phase = 1 ∧ (∀ g < 8, (s.grp g).pend = false ∧ (s.grp g).state ∉ [.busCheck, .precharge, .closing, .releasing])) ∧
  (∃ (s : State), s.mode = .run ∧ s.phase = 2 ∧ s.powerDown = false ∧ s.md.exitReset = none ∧ (∀ g < 8, (s.grp g).state = .off ∨ (s.grp g).state = .waitOff)) ∧
  (∃ (s : State) (c : Nat), s.mode = .run ∧ s.phase = 2 ∧ s.powerDown = false ∧ s.md.exitReset = some c ∧ (∀ g < 8, (s.grp g).state = .off ∨ (s.grp g).state = .waitOff)) ∧
  (∃ (s : State), s.mode = .ready ∧ s.md.deferRun = true ∧ s.md.transit = .none ∧ (∀ g < 8, (s.grp g).state ≠ .waitOff) ∧ s.runConds ≠ 0) ∧
  (∃ (s : State), s.mode = .ready ∧ s.md.deferRun = true ∧ s.md.transit = .none ∧ (∀ g < 8, (s.grp g).state ≠ .waitOff) ∧ s.runConds = 0) ∧
  (∃ (s : State) (at_ : Nat), s.md.transit = .toVault 1 at_ ∧ s.stage1Over at_ = true) ∧
  (∃ (s : State) (at_ : Nat), s.md.transit = .toVault 2 at_ ∧ (s.recd.flushTo = none ∨ s.passed at_ (msTicks 150) = true)) ∧
  (∃ (s : State) (at_ : Nat), s.md.transit = .toWatch 1 at_ ∧ s.stage1Over at_ = true) ∧
  (∃ (s : State) (at_ : Nat), s.md.transit = .toWatch 2 at_ ∧ (s.recd.flushTo = none ∨ s.passed at_ (msTicks 150) = true) ∧ s.md.wakeKept = none) ∧
  (∃ (s : State) (at_ : Nat) (c : Nat), s.md.transit = .toWatch 2 at_ ∧ (s.recd.flushTo = none ∨ s.passed at_ (msTicks 150) = true) ∧ s.md.wakeKept = some c) ∧
  (∃ (s : State), s.mode = .vault ∧ s.vauxOk = true) ∧
  (∃ (s : State), s.mode = .vault ∧ s.vauxOk = false ∧ s.md.wakeWait = none) ∧
  (∃ (s : State), s.mode = .watch ∧ s.md.transit = .none) ∧
  (∃ (s : State) (k : Nat) (at_ : Nat), s.mode = .ready ∧ s.md.transit = .toWatch k at_ ∧ s.md.wakeKept = none) ∧
  (∃ (s : State) (us : Nat), s.mode = .vault ∧ s.vauxOk = true ∧ 5 ≤ us) ∧
  (∃ (s : State) (us : Nat), s.mode = .vault ∧ s.vauxOk = false ∧ s.md.wakeWait = none ∧ 5 ≤ us) ∧
  (∃ (us : Nat), us < 1) ∧
  (∃ (s : State) (port : Nat) (id : Nat) (ide : Bool) (d : List Byte), s.mode = .watch ∧ s.md.transit = .none ∧ s.wakeMatch port id ide d = true) ∧
  (∃ (s : State) (at_ : Nat), s.mode = .vault ∧ s.md.wakeWait = some at_ ∧ s.passed at_ (secTicks 2) = true) ∧
  (∃ (s : State), s.mode = .watch ∧ s.md.transit = .none ∧ s.passed s.md.watchAt (secTicks (s.getN Obj.WATCH_CFG.CHECK_INTERVAL)) = true ∧ (∀ n, s.watchChecks n = false)) ∧
  (∃ (s : State) (r : WatchResult), s.mode = .watch ∧ s.md.transit = .none ∧ s.gal.length = 32 ∧ s.passed s.md.watchAt (secTicks (s.getN Obj.WATCH_CFG.CHECK_INTERVAL)) = true ∧ s.watchChecks r.string = true ∧ (∀ m, m ≠ r.string → s.watchChecks m = false) ∧ s.watchReason r = 0) ∧
  (∃ (s : State), s.ticking = true ∧ s.mode ≠ .boot ∧ s.passed s.md.horizonAt (secTicks 60) = true) :=
  ⟨⟨((T.mode .run).setN Obj.MODE_STATUS.PHASE 1).updSafe (fun x => { x with groups := List.replicate 8 { state := .energised } }), (by decide +kernel), (by decide +kernel), (by decide +kernel)⟩,
   ⟨(T.mode .run).setN Obj.MODE_STATUS.PHASE 2, (by decide +kernel), (by decide +kernel), (by decide +kernel), (by decide +kernel), (by decide +kernel)⟩,
   ⟨((T.mode .run).setN Obj.MODE_STATUS.PHASE 2).updMd (fun x => { x with exitReset := some 5 }), 5, (by decide +kernel), (by decide +kernel), (by decide +kernel), (by decide +kernel), (by decide +kernel)⟩,
   ⟨(T.ready.updMd (fun x => { x with deferRun := true })).updSafe (fun x => { x with groups := List.replicate 8 { state := .off } }), (by decide +kernel), (by decide +kernel), (by decide +kernel), (by decide +kernel), (by decide +kernel)⟩,
   ⟨(T.able.updMd (fun x => { x with deferRun := true })).updSafe (fun x => { x with groups := List.replicate 8 { state := .off } }), (by decide +kernel), (by decide +kernel), (by decide +kernel), (by decide +kernel), (by decide +kernel)⟩,
   ⟨T.at (msTicks 100) (T.ready.updMd (fun x => { x with transit := .toVault 1 0 })), 0, (by decide +kernel), (by decide +kernel)⟩,
   ⟨T.ready.updMd (fun x => { x with transit := .toVault 2 0 }), 0, (by decide +kernel), (by decide +kernel)⟩,
   ⟨T.at (msTicks 100) (T.ready.updMd (fun x => { x with transit := .toWatch 1 0 })), 0, (by decide +kernel), (by decide +kernel)⟩,
   ⟨T.ready.updMd (fun x => { x with transit := .toWatch 2 0 }), 0, (by decide +kernel), (by decide +kernel), (by decide +kernel)⟩,
   ⟨T.ready.updMd (fun x => { x with transit := .toWatch 2 0, wakeKept := some 8 }), 0, 8, (by decide +kernel), (by decide +kernel), (by decide +kernel)⟩,
   ⟨T.mode .vault, (by decide +kernel), (by decide +kernel)⟩,
   ⟨(T.mode .vault).setN Obj.SUPPLY_STATUS.FLAGS 0, (by decide +kernel), (by decide +kernel), (by decide +kernel)⟩,
   ⟨T.mode .watch, (by decide +kernel), (by decide +kernel)⟩,
   ⟨T.ready.updMd (fun x => { x with transit := .toWatch 2 0 }), 2, 0, (by decide +kernel), (by decide +kernel), (by decide +kernel)⟩,
   ⟨T.mode .vault, 5, (by decide +kernel), (by decide +kernel), (by decide +kernel)⟩,
   ⟨(T.mode .vault).setN Obj.SUPPLY_STATUS.FLAGS 0, 5, (by decide +kernel), (by decide +kernel), (by decide +kernel), (by decide +kernel)⟩,
   ⟨0, (by decide +kernel)⟩,
   ⟨(T.mode .watch).setN Obj.WAKE_FRAME.ENABLE 1, 0, 0, false, [1,0], (by decide +kernel), (by decide +kernel), (by decide +kernel)⟩,
   ⟨T.at (secTicks 2) ((T.mode .vault).updMd (fun x => { x with wakeWait := some 0 })), 0, (by decide +kernel), (by decide +kernel), (by decide +kernel)⟩,
   ⟨T.at (secTicks 100000) (T.mode .watch), (by decide +kernel), (by decide +kernel), (by decide +kernel), (fun n => T.noWatch n)⟩,
   ⟨T.watch, ⟨0, true, 1, false, [], [], false, false⟩, (by decide +kernel), (by decide +kernel), (by decide +kernel), (by decide +kernel), (by decide +kernel), T.onlyFirst, (by decide +kernel)⟩,
   ⟨T.at (secTicks 60) T.ready, (by decide +kernel), (by decide +kernel), (by decide +kernel)⟩⟩

/-- The hypotheses of `Obligations.RefusedAccessChangesNothing` can be met, clause by clause. -/
theorem test_witness_RefusedAccessChangesNothing :
  (∃ (s : State) (p : Path) (index : Nat) (sub : Nat) (d : List Byte) (c : Nat), s.atOnce p ∧ checkWrite s p index sub d = .error c) ∧
  (∃ (s : State) (p : Path) (index : Nat), s.atOnce p ∧ s.hasIndex index = false) ∧
  (∃ (s : State) (p : Path) (index : Nat) (sub : Nat), s.atOnce p ∧ s.hasIndex index = true ∧ rowOf index sub = none) ∧
  (∃ (s : State) (p : Path) (index : Nat) (sub : Nat) (r : ObjRow), s.atOnce p ∧ s.hasIndex index = true ∧ rowOf index sub = some r ∧ (r.acc = .wo ∨ r.acc = .key)) :=
  ⟨⟨T.ready, .canA, 0x1018, 1, [0], abortRo, (by unfold State.atOnce; decide +kernel), (by decide +kernel)⟩,
   ⟨T.ready, .canA, 0, (by unfold State.atOnce; decide +kernel), (by decide +kernel)⟩,
   ⟨T.ready, .canA, 0x1018, 77, (by unfold State.atOnce; decide +kernel), (by decide +kernel), (by decide +kernel)⟩,
   ⟨T.ready, .canA, 0x2900, 4, ((rowOf 0x2900 4).getD ⟨.fix, 0, 0, 0, .u8, .ro, .n 0, .any, false⟩), (by unfold State.atOnce; decide +kernel), (by decide +kernel), (by decide +kernel), (by decide +kernel)⟩⟩

/-- The hypotheses of `Obligations.CheckOrderOfWrites` can be met, clause by clause. -/
theorem test_witness_CheckOrderOfWrites :
  (∃ (s : State) (i : Nat), s.hasIndex i = false) ∧
  (∃ (s : State) (i : Nat) (j : Nat), s.hasIndex i = true ∧ rowOf i j = none) ∧
  (∃ (s : State) (i : Nat) (j : Nat) (r : ObjRow), s.hasIndex i = true ∧ rowOf i j = some r) ∧
  (∃ (s : State) (p : Path) (i : Nat) (j : Nat) (r : ObjRow), frontCheck s p i j = .ok r) ∧
  (∃ (s : State) (p : Path) (i : Nat) (j : Nat) (k : Nat) (d : List Byte) (r : ObjRow), frontCheck s p i j = .ok r ∧ d ≠ [] ∧ r.ty.size = some k ∧ d.length ≠ k) ∧
  (∃ (s : State) (p : Path) (i : Nat) (j : Nat) (k : Nat) (d : List Byte) (r : ObjRow), frontCheck s p i j = .ok r ∧ d ≠ [] ∧ r.ty.size = some k ∧ d.length = k ∧ decodeVal r.ty d = none) ∧
  (∃ (s : State) (p : Path) (i : Nat) (j : Nat) (k : Nat) (d : List Byte) (r : ObjRow) (v : Val), frontCheck s p i j = .ok r ∧ d ≠ [] ∧ r.ty.size = some k ∧ d.length = k ∧ decodeVal r.ty d = some v ∧ (r.rng.admits r.ty v = false ∨ orderOk (s.seen i) i j (keyOf i j) v = false)) :=
  ⟨⟨T.ready, 0xFFFF, (by decide +kernel)⟩,
   ⟨T.ready, 0x1018, 5, (by decide +kernel), (by decide +kernel)⟩,
   ⟨T.ready, 0x1018, 1, ((rowOf 0x1018 1).getD ⟨.fix, 0, 0, 0, .u8, .ro, .n 0, .any, false⟩), (by decide +kernel), (by decide +kernel)⟩,
   ⟨T.ready, .canA, 0x1017, 0, ((rowOf 0x1017 0).getD ⟨.fix, 0, 0, 0, .u8, .ro, .n 0, .any, false⟩), (by decide +kernel)⟩,
   ⟨T.ready, .canA, 0x1017, 0, 2, [1], ((rowOf 0x1017 0).getD ⟨.fix, 0, 0, 0, .u8, .ro, .n 0, .any, false⟩), (by decide +kernel), (by decide +kernel), (by decide +kernel), (by decide +kernel)⟩,
   ⟨T.ready, .canA, 0x2801, 1, 4, [0,0,0xC0,0x7F], ((rowOf 0x2801 1).getD ⟨.fix, 0, 0, 0, .u8, .ro, .n 0, .any, false⟩), (by decide +kernel), (by decide +kernel), (by decide +kernel), (by decide +kernel), (by decide +kernel)⟩,
   ⟨T.ready, .canA, 0x2000, 1, 1, [9], ((rowOf 0x2000 1).getD ⟨.fix, 0, 0, 0, .u8, .ro, .n 0, .any, false⟩), .n 9, (by decide +kernel), (by decide +kernel), (by decide +kernel), (by decide +kernel), (by decide +kernel), (by decide +kernel)⟩⟩

/-- The hypotheses of `Obligations.HardwareWinsOverClear` can be met, clause by clause. -/
theorem test_witness_HardwareWinsOverClear :
  (∃ (s : State) (index : Nat) (sub : Nat) (hw : Nat) (m : Nat) (i : Nat) (r : ObjRow), rowOf index sub = some r ∧ r.w1c = true ∧ r.rng = .mask m ∧ s.hasIndex index = true ∧ s.mustWait = false ∧ bit hw i = true ∧ bit m i = true) ∧
  (∃ (s : State) (q : SReq) (r : ObjRow) (m : Nat) (i : Nat), q.write = true ∧ q.origin = .plain ∧ rowOf q.index q.sub = some r ∧ r.w1c = true ∧ r.rng = .mask m ∧ s.hasIndex q.index = true ∧ bit q.hw i = true ∧ bit m i = true) ∧
  (∃ (s : State) (p : Path) (i : Nat), i < 2 ∧ s.takesWrite p (0x2700 + i) 0x14 (leBytes 4 0) (.n 0)) :=
  ⟨⟨T.ready, 0x2008, 9, 1, 0x3F, 0, ((rowOf 0x2008 9).getD ⟨.fix, 0, 0, 0, .u8, .ro, .n 0, .any, false⟩), (by decide +kernel), (by decide +kernel), (by decide +kernel), (by decide +kernel), (by decide +kernel), (by decide +kernel), (by decide +kernel)⟩,
   ⟨T.ready, ⟨[.core0], .canA, true, 0x2008, 9, [1], 0, .plain, 1⟩, ((rowOf 0x2008 9).getD ⟨.fix, 0, 0, 0, .u8, .ro, .n 0, .any, false⟩), 0x3F, 0, (by decide +kernel), (by decide +kernel), (by decide +kernel), (by decide +kernel), (by decide +kernel), (by decide +kernel), (by decide +kernel), (by decide +kernel)⟩,
   ⟨T.ready, .canA, 0, (by decide +kernel), (T.takesWrite_iff _ _ _ _ _ _).1 (by decide +kernel)⟩⟩

/-- The hypotheses of `Obligations.PlainWritesAndSelectors` can be met, clause by clause. -/
theorem test_witness_PlainWritesAndSelectors :
  (∃ (s : State) (p : Path) (i : Nat) (j : Nat) (ones : Nat) (m : Nat) (k : Nat) (r : ObjRow), rowOf i j = some r ∧ r.w1c = true ∧ r.rng = .mask m ∧ r.ty.size = some k ∧ s.takesWrite p i j (leBytes k ones) (.n ones)) ∧
  (∃ (s : State) (p : Path) (n : Nat) (j : Nat) (d : List Byte) (v : Val), n < 32 ∧ s.takesWrite p (0x400B + 0x40 * n) j d v ∧ s.strOn n = false) ∧
  (∃ (s : State) (p : Path) (n : Nat) (j : Nat) (d : List Byte) (v : Val), n < 32 ∧ s.gal.length = 32 ∧ s.takesWrite p (0x400B + 0x40 * n) j d v ∧ s.strOn n = true) ∧
  (∃ (s : State) (p : Path) (i : Nat) (b : Byte), i < 2 ∧ s.takesWrite p (0x2700 + i) 2 [b] (.n b.toNat)) ∧
  (∃ (s : State) (p : Path) (n : Nat) (w : Nat), n < 32 ∧ s.takesWrite p (0x4030 + 0x40 * n) 1 (leBytes 8 w) (.n w)) ∧
  (∃ (s : State) (p : Path), s.takesWrite p 0x1010 1 (leBytes 4 0x65766173) (.n 0x65766173) ∧ (∀ n < 32, (s.g n).held = [] ∧ (s.g n).est.setNext = none)) ∧
  (∃ (s : State) (p : Path), s.takesWrite p 0x1011 1 (leBytes 4 0x64616F6C) (.n 0x64616F6C)) ∧
  (∃ (s : State) (p : Path) (i : Nat) (w : Nat), (i = 0x1010 ∧ w ≠ 0x65766173 ∨ i = 0x1011 ∧ w ≠ 0x64616F6C) ∧ s.takesWrite p i 1 (leBytes 4 w) (.n w)) ∧
  (∃ (s : State) (p : Path), s.takesWrite p 0x1003 0 [0] (.n 0)) ∧
  (∃ (s : State) (p : Path) (key : List Byte), s.takesWrite p 0x2500 2 key (.b key)) ∧
  (∃ (s : State) (p : Path) (key : List Byte), s.takesWrite p 0x2300 9 key (.b key)) ∧
  (∃ (s : State) (p : Path) (n : Nat), n < 32 ∧ s.takesWrite p (0x403F + 0x40 * n) 1 [1] (.n 1) ∧ s.energised n = false ∧ s.strOn n = false) ∧
  (∃ (s : State) (p : Path) (n : Nat), n < 32 ∧ s.takesWrite p (0x403F + 0x40 * n) 1 [1] (.n 1) ∧ s.energised n = false ∧ s.strOn n = true) ∧
  (∃ (s : State) (p : Path) (n : Nat), n < 32 ∧ s.takesWrite p (0x403F + 0x40 * n) 1 [1] (.n 1) ∧ s.energised n = true) :=
  ⟨⟨T.ready, .canA, 0x2008, 9, 1, 0x3F, 4, ((rowOf 0x2008 9).getD ⟨.fix, 0, 0, 0, .u8, .ro, .n 0, .any, false⟩), (by decide +kernel), (by decide +kernel), (by decide +kernel), (by decide +kernel), (T.takesWrite_iff _ _ _ _ _ _).1 (by decide +kernel)⟩,
   ⟨T.ready, .canA, 31, 1, [0,0,0,0], .r (some 0), (by decide +kernel), (T.takesWrite_iff _ _ _ _ _ _).1 (by decide +kernel), (by decide +kernel)⟩,
   ⟨T.string T.ready, .canA, 0, 1, [0,0,0,0], .r (some 0), (by decide +kernel), (by decide +kernel), (T.takesWrite_iff _ _ _ _ _ _).1 (by decide +kernel), (by decide +kernel)⟩,
   ⟨T.ready, .canA, 0, 5, (by decide +kernel), (T.takesWrite_iff _ _ _ _ _ _).1 (by decide +kernel)⟩,
   ⟨T.string T.ready, .canA, 0, 0x400000001, (by decide +kernel), (T.takesWrite_iff _ _ _ _ _ _).1 (by decide +kernel)⟩,
   ⟨T.ready, .canA, (T.takesWrite_iff _ _ _ _ _ _).1 (by decide +kernel), (by decide +kernel)⟩,
   ⟨T.ready, .canA, (T.takesWrite_iff _ _ _ _ _ _).1 (by decide +kernel)⟩,
   ⟨T.ready, .canA, 0x1010, 1, (by decide +kernel), (T.takesWrite_iff _ _ _ _ _ _).1 (by decide +kernel)⟩,
   ⟨T.ready, .canA, (T.takesWrite_iff _ _ _ _ _ _).1 (by decide +kernel)⟩,
   ⟨T.ready, .canA, List.replicate 32 7, (T.takesWrite_iff _ _ _ _ _ _).1 (by decide +kernel)⟩,
   ⟨T.ready, .canA, List.replicate 96 7, (T.takesWrite_iff _ _ _ _ _ _).1 (by decide +kernel)⟩,
   ⟨T.ready, .canA, 31, (by decide +kernel), (T.takesWrite_iff _ _ _ _ _ _).1 (by decide +kernel), (by decide +kernel), (by decide +kernel)⟩,
   ⟨T.string T.ready, .canA, 0, (by decide +kernel), (T.takesWrite_iff _ _ _ _ _ _).1 (by decide +kernel), (by decide +kernel), (by decide +kernel)⟩,
   ⟨T.grouped .energised (T.string T.ready), .canA, 0, (by decide +kernel), (T.takesWrite_iff _ _ _ _ _ _).1 (by decide +kernel), (by decide +kernel)⟩⟩

/-- The hypotheses of `Obligations.CellWindowReads` can be met, clause by clause. -/
theorem test_witness_CellWindowReads :
  (∃ (s : State) (p : Path) (n : Nat), n < 32 ∧ s.takesRead p (0x4031 + 0x40 * n) 1 ∧ s.strOn n = true ∧ selectOk s n (s.getN (pathKey p (Gal.CELL_WINDOW_SEL.SELECT n))) = true) ∧
  (∃ (s : State) (p : Path) (n : Nat), n < 32 ∧ s.takesRead p (0x4031 + 0x40 * n) 1 ∧ s.strOn n = false) ∧
  (∃ (s : State) (p : Path) (n : Nat), n < 32 ∧ s.takesRead p (0x4031 + 0x40 * n) 1 ∧ s.strOn n = true ∧ selectOk s n (s.getN (pathKey p (Gal.CELL_WINDOW_SEL.SELECT n))) = false) :=
  ⟨⟨(T.string T.ready).setN (pathKey .canA (Gal.CELL_WINDOW_SEL.SELECT 0)) 0x100000001, .canA, 0, (by decide +kernel), (T.takesRead_iff _ _ _ _).1 (by decide +kernel), (by decide +kernel), (by decide +kernel)⟩,
   ⟨T.ready, .canA, 0, (by decide +kernel), (T.takesRead_iff _ _ _ _).1 (by decide +kernel), (by decide +kernel)⟩,
   ⟨(T.string T.ready).setN (pathKey .canA (Gal.CELL_WINDOW_SEL.SELECT 0)) 0, .canA, 0, (by decide +kernel), (T.takesRead_iff _ _ _ _).1 (by decide +kernel), (by decide +kernel), (by decide +kernel)⟩⟩

/-- The hypotheses of `Obligations.SafetySetWritesArePending` can be met, clause by clause. -/
theorem test_witness_SafetySetWritesArePending :
  (∃ (s : State) (p : Path) (index : Nat) (sub : Nat) (d : List Byte) (v : Val) (r : ObjRow), rowOf index sub = some r ∧ r.acc = .rwS ∧ s.takesWrite p index sub d v) :=
  ⟨T.ready, .canA, 0x2901, 1, [0,0,0,0], .n 0, ((rowOf 0x2901 1).getD ⟨.fix, 0, 0, 0, .u8, .ro, .n 0, .any, false⟩), (by decide +kernel), (by decide +kernel), (T.takesWrite_iff _ _ _ _ _ _).1 (by decide +kernel)⟩

/-- The hypotheses of `Obligations.SealingTakesEffect` can be met, clause by clause. -/
theorem test_witness_SealingTakesEffect :
  (∃ (s : State) (p : Path), s.takesWrite p 0x2900 1 (leBytes 4 s.pendingCrc) (.n s.pendingCrc) ∧ s.sealCheck = 0) ∧
  (∃ (s : State) (p : Path) (crc : Nat), s.takesWrite p 0x2900 1 (leBytes 4 crc) (.n crc) ∧ crc ≠ s.pendingCrc) ∧
  (∃ (s : State) (p : Path), s.takesWrite p 0x2900 1 (leBytes 4 s.pendingCrc) (.n s.pendingCrc) ∧ s.sealCheck ≠ 0) ∧
  (∃ (s : State) (p : Path), s.takesWrite p 0x2900 1 (leBytes 4 s.pendingCrc) (.n s.pendingCrc) ∧ s.sealCheck = 0) ∧
  (∃ (s : State) (p : Path), s.takesWrite p 0x2900 1 (leBytes 4 s.pendingCrc) (.n s.pendingCrc) ∧ s.sealCheck = 0) ∧
  (∃ (s : State) (p : Path), s.takesWrite p 0x2900 4 [1] (.n 1)) :=
  ⟨⟨T.sealable, .canA, T.seal_takes _ _ (T.crc32_lt _) (by decide +kernel) (by decide +kernel) (by decide +kernel) (by decide +kernel) (by decide +kernel), (by decide +kernel)⟩,
   ⟨T.ready, .canA, T.ready.pendingCrc ^^^ 1, T.seal_takes _ _ (Nat.xor_lt_two_pow (T.crc32_lt _) (by norm_num)) (by decide +kernel) (by decide +kernel) (by decide +kernel) (by decide +kernel) (by decide +kernel), T.xor_one_ne _⟩,
   ⟨T.ready, .canA, T.seal_takes _ _ (T.crc32_lt _) (by decide +kernel) (by decide +kernel) (by decide +kernel) (by decide +kernel) (by decide +kernel), (by decide +kernel)⟩,
   ⟨T.sealable, .canA, T.seal_takes _ _ (T.crc32_lt _) (by decide +kernel) (by decide +kernel) (by decide +kernel) (by decide +kernel) (by decide +kernel), (by decide +kernel)⟩,
   ⟨T.sealable, .canA, T.seal_takes _ _ (T.crc32_lt _) (by decide +kernel) (by decide +kernel) (by decide +kernel) (by decide +kernel) (by decide +kernel), (by decide +kernel)⟩,
   ⟨T.ready, .canA, (T.takesWrite_iff _ _ _ _ _ _).1 (by decide +kernel)⟩⟩

/-- The hypotheses of `Obligations.SdoSegmentedTransfers` can be met, clause by clause. -/
theorem test_witness_SdoSegmentedTransfers :
  (∃ (s : State) (p : Nat), s.sdoOn p = true ∧ s.cans.length = 2) ∧
  (∃ (s : State) (p : Nat) (a : Byte) (b : Byte), s.sdoOn p = true ∧ s.cans.length = 2 ∧ s.takesWrite (canPath p) 0x1017 0 [a, b] (.n (leNat [a, b]))) ∧
  (∃ (s : State) (p : Nat) (i : Nat) (j : Nat) (c : Nat) (d : List Byte), s.sdoOn p = true ∧ s.cans.length = 2 ∧ i < 65536 ∧ j < 256 ∧ s.atOnce (canPath p) ∧ checkWrite s (canPath p) i j d = .error c) ∧
  (∃ (s : State) (p : Nat) (size : Option Nat) (g : Bool) (d : List Byte) (x : List Byte), s.sdoOn p = true ∧ s.cans.length = 2 ∧ (s.sdo p).phase = .downSeg size g d ∧ (d ++ x).length ≤ 65536) ∧
  (∃ (s : State) (p : Nat) (g : Bool) (a : Byte) (b : Byte) (d : List Byte) (x : List Byte), s.sdoOn p = true ∧ s.cans.length = 2 ∧ (s.sdo p).phase = .downSeg (some 2) g d ∧ d ++ x = [a, b] ∧ (s.sdo p).index = 0x1017 ∧ (s.sdo p).sub = 0 ∧ s.takesWrite (canPath p) 0x1017 0 [a, b] (.n (leNat [a, b]))) ∧
  (∃ (s : State) (p : Nat) (size : Option Nat) (g : Bool) (d : List Byte), s.sdoOn p = true ∧ s.cans.length = 2 ∧ (s.sdo p).phase = .downSeg size (!g) d) ∧
  (∃ (s : State) (p : Nat), s.sdoOn p = true ∧ s.cans.length = 2 ∧ s.takesRead (canPath p) 0x1017 0) ∧
  (∃ (s : State) (p : Nat), s.sdoOn p = true ∧ s.cans.length = 2 ∧ s.takesRead (canPath p) 0x1008 0) ∧
  (∃ (s : State) (p : Nat) (g : Bool) (d : List Byte), s.sdoOn p = true ∧ s.cans.length = 2 ∧ (s.sdo p).phase = .upSeg d g ∧ 7 < d.length) ∧
  (∃ (s : State) (p : Nat) (g : Bool) (d : List Byte), s.sdoOn p = true ∧ s.cans.length = 2 ∧ (s.sdo p).phase = .upSeg d g ∧ d.length ≤ 7) :=
  ⟨⟨T.can .idle, 0, (by decide +kernel), (by decide +kernel)⟩,
   ⟨T.can .idle, 0, 5, 0, (by decide +kernel), (by decide +kernel), (T.takesWrite_iff _ _ _ _ _ _).1 (by decide +kernel)⟩,
   ⟨T.can .idle, 0, 0x7777, 0, 0x06020000, [1], (by decide +kernel), (by decide +kernel), (by decide +kernel), (by decide +kernel), (by unfold State.atOnce; decide +kernel), (by decide +kernel)⟩,
   ⟨T.can (.downSeg none true [1]), 0, none, true, [1], [2], (by decide +kernel), (by decide +kernel), (by decide +kernel), (by decide +kernel)⟩,
   ⟨T.can (.downSeg (some 2) false [5]), 0, false, 5, 1, [5], [1], (by decide +kernel), (by decide +kernel), (by decide +kernel), (by decide +kernel), (by decide +kernel), (by decide +kernel), (T.takesWrite_iff _ _ _ _ _ _).1 (by decide +kernel)⟩,
   ⟨T.can (.downSeg none false [1]), 0, none, true, [1], (by decide +kernel), (by decide +kernel), (by decide +kernel)⟩,
   ⟨T.can .idle, 0, (by decide +kernel), (by decide +kernel), (T.takesRead_iff _ _ _ _).1 (by decide +kernel)⟩,
   ⟨T.can .idle, 0, (by decide +kernel), (by decide +kernel), (T.takesRead_iff _ _ _ _).1 (by decide +kernel)⟩,
   ⟨T.can (.upSeg (List.replicate 8 1) false), 0, false, List.replicate 8 1, (by decide +kernel), (by decide +kernel), (by decide +kernel), (by decide +kernel)⟩,
   ⟨T.can (.upSeg [1,2] false), 0, false, [1,2], (by decide +kernel), (by decide +kernel), (by decide +kernel), (by decide +kernel)⟩⟩

/-- The hypotheses of `Obligations.SdoBlockTransfers` can be met, clause by clause. -/
theorem test_witness_SdoBlockTransfers :
  (∃ (s : State) (p : Nat), s.sdoOn p = true ∧ s.cans.length = 2) ∧
  (∃ (s : State) (p : Nat) (size : Option Nat) (crc : Bool) (d : List Byte) (x : List Byte) (segs : List (List Byte)), s.sdoOn p = true ∧ s.cans.length = 2 ∧ (s.sdo p).phase = .downBlk size crc d segs ∧ segs.length + 1 < blockSize ∧ x.length = 7) ∧
  (∃ (s : State) (p : Nat) (size : Option Nat) (crc : Bool) (d : List Byte) (x : List Byte) (segs : List (List Byte)), s.sdoOn p = true ∧ s.cans.length = 2 ∧ (s.sdo p).phase = .downBlk size crc d segs ∧ segs.length < blockSize ∧ x.length = 7 ∧ (d ++ (segs ++ [x]).flatten).length ≤ 65536 + 7) ∧
  (∃ (s : State) (p : Nat) (k : Nat) (crc : Nat) (size : Option Nat) (d : List Byte), s.sdoOn p = true ∧ s.cans.length = 2 ∧ (s.sdo p).phase = .downEnd size true d ∧ crc16 (d.take (d.length - k % 8)) ≠ crc) ∧
  (∃ (s : State) (p : Nat) (a : Byte) (b : Byte), s.sdoOn p = true ∧ s.cans.length = 2 ∧ (s.sdo p).phase = .downEnd (some 2) true ([a, b] ++ List.replicate 5 0) ∧ (s.sdo p).index = 0x1017 ∧ (s.sdo p).sub = 0 ∧ s.takesWrite (canPath p) 0x1017 0 [a, b] (.n (leNat [a, b]))) ∧
  (∃ (s : State) (p : Nat) (b : Nat), s.sdoOn p = true ∧ s.cans.length = 2 ∧ (b = 0 ∨ 127 < b)) ∧
  (∃ (s : State) (p : Nat) (b : Nat), s.sdoOn p = true ∧ s.cans.length = 2 ∧ s.takesRead (canPath p) 0x1017 0 ∧ 1 ≤ b ∧ b ≤ 127) ∧
  (∃ (s : State) (p : Nat) (a : Nat) (n : Nat) (b : Nat) (crc : Bool) (d : List Byte), s.sdoOn p = true ∧ s.cans.length = 2 ∧ (s.sdo p).phase = .upBlk d a n b crc false) ∧
  (∃ (s : State) (p : Nat) (b : Nat) (a : Nat) (c : Nat) (n : Nat) (crc : Bool) (d : List Byte), s.sdoOn p = true ∧ s.cans.length = 2 ∧ (s.sdo p).phase = .upBlk d a n b crc true ∧ c ≤ n ∧ d.length ≤ a + 7 * c) ∧
  (∃ (s : State) (p : Nat) (b : Nat) (e : Nat) (a : Nat) (c : Nat) (n : Nat) (crc : Bool) (d : List Byte), s.sdoOn p = true ∧ s.cans.length = 2 ∧ (s.sdo p).phase = .upBlk d a n b crc true ∧ c ≤ n ∧ a + 7 * c < d.length ∧ 1 ≤ e ∧ e ≤ 127) ∧
  (∃ (s : State) (p : Nat), s.sdoOn p = true ∧ s.cans.length = 2 ∧ (s.sdo p).phase = .upEnd) ∧
  (∃ (s : State) (p : Nat), s.sdoOn p = true ∧ s.cans.length = 2) ∧
  (∃ (s : State) (p : Nat), s.sdoOn p = true ∧ s.cans.length = 2 ∧ (s.sdo p).phase.open? = true ∧ s.passed (s.sdo p).at_ (msTicks 1000) = true) :=
  ⟨⟨T.can .idle, 0, (by decide +kernel), (by decide +kernel)⟩,
   ⟨T.can (.downBlk none true [] []), 0, none, true, [], List.replicate 7 1, [], (by decide +kernel), (by decide +kernel), (by decide +kernel), (by decide +kernel), (by decide +kernel)⟩,
   ⟨T.can (.downBlk none true [] []), 0, none, true, [], List.replicate 7 1, [], (by decide +kernel), (by decide +kernel), (by decide +kernel), (by decide +kernel), (by decide +kernel), (by decide +kernel)⟩,
   ⟨T.can (.downEnd none true [1,2,3,4,5,6,7]), 0, 0, 0, none, [1,2,3,4,5,6,7], (by decide +kernel), (by decide +kernel), (by decide +kernel), (by decide +kernel)⟩,
   ⟨T.can (.downEnd (some 2) true [5,0,0,0,0,0,0]), 0, 5, 0, (by decide +kernel), (by decide +kernel), (by decide +kernel), (by decide +kernel), (by decide +kernel), (T.takesWrite_iff _ _ _ _ _ _).1 (by decide +kernel)⟩,
   ⟨T.can .idle, 0, 128, (by decide +kernel), (by decide +kernel), (by decide +kernel)⟩,
   ⟨T.can .idle, 0, 127, (by decide +kernel), (by decide +kernel), (T.takesRead_iff _ _ _ _).1 (by decide +kernel), (by decide +kernel), (by decide +kernel)⟩,
   ⟨T.can (.upBlk [1,2] 0 0 1 true false), 0, 0, 0, 1, true, [1,2], (by decide +kernel), (by decide +kernel), (by decide +kernel)⟩,
   ⟨T.can (.upBlk [1,2] 0 1 1 true true), 0, 1, 0, 1, 1, true, [1,2], (by decide +kernel), (by decide +kernel), (by decide +kernel), (by decide +kernel), (by decide +kernel)⟩,
   ⟨T.can (.upBlk (List.replicate 20 1) 0 2 9 true true), 0, 9, 5, 0, 2, 2, true, List.replicate 20 1, (by decide +kernel), (by decide +kernel), (by decide +kernel), (by decide +kernel), (by decide +kernel), (by decide +kernel), (by decide +kernel)⟩,
   ⟨T.can .upEnd, 0, (by decide +kernel), (by decide +kernel), (by decide +kernel)⟩,
   ⟨T.can .idle, 0, (by decide +kernel), (by decide +kernel)⟩,
   ⟨T.at (msTicks 1000) (T.can (.upSeg [1] false)), 0, (by decide +kernel), (by decide +kernel), (by decide +kernel), (by decide +kernel)⟩⟩

/-- The hypotheses of `Obligations.NmtGovernsCommunicationOnly` can be met, clause by clause. -/
theorem test_witness_NmtGovernsCommunicationOnly :
  (∃ (s : State) (p : Nat) (node : Nat), s.nmtFor p node = true ∧ s.cans.length = 2) ∧
  (∃ (s : State) (p : Nat) (node : Nat), s.nmtFor p node = true ∧ s.cans.length = 2) ∧
  (∃ (s : State) (p : Nat) (node : Nat), s.nmtFor p node = true ∧ s.cans.length = 2) ∧
  (∃ (s : State) (p : Nat) (node : Nat), s.nmtFor p node = true ∧ (s.mode = .ready ∨ s.mode = .lockout)) ∧
  (∃ (s : State) (p : Nat) (node : Nat), s.nmtFor p node = true ∧ s.mode = .run ∧ s.phase ≠ 2) ∧
  (∃ (s : State) (p : Nat) (node : Nat), s.nmtFor p node = true ∧ s.cans.length = 2) :=
  ⟨⟨T.can .idle, 0, 0, (by decide +kernel), (by decide +kernel)⟩,
   ⟨T.can .idle, 0, 0, (by decide +kernel), (by decide +kernel)⟩,
   ⟨T.can .idle, 0, 0, (by decide +kernel), (by decide +kernel)⟩,
   ⟨T.can .idle, 0, 0, (by decide +kernel), (by decide +kernel)⟩,
   ⟨(T.can .idle).updMd (fun x => { x with mode := .run }), 0, 0, (by decide +kernel), (by decide +kernel), (by decide +kernel)⟩,
   ⟨T.can .idle, 0, 0, (by decide +kernel), (by decide +kernel)⟩⟩

/-- The hypotheses of `Obligations.PdosAndHeartbeatsComplete` can be met, clause by clause. -/
theorem test_witness_PdosAndHeartbeatsComplete :
  (∃ (s : State) (p : Nat) (i : Nat) (a : Byte) (b : Byte), s.rpdoFor p i = true ∧ s.cans.length = 2 ∧ s.mapOf false i = [0x10170010] ∧ 240 < s.getN (keyOf (0x1400 + i) 2) ∧ s.takesWrite (canPath p) 0x1017 0 [a, b] (.n (leNat [a, b]))) ∧
  (∃ (s : State) (p : Nat) (i : Nat) (c : Nat) (w : Nat) (d : List Byte), s.rpdoFor p i = true ∧ s.cans.length = 2 ∧ s.mapOf false i = [w] ∧ s.pdoLen false i ≤ d.length ∧ 240 < s.getN (keyOf (0x1400 + i) 2) ∧ s.atOnce (canPath p) ∧ checkWrite s (canPath p) (bits w 31 16) (bits w 15 8) (d.take (bits w 7 0 / 8)) = .error c) ∧
  (∃ (s : State) (p : Nat) (i : Nat) (d : List Byte), s.rpdoFor p i = true ∧ s.cans.length = 2 ∧ d.length = s.pdoLen false i ∧ s.getN (keyOf (0x1400 + i) 2) ≤ 240) ∧
  (∃ (s : State) (p : Nat) (i : Nat) (d : List Byte), s.rpdoFor p i = true ∧ d.length < s.pdoLen false i) ∧
  (∃ (s : State) (p : Nat) (i : Nat), s.tpdoFor p i = true ∧ s.cans.length = 2 ∧ 254 ≤ s.getN (keyOf (0x1800 + i) 2) ∧ s.tpdoFree p i = true ∧ (s.tpdoNew p i = true ∨ s.tpdoTimer p i = true)) ∧
  (∃ (s : State) (p : Nat) (i : Nat), s.tpdoFor p i = true ∧ s.cans.length = 2 ∧ (s.can p).held = [] ∧ s.getN (Can.TPDO_MASK p) = 2 ^ i ∧ ((s.getN (keyOf (0x1800 + i) 2) = 0 ∧ s.tpdoNew p i = true) ∨ (1 ≤ s.getN (keyOf (0x1800 + i) 2) ∧ s.getN (keyOf (0x1800 + i) 2) ≤ 240 ∧ s.getN (keyOf (0x1800 + i) 2) = (s.tpdo p i).count + 1))) ∧
  (∃ (s : State) (p : Nat) (i : Nat) (a : Byte) (b : Byte), s.rpdoFor p i = true ∧ s.cans.length = 2 ∧ s.mapOf false i = [0x10170010] ∧ (s.can p).held = [(i, [a, b])] ∧ s.getN (Can.TPDO_MASK p) = 0 ∧ s.takesWrite (canPath p) 0x1017 0 [a, b] (.n (leNat [a, b]))) ∧
  (∃ (s : State) (p : Nat), s.served = true ∧ s.cans.length = 2 ∧ s.getN (keyOf 0x1017 0) ≠ 0 ∧ s.passed s.beatAt (msTicks (s.getN (keyOf 0x1017 0))) = true ∧ s.canOn p = true ∧ (s.can p).fifo.length < 32 ∧ (s.can p).waitq = []) ∧
  (∃ (s : State) (p : Nat) (e : Nat) (at_ : Nat), s.canOn p = true ∧ s.cans.length = 2 ∧ 1 ≤ e ∧ e ≤ 4 ∧ SMap.find? (s.can p).heard e = some at_ ∧ bits (s.getN (keyOf 0x1016 e)) 15 0 ≠ 0 ∧ bit (s.can p).missing e = false ∧ s.passed at_ (msTicks (bits (s.getN (keyOf 0x1016 e)) 15 0)) = true) :=
  ⟨⟨T.pdo 255, 0, 0, 5, 0, (by decide +kernel), (by decide +kernel), (by decide +kernel), (by decide +kernel), (T.takesWrite_iff _ _ _ _ _ _).1 (by decide +kernel)⟩,
   ⟨(T.pdo 255).setN (keyOf 0x1600 1) 0x34010120, 0, 0, 0x06090030, 0x34010120, [0, 0, 0xC0, 0x7F], (by decide +kernel), (by decide +kernel), (by decide +kernel), (by decide +kernel), (by decide +kernel), (by unfold State.atOnce; decide +kernel), (by decide +kernel)⟩,
   ⟨T.pdo 240, 0, 0, [5,0], (by decide +kernel), (by decide +kernel), (by decide +kernel), (by decide +kernel)⟩,
   ⟨T.pdo 255, 0, 0, [5], (by decide +kernel), (by decide +kernel)⟩,
   ⟨T.pdo 254, 0, 0, (by decide +kernel), (by decide +kernel), (by decide +kernel), (by decide +kernel), (by decide +kernel)⟩,
   ⟨T.pdo 1, 0, 0, (by decide +kernel), (by decide +kernel), (by decide +kernel), (by decide +kernel), (by decide +kernel)⟩,
   ⟨(let s := ((T.pdo 0).setN (Can.TPDO_MASK 0) 0); { s with cans := [{ (s.can 0) with held := [(0, [5,0])] }, {}] } : State), 0, 0, 5, 0, (by decide +kernel), (by decide +kernel), (by decide +kernel), (by decide +kernel), (by decide +kernel), (T.takesWrite_iff _ _ _ _ _ _).1 (by decide +kernel)⟩,
   ⟨T.at (msTicks 1000) (T.pdo 255), 0, (by decide +kernel), (by decide +kernel), (by decide +kernel), (by decide +kernel), (by decide +kernel), (by decide +kernel), (by decide +kernel)⟩,
   ⟨(let s := T.at (msTicks 10) ((T.can .idle).setN (keyOf 0x1016 4) 10); let c : CanRt := { nmt := 5, heard := [(4, 0)] }; ({ s with cans := [c, {}] })), 0, 4, 0, (by decide +kernel), (by decide +kernel), (by decide +kernel), (by decide +kernel), (by decide +kernel), (by decide +kernel), (by decide +kernel), (by decide +kernel)⟩⟩

/-- The hypotheses of `Obligations.ArcadeRequestsServed` can be met, clause by clause. -/
theorem test_witness_ArcadeRequestsServed :
  (∃ (s : State) (u : State) (m : ArcMsg), s.arcFor m 2 = true ∧ s.accept101 m = (u, true) ∧ s.served = true ∧ s.mustWait = false ∧ m.payload.length = 14 ∧ (∀ e ∈ u.arc.answered, ¬ (e.1 = m.source ∧ e.2.1 = m.reqId)) ∧ (∀ o ∈ u.arc.opens, ¬ (o.serial = m.source ∧ o.id = m.reqId)) ∧ fieldN m.payload 0 2 = 0x1017 ∧ fieldN m.payload 2 1 = 0 ∧ fieldN m.payload 3 1 = 0 ∧ fieldN m.payload 4 4 = 0 ∧ 2 ≤ fieldN m.payload 12 2 ∧ fieldN m.payload 12 2 ≤ 1400) ∧
  (∃ (s : State) (u : State) (m : ArcMsg) (v : List Byte), s.arcFor m 2 = true ∧ s.accept101 m = (u, true) ∧ s.served = true ∧ s.mustWait = false ∧ m.payload.length = 14 ∧ (∀ e ∈ u.arc.answered, ¬ (e.1 = m.source ∧ e.2.1 = m.reqId)) ∧ (∀ o ∈ u.arc.opens, ¬ (o.serial = m.source ∧ o.id = m.reqId)) ∧ fieldN m.payload 3 1 = 0 ∧ 1 ≤ fieldN m.payload 12 2 ∧ fieldN m.payload 12 2 ≤ 1400 ∧ 0 < fieldN m.payload 4 4 ∧ fieldN m.payload 4 4 < v.length ∧ frozenOf u.arc.frozen m.source (fieldN m.payload 0 2) (fieldN m.payload 2 1) = some v) ∧
  (∃ (s : State) (u : State) (m : ArcMsg) (a : Byte) (b : Byte) (r : ObjRow), s.arcFor m 3 = true ∧ s.accept101 m = (u, true) ∧ s.served = true ∧ s.mustWait = false ∧ m.payload.drop 16 = [a, b] ∧ (∀ e ∈ u.arc.answered, ¬ (e.1 = m.source ∧ e.2.1 = m.reqId)) ∧ (∀ o ∈ u.arc.opens, ¬ (o.serial = m.source ∧ o.id = m.reqId)) ∧ fieldN m.payload 0 2 = 0x1017 ∧ fieldN m.payload 2 1 = 0 ∧ partOf u.arc.parts m.source 0x1017 0 = none ∧ fieldN m.payload 3 1 = 1 ∧ fieldN m.payload 4 4 = 0 ∧ fieldN m.payload 8 4 = 2 ∧ checkWrite s (.arcade m.source) 0x1017 0 [a, b] = .ok (.n (leNat [a, b]), r)) ∧
  (∃ (s : State) (u : State) (m : ArcMsg) (r : ObjRow), s.arcFor m 3 = true ∧ s.accept101 m = (u, true) ∧ s.served = true ∧ s.mustWait = false ∧ 16 < m.payload.length ∧ (∀ e ∈ u.arc.answered, ¬ (e.1 = m.source ∧ e.2.1 = m.reqId)) ∧ (∀ o ∈ u.arc.opens, ¬ (o.serial = m.source ∧ o.id = m.reqId)) ∧ partOf u.arc.parts m.source (fieldN m.payload 0 2) (fieldN m.payload 2 1) = none ∧ fieldN m.payload 3 1 = 0 ∧ fieldN m.payload 4 4 = 0 ∧ m.payload.length - 16 ≤ fieldN m.payload 8 4 ∧ frontCheck s (.arcade m.source) (fieldN m.payload 0 2) (fieldN m.payload 2 1) = .ok r ∧ lenOk r.ty (fieldN m.payload 0 2) (fieldN m.payload 8 4) = none) ∧
  (∃ (s : State) (u : State) (m : ArcMsg) (r : ArcReq), s.portUp m.west = true ∧ m.formOk = true ∧ m.type = 4 ∧ m.dest = s.serial ∧ s.accept101 m = (u, true) ∧ u.arc.reqs.find? (fun r => decide (r.id = m.reqId) && decide (r.dest = m.source)) = some r) ∧
  (∃ (s : State) (r : ArcReq), s.arc.reqs = [r] ∧ s.passed r.at_ (msTicks (s.getN Obj.ARCADE_CFG.REQ_TIMEOUT)) = true) ∧
  (∃ (s : State), s.timeLocked = false) :=
  ⟨⟨T.ring, T.taken T.ring (T.msg (T.body 5 2 9 1 77 (leBytes 2 0x1017 ++ [0, 0] ++ leBytes 4 0 ++ leBytes 4 0 ++ leBytes 2 1400))), T.msg (T.body 5 2 9 1 77 (leBytes 2 0x1017 ++ [0, 0] ++ leBytes 4 0 ++ leBytes 4 0 ++ leBytes 2 1400)), T.arcFor _ _ _ (by decide +kernel) (T.msg_formOk _ (by decide +kernel) (by decide +kernel) (by decide +kernel)) (by decide +kernel) (by decide +kernel), T.accept _ _ (by decide +kernel) (T.msg_tagOk _ (by decide +kernel)) (by decide +kernel) (by decide +kernel) (by decide +kernel), (by decide +kernel), (by decide +kernel), (by decide +kernel), (by decide +kernel), (by decide +kernel), (by decide +kernel), (by decide +kernel), (by decide +kernel), (by decide +kernel), (by decide +kernel), (by decide +kernel)⟩,
   ⟨(T.ring.updArc (fun a => { a with frozen := [⟨9, 0x1018, 1, [1,2,3,4], 0⟩] })), T.taken (T.ring.updArc (fun a => { a with frozen := [⟨9, 0x1018, 1, [1,2,3,4], 0⟩] })) (T.msg (T.body 5 2 9 1 77 (leBytes 2 0x1018 ++ [1, 0] ++ leBytes 4 2 ++ leBytes 4 4 ++ leBytes 2 1400))), T.msg (T.body 5 2 9 1 77 (leBytes 2 0x1018 ++ [1, 0] ++ leBytes 4 2 ++ leBytes 4 4 ++ leBytes 2 1400)), [1,2,3,4], T.arcFor _ _ _ (by decide +kernel) (T.msg_formOk _ (by decide +kernel) (by decide +kernel) (by decide +kernel)) (by decide +kernel) (by decide +kernel), T.accept _ _ (by decide +kernel) (T.msg_tagOk _ (by decide +kernel)) (by decide +kernel) (by decide +kernel) (by decide +kernel), (by decide +kernel), (by decide +kernel), (by decide +kernel), (by decide +kernel), (by decide +kernel), (by decide +kernel), (by decide +kernel), (by decide +kernel), (by decide +kernel), (by decide +kernel), (by decide +kernel)⟩,
   ⟨(T.ring.setN Obj.TIMEBASE.STATE 2), T.taken (T.ring.setN Obj.TIMEBASE.STATE 2) (T.msg (T.body 5 3 9 1 77 (leBytes 2 0x1017 ++ [0, 1] ++ leBytes 4 0 ++ leBytes 4 2 ++ [0, 0, 0, 0, 5, 0]))), T.msg (T.body 5 3 9 1 77 (leBytes 2 0x1017 ++ [0, 1] ++ leBytes 4 0 ++ leBytes 4 2 ++ [0, 0, 0, 0, 5, 0])), 5, 0, ((rowOf 0x1017 0).getD ⟨.fix, 0, 0, 0, .u8, .ro, .n 0, .any, false⟩), T.arcFor _ _ _ (by decide +kernel) (T.msg_formOk _ (by decide +kernel) (by decide +kernel) (by decide +kernel)) (by decide +kernel) (by decide +kernel), T.accept _ _ (by decide +kernel) (T.msg_tagOk _ (by decide +kernel)) (by decide +kernel) (by decide +kernel) (by decide +kernel), (by decide +kernel), (by decide +kernel), (by decide +kernel), (by decide +kernel), (by decide +kernel), (by decide +kernel), (by decide +kernel), (by decide +kernel), (by decide +kernel), (by decide +kernel), (by decide +kernel), (by decide +kernel)⟩,
   ⟨(T.ring.setN Obj.TIMEBASE.STATE 2), T.taken (T.ring.setN Obj.TIMEBASE.STATE 2) (T.msg (T.body 5 3 9 1 77 (leBytes 2 0x4018 ++ [2, 0] ++ leBytes 4 0 ++ leBytes 4 100 ++ [0, 0, 0, 0, 5, 0]))), T.msg (T.body 5 3 9 1 77 (leBytes 2 0x4018 ++ [2, 0] ++ leBytes 4 0 ++ leBytes 4 100 ++ [0, 0, 0, 0, 5, 0])), ((rowOf 0x4018 2).getD ⟨.fix, 0, 0, 0, .u8, .ro, .n 0, .any, false⟩), T.arcFor _ _ _ (by decide +kernel) (T.msg_formOk _ (by decide +kernel) (by decide +kernel) (by decide +kernel)) (by decide +kernel) (by decide +kernel), T.accept _ _ (by decide +kernel) (T.msg_tagOk _ (by decide +kernel)) (by decide +kernel) (by decide +kernel) (by decide +kernel), (by decide +kernel), (by decide +kernel), (by decide +kernel), (by decide +kernel), (by decide +kernel), (by decide +kernel), (by decide +kernel), (by decide +kernel), (by decide +kernel), (by decide +kernel), (by decide +kernel)⟩,
   ⟨(T.ring.updArc (fun a => { a with reqs := [⟨77, 9, false, 0x1018, 1, 0⟩] })), T.taken (T.ring.updArc (fun a => { a with reqs := [⟨77, 9, false, 0x1018, 1, 0⟩] })) (T.msg (T.body 5 4 9 1 77 [])), T.msg (T.body 5 4 9 1 77 []), ⟨77, 9, false, 0x1018, 1, 0⟩, (by decide +kernel), T.msg_formOk _ (by decide +kernel) (by decide +kernel) (by decide +kernel), (by decide +kernel), (by decide +kernel), T.accept _ _ (by decide +kernel) (T.msg_tagOk _ (by decide +kernel)) (by decide +kernel) (by decide +kernel) (by decide +kernel), (by decide +kernel)⟩,
   ⟨T.at (secTicks 60) (T.ring.updArc (fun a => { a with reqs := [⟨77, 9, false, 0x1018, 1, 0⟩] })), ⟨77, 9, false, 0x1018, 1, 0⟩, (by decide +kernel), (by decide +kernel)⟩,
   ⟨T.ready, (by decide +kernel)⟩⟩

/-- The hypotheses of `Obligations.HeadCommandsAnswered` can be met, clause by clause. -/
theorem test_witness_HeadCommandsAnswered :
  (∃ (s : State) (n : Nat) (tag : Nat) (onB : Bool), s.headTakes n onB tag) ∧
  (∃ (s : State) (n : Nat) (tag : Nat) (a : Nat) (onB : Bool), s.headTakes n onB tag ∧ a < 16) ∧
  (∃ (s : State) (n : Nat) (tag : Nat) (a : Nat) (onB : Bool), s.headTakes n onB tag ∧ 16 ≤ a ∧ a < 256) ∧
  (∃ (s : State) (n : Nat) (tag : Nat) (a : Nat) (v : Nat) (onB : Bool), s.headTakes n onB tag ∧ ((a = 2 ∧ v ≤ 39) ∨ (a = 3 ∧ 30 ≤ v ∧ v ≤ 200))) ∧
  (∃ (s : State) (n : Nat) (tag : Nat) (a : Nat) (v : Nat) (onB : Bool), s.headTakes n onB tag ∧ v < 2 ^ 32 ∧ ((a = 2 ∧ 39 < v) ∨ (a = 3 ∧ (v < 30 ∨ 200 < v)))) ∧
  (∃ (s : State) (n : Nat) (tag : Nat) (a : Nat) (v : Nat) (onB : Bool), s.headTakes n onB tag ∧ 5 ≤ a ∧ a ≤ 13 ∧ v < 2 ^ 32) ∧
  (∃ (s : State) (n : Nat) (tag : Nat) (a : Nat) (v : Nat) (onB : Bool), s.headTakes n onB tag ∧ a ∈ [0, 1, 14, 15, 16, 255] ∧ v < 2 ^ 32) ∧
  (∃ (s : State) (n : Nat) (tag : Nat) (onB : Bool), s.headTakes n onB tag ∧ ((s.g n).head.path = .wrap ∨ (s.g n).head.path = .split)) ∧
  (∃ (s : State) (n : Nat) (tag : Nat) (onB : Bool), s.headTakes n onB tag ∧ ((s.g n).head.path = .ring ∨ (s.g n).head.path = .down)) ∧
  (∃ (s : State) (n : Nat) (tag : Nat) (ms : Nat) (onB : Bool), s.headTakes n onB tag ∧ (s.g n).head.inhibited = true ∧ ms < 2 ^ 32) ∧
  (∃ (s : State) (n : Nat) (tag : Nat) (onB : Bool), s.headTakes n onB tag ∧ (s.g n).head.inhibited = false) ∧
  (∃ (s : State) (n : Nat) (tag : Nat) (r : Nat) (onB : Bool), s.headTakes n onB tag ∧ r < 64) ∧
  (∃ (s : State) (n : Nat) (a : Nat) (onB : Bool), s.hasGal n = true ∧ s.gal.length = 32 ∧ (s.g n).head.obeys onB = false ∧ a < 16) ∧
  (∃ (s : State) (n : Nat) (onB : Bool), s.hasGal n = true ∧ s.gal.length = 32 ∧ (s.g n).head.obeys onB = false) ∧
  (∃ (s : State) (n : Nat) (tag : Nat) (a : Nat) (v : Nat) (ms : Nat) (r : Nat) (tl : Int) (onB : Bool) (c : Instr), s.hasGal n = true ∧ s.gal.length = 32 ∧ (s.g n).head.obeys onB = false ∧ c ∈ [.writeReg n onB 0 tag a v, .restoreRing n onB tag, .sleep n onB 0 tag ms tl, .selftest n onB 0 tag r]) ∧
  (∃ (s : State) (n : Nat) (tag : Nat) (onB : Bool) (r : Entry), s.hasGal n = true ∧ s.gal.length = 32 ∧ (s.g n).head.obeys onB = true ∧ (s.g n).head.lastResp = some r ∧ (s.g n).head.lastTag = tag) :=
  ⟨⟨T.head {}, 0, 3, false, (by unfold State.headTakes; decide +kernel)⟩,
   ⟨T.head {}, 0, 3, 15, false, (by unfold State.headTakes; decide +kernel), (by decide +kernel)⟩,
   ⟨T.head {}, 0, 3, 16, false, (by unfold State.headTakes; decide +kernel), (by decide +kernel), (by decide +kernel)⟩,
   ⟨T.head {}, 0, 3, 3, 30, false, (by unfold State.headTakes; decide +kernel), (by decide +kernel)⟩,
   ⟨T.head {}, 0, 3, 3, 29, false, (by unfold State.headTakes; decide +kernel), (by decide +kernel), (by decide +kernel)⟩,
   ⟨T.head {}, 0, 3, 13, 0xFFFFFFFF, false, (by unfold State.headTakes; decide +kernel), (by decide +kernel), (by decide +kernel), (by decide +kernel)⟩,
   ⟨T.head {}, 0, 3, 255, 0, false, (by unfold State.headTakes; decide +kernel), (by decide +kernel), (by decide +kernel)⟩,
   ⟨T.head { path := .split }, 0, 3, false, (by unfold State.headTakes; decide +kernel), (by decide +kernel)⟩,
   ⟨T.head { path := .down }, 0, 3, false, (by unfold State.headTakes; decide +kernel), (by decide +kernel)⟩,
   ⟨T.head {}, 0, 3, 10, false, (by unfold State.headTakes; decide +kernel), (by decide +kernel), (by decide +kernel)⟩,
   ⟨T.head { inhibited := false }, 0, 3, false, (by unfold State.headTakes; decide +kernel), (by decide +kernel)⟩,
   ⟨T.head {}, 0, 3, 63, false, (by unfold State.headTakes; decide +kernel), (by decide +kernel)⟩,
   ⟨T.mon {}, 0, 9, true, (by decide +kernel), (by decide +kernel), (by decide +kernel), (by decide +kernel)⟩,
   ⟨T.mon {}, 0, true, (by decide +kernel), (by decide +kernel), (by decide +kernel)⟩,
   ⟨T.ready, 31, 3, 2, 5, 10, 2, 0, false, .restoreRing 31 false 3, (by decide +kernel), (by decide +kernel), (by decide +kernel), (by decide +kernel)⟩,
   ⟨T.head { lastTag := 3, lastResp := some { op := 1, target := 0, tag := 3 } }, 0, 3, false, { op := 1, target := 0, tag := 3 }, (by decide +kernel), (by decide +kernel), (by decide +kernel), (by decide +kernel), (by decide +kernel)⟩⟩

/-- The hypotheses of `Obligations.ReleaseClearsTheLatch` can be met, clause by clause. -/
theorem test_witness_ReleaseClearsTheLatch :
  (∃ (s : State) (n : Nat) (tag : Nat) (onB : Bool), s.headTakes n onB tag ∧ (s.g n).head.cmp = 0 ∧ (s.g n).head.trip = 0 ∧ (s.g n).head.cmpOld = 0 ∧ (s.g n).head.nodeCmp = false ∧ (s.g n).head.nodeCmpOld = false) ∧
  (∃ (s : State) (n : Nat) (tag : Nat) (onB : Bool), s.headTakes n onB tag ∧ ((s.g n).head.cmp ≠ 0 ∨ (s.g n).head.trip ≠ 0 ∨ (s.g n).head.cmpOld ≠ 0 ∨ (s.g n).head.nodeCmp = true ∨ (s.g n).head.nodeCmpOld = true)) ∧
  (∃ (s : State) (n : Nat) (tag : Nat) (onB : Bool), s.hasGal n = true ∧ s.gal.length = 32 ∧ (s.g n).head.auth = .dualFault ∧ (s.g n).head.alone onB = true ∧ ((s.g n).head.lastResp = none ∨ (s.g n).head.lastTag ≠ tag) ∧ (s.g n).head.cmp = 0 ∧ (s.g n).head.trip = 0 ∧ (s.g n).head.cmpOld = 0 ∧ (s.g n).head.nodeCmp = false ∧ (s.g n).head.nodeCmpOld = false) :=
  ⟨⟨T.head {}, 0, 3, false, (by unfold State.headTakes; decide +kernel), (by decide +kernel), (by decide +kernel), (by decide +kernel), (by decide +kernel), (by decide +kernel)⟩,
   ⟨T.head { cmp := 1 }, 0, 3, false, (by unfold State.headTakes; decide +kernel), (by decide +kernel)⟩,
   ⟨T.gal { head := { auth := .dualFault, tokA := 4, haveA := true } } (T.up T.ready), 0, 3, false, (by decide +kernel), (by decide +kernel), (by decide +kernel), (by decide +kernel), (by decide +kernel), (by decide +kernel), (by decide +kernel), (by decide +kernel), (by decide +kernel), (by decide +kernel)⟩⟩

/-- The hypotheses of `Obligations.MonitorCommandsExecuted` can be met, clause by clause. -/
theorem test_witness_MonitorCommandsExecuted :
  (∃ (s : State) (n : Nat) (node : Nat) (tag : Nat) (a : Nat), s.monTakes n node tag ∧ a < 10) ∧
  (∃ (s : State) (n : Nat) (node : Nat) (tag : Nat), s.monTakes n node tag) ∧
  (∃ (s : State) (n : Nat) (node : Nat) (tag : Nat) (v : Nat), s.monTakes n node tag ∧ v < 2 ^ 32) ∧
  (∃ (s : State) (n : Nat) (node : Nat) (tag : Nat) (a : Nat) (v : Nat), s.monTakes n node tag ∧ v < 2 ^ 32 ∧ (a = 6 ∨ a = 7)) ∧
  (∃ (s : State) (n : Nat) (node : Nat) (tag : Nat) (v : Nat), s.monTakes n node tag ∧ v < 64 ∧ 1 ≤ bits v 4 0 ∧ bits v 4 0 ≤ 16) ∧
  (∃ (s : State) (n : Nat) (node : Nat) (tag : Nat) (v : Nat), s.monTakes n node tag ∧ 1 ≤ v ∧ v ≤ 15) ∧
  (∃ (s : State) (n : Nat) (node : Nat) (tag : Nat) (a : Nat), s.monTakes n node tag ∧ a ≤ 4) ∧
  (∃ (s : State) (n : Nat) (node : Nat) (tag : Nat) (first : Nat) (count : Nat) (serial : Nat), s.monTakes n node tag ∧ first < 65536 ∧ count < 256 ∧ serial < 2 ^ 32) ∧
  (∃ (s : State) (n : Nat) (node : Nat) (tag : Nat) (sf : Nat) (x : Nat), s.monTakes n node tag ∧ sf < x ∧ x ≤ sf + 1024 ∧ x < 2 ^ 32) ∧
  (∃ (s : State) (n : Nat) (node : Nat) (tag : Nat) (sf : Nat) (x : Nat), s.monTakes n node tag ∧ x ≤ sf ∧ sf < 2 ^ 31) ∧
  (∃ (s : State) (n : Nat) (node : Nat) (tag : Nat) (sf : Nat) (x : Nat), s.monTakes n node tag ∧ sf + 1024 < x ∧ x < 2 ^ 31) ∧
  (∃ (s : State) (n : Nat) (node : Nat) (tag : Nat) (mask : Nat), s.monTakes n node tag ∧ mask < 256 ∧ (s.mon n node).sweepBusy = false) ∧
  (∃ (s : State) (n : Nat) (node : Nat) (tag : Nat) (mask : Nat), s.monTakes n node tag ∧ mask < 256 ∧ (s.mon n node).sweepBusy = true) ∧
  (∃ (s : State) (n : Nat) (node : Nat) (tag : Nat) (p : Nat), s.monTakes n node tag ∧ p < 16) ∧
  (∃ (s : State) (n : Nat) (node : Nat) (tag : Nat) (p : Nat), s.monTakes n node tag ∧ p < 16) ∧
  (∃ (s : State) (n : Nat) (node : Nat) (tag : Nat) (ms : Nat) (tl : Int), s.monTakes n node tag ∧ ms < 2 ^ 32 ∧ -32768 ≤ tl ∧ tl ≤ 32767) ∧
  (∃ (s : State) (n : Nat) (node : Nat) (tag : Nat) (r : Nat), s.monTakes n node tag ∧ r < 64) ∧
  (∃ (s : State) (n : Nat) (node : Nat) (tag : Nat) (r : Entry), s.hasGal n = true ∧ s.gal.length = 32 ∧ 1 ≤ node ∧ node ≤ (s.g n).mons.length ∧ (s.mon n node).lastResp = some r ∧ (s.mon n node).lastTag = tag) :=
  ⟨⟨T.mon {}, 0, 1, 3, 9, (by unfold State.monTakes; decide +kernel), (by decide +kernel)⟩,
   ⟨T.mon {}, 0, 1, 3, (by unfold State.monTakes; decide +kernel)⟩,
   ⟨T.mon {}, 0, 1, 3, 0xFFFFFFFF, (by unfold State.monTakes; decide +kernel), (by decide +kernel)⟩,
   ⟨T.mon {}, 0, 1, 3, 7, 5, (by unfold State.monTakes; decide +kernel), (by decide +kernel), (by decide +kernel)⟩,
   ⟨T.mon {}, 0, 1, 3, 5, (by unfold State.monTakes; decide +kernel), (by decide +kernel), (by decide +kernel), (by decide +kernel)⟩,
   ⟨T.mon {}, 0, 1, 3, 5, (by unfold State.monTakes; decide +kernel), (by decide +kernel), (by decide +kernel)⟩,
   ⟨T.mon {}, 0, 1, 3, 4, (by unfold State.monTakes; decide +kernel), (by decide +kernel)⟩,
   ⟨T.mon {}, 0, 1, 3, 512, 16, 5, (by unfold State.monTakes; decide +kernel), (by decide +kernel), (by decide +kernel), (by decide +kernel)⟩,
   ⟨T.mon {}, 0, 1, 3, 5, 1029, (by unfold State.monTakes; decide +kernel), (by decide +kernel), (by decide +kernel), (by decide +kernel)⟩,
   ⟨T.mon {}, 0, 1, 3, 5, 5, (by unfold State.monTakes; decide +kernel), (by decide +kernel), (by decide +kernel)⟩,
   ⟨T.mon {}, 0, 1, 3, 5, 1030, (by unfold State.monTakes; decide +kernel), (by decide +kernel), (by decide +kernel)⟩,
   ⟨T.mon {}, 0, 1, 3, 255, (by unfold State.monTakes; decide +kernel), (by decide +kernel), (by decide +kernel)⟩,
   ⟨T.mon { sweepBusy := true }, 0, 1, 3, 255, (by unfold State.monTakes; decide +kernel), (by decide +kernel), (by decide +kernel)⟩,
   ⟨T.mon {}, 0, 1, 3, 15, (by unfold State.monTakes; decide +kernel), (by decide +kernel)⟩,
   ⟨T.mon {}, 0, 1, 3, 15, (by unfold State.monTakes; decide +kernel), (by decide +kernel)⟩,
   ⟨T.mon {}, 0, 1, 3, 5, -32768, (by unfold State.monTakes; decide +kernel), (by decide +kernel), (by decide +kernel), (by decide +kernel)⟩,
   ⟨T.mon {}, 0, 1, 3, 63, (by unfold State.monTakes; decide +kernel), (by decide +kernel)⟩,
   ⟨T.mon { lastTag := 3, lastResp := some { op := 1, target := 1, tag := 3 } }, 0, 1, 3, { op := 1, target := 1, tag := 3 }, (by decide +kernel), (by decide +kernel), (by decide +kernel), (by decide +kernel), (by decide +kernel), (by decide +kernel)⟩⟩

/-- The hypotheses of `Obligations.AddressesOnlyFromAssign` can be met, clause by clause. -/
theorem test_witness_AddressesOnlyFromAssign :
  (∃ (s : State) (n : Nat) (node : Nat), s.hasGal n = true ∧ s.gal.length = 32 ∧ 1 ≤ node ∧ node ≤ 39 ∧ (s.g n).mons.length = 39 ∧ (s.g n).head.insF ≤ 64) ∧
  (∃ (s : State) (n : Nat) (node : Nat), s.hasGal n = true ∧ s.gal.length = 32 ∧ 1 ≤ node ∧ node ≤ 39 ∧ (s.g n).mons.length = 39 ∧ (s.g n).head.insR ≤ 64) ∧
  (∃ (s : State) (n : Nat) (node : Nat) (tag : Nat), s.monTakes n node tag) :=
  ⟨⟨T.mon {}, 0, 39, (by decide +kernel), (by decide +kernel), (by decide +kernel), (by decide +kernel), (by decide +kernel), (by decide +kernel)⟩,
   ⟨T.mon {}, 0, 39, (by decide +kernel), (by decide +kernel), (by decide +kernel), (by decide +kernel), (by decide +kernel), (by decide +kernel)⟩,
   ⟨T.mon {}, 0, 1, 3, (by unfold State.monTakes; decide +kernel)⟩⟩

/-- The hypotheses of `Obligations.HeadInhibitsOnK281` can be met, clause by clause. -/
theorem test_witness_HeadInhibitsOnK281 :
  (∃ (s : State) (n : Nat) (d : DownSuper), s.hasGal n = true ∧ s.gal.length = 32 ∧ d.inhibit = true ∧ (∀ e ∈ entriesOf d.cmd.payload, e.op ≠ 9)) ∧
  (∃ (s : State) (n : Nat) (sf : Nat) (d : DownSuper), s.hasGal n = true ∧ s.gal.length = 32 ∧ (s.g n).head.auth = .obeyA ∧ (s.g n).head.holding = false ∧ s.root < (s.g n).head.rxA + 15000 ∧ d.inserted ≤ 64 ∧ d.hold = false ∧ hdrGood d.header 16 = true ∧ sf = fieldN d.header.payload 0 4 ∧ bit (fieldN d.header.payload 6 1) 0 = true ∧ blkGood d.token sf 24 = true ∧ d.k27 = true ∧ fieldN d.token.payload 12 1 = 1 ∧ fieldN d.token.payload 0 8 ≠ 0 ∧ fieldN d.token.payload 14 4 = sf ∧ blkGood d.refs sf 44 = true ∧ fieldN d.refs.payload 32 4 = sf) ∧
  (∃ (s : State) (n : Nat), s.hasGal n = true ∧ s.gal.length = 32 ∧ (s.g n).head.holding = true ∧ s.passed (s.g n).head.holdAt (msTicks ((s.g n).head.regs.getD 3 40)) = true) ∧
  (∃ (s : State) (n : Nat), s.hasGal n = true ∧ s.gal.length = 32) ∧
  (∃ (s : State) (n : Nat), s.hasGal n = true ∧ s.gal.length = 32 ∧ (s.g n).head.auth = .dual ∧ 62 ≤ (s.g n).head.overlap) ∧
  (∃ (s : State) (n : Nat) (b : LoopBack), s.hasGal n = true ∧ s.gal.length = 32 ∧ 0 < b.forward + b.reverse) ∧
  (∃ (s : State) (n : Nat) (b : LoopBack), s.hasGal n = true ∧ s.gal.length = 32 ∧ b.forward = 0 ∧ b.reverse = 0 ∧ b.returned = false ∧ 1 ≤ (s.g n).head.lostSf ∧ (s.g n).head.path ≠ .down) ∧
  (∃ (s : State) (n : Nat) (node : Nat), s.hasGal n = true ∧ s.gal.length = 32 ∧ 1 ≤ node ∧ node ≤ (s.g n).mons.length) :=
  ⟨⟨T.head {}, 0, T.down true, (by decide +kernel), (by decide +kernel), (by decide +kernel), (by decide +kernel)⟩,
   ⟨T.head {}, 0, 7, T.downGood, (by decide +kernel), (by decide +kernel), (by decide +kernel), (by decide +kernel), (by decide +kernel), (by decide +kernel), (by decide +kernel), (by decide +kernel), (by decide +kernel), (by decide +kernel), (by decide +kernel), (by decide +kernel), (by decide +kernel), (by decide +kernel), (by decide +kernel), (by decide +kernel), (by decide +kernel)⟩,
   ⟨T.at (msTicks 40) (T.head { holding := true }), 0, (by decide +kernel), (by decide +kernel), (by decide +kernel), (by decide +kernel)⟩,
   ⟨T.head {}, 0, (by decide +kernel), (by decide +kernel)⟩,
   ⟨T.gal { head := { auth := .dual, overlap := 62 } } (T.up T.ready), 0, (by decide +kernel), (by decide +kernel), (by decide +kernel), (by decide +kernel)⟩,
   ⟨T.head {}, 0, ⟨true, false, 0, 1, 0⟩, (by decide +kernel), (by decide +kernel), (by decide +kernel)⟩,
   ⟨T.head { lostSf := 1, path := .ring }, 0, ⟨false, false, 0, 0, 0⟩, (by decide +kernel), (by decide +kernel), (by decide +kernel), (by decide +kernel), (by decide +kernel), (by decide +kernel), (by decide +kernel)⟩,
   ⟨T.mon {}, 0, 39, (by decide +kernel), (by decide +kernel), (by decide +kernel), (by decide +kernel)⟩⟩

/-- The hypotheses of `Obligations.TrunkStatesFollow` can be met, clause by clause. -/
theorem test_witness_TrunkStatesFollow :
  (∃ (s : State) (n : Nat) (u : UpSuper), s.hasGal n = true ∧ s.gal.length = 32 ∧ s.strOn n = true ∧ s.trunk n ≠ 0 ∧ (s.g n).trunk.idle = false ∧ (s.qualify n u).hdrOk = true) ∧
  (∃ (s : State) (n : Nat) (u : UpSuper), s.hasGal n = true ∧ s.gal.length = 32 ∧ s.strOn n = true ∧ s.trunk n ≠ 0 ∧ (s.g n).trunk.idle = false ∧ 64 < u.inserted) ∧
  (∃ (s : State) (n : Nat), s.hasGal n = true ∧ s.gal.length = 32 ∧ s.strOn n = true ∧ s.trunk n ≠ 0 ∧ (s.g n).trunk.idle = false ∧ s.now % 10000 = 0 ∧ (s.g n).trunk.grids.head?.map (·.2.1) ≠ some (s.now / 10000)) ∧
  (∃ (s : State) (n : Nat), s.hasGal n = true ∧ s.gal.length = 32 ∧ s.trunk n = 1 ∧ s.passed (s.g n).trunk.since (msTicks 100) = true) ∧
  (∃ (s : State) (n : Nat), s.hasGal n = true ∧ s.gal.length = 32 ∧ s.trunk n = 6 ∧ s.passed (s.g n).trunk.since (secTicks 1) = true) ∧
  (∃ (s : State) (n : Nat), s.hasGal n = true ∧ s.gal.length = 32 ∧ ((s.trunk n = 1 ∧ (s.g n).trunk.seenGood = true) ∨ s.trunk n = 2 ∨ s.trunk n = 3 ∨ s.trunk n = 4) ∧ 3 ≤ (s.g n).trunk.bad) ∧
  (∃ (s : State) (n : Nat) (o : Outst), s.hasGal n = true ∧ s.gal.length = 32 ∧ (s.g n).trunk.outst = [o] ∧ o.dueSf = false ∧ 16 ≤ o.age ∧ o.resends < 3) ∧
  (∃ (s : State) (n : Nat) (o : Outst), s.hasGal n = true ∧ s.gal.length = 32 ∧ (s.g n).trunk.outst = [o] ∧ o.dueSf = false ∧ 16 ≤ o.age ∧ 3 ≤ o.resends ∧ (o.entry.target ≠ 0xFF ∨ o.seen = [])) ∧
  (∃ (s : State) (p : Path) (n : Nat), n < 32 ∧ s.gal.length = 32 ∧ s.takesWrite p (0x4000 + 0x40 * n) 7 [1] (.n 1) ∧ s.energised n = false ∧ (s.getN (Gal.FLIGHT_STATUS.LOOP_STATE n) = 2 ∨ s.getN (Gal.FLIGHT_STATUS.LOOP_STATE n) = 3) ∧ s.claims n = true) ∧
  (∃ (s : State) (p : Path) (n : Nat), s.takesWrite p (0x4000 + 0x40 * n) 7 [1] (.n 1) ∧ s.energised n = true) ∧
  (∃ (s : State) (n : Nat) (at_ : Nat), s.hasGal n = true ∧ s.gal.length = 32 ∧ (s.g n).trunk.farSince = some at_ ∧ s.getN (Gal.STRING_CFG.LOOP_RESTORE_MODE n) = 1 ∧ s.energised n = false ∧ s.passed at_ (secTicks 1) = true ∧ (s.getN (Gal.FLIGHT_STATUS.LOOP_STATE n) = 2 ∨ s.getN (Gal.FLIGHT_STATUS.LOOP_STATE n) = 3) ∧ s.claims n = true) ∧
  (∃ (s : State) (p : Path) (n : Nat), n < 32 ∧ s.gal.length = 32 ∧ s.takesWrite p (0x4002 + 0x40 * n) 0x70 [1] (.n 1) ∧ s.mode = .ready ∧ s.energised n = false ∧ s.trunk n ∉ [0, 1, 6] ∧ s.claims n = true ∧ (∃ i, 1 ≤ i ∧ i ≤ 39 ∧ 0 < (s.expected n i).2)) ∧
  (∃ (s : State) (p : Path) (n : Nat) (i : Nat) (sub : Nat) (d : List Byte) (v : Nat), n < 32 ∧ s.gal.length = 32 ∧ ((i = 0x4000 + 0x40 * n ∧ 1 ≤ sub ∧ sub ≤ 6) ∨ (i = 0x4002 + 0x40 * n ∧ 1 ≤ sub ∧ sub ≤ 0x27)) ∧ s.takesWrite p i sub d (.n v) ∧ (∀ e ∈ (s.g n).held, e.1 / 256 ≠ 0x4000 + 0x40 * n ∧ e.1 / 256 ≠ 0x4002 + 0x40 * n)) :=
  ⟨⟨T.gal { trunk := { idle := false } } ((T.string T.ready).setN (Gal.FLIGHT_STATUS.TRUNK_STATE 0) 1), 0, T.upGood, (by decide +kernel), (by decide +kernel), (by decide +kernel), (by decide +kernel), (by decide +kernel), (by decide +kernel)⟩,
   ⟨T.gal { trunk := { idle := false } } ((T.string T.ready).setN (Gal.FLIGHT_STATUS.TRUNK_STATE 0) 1), 0, T.upSuper 65, (by decide +kernel), (by decide +kernel), (by decide +kernel), (by decide +kernel), (by decide +kernel), (by decide +kernel)⟩,
   ⟨T.gal { trunk := { idle := false } } (T.up T.ready), 0, (by decide +kernel), (by decide +kernel), (by decide +kernel), (by decide +kernel), (by decide +kernel), (by decide +kernel), (by decide +kernel)⟩,
   ⟨T.at (msTicks 100) ((T.string T.ready).setN (Gal.FLIGHT_STATUS.TRUNK_STATE 0) 1), 0, (by decide +kernel), (by decide +kernel), (by decide +kernel), (by decide +kernel)⟩,
   ⟨T.at (secTicks 1) ((T.string T.ready).setN (Gal.FLIGHT_STATUS.TRUNK_STATE 0) 6), 0, (by decide +kernel), (by decide +kernel), (by decide +kernel), (by decide +kernel)⟩,
   ⟨T.gal { trunk := { bad := 3 } } (T.up T.ready), 0, (by decide +kernel), (by decide +kernel), (by decide +kernel), (by decide +kernel)⟩,
   ⟨T.gal { trunk := { outst := [{ entry := { op := 1, target := 0, tag := 1 }, age := 16, dueSf := false }] } } (T.up T.ready), 0, { entry := { op := 1, target := 0, tag := 1 }, age := 16, dueSf := false }, (by decide +kernel), (by decide +kernel), (by decide +kernel), (by decide +kernel), (by decide +kernel), (by decide +kernel)⟩,
   ⟨T.gal { trunk := { outst := [{ entry := { op := 1, target := 0, tag := 1 }, age := 16, resends := 3, dueSf := false }] } } (T.up T.ready), 0, { entry := { op := 1, target := 0, tag := 1 }, age := 16, resends := 3, dueSf := false }, (by decide +kernel), (by decide +kernel), (by decide +kernel), (by decide +kernel), (by decide +kernel), (by decide +kernel), (by decide +kernel)⟩,
   ⟨(T.up T.ready).setN (Gal.FLIGHT_STATUS.LOOP_STATE 0) 2, .canA, 0, (by decide +kernel), (by decide +kernel), (T.takesWrite_iff _ _ _ _ _ _).1 (by decide +kernel), (by decide +kernel), (by decide +kernel), (by decide +kernel)⟩,
   ⟨T.grouped .energised (T.up T.ready), .canA, 0, (T.takesWrite_iff _ _ _ _ _ _).1 (by decide +kernel), (by decide +kernel)⟩,
   ⟨T.at (secTicks 1) (T.gal { trunk := { farSince := some 0 } } (((T.up T.ready).setN (Gal.FLIGHT_STATUS.LOOP_STATE 0) 3).setN (Gal.STRING_CFG.LOOP_RESTORE_MODE 0) 1)), 0, 0, (by decide +kernel), (by decide +kernel), (by decide +kernel), (by decide +kernel), (by decide +kernel), (by decide +kernel), (by decide +kernel), (by decide +kernel)⟩,
   ⟨(T.up T.ready).setN (Gal.FLIGHT_NODES.EXPECTED 0 1) 0x40000, .canA, 0, (by decide +kernel), (by decide +kernel), (T.takesWrite_iff _ _ _ _ _ _).1 (by decide +kernel), (by decide +kernel), (by decide +kernel), (by decide +kernel), (by decide +kernel), ⟨1, by decide, by decide, by decide +kernel⟩⟩,
   ⟨T.ready, .canA, 31, 0x4000 + 0x40 * 31, 1, [1], 1, (by decide +kernel), (by decide +kernel), (by decide +kernel), (T.takesWrite_iff _ _ _ _ _ _).1 (by decide +kernel), (by decide +kernel)⟩⟩

/-- The hypotheses of `Obligations.ReadingsLatched` can be met, clause by clause. -/
theorem test_witness_ReadingsLatched :
  (∃ (s : State) (n : Nat), s.hasGal n = true ∧ s.gal.length = 32 ∧ (s.g n).head.sampleAt ≠ 0xFFFF) ∧
  (∃ (s : State) (n : Nat), s.hasGal n = true ∧ s.gal.length = 32 ∧ (s.g n).head.sampleAt = 0xFFFF) ∧
  (∃ (s : State) (n : Nat) (node : Nat) (pos : Nat) (outs : Nat) (value : Int), s.hasGal n = true ∧ s.gal.length = 32 ∧ 1 ≤ node ∧ node ≤ (s.g n).mons.length ∧ pos < (s.mon n node).count ∧ toSigned 32 ((s.mon n node).regs.getD 6 0) ≠ 0 ∧ toSigned 32 ((s.mon n node).regs.getD 6 0) < value ∧ (s.mon n node).regs.getD 9 2 ≤ outs) ∧
  (∃ (s : State) (n : Nat) (node : Nat) (pos : Nat) (outs : Nat) (value : Int), s.hasGal n = true ∧ s.gal.length = 32 ∧ 1 ≤ node ∧ node ≤ (s.g n).mons.length ∧ pos < (s.mon n node).count ∧ toSigned 32 ((s.mon n node).regs.getD 7 0) ≠ 0 ∧ value < toSigned 32 ((s.mon n node).regs.getD 7 0) ∧ (s.mon n node).regs.getD 9 2 ≤ outs) ∧
  (∃ (s : State) (n : Nat) (node : Nat) (pos : Nat) (outs : Nat) (value : Int), s.hasGal n = true ∧ s.gal.length = 32 ∧ 1 ≤ node ∧ node ≤ (s.g n).mons.length ∧ pos < (s.mon n node).count ∧ toSigned 32 ((s.mon n node).regs.getD 7 0) + 2000 ≤ value ∧ value ≤ toSigned 32 ((s.mon n node).regs.getD 6 0) - 2000 ∧ (s.mon n node).regs.getD 9 2 ≤ outs) ∧
  (∃ (s : State) (n : Nat) (outs : Nat) (value : Int), s.hasGal n = true ∧ s.gal.length = 32 ∧ toSigned 32 ((s.g n).head.regs.getD 6 0) ≠ 0 ∧ toSigned 32 ((s.g n).head.regs.getD 6 0) < value.natAbs ∧ 1 ≤ outs) ∧
  (∃ (s : State) (n : Nat) (outs : Nat) (value : Int), s.hasGal n = true ∧ s.gal.length = 32 ∧ toSigned 32 ((s.g n).head.regs.getD 9 0) ≠ 0 ∧ value < toSigned 32 ((s.g n).head.regs.getD 9 0) ∧ 1 ≤ outs) ∧
  (∃ (s : State) (n : Nat) (node : Nat), s.hasGal n = true ∧ s.gal.length = 32 ∧ 1 ≤ node ∧ node ≤ (s.g n).mons.length ∧ (s.mon n node).sweepBusy = true) ∧
  (∃ (s : State) (n : Nat) (node : Nat), s.hasGal n = true ∧ s.gal.length = 32 ∧ 1 ≤ node ∧ node ≤ (s.g n).mons.length ∧ (s.mon n node).asleep = false ∧ s.passed (s.mon n node).frameAt (msTicks 100) = true) ∧
  (∃ (s : State) (n : Nat) (node : Nat) (self : Nat) (volts : List Nat) (temps : List Nat), s.hasGal n = true ∧ s.gal.length = 32 ∧ 1 ≤ node ∧ node ≤ (s.g n).mons.length ∧ (s.mon n node).asleep = true ∧ s.passed (s.mon n node).checkAt (msTicks (s.mon n node).checkMs) = true ∧ (s.mon n node).checkWord volts temps self ≠ 0) ∧
  (∃ (s : State) (n : Nat) (node : Nat) (self : Nat) (volts : List Nat) (temps : List Nat), s.hasGal n = true ∧ s.gal.length = 32 ∧ 1 ≤ node ∧ node ≤ (s.g n).mons.length ∧ (s.mon n node).asleep = true ∧ s.passed (s.mon n node).checkAt (msTicks (s.mon n node).checkMs) = true ∧ (s.mon n node).checkWord volts temps self = 0) ∧
  (∃ (s : State) (n : Nat), s.hasGal n = true ∧ s.gal.length = 32) ∧
  (∃ (s : State) (n : Nat) (node : Nat), s.hasGal n = true ∧ s.gal.length = 32 ∧ 1 ≤ node ∧ node ≤ (s.g n).mons.length ∧ (s.mon n node).asleep = true ∧ (s.mon n node).burstAt = none) :=
  ⟨⟨T.head { sampleAt := 5 }, 0, (by decide +kernel), (by decide +kernel), (by decide +kernel)⟩,
   ⟨T.head {}, 0, (by decide +kernel), (by decide +kernel), (by decide +kernel)⟩,
   ⟨T.mon { regs := [0, 0, 16, 0, 0, 0, 3000000, 2000000, 0x21, 2] }, 0, 1, 15, 2, 3000001, (by decide +kernel), (by decide +kernel), (by decide +kernel), (by decide +kernel), (by decide +kernel), (by decide +kernel), (by decide +kernel), (by decide +kernel)⟩,
   ⟨T.mon { regs := [0, 0, 16, 0, 0, 0, 3000000, 2000000, 0x21, 2] }, 0, 1, 15, 2, 1999999, (by decide +kernel), (by decide +kernel), (by decide +kernel), (by decide +kernel), (by decide +kernel), (by decide +kernel), (by decide +kernel), (by decide +kernel)⟩,
   ⟨T.mon { regs := [0, 0, 16, 0, 0, 0, 3000000, 2000000, 0x21, 2] }, 0, 1, 15, 2, 2002000, (by decide +kernel), (by decide +kernel), (by decide +kernel), (by decide +kernel), (by decide +kernel), (by decide +kernel), (by decide +kernel), (by decide +kernel)⟩,
   ⟨T.head { regs := [0, 1, 0, 40, 0x11388, 0, 1000, 0, 0, 0, 0, 0, 0, 0, 0, 0] }, 0, 1, -1001, (by decide +kernel), (by decide +kernel), (by decide +kernel), (by decide +kernel), (by decide +kernel)⟩,
   ⟨T.head { regs := [0, 1, 0, 40, 0x11388, 0, 1000, 0, 0, 0xFFFFFC18, 0, 0, 0, 0, 0, 0] }, 0, 1, -1001, (by decide +kernel), (by decide +kernel), (by decide +kernel), (by decide +kernel), (by decide +kernel)⟩,
   ⟨T.mon { sweepBusy := true, sweepMask := 0xFF }, 0, 1, (by decide +kernel), (by decide +kernel), (by decide +kernel), (by decide +kernel), (by decide +kernel)⟩,
   ⟨T.at (msTicks 100) (T.mon {}), 0, 1, (by decide +kernel), (by decide +kernel), (by decide +kernel), (by decide +kernel), (by decide +kernel), (by decide +kernel)⟩,
   ⟨T.at (secTicks 10) (T.mon { asleep := true, regs := [0, 0, 16, 0, 0, 0, 3000000, 2000000, 0x21, 2] }), 0, 1, 0, [3000001], [], (by decide +kernel), (by decide +kernel), (by decide +kernel), (by decide +kernel), (by decide +kernel), (by decide +kernel), (by decide +kernel)⟩,
   ⟨T.at (secTicks 10) (T.mon { asleep := true }), 0, 1, 0, [], [], (by decide +kernel), (by decide +kernel), (by decide +kernel), (by decide +kernel), (by decide +kernel), (by decide +kernel), (by decide +kernel)⟩,
   ⟨T.head {}, 0, (by decide +kernel), (by decide +kernel)⟩,
   ⟨T.mon { asleep := true }, 0, 1, (by decide +kernel), (by decide +kernel), (by decide +kernel), (by decide +kernel), (by decide +kernel), (by decide +kernel)⟩⟩

/-- The hypotheses of `Obligations.FlightUpkeepComplete` can be met, clause by clause. -/
theorem test_witness_FlightUpkeepComplete :
  (∃ (s : State) (p : Path) (n : Nat), n < 32 ∧ s.gal.length = 32 ∧ s.takesWrite p (0x4004 + 0x40 * n) 8 [1] (.n 1) ∧ s.energised n = false ∧ s.claims n = true) ∧
  (∃ (s : State) (p : Path) (n : Nat), s.takesWrite p (0x4004 + 0x40 * n) 8 [1] (.n 1) ∧ s.energised n = true) ∧
  (∃ (s : State) (n : Nat), s.hasGal n = true ∧ s.gal.length = 32 ∧ s.trunk n = 4 ∧ s.claims n = true ∧ s.passed (s.g n).trunk.rereadAt (secTicks 10) = true ∧ s.compReading n = false) ∧
  (∃ (s : State) (n : Nat), s.hasGal n = true ∧ s.gal.length = 32 ∧ s.trunk n = 4 ∧ s.claims n = true ∧ ((s.g n).bal.sweepFirst = true ∨ s.passed (s.g n).bal.sweepAt (msTicks (s.getN (Gal.THERMAL_STATUS.INTERVAL_NOW n))) = true) ∧ (s.g n).bal.sweepOut = false) ∧
  (∃ (s : State) (n : Nat), s.hasGal n = true ∧ s.gal.length = 32 ∧ s.trunk n = 4 ∧ s.claims n = true ∧ ((s.g n).bal.sweepFirst = true ∨ s.passed (s.g n).bal.sweepAt (msTicks (s.getN (Gal.THERMAL_STATUS.INTERVAL_NOW n))) = true) ∧ (s.g n).bal.sweepOut = true) ∧
  (∃ (s : State) (n : Nat) (k : Nat), s.hasGal n = true ∧ s.gal.length = 32 ∧ (s.g n).bal.sweepOut = true ∧ (s.g n).bal.sweepGot = [] ∧ (s.g n).bal.sweepAns = some k ∧ 12 ≤ k) ∧
  (∃ (s : State) (n : Nat), s.hasGal n = true ∧ s.gal.length = 32 ∧ s.balOk n = true ∧ s.getN (Gal.BALANCE_CFG.MODE n) ≠ 0 ∧ s.passed (s.g n).bal.decideAt (secTicks 1) = true) ∧
  (∃ (s : State) (n : Nat) (p : Nat), s.hasGal n = true ∧ s.gal.length = 32 ∧ s.balOk n = true ∧ s.getN (Gal.BALANCE_CFG.MODE n) ≠ 0 ∧ s.passed (s.g n).bal.decideAt (secTicks 1) = true ∧ (∀ q, (s.cell n q).balOn = false) ∧ 1 ≤ s.getN (Gal.BALANCE_CFG.MAX_CLOSED n) ∧ p < s.posCount n ∧ p < (s.g n).cells.length ∧ s.eligible n p = true ∧ (∀ q < s.posCount n, s.eligible n q = true → (s.getQ (Gal.BALANCE_CFG.DELTA_START n) < s.balValue n q - qminD 0 (((List.range (s.posCount n)).filter (s.eligible n)).map (s.balValue n)) ↔ q = p))) ∧
  (∃ (s : State) (p : Path) (n : Nat) (pos : Nat), n < 32 ∧ s.gal.length = 32 ∧ s.takesWrite p (0x4007 + 0x40 * n) 1 (leBytes 2 pos) (.n pos) ∧ (s.mode = .run ∨ s.mode = .ready) ∧ pos ≠ 0xFFFF ∧ (s.g n).bal.queue = [] ∧ (s.g n).bal.phase = .idle) ∧
  (∃ (s : State) (p : Path) (n : Nat), n < 32 ∧ s.gal.length = 32 ∧ s.takesWrite p (0x4007 + 0x40 * n) 1 (leBytes 2 0xFFFF) (.n 0xFFFF) ∧ (s.mode = .run ∨ s.mode = .ready) ∧ (s.g n).bal.queue = []) ∧
  (∃ (s : State) (p : Path) (n : Nat) (pos : Nat), s.takesWrite p (0x4007 + 0x40 * n) 1 (leBytes 2 pos) (.n pos) ∧ s.mode = .lockout) ∧
  (∃ (s : State) (n : Nat), s.gal.length = 32 ∧ s.strOn n = true ∧ s.getN (Gal.BALANCE_TEST.INTERVAL n) ≠ 0 ∧ s.passed (s.g n).bal.passAt (secTicks (s.getN (Gal.BALANCE_TEST.INTERVAL n))) = true ∧ (s.g n).bal.queue = []) ∧
  (∃ (s : State) (r : WatchResult), s.mode = .watch ∧ s.md.transit = .none ∧ s.passed s.md.watchAt (secTicks (s.getN Obj.WATCH_CFG.CHECK_INTERVAL)) = true ∧ s.watchChecks r.string = true ∧ (∀ m, m ≠ r.string → s.watchChecks m = false) ∧ s.watchReason r ≠ 0) ∧
  (∃ (s : State) (n : Nat), s.mode = .watch ∧ s.md.transit = .none ∧ s.passed s.md.watchAt (secTicks (s.getN Obj.WATCH_CFG.CHECK_INTERVAL)) = true ∧ s.watchChecks n = true ∧ (∀ m, m ≠ n → s.watchChecks m = false)) :=
  ⟨⟨T.up T.ready, .canA, 0, (by decide +kernel), (by decide +kernel), (T.takesWrite_iff _ _ _ _ _ _).1 (by decide +kernel), (by decide +kernel), (by decide +kernel)⟩,
   ⟨T.grouped .energised (T.up T.ready), .canA, 0, (T.takesWrite_iff _ _ _ _ _ _).1 (by decide +kernel), (by decide +kernel)⟩,
   ⟨T.at (secTicks 10) (T.up T.ready), 0, (by decide +kernel), (by decide +kernel), (by decide +kernel), (by decide +kernel), (by decide +kernel), (by decide +kernel)⟩,
   ⟨T.up T.ready, 0, (by decide +kernel), (by decide +kernel), (by decide +kernel), (by decide +kernel), (by decide +kernel), (by decide +kernel)⟩,
   ⟨T.gal { bal := { sweepOut := true } } (T.up T.ready), 0, (by decide +kernel), (by decide +kernel), (by decide +kernel), (by decide +kernel), (by decide +kernel), (by decide +kernel)⟩,
   ⟨T.gal { bal := { sweepOut := true, sweepAns := some 12 } } (T.up T.ready), 0, 12, (by decide +kernel), (by decide +kernel), (by decide +kernel), (by decide +kernel), (by decide +kernel), (by decide +kernel)⟩,
   ⟨T.at (secTicks 1) ((T.up T.ready).setN (Gal.BALANCE_CFG.MODE 0) 1), 0, (by decide +kernel), (by decide +kernel), (by decide +kernel), (by decide +kernel), (by decide +kernel)⟩,
   ⟨T.at (secTicks 1) (T.gal { cells := [{ v := some (16/5), temp := some 20 }, { v := some 3, temp := some 20 }] } ((T.up T.ready).setN (Gal.BALANCE_CFG.MODE 0) 1)), 0, 0, (by decide +kernel), (by decide +kernel), (by decide +kernel), (by decide +kernel), (by decide +kernel), (fun q => by rcases q with _ | _ | q <;> rfl), (by decide +kernel), (by decide +kernel), (by decide +kernel), (by decide +kernel), (by decide +kernel)⟩,
   ⟨T.up T.ready, .canA, 0, 3, (by decide +kernel), (by decide +kernel), (T.takesWrite_iff _ _ _ _ _ _).1 (by decide +kernel), (by decide +kernel), (by decide +kernel), (by decide +kernel), (by decide +kernel)⟩,
   ⟨T.up T.ready, .canA, 0, (by decide +kernel), (by decide +kernel), (T.takesWrite_iff _ _ _ _ _ _).1 (by decide +kernel), (by decide +kernel), (by decide +kernel)⟩,
   ⟨T.up (T.mode .lockout), .canA, 0, 3, (T.takesWrite_iff _ _ _ _ _ _).1 (by decide +kernel), (by decide +kernel)⟩,
   ⟨T.at (secTicks 100000) ((T.up T.ready).setN (Gal.BALANCE_TEST.INTERVAL 0) 3600), 0, (by decide +kernel), (by decide +kernel), (by decide +kernel), (by decide +kernel), (by decide +kernel)⟩,
   ⟨T.watch, ⟨0, true, 1, true, [], [], false, false⟩, (by decide +kernel), (by decide +kernel), (by decide +kernel), (by decide +kernel), T.onlyFirst, (by decide +kernel)⟩,
   ⟨T.watch, 0, (by decide +kernel), (by decide +kernel), (by decide +kernel), (by decide +kernel), T.onlyFirst⟩⟩

/-- The hypotheses of `Obligations.ConverterStatesFollow` can be met, clause by clause. -/
theorem test_witness_ConverterStatesFollow :
  (∃ (s : State) (n : Nat), s.gal.length = 32 ∧ s.strOn n = true ∧ (s.takeHeld n).role ≠ 3 ∧ (s.g n).meas.stepped = false ∧ (s.g n).meas.fresh = true ∧ (s.g n).tread.evDe = false ∧ (s.g n).tread.staleHold = false ∧ (s.g n).tread.pauseHold = false) ∧
  (∃ (s : State) (n : Nat), s.gal.length = 32 ∧ s.strOn n = true ∧ (s.takeHeld n).role ≠ 3 ∧ (s.g n).tread.state ≠ .off ∧ (s.g n).tread.evDe = true) ∧
  (∃ (s : State) (n : Nat), s.gal.length = 32 ∧ s.strOn n = true ∧ (s.takeHeld n).role ≠ 3 ∧ (s.g n).tread.state = .running ∧ (s.g n).tread.evDe = false ∧ (s.takeHeld n).headInh n = false ∧ (s.takeHeld n).tripOn n = false ∧ (s.g n).tread.pauseHold = true) ∧
  (∃ (s : State) (n : Nat), s.gal.length = 32 ∧ s.strOn n = true ∧ (s.takeHeld n).role ≠ 3 ∧ (s.g n).tread.state = .running ∧ (s.g n).tread.evDe = false ∧ (s.takeHeld n).headInh n = false ∧ (s.takeHeld n).tripOn n = false ∧ (s.g n).meas.stepped = true) :=
  ⟨⟨T.step .off, 0, (by decide +kernel), (by decide +kernel), (by decide +kernel), (by decide +kernel), (by decide +kernel), (by decide +kernel), (by decide +kernel), (by decide +kernel)⟩,
   ⟨T.gal { tread := { state := .running, evDe := true }, meas := { fresh := true, stepped := false } } (T.up T.ready), 0, (by decide +kernel), (by decide +kernel), (by decide +kernel), (by decide +kernel), (by decide +kernel)⟩,
   ⟨T.gal { tread := { state := .running, pauseHold := true }, meas := { fresh := true, stepped := false } } (T.up T.ready), 0, (by decide +kernel), (by decide +kernel), (by decide +kernel), (by decide +kernel), (by decide +kernel), (by decide +kernel), (by decide +kernel), (by decide +kernel)⟩,
   ⟨T.gal { tread := { state := .running } } (T.up T.ready), 0, (by decide +kernel), (by decide +kernel), (by decide +kernel), (by decide +kernel), (by decide +kernel), (by decide +kernel), (by decide +kernel), (by decide +kernel)⟩⟩

/-- The hypotheses of `Obligations.SelectedCurrentIsBounded` can be met, clause by clause. -/
theorem test_witness_SelectedCurrentIsBounded :
  ∃ (s : State) (t : State) (n : Nat), s.gal.length = 32 ∧ s.strOn n = true ∧ (s.takeHeld n).role ≠ 3 ∧ (s.g n).meas.stepped = false ∧ (s.g n).meas.fresh = true ∧ (s.g n).tread.state = .running ∧ (t.g n).tread.state = .running ∧ 0 ≤ (s.g n).tread.iPrev ∧ 0 ≤ (s.takeHeld n).getQ (Gal.CONV_CFG.I_ABS_MAX n) ∧ 0 ≤ (s.takeHeld n).getQ (Gal.CONV_CFG.RAMP_RATE n) ∧ exec (.controlStep n false) s = .next t :=
  ⟨(({ (T.step .running).setN (Gal.CONV_CFG.CONVERTER_ENABLE 0) 1 with safe := { groups := List.replicate 8 { state := .energised } }, safetySet := { inForce := [(Gal.ENERGISE.GROUP 0, .n 0)] } }).updTread 0 (fun x => { x with enable := true })), T.next (exec (.controlStep 0 false) (({ (T.step .running).setN (Gal.CONV_CFG.CONVERTER_ENABLE 0) 1 with safe := { groups := List.replicate 8 { state := .energised } }, safetySet := { inForce := [(Gal.ENERGISE.GROUP 0, .n 0)] } }).updTread 0 (fun x => { x with enable := true }))), 0, (by decide +kernel), (by decide +kernel), (by decide +kernel), (by decide +kernel), (by decide +kernel), (by decide +kernel), (by decide +kernel), (by decide +kernel), (by decide +kernel), (by decide +kernel), T.next_eq _ (by decide +kernel)⟩

/-- The hypotheses of `Obligations.ConverterRequestsComplete` can be met, clause by clause. -/
theorem test_witness_ConverterRequestsComplete :
  (∃ (s : State) (p : Path) (n : Nat), n < 32 ∧ s.gal.length = 32 ∧ s.takesWrite p (0x4008 + 0x40 * n) 9 [1] (.n 1) ∧ (s.g n).tread.state = .tripped ∧ s.tripOn n = false ∧ s.headInh n = false) ∧
  (∃ (s : State) (p : Path) (n : Nat), s.takesWrite p (0x4008 + 0x40 * n) 9 [1] (.n 1) ∧ ((s.g n).tread.state ≠ .tripped ∨ s.tripOn n = true ∨ s.headInh n = true)) ∧
  (∃ (s : State) (p : Path) (n : Nat) (on : Nat), n < 32 ∧ s.takesWrite p (0x4008 + 0x40 * n) 1 (leBytes 1 on) (.n on) ∧ s.strOn n = false) ∧
  (∃ (s : State) (p : Path) (n : Nat) (on : Nat), n < 32 ∧ s.gal.length = 32 ∧ s.takesWrite p (0x4008 + 0x40 * n) 1 (leBytes 1 on) (.n on) ∧ s.strOn n = true) ∧
  (∃ (s : State) (n : Nat), s.gal.length = 32 ∧ s.strOn n = true ∧ ((s.g n).telem.w1s.idx + 1) * 312500000 ≤ s.now) ∧
  (∃ (s : State) (n : Nat), s.gal.length = 32 ∧ s.strOn n = true ∧ ((s.g n).telem.w100.idx + 1) * 31250000 ≤ s.now) ∧
  (∃ (s : State) (p : Path) (n : Nat) (i : Nat), n < 32 ∧ s.gal.length = 32 ∧ i < 11 ∧ (s.g n).telem.peakNew.length = 11 ∧ s.takesRead p (peakPlace n i).1 (peakPlace n i).2) ∧
  (∃ (s : State) (p : Path) (n : Nat) (i : Nat), n < 32 ∧ s.gal.length = 32 ∧ s.strOn n = true ∧ i < 11 ∧ (s.g n).telem.peakNew.length = 11 ∧ s.takesRead p (peakPlace n i).1 (peakPlace n i).2) :=
  ⟨⟨T.gal { tread := { state := .tripped } } (T.up T.ready), .canA, 0, (by decide +kernel), (by decide +kernel), (T.takesWrite_iff _ _ _ _ _ _).1 (by decide +kernel), (by decide +kernel), (by decide +kernel), (by decide +kernel)⟩,
   ⟨T.up T.ready, .canA, 0, (T.takesWrite_iff _ _ _ _ _ _).1 (by decide +kernel), (by decide +kernel)⟩,
   ⟨T.ready, .canA, 31, 1, (by decide +kernel), (T.takesWrite_iff _ _ _ _ _ _).1 (by decide +kernel), (by decide +kernel)⟩,
   ⟨T.up T.ready, .canA, 0, 1, (by decide +kernel), (by decide +kernel), (T.takesWrite_iff _ _ _ _ _ _).1 (by decide +kernel), (by decide +kernel)⟩,
   ⟨({ T.up T.ready with now := 312500000 }), 0, (by decide +kernel), (by decide +kernel), (by decide +kernel)⟩,
   ⟨({ T.up T.ready with now := 31250000 }), 0, (by decide +kernel), (by decide +kernel), (by decide +kernel)⟩,
   ⟨T.up T.ready, .canA, 31, 10, (by decide +kernel), (by decide +kernel), (by decide +kernel), (by decide +kernel), (T.takesRead_iff _ _ _ _).1 (by decide +kernel)⟩,
   ⟨T.up T.ready, .canA, 0, 10, (by decide +kernel), (by decide +kernel), (by decide +kernel), (by decide +kernel), (by decide +kernel), (T.takesRead_iff _ _ _ _).1 (by decide +kernel)⟩⟩

/-- The hypotheses of `Obligations.ExcitationSetsAndArchive` can be met, clause by clause. -/
theorem test_witness_ExcitationSetsAndArchive :
  (∃ (s : State) (p : Path) (n : Nat), n < 32 ∧ s.gal.length = 32 ∧ s.takesWrite p (0x4014 + 0x40 * n) 9 [1] (.n 1) ∧ s.getN (Gal.SPECTRUM_STATUS.APPLY_STATE n) ≠ 1 ∧ (s.staged n).errors = 0) ∧
  (∃ (s : State) (p : Path) (n : Nat), n < 32 ∧ s.takesWrite p (0x4014 + 0x40 * n) 9 [1] (.n 1) ∧ s.getN (Gal.SPECTRUM_STATUS.APPLY_STATE n) ≠ 1 ∧ (s.staged n).errors ≠ 0) ∧
  (∃ (s : State) (p : Path) (n : Nat), s.takesWrite p (0x4014 + 0x40 * n) 9 [1] (.n 1) ∧ s.getN (Gal.SPECTRUM_STATUS.APPLY_STATE n) = 1) ∧
  (∃ (s : State) (n : Nat) (x : ExcSet), s.hasGal n = true ∧ s.gal.length = 32 ∧ (s.g n).spec.compSet = some x ∧ (s.specSt n = 0 ∨ s.specSt n = 1)) ∧
  (∃ (s : State) (n : Nat) (x : ExcSet), s.hasGal n = true ∧ s.gal.length = 32 ∧ (s.g n).spec.compSet = some x ∧ s.specSt n = 4) ∧
  (∃ (s : State) (n : Nat) (x : ExcSet), s.hasGal n = true ∧ s.gal.length = 32 ∧ (s.g n).spec.compSet = some x ∧ s.specSt n ≠ 0 ∧ s.specSt n ≠ 1 ∧ s.specSt n ≠ 4) ∧
  (∃ (s : State) (n : Nat) (w : PubWin), s.hasGal n = true ∧ s.gal.length = 32 ∧ (s.g n).spec.pub = some w) ∧
  (∃ (s : State) (p : Path) (n : Nat), n < 32 ∧ s.gal.length = 32 ∧ s.takesWrite p (0x4014 + 0x40 * n) 0x14 [1] (.n 1)) ∧
  (∃ (s : State) (p : Path) (n : Nat), n < 32 ∧ s.gal.length = 32 ∧ s.takesWrite p (0x4014 + 0x40 * n) 0x16 [1] (.n 1)) ∧
  (∃ (s : State) (n : Nat), s.hasGal n = true ∧ s.gal.length = 32 ∧ s.getN (Gal.EXCITATION_CFG.ARCHIVE_INTERVAL n) ≠ 0 ∧ secTicks (s.getN (Gal.EXCITATION_CFG.ARCHIVE_INTERVAL n)) ≤ s.aged (s.g n).spec.archAt) ∧
  (∃ (s : State) (n : Nat) (body : List Byte), s.hasGal n = true ∧ s.gal.length = 32 ∧ (s.g n).spec.archPend = some body ∧ s.recd.eraseArch = none ∧ s.powerDown = false ∧ s.nandFree = true ∧ (body.length + 8 + 2047) / 2048 ≤ s.archLeft) ∧
  (∃ (s : State) (n : Nat) (body : List Byte) (b : ArchBlock) (b' : ArchBlock) (ring : List ArchBlock), s.hasGal n = true ∧ s.gal.length = 32 ∧ (s.g n).spec.archPend = some body ∧ s.recd.eraseArch = none ∧ s.powerDown = false ∧ s.nandFree = true ∧ s.archLeft < (body.length + 8 + 2047) / 2048 ∧ s.nand.archFree.length < 2 ∧ s.nand.archRing = b :: b' :: ring ∧ s.erases b.id < 100000) ∧
  (∃ (s : State) (p : Path) (n : Nat) (w : Nat), n < 32 ∧ s.takesWrite p (0x4015 + 0x40 * n) 0x10 (leBytes 8 w) (.n w)) ∧
  (∃ (s : State) (p : Path) (n : Nat), s.takesRead p (0x4015 + 0x40 * n) 0x11 ∧ s.nand.archive = []) ∧
  (∃ (s : State) (p : Path) (n : Nat) (w : Nat) (r : ArchRec), s.takesRead p (0x4015 + 0x40 * n) 0x11 ∧ s.nand.archive = [r] ∧ r.string = n ∧ s.getN (pathKey p (Gal.SPECTRUM_STATUS.ARCHIVE_SEL n)) = w ∧ bits w 31 0 = r.seq ∧ bits w 47 32 + bits w 63 48 ≤ fieldN r.bytes 16 2 ∧ 128 + bits w 63 48 * (4 + 5 * fieldN r.bytes 6 1) ≤ 65536) ∧
  (∃ (s : State) (p : Path) (n : Nat) (w : Nat) (r : ArchRec), s.takesRead p (0x4015 + 0x40 * n) 0x11 ∧ s.nand.archive = [r] ∧ r.string = n ∧ s.getN (pathKey p (Gal.SPECTRUM_STATUS.ARCHIVE_SEL n)) = w ∧ bits w 31 0 = r.seq ∧ fieldN r.bytes 16 2 < bits w 47 32 + bits w 63 48) :=
  ⟨⟨T.up T.ready, .canA, 0, (by decide +kernel), (by decide +kernel), (T.takesWrite_iff _ _ _ _ _ _).1 (by decide +kernel), (by decide +kernel), (by decide +kernel)⟩,
   ⟨(T.up T.ready).setN (Gal.EXCITATION_CFG.CORE_TONE 0) 9, .canA, 0, (by decide +kernel), (T.takesWrite_iff _ _ _ _ _ _).1 (by decide +kernel), (by decide +kernel), (by decide +kernel)⟩,
   ⟨(T.up T.ready).setN (Gal.SPECTRUM_STATUS.APPLY_STATE 0) 1, .canA, 0, (T.takesWrite_iff _ _ _ _ _ _).1 (by decide +kernel), (by decide +kernel)⟩,
   ⟨T.gal { spec := { compSet := some T.set } } (T.up T.ready), 0, T.set, (by decide +kernel), (by decide +kernel), (by decide +kernel), (by decide +kernel)⟩,
   ⟨(T.gal { spec := { compSet := some T.set } } (T.up T.ready)).setN (Gal.SPECTRUM_STATUS.STATE 0) 4, 0, T.set, (by decide +kernel), (by decide +kernel), (by decide +kernel), (by decide +kernel)⟩,
   ⟨(T.gal { spec := { compSet := some T.set } } (T.up T.ready)).setN (Gal.SPECTRUM_STATUS.STATE 0) 3, 0, T.set, (by decide +kernel), (by decide +kernel), (by decide +kernel), (by decide +kernel), (by decide +kernel), (by decide +kernel)⟩,
   ⟨T.gal { spec := { pub := some { set := T.set, win := { w := 0, kind := 2, set := T.set }, lastTick := 0, first := true } } } (T.up T.ready), 0, { set := T.set, win := { w := 0, kind := 2, set := T.set }, lastTick := 0, first := true }, (by decide +kernel), (by decide +kernel), (by decide +kernel)⟩,
   ⟨T.up T.ready, .canA, 0, (by decide +kernel), (by decide +kernel), (T.takesWrite_iff _ _ _ _ _ _).1 (by decide +kernel)⟩,
   ⟨T.up T.ready, .canA, 0, (by decide +kernel), (by decide +kernel), (T.takesWrite_iff _ _ _ _ _ _).1 (by decide +kernel)⟩,
   ⟨({ (T.up T.ready).setN (Gal.EXCITATION_CFG.ARCHIVE_INTERVAL 0) 3600 with now := secTicks 3600 }), 0, (by decide +kernel), (by decide +kernel), (by decide +kernel), (by decide +kernel)⟩,
   ⟨(T.gal { spec := { archPend := some [1,2,3] } } (T.up T.ready)).updNand (fun x => { x with archRing := [⟨3648, 5⟩] }), 0, [1,2,3], (by decide +kernel), (by decide +kernel), (by decide +kernel), (by decide +kernel), (by decide +kernel), (by decide +kernel), (by decide +kernel)⟩,
   ⟨(T.gal { spec := { archPend := some [1,2,3] } } (T.up T.ready)).updNand (fun x => { x with archRing := [⟨3648, 128⟩, ⟨3649, 128⟩], archFree := [] }), 0, [1,2,3], ⟨3648, 128⟩, ⟨3649, 128⟩, [], (by decide +kernel), (by decide +kernel), (by decide +kernel), (by decide +kernel), (by decide +kernel), (by decide +kernel), (by decide +kernel), (by decide +kernel), (by decide +kernel), (by decide +kernel)⟩,
   ⟨T.up T.ready, .canA, 0, 0x1000000000000, (by decide +kernel), (T.takesWrite_iff _ _ _ _ _ _).1 (by decide +kernel)⟩,
   ⟨T.up T.ready, .canA, 0, (T.takesRead_iff _ _ _ _).1 (by decide +kernel), (by decide +kernel)⟩,
   ⟨(T.up T.ready).updNand (fun x => { x with archive := [⟨0, 0, 0, [], List.replicate 200 1⟩] }), .canA, 0, 0x1000000000000, ⟨0, 0, 0, [], List.replicate 200 1⟩, (T.takesRead_iff _ _ _ _).1 (by decide +kernel), (by decide +kernel), (by decide +kernel), (by decide +kernel), (by decide +kernel), (by decide +kernel), (by decide +kernel)⟩,
   ⟨(let u := (T.up T.ready).updNand (fun x => { x with archive := [⟨0, 0, 0, [], List.replicate 200 1⟩] }); u.setN (pathKey .canA (Gal.SPECTRUM_STATUS.ARCHIVE_SEL 0)) 0xFFFF000000000000), .canA, 0, 0xFFFF000000000000, ⟨0, 0, 0, [], List.replicate 200 1⟩, (T.takesRead_iff _ _ _ _).1 (by decide +kernel), (by decide +kernel), (by decide +kernel), (by decide +kernel), (by decide +kernel), (by decide +kernel)⟩⟩

/-- The hypotheses of `Obligations.EstimationCommandsComplete` can be met, clause by clause. -/
theorem test_witness_EstimationCommandsComplete :
  (∃ (s : State) (n : Nat) (x : ModelIn), s.gal.length = 32 ∧ s.strOn n = true ∧ (s.g n).mdl = some x ∧ (s.installSet n).modelled n = true ∧ 1 ≤ (s.g n).est.rate + s.rateOf n) ∧
  (∃ (s : State) (n : Nat) (x : ModelIn), s.gal.length = 32 ∧ s.strOn n = true ∧ (s.g n).mdl = some x ∧ s.modelled n = false ∧ (s.g n).est.setNext = none ∧ 1 ≤ (s.g n).est.rate + s.rateOf n) ∧
  (∃ (s : State) (n : Nat) (x : ModelIn), s.gal.length = 32 ∧ s.strOn n = true ∧ (s.g n).mdl = some x ∧ (s.g n).est.rate + s.rateOf n < 1) ∧
  (∃ (s : State) (n : Nat), s.gal.length = 32 ∧ s.strOn n = true ∧ s.modelled n = true ∧ s.rested n = true ∧ (∀ k, (s.g n).est.corrAt = some k → s.passed k (secTicks 60) = true)) ∧
  (∃ (s : State) (n : Nat), s.gal.length = 32 ∧ s.strOn n = true ∧ s.passed (s.g n).est.aggAt (msTicks 100) = true) ∧
  (∃ (s : State) (n : Nat), s.gal.length = 32 ∧ s.saveable n = true ∧ (s.g n).est.saving = none ∧ s.nandFree = true ∧ ((s.g n).est.saveDue.isSome = true ∨ s.passed (s.g n).est.savedAt (secTicks (s.getN (Gal.ESTIM_CFG.SAVE_INTERVAL n))) = true)) ∧
  (∃ (s : State) (n : Nat) (on : Bool), s.hasGal n = true ∧ s.gal.length = 32 ∧ (s.g n).est.saving = some on) ∧
  (∃ (s : State) (n : Nat) (k : Nat), s.gal.length = 32 ∧ s.saveable n = true ∧ (s.g n).est.saveDue = some k ∧ s.passed k (secTicks (s.getN (Gal.ESTIM_CFG.SAVE_INTERVAL n))) = true) ∧
  (∃ (s : State) (p : Path) (n : Nat) (d : List Byte), n < 32 ∧ s.gal.length = 32 ∧ s.takesWrite p (0x4018 + 0x40 * n) 2 d (.b d) ∧ modelSetOk d = true ∧ s.strOn n = true) ∧
  (∃ (s : State) (p : Path) (n : Nat) (d : List Byte), n < 32 ∧ s.gal.length = 32 ∧ s.takesWrite p (0x4018 + 0x40 * n) 2 d (.b d) ∧ modelSetOk d = true ∧ s.strOn n = false) ∧
  (∃ (s : State) (p : Path) (n : Nat) (d : List Byte), s.takesWrite p (0x4018 + 0x40 * n) 2 d (.b d) ∧ modelSetOk d = false) ∧
  (∃ (s : State) (p : Path) (n : Nat) (pos : Nat), n < 32 ∧ s.gal.length = 32 ∧ pos < (s.g n).cells.length ∧ s.takesWrite p (0x401A + 0x40 * n) 0x0C (leBytes 2 pos) (.n pos) ∧ s.energised n = false) ∧
  (∃ (s : State) (p : Path) (n : Nat) (pos : Nat), s.takesWrite p (0x401A + 0x40 * n) 0x0C (leBytes 2 pos) (.n pos) ∧ s.energised n = true) :=
  ⟨⟨T.gal { mdl := some { sf := 5, tick := 0, i := 1, vs := [none, none, none, none], bals := [] } } ((T.modelled.setR Obj.MODULE_THERMAL.RATE_DIE0 (some 1))), 0, { sf := 5, tick := 0, i := 1, vs := [none, none, none, none], bals := [] }, (by decide +kernel), (by decide +kernel), (by decide +kernel), (by decide +kernel), (by decide +kernel)⟩,
   ⟨T.gal { mdl := some { sf := 5, tick := 0, i := 1, vs := [none, none, none, none], bals := [] } } (((T.up T.ready).setR Obj.MODULE_THERMAL.RATE_DIE0 (some 1))), 0, { sf := 5, tick := 0, i := 1, vs := [none, none, none, none], bals := [] }, (by decide +kernel), (by decide +kernel), (by decide +kernel), (by decide +kernel), (by decide +kernel), (by decide +kernel)⟩,
   ⟨T.gal { mdl := some { sf := 5, tick := 0, i := 1, vs := [none, none, none, none], bals := [] } } (((T.up T.ready).setR Obj.MODULE_THERMAL.RATE_DIE0 (some 0))), 0, { sf := 5, tick := 0, i := 1, vs := [none, none, none, none], bals := [] }, (by decide +kernel), (by decide +kernel), (by decide +kernel), (by decide +kernel)⟩,
   ⟨({ T.modelled with now := secTicks 100000 }), 0, (by decide +kernel), (by decide +kernel), (by decide +kernel), (by decide +kernel), (by decide +kernel)⟩,
   ⟨T.at (msTicks 100) (T.up T.ready), 0, (by decide +kernel), (by decide +kernel), (by decide +kernel)⟩,
   ⟨T.gal { est := { saveDue := some 0 } } T.modelled, 0, (by decide +kernel), (by decide +kernel), (by decide +kernel), (by decide +kernel), (by decide +kernel)⟩,
   ⟨T.gal { est := { saving := some false } } T.modelled, 0, false, (by decide +kernel), (by decide +kernel), (by decide +kernel)⟩,
   ⟨T.at (secTicks 1000000) (T.gal { est := { saveDue := some 0 } } T.modelled), 0, 0, (by decide +kernel), (by decide +kernel), (by decide +kernel), (by decide +kernel)⟩,
   ⟨T.string T.ready, .canA, 0, T.modelSet, (by decide +kernel), (by decide +kernel), (T.takesWrite_iff _ _ _ _ _ _).1 (by decide +kernel), T.modelSet_ok, (by decide +kernel)⟩,
   ⟨T.ready, .canA, 0, T.modelSet, (by decide +kernel), (by decide +kernel), (T.takesWrite_iff _ _ _ _ _ _).1 (by decide +kernel), T.modelSet_ok, (by decide +kernel)⟩,
   ⟨T.string T.ready, .canA, 0, [1], (T.takesWrite_iff _ _ _ _ _ _).1 (by decide +kernel), (by decide +kernel)⟩,
   ⟨T.gal { cells := [{}, {}, {}, {}] } (T.up T.ready), .canA, 0, 3, (by decide +kernel), (by decide +kernel), (by decide +kernel), (T.takesWrite_iff _ _ _ _ _ _).1 (by decide +kernel), (by decide +kernel)⟩,
   ⟨T.grouped .energised (T.up T.ready), .canA, 0, 3, (T.takesWrite_iff _ _ _ _ _ _).1 (by decide +kernel), (by decide +kernel)⟩⟩

/-- The hypotheses of `Obligations.ThermalCommandsComplete` can be met, clause by clause. -/
theorem test_witness_ThermalCommandsComplete :
  (∃ (s : State), s.dies.length = 4) ∧
  (∃ (s : State) (temps : List (Option Q)) (d : Nat), d < 4 ∧ s.dies.length = 4 ∧ 0 < s.getQ Obj.MODULE_THERMAL.DIE_HYST ∧ s.getQ Obj.MODULE_THERMAL.DIE_SHUT ≤ dieTemp temps d) ∧
  (∃ (s : State) (temps : List (Option Q)), s.dies.length = 4 ∧ 0 < s.getQ Obj.MODULE_THERMAL.DIE_HYST ∧ (∀ d < 4, dieTemp temps d ≤ s.getQ Obj.MODULE_THERMAL.DIE_SHUT - s.getQ Obj.MODULE_THERMAL.DIE_HYST)) ∧
  (∃ (s : State) (n : Nat) (at_ : Nat), s.hasGal n = true ∧ s.gal.length = 32 ∧ (s.g n).therm.alarmSince = some at_ ∧ s.flag (Gal.THERMAL_STATUS.STATE n) 4 = true ∧ s.passed at_ (secTicks (s.getN (Gal.THERMAL_CFG.RISE_STOP_TIME n))) = true) ∧
  (∃ (s : State) (n : Nat), s.gal.length = 32 ∧ s.strOn n = true ∧ s.flag (Gal.THERMAL_STATUS.STATE n) 4 = true ∧ 1 ≤ (s.g n).therm.row) ∧
  (∃ (s : State) (n : Nat) (at_ : Nat), s.gal.length = 32 ∧ s.strOn n = true ∧ s.flag (Gal.THERMAL_STATUS.STATE n) 4 = false ∧ s.flag (Gal.THERMAL_STATUS.STATE n) 3 = true ∧ (s.g n).therm.row = 1 ∧ (s.g n).therm.absent1 = some at_ ∧ s.passed at_ (secTicks 10) = true) ∧
  (∃ (s : State) (n : Nat) (at_ : Nat), s.gal.length = 32 ∧ s.strOn n = true ∧ s.flag (Gal.THERMAL_STATUS.STATE n) 4 = false ∧ s.flag (Gal.THERMAL_STATUS.STATE n) 3 = false ∧ (∀ p < s.posCount n, s.effTemp n p = none) ∧ (s.g n).therm.row = 2 ∧ (s.g n).therm.absent2 = some at_ ∧ s.passed at_ (secTicks 10) = true) :=
  ⟨⟨T.ready, (by decide +kernel)⟩,
   ⟨T.ready, [none, none, none, some 150], 1, (by decide +kernel), (by decide +kernel), (by decide +kernel), (by decide +kernel)⟩,
   ⟨T.ready, List.replicate 8 (some 20), (by decide +kernel), (by decide +kernel), (by decide +kernel)⟩,
   ⟨(T.at (secTicks 100000) (T.gal { therm := { alarmSince := some 0 } } (T.up T.ready))).setN (Gal.THERMAL_STATUS.STATE 0) 16, 0, 0, (by decide +kernel), (by decide +kernel), (by decide +kernel), (by decide +kernel), (by decide +kernel)⟩,
   ⟨(T.gal { therm := { row := 1 } } (T.up T.ready)).setN (Gal.THERMAL_STATUS.STATE 0) 16, 0, (by decide +kernel), (by decide +kernel), (by decide +kernel), (by decide +kernel)⟩,
   ⟨(T.at (secTicks 10) (T.gal { therm := { row := 1, absent1 := some 0 } } (T.up T.ready))).setN (Gal.THERMAL_STATUS.STATE 0) 8, 0, 0, (by decide +kernel), (by decide +kernel), (by decide +kernel), (by decide +kernel), (by decide +kernel), (by decide +kernel), (by decide +kernel)⟩,
   ⟨T.at (secTicks 10) (T.gal { therm := { row := 2, absent2 := some 0 } } (T.up T.ready)), 0, 0, (by decide +kernel), (by decide +kernel), (by decide +kernel), (by decide +kernel), (by decide +kernel), (by decide +kernel), (by decide +kernel), (by decide +kernel)⟩⟩

/-- The hypotheses of `Obligations.EnergiseRequestsFollowTheTable` can be met, clause by clause. -/
theorem test_witness_EnergiseRequestsFollowTheTable :
  (∃ (s : State) (p : Path) (n : Nat) (g : Nat), n < 32 ∧ s.gal.length = 32 ∧ s.safe.groups.length = 8 ∧ s.strOn n = true ∧ s.groupOf n = g ∧ g < 8 ∧ s.takesWrite p (0x4024 + 0x40 * n) 3 [1] (.n 1) ∧ s.role ≠ 3 ∧ (s.grp g).state = .off ∧ s.refuseBits g = 0) ∧
  (∃ (s : State) (p : Path) (n : Nat) (g : Nat), n < 32 ∧ s.gal.length = 32 ∧ s.safe.groups.length = 8 ∧ s.strOn n = true ∧ s.groupOf n = g ∧ g < 8 ∧ s.takesWrite p (0x4024 + 0x40 * n) 3 [1] (.n 1) ∧ s.role ≠ 3 ∧ (s.grp g).state = .off ∧ s.refuseBits g ≠ 0) ∧
  (∃ (s : State) (p : Path) (n : Nat) (g : Nat), n < 32 ∧ s.gal.length = 32 ∧ s.safe.groups.length = 8 ∧ s.strOn n = true ∧ s.groupOf n = g ∧ g < 8 ∧ s.takesWrite p (0x4024 + 0x40 * n) 3 [1] (.n 1) ∧ s.role ≠ 3 ∧ ((s.grp g).state = .waitOff ∨ (s.grp g).state = .rampDown ∨ (s.grp g).state = .opening)) ∧
  (∃ (s : State) (p : Path) (n : Nat) (g : Nat), n < 32 ∧ s.gal.length = 32 ∧ s.safe.groups.length = 8 ∧ s.strOn n = true ∧ s.groupOf n = g ∧ g < 8 ∧ s.takesWrite p (0x4024 + 0x40 * n) 3 [0] (.n 0) ∧ (s.grp g).state = .busCheck) ∧
  (∃ (s : State) (p : Path) (n : Nat) (g : Nat), n < 32 ∧ s.gal.length = 32 ∧ s.safe.groups.length = 8 ∧ s.strOn n = true ∧ s.groupOf n = g ∧ g < 8 ∧ s.takesWrite p (0x4024 + 0x40 * n) 3 [0] (.n 0) ∧ (s.grp g).state = .precharge) ∧
  (∃ (s : State) (p : Path) (n : Nat) (g : Nat), n < 32 ∧ s.gal.length = 32 ∧ s.safe.groups.length = 8 ∧ s.strOn n = true ∧ s.groupOf n = g ∧ g < 8 ∧ s.takesWrite p (0x4024 + 0x40 * n) 3 [0] (.n 0) ∧ ((s.grp g).state = .closing ∨ (s.grp g).state = .releasing)) ∧
  (∃ (s : State) (p : Path) (n : Nat) (g : Nat), n < 32 ∧ s.gal.length = 32 ∧ s.safe.groups.length = 8 ∧ s.strOn n = true ∧ s.groupOf n = g ∧ g < 8 ∧ s.takesWrite p (0x4024 + 0x40 * n) 3 [0] (.n 0) ∧ (s.grp g).state = .energised ∧ (s.groupStrings g).any (fun m => (s.g m).tread.state.busy) = true) ∧
  (∃ (s : State) (p : Path) (n : Nat) (g : Nat), n < 32 ∧ s.gal.length = 32 ∧ s.safe.groups.length = 8 ∧ s.strOn n = true ∧ s.groupOf n = g ∧ g < 8 ∧ s.takesWrite p (0x4024 + 0x40 * n) 3 [0] (.n 0) ∧ (s.grp g).state = .energised ∧ (s.groupStrings g).any (fun m => (s.g m).tread.state.busy) = false) ∧
  (∃ (s : State) (p : Path) (n : Nat) (g : Nat), n < 32 ∧ s.gal.length = 32 ∧ s.safe.groups.length = 8 ∧ s.strOn n = true ∧ s.groupOf n = g ∧ g < 8 ∧ s.takesWrite p (0x4024 + 0x40 * n) 3 [0] (.n 0) ∧ ((s.grp g).state = .waitOff ∨ (s.grp g).state = .rampDown ∨ (s.grp g).state = .opening)) ∧
  (∃ (s : State) (p : Path) (n : Nat), s.takesWrite p (0x4024 + 0x40 * n) 3 [1] (.n 1) ∧ s.role = 3) ∧
  (∃ (s : State) (p : Path) (n : Nat), n < 32 ∧ s.takesWrite p (0x4024 + 0x40 * n) 3 [1] (.n 1) ∧ s.role ≠ 3 ∧ 8 ≤ s.groupOf n) :=
  ⟨⟨(let u := T.group { state := .off } ((T.up (T.mode .run)).setN (Gal.PROT_STATUS.THRESH_OK 0) 1); ({ u with safetySet := { u.safetySet with inForce := u.safetySet.inForce ++ [(Gal.PROT_LIMITS.SHUNT_OC 0, .r (some 1)), (Gal.PROT_LIMITS.HALL_OC 0, .r (some 1)), (Gal.PROT_LIMITS.BUS_OV 0, .r (some 1)), (Gal.PROT_LIMITS.STRING_OV 0, .r (some 1)), (Gal.PROT_LIMITS.PHASE_OC 0, .r (some 1))] } })), .canA, 0, 0, (by decide +kernel), (by decide +kernel), (by decide +kernel), (by decide +kernel), (by decide +kernel), (by decide +kernel), (T.takesWrite_iff _ _ _ _ _ _).1 (by decide +kernel), (by decide +kernel), (by decide +kernel), (by decide +kernel)⟩,
   ⟨T.group { state := .off } (T.up T.ready), .canA, 0, 0, (by decide +kernel), (by decide +kernel), (by decide +kernel), (by decide +kernel), (by decide +kernel), (by decide +kernel), (T.takesWrite_iff _ _ _ _ _ _).1 (by decide +kernel), (by decide +kernel), (by decide +kernel), (by decide +kernel)⟩,
   ⟨T.group { state := .opening } (T.up T.ready), .canA, 0, 0, (by decide +kernel), (by decide +kernel), (by decide +kernel), (by decide +kernel), (by decide +kernel), (by decide +kernel), (T.takesWrite_iff _ _ _ _ _ _).1 (by decide +kernel), (by decide +kernel), (by decide +kernel)⟩,
   ⟨T.group { state := .busCheck } (T.up T.ready), .canA, 0, 0, (by decide +kernel), (by decide +kernel), (by decide +kernel), (by decide +kernel), (by decide +kernel), (by decide +kernel), (T.takesWrite_iff _ _ _ _ _ _).1 (by decide +kernel), (by decide +kernel)⟩,
   ⟨T.group { state := .precharge } (T.up T.ready), .canA, 0, 0, (by decide +kernel), (by decide +kernel), (by decide +kernel), (by decide +kernel), (by decide +kernel), (by decide +kernel), (T.takesWrite_iff _ _ _ _ _ _).1 (by decide +kernel), (by decide +kernel)⟩,
   ⟨T.group { state := .closing } (T.up T.ready), .canA, 0, 0, (by decide +kernel), (by decide +kernel), (by decide +kernel), (by decide +kernel), (by decide +kernel), (by decide +kernel), (T.takesWrite_iff _ _ _ _ _ _).1 (by decide +kernel), (by decide +kernel)⟩,
   ⟨({ T.group { state := .energised } (T.up T.ready) with gal := [({ tread := { state := .running } } : Gallery)] ++ List.replicate 31 {} }), .canA, 0, 0, (by decide +kernel), (by decide +kernel), (by decide +kernel), (by decide +kernel), (by decide +kernel), (by decide +kernel), (T.takesWrite_iff _ _ _ _ _ _).1 (by decide +kernel), (by decide +kernel), (by decide +kernel)⟩,
   ⟨T.group { state := .energised } (T.up T.ready), .canA, 0, 0, (by decide +kernel), (by decide +kernel), (by decide +kernel), (by decide +kernel), (by decide +kernel), (by decide +kernel), (T.takesWrite_iff _ _ _ _ _ _).1 (by decide +kernel), (by decide +kernel), (by decide +kernel)⟩,
   ⟨T.group { state := .opening } (T.up T.ready), .canA, 0, 0, (by decide +kernel), (by decide +kernel), (by decide +kernel), (by decide +kernel), (by decide +kernel), (by decide +kernel), (T.takesWrite_iff _ _ _ _ _ _).1 (by decide +kernel), (by decide +kernel)⟩,
   ⟨(T.group {  } (T.up T.ready)).setN Obj.REDUNDANCY_STATUS.ROLE 3, .canA, 0, (T.takesWrite_iff _ _ _ _ _ _).1 (by decide +kernel), (by decide +kernel)⟩,
   ⟨T.up (T.mode .run), .canA, 0, (by decide +kernel), (T.takesWrite_iff _ _ _ _ _ _).1 (by decide +kernel), (by decide +kernel), (by decide +kernel)⟩⟩

/-- The hypotheses of `Obligations.GroupTimersComplete` can be met, clause by clause. -/
theorem test_witness_GroupTimersComplete :
  (∃ (s : State) (g : Nat) (n : Nat), g < 8 ∧ s.safe.groups.length = 8 ∧ n ∈ s.groupStrings g ∧ (s.grp g).state = .busCheck ∧ s.passed (s.grp g).since (secTicks 1) = true) ∧
  (∃ (s : State) (g : Nat) (n : Nat), g < 8 ∧ s.safe.groups.length = 8 ∧ n ∈ s.groupStrings g ∧ (s.grp g).state = .precharge ∧ s.passed (s.grp g).since (msTicks (s.secN Obj.SAFETY_CFG.PRE_TIME)) = true) ∧
  (∃ (s : State) (g : Nat) (at_ : Nat) (n : Nat), g < 8 ∧ s.safe.groups.length = 8 ∧ n ∈ s.groupStrings g ∧ (s.grp g).state = .closing ∧ (s.grp g).mainAt = some at_ ∧ s.passed at_ (msTicks (s.secN Obj.SAFETY_OUTPUTS.FB_TIME)) = true ∧ s.fbClosed g = false) ∧
  (∃ (s : State) (g : Nat) (at_ : Nat) (n : Nat), g < 8 ∧ s.safe.groups.length = 8 ∧ n ∈ s.groupStrings g ∧ (s.grp g).state = .opening ∧ (s.grp g).loadsOff = some at_ ∧ s.passed at_ (msTicks (s.secN Obj.SAFETY_OUTPUTS.FB_TIME)) = true ∧ s.fbOpen g = false) ∧
  (∃ (s : State) (g : Nat), g < 8 ∧ s.safe.groups.length = 8 ∧ (s.grp g).state = .waitOff ∧ (s.grp g).pend = false ∧ s.passed (s.grp g).minOff (msTicks (s.secN Obj.SAFETY_OUTPUTS.MIN_OFF)) = true) ∧
  (∃ (s : State) (g : Nat), g < 8 ∧ s.safe.groups.length = 8 ∧ (s.grp g).state = .waitOff ∧ (s.grp g).pend = true ∧ s.refuseBits g = 0 ∧ s.passed (s.grp g).minOff (msTicks (s.secN Obj.SAFETY_OUTPUTS.MIN_OFF)) = true) ∧
  (∃ (s : State) (so : Nat) (l : Nat) (at_ : Nat) (current : Bool), s.safe.loads.length = 16 ∧ l < 16 ∧ s.safe.soFirst.getD so none = some (l, at_) ∧ (current = true ∨ s.passed at_ (msTicks (s.pairOf so).2) = true)) ∧
  (∃ (s : State) (g : Nat) (l : Nat) (at_ : Nat), (s.grp g).state = .closing ∧ (s.grp g).mainAt = some at_ ∧ s.preLoad g = some l ∧ s.passed at_ (msTicks (s.secN Obj.SAFETY_OUTPUTS.MAIN_CLOSE_TIME)) = true) ∧
  (∃ (s : State) (g : Nat) (at_ : Nat), g < 8 ∧ s.safe.groups.length = 8 ∧ (s.grp g).state = .opening ∧ (s.grp g).loadsOff = none ∧ (s.grp g).firstK = some at_ ∧ s.passed at_ (usTicks (s.secN Obj.SAFETY_OUTPUTS.SEO_DELAY)) = true) ∧
  (∃ (s : State) (g : Nat) (at_ : Nat), g < 8 ∧ s.safe.groups.length = 8 ∧ (s.grp g).state = .opening ∧ (s.grp g).loadsOff = none ∧ (s.grp g).trunkSeo = some at_ ∧ at_ ≤ s.root) ∧
  (∃ (s : State) (g : Nat) (at_ : Nat) (n : Nat), g < 8 ∧ s.safe.groups.length = 8 ∧ n ∈ s.groupStrings g ∧ (s.grp g).state = .rampDown ∧ (s.grp g).srsAt = some at_ ∧ s.passed at_ (msTicks (s.secN Obj.SAFETY_CFG.SRS_MAX_TIME)) = true) ∧
  (∃ (s : State) (p : Path) (n : Nat), n < 32 ∧ s.gal.length = 32 ∧ s.takesWrite p (0x4024 + 0x40 * n) 8 [1] (.n 1) ∧ s.atRest n = true) ∧
  (∃ (s : State) (p : Path) (n : Nat), s.takesWrite p (0x4024 + 0x40 * n) 8 [1] (.n 1) ∧ s.atRest n = false) ∧
  (∃ (s : State) (n : Nat), s.hasGal n = true ∧ s.gal.length = 32 ∧ s.gstate n = .energised ∧ s.getN Obj.SAFETY_CFG.LOST_TIME ≤ (s.g n).prot.lostCnt ∧ s.getN (Gal.PROT_STATUS.LOST n) = 0) ∧
  (∃ (s : State) (n : Nat), s.hasGal n = true ∧ s.gal.length = 32 ∧ s.trunk n = 4 ∧ (s.g n).prot.threshMis = true ∧ s.passed (s.g n).prot.threshAt (secTicks 1) = true) :=
  ⟨⟨T.at (secTicks 1) (T.group { state := .busCheck } (T.up T.ready)), 0, 0, (by decide +kernel), (by decide +kernel), (by decide +kernel), (by decide +kernel), (by decide +kernel)⟩,
   ⟨T.at (secTicks 60) (T.group { state := .precharge } (T.up T.ready)), 0, 0, (by decide +kernel), (by decide +kernel), (by decide +kernel), (by decide +kernel), (by decide +kernel)⟩,
   ⟨T.at (secTicks 60) (T.group { state := .closing, mainAt := some 0 } (T.up T.ready)), 0, 0, 0, (by decide +kernel), (by decide +kernel), (by decide +kernel), (by decide +kernel), (by decide +kernel), (by decide +kernel), (by decide +kernel)⟩,
   ⟨T.at (secTicks 60) ((T.group { state := .opening, loadsOff := some 0 } (T.up T.ready)).updSafe (fun x => { x with newel := { inputs := 3 }, baluster := { inputs := 3 } })), 0, 0, 0, (by decide +kernel), (by decide +kernel), (by decide +kernel), (by decide +kernel), (by decide +kernel), (by decide +kernel), (by decide +kernel)⟩,
   ⟨T.at (secTicks 60) (T.group {  } (T.up T.ready)), 0, (by decide +kernel), (by decide +kernel), (by decide +kernel), (by decide +kernel), (by decide +kernel)⟩,
   ⟨T.at (secTicks 60) (let u := T.group { pend := true } ((T.up (T.mode .run)).setN (Gal.PROT_STATUS.THRESH_OK 0) 1); ({ u with safetySet := { u.safetySet with inForce := u.safetySet.inForce ++ [(Gal.PROT_LIMITS.SHUNT_OC 0, .r (some 1)), (Gal.PROT_LIMITS.HALL_OC 0, .r (some 1)), (Gal.PROT_LIMITS.BUS_OV 0, .r (some 1)), (Gal.PROT_LIMITS.STRING_OV 0, .r (some 1)), (Gal.PROT_LIMITS.PHASE_OC 0, .r (some 1))] } })), 0, (by decide +kernel), (by decide +kernel), (by decide +kernel), (by decide +kernel), (by decide +kernel), (by decide +kernel)⟩,
   ⟨T.at (secTicks 60) (T.ready.updSafe (fun x => { x with soFirst := some (15, 0) :: List.replicate 7 none })), 0, 15, 0, true, (by decide +kernel), (by decide +kernel), (by decide +kernel), (by decide +kernel)⟩,
   ⟨T.at (secTicks 60) (T.group { state := .closing, mainAt := some 0 } (T.up T.ready)), 0, 1, 0, (by decide +kernel), (by decide +kernel), (by decide +kernel), (by decide +kernel)⟩,
   ⟨T.at (secTicks 60) (T.group { state := .opening, firstK := some 0 } (T.up T.ready)), 0, 0, (by decide +kernel), (by decide +kernel), (by decide +kernel), (by decide +kernel), (by decide +kernel), (by decide +kernel)⟩,
   ⟨T.group { state := .opening, trunkSeo := some 0 } (T.up T.ready), 0, 0, (by decide +kernel), (by decide +kernel), (by decide +kernel), (by decide +kernel), (by decide +kernel), (by decide +kernel)⟩,
   ⟨T.at (secTicks 600) (T.group { state := .rampDown, srsAt := some 0 } (T.up T.ready)), 0, 0, 0, (by decide +kernel), (by decide +kernel), (by decide +kernel), (by decide +kernel), (by decide +kernel), (by decide +kernel)⟩,
   ⟨T.group { state := .off } (T.up T.ready), .canA, 0, (by decide +kernel), (by decide +kernel), (T.takesWrite_iff _ _ _ _ _ _).1 (by decide +kernel), (by decide +kernel)⟩,
   ⟨T.group { state := .energised } (T.up T.ready), .canA, 0, (T.takesWrite_iff _ _ _ _ _ _).1 (by decide +kernel), (by decide +kernel)⟩,
   ⟨T.gal { prot := { lostCnt := 100000 } } (T.group { state := .energised } (T.up T.ready)), 0, (by decide +kernel), (by decide +kernel), (by decide +kernel), (by decide +kernel), (by decide +kernel)⟩,
   ⟨T.at (secTicks 1) (T.gal { prot := { threshMis := true } } (T.up T.ready)), 0, (by decide +kernel), (by decide +kernel), (by decide +kernel), (by decide +kernel), (by decide +kernel)⟩⟩

/-- The hypotheses of `Obligations.SafetyChannelsComplete` can be met, clause by clause. -/
theorem test_witness_SafetyChannelsComplete :
  (∃ (s : State) (i : Nat), i < 16 ∧ s.safe.inputs.length = 16) ∧
  (∃ (s : State) (i : Nat), i < 16 ∧ s.safe.inputs.length = 16) ∧
  (∃ (s : State) (i : Nat) (at_ : Nat), i < 16 ∧ s.safe.inputs.length = 16 ∧ (s.si i).discSince = some at_ ∧ (s.si i).discStand = false ∧ msTicks (bits (s.siCfg i) 19 9) < s.since at_) ∧
  (∃ (s : State) (source : Nat) (i : Nat), (source = 1 ∨ source = 2) ∧ i < 16 ∧ s.safe.inputs.length = 16 ∧ s.channelsRun = true ∧ s.tpDue source = true ∧ s.siTp i = true ∧ (if source = 1 then (s.si i).lv1 else (s.si i).lv2) = true) ∧
  (∃ (s : State) (load : Nat) (onSl : Bool) (c : SafetyChan), load < 16 ∧ s.channelsRun = true ∧ (s.safeChan c).healthy = true ∧ s.role ≠ 3 ∧ s.periodic (SMap.find? s.safe.testAt (2 * (if onSl then 8 + load else load / 2) + (if c = .newel then 0 else 1))) (msTicks (s.secN Obj.SAFETY_OUTPUTS.OFF_PULSE_PERIOD)) = true) ∧
  (∃ (so : Nat) (us : Nat) (a : Q), so < 8 ∧ ((13 / 5 < a ∧ 10000 ≤ us) ∨ (6 < a ∧ 50 ≤ us))) ∧
  (∃ (s : State) (at_ : Nat), s.safe.diffSince = some at_ ∧ s.passed at_ (msTicks 10) = true) ∧
  (∃ (s : State), s.safe.groups.length = 8) ∧
  (∃ (s : State), s.channelsRun = true ∧ s.periodic s.safe.checkAt (secTicks 10) = true) ∧
  (∃ (s : State), s.channelsRun = true ∧ s.periodic s.safe.checkAt (secTicks 10) = true) ∧
  (∃ (s : State), s.channelsRun = true ∧ s.periodic s.safe.cycleAt (usTicks 250) = true) ∧
  (∃ (s : State), s.periodic s.safe.imdAt (msTicks 100) = true ∧ 16 ≤ s.getN Obj.SAFETY_CFG.IMD_CHANNEL) ∧
  (∃ (s : State), s.periodic s.safe.imdAt (msTicks 100) = true ∧ s.getN Obj.SAFETY_CFG.IMD_CHANNEL < 16 ∧ s.chNumber (s.getN Obj.SAFETY_CFG.IMD_CHANNEL) = none) ∧
  (∃ (s : State) (x : Q), s.periodic s.safe.imdAt (msTicks 100) = true ∧ s.getN Obj.SAFETY_CFG.IMD_CHANNEL < 16 ∧ s.chNumber (s.getN Obj.SAFETY_CFG.IMD_CHANNEL) = some x) :=
  ⟨⟨T.ready, 15, (by decide +kernel), (by decide +kernel)⟩,
   ⟨T.ready, 15, (by decide +kernel), (by decide +kernel)⟩,
   ⟨T.at (secTicks 60) (T.ready.updSafe (fun x => { x with inputs := List.replicate 16 { discSince := some 0 } })), 15, 0, (by decide +kernel), (by decide +kernel), (by decide +kernel), (by decide +kernel), (by decide +kernel)⟩,
   ⟨({ T.able with safetySet := { inForce := [(Obj.SAFETY_INPUTS.SI_CFG 0, .n (2 + 500 * 512 + 3 * 2 ^ 20)), (Obj.SAFETY_CFG.TP_PERIOD, .n 100)] }, safe := { T.able.safe with inputs := { lv1 := true, lv2 := true } :: List.replicate 15 {} } }), 1, 0, (by decide +kernel), (by decide +kernel), (by decide +kernel), (by decide +kernel), (by decide +kernel), (by decide +kernel), (by decide +kernel)⟩,
   ⟨T.able, 15, true, .newel, (by decide +kernel), (by decide +kernel), (by decide +kernel), (by decide +kernel), (by decide +kernel)⟩,
   ⟨7, 50, 7, (by decide +kernel), (by decide +kernel)⟩,
   ⟨T.at (msTicks 10) (T.ready.updSafe (fun x => { x with diffSince := some 0 })), 0, (by decide +kernel), (by decide +kernel)⟩,
   ⟨T.able, (by decide +kernel)⟩,
   ⟨T.ready, (by decide +kernel), (by decide +kernel)⟩,
   ⟨T.ready, (by decide +kernel), (by decide +kernel)⟩,
   ⟨T.able.updSafe (fun x => { x with chanFail := true }), (by decide +kernel), (by decide +kernel)⟩,
   ⟨T.ready.setN Obj.SAFETY_CFG.IMD_CHANNEL 16, (by decide +kernel), (by decide +kernel)⟩,
   ⟨(T.ready.setN Obj.SAFETY_CFG.IMD_CHANNEL 3).setN (Chn.CH_STATUS.STATE 3) 1, (by decide +kernel), (by decide +kernel), (by decide +kernel)⟩,
   ⟨((T.ready.setN Obj.SAFETY_CFG.IMD_CHANNEL 3).setN (Chn.CH_STATUS.STATE 3) 0).setR (Chn.CH_STATUS.VALUE 3) (some 5), 5, (by decide +kernel), (by decide +kernel), (by decide +kernel)⟩⟩

/-- The hypotheses of `Obligations.OnlyAResetPulseEndsALockout` can be met, clause by clause. -/
theorem test_witness_OnlyAResetPulseEndsALockout :
  (∃ (c : Instr) (s : State) (t : State), c ≠ .lockoutResetPulse ∧ exec c s = .next t ∧ s.nand.latch = true) ∧
  (∃ (s : State) (i : Nat) (ch : Nat), i < 16 ∧ (ch = 1 ∨ ch = 2) ∧ s.siFn i = 4 ∧ s.safe.newel.actAt = none ∧ s.safe.baluster.actAt = none) ∧
  (∃ (s : State) (a : Nat) (e : Nat) (b : Nat) (f : Nat), s.safe.newel.actAt = some a ∧ s.safe.newel.endAt = some e ∧ s.safe.baluster.actAt = some b ∧ s.safe.baluster.endAt = some f ∧ msTicks 300 ≤ e - a ∧ e - a ≤ msTicks 3000 ∧ msTicks 300 ≤ f - b ∧ f - b ≤ msTicks 3000 ∧ s.mode = .lockout ∧ s.causesNow = 0 ∧ s.safe.resetDisc = false) ∧
  (∃ (s : State) (a : Nat) (e : Nat) (b : Nat) (f : Nat), s.safe.newel.actAt = some a ∧ s.safe.newel.endAt = some e ∧ s.safe.baluster.actAt = some b ∧ s.safe.baluster.endAt = some f ∧ ¬(msTicks 300 ≤ e - a ∧ e - a ≤ msTicks 3000 ∧ msTicks 300 ≤ f - b ∧ f - b ≤ msTicks 3000 ∧ s.mode = .lockout ∧ s.causesNow = 0 ∧ s.safe.resetDisc = false)) ∧
  (∃ (s : State) (x : SafetyChan) (y : SafetyChan) (a : Nat) (e : Nat), x ≠ y ∧ (s.safeChan x).actAt = none ∧ (s.safeChan y).actAt = some a ∧ (s.safeChan y).endAt = some e) :=
  ⟨⟨.powerDownComplete, ({ T.mode .lockout with nand := { latch := true } }), T.next (exec .powerDownComplete ({ T.mode .lockout with nand := { latch := true } })), (by decide +kernel), T.next_eq _ (by decide +kernel), (by decide +kernel)⟩,
   ⟨({ T.ready with safetySet := { inForce := [(Obj.SAFETY_INPUTS.SI_CFG 15, .n 4)] } }), 15, 2, (by decide +kernel), (by decide +kernel), (by decide +kernel), (by decide +kernel), (by decide +kernel)⟩,
   ⟨(T.mode .lockout).updSafe (fun x => { x with newel := { x.newel with actAt := some 0, endAt := some (msTicks 500) }, baluster := { x.baluster with actAt := some 1, endAt := some (msTicks 500) } }), 0, msTicks 500, 1, msTicks 500, (by decide +kernel), (by decide +kernel), (by decide +kernel), (by decide +kernel), (by decide +kernel)⟩,
   ⟨(T.mode .lockout).updSafe (fun x => { x with newel := { x.newel with actAt := some 0, endAt := some (msTicks 299) }, baluster := { x.baluster with actAt := some 1, endAt := some (msTicks 500) } }), 0, msTicks 299, 1, msTicks 500, (by decide +kernel), (by decide +kernel), (by decide +kernel), (by decide +kernel), (by decide +kernel)⟩,
   ⟨(T.mode .lockout).updSafe (fun x => { x with baluster := { x.baluster with actAt := some 1, endAt := some 9 } }), .newel, .baluster, 1, 9, (by decide +kernel), (by decide +kernel), (by decide +kernel), (by decide +kernel)⟩⟩

/-- The hypotheses of `Obligations.ResetRequestPerformsNothing` can be met, clause by clause. -/
theorem test_witness_ResetRequestPerformsNothing :
  (∃ (s : State) (p : Path), s.takesWrite p 0x2904 1 [1] (.n 1)) ∧
  (∃ (s : State) (at_ : Nat), s.safe.reqAt = some at_ ∧ s.passed at_ (secTicks 600) = true) :=
  ⟨⟨T.mode .lockout, .canA, (T.takesWrite_iff _ _ _ _ _ _).1 (by decide +kernel)⟩,
   ⟨T.at (secTicks 600) (T.ready.updSafe (fun x => { x with reqAt := some 0 })), 0, (by decide +kernel), (by decide +kernel)⟩⟩

/-- The hypotheses of `Obligations.DispatchRegistersAndTimers` can be met, clause by clause. -/
theorem test_witness_DispatchRegistersAndTimers :
  (∃ (s : State) (p : Path) (d : List Byte) (v : Val), s.takesWrite p 0x3401 1 d v) ∧
  (∃ (s : State) (m : Nat) (d : List Byte) (v : Val), s.takesWrite (.arcade m) 0x3401 2 d v ∧ s.getN Obj.DISPATCH_STATUS.ROLE = 2 ∧ m = s.arc.leader) ∧
  (∃ (s : State) (p : Path) (d : List Byte) (v : Val), s.takesWrite p 0x3401 2 d v ∧ (p.isArcade = false ∨ s.getN Obj.DISPATCH_STATUS.ROLE ≠ 2 ∨ p ≠ .arcade s.arc.leader)) ∧
  (∃ (s : State) (at_ : Nat), s.disp.hostAt = some at_ ∧ 0 < s.getN Obj.DISPATCH_CFG.HOST_TIMEOUT ∧ msTicks (s.getN Obj.DISPATCH_CFG.HOST_TIMEOUT) < s.since at_ ∧ s.disp.hostOut = false) ∧
  (∃ (s : State) (at_ : Nat), s.disp.leadAt = some at_ ∧ msTicks (s.getN Obj.LEADER_CFG.LEADER_TIMEOUT) < s.since at_ ∧ s.disp.leadOut = false) ∧
  (∃ (s : State), s.getN Obj.DISPATCH_SETPOINT.SOURCE = 4 ∧ s.passed s.disp.fbAt (secTicks (s.getN Obj.DISPATCH_CFG.FALLBACK_HOLD)) = true) ∧
  (∃ (s : State) (serial : Nat), (serial = s.serial ∨ (∃ m ∈ s.arc.members, m.isModule = true ∧ m.serial = serial))) :=
  ⟨⟨T.ready, .canA, [0,0,0x80,0x3F], .r (some 1), (T.takesWrite_iff _ _ _ _ _ _).1 (by decide +kernel)⟩,
   ⟨({ (T.ring.setN Obj.DISPATCH_STATUS.ROLE 2).setN Obj.TIMEBASE.STATE 2 with arc := { leader := 9 } }), 9, [0,0,0x80,0x3F], .r (some 1), (T.takesWrite_iff _ _ _ _ _ _).1 (by decide +kernel), (by decide +kernel), (by decide +kernel)⟩,
   ⟨T.ready, .canA, [0,0,0x80,0x3F], .r (some 1), (T.takesWrite_iff _ _ _ _ _ _).1 (by decide +kernel), Or.inl (by decide +kernel)⟩,
   ⟨({ T.at (secTicks 100) T.ready with disp := { hostAt := some 0 } }), 0, (by decide +kernel), (by decide +kernel), (by decide +kernel), (by decide +kernel)⟩,
   ⟨({ T.at (secTicks 100) T.ready with disp := { leadAt := some 0 } }), 0, (by decide +kernel), (by decide +kernel), (by decide +kernel)⟩,
   ⟨T.at (secTicks 100000) (T.ready.setN Obj.DISPATCH_SETPOINT.SOURCE 4), (by decide +kernel), (by decide +kernel)⟩,
   ⟨T.ready, 1, Or.inl (by decide +kernel)⟩⟩

/-- The hypotheses of `Obligations.AllocationFollowsTheSource` can be met, clause by clause. -/
theorem test_witness_AllocationFollowsTheSource :
  (∃ (s : State), s.served = true ∧ s.paused = false ∧ s.disp.allocIdx ≠ some (s.now / 31250000) ∧ s.role ≠ 3 ∧ s.getN Obj.DISPATCH_CFG.ENABLE = 0) ∧
  (∃ (s : State), s.served = true ∧ s.paused = false ∧ s.disp.allocIdx ≠ some (s.now / 31250000) ∧ s.role ≠ 3 ∧ s.getN Obj.DISPATCH_CFG.ENABLE ≠ 0 ∧ s.getN Obj.DISPATCH_STATUS.ROLE ≠ 1) ∧
  (∃ (s : State), s.served = true ∧ s.paused = false ∧ s.disp.allocIdx ≠ some (s.now / 31250000) ∧ s.role ≠ 3 ∧ s.getN Obj.DISPATCH_CFG.ENABLE ≠ 0 ∧ s.getN Obj.DISPATCH_STATUS.ROLE = 1) ∧
  (∃ (s : State), s.served = true ∧ s.paused = false ∧ s.disp.allocIdx ≠ some (s.now / 31250000) ∧ s.role = 3) :=
  ⟨⟨T.ready.setN Obj.DISPATCH_CFG.ENABLE 0, (by decide +kernel), (by decide +kernel), (by decide +kernel), (by decide +kernel), (by decide +kernel)⟩,
   ⟨T.ready.setN Obj.DISPATCH_CFG.ENABLE 1, (by decide +kernel), (by decide +kernel), (by decide +kernel), (by decide +kernel), (by decide +kernel), (by decide +kernel)⟩,
   ⟨(T.ready.setN Obj.DISPATCH_CFG.ENABLE 1).setN Obj.DISPATCH_STATUS.ROLE 1, (by decide +kernel), (by decide +kernel), (by decide +kernel), (by decide +kernel), (by decide +kernel), (by decide +kernel)⟩,
   ⟨T.ready.setN Obj.REDUNDANCY_STATUS.ROLE 3, (by decide +kernel), (by decide +kernel), (by decide +kernel), (by decide +kernel)⟩⟩


/-- The hypotheses of `Obligations.RingPortsAndFrames` can be met, clause by clause. -/
theorem test_witness_RingPortsAndFrames :
  (∃ (s : State), s.getN Obj.ARCADE_STATUS.BYPASS = 1) ∧
  (∃ (s : State) (e : Bool) (w : Bool), s.getN Obj.ARCADE_STATUS.BYPASS = 1 ∧ s.passed s.arc.testAt (secTicks 5) = true ∧ (e && w) = false) ∧
  (∃ (s : State) (west : Bool), s.portUp west = true) ∧
  (∃ (s : State) (west : Bool) (fullDuplex : Bool) (pause : Bool), s.getN Obj.ARCADE_STATUS.BYPASS = 2 ∧ s.getN (portKey west) = 0 ∧ (s.getN Obj.ARCADE_CFG.AUTONEG ≠ 1 ∨ (fullDuplex = true ∧ pause = false))) ∧
  (∃ (s : State) (fullDuplex : Bool) (pause : Bool), s.getN Obj.ARCADE_CFG.AUTONEG = 1 ∧ (fullDuplex = false ∨ pause = true)) ∧
  (∃ (s : State) (west : Bool) (f : HsrFrame), s.portUp west = true ∧ f.bad = true) ∧
  (∃ (s : State) (west : Bool) (f : HsrFrame), s.portUp west = true ∧ f.bad = false ∧ f.mac = macOf s.serial) ∧
  (∃ (s : State) (west : Bool) (f : HsrFrame), s.portUp west = true ∧ f.bad = false ∧ f.mac ≠ macOf s.serial ∧ f.dest = macOf s.serial ∧ f.supervision = false ∧ (∀ e ∈ s.arc.dups, e.1 = f.mac → e.2.1 = f.seq → e.2.2 + msTicks 400 ≤ s.root)) ∧
  (∃ (s : State) (west : Bool) (f : HsrFrame), s.portUp west = true ∧ f.bad = false ∧ f.mac ≠ macOf s.serial ∧ (f.dest = macOf s.serial ∨ macIsGroup f.dest = true) ∧ (∃ e ∈ s.arc.dups, e.1 = f.mac ∧ e.2.1 = f.seq ∧ s.root < e.2.2 + msTicks 400)) ∧
  (∃ (s : State) (west : Bool) (f : HsrFrame), s.portUp west = true ∧ f.bad = false ∧ f.mac ≠ macOf s.serial ∧ f.dest ≠ macOf s.serial ∧ macIsGroup f.dest = false) ∧
  (∃ (s : State), s.anyPortUp = true ∧ (∀ at_, s.arc.lifeAt = some at_ → s.passed at_ (msTicks (s.getN Obj.ARCADE_CFG.LIFE_CHECK)) = true)) :=
  ⟨⟨T.ready.setN Obj.ARCADE_STATUS.BYPASS 1, (by decide +kernel)⟩,
   ⟨T.at (secTicks 5) (T.ready.setN Obj.ARCADE_STATUS.BYPASS 1), true, false, (by decide +kernel), (by decide +kernel), (by decide +kernel)⟩,
   ⟨T.ring, true, (by decide +kernel)⟩,
   ⟨((T.ready.setN Obj.ARCADE_STATUS.BYPASS 2).setN Obj.ARCADE_STATUS.PORT_W 0).setN Obj.ARCADE_CFG.AUTONEG 1, true, true, false, (by decide +kernel), (by decide +kernel), (by decide +kernel)⟩,
   ⟨(T.ready.setN Obj.ARCADE_STATUS.BYPASS 2).setN Obj.ARCADE_STATUS.PORT_W 0, true, true, (by decide +kernel), (by decide +kernel)⟩,
   ⟨T.ring, true, { mac := 5, dest := 6, seq := 4, supervision := false, bad := true }, (by decide +kernel), (by decide +kernel)⟩,
   ⟨T.ring, true, { mac := macOf 1, dest := 6, seq := 4, supervision := false, bad := false }, (by decide +kernel), (by decide +kernel), (by decide +kernel)⟩,
   ⟨T.ring, true, { mac := 5, dest := macOf 1, seq := 4, supervision := false, bad := false }, (by decide +kernel), (by decide +kernel), (by decide +kernel), (by decide +kernel), (by decide +kernel), (fun e he => absurd he List.not_mem_nil)⟩,
   ⟨T.ring.updArc (fun a => { a with dups := [(5, 4, 0)] }), true, { mac := 5, dest := macOf 1, seq := 4, supervision := false, bad := false }, (by decide +kernel), (by decide +kernel), (by decide +kernel), (by decide +kernel), ⟨(5, 4, 0), List.mem_singleton.2 rfl, by decide +kernel⟩⟩,
   ⟨T.ring, true, { mac := 5, dest := 6, seq := 4, supervision := false, bad := false }, (by decide +kernel), (by decide +kernel), (by decide +kernel), (by decide +kernel), (by decide +kernel)⟩,
   ⟨T.ring, (by decide +kernel), (fun _ h => nomatch (show (none : Option Nat) = some _ from h))⟩⟩

/-- The hypotheses of `Obligations.BeaconsAndMembers` can be met, clause by clause. -/
theorem test_witness_BeaconsAndMembers :
  (∃ (s : State) (key : List Byte), s.arcActive = true ∧ s.anyPortUp = true ∧ s.nand.ringKey = some key ∧ (∀ at_, s.arc.beaconAt = some at_ → s.passed at_ (msTicks (s.getN Obj.ARCADE_CFG.BEACON_INTERVAL)) = true)) ∧
  (∃ (s : State) (b : Beacon) (key : List Byte), s.portUp b.west = true ∧ b.formOk = true ∧ b.type = 1 ∧ b.len = 32 ∧ b.source ≠ s.serial ∧ s.nand.ringKey = some key ∧ b.tagOk key = true ∧ (∀ l, SMap.find? s.arc.freshB b.source = some l → l < b.fresh) ∧ (∀ m, SMap.find? s.arc.macs b.source = some m → m = b.mac) ∧ 3 ≤ fieldN b.payload 4 1 ∧ fieldN b.payload 4 1 ≤ 5 ∧ ((∃ m ∈ s.arc.members, m.isModule = true ∧ m.serial = b.source) ∨ s.memRoom true = true)) ∧
  (∃ (s : State) (b : Beacon) (key : List Byte), s.portUp b.west = true ∧ b.formOk = true ∧ b.type = 1 ∧ b.len = 32 ∧ b.source ≠ s.serial ∧ s.nand.ringKey = some key ∧ (b.tagOk key = false ∨ ∃ l, SMap.find? s.arc.freshB b.source = some l ∧ (b.fresh < l ∨ b.fresh = l ∧ ∀ m ∈ s.arc.members, m.isModule = true → m.serial = b.source → m.mac = b.mac → s.passed m.heard (msTicks 400) = true))) ∧
  (∃ (s : State) (b : Beacon) (key : List Byte) (m : Member), s.portUp b.west = true ∧ b.formOk = true ∧ b.type = 1 ∧ b.len = 32 ∧ b.source ≠ s.serial ∧ s.nand.ringKey = some key ∧ b.tagOk key = true ∧ SMap.find? s.arc.freshB b.source = some b.fresh ∧ m ∈ s.arc.members ∧ m.isModule = true ∧ m.serial = b.source ∧ m.mac = b.mac ∧ s.passed m.heard (msTicks 400) = false) ∧
  (∃ (s : State) (b : Beacon), s.portUp b.west = true ∧ b.formOk = true ∧ b.type = 1 ∧ b.len = 32 ∧ b.source = s.serial ∧ b.mac ≠ macOf s.serial) ∧
  (∃ (s : State) (b : Beacon) (key : List Byte) (m : Nat), s.portUp b.west = true ∧ b.formOk = true ∧ b.type = 1 ∧ b.len = 32 ∧ b.source ≠ s.serial ∧ s.nand.ringKey = some key ∧ b.tagOk key = true ∧ (∀ l, SMap.find? s.arc.freshB b.source = some l → l < b.fresh) ∧ SMap.find? s.arc.macs b.source = some m ∧ m ≠ b.mac) ∧
  (∃ (s : State) (serial : Nat), (∃ m ∈ s.arc.members, m.isModule = true ∧ m.serial = serial ∧ s.passed m.heard (msTicks (s.getN Obj.ARCADE_CFG.MEMBER_TIMEOUT)) = true)) ∧
  (∃ (s : State) (west : Bool) (f : HsrFrame), s.portUp west = true ∧ f.bad = false ∧ f.mac ≠ macOf s.serial ∧ macIsGroup f.dest = true ∧ f.supervision = true ∧ (∀ e ∈ s.arc.dups, e.1 = f.mac → e.2.1 = f.seq → e.2.2 + msTicks 400 ≤ s.root) ∧ s.memRoom false = true ∧ (∀ m ∈ s.arc.members, m.mac ≠ f.mac)) :=
  ⟨⟨T.ring.setN Obj.ARCADE_CFG.ENABLE 1, T.key, (by decide +kernel), (by decide +kernel), (by decide +kernel), (fun _ h => nomatch (show (none : Option Nat) = some _ from h))⟩,
   ⟨T.ring, T.msg (T.body 5 1 9 0 0 (leBytes 4 0 ++ [4] ++ List.replicate 27 0)), T.key, (by decide +kernel), T.msg_formOk _ (by decide +kernel) (by decide +kernel) (by decide +kernel), (by decide +kernel), (by decide +kernel), (by decide +kernel), (by decide +kernel), T.msg_tagOk _ (by decide +kernel), (fun _ h => nomatch (show (none : Option Nat) = some _ from h)), (fun _ h => nomatch (show (none : Option Nat) = some _ from h)), (by decide +kernel), (by decide +kernel), Or.inr (by decide +kernel)⟩,
   ⟨T.ring.updArc (fun a => { a with freshB := [(9, 100)] }), T.msg (T.body 5 1 9 0 0 (leBytes 4 0 ++ [4] ++ List.replicate 27 0)), T.key, (by decide +kernel), T.msg_formOk _ (by decide +kernel) (by decide +kernel) (by decide +kernel), (by decide +kernel), (by decide +kernel), (by decide +kernel), (by decide +kernel), Or.inr ⟨100, by decide +kernel, Or.inl (by decide +kernel)⟩⟩,
   ⟨T.ring.updArc (fun a => { a with freshB := [(9, 5)], members := [{ serial := 9, mac := 5, kind := 4, since := 0, heard := 0 }] }), T.msg (T.body 5 1 9 0 0 (leBytes 4 0 ++ [4] ++ List.replicate 27 0)), T.key, { serial := 9, mac := 5, kind := 4, since := 0, heard := 0 }, (by decide +kernel), (T.msg_formOk _ (by decide +kernel) (by decide +kernel) (by decide +kernel)), (by decide +kernel), (by decide +kernel), (by decide +kernel), (by decide +kernel), T.msg_tagOk _ (by decide +kernel), (by decide +kernel), (by decide +kernel), (by decide +kernel), (by decide +kernel), (by decide +kernel), (by decide +kernel)⟩,
   ⟨T.ring, (let m := T.msg (T.body 5 1 T.ring.serial 0 0 (leBytes 4 0 ++ [4] ++ List.replicate 27 0)); { m with mac := 7 }), (by decide +kernel), (show (T.msg (T.body 5 1 T.ring.serial 0 0 (leBytes 4 0 ++ [4] ++ List.replicate 27 0))).formOk = true from (T.msg_formOk _ (by decide +kernel) (by decide +kernel) (by decide +kernel))), (by decide +kernel), (by decide +kernel), (by decide +kernel), (by decide +kernel)⟩,
   ⟨T.ring.updArc (fun a => { a with macs := [(9, 77)] }), T.msg (T.body 5 1 9 0 0 (leBytes 4 0 ++ [4] ++ List.replicate 27 0)), T.key, 77, (by decide +kernel), T.msg_formOk _ (by decide +kernel) (by decide +kernel) (by decide +kernel), (by decide +kernel), (by decide +kernel), (by decide +kernel), (by decide +kernel), T.msg_tagOk _ (by decide +kernel), (fun _ h => nomatch (show (none : Option Nat) = some _ from h)), (by decide +kernel), (by decide +kernel)⟩,
   ⟨T.at (secTicks 60) (T.ring.updArc (fun a => { a with members := [{ serial := 9, mac := 5, kind := 0, since := 0, heard := 0 }] })), 9, ⟨_, List.mem_singleton.2 rfl, by decide +kernel⟩⟩,
   ⟨T.ring, true, { mac := 5, dest := 2 ^ 40, seq := 4, supervision := true, bad := false }, (by decide +kernel), (by decide +kernel), (by decide +kernel), (by decide +kernel), (by decide +kernel), (by decide +kernel), (by decide +kernel), (fun m hm => absurd hm List.not_mem_nil)⟩⟩

/-- The hypotheses of `Obligations.PtpMessagesComplete` can be met, clause by clause. -/
theorem test_witness_PtpMessagesComplete :
  (∃ (s : State) (west : Bool) (m : PtpMsg) (d : Q), s.ptpStamps west = true ∧ m.domain = s.getN Obj.PTP_CFG.DOMAIN ∧ s.fromParent m = true ∧ m.near = false ∧ (s.updTime (fun t => { t with arrivals := noteArrival t.arrivals m.seq (ptpStamp m) west })).syncPort west = b2n west ∧ seqAhead m.seq s.time.seqLast = true ∧ m.twoStep = false ∧ s.linkDelay west = some d ∧ s.ppsValid = false) ∧
  (∃ (s : State) (west : Bool) (m : PtpMsg), s.ptpStamps west = true ∧ m.domain = s.getN Obj.PTP_CFG.DOMAIN ∧ s.fromParent m = true ∧ m.near = false ∧ (s.updTime (fun t => { t with arrivals := noteArrival t.arrivals m.seq (ptpStamp m) west })).syncPort west = b2n west ∧ seqAhead m.seq s.time.seqLast = true ∧ m.twoStep = true) ∧
  (∃ (s : State) (west : Bool) (m : PtpMsg), s.ptpStamps west = true ∧ m.domain = s.getN Obj.PTP_CFG.DOMAIN ∧ s.fromParent m = true ∧ m.near = true) ∧
  (∃ (s : State) (west : Bool) (m : PtpMsg) (y : PtpMsg) (d : Q), s.ptpStamps west = true ∧ m.domain = s.getN Obj.PTP_CFG.DOMAIN ∧ s.fromParent m = true ∧ seqAhead m.seq s.time.seqFu = true ∧ s.time.waitFu = some y ∧ y.seq = m.seq ∧ s.linkDelay (s.getN Obj.PTP_STATUS.SYNC_PORT == 1) = some d ∧ s.ppsValid = false) ∧
  (∃ (s : State) (west : Bool) (m : PtpAnnounce) (a : PtpAnnounce) (at_ : Nat), s.ptpOn west = true ∧ m.domain = s.getN Obj.PTP_CFG.DOMAIN ∧ m.clock ≠ s.clockId ∧ m.steps < 255 ∧ s.time.foreign = [(a, 1, at_)] ∧ a.clock = m.clock ∧ a.port = m.port ∧ a.seq ≠ m.seq ∧ s.passed at_ (secTicks 4) = false ∧ s.gmCapable = false) ∧
  (∃ (s : State) (west : Bool) (m : PtpAnnounce), s.ptpOn west = true ∧ m.domain = s.getN Obj.PTP_CFG.DOMAIN ∧ m.clock ≠ s.clockId ∧ m.steps < 255) ∧
  (∃ (s : State), s.getN Obj.PTP_CFG.ENABLE = 1 ∧ s.anyPortUp = true ∧ s.time.parent ≠ none ∧ (∀ f ∈ s.time.foreign, s.passed f.2.2 (secTicks 3) = true)) ∧
  (∃ (s : State) (west : Bool) (m : PtpMsg), s.ptpStamps west = true ∧ m.domain = s.getN Obj.PTP_CFG.DOMAIN ∧ m.near = false) ∧
  (∃ (s : State) (west : Bool) (m : PtpMsg) (t1 : Nat), s.ptpStamps west = true ∧ m.domain = s.getN Obj.PTP_CFG.DOMAIN ∧ m.forUs = true ∧ (if west then s.time.reqW else s.time.reqE) = some (m.seq, t1) ∧ m.near = false ∧ m.twoStep = false) ∧
  (∃ (s : State) (west : Bool) (m : PtpMsg) (t1 : Nat) (t4 : Nat) (t2 : Q) (c : Q), s.ptpOn west = true ∧ m.domain = s.getN Obj.PTP_CFG.DOMAIN ∧ m.forUs = true ∧ (if west then s.time.reqW else s.time.reqE) = some (m.seq, t1) ∧ (if west then s.time.respW else s.time.respE) = some (m.seq, t2, t4, c)) ∧
  (∃ (s : State), s.time.master = true ∧ (s.ptpOn false || s.ptpOn true) = true ∧ (∀ at_, s.time.syncTx = some at_ → s.passed at_ (msTicks 125) = true)) ∧
  (∃ (s : State), s.time.master = true ∧ (s.ptpOn false || s.ptpOn true) = true ∧ (∀ at_, s.time.annTx = some at_ → s.passed at_ (secTicks 1) = true)) ∧
  (∃ (s : State) (west : Bool), s.ptpOn west = true ∧ (∀ at_, (if west then s.time.pdW else s.time.pdE) = some at_ → s.passed at_ (if s.timeLocked then secTicks 1 else msTicks 125) = true)) ∧
  (∃ (s : State) (west : Bool) (d : Q), s.portUp west = true ∧ s.linkDelay west = some d) :=
  ⟨⟨T.ptp.updTime (fun t => { t with parent := some { domain := 0, seq := 1, clock := 9, port := 1, prio1 := 128, cls := 6, acc := 33, var := 0, prio2 := 128, gm := 9, steps := 0 } }), true, { domain := 0, seq := 5, clock := 9, port := 1, corr := 0, time := 0, twoStep := false, near := false, entry := 1000, forUs := true }, 100, (by decide +kernel), (by decide +kernel), (by decide +kernel), (by decide +kernel), (by decide +kernel), (by decide +kernel), (by decide +kernel), (by decide +kernel), (by decide +kernel)⟩,
   ⟨T.ptp.updTime (fun t => { t with parent := some { domain := 0, seq := 1, clock := 9, port := 1, prio1 := 128, cls := 6, acc := 33, var := 0, prio2 := 128, gm := 9, steps := 0 } }), true, { domain := 0, seq := 5, clock := 9, port := 1, corr := 0, time := 0, twoStep := true, near := false, entry := 1000, forUs := true }, (by decide +kernel), (by decide +kernel), (by decide +kernel), (by decide +kernel), (by decide +kernel), (by decide +kernel), (by decide +kernel)⟩,
   ⟨T.ptp.updTime (fun t => { t with parent := some { domain := 0, seq := 1, clock := 9, port := 1, prio1 := 128, cls := 6, acc := 33, var := 0, prio2 := 128, gm := 9, steps := 0 } }), true, { domain := 0, seq := 5, clock := 9, port := 1, corr := 0, time := 0, twoStep := false, near := true, entry := 1000, forUs := true }, (by decide +kernel), (by decide +kernel), (by decide +kernel), (by decide +kernel)⟩,
   ⟨T.ptp.updTime (fun t => { t with parent := some { domain := 0, seq := 1, clock := 9, port := 1, prio1 := 128, cls := 6, acc := 33, var := 0, prio2 := 128, gm := 9, steps := 0 }, waitFu := some { domain := 0, seq := 5, clock := 9, port := 1, corr := 0, time := 0, twoStep := true, near := false, entry := 900, forUs := true } }), true, { domain := 0, seq := 5, clock := 9, port := 1, corr := 0, time := 0, twoStep := false, near := false, entry := 1000, forUs := true }, { domain := 0, seq := 5, clock := 9, port := 1, corr := 0, time := 0, twoStep := true, near := false, entry := 900, forUs := true }, 100, (by decide +kernel), (by decide +kernel), (by decide +kernel), (by decide +kernel), (by decide +kernel), (by decide +kernel), (by decide +kernel), (by decide +kernel)⟩,
   ⟨T.ptp.updTime (fun t => { t with foreign := [({ domain := 0, seq := 1, clock := 9, port := 1, prio1 := 128, cls := 6, acc := 33, var := 0, prio2 := 128, gm := 9, steps := 0 }, 1, 0)] }), true, { domain := 0, seq := 2, clock := 9, port := 1, prio1 := 128, cls := 6, acc := 33, var := 0, prio2 := 128, gm := 9, steps := 0 }, { domain := 0, seq := 1, clock := 9, port := 1, prio1 := 128, cls := 6, acc := 33, var := 0, prio2 := 128, gm := 9, steps := 0 }, 0, (by decide +kernel), (by decide +kernel), (by decide +kernel), (by decide +kernel), (by decide +kernel), (by decide +kernel), (by decide +kernel), (by decide +kernel), (by decide +kernel), (by decide +kernel)⟩,
   ⟨T.ptp.updTime (fun t => { t with foreign := [({ domain := 0, seq := 1, clock := 9, port := 1, prio1 := 128, cls := 6, acc := 33, var := 0, prio2 := 128, gm := 9, steps := 0 }, 1, 0)] }), true, { domain := 0, seq := 2, clock := 9, port := 1, prio1 := 128, cls := 6, acc := 33, var := 0, prio2 := 128, gm := 9, steps := 0 }, (by decide +kernel), (by decide +kernel), (by decide +kernel), (by decide +kernel)⟩,
   ⟨T.ptp.updTime (fun t => { t with parent := some { domain := 0, seq := 1, clock := 9, port := 1, prio1 := 128, cls := 6, acc := 33, var := 0, prio2 := 128, gm := 9, steps := 0 } }), (by decide +kernel), (by decide +kernel), (by decide +kernel), (fun f hf => absurd hf List.not_mem_nil)⟩,
   ⟨T.ptp, true, { domain := 0, seq := 5, clock := 9, port := 1, corr := 0, time := 0, twoStep := false, near := false, entry := 1000, forUs := true }, (by decide +kernel), (by decide +kernel), (by decide +kernel)⟩,
   ⟨T.ptp.updTime (fun t => { t with reqW := some (5, 700) }), true, { domain := 0, seq := 5, clock := 9, port := 1, corr := 0, time := 0, twoStep := false, near := false, entry := 1000, forUs := true }, 700, (by decide +kernel), (by decide +kernel), (by decide +kernel), (by decide +kernel), (by decide +kernel), (by decide +kernel)⟩,
   ⟨T.ptp.updTime (fun t => { t with reqW := some (5, 700), respW := some (5, 5, 900, 0) }), true, { domain := 0, seq := 5, clock := 9, port := 1, corr := 0, time := 0, twoStep := false, near := false, entry := 1000, forUs := true }, 700, 900, 5, 0, (by decide +kernel), (by decide +kernel), (by decide +kernel), (by decide +kernel), (by decide +kernel)⟩,
   ⟨T.ptp.updTime (fun t => { t with master := true }), (by decide +kernel), (by decide +kernel), (fun _ h => nomatch (show (none : Option Nat) = some _ from h))⟩,
   ⟨T.ptp.updTime (fun t => { t with master := true }), (by decide +kernel), (by decide +kernel), (fun _ h => nomatch (show (none : Option Nat) = some _ from h))⟩,
   ⟨T.ptp, true, (by decide +kernel), (fun _ h => nomatch (show (none : Option Nat) = some _ from h))⟩,
   ⟨T.ptp, true, 100, (by decide +kernel), (by decide +kernel)⟩⟩

/-- The hypotheses of `Obligations.TimeBaseAndGrandmasterInputs` can be met, clause by clause. -/
theorem test_witness_TimeBaseAndGrandmasterInputs :
  (∃ (s : State) (tick : Nat) (width : Nat) (p : Nat) (sec : Int) (at_ : Nat), s.ppsOn = true ∧ s.time.ppsLast = some p ∧ p + 312500000 ≤ tick + 31250 ∧ tick ≤ p + 312500000 + 31250 ∧ 1000 ≤ width ∧ s.time.ppsNamed = true ∧ s.time.tod = some sec ∧ s.time.consSince = some at_ ∧ s.passed at_ (secTicks 4) = true) ∧
  (∃ (s : State) (tick : Nat) (width : Nat) (p : Nat), s.ppsOn = true ∧ s.time.ppsLast = some p ∧ p + 312500000 ≤ tick + 31250 ∧ tick ≤ p + 312500000 + 31250 ∧ 1000 ≤ width ∧ s.time.ppsNamed = false) ∧
  (∃ (s : State) (tick : Nat) (width : Nat), s.ppsOn = true ∧ (∀ p, s.time.ppsLast = some p → tick + 31250 < p + 312500000 ∨ p + 312500000 + 31250 < tick ∨ width < 1000)) ∧
  (∃ (s : State) (b : List Byte) (utc : Nat) (p : Nat), s.ppsOn = true ∧ zdaSecond b = some utc ∧ s.time.ppsLast = some p ∧ p + 31250000 ≤ s.now ∧ s.now ≤ p + 281250000 ∧ s.time.ppsNamed = false) ∧
  (∃ (s : State) (at_ : Nat), s.ppsOn = true ∧ s.time.ppsAt = some at_ ∧ s.passed at_ (secTicks 2) = true) ∧
  (∃ (s : State), s.part = .zs8848 ∧ s.getN Obj.PTP_CFG.PPS_TOD_ENABLE = 1 ∧ s.getN Obj.PTP_CFG.PPS_OUT_ENABLE = 1 ∧ (s.getN Obj.TIMEBASE.STATE = 2 ∨ s.getN Obj.TIMEBASE.STATE = 3) ∧ (s.getI Obj.TIMEBASE.ORIGIN * 5 + ((s.now * 16 : Nat) : Int)) % 5000000000 < 16) ∧
  (∃ (s : State), (∀ at_, s.time.syncAt = some at_ → s.passed at_ (secTicks 3) = true) ∧ s.getN Obj.TIMEBASE.STATE = 1) ∧
  (∃ (s : State), (∀ at_, s.time.syncAt = some at_ → s.passed at_ (secTicks 3) = true) ∧ s.getN Obj.TIMEBASE.STATE = 2) ∧
  (∃ (s : State), s.getN Obj.TIMEBASE.STATE = 3 ∧ s.passed s.time.holdAt (secTicks (s.getN Obj.TIMEBASE.HOLDOVER_TIME)) = true) ∧
  (∃ (s : State), 0 < s.time.stepPend ∧ s.now % 10000 = 0) :=
  ⟨⟨T.at (secTicks 4) (T.pps.updTime (fun t => { t with ppsLast := some 0, tod := some 100, consSince := some 0 })), 312531250, 1000, 0, 100, 0, (by decide +kernel), (by decide +kernel), (by decide +kernel), (by decide +kernel), (by decide +kernel), (by decide +kernel), (by decide +kernel), (by decide +kernel), (by decide +kernel)⟩,
   ⟨T.pps.updTime (fun t => { t with ppsLast := some 0, ppsNamed := false }), 312531250, 1000, 0, (by decide +kernel), (by decide +kernel), (by decide +kernel), (by decide +kernel), (by decide +kernel), (by decide +kernel)⟩,
   ⟨T.at (secTicks 4) (T.pps.updTime (fun t => { t with ppsLast := some 0, tod := some 100, consSince := some 0 })), 312531251, 1000, (by decide +kernel), (fun p h => by have hp : (0 : Nat) = p := Option.some.inj h; subst hp; decide)⟩,
   ⟨({ T.pps.updTime (fun t => { t with ppsLast := some 0, ppsNamed := false }) with now := 31250000 }), [0x24, 0x47, 0x50, 0x5A, 0x44, 0x41, 0x2C, 0x30, 0x30, 0x30, 0x30, 0x30, 0x30, 0x2C, 0x30, 0x31, 0x2C, 0x30, 0x31, 0x2C, 0x32, 0x30, 0x32, 0x34, 0x2A, 0x34, 0x43], (zdaSecond [0x24, 0x47, 0x50, 0x5A, 0x44, 0x41, 0x2C, 0x30, 0x30, 0x30, 0x30, 0x30, 0x30, 0x2C, 0x30, 0x31, 0x2C, 0x30, 0x31, 0x2C, 0x32, 0x30, 0x32, 0x34, 0x2A, 0x34, 0x43]).getD 0, 0, (by decide +kernel), (by decide +kernel), (by decide +kernel), (by decide +kernel), (by decide +kernel), (by decide +kernel)⟩,
   ⟨T.at (secTicks 2) (T.pps.updTime (fun t => { t with ppsAt := some 0 })), 0, (by decide +kernel), (by decide +kernel), (by decide +kernel)⟩,
   ⟨(T.pps.setN Obj.PTP_CFG.PPS_OUT_ENABLE 1).setN Obj.TIMEBASE.STATE 3, (by decide +kernel), (by decide +kernel), (by decide +kernel), (by decide +kernel), (by decide +kernel)⟩,
   ⟨T.ready.setN Obj.TIMEBASE.STATE 1, (fun _ h => nomatch (show (none : Option Nat) = some _ from h)), (by decide +kernel)⟩,
   ⟨T.ready.setN Obj.TIMEBASE.STATE 2, (fun _ h => nomatch (show (none : Option Nat) = some _ from h)), (by decide +kernel)⟩,
   ⟨T.at (secTicks 1000000) (T.ready.setN Obj.TIMEBASE.STATE 3), (by decide +kernel), (by decide +kernel)⟩,
   ⟨T.ready.updTime (fun t => { t with stepPend := 1 }), (by decide +kernel), (by decide +kernel)⟩⟩

/-- The hypotheses of `Obligations.RolesFollowTheTable` can be met, clause by clause. -/
theorem test_witness_RolesFollowTheTable :
  (∃ (s : State) (p : Path), s.takesWrite p 0x2400 1 [0] (.n 0) ∧ s.role ≠ 0) ∧
  (∃ (s : State) (p : Path), s.takesWrite p 0x2400 1 [1] (.n 1) ∧ s.role = 0) ∧
  (∃ (s : State) (p : Path), s.takesWrite p 0x2400 1 [1] (.n 1) ∧ s.role ≠ 0) ∧
  (∃ (s : State), s.role = 1 ∧ s.red.mirror = none ∧ (∀ n < s.part.galleries, s.strOn n = true → bit (s.g n).trunk.obeyPort (1 - s.ownPort) = false) ∧ s.passed s.red.roleAt (msTicks (s.getN Obj.REDUNDANCY_CFG.PAIR_WAIT)) = true) ∧
  (∃ (s : State) (p : Path) (m : Mirror), s.takesWrite p 0x2400 8 [1] (.n 1) ∧ s.role = 2 ∧ s.red.mirror = some m ∧ s.partnerPath = true ∧ m.notReady = 0 ∧ (∀ g < 8, (s.grp g).state = .off ∨ (s.grp g).state = .waitOff ∨ (s.grp g).state = .energised) ∧ (∀ n < s.part.galleries, (s.g n).tread.state ≠ .reversing ∧ (s.g n).tread.state ≠ .stopping)) ∧
  (∃ (s : State) (p : Path) (m : Mirror) (key : List Byte), s.takesWrite p 0x2400 8 [1] (.n 1) ∧ s.role = 3 ∧ s.red.mirror = some m ∧ s.partnerPath = true ∧ s.notReadyNow = 0 ∧ (∀ x ∈ m.strings, (x.group = 0 ∨ x.group = 1 ∨ x.group = 6 ∨ x.group = 0xFF) ∧ x.conv ≠ 3 ∧ x.conv ≠ 4) ∧ s.nand.ringKey = some key ∧ s.anyPortUp = true) ∧
  (∃ (s : State) (p : Path), s.takesWrite p 0x2400 8 [1] (.n 1) ∧ ((s.role ≠ 2 ∧ s.role ≠ 3) ∨ s.red.mirror = none ∨ s.partnerPath = false ∨ (s.role = 2 ∧ ∃ m, s.red.mirror = some m ∧ m.notReady ≠ 0) ∨ (s.role = 3 ∧ s.notReadyNow ≠ 0) ∨ (s.role = 2 ∧ ((∃ g < 8, (s.grp g).state ≠ .off ∧ (s.grp g).state ≠ .waitOff ∧ (s.grp g).state ≠ .energised) ∨ ∃ n < s.part.galleries, (s.g n).tread.state = .reversing ∨ (s.g n).tread.state = .stopping)) ∨ (s.role = 3 ∧ ∃ m, s.red.mirror = some m ∧ ∃ x ∈ m.strings, x.conv = 3 ∨ x.conv = 4 ∨ (x.group ≠ 0 ∧ x.group ≠ 1 ∧ x.group ≠ 6 ∧ x.group ≠ 0xFF)))) ∧
  (∃ (s : State), s.safe.groups.length = 8 ∧ s.role = 4 ∧ 16 ≤ s.red.roleSf ∧ s.red.cause = 1) ∧
  (∃ (s : State), s.role = 4 ∧ 16 ≤ s.red.roleSf ∧ s.red.cause ≠ 1) ∧
  (∃ (s : State) (n : Nat), s.role = 5 ∧ sfReached s.presentSf ((s.red.handover + 8) % 2 ^ 32) = true ∧ s.strOn n = true ∧ s.trunkUp n = true ∧ (s.g n).trunk.noClaim = false) ∧
  (∃ (s : State) (p : Path), s.takesWrite p 0x2400 0x0A [1] (.n 1)) ∧
  (∃ (s : State) (at_ : Nat), s.nand.swapFrom = some at_ ∧ s.role = 3 ∧ s.getN Obj.REDUNDANCY_CFG.SWAP_INTERVAL ≠ 0 ∧ secTicks (s.getN Obj.REDUNDANCY_CFG.SWAP_INTERVAL) ≤ s.aged at_) :=
  ⟨⟨T.ready.setN Obj.REDUNDANCY_STATUS.ROLE 3, .canA, (T.takesWrite_iff _ _ _ _ _ _).1 (by decide +kernel), (by decide +kernel)⟩,
   ⟨T.ready.setN Obj.REDUNDANCY_STATUS.ROLE 0, .canA, (T.takesWrite_iff _ _ _ _ _ _).1 (by decide +kernel), (by decide +kernel)⟩,
   ⟨T.ready.setN Obj.REDUNDANCY_STATUS.ROLE 3, .canA, (T.takesWrite_iff _ _ _ _ _ _).1 (by decide +kernel), (by decide +kernel)⟩,
   ⟨T.at (secTicks 600) (T.ready.setN Obj.REDUNDANCY_STATUS.ROLE 1), (by decide +kernel), (by decide +kernel), (by decide +kernel), (by decide +kernel)⟩,
   ⟨({ T.ready.setN Obj.REDUNDANCY_STATUS.ROLE 2 with red := { mirror := some T.mirror, corUp := true } }), .canA, T.mirror, (T.takesWrite_iff _ _ _ _ _ _).1 (by decide +kernel), (by decide +kernel), (by decide +kernel), (by decide +kernel), (by decide +kernel), (by decide +kernel), (by decide +kernel)⟩,
   ⟨T.standby, .canA, T.partner, T.key, (T.takesWrite_iff _ _ _ _ _ _).1 (by decide +kernel), (by decide +kernel), rfl, (by decide +kernel), T.standby_ready, (by decide +kernel), (by decide +kernel), (by decide +kernel)⟩,
   ⟨T.ready, .canA, (T.takesWrite_iff _ _ _ _ _ _).1 (by decide +kernel), Or.inl (by decide +kernel)⟩,
   ⟨({ T.ready.setN Obj.REDUNDANCY_STATUS.ROLE 4 with red := { roleSf := 16, cause := 1 } }), (by decide +kernel), (by decide +kernel), (by decide +kernel), (by decide +kernel)⟩,
   ⟨({ T.ready.setN Obj.REDUNDANCY_STATUS.ROLE 4 with red := { roleSf := 16, cause := 2 } }), (by decide +kernel), (by decide +kernel), (by decide +kernel)⟩,
   ⟨({ (T.up T.ready).setN Obj.REDUNDANCY_STATUS.ROLE 5 with red := { handover := 0xFFFFFFF8 } }), 0, (by decide +kernel), (by decide +kernel), (by decide +kernel), (by decide +kernel), (by decide +kernel)⟩,
   ⟨T.ready.setN Obj.REDUNDANCY_STATUS.ROLE 3, .canA, (T.takesWrite_iff _ _ _ _ _ _).1 (by decide +kernel)⟩,
   ⟨({ (T.ready.setN Obj.REDUNDANCY_STATUS.ROLE 3).setN Obj.REDUNDANCY_CFG.SWAP_INTERVAL 60 with now := secTicks 1000000, nand := { swapFrom := some 0 } }), 0, (by decide +kernel), (by decide +kernel), (by decide +kernel), (by decide +kernel)⟩⟩

/-- The hypotheses of `Obligations.CorridorAndMirrorComplete` can be met, clause by clause. -/
theorem test_witness_CorridorAndMirrorComplete :
  (∃ (s : State), s.corridorRuns = true ∧ s.now % 10000 = 0 ∧ s.red.txGrid ≠ some (s.now / 10000) ∧ s.paused = false) ∧
  (∃ (s : State), s.corridorRuns = true ∧ s.now % 10000 = 0 ∧ s.red.txGrid ≠ some (s.now / 10000) ∧ s.paused = true) ∧
  (∃ (s : State) (f : CorFrame), s.corridorRuns = true ∧ hdrGood f.header 47 = true) ∧
  (∃ (s : State), s.corridorRuns = true ∧ s.getN Obj.REDUNDANCY_CFG.CORRIDOR_TIMEOUT ≤ s.red.corBad) ∧
  (∃ (s : State) (d : List Byte) (f : CorFrame), s.corridorRuns = true ∧ s.red.corUp = false ∧ s.passed s.red.readTry (msTicks 100) = true ∧ mirrorFrame d = some f ∧ hdrGood f.header 47 = true) ∧
  (∃ (s : State) (data : Option (List Byte)), s.corridorRuns = true ∧ s.red.corUp = false ∧ s.passed s.red.readTry (msTicks 100) = true ∧ (∀ f, data.bind mirrorFrame = some f → hdrGood f.header 47 = false)) :=
  ⟨⟨T.ready.setN Obj.REDUNDANCY_STATUS.ROLE 3, (by decide +kernel), (by decide +kernel), (by decide +kernel), (by decide +kernel)⟩,
   ⟨({ T.ready.setN Obj.REDUNDANCY_STATUS.ROLE 3 with paused := true }), (by decide +kernel), (by decide +kernel), (by decide +kernel), (by decide +kernel)⟩,
   ⟨T.ready.setN Obj.REDUNDANCY_STATUS.ROLE 3, { header := T.corHeader, strings := T.blk }, (by decide +kernel), T.corHeader_good⟩,
   ⟨({ T.ready.setN Obj.REDUNDANCY_STATUS.ROLE 3 with red := { corBad := 100000 } }), (by decide +kernel), (by decide +kernel)⟩,
   ⟨T.at (msTicks 100) (T.ready.setN Obj.REDUNDANCY_STATUS.ROLE 3), T.mirrorBytes, { header := T.corHeader, strings := { payload := List.replicate 1024 0, crc := 0, endOk := false } }, (by decide +kernel), (by decide +kernel), (by decide +kernel), (by decide +kernel), T.corHeader_good⟩,
   ⟨T.at (msTicks 100) (T.ready.setN Obj.REDUNDANCY_STATUS.ROLE 3), none, (by decide +kernel), (by decide +kernel), (by decide +kernel), (fun _ h => nomatch h)⟩⟩

/-- The hypotheses of `Obligations.ChannelsSampleAndDrive` can be met, clause by clause. -/
theorem test_witness_ChannelsSampleAndDrive :
  (∃ (s : State) (n : Nat), s.chans.length = 16 ∧ s.chRuns n = true ∧ (s.chan n).idx ≠ some (s.now / s.chPeriod n * s.chPeriod n) ∧ s.chOut n = false ∧ (s.chFn n ≠ 1 ∨ s.getN (Chn.CH_CFG.RANGE n) ≠ 0)) ∧
  (∃ (s : State) (n : Nat) (c : ChanIn) (x : Q) (y : Q), s.chans.length = 16 ∧ s.chRuns n = true ∧ (s.chan n).idx ≠ some (s.now / s.chPeriod n * s.chPeriod n) ∧ s.chFn n = 1 ∧ s.getN (Chn.CH_CFG.RANGE n) = 0 ∧ clearBits (s.getN (Chn.CH_STATUS.STATE n)) sampleBits = 0 ∧ ((s.chan n).discard = true ∨ (s.chan n).range < 4 ∧ rangeFs (s.chan n).range * 105 / 100 < qabs c.x) ∧ (s.chan n).last = some (x, y)) ∧
  (∃ (s : State) (n : Nat) (c : ChanIn), s.chans.length = 16 ∧ s.chRuns n = true ∧ (s.chan n).idx ≠ some (s.now / s.chPeriod n * s.chPeriod n) ∧ s.chFn n = 1 ∧ s.getN (Chn.CH_CFG.RANGE n) = 0 ∧ clearBits (s.getN (Chn.CH_STATUS.STATE n)) sampleBits = 0 ∧ (s.chan n).discard = false ∧ (s.chan n).tripped = false ∧ qabs c.x ≤ rangeFs (s.chan n).range * 105 / 100) ∧
  (∃ (s : State) (n : Nat), s.chans.length = 16 ∧ s.chRuns n = true ∧ s.chFn n = 1) ∧
  (∃ (s : State) (p : Path) (n : Nat) (d : List Byte) (v : Val), n < 16 ∧ s.chans.length = 16 ∧ s.takesWrite p (0x3002 + 0x10 * n) 1 d v) ∧
  (∃ (s : State) (n : Nat), s.chRuns n = true ∧ s.chOut n = true ∧ s.outLate n = true) ∧
  (∃ (s : State) (n : Nat) (b : Nat) (rb : Q) (x : Q) (limit : Bool), s.chans.length = 16 ∧ s.chRuns n = true ∧ s.chOut n = true ∧ s.passed (s.chan n).cmpAt (msTicks 10) = true ∧ s.getR (Chn.CH_OUT.COMMANDED n) = some x ∧ (∀ a, (s.chan n).cmdAt = some a → s.passed a (msTicks 5) = true) ∧ s.flag (Chn.CH_STATUS.STATE n) 10 = false ∧ s.flag (Chn.CH_STATUS.STATE n) 11 = false ∧ (s.chFn n = 5 → limit = false) ∧ (s.chFn n = 6 → s.getQ (Chn.CH_OUT.RAIL n) < qmin (s.getQ Obj.SUPPLY_STATUS.VLOOP - 3 / 2) 30 ∨ x - rb ≤ s.outTol n) ∧ s.outTol n < qabs (rb - x) ∧ (s.chan n).badAt = some b ∧ s.passed b (msTicks (s.getN (Chn.CH_OUT.RB_TIME n))) = true) ∧
  (∃ (s : State) (n : Nat), s.chans.length = 16 ∧ s.chRuns n = true ∧ s.chOut n = true ∧ s.passed (s.chan n).cmpAt (msTicks 10) = true ∧ s.getR (Chn.CH_OUT.COMMANDED n) = none) ∧
  (∃ (s : State) (n : Nat) (cur : Q), s.chans.length = 16 ∧ s.chRuns n = true ∧ s.chFn n = 6 ∧ (s.chan n).noLoop = false ∧ s.passed (s.chan n).railAt (usTicks 100) = true ∧ s.getR (Chn.CH_OUT.RAIL n) = some cur) ∧
  (∃ (s : State) (n : Nat), s.chans.length = 16 ∧ s.chRuns n = true ∧ s.chFn n = 5 ∧ (s.chan n).noLoop = false ∧ s.passed (s.chan n).railAt (usTicks 100) = true) ∧
  (∃ (s : State) (n : Nat), n < 16 ∧ s.chans.length = 16) ∧
  (∃ (s : State) (n : Nat), n < 16 ∧ s.chans.length = 16 ∧ (s.chan n).noLoop = true ∧ s.vloopOk = true ∧ s.passed s.vloopAt (msTicks 100) = true) ∧
  (∃ (s : State) (p : Path) (n : Nat), n < 16 ∧ s.chans.length = 16 ∧ s.takesWrite p (0x3001 + 0x10 * n) 9 [1] (.n 1)) :=
  ⟨⟨((T.chan {} (T.ready.setN (Chn.CH_CFG.FUNCTION 3) 1)).setN (Chn.CH_CFG.RANGE 3) 1).setN (Chn.CH_STATUS.STATE 3) 0, 3, (by decide +kernel), (by decide +kernel), (by decide +kernel), (by decide +kernel), (by decide +kernel)⟩,
   ⟨((T.chan { discard := true, last := some (1, 2) } (T.ready.setN (Chn.CH_CFG.FUNCTION 3) 1)).setN (Chn.CH_CFG.RANGE 3) 0).setN (Chn.CH_STATUS.STATE 3) 0, 3, ⟨5, false, false⟩, 1, 2, (by decide +kernel), (by decide +kernel), (by decide +kernel), (by decide +kernel), (by decide +kernel), (by decide +kernel), (by decide +kernel), (by decide +kernel)⟩,
   ⟨((T.chan {} (T.ready.setN (Chn.CH_CFG.FUNCTION 3) 1)).setN (Chn.CH_CFG.RANGE 3) 0).setN (Chn.CH_STATUS.STATE 3) 0, 3, ⟨0, false, false⟩, (by decide +kernel), (by decide +kernel), (by decide +kernel), (by decide +kernel), (by decide +kernel), (by decide +kernel), (by decide +kernel), (by decide +kernel), (by decide +kernel)⟩,
   ⟨T.chan {} (T.ready.setN (Chn.CH_CFG.FUNCTION 3) 1), 3, (by decide +kernel), (by decide +kernel), (by decide +kernel)⟩,
   ⟨T.ready, .canA, 15, [0,0,0x80,0x3F], .r (some 1), (by decide +kernel), (by decide +kernel), (T.takesWrite_iff _ _ _ _ _ _).1 (by decide +kernel)⟩,
   ⟨T.at (secTicks 60) ((T.chan {} (T.ready.setN (Chn.CH_CFG.FUNCTION 3) 6)).setN (Chn.CH_OUT.OUT_TIMEOUT 3) 1000), 3, (by decide +kernel), (by decide +kernel), (by decide +kernel)⟩,
   ⟨T.at (secTicks 60) ((T.chan { badAt := some 0 } (T.ready.setN (Chn.CH_CFG.FUNCTION 3) 5)).setR (Chn.CH_OUT.COMMANDED 3) (some 5)), 3, 0, 9, 5, false, (by decide +kernel), (by decide +kernel), (by decide +kernel), (by decide +kernel), (by decide +kernel), (fun _ h => nomatch (show (none : Option Nat) = some _ from h)), (by decide +kernel), (by decide +kernel), (by decide +kernel), (by decide +kernel), (by decide +kernel), (by decide +kernel), (by decide +kernel)⟩,
   ⟨T.at (secTicks 60) (T.chan {} (T.ready.setN (Chn.CH_CFG.FUNCTION 3) 5)), 3, (by decide +kernel), (by decide +kernel), (by decide +kernel), (by decide +kernel), (by decide +kernel)⟩,
   ⟨T.at (secTicks 60) ((T.chan {} (T.ready.setN (Chn.CH_CFG.FUNCTION 3) 6)).setR (Chn.CH_OUT.RAIL 3) (some 5)), 3, 5, (by decide +kernel), (by decide +kernel), (by decide +kernel), (by decide +kernel), (by decide +kernel), (by decide +kernel)⟩,
   ⟨T.at (secTicks 60) ((T.chan {} (T.ready.setN (Chn.CH_CFG.FUNCTION 3) 5)).setR (Chn.CH_OUT.RAIL 3) (some 5)), 3, (by decide +kernel), (by decide +kernel), (by decide +kernel), (by decide +kernel), (by decide +kernel)⟩,
   ⟨T.ready, 15, (by decide +kernel), (by decide +kernel)⟩,
   ⟨T.at (secTicks 60) (T.chan { noLoop := true } (T.ready.setN (Chn.CH_CFG.FUNCTION 3) 6)), 3, (by decide +kernel), (by decide +kernel), (by decide +kernel), (by decide +kernel), (by decide +kernel)⟩,
   ⟨T.ready, .canA, 15, (by decide +kernel), (by decide +kernel), (T.takesWrite_iff _ _ _ _ _ _).1 (by decide +kernel)⟩⟩

/-- The hypotheses of `Obligations.ChannelCommandsAndHart` can be met, clause by clause. -/
theorem test_witness_ChannelCommandsAndHart :
  (∃ (s : State) (p : Path) (n : Nat), n < 16 ∧ s.chans.length = 16 ∧ s.takesWrite p (0x300F + 0x10 * n) 1 [1] (.n 1)) ∧
  (∃ (s : State) (p : Path) (n : Nat), n < 16 ∧ s.chans.length = 16 ∧ s.takesWrite p (0x300F + 0x10 * n) 1 [2] (.n 2)) ∧
  (∃ (s : State) (n : Nat) (kind : Nat) (at_ : Nat), n < 16 ∧ s.chans.length = 16 ∧ (s.chan n).busy = some (kind, at_) ∧ (kind = 1 ∨ kind = 2 ∨ kind = 3)) ∧
  (∃ (s : State) (p : Path) (n : Nat) (code : Nat), n < 16 ∧ s.chans.length = 16 ∧ s.takesWrite p (0x3000 + 0x10 * n) 1 (leBytes 1 code) (.n code)) ∧
  (∃ (s : State) (n : Nat), s.chans.length = 16 ∧ s.hartOn n = true ∧ s.getN (Chn.HART_CFG.LINK_STATE n) = 2 ∧ (s.chan n).hart.doing = 0 ∧ s.getN (Chn.HART_CFG.POLL_INTERVAL n) ≠ 0 ∧ (∀ a, (s.chan n).hart.pollAt = some a → s.passed a (msTicks (s.getN (Chn.HART_CFG.POLL_INTERVAL n))) = true)) ∧
  (∃ (s : State) (n : Nat) (f : HartFrame), s.chans.length = 16 ∧ s.hartOn n = true ∧ f.bad = false ∧ f.command = 0 ∧ (s.chan n).hart.doing = 1) ∧
  (∃ (s : State) (n : Nat) (f : HartFrame), s.chans.length = 16 ∧ s.hartOn n = true ∧ f.bad = false ∧ f.command = 3 ∧ (s.chan n).hart.doing = 2) ∧
  (∃ (s : State) (n : Nat) (f : HartFrame) (req : List Byte), s.chans.length = 16 ∧ s.hartOn n = true ∧ f.bad = false ∧ (s.chan n).hart.doing = 3 ∧ (s.chan n).hart.req = some req ∧ f.command = (req.headD 0).toNat) ∧
  (∃ (s : State) (n : Nat) (f : HartFrame), s.chans.length = 16 ∧ s.hartOn n = true ∧ f.bad = false ∧ f.command = 3) ∧
  (∃ (s : State) (n : Nat), s.chans.length = 16 ∧ s.hartOn n = true ∧ (s.chan n).hart.doing ≠ 0 ∧ s.passed (s.chan n).hart.sentAt (msTicks (s.getN (Chn.HART_CFG.TIMEOUT n))) = true) ∧
  (∃ (s : State) (n : Nat), s.chans.length = 16 ∧ s.hartOn n = true ∧ s.getN (Chn.HART_CFG.LINK_STATE n) = 3 ∧ (s.chan n).hart.doing = 0 ∧ s.passed (s.chan n).hart.failAt (secTicks 30) = true) ∧
  (∃ (s : State) (p : Path) (n : Nat) (d : List Byte), n < 16 ∧ s.chans.length = 16 ∧ s.takesWrite p (0x3005 + 0x10 * n) 1 d (.b d) ∧ s.getN (Chn.HART_CFG.HART_ENABLE n) ≠ 0 ∧ s.getN (Chn.HART_CFG.LINK_STATE n) = 2 ∧ s.getN (Chn.HART_XFER.XFER_STATE n) ≠ 1 ∧ s.getN (Chn.HART_XFER.XFER_STATE n) ≠ 2) ∧
  (∃ (s : State) (p : Path) (n : Nat) (d : List Byte), n < 16 ∧ s.chans.length = 16 ∧ s.takesWrite p (0x3005 + 0x10 * n) 1 d (.b d) ∧ (s.getN (Chn.HART_CFG.HART_ENABLE n) = 0 ∨ s.getN (Chn.HART_CFG.LINK_STATE n) ≠ 2 ∨ s.getN (Chn.HART_XFER.XFER_STATE n) = 1 ∨ s.getN (Chn.HART_XFER.XFER_STATE n) = 2)) :=
  ⟨⟨T.ready, .canA, 15, (by decide +kernel), (by decide +kernel), (T.takesWrite_iff _ _ _ _ _ _).1 (by decide +kernel)⟩,
   ⟨T.ready, .canA, 15, (by decide +kernel), (by decide +kernel), (T.takesWrite_iff _ _ _ _ _ _).1 (by decide +kernel)⟩,
   ⟨T.chan { busy := some (1, 0) } T.ready, 3, 1, 0, (by decide +kernel), (by decide +kernel), (by decide +kernel), (by decide +kernel)⟩,
   ⟨T.ready, .canA, 15, 2, (by decide +kernel), (by decide +kernel), (T.takesWrite_iff _ _ _ _ _ _).1 (by decide +kernel)⟩,
   ⟨(T.chan { hart := {  } } (((T.ready.setN (Chn.CH_CFG.FUNCTION 3) 2).setN (Chn.HART_CFG.HART_ENABLE 3) 1).setN (Chn.HART_CFG.LINK_STATE 3) 2)).setN (Chn.HART_CFG.POLL_INTERVAL 3) 500, 3, (by decide +kernel), (by decide +kernel), (by decide +kernel), (by decide +kernel), (by decide +kernel), (fun _ h => nomatch (show (none : Option Nat) = some _ from h))⟩,
   ⟨(T.chan { hart := { doing := 1 } } (((T.ready.setN (Chn.CH_CFG.FUNCTION 3) 2).setN (Chn.HART_CFG.HART_ENABLE 3) 1).setN (Chn.HART_CFG.LINK_STATE 3) 2)), 3, { command := 0, code := 0, status := 0, data := [], long := 7, bad := false }, (by decide +kernel), (by decide +kernel), (by decide +kernel), (by decide +kernel), (by decide +kernel)⟩,
   ⟨(T.chan { hart := { doing := 2 } } (((T.ready.setN (Chn.CH_CFG.FUNCTION 3) 2).setN (Chn.HART_CFG.HART_ENABLE 3) 1).setN (Chn.HART_CFG.LINK_STATE 3) 2)), 3, { command := 3, code := 0, status := 0, data := [], long := 7, bad := false }, (by decide +kernel), (by decide +kernel), (by decide +kernel), (by decide +kernel), (by decide +kernel)⟩,
   ⟨(T.chan { hart := { doing := 3, req := some [9] } } (((T.ready.setN (Chn.CH_CFG.FUNCTION 3) 2).setN (Chn.HART_CFG.HART_ENABLE 3) 1).setN (Chn.HART_CFG.LINK_STATE 3) 2)), 3, { command := 9, code := 0, status := 0, data := [], long := 7, bad := false }, [9], (by decide +kernel), (by decide +kernel), (by decide +kernel), (by decide +kernel), (by decide +kernel), (by decide +kernel)⟩,
   ⟨(T.chan { hart := {  } } (((T.ready.setN (Chn.CH_CFG.FUNCTION 3) 2).setN (Chn.HART_CFG.HART_ENABLE 3) 1).setN (Chn.HART_CFG.LINK_STATE 3) 2)), 3, { command := 3, code := 0, status := 0, data := [], long := 7, bad := false }, (by decide +kernel), (by decide +kernel), (by decide +kernel), (by decide +kernel)⟩,
   ⟨T.at (secTicks 60) (T.chan { hart := { doing := 1 } } (((T.ready.setN (Chn.CH_CFG.FUNCTION 3) 2).setN (Chn.HART_CFG.HART_ENABLE 3) 1).setN (Chn.HART_CFG.LINK_STATE 3) 2)), 3, (by decide +kernel), (by decide +kernel), (by decide +kernel), (by decide +kernel)⟩,
   ⟨T.at (secTicks 60) (T.chan { hart := {  } } (((T.ready.setN (Chn.CH_CFG.FUNCTION 3) 2).setN (Chn.HART_CFG.HART_ENABLE 3) 1).setN (Chn.HART_CFG.LINK_STATE 3) 3)), 3, (by decide +kernel), (by decide +kernel), (by decide +kernel), (by decide +kernel), (by decide +kernel)⟩,
   ⟨(T.chan { hart := {  } } (((T.ready.setN (Chn.CH_CFG.FUNCTION 3) 2).setN (Chn.HART_CFG.HART_ENABLE 3) 1).setN (Chn.HART_CFG.LINK_STATE 3) 2)), .canA, 3, [9], (by decide +kernel), (by decide +kernel), (T.takesWrite_iff _ _ _ _ _ _).1 (by decide +kernel), (by decide +kernel), (by decide +kernel), (by decide +kernel), (by decide +kernel)⟩,
   ⟨T.ready, .canA, 15, [9], (by decide +kernel), (by decide +kernel), (T.takesWrite_iff _ _ _ _ _ _).1 (by decide +kernel), (by decide +kernel)⟩⟩

/-- The hypotheses of `Obligations.CanPortsComplete` can be met, clause by clause. -/
theorem test_witness_CanPortsComplete :
  (∃ (s : State) (p : Nat) (f : CanFrame), s.canOn p = true ∧ (s.getN (Can.STATE p) = 1 ∨ s.getN (Can.STATE p) = 2) ∧ f.fd = true ∧ s.getN (Can.FD_ENABLE p) = 0) ∧
  (∃ (s : State) (p : Nat) (f : CanFrame), s.canOn p = true ∧ (s.getN (Can.STATE p) = 1 ∨ s.getN (Can.STATE p) = 2) ∧ (f.fd = false ∨ (s.getN (Can.FD_ENABLE p) ≠ 0 ∧ s.mode ≠ .recovery)) ∧ f.overrun = true) ∧
  (∃ (s : State) (p : Nat) (f : CanFrame), s.canOn p = true ∧ (s.getN (Can.STATE p) = 1 ∨ s.getN (Can.STATE p) = 2) ∧ (f.fd = false ∨ (s.getN (Can.FD_ENABLE p) ≠ 0 ∧ s.mode ≠ .recovery)) ∧ f.overrun = false ∧ f.rtr = true) ∧
  (∃ (s : State) (p : Nat) (f : CanFrame) (node : _), s.canOn p = true ∧ (s.getN (Can.STATE p) = 1 ∨ s.getN (Can.STATE p) = 2) ∧ f.fd = false ∧ f.overrun = false ∧ f.rtr = false ∧ f.ide = false ∧ f.id = 0 ∧ f.data = [1, BitVec.ofNat 8 node] ∧ (node = 0 ∨ node = (s.can p).node) ∧ node < 128 ∧ s.cans.length = 2) ∧
  (∃ (s : State) (p : Nat) (e : TxEntry) (rest : List TxEntry), p < 2 ∧ s.cans.length = 2 ∧ (s.getN (Can.STATE p) = 1 ∨ s.getN (Can.STATE p) = 2) ∧ (s.can p).fifo = e :: rest ∧ (e.kind ≠ .sdo ∨ s.md.stepAfter ≠ some (3, p))) ∧
  (∃ (s : State) (p : Nat) (tec : Nat) (rec_ : Nat), s.canOn p = true ∧ (s.getN (Can.STATE p) = 1 ∨ s.getN (Can.STATE p) = 2) ∧ (128 ≤ tec ∨ 128 ≤ rec_)) ∧
  (∃ (s : State) (p : Nat) (tec : Nat) (rec_ : Nat), s.canOn p = true ∧ (s.getN (Can.STATE p) = 1 ∨ s.getN (Can.STATE p) = 2) ∧ tec < 128 ∧ rec_ < 128) ∧
  (∃ (s : State) (p : Nat), s.cans.length = 2 ∧ s.canOn p = true ∧ (s.getN (Can.STATE p) = 1 ∨ s.getN (Can.STATE p) = 2)) ∧
  (∃ (s : State) (p : Nat), p < 2 ∧ s.cans.length = 2 ∧ s.getN (Can.STATE p) = 3 ∧ s.passed (s.can p).offAt (msTicks (s.getN (Can.BUSOFF_DELAY p))) = true) ∧
  (∃ (s : State) (p : Nat), p < 2 ∧ s.cans.length = 2 ∧ s.getN (Can.STATE p) = 3 ∧ (s.can p).recovering = true) ∧
  (∃ (s : State) (q : Path) (p : Nat), p < 2 ∧ s.cans.length = 2 ∧ s.takesWrite q (0x2700 + p) 9 [1] (.n 1) ∧ (s.can p).fifo = []) ∧
  (∃ (s : State) (q : Path) (p : Nat) (e : _) (rest : _), p < 2 ∧ s.cans.length = 2 ∧ s.takesWrite q (0x2700 + p) 9 [1] (.n 1) ∧ (s.can p).fifo = e :: rest) ∧
  (∃ (s : State) (st : Nat) (at_ : Nat), s.cans.length = 2 ∧ (s.md.transit = .toVault st at_ ∨ s.md.transit = .toWatch st at_) ∧ s.passed at_ (msTicks 100) = true) :=
  ⟨⟨((T.can .idle).setN (Can.STATE 0) 1).setN (Can.FD_ENABLE 0) 0, 0, { id := 5, ide := false, rtr := false, fd := true, data := [], overrun := false }, (by decide +kernel), (by decide +kernel), (by decide +kernel), (by decide +kernel)⟩,
   ⟨(T.can .idle).setN (Can.STATE 0) 2, 0, { id := 5, ide := false, rtr := false, fd := false, data := [], overrun := true }, (by decide +kernel), (by decide +kernel), (by decide +kernel), (by decide +kernel)⟩,
   ⟨(T.can .idle).setN (Can.STATE 0) 2, 0, { id := 5, ide := false, rtr := true, fd := false, data := [], overrun := false }, (by decide +kernel), (by decide +kernel), (by decide +kernel), (by decide +kernel), (by decide +kernel)⟩,
   ⟨(let c : CanRt := { node := 127 }; ({ (T.can .idle).setN (Can.STATE 0) 1 with cans := [c, {}] })), 0, { id := 0, ide := false, rtr := false, fd := false, data := [1, 127], overrun := false }, 127, (by decide +kernel), (by decide +kernel), (by decide +kernel), (by decide +kernel), (by decide +kernel), (by decide +kernel), (by decide +kernel), (by decide +kernel), (by decide +kernel), (by decide +kernel), (by decide +kernel)⟩,
   ⟨(let c : CanRt := { fifo := [{ id := 5, data := [], kind := .tpdo }] }; ({ (T.can .idle).setN (Can.STATE 0) 2 with cans := [c, {}] })), 0, { id := 5, data := [], kind := .tpdo }, [], (by decide +kernel), (by decide +kernel), (by decide +kernel), (by decide +kernel), (by decide +kernel)⟩,
   ⟨(T.can .idle).setN (Can.STATE 0) 1, 0, 130, 0, (by decide +kernel), (by decide +kernel), (by decide +kernel)⟩,
   ⟨(T.can .idle).setN (Can.STATE 0) 1, 0, 127, 127, (by decide +kernel), (by decide +kernel), (by decide +kernel), (by decide +kernel)⟩,
   ⟨(T.can .idle).setN (Can.STATE 0) 2, 0, (by decide +kernel), (by decide +kernel), (by decide +kernel)⟩,
   ⟨T.at (secTicks 600) ((T.can .idle).setN (Can.STATE 0) 3), 0, (by decide +kernel), (by decide +kernel), (by decide +kernel), (by decide +kernel)⟩,
   ⟨(let c : CanRt := { recovering := true }; ({ (T.can .idle).setN (Can.STATE 0) 3 with cans := [c, {}] })), 0, (by decide +kernel), (by decide +kernel), (by decide +kernel), (by decide +kernel)⟩,
   ⟨(T.can .idle).setN (Can.STATE 0) 1, .canA, 0, (by decide +kernel), (by decide +kernel), (T.takesWrite_iff _ _ _ _ _ _).1 (by decide +kernel), (by decide +kernel)⟩,
   ⟨(let c : CanRt := { nmt := 5, fifo := [{ id := 5, data := [], kind := .tpdo }] }; ({ (T.can .idle).setN (Can.STATE 0) 1 with cans := [c, {}] })), .canA, 0, ({ id := 5, data := [], kind := .tpdo } : TxEntry), ([] : List TxEntry), (by decide +kernel), (by decide +kernel), (T.takesWrite_iff _ _ _ _ _ _).1 (by decide +kernel), (by decide +kernel)⟩,
   ⟨T.at (msTicks 100) (T.ready.updMd (fun x => { x with transit := .toWatch 1 0 })), 1, 0, (by decide +kernel), (by decide +kernel), (by decide +kernel)⟩⟩

/-- The hypotheses of `Obligations.TwoWirePortsComplete` can be met, clause by clause. -/
theorem test_witness_TwoWirePortsComplete :
  (∃ (s : State) (i : Nat), 1 ≤ i ∧ i ≤ 16 ∧ s.twa.due = List.replicate 16 0 ∧ s.twa.lastDue.length = 16 ∧ s.twaOn = true ∧ s.twa.running = none ∧ slotRuns (s.slotWord i) = true ∧ bits (s.slotWord i) 47 32 ≠ 0 ∧ s.passed (s.twa.lastDue.getD (i - 1) 0) (msTicks (bits (s.slotWord i) 47 32)) = true) ∧
  (∃ (s : State) (i : Nat) (r : Nat × Nat), 1 ≤ i ∧ i ≤ 16 ∧ s.twa.due.length = 16 ∧ s.twa.lastDue.length = 16 ∧ s.twaOn = true ∧ s.twa.running = some r ∧ slotRuns (s.slotWord i) = true ∧ bits (s.slotWord i) 47 32 ≠ 0 ∧ s.passed (s.twa.lastDue.getD (i - 1) 0) (msTicks (bits (s.slotWord i) 47 32)) = true) ∧
  (∃ (s : State) (p : Path) (mask : Nat) (r : Nat × Nat), s.takesWrite p 0x2600 6 (leBytes 2 mask) (.n mask) ∧ s.twaOn = true ∧ s.twa.due.length = 16 ∧ s.twa.running = some r) ∧
  (∃ (s : State) (p : Path) (i : Nat), 1 ≤ i ∧ i ≤ 16 ∧ s.takesWrite p 0x2600 6 (leBytes 2 (2 ^ (i - 1))) (.n (2 ^ (i - 1))) ∧ s.twaOn = true ∧ s.twa.due = List.replicate 16 0 ∧ s.twa.running = none ∧ slotRuns (s.slotWord i) = true ∧ bits (s.slotWord i) 47 32 = 0) ∧
  (∃ (s : State) (i : Nat) (w : Nat), 1 ≤ i ∧ i ≤ 16 ∧ s.twa.okAt.length = 16 ∧ s.twa.running = some (i, w)) ∧
  (∃ (s : State) (i : Nat) (at_ : Nat), 1 ≤ i ∧ i ≤ 16 ∧ s.twa.due = List.replicate 16 0 ∧ s.twa.running = none ∧ s.twaOn = true ∧ s.twa.retry = [(i, at_)] ∧ s.passed at_ (msTicks 1) = true ∧ slotRuns (s.slotWord i) = true) ∧
  (∃ (s : State), s.twaOn = true ∧ s.getN Obj.TWA_CFG.CLK_LOW_TIMEOUT ≠ 0) ∧
  (∃ (s : State), s.twbOn = true ∧ s.getN Obj.TWB_CFG.CLK_LOW_TIMEOUT ≠ 0) ∧
  (∃ (s : State), s.twaOn = true ∧ s.getN Obj.TWA_CFG.DATA_LOW_TIMEOUT ≠ 0) ∧
  (∃ (s : State), s.twbOn = true ∧ s.getN Obj.TWB_CFG.DATA_LOW_TIMEOUT ≠ 0) ∧
  (∃ (s : State) (ptr : Nat), s.twbOn = true ∧ s.twbWindow = 0 ∧ 0x1000 ≤ ptr ∧ ptr < 0x5000) ∧
  (∃ (s : State) (b : Byte), s.twbOn = true ∧ s.twbWindow = 0 ∧ b ≠ 0 ∧ s.twb.req ≠ none) ∧
  (∃ (s : State) (b : Byte), s.twbOn = true ∧ s.twbWindow = 0 ∧ b ≠ 0 ∧ s.twb.req = none ∧ s.mustWait = false ∧ (b.toNat = s.twb.rsp.id → s.twb.rsp.state = 0) ∧ SMap.get noByte s.twb.mem 1 = 3) ∧
  (∃ (s : State), s.twbOn = true ∧ s.mode ≠ .recovery) ∧
  (∃ (s : State), s.twbOn = true ∧ s.md.stepAfter ≠ some (4, 1)) ∧
  (∃ (s : State) (r : MailRsp), s.twb.made = some r) ∧
  (∃ (s : State), s.served = true ∧ s.twbOn = true ∧ s.twb.want = true ∧ s.twb.retryAt = none) ∧
  (∃ (s : State) (ms : Nat) (at_ : Nat), s.served = true ∧ s.twbOn = true ∧ s.twb.want = true ∧ s.twb.retryAt = some (ms, at_) ∧ s.passed at_ (msTicks ms) = true) :=
  ⟨⟨T.at (secTicks 1) ((T.ready.setN Obj.TWA_CFG.ENABLE 1).setN (Obj.TWA_CFG.SLOT 16) 0x3E800000420), 16, (by decide +kernel), (by decide +kernel), (by decide +kernel), (by decide +kernel), (by decide +kernel), (by decide +kernel), (by decide +kernel), (by decide +kernel), (by decide +kernel)⟩,
   ⟨T.at (secTicks 1) ({ ((T.ready.setN Obj.TWA_CFG.ENABLE 1).setN (Obj.TWA_CFG.SLOT 16) 0x3E800000420) with twa := { running := some (1, 0) } }), 16, (1, 0), (by decide +kernel), (by decide +kernel), (by decide +kernel), (by decide +kernel), (by decide +kernel), (by decide +kernel), (by decide +kernel), (by decide +kernel), (by decide +kernel)⟩,
   ⟨({ (T.ready.setN Obj.TWA_CFG.ENABLE 1) with twa := { running := some (1, 0) } }), .canA, 0xFFFF, (1, 0), (T.takesWrite_iff _ _ _ _ _ _).1 (by decide +kernel), (by decide +kernel), (by decide +kernel), (by decide +kernel)⟩,
   ⟨(T.ready.setN Obj.TWA_CFG.ENABLE 1).setN (Obj.TWA_CFG.SLOT 16) 0x420, .canA, 16, (by decide +kernel), (by decide +kernel), (T.takesWrite_iff _ _ _ _ _ _).1 (by decide +kernel), (by decide +kernel), (by decide +kernel), (by decide +kernel), (by decide +kernel), (by decide +kernel)⟩,
   ⟨({ (T.ready.setN Obj.TWA_CFG.ENABLE 1) with twa := { running := some (16, 0x3E800000420) } }), 16, 0x3E800000420, (by decide +kernel), (by decide +kernel), (by decide +kernel), (by decide +kernel)⟩,
   ⟨T.at (msTicks 1) ({ ((T.ready.setN Obj.TWA_CFG.ENABLE 1).setN (Obj.TWA_CFG.SLOT 16) 0x420) with twa := { retry := [(16, 0)] } }), 16, 0, (by decide +kernel), (by decide +kernel), (by decide +kernel), (by decide +kernel), (by decide +kernel), (by decide +kernel), (by decide +kernel), (by decide +kernel)⟩,
   ⟨(T.ready.setN Obj.TWA_CFG.ENABLE 1), (by decide +kernel), (by decide +kernel)⟩,
   ⟨({ T.ready.setN Obj.TWB_CFG.ENABLE 1 with twb := {  } }), (by decide +kernel), (by decide +kernel)⟩,
   ⟨(T.ready.setN Obj.TWA_CFG.ENABLE 1), (by decide +kernel), (by decide +kernel)⟩,
   ⟨({ T.ready.setN Obj.TWB_CFG.ENABLE 1 with twb := {  } }), (by decide +kernel), (by decide +kernel)⟩,
   ⟨({ T.ready.setN Obj.TWB_CFG.ENABLE 1 with twb := {  } }), 0x4FFF, (by decide +kernel), (by decide +kernel), (by decide +kernel), (by decide +kernel)⟩,
   ⟨({ T.ready.setN Obj.TWB_CFG.ENABLE 1 with twb := { req := some ⟨1, 1, 0x1018, 1, true, false, 0, 0, 4, []⟩ } }), 7, (by decide +kernel), (by decide +kernel), (by decide +kernel), (by decide +kernel)⟩,
   ⟨({ T.ready.setN Obj.TWB_CFG.ENABLE 1 with twb := { mem := [(1, 3)] } }), 7, (by decide +kernel), (by decide +kernel), (by decide +kernel), (by decide +kernel), (by decide +kernel), (by decide +kernel), (by decide +kernel)⟩,
   ⟨({ T.ready.setN Obj.TWB_CFG.ENABLE 1 with twb := {  } }), (by decide +kernel), (by decide +kernel)⟩,
   ⟨({ T.ready.setN Obj.TWB_CFG.ENABLE 1 with twb := {} }), (by decide +kernel), (by decide +kernel)⟩,
   ⟨({ T.ready.setN Obj.TWB_CFG.ENABLE 1 with twb := { made := some { id := 7, state := 1 } } }), { id := 7, state := 1 }, (by decide +kernel)⟩,
   ⟨({ T.ready.setN Obj.TWB_CFG.ENABLE 1 with twb := { want := true } }), (by decide +kernel), (by decide +kernel), (by decide +kernel), (by decide +kernel)⟩,
   ⟨T.at (msTicks 10) ({ T.ready.setN Obj.TWB_CFG.ENABLE 1 with twb := { want := true, retryAt := some (10, 0) } }), 10, 0, (by decide +kernel), (by decide +kernel), (by decide +kernel), (by decide +kernel), (by decide +kernel)⟩⟩

/-- The hypotheses of `Obligations.RecorderCommandsComplete` can be met, clause by clause. -/
theorem test_witness_RecorderCommandsComplete :
  (∃ (s : State) (code : Nat) (sev : Nat), s.mode ≠ .vault ∧ s.mode ≠ .recovery ∧ s.recd.closed = false ∧ (s.vest.dropped = 0 ∨ s.recFree ≤ 128) ∧ s.ramOnly = false ∧ (64 < s.recFree ∨ (code ≠ 3 ∧ sev = 2 ∧ 1 < s.recFree) ∨ (code = 3 ∧ 0 < s.recFree))) ∧
  (∃ (s : State) (code : Nat) (sev : Nat), s.mode ≠ .vault ∧ s.mode ≠ .recovery ∧ s.recd.closed = false ∧ (s.vest.dropped = 0 ∨ s.recFree ≤ 128) ∧ s.ramOnly = false ∧ s.recFree ≤ 64 ∧ (code = 3 → s.recFree = 0) ∧ (sev = 2 → s.recFree ≤ 1)) ∧
  (∃ (s : State), s.recAwake = true ∧ s.recRoom = true ∧ s.drainTurn = true ∧ 0 < s.pageSize ∧ s.recd.inProg.length < (if s.recd.flushTo.isSome then 4 else 1) ∧ s.freshBlock = none) ∧
  (∃ (s : State) (i : _) (b : _), s.recAwake = true ∧ s.recRoom = true ∧ s.drainTurn = true ∧ 0 < s.pageSize ∧ s.recd.inProg.length < (if s.recd.flushTo.isSome then 4 else 1) ∧ s.freshBlock = some i ∧ s.recd.erased[i]? = some b ∧ s.recd.erasing = none) ∧
  (∃ (s : State) (k : Nat) (rest : List Nat), s.recd.inProg = k :: rest) ∧
  (∃ (s : State) (p : Path), s.takesWrite p 0x2200 1 [1] (.n 1)) ∧
  (∃ (s : State) (b : RecBlock) (b' : RecBlock) (rest : List RecBlock), s.recd.circ = b :: b' :: rest ∧ s.recAwake = true ∧ s.recd.erased.length < 2 ∧ s.recd.erasing = none ∧ s.held b = false ∧ s.getN Obj.RECORDER_CTRL.STATE ≠ 3 ∧ s.worn b.id b.retire = false) ∧
  (∃ (s : State) (b : RecBlock) (b' : RecBlock) (rest : List RecBlock) (e : _) (es : _), s.recd.circ = b :: b' :: rest ∧ s.recAwake = true ∧ s.recd.erased.length < 2 ∧ s.recd.erasing = none ∧ s.held b = false ∧ s.getN Obj.RECORDER_CTRL.STATE ≠ 3 ∧ s.worn b.id b.retire = true ∧ s.recd.spare = e :: es) ∧
  (∃ (s : State) (b : RecBlock) (b' : RecBlock) (rest : List RecBlock), s.recd.circ = b :: b' :: rest ∧ s.recAwake = true ∧ s.recd.erased.length < 2 ∧ s.recd.erasing = none ∧ s.held b = false ∧ s.getN Obj.RECORDER_CTRL.STATE ≠ 3 ∧ s.worn b.id b.retire = true ∧ s.recd.spare = []) ∧
  (∃ (s : State) (b : Nat), s.recd.erasing = some b) ∧
  (∃ (s : State) (b : Nat), s.recd.erasing = none ∧ s.recd.eraseArch = some b) ∧
  (∃ (s : State), s.recd.ready = false ∧ (s.mode = .ready ∨ s.mode = .run ∨ s.mode = .lockout)) ∧
  (∃ (s : State) (p : Path) (c : Nat), s.takesWrite p 0x2201 7 (leBytes 4 c) (.n c) ∧ c = 0) ∧
  (∃ (s : State) (p : Path) (c : Nat), s.takesWrite p 0x2201 7 (leBytes 4 c) (.n c) ∧ 0 < c) ∧
  (∃ (s : State) (p : Path), s.takesRead p 0x2202 1 ∧ s.recd.ready = true) ∧
  (∃ (s : State) (p : Path), s.takesRead p 0x2202 1 ∧ s.recd.ready = false) ∧
  (∃ (s : State) (p : Path) (x : Snap), s.recd.snaps.find? (fun y => y.path == p.code) = some x ∧ (s.passed x.readAt (secTicks 600) = true ∨ (2048 ≤ s.recd.buffer.length ∧ s.recd.erased.length < 2 ∧ ∃ b rest, s.recd.circ = b :: rest ∧ ∃ r ∈ b.recs, x.lo ≤ r.seq ∧ r.seq ≤ x.hi))) ∧
  (∃ (s : State) (at_ : Nat), s.recd.closeAt = some at_ ∧ at_ ≤ s.root) :=
  ⟨⟨T.ready.updRec (fun x => { x with erased := [64, 65] }), 5, 2, (by decide +kernel), (by decide +kernel), (by decide +kernel), (by decide +kernel), (by decide +kernel), (by decide +kernel)⟩,
   ⟨T.full, 5, 1, (by decide +kernel), (by decide +kernel), (by decide +kernel), (by decide +kernel), (by decide +kernel), (by decide +kernel), (by decide +kernel), (by decide +kernel)⟩,
   ⟨T.ready.updRec (fun x => { x with ready := true, flushTo := some 1, buffer := [⟨1, 0, 0, 0, 0, 0, 5, 0, 0, 0, []⟩] }), (by decide +kernel), (by decide +kernel), (by decide +kernel), (by decide +kernel), (by decide +kernel), (by decide +kernel)⟩,
   ⟨T.ready.updRec (fun x => { x with ready := true, flushTo := some 1, erased := [70], permClosed := true, circ := [⟨64, 128, [], false, false⟩], buffer := [⟨1, 0, 0, 0, 0, 0, 5, 0, 0, 0, []⟩] }), 0, 70, (by decide +kernel), (by decide +kernel), (by decide +kernel), (by decide +kernel), (by decide +kernel), (by decide +kernel), (by decide +kernel), (by decide +kernel)⟩,
   ⟨T.ready.updRec (fun x => { x with inProg := [1], buffer := [⟨1, 0, 0, 0, 0, 0, 5, 0, 0, 0, []⟩] }), 1, [], (by decide +kernel)⟩,
   ⟨T.ready, .canA, (T.takesWrite_iff _ _ _ _ _ _).1 (by decide +kernel)⟩,
   ⟨T.ready.updRec (fun x => { x with ready := true, erased := [70], circ := [⟨64, 128, [], false, false⟩, ⟨65, 3, [], false, false⟩] }), ⟨64, 128, [], false, false⟩, ⟨65, 3, [], false, false⟩, [], (by decide +kernel), (by decide +kernel), (by decide +kernel), (by decide +kernel), (by decide +kernel), (by decide +kernel), (by decide +kernel)⟩,
   ⟨T.ready.updRec (fun x => { x with ready := true, erased := [70], spare := [71, 72], circ := [⟨64, 128, [], true, false⟩, ⟨65, 3, [], false, false⟩] }), ⟨64, 128, [], true, false⟩, ⟨65, 3, [], false, false⟩, [], 71, [72], (by decide +kernel), (by decide +kernel), (by decide +kernel), (by decide +kernel), (by decide +kernel), (by decide +kernel), (by decide +kernel), (by decide +kernel)⟩,
   ⟨T.ready.updRec (fun x => { x with ready := true, spare := [], erased := [70], circ := [⟨64, 128, [], true, false⟩, ⟨65, 3, [], false, false⟩] }), ⟨64, 128, [], true, false⟩, ⟨65, 3, [], false, false⟩, [], (by decide +kernel), (by decide +kernel), (by decide +kernel), (by decide +kernel), (by decide +kernel), (by decide +kernel), (by decide +kernel), (by decide +kernel)⟩,
   ⟨T.ready.updRec (fun x => { x with erasing := some 64 }), 64, (by decide +kernel)⟩,
   ⟨T.ready.updRec (fun x => { x with eraseArch := some 3648 }), 3648, (by decide +kernel), (by decide +kernel)⟩,
   ⟨T.ready, (by decide +kernel), (by decide +kernel)⟩,
   ⟨T.ready, .canA, 0, (T.takesWrite_iff _ _ _ _ _ _).1 (by decide +kernel), (by decide +kernel)⟩,
   ⟨T.ready, .canA, 4096, (T.takesWrite_iff _ _ _ _ _ _).1 (by decide +kernel), (by decide +kernel)⟩,
   ⟨T.ready.updRec (fun x => { x with ready := true }), .canA, (T.takesRead_iff _ _ _ _).1 (by decide +kernel), (by decide +kernel)⟩,
   ⟨T.ready, .canA, (T.takesRead_iff _ _ _ _).1 (by decide +kernel), (by decide +kernel)⟩,
   ⟨T.at (secTicks 600) (T.ready.updRec (fun x => { x with snaps := [⟨Path.code .canA, 1, 5, 0⟩] })), .canA, ⟨Path.code .canA, 1, 5, 0⟩, (by decide +kernel), Or.inl (by decide +kernel)⟩,
   ⟨T.ready.updRec (fun x => { x with closeAt := some 0 }), 0, (by decide +kernel), (by decide +kernel)⟩⟩

/-- The hypotheses of `Obligations.UpdateCommandsComplete` can be met, clause by clause. -/
theorem test_witness_UpdateCommandsComplete :
  (∃ (s : State) (p : Path), s.takesWrite p 0x2300 1 [1] (.n 1) ∧ (s.updState = 0 ∨ s.updState = 4 ∨ s.updState = 5) ∧ 512 ≤ s.getN Obj.UPDATE_CTRL.LENGTH ∧ s.getN Obj.UPDATE_CTRL.LENGTH ≤ 67108864 ∧ s.nand.slots.length = 2 ∧ s.downSlot < 2) ∧
  (∃ (s : State) (p : Path), s.takesWrite p 0x2300 1 [1] (.n 1) ∧ (s.updState = 1 ∨ s.updState = 2 ∨ s.updState = 3 ∨ 6 ≤ s.updState ∨ s.getN Obj.UPDATE_CTRL.LENGTH < 512 ∨ 67108864 < s.getN Obj.UPDATE_CTRL.LENGTH)) ∧
  (∃ (s : State), s.updState = 1) ∧
  (∃ (s : State) (p : Path) (d : List Byte), s.takesWrite p 0x2301 1 d (.b d) ∧ s.updState = 2 ∧ s.upd.owner = some p ∧ s.getN Obj.UPDATE_CTRL.RECEIVED + d.length ≤ s.upd.len ∧ s.nand.slots.length = 2 ∧ s.upd.slot < 2) ∧
  (∃ (s : State) (p : Path) (d : List Byte), s.takesWrite p 0x2301 1 d (.b d) ∧ s.updState = 2 ∧ s.upd.owner = some p ∧ s.upd.len < s.getN Obj.UPDATE_CTRL.RECEIVED + d.length) ∧
  (∃ (s : State) (p : Path) (d : List Byte), s.takesWrite p 0x2301 1 d (.b d) ∧ (s.updState ≠ 2 ∨ s.upd.owner ≠ some p)) ∧
  (∃ (s : State) (p : Path), s.takesWrite p 0x2300 1 [2] (.n 2) ∧ s.updState = 2 ∧ s.getN Obj.UPDATE_CTRL.RECEIVED = s.upd.len) ∧
  (∃ (s : State) (p : Path), s.takesWrite p 0x2300 1 [2] (.n 2) ∧ s.updState = 2 ∧ s.getN Obj.UPDATE_CTRL.RECEIVED ≠ s.upd.len) ∧
  (∃ (s : State) (p : Path), s.takesWrite p 0x2300 1 [2] (.n 2) ∧ s.updState ≠ 2) ∧
  (T.signed = true → ∃ (s : State), s.updState = 3 ∧ s.nand.slots.length = 2 ∧ s.upd.slot < 2 ∧ s.imageCheck (s.slot s.upd.slot).header s.upd.len = none) ∧
  (∃ (s : State) (b : _), s.updState = 3 ∧ s.nand.slots.length = 2 ∧ s.upd.slot < 2 ∧ s.imageCheck (s.slot s.upd.slot).header s.upd.len = some b) ∧
  (T.signed = true → ∃ (s : State) (p : Path), s.takesWrite p 0x2300 1 [3] (.n 3) ∧ s.updState = 4 ∧ s.mode ≠ .recovery ∧ s.activateBlocked = false ∧ s.slotCheck s.upd.slot = none ∧ s.warmFits s.upd.slot = true) ∧
  (∃ (s : State) (p : Path) (b : _), s.takesWrite p 0x2300 1 [3] (.n 3) ∧ s.updState = 4 ∧ s.slotCheck s.upd.slot = some b ∧ s.nand.slots.length = 2 ∧ s.upd.slot < 2 ∧ (s.mode = .recovery ∨ (s.activateBlocked = false ∧ (s.warmFits s.upd.slot = true ∨ s.mode ≠ .run)))) ∧
  (∃ (s : State) (p : Path), s.takesWrite p 0x2300 1 [3] (.n 3) ∧ s.updState = 4 ∧ s.mode = .recovery ∧ s.powerDown = false ∧ s.slotCheck s.upd.slot = none ∧ s.nand.slots.length = 2 ∧ s.upd.slot < 2) ∧
  (∃ (s : State) (p : Path), s.takesWrite p 0x2300 1 [3] (.n 3) ∧ s.updState = 4 ∧ (s.mode = .ready ∨ s.mode = .lockout) ∧ s.powerDown = false ∧ s.activateBlocked = false ∧ s.slotCheck s.upd.slot = none ∧ s.warmFits s.upd.slot = false ∧ s.nand.slots.length = 2 ∧ s.upd.slot < 2) ∧
  (∃ (s : State) (p : Path), s.takesWrite p 0x2300 1 [3] (.n 3) ∧ (s.updState ≠ 4 ∨ (s.mode ≠ .recovery ∧ s.activateBlocked = true) ∨ (s.mode = .run ∧ s.warmFits s.upd.slot = false))) ∧
  (∃ (s : State), s.updState = 6 ∧ s.upd.prepAt ≠ none ∧ s.nand.slots.length = 2 ∧ s.upd.slot < 2) ∧
  (∃ (s : State) (at_ : Nat), s.upd.pauseAt = some at_ ∧ s.usSince at_ ≤ 25000) ∧
  (∃ (s : State) (at_ : Nat), s.upd.pauseAt = some at_ ∧ s.passed at_ 7812500 = true ∧ s.nand.slots.length = 2 ∧ s.nand.active < 2) ∧
  (∃ (s : State) (p : Path), s.takesWrite p 0x2300 1 [4] (.n 4) ∧ s.updState = 7 ∧ s.mode ≠ .recovery ∧ s.nand.slots.length = 2 ∧ s.nand.active < 2) ∧
  (∃ (s : State) (p : Path), s.takesWrite p 0x2300 1 [4] (.n 4) ∧ (s.updState ≠ 7 ∨ s.mode = .recovery)) ∧
  (∃ (s : State) (p : Path), s.takesWrite p 0x2300 1 [5] (.n 5) ∧ 1 ≤ s.updState ∧ s.updState ≤ 5 ∧ s.nand.slots.length = 2 ∧ s.upd.slot < 2) ∧
  (∃ (s : State) (p : Path), s.takesWrite p 0x2300 1 [5] (.n 5) ∧ (s.updState = 0 ∨ 5 < s.updState)) ∧
  (∃ (s : State), s.updState = 7 ∧ s.powerDown = false ∧ s.passed s.upd.trialAt (secTicks 120) = true ∧ s.nand.slots.length = 2 ∧ s.nand.active < 2 ∧ (s.warmFits (otherSlot s.nand.active) = true ∨ s.mode = .ready ∨ s.mode = .lockout)) :=
  ⟨⟨({ (T.ready.setN Obj.UPDATE_CTRL.STATE 0).setN Obj.UPDATE_CTRL.LENGTH 67108864 with nand := { slots := [{}, {}] }, upd := {  } }), .canA, (T.takesWrite_iff _ _ _ _ _ _).1 (by decide +kernel), (by decide +kernel), (by decide +kernel), (by decide +kernel), (by decide +kernel), (by decide +kernel)⟩,
   ⟨({ (T.ready.setN Obj.UPDATE_CTRL.STATE 1).setN Obj.UPDATE_CTRL.LENGTH 67108864 with nand := { slots := [{}, {}] }, upd := {  } }), .canA, (T.takesWrite_iff _ _ _ _ _ _).1 (by decide +kernel), (by decide +kernel)⟩,
   ⟨T.ready.setN Obj.UPDATE_CTRL.STATE 1, (by decide +kernel)⟩,
   ⟨({ (T.ready.setN Obj.UPDATE_CTRL.STATE 2).setN Obj.UPDATE_CTRL.RECEIVED 510 with nand := { slots := [{}, {}] }, upd := { owner := some .canA, len := 512 } }), .canA, [1,2], (T.takesWrite_iff _ _ _ _ _ _).1 (by decide +kernel), (by decide +kernel), (by decide +kernel), (by decide +kernel), (by decide +kernel), (by decide +kernel)⟩,
   ⟨({ (T.ready.setN Obj.UPDATE_CTRL.STATE 2).setN Obj.UPDATE_CTRL.RECEIVED 511 with nand := { slots := [{}, {}] }, upd := { owner := some .canA, len := 512 } }), .canA, [1,2], (T.takesWrite_iff _ _ _ _ _ _).1 (by decide +kernel), (by decide +kernel), (by decide +kernel), (by decide +kernel)⟩,
   ⟨({ (T.ready.setN Obj.UPDATE_CTRL.STATE 2) with nand := { slots := [{}, {}] }, upd := {  } }), .canA, [1,2], (T.takesWrite_iff _ _ _ _ _ _).1 (by decide +kernel), (by decide +kernel)⟩,
   ⟨({ (T.ready.setN Obj.UPDATE_CTRL.STATE 2).setN Obj.UPDATE_CTRL.RECEIVED 512 with nand := { slots := [{}, {}] }, upd := { owner := some .canA, len := 512 } }), .canA, (T.takesWrite_iff _ _ _ _ _ _).1 (by decide +kernel), (by decide +kernel), (by decide +kernel)⟩,
   ⟨({ (T.ready.setN Obj.UPDATE_CTRL.STATE 2).setN Obj.UPDATE_CTRL.RECEIVED 511 with nand := { slots := [{}, {}] }, upd := { owner := some .canA, len := 512 } }), .canA, (T.takesWrite_iff _ _ _ _ _ _).1 (by decide +kernel), (by decide +kernel), (by decide +kernel)⟩,
   ⟨({ (T.ready.setN Obj.UPDATE_CTRL.STATE 3) with nand := { slots := [{}, {}] }, upd := {  } }), .canA, (T.takesWrite_iff _ _ _ _ _ _).1 (by decide +kernel), (by decide +kernel)⟩,
   fun hsig => ⟨T.store 3 T.slotImg T.slotImg, (by decide +kernel), (by decide +kernel), (by decide +kernel), T.img_check (T.store 3 T.slotImg T.slotImg) rfl rfl rfl rfl hsig⟩,
   ⟨({ (T.ready.setN Obj.UPDATE_CTRL.STATE 3) with nand := { slots := [{}, {}] }, upd := {  } }), 0, (by decide +kernel), (by decide +kernel), (by decide +kernel), (by decide +kernel)⟩,
   fun hsig => ⟨T.store 4 T.slotImg T.slotImg, .canA, (T.takesWrite_iff _ _ _ _ _ _).1 (by decide +kernel), (by decide +kernel), (by decide +kernel), (by decide +kernel), T.store_check 4 T.slotImg hsig, T.store_warm 4⟩,
   ⟨({ (T.ready.setN Obj.UPDATE_CTRL.STATE 4) with nand := { slots := [{}, {}] }, upd := {  } }), .canA, 0, (T.takesWrite_iff _ _ _ _ _ _).1 (by decide +kernel), (by decide +kernel), (by decide +kernel), (by decide +kernel), (by decide +kernel), (by decide +kernel)⟩,
   ⟨T.unfit.updMd (fun x => { x with mode := .recovery }), .canA, (T.takesWrite_iff _ _ _ _ _ _).1 (by decide +kernel), (by decide +kernel), (by decide +kernel), (by decide +kernel), T.unfit_check, (by decide +kernel), (by decide +kernel)⟩,
   ⟨T.unfit, .canA, (T.takesWrite_iff _ _ _ _ _ _).1 (by decide +kernel), (by decide +kernel), (by decide +kernel), (by decide +kernel), (by decide +kernel), T.unfit_check, T.unfit_warm, (by decide +kernel), (by decide +kernel)⟩,
   ⟨({ (T.ready.setN Obj.UPDATE_CTRL.STATE 5) with nand := { slots := [{}, {}] }, upd := {  } }), .canA, (T.takesWrite_iff _ _ _ _ _ _).1 (by decide +kernel), Or.inl (by decide +kernel)⟩,
   ⟨({ T.ready.setN Obj.UPDATE_CTRL.STATE 6 with upd := { prepAt := some 0 } }), (by decide +kernel), (by decide +kernel), (by decide +kernel), (by decide +kernel)⟩,
   ⟨T.at 7812812 ({ T.ready.setN Obj.UPDATE_CTRL.STATE 6 with upd := { pauseAt := some 0 } }), 0, (by decide +kernel), (by decide +kernel)⟩,
   ⟨T.at 7812500 ({ T.ready.setN Obj.UPDATE_CTRL.STATE 6 with upd := { pauseAt := some 0 } }), 0, (by decide +kernel), (by decide +kernel), (by decide +kernel), (by decide +kernel)⟩,
   ⟨({ (T.ready.setN Obj.UPDATE_CTRL.STATE 7) with nand := { slots := [{}, {}] }, upd := {  } }), .canA, (T.takesWrite_iff _ _ _ _ _ _).1 (by decide +kernel), (by decide +kernel), (by decide +kernel), (by decide +kernel), (by decide +kernel)⟩,
   ⟨({ (T.ready.setN Obj.UPDATE_CTRL.STATE 6) with nand := { slots := [{}, {}] }, upd := {  } }), .canA, (T.takesWrite_iff _ _ _ _ _ _).1 (by decide +kernel), (by decide +kernel)⟩,
   ⟨({ (T.ready.setN Obj.UPDATE_CTRL.STATE 5) with nand := { slots := [{}, {}] }, upd := {  } }), .canA, (T.takesWrite_iff _ _ _ _ _ _).1 (by decide +kernel), (by decide +kernel), (by decide +kernel), (by decide +kernel), (by decide +kernel)⟩,
   ⟨({ (T.ready.setN Obj.UPDATE_CTRL.STATE 6) with nand := { slots := [{}, {}] }, upd := {  } }), .canA, (T.takesWrite_iff _ _ _ _ _ _).1 (by decide +kernel), (by decide +kernel)⟩,
   ⟨T.at (secTicks 120) ({ T.ready.setN Obj.UPDATE_CTRL.STATE 7 with nand := { slots := [T.slot, T.slot] } }), (by decide +kernel), (by decide +kernel), (by decide +kernel), (by decide +kernel), (by decide +kernel), (by decide +kernel)⟩⟩

end Sys2Proof
end
end

section
/-! Writes of an SRAM line (R41, R42): what a line reads as after a write, what a checked read of a line without upset bits does, and that
the report of a poisoned line to its owner (Table 1-12) leaves every line and SRAM_POISONED as they are. -/
namespace Sys2Proof.Machine

/-! ### Lines -/

/-- A line depends on its Gallery's SRAM only. -/
theorem State.line_congr {s t : State} {m : Nat} (h : (t.g m).sram = (s.g m).sram) (a : Nat) : t.line m a = s.line m a := by
  simp only [State.line, h]

@[simp] theorem State.line_inc (s : State) (k m a : Nat) : (s.inc k).line m a = s.line m a := rfl
@[simp] theorem State.line_addTo (s : State) (k d m a : Nat) : (s.addTo k d).line m a = s.line m a := rfl

@[simp] theorem State.setLine_gal_length (s : State) (n addr : Nat) (l : Line) : (s.setLine n addr l).gal.length = s.gal.length :=
  modAt_length ..
@[simp] theorem State.val_setLine (s : State) (n addr : Nat) (l : Line) (k : Nat) : (s.setLine n addr l).val k = s.val k := rfl
@[simp] theorem State.getN_setLine (s : State) (n addr : Nat) (l : Line) (k : Nat) : (s.setLine n addr l).getN k = s.getN k := rfl

theorem State.line_setLine_same {s : State} {n : Nat} (hn : n < s.gal.length) (addr : Nat) (l : Line) :
    (s.setLine n addr l).line n addr = l := by
  simp [State.line, State.setLine, State.g_updG, hn]

theorem State.line_setLine_other (s : State) {n addr m a : Nat} (l : Line) (h : (m, a) ≠ (n, addr)) :
    (s.setLine n addr l).line m a = s.line m a := by
  simp only [State.line, State.setLine, State.g_updG]
  split
  · next hm =>
    obtain ⟨rfl, -⟩ := hm
    have ha : a ≠ addr := fun e => h (by rw [e])
    exact SMap.get_set_other zeroLine _ l ha
  · rfl

/-- The Gallery of a line that can be accessed is one of the 32. -/
theorem State.lt_of_lineOk {s : State} {n addr : Nat} (h : s.lineOk n addr = true) : n < 32 := by
  simp only [State.lineOk, State.hasGal, Bool.and_eq_true, decide_eq_true_eq] at h
  have hpart : s.part.galleries ≤ 32 := by cases s.part <;> decide
  omega

/-! ### A checked read without upset bits (R43) -/

/-- The words of a line that SECDED has found uncorrectable. -/
def Line.badWords (l : Line) : List Nat := (List.range 8).filter (fun k => l.bad.contains k)

/-- Whether a checked read without upset bits finds the line damaged: a word uncorrectable, or a TAG that does not match. -/
def Line.damaged (l : Line) (addr : Nat) : Bool := !l.badWords.isEmpty || decide (tagOf addr l.data ≠ l.tag)

/-- The line that such a read writes back. -/
def Line.reread (l : Line) (addr : Nat) : Line :=
  { data := l.data, ecc := (List.range 8).map (fun k => l.ecc.getD k 0), tag := l.tag, poison := l.poison || l.damaged addr,
    bad := l.badWords }

theorem secded_noUpset (l : Line) (k : Nat) :
    secded l [] k = (slice l.data (8 * k) 8, l.ecc.getD k 0, false, l.bad.contains k) := by
  cases h : l.bad.contains k <;> simp only [secded, h] <;> rfl

/-- The first words of a line, one after the other, are its first bytes. -/
theorem words_join (d : List Byte) (n : Nat) : (List.range n).flatMap (fun k => slice d (8 * k) 8) = d.take (8 * n) := by
  induction n with
  | zero => rfl
  | succ n ih => rw [List.range_succ, List.flatMap_append, ih, Nat.mul_succ, List.take_add, List.flatMap_singleton, slice]

/-- The state after such a read, before a damaged line is reported. -/
def State.reread (s : State) (n addr : Nat) : State :=
  (s.setLine n addr ((s.line n addr).reread addr)).addTo Obj.DIAG.SRAM_CORRECTED 0

theorem State.line_reread_same {s : State} {n : Nat} (hn : n < s.gal.length) (addr : Nat) :
    (s.reread n addr).line n addr = (s.line n addr).reread addr := by
  rw [State.reread, State.line_addTo, State.line_setLine_same hn]

theorem State.line_reread_other (s : State) {n addr m a : Nat} (h : (m, a) ≠ (n, addr)) :
    (s.reread n addr).line m a = s.line m a := by
  rw [State.reread, State.line_addTo, State.line_setLine_other _ _ h]

@[simp] theorem State.reread_gal_length (s : State) (n addr : Nat) : (s.reread n addr).gal.length = s.gal.length :=
  s.setLine_gal_length ..

theorem State.reread_poisonedCount (s : State) (n addr : Nat) :
    (s.reread n addr).getN Obj.DIAG.SRAM_POISONED = s.getN Obj.DIAG.SRAM_POISONED :=
  (State.getN_setN_other _ _ (by decide)).trans (State.getN_setLine ..)

/-- What a checked read without upset bits does: the bytes stand, POISON is set and counted where the line is found damaged. -/
theorem State.lineRead_noUpset (s : State) (n addr : Nat) (o : LineOwner) (hl : (s.line n addr).data.length = 64) :
    s.lineRead n addr o [] =
      (if (s.line n addr).damaged addr && !(s.line n addr).poison then
         ((s.reread n addr).inc Obj.DIAG.SRAM_POISONED).poisoned n addr o
       else s.reread n addr,
       (s.line n addr).data, (s.line n addr).poison || (s.line n addr).damaged addr) := by
  have hws : (List.range 8).map (secded (s.line n addr) []) =
      (List.range 8).map (fun k => (slice (s.line n addr).data (8 * k) 8, (s.line n addr).ecc.getD k 0, false, (s.line n addr).bad.contains k)) :=
    List.map_congr_left fun k _ => secded_noUpset _ k
  have hdata : (List.range 8).flatMap (fun k => slice (s.line n addr).data (8 * k) 8) = (s.line n addr).data := by
    rw [words_join, List.take_of_length_le (by omega)]
  have hbad : (List.range 8).filter (fun k => ((List.range 8).map (fun k => (s.line n addr).bad.contains k)).getD k false) =
      (s.line n addr).badWords :=
    List.filter_congr fun k hk => by simp [List.mem_range.mp hk]
  have hnone : ((List.range 8).filter (fun _ => false)).length = 0 := rfl
  unfold State.lineRead
  simp only [List.dedup_nil, hws, List.map_map, List.flatMap_map, List.filter_map, List.length_map, Function.comp_def, hdata, hbad, hnone]
  rfl

/-! ### What the report of a poisoned line leaves as it was (Table 1-12) -/

/-- The SRAM of every tile and SRAM_POISONED stand as they were. -/
def State.SramKept (s t : State) : Prop :=
  (∀ m, (t.g m).sram = (s.g m).sram) ∧ t.getN Obj.DIAG.SRAM_POISONED = s.getN Obj.DIAG.SRAM_POISONED

namespace State.SramKept
variable {s t : State}

theorem refl (s : State) : s.SramKept s := ⟨fun _ => rfl, rfl⟩

/-- A change of neither the Galleries nor the dictionary. -/
theorem congr {u : State} (h : s.SramKept t) (hd : u.dict = t.dict) (hg : u.gal = t.gal) : s.SramKept u := by
  simpa only [State.SramKept, State.g, State.getN, State.val, hd, hg] using h

theorem put (h : s.SramKept t) {k : Nat} (v : Val) (hk : k ≠ Obj.DIAG.SRAM_POISONED) : s.SramKept (t.put k v) := by
  refine ⟨h.1, ?_⟩
  rw [State.getN, State.val_put, if_neg hk.symm]
  exact h.2

theorem setN (h : s.SramKept t) {k : Nat} (x : Nat) (hk : k ≠ Obj.DIAG.SRAM_POISONED) : s.SramKept (t.setN k x) := h.put _ hk
theorem inc (h : s.SramKept t) {k : Nat} (hk : k ≠ Obj.DIAG.SRAM_POISONED) : s.SramKept (t.inc k) := h.put _ hk
theorem setFlag (h : s.SramKept t) {k : Nat} (i : Nat) (b : Bool) (hk : k ≠ Obj.DIAG.SRAM_POISONED) : s.SramKept (t.setFlag k i b) :=
  h.put _ hk
theorem raise (h : s.SramKept t) {k : Nat} (i : Nat) (hk : k ≠ Obj.DIAG.SRAM_POISONED) : s.SramKept (t.raise k i) := h.put _ hk

/-- A change of a Gallery beside its SRAM. -/
theorem updG (h : s.SramKept t) (n : Nat) {f : Gallery → Gallery} (hf : ∀ g, (f g).sram = g.sram) : s.SramKept (t.updG n f) := by
  refine ⟨fun m => ?_, h.2⟩
  rw [State.g_updG]
  split
  · exact (hf _).trans (h.1 m)
  · exact h.1 m

theorem updTrunk (h : s.SramKept t) (n : Nat) (f : TrunkRt → TrunkRt) : s.SramKept (t.updTrunk n f) := h.updG n fun _ => rfl
theorem updProt (h : s.SramKept t) (n : Nat) (f : ProtRt → ProtRt) : s.SramKept (t.updProt n f) := h.updG n fun _ => rfl
theorem updCell (h : s.SramKept t) (n p : Nat) (f : Cell → Cell) : s.SramKept (t.updCell n p f) := h.updG n fun _ => rfl

theorem updPos (h : s.SramKept t) (n p : Nat) (f : PosEst → PosEst) : s.SramKept (t.updPos n p f) := h.updCell n p _
theorem updGrp (h : s.SramKept t) (g : Nat) (f : Group → Group) : s.SramKept (t.updGrp g f) := h.congr rfl rfl

/-! Records (R415 to R422) -/

theorem alertBit (h : s.SramKept t) (i : Nat) : s.SramKept (t.alertBit i) := by
  unfold State.alertBit
  split
  · exact h
  · dsimp only
    split
    · exact (h.raise _ (by decide)).congr rfl rfl
    · exact h.raise _ (by decide)

theorem levelSync (h : s.SramKept t) : s.SramKept t.levelSync := by
  unfold State.levelSync
  dsimp only
  split
  · exact (h.setN _ (by decide)).setN _ (by decide)
  · exact h.setN _ (by decide)

theorem startFlush (h : s.SramKept t) : s.SramKept t.startFlush := by
  unfold State.startFlush
  dsimp only
  split
  · exact (h.inc (by decide)).congr rfl rfl
  · exact h.congr rfl rfl

theorem enter (h : s.SramKept t) (code cls inst sev : Nat) (d : List Byte) : s.SramKept (t.enter code cls inst sev d) := by
  have hbuf : ∀ (r : Rec) (k : Nat), s.SramKept { t with
      recd := { t.recd with buffer := t.recd.buffer ++ [r] }
      vest := { t.vest with nextSeq := k } } := fun _ _ => h.congr rfl rfl
  have hfirst : ∀ (u : State) (k : Nat), s.SramKept u →
      s.SramKept (if u.getN Obj.RECORDER_WINDOW.FIRST = 0 then u.setN Obj.RECORDER_WINDOW.FIRST k else u) := by
    intro u k hu
    split
    · exact hu.setN _ (by decide)
    · exact hu
  unfold State.enter
  dsimp only
  split
  · exact (hfirst _ _ ((hbuf _ _).setN _ (by decide))).levelSync.startFlush
  · exact (hfirst _ _ ((hbuf _ _).setN _ (by decide))).levelSync

theorem dropRec (h : s.SramKept t) : s.SramKept t.dropRec := ((h.inc (by decide)).raise _ (by decide)).congr rfl rfl
theorem overwrite (h : s.SramKept t) : s.SramKept t.overwrite := ((h.setN _ (by decide)).raise _ (by decide)).congr rfl rfl
theorem dropNotice (h : s.SramKept t) : s.SramKept t.dropNotice := by
  unfold State.dropNotice
  split
  · exact h
  · exact (h.congr (u := t.updVest _) rfl rfl).enter _ _ _ _ _

theorem record (h : s.SramKept t) (code cls inst sev : Nat) (d : List Byte) : s.SramKept (t.record code cls inst sev d) := by
  have hover : ∀ u : State, s.SramKept u → s.SramKept (if u.ramOnly && decide (u.recFree = 0) && !u.oldestHeld then u.overwrite else u) := by
    intro u hu
    split
    · exact hu.overwrite
    · exact hu
  have hadmit : ∀ u : State, s.SramKept u →
      s.SramKept (if u.admits code sev || u.ramOnly && decide (0 < u.recFree) then u.enter code cls inst sev d else u.dropRec) := by
    intro u hu
    split
    · exact hu.enter _ _ _ _ _
    · exact hu.dropRec
  unfold State.record
  split
  · exact h
  · exact h
  · exact hadmit _ (hover _ h.dropNotice)

/-! Protection (R31, R271, R272) -/

/-- No object of a Gallery block is SRAM_POISONED. -/
theorem galKey_ne {n off sub : Nat} (hn : n < 32) (ho : off < 64) (hs : sub < 256) : galKey n off sub ≠ Obj.DIAG.SRAM_POISONED := by
  unfold galKey keyOf Obj.DIAG.SRAM_POISONED
  omega

theorem protTrip (h : s.SramKept t) {n : Nat} (hn : n < 32) (bitNo pos : Nat) : s.SramKept (t.protTrip n bitNo pos) := by
  have hk : ∀ off sub, off < 64 → sub < 256 → galKey n off sub ≠ Obj.DIAG.SRAM_POISONED := fun _ _ => galKey_ne hn
  unfold State.protTrip
  split
  · exact h
  · exact ((((((h.raise _ (hk _ _ (by decide) (by decide))).raise _ (hk _ _ (by decide) (by decide))).alertBit 3).inc
      (hk _ _ (by decide) (by decide))).setN _ (hk _ _ (by decide) (by decide))).setN _ (hk _ _ (by decide) (by decide))).record _ _ _ _ _

theorem setCause (h : s.SramKept t) {n : Nat} (hn : n < 32) (bitNo : Nat) (on : Bool) (pos : Nat) :
    s.SramKept (t.setCause n bitNo on pos) := by
  have hflag := h.setFlag (k := Gal.PROT_STATUS.STANDING n) bitNo on (galKey_ne hn (by decide) (by decide))
  unfold State.setCause
  dsimp only
  split
  · have htrip := hflag.protTrip hn bitNo pos
    split
    · exact htrip.updGrp _ _
    · exact htrip
  · exact hflag

theorem causeIn (h : s.SramKept t) {n : Nat} (hn : n < 32) (i : Nat) (present advance : Bool) (pos : Nat) :
    s.SramKept (t.causeIn n i present advance pos) :=
  (h.updProt n _).setCause hn _ _ _

theorem insertTriple (h : s.SramKept t) (n : Nat) (hold : Bool) : s.SramKept (t.insertTriple n hold).1 := by
  unfold State.insertTriple
  split
  · exact h.updTrunk n _
  · exact h

theorem k281Left (h : s.SramKept t) (n : Nat) : s.SramKept (t.k281Left n) := by
  unfold State.k281Left
  dsimp only
  split
  · exact (h.updProt n _).updGrp _ _
  · exact h.updProt n _

/-- The INHIBIT that a report requests carries no module share. -/
theorem inhibitInsert_none (h : s.SramKept t) (n : Nat) : s.SramKept (t.inhibitInsert n none) := by
  have htriple := h.insertTriple n false
  unfold State.inhibitInsert
  dsimp only
  split
  · split
    · exact htriple.k281Left n
    · exact htriple
  · exact h

/-! The owners of a line (Table 1-12) -/

theorem learnsOpen (h : s.SramKept t) {n : Nat} (hn : n < 32) : s.SramKept (t.learnsOpen n) :=
  h.setN _ (galKey_ne hn (by decide) (by decide))

theorem bufferPoisoned (h : s.SramKept t) {n : Nat} (hn : n < 32) (k : Nat) : s.SramKept (t.bufferPoisoned n k) := by
  have hcause : ∀ u : State, s.SramKept u → s.SramKept (if (u.g n).prot.badOld.contains k then
      (u.causeIn n 6 true false 0xFFFF).inhibitInsert n none else u) := by
    intro u hu
    split
    · exact (hu.causeIn hn _ _ _ _).inhibitInsert_none n
    · exact hu
  have hcount : ∀ f, s.SramKept ((t.updProt n f).inc (Gal.COUNTERS.UP_BLOCK_CRC n)) :=
    fun f => (h.updProt n f).inc (galKey_ne hn (by decide) (by decide))
  unfold State.bufferPoisoned
  split
  · exact h
  · refine hcause _ ?_
    dsimp only
    split
    · refine ((hcount _).updG n fun g => ?_).updTrunk n _
      split <;> rfl
    · refine (hcount _).updG n fun g => ?_
      split <;> rfl
    · exact hcount _
    · exact (hcount _).updG n fun _ => rfl

/-- SRAM_POISONED is no REAL32 object, so it is no shadowed value. -/
theorem ne_of_real {k : Nat} {r : ObjRow} (hr : rowOf (k / 256) (k % 256) = some r) (ht : r.ty = .real) : k ≠ Obj.DIAG.SRAM_POISONED := by
  intro hk
  have hty : (rowOf (Obj.DIAG.SRAM_POISONED / 256) (Obj.DIAG.SRAM_POISONED % 256)).map ObjRow.ty = some .u32 := by decide +kernel
  rw [← hk, hr, Option.map_some, ht] at hty
  exact absurd hty (by decide)

theorem poisoned (h : s.SramKept t) {n : Nat} (hn : n < 32) (addr : Nat) (o : LineOwner) : s.SramKept (t.poisoned n addr o) := by
  cases o with
  | cellState p =>
    have hline : ∀ f, s.SramKept ((t.updPos n p f).updG n (fun g => { g with stateLines := g.stateLines ++ [(p, addr)] })) :=
      fun f => (h.updPos n p f).updG n fun _ => rfl
    exact ((hline _).raise (k := Gal.FAULTS.ESTIM_FAULTS n) 6 (galKey_ne hn (by decide) (by decide))).learnsOpen hn
  | accumulator p => exact h.updCell n p _
  | lineBuffer i => exact h.bufferPoisoned hn i
  | shadow k =>
    unfold State.poisoned
    dsimp only
    split
    · next r hr =>
      split
      · next ht => exact h.put _ (ne_of_real hr ht)
      · exact h
    · exact h

end State.SramKept

/-! ### Partial writes without upset bits (R42) -/

/-- The bytes of a line with new bytes in the place of those from an offset on. -/
def mergeBytes (old : List Byte) (off : Nat) (data : List Byte) : List Byte := old.take off ++ data ++ old.drop (off + data.length)

section
variable {s : State} {n addr off : Nat} {data : List Byte}
  (hok : s.lineOk n addr = true) (hd : data.length < 64) (hoff : off + data.length ≤ 64) (hl : (s.line n addr).data.length = 64)
include hok hd hoff hl

/-- On a line that is neither poisoned nor found damaged the new bytes are merged. -/
theorem execSramPartialWrite_merges (hp : (s.line n addr).poison = false) (hdam : (s.line n addr).damaged addr = false) (o : LineOwner) :
    execSramPartialWrite n addr off data o [] s =
      .next ((s.reread n addr).setLine n addr (validLine addr (mergeBytes (s.line n addr).data off data))) := by
  simp [execSramPartialWrite, hok, hd, hoff, s.lineRead_noUpset n addr o hl, hp, hdam, mergeBytes]

/-- On a line that is found damaged nothing is written: it is poisoned, counted and reported. -/
theorem execSramPartialWrite_damaged (hp : (s.line n addr).poison = false) (hdam : (s.line n addr).damaged addr = true) (o : LineOwner) :
    execSramPartialWrite n addr off data o [] s =
      .next (((s.reread n addr).inc Obj.DIAG.SRAM_POISONED).poisoned n addr o) := by
  simp [execSramPartialWrite, hok, hd, hoff, s.lineRead_noUpset n addr o hl, hp, hdam]

/-- On a poisoned line nothing is written: it is reported again. -/
theorem execSramPartialWrite_poisoned (hp : (s.line n addr).poison = true) (o : LineOwner) :
    execSramPartialWrite n addr off data o [] s = .next ((s.reread n addr).poisoned n addr o) := by
  simp [execSramPartialWrite, hok, hd, hoff, s.lineRead_noUpset n addr o hl, hp]

end

/-- A line written whole is not found damaged. -/
theorem damaged_validLine (addr : Nat) (d : List Byte) : (validLine addr d).damaged addr = false := by
  simp [Line.damaged, Line.badWords, validLine]

/-- A line whose TAG does not match is found damaged. -/
theorem Line.damaged_of_tag {l : Line} {addr : Nat} (h : l.tag ≠ tagOf addr l.data) : l.damaged addr = true := by
  simp [Line.damaged, h.symm]

/-- The report of a line to its owner leaves every line. -/
theorem State.line_poisoned (s : State) {n : Nat} (hn : n < 32) (addr : Nat) (o : LineOwner) (m a : Nat) :
    (s.poisoned n addr o).line m a = s.line m a :=
  State.line_congr (((State.SramKept.refl s).poisoned hn addr o).1 m) a

/-- The report of a line to its owner leaves SRAM_POISONED. -/
theorem State.poisonedCount_poisoned (s : State) {n : Nat} (hn : n < 32) (addr : Nat) (o : LineOwner) :
    (s.poisoned n addr o).getN Obj.DIAG.SRAM_POISONED = s.getN Obj.DIAG.SRAM_POISONED :=
  ((State.SramKept.refl s).poisoned hn addr o).2

/-! ### The statement -/

/-- Settles O8: each kind of write has an equation for the state it leaves; the lines and the counter of that state are read off it. -/
theorem sramLineWrites : Obligations.SramLineWrites := by
  unfold Obligations.SramLineWrites
  refine ⟨?_, ?_, ?_, ?_⟩
  · intro s n addr data hok hg hd
    have hn : n < s.gal.length := hg ▸ State.lt_of_lineOk hok
    have hrun : exec (.sramFullLineWrite n addr data) s = .next (s.setLine n addr (validLine addr data)) := by
      simp [exec, execSramFullLineWrite, hok, hd]
    exact ⟨_, hrun, State.line_setLine_same hn addr _, fun _ _ => State.line_setLine_other s _, State.val_setLine s _ _ _⟩
  · intro s n addr off data old o hok hg hd hoff ho hold
    have hn : n < s.gal.length := hg ▸ State.lt_of_lineOk hok
    have hrun := execSramPartialWrite_merges hok hd hoff (by rw [hold]; exact ho) (by rw [hold]; rfl)
      (by rw [hold]; exact damaged_validLine addr old) o
    have hdata : (s.line n addr).data = old := by rw [hold]; rfl
    refine ⟨_, hrun, ?_, fun m a hma => ?_⟩
    · rw [State.line_setLine_same (by simpa using hn), hdata, mergeBytes]
    · rw [State.line_setLine_other _ _ hma, State.line_reread_other s hma]
  · intro s n addr off data o hok hg hd hoff hl hp htag
    have hn := State.lt_of_lineOk hok
    have hline : ((s.reread n addr).inc Obj.DIAG.SRAM_POISONED |>.poisoned n addr o).line n addr = (s.line n addr).reread addr := by
      rw [State.line_poisoned _ hn, State.line_inc, State.line_reread_same (hg ▸ hn)]
    have hdam := Line.damaged_of_tag htag
    refine ⟨_, execSramPartialWrite_damaged hok hd hoff hl hp hdam o, ?_, ?_, ?_⟩
    · rw [hline]; rfl
    · rw [hline, Line.reread, hdam, Bool.or_true]
    · rw [State.poisonedCount_poisoned _ hn, State.inc, State.getN_setN_same, State.reread_poisonedCount]
  · intro s n addr off data o hok hg hd hoff hl hp
    have hn := State.lt_of_lineOk hok
    have hline : ((s.reread n addr).poisoned n addr o).line n addr = (s.line n addr).reread addr := by
      rw [State.line_poisoned _ hn, State.line_reread_same (hg ▸ hn)]
    refine ⟨_, execSramPartialWrite_poisoned hok hd hoff hl hp o, ?_, ?_⟩
    · rw [hline]; rfl
    · rw [hline, Line.reread, hp, Bool.true_or]

end Sys2Proof.Machine
end

section
/-! The safety set (R83): a write of an rw-S object changes the pending set and SEAL_STATE only; what a boot makes of the stored set. -/
namespace Sys2Proof.Machine

/-! ### A write of an rw-S object -/

/-- The state with a value in the pending set. -/
def State.pend (s : State) (k : Nat) (v : Val) : State :=
  { s with safetySet := { s.safetySet with pendingSet := SMap.set dfltOf s.safetySet.pendingSet k v } }

@[simp] theorem State.val_pend (s : State) (k k' : Nat) (v : Val) : (s.pend k v).val k' = s.val k' := rfl
@[simp] theorem State.val_reply (s : State) (r : Reply) (k : Nat) : (s.reply r).val k = s.val k := rfl
@[simp] theorem State.getN_reply (s : State) (r : Reply) (k : Nat) : (s.reply r).getN k = s.getN k := rfl

/-- While a set is sealed, a write marks SEAL_STATE as PENDING. -/
theorem rwSEff_of_sealed {s : State} (h : s.safetySet.sealedNow = true) (index sub : Nat) (v : Val) :
    rwSEff index sub v s = .ok ((s.pend (keyOf index sub) v).setN Obj.SAFETY_CFG.SEAL_STATE 1) := by
  simp only [rwSEff, h, if_true, State.pend]

/-- While none is sealed, a write changes the pending set alone. -/
theorem rwSEff_of_unsealed {s : State} (h : s.safetySet.sealedNow = false) (index sub : Nat) (v : Val) :
    rwSEff index sub v s = .ok (s.pend (keyOf index sub) v) := by
  simp only [rwSEff, h, Bool.false_eq_true, if_false, State.pend]

/-- An object whose row is rw-S is written through its pending value. -/
theorem execRwSWrite_taken {s : State} {p : Path} {index sub : Nat} {d : List Byte} {v : Val} {r : ObjRow} {t : State}
    (hrow : rowOf index sub = some r) (hacc : r.acc = .rwS) (h : s.takesWrite p index sub d v) (he : rwSEff index sub v s = .ok t) :
    exec (.rwSWrite p index sub d) s = .next (t.reply (.ok [])) := by
  simp only [exec, execRwSWrite, hrow, hacc, if_true, State.write_ok h he]

/-! ### The sets at a boot (R83, R86) -/

/-- Loading the limit banks changes neither the safety set nor an object. -/
theorem State.loadBanks_kept (s : State) : s.loadBanks.safetySet = s.safetySet ∧ s.loadBanks.dict = s.dict := by
  unfold State.loadBanks
  refine State.forGal_keeps (P := fun t => t.safetySet = s.safetySet ∧ t.dict = s.dict) (fun _ _ h => ?_) ⟨rfl, rfl⟩
  exact h

@[simp] theorem State.loadBanks_safetySet (s : State) : s.loadBanks.safetySet = s.safetySet := s.loadBanks_kept.1
@[simp] theorem State.getN_loadBanks (s : State) (k : Nat) : s.loadBanks.getN k = s.getN k := by
  rw [State.getN, State.val, s.loadBanks_kept.2, State.getN, State.val]

/-- A boot puts in force the stored set where one is sealed and its CRC matches, else the defaults; the pending set equals it. -/
theorem State.bootSeal_sets (s : State) :
    s.bootSeal.safetySet.pendingSet = s.bootSeal.safetySet.inForce ∧
    (s.bootSeal.safetySet.sealedNow = false → s.bootSeal.safetySet.inForce = []) := by
  simp only [State.bootSeal, State.loadBanks_safetySet, State.setN, State.put_safetySet]
  split
  · split
    · exact ⟨rfl, fun _ => rfl⟩
    · exact ⟨rfl, fun h => absurd h (by simp)⟩
  · exact ⟨rfl, fun _ => rfl⟩

/-- SEAL_STATE after a boot: SEALED or UNSEALED. -/
theorem State.bootSeal_sealState (s : State) :
    s.bootSeal.getN Obj.SAFETY_CFG.SEAL_STATE = if s.bootSeal.safetySet.sealedNow then 2 else 0 := by
  simp only [State.bootSeal, State.getN_loadBanks, State.loadBanks_safetySet]
  rw [State.getN_setN_other _ _ (by decide), State.getN_setN_same]
  rfl

/-- SEAL_CHECK after a boot. -/
theorem State.bootSeal_sealCheck (s : State) : s.bootSeal.getN Obj.SAFETY_CFG.SEAL_CHECK = 0 := by
  simp only [State.bootSeal, State.getN_loadBanks, State.getN_setN_same]

/-! ### The statement -/

/-- Settles O20: a write is followed by whether a set is sealed; a boot by the lemmas about `State.bootSeal`. -/
theorem safetySetWritesArePending : Obligations.SafetySetWritesArePending := by
  unfold Obligations.SafetySetWritesArePending
  refine ⟨fun s p index sub d v r hrow hacc h => ?_, fun s =>
    ⟨s.bootSeal_sets.1, s.bootSeal_sealState, s.bootSeal_sealCheck, s.bootSeal_sets.2⟩⟩
  cases hs : s.safetySet.sealedNow
  case true =>
    refine ⟨_, execRwSWrite_taken hrow hacc h (rwSEff_of_sealed hs ..), rfl, SMap.get_set_same .., fun k hk =>
      SMap.get_set_other _ _ _ hk, rfl, rfl, rfl, rfl, fun k hk => ?_, ?_⟩
    · rw [State.val_reply, State.setN, State.val_put, if_neg (by simpa using hk), State.val_pend]
    · rw [State.getN_reply, State.getN_setN_same, if_pos rfl]
  case false =>
    exact ⟨_, execRwSWrite_taken hrow hacc h (rwSEff_of_unsealed hs ..), rfl, SMap.get_set_same .., fun k hk =>
      SMap.get_set_other _ _ _ hk, rfl, rfl, rfl, rfl, fun k hk => rfl, rfl⟩

end Sys2Proof.Machine
end

section
/-! What the entry of a record can change (R417 to R422), and that neither the orderly stop of the groups (R61) nor the Arcade's ports
(R324) change the mode runtime or PHASE. -/
namespace Sys2Proof.Machine

/-! ### What a record can change -/

/-- The objects that the entry of a record writes. -/
def recordKeys : List Nat :=
  [Obj.RECORDER_CTRL.BUFFER_LEVEL, Obj.RECORDER_CTRL.BUFFER_PEAK, Obj.RECORDER_CTRL.FLUSHES, Obj.RECORDER_CTRL.DROPPED,
   Obj.RECORDER_CTRL.LOST, Obj.RECORDER_CTRL.FLAGS, Obj.RECORDER_WINDOW.FIRST, Obj.RECORDER_WINDOW.LAST]

/-- Only the recorder with its objects and the Vestibule differ. -/
def State.onlyRecords (s t : State) : Prop :=
  t = { s with vest := t.vest, recd := t.recd, dict := t.dict } ∧ s.sameBut t recordKeys

namespace State.onlyRecords
variable {s t : State}

theorem refl (s : State) : s.onlyRecords s := ⟨rfl, fun _ _ => rfl⟩

/-- A change of the recorder or the Vestibule. -/
theorem runtime (h : s.onlyRecords t) (v : Vestibule) (r : RecorderRt) : s.onlyRecords { t with vest := v, recd := r } :=
  ⟨(congrArg (fun u : State => { u with vest := v, recd := r }) h.1 :), h.2⟩

theorem put (h : s.onlyRecords t) {k : Nat} (v : Val) (hk : k ∈ recordKeys) : s.onlyRecords (t.put k v) := by
  refine ⟨(congrArg (fun u : State => u.put k v) h.1 :), fun k' hk' => ?_⟩
  have hne : k' ≠ k := fun e => hk' (e ▸ hk)
  rw [State.val_put, if_neg hne, h.2 k' hk']

theorem setN (h : s.onlyRecords t) {k : Nat} (x : Nat) (hk : k ∈ recordKeys) : s.onlyRecords (t.setN k x) := h.put _ hk
theorem inc (h : s.onlyRecords t) {k : Nat} (hk : k ∈ recordKeys) : s.onlyRecords (t.inc k) := h.put _ hk
theorem raise (h : s.onlyRecords t) {k : Nat} (i : Nat) (hk : k ∈ recordKeys) : s.onlyRecords (t.raise k i) := h.put _ hk

/-- A choice between two states that both differ in records only. -/
theorem ite {u : State} {c : Prop} {_ : Decidable c} (h : s.onlyRecords t) (hu : s.onlyRecords u) :
    s.onlyRecords (if c then t else u) := by
  split
  · exact h
  · exact hu

theorem levelSync (h : s.onlyRecords t) : s.onlyRecords t.levelSync := by
  have hlevel := h.setN (k := Obj.RECORDER_CTRL.BUFFER_LEVEL) t.recd.buffer.length (by decide)
  exact (hlevel.setN _ (by decide)).ite hlevel

theorem startFlush (h : s.onlyRecords t) : s.onlyRecords t.startFlush :=
  ((h.inc (k := Obj.RECORDER_CTRL.FLUSHES) (by decide)).ite h).runtime _ _

theorem enter (h : s.onlyRecords t) (code cls inst sev : Nat) (d : List Byte) : s.onlyRecords (t.enter code cls inst sev d) := by
  have hfirst : ∀ (u : State) (k : Nat), s.onlyRecords u →
      s.onlyRecords (if u.getN Obj.RECORDER_WINDOW.FIRST = 0 then u.setN Obj.RECORDER_WINDOW.FIRST k else u) :=
    fun _ _ hu => (hu.setN _ (by decide)).ite hu
  have hlevel := fun v r =>
    (hfirst _ t.vest.nextSeq ((h.runtime v r).setN (k := Obj.RECORDER_WINDOW.LAST) t.vest.nextSeq (by decide))).levelSync
  exact (hlevel _ _).startFlush.ite (hlevel _ _)

theorem dropRec (h : s.onlyRecords t) : s.onlyRecords t.dropRec :=
  ((h.inc (k := Obj.RECORDER_CTRL.DROPPED) (by decide)).raise (k := Obj.RECORDER_CTRL.FLAGS) 0 (by decide)).runtime _ _

theorem overwrite (h : s.onlyRecords t) : s.onlyRecords t.overwrite :=
  ((h.setN (k := Obj.RECORDER_CTRL.LOST) _ (by decide)).raise (k := Obj.RECORDER_CTRL.FLAGS) 1 (by decide)).runtime _ _

theorem dropNotice (h : s.onlyRecords t) : s.onlyRecords t.dropNotice :=
  h.ite ((h.runtime _ _).enter ..)

theorem record (h : s.onlyRecords t) (code cls inst sev : Nat) (d : List Byte) : s.onlyRecords (t.record code cls inst sev d) := by
  have hroom : ∀ full : Bool, s.onlyRecords (if full then t.dropNotice.overwrite else t.dropNotice) :=
    fun _ => h.dropNotice.overwrite.ite h.dropNotice
  unfold State.record
  split
  · exact h
  · exact h
  · exact ((hroom _).enter ..).ite (hroom _).dropRec

end State.onlyRecords

/-! ### What keeps the mode runtime and PHASE -/

/-- The mode with its transition and timers, and PHASE, stand as they were. -/
def State.ModeKept (s t : State) : Prop := t.md = s.md ∧ t.phase = s.phase

/-- No object of a Gallery block is PHASE. -/
theorem galKey_ne_phase (n off sub : Nat) : galKey n off sub ≠ Obj.MODE_STATUS.PHASE := by
  unfold galKey keyOf Obj.MODE_STATUS.PHASE
  omega

theorem groupState_ne_phase (g : Nat) : Obj.SAFETY_STATUS.GROUP_STATE g ≠ Obj.MODE_STATUS.PHASE := by
  unfold Obj.SAFETY_STATUS.GROUP_STATE Obj.MODE_STATUS.PHASE
  omega

namespace State.ModeKept
variable {s t : State}

theorem refl (s : State) : s.ModeKept s := ⟨rfl, rfl⟩

/-- The entry of records keeps them. -/
theorem onlyRecords {u : State} (h : s.ModeKept t) (hu : t.onlyRecords u) : s.ModeKept u := by
  have hmd : u.md = t.md := (congrArg State.md hu.1 :)
  have hphase : u.val Obj.MODE_STATUS.PHASE = t.val Obj.MODE_STATUS.PHASE := hu.2 _ (by decide)
  exact ⟨hmd.trans h.1, (congrArg Val.toN hphase).trans h.2⟩

theorem put (h : s.ModeKept t) {k : Nat} (v : Val) (hk : k ≠ Obj.MODE_STATUS.PHASE) : s.ModeKept (t.put k v) := by
  refine ⟨h.1, ?_⟩
  rw [State.phase, State.getN, State.val_put, if_neg hk.symm]
  exact h.2

theorem setN (h : s.ModeKept t) {k : Nat} (x : Nat) (hk : k ≠ Obj.MODE_STATUS.PHASE) : s.ModeKept (t.setN k x) := h.put _ hk
theorem setI (h : s.ModeKept t) {k : Nat} (x : Int) (hk : k ≠ Obj.MODE_STATUS.PHASE) : s.ModeKept (t.setI k x) := h.put _ hk
theorem inc (h : s.ModeKept t) {k : Nat} (hk : k ≠ Obj.MODE_STATUS.PHASE) : s.ModeKept (t.inc k) := h.put _ hk
theorem setFlag (h : s.ModeKept t) {k : Nat} (i : Nat) (b : Bool) (hk : k ≠ Obj.MODE_STATUS.PHASE) : s.ModeKept (t.setFlag k i b) :=
  h.put _ hk
theorem raise (h : s.ModeKept t) {k : Nat} (i : Nat) (hk : k ≠ Obj.MODE_STATUS.PHASE) : s.ModeKept (t.raise k i) := h.put _ hk

theorem updG (h : s.ModeKept t) (n : Nat) (f : Gallery → Gallery) : s.ModeKept (t.updG n f) := h
theorem updSafe (h : s.ModeKept t) (f : SafetyRt → SafetyRt) : s.ModeKept (t.updSafe f) := h
theorem updArc (h : s.ModeKept t) (f : ArcadeRt → ArcadeRt) : s.ModeKept (t.updArc f) := h
theorem updTime (h : s.ModeKept t) (f : TimeRt → TimeRt) : s.ModeKept (t.updTime f) := h
theorem updDisp (h : s.ModeKept t) (f : DispRt → DispRt) : s.ModeKept (t.updDisp f) := h

theorem record (h : s.ModeKept t) (code cls inst sev : Nat) (d : List Byte) : s.ModeKept (t.record code cls inst sev d) :=
  h.onlyRecords ((State.onlyRecords.refl t).record ..)

/-- A choice between two states that both keep them. -/
theorem ite {u : State} {c : Prop} {_ : Decidable c} (h : s.ModeKept t) (hu : s.ModeKept u) : s.ModeKept (if c then t else u) := by
  split
  · exact h
  · exact hu

/-- A loop keeps what each round keeps. -/
theorem foldl {α : Type} {f : State → α → State} (hf : ∀ u a, s.ModeKept u → s.ModeKept (f u a)) (l : List α)
    (h : s.ModeKept t) : s.ModeKept (l.foldl f t) := by
  induction l generalizing t with
  | nil => exact h
  | cons a l ih => exact ih (hf t a h)

/-! The contactor groups (R288 to R292) -/

theorem groupResult (h : s.ModeKept t) (g r : Nat) : s.ModeKept (t.groupResult g r) :=
  foldl (fun _ _ hu => hu.setN _ (galKey_ne_phase _ _ _)) _ h

theorem setGroup (h : s.ModeKept t) (g : Nat) (st : GState) : s.ModeKept (t.setGroup g st) :=
  foldl (fun _ _ hu => hu.setN _ (galKey_ne_phase _ _ _)) _ (((h.updSafe _).setN _ (groupState_ne_phase g)).updSafe _)

theorem clearPend (h : s.ModeKept t) (g : Nat) : s.ModeKept (t.clearPend g) :=
  State.ModeKept.ite ((h.updSafe _).groupResult g 0) h

theorem switchSync (h : s.ModeKept t) : s.ModeKept t.switchSync :=
  ((h.updSafe _).setN (k := Obj.SAFETY_OUTPUTS.LOAD_ON) _ (by decide)).updSafe _

theorem loadOff (h : s.ModeKept t) (l : Nat) : s.ModeKept (t.loadOff l) :=
  (((h.setFlag (k := Obj.SAFETY_OUTPUTS.LOAD_DEFERRED) l false (by decide)).updSafe _).updSafe _).switchSync

theorem preAbort (h : s.ModeKept t) (g : Nat) : s.ModeKept (t.preAbort g) := by
  unfold State.preAbort
  split
  · exact ((h.loadOff _).setGroup g .waitOff).updSafe _
  · exact (h.setGroup g .waitOff).updSafe _

theorem startSrs (h : s.ModeKept t) (g : Nat) : s.ModeKept (t.startSrs g) :=
  foldl (fun _ _ hu => (hu.updG _ _).inc (galKey_ne_phase _ _ _)) _
    (((h.setGroup g .rampDown).updSafe _).inc (k := Obj.SAFETY_STATUS.SRS_COUNT) (by decide))

theorem k281Left (h : s.ModeKept t) (n : Nat) : s.ModeKept (t.k281Left n) := (h.updG n _ |>.updSafe _).ite (h.updG n _)

theorem inhibitInsert (h : s.ModeKept t) (n : Nat) (share : Option Nat) : s.ModeKept (t.inhibitInsert n share) := by
  have htriple : s.ModeKept (t.insertTriple n false).1 := by
    unfold State.insertTriple
    split
    · exact h.updG n _
    · exact h
  unfold State.inhibitInsert
  dsimp only
  refine State.ModeKept.ite (State.ModeKept.ite (State.ModeKept.k281Left ?_ n) htriple) h
  cases share with
  | none => exact htriple
  | some x => exact htriple.setN (k := Obj.DIAG.CLASS_P_MAX) _ (by decide)

theorem enterOpening (h : s.ModeKept t) (g : Nat) (every : Bool) : s.ModeKept (t.enterOpening g every) := by
  have hfirst : ∀ u : State, s.ModeKept u →
      s.ModeKept (if (u.grp g).firstK = none ∧ (u.grp g).trunkSeo = none ∧ !(u.groupStrings g).any u.claims then
        u.updGrp g (fun r => { r with firstK := some u.root }) else u) :=
    fun _ hu => (hu.updSafe _).ite hu
  have hrec := fun f x d => ((((h.setGroup g .opening).updSafe f).inc (k := Obj.SAFETY_STATUS.SEO_COUNT) (by decide)).setN
    (k := Obj.SAFETY_STATUS.LAST_SEO_TICK) x (by decide)).record 0x0103 0x07 0 2 d
  refine hfirst _ (foldl (fun u n hu => ?_) _ (hrec _ _ _))
  exact ((((hu.updG n _).inc (k := Gal.COUNTERS.STRING_SEOS n) (galKey_ne_phase _ _ _)).updG n _).updG n _).inhibitInsert n none

theorem groupOff (h : s.ModeKept t) (g : Nat) : s.ModeKept (t.groupOff g) := by
  unfold State.groupOff
  split
  · exact h
  · exact h.clearPend g
  · exact h.clearPend g
  · exact h.clearPend g
  · exact h.setGroup g .off
  · exact h.preAbort g
  · exact h.enterOpening g false
  · exact h.enterOpening g false
  · exact (h.startSrs g).ite (h.enterOpening g false)

/-! The Arcade's ports (R317, R324, R334) -/

theorem sendPdu (h : s.ModeKept t) (type dest id : Nat) (payload : List Byte) : s.ModeKept (t.sendPdu type dest id payload) := by
  unfold State.sendPdu
  split
  · exact h.updArc _
  · exact h.raise (k := Obj.ARCADE_STATUS.FLAGS) 7 (by decide)

theorem electSync (h : s.ModeKept t) : s.ModeKept t.electSync := by
  have hrec := fun f => ((h.inc (k := Obj.LEADER_CFG.ELECTIONS) (by decide)).updArc f).record 0x0302 0x08 0 0 (leBytes 8 t.elect)
  have hled : ∀ u : State, s.ModeKept u →
      s.ModeKept (if u.getN Obj.DISPATCH_STATUS.ROLE = 1 then u else u.setN Obj.LEADER_CFG.MODULES_LED 0) :=
    fun _ hu => hu.ite (hu.setN _ (by decide))
  exact hled _ (((h.ite (((hrec _).updDisp _).ite (hrec _))).setN (k := Obj.DISPATCH_STATUS.LEADER_SERIAL) _ (by decide)).setN
    (k := Obj.DISPATCH_STATUS.ROLE) _ (by decide))

theorem stepDue (h : s.ModeKept t) (ticks : Int) : s.ModeKept (t.stepDue ticks) := (h.updTime _).ite h

theorem keeperSync (h : s.ModeKept t) : s.ModeKept t.keeperSync := by
  have hkeeper := h.setN (k := Obj.TIMEBASE.KEEPER_SERIAL) t.keeperNow (by decide)
  have horigin := fun x => hkeeper.setI (k := Obj.TIMEBASE.ORIGIN) x (by decide)
  unfold State.keeperSync
  dsimp only
  refine State.ModeKept.ite (hkeeper.updArc _) ?_
  split
  · exact hkeeper
  · split
    · exact State.ModeKept.ite (hkeeper.ite ((State.ModeKept.stepDue ((horigin _).updArc _) _).ite ((horigin _).updArc _)))
        ((horigin _).updArc _)
    · exact (horigin _).updArc _

theorem ringSync (h : s.ModeKept t) : s.ModeKept t.ringSync := h.electSync.keeperSync

theorem portsStop (h : s.ModeKept t) : s.ModeKept t.portsStop :=
  ((((h.setN (k := Obj.ARCADE_STATUS.BYPASS) 0 (by decide)).setN (k := Obj.ARCADE_STATUS.RING_STATE) 0 (by decide)).setN
    (k := Obj.ARCADE_STATUS.PORT_E) 0 (by decide)).setN (k := Obj.ARCADE_STATUS.PORT_W) 0 (by decide)).updArc _

theorem arcSync (h : s.ModeKept t) (newMode : Nat) : s.ModeKept (t.arcSync newMode) := by
  have hup := ((h.setN (k := Obj.ARCADE_STATUS.BYPASS) 1 (by decide)).setN (k := Obj.ARCADE_STATUS.PORT_E) 1 (by decide)).setN
    (k := Obj.ARCADE_STATUS.PORT_W) 1 (by decide)
  have hkey := hup.raise (k := Obj.ARCADE_STATUS.FLAGS) 7 (by decide)
  have hlast := h.sendPdu 1 0 0 (t.beaconBody newMode)
  unfold State.arcSync
  dsimp only
  split
  · exact ((hkey.ite hup).updArc _).ringSync.ite h
  · exact h.ite ((((hlast.ite h).updArc _).ite (hlast.ite h)).portsStop.ringSync)

end State.ModeKept
end Sys2Proof.Machine
end

section
/-! NMT (R91): what an NMT command changes on the addressed port, what Reset communication makes of both ports, and the statement. -/
namespace Sys2Proof.Machine

/-! ### A port in service -/

/-- A port is in service only while no power-down runs. -/
theorem State.powerDown_of_canOn {s : State} {p : Nat} (h : s.canOn p = true) : s.powerDown = false := by
  cases ht : s.md.transit <;> simp_all [State.canOn, State.powerDown, State.served]

theorem State.canOn_of_nmtFor {s : State} {p node : Nat} (h : s.nmtFor p node = true) : s.canOn p = true :=
  (Bool.and_eq_true_iff.mp h).1

theorem State.lt_of_canOn {s : State} {p : Nat} (h : s.canOn p = true) : p < 2 :=
  of_decide_eq_true (Bool.and_eq_true_iff.mp h).1

/-- Whether a port is in service does not depend on the ports' own runtime. -/
@[simp] theorem State.canOn_nmtTo (s : State) (p q st : Nat) : (s.nmtTo q st).canOn p = s.canOn p := rfl

@[simp] theorem State.can_setN (s : State) (k x q : Nat) : (s.setN k x).can q = s.can q := rfl
@[simp] theorem State.can_fifoSync (s : State) (p q : Nat) : (s.fifoSync p).can q = s.can q := rfl

theorem State.can_updCan_same {s : State} {p : Nat} (hp : p < s.cans.length) (f : CanRt → CanRt) :
    (s.updCan p f).can p = f (s.can p) := by
  rw [State.can_updCan, if_pos ⟨rfl, hp⟩]

theorem State.can_updCan_other (s : State) {p q : Nat} (hq : q ≠ p) (f : CanRt → CanRt) : (s.updCan p f).can q = s.can q := by
  rw [State.can_updCan, if_neg fun h => hq h.1]

/-- The port is in the NMT state that it has been sent to. -/
theorem State.nmt_nmtTo {s : State} {p : Nat} (hp : p < s.cans.length) (st : Nat) : ((s.nmtTo p st).can p).nmt = st := by
  rw [State.nmtTo, State.can_updCan_same hp]

/-- The state after an NMT stop of a port: Stopped, and what its SDO server was about is over. -/
def State.nmtStopped (s : State) (p : Nat) : State := (s.nmtTo p 4).updCan p (fun c => { c with sdo := { count := c.sdo.count + 1 } })

theorem State.nmt_nmtStopped {s : State} {p : Nat} (hp : p < s.cans.length) : ((s.nmtStopped p).can p).nmt = 4 := by
  rw [State.nmtStopped, State.can_updCan_same (hp.trans_eq (modAt_length ..).symm)]
  exact State.nmt_nmtTo hp 4

/-- PDOs run in Operational only. -/
theorem State.pdoOn_of_nmt {s : State} {p : Nat} (h : (s.can p).nmt ≠ 5) : s.pdoOn p = false := by
  simp [State.pdoOn, h]

/-- The SDO server runs in Operational and in pre-operational. -/
theorem State.sdoOn_iff {s : State} {p : Nat} : s.sdoOn p = true ↔ s.canOn p = true ∧ ((s.can p).nmt = 127 ∨ (s.can p).nmt = 5) := by
  simp [State.sdoOn]

theorem State.sdoOn_of_stopped {s : State} {p : Nat} (h : (s.can p).nmt = 4) : s.sdoOn p = false := by
  simp [State.sdoOn, h]

/-! ### Steps of a port (R413) -/

/-- No object of a CAN port but the node ID itself is a port's node ID. -/
theorem canKey_ne_nodeId {p q sub : Nat} (hs : sub < 256) (h2 : sub ≠ 2) : canKey p sub ≠ Can.NODE_ID q := by
  unfold Can.NODE_ID canKey keyOf
  omega

/-- Only port p and objects differ, and of the objects no node ID. -/
def State.onlyPort (s t : State) (p : Nat) : Prop :=
  t = { s with cans := t.cans, dict := t.dict } ∧ t.cans.length = s.cans.length ∧ (∀ q, q ≠ p → t.can q = s.can q) ∧
  ∀ q, t.getN (Can.NODE_ID q) = s.getN (Can.NODE_ID q)

namespace State.onlyPort
variable {s t : State} {p : Nat}

theorem refl (s : State) (p : Nat) : s.onlyPort s p := ⟨rfl, rfl, fun _ _ => rfl, fun _ => rfl⟩

theorem updCan (h : s.onlyPort t p) (f : CanRt → CanRt) : s.onlyPort (t.updCan p f) p := by
  obtain ⟨hrest, hlen, hother, hid⟩ := h
  refine ⟨(congrArg (fun u : State => u.updCan p f) hrest :), (modAt_length ..).trans hlen, fun q hq => ?_, hid⟩
  rw [State.can_updCan_other _ hq, hother q hq]

/-- A write of an object of a port other than the node ID. -/
theorem setN (h : s.onlyPort t p) {sub : Nat} (q x : Nat) (hs : sub < 256 ∧ sub ≠ 2) : s.onlyPort (t.setN (canKey q sub) x) p := by
  obtain ⟨hrest, hlen, hother, hid⟩ := h
  refine ⟨(congrArg (fun u : State => u.setN (canKey q sub) x) hrest :), hlen, hother, fun r => ?_⟩
  rw [State.getN_setN_other _ _ (canKey_ne_nodeId hs.1 hs.2).symm, hid r]

theorem ite {u : State} {c : Prop} {_ : Decidable c} (h : s.onlyPort t p) (hu : s.onlyPort u p) : s.onlyPort (if c then t else u) p := by
  split
  · exact h
  · exact hu

theorem fifoSync (h : s.onlyPort t p) : s.onlyPort (t.fifoSync p) p := h.setN p _ (by decide)
theorem fifoRefill (h : s.onlyPort t p) : s.onlyPort (t.fifoRefill p) p := (h.updCan _).fifoSync

theorem cancel (h : s.onlyPort t p) (drop : TxEntry → Bool) : s.onlyPort (t.cancel p drop) p :=
  ((h.updCan _).setN p _ (by decide)).fifoRefill

theorem enqueue (h : s.onlyPort t p) (e : TxEntry) : s.onlyPort (t.enqueue p e) p := by
  unfold State.enqueue
  dsimp only
  refine h.ite (State.onlyPort.ite (h.updCan _).fifoSync ?_)
  split
  · exact h.updCan _
  · exact h.updCan _
  · exact (h.setN p _ (by decide)).setN p _ (by decide)
  · exact (h.setN p _ (by decide)).setN p _ (by decide)

theorem portFresh (h : s.onlyPort t p) : s.onlyPort (t.portFresh p) p :=
  (((((h.cancel _).updCan _).setN p _ (by decide)).setN p _ (by decide)).setN p _ (by decide)).fifoSync

theorem portRestart (h : s.onlyPort t p) : s.onlyPort (t.portRestart p) p := (h.portFresh.updCan _).enqueue _

end State.onlyPort

/-- A frame produced for a port leaves its node as it is. -/
theorem State.can_enqueue {s : State} {p : Nat} (hp : p < s.cans.length) (e : TxEntry) :
    ((s.enqueue p e).can p).nmt = (s.can p).nmt ∧ ((s.enqueue p e).can p).sdo = (s.can p).sdo ∧
      ((s.enqueue p e).can p).node = (s.can p).node := by
  have hupd : ∀ f : CanRt → CanRt, ((s.updCan p f).fifoSync p).can p = f (s.can p) := fun f => State.can_updCan_same hp f
  unfold State.enqueue
  dsimp only
  split
  · exact ⟨rfl, rfl, rfl⟩
  · split
    · rw [hupd]; exact ⟨rfl, rfl, rfl⟩
    · split
      · rw [State.can_updCan_same hp]; exact ⟨rfl, rfl, rfl⟩
      · rw [State.can_updCan_same hp]; exact ⟨rfl, rfl, rfl⟩
      · exact ⟨rfl, rfl, rfl⟩
      · exact ⟨rfl, rfl, rfl⟩

/-- The node of a port is new: pre-operational, no SDO transfer open, with the node ID in force. -/
def State.nodeNew (s : State) (p : Nat) : Prop :=
  (s.can p).nmt = 127 ∧ (s.can p).sdo.phase = .idle ∧ (s.can p).node = s.getN (Can.NODE_ID p)

theorem State.nodeNew.congr {s t : State} {p : Nat} (h : s.nodeNew p) (hcan : t.can p = s.can p)
    (hid : t.getN (Can.NODE_ID p) = s.getN (Can.NODE_ID p)) : t.nodeNew p := by
  simpa only [State.nodeNew, hcan, hid] using h

/-- A port made new has no SDO transfer open and takes the node ID in force. -/
theorem State.can_portFresh {s : State} {p : Nat} (hp : p < s.cans.length) :
    ((s.portFresh p).can p).sdo.phase = .idle ∧ ((s.portFresh p).can p).node = s.getN (Can.NODE_ID p) := by
  obtain ⟨-, hlen, -, -⟩ := (State.onlyPort.refl s p).cancel (fun _ => true)
  have hupd : ∀ f : CanRt → CanRt, ((s.cancel p (fun _ => true)).updCan p f).can p = f ((s.cancel p (fun _ => true)).can p) :=
    fun f => State.can_updCan_same (hlen ▸ hp) f
  simp only [State.portFresh, State.can_fifoSync, State.can_setN, hupd, and_self]

/-- The boot-up message leaves the node pre-operational and otherwise as it is. -/
theorem State.can_bootUp {s : State} {p : Nat} (hp : p < s.cans.length) :
    ((s.bootUp p).can p).nmt = 127 ∧ ((s.bootUp p).can p).sdo = (s.can p).sdo ∧ ((s.bootUp p).can p).node = (s.can p).node := by
  have hset := State.can_updCan_same hp (fun c => { c with nmt := 127 })
  have hsent := fun e => State.can_enqueue (s := s.updCan p (fun c => { c with nmt := 127 })) (hp.trans_eq (modAt_length ..).symm) e
  simp only [hset] at hsent
  exact hsent _

/-- Step 2 makes the node of a port new. -/
theorem State.nodeNew_portRestart {s : State} {p : Nat} (hp : p < s.cans.length) : (s.portRestart p).nodeNew p := by
  obtain ⟨-, hlen, -, -⟩ := (State.onlyPort.refl s p).portFresh
  obtain ⟨-, -, -, hid⟩ := (State.onlyPort.refl s p).portRestart
  obtain ⟨hphase, hnode⟩ := State.can_portFresh hp
  obtain ⟨hnmt, hsdo, hnode'⟩ := State.can_bootUp (hlen.symm ▸ hp)
  exact ⟨hnmt, (congrArg SdoRt.phase hsdo).trans hphase, hnode'.trans (hnode.trans (hid p).symm)⟩

/-! ### Reset communication (R91, Table 2-8) -/

/-- The communication objects return to their stored values; nothing but objects differs. -/
theorem State.comReset_onlyDict (s : State) : s.comReset = { s with dict := s.comReset.dict } := by
  have hputs : ∀ (l : List (Nat × Val)) (u : State), u = { s with dict := u.dict } →
      l.foldl (fun u e => u.put e.1 e.2) u = { s with dict := (l.foldl (fun u e => u.put e.1 e.2) u).dict } := by
    intro l
    induction l with
    | nil => exact fun _ hu => hu
    | cons e l ih => exact fun u hu => ih _ (congrArg (fun u : State => u.put e.1 e.2) hu :)
  exact hputs _ _ rfl

/-- Two ports restarted one after the other: both nodes are new, and beside the ports nothing but objects differs. -/
theorem State.portRestart_both {s : State} (hlen : s.cans.length = 2) :
    (s.portRestart 0).portRestart 1 = { s with
      cans := ((s.portRestart 0).portRestart 1).cans, dict := ((s.portRestart 0).portRestart 1).dict } ∧
    ∀ q < 2, ((s.portRestart 0).portRestart 1).nodeNew q := by
  obtain ⟨hrest, hlen', -, -⟩ := (State.onlyPort.refl s 0).portRestart
  obtain ⟨hrest', -, hother, hid⟩ := (State.onlyPort.refl (s.portRestart 0) 1).portRestart
  refine ⟨hrest'.trans (congrArg (fun u : State => { u with
    cans := ((s.portRestart 0).portRestart 1).cans, dict := ((s.portRestart 0).portRestart 1).dict }) hrest :), fun q hq => ?_⟩
  obtain rfl | rfl : q = 0 ∨ q = 1 := by omega
  · exact (State.nodeNew_portRestart (by omega)).congr (hother 0 (by decide)) (hid 0)
  · exact State.nodeNew_portRestart (by omega)

/-- No node ID is the cause of the last reset. -/
theorem nodeId_ne_lastResetCause (q : Nat) : Can.NODE_ID q ≠ Obj.RESET_LADDER.LAST_RESET_CAUSE := by
  unfold Can.NODE_ID canKey keyOf Obj.RESET_LADDER.LAST_RESET_CAUSE
  omega

/-! ### Reset node (R91, R61, Table 2-4) -/

/-- The exit from RUN (R61) is in PHASE 2 with its cause kept; the mode and its other timers stand. -/
theorem State.startExit_mode {s : State} (h : s.phase ≠ 2) (cause : Nat) :
    (s.startExit cause).md = { s.md with exitCause := cause } ∧ (s.startExit cause).phase = 2 := by
  have hkept := State.ModeKept.foldl (fun _ g hu => hu.groupOff g) (List.range 8)
    (State.ModeKept.refl ((s.setN Obj.MODE_STATUS.PHASE 2).updMd (fun m => { m with exitCause := cause })))
  rw [State.startExit, if_neg h]
  exact ⟨hkept.1, hkept.2.trans (State.getN_setN_same s Obj.MODE_STATUS.PHASE 2)⟩

/-- From RUN a reset is decided for the end of the exit, which begins. -/
theorem State.resetDecide_run {s : State} (hpd : s.powerDown = false) (hm : s.mode = .run) (hph : s.phase ≠ 2) (cause : Nat)
    (landing : Bool) : (s.resetDecide cause landing).mode = .run ∧ (s.resetDecide cause landing).phase = 2 ∧
      (s.resetDecide cause landing).md.exitReset = some cause := by
  obtain ⟨hmd, hphase⟩ := State.startExit_mode hph cause
  simp only [State.resetDecide, hpd, hm, Bool.false_eq_true, if_false]
  exact ⟨(congrArg ModeRt.mode hmd).trans hm, hphase, rfl⟩

/-- From READY and LOCKOUT a reset is decided at once and waits for the flush. -/
theorem State.resetDecide_ready {s : State} (hpd : s.powerDown = false) (hm : s.mode = .ready ∨ s.mode = .lockout) (cause : Nat)
    (landing : Bool) : (s.resetDecide cause landing).md = { s.md with transit := .resetWait cause landing s.root } := by
  have hflush : s.startFlush.md = s.md := ((State.ModeKept.refl s).onlyRecords (State.onlyRecords.refl s).startFlush).1
  have hkept := (State.ModeKept.refl (s.startFlush.updMd (fun m => { m with transit := .resetWait cause landing s.root }))).arcSync 0
  have hdecide : s.resetDecide cause landing =
      (s.startFlush.updMd (fun m => { m with transit := .resetWait cause landing s.root })).arcSync 0 := by
    rcases hm with hm | hm <;> simp only [State.resetDecide, hpd, hm, Bool.false_eq_true, if_false]
  rw [hdecide, hkept.1, State.updMd_md, hflush]

/-! ### The statement -/

/-- Settles O24: the commands that set the NMT state change the addressed port alone; the resets follow from what the exit from RUN, the
flush and the Arcade's ports keep, and from what the restart of a port makes of its node. -/
theorem nmtGovernsCommunicationOnly : Obligations.NmtGovernsCommunicationOnly := by
  unfold Obligations.NmtGovernsCommunicationOnly
  have hport : ∀ {s : State} {p node : Nat}, s.nmtFor p node = true → s.cans.length = 2 → p < s.cans.length :=
    fun h hlen => hlen ▸ State.lt_of_canOn (State.canOn_of_nmtFor h)
  refine ⟨?start, ?stop, ?pre, ?node, ?nodeRun, ?com⟩
  case start =>
    intro s p node h hlen
    refine ⟨s.nmtTo p 5, ?_, State.nmt_nmtTo (hport h hlen) 5, rfl, rfl, rfl, rfl, rfl⟩
    simp only [exec, execNmtStart, h, if_true]
  case stop =>
    intro s p node h hlen
    have hnmt : ((s.nmtStopped p).can p).nmt = 4 := State.nmt_nmtStopped (hport h hlen)
    refine ⟨s.nmtStopped p, ?_, hnmt, State.pdoOn_of_nmt (by omega), State.sdoOn_of_stopped hnmt, rfl, rfl, rfl, rfl, rfl⟩
    simp only [exec, execNmtStop, h, if_true, State.nmtStopped]
  case pre =>
    intro s p node h hlen
    have hnmt := State.nmt_nmtTo (hport h hlen) 127
    refine ⟨s.nmtTo p 127, ?_, hnmt, State.pdoOn_of_nmt (by omega), State.sdoOn_iff.mpr ⟨?_, .inl hnmt⟩,
      rfl, rfl, rfl, rfl, rfl⟩
    · simp only [exec, execNmtPreOperational, h, if_true]
    · rw [State.canOn_nmtTo, State.canOn_of_nmtFor h]
  case node =>
    intro s p node h hm
    have hmd := State.resetDecide_ready (State.powerDown_of_canOn (State.canOn_of_nmtFor h)) hm 5 false
    refine ⟨s.resetDecide 5 false, ?_, (congrArg ModeRt.mode hmd :), (congrArg ModeRt.transit hmd :)⟩
    simp only [exec, execNmtResetNode, h, if_true]
  case nodeRun =>
    intro s p node h hm hph
    refine ⟨s.resetDecide 5 false, ?_, State.resetDecide_run (State.powerDown_of_canOn (State.canOn_of_nmtFor h)) hm hph 5 false⟩
    simp only [exec, execNmtResetNode, h, if_true]
  case com =>
    intro s p node h hlen
    have hcom := s.comReset_onlyDict
    obtain ⟨hrest, hnode⟩ := State.portRestart_both (s := s.comReset) ((congrArg (fun u : State => u.cans.length) hcom :).trans hlen)
    refine ⟨_, by simp only [exec, execNmtResetCommunication, h, if_true], State.getN_setN_same ..,
      (congrArg State.md hrest :).trans (congrArg State.md hcom :), (congrArg State.gal hrest :).trans (congrArg State.gal hcom :),
      (congrArg State.safe hrest :).trans (congrArg State.safe hcom :), fun q hq => ?_⟩
    exact (hnode q hq).congr rfl (State.getN_setN_other _ _ (nodeId_ne_lastResetCause q))

end Sys2Proof.Machine
end

section
/-! Addresses on the loop (R122): what a monitor's work on a passing frame makes of its address, what the head keeps of the frame, and the
statement. -/
namespace Sys2Proof.Machine

/-! ### The units of a string -/

/-- A Gallery that the part has is one of the 32. -/
theorem State.lt_of_hasGal {s : State} {n : Nat} (h : s.hasGal n = true) (hlen : s.gal.length = 32) : n < s.gal.length := by
  have hn : n < s.part.galleries := of_decide_eq_true h
  have hpart : s.part.galleries ≤ 32 := by cases s.part <;> decide
  omega

theorem State.g_updG_same {s : State} {n : Nat} (hn : n < s.gal.length) (f : Gallery → Gallery) : (s.updG n f).g n = f (s.g n) := by
  rw [State.g_updG, if_pos ⟨rfl, hn⟩]

theorem State.g_updG_other (s : State) {n m : Nat} (hm : m ≠ n) (f : Gallery → Gallery) : (s.updG n f).g m = s.g m := by
  rw [State.g_updG, if_neg fun h => hm h.1]

@[simp] theorem State.updMon_gal_length (s : State) (n a : Nat) (f : Monitor → Monitor) : (s.updMon n a f).gal.length = s.gal.length :=
  modAt_length ..

theorem State.mon_updMon_same {s : State} {n node : Nat} (hn : n < s.gal.length) (ha : node - 1 < (s.g n).mons.length)
    (f : Monitor → Monitor) : (s.updMon n node f).mon n node = f (s.mon n node) := by
  rw [State.mon, State.updMon, State.g_updG_same hn, modAt_getD, if_pos ⟨rfl, ha⟩, State.mon]

theorem State.mon_updMon_other (s : State) {n node a : Nat} (ha : a - 1 ≠ node - 1) (f : Monitor → Monitor) :
    (s.updMon n node f).mon n a = s.mon n a := by
  rw [State.mon, State.updMon, State.g_updG]
  split
  · rw [modAt_getD, if_neg fun h => ha h.1, State.mon]
  · rfl

/-- Of its string a change of a monitor touches the monitors only. -/
theorem State.g_updMon (s : State) (n a : Nat) (f : Monitor → Monitor) :
    (s.updMon n a f).g n = { s.g n with mons := ((s.updMon n a f).g n).mons } := by
  rw [State.updMon, State.g_updG]
  split <;> rfl

theorem State.head_updMon (s : State) (n a : Nat) (f : Monitor → Monitor) : ((s.updMon n a f).g n).head = (s.g n).head :=
  (congrArg Gallery.head (s.g_updMon n a f) :)

@[simp] theorem State.mons_length_updMon (s : State) (n a : Nat) (f : Monitor → Monitor) :
    ((s.updMon n a f).g n).mons.length = (s.g n).mons.length := by
  rw [State.updMon, State.g_updG]
  split
  · exact modAt_length ..
  · rfl

theorem State.head_updHead {s : State} {n : Nat} (hn : n < s.gal.length) (f : Head → Head) :
    ((s.updHead n f).g n).head = f (s.g n).head := by
  rw [State.updHead, State.g_updG_same hn]

theorem State.mon_updHead {s : State} {n : Nat} (hn : n < s.gal.length) (f : Head → Head) (a : Nat) :
    (s.updHead n f).mon n a = s.mon n a := by
  rw [State.mon, State.updHead, State.g_updG_same hn, State.mon]

/-! ### Steps of one monitor -/

theorem State.onlyMon.refl (s : State) (n node : Nat) : s.onlyMon s n node := ⟨rfl, fun _ _ => rfl, rfl, fun _ _ _ => rfl⟩

theorem State.onlyMon.take {s t : State} {n node : Nat} (h : s.onlyMon t n node) : s.onlyMon t.take.2 n node := by
  obtain ⟨hrest, hothers, hown, hmons⟩ := h
  exact ⟨congrArg (fun u : State => u.take.2) hrest, hothers, hown, hmons⟩

theorem State.onlyMon.updMon {s t : State} {n node : Nat} (h : s.onlyMon t n node) (hnode : 1 ≤ node) (f : Monitor → Monitor) :
    s.onlyMon (t.updMon n node f) n node := by
  obtain ⟨hrest, hothers, hown, hmons⟩ := h
  refine ⟨congrArg (fun u : State => { u with gal := (t.updMon n node f).gal }) hrest, fun m hm => ?_, ?_, fun a h1 ha => ?_⟩
  · exact (t.g_updG_other hm _).trans (hothers m hm)
  · exact (t.g_updMon n node f).trans (congrArg (fun g => { g with mons := ((t.updMon n node f).g n).mons }) hown)
  · exact (t.mon_updMon_other (by omega) f).trans (hmons a h1 ha)

/-! ### What a monitor's work leaves of its address -/

/-- The address of a monitor and the time of its last frame stand. -/
def Monitor.KeepsPlace (m x : Monitor) : Prop := x.addr = m.addr ∧ x.frameAt = m.frameAt

/-- A command in either of two cases. -/
theorem Monitor.KeepsPlace.ite {m : Monitor} {c : Prop} {_ : Decidable c} {x y : Nat × List Byte × Monitor} (hx : m.KeepsPlace x.2.2)
    (hy : m.KeepsPlace y.2.2) : m.KeepsPlace (if c then x else y).2.2 := by
  split
  · exact hx
  · exact hy

/-- No command moves a monitor to another address: it takes one only from a frame with ASSIGN (R122). -/
theorem Monitor.run_keepsPlace (m : Monitor) (e : Entry) (sf result maker root : Nat) :
    m.KeepsPlace (m.run e sf result maker root).2.2 := by
  have same : m.KeepsPlace m := ⟨rfl, rfl⟩
  unfold Monitor.run
  refine .ite ?identify <| .ite ?readReg <| .ite ?writeReg <| .ite ?syncReset <| .ite ?sweep <| .ite ?switchTest <|
    .ite ?commission <| .ite ?sleep <| .ite ?selftest ?unknown
  case identify => exact same
  case readReg => exact .ite same (.ite same same)
  case writeReg =>
    have put : ∀ regs : List Nat, m.KeepsPlace { m with regs := regs } := fun _ => ⟨rfl, rfl⟩
    exact .ite (put _) (.ite (put _) (.ite (.ite (put _) same) (.ite (.ite same (put _)) same)))
  case syncReset => exact .ite ⟨rfl, rfl⟩ (.ite ⟨rfl, rfl⟩ same)
  case sweep => exact .ite same ⟨rfl, rfl⟩
  case switchTest => exact .ite ⟨rfl, rfl⟩ (.ite ⟨rfl, rfl⟩ same)
  case commission => exact .ite ⟨rfl, rfl⟩ same
  case sleep => exact ⟨rfl, rfl⟩
  case selftest => exact ⟨rfl, rfl⟩
  case unknown => exact same

theorem Monitor.exec_keepsPlace (m : Monitor) (e : Entry) (sf result maker root : Nat) :
    m.KeepsPlace (m.exec e sf result maker root) := by
  have hrun := m.run_keepsPlace e sf result maker root
  unfold Monitor.exec
  split
  · exact ⟨rfl, rfl⟩
  · split
    · split
      · exact ⟨rfl, rfl⟩
      · exact hrun
    · exact hrun

/-- Nor do the commands of a whole CMD field. -/
theorem Monitor.foldl_exec_keepsPlace (es : List Entry) (m : Monitor) (sf result maker root : Nat) :
    m.KeepsPlace (es.foldl (fun m e => m.exec e sf result maker root) m) := by
  induction es generalizing m with
  | nil => exact ⟨rfl, rfl⟩
  | cons e es ih =>
    obtain ⟨haddr, hframe⟩ := m.exec_keepsPlace e sf result maker root
    obtain ⟨haddr', hframe'⟩ := ih (m.exec e sf result maker root)
    exact ⟨haddr'.trans haddr, hframe'.trans hframe⟩

theorem Monitor.resetIfDue_keepsPlace (m : Monitor) (sf : Nat) : m.KeepsPlace (m.resetIfDue sf) := by
  unfold Monitor.resetIfDue
  split <;> exact ⟨rfl, rfl⟩

theorem Monitor.rouse_keepsPlace (m : Monitor) (farUp : Bool) (lat : Nat) : m.KeepsPlace (m.rouse farUp lat) := by
  unfold Monitor.rouse
  dsimp only
  split <;> exact ⟨rfl, rfl⟩

theorem Monitor.echo_keepsPlace (m : Monitor) (ring : Bool) (trip : Option Nat) : m.KeepsPlace (m.echo ring trip) := by
  unfold Monitor.echo
  split
  · split <;> exact ⟨rfl, rfl⟩
  · exact ⟨rfl, rfl⟩

/-- The address of a monitor after a frame (R122): the counter's next value where the frame carries ASSIGN and is used (R108). -/
def Head.placeOf (h : Head) (m : Monitor) (reverse : Bool) : Nat :=
  if h.assign && decide ((if reverse then h.insR else h.insF) ≤ 64) then (if reverse then h.ctrR - 1 else h.ctrF + 1) else m.addr

theorem Monitor.frame_place (m : Monitor) (h : Head) (reverse rxErr farUp : Bool) (trip : Option Nat) (lat result maker root : Nat) :
    (m.frame h reverse rxErr farUp trip lat result maker root).addr = h.placeOf m reverse ∧
    (m.frame h reverse rxErr farUp trip lat result maker root).frameAt = root := by
  unfold Monitor.frame Head.placeOf
  extract_lets good assigned ring named turnAt lost turns linked arrived fresh due req balanced mine served filled
  obtain ⟨hservedAddr, hservedFrame⟩ : balanced.KeepsPlace served := foldl_exec_keepsPlace ..
  obtain ⟨hdueAddr, hdueFrame⟩ : arrived.KeepsPlace due := resetIfDue_keepsPlace ..
  have hlinked : linked.addr = assigned.addr :=
    ((assigned.rouse farUp lat).echo_keepsPlace ring trip).1.trans (assigned.rouse_keepsPlace farUp lat).1
  have hassigned : assigned.addr = if h.assign && good then (if reverse then h.ctrR - 1 else h.ctrF + 1) else m.addr := apply_ite ..
  exact ⟨hservedAddr.trans (hdueAddr.trans (hlinked.trans hassigned)), hservedFrame.trans hdueFrame⟩

/-! ### What the head keeps of a passing frame -/

/-- The frame at the head once monitor `m` has forwarded it: counters, insertions, and the monitor's slot. -/
def Head.passedBy (h : Head) (m : Monitor) (reverse : Bool) : Head :=
  let ins := if m.breakTriple then 3 else 0
  ((({ h with
      ctrF := if h.assign && !reverse then h.ctrF + 1 else h.ctrF
      ctrR := if h.assign && reverse then h.ctrR - 1 else h.ctrR
      insF := if reverse then h.insF else h.insF + ins
      insR := if reverse then h.insR + ins else h.insR } : Head).fillSlot m).localCheck).refreshUp

theorem Head.localCheck_frame (h : Head) : h.localCheck.ctrF = h.ctrF ∧ h.localCheck.ctrR = h.ctrR ∧ h.localCheck.slots = h.slots := by
  unfold Head.localCheck
  split <;> exact ⟨rfl, rfl, rfl⟩

theorem Head.fillSlot_counters (h : Head) (m : Monitor) : (h.fillSlot m).ctrF = h.ctrF ∧ (h.fillSlot m).ctrR = h.ctrR := by
  unfold Head.fillSlot
  split <;> exact ⟨rfl, rfl⟩

/-- The slot of a monitor with an address stands under that address (R114). -/
theorem Head.fillSlot_slots (h : Head) {m : Monitor} (h1 : 1 ≤ m.addr) (h39 : m.addr ≤ 39) :
    SMap.find? (h.fillSlot m).slots m.addr = some (blkOf h.loopSf m.slot) := by
  rw [Head.fillSlot, if_pos ⟨h1, h39⟩]
  exact SMap.find?_put_same ..

theorem Head.passedBy_ctrF (h : Head) (m : Monitor) (reverse : Bool) :
    (h.passedBy m reverse).ctrF = if h.assign && !reverse then h.ctrF + 1 else h.ctrF :=
  (Head.localCheck_frame _).1.trans (Head.fillSlot_counters _ m).1

theorem Head.passedBy_ctrR (h : Head) (m : Monitor) (reverse : Bool) :
    (h.passedBy m reverse).ctrR = if h.assign && reverse then h.ctrR - 1 else h.ctrR :=
  (Head.localCheck_frame _).2.1.trans (Head.fillSlot_counters _ m).2

theorem Head.passedBy_slots (h : Head) {m : Monitor} (h1 : 1 ≤ m.addr) (h39 : m.addr ≤ 39) (reverse : Bool) :
    SMap.find? (h.passedBy m reverse).slots m.addr = some (blkOf h.loopSf m.slot) :=
  (congrArg (SMap.find? · m.addr) (Head.localCheck_frame _).2.2).trans (Head.fillSlot_slots _ h1 h39)

/-! ### A new loop frame -/

/-- ASSIGN is set in a loop frame that carries a broadcast IDENTIFY; the entries without a command do not matter. -/
theorem Head.launch_assign (h : Head) (sf sample : Nat) (cmds : List Entry) :
    (h.launch sf sample cmds).assign = true ↔ ∃ e ∈ cmds, e.op = 1 ∧ e.target = 0xFF := by
  simp only [Head.launch, List.any_filter, List.any_eq_true, Bool.and_eq_true, bne_iff_ne, beq_iff_eq]
  have hidentify : ∀ e : Entry, e.op ≠ 0 ∧ e.op = 1 ∧ e.target = 0xFF ↔ e.op = 1 ∧ e.target = 0xFF :=
    fun e => and_iff_right_of_imp fun he => by omega
  simp only [hidentify]

/-! ### The commands -/

/-- What a monitor of string n does on a passing frame, with the two free values that its step takes. -/
def State.frameWork (s : State) (n : Nat) (reverse rxErr : Bool) (link : LinkIn) (m : Monitor) : Monitor :=
  m.frame (s.g n).head reverse rxErr link.farUp link.echo link.lat (Config.freeNat s.take.1 % 64)
    (Config.freeNat s.take.2.take.1 % 2 ^ 32) s.root

/-- The string once monitor `node` has done its work, before the head's part of the frame is brought up to date. -/
def State.frameAtMon (s : State) (n node : Nat) (reverse rxErr : Bool) (link : LinkIn) : State :=
  s.take.2.take.2.updMon n node (s.frameWork n reverse rxErr link)

theorem execMonitorSlotFill_next {s : State} {n node : Nat} (hgal : s.hasGal n = true) (h1 : 1 ≤ node) (h39 : node ≤ 39)
    (reverse rxErr : Bool) (link : LinkIn) :
    exec (.monitorSlotFill n node reverse rxErr link) s = .next ((s.frameAtMon n node reverse rxErr link).updHead n
      fun h => h.passedBy ((s.frameAtMon n node reverse rxErr link).mon n node) reverse) := by
  simp only [exec, execMonitorSlotFill, hgal, decide_eq_true (Nat.lt_of_succ_le h1), decide_eq_true h39, Bool.and_self, if_true]
  rfl

/-- MONITOR_SLOT_FILL on either half of the loop: the monitor's place, and the head with the frame that the monitor has forwarded. -/
theorem execMonitorSlotFill_place {s : State} {n node : Nat} (hgal : s.hasGal n = true) (hlen : s.gal.length = 32) (h1 : 1 ≤ node)
    (h39 : node ≤ 39) (hmons : (s.g n).mons.length = 39) (reverse rxErr : Bool) (link : LinkIn) :
    ∃ t, exec (.monitorSlotFill n node reverse rxErr link) s = .next t ∧
      (t.mon n node).addr = (s.g n).head.placeOf (s.mon n node) reverse ∧ (t.mon n node).frameAt = s.root ∧
      (t.g n).head = (s.g n).head.passedBy (t.mon n node) reverse := by
  have hn : n < s.take.2.take.2.gal.length := State.lt_of_hasGal hgal hlen
  have ha : node - 1 < (s.take.2.take.2.g n).mons.length := (show node - 1 < 39 by omega).trans_eq hmons.symm
  have hu : n < (s.frameAtMon n node reverse rxErr link).gal.length := hn.trans_eq (State.updMon_gal_length ..).symm
  have hmon : (s.frameAtMon n node reverse rxErr link).mon n node = s.frameWork n reverse rxErr link (s.mon n node) :=
    State.mon_updMon_same hn ha _
  have hhead : ((s.frameAtMon n node reverse rxErr link).g n).head = (s.g n).head := State.head_updMon ..
  obtain ⟨haddr, hframe⟩ : (s.frameWork n reverse rxErr link (s.mon n node)).addr = (s.g n).head.placeOf (s.mon n node) reverse ∧
      (s.frameWork n reverse rxErr link (s.mon n node)).frameAt = s.root := Monitor.frame_place ..
  refine ⟨_, execMonitorSlotFill_next hgal h1 h39 reverse rxErr link, ?_, ?_, ?_⟩
  · rw [State.mon_updHead hu, hmon, haddr]
  · rw [State.mon_updHead hu, hmon, hframe]
  · rw [State.head_updHead hu, State.mon_updHead hu, hhead]

/-- A command to a monitor changes that monitor alone and leaves it at its address. -/
theorem State.unitExec_mon {s t : State} {n node : Nat} (h : s.onlyMon t n node) (hgal : t.hasGal n = true) (hn : n < t.gal.length)
    (hnode : 1 ≤ node) (hmons : node ≤ (t.g n).mons.length) (onB : Bool) (e : Entry) (result : Nat) :
    s.onlyMon (t.unitExec n onB node e result) n node ∧ ((t.unitExec n onB node e result).mon n node).addr = (t.mon n node).addr := by
  have hunit : t.unitExec n onB node e result = t.take.2.updMon n node
      (fun m => m.exec e (t.g n).head.loopSf result (Config.freeNat t.take.1 % 2 ^ 32) t.root) := by
    simp only [State.unitExec, hgal, Bool.not_true, Bool.false_eq_true, if_false, if_neg (show node ≠ 0 by omega)]
    rfl
  rw [hunit]
  refine ⟨h.take.updMon hnode _, ?_⟩
  rw [State.mon_updMon_same (s := t.take.2) hn (show node - 1 < (t.g n).mons.length by omega)]
  exact (Monitor.exec_keepsPlace ..).1

/-- IDENTIFY in a frame with ASSIGN gives the monitor its address, and its execution keeps it. -/
theorem execIdentify_assigns {s : State} {n node : Nat} (hgal : s.hasGal n = true) (hlen : s.gal.length = 32) (h1 : 1 ≤ node)
    (hmons : node ≤ (s.g n).mons.length) (onB : Bool) (tag ctr : Nat) (reverse : Bool) :
    ∃ t, exec (.identify n onB node tag true ctr reverse) s = .next t ∧ s.onlyMon t n node ∧
      (t.mon n node).addr = if reverse then ctr - 1 else ctr + 1 := by
  have hn := State.lt_of_hasGal hgal hlen
  have hplaced := State.mon_updMon_same hn (show node - 1 < (s.g n).mons.length by omega)
    fun m => { m with addr := if reverse then ctr - 1 else ctr + 1 }
  obtain ⟨honly, haddr⟩ := State.unitExec_mon ((State.onlyMon.refl s n node).updMon h1 _) hgal
    (hn.trans_eq (State.updMon_gal_length ..).symm) h1 (hmons.trans_eq (State.mons_length_updMon ..).symm) onB
    { op := 1, target := node, tag := tag, args := args12 [] } 0
  refine ⟨_, ?_, honly, haddr.trans (congrArg Monitor.addr hplaced)⟩
  simp only [exec, execIdentify, Bool.true_and, decide_eq_true (Nat.lt_of_succ_le h1), if_true]

/-! ### The statement -/

/-- Settles O30: what a monitor's work on a frame makes of its address, on either half of the loop; IDENTIFY with ASSIGN sets the address,
which its execution keeps; a new loop frame starts the counters. -/
theorem addressesOnlyFromAssign : Obligations.AddressesOnlyFromAssign := by
  unfold Obligations.AddressesOnlyFromAssign
  refine ⟨?forward, ?reverse, ?identify, ?launch⟩
  case forward =>
    intro s n node lat rx far echo hgal hlen h1 h39 hmons hins
    obtain ⟨t, ht, haddr, hframe, hhead⟩ := execMonitorSlotFill_place hgal hlen h1 h39 hmons false rx ⟨far, echo, lat⟩
    refine ⟨t, ht, ?_, ?_, hframe, fun ha hb => ?_⟩
    · simpa [Head.placeOf, hins] using haddr
    · simpa [Head.passedBy_ctrF] using congrArg Head.ctrF hhead
    · rw [hhead]
      exact Head.passedBy_slots _ ha hb false
  case reverse =>
    intro s n node lat rx far echo hgal hlen h1 h39 hmons hins
    obtain ⟨t, ht, haddr, hframe, hhead⟩ := execMonitorSlotFill_place hgal hlen h1 h39 hmons true rx ⟨far, echo, lat⟩
    refine ⟨t, ht, ?_, ?_, hframe, fun ha hb => ?_⟩
    · simpa [Head.placeOf, hins] using haddr
    · simpa [Head.passedBy_ctrR] using congrArg Head.ctrR hhead
    · rw [hhead]
      exact Head.passedBy_slots _ ha hb true
  case identify =>
    intro s n node tag ctr onB rev ⟨hgal, hlen, h1, hmons, _⟩
    exact execIdentify_assigns hgal hlen h1 hmons onB tag ctr rev
  case launch => exact fun h sf sample cmds => ⟨rfl, rfl, h.launch_assign sf sample cmds⟩

end Sys2Proof.Machine
end

section
/-! The shares of an allocation (R313): the rounds fill up strings at their capability until what is left is shared by weight, and no
round leaves more than the capability of the strings that remain. -/
namespace Sys2Proof.Machine
set_option Elab.async false

/-! ### Sums of numbers -/

theorem qsum_eq_sum (l : List Q) : qsum l = l.sum := List.sum_eq_foldl.symm

theorem qabs_eq_abs (x : Q) : qabs x = |x| := by
  unfold qabs
  split
  next h => exact (abs_of_neg h).symm
  next h => exact (abs_of_nonneg (not_lt.1 h)).symm

theorem le_qmax_left (x y : Q) : x ≤ qmax x y := by
  unfold qmax
  split
  next h => exact h
  next => exact le_rfl

/-- A sum over a list is the sum over what a test keeps and the sum over what it drops. -/
theorem sum_map_filter_add_not {α : Type} (p : α → Bool) (f : α → Q) (l : List α) :
    ((l.filter p).map f).sum + ((l.filter (fun x => !p x)).map f).sum = (l.map f).sum := by
  induction l with
  | nil => simp
  | cons a l ih => cases h : p a <;> simp [h, ← ih] <;> ring

/-! ### A round -/

/-- What the rounds start from: capabilities and weights above 0, and no more left than the capabilities carry. -/
def Sharable (l : List (Nat × Q × Q)) (rem : Q) : Prop :=
  (∀ x ∈ l, 0 < x.2.1 ∧ 0 < x.2.2) ∧ 0 ≤ rem ∧ rem < (l.map (fun x => x.2.1)).sum

/-- Whether a string's share by weight is above its capability. -/
def overShare (l : List (Nat × Q × Q)) (rem : Q) (x : Nat × Q × Q) : Bool :=
  decide (x.2.1 < rem * x.2.2 / (l.map (fun x => x.2.2)).sum)

theorem allocRounds_succ (k : Nat) (l : List (Nat × Q × Q)) (rem : Q) :
    allocRounds (k + 1) l rem =
      if (l.filter (overShare l rem)).isEmpty then l.map (fun x => (x.1, rem * x.2.2 / (l.map (fun x => x.2.2)).sum))
      else (l.filter (overShare l rem)).map (fun x => (x.1, x.2.1)) ++
        allocRounds k (l.filter (fun x => !overShare l rem x))
          (rem - ((l.filter (overShare l rem)).map (fun x => x.2.1)).sum) := by
  simp only [allocRounds, qsum_eq_sum]
  rfl

namespace Sharable
variable {l : List (Nat × Q × Q)} {rem : Q}

theorem ne_nil (h : Sharable l rem) : l ≠ [] := by
  rintro rfl
  exact absurd h.2.2 (not_lt.2 h.2.1)

theorem weights_pos (h : Sharable l rem) : 0 < (l.map (fun x => x.2.2)).sum :=
  List.sum_pos _ (List.forall_mem_map.2 fun x hx => (h.1 x hx).2) (by simpa using h.ne_nil)

/-- The strings filled up take no more than what is left. -/
theorem filled_le (h : Sharable l rem) : ((l.filter (overShare l rem)).map (fun x => x.2.1)).sum ≤ rem := by
  have hw := h.weights_pos
  have hhigh : ((l.filter (overShare l rem)).map (fun x => x.2.1)).sum ≤
      ((l.filter (overShare l rem)).map (fun x => rem / (l.map (fun x => x.2.2)).sum * x.2.2)).sum := by
    refine List.sum_le_sum fun x hx => ?_
    have hx := of_decide_eq_true (List.mem_filter.1 hx).2
    rw [div_mul_eq_mul_div]
    exact hx.le
  have hrest : 0 ≤ ((l.filter (fun x => !overShare l rem x)).map (fun x => x.2.2)).sum :=
    List.sum_nonneg (List.forall_mem_map.2 fun x hx => (h.1 x (List.mem_of_mem_filter hx)).2.le)
  have hsplit := sum_map_filter_add_not (overShare l rem) (fun x => x.2.2) l
  rw [List.sum_map_mul_left] at hhigh
  calc _ ≤ _ := hhigh
    _ ≤ rem / (l.map (fun x => x.2.2)).sum * (l.map (fun x => x.2.2)).sum :=
      mul_le_mul_of_nonneg_left (by linarith) (div_nonneg h.2.1 hw.le)
    _ = rem := div_mul_cancel₀ _ hw.ne'

/-- What a round leaves is sharable again. -/
theorem next (h : Sharable l rem) :
    Sharable (l.filter (fun x => !overShare l rem x)) (rem - ((l.filter (overShare l rem)).map (fun x => x.2.1)).sum) := by
  refine ⟨fun x hx => h.1 x (List.mem_of_mem_filter hx), sub_nonneg.2 h.filled_le, ?_⟩
  have hsplit := sum_map_filter_add_not (overShare l rem) (fun x => x.2.1) l
  have := h.2.2
  linarith

/-- Shares by weight add up to what is left. -/
theorem sum_weighted (h : Sharable l rem) : (l.map (fun x => rem * x.2.2 / (l.map (fun x => x.2.2)).sum)).sum = rem := by
  have : (fun x : Nat × Q × Q => rem * x.2.2 / (l.map (fun x => x.2.2)).sum) =
      fun x => rem / (l.map (fun x => x.2.2)).sum * x.2.2 := funext fun x => by ring
  rw [this, List.sum_map_mul_left, div_mul_cancel₀ _ h.weights_pos.ne']

/-- A round that fills up a string leaves fewer. -/
theorem fewer {k : Nat} (hk : l.length < k + 1) (hhigh : (l.filter (overShare l rem)).isEmpty = false) :
    (l.filter (fun x => !overShare l rem x)).length < k := by
  have hsplit := List.length_eq_length_filter_add (l := l) (overShare l rem)
  have : 0 < (l.filter (overShare l rem)).length := List.length_pos_iff.2 (by simpa using hhigh)
  omega

/-- The rounds give every string one share, from 0 to its capability, and the shares add up to what was left. -/
theorem rounds {k : Nat} (h : Sharable l rem) (hk : l.length < k) :
    (∀ x ∈ allocRounds k l rem, 0 ≤ x.2 ∧ ∃ it ∈ l, it.1 = x.1 ∧ x.2 ≤ it.2.1) ∧
      (allocRounds k l rem).length = l.length ∧ ((allocRounds k l rem).map (·.2)).sum = rem := by
  induction k generalizing l rem with
  | zero => omega
  | succ k ih =>
    rw [allocRounds_succ]
    split
    case isTrue hnone =>
      refine ⟨List.forall_mem_map.2 fun x hx => ⟨?_, x, hx, rfl, ?_⟩, List.length_map .., ?_⟩
      · exact div_nonneg (mul_nonneg h.2.1 (h.1 x hx).2.le) h.weights_pos.le
      · have := List.filter_eq_nil_iff.1 (List.isEmpty_iff.1 hnone) x hx
        simpa [overShare] using this
      · simpa [Function.comp_def] using h.sum_weighted
    case isFalse hsome =>
      obtain ⟨hshare, hlen, hsum⟩ := ih h.next (fewer hk (by simpa using hsome))
      refine ⟨fun x hx => ?_, ?_, ?_⟩
      · rcases List.mem_append.1 hx with hx | hx
        · obtain ⟨y, hy, rfl⟩ := List.mem_map.1 hx
          have hy := List.mem_of_mem_filter hy
          exact ⟨(h.1 y hy).1.le, y, hy, rfl, le_rfl⟩
        · obtain ⟨h0, it, hit, hle⟩ := hshare x hx
          exact ⟨h0, it, List.mem_of_mem_filter hit, hle⟩
      · have hsplit := List.length_eq_length_filter_add (l := l) (overShare l rem)
        simp only [List.length_append, List.length_map, hlen]
        omega
      · simp only [List.map_append, List.sum_append, hsum, List.map_map, Function.comp_def]
        ring

end Sharable

/-! ### The allocation -/

/-- The weight of a string: its capability by how far its SOC is off the mean, or its capability alone. -/
def shareWeight (kEq p mean : Q) (x : Nat × Q × Option Q) : Q :=
  match x.2.2 with
  | some v => x.2.1 * qmax (1 / 10) (1 + kEq * (if 0 ≤ p then v - mean else mean - v))
  | none => x.2.1

theorem shareWeight_pos {kEq p mean : Q} {x : Nat × Q × Option Q} (h : 0 < x.2.1) : 0 < shareWeight kEq p mean x := by
  unfold shareWeight
  split
  · exact mul_pos h (lt_of_lt_of_le (by norm_num) (le_qmax_left ..))
  · exact h

/-- The strings that can carry a share. -/
def capable (items : List (Nat × Q × Option Q)) : List (Nat × Q × Option Q) := items.filter (fun it => decide (0 < it.2.1))

theorem capable_iff {items : List (Nat × Q × Option Q)} {x : Nat × Q × Option Q} : x ∈ capable items ↔ x ∈ items ∧ 0 < x.2.1 := by
  simp [capable]

/-- An allocation either fills up every string or starts the rounds with less than the capabilities carry. -/
theorem allocate_cases (kEq : Q) (items : List (Nat × Q × Option Q)) (p : Q) :
    (((capable items).map (fun x => x.2.1)).sum ≤ |p| ∧
        allocate kEq items p = ((capable items).map (fun x => (x.1, x.2.1)), |p| - ((capable items).map (fun x => x.2.1)).sum)) ∨
      ∃ mean, |p| < ((capable items).map (fun x => x.2.1)).sum ∧
        allocate kEq items p = (allocRounds ((capable items).length + 1)
          ((capable items).map (fun x => (x.1, x.2.1, shareWeight kEq p mean x))) |p|, 0) := by
  by_cases h : ((capable items).map (fun x => x.2.1)).sum ≤ |p|
  · refine .inl ⟨h, ?_⟩
    simp only [allocate, qsum_eq_sum, qabs_eq_abs]
    exact if_pos h
  · refine .inr ⟨(meanSoc ((capable items).map (fun x => (x.2.1, x.2.2)))).getD 0, not_le.1 h, ?_⟩
    simp only [allocate, qsum_eq_sum, qabs_eq_abs]
    exact if_neg h

/-- Settles O48: either every string is filled up and the rest is the shortfall, or the rounds share all of the demand. -/
theorem allocationSplitsTheDemand : Obligations.AllocationSplitsTheDemand := by
  unfold Obligations.AllocationSplitsTheDemand
  intro kEq items p
  change _ ∧ _ = (capable items).length ∧ _
  rw [qsum_eq_sum, qabs_eq_abs]
  rcases allocate_cases kEq items p with ⟨hle, halloc⟩ | ⟨mean, hlt, halloc⟩ <;> rw [halloc]
  · refine ⟨List.forall_mem_map.2 fun x hx => ?_, List.length_map .., sub_nonneg.2 hle, ?_⟩
    · obtain ⟨hmem, hpos⟩ := capable_iff.1 hx
      exact ⟨hpos.le, x, hmem, rfl, hpos, le_rfl⟩
    · simp [Function.comp_def]
  · have hstart : Sharable ((capable items).map (fun x => (x.1, x.2.1, shareWeight kEq p mean x))) |p| := by
      refine ⟨List.forall_mem_map.2 fun x hx => ?_, abs_nonneg p, by simpa [Function.comp_def] using hlt⟩
      have hpos := (capable_iff.1 hx).2
      exact ⟨hpos, shareWeight_pos hpos⟩
    obtain ⟨hshare, hlen, hsum⟩ := hstart.rounds (k := (capable items).length + 1) (by simp)
    refine ⟨fun x hx => ?_, by simpa using hlen, le_rfl, by simpa using hsum⟩
    obtain ⟨h0, it, hit, hid, hle⟩ := hshare x hx
    obtain ⟨y, hy, rfl⟩ := List.mem_map.1 hit
    obtain ⟨hmem, hpos⟩ := capable_iff.1 hy
    exact ⟨h0, y, hmem, hid, hpos, hle⟩

end Sys2Proof.Machine
end

section
/-! What every command leaves as it is: the commands that wait behind it, the part, the unit serial, and the invariant where it held. The
relation holds of the shared changes of the state here; one lemma for each operation of the model follows from these. -/
namespace Sys2Proof.Machine
set_option Elab.async false

/-- What no command changes: the commands that wait, the part and the unit serial. -/
def State.identity (s : State) : List Instr × Part × Nat := (s.pending, s.part, s.serial)

/-- From s on, the queue and the identity are kept, the invariant if it held, and a latch that is set in the store. -/
def State.Keeps (s t : State) : Prop := t.identity = s.identity ∧ (s.Inv → t.Inv) ∧ (s.nand.latch = true → t.nand.latch = true)

/-- The same without the latch, of the one command that may clear it. -/
def State.KeepsInv (s t : State) : Prop := t.identity = s.identity ∧ (s.Inv → t.Inv)

/-- The same of an effect that may be refused, -/
def State.KeepsOk (s : State) (x : Except Nat State) : Prop := ∀ u, x = .ok u → s.Keeps u

/-- of a read that may be refused, -/
def State.KeepsRead (s : State) (x : Except Nat (List Byte × State)) : Prop := ∀ u, x = .ok u → s.Keeps u.2

/-- and of the outcome of a command, which is a next state. -/
def State.Next (s : State) (o : Out) : Prop := ∃ t, o = .next t ∧ s.Keeps t

theorem otherSlot_lt (i : Nat) : otherSlot i < 2 := by
  unfold otherSlot
  omega

theorem State.Inv.active_lt {s : State} (h : s.Inv) : s.nand.active < 2 := by
  obtain ⟨_, _, _, _, _, _, _, _, _, _, _, hactive, _⟩ := h
  exact hactive

theorem State.Inv.slot_lt {s : State} (h : s.Inv) : s.upd.slot < 2 := by
  obtain ⟨_, _, _, _, _, _, _, _, _, _, _, _, hslot⟩ := h
  exact hslot

theorem State.Inv.downSlot_lt {s : State} (h : s.Inv) : s.downSlot < 2 := by
  unfold State.downSlot
  split
  · exact h.active_lt
  · exact otherSlot_lt _

namespace State.Keeps
variable {s t u : State}

theorem refl (s : State) : s.Keeps s := ⟨rfl, id, id⟩

theorem trans (h : s.Keeps t) (hu : t.Keeps u) : s.Keeps u := by
  obtain ⟨hid, hinv, hlatch⟩ := h
  obtain ⟨hid', hinv', hlatch'⟩ := hu
  exact ⟨hid'.trans hid, hinv' ∘ hinv, hlatch' ∘ hlatch⟩

theorem step (h : s.Keeps t) (hid : u.identity = t.identity) (hinv : t.Inv → u.Inv)
    (hlatch : t.nand.latch = true → u.nand.latch = true := by exact id) : s.Keeps u :=
  h.trans ⟨hid, hinv, hlatch⟩

/-- What is known of an intermediate state, named. -/
theorem andThen (h : s.Keeps t) (hu : s.Keeps t → s.Keeps u) : s.Keeps u := hu h

theorem andThenOk {x : Except Nat State} (h : s.Keeps t) (hu : s.Keeps t → s.KeepsOk x) : s.KeepsOk x := hu h

theorem andThenRead {x : Except Nat (List Byte × State)} (h : s.Keeps t) (hu : s.Keeps t → s.KeepsRead x) : s.KeepsRead x := hu h

theorem andThenNext {o : Out} (h : s.Keeps t) (hu : s.Keeps t → s.Next o) : s.Next o := hu h

theorem ite {c : Prop} {_ : Decidable c} (ht : s.Keeps t) (hu : s.Keeps u) : s.Keeps (if c then t else u) := by
  split
  · exact ht
  · exact hu

theorem ite_snd {α : Type} {c : Prop} {_ : Decidable c} {x y : α × State} (hx : s.Keeps x.2) (hy : s.Keeps y.2) :
    s.Keeps (if c then x else y).2 := by
  split
  · exact hx
  · exact hy

theorem ite_fst {α : Type} {c : Prop} {_ : Decidable c} {x y : State × α} (hx : s.Keeps x.1) (hy : s.Keeps y.1) :
    s.Keeps (if c then x else y).1 := by
  split
  · exact hx
  · exact hy

/-- A loop keeps what each round keeps. -/
theorem foldl {α : Type} {f : State → α → State} {l : List α} (h : s.Keeps t) (hf : ∀ u a, s.Keeps u → s.Keeps (f u a)) :
    s.Keeps (l.foldl f t) :=
  List.foldlRecOn l f h fun _ hu a _ => hf _ a hu

theorem foldl_snd {α β : Type} {f : β × State → α → β × State} {l : List α} {x : β × State} (h : s.Keeps x.2)
    (hf : ∀ u a, s.Keeps u.2 → s.Keeps (f u a).2) : s.Keeps (l.foldl f x).2 :=
  List.foldlRecOn (motive := fun y => s.Keeps y.2) l f h fun _ hu a _ => hf _ a hu

theorem foldl_fst {α β : Type} {f : State × β → α → State × β} {l : List α} {x : State × β} (h : s.Keeps x.1)
    (hf : ∀ u a, s.Keeps u.1 → s.Keeps (f u a).1) : s.Keeps (l.foldl f x).1 :=
  List.foldlRecOn (motive := fun y => s.Keeps y.1) l f h fun _ hu a _ => hf _ a hu

theorem foldr {α : Type} {f : α → State → State} {l : List α} (h : s.Keeps t) (hf : ∀ u a, s.Keeps u → s.Keeps (f a u)) :
    s.Keeps (l.foldr f t) :=
  List.foldrRecOn l f h fun _ hu a _ => hf _ a hu

theorem forGal {f : Nat → State → State} (h : s.Keeps t) (hf : ∀ n u, s.Keeps u → s.Keeps (f n u)) : s.Keeps (t.forGal f) :=
  State.forGal_keeps hf h

/-- A change of what the relation does not read. -/
theorem inert (h : s.Keeps t)
    (hu : (u.pending, u.part, u.serial, u.dict, u.gal, u.twb.mem, u.chans, u.cans, u.safe, u.twa, u.nand, u.upd) =
      (t.pending, t.part, t.serial, t.dict, t.gal, t.twb.mem, t.chans, t.cans, t.safe, t.twa, t.nand, t.upd) := by rfl) :
    s.Keeps u := by
  simp only [Prod.mk.injEq] at hu
  obtain ⟨hpend, hpart, hserial, hd, hg, hm, hch, hcan, hs, hw, hn, hup⟩ := hu
  exact h.step (by rw [State.identity, hpend, hpart, hserial, State.identity]) (fun hi => hi.congr hd hg hm hch hcan hs hw hn hup)
    (hn ▸ id)

/-! Single fields -/

theorem withFree {y : Nat} (h : s.Keeps t) : s.Keeps { t with free := y } := h.inert
theorem withSreqs {y : List SReq} (h : s.Keeps t) : s.Keeps { t with sreqs := y } := h.inert
theorem withOrigin {y : Origin} (h : s.Keeps t) : s.Keeps { t with origin := y } := h.inert
theorem withNow {y : Nat} (h : s.Keeps t) : s.Keeps { t with now := y } := h.inert
theorem withRoot {y : Nat} (h : s.Keeps t) : s.Keeps { t with root := y } := h.inert
theorem withMd {y : ModeRt} (h : s.Keeps t) : s.Keeps { t with md := y } := h.inert
theorem withVest {y : Vestibule} (h : s.Keeps t) : s.Keeps { t with vest := y } := h.inert
theorem withTime {y : TimeRt} (h : s.Keeps t) : s.Keeps { t with time := y } := h.inert
theorem withSched {y : List Sched} (h : s.Keeps t) : s.Keeps { t with sched := y } := h.inert
theorem withRecd {y : RecorderRt} (h : s.Keeps t) : s.Keeps { t with recd := y } := h.inert
theorem withRed {y : RedRt} (h : s.Keeps t) : s.Keeps { t with red := y } := h.inert
theorem withPaused {y : Bool} (h : s.Keeps t) : s.Keeps { t with paused := y } := h.inert
theorem withServeNow {y : Bool} (h : s.Keeps t) : s.Keeps { t with serveNow := y } := h.inert
theorem withLast {y : Option Reply} (h : s.Keeps t) : s.Keeps { t with last := y } := h.inert
theorem withDisp {y : DispRt} (h : s.Keeps t) : s.Keeps { t with disp := y } := h.inert
theorem withDies {y : List Nat} (h : s.Keeps t) : s.Keeps { t with dies := y } := h.inert
theorem withArc {y : ArcadeRt} (h : s.Keeps t) : s.Keeps { t with arc := y } := h.inert
theorem withSafetySet {y : SealRt} (h : s.Keeps t) : s.Keeps { t with safetySet := y } := h.inert
theorem withBeatAt {y : Nat} (h : s.Keeps t) : s.Keeps { t with beatAt := y } := h.inert
theorem withVloopAt {y : Nat} (h : s.Keeps t) : s.Keeps { t with vloopAt := y } := h.inert
theorem withSramOut {y : Option (List Byte × Bool)} (h : s.Keeps t) : s.Keeps { t with sramOut := y } := h.inert
theorem withServe {b : Bool} {o : Origin} (h : s.Keeps t) : s.Keeps { t with serveNow := b, origin := o } := h.inert

/-! Objects -/

variable {k x i : Nat}

theorem put {v : Val} (h : s.Keeps t) : s.Keeps (t.put k v) := h.step rfl fun hi => hi.put k v
theorem setN (h : s.Keeps t) : s.Keeps (t.setN k x) := h.put
theorem setI {y : Int} (h : s.Keeps t) : s.Keeps (t.setI k y) := h.put
theorem setR {y : Option Q} (h : s.Keeps t) : s.Keeps (t.setR k y) := h.put
theorem setB {b : List Byte} (h : s.Keeps t) : s.Keeps (t.setB k b) := h.put
theorem inc (h : s.Keeps t) : s.Keeps (t.inc k) := h.put
theorem addTo (h : s.Keeps t) : s.Keeps (t.addTo k x) := h.put
theorem setFlag {b : Bool} (h : s.Keeps t) : s.Keeps (t.setFlag k i b) := h.put
theorem raise (h : s.Keeps t) : s.Keeps (t.raise k i) := h.put
theorem clear (h : s.Keeps t) : s.Keeps (t.clear k x) := h.put

theorem withDict {d : SMap Val} (h : s.Keeps t) (hd : SMap.wf dfltOf t.dict = true → SMap.wf dfltOf d = true) :
    s.Keeps { t with dict := d } :=
  h.step rfl fun hi => ⟨⟨hd hi.1.1, hi.1.2⟩, hi.2⟩

/-! Galleries -/

variable {n : Nat}

theorem updG {f : Gallery → Gallery} (h : s.Keeps t) (hf : ∀ g, (f g).sram = g.sram := by exact fun _ => rfl) : s.Keeps (t.updG n f) :=
  h.step rfl fun hi => hi.updG n fun g hg => (hf g).symm ▸ hg

/-- A tile whose SRAM is written anew. -/
theorem updGAnew {f : Gallery → Gallery} (h : s.Keeps t) (hf : ∀ g, SMap.wf zeroLine (f g).sram = true) : s.Keeps (t.updG n f) :=
  h.step rfl fun hi => hi.updG n fun g _ => hf g

theorem withGal {l : List Gallery} (h : s.Keeps t) (hl : l.length = t.gal.length)
    (hf : (∀ g ∈ t.gal, SMap.wf zeroLine g.sram = true) → ∀ g ∈ l, SMap.wf zeroLine g.sram = true) : s.Keeps { t with gal := l } :=
  h.step rfl fun hi => ⟨⟨hi.1.1, hf hi.1.2.1, hi.1.2.2⟩, hl.trans hi.2.1, hi.2.2⟩

theorem updTrunk {f : TrunkRt → TrunkRt} (h : s.Keeps t) : s.Keeps (t.updTrunk n f) := h.updG
theorem updProt {f : ProtRt → ProtRt} (h : s.Keeps t) : s.Keeps (t.updProt n f) := h.updG
theorem updTread {f : TreadRt → TreadRt} (h : s.Keeps t) : s.Keeps (t.updTread n f) := h.updG
theorem updBal {f : BalRt → BalRt} (h : s.Keeps t) : s.Keeps (t.updBal n f) := h.updG
theorem updHead {f : Head → Head} (h : s.Keeps t) : s.Keeps (t.updHead n f) := h.updG
theorem updMon {f : Monitor → Monitor} (h : s.Keeps t) : s.Keeps (t.updMon n i f) := h.updG
theorem updCell {f : Cell → Cell} (h : s.Keeps t) : s.Keeps (t.updCell n i f) := h.updG
theorem setLine {l : Line} (h : s.Keeps t) : s.Keeps (t.setLine n i l) := h.step rfl fun hi => hi.setLine n i l

/-! Runtimes -/

theorem updMd {f : ModeRt → ModeRt} (h : s.Keeps t) : s.Keeps (t.updMd f) := h.inert
theorem updVest {f : Vestibule → Vestibule} (h : s.Keeps t) : s.Keeps (t.updVest f) := h.inert
theorem updRec {f : RecorderRt → RecorderRt} (h : s.Keeps t) : s.Keeps (t.updRec f) := h.inert
theorem updRed {f : RedRt → RedRt} (h : s.Keeps t) : s.Keeps (t.updRed f) := h.inert
theorem updArc {f : ArcadeRt → ArcadeRt} (h : s.Keeps t) : s.Keeps (t.updArc f) := h.inert
theorem updTime {f : TimeRt → TimeRt} (h : s.Keeps t) : s.Keeps (t.updTime f) := h.inert
theorem updDisp {f : DispRt → DispRt} (h : s.Keeps t) : s.Keeps (t.updDisp f) := h.inert
theorem updChan {f : ChanRt → ChanRt} (h : s.Keeps t) : s.Keeps (t.updChan n f) := h.step rfl fun hi => hi.updChan n f
theorem updCan {f : CanRt → CanRt} (h : s.Keeps t) : s.Keeps (t.updCan n f) := h.step rfl fun hi => hi.updCan n f

theorem updNand {f : Store → Store} (h : s.Keeps t) (hs : ∀ d, (f d).slots.length = d.slots.length := by exact fun _ => rfl)
    (ha : ∀ d, (f d).active = d.active := by exact fun _ => rfl) (hl : t.nand.latch = true → (f t.nand).latch = true := by exact id) :
    s.Keeps (t.updNand f) :=
  h.step rfl (fun hi => hi.updNand (hs _) ((ha _).symm ▸ hi.active_lt)) hl

/-- A slot becomes the one in force. -/
theorem updActive {a : Nat} (h : s.Keeps t) (ha : t.Inv → a < 2) : s.Keeps (t.updNand fun d => { d with active := a }) :=
  h.step rfl fun hi => hi.updNand rfl (ha hi)

theorem updSafe {f : SafetyRt → SafetyRt} (h : s.Keeps t) (hg : ∀ r, (f r).groups.length = r.groups.length := by exact fun _ => rfl)
    (hin : ∀ r, (f r).inputs.length = r.inputs.length := by exact fun _ => rfl)
    (hl : ∀ r, (f r).loads.length = r.loads.length := by exact fun _ => rfl) : s.Keeps (t.updSafe f) := by
  refine h.step rfl fun hi => ?_
  obtain ⟨_, _, _, _, h8, hi16, hl16, _⟩ := id hi
  exact hi.updSafe ((hg _).trans h8) ((hin _).trans hi16) ((hl _).trans hl16)

theorem updTwa {f : TwaRt → TwaRt} (h : s.Keeps t) (hd : ∀ r, (f r).due.length = r.due.length := by exact fun _ => rfl)
    (hl : ∀ r, (f r).lastDue.length = r.lastDue.length := by exact fun _ => rfl)
    (ho : ∀ r, (f r).okAt.length = r.okAt.length := by exact fun _ => rfl) : s.Keeps (t.updTwa f) := by
  refine h.step rfl fun hi => ?_
  obtain ⟨hc, h1, h2, h3, h4, h5, h6, h7, h8, h9, h10⟩ := hi
  exact ⟨hc, h1, h2, h3, h4, h5, h6, (hd _).trans h7, (hl _).trans h8, (ho _).trans h9, h10⟩

theorem updTwb {f : TwbRt → TwbRt} (h : s.Keeps t) (hm : ∀ r, (f r).mem = r.mem := by exact fun _ => rfl) : s.Keeps (t.updTwb f) :=
  h.step rfl fun hi => ⟨⟨hi.1.1, hi.1.2.1, (hm t.twb).symm ▸ hi.1.2.2⟩, hi.2⟩

theorem updUpd {f : UpdRt → UpdRt} (h : s.Keeps t) (hs : ∀ r, (f r).slot = r.slot := by exact fun _ => rfl) : s.Keeps (t.updUpd f) := by
  refine h.step rfl fun hi => ?_
  obtain ⟨hc, h1, h2, h3, h4, h5, h6, h7, h8, h9, h10, h11, h12⟩ := hi
  exact ⟨hc, h1, h2, h3, h4, h5, h6, h7, h8, h9, h10, h11, (hs t.upd).symm ▸ h12⟩

/-- A change of the update runtime that names a slot. -/
theorem updUpdSlot {f : UpdRt → UpdRt} (h : s.Keeps t) (hs : t.Inv → (f t.upd).slot < 2) : s.Keeps (t.updUpd f) := by
  refine h.step rfl fun hi => ?_
  obtain ⟨hc, h1, h2, h3, h4, h5, h6, h7, h8, h9, h10, h11, _⟩ := id hi
  exact ⟨hc, h1, h2, h3, h4, h5, h6, h7, h8, h9, h10, h11, hs hi⟩

theorem updGrp {f : Group → Group} (h : s.Keeps t) : s.Keeps (t.updGrp n f) := h.step rfl fun hi => hi.updGrp n f
theorem updSi {f : SInput → SInput} (h : s.Keeps t) : s.Keeps (t.updSi n f) := h.step rfl fun hi => hi.updSi n f
theorem updLoad {f : Load → Load} (h : s.Keeps t) : s.Keeps (t.updLoad n f) := h.step rfl fun hi => hi.updLoad n f
theorem updSlot {f : Slot → Slot} (h : s.Keeps t) : s.Keeps (t.updSlot n f) := h.step rfl fun hi => hi.updSlot n f
theorem mailStore {b : Byte} (h : s.Keeps t) : s.Keeps (t.mailStore n b) := by
  refine h.step ?_ (fun hi => hi.mailStore n b) ?_ <;> unfold State.mailStore <;> split
  · rfl
  · rfl
  · exact id
  · exact id

theorem reply {r : Reply} (h : s.Keeps t) : s.Keeps (t.reply r) := h.inert
theorem busy (h : s.Keeps t) : s.Keeps t.busy := h.inc.reply
theorem take (h : s.Keeps t) : s.Keeps t.take.2 := h.inert

/-! Accesses (R80, R98, R99) -/

variable {p : Path} {index sub : Nat} {d : List Byte}

theorem classS {w : Bool} {run : State → State} (h : s.Keeps t) (hr : ∀ u, s.Keeps u → s.Keeps (run u)) :
    s.Keeps (t.classS p w index sub d run) := by
  rcases State.classS_cases t p w index sub d run with e | e | ⟨r, e⟩ | e <;> rw [e]
  · exact h.reply
  · exact h.busy
  · exact h.inert
  · exact hr t h

theorem write {eff : Val → State → Except Nat State} (h : s.Keeps t) (hf : ∀ v, s.KeepsOk (eff v t)) :
    s.Keeps (t.write p index sub d eff) := by
  rcases State.write_cases t p index sub d eff with e | e | ⟨r, e⟩ | ⟨c, e⟩ | ⟨v, r, u, _, hu, e⟩ <;> rw [e]
  · exact h.reply
  · exact h.busy
  · exact h.inert
  · exact h.reply
  · exact (hf v u hu).reply

theorem writeX {eff : Val → State → Option Nat × State} (h : s.Keeps t) (hf : ∀ v, s.Keeps (eff v t).2) :
    s.Keeps (t.writeX p index sub d eff) := by
  rcases State.writeX_cases t p index sub d eff with e | e | ⟨r, e⟩ | ⟨c, e⟩ | ⟨v, r, _, ⟨c, e⟩ | e⟩ <;> rw [e]
  · exact h.reply
  · exact h.busy
  · exact h.inert
  · exact h.reply
  · exact (hf v).reply
  · exact (hf v).reply

theorem readWith {f : State → Except Nat (List Byte × State)} (h : s.Keeps t) (hf : s.KeepsRead (f t)) :
    s.Keeps (t.readWith p index sub f) := by
  rcases State.readWith_cases t p index sub f with e | e | ⟨r, e⟩ | ⟨c, e⟩ | ⟨b, u, hu, e⟩ <;> rw [e]
  · exact h.reply
  · exact h.busy
  · exact h.inert
  · exact h.reply
  · exact State.Keeps.reply (hf (b, u) hu)

/-! Outcomes -/

/-- The state of a pair that an operation answers. -/
theorem of_fst {α : Type} {x : State × α} {a : α} (h : s.Keeps x.1) (e : x = (u, a)) : s.Keeps u := by
  subst e
  exact h

theorem ok (h : s.Keeps t) : s.KeepsOk (.ok t) := by
  rintro u ⟨⟩
  exact h

theorem okRead (h : s.Keeps t) : s.KeepsRead (.ok (d, t)) := by
  rintro u ⟨⟩
  exact h

theorem next (h : s.Keeps t) : s.Next (.next t) := ⟨t, rfl, h⟩

end State.Keeps

theorem State.KeepsOk.error {s : State} {c : Nat} : s.KeepsOk (.error c) := fun _ h => absurd h (by simp)

theorem State.KeepsOk.map {s : State} {x : Except Nat State} {f : State → State} (hx : s.KeepsOk x)
    (hf : ∀ u, s.Keeps u → s.Keeps (f u)) : s.KeepsOk (x.map f) := by
  cases x with
  | error c => exact .error
  | ok t => exact (hf t (hx t rfl)).ok

theorem State.KeepsRead.error {s : State} {c : Nat} : s.KeepsRead (.error c) := fun _ h => absurd h (by simp)

theorem State.KeepsOk.ite {s : State} {c : Prop} {_ : Decidable c} {x y : Except Nat State} (hx : s.KeepsOk x) (hy : s.KeepsOk y) :
    s.KeepsOk (if c then x else y) := by
  split
  · exact hx
  · exact hy

theorem State.KeepsRead.ite {s : State} {c : Prop} {_ : Decidable c} {x y : Except Nat (List Byte × State)} (hx : s.KeepsRead x)
    (hy : s.KeepsRead y) : s.KeepsRead (if c then x else y) := by
  split
  · exact hx
  · exact hy

theorem State.Next.ite {s : State} {c : Prop} {_ : Decidable c} {x y : Out} (hx : s.Next x) (hy : s.Next y) :
    s.Next (if c then x else y) := by
  split
  · exact hx
  · exact hy

end Sys2Proof.Machine
end

section
/-! What every operation and every command leaves as it is: one lemma for each, in the order of the model's files. -/
namespace Sys2Proof.Machine
set_option Elab.async false

namespace State.Keeps
-- One theorem after the other: hundreds of short proofs elaborated at once would exhaust the threads.
variable {s t : State}

/-! ### Ops -/

theorem stopTest {n} (h : s.Keeps t) : s.Keeps (t.stopTest n) := h.ite h.updG.setN.setN
theorem alertBit {i} (h : s.Keeps t) : s.Keeps (t.alertBit i) := h.ite (h.raise.inert.ite h.raise)
theorem event {i} (h : s.Keeps t) : s.Keeps (t.event i) := h.raise.alertBit
theorem levelSync (h : s.Keeps t) : s.Keeps t.levelSync := h.setN.setN.ite h.setN
theorem startFlush (h : s.Keeps t) : s.Keeps t.startFlush := (h.inc.ite h).andThen fun h1 => h1.updRec

theorem enter {code cls inst sev data} (h : s.Keeps t) : s.Keeps (t.enter code cls inst sev data) :=
  (h.inert.setN.setN.ite h.inert.setN).andThen fun h1 => h1.levelSync.startFlush.ite h1.levelSync

theorem dropRec (h : s.Keeps t) : s.Keeps t.dropRec := h.inc.raise.updVest
theorem overwrite (h : s.Keeps t) : s.Keeps t.overwrite := h.setN.raise.updRec
theorem dropNotice (h : s.Keeps t) : s.Keeps t.dropNotice := h.ite h.updVest.enter

theorem record {code cls inst sev data} (h : s.Keeps t) : s.Keeps (t.record code cls inst sev data) := by
  unfold State.record
  split
  · exact h
  · exact h
  · exact (h.dropNotice.overwrite.ite h.dropNotice).andThen fun h1 => h1.enter.ite h1.dropRec

theorem toMode {m cause y} (h : s.Keeps t) : s.Keeps (t.toMode m cause y) :=
  (h.record.ite h).andThen fun h1 => (h1.setN.setN.alertBit.alertBit.ite h1.setN.setN.alertBit).andThen fun h2 => h2.withMd

/-! ### Access -/

theorem withHeld {n} (h : s.Keeps t) : s.Keeps (t.withHeld n) := h.foldl (fun _ _ hu => hu.put)

theorem seen {index} (h : s.Keeps t) : s.Keeps (t.seen index) := by
  unfold State.seen
  split
  · exact h.withHeld
  · exact h

theorem queueUp {p write index sub d} (h : s.Keeps t) : s.Keeps (t.queueUp p write index sub d) := h.busy.ite h.withSreqs.reply
theorem holdVal {n k v} (h : s.Keeps t) : s.Keeps (t.holdVal n k v) := h.updG.ite h.put.updG

theorem storeVal {index sub v} (h : s.Keeps t) : s.KeepsOk (storeVal index sub v t) := by
  refine Keeps.ok ?_
  split
  · exact h.holdVal
  · exact h.put

/-! ### Trunk -/

theorem setGroup {g st} (h : s.Keeps t) : s.Keeps (t.setGroup g st) := h.updGrp.setN.updSafe.foldl (fun _ _ hu => hu.setN)
theorem groupResult {g r} (h : s.Keeps t) : s.Keeps (t.groupResult g r) := h.foldl (fun _ _ hu => hu.setN)

theorem groupFail {g cause fault} (h : s.Keeps t) : s.Keeps (t.groupFail g cause fault) := by
  refine h.foldl (fun _ _ hu => ?_)
  split
  · exact hu.setN.setN.raise
  · exact hu.setN.setN

theorem insertTriple {n hold} (h : s.Keeps t) : s.Keeps (t.insertTriple n hold).1 := h.updTrunk.ite_fst h
theorem holdInsert {n} (h : s.Keeps t) : s.Keeps (t.holdInsert n) := h.insertTriple.ite h
theorem k281Left {n} (h : s.Keeps t) : s.Keeps (t.k281Left n) := h.updProt.updGrp.ite h.updProt

theorem inhibitInsert {n share} (h : s.Keeps t) : s.Keeps (t.inhibitInsert n share) := by
  refine .ite (.ite (Keeps.k281Left ?_) h.insertTriple) h
  split
  · exact h.insertTriple.setN
  · exact h.insertTriple

theorem sendCmd {n op target args} (h : s.Keeps t) : s.Keeps (t.sendCmd n op target args) := h.ite h.updTrunk
theorem sendRead {n target addr} (h : s.Keeps t) : s.Keeps (t.sendRead n target addr) := h.sendCmd
theorem sendWrite {n target addr value} (h : s.Keeps t) : s.Keeps (t.sendWrite n target addr value) := h.sendCmd
theorem sendCmds {n} (h : s.Keeps t) : s.Keeps (t.sendCmds n) := h.updTrunk.ite ((h.inc.ite h).andThen fun h1 => h1.updTrunk.addTo)

theorem sendThresh {n} (h : s.Keeps t) : s.Keeps (t.sendThresh n) :=
  ((h.setN.updProt.updProt.foldl (fun _ _ hu => hu.sendWrite)).andThen fun h1 => h1.sendWrite.sendWrite).ite (h.setN.updProt.updProt.foldl
      (fun _ _ hu => hu.sendRead))

theorem threshEcho {n target r value} (h : s.Keeps t) : s.Keeps (t.threshEcho n target r value) :=
  (h.updProt.setN.ite h.updProt).ite h.raise.updProt

theorem execThreshRewrite {n} (h : s.Keeps t) : s.Next (execThreshRewrite n t) := h.sendThresh.next.ite h.next
theorem alignSync {n} (h : s.Keeps t) : s.Keeps (t.alignSync n) := h.setN.setR

theorem writeComps {n slack} (h : s.Keeps t) : s.Keeps (t.writeComps n slack) :=
  (h.foldl (fun _ _ hu => hu.sendWrite.inc.ite hu.sendWrite)).andThen fun h1 => h1.updTrunk.alignSync

theorem readComps {n} (h : s.Keeps t) : s.Keeps (t.readComps n) := (h.foldl (fun _ _ hu => hu.sendRead)).andThen fun h1 => h1.updTrunk
theorem syncIfReady {n} (h : s.Keeps t) : s.Keeps (t.syncIfReady n) := h.updTrunk.sendCmd.ite h
theorem execDelayCompReread {n} (h : s.Keeps t) : s.Next (execDelayCompReread n t) := h.readComps.next.ite h.next
theorem sendCarrierPhase {n force} (h : s.Keeps t) : s.Keeps (t.sendCarrierPhase n force) := h.setN.sendWrite.ite h
theorem sendCarrierDiv {n} (h : s.Keeps t) : s.Keeps (t.sendCarrierDiv n) := h.updTrunk.sendWrite.sendCarrierPhase.ite h
theorem sendBalLimits {n} (h : s.Keeps t) : s.Keeps (t.sendBalLimits n) := h.sendWrite.ite h
theorem sendFilterCfg {n} (h : s.Keeps t) : s.Keeps (t.sendFilterCfg n) := h.sendWrite.updTrunk.ite h

theorem applyHeld {n k v} (h : s.Keeps t) : s.Keeps (t.applyHeld n k v) :=
  h.put.sendFilterCfg.ite (h.put.sendBalLimits.ite (h.put.sendCarrierDiv.ite h.put))

theorem takeHeld {n} (h : s.Keeps t) : s.Keeps (t.takeHeld n) := h.updG.foldl (fun _ _ hu => hu.applyHeld)
theorem settle {n} (h : s.Keeps t) : s.Keeps (t.settle n) := h.withHeld.updG
theorem toTrunk {n st} (h : s.Keeps t) : s.Keeps (t.toTrunk n st) := (h.ite h.stopTest).andThen fun h1 => h1.setN.updTrunk
theorem stopSampling {n} (h : s.Keeps t) : s.Keeps (t.stopSampling n) := h.setN.alignSync
theorem toAcquire {n} (h : s.Keeps t) : s.Keeps (t.toAcquire n) := h.toTrunk.updTrunk.stopSampling
theorem toRetry {n} (h : s.Keeps t) : s.Keeps (t.toRetry n) := h.toTrunk

theorem restartEnds {n result} (h : s.Keeps t) : s.Keeps (t.restartEnds n result) :=
  (h.setN.ite h).andThen fun h1 => h1.setN.updMd.ite h1

theorem toTopology {n} (h : s.Keeps t) : s.Keeps (t.toTopology n) := h.restartEnds.toTrunk.raise.stopSampling
theorem toOff {n} (h : s.Keeps t) : s.Keeps (t.toOff n) := h.settle.clear.toTrunk.updTrunk.stopSampling
theorem toIdentify {n} (h : s.Keeps t) : s.Keeps (t.toIdentify n) := h.toTrunk.sendCmd
theorem toEnumerate {n} (h : s.Keeps t) : s.Keeps (t.toEnumerate n) := h.toTrunk.updTrunk.sendCmd.ite h.toTrunk.updTrunk.updTrunk

theorem upStart {n} (h : s.Keeps t) : s.Keeps (t.upStart n) :=
  (h.updG.foldl (fun _ _ hu => hu.setR)).andThen fun h1 => h1.setN.setN.setN.setR.setN.ite h1.setN.setN.setN.setR

theorem upWrites {n} (h : s.Keeps t) : s.Keeps (t.upWrites n) :=
  h.updTrunk.writeComps.sendCarrierDiv.sendBalLimits.sendFilterCfg.sendThresh.syncIfReady.alignSync

theorem toUp {n} (h : s.Keeps t) : s.Keeps (t.toUp n) :=
  h.restartEnds.toTrunk.setN.updTrunk.upStart.setFlag.upWrites.ite
      h.restartEnds.toTrunk.setN.updTrunk.upStart.setFlag.updTrunk.sendThresh.alignSync

theorem enumPassed {n} (h : s.Keeps t) : s.Keeps (t.enumPassed n) := h.updTrunk.readComps.ite h.toUp

theorem identifyCheck {n} (h : s.Keeps t) : s.Keeps (t.identifyCheck n) :=
  (h.setN.foldl (fun _ _ hu => hu.setN)).andThen fun h1 => h1.updTrunk.enumPassed.ite h1.updTrunk.toTopology

theorem headIdentified {n ok ty phases} (h : s.Keeps t) : s.Keeps (t.headIdentified n ok ty phases) :=
  (h.sendWrite.sendWrite.toEnumerate.ite (h.foldl (fun _ _ hu => hu.sendRead))).ite h.setN.toTopology

theorem headRegRead {n addr value} (h : s.Keeps t) : s.Keeps (t.headRegRead n addr value) := by
  refine .ite ?_ h.updTrunk
  split
  · exact (h.updTrunk.setN.ite h.updTrunk.setN.toEnumerate).ite h.updTrunk.setN.setN.toTopology
  · exact h.updTrunk

theorem compEcho {n i value written} (h : s.Keeps t) : s.Keeps (t.compEcho n i value written) :=
  (((h.updTrunk.toUp.ite h.updTrunk).ite (h.updTrunk.writeComps.ite h.updTrunk)).ite h.updTrunk).andThen fun h1 => h1.syncIfReady.alignSync

theorem commissionDone {n i} (h : s.Keeps t) : s.Keeps (t.commissionDone n i) := h.updTrunk.toAcquire.ite h.updTrunk
theorem testResponse {n step value} (h : s.Keeps t) : s.Keeps (t.testResponse n step value) := h.updBal
theorem releaseAnswered {n status} (h : s.Keeps t) : s.Keeps (t.releaseAnswered n status) := (h.updGrp.updProt.ite h.updGrp).ite h
theorem stackAsleep {n} (h : s.Keeps t) : s.Keeps (t.stackAsleep n) := h.updTrunk.ite h

theorem cmdDone {n e status data} (h : s.Keeps t) : s.Keeps (t.cmdDone n e status data) :=
  (h.headIdentified.ite h).ite (((h.raise.updProt.ite (h.compEcho.ite h)).ite ((h.threshEcho.ite (h.headRegRead.ite h)).ite (h.compEcho.ite
      h))).ite (h.testResponse.ite (h.commissionDone.ite (h.releaseAnswered.ite (h.stackAsleep.ite h)))))

theorem bcastDone {n e} (h : s.Keeps t) : s.Keeps (t.bcastDone n e) :=
  (h.identifyCheck.ite h).ite (h.updBal.ite (h.sendCmd.ite (h.syncIfReady.ite h)))

theorem bcastAnswer {n src e status data} (h : s.Keeps t) : s.Keeps (t.bcastAnswer n src e status data) :=
  h.updTrunk.ite ((h.threshEcho.ite h.raise.updProt).ite h)

theorem response {n src r} (h : s.Keeps t) : s.Keeps (t.response n src r) := by
  refine .ite h ?_
  split
  · exact (h.bcastAnswer.identifyCheck.ite h.bcastAnswer).ite h
  · exact (h.updTrunk.bcastAnswer.updTrunk.bcastDone.ite h.updTrunk.bcastAnswer).ite h.updTrunk.cmdDone

theorem cmdFail {n o} (h : s.Keeps t) : s.Keeps (t.cmdFail n o) :=
  h.updTrunk.bcastDone.ite (h.updTrunk.raise.toRetry.ite (h.updTrunk.raise.inc.updBal.ite (h.updTrunk.raise.updBal.ite
      (h.updTrunk.raise.commissionDone.ite (h.updTrunk.raise.releaseAnswered.ite (h.updTrunk.raise.sendCmd.ite
      (h.updTrunk.raise.stackAsleep.ite (h.updTrunk.raise.compEcho.ite (h.updTrunk.raise.syncIfReady.ite h.updTrunk.raise)))))))))

theorem execCommandResend {n} (h : s.Keeps t) : s.Next (execCommandResend n t) :=
  ((h.foldl (fun _ _ hu => hu.ite (hu.updTrunk.inc.ite hu.cmdFail))).next).ite h.next

theorem execAcquireTimeout {n} (h : s.Keeps t) : s.Next (execAcquireTimeout n t) := h.raise.toRetry.next.ite h.next
theorem execRetryWaitExpiry {n} (h : s.Keeps t) : s.Next (execRetryWaitExpiry n t) := h.toAcquire.next.ite h.next
theorem updEst {n f} (h : s.Keeps t) : s.Keeps (t.updEst n f) := h.updG
theorem imageRead {n} (h : s.Keeps t) : s.Keeps (t.imageRead n) := h.raise.ite h

theorem restBoot {n} (h : s.Keeps t) : s.Keeps (t.restBoot n) := by
  unfold State.restBoot
  dsimp only
  split
  · exact h.imageRead.updEst
  · exact h.imageRead

theorem objDefault {n keep offs} (h : s.Keeps t) : s.Keeps (t.objDefault n keep offs) := h.withDict (SMap.wf_filter dfltOf _)

theorem tileReset {n} (h : s.Keeps t) : s.Keeps (t.tileReset n) :=
  (h.settle.objDefault.setN.setN.setN.foldl (fun _ _ hu => hu.setN)).andThen fun h1 =>
    (h1.updGAnew fun _ => rfl).raise.ite (h1.updGAnew fun _ => rfl)

theorem trunkRestart {n} (h : s.Keeps t) : s.Keeps (t.trunkRestart n) :=
  ((h.tileReset.ite h).andThen fun h1 => h1.toAcquire).ite (h.ite h.toOff)

theorem restoreNowEff {n x} (h : s.Keeps t) : s.KeepsOk (restoreNowEff n x t) := .ite .error h.sendCmd.ok
theorem execRestoreNow {path n} (h : s.Keeps t) : s.Next (execRestoreNow path n t) := (h.write (fun _ => h.restoreNowEff)).next

theorem execAutoRestore {n} (h : s.Keeps t) : s.Next (execAutoRestore n t) := by
  unfold Machine.execAutoRestore
  split
  · exact h.updTrunk.sendCmd.next.ite h.next
  · exact h.next

theorem commissionEff {n x} (h : s.Keeps t) : s.KeepsOk (commissionEff n x t) :=
  .ite .error ((h.foldl (fun _ _ hu => hu.sendCmd)).andThenOk fun h1 => (h1.updTrunk.toAcquire.ite h1.updTrunk).ok)

theorem execFlightNodesCommission {path n} (h : s.Keeps t) : s.Next (execFlightNodesCommission path n t) :=
  (h.write (fun _ => h.commissionEff)).next

theorem syncNowEff {n x} (h : s.Keeps t) : s.KeepsOk (syncNowEff n x t) := .ite .error h.sendCmd.ok
theorem execSyncNow {path n} (h : s.Keeps t) : s.Next (execSyncNow path n t) := (h.write (fun _ => h.syncNowEff)).next

theorem stringCfgEff {n index sub v} (h : s.Keeps t) : s.KeepsOk (stringCfgEff n index sub v t) :=
  (h.put.updG.ite h.put).andThenOk fun h1 => h1.trunkRestart.ok

theorem execStringCfg {path index sub data} (h : s.Keeps t) : s.Next (execStringCfg path index sub data t) := by
  unfold Machine.execStringCfg
  dsimp only
  split
  · exact (h.write fun _ => h.stringCfgEff).next
  · exact h.next

/-! ### Groups -/

theorem protTrip {n bitNo pos} (h : s.Keeps t) : s.Keeps (t.protTrip n bitNo pos) := h.ite h.raise.raise.alertBit.inc.setN.setN.record

theorem setCause {n bitNo on pos} (h : s.Keeps t) : s.Keeps (t.setCause n bitNo on pos) :=
  (h.setFlag.protTrip.updGrp.ite h.setFlag.protTrip).ite h.setFlag

theorem tripClear {n} (h : s.Keeps t) : s.Keeps (t.tripClear n) := h.setN.ite h
theorem demandSync (h : s.Keeps t) : s.Keeps t.demandSync := h.setN

theorem switchSync (h : s.Keeps t) : s.Keeps t.switchSync :=
  h.updSafe.setN.updSafe (hl := fun _ => List.length_mapIdx)

theorem loadGoesOff {l} (h : s.Keeps t) : s.Keeps (t.loadGoesOff l) := h.updSafe.switchSync
theorem loadOff {l} (h : s.Keeps t) : s.Keeps (t.loadOff l) := h.setFlag.updLoad.loadGoesOff

theorem tryLoad {l} (h : s.Keeps t) : s.Keeps (t.tryLoad l) :=
  h.ite (h.setFlag.raise.ite ((h.updSafe.setFlag.updSafe.ite h.updSafe.setFlag).andThen fun h1 => h1.switchSync))

theorem loadWant {l} (h : s.Keeps t) : s.Keeps (t.loadWant l) := h.updLoad.tryLoad
theorem serveLoads (h : s.Keeps t) : s.Keeps t.serveLoads := h.foldl (fun _ _ hu => hu.tryLoad)
theorem allLoadsOff (h : s.Keeps t) : s.Keeps t.allLoadsOff := h.foldl (fun _ _ hu => hu.loadOff)
theorem setRefuse {g w} (h : s.Keeps t) : s.Keeps (t.setRefuse g w) := h.foldl (fun _ _ hu => hu.setN)

theorem updSafeChan {x f} (h : s.Keeps t) : s.Keeps (t.updSafeChan x f) := by
  unfold State.updSafeChan
  split
  · exact h.updSafe
  · exact h.updSafe

theorem chanInhibit {x n on} (h : s.Keeps t) : s.Keeps (t.chanInhibit x n on) := h.updProt

theorem joinChan {g x} (h : s.Keeps t) : s.Keeps (t.joinChan g x) :=
  (((h.updSafeChan.foldl (fun _ _ hu => hu.chanInhibit.inhibitInsert)).ite h.updSafeChan).andThen fun h1 => h1.switchSync).ite h

theorem takeDemand {g x sees} (h : s.Keeps t) : s.Keeps (t.takeDemand g x sees) := h.joinChan.ite (h.updSafeChan.ite h)

theorem enterOpening {g every} (h : s.Keeps t) : s.Keeps (t.enterOpening g every) :=
  (h.setGroup.updGrp.inc.setN.record.foldl (fun _ _ hu => hu.updProt.inc.updTread.updEst.inhibitInsert)).andThen fun h1 => h1.updGrp.ite h1

theorem startSrs {g} (h : s.Keeps t) : s.Keeps (t.startSrs g) := h.setGroup.updGrp.inc.foldl (fun _ _ hu => hu.updProt.inc)

theorem preAbort {g} (h : s.Keeps t) : s.Keeps (t.preAbort g) := by
  refine Keeps.updGrp (Keeps.setGroup ?_)
  split
  · exact h.loadOff
  · exact h

theorem groupSeo {g every} (h : s.Keeps t) : s.Keeps (t.groupSeo g every) := by
  unfold State.groupSeo
  split
  · exact h.setGroup
  · exact h.preAbort
  · exact h.enterOpening
  · exact h.enterOpening
  · exact h.enterOpening
  · exact h.enterOpening
  · exact h

theorem allSeo {every} (h : s.Keeps t) : s.Keeps (t.allSeo every) := h.foldl (fun _ _ hu => hu.joinChan.joinChan.groupSeo)
theorem clearPend {g} (h : s.Keeps t) : s.Keeps (t.clearPend g) := h.updGrp.groupResult.ite h

theorem groupOff {g} (h : s.Keeps t) : s.Keeps (t.groupOff g) := by
  unfold State.groupOff
  split
  · exact h
  · exact h.clearPend
  · exact h.clearPend
  · exact h.clearPend
  · exact h.setGroup
  · exact h.preAbort
  · exact h.enterOpening
  · exact h.enterOpening
  · exact h.startSrs.ite h.enterOpening

theorem tryOn {g} (h : s.Keeps t) : s.Keeps (t.tryOn g) :=
  (h.setGroup.updGrp.groupResult.setRefuse.foldl (fun _ _ hu => hu.updVest.setN)).ite h.setGroup.updGrp.groupResult.setRefuse

theorem groupOn {g} (h : s.Keeps t) : s.Keeps (t.groupOn g) := by
  unfold State.groupOn
  split
  · exact h.tryOn
  · exact h.updGrp.groupResult
  · exact h.updGrp.groupResult
  · exact h.updGrp.groupResult
  · exact h

theorem enterPrecharge {g} (h : s.Keeps t) : s.Keeps (t.enterPrecharge g) := by
  unfold State.enterPrecharge
  split
  · exact h.setGroup.loadWant
  · exact h.setGroup.updGrp.loadWant
  · exact h

theorem enterClosing {g} (h : s.Keeps t) : s.Keeps (t.enterClosing g) := by
  unfold State.enterClosing
  dsimp only
  split
  · exact h.setGroup
  · refine .ite h.setGroup.updGrp.loadWant (Keeps.updGrp ?_)
    split
    · exact h.setGroup.loadOff
    · exact h.setGroup

theorem enterReleasing {g} (h : s.Keeps t) : s.Keeps (t.enterReleasing g) := h.setGroup.updGrp.foldl (fun _ _ hu => hu.sendCmd)

theorem enterEnergised {g} (h : s.Keeps t) : s.Keeps (t.enterEnergised g) :=
  h.setGroup.groupResult.foldl (fun _ _ hu => hu.updTread.updProt.inc)

theorem opened {g} (h : s.Keeps t) : s.Keeps (t.opened g) := h.setGroup.updGrp.foldl (fun _ _ hu => hu.updProt)
theorem outputFault {o} (h : s.Keeps t) : s.Keeps (t.outputFault o) := h.updSafe.raise

theorem openingCycle {g} (h : s.Keeps t) : s.Keeps (t.openingCycle g) := by
  unfold State.openingCycle
  split
  · exact h
  · exact (h.ite (h.updGrp.ite (((h.foldl (fun _ _ hu => hu.outputFault)).updGrp).ite h))).andThen fun h1 => h1.opened.ite h1

theorem groupCycle {g} (h : s.Keeps t) : s.Keeps (t.groupCycle g) := by
  unfold State.groupCycle
  split
  · exact h.enterPrecharge.ite h
  · exact h.enterClosing.ite h
  · split
    · exact h
    · exact (h.updGrp.loadWant.ite h).andThen fun h1 => h1.enterReleasing.ite h1
  · exact h.groupFail.enterOpening.ite (h.enterEnergised.ite h)
  · exact ((h.raise.foldl (fun _ _ hu => hu.setN)).enterOpening).ite (h.enterOpening.ite h)
  · exact h.openingCycle
  · exact h

theorem groupEvents {g} (h : s.Keeps t) : s.Keeps (t.groupEvents g) :=
  (h.foldl (fun _ _ hu => hu.joinChan.ite hu)).andThen fun h1 => (h1.takeDemand.takeDemand.groupSeo.ite h1).andThen fun h2 =>
      (h2.takeDemand.takeDemand.ite h2).andThen fun h3 => (h3.groupOff.ite h3).andThen fun h4 => h4.updGrp.groupCycle

theorem faultEndsRequest (h : s.Keeps t) : s.Keeps t.faultEndsRequest :=
  (h.setN.ite h).andThen fun h1 => (h1.setN.raise.ite h1).andThen fun h2 => h2.setN.updMd

theorem latchLockout {causes} (h : s.Keeps t) : s.Keeps (t.latchLockout causes) :=
  (h.setN.updVest.updNand (hl := fun _ => rfl)).record.allSeo.faultEndsRequest.toMode.forGal (fun _ _ hu => hu.inhibitInsert)

theorem lockoutCycle (h : s.Keeps t) : s.Keeps t.lockoutCycle := h.setN.ite (h.setN.latchLockout.ite (h.setN.record.allSeo.ite h.setN))

theorem energiseEff {n v} (h : s.Keeps t) : s.KeepsOk (energiseEff n v t) :=
  .ite (.ite .error (h.groupOn.ok.ite h.setN.setN.ok)) ((h.groupOff.ite h).ok)

theorem execEnergiseOn {path n} (h : s.Keeps t) : s.Next (execEnergiseOn path n t) := (h.write (fun _ => h.energiseEff)).next
theorem execEnergiseOff {path n} (h : s.Keeps t) : s.Next (execEnergiseOff path n t) := (h.write (fun _ => h.energiseEff)).next
theorem execBusCheckTimeout {g} (h : s.Keeps t) : s.Next (execBusCheckTimeout g t) := h.groupFail.setGroup.next.ite h.next
theorem execPreTimeExpiry {g} (h : s.Keeps t) : s.Next (execPreTimeExpiry g t) := h.groupFail.preAbort.next.ite h.next

theorem execFbTimeExpiry {g} (h : s.Keeps t) : s.Next (execFbTimeExpiry g t) := by
  unfold Machine.execFbTimeExpiry
  split
  · exact h.groupFail.enterOpening.next.ite h.next
  · exact (((h.updSafe.updGrp.foldl (fun _ _ hu => hu.setN)).openingCycle).next).ite h.next
  · exact h.next

theorem execMinOffElapsed {g} (h : s.Keeps t) : s.Next (execMinOffElapsed g t) := (h.tryOn.next.ite h.setGroup.next).ite h.next

theorem execMaxOverlapExpiry {so current} (h : s.Keeps t) : s.Next (execMaxOverlapExpiry so current t) := by
  unfold Machine.execMaxOverlapExpiry
  split
  · exact h.loadGoesOff.updLoad.raise.next.ite h.next
  · exact h.next

theorem execMainCloseTimeExpiry {g} (h : s.Keeps t) : s.Next (execMainCloseTimeExpiry g t) := by
  unfold Machine.execMainCloseTimeExpiry
  split
  · exact h.loadOff.next.ite h.next
  · exact h.next

theorem groupLoadsOff {g} (h : s.Keeps t) : s.Keeps (t.groupLoadsOff g) := (h.foldl (fun _ _ hu => hu.loadOff)).updGrp

theorem execSeoDelayExpiry {g} (h : s.Keeps t) : s.Next (execSeoDelayExpiry g t) := by
  unfold Machine.execSeoDelayExpiry
  split
  · exact h.groupLoadsOff.next.ite h.next
  · exact h.next

theorem execSrsMaxTimeExpiry {g} (h : s.Keeps t) : s.Next (execSrsMaxTimeExpiry g t) := by
  unfold Machine.execSrsMaxTimeExpiry
  split
  · exact (((h.raise.foldl (fun _ _ hu => hu.setN)).enterOpening).next).ite h.next
  · exact h.next

theorem execTrunkLoss {n} (h : s.Keeps t) : s.Next (execTrunkLoss n t) :=
  ((h.raise.inc.updProt.updGrp.ite h.raise.inc).andThenNext fun h1 => h1.setCause.toAcquire.groupSeo.next.ite
      h1.setCause.toAcquire.next).ite h.next

theorem execTrunkLossSeoTimer {g} (h : s.Keeps t) : s.Next (execTrunkLossSeoTimer g t) := by
  unfold Machine.execTrunkLossSeoTimer
  split
  · exact h.groupLoadsOff.next.ite h.next
  · exact h.next

theorem lostClearEff {n x} (h : s.Keeps t) : s.KeepsOk (lostClearEff n x t) := h.setN.updProt.ok.ite .error
theorem execLostClear {path n} (h : s.Keeps t) : s.Next (execLostClear path n t) := (h.write (fun _ => h.lostClearEff)).next
theorem execStringLost {n} (h : s.Keeps t) : s.Next (execStringLost n t) := h.setN.raise.inc.updProt.record.inhibitInsert.next.ite h.next

/-! ### Nand -/

theorem journalAdd {m} (h : s.Keeps t) : s.Keeps (t.journalAdd m) := h.updRec
theorem blockRetired {block why} (h : s.Keeps t) : s.Keeps (t.blockRetired block why) := h.updRec.setN.record

theorem archRetire {block why} (h : s.Keeps t) : s.Keeps (t.archRetire block why) := by
  unfold State.archRetire
  dsimp only
  split
  · exact h.blockRetired.updRec.updNand
  · exact h.blockRetired

theorem archMakeRoom {ring} (h : s.Keeps t) : s.Keeps (t.archMakeRoom ring) := by
  induction ring generalizing t with
  | nil => exact h
  | cons b ring ih =>
    cases ring with
    | nil => exact h
    | cons b' rest =>
      exact ((ih h.updNand.archRetire).ite h.updNand.archRetire).ite h.updNand.journalAdd.updRec

/-! ### Estimate -/

theorem updPos {n p f} (h : s.Keeps t) : s.Keeps (t.updPos n p f) := h.updCell

theorem linesAnew {n p} (h : s.Keeps t) : s.Keeps (t.linesAnew n p) :=
  (h.foldl (fun _ _ hu => hu.setLine.withFree)).andThen fun h1 => h1.updG

theorem firstUse {n p why m x} (h : s.Keeps t) : s.Keeps (t.firstUse n p why m x) :=
  (h.ite h.imageRead).andThen fun h1 => h1.updPos.addTo.linesAnew.raise.ite h1.updPos.addTo.linesAnew

theorem learnClose {n p sf q se} (h : s.Keeps t) : s.Keeps (t.learnClose n p sf q se) :=
  h.setN.setR.updPos.setN.inc.ite (h.setN.setR.updPos.setN.inc.raise.ite h.setN.setR.updPos.setN.inc.updPos.updEst)

theorem anchors {n p m i v?} (h : s.Keeps t) : s.Keeps (t.anchors n p m i v?) := by
  refine .ite ?_ ((h.updPos.updPos.inc.updPos.ite h.updPos.updPos.inc).ite h.updPos)
  split
  · exact ((((h.updPos.updPos.inc.updPos.ite h.updPos.updPos.inc).ite h.updPos).updPos).inc).learnClose
  · exact (((h.updPos.updPos.inc.updPos.ite h.updPos.updPos.inc).ite h.updPos).updPos).inc

theorem learnCheck {n p} (h : s.Keeps t) : s.Keeps (t.learnCheck n p) := h.updPos
theorem stepPos {n p m r x y} (h : s.Keeps t) : s.Keeps (t.stepPos n p m r x y) := h.firstUse.ite h.updPos.learnCheck.anchors.updPos
theorem learnsOpen {n} (h : s.Keeps t) : s.Keeps (t.learnsOpen n) := h.setN

theorem installSet {n} (h : s.Keeps t) : s.Keeps (t.installSet n) := by
  unfold State.installSet
  split
  · exact h.setB.setN.updEst.updG
  · exact h

theorem modelStep {n x} (h : s.Keeps t) : s.Keeps (t.modelStep n x) :=
  h.updG.ite ((h.foldl (fun _ _ hu => hu.stepPos)).andThen fun h1 => h1.withFree.updEst.learnsOpen)

theorem setMissing {n} (h : s.Keeps t) : s.Keeps (t.setMissing n) := h.ite h.raise

theorem execModelStep {n} (h : s.Keeps t) : s.Next (execModelStep n t) := by
  refine .ite ?_ h.next
  split
  · exact h.setMissing.next
  · exact h.updG.installSet.modelStep.setMissing.next.ite h.updG.next

theorem countCharge {n hasData} (h : s.Keeps t) : s.Keeps (t.countCharge n hasData) :=
  (h.updEst.updG.inc.raise.updG.learnsOpen.ite h.updEst.updG).andThen fun h1 => (h1.updEst.ite h1.updEst).ite h1

theorem execRestCorrection {n} (h : s.Keeps t) : s.Next (execRestCorrection n t) := by
  refine .ite (Keeps.next (Keeps.updEst (Keeps.withFree (h.foldl (fun _ _ hu => ?_))))) h.next
  split
  · exact hu.updPos.inc.ite hu
  · exact hu

theorem aggregate {n} (h : s.Keeps t) : s.Keeps (t.aggregate n) :=
  (h.setR.setR.setR.setN.setR.setN.setR.setR.setR.setR.setR.setR.setR.setR.setR.ite
      h.setR.setR.setR.setN.setR.setN.setR.setR.setR.setR.setR.setR.setR.setR.setR).andThen fun h1 => h1.setR.setN.setN.withFree

theorem execAggregates {n} (h : s.Keeps t) : s.Next (execAggregates n t) :=
  ((h.aggregate.setMissing.setN.setN.raise.ite h.aggregate.setMissing.setN.setN).andThenNext fun h1 => (h1.setR.updEst.ite h1).andThenNext
      fun h2 => h2.updEst.next).ite h.next

theorem execStateSave {n} (h : s.Keeps t) : s.Next (execStateSave n t) := h.updNand.updEst.next.ite h.next

theorem execStateSaveDone {n} (h : s.Keeps t) : s.Next (execStateSaveDone n t) := by
  unfold Machine.execStateSaveDone
  split
  · exact ((h.updNand.inc.setN.ite h.updNand.inc.setN.updVest).andThenNext fun h1 => h1.updEst.next).ite h.next
  · exact h.next

theorem execSaveFailed {n} (h : s.Keeps t) : s.Next (execSaveFailed n t) := h.raise.next.ite h.next
theorem modelSetEff {n v} (h : s.Keeps t) : s.KeepsOk (modelSetEff n v t) := ((h.updEst.ite h.updEst.installSet).ok).ite .error
theorem execModelSet {path n data} (h : s.Keeps t) : s.Next (execModelSet path n data t) := (h.write (fun _ => h.modelSetEff)).next
theorem replacedEff {n v} (h : s.Keeps t) : s.KeepsOk (replacedEff n v t) := .ite .error h.updPos.updEst.ok
theorem execReplaced {path n pos} (h : s.Keeps t) : s.Next (execReplaced path n pos t) := (h.write (fun _ => h.replacedEff)).next

/-! ### Thermal -/

theorem updTherm {n f} (h : s.Keeps t) : s.Keeps (t.updTherm n f) := h.updG

theorem stopCause {n bitNo on} (h : s.Keeps t) : s.Keeps (t.stopCause n bitNo on) :=
  h.ite (((h.setN.setFlag.inc.raise.ite h.setN.setFlag).andThen fun h1 => h1.record).ite h.setN.setFlag)

theorem level {n i y lvl hyst} (h : s.Keeps t) : s.Keeps (t.level n i y lvl hyst) := h.setFlag.record.ite h.setFlag
theorem throttleSync {n} (h : s.Keeps t) : s.Keeps (t.throttleSync n) := h.setR

theorem levelEval {n} (h : s.Keeps t) : s.Keeps (t.levelEval n) := by
  refine .ite h.throttleSync ?_
  dsimp only
  split
  · exact (h.setR.setN.setR.level.level.level.stopCause.setFlag.raise.ite h.setR.setN.setR.level.level.level.stopCause.setFlag).andThen fun
        h1 => h1.throttleSync
  · exact h.throttleSync

theorem riseEval {n} (h : s.Keeps t) : s.Keeps (t.riseEval n) := by
  refine Keeps.setN (Keeps.setR (Keeps.setR ?_))
  split
  · exact (((h.updTherm.setFlag.raise.ite (h.updTherm.setFlag.ite h.updTherm)).setFlag).raise).andThen fun h1 => h1.ite
        h1.inc.updTherm.record
  · exact ((((h.updTherm.setFlag.raise.ite (h.updTherm.setFlag.ite h.updTherm)).setFlag).updTherm).stopCause).ite
        (h.updTherm.setFlag.raise.ite (h.updTherm.setFlag.ite h.updTherm))

theorem intervalEval {n} (h : s.Keeps t) : s.Keeps (t.intervalEval n) := h.updTherm.setN
theorem execSweepIntervalRelax {n} (h : s.Keeps t) : s.Next (execSweepIntervalRelax n t) := h.intervalEval.next.ite h.next

theorem takeTemps {n i words tick} (h : s.Keeps t) : s.Keeps (t.takeTemps n i words tick) :=
  (h.updTherm.foldl (fun _ _ hu => hu.foldl (fun _ _ hu => hu.updCell))).andThen fun h1 => h1.updBal

theorem sweepEval {n tick} (h : s.Keeps t) : s.Keeps (t.sweepEval n tick) := by
  unfold State.sweepEval
  refine (Keeps.foldl h.inc.setN.updTherm fun u e hu => ?_).setN.riseEval.levelEval.intervalEval.updBal
  obtain ⟨i, th⟩ := e
  refine .ite hu ?_
  dsimp only
  split <;> exact (hu.raise.ite hu).andThen fun h1 => (h1.raise.ite h1).andThen fun h2 => (h2.raise.ite h2).foldl fun _ _ hv => hv.updCell

theorem execSweepDue {n} (h : s.Keeps t) : s.Next (execSweepDue n t) := (h.updBal.inc.next.ite h.updBal.updBal.sendCmd.next).ite h.next

theorem execSweepMissing {n} (h : s.Keeps t) : s.Next (execSweepMissing n t) := by
  unfold Machine.execSweepMissing
  dsimp only
  split
  · exact h.raise.updBal.next.ite h.next
  · exact h.next

theorem sweepFrame {n tick slots} (h : s.Keeps t) : s.Keeps (t.sweepFrame n tick slots) :=
  h.ite ((h.ite h.updBal).andThen fun h1 => (h1.foldl (fun _ _ hu => hu.ite hu.takeTemps)).andThen fun h2 => h2.updBal.sweepEval.ite
      h2.updBal)

theorem execRiseStopTime {n} (h : s.Keeps t) : s.Next (execRiseStopTime n t) := by
  unfold Machine.execRiseStopTime
  split
  · exact h.stopCause.next.ite h.next
  · exact h.next

theorem execDieTemperatureRead {temps} (h : s.Keeps t) : s.Next (execDieTemperatureRead temps t) :=
  (h.setN.raise.ite h.setN).andThenNext fun h1 => (h1.foldl (fun _ _ hu => hu.setR)).andThenNext fun h2 => (h2.withDies.foldl (fun _ _ hu
      => hu.raise.ite hu)).andThenNext fun h3 => (h3.setR.setR.forGal (fun _ _ hu => hu.stopCause)).next

theorem roomRead {y} (h : s.Keeps t) : s.Keeps (t.roomRead y) := (h.setR.raise.raise.ite h.setR).andThen fun h1 => h1.raise.ite h1

/-! ### Spectrum -/

theorem updSpec {n f} (h : s.Keeps t) : s.Keeps (t.updSpec n f) := h.updG
theorem residual {n sum dir} (h : s.Keeps t) : s.Keeps (t.residual n sum dir) := h.setR
theorem dropPending {n y dir} (h : s.Keeps t) : s.Keeps (t.dropPending n y dir) := h.ite h.residual.raise.setN
theorem takeSet {n x} (h : s.Keeps t) : s.Keeps (t.takeSet n x) := h.updG.setN.setN.setR.setR.ite h.updG.setN.setN.setR.setR.setN

theorem takeWaiting {n} (h : s.Keeps t) : s.Keeps (t.takeWaiting n) := by
  unfold State.takeWaiting
  split
  · exact h.takeSet
  · exact h

theorem updWin {n f} (h : s.Keeps t) : s.Keeps (t.updWin n f) := h.updSpec

theorem specOff {n} (h : s.Keeps t) : s.Keeps (t.specOff n) :=
  (h.dropPending.ite (h.dropPending.ite (h.dropPending.ite h))).andThen fun h1 => (h1.updWin.ite h1).andThen fun h2 =>
      h2.setN.setR.updSpec.takeWaiting

theorem newWin {n w kind reasons iSel} (h : s.Keeps t) : s.Keeps (t.newWin n w kind reasons iSel) := h.updSpec.inc.ite h.updSpec
theorem winSel {n iSel} (h : s.Keeps t) : s.Keeps (t.winSel n iSel) := h.updWin
theorem excite {n a ex next} (h : s.Keeps t) : s.Keeps (t.excite n a ex next) := h.updSpec.setR
theorem pauseExc {n pending reasons} (h : s.Keeps t) : s.Keeps (t.pauseExc n pending reasons) := h.setN.setN.inc.updSpec.updWin
theorem timeStepped {n i dir} (h : s.Keeps t) : s.Keeps (t.timeStepped n i dir) := h.dropPending.raise.updWin
theorem balanceExc {n i amp ex} (h : s.Keeps t) : s.Keeps (t.balanceExc n i amp ex) := h.excite.setN.setN.takeWaiting.ite h.excite.setN

theorem specStep {n grid iSel running stale off repeats clamped} (h : s.Keeps t) : s.Keeps (t.specStep n grid iSel running stale off
    repeats clamped) :=
  (h.updSpec.setR.residual.ite h.updSpec.setR.updSpec).andThen fun h1 => (h1.setN.ite h1).ite (h1.specOff.ite (((h1.ite h1.setN).ite
      (h1.ite (h1.setN.setR.newWin.excite.ite h1.newWin))).ite (((h1.setN.newWin.takeWaiting.ite h1.pauseExc).ite (((h1.ite
      h1.timeStepped).andThen fun h2 => h2.setN.newWin.excite.ite h2.setN.takeWaiting).ite (h1.pauseExc.timeStepped.ite
      h1.winSel.excite))).ite (h1.dropPending.setN.takeWaiting.ite ((h1.newWin.ite h1).andThen fun h2 => (h2.ite (h2.setN.ite
      h2.balanceExc)).ite (h2.setN.setN.ite h2.balanceExc))))))

theorem winEnd {n win lastTick} (h : s.Keeps t) : s.Keeps (t.winEnd n win lastTick) :=
  h.updSpec.setN.updG.setN.setN.setN.ite (h.updSpec.setN.setN.setN.setN.ite (h.updSpec.setN.setN.setN.setN.ite
      (h.updSpec.setN.updG.inc.setN.setN.setN.ite (h.updSpec.setN.updG.inc.setN.setN.setN.ite
      h.updSpec.setN.updG.inc.setN.setN.setN.updSpec))))

theorem accumulate {n grid tick hasI hasV align} (h : s.Keeps t) : s.Keeps (t.accumulate n grid tick hasI hasV align) := by
  unfold State.accumulate
  split
  · exact h
  · exact (h.updG.ite h).andThen fun h1 => h1.updSpec.updG

theorem demodulate {n grid tick hasI hasV align} (h : s.Keeps t) : s.Keeps (t.demodulate n grid tick hasI hasV align) :=
  (h.raise.ite h).andThen fun h1 => (h1.foldl (fun _ _ hu => hu.winEnd)).andThen fun h2 => (h2.ite h2.accumulate).andThen fun h3 =>
      h3.foldl (fun _ _ hu => hu.winEnd)

theorem coreEval {n p x tick} (h : s.Keeps t) : s.Keeps (t.coreEval n p x tick) :=
  h.updCell.ite (h.raise.updCell.ite (h.ite (h.updCell.ite h.updCell)))

theorem plateEval {n p x dir} (h : s.Keeps t) : s.Keeps (t.plateEval n p x dir) := by
  refine .ite h ?_
  split
  · exact h
  · refine .ite h.updCell ?_
    split
    · exact h
    · exact h.ite (h.updCell.updCell.raise.setN.record.ite h.updCell)

theorem execSpectrumPublish {n} (h : s.Keeps t) : s.Next (execSpectrumPublish n t) := by
  unfold Machine.execSpectrumPublish
  split
  · exact h.next
  · exact h.next.ite ((h.updSpec.setR.updG.foldl (fun _ _ hu => hu.ite (hu.coreEval.ite hu.coreEval.plateEval))).andThenNext fun h1 =>
        (h1.withFree.updSpec.ite h1.withFree).andThenNext fun h2 => h2.intervalEval.levelEval.next)

theorem applyEff {n x} (h : s.Keeps t) : s.Keeps (applyEff n x t).2 := h.ite_snd (h.setN.ite_snd h.setN.setN.setR.updSpec)
theorem execExcitationApply {path n} (h : s.Keeps t) : s.Next (execExcitationApply path n t) := (h.writeX (fun _ => h.applyEff)).next

theorem execSetComputed {n} (h : s.Keeps t) : s.Next (execSetComputed n t) := by
  unfold Machine.execSetComputed
  split
  · exact h.next
  · exact h.next.ite (h.updSpec.takeSet.next.ite (h.updSpec.dropPending.setN.takeSet.next.ite h.updSpec.setN.updSpec.next))

theorem platingClearEff {n x} (h : s.Keeps t) : s.KeepsOk (platingClearEff n x t) := h.updG.setN.ok
theorem execPlatingClear {path n} (h : s.Keeps t) : s.Next (execPlatingClear path n t) := (h.write (fun _ => h.platingClearEff)).next
theorem archiveNowEff {n x} (h : s.Keeps t) : s.KeepsOk (archiveNowEff n x t) := h.updSpec.ok
theorem execArchiveNow {path n} (h : s.Keeps t) : s.Next (execArchiveNow path n t) := (h.write (fun _ => h.archiveNowEff)).next
theorem execArchiveInterval {n} (h : s.Keeps t) : s.Next (execArchiveInterval n t) := h.updSpec.next.ite h.next
theorem archSync {n} (h : s.Keeps t) : s.Keeps (t.archSync n) := (h.ite h.updSpec).andThen fun h1 => h1.setN.setN

theorem execArchiveRecordWrite {n} (h : s.Keeps t) : s.Next (execArchiveRecordWrite n t) := by
  unfold Machine.execArchiveRecordWrite
  split
  · refine .ite h.next (Keeps.next (Keeps.forGal (.ite (h.archMakeRoom.ite h) ?_) (fun _ _ hu => hu.archSync)))
    split
    · exact h.archMakeRoom.ite h
    · exact ((h.archMakeRoom.ite h).updNand).andThen fun h1 => h1.updSpec.inc
  · exact h.next

theorem archiveSelEff {path n v} (h : s.Keeps t) : s.KeepsOk (archiveSelEff path n v t) := h.put.ok
theorem execArchiveSel {path n sel} (h : s.Keeps t) : s.Next (execArchiveSel path n sel t) := (h.write (fun _ => h.archiveSelEff)).next

theorem archiveReadOf {path n} (h : s.Keeps t) : s.KeepsRead (archiveReadOf path n t) := by
  unfold Machine.archiveReadOf
  dsimp only
  split
  · exact .error
  · exact .ite .error h.okRead

theorem execArchiveRead {path n} (h : s.Keeps t) : s.Next (execArchiveRead path n t) := (h.readWith h.archiveReadOf).next

/-! ### Balance -/

theorem balSync {n} (h : s.Keeps t) : s.Keeps (t.balSync n) := h.setN.setN

theorem balDecide {n} (h : s.Keeps t) : s.Keeps (t.balDecide n) :=
  (h.foldl (fun _ _ hu => hu.updCell.ite hu)).andThen fun h1 => (h1.foldl (fun _ _ hu => hu.updCell.ite hu)).andThen fun h2 => h2.balSync

theorem execBalanceDecision {n} (h : s.Keeps t) : s.Next (execBalanceDecision n t) := h.updBal.balDecide.next.ite h.next
theorem balFrame {n} (h : s.Keeps t) : s.Keeps (t.balFrame n) := h.updG.balSync
theorem balCommand {n} (h : s.Keeps t) : s.Keeps (t.balCommand n) := h.updG
theorem balCheck {n} (h : s.Keeps t) : s.Keeps (t.balCheck n) := h.updG.foldl (fun _ _ hu => hu.raise.updCell.updBal)
theorem testSync {n} (h : s.Keeps t) : s.Keeps (t.testSync n) := h.setN.setN
theorem sendTest {n step} (h : s.Keeps t) : s.Keeps (t.sendTest n step) := h.sendCmd
theorem holdBal {n p on} (h : s.Keeps t) : s.Keeps (t.holdBal n p on) := h.updG

theorem testEnd {n cls d1} (h : s.Keeps t) : s.Keeps (t.testEnd n cls d1) :=
  (h.holdBal.updBal.setN.setR.ite h.holdBal.updBal.setN.setR.inc).andThen fun h1 => (h1.updCell.ite (h1.ite h1.updCell.raise)).andThen fun
      h2 => h2.balSync

theorem testStart {n} (h : s.Keeps t) : s.Keeps (t.testStart n) := by
  unfold State.testStart
  split
  · exact h
  · exact h.updBal.holdBal

theorem testFrame {n} (h : s.Keeps t) : s.Keeps (t.testFrame n) := by
  refine Keeps.testSync (.ite (h.testStart.ite h) (.ite ((h.sendTest.ite h).stopTest) (.ite ((h.sendTest.ite h).testEnd) ?_)))
  split
  · exact h.updBal.ite h.updBal
  · exact h.updBal.updBal.updBal.sendTest.ite h.updBal.updBal
  · exact h.updBal.updBal.sendTest.ite h.updBal
  · exact h.updBal.testEnd.ite h.updBal
  · exact h

theorem balTestEff {n v} (h : s.Keeps t) : s.KeepsOk (balTestEff n v t) := .ite .error h.updBal.testSync.ok

theorem execBalanceTestRun {path n pos} (h : s.Keeps t) : s.Next (execBalanceTestRun path n pos t) :=
  (h.write (fun _ => h.balTestEff)).next

theorem execSwitchTestInterval {n} (h : s.Keeps t) : s.Next (execSwitchTestInterval n t) := h.updBal.testSync.next.ite h.next

/-! ### Channels -/

theorem externalCheck (h : s.Keeps t) : s.Keeps t.externalCheck :=
  h.ite ((h.foldl (fun _ _ hu => hu.outputFault.ite hu)).andThen fun h1 => h1.foldl (fun _ _ hu => hu.outputFault.ite hu))

theorem viewSync (h : s.Keeps t) : s.Keeps t.viewSync := h.updSafe.updSafe.ite h.updSafe

theorem adoptCycle (h : s.Keeps t) : s.Keeps t.adoptCycle := by
  unfold State.adoptCycle
  split
  · exact h
  · refine h.updSafe.foldl fun _ _ hu => .ite ?_ (hu.setGroup.updGrp.enterOpening.ite hu.setGroup.updGrp)
    dsimp only
    split
    · exact hu.setGroup.loadWant
    · exact hu.setGroup

theorem channelSync (h : s.Keeps t) : s.Keeps t.channelSync := h.setN.setN

theorem execSafetyCycle {rb} (h : s.Keeps t) : s.Next (execSafetyCycle rb t) :=
  h.next.ite ((h.updSafe.externalCheck.viewSync.demandSync.updSafe.ite h.updSafe.externalCheck.viewSync.demandSync).andThenNext fun h1 =>
      (h1.adoptCycle.ite h1.adoptCycle.allSeo).andThenNext fun h2 => (h2.ite ((h2.foldl (fun _ _ hu =>
      hu.groupEvents)).serveLoads)).andThenNext fun h3 => (h3.lockoutCycle.forGal (fun _ _ hu => hu.tripClear)).andThenNext fun h4 =>
      h4.channelSync.next)

theorem discSync {i} (h : s.Keeps t) : s.Keeps (t.discSync i) := h.updSi
theorem rawSync (h : s.Keeps t) : s.Keeps t.rawSync := h.setN
theorem resetTrack {i} (h : s.Keeps t) : s.Keeps (t.resetTrack i) := h.updSafe.ite h

theorem execSafetyInputChange {i ch high newelSees balusterSees} (h : s.Keeps t) : s.Next (execSafetyInputChange i ch high newelSees
    balusterSees t) :=
  ((h.updSi.updSafe.rawSync.discSync.demandSync.resetTrack.viewSync.raise.ite
      h.updSi.updSafe.rawSync.discSync.demandSync.resetTrack.viewSync).next).ite h.next

theorem execDiscrepancyTimeout {i} (h : s.Keeps t) : s.Next (execDiscrepancyTimeout i t) := by
  unfold Machine.execDiscrepancyTimeout
  split
  · exact ((h.updSi.raise.updSafe.ite h.updSi.raise).andThenNext fun h1 => h1.demandSync.resetTrack.next).ite h.next
  · exact h.next

theorem execTestPulse {source shorts} (h : s.Keeps t) : s.Next (execTestPulse source shorts t) := by
  have h1 : s.Keeps (t.updSafe fun r => if source = 1 then { r with tp1At := some t.root } else { r with tp2At := some t.root }) := by
    split <;> exact h.updSafe
  exact h.next.ite (h1.foldl fun _ _ hu => hu.ite (hu.updSi.raise.ite hu.updSi)).next

theorem outputStuck {o} (h : s.Keeps t) : s.Keeps (t.outputStuck o) := h.updSafe.raise
theorem testPassed {o} (h : s.Keeps t) : s.Keeps (t.testPassed o) := h.updSafe.ite h.updSafe

theorem execOutputTestPulse {load onSl chan fell returned external} (h : s.Keeps t) : s.Next (execOutputTestPulse load onSl chan fell
    returned external t) :=
  h.next.ite (((h.updSafe.ite h.updSafe.outputStuck).andThenNext fun h1 => (h1.ite h1.outputFault).next).ite
      (h.updSafe.outputFault.next.ite (h.next.ite (h.updSafe.testPassed.next.ite h.updSafe.outputStuck.next))))

theorem execSoOvercurrent {so amps us} (h : s.Keeps t) : s.Next (execSoOvercurrent so amps us t) :=
  ((h.setR.foldl (fun _ _ hu => hu.joinChan.joinChan.ite hu)).andThenNext fun h1 => (h1.foldl (fun _ _ hu =>
      hu.loadGoesOff.updLoad)).andThenNext fun h2 => h2.outputFault.next).ite h.next

theorem execChannelDisagree (h : s.Keeps t) : s.Next (execChannelDisagree t) := by
  unfold Machine.execChannelDisagree
  split
  · exact h.updSafe.next.ite h.next
  · exact h.next

theorem channelDown {c clock} (h : s.Keeps t) : s.Keeps (t.channelDown c clock) := h.updSafeChan.updSafe.switchSync.allSeo
theorem execChannelFail {chan clock} (h : s.Keeps t) : s.Next (execChannelFail chan clock t) := h.channelDown.channelSync.next

theorem execChannelSelfCheck {newel baluster} (h : s.Keeps t) : s.Next (execChannelSelfCheck newel baluster t) :=
  h.next.ite ((h.updSafe.updSafe.ite h.updSafe.channelDown).andThenNext fun h1 => (h1.updSafe.ite h1.channelDown).andThenNext fun h2 =>
      h2.updSafe.switchSync.channelSync.next)

/-- A latch that is cleared leaves the rest. -/
theorem latchCleared (s : State) : s.KeepsInv ((s.updVest fun v => { v with latch := false }).updNand fun d =>
    { d with latch := false, latchCauses := 0 }) := by
  refine ⟨rfl, fun hi => ?_⟩
  have hvest : (s.updVest fun v => { v with latch := false }).Inv := (refl s).updVest.2.1 hi
  exact hvest.updNand rfl hvest.active_lt

/-- The one command that may clear the latch keeps the rest. -/
theorem execLockoutResetPulse (s : State) : ∃ t, execLockoutResetPulse s = .next t ∧ s.KeepsInv t := by
  unfold Machine.execLockoutResetPulse
  split
  next r _ =>
    extract_lets f s1 s2 s3 s4 s5
    have h3 : s.Keeps s3 := (refl s).updSafe.setN.setN.record
    have h4 : s3.KeepsInv s4 := latchCleared s3
    split
    · obtain ⟨hid, hinv, -⟩ : s4.Keeps ((s5.updSafe fun x => { x with reqAt := none }).toMode .ready 0x0D true).channelSync :=
        (refl s4).inc.setN.updSafe.toMode.channelSync
      exact ⟨_, rfl, hid.trans (h4.1.trans h3.1), fun hs => hinv (h4.2 (h3.2.1 hs))⟩
    · exact ⟨_, rfl, h3.1, h3.2.1⟩
  next => exact ⟨_, rfl, rfl, id⟩

theorem lockoutResetEff {x} (h : s.Keeps t) : s.KeepsOk (lockoutResetEff x t) := h.setN.updSafe.ok
theorem execLockoutReset {path} (h : s.Keeps t) : s.Next (execLockoutReset path t) := (h.write (fun _ => h.lockoutResetEff)).next

theorem execRequestedExpiry (h : s.Keeps t) : s.Next (execRequestedExpiry t) := by
  unfold Machine.execRequestedExpiry
  split
  · exact h.setN.updSafe.next.ite h.next
  · exact h.next

theorem execImdEvaluate (h : s.Keeps t) : s.Next (execImdEvaluate t) := by
  refine .ite h.next (.ite ((h.updSafe.setR.updSafe.raise.ite h.updSafe.setR.updSafe).next) ?_)
  dsimp only
  split
  · exact h.updSafe.setR.raise.updSafe.next
  · exact (h.updSafe.setR.updSafe.updSafe.raise.ite h.updSafe.setR.updSafe.updSafe).andThenNext fun h1 => (h1.raise.ite h1).next

/-! ### Converter -/

theorem toConv {n st} (h : s.Keeps t) : s.Keeps (t.toConv n st) := by
  unfold State.toConv
  dsimp only
  split
  · exact h.updTread.setN.inc.holdInsert
  · exact h.updTread.setN.inc.setN
  · exact h.updTread.setN

theorem zeroOut {n} (h : s.Keeps t) : s.Keeps (t.zeroOut n) := h.updTread.setR
theorem zeroX {n} (h : s.Keeps t) : s.Keeps (t.zeroX n) := h.updTread
theorem start {n dir} (h : s.Keeps t) : s.Keeps (t.start n dir) := h.zeroX.zeroOut.setI
theorem startRun {n} (h : s.Keeps t) : s.Keeps (t.startRun n) := h.toConv.start
theorem byEnable {n en} (h : s.Keeps t) : s.Keeps (t.byEnable n en) := h.startRun.ite h.toConv.zeroOut

theorem convRow {n hold fresh} (h : s.Keeps t) : s.Keeps (t.convRow n hold fresh) := by
  unfold State.convRow
  dsimp only
  split
  · exact (h.updTread.toConv.zeroOut.ite (h.updTread.toConv.zeroOut.ite h.updTread.byEnable)).ite h.updTread
  · refine .ite h.updTread.updTread.toConv.zeroOut.zeroX (.ite (h.updTread.toConv.zeroOut.zeroX.ite h.updTread.toConv)
      (.ite h.updTread.toConv.zeroOut (.ite h.updTread.toConv ?_)))
    have h1 : s.Keeps (t.updTread n fun t => { t with evEn := false }) := h.updTread
    split
    · exact (h1.updTread.setN.byEnable.ite h1.updTread).ite h1
    · exact h1.startRun.ite h1
    · exact h1.toConv.ite (h1.toConv.ite h1)
    · exact h1.toConv.ite (h1.toConv.ite (h1.toConv.start.inc.ite h1))
    · exact h1.toConv.ite (h1.toConv.zeroOut.ite h1)
    · exact h1.ite (h1.toConv.start.updTread.ite h1.toConv)
    · exact h1.ite (h1.toConv.zeroOut.ite h1.byEnable)
    · exact h1

theorem thsUpdate {n} (h : s.Keeps t) : s.Keeps (t.thsUpdate n) := (h.raise.ite h).andThen fun h1 => h1.updTread
theorem foldTrip {n counting} (h : s.Keeps t) : s.Keeps (t.foldTrip n counting) := h.updTread.raise.ite h.updTread

theorem headChecks {n} (h : s.Keeps t) : s.Keeps (t.headChecks n) :=
  (h.raise.ite h).andThen fun h1 => (h1.raise.ite h1).andThen fun h2 => h2.updTread

theorem loopReport {n cands x dir} (h : s.Keeps t) : s.Keeps (t.loopReport n cands x dir) :=
  (h.foldl (fun _ _ hu => hu.setR)).andThen fun h1 => h1.setR.setN

theorem selReport {n w iSel sat} (h : s.Keeps t) : s.Keeps (t.selReport n w iSel sat) := h.setN.setR.setN

theorem loops {n} (h : s.Keeps t) : s.Keeps (t.loops n) := by
  unfold State.loops
  dsimp only
  split
  · exact h.withFree.loopReport.setR.selReport.updTread.inc.ite h.withFree.loopReport.setR.selReport.updTread
  · exact h.withFree.loopReport.selReport.updTread
  · exact h.withFree.loopReport.selReport.updTread
  · exact h.withFree.loopReport
  · exact h.withFree

theorem formRefs {n} (h : s.Keeps t) : s.Keeps (t.formRefs n) := (h.raise.ite h).andThen fun h1 => h1.updTread
theorem parityFound {n} (h : s.Keeps t) : s.Keeps (t.parityFound n) := h.inc.raise.zeroX.updTread

theorem staleCount {n stale} (h : s.Keeps t) : s.Keeps (t.staleCount n stale) :=
  (h.updTread.raise.ite h.updTread).andThen fun h1 => h1.inc.ite h1

theorem sfDelayed {n sf} (h : s.Keeps t) : s.Keeps (t.sfDelayed n sf) := h.inc.record

theorem specMirror {n grid m iSel} (h : s.Keeps t) : s.Keeps (t.specMirror n grid m iSel) :=
  (h.setN.setR.setN.updSpec.withFree.takeWaiting.ite h.setN.setR.setN.updSpec.withFree).andThen fun h1 => h1.ite ((h1.newWin.ite
      (h1.newWin.ite h1.newWin)).ite (h1.updWin.ite (h1.winSel.ite h1)))

theorem standbyStep {n grid} (h : s.Keeps t) : s.Keeps (t.standbyStep n grid) := by
  unfold State.standbyStep
  split
  · exact h
  · exact h.withFree.loopReport.setR.selReport.setI.updTread.specMirror

theorem controlStep {n parity} (h : s.Keeps t) : s.Keeps (t.controlStep n parity) := by
  unfold State.controlStep
  extract_lets held meas come stale begun grid late counted paused heated tread hold rowed st looped sp resid stepped acted rippled marked
    checked ramped
  have hlate : s.Keeps late := h.takeHeld.updG.sfDelayed.ite h.takeHeld.updG
  have hpaused : s.Keeps paused := hlate.staleCount.parityFound.ite hlate.staleCount
  have hrowed : s.Keeps rowed := (hpaused.ite hpaused.thsUpdate).convRow
  have hlooped : s.Keeps looped := hrowed.ite hrowed.loops
  have hstepped : s.Keeps stepped := (hlooped.ite (hlooped.residual.ite hlooped.updSpec)).specStep
  have hacted : s.Keeps acted :=
    (hrowed.ite hrowed.standbyStep).ite ((hstepped.ite hstepped.formRefs).ite (hstepped.ite hstepped.updTread))
  have hmarked : s.Keeps marked := hacted.setR.updTread
  exact (hmarked.ite hmarked.foldTrip.headChecks).updProt.demodulate

theorem execControlStep {n parity} (h : s.Keeps t) : s.Next (execControlStep n parity t) := h.controlStep.next.ite h.next
theorem restartEff {n x} (h : s.Keeps t) : s.KeepsOk (restartEff n x t) := h.updTread.ok.ite .error
theorem execRestart {path n} (h : s.Keeps t) : s.Next (execRestart path n t) := (h.write (fun _ => h.restartEff)).next

theorem execConverterEnable {path n on} (h : s.Keeps t) : s.Next (execConverterEnable path n on t) :=
  (h.write (fun _ => h.storeVal)).next

theorem mismatchEval {n means} (h : s.Keeps t) : s.Keeps (t.mismatchEval n means) := by
  refine .ite ?_ h
  split
  · exact h
  · exact h.setR.setN.updG.raise.ite h.setR.setN.updG

theorem plausEval {n shunt hall bus str phases} (h : s.Keeps t) : s.Keeps (t.plausEval n shunt hall bus str phases) := by
  unfold State.plausEval
  dsimp only
  split
  · exact (h.setR.updProt.setN.raise.ite (h.setR.updProt.setN.raise.ite h.setR.updProt.setN.setCause)).ite
        (h.setR.updProt.setN.setCause.ite h.setR.updProt)
  · exact h.setR.updProt

theorem windowClose {n second} (h : s.Keeps t) : s.Keeps (t.windowClose n second) :=
  (h.setR.setR.setR.setR.updG.setN.updEst.ite h.setR.setR.setR.setR.updG.setN).ite ((h.setR.setR.setR.setR.updG.foldl (fun _ _ hu =>
      hu.setR)).andThen fun h1 => h1.mismatchEval.plausEval)

theorem windowAdd {n second tick sums phases} (h : s.Keeps t) : s.Keeps (t.windowAdd n second tick sums phases) :=
  (h.windowClose.ite h).andThen fun h1 => h1.updG

theorem execTelemetryWindow {n second} (h : s.Keeps t) : s.Next (execTelemetryWindow n second t) := h.windowClose.next.ite h.next

theorem peaksAdd {n i bus phases} (h : s.Keeps t) : s.Keeps (t.peaksAdd n i bus phases) := by
  refine Keeps.updG (h.setR.setR.setR.foldl (fun _ _ hu => ?_))
  split
  · exact hu.setR
  · exact hu

theorem peakReadOf {n i} (h : s.Keeps t) : s.KeepsRead (peakReadOf n i t) := h.setR.updG.okRead
theorem peakHit {n i x} (h : s.Keeps t) : s.Keeps (t.peakHit n i x) := h.setR.updG

theorem execPeakRead {path n peak} (h : s.Keeps t) : s.Next (execPeakRead path n peak t) := by
  refine .ite (Keeps.next ?_) h.next
  split
  · exact ((h.readWith h.peakReadOf).peakHit).ite (h.readWith h.peakReadOf)
  · exact h.readWith h.peakReadOf

/-! ### Heads -/

theorem unitExec {n onB node e result} (h : s.Keeps t) : s.Keeps (t.unitExec n onB node e result) :=
  h.ite (h.take.updHead.ite h.take.updMon)

theorem execIdentify {n onB node tag assign ctr reverse} (h : s.Keeps t) : s.Next (execIdentify n onB node tag assign ctr reverse t) :=
  (h.updMon.ite h).andThenNext fun h1 => h1.unitExec.next

theorem execReadReg {n onB node tag addr} (h : s.Keeps t) : s.Next (execReadReg n onB node tag addr t) := h.unitExec.next
theorem execWriteReg {n onB node tag addr value} (h : s.Keeps t) : s.Next (execWriteReg n onB node tag addr value t) := h.unitExec.next
theorem execSyncReset {n node tag sf x} (h : s.Keeps t) : s.Next (execSyncReset n node tag sf x t) := h.updHead.unitExec.next
theorem execSweep {n node tag mask} (h : s.Keeps t) : s.Next (execSweep n node tag mask t) := h.unitExec.next
theorem execSwitchTest {n node tag pos step} (h : s.Keeps t) : s.Next (execSwitchTest n node tag pos step t) := h.unitExec.next

theorem execCommission {n node tag first count serial} (h : s.Keeps t) : s.Next (execCommission n node tag first count serial t) :=
  h.unitExec.next

theorem execRestoreRing {n onB tag} (h : s.Keeps t) : s.Next (execRestoreRing n onB tag t) := h.unitExec.next
theorem execRelease {n onB tag} (h : s.Keeps t) : s.Next (execRelease n onB tag t) := h.unitExec.next
theorem execSleep {n onB node tag ms tLimit} (h : s.Keeps t) : s.Next (execSleep n onB node tag ms tLimit t) := h.unitExec.next
theorem execSelftest {n onB node tag result} (h : s.Keeps t) : s.Next (execSelftest n onB node tag result t) := h.unitExec.next

theorem execHeadSuperframeRx {n onB d} (h : s.Keeps t) : s.Next (execHeadSuperframeRx n onB d t) :=
  h.next.ite ((h.take.take.updG.ite h.take.take).andThenNext fun h1 => h1.updHead.next)

theorem execHeadHoldTimeout {n} (h : s.Keeps t) : s.Next (execHeadHoldTimeout n t) := h.updHead.next.ite h.next
theorem execHeadTrunkLoss {n onB} (h : s.Keeps t) : s.Next (execHeadTrunkLoss n onB t) := h.updHead.next.ite h.next
theorem execDualFault {n} (h : s.Keeps t) : s.Next (execDualFault n t) := h.updHead.next.ite h.next
theorem execLoopFrameEvaluate {n back} (h : s.Keeps t) : s.Next (execLoopFrameEvaluate n back t) := h.updHead.next.ite h.next

theorem execMonitorSlotFill {n node reverse rxErr link} (h : s.Keeps t) : s.Next (execMonitorSlotFill n node reverse rxErr link t) :=
  h.take.take.updMon.updHead.next.ite h.next

theorem execMonitorSignalLoss {n node} (h : s.Keeps t) : s.Next (execMonitorSignalLoss n node t) := h.updMon.next.ite h.next
theorem execSampleLatch {n r} (h : s.Keeps t) : s.Next (execSampleLatch n r t) := h.next.ite (h.updG.next.ite h.updHead.updG.next)
theorem execMonitorFrameTimeout {n node} (h : s.Keeps t) : s.Next (execMonitorFrameTimeout n node t) := h.updMon.next.ite h.next

theorem execComparatorTrip {n node pos value outs} (h : s.Keeps t) : s.Next (execComparatorTrip n node pos value outs t) :=
  h.next.ite ((h.updHead.next.ite h.next).ite (h.updMon.next.ite h.next))

theorem execSweepConversionDone {n node temps} (h : s.Keeps t) : s.Next (execSweepConversionDone n node temps t) :=
  h.updMon.next.ite h.next

theorem execSleepCheck {n node volts temps selfRes} (h : s.Keeps t) : s.Next (execSleepCheck n node volts temps selfRes t) :=
  h.updMon.next.ite h.next

theorem execWakeBurst {n node} (h : s.Keeps t) : s.Next (execWakeBurst n node t) :=
  h.next.ite (h.updHead.next.ite (h.updMon.next.ite h.next))

/-! ### Seal -/

theorem loadBanks (h : s.Keeps t) : s.Keeps t.loadBanks := h.forGal (fun _ _ hu => hu.updProt)
theorem groupSync (h : s.Keeps t) : s.Keeps t.groupSync := h.forGal (fun _ _ hu => hu.setN.ite hu)

theorem takeForce {set sealedNow} (h : s.Keeps t) : s.Keeps (t.takeForce set sealedNow) :=
  h.withSafetySet.loadBanks.groupSync.demandSync.forGal (fun _ _ hu => hu.sendThresh.ite hu)

theorem bootSeal (h : s.Keeps t) : s.Keeps t.bootSeal := by
  refine Keeps.loadBanks (Keeps.setN (Keeps.setN ?_))
  split
  · exact h.withSafetySet.ite h.withSafetySet.setN
  · exact h.withSafetySet

theorem rwSEff {index sub v} (h : s.Keeps t) : s.KeepsOk (rwSEff index sub v t) := (h.withSafetySet.setN.ite h.withSafetySet).ok

theorem execRwSWrite {path index sub data} (h : s.Keeps t) : s.Next (execRwSWrite path index sub data t) := by
  unfold Machine.execRwSWrite
  split
  · exact ((h.write (fun _ => h.rwSEff)).next).ite h.next
  · exact h.next

theorem sealEff {loadOk reloadOk v} (h : s.Keeps t) : s.Keeps (sealEff loadOk reloadOk v t).2 :=
  h.ite_snd (h.setN.ite_snd (h.updNand.setN.setN.setN.takeForce.ite_snd (h.setN.loadBanks.ite_snd ((h.setN.withSafetySet.forGal (fun _ _ hu
      => hu.setCause)).setN))))

theorem execSealSet {path crc loadOk reloadOk} (h : s.Keeps t) : s.Next (execSealSet path crc loadOk reloadOk t) :=
  (h.writeX (fun _ => h.sealEff)).next

theorem sealDiscardEff {x} (h : s.Keeps t) : s.KeepsOk (sealDiscardEff x t) := h.withSafetySet.setN.ok
theorem execSealDiscard {path} (h : s.Keeps t) : s.Next (execSealDiscard path t) := (h.write (fun _ => h.sealDiscardEff)).next
theorem storeEff {v} (h : s.Keeps t) : s.KeepsOk (storeEff v t) := h.updNand.ok.ite .error
theorem execStore {path} (h : s.Keeps t) : s.Next (execStore path t) := (h.write (fun _ => h.storeEff)).next
theorem restoreEff {v} (h : s.Keeps t) : s.KeepsOk (restoreEff v t) := h.updNand.ok.ite .error
theorem execRestore {path} (h : s.Keeps t) : s.Next (execRestore path t) := (h.write (fun _ => h.restoreEff)).next
theorem loadSettings (h : s.Keeps t) : s.Keeps t.loadSettings := (h.updNand.ite h).andThen fun h1 => h1.foldl (fun _ _ hu => hu.put)

/-! ### Redundancy -/

theorem claimAnew {n} (h : s.Keeps t) : s.Keeps (t.claimAnew n) := by
  unfold State.claimAnew
  split
  · exact h.toIdentify
  · exact h.toIdentify
  · exact h.upWrites
  · exact h

theorem claimEnd {n} (h : s.Keeps t) : s.Keeps (t.claimEnd n) := h.updTrunk.updTrunk.ite h.updTrunk

theorem roleTo {r} (h : s.Keeps t) : s.Keeps (t.roleTo r) :=
  (h.setN.updRed.updNand.ite (h.setN.updRed.updNand.ite (h.setN.updRed.updNand.ite h.setN.updRed))).andThen fun h1 =>
      (h1.setFlag.updRed.ite h1).andThen fun h2 => ((h2.forGal (fun _ _ hu => hu.updTrunk)).ite h2).andThen fun h3 => (h3.forGal (fun _ _
      hu => hu.claimAnew)).ite ((h3.forGal (fun _ _ hu => hu.claimEnd)).ite h3)

theorem nextEpoch (h : s.Keeps t) : s.Keeps t.nextEpoch := h.setN
theorem convOff {n} (h : s.Keeps t) : s.Keeps (t.convOff n) := h.ite h.toConv.zeroOut.zeroX.updTread.specOff

theorem groupsOff (h : s.Keeps t) : s.Keeps t.groupsOff :=
  (h.allLoadsOff.foldl (fun _ _ hu => hu.setGroup.updGrp)).andThen fun h1 => h1.forGal (fun _ _ hu => hu.updProt)

theorem leaveActive (h : s.Keeps t) : s.Keeps t.leaveActive :=
  (h.roleTo.forGal (fun _ _ hu => hu.convOff)).andThen fun h1 => h1.groupsOff.updRed.ite h1.updRed

theorem adoptString {n m} (h : s.Keeps t) : s.Keeps (t.adoptString n m) :=
  (h.updTread.setN.setI.setN.setR.ite (h.updTread.setN.setI.setN.setR.ite h.updTread.setN.setI.setN)).andThen fun h1 =>
      (h1.updSpec.formRefs.ite h1.updSpec).andThen fun h2 => (h2.setN.setN.residual.updSpec.ite h2).andThen fun h3 => h3.updTread

theorem takeOver {cause} (h : s.Keeps t) : s.Keeps (t.takeOver cause) := by
  refine h.nextEpoch.roleTo.setN.setN.updRed.updSafe.withDisp.forGal (fun _ _ hu => .ite ?_ hu)
  split
  · exact hu.adoptString
  · exact hu

theorem trigger {cause} (h : s.Keeps t) : s.Keeps (t.trigger cause) := (h.takeOver.ite h.raise).ite h
theorem takeOverEnds (h : s.Keeps t) : s.Keeps t.takeOverEnds := h.roleTo.inc.setN.updRed.record

theorem handoverCheck (h : s.Keeps t) : s.Keeps t.handoverCheck := by
  unfold State.handoverCheck
  split
  · exact h.updRed.trigger.ite h
  · exact h

theorem orphanCheck (h : s.Keeps t) : s.Keeps t.orphanCheck := h.trigger.ite h

theorem roleHeader {overlap} (h : s.Keeps t) : s.Keeps (t.roleHeader overlap) := by
  unfold State.roleHeader
  split
  · exact h.roleTo.ite h
  · exact h.raise.updRed.leaveActive.ite h
  · exact (h.groupsOff.updRed.ite h).andThen fun h1 => h1.orphanCheck
  · exact h.takeOverEnds.ite h
  · exact h.leaveActive.ite h
  · exact h

theorem linkSync (h : s.Keeps t) : s.Keeps t.linkSync := h.setN.raise.ite h.setN

theorem execCorridorFrameTx (h : s.Keeps t) : s.Next (execCorridorFrameTx t) :=
  h.next.ite ((h.updRed.linkSync.handoverCheck.orphanCheck.setN.ite h.updRed.linkSync.handoverCheck.orphanCheck.setN.updRed).next)

theorem partnerSeen {m onCorridor} (h : s.Keeps t) : s.Keeps (t.partnerSeen m onCorridor) := by
  unfold State.partnerSeen
  split
  · exact h.setN.roleTo.ite (h.roleTo.ite (h.nextEpoch.roleTo.ite h))
  · exact h.roleTo.ite h
  · exact (h.handoverCheck.trigger.ite h.handoverCheck).andThen fun h1 => h1.trigger.ite h1
  · exact h

theorem mirrorTake {f onCorridor} (h : s.Keeps t) : s.Keeps (t.mirrorTake f onCorridor) := h.updRed.setN.setN.setN.partnerSeen
theorem execCorridorFrameRx {f} (h : s.Keeps t) : s.Next (execCorridorFrameRx f t) := h.next.ite h.updRed.linkSync.mirrorTake.next
theorem execCorridorDown (h : s.Keeps t) : s.Next (execCorridorDown t) := h.raise.updRed.linkSync.orphanCheck.next.ite h.next

theorem execMirrorRead {data} (h : s.Keeps t) : s.Next (execMirrorRead data t) := by
  refine .ite ?_ h.next
  split
  · exact h.updRed.updRed.linkSync.mirrorTake.next.ite h.updRed.linkSync.next
  · exact h.updRed.linkSync.next

theorem redundancyEnableEff {v} (h : s.Keeps t) : s.KeepsOk (redundancyEnableEff v t) :=
  (h.put.ok.ite h.put.updRed.setN.setN.setN.roleTo.ok).ite (h.put.roleTo.ok.ite h.put.ok)

theorem execRedundancyEnable {path on} (h : s.Keeps t) : s.Next (execRedundancyEnable path on t) :=
  (h.write (fun _ => h.redundancyEnableEff)).next

theorem execPairWait (h : s.Keeps t) : s.Next (execPairWait t) := h.nextEpoch.roleTo.next.ite h.next

theorem execTakeoverTimeout (h : s.Keeps t) : s.Next (execTakeoverTimeout t) :=
  (((((h.raise.roleTo.forGal (fun _ _ hu => hu.convOff)).groupsOff).updSafe).next).ite h.raise.takeOverEnds.next).ite h.next

theorem execYieldTimeout (h : s.Keeps t) : s.Next (execYieldTimeout t) := h.raise.roleTo.next.ite h.next
theorem reArmEff {x} (h : s.Keeps t) : s.KeepsOk (reArmEff x t) := h.updRed.ok
theorem execReArm {path} (h : s.Keeps t) : s.Next (execReArm path t) := (h.write (fun _ => h.reArmEff)).next

theorem execSwapDue (h : s.Keeps t) : s.Next (execSwapDue t) := by
  unfold Machine.execSwapDue
  split
  · exact h.raise.next.ite h.next
  · exact h.next

/-! ### Arcade -/

theorem sendPdu {type dest id payload} (h : s.Keeps t) : s.Keeps (t.sendPdu type dest id payload) := by
  unfold State.sendPdu
  split
  · exact h.updArc
  · exact h.raise

theorem dropMsg {flag} (h : s.Keeps t) : s.Keeps (t.dropMsg flag) := h.inc.raise

theorem accept101 {m} (h : s.Keeps t) : s.Keeps (t.accept101 m).1 := by
  unfold State.accept101
  split
  · exact h.dropMsg
  · exact h.updArc.ite_fst h.dropMsg

theorem electSync (h : s.Keeps t) : s.Keeps t.electSync :=
  (h.ite (h.inc.updArc.record.updDisp.ite h.inc.updArc.record)).andThen fun h1 => h1.setN.setN.ite h1.setN.setN.setN

theorem stepDue {ticks} (h : s.Keeps t) : s.Keeps (t.stepDue ticks) := h.updTime.ite h

theorem keeperSync (h : s.Keeps t) : s.Keeps t.keeperSync := by
  refine .ite h.setN.updArc ?_
  split
  · exact h.setN
  · split
    · exact (h.setN.ite (h.setN.setI.updArc.stepDue.ite h.setN.setI.updArc)).ite h.setN.setI.updArc
    · exact h.setN.setI.updArc

theorem keeperHears (h : s.Keeps t) : s.Keeps t.keeperHears := h.setI.updTime.stepDue.ite h
theorem ringSync (h : s.Keeps t) : s.Keeps t.ringSync := h.electSync.keeperSync
theorem portsStop (h : s.Keeps t) : s.Keeps t.portsStop := h.setN.setN.setN.setN.updArc
theorem bypassRelease (h : s.Keeps t) : s.Keeps t.bypassRelease := h.ite h.portsStop.ringSync

theorem arcSync {newMode} (h : s.Keeps t) : s.Keeps (t.arcSync newMode) :=
  (((h.setN.setN.setN.raise.ite h.setN.setN.setN).andThen fun h1 => h1.updArc.ringSync).ite h).ite (h.ite ((h.sendPdu.ite h).andThen
      fun h1 => (h1.updArc.ite h1).andThen fun h2 => h2.portsStop.ringSync))

theorem arcadeEnableEff {v} (h : s.Keeps t) : s.KeepsOk (arcadeEnableEff v t) := h.put.arcSync.ok
theorem execBypassInsert (h : s.Keeps t) : s.Next (execBypassInsert t) := h.setN.setN.setN.setN.next.ite h.next

theorem execBypassTestTimeout {eastOk westOk} (h : s.Keeps t) : s.Next (execBypassTestTimeout eastOk westOk t) :=
  ((h.ite h.raise).andThenNext fun h1 => (h1.ite h1.raise).andThenNext fun h2 => h2.updArc.next).ite h.next

theorem execArcadeLinkLoss {west} (h : s.Keeps t) : s.Next (execArcadeLinkLoss west t) := h.setN.raise.next.ite h.next
theorem execArcadeLinkUp {port} (h : s.Keeps t) : s.Next (execArcadeLinkUp port t) := ((h.setN.updTime.ite h.setN).next).ite h.next

theorem portRetrain {west} (h : s.Keeps t) : s.Keeps (t.portRetrain west) := by
  unfold State.portRetrain
  split
  · exact h.updArc
  · exact h.setN
  · exact h

theorem ringState {r} (h : s.Keeps t) : s.Keeps (t.ringState r) := (h.raise.ite h).andThen fun h1 => h1.setN

theorem supervised {west mac} (h : s.Keeps t) : s.Keeps (t.supervised west mac) := by
  unfold State.supervised
  dsimp only
  split
  · exact h.updArc
  · exact h.updArc.ringSync.ite h.raise

theorem nodeHeard {west mac} (h : s.Keeps t) : s.Keeps (t.nodeHeard west mac) := h.updArc

theorem execHsrFrameRx {west f} (h : s.Keeps t) : s.Next (execHsrFrameRx west f t) :=
  h.next.ite (h.inc.next.ite ((((h.updArc.updArc.ringState.ite h.updArc.updArc).next).ite h.updArc.next).ite
      ((h.nodeHeard.updArc.inc.next.ite ((h.nodeHeard.updArc.updArc.inc.ite h.nodeHeard.updArc.updArc).andThenNext fun h1 =>
      (h1.supervised.ite h1).next)).ite h.nodeHeard.updArc.next)))

theorem execHsrSupervisionTx (h : s.Keeps t) : s.Next (execHsrSupervisionTx t) :=
  (((h.ringState.ite (h.ite h.ringState)).ite h).andThenNext fun h1 => h1.updArc.next).ite h.next

theorem execNodeForget {mac} (h : s.Keeps t) : s.Next (execNodeForget mac t) := h.updArc.updArc.ringSync.next.ite h.updArc.next
theorem execBeaconTx (h : s.Keeps t) : s.Next (execBeaconTx t) := h.updArc.sendPdu.updArc.next.ite h.next

theorem beaconMember {b} (h : s.Keeps t) : s.Keeps (t.beaconMember b) :=
  h.updArc.updArc.raise.ite (h.updArc.updArc.ite (h.updArc.updArc.updArc.ite h.updArc.updArc.raise))

theorem execBeaconRx {b} (h : s.Keeps t) : s.Next (execBeaconRx b t) := by
  refine .ite h.next (.ite ((h.ite h.raise).next) ?_)
  split
  · exact h.dropMsg.next
  · exact h.dropMsg.next.ite (h.inc.updArc.next.ite (h.updArc.beaconMember.ringSync.keeperHears.next.ite h.dropMsg.next))

theorem execMemberTimeout {serial} (h : s.Keeps t) : s.Next (execMemberTimeout serial t) := h.updArc.ringSync.next.ite h.next
theorem execJoinDelay {serial} (h : s.Keeps t) : s.Next (execJoinDelay serial t) := h.ringSync.next.ite h.next
theorem request {dest index sub d} (h : s.Keeps t) : s.Keeps (t.request dest index sub d) := h.ite h.sendPdu.updArc

theorem swapEff {x} (h : s.Keeps t) : s.KeepsOk (swapEff x t) := by
  unfold Machine.swapEff
  split
  · exact h.roleTo.updRed.ok.ite .error
  · exact h.updRed.request.ok.ite .error
  · exact .error

theorem execSwap {path} (h : s.Keeps t) : s.Next (execSwap path t) := (h.write (fun _ => h.swapEff)).next

theorem execArcadeResponse {msg} (h : s.Keeps t) : s.Next (execArcadeResponse msg t) := by
  refine .ite h.next (.ite h.accept101.next ?_)
  split
  · exact h.accept101.next
  · exact (h.accept101.updArc.updRed.ite h.accept101.updArc).andThenNext fun h1 => h1.updArc.next

theorem execArcadeReqTimeout {reqId} (h : s.Keeps t) : s.Next (execArcadeReqTimeout reqId t) :=
  ((h.inc.raise.updRed.ite h.inc.raise).andThenNext fun h1 => h1.updArc.next).ite h.next

/-! ### Chan -/

theorem updHart {n f} (h : s.Keeps t) : s.Keeps (t.updHart n f) := h.updChan
theorem chState {n w} (h : s.Keeps t) : s.Keeps (t.chState n w) := h.setN.setN.setR.setR.ite h.setN.setN
theorem chBit {n i b} (h : s.Keeps t) : s.Keeps (t.chBit n i b) := h.chState
theorem chApplyEff {n x} (h : s.Keeps t) : s.Keeps (chApplyEff n x t).2 := h.setN.updChan.ite_snd h.setN
theorem execChCharApply {path n} (h : s.Keeps t) : s.Next (execChCharApply path n t) := (h.writeX (fun _ => h.chApplyEff)).next
theorem hartSend {n what} (h : s.Keeps t) : s.Keeps (t.hartSend n what) := (h.setN.ite h).andThen fun h1 => h1.updHart
theorem hartAbort {n} (h : s.Keeps t) : s.Keeps (t.hartAbort n) := (h.setN.ite h).andThen fun h1 => h1.updHart
theorem hartStart {n} (h : s.Keeps t) : s.Keeps (t.hartStart n) := h.hartAbort.chBit.setN.hartSend.ite h.hartAbort.chBit.setN
theorem hartNext {n} (h : s.Keeps t) : s.Keeps (t.hartNext n) := h.updHart.hartSend.ite h.updHart
theorem hartResume {n} (h : s.Keeps t) : s.Keeps (t.hartResume n) := h.hartStart.ite h.hartNext
theorem hartVars {n d} (h : s.Keeps t) : s.Keeps (t.hartVars n d) := h.setR.setR.setR.setR.setR.setN.updHart
theorem execHartPoll {n} (h : s.Keeps t) : s.Next (execHartPoll n t) := h.hartSend.next.ite h.next

theorem execHartResponseRx {n f} (h : s.Keeps t) : s.Next (execHartResponseRx n f t) := by
  refine .ite h.next (Keeps.next (Keeps.hartNext ?_))
  split
  · exact h.inc.setN.setN.setN.chBit.updHart
  · exact h.inc.setN.hartVars
  · exact h.inc.setN.setN.updHart

theorem execHartBurstFrame {n f} (h : s.Keeps t) : s.Next (execHartBurstFrame n f t) := h.hartVars.next.ite h.next

theorem execHartResponseTimeout {n} (h : s.Keeps t) : s.Next (execHartResponseTimeout n t) :=
  h.next.ite (h.updHart.next.ite (h.inc.setN.updHart.hartNext.next.ite ((h.inc.setN.chBit.setN.ite h.inc.setN.chBit).andThenNext fun h1 =>
      h1.updHart.next)))

theorem execHartIdentifyRetry {n} (h : s.Keeps t) : s.Next (execHartIdentifyRetry n t) := h.setN.hartSend.next.ite h.next

theorem hartRequestEff {n v} (h : s.Keeps t) : s.KeepsOk (hartRequestEff n v t) :=
  .ite .error ((h.setN.updHart.hartSend.ite h.setN.updHart).ok)

theorem execHartXferRequest {path n data} (h : s.Keeps t) : s.Next (execHartXferRequest path n data t) :=
  (h.write (fun _ => h.hartRequestEff)).next

theorem hartEnableEff {n v} (h : s.Keeps t) : s.KeepsOk (hartEnableEff n v t) := h.put.hartStart.ok
theorem chPublish {n x w} (h : s.Keeps t) : s.Keeps (t.chPublish n x w) := h.setR.setR.chState.ite h.setR.setR.chState.updChan
theorem chHeld {n} (h : s.Keeps t) : s.Keeps (t.chHeld n) := h.inc.inc.setR.setR.chState
theorem chAuto {n c} (h : s.Keeps t) : s.Keeps (t.chAuto n c) := h.updChan.chHeld.setN.ite h.chPublish.updChan.setN
theorem outDrive {n x} (h : s.Keeps t) : s.Keeps (t.outDrive n x) := h.updChan.setR
theorem outFail {n} (h : s.Keeps t) : s.Keeps (t.outFail n) := h.chBit.outDrive
theorem execOverloadTrip {n} (h : s.Keeps t) : s.Next (execOverloadTrip n t) := (h.updChan.setN.next.ite h.updChan.next).ite h.next
theorem outValueEff {n v} (h : s.Keeps t) : s.KeepsOk (outValueEff n v t) := h.put.updChan.ok
theorem execOutValue {path n data} (h : s.Keeps t) : s.Next (execOutValue path n data t) := (h.write (fun _ => h.outValueEff)).next
theorem execOutTimeout {n} (h : s.Keeps t) : s.Next (execOutTimeout n t) := h.outFail.next.ite h.next

theorem execReadbackCompare {n readback limit} (h : s.Keeps t) : s.Next (execReadbackCompare n readback limit t) := by
  refine .ite h.next ?_
  dsimp only
  split
  · exact ((h.updChan.setR.ite h.updChan.setR.chBit).updChan).next
  · exact h.updChan.setR.chBit.next.ite ((h.updChan.setR.chBit.updChan.chBit.setR.updChan.next.ite h.updChan.setR.chBit.updChan.next).ite
        h.updChan.setR.chBit.updChan.next)

theorem execRailUpdate {n hiVolts} (h : s.Keeps t) : s.Next (execRailUpdate n hiVolts t) :=
  h.next.ite (h.updChan.take.setR.next.ite h.updChan.setR.next)

theorem execDriverThermal {n temp} (h : s.Keeps t) : s.Next (execDriverThermal n temp t) :=
  h.next.ite (((h.setR.chBit.updChan.setR.ite h.setR.chBit).next).ite (h.setR.chBit.updChan.next.ite h.setR.next))

theorem chanVloop {ok} (h : s.Keeps t) : s.Keeps (t.chanVloop ok) :=
  (h.withVloopAt.ite h).andThen fun h1 => h1.foldl (fun _ _ hu => (hu.chBit.ite hu.chBit.updChan.setR).ite hu)

theorem execOutputResume {n} (h : s.Keeps t) : s.Next (execOutputResume n t) := h.updChan.setR.next.ite h.next

theorem chBurden {n} (h : s.Keeps t) : s.Keeps (t.chBurden n) :=
  h.hartAbort.chState.setR.setR.setR.updChan.foldl (fun _ _ hu => hu.chBit.ite hu)

theorem chClear {n} (h : s.Keeps t) : s.Keeps (t.chClear n) := h.updChan.chState.chBit.setN.setR.hartStart
theorem chCommandEff {n v} (h : s.Keeps t) : s.KeepsOk (chCommandEff n v t) := h.chBurden.setN.updChan.ok
theorem execChReinitialise {path n} (h : s.Keeps t) : s.Next (execChReinitialise path n t) := (h.write (fun _ => h.chCommandEff)).next
theorem execChTest {path n} (h : s.Keeps t) : s.Next (execChTest path n t) := (h.write (fun _ => h.chCommandEff)).next

theorem execChCommandDone {n r} (h : s.Keeps t) : s.Next (execChCommandDone n r t) := by
  unfold Machine.execChCommandDone
  split
  · exact h.next
  · exact (h.setN.chBit.ite h.setN.chBit.setN).andThenNext fun h1 => h1.updChan.hartResume.next.ite ((h1.updChan.chClear.ite
        h1.updChan).next)

theorem chFunctionEff {n k v} (h : s.Keeps t) : s.KeepsOk (chFunctionEff n k v t) :=
  (h.chBurden.put.updChan.chClear.ite h.chBurden.put.updChan).ok

theorem execFunction {path n code} (h : s.Keeps t) : s.Next (execFunction path n code t) := (h.write (fun _ => h.chFunctionEff)).next
theorem chanBoot (h : s.Keeps t) : s.Keeps t.chanBoot := h.foldl (fun _ _ hu => hu.updChan.chState)
theorem chRetry {n} (h : s.Keeps t) : s.Keeps (t.chRetry n) := h.hartStart.ite h

/-! ### Recorder -/

theorem execRecordEntry {code cls inst sev data} (h : s.Keeps t) : s.Next (execRecordEntry code cls inst sev data t) := h.record.next

theorem execDrain (h : s.Keeps t) : s.Next (execDrain t) := by
  refine .ite ?_ h.next
  split
  · refine .ite h.take.updRec.next ?_
    split
    · exact h.take.journalAdd.updRec.raise.next
    · exact h.take.next
  · exact h.updRec.next

theorem permPage {recs} (h : s.Keeps t) : s.Keeps (t.permPage recs) := by
  refine .ite (Keeps.setN ?_) ?_
  · split
    · exact h.updRec.setN.setN.setN.setN
    · exact h.updRec.setN.setN.setN
  · split
    · exact h.updRec.setN.setN.setN.setN
    · exact h.updRec.setN.setN.setN

theorem windowSync (h : s.Keeps t) : s.Keeps t.windowSync := h.setN.setN

theorem execPageProgramDone {ok} (h : s.Keeps t) : s.Next (execPageProgramDone ok t) := by
  unfold Machine.execPageProgramDone
  split
  · exact h.next
  · refine .ite (Keeps.next (Keeps.dropNotice (Keeps.levelSync (Keeps.windowSync ?_)))) (h.raise.take.updRec.updRec.next.ite
        h.raise.take.updRec.permPage.updRec.next)
    split
    · exact (h.updRec.updRec.ite h.updRec.permPage).setN
    · exact h.updRec.updRec.ite h.updRec.permPage

theorem recFlushEff {x} (h : s.Keeps t) : s.KeepsOk (recFlushEff x t) := h.startFlush.ok
theorem execRecorderFlush {path} (h : s.Keeps t) : s.Next (execRecorderFlush path t) := (h.write (fun _ => h.recFlushEff)).next

theorem execBufferClose (h : s.Keeps t) : s.Next (execBufferClose t) := by
  unfold Machine.execBufferClose
  split
  · exact h.updRec.next.ite h.next
  · exact h.next

theorem retireBlock {b why} (h : s.Keeps t) : s.Keeps (t.retireBlock b why) := by
  unfold State.retireBlock
  dsimp only
  split
  · exact h.blockRetired.updRec
  · exact h.blockRetired.setN.setN.raise.updRec.raise.windowSync.record.ite h.blockRetired.setN.setN.raise.record

theorem execBlockErase (h : s.Keeps t) : s.Next (execBlockErase t) := by
  unfold Machine.execBlockErase
  split
  · exact (h.updRec.windowSync.retireBlock.next.ite h.updRec.journalAdd.windowSync.next).ite h.next
  · exact h.next

theorem erasedOk {region b} (h : s.Keeps t) : s.Keeps (t.erasedOk region b) := h.journalAdd.updRec.inc.setN

theorem execEraseDone {ok} (h : s.Keeps t) : s.Next (execEraseDone ok t) := by
  unfold Machine.execEraseDone
  split
  · exact h.updRec.erasedOk.updRec.next.ite h.updRec.raise.retireBlock.next
  · exact h.updRec.erasedOk.updNand.next.ite h.updRec.raise.archRetire.next
  · exact h.next

theorem execRecorderRebuild (h : s.Keeps t) : s.Next (execRecorderRebuild t) :=
  h.next.ite ((h.foldl (fun _ _ hu => hu.journalAdd.erasedOk.updRec.ite hu.journalAdd.erasedOk.updNand)).andThenNext fun h1 => (h1.ite
      h1.raise).andThenNext fun h2 => (h2.raise.ite h2).andThenNext fun h3 => h3.setN.setN.updRec.windowSync.next)

theorem snapCountEff {path v} (h : s.Keeps t) : s.KeepsOk (snapCountEff path v t) :=
  h.setN.updRec.setN.ok.ite h.setN.updRec.setN.setN.setN.updRec.ok

theorem execSnapCount {path count} (h : s.Keeps t) : s.Next (execSnapCount path count t) := (h.write (fun _ => h.snapCountEff)).next
theorem recReadBegin {p} (h : s.Keeps t) : s.Keeps (t.recReadBegin p) := h.updRec

theorem recReadDone {p} (h : s.Keeps t) : s.Keeps (t.recReadDone p) := by
  unfold State.recReadDone
  split
  · exact h
  · exact (h.updRec.ite h.updRec.setN).andThen fun h1 => h1.setN.ite h1

theorem recReadOf {path} (h : s.Keeps t) : s.KeepsRead (recReadOf path t) := .ite .error h.recReadBegin.okRead
theorem readEnd {p index sub} (h : s.Keeps t) : s.Keeps (t.readEnd p index sub) := h.recReadDone.ite h

theorem execRecorderRead {path} (h : s.Keeps t) : s.Next (execRecorderRead path t) := by
  refine Keeps.next ?_
  split
  · exact (h.readWith h.recReadOf).readEnd
  · exact h.readWith h.recReadOf

theorem execSnapshotExpiry {path} (h : s.Keeps t) : s.Next (execSnapshotExpiry path t) := by
  unfold Machine.execSnapshotExpiry
  split
  · exact h.next
  · exact h.setN.raise.updRec.next.ite h.next

/-! ### Twa -/

theorem twaNext (h : s.Keeps t) : s.Keeps t.twaNext := by
  refine .ite h ?_
  split
  · exact h
  · exact (h.raise.ite h).andThen fun h1 => h1.updTwa (fun _ => modAt_length ..)

theorem twaDue {i once} (h : s.Keeps t) : s.Keeps (t.twaDue i once) :=
  (h.updTwa.ite h).andThen fun h1 => h1.updTwa (fun _ => modAt_length ..)

theorem execTwaSlotDue {i} (h : s.Keeps t) : s.Next (execTwaSlotDue i t) :=
  (h.twaDue.updTwa (hl := fun _ => modAt_length ..)).twaNext.next.ite h.next

theorem twaTriggerEff {v} (h : s.Keeps t) : s.KeepsOk (twaTriggerEff v t) := ((h.foldl (fun _ _ hu => hu.twaDue.ite hu)).twaNext).ok
theorem execTwaTrigger {path mask} (h : s.Keeps t) : s.Next (execTwaTrigger path mask t) := (h.write (fun _ => h.twaTriggerEff)).next
theorem twaFail {i} (h : s.Keeps t) : s.Keeps (t.twaFail i) := h.setFlag.inc

theorem execTwaSlotDone {i r} (h : s.Keeps t) : s.Next (execTwaSlotDone i r t) := by
  unfold Machine.execTwaSlotDone
  split
  · exact h.next
  · refine .ite h.next (Keeps.next (Keeps.twaNext ?_))
    split
    · exact (h.updTwa.setN.ite h.updTwa).andThen fun h1 => h1.raise.inc.updTwa (ho := fun _ => modAt_length ..)
    · exact h.updTwa.raise.updTwa
    · exact h.updTwa.raise.twaFail
    · exact h.updTwa.twaFail

theorem execTwaArbRetry {i} (h : s.Keeps t) : s.Next (execTwaArbRetry i t) := by
  unfold Machine.execTwaArbRetry
  split
  · exact h.updTwa.twaDue.twaNext.next.ite h.next
  · exact h.next

theorem twaCut (h : s.Keeps t) : s.Keeps t.twaCut := by
  unfold State.twaCut
  split
  · exact h.updTwa.twaFail
  · exact h

theorem execClkLowTimeout {twb} (h : s.Keeps t) : s.Next (execClkLowTimeout twb t) :=
  (h.raise.next.ite h.next).ite (h.raise.twaCut.twaNext.next.ite h.next)

theorem execDataLowTimeout {twb freed} (h : s.Keeps t) : s.Next (execDataLowTimeout twb freed t) :=
  (h.raise.next.ite h.next).ite (((h.raise.twaCut.twaNext.ite h.raise.twaCut).next).ite h.next)

theorem alertTry {r} (h : s.Keeps t) : s.Keeps (t.alertTry r) := by
  unfold State.alertTry
  split
  · exact h.updTwb.inc.updTwb
  · exact (h.updTwb.raise.ite h.updTwb).andThen fun h1 => h1.raise.updTwb.ite h1.updTwb
  · exact (h.updTwb.raise.ite h.updTwb).andThen fun h1 => h1.raise.updTwb.ite h1.updTwb

theorem execTwbAlert {r} (h : s.Keeps t) : s.Next (execTwbAlert r t) := h.alertTry.next.ite h.next

theorem execAlertRetry {r} (h : s.Keeps t) : s.Next (execAlertRetry r t) := by
  unfold Machine.execAlertRetry
  split
  · exact h.alertTry.next.ite h.next
  · exact h.next

theorem twaRetry (h : s.Keeps t) : s.Keeps t.twaRetry := h.twaNext

theorem twaRestart (h : s.Keeps t) : s.Keeps t.twaRestart := by
  have hfresh : ∀ u : State, s.Keeps u → s.Keeps { u with twa := { lastDue := List.replicate 16 u.root } } := by
    intro u hu
    refine hu.step rfl fun hi => ?_
    obtain ⟨hc, h1, h2, h3, h4, h5, h6, _, _, _, h10⟩ := hi
    exact ⟨hc, h1, h2, h3, h4, h5, h6, rfl, List.length_replicate, rfl, h10⟩
  exact hfresh _ (h.setN.foldl fun _ _ hu => hu.setN)

theorem twbRetry (h : s.Keeps t) : s.Keeps t.twbRetry := h.updTwb
theorem twbRestart (h : s.Keeps t) : s.Keeps t.twbRestart := h.step rfl fun hi => ⟨⟨hi.1.1, hi.1.2.1, rfl⟩, hi.2⟩

/-! ### Time -/

theorem toAcquiring (h : s.Keeps t) : s.Keeps t.toAcquiring := h.setN.updTime
theorem sourceCheck (h : s.Keeps t) : s.Keeps t.sourceCheck := h.ite (h.setN.toAcquiring.electSync.ite h.setN)

theorem actOn {e} (h : s.Keeps t) : s.Keeps (t.actOn e) :=
  h.updTime.ite ((h.updTime.ite h.setI.raise.updTime).ite ((h.updTime.updTime.stepDue.ite h.updTime).ite (h.updTime.updTime.raise.ite
      h.updTime)))

theorem lockStep {o e} (h : s.Keeps t) : s.Keeps (t.lockStep o e) := by
  unfold State.lockStep
  split
  · exact (h.updTime.setN.updTime.ite h.updTime).ite h.updTime
  · exact h.updTime.toAcquiring.raise.ite h.updTime
  · exact h

theorem trimStep {r} (h : s.Keeps t) : s.Keeps (t.trimStep r) := h.take.take.setR.raise.ite h.take.take.setR
theorem timeUse {x p} (h : s.Keeps t) : s.Keeps (t.timeUse x p) := h.updTime.setR.sourceCheck.actOn.lockStep.trimStep.ringSync
theorem portStates {passive} (h : s.Keeps t) : s.Keeps (t.portStates passive) := h.setN.setN
theorem toMaster (h : s.Keeps t) : s.Keeps t.toMaster := h.updTime.setN.setN.portStates
theorem toListening (h : s.Keeps t) : s.Keeps t.toListening := h.updTime.setN.setN.portStates

theorem toSlave {a passive} (h : s.Keeps t) : s.Keeps (t.toSlave a passive) :=
  (h.setN.setN.updTime.setN.updTime.ite h.setN.setN.updTime).andThen fun h1 => h1.portStates

theorem bmca {timedOut} (h : s.Keeps t) : s.Keeps (t.bmca timedOut) := by
  unfold State.bmca
  split
  · exact h.toMaster.ite (h.toListening.ite h.portStates)
  · exact h.toMaster.ite (h.toSlave.ite h.toSlave)

theorem execPtpAnnounceRx {west m} (h : s.Keeps t) : s.Next (execPtpAnnounceRx west m t) :=
  h.next.ite h.updTime.bmca.sourceCheck.ringSync.next

theorem execPtpAnnounceTimeout (h : s.Keeps t) : s.Next (execPtpAnnounceTimeout t) := h.updTime.bmca.ringSync.next.ite h.next

theorem syncUse {west time corr stamp} (h : s.Keeps t) : s.Keeps (t.syncUse west time corr stamp) := by
  unfold State.syncUse
  split
  · exact h
  · exact h.ite h.inc.timeUse

theorem execPtpSyncRx {west m} (h : s.Keeps t) : s.Next (execPtpSyncRx west m t) :=
  h.next.ite (h.inc.next.ite ((h.updTime.ite h.updTime.setN.portStates).andThenNext fun h1 => ((h1.updTime.ite
      h1.updTime.syncUse).next).ite h1.next))

theorem execPtpFollowUpRx {west m} (h : s.Keeps t) : s.Next (execPtpFollowUpRx west m t) := by
  refine .ite h.next ?_
  split
  · exact h.updTime.syncUse.next.ite h.next
  · exact h.next

theorem exchanged {west d} (h : s.Keeps t) : s.Keeps (t.exchanged west d) := h.setR.updTime.sourceCheck
theorem execPdelayReqTx {west} (h : s.Keeps t) : s.Next (execPdelayReqTx west t) := h.updTime.next.ite h.next
theorem execPdelayReqRx {west m} (h : s.Keeps t) : s.Next (execPdelayReqRx west m t) := h.next.ite (h.inc.next.ite h.updTime.next)

theorem execPdelayRespRx {west m} (h : s.Keeps t) : s.Next (execPdelayRespRx west m t) := by
  refine .ite h.next ?_
  split
  · exact h.next.ite (h.inc.updTime.next.ite (h.updTime.next.ite h.exchanged.next))
  · exact h.next

theorem execPdelayRespFollowUpRx {west m} (h : s.Keeps t) : s.Next (execPdelayRespFollowUpRx west m t) := by
  refine .ite h.next ?_
  split
  · exact h.exchanged.next.ite h.next
  · exact h.next

theorem execPtpSyncTx (h : s.Keeps t) : s.Next (execPtpSyncTx t) := h.updTime.next.ite h.next
theorem execPtpAnnounceTx (h : s.Keeps t) : s.Next (execPtpAnnounceTx t) := h.setN.updTime.next.ite h.next

theorem execPtpEventForward {west m residence} (h : s.Keeps t) : s.Next (execPtpEventForward west m residence t) :=
  h.take.updTime.next.ite h.next

theorem ppsBreak (h : s.Keeps t) : s.Keeps t.ppsBreak := h.updTime

theorem execPpsIn {tick widthNs} (h : s.Keeps t) : s.Next (execPpsIn tick widthNs t) := by
  refine .ite h.next ?_
  dsimp only
  split
  · exact (((h.setR.updTime.ppsBreak.ite (h.setR.updTime.updTime.ite h.setR.updTime.updTime.ppsBreak.raise)).timeUse).ite
        (h.setR.updTime.ppsBreak.ite (h.setR.updTime.updTime.ite h.setR.updTime.updTime.ppsBreak.raise))).next
  · exact (h.setR.updTime.ppsBreak.ite (h.setR.updTime.updTime.ite h.setR.updTime.updTime.ppsBreak.raise)).next

theorem execPpsMissing (h : s.Keeps t) : s.Next (execPpsMissing t) := by
  unfold Machine.execPpsMissing
  split
  · exact h.ppsBreak.updTime.raise.next.ite h.next
  · exact h.next

theorem execTodIn {sentence} (h : s.Keeps t) : s.Next (execTodIn sentence t) := by
  unfold Machine.execTodIn
  split
  · refine .ite ?_ h.next
    split
    · exact h.updTime.updTime.sourceCheck.next.ite h.updTime.updTime.raise.next
    · exact h.updTime.updTime.next
  · exact h.next

theorem execPpsOut (h : s.Keeps t) : s.Next (execPpsOut t) := h.updTime.next.ite h.next

theorem ppsCfgEff {k v} (h : s.Keeps t) : s.KeepsOk (ppsCfgEff k v t) :=
  .ite .error (h.put.ppsBreak.updTime.ok.ite (((h.put.toListening.ringSync.ite h.put.bmca.sourceCheck.ringSync).ok).ite h.put.ok))

theorem ptpCfgEff {k v} (h : s.Keeps t) : s.KeepsOk (ptpCfgEff k v t) := h.put.updTime.toListening.ringSync.ok

theorem execSourceLoss (h : s.Keeps t) : s.Next (execSourceLoss t) := by
  unfold Machine.execSourceLoss
  dsimp only
  split
  · exact h.setN.setN.ringSync.next
  · exact h.setN.setN.raise.updTime.ringSync.next
  · exact h.next

theorem execHoldoverExpiry (h : s.Keeps t) : s.Next (execHoldoverExpiry t) := h.setN.ringSync.next.ite h.next

theorem execTimeStep (h : s.Keeps t) : s.Next (execTimeStep t) :=
  h.next.ite ((h.withNow.updTime.inc.raise.setI.record.toAcquiring.raise.ite h.withNow.updTime.inc.raise.setI.record).andThenNext fun h1 =>
      (h1.forGal (fun _ _ hu => hu.updG)).next)

/-! ### Plant -/

theorem hostExpire (h : s.Keeps t) : s.Keeps t.hostExpire := h.raise.updDisp.ite h
theorem leaderExpire (h : s.Keeps t) : s.Keeps t.leaderExpire := h.raise.updDisp.ite h
theorem fallbackExpire (h : s.Keeps t) : s.Keeps t.fallbackExpire := h.updDisp.ite h

theorem sourceStep (h : s.Keeps t) : s.Keeps (t.sourceStep).1 :=
  (h.hostExpire.leaderExpire.setN.raise.record.ite h.hostExpire.leaderExpire.setN).andThen fun h1 => (h1.updDisp.ite h1).andThen fun h2 =>
      (h2.fallbackExpire.raise.ite h2.fallbackExpire).andThen fun h3 => (h3.forGal (fun _ _ hu => hu.setN)).andThen fun h4 => h4

theorem zeroSet {n} (h : s.Keeps t) : s.Keeps (t.zeroSet n) := h.setN.updDisp

theorem shareSet {n sg share} (h : s.Keeps t) : s.Keeps (t.shareSet n sg share) :=
  h.zeroSet.ite (h.updDisp.setN.setR.ite h.updDisp.setN.setR)

theorem scaleSet {n f} (h : s.Keeps t) : s.Keeps (t.scaleSet n f) := by
  unfold State.scaleSet
  dsimp only
  split
  · exact h.updDisp.setR
  · exact h.updDisp.setR
  · exact h.updDisp

theorem zeroAll (h : s.Keeps t) : s.Keeps t.zeroAll := h.forGal (fun _ _ hu => hu.zeroSet)

theorem stringAlloc {target} (h : s.Keeps t) : s.Keeps (t.stringAlloc target).1 :=
  (h.forGal (fun _ _ hu => hu.ite hu.zeroSet)).andThen fun h1 => ((h1.foldl (fun _ _ hu => hu.scaleSet)).andThen fun h2 => h2.foldl (fun _
      _ hu => hu.zeroSet)).ite_fst ((h1.foldl (fun _ _ hu => hu.shareSet)).andThen fun h2 => h2)

theorem dispReport (h : s.Keeps t) : s.Keeps t.dispReport := by
  refine .ite h.setR.setR.setR.setR.setR.setN.setR ?_
  split
  · exact h.setR.setR.setR.setR.setR.setN.setR
  · exact h.setR.setR.setR.setR.setR.setN.take.setR

theorem shortfall {x} (h : s.Keeps t) : s.Keeps (t.shortfall x) :=
  h.setR.updDisp.ite (h.setR.updDisp.raise.record.updDisp.ite h.setR.updDisp)

theorem followSync (h : s.Keeps t) : s.Keeps t.followSync := h.updArc
theorem followRead (h : s.Keeps t) : s.Keeps t.followRead := h.updArc.foldl (fun _ _ hu => hu.foldl (fun _ _ hu => hu.request))

theorem leadAlloc {target} (h : s.Keeps t) : s.Keeps (t.leadAlloc target).1 :=
  (h.setN.foldl (fun _ _ hu => hu.request)).andThen fun h1 => h1

theorem rampStep {goal} (h : s.Keeps t) : s.Keeps (t.rampStep goal).1 := (h.setR.ite h.setR.updDisp).andThen fun h1 => h1
theorem allocOwn {goal} (h : s.Keeps t) : s.Keeps (t.allocOwn goal) := (h.setR.ite h).andThen fun h1 => h1.rampStep.stringAlloc.shortfall

theorem allocLead {goal} (h : s.Keeps t) : s.Keeps (t.allocLead goal) := by
  unfold State.allocLead
  extract_lets _ _ w
  have hw : s.Keeps w := h.followSync.setR.updDisp.ite h.followSync
  refine .ite h.followSync.updDisp.followRead ?_
  split
  next hr =>
    split
    next hl =>
      extract_lets x
      split
      next ha => exact (((hw.rampStep.of_fst hr).leadAlloc.of_fst hl).followRead.stringAlloc.of_fst ha).shortfall

theorem dispOff (h : s.Keeps t) : s.Keeps t.dispOff :=
  (h.zeroAll.forGal (fun _ _ hu => hu.setN)).andThen fun h1 => h1.setN.setR.setR.updDisp

theorem dispatchEnableEff {v} (h : s.Keeps t) : s.KeepsOk (dispatchEnableEff v t) := (h.put.dispOff.ite h.put).ok

theorem execDispatchAllocation (h : s.Keeps t) : s.Next (execDispatchAllocation t) :=
  h.next.ite (h.updDisp.updArc.setR.setR.setN.next.ite ((h.updDisp.updArc.dispReport.dispOff.ite
      (h.updDisp.updArc.dispReport.sourceStep.allocLead.ite h.updDisp.updArc.dispReport.sourceStep.allocOwn)).andThenNext fun h1 =>
      h1.updDisp.next))

theorem pDemandEff {v} (h : s.Keeps t) : s.KeepsOk (pDemandEff v t) := h.put.updDisp.ok
theorem execPDemand {path data} (h : s.Keeps t) : s.Next (execPDemand path data t) := (h.write (fun _ => h.pDemandEff)).next

theorem leaderTargetEff {path v} (h : s.Keeps t) : s.KeepsOk (leaderTargetEff path v t) := by
  unfold Machine.leaderTargetEff
  split
  · exact h.put.updDisp.ok.ite .error
  · exact .error

theorem execLeaderTarget {path data} (h : s.Keeps t) : s.Next (execLeaderTarget path data t) :=
  (h.write (fun _ => h.leaderTargetEff)).next

theorem execHostTimeout (h : s.Keeps t) : s.Next (execHostTimeout t) := h.hostExpire.next
theorem execLeaderLost (h : s.Keeps t) : s.Next (execLeaderLost t) := h.leaderExpire.next
theorem execFallbackHold (h : s.Keeps t) : s.Next (execFallbackHold t) := h.fallbackExpire.next

/-! ### Can -/

theorem fifoSync {p} (h : s.Keeps t) : s.Keeps (t.fifoSync p) := h.setN
theorem fifoRefill {p} (h : s.Keeps t) : s.Keeps (t.fifoRefill p) := h.updCan.fifoSync

theorem enqueue {p e} (h : s.Keeps t) : s.Keeps (t.enqueue p e) := by
  refine .ite h (.ite h.updCan.fifoSync ?_)
  split
  · exact h.updCan
  · exact h.updCan
  · exact h.inc.raise
  · exact h.inc.raise

theorem cancel {p drop} (h : s.Keeps t) : s.Keeps (t.cancel p drop) := h.updCan.addTo.fifoRefill

theorem txDone {port ok air} (h : s.Keeps t) : s.Keeps (t.txDone port ok air) := by
  unfold State.txDone
  dsimp only
  split
  · exact h
  · exact h.ite (((h.inc.setN.ite h.inc).andThen fun h1 => h1.updCan.fifoRefill).ite h.updCan)

theorem canFlushEff {port begun late} (h : s.Keeps t) : s.Keeps (canFlushEff port begun late t) := by
  unfold Machine.canFlushEff
  split
  · exact h
  · exact (h.updCan.ite h).andThen fun h1 => (h1.raise.ite h1).andThen fun h2 => h2.cancel

theorem execCanFlush {path port begun late} (h : s.Keeps t) : s.Next (execCanFlush path port begun late t) :=
  (h.write (fun _ => h.canFlushEff.ok)).next

theorem fifoDrain {p} (h : s.Keeps t) : s.Keeps (t.fifoDrain p) := h.addTo.updCan.fifoSync

theorem execFifoDrainDeadline (h : s.Keeps t) : s.Next (execFifoDrainDeadline t) := by
  unfold Machine.execFifoDrainDeadline
  split
  · exact h.fifoDrain.fifoDrain.next.ite h.next
  · exact h.fifoDrain.fifoDrain.next.ite h.next
  · exact h.next

theorem emcy {code} (h : s.Keeps t) : s.Keeps (t.emcy code) :=
  (h.withFree.foldl (fun _ _ hu => hu.setN)).andThen fun h1 => h1.setN.setN.foldl (fun _ _ hu => hu.ite hu.enqueue)

theorem execCanErrorPassive {port tec y} (h : s.Keeps t) : s.Next (execCanErrorPassive port tec y t) :=
  h.next.ite ((h.setN.setN.next.ite h.setN.setN.setN.raise.emcy.next).ite h.setN.setN.setN.next)

theorem execCanBusOff {port} (h : s.Keeps t) : s.Next (execCanBusOff port t) :=
  h.next.ite h.take.setN.setN.inc.raise.alertBit.updCan.next

theorem execBusoffDelay {port} (h : s.Keeps t) : s.Next (execBusoffDelay port t) := h.updCan.next.ite h.next
theorem backOnBus {p} (h : s.Keeps t) : s.Keeps (t.backOnBus p) := h.setN.setN.setN.updCan.emcy
theorem execCanBusOffRecovered {port} (h : s.Keeps t) : s.Next (execCanBusOffRecovered port t) := h.backOnBus.next.ite h.next
theorem bootUp {p} (h : s.Keeps t) : s.Keeps (t.bootUp p) := h.updCan.enqueue
theorem portFresh {p} (h : s.Keeps t) : s.Keeps (t.portFresh p) := h.cancel.updCan.setN.setN.setN.fifoSync
theorem portRestart {p} (h : s.Keeps t) : s.Keeps (t.portRestart p) := h.portFresh.bootUp
theorem portRetry {p} (h : s.Keeps t) : s.Keeps (t.portRetry p) := h.backOnBus.ite h.setN.setN.setN
theorem canStart (h : s.Keeps t) : s.Keeps t.canStart := h.portRestart.portRestart.withBeatAt
theorem canEnableEff {p v} (h : s.Keeps t) : s.KeepsOk (canEnableEff p v t) := h.put.setN.ok
theorem nmtTo {p st} (h : s.Keeps t) : s.Keeps (t.nmtTo p st) := h.updCan
theorem execNmtStart {port node} (h : s.Keeps t) : s.Next (execNmtStart port node t) := (h.nmtTo.ite h).next
theorem execNmtStop {port node} (h : s.Keeps t) : s.Next (execNmtStop port node t) := (h.nmtTo.updCan.ite h).next
theorem execNmtPreOperational {port node} (h : s.Keeps t) : s.Next (execNmtPreOperational port node t) := (h.nmtTo.ite h).next
theorem execHeartbeat (h : s.Keeps t) : s.Next (execHeartbeat t) := ((h.withBeatAt.foldl (fun _ _ hu => hu.enqueue)).next).ite h.next
theorem heartbeatIn {p node} (h : s.Keeps t) : s.Keeps (t.heartbeatIn p node) := h.foldl (fun _ _ hu => hu.updCan.ite hu)

theorem execHeartbeatConsumerTimeout {port entry} (h : s.Keeps t) : s.Next (execHeartbeatConsumerTimeout port entry t) := by
  unfold Machine.execHeartbeatConsumerTimeout
  dsimp only
  split
  · exact h.updCan.raise.emcy.next.ite h.next
  · exact h.next

/-! ### Reset -/

theorem startExit {cause} (h : s.Keeps t) : s.Keeps (t.startExit cause) := h.ite (h.setN.updMd.foldl (fun _ _ hu => hu.groupOff))

theorem bootAnew {cause landing} (h : s.Keeps t) : s.Keeps (t.bootAnew cause landing) := by
  refine h.step rfl fun hi => ?_
  obtain ⟨⟨hd, _⟩, hg, _, _, _, _, _, _, _, _, hslots, hactive, _⟩ := hi
  refine ⟨⟨SMap.wf_filter dfltOf _ hd, fun g hmem => ?_, rfl⟩, (List.length_map _).trans hg, rfl, rfl, rfl, rfl, rfl, rfl, rfl, rfl,
    hslots, hactive, Nat.one_lt_two⟩
  obtain ⟨_, _, rfl⟩ := List.mem_map.1 hmem
  rfl

theorem saveTick (h : s.Keeps t) : s.Keeps t.saveTick := h.updVest.ite h
theorem deviceReset {cause landing} (h : s.Keeps t) : s.Keeps (t.deviceReset cause landing) := h.inc.setN.saveTick.bootAnew

theorem resetDecide {cause landing} (h : s.Keeps t) : s.Keeps (t.resetDecide cause landing) := by
  refine .ite h ?_
  split
  · exact h.startExit.updMd
  · exact h.startFlush.updMd.arcSync
  · exact h.startFlush.updMd.arcSync
  · exact h

theorem resetReady (h : s.Keeps t) : s.Keeps t.resetReady := by
  unfold State.resetReady
  split
  · exact h.deviceReset.ite h
  · exact h

/-! ### Update -/

theorem updTo {st result} (h : s.Keeps t) : s.Keeps (t.updTo st result) := h.setN.setN
theorem slotRejected {i bitNo} (h : s.Keeps t) : s.Keeps (t.slotRejected i bitNo) := h.raise.updSlot
theorem blowFuses {i} (h : s.Keeps t) : s.Keeps (t.blowFuses i) := h.updNand.updSlot.ite h.updNand

theorem beginEff {path} (h : s.Keeps t) : s.KeepsOk (beginEff path t) := by
  have h1 : s.Keeps (t.updUpd fun u => { u with owner := some path, len := t.getN Obj.UPDATE_CTRL.LENGTH, slot := t.downSlot }) :=
    h.updUpdSlot fun hi => hi.downSlot_lt
  exact h1.updSlot.setN.updTo.record.ok.ite .error

theorem execSlotEraseDone {ok} (h : s.Keeps t) : s.Next (execSlotEraseDone ok t) := h.next.ite (h.setN.updTo.next.ite h.updTo.next)
theorem updateDataEff {path v} (h : s.Keeps t) : s.KeepsOk (updateDataEff path v t) := .ite .error (.ite .error h.updSlot.setN.ok)
theorem execUpdateData {path data} (h : s.Keeps t) : s.Next (execUpdateData path data t) := (h.write (fun _ => h.updateDataEff)).next
theorem verifyEff (h : s.Keeps t) : s.KeepsOk (verifyEff t) := .ite .error (h.updTo.ok.ite h.raise.updTo.ok)
theorem imageRejected {i bitNo} (h : s.Keeps t) : s.Keeps (t.imageRejected i bitNo) := h.slotRejected.record.updTo

theorem execChecksComplete (h : s.Keeps t) : s.Next (execChecksComplete t) := by
  refine .ite h.next ?_
  dsimp only
  split
  · exact h.updSlot.updTo.next
  · exact h.imageRejected.next

theorem landActivate (h : s.Keeps t) : s.Keeps t.landActivate :=
  ((h.updSlot.updActive fun hi => hi.slot_lt).ite h.updSlot).andThen fun h1 => h1.ite h1.deviceReset

theorem activateEff (h : s.Keeps t) : s.KeepsOk (activateEff t) := by
  refine .ite .error (.ite ?_ (.ite .error ?_))
  · split
    · exact h.imageRejected.ok
    · exact h.landActivate.ok
  · split
    · exact h.imageRejected.ok
    · exact h.updTo.updUpd.ok.ite h.updSlot.setN.resetDecide.ok

theorem commitEff (h : s.Keeps t) : s.KeepsOk (commitEff t) := .ite .error h.updSlot.blowFuses.record.updTo.ok
theorem abortEff (h : s.Keeps t) : s.KeepsOk (abortEff t) := h.updSlot.updTo.updUpd.ok.ite .error

theorem updCommandEff {path v} (h : s.Keeps t) : s.KeepsOk (updCommandEff path v t) :=
  h.beginEff.ite (h.verifyEff.ite (h.activateEff.ite (h.commitEff.ite h.abortEff)))

theorem execBegin {path} (h : s.Keeps t) : s.Next (execBegin path t) := (h.write (fun _ => h.updCommandEff)).next
theorem execVerify {path} (h : s.Keeps t) : s.Next (execVerify path t) := (h.write (fun _ => h.updCommandEff)).next
theorem execActivate {path} (h : s.Keeps t) : s.Next (execActivate path t) := (h.write (fun _ => h.updCommandEff)).next
theorem execCommit {path} (h : s.Keeps t) : s.Next (execCommit path t) := (h.write (fun _ => h.updCommandEff)).next
theorem execAbort {path} (h : s.Keeps t) : s.Next (execAbort path t) := (h.write (fun _ => h.updCommandEff)).next
theorem setPause {on} (h : s.Keeps t) : s.Keeps (t.setPause on) := h.withPaused.forGal (fun _ _ hu => hu.updTread)

theorem execPrepareDone {ok} (h : s.Keeps t) : s.Next (execPrepareDone ok t) :=
  h.next.ite ((h.updUpd.updSlot.updActive fun hi => hi.slot_lt).setPause.updUpd.next.ite h.updUpd.slotRejected.updTo.next)

theorem execPauseEnd (h : s.Keeps t) : s.Next (execPauseEnd t) := by
  unfold Machine.execPauseEnd
  split
  · exact h.next.ite h.setPause.updUpd.setN.updTo.record.execDispatchAllocation
  · exact h.next

theorem execPauseTimeout (h : s.Keeps t) : s.Next (execPauseTimeout t) := by
  unfold Machine.execPauseTimeout
  split
  · exact (h.setPause.updUpd.slotRejected.updActive fun _ => otherSlot_lt _).setN.updTo.record.execDispatchAllocation.ite h.next
  · exact h.next

theorem trialFail {cause} (h : s.Keeps t) : s.Keeps (t.trialFail cause) :=
  (h.updSlot.updActive fun _ => otherSlot_lt _).record.updTo.andThen fun h1 => h1.ite h1.resetDecide

theorem execTrialTimeout (h : s.Keeps t) : s.Next (execTrialTimeout t) := h.trialFail.next.ite h.next
theorem ownerKeyEff {v} (h : s.Keeps t) : s.KeepsOk (ownerKeyEff v t) := h.updNand.ok
theorem execOwnerKey {path key} (h : s.Keeps t) : s.Next (execOwnerKey path key t) := (h.write (fun _ => h.ownerKeyEff)).next

theorem bootSelect (h : s.Keeps t) : s.Keeps t.bootSelect := by
  refine .ite h.updMd (.ite h.updMd (.ite h.updMd (.ite (h.updSlot.updActive fun _ => otherSlot_lt _).updMd ?_)))
  split
  next j hj =>
    have := List.mem_of_find?_eq_some hj
    simp only [List.mem_cons, List.not_mem_nil, or_false] at this
    exact h.updSlot.updActive fun _ => by omega
  next => exact h

theorem bootVerify {slotOk otherOk} (h : s.Keeps t) : s.Keeps (t.bootVerify slotOk otherOk) := by
  unfold State.bootVerify
  dsimp only
  split
  · exact h
  · exact (h.slotRejected.updActive fun _ => otherSlot_lt _).updMd.ite h.slotRejected.updMd

theorem updBoot (h : s.Keeps t) : s.Keeps t.updBoot := by
  have h0 : s.Keeps (t.updUpd fun u => { u with slot := otherSlot t.nand.active, trialAt := t.root }) :=
    h.updUpdSlot fun _ => otherSlot_lt _
  unfold State.updBoot
  dsimp only
  generalize (t.updUpd fun u => { u with slot := otherSlot t.nand.active, trialAt := t.root }) = v at h0 ⊢
  refine .ite (h0.blowFuses.ite h0).record.setN (.ite ?_ (h0.blowFuses.ite h0))
  split
  · exact (h0.blowFuses.ite h0).setN
  · exact (h0.blowFuses.ite h0).slotRejected

/-! ### Boot -/

theorem writeHorizon (h : s.Keeps t) : s.Keeps t.writeHorizon := h.updNand.updMd
theorem execTimeHorizonWrite (h : s.Keeps t) : s.Next (execTimeHorizonWrite t) := h.writeHorizon.next.ite h.next
theorem execKeepOscMeasure {cycles} (h : s.Keeps t) : s.Next (execKeepOscMeasure cycles t) := h.updVest.updMd.next.ite h.next
theorem recordOpen (h : s.Keeps t) : s.Keeps t.recordOpen := h.take.take.take.record
theorem vestLost (h : s.Keeps t) : s.Keeps t.vestLost := h.withVest.foldl (fun _ _ hu => hu.setN)
theorem vestSync (h : s.Keeps t) : s.Keeps t.vestSync := h.ite h.vestLost
theorem chargeSync {vkeep} (h : s.Keeps t) : s.Keeps (t.chargeSync vkeep) := h.setR.setFlag

theorem chargeAgain (h : s.Keeps t) : s.Keeps t.chargeAgain := by
  unfold State.chargeAgain
  split
  · exact h.chargeSync
  · exact h

theorem keepChargeEff {v} (h : s.Keeps t) : s.KeepsOk (keepChargeEff v t) := h.put.chargeAgain.ok
theorem vauxOn (h : s.Keeps t) : s.Keeps t.vauxOn := (h.raise.raise.ite h.raise).chargeAgain
theorem keepOpen (h : s.Keeps t) : s.Keeps t.keepOpen := h.raise.setFlag.event

theorem execKeepProbe {before under} (h : s.Keeps t) : s.Next (execKeepProbe before under t) :=
  (h.updVest.setR.keepOpen.next.ite h.updVest.setFlag.chargeSync.next).ite h.next

theorem execKeepCellOvervoltage {volts} (h : s.Keeps t) : s.Next (execKeepCellOvervoltage volts t) := h.setR.keepOpen.next.ite h.next
theorem execVkeepLow {volts} (h : s.Keeps t) : s.Next (execVkeepLow volts t) := (h.chargeSync.raise.ite h.chargeSync).next
theorem execVkeepValid {volts} (h : s.Keeps t) : s.Next (execVkeepValid volts t) := h.raise.setFlag.chargeSync.next.ite h.chargeSync.next

theorem execVkeepInvalid {volts} (h : s.Keeps t) : s.Next (execVkeepInvalid volts t) :=
  ((h.setFlag.chargeSync.raise.ite h.setFlag.chargeSync.vestSync).next).ite h.chargeSync.next

theorem enterVault {cause} (h : s.Keeps t) : s.Keeps (t.enterVault cause) :=
  (h.saveTick.updVest.updNand (hl := fun hlatch => Bool.or_eq_true_iff.mpr (.inr hlatch))).setN.setN.bootAnew.withMd.vestSync

theorem vaultBoot {cause cycled} (h : s.Keeps t) : s.Keeps (t.vaultBoot cause cycled) :=
  (h.inc.ite h).andThen fun h1 => h1.updVest.bootAnew.updMd

theorem execVauxValid {volts} (h : s.Keeps t) : s.Next (execVauxValid volts t) := by
  refine .ite h.setR.next (.ite h.setR.updMd.next (.ite h.setR.next ?_))
  dsimp only
  split
  · exact (h.setR.vauxOn.vaultBoot.setN.ite h.setR.vauxOn.vaultBoot).next
  · exact h.setR.vauxOn.next

theorem execVioInvalid {volts} (h : s.Keeps t) : s.Next (execVioInvalid volts t) :=
  (h.setR.setFlag.next.ite h.setR.setFlag.bypassRelease.saveTick.bootAnew.next).ite h.setR.next

theorem execVioValid {volts} (h : s.Keeps t) : s.Next (execVioValid volts t) :=
  (h.setR.raise.inc.setN.updMd.next.ite h.setR.raise.next).ite h.setR.next

theorem runEnds {cause} (h : s.Keeps t) : s.Keeps (t.runEnds cause) := by
  unfold State.runEnds
  dsimp only
  split
  · exact (h.setN.toMode.ite (h.setN.toMode.setN.raise.ite h.setN.toMode.setN)).resetDecide
  · exact h.setN.toMode.ite (h.setN.toMode.setN.raise.ite h.setN.toMode.setN)

theorem execVloopLost {volts} (h : s.Keeps t) : s.Next (execVloopLost volts t) :=
  (h.setR.setFlag.chanVloop.allSeo.event.runEnds.next.ite h.setR.setFlag.chanVloop.next).ite h.setR.next

theorem execVloopValid {volts} (h : s.Keeps t) : s.Next (execVloopValid volts t) :=
  h.setR.raise.withVloopAt.chanVloop.next.ite h.setR.next

theorem vholdIn {volts} (h : s.Keeps t) : s.Keeps (t.vholdIn volts) := h.setR.setFlag
theorem execHoldReady {volts} (h : s.Keeps t) : s.Next (execHoldReady volts t) := h.vholdIn.next
theorem execHoldLow {volts} (h : s.Keeps t) : s.Next (execHoldLow volts t) := (h.vholdIn.event.recordOpen.ite h.vholdIn).next

theorem execPfail {pin volts} (h : s.Keeps t) : s.Next (execPfail pin volts t) := by
  refine .ite ((h.setR.vholdIn.updMd.ite h.setR.vholdIn).next) ?_
  split
  · exact h.setR.vholdIn.setFlag.setFlag.setFlag.vestSync.next
  · exact h.setR.vholdIn.setFlag.setFlag.setFlag.enterVault.next
  · exact h.setR.vholdIn.setFlag.setFlag.setFlag.withSreqs.updMd.next
  · exact (h.setR.vholdIn.setFlag.setFlag.setFlag.record.startFlush.updRec.forGal (fun _ _ hu => hu.inhibitInsert.ite hu)).andThenNext fun
        h1 => h1.allSeo.allLoadsOff.bypassRelease.withSreqs.updMd.next

theorem execPowerDownComplete (h : s.Keeps t) : s.Next (execPowerDownComplete t) := by
  unfold Machine.execPowerDownComplete
  split
  · exact ((h.event.enterVault.ite (h.event.enterVault.vauxOn.vaultBoot.setN.ite h.event.enterVault.vauxOn.vaultBoot)).next).ite h.next
  · exact h.next

theorem execRootPllLock {recoveryLow testLow} (h : s.Keeps t) : s.Next (execRootPllLock recoveryLow testLow t) :=
  ((h.updMd.ite h.updMd.withNow).andThenNext fun h1 => (h1.ite h1.bootSelect).next).ite h.next

theorem execLandingVerifyDone {slotOk otherOk ownerKeyOk} (h : s.Keeps t) : s.Next (execLandingVerifyDone slotOk otherOk ownerKeyOk t) :=
  h.updNand.bootVerify.updMd.updSafe.next.ite h.next

theorem execChannelSelfTestDone {newel baluster} (h : s.Keeps t) : s.Next (execChannelSelfTestDone newel baluster t) :=
  h.updSafe.updMd.channelSync.next.ite h.next

theorem startBlocks (h : s.Keeps t) : s.Keeps t.startBlocks := by
  have hgroups : ∀ {u : State} {gs : List Group} {a b : SafetyRt → Channel}, s.Keeps u → gs.length = 8 →
      s.Keeps (u.updSafe fun r => { r with groups := gs, newel := a r, baluster := b r }) := by
    intro u gs a b hu hlen
    refine hu.step rfl fun hi => ?_
    obtain ⟨_, _, _, _, _, hin, hl, _⟩ := id hi
    exact hi.updSafe hlen hin hl
  have htimes : ∀ {u : State} {y : TimeRt}, s.Keeps u →
      s.Keeps { u with time := y, twa := { lastDue := List.replicate 16 u.root } } := by
    intro u y hu
    refine hu.step rfl fun hi => ?_
    obtain ⟨hc, h1, h2, h3, h4, h5, h6, _, _, _, h10⟩ := hi
    exact ⟨hc, h1, h2, h3, h4, h5, h6, rfl, List.length_replicate, rfl, h10⟩
  unfold State.startBlocks
  extract_lets tiles anew grouped synced roled _ timed
  have htiles : s.Keeps tiles := h.forGal fun _ _ hu => (hu.tileReset.restBoot.toAcquire.ite hu).archSync
  have hgrouped : s.Keeps grouped := hgroups htiles List.length_replicate
  have hroled : s.Keeps roled := hgrouped.groupSync.demandSync.andThen fun h1 => h1.roleTo.ite h1
  have htimed : s.Keeps timed := htimes hroled
  exact htimed.chanBoot.canStart.arcSync

theorem bootLoad (h : s.Keeps t) : s.Keeps t.bootLoad :=
  (h.ite h.withNow.event).andThen fun h1 => (h1.setFlag.updVest.ite h1.setFlag.updVest).andThen fun h2 =>
      (h2.updVest.put.put.loadSettings.bootSeal.setI.setN.ite h2.updVest.put.put.loadSettings.bootSeal.setI).andThen fun h3 => h3.setN.updMd

theorem countSkipped (h : s.Keeps t) : s.Keeps t.countSkipped := h.updNand.ite h.updNand.setN.raise

theorem execBootComplete (h : s.Keeps t) : s.Next (execBootComplete t) :=
  (h.bootLoad.writeHorizon.setN.toMode.canStart.next.ite ((h.bootLoad.writeHorizon.countSkipped.setN.toMode.enter.dropNotice.foldl (fun _ _
      hu => hu.record)).andThenNext fun h1 => h1.updMd.updBoot.startBlocks.channelSync.next)).ite h.next

theorem execBootWatchdogExpiry (h : s.Keeps t) : s.Next (execBootWatchdogExpiry t) := h.setN.setN.saveTick.bootAnew.next.ite h.next

theorem execResetNAssert {lowUs} (h : s.Keeps t) : s.Next (execResetNAssert lowUs t) :=
  (h.take.ite h).andThenNext fun h1 => h1.next.ite (h1.updMd.next.ite ((h1.updMd.inc.setN.vaultBoot.next.ite h1.updMd.next).ite
      h1.bypassRelease.deviceReset.updMd.next))

theorem execResetNRelease (h : s.Keeps t) : s.Next (execResetNRelease t) := h.updMd.updMd.next.ite h.updMd.next

theorem execRootPllUnlock (h : s.Keeps t) : s.Next (execRootPllUnlock t) :=
  h.next.ite (h.allLoadsOff.bypassRelease.updVest.updNand (hl := fun _ => rfl)).deviceReset.updSafe.setN.next

theorem execCoreWatchdogExpiry (h : s.Keeps t) : s.Next (execCoreWatchdogExpiry t) := by
  have hrun : s.Keeps (if t.updState = 7 then
      (((t.updSlot t.nand.active fun x => { x with state := 1 }).updNand fun d => { d with active := otherSlot t.nand.active }).record
        0x0504 0 0 2 [BitVec.ofNat 8 (otherSlot t.nand.active), 2]).updTo 0 3 else t) :=
    (h.updSlot.updActive fun _ => otherSlot_lt _).record.updTo.ite h
  unfold Machine.execCoreWatchdogExpiry
  split
  · exact h.next.ite hrun.resetDecide.next
  · exact h.next.ite hrun.resetDecide.next
  · exact h.next.ite hrun.resetDecide.next
  · exact h.next

theorem execFlushDone (h : s.Keeps t) : s.Next (execFlushDone t) := by
  unfold Machine.execFlushDone
  split
  · exact h.resetReady.next
  · exact h.updRec.resetReady.next.ite h.next

/-! ### Modes -/

theorem actRun {result} (h : s.Keeps t) : s.Keeps (t.actRun result) :=
  h.setN.setN.ite (h.toMode.setN.setN.ite (h.toMode.setN.setN.foldl (fun _ _ hu => hu.groupOn.ite hu)))

theorem sendSleep (h : s.Keeps t) : s.Keeps t.sendSleep := h.forGal (fun _ _ hu => hu.sendCmd.ite hu)

theorem startEntry {watch} (h : s.Keeps t) : s.Keeps (t.startEntry watch) :=
  (h.recordOpen.ite h).andThen fun h1 => (h1.allLoadsOff.sendSleep.updMd.forGal (fun _ _ hu => hu.inhibitInsert)).arcSync

theorem accepted {r} (h : s.Keeps t) : s.Keeps (t.accepted r) := h.setN.setN

theorem requestEff {v} (h : s.Keeps t) : s.KeepsOk (requestEff v t) := by
  unfold Machine.requestEff
  split
  · exact .ite .error (h.accepted.updMd.actRun.ok.ite (h.accepted.updMd.setN.ok.ite (h.accepted.updMd.setN.record.resetDecide.ok.ite
        h.accepted.updMd.setN.startEntry.ok)))
  · exact .ite .error ((h.accepted.setN.updMd.ok.ite h.accepted.setN.updMd.ok).ite (h.accepted.setN.ok.ite h.accepted.setN.startExit.ok))
  · exact h.accepted.setN.record.resetDecide.ok.ite .error
  · exact .error

theorem execRequestRun {path} (h : s.Keeps t) : s.Next (execRequestRun path t) := (h.write (fun _ => h.requestEff)).next
theorem execRequestReady {path} (h : s.Keeps t) : s.Next (execRequestReady path t) := (h.write (fun _ => h.requestEff)).next
theorem execRequestWatch {path} (h : s.Keeps t) : s.Next (execRequestWatch path t) := (h.write (fun _ => h.requestEff)).next
theorem execRequestVault {path} (h : s.Keeps t) : s.Next (execRequestVault path t) := (h.write (fun _ => h.requestEff)).next
theorem execRequestRecovery {path} (h : s.Keeps t) : s.Next (execRequestRecovery path t) := (h.write (fun _ => h.requestEff)).next
theorem execEntryToRunComplete (h : s.Keeps t) : s.Next (execEntryToRunComplete t) := ((h.setN.setN.ite h.setN).next).ite h.next
theorem execExitFromRunComplete (h : s.Keeps t) : s.Next (execExitFromRunComplete t) := h.runEnds.next.ite h.next
theorem execDeferredRun (h : s.Keeps t) : s.Next (execDeferredRun t) := h.updMd.actRun.next.ite h.next
theorem stage2 {m y} (h : s.Keeps t) : s.Keeps (t.stage2 m y) := h.fifoDrain.fifoDrain.record.startFlush.updMd

theorem execVaultEntryStage1Done (h : s.Keeps t) : s.Next (execVaultEntryStage1Done t) := by
  unfold Machine.execVaultEntryStage1Done
  split
  · exact h.stage2.next.ite h.next
  · exact h.next

theorem execVaultEntryDone (h : s.Keeps t) : s.Next (execVaultEntryDone t) := by
  unfold Machine.execVaultEntryDone
  split
  · exact h.enterVault.next.ite h.next
  · exact h.next

theorem execWatchEntryStage1Done (h : s.Keeps t) : s.Next (execWatchEntryStage1Done t) := by
  unfold Machine.execWatchEntryStage1Done
  split
  · exact h.stage2.next.ite h.next
  · exact h.next

theorem wake {cause} (h : s.Keeps t) : s.Keeps (t.wake cause) := h.withNow.writeHorizon.updMd.toMode.startBlocks.channelSync

theorem enterWatch (h : s.Keeps t) : s.Keeps t.enterWatch := by
  have hfresh : ∀ u : State, s.Keeps u → s.Keeps { u with
      sreqs := [], time := {}, disp := {}, red := {}, twb := {}, cans := u.cans.map fun c => { c with nmt := 0 } } := by
    intro u hu
    refine hu.step rfl fun hi => ?_
    obtain ⟨⟨hd, hg, _⟩, h1, h2, hc, h4⟩ := hi
    exact ⟨⟨hd, hg, rfl⟩, h1, h2, (List.length_map _).trans hc, h4⟩
  exact (hfresh _ ((h.saveTick.setN.toMode.forGal fun _ _ hu => hu.ite hu.toOff).andThen fun h1 => h1.ite h1.roleTo)).setN.setN.setN.updMd

theorem execWatchEntryDone (h : s.Keeps t) : s.Next (execWatchEntryDone t) := by
  unfold Machine.execWatchEntryDone
  split
  · refine .ite (Keeps.next ?_) h.next
    split
    · exact h.enterWatch.wake
    · exact h.enterWatch
  · exact h.next

theorem vaultWake {cause} (h : s.Keeps t) : s.Keeps (t.vaultWake cause) := h.vaultBoot.ite (h.ite h.updMd)

theorem watchWake {cause} (h : s.Keeps t) : s.Keeps (t.watchWake cause) := by
  unfold State.watchWake
  split
  · exact h.ite h.updMd
  · exact h.wake.ite h
  · exact h

theorem execWakeIn (h : s.Keeps t) : s.Next (execWakeIn t) := (h.vaultWake.ite h.watchWake).next

theorem execCanADominantEdge {lowUs} (h : s.Keeps t) : s.Next (execCanADominantEdge lowUs t) :=
  h.next.ite (h.vaultWake.next.ite ((h.take.vaultWake.ite h.take).next))

theorem execWakeFrame {port id ide data} (h : s.Keeps t) : s.Next (execWakeFrame port id ide data t) := h.inc.watchWake.next.ite h.next

theorem execWakeNoVaux (h : s.Keeps t) : s.Next (execWakeNoVaux t) := by
  unfold Machine.execWakeNoVaux
  split
  · exact h.event.updMd.next.ite h.next
  · exact h.next

theorem watchSleep {n} (h : s.Keeps t) : s.Keeps (t.watchSleep n) := h.updG

theorem watchString {results n} (h : s.Keeps t) : s.Keeps (t.watchString results n).1 := by
  unfold State.watchString
  split
  · exact h
  · exact (h.ite h.inc).andThen fun h1 => (h1.ite h1.inc).andThen fun h2 => h2.watchSleep.ite h2

theorem watchStrings {results l} (h : s.Keeps t) : s.Keeps (State.watchStrings results l t).1 := by
  induction l generalizing t with
  | nil => exact h
  | cons n l ih => exact (ih h.watchString).ite_fst h.watchString

theorem execWatchCheck {results} (h : s.Keeps t) : s.Next (execWatchCheck results t) := by
  refine .ite h.next ?_
  dsimp only
  split
  next hw => exact (h.updMd.watchStrings.of_fst hw).setN.wake.next
  next hw => exact (h.updMd.watchStrings.of_fst hw).setN.inc.next

theorem galRestart {n} (h : s.Keeps t) : s.KeepsOk (t.galRestart n) :=
  .ite .error ((h.specOff.tileReset.updProt.clear.setN.toAcquire.ite h.specOff.tileReset.updProt.clear.setN).ok)

theorem blockRestart {cls i} (h : s.Keeps t) : s.Keeps (t.blockRestart cls i) :=
  h.portRestart.ite ((h.twaRestart.ite h.twbRestart).ite (h.portRetrain.ite h.updRed.linkSync))

theorem blockRetry {cls i} (h : s.Keeps t) : s.Keeps (t.blockRetry cls i) :=
  (h.toAcquire.ite h).ite (h.chRetry.ite (h.portRetry.ite ((h.twaRetry.ite h.twbRetry).ite (h.portRetrain.ite h.updRed.linkSync))))

theorem ladderEff {v} (h : s.Keeps t) : s.KeepsOk (ladderEff v t) := by
  refine .ite .error ?_
  have h1 : s.Keeps (t.setN Obj.RESET_LADDER.RESULT 1) := h.setN
  refine .ite h1.resetDecide.ok (.ite h1.blockRetry.setN.ok (.ite (h1.galRestart.map fun _ hu => hu.updMd.ite hu.setN)
    (.ite (h1.chCommandEff.map fun _ hu => hu.setN) ?_)))
  exact (h1.updMd.ite h1.blockRestart.setN).ok

theorem stepNow {cls i} (h : s.Keeps t) : s.Keeps (t.stepNow cls i) := h.updMd.blockRestart.setN.ite h

theorem execLadderRetry {path cls inst} (h : s.Keeps t) : s.Next (execLadderRetry path cls inst t) :=
  (h.write (fun _ => h.ladderEff)).next

theorem execLadderReinitialise {path cls inst} (h : s.Keeps t) : s.Next (execLadderReinitialise path cls inst t) :=
  (h.write (fun _ => h.ladderEff)).next

theorem execLadderDeviceReset {path} (h : s.Keeps t) : s.Next (execLadderDeviceReset path t) := (h.write (fun _ => h.ladderEff)).next
theorem blockCtrlEff {n x} (h : s.Keeps t) : s.KeepsOk (blockCtrlEff n x t) := h.galRestart

theorem execBlockCtrlReinitialise {path n} (h : s.Keeps t) : s.Next (execBlockCtrlReinitialise path n t) :=
  (h.write (fun _ => h.blockCtrlEff)).next

/-! ### Dictionary -/

theorem mapEff {tx i sub v} (h : s.Keeps t) : s.KeepsOk (mapEff tx i sub v t) := h.put.ok.ite .error
theorem maskEff {k v} (h : s.Keeps t) : s.KeepsOk (maskEff k v t) := h.put.ok.ite .error
theorem cobEff {tx k v} (h : s.Keeps t) : s.KeepsOk (cobEff tx k v t) := h.put.ok.ite .error

theorem lift {e : Except Nat State} (h : s.Keeps t) (he : s.KeepsOk e) : s.Keeps (lift e t).2 := by
  cases e with
  | error c => exact h
  | ok u => exact he u rfl

theorem errorFieldEff {x} (h : s.Keeps t) : s.KeepsOk (errorFieldEff x t) := (h.foldl (fun _ _ hu => hu.setN)).ok
theorem ringKeyEff {v} (h : s.Keeps t) : s.KeepsOk (ringKeyEff v t) := h.updNand.ok
theorem restartHeld {k v} (h : s.Keeps t) : s.KeepsOk (restartHeld k v t) := (h.setN.ite h).ok
theorem scheduleEff {k v} (h : s.Keeps t) : s.KeepsOk (scheduleEff k v t) := .ite .error h.withSched.ok

theorem galEff {path n off index sub v} (h : s.Keeps t) : s.Keeps (galEff path n off index sub v t).2 := by
  unfold Machine.galEff
  split
  · exact (h.lift h.restoreNowEff).ite_snd (h.lift h.stringCfgEff)
  · exact (h.lift h.commissionEff).ite_snd (h.lift h.stringCfgEff)
  · exact h.lift (h.syncNowEff.ite h.storeVal)
  · exact h.lift (h.balTestEff.ite h.storeVal)
  · exact h.lift (h.restartEff.ite h.storeVal)
  · exact h.applyEff.ite_snd (h.lift (h.platingClearEff.ite (h.archiveNowEff.ite h.storeVal)))
  · exact h.lift (h.archiveSelEff.ite h.storeVal)
  · exact h.lift (h.modelSetEff.ite h.storeVal)
  · exact h.lift (h.replacedEff.ite h.storeVal)
  · exact h.lift (h.energiseEff.ite (h.lostClearEff.ite h.storeVal))
  · exact h.lift h.put.ok
  · exact h.lift h.blockCtrlEff
  · exact h.lift h.storeVal

theorem chnEff {n off index sub v} (h : s.Keeps t) : s.Keeps (chnEff n off index sub v t).2 := by
  unfold Machine.chnEff
  split
  · exact h.lift (h.storeVal.ite h.chFunctionEff)
  · exact h.chApplyEff.ite_snd (h.lift h.storeVal)
  · exact h.lift (h.outValueEff.ite h.storeVal)
  · exact h.lift (h.hartEnableEff.ite h.storeVal)
  · exact h.lift h.hartRequestEff
  · exact h.lift h.chCommandEff
  · exact h.lift h.storeVal

theorem canEff {p index sub v} (h : s.Keeps t) : s.Keeps (canEff p index sub v t).2 := by
  unfold Machine.canEff
  split
  · exact h.lift h.canEnableEff
  · exact h.lift h.maskEff
  · exact h.lift h.maskEff
  · exact h.take.take.canFlushEff
  · exact h.lift h.restartHeld
  · exact h.lift h.storeVal

theorem ciaEff {index sub v} (h : s.Keeps t) : s.KeepsOk (ciaEff index sub v t) :=
  h.errorFieldEff.ite (.ite (.ite .error h.cobEff) (h.storeEff.ite (h.restoreEff.ite (h.cobEff.ite (h.cobEff.ite (h.mapEff.ite
      (h.cobEff.ite (h.mapEff.ite h.storeVal))))))))

theorem fixEff {path index sub v} (h : s.Keeps t) : s.Keeps (fixEff path index sub v t).2 := by
  refine .ite_snd (h.lift h.ciaEff) ?_
  split
  · exact h.lift h.requestEff
  · exact h.lift h.ladderEff
  · exact h.lift (h.keepChargeEff.ite h.storeVal)
  · exact h.lift (h.ptpCfgEff.ite (h.ppsCfgEff.ite h.storeVal))
  · exact h.lift (h.recFlushEff.ite ((h.restartHeld.map (fun _ hu => hu.levelSync)).ite h.storeVal))
  · exact h.lift (h.snapCountEff.ite (h.put.ok.ite h.storeVal))
  · exact h.lift (h.updCommandEff.ite (h.ownerKeyEff.ite h.storeVal))
  · exact h.lift h.updateDataEff
  · exact h.lift (h.redundancyEnableEff.ite (h.swapEff.ite (h.reArmEff.ite h.storeVal)))
  · exact h.lift (h.arcadeEnableEff.ite (h.ringKeyEff.ite h.storeVal))
  · exact h.lift (h.twaTriggerEff.ite h.storeVal)
  · exact h.take.take.sealEff.ite_snd (h.lift (h.sealDiscardEff.ite h.storeVal))
  · exact h.lift h.lockoutResetEff
  · exact h.lift (h.dispatchEnableEff.ite h.storeVal)
  · exact h.lift (h.pDemandEff.ite (h.leaderTargetEff.ite h.storeVal))
  · exact h.lift h.storeVal

theorem objEff {path index sub v} (h : s.Keeps t) : s.Keeps (objEff path index sub v t).2 := by
  unfold Machine.objEff
  split
  · exact h
  · refine .ite_snd h.clear (.ite_snd (h.lift h.rwSEff) (.ite_snd (h.lift h.scheduleEff) ?_))
    split
    · exact h.galEff
    · exact h.chnEff
    · exact h.canEff
    · exact h.fixEff

theorem writeObj {path index sub d} (h : s.Keeps t) : s.Keeps (t.writeObj path index sub d) := h.writeX (fun _ => h.objEff)
theorem windowOf {path n} (h : s.Keeps t) : s.KeepsRead (windowOf path n t) := .ite .error (.ite .error h.okRead)

theorem readOf {path index sub} (h : s.Keeps t) : s.KeepsRead (readOf path index sub t) := by
  unfold Machine.readOf
  split
  · exact .error
  · dsimp only
    split
    · refine .ite h.windowOf (.ite h.archiveReadOf ?_)
      split
      · exact h.peakReadOf.ite (.ite .error ((h.withFree.ite h).okRead))
      · exact .ite .error ((h.withFree.ite h).okRead)
    · exact .ite .error (.ite .error ((h.withFree.ite h).okRead))
    · exact h.recReadOf.ite (.ite .error ((h.withFree.ite h).okRead))
    · exact .ite .error ((h.withFree.ite h).okRead)

theorem readObj {path index sub} (h : s.Keeps t) : s.Keeps (t.readObj path index sub) := h.readWith h.readOf
theorem execRegisterWrite {path index sub data} (h : s.Keeps t) : s.Next (execRegisterWrite path index sub data t) := h.writeObj.next

theorem hwSets {index sub hw} (h : s.Keeps t) : s.Keeps (t.hwSets index sub hw) := by
  unfold State.hwSets
  split
  · exact h.ite (h.setN.ite (h.setN.ite h))
  · exact h

theorem execWriteOneToClear {path index sub ones hwSet} (h : s.Keeps t) : s.Next (execWriteOneToClear path index sub ones hwSet t) := by
  unfold Machine.execWriteOneToClear
  split
  · exact ((h.writeObj.withSreqs.ite h.writeObj.hwSets).next).ite h.next
  · exact h.next

theorem execCellWindowSel {path n select} (h : s.Keeps t) : s.Next (execCellWindowSel path n select t) := h.writeObj.next
theorem execCellWindow {path n} (h : s.Keeps t) : s.Next (execCellWindow path n t) := h.readObj.next
theorem execErrorFieldClear {path} (h : s.Keeps t) : s.Next (execErrorFieldClear path t) := (h.write (fun _ => h.errorFieldEff)).next
theorem execRingKey {path key} (h : s.Keeps t) : s.Next (execRingKey path key t) := (h.write (fun _ => h.ringKeyEff)).next
theorem execScheduledActionFire {target} (h : s.Keeps t) : s.Next (execScheduledActionFire target t) := h.withSched.next.ite h.next

/-! ### ArcServe -/

theorem arcRespond {serial id body} (h : s.Keeps t) : s.Keeps (t.arcRespond serial id body) := h.sendPdu.inc.updArc
theorem arcAbort {o c} (h : s.Keeps t) : s.Keeps (t.arcAbort o c) := h.arcRespond

theorem arcSegment {o v} (h : s.Keeps t) : s.Keeps (t.arcSegment o v) := by
  unfold State.arcSegment
  split
  · exact h.arcAbort
  · exact h.updArc.arcRespond.readEnd.ite h.updArc.arcRespond

theorem arcAnswer {o} (h : s.Keeps t) : s.Keeps (t.arcAnswer o) := by
  unfold State.arcAnswer
  split
  · exact h.arcRespond.ite h.arcSegment
  · exact h.arcAbort
  · exact h.updArc
  · exact h

theorem arcAccess {o data} (h : s.Keeps t) : s.Keeps (t.arcAccess o data) := by
  refine Keeps.arcAnswer ?_
  split
  · exact h.writeObj
  · exact h.readObj

theorem arcRun {o data} (h : s.Keeps t) : s.Keeps (t.arcRun o data) := by
  refine .ite ?_ (.ite h.arcAbort (.ite h.arcAccess ?_))
  · split
    · exact h.updArc.arcAbort
    · exact h.updArc.arcAbort.ite h.updArc.arcAccess
    · exact h.updArc.arcAbort.ite h.updArc.arcRespond
  · split
    · exact h.arcSegment
    · exact h.arcAbort

theorem arcAdmit {o data} (h : s.Keeps t) : s.Keeps (t.arcAdmit o data) :=
  h.ite (h.withOrigin.queueUp.withOrigin.arcAnswer.ite h.withServe.arcRun.withServe)

theorem arcServe {m} {run : State → State} (h : s.Keeps t) (hr : ∀ u, s.Keeps u → s.Keeps (run u)) : s.Keeps (t.arcServe m run) := by
  unfold State.arcServe
  split
  · exact h.sendPdu
  · exact h.ite (hr _ h)

theorem execArcadeReadRequest {msg} (h : s.Keeps t) : s.Next (execArcadeReadRequest msg t) :=
  h.next.ite (h.accept101.next.ite ((h.accept101.updArc.arcServe (fun _ hu => hu.arcAdmit)).next))

theorem execArcadeWriteRequest {msg} (h : s.Keeps t) : s.Next (execArcadeWriteRequest msg t) :=
  h.next.ite (h.accept101.next.ite ((h.accept101.updArc.arcServe (fun _ hu => hu.arcAdmit)).next))

theorem execArcadeFrozenExpiry {serial} (h : s.Keeps t) : s.Next (execArcadeFrozenExpiry serial t) := h.updArc.next

theorem arcClosed {serial id} {run : State → ArcOpen → State} (h : s.Keeps t) (hr : ∀ u o, s.Keeps u → s.Keeps (run u o)) :
    s.Keeps (t.arcClosed serial id run) := by
  unfold State.arcClosed
  split
  · exact h
  · exact hr _ _ h.updArc

theorem arcServed {serial id data} (h : s.Keeps t) : s.Keeps (t.arcServed serial id data) := h.arcClosed (fun _ _ hu => hu.arcRun)
theorem arcBusy {serial id} (h : s.Keeps t) : s.Keeps (t.arcBusy serial id) := h.arcClosed (fun _ _ hu => hu.arcAnswer)

/-! ### ChanSample -/

theorem outSample {n} (h : s.Keeps t) : s.Keeps (t.outSample n) := by
  unfold State.outSample
  dsimp only
  split
  · exact h.setR.setR.chState.outFail
  · exact h.setR.setR.chState.outDrive

theorem execChannelSample {n x} (h : s.Keeps t) : s.Next (execChannelSample n x t) := by
  refine .ite h.next (.ite (Keeps.next (Keeps.roomRead ?_)) (Keeps.next ?_))
  · split
    · exact (h.updChan.setN.outSample.ite (h.updChan.setN.chAuto.ite h.updChan.setN.updChan.chPublish.setN)).updChan
    · exact h.updChan.setN.outSample.ite (h.updChan.setN.chAuto.ite h.updChan.setN.updChan.chPublish.setN)
  · split
    · exact (h.updChan.setN.outSample.ite (h.updChan.setN.chAuto.ite h.updChan.setN.updChan.chPublish.setN)).updChan
    · exact h.updChan.setN.outSample.ite (h.updChan.setN.chAuto.ite h.updChan.setN.updChan.chPublish.setN)

/-! ### Sdo -/

theorem updSdo {p f} (h : s.Keeps t) : s.Keeps (t.updSdo p f) := h.updCan
theorem sdoSend {p d} (h : s.Keeps t) : s.Keeps (t.sdoSend p d) := h.enqueue
theorem sdoIdle {p} (h : s.Keeps t) : s.Keeps (t.sdoIdle p) := h.updSdo
theorem sdoDrop {p} (h : s.Keeps t) : s.Keeps (t.sdoDrop p) := h.updCan.cancel
theorem sdoAbort {p code} (h : s.Keeps t) : s.Keeps (t.sdoAbort p code) := h.sdoDrop.sdoIdle.sdoSend
theorem sdoRefuse {p c} (h : s.Keeps t) : s.Keeps (t.sdoRefuse p c) := h.sdoAbort

theorem sdoAnswer {p answer flag blk} (h : s.Keeps t) : s.Keeps (t.sdoAnswer p answer flag blk) := by
  unfold State.sdoAnswer
  split
  · split
    · exact h.updSdo.sdoIdle.sdoSend
    · exact h.updSdo.sdoIdle.sdoSend
    · exact h.updSdo.sdoIdle.sdoSend
    · exact h.updSdo.sdoIdle.sdoSend.ite h.updSdo.updSdo.sdoSend
    · exact h.updSdo.updSdo.sdoSend
  · exact h.sdoAbort
  · exact h.updSdo
  · exact h.sdoIdle

theorem sdoAccess {p data answer flag blk} (h : s.Keeps t) : s.Keeps (t.sdoAccess p data answer flag blk) := by
  refine Keeps.sdoAnswer (Keeps.withOrigin ?_)
  split
  · exact h.withOrigin.writeObj
  · exact h.withOrigin.readObj

theorem sdoBegin {p index sub fd} (h : s.Keeps t) : s.Keeps (t.sdoBegin p index sub fd) := h.updSdo
theorem sdoTouch {p fd} (h : s.Keeps t) : s.Keeps (t.sdoTouch p fd) := h.updSdo

theorem execSdoInitiateDownload {port req expedited size fd} (h : s.Keeps t) : s.Next (execSdoInitiateDownload port req expedited size fd
    t) :=
  h.next.ite (h.sdoBegin.sdoAccess.next.ite h.sdoBegin.updSdo.sdoSend.next)

theorem execSdoDownloadSegment {port toggle last data fd} (h : s.Keeps t) : s.Next (execSdoDownloadSegment port toggle last data fd t) := by
  refine .ite h.next ?_
  dsimp only
  split
  · exact h.sdoTouch.sdoAbort.next.ite (h.sdoTouch.sdoRefuse.next.ite ((h.sdoTouch.sdoRefuse.next.ite h.sdoTouch.sdoAccess.next).ite
        h.sdoTouch.updSdo.sdoSend.next))
  · exact h.sdoTouch.sdoAbort.next

theorem execSdoInitiateUpload {port index sub fd} (h : s.Keeps t) : s.Next (execSdoInitiateUpload port index sub fd t) :=
  h.next.ite h.sdoBegin.sdoAccess.next

theorem execSdoUploadSegment {port toggle fd} (h : s.Keeps t) : s.Next (execSdoUploadSegment port toggle fd t) := by
  refine .ite h.next ?_
  dsimp only
  split
  · exact h.sdoTouch.sdoAbort.next.ite ((h.sdoTouch.updSdo.readEnd.ite h.sdoTouch.updSdo).andThenNext fun h1 => h1.sdoSend.next)
  · exact h.sdoTouch.sdoAbort.next

theorem execSdoBlockDownloadInitiate {port index sub size crc fd} (h : s.Keeps t) : s.Next (execSdoBlockDownloadInitiate port index sub
    size crc fd t) :=
  h.next.ite h.sdoBegin.updSdo.sdoSend.next

theorem execSdoBlockDownloadSubblock {port seq last data fd} (h : s.Keeps t) : s.Next (execSdoBlockDownloadSubblock port seq last data fd
    t) := by
  refine .ite h.next ?_
  dsimp only
  split
  · exact h.sdoTouch.sdoAbort.next.ite (h.sdoTouch.updSdo.next.ite (h.sdoTouch.sdoRefuse.next.ite h.sdoTouch.updSdo.sdoSend.next))
  · exact h.sdoTouch.sdoAbort.next

theorem execSdoBlockDownloadEnd {port unused crc fd} (h : s.Keeps t) : s.Next (execSdoBlockDownloadEnd port unused crc fd t) := by
  refine .ite h.next ?_
  dsimp only
  split
  · exact h.sdoTouch.sdoAbort.next.ite (h.sdoTouch.sdoRefuse.next.ite h.sdoTouch.sdoAccess.next)
  · exact h.sdoTouch.sdoAbort.next

theorem execSdoBlockUploadInitiate {port index sub blksize crc fd} (h : s.Keeps t) : s.Next (execSdoBlockUploadInitiate port index sub
    blksize crc fd t) :=
  h.next.ite (h.sdoBegin.sdoAbort.next.ite h.sdoBegin.sdoAccess.next)

theorem sdoBlock {p d acked blk crc} (h : s.Keeps t) : s.Keeps (t.sdoBlock p d acked blk crc) :=
  h.updSdo.foldl (fun _ _ hu => hu.sdoSend)

theorem execSdoBlockUploadStart {port fd} (h : s.Keeps t) : s.Next (execSdoBlockUploadStart port fd t) := by
  refine .ite h.next ?_
  dsimp only
  split
  · exact h.sdoTouch.sdoBlock.next
  · exact h.sdoTouch.sdoAbort.next

theorem execSdoBlockUploadAck {port ackseq blksize fd} (h : s.Keeps t) : s.Next (execSdoBlockUploadAck port ackseq blksize fd t) := by
  refine .ite h.next ?_
  dsimp only
  split
  · exact h.sdoTouch.sdoAbort.next.ite (h.sdoTouch.updSdo.sdoSend.next.ite (h.sdoTouch.sdoAbort.next.ite h.sdoTouch.sdoBlock.next))
  · exact h.sdoTouch.sdoAbort.next

theorem execSdoBlockUploadEnd {port} (h : s.Keeps t) : s.Next (execSdoBlockUploadEnd port t) := by
  refine .ite h.next ?_
  split
  · exact h.sdoIdle.readEnd.next
  · exact h.sdoAbort.next

theorem execSdoAbortTransfer {port code} (h : s.Keeps t) : s.Next (execSdoAbortTransfer port code t) :=
  h.next.ite h.sdoDrop.sdoIdle.updSdo.next

theorem execSdoTimeout {port} (h : s.Keeps t) : s.Next (execSdoTimeout port t) := h.sdoAbort.next.ite h.next

theorem execCanFrameTxDone {port ok air} (h : s.Keeps t) : s.Next (execCanFrameTxDone port ok air t) :=
  h.txDone.stepNow.next.ite h.txDone.next

theorem sdoServed {p count} (h : s.Keeps t) : s.Keeps (t.sdoServed p count) := by
  unfold State.sdoServed
  split
  · exact h.sdoAnswer.ite h
  · exact h

/-! ### Pdo -/

theorem rpdoOutcome {p} (h : s.Keeps t) : s.Keeps (t.rpdoOutcome p) := by
  unfold State.rpdoOutcome
  split
  · exact h.raise.updCan
  · exact h

theorem rpdoWrites {p l d} (h : s.Keeps t) : s.Keeps (State.rpdoWrites p l d t) := by
  induction l generalizing t d with
  | nil => exact h
  | cons w l ih => exact ih h.withOrigin.writeObj.withOrigin.rpdoOutcome

theorem rpdoIn {p i d} (h : s.Keeps t) : s.Keeps (t.rpdoIn p i d) :=
  h.raise.emcy.ite ((h.raise.emcy.ite h).andThen fun h1 => h1.updCan.ite h1.rpdoWrites)

theorem execRpdo {port i data} (h : s.Keeps t) : s.Next (execRpdo port i data t) := (h.rpdoIn.ite h).next

theorem tpdoData {p l} (h : s.Keeps t) : s.Keeps (State.tpdoData p l t).2 := by
  induction l generalizing t with
  | nil => exact h
  | cons w l ih =>
    unfold State.tpdoData
    cases hread : Machine.readOf (canPath p) (bits w 31 16) (bits w 15 8) t with
    | error c => exact ih h
    | ok x => exact ih (h.readOf x hread)

theorem tpdoSend {p i} (h : s.Keeps t) : s.Keeps (t.tpdoSend p i) := h.tpdoData.updCan.enqueue
theorem execTpdo {port i} (h : s.Keeps t) : s.Next (execTpdo port i t) := h.tpdoSend.next.ite h.next
theorem tpdoSync {p i} (h : s.Keeps t) : s.Keeps (t.tpdoSync p i) := h.ite ((h.tpdoSend.ite h).ite (h.tpdoSend.ite h.updCan))

theorem syncIn {p} (h : s.Keeps t) : s.Keeps (t.syncIn p) :=
  (h.updCan.foldl (fun _ _ hu => hu.rpdoWrites.ite hu)).andThen fun h1 => h1.foldl (fun _ _ hu => hu.tpdoSync)

theorem execSync {port} (h : s.Keeps t) : s.Next (execSync port t) := (h.syncIn.ite h).next
theorem execNmtResetNode {port node} (h : s.Keeps t) : s.Next (execNmtResetNode port node t) := (h.resetDecide.ite h).next
theorem comReset (h : s.Keeps t) : s.Keeps t.comReset := (h.withDict (SMap.wf_filter dfltOf _)).foldl fun _ _ hu => hu.put

theorem execNmtResetCommunication {port node} (h : s.Keeps t) : s.Next (execNmtResetCommunication port node t) :=
  h.comReset.portRestart.portRestart.setN.next.ite h.next

theorem outState {o : Out} (_ : s.Keeps t) (ho : s.Next o) : s.Keeps (outState o t) := by
  obtain ⟨u, rfl, hu⟩ := ho
  exact hu

theorem nmtIn {p d} (h : s.Keeps t) : s.Keeps (t.nmtIn p d) := by
  unfold State.nmtIn
  split
  · exact h.outState h.execNmtStart
  · exact h.outState h.execNmtStop
  · exact h.outState h.execNmtPreOperational
  · exact h.outState h.execNmtResetNode
  · exact h.outState h.execNmtResetCommunication
  · exact h

theorem sdoMeaning {p d fd} (h : s.Keeps t) : s.Next (sdoMeaning t p d fd) := by
  refine .ite h.execSdoAbortTransfer (.ite h.execSdoBlockDownloadSubblock ?_)
  split
  · exact h.execSdoDownloadSegment
  · exact h.execSdoInitiateDownload
  · exact h.execSdoInitiateUpload
  · exact h.execSdoUploadSegment
  · split
    · exact h.execSdoBlockUploadInitiate
    · exact h.execSdoBlockUploadEnd
    · exact h.execSdoBlockUploadAck
    · exact h.execSdoBlockUploadStart
  · exact h.execSdoBlockDownloadEnd.ite h.execSdoBlockDownloadInitiate
  · exact h.sdoTouch.sdoAbort.next.ite h.next

theorem sdoIn {p d fd} (h : s.Keeps t) : s.Keeps (t.sdoIn p d fd) := (h.outState h.sdoMeaning).ite (h.sdoTouch.sdoAbort.ite h)

theorem frameIn {p f} (h : s.Keeps t) : s.Keeps (t.frameIn p f) :=
  (h.nmtIn.ite h).ite (h.sdoIn.ite ((h.ite h.heartbeatIn).ite ((h.syncIn.ite h).ite (h.foldl (fun _ _ hu => hu.rpdoIn.ite hu)))))

theorem execCanFrameRx {port f} (h : s.Keeps t) : s.Next (execCanFrameRx port f t) :=
  h.next.ite (h.next.ite (h.raise.emcy.next.ite (h.inc.next.ite h.inc.frameIn.next)))

/-! ### Twb -/

theorem mailMade {r} (h : s.Keeps t) : s.Keeps (t.mailMade r) := h.updTwb
theorem mailAbort {q c} (h : s.Keeps t) : s.Keeps (t.mailAbort q c) := h.mailMade

theorem mailSegment {q v} (h : s.Keeps t) : s.Keeps (t.mailSegment q v) := by
  unfold State.mailSegment
  split
  · exact h.mailAbort
  · exact h.updTwb.mailMade.readEnd.ite h.updTwb.mailMade

theorem mailAnswer (h : s.Keeps t) : s.Keeps t.mailAnswer := by
  unfold State.mailAnswer
  split
  · exact h
  · split
    · exact h.mailSegment.ite h.mailMade
    · exact h.mailAbort
    · exact h
    · exact h.updTwb

theorem mailAccess {q data} (h : s.Keeps t) : s.Keeps (t.mailAccess q data) := by
  refine Keeps.mailAnswer ?_
  split
  · exact h.writeObj
  · exact h.readObj

theorem mailRun {q} (h : s.Keeps t) : s.Keeps (t.mailRun q) := by
  refine .ite (.ite h.mailAbort (.ite h.mailAccess ?_)) (.ite ?_ h.mailAbort)
  · split
    · exact h.mailSegment
    · exact h.mailAbort
  · split
    · exact h.updTwb.mailAbort
    · exact h.updTwb.mailAbort.ite (h.updTwb.mailAccess.ite h.updTwb.mailMade)

theorem mailServed (h : s.Keeps t) : s.Keeps t.mailServed := by
  unfold State.mailServed
  split
  · exact h.mailRun
  · exact h

theorem mailAdmit {q} (h : s.Keeps t) : s.Keeps (t.mailAdmit q) :=
  h.updTwb.updTwb.ite (h.updTwb.withOrigin.queueUp.withOrigin.mailAnswer.ite h.updTwb.withServe.mailRun.withServe)

theorem mailStop (h : s.Keeps t) : s.Keeps t.mailStop := h.ite (h.raise.ite (h.ite h.mailAdmit))

theorem controlStore {a b} (h : s.Keeps t) : s.Keeps (t.controlStore a b) :=
  (h.ite (h.setN.ite h.raise)).ite (h.clear.ite (h.clear.ite h))

theorem execTwbWriteTransaction {bytes} (h : s.Keeps t) : s.Next (execTwbWriteTransaction bytes t) :=
  h.next.ite (((h.updTwb.foldl (fun _ _ hu => hu.mailStore)).ite h.updTwb).andThenNext fun h1 => (h1.mailStop.ite h1).andThenNext fun h2 =>
      ((h2.foldl (fun _ _ hu => hu.controlStore)).ite h2).next)

theorem execTwbReadTransaction {ptr len} (h : s.Keeps t) : s.Next (execTwbReadTransaction ptr len t) :=
  h.next.ite ((h.updTwb.withFree.ite h.updTwb).andThenNext fun h1 => (h1.stepNow.ite h1).next)

theorem execMailboxDone (h : s.Keeps t) : s.Next (execMailboxDone t) := by
  unfold Machine.execMailboxDone
  split
  · exact h.next
  · exact h.updTwb.inc.alertBit.next

theorem execMailboxFrozenExpiry (h : s.Keeps t) : s.Next (execMailboxFrozenExpiry t) := h.updTwb.next

/-! ### Serve -/

theorem tell {o} (h : s.Keeps t) : s.Keeps (t.tell o) := by
  unfold State.tell
  split
  · exact h
  · exact h.sdoServed
  · exact h.rpdoOutcome
  · exact h.mailAnswer
  · exact h.arcBusy

theorem serveReq {r} (h : s.Keeps t) : s.Keeps (t.serveReq r) := by
  unfold State.serveReq
  split
  · exact h.withServe.arcServed.withServe
  · exact h.withServe.mailServed.withServe
  · refine Keeps.tell (Keeps.withServe (.ite h.withServe.writeObj.hwSets ?_))
    dsimp only
    split
    · exact h.withServe.readObj.readEnd
    · exact h.withServe.readObj

theorem serveOne (h : s.Keeps t) : s.Keeps t.serveOne := by
  refine .ite h ?_
  split
  · exact h
  · exact h.withSreqs.serveReq

theorem execClassSWaitExpiry (h : s.Keeps t) : s.Next (execClassSWaitExpiry t) := (h.withSreqs.foldl (fun _ _ hu => hu.busy.tell)).next
theorem tick (h : s.Keeps t) : s.Keeps t.tick := h.inert.serveOne

/-! ### Superframe -/

theorem arrive {n y ok} (h : s.Keeps t) : s.Keeps (t.arrive n y ok) := h.updTrunk

theorem authHeader {n auth} (h : s.Keeps t) : s.Keeps (t.authHeader n auth) :=
  (h.setN.ite h).andThen fun h1 => (h1.inc.ite h1).andThen fun h2 => (h2.inc.ite h2).andThen fun h3 => (h3.raise.ite h3).andThen fun h4 =>
      (h4.setN.ite (h4.setN.ite h4.setN.setN.setN)).andThen fun h5 => h5.setN.updTrunk.updTrunk.sendCarrierPhase.sendThresh.ite
      h5.setN.updTrunk

theorem pathHeader {n path} (h : s.Keeps t) : s.Keeps (t.pathHeader n path) :=
  h.setN.updTrunk.ite ((h.setN.updTrunk.raise.ite (h.setN.updTrunk.ite h.setN.updTrunk.raise)).andThen fun h1 => (h1.ite h1.inc).andThen
      fun h2 => (h2.updTrunk.toEnumerate.updTrunk.alignSync.ite h2.updTrunk.toEnumerate).ite h2.updTrunk)

theorem countsHeader {n p} (h : s.Keeps t) : s.Keeps (t.countsHeader n p) :=
  (h.addTo.addTo.ite h).andThen fun h1 => (h1.updTrunk.setN.raise.ite h1.updTrunk.setN).andThen fun h2 => (h2.raise.ite h2).andThen
      fun h3 => h3.setN.setN

theorem acquireHeader {n trip sf} (h : s.Keeps t) : s.Keeps (t.acquireHeader n trip sf) :=
  (h.updTrunk.ite h).andThen fun h1 => ((h1.updTrunk.setN.toIdentify.ite h1.updTrunk.raise.toRetry).ite h1.updTrunk).ite h1.updTrunk.setN

theorem headerIn {n y x} (h : s.Keeps t) : s.Keeps (t.headerIn n y x) :=
  h.updTrunk.pathHeader.countsHeader.authHeader.acquireHeader.roleHeader.ite h.updTrunk

theorem headIn {n y x} (h : s.Keeps t) : s.Keeps (t.headIn n y x) := h.updG
theorem nodesIn {n y x} (h : s.Keeps t) : s.Keeps (t.nodesIn n y x) := (h.raise.ite h).andThen fun h1 => h1.updG.updG
theorem modelIn {n} (h : s.Keeps t) : s.Keeps (t.modelIn n) := h.updG.ite h

theorem responsesIn {n y x} (h : s.Keeps t) : s.Keeps (t.responsesIn n y x) := by
  refine ((h.foldl (fun _ _ hu => hu.response.ite hu)).ite h).foldl (fun _ _ hu => .ite ?_ hu)
  split
  · exact hu.response
  · exact hu

theorem causeIn {n i present advance pos} (h : s.Keeps t) : s.Keeps (t.causeIn n i present advance pos) := h.updProt.setCause
theorem copyBitmaps {n x} (h : s.Keeps t) : s.Keeps (t.copyBitmaps n x) := h.updSafe

theorem arbiter {n share x} (h : s.Keeps t) : s.Keeps (t.arbiter n share x) :=
  ((h.updProt.foldl (fun _ _ hu => hu.causeIn)).ite h).andThen fun h1 => (h1.ite h1.setCause).andThen fun h2 =>
      (h2.copyBitmaps.setCause.ite h2.copyBitmaps).andThen fun h3 => h3.updProt.inhibitInsert.ite h3.updProt

theorem telemetryIn {n} (h : s.Keeps t) : s.Keeps (t.telemetryIn n) :=
  h.setR.setR.setR.setR.windowAdd.windowAdd.peaksAdd.ite (h.foldl (fun _ _ hu => hu.setR))

theorem preDiffIn {n} (h : s.Keeps t) : s.Keeps (t.preDiffIn n) := h.setR
theorem busMatchIn {n} (h : s.Keeps t) : s.Keeps (t.busMatchIn n) := h.updGrp.ite h
theorem currentIn {n} (h : s.Keeps t) : s.Keeps (t.currentIn n) := h.updProt
theorem farIn {n} (h : s.Keeps t) : s.Keeps (t.farIn n) := h.updTrunk

theorem sampledIn {n} (h : s.Keeps t) : s.Keeps (t.sampledIn n) :=
  h.telemetryIn.preDiffIn.busMatchIn.currentIn.sweepFrame.balCheck.balFrame.testFrame.alignSync

theorem execUpstreamSuperframe {n y} (h : s.Keeps t) : s.Next (execUpstreamSuperframe n y t) :=
  h.next.ite ((h.arrive.addTo.addTo.raise.ite h.arrive.addTo.addTo).andThenNext fun h1 =>
      (h1.headerIn.headIn.nodesIn.modelIn.responsesIn.arbiter.farIn.countCharge.sampledIn.ite
      h1.headerIn.headIn.nodesIn.modelIn.responsesIn.arbiter.farIn.countCharge).next)

theorem moveSample {n} (h : s.Keeps t) : s.Keeps (t.moveSample n) :=
  h.ite ((h.setN.sendCarrierPhase.raise.ite h.setN.sendCarrierPhase.raise.toAcquire).ite h.setN.sendCarrierPhase)

theorem execDownstreamSuperframe {n} (h : s.Keeps t) : s.Next (execDownstreamSuperframe n t) :=
  h.next.ite ((h.moveSample.updTrunk.handoverCheck.setN.setN.foldl (fun _ _ hu => hu.setI)).andThenNext fun h1 =>
      (h1.setN.balCommand.sendCmds.inhibitInsert.ite h1.setN.balCommand.sendCmds).andThenNext fun h2 => (h2.insertTriple.ite
      h2).andThenNext fun h3 => h3.updTrunk.next)

/-! ### Sram -/

theorem bufferPoisoned {n k} (h : s.Keeps t) : s.Keeps (t.bufferPoisoned n k) := by
  refine .ite h ((?_ : s.Keeps _).andThen fun h1 => h1.causeIn.inhibitInsert.ite h1)
  split
  · exact (h.updProt.inc.updG fun _ => by dsimp only; split <;> rfl).updTrunk
  · exact h.updProt.inc.updG fun _ => by dsimp only; split <;> rfl
  · exact h.updProt.inc
  · exact h.updProt.inc.updG

theorem poisoned {n addr o} (h : s.Keeps t) : s.Keeps (t.poisoned n addr o) := by
  unfold State.poisoned
  split
  · exact h.updPos.updG.raise.learnsOpen
  · exact h.updCell
  · exact h.bufferPoisoned
  · split
    · exact h.put.ite h
    · exact h

theorem lineRead {n addr o upset} (h : s.Keeps t) : s.Keeps (t.lineRead n addr o upset).1 :=
  h.setLine.addTo.inc.poisoned.ite h.setLine.addTo

theorem execSramFullLineWrite {n addr data} (h : s.Keeps t) : s.Next (execSramFullLineWrite n addr data t) := h.setLine.next.ite h.next

theorem execSramPartialWrite {n addr off data owner upset} (h : s.Keeps t) : s.Next (execSramPartialWrite n addr off data owner upset t) :=
  (((h.lineRead.poisoned.ite h.lineRead).next).ite h.lineRead.setLine.next).ite h.next

theorem execSramLineRead {n addr owner upset} (h : s.Keeps t) : s.Next (execSramLineRead n addr owner upset t) :=
  h.lineRead.withSramOut.next.ite h.next

theorem execScrubPass {n addr owner upset} (h : s.Keeps t) : s.Next (execScrubPass n addr owner upset t) :=
  ((h.lineRead.updG.next.ite h.lineRead.updG.next).ite h.lineRead.next).ite h.next

/-! ### Every command -/

theorem exec {c : Instr} (h : s.Keeps t) (hc : c ≠ .lockoutResetPulse) : s.Next (exec c t) := by
  cases c with
  | upstreamSuperframe => exact h.execUpstreamSuperframe
  | downstreamSuperframe => exact h.execDownstreamSuperframe
  | controlStep => exact h.execControlStep
  | modelStep => exact h.execModelStep
  | spectrumPublish => exact h.execSpectrumPublish
  | sramFullLineWrite => exact h.execSramFullLineWrite
  | sramPartialWrite => exact h.execSramPartialWrite
  | sramLineRead => exact h.execSramLineRead
  | scrubPass => exact h.execScrubPass
  | keepOscMeasure => exact h.execKeepOscMeasure
  | scheduledActionFire => exact h.execScheduledActionFire
  | classSWaitExpiry => exact h.execClassSWaitExpiry
  | pfail => exact h.execPfail
  | powerDownComplete => exact h.execPowerDownComplete
  | vauxValid => exact h.execVauxValid
  | vioValid => exact h.execVioValid
  | vioInvalid => exact h.execVioInvalid
  | vloopLost => exact h.execVloopLost
  | vloopValid => exact h.execVloopValid
  | vkeepLow => exact h.execVkeepLow
  | vkeepValid => exact h.execVkeepValid
  | holdReady => exact h.execHoldReady
  | holdLow => exact h.execHoldLow
  | rootPllLock => exact h.execRootPllLock
  | rootPllUnlock => exact h.execRootPllUnlock
  | landingVerifyDone => exact h.execLandingVerifyDone
  | channelSelfTestDone => exact h.execChannelSelfTestDone
  | bootComplete => exact h.execBootComplete
  | bootWatchdogExpiry => exact h.execBootWatchdogExpiry
  | resetNAssert => exact h.execResetNAssert
  | resetNRelease => exact h.execResetNRelease
  | coreWatchdogExpiry => exact h.execCoreWatchdogExpiry
  | requestRun => exact h.execRequestRun
  | requestReady => exact h.execRequestReady
  | requestWatch => exact h.execRequestWatch
  | requestVault => exact h.execRequestVault
  | requestRecovery => exact h.execRequestRecovery
  | entryToRunComplete => exact h.execEntryToRunComplete
  | exitFromRunComplete => exact h.execExitFromRunComplete
  | deferredRun => exact h.execDeferredRun
  | vaultEntryStage1Done => exact h.execVaultEntryStage1Done
  | vaultEntryDone => exact h.execVaultEntryDone
  | watchEntryStage1Done => exact h.execWatchEntryStage1Done
  | watchEntryDone => exact h.execWatchEntryDone
  | wakeIn => exact h.execWakeIn
  | canADominantEdge => exact h.execCanADominantEdge
  | wakeFrame => exact h.execWakeFrame
  | wakeNoVaux => exact h.execWakeNoVaux
  | ladderRetry => exact h.execLadderRetry
  | ladderReinitialise => exact h.execLadderReinitialise
  | ladderDeviceReset => exact h.execLadderDeviceReset
  | keepProbe => exact h.execKeepProbe
  | timeHorizonWrite => exact h.execTimeHorizonWrite
  | writeOneToClear => exact h.execWriteOneToClear
  | registerWrite => exact h.execRegisterWrite
  | rwSWrite => exact h.execRwSWrite
  | sealSet => exact h.execSealSet
  | sealDiscard => exact h.execSealDiscard
  | store => exact h.execStore
  | restore => exact h.execRestore
  | cellWindowSel => exact h.execCellWindowSel
  | cellWindow => exact h.execCellWindow
  | blockCtrlReinitialise => exact h.execBlockCtrlReinitialise
  | errorFieldClear => exact h.execErrorFieldClear
  | sdoInitiateDownload => exact h.execSdoInitiateDownload
  | sdoDownloadSegment => exact h.execSdoDownloadSegment
  | sdoInitiateUpload => exact h.execSdoInitiateUpload
  | sdoUploadSegment => exact h.execSdoUploadSegment
  | sdoBlockDownloadInitiate => exact h.execSdoBlockDownloadInitiate
  | sdoBlockDownloadSubblock => exact h.execSdoBlockDownloadSubblock
  | sdoBlockDownloadEnd => exact h.execSdoBlockDownloadEnd
  | sdoBlockUploadInitiate => exact h.execSdoBlockUploadInitiate
  | sdoBlockUploadStart => exact h.execSdoBlockUploadStart
  | sdoBlockUploadAck => exact h.execSdoBlockUploadAck
  | sdoBlockUploadEnd => exact h.execSdoBlockUploadEnd
  | sdoAbortTransfer port code => exact h.execSdoAbortTransfer (code := code)
  | sdoTimeout => exact h.execSdoTimeout
  | nmtStart => exact h.execNmtStart
  | nmtStop => exact h.execNmtStop
  | nmtPreOperational => exact h.execNmtPreOperational
  | nmtResetNode => exact h.execNmtResetNode
  | nmtResetCommunication => exact h.execNmtResetCommunication
  | sync => exact h.execSync
  | rpdo => exact h.execRpdo
  | tpdo => exact h.execTpdo
  | heartbeat => exact h.execHeartbeat
  | heartbeatConsumerTimeout => exact h.execHeartbeatConsumerTimeout
  | arcadeReadRequest => exact h.execArcadeReadRequest
  | arcadeWriteRequest => exact h.execArcadeWriteRequest
  | arcadeResponse => exact h.execArcadeResponse
  | arcadeReqTimeout => exact h.execArcadeReqTimeout
  | arcadeFrozenExpiry => exact h.execArcadeFrozenExpiry
  | ringKey => exact h.execRingKey
  | ownerKey => exact h.execOwnerKey
  | stringCfg path index sub data => exact h.execStringCfg (path := path) (index := index) (sub := sub) (data := data)
  | acquireTimeout => exact h.execAcquireTimeout
  | retryWaitExpiry => exact h.execRetryWaitExpiry
  | trunkLoss => exact h.execTrunkLoss
  | commandResend => exact h.execCommandResend
  | identify => exact h.execIdentify
  | readReg => exact h.execReadReg
  | writeReg => exact h.execWriteReg
  | syncReset => exact h.execSyncReset
  | sweep => exact h.execSweep
  | switchTest => exact h.execSwitchTest
  | commission => exact h.execCommission
  | restoreRing => exact h.execRestoreRing
  | release => exact h.execRelease
  | sleep => exact h.execSleep
  | selftest => exact h.execSelftest
  | flightNodesCommission => exact h.execFlightNodesCommission
  | restoreNow => exact h.execRestoreNow
  | autoRestore => exact h.execAutoRestore
  | headSuperframeRx => exact h.execHeadSuperframeRx
  | headHoldTimeout => exact h.execHeadHoldTimeout
  | headTrunkLoss => exact h.execHeadTrunkLoss
  | dualFault => exact h.execDualFault
  | loopFrameEvaluate => exact h.execLoopFrameEvaluate
  | monitorSlotFill => exact h.execMonitorSlotFill
  | monitorSignalLoss => exact h.execMonitorSignalLoss
  | sampleLatch => exact h.execSampleLatch
  | monitorFrameTimeout => exact h.execMonitorFrameTimeout
  | sleepCheck => exact h.execSleepCheck
  | wakeBurst => exact h.execWakeBurst
  | delayCompReread => exact h.execDelayCompReread
  | syncNow => exact h.execSyncNow
  | balanceDecision => exact h.execBalanceDecision
  | balanceTestRun => exact h.execBalanceTestRun
  | switchTestInterval => exact h.execSwitchTestInterval
  | sweepDue => exact h.execSweepDue
  | sweepMissing => exact h.execSweepMissing
  | sweepIntervalRelax => exact h.execSweepIntervalRelax
  | watchCheck => exact h.execWatchCheck
  | restart => exact h.execRestart
  | converterEnable => exact h.execConverterEnable
  | peakRead => exact h.execPeakRead
  | telemetryWindow => exact h.execTelemetryWindow
  | excitationApply => exact h.execExcitationApply
  | setComputed => exact h.execSetComputed
  | platingClear => exact h.execPlatingClear
  | archiveNow => exact h.execArchiveNow
  | archiveInterval => exact h.execArchiveInterval
  | archiveRecordWrite => exact h.execArchiveRecordWrite
  | archiveSel => exact h.execArchiveSel
  | archiveRead => exact h.execArchiveRead
  | modelSet => exact h.execModelSet
  | replaced => exact h.execReplaced
  | restCorrection => exact h.execRestCorrection
  | aggregates => exact h.execAggregates
  | stateSave => exact h.execStateSave
  | stateSaveDone => exact h.execStateSaveDone
  | saveFailed => exact h.execSaveFailed
  | dieTemperatureRead => exact h.execDieTemperatureRead
  | riseStopTime => exact h.execRiseStopTime
  | safetyCycle => exact h.execSafetyCycle
  | energiseOn => exact h.execEnergiseOn
  | energiseOff => exact h.execEnergiseOff
  | busCheckTimeout => exact h.execBusCheckTimeout
  | preTimeExpiry => exact h.execPreTimeExpiry
  | fbTimeExpiry => exact h.execFbTimeExpiry
  | minOffElapsed => exact h.execMinOffElapsed
  | maxOverlapExpiry => exact h.execMaxOverlapExpiry
  | mainCloseTimeExpiry => exact h.execMainCloseTimeExpiry
  | seoDelayExpiry => exact h.execSeoDelayExpiry
  | srsMaxTimeExpiry => exact h.execSrsMaxTimeExpiry
  | trunkLossSeoTimer => exact h.execTrunkLossSeoTimer
  | soOvercurrent => exact h.execSoOvercurrent
  | safetyInputChange => exact h.execSafetyInputChange
  | discrepancyTimeout => exact h.execDiscrepancyTimeout
  | testPulse => exact h.execTestPulse
  | outputTestPulse => exact h.execOutputTestPulse
  | channelDisagree => exact h.execChannelDisagree
  | channelSelfCheck => exact h.execChannelSelfCheck
  | channelFail => exact h.execChannelFail
  | lockoutResetPulse => exact absurd rfl hc
  | lockoutReset => exact h.execLockoutReset
  | requestedExpiry => exact h.execRequestedExpiry
  | lostClear => exact h.execLostClear
  | stringLost => exact h.execStringLost
  | imdEvaluate => exact h.execImdEvaluate
  | threshRewrite => exact h.execThreshRewrite
  | dispatchAllocation => exact h.execDispatchAllocation
  | pDemand => exact h.execPDemand
  | leaderTarget => exact h.execLeaderTarget
  | hostTimeout => exact h.execHostTimeout
  | leaderLost => exact h.execLeaderLost
  | fallbackHold => exact h.execFallbackHold
  | joinDelay => exact h.execJoinDelay
  | bypassInsert => exact h.execBypassInsert
  | bypassTestTimeout => exact h.execBypassTestTimeout
  | arcadeLinkLoss => exact h.execArcadeLinkLoss
  | hsrFrameRx => exact h.execHsrFrameRx
  | hsrSupervisionTx => exact h.execHsrSupervisionTx
  | nodeForget => exact h.execNodeForget
  | beaconTx => exact h.execBeaconTx
  | beaconRx => exact h.execBeaconRx
  | memberTimeout => exact h.execMemberTimeout
  | ptpSyncRx => exact h.execPtpSyncRx
  | ptpFollowUpRx => exact h.execPtpFollowUpRx
  | ptpAnnounceRx => exact h.execPtpAnnounceRx
  | ptpAnnounceTimeout => exact h.execPtpAnnounceTimeout
  | pdelayReqRx => exact h.execPdelayReqRx
  | pdelayRespRx => exact h.execPdelayRespRx
  | pdelayRespFollowUpRx => exact h.execPdelayRespFollowUpRx
  | ptpSyncTx => exact h.execPtpSyncTx
  | ptpAnnounceTx => exact h.execPtpAnnounceTx
  | pdelayReqTx => exact h.execPdelayReqTx
  | ptpEventForward => exact h.execPtpEventForward
  | ppsIn => exact h.execPpsIn
  | todIn => exact h.execTodIn
  | ppsOut => exact h.execPpsOut
  | sourceLoss => exact h.execSourceLoss
  | holdoverExpiry => exact h.execHoldoverExpiry
  | timeStep => exact h.execTimeStep
  | corridorFrameTx => exact h.execCorridorFrameTx
  | corridorFrameRx => exact h.execCorridorFrameRx
  | corridorDown => exact h.execCorridorDown
  | mirrorRead => exact h.execMirrorRead
  | redundancyEnable => exact h.execRedundancyEnable
  | pairWait => exact h.execPairWait
  | swap => exact h.execSwap
  | takeoverTimeout => exact h.execTakeoverTimeout
  | yieldTimeout => exact h.execYieldTimeout
  | reArm => exact h.execReArm
  | swapDue => exact h.execSwapDue
  | channelSample => exact h.execChannelSample
  | overloadTrip => exact h.execOverloadTrip
  | readbackCompare => exact h.execReadbackCompare
  | railUpdate => exact h.execRailUpdate
  | driverThermal => exact h.execDriverThermal
  | outValue => exact h.execOutValue
  | outTimeout => exact h.execOutTimeout
  | chCharApply => exact h.execChCharApply
  | chReinitialise => exact h.execChReinitialise
  | chTest => exact h.execChTest
  | chCommandDone => exact h.execChCommandDone
  | outputResume => exact h.execOutputResume
  | function => exact h.execFunction
  | hartPoll => exact h.execHartPoll
  | hartResponseRx => exact h.execHartResponseRx
  | hartBurstFrame => exact h.execHartBurstFrame
  | hartResponseTimeout => exact h.execHartResponseTimeout
  | hartIdentifyRetry => exact h.execHartIdentifyRetry
  | hartXferRequest => exact h.execHartXferRequest
  | canFrameRx => exact h.execCanFrameRx
  | canFrameTxDone => exact h.execCanFrameTxDone
  | canBusOff => exact h.execCanBusOff
  | busoffDelay => exact h.execBusoffDelay
  | canBusOffRecovered => exact h.execCanBusOffRecovered
  | canFlush => exact h.execCanFlush
  | fifoDrainDeadline => exact h.execFifoDrainDeadline
  | twaSlotDue => exact h.execTwaSlotDue
  | twaTrigger => exact h.execTwaTrigger
  | twaSlotDone => exact h.execTwaSlotDone
  | twaArbRetry => exact h.execTwaArbRetry
  | clkLowTimeout => exact h.execClkLowTimeout
  | dataLowTimeout => exact h.execDataLowTimeout
  | twbWriteTransaction => exact h.execTwbWriteTransaction
  | twbReadTransaction => exact h.execTwbReadTransaction
  | mailboxDone => exact h.execMailboxDone
  | mailboxFrozenExpiry => exact h.execMailboxFrozenExpiry
  | twbAlert => exact h.execTwbAlert
  | alertRetry => exact h.execAlertRetry
  | recordEntry => exact h.execRecordEntry
  | drain => exact h.execDrain
  | pageProgramDone => exact h.execPageProgramDone
  | recorderFlush => exact h.execRecorderFlush
  | flushDone => exact h.execFlushDone
  | blockErase => exact h.execBlockErase
  | eraseDone => exact h.execEraseDone
  | recorderRebuild => exact h.execRecorderRebuild
  | snapCount => exact h.execSnapCount
  | recorderRead => exact h.execRecorderRead
  | snapshotExpiry => exact h.execSnapshotExpiry
  | begin => exact h.execBegin
  | slotEraseDone => exact h.execSlotEraseDone
  | updateData => exact h.execUpdateData
  | verify => exact h.execVerify
  | checksComplete => exact h.execChecksComplete
  | activate => exact h.execActivate
  | prepareDone => exact h.execPrepareDone
  | pauseEnd => exact h.execPauseEnd
  | pauseTimeout => exact h.execPauseTimeout
  | commit => exact h.execCommit
  | abort => exact h.execAbort
  | trialTimeout => exact h.execTrialTimeout
  | vkeepInvalid => exact h.execVkeepInvalid
  | keepCellOvervoltage => exact h.execKeepCellOvervoltage
  | comparatorTrip => exact h.execComparatorTrip
  | sweepConversionDone => exact h.execSweepConversionDone
  | arcadeLinkUp => exact h.execArcadeLinkUp
  | ppsMissing => exact h.execPpsMissing
  | canErrorPassive => exact h.execCanErrorPassive
  | bufferClose => exact h.execBufferClose

end State.Keeps

/-! ### The statements -/

/-- Every command but one ends in a next state that keeps the queue, the identity, the invariant and a latch that is set. -/
theorem exec_next (c : Instr) (s : State) (hc : c ≠ .lockoutResetPulse) : s.Next (exec c s) := (State.Keeps.refl s).exec hc

/-- Every command ends in a next state that keeps the queue, the identity and the invariant. -/
theorem exec_nextInv (c : Instr) (s : State) : ∃ t, exec c s = .next t ∧ s.KeepsInv t := by
  by_cases hc : c = .lockoutResetPulse
  · subst hc
    exact State.Keeps.execLockoutResetPulse s
  · obtain ⟨t, ht, hid, hinv, -⟩ := exec_next c s hc
    exact ⟨t, ht, hid, hinv⟩

theorem exec_keeps {c : Instr} {s t : State} (h : exec c s = .next t) : s.KeepsInv t := by
  obtain ⟨u, hu, hkeeps⟩ := exec_nextInv c s
  obtain rfl : t = u := by simpa [h] using hu
  exact hkeeps

/-- Only the evaluation of a reset pulse clears a latch that is set in the store. -/
theorem exec_keepsLatch {c : Instr} {s t : State} (hc : c ≠ .lockoutResetPulse) (h : exec c s = .next t) (hlatch : s.nand.latch = true) :
    t.nand.latch = true := by
  obtain ⟨u, hu, -, -, hkeeps⟩ := exec_next c s hc
  obtain rfl : t = u := by simpa [h] using hu
  exact hkeeps hlatch

/-- Settles O7: every command ends in a next state. -/
theorem everyCommandCompletes : Obligations.EveryCommandCompletes := fun c s =>
  let ⟨t, ht, _⟩ := exec_nextInv c s
  ⟨t, ht⟩

/-- Settles O6: every command keeps the queue and the identity. -/
theorem identityAndQueueUntouched : Obligations.IdentityAndQueueUntouched := by
  unfold Obligations.IdentityAndQueueUntouched
  intro c s t h
  simpa only [State.identity, Prod.mk.injEq] using (exec_keeps h).1

/-- Settles O5: a tick keeps the invariant, and so does every command, run on the state with the queue's rest. -/
theorem everyStepKeepsInvariant : Obligations.EveryStepKeepsInvariant := by
  unfold Obligations.EveryStepKeepsInvariant
  intro s t hs h
  unfold step at h
  split at h
  case h_1 =>
    cases h
    exact (State.Keeps.refl s).tick.2.1 hs
  case h_2 c rest _ => exact (exec_keeps h).2 (hs.congr rfl rfl rfl rfl rfl rfl rfl rfl rfl)

end Sys2Proof.Machine
end

section
/-! The steps of the queue, the state right after reset, and accesses that the checks of R80 refuse. -/
namespace Sys2Proof.Machine
set_option Elab.async false

/-! ### Steps -/

/-- Settles O1: a step on a queue that is not empty runs its front. -/
theorem stepRunsFrontCommand : Obligations.StepRunsFrontCommand := by
  unfold Obligations.StepRunsFrontCommand
  intro s c rest h
  rw [step, h]

/-- With no request waiting the server does nothing. -/
theorem State.serveOne_of_empty {s : State} (h : s.sreqs = []) : s.serveOne = s := by
  rw [State.serveOne, h]
  exact ite_self s

/-- Settles O2: a step on an empty queue is a tick, and no request waits to be served. -/
theorem idleStepIsOneTick : Obligations.IdleStepIsOneTick := by
  unfold Obligations.IdleStepIsOneTick
  intro s hpend hreqs
  have htick : step s = .next s.tick := by rw [step, hpend]
  rw [htick]
  exact congrArg Host.Outcome.next (State.serveOne_of_empty hreqs)

/-! ### The state after reset -/

/-- An object that the reset state does not list reads its default. -/
theorem State.val_reset {k : Nat} (h1 : k ≠ Obj.RESET_LADDER.LAST_RESET_CAUSE) (h2 : k ≠ Obj.SUPPLY_STATUS.FLAGS)
    (h3 : k ≠ Obj.SUPPLY_STATUS.POWER_CYCLES) : State.reset.val k = dfltOf k := by
  simp [State.val, State.reset, SMap.get, SMap.find?, h1, h2, h3]

/-- ENABLE of every string is 0 by default. -/
theorem enable_default : ∀ n < 32, (dfltOf (Gal.STRING_CFG.ENABLE n)).toN = 0 := by decide +kernel

theorem State.strOn_reset (n : Nat) : State.reset.strOn n = false := by
  by_cases hn : n < 32
  · have hkey : ∀ k < 2 ^ 22, Gal.STRING_CFG.ENABLE n ≠ k := by
      intro k hk
      simp only [Gal.STRING_CFG.ENABLE, galKey, keyOf]
      omega
    have hval := State.val_reset (hkey _ (by decide)) (hkey _ (by decide)) (hkey _ (by decide))
    simp [State.strOn, State.getN, hval, enable_default n hn]
  · have : State.reset.hasGal n = false := by simpa [State.hasGal, State.reset, Part.galleries] using hn
    simp [State.strOn, this]

/-- Settles O3: the fields that the reset state names, and the defaults of what its dictionary does not list. -/
theorem resetStateValues : Obligations.ResetStateValues :=
  ⟨rfl, by decide, by decide, rfl, rfl, rfl, rfl, by decide, State.strOn_reset, fun _ => State.val_reset⟩

/-- Settles O4: the lists of the reset state have their lengths and its sparse maps are canonical. -/
theorem resetStateMeetsInvariant : Obligations.ResetStateMeetsInvariant := by
  refine ⟨⟨by decide +kernel, fun g hg => ?_, rfl⟩, rfl, rfl, rfl, rfl, rfl, rfl, rfl, rfl, rfl, rfl, Nat.zero_lt_two, Nat.one_lt_two⟩
  rw [List.eq_of_mem_replicate hg]
  rfl

/-! ### Refused accesses -/

/-- A write that the checks refuse answers their code, whatever its effect would be. -/
theorem State.writeX_unchecked {s : State} {p : Path} {index sub c : Nat} {d : List Byte} (h : s.atOnce p)
    (hc : checkWrite s p index sub d = .error c) (eff : Val → State → Option Nat × State) :
    s.writeX p index sub d eff = s.reply (.abort c) := by
  rw [State.writeX, State.classS_atOnce h, hc]

/-- What a read answers where its path is answered at once: the code of the first check that fails, or what the object gives. -/
theorem State.readWith_atOnce {s : State} {p : Path} {index sub : Nat} (h : s.atOnce p)
    (f : State → Except Nat (List Byte × State)) :
    s.readWith p index sub f =
      if !s.hasIndex index then s.reply (.abort abortNoObj)
      else match rowOf index sub with
        | none => s.reply (.abort abortNoSub)
        | some r =>
          if decide (r.acc = .wo) || decide (r.acc = .key) then s.reply (.abort abortWo)
          else match f s with
            | .error c => s.reply (.abort c)
            | .ok (d, t) => t.reply (.ok d) := by
  rw [State.readWith, State.classS_atOnce h] <;> rfl

/-- Settles O15: the refusals of a write and of a read, check by check. -/
theorem refusedAccessChangesNothing : Obligations.RefusedAccessChangesNothing := by
  unfold Obligations.RefusedAccessChangesNothing
  refine ⟨fun s p index sub d c h hc => ?_, fun s p index sub h hi => ?_, fun s p index sub h hi hr => ?_,
    fun s p index sub r h hi hr hacc => ?_⟩
  · exact congrArg Host.Outcome.next (State.writeX_unchecked h hc _)
  · simp only [State.readObj, State.readWith_atOnce h, hi]
    rfl
  · simp only [State.readObj, State.readWith_atOnce h, hi, hr]
    rfl
  · simp only [State.readObj, State.readWith_atOnce h, hi, hr]
    rcases hacc with hacc | hacc <;> simp only [hacc] <;> rfl

end Sys2Proof.Machine
end

section
/-! The checks of a write (R77, R80, R97, R102), one after the other: each lemma says what the checks answer where an earlier one decides. -/
namespace Sys2Proof.Machine
set_option Elab.async false

/-- What fails before the data are looked at refuses the write. -/
theorem checkWrite_of_front {s : State} {p : Path} {i j c : Nat} (h : frontCheck s p i j = .error c) (d : List Byte) :
    checkWrite s p i j d = .error c := by
  rw [checkWrite, h]

/-- Once the row is known, the access and then the mode decide. -/
theorem frontCheck_of_row {s : State} {i j : Nat} {r : ObjRow} (hi : s.hasIndex i = true) (hr : rowOf i j = some r) (p : Path) :
    frontCheck s p i j = match accessCheck r p i j with
      | some c => .error c
      | none => match modeCheck s r p with
        | some c => .error c
        | none => .ok r := by
  simp only [frontCheck, hi, hr, Bool.not_true, Bool.false_eq_true, if_false] <;> rfl

/-- An access that the object or the path does not allow decides before the mode. -/
theorem checkWrite_of_access {s : State} {p : Path} {i j c : Nat} {r : ObjRow} (hi : s.hasIndex i = true) (hr : rowOf i j = some r)
    (h : accessCheck r p i j = some c) (d : List Byte) : checkWrite s p i j d = .error c :=
  checkWrite_of_front (by rw [frontCheck_of_row hi hr, h]) d

/-- A mode that does not allow the write decides once the access is allowed. -/
theorem checkWrite_of_mode {s : State} {p : Path} {i j c : Nat} {r : ObjRow} (hi : s.hasIndex i = true) (hr : rowOf i j = some r)
    (ha : accessCheck r p i j = none) (h : modeCheck s r p = some c) (d : List Byte) : checkWrite s p i j d = .error c :=
  checkWrite_of_front (by rw [frontCheck_of_row hi hr, ha, h]) d

section
variable {s : State} {r : ObjRow} {p : Path} {i j : Nat}

/-- Over another path than the Arcade only the object's own access counts. -/
theorem accessCheck_local (hp : p.isArcade = false) (hro : r.acc ≠ .ro) (hconst : r.acc ≠ .const) : accessCheck r p i j = none := by
  unfold accessCheck
  cases hacc : r.acc <;> simp_all

/-- An rw-L object is kept from the Arcade only as SEAL_CRC. -/
theorem accessCheck_rwL (hacc : r.acc = .rwL) (h : ¬(p.isArcade = true ∧ i = 0x2900 ∧ j = 1)) : accessCheck r p i j = none := by
  simp only [accessCheck, hacc]
  rw [if_neg]
  simpa [and_assoc] using h

theorem accessCheck_rw (hacc : r.acc = .rw ∨ r.acc = .wo ∨ r.acc = .rwL) (h : ¬(i = 0x2900 ∧ j = 1)) : accessCheck r p i j = none := by
  have hnot : ¬((p.isArcade && i == 0x2900 && j == 1) = true) := fun e => h (by simp_all)
  rcases hacc with hacc | hacc | hacc <;> simp only [accessCheck, hacc, if_neg hnot]

/-- An rw-S object is written in READY at phase 0 alone. -/
theorem modeCheck_rwS (hacc : r.acc = .rwS) (h : s.mode ≠ .ready ∨ s.phase ≠ 0) : modeCheck s r p = some abortState := by
  have hok : (decide (s.mode = .ready) && s.phase == 0) = false := by
    rcases h with h | h <;> simp [h]
  simp only [modeCheck, hacc, hok]
  rfl

/-- An rw-L object and a key are written in READY and LOCKOUT at phase 0 alone. -/
theorem modeCheck_rwL (hacc : r.acc = .rwL ∨ r.acc = .key) (h : (s.mode ≠ .ready ∧ s.mode ≠ .lockout) ∨ s.phase ≠ 0) :
    modeCheck s r p = some abortState := by
  have hok : ((decide (s.mode = .ready) || decide (s.mode = .lockout)) && s.phase == 0) = false := by
    rcases h with ⟨h1, h2⟩ | h
    · simp [h1, h2]
    · simp [h]
  rcases hacc with hacc | hacc <;> simp only [modeCheck, hacc, hok] <;> rfl

/-- Before lock nothing is written over the Arcade. -/
theorem modeCheck_unlocked (hp : p.isArcade = true) (hlock : s.timeLocked = false) : modeCheck s r p = some abortState := by
  simp only [modeCheck, hp, hlock, Bool.not_false, Bool.and_self, if_true, ite_self]

end

/-- Settles O16: the access check, the mode check and the checks of the data, each where those before it pass. -/
theorem checkOrderOfWrites : Obligations.CheckOrderOfWrites := by
  unfold Obligations.CheckOrderOfWrites
  refine ⟨fun s p i j d hi => ?_, fun s p i j d hi hr => ?_, fun s p i j d r hi hr => ⟨?_, ?_, ?_, ?_, ?_, ?_, ?_⟩, fun s p i j r hf => ?_,
    fun s p i j k d r hf hd hk hlen => ?_, fun s p i j k d r hf hd hk hlen hdec => ?_, fun s p i j k d r v hf hd hk hlen hdec hbad => ?_⟩
  · exact checkWrite_of_front (by rw [frontCheck, hi]; rfl) d
  · exact checkWrite_of_front (by rw [frontCheck, hi, hr]; rfl) d
  · rintro (hacc | hacc) <;> exact checkWrite_of_access hi hr (by rw [accessCheck, hacc]; rfl) d
  · rintro (hacc | hacc) hp <;> exact checkWrite_of_access hi hr (by rw [accessCheck, hacc]; simp [hp, abortLocal]) d
  · rintro rfl rfl hp
    have hrow : rowOf 0x2900 1 = some r := hr
    have hacc : (rowOf 0x2900 1).map ObjRow.acc = some .rwL := by decide +kernel
    rw [hrow, Option.map_some, Option.some.injEq] at hacc
    exact checkWrite_of_access hi hr (by rw [accessCheck, hacc]; simp [hp, abortLocal]) d
  · exact fun hacc hp hm => checkWrite_of_mode hi hr (accessCheck_local hp (by simp [hacc]) (by simp [hacc])) (modeCheck_rwS hacc hm) d
  · exact fun hacc hp hm => checkWrite_of_mode hi hr (accessCheck_local hp (by simp [hacc]) (by simp [hacc])) (modeCheck_rwL (.inr hacc) hm) d
  · exact fun hacc hn hm => checkWrite_of_mode hi hr (accessCheck_rwL hacc hn) (modeCheck_rwL (.inl hacc) hm) d
  · exact fun hacc hn hp hl => checkWrite_of_mode hi hr (accessCheck_rw hacc hn) (modeCheck_unlocked hp hl) d
  · simp only [checkWrite, hf, lenCheck, lenOk, List.length_nil, if_true]
    rfl
  · have hlc : lenCheck r.ty i d = some abortLen := by simp [lenCheck, lenOk, hd, hk, hlen]
    simp only [checkWrite, hf, hlc]
    rfl
  · have hlc : lenCheck r.ty i d = none := by simp [lenCheck, lenOk, hk, ← hlen, hd]
    simp only [checkWrite, hf, hlc, hdec]
    rfl
  · have hlc : lenCheck r.ty i d = none := by simp [lenCheck, lenOk, hk, ← hlen, hd]
    have hno : (r.rng.admits r.ty v && orderOk (s.seen i) i j (keyOf i j) v) = false := by
      rcases hbad with hbad | hbad <;> simp [hbad]
    simp only [checkWrite, hf, hlc, hdec, hno]
    rfl

end Sys2Proof.Machine
end

section
/-! A re-initialisation of an enabled string takes the writes that wait for a control step before it decides what the trunk does (R82). A
waiting write of ENABLE itself, which no command of the model leaves there but the state allows, then finds the string disabled. -/
namespace Sys2Proof.Machine
set_option Elab.async false

/-- A write is taken at once where the checks, evaluated, pass with its value. -/
theorem State.takesWrite_of_checks {s : State} {p : Path} {index sub : Nat} {d : List Byte} {v : Val} (hserves : s.serves p = true)
    (hwait : s.mustWait = false) (hcheck : (checkWrite s p index sub d).toOption.map Prod.fst = some v) :
    s.takesWrite p index sub d v := by
  refine ⟨⟨hserves, hwait⟩, ?_⟩
  cases hc : checkWrite s p index sub d with
  | error c => simp [hc, Except.toOption] at hcheck
  | ok x =>
    obtain ⟨w, r⟩ := x
    simp only [hc, Except.toOption, Option.map_some, Option.some.injEq] at hcheck
    exact ⟨r, by rw [← hcheck]⟩

/-- A module in READY with string 0 enabled, of one position, for which a write of 0 to ENABLE waits. -/
def State.disableWaits : State :=
  { State.reset with
    md := { mode := .ready }
    dict := [(Gal.STRING_CFG.ENABLE 0, .n 1), (Gal.STRING_CFG.POSITION_COUNT 0, .n 1)]
    gal := { held := [(Gal.STRING_CFG.ENABLE 0, .n 0)] } :: List.replicate 31 {} }

/-- Refutes O13: where a write of 0 to ENABLE waits, step 2 of the ladder finds the string disabled and answers RESULT 2, not 1. -/
theorem not_modeRequestsComplete : ¬ Obligations.ModeRequestsComplete := by
  intro h
  obtain ⟨-, -, -, -, -, -, -, -, -, -, -, -, -, -, hclause, -⟩ := h
  obtain ⟨t, hrun, -, hresult, -⟩ := hclause .disableWaits .canA 0 (by decide) (by decide +kernel) (by decide +kernel)
    (State.takesWrite_of_checks (by decide +kernel) (by decide +kernel) (by decide +kernel))
  have hvalue : (outState (exec (.ladderReinitialise .canA 1 0) .disableWaits) .reset).getN Obj.RESET_LADDER.RESULT = 2 := by
    decide +kernel
  rw [hrun] at hvalue
  exact absurd (hresult.symm.trans hvalue) (by decide)

/-- Refutes O18: where a write of 0 to ENABLE waits, the re-initialisation finds the string disabled and answers RESULT 2, not 1. -/
theorem not_plainWritesAndSelectors : ¬ Obligations.PlainWritesAndSelectors := by
  intro h
  obtain ⟨-, -, -, -, -, -, -, -, -, -, -, -, hclause, -⟩ := h
  obtain ⟨t, hrun, -, hresult, -⟩ := hclause .disableWaits .canA 0 (by decide)
    (State.takesWrite_of_checks (by decide +kernel) (by decide +kernel) (by decide +kernel)) (by decide +kernel) (by decide +kernel)
  have hvalue : (outState (exec (.blockCtrlReinitialise .canA 0) .disableWaits) .reset).getN (Gal.BLOCK_CTRL.RESULT 0) = 2 := by
    decide +kernel
  rw [hrun] at hvalue
  exact absurd (hresult.symm.trans hvalue) (by decide)

end Sys2Proof.Machine
end

section
/-! A wake from WATCH starts the blocks anew (R64), and each enabled string first takes the writes that wait for a control step (R82). The
state allows a waiting write of any object there, also of one that the wake has just set. -/
namespace Sys2Proof.Machine
set_option Elab.async false

/-- A module in WATCH with string 0 enabled, of one position, for which a write of 0x55 to LAST_CAUSE waits. -/
def State.causeWaits : State :=
  { State.reset with
    md := { mode := .watch }
    dict := [(Obj.MODE_STATUS.MODE, .n 2), (Gal.STRING_CFG.ENABLE 0, .n 1), (Gal.STRING_CFG.POSITION_COUNT 0, .n 1)]
    gal := { held := [(Obj.MODE_STATUS.LAST_CAUSE, .n 0x55)] } :: List.replicate 31 {} }

/-- Refutes O14: where a write of LAST_CAUSE waits, the wake by WAKE_IN leaves the waiting value there, not cause 8. -/
theorem not_modeTransitionsComplete : ¬ Obligations.ModeTransitionsComplete := by
  intro h
  obtain ⟨-, -, -, -, -, -, -, -, -, -, -, -, hclause, -⟩ := h
  obtain ⟨t, hrun, -, hcause⟩ := hclause .causeWaits (by decide +kernel) (by decide +kernel)
  have hvalue : (outState (exec .wakeIn .causeWaits) .reset).getN Obj.MODE_STATUS.LAST_CAUSE = 0x55 := by
    decide +kernel
  rw [hrun] at hvalue
  exact absurd (hcause.symm.trans hvalue) (by decide)

end Sys2Proof.Machine
end

section
/-! A failed stack check ends WATCH as a wake does (R162), and that start of the blocks takes the waiting writes of every enabled string. -/
namespace Sys2Proof.Machine
set_option Elab.async false

/-- `State.causeWaits` with string 0 selected for the stack check, which is due. -/
def State.causeWaitsForCheck : State :=
  ({ State.causeWaits with root := 10 ^ 15 }).setN Obj.WATCH_CFG.STRING_MASK 1

/-- Refutes O34: where a write of LAST_CAUSE waits, a stack check without a result of its string leaves the waiting value there, not
cause 0x0B. -/
theorem not_flightUpkeepComplete : ¬ Obligations.FlightUpkeepComplete := by
  intro h
  obtain ⟨-, -, -, -, -, -, -, -, -, -, -, -, -, hclause⟩ := h
  have hother : ∀ m, m ≠ 0 → State.causeWaitsForCheck.watchChecks m = false := by
    intro m hm
    have hmask : State.causeWaitsForCheck.getN Obj.WATCH_CFG.STRING_MASK = 1 := by decide +kernel
    have hbit : bit 1 m = false := by
      obtain ⟨k, rfl⟩ := Nat.exists_eq_succ_of_ne_zero hm
      simp [bit, Nat.testBit_succ]
    rw [State.watchChecks, hmask, hbit, Bool.and_false]
  obtain ⟨t, hrun, -, hcause, -⟩ :=
    hclause .causeWaitsForCheck 0 (by decide +kernel) (by decide +kernel) (by decide +kernel) (by decide +kernel) hother
  have hvalue : (outState (exec (.watchCheck []) .causeWaitsForCheck) .reset).getN Obj.MODE_STATUS.LAST_CAUSE = 0x55 := by
    decide +kernel
  rw [hrun] at hvalue
  exact absurd (hcause.symm.trans hvalue) (by decide)

end Sys2Proof.Machine
end

section
/-! Reading after a change: the bits of a word, and an object after a change of another part of the state or of an object. -/
namespace Sys2Proof.Machine
set_option Elab.async false

/-! ### Bits of a word -/

theorem bit_clearBits (n m i : Nat) : bit (clearBits n m) i = (bit n i && !bit m i) := by
  unfold bit clearBits
  induction i generalizing n m with
  | zero =>
    have hle : n &&& m ≤ n := Nat.and_le_left
    have hmod : (n &&& m) % 2 = (n % 2) &&& (m % 2) := Nat.and_mod_two_pow (n := 1)
    have hlow : (n - (n &&& m)) % 2 = n % 2 - (n % 2 &&& m % 2) := by
      have : (n % 2 &&& m % 2) ≤ n % 2 := Nat.and_le_left
      omega
    simp only [Nat.testBit_zero, hlow]
    rcases Nat.mod_two_eq_zero_or_one n with hn | hn <;> rcases Nat.mod_two_eq_zero_or_one m with hm | hm <;> simp [hn, hm]
  | succ i ih =>
    have hhalf : (n - (n &&& m)) / 2 = n / 2 - (n / 2 &&& m / 2) := by
      have hle : n &&& m ≤ n := Nat.and_le_left
      have hdiv : (n &&& m) / 2 = n / 2 &&& m / 2 := Nat.and_div_two
      have hmod : (n &&& m) % 2 = (n % 2) &&& (m % 2) := Nat.and_mod_two_pow (n := 1)
      have hlow : (n &&& m) % 2 ≤ n % 2 := hmod ▸ Nat.and_le_left
      omega
    rw [Nat.testBit_succ, hhalf, ih, Nat.testBit_succ, Nat.testBit_succ]

theorem bit_or (n m i : Nat) : bit (n ||| m) i = (bit n i || bit m i) := Nat.testBit_or ..

theorem bit_two_pow (i j : Nat) : bit (2 ^ i) j = decide (i = j) := Nat.testBit_two_pow

theorem withBit_false (n i : Nat) : withBit n i false = clearBits n (2 ^ i) := by
  unfold withBit clearBits
  rw [if_neg (by decide), Nat.and_two_pow]
  cases h : n.testBit i <;> simp

theorem bit_withBit (n i j : Nat) (b : Bool) : bit (withBit n i b) j = if j = i then b else bit n j := by
  cases b
  · rw [withBit_false, bit_clearBits, bit_two_pow]
    rcases eq_or_ne i j with rfl | h
    · simp
    · simp [h, h.symm]
  · rw [withBit, if_pos rfl, bit_or, bit_two_pow]
    rcases eq_or_ne i j with rfl | h
    · simp
    · simp [h, h.symm]

@[simp] theorem bit_withBit_same (n i : Nat) (b : Bool) : bit (withBit n i b) i = b := by simp [bit_withBit]

@[simp] theorem bit_zero (i : Nat) : bit 0 i = false := Nat.zero_testBit i

/-! ### Objects: every write is a put -/

namespace State
variable (s : State) (k k' : Nat)

@[simp] theorem setN_eq_put (x : Nat) : s.setN k x = s.put k (.n x) := rfl
@[simp] theorem setI_eq_put (x : Int) : s.setI k x = s.put k (.i x) := rfl
@[simp] theorem setR_eq_put (x : Option Q) : s.setR k x = s.put k (.r x) := rfl
@[simp] theorem setB_eq_put (x : List Byte) : s.setB k x = s.put k (.b x) := rfl
@[simp] theorem setFlag_eq_put (i : Nat) (b : Bool) : s.setFlag k i b = s.put k (.n (withBit (s.getN k) i b)) := rfl
@[simp] theorem raise_eq_put (i : Nat) : s.raise k i = s.put k (.n (withBit (s.getN k) i true)) := rfl
@[simp] theorem inc_eq_put : s.inc k = s.put k (.n (min 0xFFFFFFFF (s.getN k + 1))) := rfl
@[simp] theorem addTo_eq_put (x : Nat) : s.addTo k x = s.put k (.n (min 0xFFFFFFFF (s.getN k + x))) := rfl
@[simp] theorem clear_eq_put (m : Nat) : s.clear k m = s.put k (.n (clearBits (s.getN k) m)) := rfl
@[simp] theorem flag_eq_bit (i : Nat) : s.flag k i = bit (s.getN k) i := rfl
@[simp] theorem getQ_eq_getR : s.getQ k = (s.getR k).getD 0 := rfl

@[simp] theorem val_put_eq (v : Val) : (s.put k v).val k' = if k' = k then v else s.val k' := s.val_put k k' v
@[simp] theorem getN_put (v : Val) : (s.put k v).getN k' = if k' = k then v.toN else s.getN k' := by
  rw [getN, val_put, apply_ite Val.toN, getN]
@[simp] theorem getI_put (v : Val) : (s.put k v).getI k' = if k' = k then v.toI else s.getI k' := by
  rw [getI, val_put, apply_ite Val.toI, getI]
@[simp] theorem getR_put (v : Val) : (s.put k v).getR k' = if k' = k then v.toR else s.getR k' := by
  rw [getR, val_put, apply_ite Val.toR, getR]
@[simp] theorem getB_put (v : Val) : (s.put k v).getB k' = if k' = k then v.toB else s.getB k' := by
  rw [getB, val_put, apply_ite Val.toB, getB]

end State

@[simp] theorem Val.toN_n (x : Nat) : (Val.n x).toN = x := rfl
@[simp] theorem Val.toI_i (x : Int) : (Val.i x).toI = x := rfl
@[simp] theorem Val.toR_r (x : Option Q) : (Val.r x).toR = x := rfl
@[simp] theorem Val.toB_b (x : List Byte) : (Val.b x).toB = x := rfl

/-! ### Objects after a change of another part of the state -/

namespace State
variable (s : State) (k : Nat)

@[simp] theorem val_updG (n : Nat) (f) : (s.updG n f).val k = s.val k := rfl
@[simp] theorem getN_updG (n : Nat) (f) : (s.updG n f).getN k = s.getN k := rfl
@[simp] theorem getI_updG (n : Nat) (f) : (s.updG n f).getI k = s.getI k := rfl
@[simp] theorem getR_updG (n : Nat) (f) : (s.updG n f).getR k = s.getR k := rfl
@[simp] theorem getB_updG (n : Nat) (f) : (s.updG n f).getB k = s.getB k := rfl

@[simp] theorem val_updMd (f) : (s.updMd f).val k = s.val k := rfl
@[simp] theorem getN_updMd (f) : (s.updMd f).getN k = s.getN k := rfl
@[simp] theorem getI_updMd (f) : (s.updMd f).getI k = s.getI k := rfl
@[simp] theorem getR_updMd (f) : (s.updMd f).getR k = s.getR k := rfl
@[simp] theorem getB_updMd (f) : (s.updMd f).getB k = s.getB k := rfl

@[simp] theorem val_updVest (f) : (s.updVest f).val k = s.val k := rfl
@[simp] theorem getN_updVest (f) : (s.updVest f).getN k = s.getN k := rfl
@[simp] theorem getI_updVest (f) : (s.updVest f).getI k = s.getI k := rfl
@[simp] theorem getR_updVest (f) : (s.updVest f).getR k = s.getR k := rfl
@[simp] theorem getB_updVest (f) : (s.updVest f).getB k = s.getB k := rfl

@[simp] theorem val_updNand (f) : (s.updNand f).val k = s.val k := rfl
@[simp] theorem getN_updNand (f) : (s.updNand f).getN k = s.getN k := rfl
@[simp] theorem getI_updNand (f) : (s.updNand f).getI k = s.getI k := rfl
@[simp] theorem getR_updNand (f) : (s.updNand f).getR k = s.getR k := rfl
@[simp] theorem getB_updNand (f) : (s.updNand f).getB k = s.getB k := rfl

@[simp] theorem val_updRec (f) : (s.updRec f).val k = s.val k := rfl
@[simp] theorem getN_updRec (f) : (s.updRec f).getN k = s.getN k := rfl
@[simp] theorem getI_updRec (f) : (s.updRec f).getI k = s.getI k := rfl
@[simp] theorem getR_updRec (f) : (s.updRec f).getR k = s.getR k := rfl
@[simp] theorem getB_updRec (f) : (s.updRec f).getB k = s.getB k := rfl

@[simp] theorem val_updSafe (f) : (s.updSafe f).val k = s.val k := rfl
@[simp] theorem getN_updSafe (f) : (s.updSafe f).getN k = s.getN k := rfl
@[simp] theorem getI_updSafe (f) : (s.updSafe f).getI k = s.getI k := rfl
@[simp] theorem getR_updSafe (f) : (s.updSafe f).getR k = s.getR k := rfl
@[simp] theorem getB_updSafe (f) : (s.updSafe f).getB k = s.getB k := rfl

@[simp] theorem val_updRed (f) : (s.updRed f).val k = s.val k := rfl
@[simp] theorem getN_updRed (f) : (s.updRed f).getN k = s.getN k := rfl
@[simp] theorem getI_updRed (f) : (s.updRed f).getI k = s.getI k := rfl
@[simp] theorem getR_updRed (f) : (s.updRed f).getR k = s.getR k := rfl
@[simp] theorem getB_updRed (f) : (s.updRed f).getB k = s.getB k := rfl

@[simp] theorem val_updArc (f) : (s.updArc f).val k = s.val k := rfl
@[simp] theorem getN_updArc (f) : (s.updArc f).getN k = s.getN k := rfl
@[simp] theorem getI_updArc (f) : (s.updArc f).getI k = s.getI k := rfl
@[simp] theorem getR_updArc (f) : (s.updArc f).getR k = s.getR k := rfl
@[simp] theorem getB_updArc (f) : (s.updArc f).getB k = s.getB k := rfl

@[simp] theorem val_updTime (f) : (s.updTime f).val k = s.val k := rfl
@[simp] theorem getN_updTime (f) : (s.updTime f).getN k = s.getN k := rfl
@[simp] theorem getI_updTime (f) : (s.updTime f).getI k = s.getI k := rfl
@[simp] theorem getR_updTime (f) : (s.updTime f).getR k = s.getR k := rfl
@[simp] theorem getB_updTime (f) : (s.updTime f).getB k = s.getB k := rfl

@[simp] theorem val_updDisp (f) : (s.updDisp f).val k = s.val k := rfl
@[simp] theorem getN_updDisp (f) : (s.updDisp f).getN k = s.getN k := rfl
@[simp] theorem getI_updDisp (f) : (s.updDisp f).getI k = s.getI k := rfl
@[simp] theorem getR_updDisp (f) : (s.updDisp f).getR k = s.getR k := rfl
@[simp] theorem getB_updDisp (f) : (s.updDisp f).getB k = s.getB k := rfl

@[simp] theorem val_updChan (n : Nat) (f) : (s.updChan n f).val k = s.val k := rfl
@[simp] theorem getN_updChan (n : Nat) (f) : (s.updChan n f).getN k = s.getN k := rfl
@[simp] theorem getI_updChan (n : Nat) (f) : (s.updChan n f).getI k = s.getI k := rfl
@[simp] theorem getR_updChan (n : Nat) (f) : (s.updChan n f).getR k = s.getR k := rfl
@[simp] theorem getB_updChan (n : Nat) (f) : (s.updChan n f).getB k = s.getB k := rfl

@[simp] theorem val_updCan (n : Nat) (f) : (s.updCan n f).val k = s.val k := rfl
@[simp] theorem getN_updCan (n : Nat) (f) : (s.updCan n f).getN k = s.getN k := rfl
@[simp] theorem getI_updCan (n : Nat) (f) : (s.updCan n f).getI k = s.getI k := rfl
@[simp] theorem getR_updCan (n : Nat) (f) : (s.updCan n f).getR k = s.getR k := rfl
@[simp] theorem getB_updCan (n : Nat) (f) : (s.updCan n f).getB k = s.getB k := rfl

@[simp] theorem val_updTwa (f) : (s.updTwa f).val k = s.val k := rfl
@[simp] theorem getN_updTwa (f) : (s.updTwa f).getN k = s.getN k := rfl
@[simp] theorem getI_updTwa (f) : (s.updTwa f).getI k = s.getI k := rfl
@[simp] theorem getR_updTwa (f) : (s.updTwa f).getR k = s.getR k := rfl
@[simp] theorem getB_updTwa (f) : (s.updTwa f).getB k = s.getB k := rfl

@[simp] theorem val_updTwb (f) : (s.updTwb f).val k = s.val k := rfl
@[simp] theorem getN_updTwb (f) : (s.updTwb f).getN k = s.getN k := rfl
@[simp] theorem getI_updTwb (f) : (s.updTwb f).getI k = s.getI k := rfl
@[simp] theorem getR_updTwb (f) : (s.updTwb f).getR k = s.getR k := rfl
@[simp] theorem getB_updTwb (f) : (s.updTwb f).getB k = s.getB k := rfl

@[simp] theorem val_updUpd (f) : (s.updUpd f).val k = s.val k := rfl
@[simp] theorem getN_updUpd (f) : (s.updUpd f).getN k = s.getN k := rfl
@[simp] theorem getI_updUpd (f) : (s.updUpd f).getI k = s.getI k := rfl
@[simp] theorem getR_updUpd (f) : (s.updUpd f).getR k = s.getR k := rfl
@[simp] theorem getB_updUpd (f) : (s.updUpd f).getB k = s.getB k := rfl

@[simp] theorem getI_reply (r : Reply) : (s.reply r).getI k = s.getI k := rfl
@[simp] theorem getR_reply (r : Reply) : (s.reply r).getR k = s.getR k := rfl
@[simp] theorem getB_reply (r : Reply) : (s.reply r).getB k = s.getB k := rfl

end State

/-! ### Keys of one block -/

@[simp] theorem galKey_inj (n a b c d : Nat) : galKey n a b = galKey n c d ↔ keyOf a b = keyOf c d := by
  unfold galKey keyOf
  omega

@[simp] theorem chnKey_inj (n a b c d : Nat) : chnKey n a b = chnKey n c d ↔ keyOf a b = keyOf c d := by
  unfold chnKey keyOf
  omega

@[simp] theorem canKey_inj (n a b : Nat) : canKey n a = canKey n b ↔ a = b := by
  unfold canKey keyOf
  omega

end Sys2Proof.Machine
end

section
/-! The Arcade ports, HSR frames and supervision (R323 to R325, R327, R328). -/
namespace Sys2Proof.Machine
set_option Elab.async false

/-- An instruction that ends in a state: what holds of the state it ends in. -/
@[simp] theorem exists_next {u : State} {P : State → Prop} : (∃ t, (Host.Outcome.next u : Out) = .next t ∧ P t) ↔ P u := by simp

namespace State
variable (s : State)

theorem portUp_iff (west : Bool) :
    s.portUp west = true ↔ s.getN Obj.ARCADE_STATUS.BYPASS = 2 ∧ s.getN (portKey west) = 2 := by
  simp [portUp]

/-- Whether a copy of a frame has come in within the last 400 ms. -/
def recentCopy (f : HsrFrame) : Bool :=
  (s.arc.dups.filter (fun e => decide (s.root < e.2.2 + msTicks 400))).any (fun e => decide (e.1 = f.mac) && decide (e.2.1 = f.seq))

theorem recentCopy_iff (f : HsrFrame) :
    s.recentCopy f = true ↔ ∃ e ∈ s.arc.dups, e.1 = f.mac ∧ e.2.1 = f.seq ∧ s.root < e.2.2 + msTicks 400 := by
  simp only [recentCopy, List.any_eq_true, List.mem_filter, decide_eq_true_eq, Bool.and_eq_true]
  exact ⟨fun ⟨e, ⟨he, hr⟩, hm, hs⟩ => ⟨e, he, hm, hs, hr⟩, fun ⟨e, he, hm, hs, hr⟩ => ⟨e, ⟨he, hr⟩, hm, hs⟩⟩

theorem recentCopy_eq_false {f : HsrFrame} (h : ∀ e ∈ s.arc.dups, e.1 = f.mac → e.2.1 = f.seq → e.2.2 + msTicks 400 ≤ s.root) :
    s.recentCopy f = false := by
  rw [Bool.eq_false_iff, ne_eq, recentCopy_iff]
  rintro ⟨e, he, hm, hs, hr⟩
  exact absurd (h e he hm hs) (by omega)

/-- A node that is heard stands in the node table. -/
theorem mem_nodeHeard (west : Bool) (mac : Nat) : ∃ n ∈ (s.nodeHeard west mac).arc.nodes, n.mac = mac ∧ n.at_ = s.root := by
  unfold nodeHeard
  simp only [updArc]
  cases hf : (s.arc.nodes.filter (fun n => !s.passed n.at_ (secTicks 60))).find? (fun n => decide (n.mac = mac)) with
  | none => exact ⟨_, List.mem_cons_self .., rfl, rfl⟩
  | some n =>
    have hmac : n.mac = mac := by simpa using List.find?_some hf
    exact ⟨_, List.mem_cons_self .., hmac, rfl⟩

/-- A frame of another node is heard: the node enters the table, the frame goes on unless it is for this module alone, and copies older than
400 ms are forgotten. -/
def frameHeard (west : Bool) (f : HsrFrame) : State :=
  (s.nodeHeard west f.mac).updArc (fun a => { a with
    fwd := if f.dest = macOf s.serial then none else some f
    dups := a.dups.filter (fun e => decide (s.root < e.2.2 + msTicks 400)) })

/-- A frame that is taken: it is remembered, and counted where it is for this module alone. -/
def frameTaken (west : Bool) (f : HsrFrame) : State :=
  let u := (s.frameHeard west f).updArc (fun a => { a with dups := (f.mac, f.seq, s.root) :: a.dups })
  if f.dest = macOf s.serial then u.inc Obj.ARCADE_STATUS.FRAMES_RX else u

end State

theorem bypassInsert_inserts {s : State} (h : s.getN Obj.ARCADE_STATUS.BYPASS = 1) :
    ∃ t, exec .bypassInsert s = .next t ∧ t.getN Obj.ARCADE_STATUS.BYPASS = 2 ∧ t.getN Obj.ARCADE_STATUS.RING_STATE = 1 ∧
      t.getN Obj.ARCADE_STATUS.PORT_E = 0 ∧ t.getN Obj.ARCADE_STATUS.PORT_W = 0 ∧ t.arc = s.arc := by
  refine ⟨_, by rw [exec, execBypassInsert, if_pos h], ?_⟩
  simp (decide := true)

theorem bypassTestTimeout_raises {s : State} {e w : Bool} (h : s.getN Obj.ARCADE_STATUS.BYPASS = 1)
    (hp : s.passed s.arc.testAt (secTicks 5) = true) (hew : (e && w) = false) :
    ∃ t, exec (.bypassTestTimeout e w) s = .next t ∧ t.arc.testAt = s.root ∧ (e = false → t.flag Obj.ARCADE_STATUS.FLAGS 1 = true) ∧
      (w = false → t.flag Obj.ARCADE_STATUS.FLAGS 2 = true) ∧ s.sameBut t [Obj.ARCADE_STATUS.FLAGS] := by
  refine ⟨_, by rw [exec, execBypassTestTimeout, if_pos ⟨h, hp, hew⟩], ?_⟩
  cases e <;> cases w <;> simp_all (decide := true) [State.sameBut, bit_withBit]

theorem arcadeLinkLoss_lowers {s : State} {west : Bool} (h : s.portUp west = true) :
    ∃ t, exec (.arcadeLinkLoss west) s = .next t ∧ t.getN (portKey west) = 0 ∧
      t.flag Obj.ARCADE_STATUS.FLAGS (if west then 2 else 1) = true ∧ s.sameBut t [portKey west, Obj.ARCADE_STATUS.FLAGS] := by
  refine ⟨_, by rw [exec, execArcadeLinkLoss, if_pos h], ?_⟩
  cases west <;> simp +contextual (decide := true) [State.sameBut, portKey]

theorem arcadeLinkUp_raises {s : State} {west fullDuplex pause : Bool} (hb : s.getN Obj.ARCADE_STATUS.BYPASS = 2)
    (hp : s.getN (portKey west) = 0) (ha : s.getN Obj.ARCADE_CFG.AUTONEG ≠ 1 ∨ (fullDuplex = true ∧ pause = false)) :
    ∃ t, exec (.arcadeLinkUp ⟨west, fullDuplex, pause⟩) s = .next t ∧ t.portUp west = true ∧
      (s.anyPortUp = false → t.time.listenAt = s.root) ∧ s.sameBut t [portKey west] := by
  have hfree : (s.getN Obj.ARCADE_CFG.AUTONEG == 1 && (!fullDuplex || pause)) = false := by
    rcases ha with ha | ⟨rfl, rfl⟩
    · simp [ha]
    · simp
  simp only [exec, execArcadeLinkUp, hb, hp, hfree, and_self, if_true, exists_next]
  cases west <;> cases s.anyPortUp <;> simp +contextual (decide := true) [State.sameBut, State.portUp, portKey, hb]

theorem arcadeLinkUp_refused {s : State} {west fullDuplex pause : Bool} (ha : s.getN Obj.ARCADE_CFG.AUTONEG = 1)
    (hr : fullDuplex = false ∨ pause = true) : exec (.arcadeLinkUp ⟨west, fullDuplex, pause⟩) s = .next s := by
  have : (s.getN Obj.ARCADE_CFG.AUTONEG == 1 && (!fullDuplex || pause)) = true := by
    rcases hr with rfl | rfl <;> simp [ha]
  simp [exec, execArcadeLinkUp, this]

theorem hsrFrameRx_bad {s : State} {west : Bool} {f : HsrFrame} (hp : s.portUp west = true) (hb : f.bad = true) :
    ∃ t, exec (.hsrFrameRx west f) s = .next t ∧
      t.getN Obj.ARCADE_STATUS.RX_ERRORS = min 0xFFFFFFFF (s.getN Obj.ARCADE_STATUS.RX_ERRORS + 1) ∧ t.arc = s.arc ∧
      s.sameBut t [Obj.ARCADE_STATUS.RX_ERRORS] := by
  refine ⟨s.inc Obj.ARCADE_STATUS.RX_ERRORS, by simp [exec, execHsrFrameRx, hp, hb], ?_⟩
  simp +contextual [State.sameBut]

theorem hsrFrameRx_own {s : State} {west : Bool} {f : HsrFrame} (hp : s.portUp west = true) (hb : f.bad = false)
    (hm : f.mac = macOf s.serial) :
    ∃ t, exec (.hsrFrameRx west f) s = .next t ∧ t.arc.fwd = none ∧
      (f.supervision = true → (if west then s.arc.backE else s.arc.backW) = true → t.getN Obj.ARCADE_STATUS.RING_STATE = 2) := by
  cases hs : f.supervision <;>
    simp only [exec, execHsrFrameRx, hp, hb, hm, hs, Bool.not_true, Bool.false_eq_true, if_false, if_true, exists_next] <;>
    cases west <;> cases he : s.arc.backE <;> cases hw : s.arc.backW <;> simp [State.ringState, he, hw]

/-- What a frame of another node does. -/
theorem hsrFrameRx_other {s : State} {west : Bool} {f : HsrFrame} (hp : s.portUp west = true) (hb : f.bad = false)
    (hm : f.mac ≠ macOf s.serial) :
    exec (.hsrFrameRx west f) s = .next (
      if decide (f.dest = macOf s.serial) || macIsGroup f.dest then
        if s.recentCopy f then (s.frameHeard west f).inc Obj.ARCADE_STATUS.DUPLICATES
        else if f.supervision then (s.frameTaken west f).supervised west f.mac else s.frameTaken west f
      else s.frameHeard west f) := by
  simp only [exec, execHsrFrameRx, hp, hb, hm, Bool.not_true, Bool.false_eq_true, if_false]
  cases hd : (decide (f.dest = macOf s.serial) || macIsGroup f.dest) with
  | false => rfl
  | true =>
    simp only [if_true]
    cases hc : s.recentCopy f with
    | true => exact if_pos hc
    | false => exact if_neg (Bool.eq_false_iff.1 hc)

theorem hsrFrameRx_taken {s : State} {west : Bool} {f : HsrFrame} (hp : s.portUp west = true) (hb : f.bad = false)
    (hm : f.mac ≠ macOf s.serial) (hd : f.dest = macOf s.serial) (hs : f.supervision = false)
    (hc : ∀ e ∈ s.arc.dups, e.1 = f.mac → e.2.1 = f.seq → e.2.2 + msTicks 400 ≤ s.root) :
    ∃ t, exec (.hsrFrameRx west f) s = .next t ∧ t.arc.fwd = none ∧ (f.mac, f.seq, s.root) ∈ t.arc.dups ∧
      t.getN Obj.ARCADE_STATUS.FRAMES_RX = min 0xFFFFFFFF (s.getN Obj.ARCADE_STATUS.FRAMES_RX + 1) ∧
      s.sameBut t [Obj.ARCADE_STATUS.FRAMES_RX] := by
  rw [hsrFrameRx_other hp hb hm]
  simp only [hd, hs, s.recentCopy_eq_false hc, decide_true, Bool.true_or, Bool.false_eq_true, if_true, if_false, exists_next,
    State.frameTaken, State.frameHeard]
  have hkeep (k : Nat) : (s.nodeHeard west f.mac).val k = s.val k := rfl
  have hcount : (s.nodeHeard west f.mac).getN Obj.ARCADE_STATUS.FRAMES_RX = s.getN Obj.ARCADE_STATUS.FRAMES_RX := rfl
  simp +contextual [State.sameBut, hkeep, hcount]

theorem hsrFrameRx_duplicate {s : State} {west : Bool} {f : HsrFrame} (hp : s.portUp west = true) (hb : f.bad = false)
    (hm : f.mac ≠ macOf s.serial) (hd : f.dest = macOf s.serial ∨ macIsGroup f.dest = true)
    (hc : ∃ e ∈ s.arc.dups, e.1 = f.mac ∧ e.2.1 = f.seq ∧ s.root < e.2.2 + msTicks 400) :
    ∃ t, exec (.hsrFrameRx west f) s = .next t ∧ t.arc.fwd = (if f.dest = macOf s.serial then none else some f) ∧
      t.getN Obj.ARCADE_STATUS.DUPLICATES = min 0xFFFFFFFF (s.getN Obj.ARCADE_STATUS.DUPLICATES + 1) ∧
      t.arc.members = s.arc.members ∧ s.sameBut t [Obj.ARCADE_STATUS.DUPLICATES] := by
  have hdest : (decide (f.dest = macOf s.serial) || macIsGroup f.dest) = true := by simpa using hd
  rw [hsrFrameRx_other hp hb hm, if_pos hdest, if_pos ((s.recentCopy_iff f).2 hc), exists_next]
  have hkeep (k : Nat) : (s.frameHeard west f).val k = s.val k := rfl
  have hcount : (s.frameHeard west f).getN Obj.ARCADE_STATUS.DUPLICATES = s.getN Obj.ARCADE_STATUS.DUPLICATES := rfl
  refine ⟨rfl, by simp [hcount], rfl, ?_⟩
  simp +contextual [State.sameBut, hkeep]

theorem hsrFrameRx_forwarded {s : State} {west : Bool} {f : HsrFrame} (hp : s.portUp west = true) (hb : f.bad = false)
    (hm : f.mac ≠ macOf s.serial) (hd : f.dest ≠ macOf s.serial) (hg : macIsGroup f.dest = false) :
    ∃ t, exec (.hsrFrameRx west f) s = .next t ∧ t.arc.fwd = some f ∧ t.dict = s.dict ∧ t.arc.members = s.arc.members ∧
      ∃ n ∈ t.arc.nodes, n.mac = f.mac ∧ n.at_ = s.root := by
  rw [hsrFrameRx_other hp hb hm, if_neg (by simp [hd, hg]), exists_next]
  exact ⟨if_neg hd, rfl, rfl, s.mem_nodeHeard west f.mac⟩

theorem hsrSupervisionTx_sends {s : State} (hp : s.anyPortUp = true)
    (hdue : ∀ at_, s.arc.lifeAt = some at_ → s.passed at_ (msTicks (s.getN Obj.ARCADE_CFG.LIFE_CHECK)) = true) :
    ∃ t, exec .hsrSupervisionTx s = .next t ∧ t.arc.lifeAt = some s.root ∧ t.arc.backE = false ∧ t.arc.backW = false ∧
      t.arc.tx = [{ dest := 0x01154E000100, seq := s.arc.seq, ether := 0x88FB, body := [] }] ∧
      t.arc.seq = (s.arc.seq + 1) % 65536 ∧
      (s.arc.lifeAt ≠ none → s.arc.backE = false → s.arc.backW = false → t.getN Obj.ARCADE_STATUS.RING_STATE = 1 ∧
        (s.getN Obj.ARCADE_STATUS.RING_STATE = 2 → t.flag Obj.ARCADE_STATUS.FLAGS 0 = true)) ∧
      (s.arc.lifeAt ≠ none → s.arc.backE = true → s.arc.backW = true → t.getN Obj.ARCADE_STATUS.RING_STATE = 2) ∧
      s.sameBut t [Obj.ARCADE_STATUS.RING_STATE, Obj.ARCADE_STATUS.FLAGS] := by
  cases hl : s.arc.lifeAt with
  | none =>
    simp only [exec, execHsrSupervisionTx, hp, hl, Bool.true_and, if_true, exists_next]
    simp [State.sameBut]
  | some at_ =>
    simp only [exec, execHsrSupervisionTx, hp, hl, hdue at_ hl, Bool.true_and, if_true, exists_next]
    by_cases hr : s.getN Obj.ARCADE_STATUS.RING_STATE = 2 <;> cases he : s.arc.backE <;> cases hw : s.arc.backW <;>
      simp +contextual (decide := true) [State.sameBut, State.ringState, hr]

/-- Settles O49: each clause is the rule above of the command it speaks of. -/
theorem ringPortsAndFrames : Obligations.RingPortsAndFrames := by
  unfold Obligations.RingPortsAndFrames
  exact ⟨fun _ => bypassInsert_inserts, fun _ _ _ => bypassTestTimeout_raises, fun _ _ => arcadeLinkLoss_lowers,
    fun _ _ _ _ => arcadeLinkUp_raises, fun _ _ _ _ => arcadeLinkUp_refused, fun _ _ _ => hsrFrameRx_bad,
    fun _ _ _ => hsrFrameRx_own, fun _ _ _ => hsrFrameRx_taken, fun _ _ _ => hsrFrameRx_duplicate,
    fun _ _ _ => hsrFrameRx_forwarded, fun _ => hsrSupervisionTx_sends⟩

end Sys2Proof.Machine
end

section
/-! What an operation may change: the parts of the state and the objects it lists, and nothing else. The relation composes along an
operation's definition, so each operation has one lemma that lists its effects; that another part or object is kept is read off the list. -/
namespace Sys2Proof.Machine
set_option Elab.async false

/-! ### Effects -/

/-- A part of the state, or objects: one object, a sub-index of an offset in every Gallery block, channel block or CAN port, and all
objects from a key on. -/
inductive Eff where
  | root | now | mode | transit | mdRest | latch | vestRest | nand | safetySet | sreqs | paused | serveNow | last | sramOut | sched
  | flush | buffer | recdRest
  | grpLen | grps | loads | inputs | chs | cmdOn | safeRest
  | galLen | trunk | head | mons | tread | prot | est | cells | held | galRest
  | red | arc | time | disp | chans | vloopAt | cans | beatAt | twa | twb | upd | origin | dies | free
  | obj (k : Nat)
  | gal (off sub : Nat)
  | chn (off sub : Nat)
  | can (sub : Nat)
  | above (k : Nat)
deriving DecidableEq

/-- Each runtime without the parts that have an effect of their own. -/
def ModeRt.rest (m : ModeRt) : ModeRt := { m with mode := .boot, transit := .none }
def Vestibule.rest (m : Vestibule) : Vestibule := { m with latch := false }
def RecorderRt.rest (m : RecorderRt) : RecorderRt := { m with flushTo := none, buffer := [] }
def SafetyRt.rest (m : SafetyRt) : SafetyRt := { m with groups := [], loads := [], inputs := [], newel := {}, baluster := {}, cmdOn := 0 }
def Gallery.rest (g : Gallery) : Gallery :=
  { g with trunk := {}, head := {}, mons := [], tread := {}, prot := {}, est := {}, cells := [], held := [] }

/-- That a part of the state is the same in both states. -/
def Eff.kept (s t : State) : Eff → Prop
  | .root => t.root = s.root
  | .now => t.now = s.now
  | .mode => t.md.mode = s.md.mode
  | .transit => t.md.transit = s.md.transit
  | .mdRest => t.md.rest = s.md.rest
  | .latch => t.vest.latch = s.vest.latch
  | .vestRest => t.vest.rest = s.vest.rest
  | .nand => t.nand = s.nand
  | .safetySet => t.safetySet = s.safetySet
  | .sreqs => t.sreqs = s.sreqs
  | .paused => t.paused = s.paused
  | .serveNow => t.serveNow = s.serveNow
  | .last => t.last = s.last
  | .sramOut => t.sramOut = s.sramOut
  | .sched => t.sched = s.sched
  | .flush => t.recd.flushTo = s.recd.flushTo
  | .buffer => t.recd.buffer = s.recd.buffer
  | .recdRest => t.recd.rest = s.recd.rest
  | .grpLen => t.safe.groups.length = s.safe.groups.length
  | .grps => t.safe.groups = s.safe.groups
  | .loads => t.safe.loads = s.safe.loads
  | .inputs => t.safe.inputs = s.safe.inputs
  | .chs => t.safe.newel = s.safe.newel ∧ t.safe.baluster = s.safe.baluster
  | .cmdOn => t.safe.cmdOn = s.safe.cmdOn
  | .safeRest => t.safe.rest = s.safe.rest
  | .galLen => t.gal.length = s.gal.length
  | .trunk => ∀ n, (t.g n).trunk = (s.g n).trunk
  | .head => ∀ n, (t.g n).head = (s.g n).head
  | .mons => ∀ n, (t.g n).mons = (s.g n).mons
  | .tread => ∀ n, (t.g n).tread = (s.g n).tread
  | .prot => ∀ n, (t.g n).prot = (s.g n).prot
  | .est => ∀ n, (t.g n).est = (s.g n).est
  | .cells => ∀ n, (t.g n).cells = (s.g n).cells
  | .held => ∀ n, (t.g n).held = (s.g n).held
  | .galRest => ∀ n, (t.g n).rest = (s.g n).rest
  | .red => t.red = s.red
  | .arc => t.arc = s.arc
  | .time => t.time = s.time
  | .disp => t.disp = s.disp
  | .chans => t.chans = s.chans
  | .vloopAt => t.vloopAt = s.vloopAt
  | .cans => t.cans = s.cans
  | .beatAt => t.beatAt = s.beatAt
  | .twa => t.twa = s.twa
  | .twb => t.twb = s.twb
  | .upd => t.upd = s.upd
  | .origin => t.origin = s.origin
  | .dies => t.dies = s.dies
  | .free => t.free = s.free
  | .obj _ | .gal _ _ | .chn _ _ | .can _ | .above _ => True

/-- Whether an object is among those of an effect. -/
def Eff.covers : Eff → Nat → Bool
  | .obj k, x => x == k
  | .gal off sub, x => decide (0x400000 ≤ x) && x / 256 % 64 == off && x % 256 == sub
  | .chn off sub, x => decide (0x300000 ≤ x) && x / 256 % 16 == off && x % 256 == sub
  | .can sub, x => decide (0x270000 ≤ x) && x % 256 == sub
  | .above k, x => decide (k ≤ x)
  | _, _ => false

theorem Eff.kept_refl (s : State) (e : Eff) : e.kept s s := by
  cases e <;> simp [Eff.kept]

theorem Eff.kept_trans {s t u : State} {e : Eff} (h : e.kept s t) (hu : e.kept t u) : e.kept s u := by
  cases e <;> simp_all [Eff.kept]

/-- From s to t only the effects of a list occur. -/
structure State.Within (s : State) (E : List Eff) (t : State) : Prop where
  kept : ∀ e, e ∉ E → e.kept s t
  val_of : ∀ k, (∀ e ∈ E, e.covers k = false) → t.val k = s.val k

/-- Some effect of a list covers an object. -/
def Eff.Cover (E : List Eff) (k : Nat) : Prop := ∃ e ∈ E, e.covers k = true

namespace Eff.Cover
variable {E : List Eff}

theorem obj {k : Nat} (h : .obj k ∈ E := by decide +kernel) : Cover E k := ⟨_, h, by simp [Eff.covers]⟩
theorem above {k : Nat} (c : Nat) (hc : c ≤ k) (h : .above c ∈ E := by decide +kernel) : Cover E k := ⟨_, h, by simpa [Eff.covers] using hc⟩
theorem gal {n off sub : Nat} (h : .gal off sub ∈ E ∧ off < 64 ∧ sub < 256 := by decide +kernel) : Cover E (galKey n off sub) := by
  obtain ⟨hm, ho, hs⟩ := h
  refine ⟨_, hm, ?_⟩
  simp only [Eff.covers, Bool.and_eq_true, decide_eq_true_eq, beq_iff_eq]
  unfold galKey keyOf
  omega
theorem chn {n off sub : Nat} (h : .chn off sub ∈ E ∧ off < 16 ∧ sub < 256 := by decide +kernel) : Cover E (chnKey n off sub) := by
  obtain ⟨hm, ho, hs⟩ := h
  refine ⟨_, hm, ?_⟩
  simp only [Eff.covers, Bool.and_eq_true, decide_eq_true_eq, beq_iff_eq]
  unfold chnKey keyOf
  omega
theorem can {p sub : Nat} (h : .can sub ∈ E ∧ sub < 256 := by decide +kernel) : Cover E (canKey p sub) := by
  obtain ⟨hm, hs⟩ := h
  refine ⟨_, hm, ?_⟩
  simp only [Eff.covers, Bool.and_eq_true, decide_eq_true_eq, beq_iff_eq]
  unfold canKey keyOf
  omega
/-- A sub-index counted from one of a Gallery block. -/
theorem galFrom {n off sub i : Nat} (h : .above 0x400000 ∈ E := by decide +kernel) : Cover E (galKey n off sub + i) :=
  above 0x400000 (by simp only [galKey, keyOf]; omega) h
theorem chnFrom {n off sub i : Nat} (h : .above 0x300000 ∈ E := by decide +kernel) : Cover E (chnKey n off sub + i) :=
  above 0x300000 (by simp only [chnKey, keyOf]; omega) h
theorem objFrom {k i : Nat} (h : .above k ∈ E := by decide +kernel) : Cover E (k + i) := above k (Nat.le_add_right ..) h
theorem keyFrom {i j : Nat} (h : .above (i * 256) ∈ E := by decide +kernel) : Cover E (keyOf i j) := above (i * 256) (Nat.le_add_right ..) h
theorem path {p : Path} {k : Nat} (h : .above 0x1000000 ∈ E := by decide +kernel) : Cover E (pathKey p k) :=
  above 0x1000000 (by unfold pathKey; cases p <;> simp only [Path.code] <;> omega) h
theorem any {k : Nat} (h : .above 0 ∈ E := by decide +kernel) : Cover E k := above 0 (Nat.zero_le _) h

end Eff.Cover

/-! ### Reading off what is kept -/

/-- Whether an effect may touch a sub-index of an offset of some Gallery block. -/
def Eff.meetsGal (off sub : Nat) : Eff → Bool
  | .obj k => decide (0x400000 ≤ k) && k / 256 % 64 == off && k % 256 == sub
  | .gal o b => o == off && b == sub
  | .chn o b => o == off % 16 && b == sub
  | .can b => b == sub
  | .above k => decide (k < 0x480000)
  | _ => false

/-- The same of a channel block, -/
def Eff.meetsChn (off sub : Nat) : Eff → Bool
  | .obj k => decide (0x300000 ≤ k) && k / 256 % 16 == off && k % 256 == sub
  | .chn o b => o == off && b == sub
  | .can b => b == sub
  | .above k => decide (k < 0x310000)
  | _ => false

/-- and of a CAN port. -/
def Eff.meetsCan (sub : Nat) : Eff → Bool
  | .obj k => decide (0x270000 ≤ k) && k % 256 == sub
  | .can b => b == sub
  | .above k => decide (k < 0x270200)
  | _ => false

namespace State.Within
variable {s t u : State} {E : List Eff}

theorem val (h : s.Within E t) {k : Nat} (hk : E.all (fun e => !e.covers k) = true := by decide +kernel) : t.val k = s.val k :=
  h.val_of k fun e he => by simpa using List.all_eq_true.mp hk e he

theorem getN (h : s.Within E t) {k : Nat} (hk : E.all (fun e => !e.covers k) = true := by decide +kernel) : t.getN k = s.getN k :=
  congrArg Val.toN (h.val hk)
theorem getI (h : s.Within E t) {k : Nat} (hk : E.all (fun e => !e.covers k) = true := by decide +kernel) : t.getI k = s.getI k := by
  rw [State.getI, h.val hk, State.getI]
theorem getR (h : s.Within E t) {k : Nat} (hk : E.all (fun e => !e.covers k) = true := by decide +kernel) : t.getR k = s.getR k := by
  rw [State.getR, h.val hk, State.getR]
theorem getQ (h : s.Within E t) {k : Nat} (hk : E.all (fun e => !e.covers k) = true := by decide +kernel) : t.getQ k = s.getQ k := by
  rw [State.getQ, h.getR hk, State.getQ]
theorem flag (h : s.Within E t) {k : Nat} (i : Nat) (hk : E.all (fun e => !e.covers k) = true := by decide +kernel) : t.flag k i = s.flag k i := by
  rw [State.flag, h.getN hk, State.flag]

theorem valG (h : s.Within E t) {n off sub : Nat} (hn : n < 32)
    (hk : (decide (off < 64) && decide (sub < 256) && E.all (fun e => !e.meetsGal off sub)) = true := by decide +kernel) :
    t.val (galKey n off sub) = s.val (galKey n off sub) := by
  simp only [Bool.and_eq_true, decide_eq_true_eq, List.all_eq_true] at hk
  obtain ⟨⟨ho, hs⟩, hE⟩ := hk
  refine h.val_of _ fun e he => ?_
  have hm := hE e he
  cases e <;> first | rfl | skip
  all_goals
    simp only [Eff.meetsGal, Eff.covers, Bool.not_eq_true', Bool.and_eq_false_iff, decide_eq_false_iff_not, beq_eq_false_iff_ne] at hm ⊢
    unfold galKey keyOf
    omega

theorem getG (h : s.Within E t) {n off sub : Nat} (hn : n < 32)
    (hk : (decide (off < 64) && decide (sub < 256) && E.all (fun e => !e.meetsGal off sub)) = true := by decide +kernel) :
    t.getN (galKey n off sub) = s.getN (galKey n off sub) :=
  congrArg Val.toN (h.valG hn hk)

theorem valC (h : s.Within E t) {n off sub : Nat} (hn : n < 16)
    (hk : (decide (off < 16) && decide (sub < 256) && E.all (fun e => !e.meetsChn off sub)) = true := by decide +kernel) :
    t.val (chnKey n off sub) = s.val (chnKey n off sub) := by
  simp only [Bool.and_eq_true, decide_eq_true_eq, List.all_eq_true] at hk
  obtain ⟨⟨ho, hs⟩, hE⟩ := hk
  refine h.val_of _ fun e he => ?_
  have hm := hE e he
  cases e <;> first | rfl | skip
  all_goals
    simp only [Eff.meetsChn, Eff.covers, Bool.not_eq_true', Bool.and_eq_false_iff, decide_eq_false_iff_not, beq_eq_false_iff_ne] at hm ⊢
    unfold chnKey keyOf
    omega

theorem getC (h : s.Within E t) {n off sub : Nat} (hn : n < 16)
    (hk : (decide (off < 16) && decide (sub < 256) && E.all (fun e => !e.meetsChn off sub)) = true := by decide +kernel) :
    t.getN (chnKey n off sub) = s.getN (chnKey n off sub) :=
  congrArg Val.toN (h.valC hn hk)

theorem valP (h : s.Within E t) {p sub : Nat} (hp : p < 2)
    (hk : (decide (sub < 256) && E.all (fun e => !e.meetsCan sub)) = true := by decide +kernel) :
    t.val (canKey p sub) = s.val (canKey p sub) := by
  simp only [Bool.and_eq_true, decide_eq_true_eq, List.all_eq_true] at hk
  obtain ⟨hs, hE⟩ := hk
  refine h.val_of _ fun e he => ?_
  have hm := hE e he
  cases e <;> first | rfl | skip
  all_goals
    simp only [Eff.meetsCan, Eff.covers, Bool.not_eq_true', Bool.and_eq_false_iff, decide_eq_false_iff_not, beq_eq_false_iff_ne] at hm ⊢
    unfold canKey keyOf
    omega

theorem getP (h : s.Within E t) {p sub : Nat} (hp : p < 2)
    (hk : (decide (sub < 256) && E.all (fun e => !e.meetsCan sub)) = true := by decide +kernel) :
    t.getN (canKey p sub) = s.getN (canKey p sub) :=
  congrArg Val.toN (h.valP hp hk)

theorem refl (s : State) : s.Within E s := ⟨fun e _ => e.kept_refl s, fun _ _ => rfl⟩

theorem step (h : s.Within E t) (hk : ∀ e, e ∉ E → e.kept t u) (hv : ∀ k, (∀ e ∈ E, e.covers k = false) → u.val k = t.val k) :
    s.Within E u :=
  ⟨fun e he => Eff.kept_trans (h.kept e he) (hk e he), fun k hc => (hv k hc).trans (h.val_of k hc)⟩

/-- An operation whose effects are among those listed. -/
theorem op {E' : List Eff} (h : s.Within E t) (hu : t.Within E' u) (hE : E' ⊆ E := by decide +kernel) : s.Within E u :=
  h.step (fun e he => hu.kept e fun hm => he (hE hm)) fun k hc => hu.val_of k fun e he => hc e (hE he)

theorem mono {E' : List Eff} (h : s.Within E' t) (hE : E' ⊆ E := by decide +kernel) : s.Within E t := (refl s).op h hE

/-- What is known of an intermediate state, named. -/
theorem andThen (h : s.Within E t) (hu : s.Within E t → s.Within E u) : s.Within E u := hu h

theorem ite {c : Prop} {_ : Decidable c} (ht : s.Within E t) (hu : s.Within E u) : s.Within E (if c then t else u) := by
  split
  · exact ht
  · exact hu

theorem ite_snd {α : Type} {c : Prop} {_ : Decidable c} {x y : α × State} (hx : s.Within E x.2) (hy : s.Within E y.2) :
    s.Within E (if c then x else y).2 := by
  split
  · exact hx
  · exact hy

theorem ite_fst {α : Type} {c : Prop} {_ : Decidable c} {x y : State × α} (hx : s.Within E x.1) (hy : s.Within E y.1) :
    s.Within E (if c then x else y).1 := by
  split
  · exact hx
  · exact hy

/-- The state of a pair that an operation answers. -/
theorem of_fst {α : Type} {x : State × α} {a : α} (h : s.Within E x.1) (e : x = (u, a)) : s.Within E u := by
  subst e
  exact h

theorem foldl {α : Type} {f : State → α → State} {l : List α} (h : s.Within E t) (hf : ∀ u a, s.Within E u → s.Within E (f u a)) :
    s.Within E (l.foldl f t) :=
  List.foldlRecOn l f h fun _ hu a _ => hf _ a hu

theorem foldl_snd {α β : Type} {f : β × State → α → β × State} {l : List α} {x : β × State} (h : s.Within E x.2)
    (hf : ∀ u a, s.Within E u.2 → s.Within E (f u a).2) : s.Within E (l.foldl f x).2 :=
  List.foldlRecOn (motive := fun y => s.Within E y.2) l f h fun _ hu a _ => hf _ a hu

theorem foldl_fst {α β : Type} {f : State × β → α → State × β} {l : List α} {x : State × β} (h : s.Within E x.1)
    (hf : ∀ u a, s.Within E u.1 → s.Within E (f u a).1) : s.Within E (l.foldl f x).1 :=
  List.foldlRecOn (motive := fun y => s.Within E y.1) l f h fun _ hu a _ => hf _ a hu

theorem foldr {α : Type} {f : α → State → State} {l : List α} (h : s.Within E t) (hf : ∀ u a, s.Within E u → s.Within E (f a u)) :
    s.Within E (l.foldr f t) :=
  List.foldrRecOn l f h fun _ hu a _ => hf _ a hu

theorem forGal {f : Nat → State → State} (h : s.Within E t) (hf : ∀ n u, s.Within E u → s.Within E (f n u)) : s.Within E (t.forGal f) :=
  State.forGal_keeps hf h

/-! Objects -/

theorem put {k : Nat} {v : Val} (h : s.Within E t) (hk : Eff.Cover E k) : s.Within E (t.put k v) := by
  obtain ⟨c, hc, hck⟩ := hk
  refine h.step (fun e _ => e.kept_refl t) fun x hx => ?_
  rw [State.val_put, if_neg]
  rintro rfl
  exact absurd hck (by simp [hx c hc])

variable {k x i n : Nat}

theorem setN (h : s.Within E t) (hk : Eff.Cover E k) : s.Within E (t.setN k x) := h.put hk
theorem setI {y : Int} (h : s.Within E t) (hk : Eff.Cover E k) : s.Within E (t.setI k y) := h.put hk
theorem setR {y : Option Q} (h : s.Within E t) (hk : Eff.Cover E k) : s.Within E (t.setR k y) := h.put hk
theorem setB {b : List Byte} (h : s.Within E t) (hk : Eff.Cover E k) : s.Within E (t.setB k b) := h.put hk
theorem inc (h : s.Within E t) (hk : Eff.Cover E k) : s.Within E (t.inc k) := h.put hk
theorem addTo (h : s.Within E t) (hk : Eff.Cover E k) : s.Within E (t.addTo k x) := h.put hk
theorem setFlag {b : Bool} (h : s.Within E t) (hk : Eff.Cover E k) : s.Within E (t.setFlag k i b) := h.put hk
theorem raise (h : s.Within E t) (hk : Eff.Cover E k) : s.Within E (t.raise k i) := h.put hk
theorem clear (h : s.Within E t) (hk : Eff.Cover E k) : s.Within E (t.clear k x) := h.put hk

theorem withDict {d : SMap Val} (h : s.Within E t) (hE : .above 0 ∈ E := by decide +kernel) : s.Within E { t with dict := d } :=
  h.step (fun e _ => e.kept_refl t) fun k hk => absurd (hk _ hE) (by simp [Eff.covers])

/-! Single fields -/

theorem withRoot {y : Nat} (h : s.Within E t) (hE : .root ∈ E := by decide +kernel) : s.Within E { t with root := y } :=
  h.step (fun e he => by have hr := e.kept_refl t; cases e <;> first | exact absurd hE he | exact hr) fun _ _ => rfl
theorem withNow {y : Nat} (h : s.Within E t) (hE : .now ∈ E := by decide +kernel) : s.Within E { t with now := y } :=
  h.step (fun e he => by have hr := e.kept_refl t; cases e <;> first | exact absurd hE he | exact hr) fun _ _ => rfl
theorem withNand {y : Store} (h : s.Within E t) (hE : .nand ∈ E := by decide +kernel) : s.Within E { t with nand := y } :=
  h.step (fun e he => by have hr := e.kept_refl t; cases e <;> first | exact absurd hE he | exact hr) fun _ _ => rfl
theorem withSafetySet {y : SealRt} (h : s.Within E t) (hE : .safetySet ∈ E := by decide +kernel) : s.Within E { t with safetySet := y } :=
  h.step (fun e he => by have hr := e.kept_refl t; cases e <;> first | exact absurd hE he | exact hr) fun _ _ => rfl
theorem withSreqs {y : List SReq} (h : s.Within E t) (hE : .sreqs ∈ E := by decide +kernel) : s.Within E { t with sreqs := y } :=
  h.step (fun e he => by have hr := e.kept_refl t; cases e <;> first | exact absurd hE he | exact hr) fun _ _ => rfl
theorem withPaused {y : Bool} (h : s.Within E t) (hE : .paused ∈ E := by decide +kernel) : s.Within E { t with paused := y } :=
  h.step (fun e he => by have hr := e.kept_refl t; cases e <;> first | exact absurd hE he | exact hr) fun _ _ => rfl
theorem withServeNow {y : Bool} (h : s.Within E t) (hE : .serveNow ∈ E := by decide +kernel) : s.Within E { t with serveNow := y } :=
  h.step (fun e he => by have hr := e.kept_refl t; cases e <;> first | exact absurd hE he | exact hr) fun _ _ => rfl
theorem withLast {y : Option Reply} (h : s.Within E t) (hE : .last ∈ E := by decide +kernel) : s.Within E { t with last := y } :=
  h.step (fun e he => by have hr := e.kept_refl t; cases e <;> first | exact absurd hE he | exact hr) fun _ _ => rfl
theorem withSramOut {y : Option (List Byte × Bool)} (h : s.Within E t) (hE : .sramOut ∈ E := by decide +kernel) : s.Within E { t with sramOut := y } :=
  h.step (fun e he => by have hr := e.kept_refl t; cases e <;> first | exact absurd hE he | exact hr) fun _ _ => rfl
theorem withSched {y : List Sched} (h : s.Within E t) (hE : .sched ∈ E := by decide +kernel) : s.Within E { t with sched := y } :=
  h.step (fun e he => by have hr := e.kept_refl t; cases e <;> first | exact absurd hE he | exact hr) fun _ _ => rfl
theorem withRed {y : RedRt} (h : s.Within E t) (hE : .red ∈ E := by decide +kernel) : s.Within E { t with red := y } :=
  h.step (fun e he => by have hr := e.kept_refl t; cases e <;> first | exact absurd hE he | exact hr) fun _ _ => rfl
theorem withArc {y : ArcadeRt} (h : s.Within E t) (hE : .arc ∈ E := by decide +kernel) : s.Within E { t with arc := y } :=
  h.step (fun e he => by have hr := e.kept_refl t; cases e <;> first | exact absurd hE he | exact hr) fun _ _ => rfl
theorem withTime {y : TimeRt} (h : s.Within E t) (hE : .time ∈ E := by decide +kernel) : s.Within E { t with time := y } :=
  h.step (fun e he => by have hr := e.kept_refl t; cases e <;> first | exact absurd hE he | exact hr) fun _ _ => rfl
theorem withDisp {y : DispRt} (h : s.Within E t) (hE : .disp ∈ E := by decide +kernel) : s.Within E { t with disp := y } :=
  h.step (fun e he => by have hr := e.kept_refl t; cases e <;> first | exact absurd hE he | exact hr) fun _ _ => rfl
theorem withChans {y : List ChanRt} (h : s.Within E t) (hE : .chans ∈ E := by decide +kernel) : s.Within E { t with chans := y } :=
  h.step (fun e he => by have hr := e.kept_refl t; cases e <;> first | exact absurd hE he | exact hr) fun _ _ => rfl
theorem withVloopAt {y : Nat} (h : s.Within E t) (hE : .vloopAt ∈ E := by decide +kernel) : s.Within E { t with vloopAt := y } :=
  h.step (fun e he => by have hr := e.kept_refl t; cases e <;> first | exact absurd hE he | exact hr) fun _ _ => rfl
theorem withCans {y : List CanRt} (h : s.Within E t) (hE : .cans ∈ E := by decide +kernel) : s.Within E { t with cans := y } :=
  h.step (fun e he => by have hr := e.kept_refl t; cases e <;> first | exact absurd hE he | exact hr) fun _ _ => rfl
theorem withBeatAt {y : Nat} (h : s.Within E t) (hE : .beatAt ∈ E := by decide +kernel) : s.Within E { t with beatAt := y } :=
  h.step (fun e he => by have hr := e.kept_refl t; cases e <;> first | exact absurd hE he | exact hr) fun _ _ => rfl
theorem withTwa {y : TwaRt} (h : s.Within E t) (hE : .twa ∈ E := by decide +kernel) : s.Within E { t with twa := y } :=
  h.step (fun e he => by have hr := e.kept_refl t; cases e <;> first | exact absurd hE he | exact hr) fun _ _ => rfl
theorem withTwb {y : TwbRt} (h : s.Within E t) (hE : .twb ∈ E := by decide +kernel) : s.Within E { t with twb := y } :=
  h.step (fun e he => by have hr := e.kept_refl t; cases e <;> first | exact absurd hE he | exact hr) fun _ _ => rfl
theorem withUpd {y : UpdRt} (h : s.Within E t) (hE : .upd ∈ E := by decide +kernel) : s.Within E { t with upd := y } :=
  h.step (fun e he => by have hr := e.kept_refl t; cases e <;> first | exact absurd hE he | exact hr) fun _ _ => rfl
theorem withOrigin {y : Origin} (h : s.Within E t) (hE : .origin ∈ E := by decide +kernel) : s.Within E { t with origin := y } :=
  h.step (fun e he => by have hr := e.kept_refl t; cases e <;> first | exact absurd hE he | exact hr) fun _ _ => rfl
theorem withDies {y : List Nat} (h : s.Within E t) (hE : .dies ∈ E := by decide +kernel) : s.Within E { t with dies := y } :=
  h.step (fun e he => by have hr := e.kept_refl t; cases e <;> first | exact absurd hE he | exact hr) fun _ _ => rfl
theorem withFree {y : Nat} (h : s.Within E t) (hE : .free ∈ E := by decide +kernel) : s.Within E { t with free := y } :=
  h.step (fun e he => by have hr := e.kept_refl t; cases e <;> first | exact absurd hE he | exact hr) fun _ _ => rfl

theorem withServe {b : Bool} {o : Origin} (h : s.Within E t) (hE : .serveNow ∈ E ∧ .origin ∈ E := by decide +kernel) :
    s.Within E { t with serveNow := b, origin := o } :=
  State.Within.withOrigin (t := { t with serveNow := b }) (h.withServeNow hE.1) hE.2

/-! Runtimes -/

theorem withMd {m : ModeRt} (h : s.Within E t) (hmode : .mode ∈ E ∨ m.mode = t.md.mode) (htransit : .transit ∈ E ∨ m.transit = t.md.transit)
    (hrest : .mdRest ∈ E ∨ m.rest = t.md.rest) :
    s.Within E { t with md := m } := by
  refine h.step (fun e he => ?_) fun _ _ => rfl
  have hr := e.kept_refl t
  cases e
  case mode => exact hmode.resolve_left he
  case transit => exact htransit.resolve_left he
  case mdRest => exact hrest.resolve_left he
  all_goals exact hr

theorem withVest {m : Vestibule} (h : s.Within E t) (hlatch : .latch ∈ E ∨ m.latch = t.vest.latch)
    (hrest : .vestRest ∈ E ∨ m.rest = t.vest.rest) : s.Within E { t with vest := m } := by
  refine h.step (fun e he => ?_) fun _ _ => rfl
  have hr := e.kept_refl t
  cases e
  case latch => exact hlatch.resolve_left he
  case vestRest => exact hrest.resolve_left he
  all_goals exact hr

theorem withRecd {m : RecorderRt} (h : s.Within E t) (hflush : .flush ∈ E ∨ m.flushTo = t.recd.flushTo)
    (hbuf : .buffer ∈ E ∨ m.buffer = t.recd.buffer)
    (hrest : .recdRest ∈ E ∨ m.rest = t.recd.rest) :
    s.Within E { t with recd := m } := by
  refine h.step (fun e he => ?_) fun _ _ => rfl
  have hr := e.kept_refl t
  cases e
  case flush => exact hflush.resolve_left he
  case buffer => exact hbuf.resolve_left he
  case recdRest => exact hrest.resolve_left he
  all_goals exact hr

theorem withVestRecd {v : Vestibule} {m : RecorderRt} (h : s.Within E t) (hlatch : .latch ∈ E ∨ v.latch = t.vest.latch)
    (hvest : .vestRest ∈ E ∨ v.rest = t.vest.rest) (hflush : .flush ∈ E ∨ m.flushTo = t.recd.flushTo)
    (hbuf : .buffer ∈ E ∨ m.buffer = t.recd.buffer) (hrest : .recdRest ∈ E ∨ m.rest = t.recd.rest) :
    s.Within E { t with vest := v, recd := m } :=
  State.Within.withRecd (t := { t with vest := v }) (h.withVest hlatch hvest) hflush hbuf hrest

/-- What a change of the safety runtime leaves, but for the effects of a list. -/
def safeSame (E : List Eff) (r q : SafetyRt) : Prop :=
  (.grpLen ∈ E ∨ q.groups.length = r.groups.length) ∧ (.grps ∈ E ∨ q.groups = r.groups) ∧ (.loads ∈ E ∨ q.loads = r.loads) ∧
  (.inputs ∈ E ∨ q.inputs = r.inputs) ∧ (.chs ∈ E ∨ q.newel = r.newel ∧ q.baluster = r.baluster) ∧ (.cmdOn ∈ E ∨ q.cmdOn = r.cmdOn) ∧
  (.safeRest ∈ E ∨ q.rest = r.rest)

theorem withSafe {q : SafetyRt} (h : s.Within E t) (hq : safeSame E t.safe q) : s.Within E { t with safe := q } := by
  obtain ⟨hlen, hgrps, hloads, hin, hchs, hcmd, hrest⟩ := hq
  refine h.step (fun e he => ?_) fun _ _ => rfl
  have hr := e.kept_refl t
  cases e
  case grpLen => exact hlen.resolve_left he
  case grps => exact hgrps.resolve_left he
  case loads => exact hloads.resolve_left he
  case inputs => exact hin.resolve_left he
  case chs => exact hchs.resolve_left he
  case cmdOn => exact hcmd.resolve_left he
  case safeRest => exact hrest.resolve_left he
  all_goals exact hr

theorem updMd {f : ModeRt → ModeRt} (h : s.Within E t) (hmode : ∀ m, .mode ∈ E ∨ (f m).mode = m.mode := by exact fun _ => .inr rfl)
    (htransit : ∀ m, .transit ∈ E ∨ (f m).transit = m.transit := by exact fun _ => .inr rfl)
    (hrest : ∀ m, .mdRest ∈ E ∨ (f m).rest = m.rest := by
      exact fun _ => .inl (by decide +kernel)) : s.Within E (t.updMd f) :=
  h.withMd (hmode _) (htransit _) (hrest _)

theorem updVest {f : Vestibule → Vestibule} (h : s.Within E t) (hlatch : ∀ m, .latch ∈ E ∨ (f m).latch = m.latch := by exact fun _ => .inr rfl)
    (hrest : ∀ m, .vestRest ∈ E ∨ (f m).rest = m.rest := by
      exact fun _ => .inl (by decide +kernel)) : s.Within E (t.updVest f) :=
  h.withVest (hlatch _) (hrest _)

theorem updRec {f : RecorderRt → RecorderRt} (h : s.Within E t)
    (hflush : ∀ m, .flush ∈ E ∨ (f m).flushTo = m.flushTo := by exact fun _ => .inr rfl)
    (hbuf : ∀ m, .buffer ∈ E ∨ (f m).buffer = m.buffer := by exact fun _ => .inr rfl)
    (hrest : ∀ m, .recdRest ∈ E ∨ (f m).rest = m.rest := by
      exact fun _ => .inl (by decide +kernel)) : s.Within E (t.updRec f) :=
  h.withRecd (hflush _) (hbuf _) (hrest _)

theorem updSafe {f : SafetyRt → SafetyRt} (h : s.Within E t) (hf : ∀ r, safeSame E r (f r)) : s.Within E (t.updSafe f) := h.withSafe (hf _)

/-- A change of what the list of effects does not name in the safety runtime. -/
theorem safeRest {f : SafetyRt → SafetyRt} (h : s.Within E t) (hE : .safeRest ∈ E := by decide +kernel)
    (hf : ∀ r, (f r).groups = r.groups ∧ (f r).loads = r.loads ∧ (f r).inputs = r.inputs ∧ ((f r).newel = r.newel ∧ (f r).baluster = r.baluster) ∧
      (f r).cmdOn = r.cmdOn := by exact fun _ => ⟨rfl, rfl, rfl, ⟨rfl, rfl⟩, rfl⟩) : s.Within E (t.updSafe f) :=
  h.updSafe fun r => by
    obtain ⟨h1, h2, h3, h4, h5⟩ := hf r
    exact ⟨.inr (congrArg List.length h1), .inr h1, .inr h2, .inr h3, .inr h4, .inr h5, .inl hE⟩

theorem updGrp {f : Group → Group} (h : s.Within E t) (hE : .grps ∈ E := by decide +kernel) : s.Within E (t.updGrp n f) :=
  h.updSafe fun _ => ⟨.inr (modAt_length ..), .inl hE, .inr rfl, .inr rfl, .inr ⟨rfl, rfl⟩, .inr rfl, .inr rfl⟩
theorem updLoad {f : Load → Load} (h : s.Within E t) (hE : .loads ∈ E := by decide +kernel) : s.Within E (t.updLoad n f) :=
  h.updSafe fun _ => ⟨.inr rfl, .inr rfl, .inl hE, .inr rfl, .inr ⟨rfl, rfl⟩, .inr rfl, .inr rfl⟩
theorem updSi {f : SInput → SInput} (h : s.Within E t) (hE : .inputs ∈ E := by decide +kernel) : s.Within E (t.updSi n f) :=
  h.updSafe fun _ => ⟨.inr rfl, .inr rfl, .inr rfl, .inl hE, .inr ⟨rfl, rfl⟩, .inr rfl, .inr rfl⟩
theorem updSafeChan {c : SafetyChan} {f : Channel → Channel} (h : s.Within E t) (hE : .chs ∈ E := by decide +kernel) :
    s.Within E (t.updSafeChan c f) := by
  unfold State.updSafeChan
  split <;> refine State.Within.updSafe h fun _ => ?_ <;> exact ⟨.inr rfl, .inr rfl, .inr rfl, .inr rfl, .inl hE, .inr rfl, .inr rfl⟩

/-! Galleries -/

/-- What a change of a Gallery leaves, but for the effects of a list. -/
def galSame (E : List Eff) (g q : Gallery) : Prop :=
  (.trunk ∈ E ∨ q.trunk = g.trunk) ∧ (.head ∈ E ∨ q.head = g.head) ∧ (.mons ∈ E ∨ q.mons = g.mons) ∧ (.tread ∈ E ∨ q.tread = g.tread) ∧
  (.prot ∈ E ∨ q.prot = g.prot) ∧ (.est ∈ E ∨ q.est = g.est) ∧ (.cells ∈ E ∨ q.cells = g.cells) ∧ (.held ∈ E ∨ q.held = g.held) ∧
  (.galRest ∈ E ∨ q.rest = g.rest)

/-- A projection of a Gallery that a change of one Gallery keeps. -/
theorem updG_proj {α : Type} {f : Gallery → Gallery} (π : Gallery → α) (hf : ∀ g, π (f g) = π g) (m : Nat) :
    π ((t.updG n f).g m) = π (t.g m) := by
  rw [State.g_updG]
  split
  · exact hf _
  · rfl

theorem updG {f : Gallery → Gallery} (h : s.Within E t) (hf : ∀ g, galSame E g (f g)) : s.Within E (t.updG n f) := by
  refine h.step (fun e he => ?_) fun _ _ => rfl
  have hr := e.kept_refl t
  cases e
  case galLen => exact modAt_length ..
  case trunk => exact updG_proj _ fun g => (hf g).1.resolve_left he
  case head => exact updG_proj _ fun g => (hf g).2.1.resolve_left he
  case mons => exact updG_proj _ fun g => (hf g).2.2.1.resolve_left he
  case tread => exact updG_proj _ fun g => (hf g).2.2.2.1.resolve_left he
  case prot => exact updG_proj _ fun g => (hf g).2.2.2.2.1.resolve_left he
  case est => exact updG_proj _ fun g => (hf g).2.2.2.2.2.1.resolve_left he
  case cells => exact updG_proj _ fun g => (hf g).2.2.2.2.2.2.1.resolve_left he
  case held => exact updG_proj _ fun g => (hf g).2.2.2.2.2.2.2.1.resolve_left he
  case galRest => exact updG_proj _ fun g => (hf g).2.2.2.2.2.2.2.2.resolve_left he
  all_goals exact hr

theorem updTrunk {f : TrunkRt → TrunkRt} (h : s.Within E t) (hE : .trunk ∈ E := by decide +kernel) : s.Within E (t.updTrunk n f) :=
  h.updG fun _ => ⟨.inl hE, .inr rfl, .inr rfl, .inr rfl, .inr rfl, .inr rfl, .inr rfl, .inr rfl, .inr rfl⟩
theorem updHead {f : Head → Head} (h : s.Within E t) (hE : .head ∈ E := by decide +kernel) : s.Within E (t.updHead n f) :=
  h.updG fun _ => ⟨.inr rfl, .inl hE, .inr rfl, .inr rfl, .inr rfl, .inr rfl, .inr rfl, .inr rfl, .inr rfl⟩
theorem galMons {f : Gallery → Gallery} (h : s.Within E t) (hE : .mons ∈ E := by decide +kernel)
    (hf : ∀ g, f g = { g with mons := (f g).mons } := by exact fun _ => rfl) : s.Within E (t.updG n f) :=
  h.updG fun g => by rw [hf g]; exact ⟨.inr rfl, .inr rfl, .inl hE, .inr rfl, .inr rfl, .inr rfl, .inr rfl, .inr rfl, .inr rfl⟩
theorem updMon {f : Monitor → Monitor} (h : s.Within E t) (hE : .mons ∈ E := by decide +kernel) : s.Within E (t.updMon n i f) := h.galMons hE
theorem updTread {f : TreadRt → TreadRt} (h : s.Within E t) (hE : .tread ∈ E := by decide +kernel) : s.Within E (t.updTread n f) :=
  h.updG fun _ => ⟨.inr rfl, .inr rfl, .inr rfl, .inl hE, .inr rfl, .inr rfl, .inr rfl, .inr rfl, .inr rfl⟩
theorem updProt {f : ProtRt → ProtRt} (h : s.Within E t) (hE : .prot ∈ E := by decide +kernel) : s.Within E (t.updProt n f) :=
  h.updG fun _ => ⟨.inr rfl, .inr rfl, .inr rfl, .inr rfl, .inl hE, .inr rfl, .inr rfl, .inr rfl, .inr rfl⟩
theorem galEst {f : Gallery → Gallery} (h : s.Within E t) (hE : .est ∈ E := by decide +kernel)
    (hf : ∀ g, f g = { g with est := (f g).est } := by exact fun _ => rfl) : s.Within E (t.updG n f) :=
  h.updG fun g => by rw [hf g]; exact ⟨.inr rfl, .inr rfl, .inr rfl, .inr rfl, .inr rfl, .inl hE, .inr rfl, .inr rfl, .inr rfl⟩
theorem updEst {f : EstRt → EstRt} (h : s.Within E t) (hE : .est ∈ E := by decide +kernel) : s.Within E (t.updEst n f) := h.galEst hE
theorem galCells {f : Gallery → Gallery} (h : s.Within E t) (hE : .cells ∈ E := by decide +kernel)
    (hf : ∀ g, f g = { g with cells := (f g).cells } := by exact fun _ => rfl) : s.Within E (t.updG n f) :=
  h.updG fun g => by rw [hf g]; exact ⟨.inr rfl, .inr rfl, .inr rfl, .inr rfl, .inr rfl, .inr rfl, .inl hE, .inr rfl, .inr rfl⟩
theorem updCell {f : Cell → Cell} (h : s.Within E t) (hE : .cells ∈ E := by decide +kernel) : s.Within E (t.updCell n i f) := h.galCells hE
theorem updPos {f : PosEst → PosEst} (h : s.Within E t) (hE : .cells ∈ E := by decide +kernel) : s.Within E (t.updPos n i f) := h.updCell hE
theorem galHeld {f : Gallery → Gallery} (h : s.Within E t) (hE : .held ∈ E := by decide +kernel)
    (hf : ∀ g, f g = { g with held := (f g).held } := by exact fun _ => rfl) : s.Within E (t.updG n f) :=
  h.updG fun g => by rw [hf g]; exact ⟨.inr rfl, .inr rfl, .inr rfl, .inr rfl, .inr rfl, .inr rfl, .inr rfl, .inl hE, .inr rfl⟩
theorem galRest {f : Gallery → Gallery} (h : s.Within E t) (hE : .galRest ∈ E := by decide +kernel)
    (hf : ∀ g, f g = { f g with
      trunk := g.trunk, head := g.head, mons := g.mons, tread := g.tread, prot := g.prot, est := g.est, cells := g.cells, held := g.held } := by
      exact fun _ => rfl) : s.Within E (t.updG n f) :=
  h.updG fun g => by rw [hf g]; exact ⟨.inr rfl, .inr rfl, .inr rfl, .inr rfl, .inr rfl, .inr rfl, .inr rfl, .inr rfl, .inl hE⟩
theorem updBal {f : BalRt → BalRt} (h : s.Within E t) (hE : .galRest ∈ E := by decide +kernel) : s.Within E (t.updBal n f) := h.galRest hE
theorem updTherm {f : ThermRt → ThermRt} (h : s.Within E t) (hE : .galRest ∈ E := by decide +kernel) : s.Within E (t.updTherm n f) := h.galRest hE
theorem updSpec {f : SpecRt → SpecRt} (h : s.Within E t) (hE : .galRest ∈ E := by decide +kernel) : s.Within E (t.updSpec n f) := h.galRest hE
theorem setLine {l : Line} (h : s.Within E t) (hE : .galRest ∈ E := by decide +kernel) : s.Within E (t.setLine n i l) := h.galRest hE

/-- A change of any part of a Gallery. -/
theorem galAll {f : Gallery → Gallery} (h : s.Within E t)
    (hE : [.trunk, .head, .mons, .tread, .prot, .est, .cells, .held, .galRest] ⊆ E := by decide +kernel) : s.Within E (t.updG n f) :=
  h.updG fun _ => ⟨.inl (hE (by decide)), .inl (hE (by decide)), .inl (hE (by decide)), .inl (hE (by decide)), .inl (hE (by decide)),
    .inl (hE (by decide)), .inl (hE (by decide)), .inl (hE (by decide)), .inl (hE (by decide))⟩

/-! Other runtimes -/

theorem updNand {f : Store → Store} (h : s.Within E t) (hE : .nand ∈ E := by decide +kernel) : s.Within E (t.updNand f) := h.withNand hE
theorem updSlot {f : Slot → Slot} (h : s.Within E t) (hE : .nand ∈ E := by decide +kernel) : s.Within E (t.updSlot n f) := h.withNand hE
theorem updRed {f : RedRt → RedRt} (h : s.Within E t) (hE : .red ∈ E := by decide +kernel) : s.Within E (t.updRed f) := h.withRed hE
theorem updArc {f : ArcadeRt → ArcadeRt} (h : s.Within E t) (hE : .arc ∈ E := by decide +kernel) : s.Within E (t.updArc f) := h.withArc hE
theorem updTime {f : TimeRt → TimeRt} (h : s.Within E t) (hE : .time ∈ E := by decide +kernel) : s.Within E (t.updTime f) := h.withTime hE
theorem updDisp {f : DispRt → DispRt} (h : s.Within E t) (hE : .disp ∈ E := by decide +kernel) : s.Within E (t.updDisp f) := h.withDisp hE
theorem updChan {f : ChanRt → ChanRt} (h : s.Within E t) (hE : .chans ∈ E := by decide +kernel) : s.Within E (t.updChan n f) := h.withChans hE
theorem updCan {f : CanRt → CanRt} (h : s.Within E t) (hE : .cans ∈ E := by decide +kernel) : s.Within E (t.updCan n f) := h.withCans hE
theorem updTwa {f : TwaRt → TwaRt} (h : s.Within E t) (hE : .twa ∈ E := by decide +kernel) : s.Within E (t.updTwa f) := h.withTwa hE
theorem updTwb {f : TwbRt → TwbRt} (h : s.Within E t) (hE : .twb ∈ E := by decide +kernel) : s.Within E (t.updTwb f) := h.withTwb hE
theorem updUpd {f : UpdRt → UpdRt} (h : s.Within E t) (hE : .upd ∈ E := by decide +kernel) : s.Within E (t.updUpd f) := h.withUpd hE
theorem mailStore {b : Byte} (h : s.Within E t) (hE : .twb ∈ E := by decide +kernel) : s.Within E (t.mailStore n b) := by
  unfold State.mailStore
  split
  · exact h.updTwb hE
  · exact h
theorem reply {r : Reply} (h : s.Within E t) (hE : .last ∈ E := by decide +kernel) : s.Within E (t.reply r) := h.withLast hE
theorem take (h : s.Within E t) (hE : .free ∈ E := by decide +kernel) : s.Within E t.take.2 := h.withFree hE

end State.Within

/-- What the admission of an access may change before the access runs (R98, R99). -/
def Eff.access : List Eff := [.last, .sreqs, .obj Obj.DIAG.CLASS_S_REFUSED]

namespace State.Within
variable {s t u : State} {E : List Eff} {p : Path} {index sub : Nat} {d : List Byte}

theorem busy (h : s.Within E t) (hE : Eff.access ⊆ E := by decide +kernel) : s.Within E t.busy :=
  (h.inc (.obj (hE (by decide)))).reply (hE (by decide))

theorem queued {r : List SReq} {x : Reply} (h : s.Within E t) (hE : Eff.access ⊆ E := by decide +kernel) :
    s.Within E (State.reply { t with sreqs := r } x) :=
  State.Within.reply (h.withSreqs (hE (by decide))) (hE (by decide))

theorem classS {w : Bool} {run : State → State} (h : s.Within E t) (hr : ∀ u, s.Within E u → s.Within E (run u))
    (hE : Eff.access ⊆ E := by decide +kernel) : s.Within E (t.classS p w index sub d run) := by
  rcases State.classS_cases t p w index sub d run with e | e | ⟨r, e⟩ | e <;> rw [e]
  · exact h.reply (hE (by decide))
  · exact h.busy hE
  · exact h.queued hE
  · exact hr t h

end State.Within

/-- The same of an effect that may be refused, -/
def State.WithinOk (s : State) (E : List Eff) (x : Except Nat State) : Prop := ∀ u, x = .ok u → s.Within E u

/-- of a read that may be refused, -/
def State.WithinRead (s : State) (E : List Eff) (x : Except Nat (List Byte × State)) : Prop := ∀ u, x = .ok u → s.Within E u.2

/-- and of the outcome of a command. -/
def State.WithinNext (s : State) (E : List Eff) (o : Out) : Prop := ∀ u, o = .next u → s.Within E u

namespace State.Within
variable {s t u : State} {E : List Eff} {p : Path} {index sub : Nat} {d : List Byte}

theorem write {eff : Val → State → Except Nat State} (h : s.Within E t) (hf : ∀ v, s.WithinOk E (eff v t))
    (hE : Eff.access ⊆ E := by decide +kernel) : s.Within E (t.write p index sub d eff) := by
  rcases State.write_cases t p index sub d eff with e | e | ⟨r, e⟩ | ⟨c, e⟩ | ⟨v, r, u, _, hu, e⟩ <;> rw [e]
  · exact h.reply (hE (by decide))
  · exact h.busy hE
  · exact h.queued hE
  · exact h.reply (hE (by decide))
  · exact (hf v u hu).reply (hE (by decide))

theorem writeX {eff : Val → State → Option Nat × State} (h : s.Within E t) (hf : ∀ v, s.Within E (eff v t).2)
    (hE : Eff.access ⊆ E := by decide +kernel) : s.Within E (t.writeX p index sub d eff) := by
  rcases State.writeX_cases t p index sub d eff with e | e | ⟨r, e⟩ | ⟨c, e⟩ | ⟨v, r, _, ⟨c, e⟩ | e⟩ <;> rw [e]
  · exact h.reply (hE (by decide))
  · exact h.busy hE
  · exact h.queued hE
  · exact h.reply (hE (by decide))
  · exact (hf v).reply (hE (by decide))
  · exact (hf v).reply (hE (by decide))

theorem readWith {f : State → Except Nat (List Byte × State)} (h : s.Within E t) (hf : s.WithinRead E (f t))
    (hE : Eff.access ⊆ E := by decide +kernel) : s.Within E (t.readWith p index sub f) := by
  rcases State.readWith_cases t p index sub f with e | e | ⟨r, e⟩ | ⟨c, e⟩ | ⟨b, u, hu, e⟩ <;> rw [e]
  · exact h.reply (hE (by decide))
  · exact h.busy hE
  · exact h.queued hE
  · exact h.reply (hE (by decide))
  · exact State.Within.reply (hf (b, u) hu) (hE (by decide))

theorem ok (h : s.Within E t) : s.WithinOk E (.ok t) := by
  rintro u ⟨⟩
  exact h

theorem okRead (h : s.Within E t) : s.WithinRead E (.ok (d, t)) := by
  rintro u ⟨⟩
  exact h

theorem next (h : s.Within E t) : s.WithinNext E (.next t) := by
  rintro u ⟨⟩
  exact h

/-- An effect on a later state. -/
theorem opOk {E' : List Eff} {x : Except Nat State} (h : s.Within E t) (hx : t.WithinOk E' x) (hE : E' ⊆ E := by decide +kernel) :
    s.WithinOk E x := fun u hu => h.op (hx u hu) hE

theorem opRead {E' : List Eff} {x : Except Nat (List Byte × State)} (h : s.Within E t) (hx : t.WithinRead E' x)
    (hE : E' ⊆ E := by decide +kernel) : s.WithinRead E x := fun u hu => h.op (hx u hu) hE

theorem opNext {E' : List Eff} {x : Out} (h : s.Within E t) (hx : t.WithinNext E' x) (hE : E' ⊆ E := by decide +kernel) :
    s.WithinNext E x := fun u hu => h.op (hx u hu) hE

theorem andThenOk {x : Except Nat State} (h : s.Within E t) (hu : s.Within E t → s.WithinOk E x) : s.WithinOk E x := hu h
theorem andThenRead {x : Except Nat (List Byte × State)} (h : s.Within E t) (hu : s.Within E t → s.WithinRead E x) : s.WithinRead E x := hu h
theorem andThenNext {x : Out} (h : s.Within E t) (hu : s.Within E t → s.WithinNext E x) : s.WithinNext E x := hu h

end State.Within

section
variable {s t : State} {E : List Eff} {c : Prop} {_ : Decidable c}

theorem State.WithinOk.error {k : Nat} : s.WithinOk E (.error k) := fun _ h => absurd h (by simp)
theorem State.WithinRead.error {k : Nat} : s.WithinRead E (.error k) := fun _ h => absurd h (by simp)

theorem State.WithinOk.map {x : Except Nat State} {f : State → State} (hx : s.WithinOk E x)
    (hf : ∀ u, s.Within E u → s.Within E (f u)) : s.WithinOk E (x.map f) := by
  cases x with
  | error c => exact .error
  | ok t => exact (hf t (hx t rfl)).ok

theorem State.WithinOk.ite {x y : Except Nat State} (hx : s.WithinOk E x) (hy : s.WithinOk E y) : s.WithinOk E (if c then x else y) := by
  split
  · exact hx
  · exact hy

theorem State.WithinRead.ite {x y : Except Nat (List Byte × State)} (hx : s.WithinRead E x) (hy : s.WithinRead E y) :
    s.WithinRead E (if c then x else y) := by
  split
  · exact hx
  · exact hy

theorem State.WithinNext.ite {x y : Out} (hx : s.WithinNext E x) (hy : s.WithinNext E y) : s.WithinNext E (if c then x else y) := by
  split
  · exact hx
  · exact hy

/-- The state of an effect that may be refused: of the effect, or the state before it. -/
theorem State.Within.lift {x : Except Nat State} (h : s.Within E t) (hx : s.WithinOk E x) : s.Within E (Machine.lift x t).2 := by
  cases x with
  | error c => exact h
  | ok u => exact hx u rfl

end

end Sys2Proof.Machine
end

section
/-! What the election and the time keeper change (R317, R334): the leader, the role and the election's counters, the origin, a step of plant
time that is due, and records. -/
namespace Sys2Proof.Machine
set_option Elab.async false

/-- The objects that the election and the time keeper write, those of the records among them. -/
def ringKeys : List Nat :=
  recordKeys ++ [Obj.LEADER_CFG.ELECTIONS, Obj.LEADER_CFG.MODULES_LED, Obj.DISPATCH_STATUS.LEADER_SERIAL, Obj.DISPATCH_STATUS.ROLE,
    Obj.TIMEBASE.KEEPER_SERIAL, Obj.TIMEBASE.ORIGIN]

/-- The parts of the Arcade's runtime that the election and the keeper write, as in another. -/
def ArcadeRt.ledAs (a b : ArcadeRt) : ArcadeRt := { a with leader := b.leader, follow := b.follow, keeperSeq := b.keeperSeq }
/-- The parts of the time base's runtime that the keeper writes, as in another. -/
def TimeRt.keptAs (a b : TimeRt) : TimeRt := { a with stepPend := b.stepPend, originSeq := b.originSeq }

/-- Only what the election and the time keeper write differs. -/
structure State.OnlyRing (s t : State) : Prop where
  parts : t = { s with vest := t.vest, recd := t.recd, dict := t.dict, arc := t.arc, disp := t.disp, time := t.time }
  arc : t.arc = s.arc.ledAs t.arc
  time : t.time = s.time.keptAs t.time
  val_of : s.sameBut t ringKeys

namespace State.OnlyRing
variable {s t u : State}

theorem refl (s : State) : s.OnlyRing s := ⟨rfl, rfl, rfl, fun _ _ => rfl⟩

theorem trans (h : s.OnlyRing t) (hu : t.OnlyRing u) : s.OnlyRing u where
  parts := by
    obtain ⟨hp, -, -, -⟩ := h
    obtain ⟨hq, -, -, -⟩ := hu
    rw [hq, hp]
  arc := by
    have ha := h.arc
    have hb := hu.arc
    rw [hb, ha]
    rfl
  time := by
    have ha := h.time
    have hb := hu.time
    rw [hb, ha]
    rfl
  val_of := fun k hk => (hu.val_of k hk).trans (h.val_of k hk)

theorem ite {c : Prop} {_ : Decidable c} (ht : s.OnlyRing t) (hu : s.OnlyRing u) : s.OnlyRing (if c then t else u) := by
  split
  · exact ht
  · exact hu

theorem put (h : s.OnlyRing t) {k : Nat} {v : Val} (hk : k ∈ ringKeys := by decide +kernel) : s.OnlyRing (t.put k v) := by
  refine h.trans ⟨rfl, rfl, rfl, fun k' hk' => ?_⟩
  rw [State.val_put, if_neg fun e => hk' (by rw [e]; exact hk)]

theorem setN (h : s.OnlyRing t) {k x : Nat} (hk : k ∈ ringKeys := by decide +kernel) : s.OnlyRing (t.setN k x) := h.put hk
theorem setI (h : s.OnlyRing t) {k : Nat} {x : Int} (hk : k ∈ ringKeys := by decide +kernel) : s.OnlyRing (t.setI k x) := h.put hk

theorem updDisp (h : s.OnlyRing t) {f : DispRt → DispRt} : s.OnlyRing (t.updDisp f) := h.trans ⟨rfl, rfl, rfl, fun _ _ => rfl⟩

theorem updArc (h : s.OnlyRing t) {f : ArcadeRt → ArcadeRt} (hf : ∀ a : ArcadeRt, f a = a.ledAs (f a) := by intro; rfl) :
    s.OnlyRing (t.updArc f) := h.trans ⟨rfl, hf _, rfl, fun _ _ => rfl⟩

theorem updTime (h : s.OnlyRing t) {f : TimeRt → TimeRt} (hf : ∀ a : TimeRt, f a = a.keptAs (f a) := by intro; rfl) :
    s.OnlyRing (t.updTime f) := h.trans ⟨rfl, rfl, hf _, fun _ _ => rfl⟩

theorem record (h : s.OnlyRing t) {code cls inst sev : Nat} {d : List Byte} : s.OnlyRing (t.record code cls inst sev d) := by
  obtain ⟨hp, hv⟩ := (State.onlyRecords.refl t).record code cls inst sev d
  refine h.trans ⟨?_, ?_, ?_, fun k hk => hv k fun hm => hk (List.mem_append_left _ hm)⟩
  · rw [hp]
  · rw [hp]
    rfl
  · rw [hp]
    rfl

/-! What is kept -/

theorem members (h : s.OnlyRing t) : t.arc.members = s.arc.members := by rw [h.arc]; rfl
theorem nodes (h : s.OnlyRing t) : t.arc.nodes = s.arc.nodes := by rw [h.arc]; rfl
theorem freshB (h : s.OnlyRing t) : t.arc.freshB = s.arc.freshB := by rw [h.arc]; rfl
theorem gal (h : s.OnlyRing t) : t.gal = s.gal := (congrArg State.gal h.parts :)
theorem root (h : s.OnlyRing t) : t.root = s.root := (congrArg State.root h.parts :)
theorem serial (h : s.OnlyRing t) : t.serial = s.serial := (congrArg State.serial h.parts :)
theorem val (h : s.OnlyRing t) {k : Nat} (hk : k ∉ ringKeys := by decide +kernel) : t.val k = s.val k := h.val_of k hk
theorem getN (h : s.OnlyRing t) {k : Nat} (hk : k ∉ ringKeys := by decide +kernel) : t.getN k = s.getN k := congrArg Val.toN (h.val hk)
theorem getR (h : s.OnlyRing t) {k : Nat} (hk : k ∉ ringKeys := by decide +kernel) : t.getR k = s.getR k := congrArg Val.toR (h.val hk)
theorem getI (h : s.OnlyRing t) {k : Nat} (hk : k ∉ ringKeys := by decide +kernel) : t.getI k = s.getI k := congrArg Val.toI (h.val hk)

end State.OnlyRing

namespace State
variable (s : State)

/-- The first part of an election: a new leader is counted, recorded and, where it is this module, starts as one. -/
def newLeader : State :=
  if s.elect = s.arc.leader then s
  else
    let t := (s.inc Obj.LEADER_CFG.ELECTIONS).updArc (fun a => { a with leader := s.elect, follow := [] })
    let t := t.record 0x0302 0x08 0 0 (leBytes 8 s.elect)
    if s.elect = t.serial then t.updDisp (fun d => { d with newLead := 2 }) else t

theorem onlyRing_newLeader : s.OnlyRing s.newLeader := by
  have h : s.OnlyRing ((s.inc Obj.LEADER_CFG.ELECTIONS).updArc (fun a => { a with leader := s.elect, follow := [] })) :=
    ((OnlyRing.refl s).put (k := Obj.LEADER_CFG.ELECTIONS)).updArc
  exact (OnlyRing.refl s).ite (h.record.updDisp.ite h.record)

/-- The role in the ring by the leader elected. -/
def ringRole : Nat := if s.role = 3 then 3 else if s.elect = 0 then 0 else if s.elect = s.serial then 1 else 2

theorem electSync_eq : s.electSync =
    (let t := (s.newLeader.setN Obj.DISPATCH_STATUS.LEADER_SERIAL s.elect).setN Obj.DISPATCH_STATUS.ROLE s.ringRole
     if t.getN Obj.DISPATCH_STATUS.ROLE = 1 then t else t.setN Obj.LEADER_CFG.MODULES_LED 0) := by
  have hserial : s.newLeader.serial = s.serial := s.onlyRing_newLeader.serial
  have hrole : (s.newLeader.setN Obj.DISPATCH_STATUS.LEADER_SERIAL s.elect).role = s.role := by
    rw [role, State.getN_setN_other _ _ (by decide), s.onlyRing_newLeader.getN, role]
  have hunfold : s.electSync =
      (let t := s.newLeader.setN Obj.DISPATCH_STATUS.LEADER_SERIAL s.elect
       let t := t.setN Obj.DISPATCH_STATUS.ROLE
         (if t.role = 3 then 3 else if s.elect = 0 then 0 else if s.elect = s.newLeader.serial then 1 else 2)
       if t.getN Obj.DISPATCH_STATUS.ROLE = 1 then t else t.setN Obj.LEADER_CFG.MODULES_LED 0) := rfl
  rw [hunfold]
  simp only
  rw [hrole, hserial]
  rfl

theorem onlyRing_electSync : s.OnlyRing s.electSync := by
  rw [electSync_eq]
  have h := (s.onlyRing_newLeader.setN (k := Obj.DISPATCH_STATUS.LEADER_SERIAL) (x := s.elect)).setN
    (k := Obj.DISPATCH_STATUS.ROLE) (x := s.ringRole)
  exact h.ite h.setN

theorem onlyRing_stepDue (d : Int) : s.OnlyRing (s.stepDue d) := (OnlyRing.refl s).updTime.ite (OnlyRing.refl s)

theorem onlyRing_keeperSync : s.OnlyRing s.keeperSync := by
  unfold keeperSync
  have h := (OnlyRing.refl s).setN (k := Obj.TIMEBASE.KEEPER_SERIAL) (x := s.keeperNow)
  refine h.updArc.ite ?_
  split
  · exact h
  · next m _ =>
    have hnew := h.setI (k := Obj.TIMEBASE.ORIGIN) (x := m.origin)
    split
    · exact ((h.ite ((hnew.updArc.trans (onlyRing_stepDue ..)).ite hnew.updArc))).ite hnew.updArc
    · exact hnew.updArc

theorem onlyRing_ringSync : s.OnlyRing s.ringSync := s.onlyRing_electSync.trans s.electSync.onlyRing_keeperSync

theorem onlyRing_keeperHears : s.OnlyRing s.keeperHears := by
  unfold keeperHears
  exact ((((OnlyRing.refl s).setI (k := Obj.TIMEBASE.ORIGIN)).updTime).trans (onlyRing_stepDue ..)).ite (OnlyRing.refl s)

/-! What an election sets -/

theorem newLeader_leader : s.newLeader.arc.leader = s.elect := by
  unfold newLeader
  split
  · next h => exact h.symm
  · have h (t : State) : (t.record 0x0302 0x08 0 0 (leBytes 8 s.elect)).arc = t.arc :=
      (congrArg State.arc ((State.onlyRecords.refl t).record 0x0302 0x08 0 0 (leBytes 8 s.elect)).1 :)
    simp only
    split
    · rw [updDisp_arc, h]
      rfl
    · rw [h]
      rfl

theorem newLeader_elections : s.newLeader.getN Obj.LEADER_CFG.ELECTIONS = (if s.elect = s.arc.leader then s.getN Obj.LEADER_CFG.ELECTIONS
    else min 0xFFFFFFFF (s.getN Obj.LEADER_CFG.ELECTIONS + 1)) := by
  unfold newLeader
  split
  · rfl
  · have h (t : State) : (t.record 0x0302 0x08 0 0 (leBytes 8 s.elect)).getN Obj.LEADER_CFG.ELECTIONS = t.getN Obj.LEADER_CFG.ELECTIONS :=
      congrArg Val.toN (((State.onlyRecords.refl t).record 0x0302 0x08 0 0 (leBytes 8 s.elect)).2 _ (by decide +kernel))
    simp only
    split <;> simp [h]

theorem electSync_leader : s.electSync.arc.leader = s.elect := by
  rw [electSync_eq]
  simp only
  split <;> simp [newLeader_leader]

theorem electSync_objects : s.electSync.getN Obj.DISPATCH_STATUS.LEADER_SERIAL = s.elect ∧
    s.electSync.getN Obj.DISPATCH_STATUS.ROLE = s.ringRole ∧
    s.electSync.getN Obj.LEADER_CFG.ELECTIONS = s.newLeader.getN Obj.LEADER_CFG.ELECTIONS := by
  rw [electSync_eq]
  simp only
  split <;> simp (decide := true)

/-- What the time keeper writes leaves the election's outcome. -/
theorem keeperSync_keepsElection (k : Nat) (hk : k ≠ Obj.TIMEBASE.KEEPER_SERIAL) (ho : k ≠ Obj.TIMEBASE.ORIGIN) :
    s.keeperSync.getN k = s.getN k ∧ s.keeperSync.arc.leader = s.arc.leader := by
  have hstep (t : State) (d : Int) : (t.stepDue d).getN k = t.getN k ∧ (t.stepDue d).arc = t.arc := by
    unfold stepDue
    split <;> exact ⟨rfl, rfl⟩
  unfold keeperSync
  simp only
  split
  · simp [hk]
  · split
    · simp [hk]
    · split
      · split
        · split
          · simp [hk]
          · split
            · exact ⟨(hstep ..).1.trans (by simp [hk, ho]), by rw [(hstep ..).2]; rfl⟩
            · simp [hk, ho]
        · simp [hk, ho]
      · simp [hk, ho]

end State

end Sys2Proof.Machine
end

section
/-! The lock-out reset as a request (R300); the dispatch registers and their timers (R308, R309, R317, R318, R320). -/
namespace Sys2Proof.Machine
set_option Elab.async false

theorem lockoutReset_requests {s : State} {p : Path} (h : s.takesWrite p 0x2904 1 [1] (.n 1)) :
    ∃ t, exec (.lockoutReset p) s = .next t ∧ t.last = some (.ok []) ∧ t.getN Obj.LOCKOUT_RESET.REQUESTED = 1 ∧
      t.safe.retest = true ∧ t.safe.checkAt = none ∧ t.safe.testAt = [] ∧ t.md = s.md ∧ t.vest = s.vest ∧ t.nand = s.nand ∧
      s.sameBut t [Obj.LOCKOUT_RESET.REQUESTED] := by
  rw [exec, execLockoutReset, State.write_ok h rfl, exists_next]
  simp +contextual [State.sameBut]

theorem requestedExpiry_clears {s : State} {at_ : Nat} (h : s.safe.reqAt = some at_) (hp : s.passed at_ (secTicks 600) = true) :
    ∃ t, exec .requestedExpiry s = .next t ∧ t.getN Obj.LOCKOUT_RESET.REQUESTED = 0 ∧ t.safe.reqAt = none ∧
      s.sameBut t [Obj.LOCKOUT_RESET.REQUESTED] := by
  simp only [exec, execRequestedExpiry, h, hp, if_true, exists_next]
  simp +contextual [State.sameBut]

/-- Settles O45: the request sets REQUESTED and the tests' times alone, and expires. -/
theorem resetRequestPerformsNothing : Obligations.ResetRequestPerformsNothing := by
  unfold Obligations.ResetRequestPerformsNothing
  exact ⟨fun _ _ => lockoutReset_requests, fun _ _ => requestedExpiry_clears⟩

/-! ### Demands -/

theorem pDemand_stores {s : State} {p : Path} {d : List Byte} {v : Val} (h : s.takesWrite p 0x3401 1 d v) :
    ∃ t, exec (.pDemand p d) s = .next t ∧ t.last = some (.ok []) ∧ t.val Obj.DISPATCH_SETPOINT.P_DEMAND = v ∧
      t.disp.hostAt = some s.root ∧ s.sameBut t [Obj.DISPATCH_SETPOINT.P_DEMAND] ∧ t.gal = s.gal := by
  rw [exec, execPDemand, State.write_ok h rfl, exists_next]
  simp +contextual [State.sameBut]

theorem leaderTarget_stores {s : State} {m : Nat} {d : List Byte} {v : Val} (h : s.takesWrite (.arcade m) 0x3401 2 d v)
    (hr : s.getN Obj.DISPATCH_STATUS.ROLE = 2) (hm : m = s.arc.leader) :
    ∃ t, exec (.leaderTarget (.arcade m) d) s = .next t ∧ t.last = some (.ok []) ∧ t.val Obj.DISPATCH_SETPOINT.LEADER_TARGET = v ∧
      t.disp.leadAt = some s.root ∧ s.sameBut t [Obj.DISPATCH_SETPOINT.LEADER_TARGET] ∧ t.gal = s.gal := by
  rw [exec, execLeaderTarget, State.write_taken h]
  simp only [leaderTargetEff]
  simp +contextual [State.sameBut, hr, hm]

theorem leaderTarget_refused {s : State} {p : Path} {d : List Byte} {v : Val} (h : s.takesWrite p 0x3401 2 d v)
    (hr : p.isArcade = false ∨ s.getN Obj.DISPATCH_STATUS.ROLE ≠ 2 ∨ p ≠ .arcade s.arc.leader) :
    exec (.leaderTarget p d) s = .next (s.reply (.abort abortState)) := by
  rw [exec, execLeaderTarget, State.write_refused h]
  cases p with
  | arcade m =>
    refine if_neg fun ⟨hrole, hm⟩ => ?_
    rcases hr with hr | hr | hr
    · exact absurd hr (by simp [Path.isArcade])
    · exact hr hrole
    · exact hr (by rw [hm])
  | canA => rfl
  | canB => rfl
  | twb => rfl

/-! ### Timers -/

theorem hostTimeout_reports {s : State} {at_ : Nat} (h : s.disp.hostAt = some at_) (ht : 0 < s.getN Obj.DISPATCH_CFG.HOST_TIMEOUT)
    (hs : msTicks (s.getN Obj.DISPATCH_CFG.HOST_TIMEOUT) < s.since at_) (ho : s.disp.hostOut = false) :
    ∃ t, exec .hostTimeout s = .next t ∧ t.flag Obj.DISPATCH_STATUS.FLAGS 4 = true ∧ t.disp.hostOut = true ∧
      s.sameBut t [Obj.DISPATCH_STATUS.FLAGS] ∧ t.gal = s.gal := by
  have hvalid : s.hostValid = false := by simp [State.hostValid, h, hs, Nat.ne_of_gt ht]
  simp only [exec, execHostTimeout, State.hostExpire, h, hvalid, ho, exists_next]
  simp +contextual [State.sameBut]

theorem leaderLost_reports {s : State} {at_ : Nat} (h : s.disp.leadAt = some at_)
    (hs : msTicks (s.getN Obj.LEADER_CFG.LEADER_TIMEOUT) < s.since at_) (ho : s.disp.leadOut = false) :
    ∃ t, exec .leaderLost s = .next t ∧ t.flag Obj.DISPATCH_STATUS.FLAGS 2 = true ∧ t.disp.leadOut = true ∧
      s.sameBut t [Obj.DISPATCH_STATUS.FLAGS] ∧ t.gal = s.gal := by
  have hfresh : s.leadFresh = false := by simp [State.leadFresh, h, hs]
  simp only [exec, execLeaderLost, State.leaderExpire, h, hfresh, ho, exists_next]
  simp +contextual [State.sameBut]

theorem fallbackHold_ends {s : State} (h : s.getN Obj.DISPATCH_SETPOINT.SOURCE = 4)
    (hp : s.passed s.disp.fbAt (secTicks (s.getN Obj.DISPATCH_CFG.FALLBACK_HOLD)) = true) :
    ∃ t, exec .fallbackHold s = .next t ∧ t.disp.fbDone = true ∧ t.dict = s.dict ∧ t.gal = s.gal := by
  rw [exec, execFallbackHold, State.fallbackExpire, if_pos ⟨h, hp⟩, exists_next]
  exact ⟨rfl, rfl, rfl⟩

theorem joinDelay_elects {s : State} {serial : Nat}
    (h : serial = s.serial ∨ (∃ m ∈ s.arc.members, m.isModule = true ∧ m.serial = serial)) :
    ∃ t, exec (.joinDelay serial) s = .next t ∧ t.getN Obj.DISPATCH_STATUS.LEADER_SERIAL = s.elect ∧ t.arc.leader = s.elect ∧
      t.getN Obj.DISPATCH_STATUS.ROLE = (if s.role = 3 then 3 else if s.elect = 0 then 0 else if s.elect = s.serial then 1 else 2) ∧
      t.getN Obj.LEADER_CFG.ELECTIONS = (if s.elect = s.arc.leader then s.getN Obj.LEADER_CFG.ELECTIONS
        else min 0xFFFFFFFF (s.getN Obj.LEADER_CFG.ELECTIONS + 1)) ∧
      t.gal = s.gal := by
  have hknown : (decide (serial = s.serial) || s.arc.members.any (fun m => m.isModule && decide (m.serial = serial))) = true := by
    simpa using h
  have hkeep (k : Nat) (hk : k ≠ Obj.TIMEBASE.KEEPER_SERIAL) (ho : k ≠ Obj.TIMEBASE.ORIGIN) : s.ringSync.getN k = s.electSync.getN k :=
    (s.electSync.keeperSync_keepsElection k hk ho).1
  have hleader : s.ringSync.arc.leader = s.electSync.arc.leader := (s.electSync.keeperSync_keepsElection 0 (by decide) (by decide)).2
  obtain ⟨hserial, hrole, hcount⟩ := s.electSync_objects
  rw [exec, execJoinDelay, if_pos hknown, exists_next]
  exact ⟨(hkeep _ (by decide) (by decide)).trans hserial, hleader.trans s.electSync_leader, (hkeep _ (by decide) (by decide)).trans hrole,
    ((hkeep _ (by decide) (by decide)).trans hcount).trans s.newLeader_elections, s.onlyRing_ringSync.gal⟩

/-- Settles O46: each clause is the rule above of the command it speaks of. -/
theorem dispatchRegistersAndTimers : Obligations.DispatchRegistersAndTimers := by
  unfold Obligations.DispatchRegistersAndTimers
  exact ⟨fun _ _ _ _ => pDemand_stores, fun _ _ _ _ => leaderTarget_stores, fun _ _ _ _ => leaderTarget_refused,
    fun _ _ => hostTimeout_reports, fun _ _ => leaderLost_reports, fun _ => fallbackHold_ends, fun _ _ => joinDelay_elects⟩

end Sys2Proof.Machine
end

section
/-! Beacons, the member list and the node table (R101, R332, R333). -/
namespace Sys2Proof.Machine
set_option Elab.async false

theorem mem_memPut_self (x : Member) (l : List Member) : x ∈ memPut x l := by
  induction l with
  | nil => simp [memPut]
  | cons y l ih =>
    unfold memPut
    split
    · simp
    · split
      · simp
      · simp [ih]

/-! ### The own beacon -/

theorem beaconTx_sends {s : State} {key : List Byte} (ha : s.arcActive = true) (hp : s.anyPortUp = true) (hk : s.nand.ringKey = some key)
    (hdue : ∀ at_, s.arc.beaconAt = some at_ → s.passed at_ (msTicks (s.getN Obj.ARCADE_CFG.BEACON_INTERVAL)) = true) :
    ∃ t, exec .beaconTx s = .next t ∧ t.arc.beaconAt = some s.root ∧
      t.arc.tx = [{ dest := 2 ^ 48 - 1, seq := s.arc.seq, body := s.pdu key 1 0 0 (s.beaconBody s.mode.code) }] ∧
      t.dict = s.dict := by
  have hsent : ∀ due : Bool, due = true → ∃ t, (if s.arcActive && s.anyPortUp && due then
      (Host.Outcome.next (((s.updArc (fun a => { a with tx := [] })).sendPdu 1 0 0 (s.beaconBody s.mode.code)).updArc (fun a => { a with
        beaconAt := some s.root })) : Out) else .next s) = .next t ∧ t.arc.beaconAt = some s.root ∧
      t.arc.tx = [{ dest := 2 ^ 48 - 1, seq := s.arc.seq, body := s.pdu key 1 0 0 (s.beaconBody s.mode.code) }] ∧ t.dict = s.dict := by
    rintro _ rfl
    simp only [ha, hp, Bool.and_true, if_true, exists_next, State.sendPdu, State.updArc_nand, hk]
    exact ⟨rfl, rfl, rfl⟩
  refine hsent _ ?_
  cases hb : s.arc.beaconAt with
  | none => rfl
  | some at_ => exact hdue at_ hb

/-! ### Received beacons -/

/-- A beacon that the port hears and the form admits, of another module, while a ring key is set. -/
structure State.HearsBeacon (s : State) (b : Beacon) (key : List Byte) : Prop where
  port : s.portUp b.west = true
  form : b.formOk = true
  type : b.type = 1
  len : b.len = 32
  source : b.source ≠ s.serial
  key : s.nand.ringKey = some key

namespace State
variable {s : State} {b : Beacon} {key : List Byte}

theorem dropMsg_counts (i : Nat) : (s.dropMsg i).arc = s.arc ∧ (s.dropMsg i).flag Obj.ARCADE_STATUS.FLAGS i = true ∧
    (s.dropMsg i).getN Obj.ARCADE_STATUS.AUTH_DROPPED = min 0xFFFFFFFF (s.getN Obj.ARCADE_STATUS.AUTH_DROPPED + 1) ∧
    s.sameBut (s.dropMsg i) [Obj.ARCADE_STATUS.FLAGS, Obj.ARCADE_STATUS.AUTH_DROPPED] := by
  unfold dropMsg
  refine ⟨rfl, ?_, ?_, ?_⟩ <;> simp +contextual (decide := true) [sameBut]

/-- The entry of a beacon's source under its MAC, heard within the last 400 ms. -/
def beaconCopy (s : State) (b : Beacon) : Option Member :=
  s.arc.members.find? (fun m => m.isModule && decide (m.serial = b.source) && decide (m.mac = b.mac) && !s.passed m.heard (msTicks 400))

theorem beaconCopy_isSome : (s.beaconCopy b).isSome = true ↔
    ∃ m ∈ s.arc.members, m.isModule = true ∧ m.serial = b.source ∧ m.mac = b.mac ∧ s.passed m.heard (msTicks 400) = false := by
  simp [beaconCopy, and_assoc]

/-- The FRESHNESS of a beacon is remembered. -/
def beaconFresh (s : State) (b : Beacon) : State := s.updArc (fun a => { a with freshB := SMap.put a.freshB b.source b.fresh })

/-- What a beacon that the port hears does. -/
theorem HearsBeacon.exec_eq (h : s.HearsBeacon b key) : exec (.beaconRx b) s = .next (
    if !b.tagOk key then s.dropMsg 3
    else if SMap.find? s.arc.freshB b.source = some b.fresh ∧ (s.beaconCopy b).isSome = true then
      (s.inc Obj.ARCADE_STATUS.DUPLICATES).updArc (fun a => { a with members := a.members.map (fun m =>
        if m.isModule && decide (m.serial = b.source) then { m with ports := m.ports ||| if b.west then 2 else 1 } else m) })
    else if ((SMap.find? s.arc.freshB b.source).map (fun l => decide (l < b.fresh))).getD true then
      ((s.beaconFresh b).beaconMember b).ringSync.keeperHears
    else s.dropMsg 3) := by
  obtain ⟨hport, hform, htype, hlen, hsource, hkey⟩ := h
  have hgood : (!s.portUp b.west || !b.formOk || decide (b.type ≠ 1) || decide (b.len ≠ 32)) = false := by
    simp [hport, hform, htype, hlen]
  rw [exec, execBeaconRx, hgood, if_neg (by decide), if_neg hsource, hkey]
  simp only
  cases b.tagOk key with
  | false => rfl
  | true =>
    simp only [Bool.not_true, Bool.false_eq_true, if_false]
    split
    · next hd => exact (congrArg Host.Outcome.next (if_pos hd)).symm
    · next hd =>
      refine Eq.trans ?_ (congrArg Host.Outcome.next (if_neg hd)).symm
      split <;> rfl

/-- A beacon with a right tag that is newer than the last of its source goes to the list. -/
theorem HearsBeacon.exec_fresh (h : s.HearsBeacon b key) (htag : b.tagOk key = true)
    (hf : ∀ l, SMap.find? s.arc.freshB b.source = some l → l < b.fresh) :
    exec (.beaconRx b) s = .next ((s.beaconFresh b).beaconMember b).ringSync.keeperHears := by
  rw [h.exec_eq, if_neg (by simp [htag]), if_neg, if_pos]
  · cases hl : SMap.find? s.arc.freshB b.source with
    | none => rfl
    | some l => simpa using hf l hl
  · rintro ⟨hl, -⟩
    exact absurd (hf _ hl) (Nat.lt_irrefl _)

theorem beaconFollowed (t : State) : t.OnlyRing t.ringSync.keeperHears := t.onlyRing_ringSync.trans t.ringSync.onlyRing_keeperHears

/-- What a beacon's entry carries. -/
theorem memberOf_fields (old : Option Member) :
    (s.memberOf b old).isModule = true ∧ (s.memberOf b old).serial = b.source ∧ (s.memberOf b old).mac = b.mac ∧
    (s.memberOf b old).heard = s.root ∧ (s.memberOf b old).mflags = fieldN b.payload 2 1 % 128 ∧
    (s.memberOf b old).prio = fieldN b.payload 3 1 ∧ (s.memberOf b old).mode = fieldN b.payload 4 1 ∧
    (s.memberOf b old).origin = fieldI b.payload 8 8 ∧ (s.memberOf b old).oseq = fieldN b.payload 16 4 ∧
    (s.memberOf b old).need = fieldI b.payload 24 8 := by
  refine ⟨?_, rfl, rfl, rfl, rfl, rfl, rfl, rfl, rfl, rfl⟩
  have hkind : (s.memberOf b old).kind = if fieldN b.payload 0 2 = 0x8848 then 2 else 3 := rfl
  rw [Member.isModule, hkind]
  split <;> rfl

/-- Dropping entries of the list leaves room. -/
theorem memRoom_filter {t : State} (p : Member → Bool) (ht : t.arc.members = s.arc.members.filter p)
    (hmax : t.getN Obj.ARCADE_CFG.MEMBER_MAX = s.getN Obj.ARCADE_CFG.MEMBER_MAX) (h : s.memRoom true = true) : t.memRoom true = true := by
  simp only [memRoom, Bool.and_eq_true, decide_eq_true_eq, Bool.not_true, Bool.false_or, ht, hmax] at h ⊢
  obtain ⟨hall, hmod⟩ := h
  have hlen : (s.arc.members.filter p).length ≤ s.arc.members.length := List.length_filter_le ..
  have hsub : ((s.arc.members.filter p).filter Member.isModule).length ≤ (s.arc.members.filter Member.isModule).length :=
    (List.filter_sublist.filter _).length_le
  omega

theorem beaconMember_freshB : (s.beaconMember b).arc.freshB = s.arc.freshB := by
  unfold beaconMember
  dsimp only
  repeat' split
  all_goals rfl

/-- A beacon of a serial known under its own MAC, or not known, enters its source. -/
theorem beaconMember_enters (hmac : ∀ m, SMap.find? s.arc.macs b.source = some m → m = b.mac) (hlow : 3 ≤ fieldN b.payload 4 1)
    (hhigh : fieldN b.payload 4 1 ≤ 5) (hroom : (∃ m ∈ s.arc.members, m.isModule = true ∧ m.serial = b.source) ∨ s.memRoom true = true) :
    ∃ old, { s.memberOf b old with heard := s.root } ∈ (s.beaconMember b).arc.members := by
  refine ⟨s.arc.members.find? (fun m => m.isModule && decide (m.serial = b.source)), ?_⟩
  unfold beaconMember
  simp only
  rw [if_neg, if_neg (by omega), if_pos]
  · exact mem_memPut_self ..
  · rcases hroom with ⟨m, hm, hmod, hserial⟩ | hroom
    · have : (s.arc.members.find? (fun m => m.isModule && decide (m.serial = b.source))).isSome = true := by
        simp only [List.find?_isSome]
        exact ⟨m, hm, by simp [hmod, hserial]⟩
      simp [this]
    · have hkept := memRoom_filter (s := s) (fun m => m.isModule || decide (m.mac ≠ b.mac))
        (t := (s.updArc (fun a => { a with macs := SMap.put a.macs b.source b.mac })).updArc (fun a => { a with
          members := a.members.filter (fun m => m.isModule || decide (m.mac ≠ b.mac)) })) rfl rfl hroom
      exact Bool.or_eq_true_iff.2 (.inr hkept)
  · split
    · next m hm => simp [hmac m hm]
    · decide

/-- A second MAC for one serial raises DUPLICATE_SERIAL and takes the source from the list. -/
theorem beaconMember_twice {m : Nat} (hm : SMap.find? s.arc.macs b.source = some m) (hne : m ≠ b.mac) :
    (s.beaconMember b).flag Obj.ARCADE_STATUS.FLAGS 4 = true ∧
    (s.beaconMember b).arc.members = s.arc.members.filter (fun m => !(m.isModule && decide (m.serial = b.source))) := by
  unfold beaconMember
  simp only [hm, hne, ne_eq, not_false_eq_true, decide_true, if_true]
  exact ⟨by simp, rfl⟩

end State

theorem beaconRx_enters {s : State} {b : Beacon} {key : List Byte} (h : s.HearsBeacon b key) (htag : b.tagOk key = true)
    (hf : ∀ l, SMap.find? s.arc.freshB b.source = some l → l < b.fresh)
    (hmac : ∀ m, SMap.find? s.arc.macs b.source = some m → m = b.mac) (hlow : 3 ≤ fieldN b.payload 4 1) (hhigh : fieldN b.payload 4 1 ≤ 5)
    (hroom : (∃ m ∈ s.arc.members, m.isModule = true ∧ m.serial = b.source) ∨ s.memRoom true = true) :
    ∃ t, exec (.beaconRx b) s = .next t ∧ SMap.find? t.arc.freshB b.source = some b.fresh ∧
      ∃ m ∈ t.arc.members, m.isModule = true ∧ m.serial = b.source ∧ m.mac = b.mac ∧ m.heard = s.root ∧
        m.mflags = fieldN b.payload 2 1 % 128 ∧ m.prio = fieldN b.payload 3 1 ∧ m.mode = fieldN b.payload 4 1 ∧
        m.origin = fieldI b.payload 8 8 ∧ m.oseq = fieldN b.payload 16 4 ∧ m.need = fieldI b.payload 24 8 := by
  rw [h.exec_fresh htag hf, exists_next, (State.beaconFollowed _).freshB, (State.beaconFollowed _).members, State.beaconMember_freshB]
  refine ⟨SMap.find?_put_same .., ?_⟩
  obtain ⟨old, hold⟩ := State.beaconMember_enters (s := s.beaconFresh b) hmac hlow hhigh hroom
  exact ⟨_, hold, State.memberOf_fields old⟩

theorem beaconRx_dropped {s : State} {b : Beacon} {key : List Byte} (h : s.HearsBeacon b key)
    (hbad : b.tagOk key = false ∨ ∃ l, SMap.find? s.arc.freshB b.source = some l ∧ (b.fresh < l ∨ b.fresh = l ∧
      ∀ m ∈ s.arc.members, m.isModule = true → m.serial = b.source → m.mac = b.mac → s.passed m.heard (msTicks 400) = true)) :
    ∃ t, exec (.beaconRx b) s = .next t ∧ t.arc = s.arc ∧ t.flag Obj.ARCADE_STATUS.FLAGS 3 = true ∧
      t.getN Obj.ARCADE_STATUS.AUTH_DROPPED = min 0xFFFFFFFF (s.getN Obj.ARCADE_STATUS.AUTH_DROPPED + 1) ∧
      s.sameBut t [Obj.ARCADE_STATUS.FLAGS, Obj.ARCADE_STATUS.AUTH_DROPPED] := by
  have hdrop : exec (.beaconRx b) s = .next (s.dropMsg 3) := by
    rw [h.exec_eq]
    rcases hbad with htag | ⟨l, hl, hold⟩
    · rw [if_pos (by simp [htag])]
    · have hnew : ¬ (((SMap.find? s.arc.freshB b.source).map (fun l => decide (l < b.fresh))).getD true = true) := by
        have : ¬ l < b.fresh := by omega
        simp [hl, this]
      have hcopy : ¬ (SMap.find? s.arc.freshB b.source = some b.fresh ∧ (s.beaconCopy b).isSome = true) := by
        rintro ⟨heq, hsome⟩
        obtain ⟨m, hm, hmod, hserial, hmac, hrecent⟩ := State.beaconCopy_isSome.1 hsome
        rcases hold with hlt | ⟨-, hall⟩
        · rw [hl] at heq
          exact absurd (Option.some.inj heq) (by omega)
        · exact absurd (hall m hm hmod hserial hmac) (by simp [hrecent])
      rw [if_neg hcopy, if_neg hnew, ite_self]
  rw [hdrop, exists_next]
  exact State.dropMsg_counts 3

theorem beaconRx_duplicate {s : State} {b : Beacon} {key : List Byte} {m : Member} (h : s.HearsBeacon b key) (htag : b.tagOk key = true)
    (hf : SMap.find? s.arc.freshB b.source = some b.fresh) (hm : m ∈ s.arc.members) (hmod : m.isModule = true)
    (hserial : m.serial = b.source) (hmac : m.mac = b.mac) (hrecent : s.passed m.heard (msTicks 400) = false) :
    ∃ t, exec (.beaconRx b) s = .next t ∧
      t.getN Obj.ARCADE_STATUS.DUPLICATES = min 0xFFFFFFFF (s.getN Obj.ARCADE_STATUS.DUPLICATES + 1) ∧
      t.arc.members = s.arc.members.map (fun x => if x.isModule = true ∧ x.serial = b.source then
        { x with ports := x.ports ||| (if b.west then 2 else 1) } else x) ∧ s.sameBut t [Obj.ARCADE_STATUS.DUPLICATES] := by
  have hcopy : (s.beaconCopy b).isSome = true := State.beaconCopy_isSome.2 ⟨m, hm, hmod, hserial, hmac, hrecent⟩
  rw [h.exec_eq, if_neg (by simp [htag]), if_pos ⟨hf, hcopy⟩, exists_next]
  simp +contextual [State.sameBut]

theorem beaconRx_ownSerial {s : State} {b : Beacon} (hport : s.portUp b.west = true) (hform : b.formOk = true) (htype : b.type = 1)
    (hlen : b.len = 32) (hs : b.source = s.serial) (hm : b.mac ≠ macOf s.serial) :
    ∃ t, exec (.beaconRx b) s = .next t ∧ t.flag Obj.ARCADE_STATUS.FLAGS 4 = true ∧ t.arc = s.arc := by
  have hgood : (!s.portUp b.west || !b.formOk || decide (b.type ≠ 1) || decide (b.len ≠ 32)) = false := by
    simp [hport, hform, htype, hlen]
  rw [exec, execBeaconRx, hgood, if_neg (by decide), if_pos hs, if_neg hm, exists_next]
  exact ⟨by simp, rfl⟩

theorem beaconRx_twice {s : State} {b : Beacon} {key : List Byte} {m : Nat} (h : s.HearsBeacon b key) (htag : b.tagOk key = true)
    (hf : ∀ l, SMap.find? s.arc.freshB b.source = some l → l < b.fresh) (hm : SMap.find? s.arc.macs b.source = some m) (hne : m ≠ b.mac) :
    ∃ t, exec (.beaconRx b) s = .next t ∧ t.flag Obj.ARCADE_STATUS.FLAGS 4 = true ∧
      ∀ x ∈ t.arc.members, x.isModule = true → x.serial ≠ b.source := by
  obtain ⟨hflag, hmembers⟩ := State.beaconMember_twice (s := s.beaconFresh b) hm hne
  rw [h.exec_fresh htag hf, exists_next, State.flag, (State.beaconFollowed _).getN, (State.beaconFollowed _).members, hmembers]
  refine ⟨hflag, fun x hx hmod hserial => ?_⟩
  simp [hmod, hserial] at hx

/-! ### Leaving the list and the node table -/

theorem memberTimeout_removes {s : State} {serial : Nat} (h : ∃ m ∈ s.arc.members, m.isModule = true ∧ m.serial = serial ∧
      s.passed m.heard (msTicks (s.getN Obj.ARCADE_CFG.MEMBER_TIMEOUT)) = true) :
    ∃ t, exec (.memberTimeout serial) s = .next t ∧ ∀ m, m ∈ t.arc.members ↔ m ∈ s.arc.members ∧
      ¬ (m.isModule = true ∧ m.serial = serial ∧ s.passed m.heard (msTicks (s.getN Obj.ARCADE_CFG.MEMBER_TIMEOUT)) = true) := by
  obtain ⟨m, hm, hmod, hserial, hp⟩ := h
  rw [exec, execMemberTimeout, if_pos, exists_next, (State.onlyRing_ringSync _).members]
  · simp [imp_iff_not_or, or_assoc]
  · exact List.any_eq_true.2 ⟨m, hm, by simp [hmod, hserial, hp]⟩

theorem State.passed_updArc (s : State) (f : ArcadeRt → ArcadeRt) (t d : Nat) : (s.updArc f).passed t d = s.passed t d := rfl

theorem nodeForget_removes (s : State) (mac : Nat) :
    ∃ t, exec (.nodeForget mac) s = .next t ∧
      (∀ n, n ∈ t.arc.nodes ↔ n ∈ s.arc.nodes ∧ ¬ (n.mac = mac ∧ s.passed n.at_ (secTicks 60) = true)) ∧
      ∀ m, m ∈ t.arc.members ↔ m ∈ s.arc.members ∧
        ¬ (m.kind = 1 ∧ m.mac = mac ∧ s.passed m.heard (secTicks 60) = true) := by
  rw [exec, execNodeForget]
  split
  · rw [exists_next, (State.onlyRing_ringSync _).members, (State.onlyRing_ringSync _).nodes]
    exact ⟨by simp [imp_iff_not_or], by simp [State.passed_updArc, imp_iff_not_or, or_assoc]⟩
  · next hany =>
    rw [exists_next]
    refine ⟨by simp [imp_iff_not_or], fun m => ⟨fun hm => ⟨hm, fun hgone => hany ?_⟩, fun hm => hm.1⟩⟩
    exact List.any_eq_true.2 ⟨m, hm, by simpa [and_assoc, State.passed_updArc] using hgone⟩

/-- A supervision frame of a node that the list does not hold enters it, where there is room. -/
theorem State.supervised_enters {s : State} {west : Bool} {mac : Nat} (hroom : s.memRoom false = true)
    (hnew : ∀ m ∈ s.arc.members, m.mac ≠ mac) :
    ∃ m ∈ (s.supervised west mac).arc.members, m.kind = 1 ∧ m.mac = mac ∧ m.since = s.root ∧ m.ports = if west then 2 else 1 := by
  have hnone : s.arc.members.find? (fun m => decide (m.mac = mac)) = none := by simpa [List.find?_eq_none] using hnew
  unfold supervised
  simp only [hnone, hroom, if_true]
  rw [(State.onlyRing_ringSync _).members]
  exact ⟨_, mem_memPut_self .., rfl, rfl, rfl, rfl⟩

theorem hsrFrameRx_supervision {s : State} {west : Bool} {f : HsrFrame} (hp : s.portUp west = true) (hb : f.bad = false)
    (hm : f.mac ≠ macOf s.serial) (hg : macIsGroup f.dest = true) (hs : f.supervision = true)
    (hc : ∀ e ∈ s.arc.dups, e.1 = f.mac → e.2.1 = f.seq → e.2.2 + msTicks 400 ≤ s.root) (hroom : s.memRoom false = true)
    (hnew : ∀ m ∈ s.arc.members, m.mac ≠ f.mac) :
    ∃ t, exec (.hsrFrameRx west f) s = .next t ∧ ∃ m ∈ t.arc.members, m.kind = 1 ∧ m.mac = f.mac ∧ m.since = s.root ∧
      m.ports = (if west then 2 else 1) := by
  have hmem : (s.frameTaken west f).arc.members = s.arc.members := by
    unfold State.frameTaken
    simp only
    split <;> rfl
  have hmax : (s.frameTaken west f).getN Obj.ARCADE_CFG.MEMBER_MAX = s.getN Obj.ARCADE_CFG.MEMBER_MAX := by
    have hkeep : (s.frameHeard west f).getN Obj.ARCADE_CFG.MEMBER_MAX = s.getN Obj.ARCADE_CFG.MEMBER_MAX := rfl
    unfold State.frameTaken
    simp only
    split <;> simp (decide := true) [hkeep]
  have hroot : (s.frameTaken west f).root = s.root := by
    unfold State.frameTaken
    simp only
    split <;> rfl
  rw [hsrFrameRx_other hp hb hm, if_pos (by simp [hg]), if_neg (by rw [s.recentCopy_eq_false hc]; decide), if_pos hs, exists_next, ← hroot]
  exact State.supervised_enters (by rw [State.memRoom, hmem, hmax]; exact hroom) (by rw [hmem]; exact hnew)

/-- Settles O50: each clause is the rule above of the command it speaks of. -/
theorem beaconsAndMembers : Obligations.BeaconsAndMembers := by
  unfold Obligations.BeaconsAndMembers
  exact ⟨fun _ _ => beaconTx_sends, fun _ _ _ h1 h2 h3 h4 h5 h6 => beaconRx_enters ⟨h1, h2, h3, h4, h5, h6⟩,
    fun _ _ _ h1 h2 h3 h4 h5 h6 => beaconRx_dropped ⟨h1, h2, h3, h4, h5, h6⟩,
    fun _ _ _ _ h1 h2 h3 h4 h5 h6 => beaconRx_duplicate ⟨h1, h2, h3, h4, h5, h6⟩, fun _ _ => beaconRx_ownSerial,
    fun _ _ _ _ h1 h2 h3 h4 h5 h6 => beaconRx_twice ⟨h1, h2, h3, h4, h5, h6⟩, fun _ _ => memberTimeout_removes, nodeForget_removes,
    fun _ _ _ => hsrFrameRx_supervision⟩

end Sys2Proof.Machine
end

section
/-! An Announce that repeats the sequence number of the last one of its clock leaves that clock's count of Announces as it was (Table 12-8). -/
namespace Sys2Proof.Machine
set_option Elab.async false

/-- An Announce of the clock 1 with sequence number 0. -/
def announceOfClockOne : PtpAnnounce :=
  { domain := 0, seq := 0, clock := 1, port := 1, prio1 := 128, cls := 248, acc := 0xFE, var := 0xFFFF, prio2 := 128, gm := 1, steps := 0 }

/-- The machine after reset with the east port up, PTP enabled in domain 0, and the clock 1 held with a count of 0 Announces. -/
def State.holdsUncounted : State :=
  ((((State.reset.setN Obj.ARCADE_STATUS.BYPASS 2).setN Obj.ARCADE_STATUS.PORT_E 2).setN Obj.PTP_CFG.ENABLE 1).setN
    Obj.PTP_CFG.DOMAIN 0).updTime (fun t => { t with foreign := [(announceOfClockOne, 0, 0)] })

/-- Refutes O51: an Announce received again while its clock is held with a count of 0 leaves the count at 0, not at 1 or above. -/
theorem not_ptpMessagesComplete : ¬ Obligations.PtpMessagesComplete := by
  intro h
  obtain ⟨-, -, -, -, -, hclause, -⟩ := h
  obtain ⟨t, n, hrun, hn, hforeign⟩ := hclause .holdsUncounted false announceOfClockOne
    (by decide +kernel) (by decide +kernel) (by decide +kernel) (by decide +kernel)
  have hcount : (outState (exec (.ptpAnnounceRx false announceOfClockOne) .holdsUncounted) .reset).time.foreign.map (·.2.1) = [0] := by
    decide +kernel
  rw [hrun] at hcount
  simp only [outState, hforeign, List.map_cons, List.cons.injEq] at hcount
  omega

end Sys2Proof.Machine
end

section
/-! The grandmaster inputs, the servo, the loss of the source and the step of plant time (R334 to R343). -/
namespace Sys2Proof.Machine
set_option Elab.async false

/-! ### What the servo changes -/

/-- The objects that the servo writes, those of the election and the time keeper among them. -/
def servoKeys : List Nat := ringKeys ++ [Obj.TIMEBASE.STATE, Obj.TIMEBASE.SOURCE, Obj.TIMEBASE.FLAGS, Obj.TIMEBASE.TRIM]

/-- The parts of the time base's runtime that the servo writes, as in another. -/
def TimeRt.servoAs (a b : TimeRt) : TimeRt :=
  { a with stepPend := b.stepPend, need := b.need, ahead := b.ahead, keepCnt := b.keepCnt, posSince := b.posSince, negSince := b.negSince
           okSince := b.okSince, badCnt := b.badCnt, wasPps := b.wasPps, originSeq := b.originSeq, syncAt := b.syncAt }

/-- Of the objects and of the time base's runtime, only what the servo writes differs; a Sync is noted as heard now or as before. -/
structure State.OnlyServo (s t : State) : Prop where
  root : t.root = s.root
  time : t.time = s.time.servoAs t.time
  heard : t.time.syncAt = s.time.syncAt ∨ t.time.syncAt = some s.root
  val_of : s.sameBut t servoKeys

namespace State.OnlyServo
variable {s t u : State}

theorem refl (s : State) : s.OnlyServo s := ⟨rfl, rfl, .inl rfl, fun _ _ => rfl⟩

theorem trans (h : s.OnlyServo t) (hu : t.OnlyServo u) : s.OnlyServo u where
  root := hu.root.trans h.root
  time := by
    have ha := h.time
    have hb := hu.time
    rw [hb, ha]
    rfl
  heard := by
    rcases hu.heard with he | he
    · rw [he]
      exact h.heard
    · exact .inr (by rw [he, h.root])
  val_of := fun k hk => (hu.val_of k hk).trans (h.val_of k hk)

theorem put (h : s.OnlyServo t) {k : Nat} {v : Val} (hk : k ∈ servoKeys := by decide +kernel) : s.OnlyServo (t.put k v) := by
  refine h.trans ⟨rfl, rfl, .inl rfl, fun k' hk' => ?_⟩
  rw [State.val_put, if_neg fun e => hk' (by rw [e]; exact hk)]

theorem updTime (h : s.OnlyServo t) {f : TimeRt → TimeRt} (hf : ∀ a : TimeRt, f a = a.servoAs (f a) := by intro; rfl)
    (hs : (f t.time).syncAt = t.time.syncAt ∨ (f t.time).syncAt = some t.root := by exact .inl rfl) : s.OnlyServo (t.updTime f) :=
  h.trans ⟨rfl, hf _, hs, fun _ _ => rfl⟩

theorem ring (h : s.OnlyServo t) (hu : t.OnlyRing u) : s.OnlyServo u := by
  refine h.trans ⟨hu.root, ?_, .inl ?_, fun k hk => hu.val_of k fun hm => hk (List.mem_append_left _ hm)⟩
  · have ht := hu.time
    rw [ht]
    rfl
  · rw [hu.time]
    rfl

theorem ite {c : Prop} {_ : Decidable c} (ht : s.OnlyServo t) (hu : s.OnlyServo u) : s.OnlyServo (if c then t else u) := by
  split
  · exact ht
  · exact hu

theorem val (h : s.OnlyServo t) {k : Nat} (hk : k ∉ servoKeys := by decide +kernel) : t.val k = s.val k := h.val_of k hk
theorem getN (h : s.OnlyServo t) {k : Nat} (hk : k ∉ servoKeys := by decide +kernel) : t.getN k = s.getN k := congrArg Val.toN (h.val hk)
theorem getR (h : s.OnlyServo t) {k : Nat} (hk : k ∉ servoKeys := by decide +kernel) : t.getR k = s.getR k := congrArg Val.toR (h.val hk)
theorem offs (h : s.OnlyServo t) : t.time.offs = s.time.offs := by rw [h.time]; rfl
theorem ppsLast (h : s.OnlyServo t) : t.time.ppsLast = s.time.ppsLast := by rw [h.time]; rfl
theorem ppsNamed (h : s.OnlyServo t) : t.time.ppsNamed = s.time.ppsNamed := by rw [h.time]; rfl
theorem tod (h : s.OnlyServo t) : t.time.tod = s.time.tod := by rw [h.time]; rfl
theorem consSince (h : s.OnlyServo t) : t.time.consSince = s.time.consSince := by rw [h.time]; rfl

end State.OnlyServo

namespace State
variable (s : State)

theorem onlyServo_toAcquiring : s.OnlyServo s.toAcquiring :=
  ((OnlyServo.refl s).put (k := Obj.TIMEBASE.STATE)).updTime (hs := .inr rfl)

theorem onlyServo_sourceCheck : s.OnlyServo s.sourceCheck := by
  unfold sourceCheck
  have h := (OnlyServo.refl s).put (k := Obj.TIMEBASE.SOURCE) (v := .n s.sourceNow)
  exact (OnlyServo.refl s).ite (((h.trans (onlyServo_toAcquiring _)).ring (onlyRing_electSync _)).ite h)

theorem onlyServo_actOn (e : Q) : s.OnlyServo (s.actOn e) := by
  unfold actOn
  have h := OnlyServo.refl s
  refine h.updTime.ite (.ite (h.updTime.ite (h.put.put.updTime)) (.ite ?_ ?_))
  · exact (h.updTime.updTime.ring (onlyRing_stepDue ..)).ite h.updTime
  · exact (h.updTime.updTime.put).ite h.updTime

theorem onlyServo_lockStep (o e : Q) : s.OnlyServo (s.lockStep o e) := by
  unfold lockStep
  have h := OnlyServo.refl s
  simp only
  split
  · exact ((h.updTime.put.updTime).ite h.updTime).ite h.updTime
  · exact ((h.updTime.trans (onlyServo_toAcquiring _)).put).ite h.updTime
  · exact h

theorem onlyServo_trimStep (r : Q) : s.OnlyServo (s.trimStep r) := by
  unfold trimStep
  have h : s.OnlyServo s.take.2.take.2 := ⟨rfl, rfl, .inl rfl, fun _ _ => rfl⟩
  exact (h.put.put).ite h.put

/-- The error in ticks of a time estimate, taken to the nearest superframe. -/
def timeError (x : Q) (p : Nat) : Q :=
  let e := (x - (s.getI Obj.TIMEBASE.ORIGIN : Q)) * 5 / 16 - (p : Q)
  e - 10000 * (roundSym (e / 10000) : Q)

/-- A time estimate has entered the offsets. -/
def offsetNoted (x : Q) (p : Nat) : State :=
  let t := s.updTime (fun t => { t with syncAt := some s.root, offs := ((s.timeError x p * 16 / 5) :: t.offs).take 64 })
  t.setR Obj.TIMEBASE.OFFSET (some (qsum t.time.offs / (t.time.offs.length : Q)))

theorem onlyServo_timeUse (x : Q) (p : Nat) : (s.offsetNoted x p).OnlyServo (s.timeUse x p) :=
  ((((onlyServo_sourceCheck _).trans (onlyServo_actOn _ _)).trans (onlyServo_lockStep _ _ _)).trans (onlyServo_trimStep _ _)).ring
    (onlyRing_ringSync _)

/-- A time estimate that is used is noted. -/
theorem timeUse_used (x : Q) (p : Nat) : s.timeUsed (s.timeUse x p) x p := by
  have hserve := s.onlyServo_timeUse x p
  refine ⟨?_, hserve.offs, ?_⟩
  · rcases hserve.heard with h | h <;> exact h
  · rw [hserve.getR, hserve.offs, offsetNoted]
    simp

end State

/-! ### Edges and sentences -/

/-- The machine after the capture of an edge, before its judgement. -/
def State.edgeNoted (s : State) (tick : Nat) : State :=
  (s.setR Obj.PTP_STATUS.PPS_OFFSET (some (toSecond (s.taiOf tick - (s.getI Obj.PTP_CFG.PPS_DELAY : Q))))).updTime
    (fun t => { t with ppsLast := some tick, ppsNamed := false, tod := t.tod.map (· + 1) })

/-- Whether an edge is valid: 1 s within 100 us after the one before, and at least 1 us wide. -/
def State.edgeOk (s : State) (tick width : Nat) : Bool :=
  match s.time.ppsLast with
  | some p => decide (p + 312500000 ≤ tick + 31250) && decide (tick ≤ p + 312500000 + 31250) && decide (1000 ≤ width)
  | none => false

/-- The machine after an edge's validity and its sentence are judged. -/
def State.edgeJudged (s : State) (tick width : Nat) : State :=
  if !s.edgeOk tick width then (s.edgeNoted tick).ppsBreak
  else
    let u := (s.edgeNoted tick).updTime (fun t => { t with ppsAt := some s.root })
    if s.time.ppsNamed then u else u.ppsBreak.raise Obj.TIMEBASE.FLAGS 3

theorem ppsIn_eq {s : State} {tick width : Nat} (h : s.ppsOn = true) :
    exec (.ppsIn tick width) s = (match (s.edgeJudged tick width).time.tod with
      | some sec => .next (if s.edgeOk tick width && (s.edgeJudged tick width).ppsValid then
          (s.edgeJudged tick width).timeUse ((sec : Q) * 1000000000 + (s.getI Obj.PTP_CFG.PPS_DELAY : Q)) tick else s.edgeJudged tick width)
      | none => .next (s.edgeJudged tick width)) := by
  rw [exec, execPpsIn, if_neg (by simp [h])]
  rfl

/-- An edge that leaves no second counted is judged, no more. -/
theorem ppsIn_judged {s : State} {tick width : Nat} (h : s.ppsOn = true) (htod : (s.edgeJudged tick width).time.tod = none) :
    exec (.ppsIn tick width) s = .next (s.edgeJudged tick width) := by
  rw [ppsIn_eq h, htod]

/-- A valid edge of a consistent source is used. -/
theorem ppsIn_counted {s : State} {tick width : Nat} {sec : Int} (h : s.ppsOn = true) (hok : s.edgeOk tick width = true)
    (htod : (s.edgeJudged tick width).time.tod = some sec) (hv : (s.edgeJudged tick width).ppsValid = true) :
    exec (.ppsIn tick width) s = .next
      ((s.edgeJudged tick width).timeUse ((sec : Q) * 1000000000 + (s.getI Obj.PTP_CFG.PPS_DELAY : Q)) tick) := by
  rw [ppsIn_eq h, htod]
  simp only [hok, hv, Bool.and_self, if_true]

theorem ppsIn_used {s : State} {tick width p : Nat} {sec : Int} {at_ : Nat} (h : s.ppsOn = true) (hp : s.time.ppsLast = some p)
    (hlow : p + 312500000 ≤ tick + 31250) (hhigh : tick ≤ p + 312500000 + 31250) (hw : 1000 ≤ width) (hn : s.time.ppsNamed = true)
    (htod : s.time.tod = some sec) (hcons : s.time.consSince = some at_) (hpass : s.passed at_ (secTicks 4) = true) :
    ∃ t, exec (.ppsIn tick width) s = .next t ∧ t.time.ppsLast = some tick ∧ t.time.tod = some (sec + 1) ∧
      t.getR Obj.PTP_STATUS.PPS_OFFSET = some (toSecond (s.taiOf tick - (s.getI Obj.PTP_CFG.PPS_DELAY : Q))) ∧
      s.timeUsed t (((sec + 1 : Int) : Q) * 1000000000 + (s.getI Obj.PTP_CFG.PPS_DELAY : Q)) tick := by
  have hok : s.edgeOk tick width = true := by simp [State.edgeOk, hp, hlow, hhigh, hw]
  let u := (s.edgeNoted tick).updTime (fun t => { t with ppsAt := some s.root })
  have hu : s.edgeJudged tick width = u := by rw [State.edgeJudged, if_neg (by simp [hok]), if_pos hn]
  have hsec : u.time.tod = some (sec + 1) := by
    show s.time.tod.map (· + 1) = _
    rw [htod]
    rfl
  have hcons' : u.time.consSince = some at_ := hcons
  have hvalid : u.ppsValid = true := by
    simp only [State.ppsOn, Bool.and_eq_true] at h
    simp only [State.ppsValid, hsec, hcons', Bool.and_eq_true]
    refine ⟨⟨⟨h.1, ?_⟩, rfl⟩, hpass⟩
    simpa (decide := true) [u, State.edgeNoted] using h.2
  have hserve := u.onlyServo_timeUse (((sec + 1 : Int) : Q) * 1000000000 + (s.getI Obj.PTP_CFG.PPS_DELAY : Q)) tick
  have hused := u.timeUse_used (((sec + 1 : Int) : Q) * 1000000000 + (s.getI Obj.PTP_CFG.PPS_DELAY : Q)) tick
  have horigin : u.getI Obj.TIMEBASE.ORIGIN = s.getI Obj.TIMEBASE.ORIGIN := by simp (decide := true) [u, State.edgeNoted]
  rw [State.timeUsed, horigin] at hused
  rw [ppsIn_counted h hok (by rw [hu, hsec]) (by rw [hu, hvalid]), hu, exists_next]
  refine ⟨hserve.ppsLast, hserve.tod.trans hsec, ?_, hused⟩
  rw [hserve.getR, State.offsetNoted]
  simp (decide := true) [u, State.edgeNoted]

theorem ppsIn_unnamed {s : State} {tick width p : Nat} (h : s.ppsOn = true) (hp : s.time.ppsLast = some p)
    (hlow : p + 312500000 ≤ tick + 31250) (hhigh : tick ≤ p + 312500000 + 31250) (hw : 1000 ≤ width) (hn : s.time.ppsNamed = false) :
    ∃ t, exec (.ppsIn tick width) s = .next t ∧ t.time.ppsLast = some tick ∧ t.time.consSince = none ∧
      t.flag Obj.TIMEBASE.FLAGS 3 = true ∧ s.sameBut t [Obj.PTP_STATUS.PPS_OFFSET, Obj.TIMEBASE.FLAGS] := by
  have hok : s.edgeOk tick width = true := by simp [State.edgeOk, hp, hlow, hhigh, hw]
  have hu : s.edgeJudged tick width = ((s.edgeNoted tick).updTime (fun t => { t with ppsAt := some s.root })).ppsBreak.raise
      Obj.TIMEBASE.FLAGS 3 := by
    rw [State.edgeJudged, if_neg (by simp [hok]), hn]
    rfl
  rw [ppsIn_judged h (by rw [hu]; rfl), hu, exists_next]
  exact ⟨rfl, rfl, by simp, by simp +contextual (decide := true) [State.sameBut, State.ppsBreak, State.edgeNoted]⟩

theorem ppsIn_invalid {s : State} {tick width : Nat} (h : s.ppsOn = true)
    (hbad : ∀ p, s.time.ppsLast = some p → tick + 31250 < p + 312500000 ∨ p + 312500000 + 31250 < tick ∨ width < 1000) :
    ∃ t, exec (.ppsIn tick width) s = .next t ∧ t.time.ppsLast = some tick ∧ t.time.consSince = none ∧ t.time.tod = none ∧
      t.time.ppsAt = s.time.ppsAt ∧ s.sameBut t [Obj.PTP_STATUS.PPS_OFFSET] := by
  have hok : s.edgeOk tick width = false := by
    unfold State.edgeOk
    split
    · next p hp =>
      have := hbad p hp
      simp only [Bool.and_eq_false_iff, decide_eq_false_iff_not]
      omega
    · rfl
  have hu : s.edgeJudged tick width = (s.edgeNoted tick).ppsBreak := by
    rw [State.edgeJudged, hok]
    rfl
  rw [ppsIn_judged h (by rw [hu]; rfl), hu, exists_next]
  exact ⟨rfl, rfl, rfl, rfl, by simp +contextual (decide := true) [State.sameBut, State.ppsBreak, State.edgeNoted]⟩

theorem todIn_names {s : State} {b : List Byte} {utc p : Nat} (h : s.ppsOn = true) (hz : zdaSecond b = some utc)
    (hp : s.time.ppsLast = some p) (hlow : p + 31250000 ≤ s.now) (hhigh : s.now ≤ p + 281250000) (hn : s.time.ppsNamed = false) :
    ∃ t, exec (.todIn b) s = .next t ∧ t.time.ppsNamed = true ∧ t.time.tod = some ((utc : Int) + s.getI Obj.TIMEBASE.TAI_UTC) ∧
      (s.time.tod = some ((utc : Int) + s.getI Obj.TIMEBASE.TAI_UTC) → t.time.consSince = some (s.time.consSince.getD s.root)) ∧
      (∀ x, s.time.tod = some x → x ≠ (utc : Int) + s.getI Obj.TIMEBASE.TAI_UTC →
        t.time.consSince = none ∧ t.flag Obj.TIMEBASE.FLAGS 3 = true) := by
  simp only [exec, execTodIn, h, hz, hp, hlow, hhigh, hn, and_self, if_true]
  split
  · next x hx =>
    split
    · next heq =>
      have hserve := State.onlyServo_sourceCheck ((s.updTime (fun t => { t with
        ppsNamed := true, tod := some ((utc : Int) + s.getI Obj.TIMEBASE.TAI_UTC) })).updTime (fun t => { t with
          consSince := some (t.consSince.getD s.root) }))
      rw [exists_next, hserve.ppsNamed, hserve.tod, hserve.consSince]
      refine ⟨rfl, rfl, fun _ => rfl, fun y hy hne => absurd ?_ hne⟩
      exact (Option.some.inj (hy.symm.trans hx)).trans heq
    · next hne =>
      rw [exists_next]
      exact ⟨rfl, rfl, fun hx' => absurd (Option.some.inj (hx.symm.trans hx')) hne, fun _ _ _ => ⟨rfl, by simp⟩⟩
  · next hx =>
    rw [exists_next]
    exact ⟨rfl, rfl, fun hx' => by simp [hx] at hx', fun _ hx' => by simp [hx] at hx'⟩

theorem ppsMissing_flags {s : State} {at_ : Nat} (h : s.ppsOn = true) (ha : s.time.ppsAt = some at_)
    (hp : s.passed at_ (secTicks 2) = true) :
    ∃ t, exec .ppsMissing s = .next t ∧ t.time.consSince = none ∧ t.time.ppsAt = none ∧ t.flag Obj.TIMEBASE.FLAGS 4 = true ∧
      s.sameBut t [Obj.TIMEBASE.FLAGS] := by
  simp only [exec, execPpsMissing, ha, h, hp, Bool.and_self, if_true, exists_next]
  exact ⟨rfl, rfl, by simp, by simp +contextual [State.sameBut, State.ppsBreak]⟩

theorem ppsOut_rises {s : State} (hp : s.part = .zs8848) (he : s.getN Obj.PTP_CFG.PPS_TOD_ENABLE = 1)
    (ho : s.getN Obj.PTP_CFG.PPS_OUT_ENABLE = 1) (hst : s.getN Obj.TIMEBASE.STATE = 2 ∨ s.getN Obj.TIMEBASE.STATE = 3)
    (hx : (s.getI Obj.TIMEBASE.ORIGIN * 5 + ((s.now * 16 : Nat) : Int)) % 5000000000 < 16) :
    ∃ t, exec .ppsOut s = .next t ∧ t.time.ppsOutAt = some s.root ∧ t.dict = s.dict := by
  rw [exec, execPpsOut, if_pos ⟨hp, he, ho, hst, hx⟩, exists_next]
  exact ⟨rfl, rfl⟩

/-! ### Loss of the source, holdover and steps -/

theorem sourceLoss_falls {s : State} (h : ∀ at_, s.time.syncAt = some at_ → s.passed at_ (secTicks 3) = true) :
    (s.getN Obj.TIMEBASE.STATE = 1 →
      ∃ t, exec .sourceLoss s = .next t ∧ t.getN Obj.TIMEBASE.STATE = 0 ∧ t.getN Obj.TIMEBASE.SOURCE = 0) ∧
    (s.getN Obj.TIMEBASE.STATE = 2 →
      ∃ t, exec .sourceLoss s = .next t ∧ t.getN Obj.TIMEBASE.STATE = 3 ∧ t.getN Obj.TIMEBASE.SOURCE = 0 ∧
        t.flag Obj.TIMEBASE.FLAGS 1 = true ∧ t.time.holdAt = s.root) := by
  have hlate : (match s.time.syncAt with
      | some t => s.passed t (secTicks 3)
      | none => true) = true := by
    split
    · next t ht => exact h t ht
    · rfl
  refine ⟨fun hst => ?_, fun hst => ?_⟩
  · simp only [exec, execSourceLoss, hst]
    split
    · rw [exists_next, (State.onlyRing_ringSync _).getN, (State.onlyRing_ringSync _).getN]
      simp (decide := true)
    · next h2 _ => exact absurd h2 (by decide)
    · next h1 _ => exact absurd hlate (h1 rfl)
  · simp only [exec, execSourceLoss, hst]
    split
    · next h1 _ => exact absurd h1 (by decide)
    · rw [exists_next, State.flag, (State.onlyRing_ringSync _).getN, (State.onlyRing_ringSync _).getN, (State.onlyRing_ringSync _).getN,
        (State.onlyRing_ringSync _).time]
      refine ⟨?_, ?_, ?_, rfl⟩ <;> simp (decide := true)
    · next h1 => exact absurd hlate (h1 rfl)

theorem holdoverExpiry_frees {s : State} (hst : s.getN Obj.TIMEBASE.STATE = 3)
    (hp : s.passed s.time.holdAt (secTicks (s.getN Obj.TIMEBASE.HOLDOVER_TIME)) = true) :
    ∃ t, exec .holdoverExpiry s = .next t ∧ t.getN Obj.TIMEBASE.STATE = 0 := by
  rw [exec, execHoldoverExpiry, if_pos ⟨hst, hp⟩, exists_next, (State.onlyRing_ringSync _).getN]
  simp

/-- A step of plant time leaves the age of every instant up to then. -/
theorem State.aged_stepped {s t : State} {d : Nat} (hd : 0 < d) (hnow : t.now = s.now + d)
    (hj : t.time.jumps = (s.now + d, d) :: s.time.jumps) {tick : Nat} (htick : tick ≤ s.now) : t.aged tick = s.aged tick := by
  have hfold : ∀ (l : List (Nat × Nat)) (a b : Nat), l.foldl (fun a j => a + j.2) (a + b) = a + l.foldl (fun a j => a + j.2) b := by
    intro l
    induction l with
    | nil => exact fun _ _ => rfl
    | cons j l ih =>
      intro a b
      rw [List.foldl_cons, List.foldl_cons, Nat.add_assoc, ih]
  have hlater : decide (tick < s.now + d) = true := by
    rw [decide_eq_true_iff]
    omega
  rw [aged, aged, hnow, hj, List.filter_cons, if_pos hlater, List.foldl_cons, Nat.zero_add, ← Nat.add_zero d, hfold]
  omega

/-- The machine after a step, but for the change of state and the sweep histories. -/
def State.stepTaken (s : State) : State :=
  let d := s.time.stepPend
  let t := s.now + d
  let later := Option.map (fun (q : Nat × Nat) => (q.1, q.2 + d))
  let u := ({ s with now := t }).updTime (fun x => { x with
    stepPend := 0, jumps := (t, d) :: x.jumps, ppsLast := x.ppsLast.map (· + d), reqE := later x.reqE, reqW := later x.reqW })
  ((u.inc Obj.TIMEBASE.STEPS).raise Obj.TIMEBASE.FLAGS 0).setI Obj.TIMEBASE.LAST_STEP (d : Int)

/-- The machine after a step is recorded and has taken a LOCKED time base back to ACQUIRING. -/
def State.stepFollowed (s : State) : State :=
  let u := s.stepTaken.record 0x0007 0x09 0 0 (leBytes 8 s.time.stepPend ++ leBytes 1 (b2n s.stepTaken.isKeeper))
  if u.getN Obj.TIMEBASE.STATE = 2 then u.toAcquiring.raise Obj.TIMEBASE.FLAGS 1 else u

theorem timeStep_eq {s : State} (hd : 0 < s.time.stepPend) (hnow : s.now % 10000 = 0) :
    ∃ t, exec .timeStep s = .next t ∧ t.dict = s.stepFollowed.dict ∧ t.now = s.stepFollowed.now ∧ t.root = s.stepFollowed.root ∧
      t.time = s.stepFollowed.time := by
  rw [exec, execTimeStep]
  simp only
  rw [if_neg (by omega), exists_next]
  refine State.forGal_keeps (P := fun t => t.dict = s.stepFollowed.dict ∧ t.now = s.stepFollowed.now ∧ t.root = s.stepFollowed.root ∧
      t.time = s.stepFollowed.time) (s := s.stepFollowed) (fun _ _ ht => by exact ht) ⟨rfl, rfl, rfl, rfl⟩

theorem State.stepFollowed_holds (s : State) :
    s.stepFollowed.now = s.now + s.time.stepPend ∧ s.stepFollowed.root = s.root ∧ s.stepFollowed.time.stepPend = 0 ∧
    s.stepFollowed.time.jumps = (s.now + s.time.stepPend, s.time.stepPend) :: s.time.jumps ∧
    s.stepFollowed.getI Obj.TIMEBASE.LAST_STEP = s.time.stepPend ∧
    s.stepFollowed.getN Obj.TIMEBASE.STEPS = min 0xFFFFFFFF (s.getN Obj.TIMEBASE.STEPS + 1) ∧
    s.stepFollowed.flag Obj.TIMEBASE.FLAGS 0 = true ∧
    (s.getN Obj.TIMEBASE.STATE = 2 → s.stepFollowed.getN Obj.TIMEBASE.STATE = 1) := by
  obtain ⟨hparts, hval⟩ := (State.onlyRecords.refl s.stepTaken).record 0x0007 0x09 0 0
    (leBytes 8 s.time.stepPend ++ leBytes 1 (b2n s.stepTaken.isKeeper))
  unfold stepFollowed
  generalize s.stepTaken.record 0x0007 0x09 0 0 (leBytes 8 s.time.stepPend ++ leBytes 1 (b2n s.stepTaken.isKeeper)) = u at *
  have hroot : u.root = s.root := (congrArg State.root hparts :)
  have hnow : u.now = s.now + s.time.stepPend := (congrArg State.now hparts :)
  have htime : u.time = s.stepTaken.time := (congrArg State.time hparts :)
  have hstep : u.getI Obj.TIMEBASE.LAST_STEP = s.time.stepPend := by
    rw [getI, hval _ (by decide +kernel), stepTaken]
    simp
  have hsteps : u.getN Obj.TIMEBASE.STEPS = min 0xFFFFFFFF (s.getN Obj.TIMEBASE.STEPS + 1) := by
    rw [getN, hval _ (by decide +kernel), stepTaken]
    simp (decide := true)
    rfl
  have hflag : bit (u.getN Obj.TIMEBASE.FLAGS) 0 = true := by
    rw [getN, hval _ (by decide +kernel), stepTaken]
    simp (decide := true)
  have hstate : u.getN Obj.TIMEBASE.STATE = s.getN Obj.TIMEBASE.STATE := by
    rw [getN, hval _ (by decide +kernel), stepTaken]
    simp (decide := true)
    rfl
  simp only
  split
  · refine ⟨hnow, hroot, ?_, ?_, ?_, ?_, ?_, fun _ => ?_⟩
    · exact (congrArg TimeRt.stepPend htime :)
    · exact (congrArg TimeRt.jumps htime :)
    · simpa (decide := true) [toAcquiring] using hstep
    · simpa (decide := true) [toAcquiring] using hsteps
    · simpa (decide := true) [toAcquiring, bit_withBit] using hflag
    · simp (decide := true) [toAcquiring]
  · next h2 =>
    exact ⟨hnow, hroot, (congrArg TimeRt.stepPend htime :), (congrArg TimeRt.jumps htime :), hstep, hsteps, hflag,
      fun h => absurd (hstate.trans h) h2⟩

theorem timeStep_taken {s : State} (hd : 0 < s.time.stepPend) (hnow : s.now % 10000 = 0) :
    ∃ t, exec .timeStep s = .next t ∧ t.now = s.now + s.time.stepPend ∧ t.root = s.root ∧ t.time.stepPend = 0 ∧
      t.getI Obj.TIMEBASE.LAST_STEP = s.time.stepPend ∧
      t.getN Obj.TIMEBASE.STEPS = min 0xFFFFFFFF (s.getN Obj.TIMEBASE.STEPS + 1) ∧ t.flag Obj.TIMEBASE.FLAGS 0 = true ∧
      (s.getN Obj.TIMEBASE.STATE = 2 → t.getN Obj.TIMEBASE.STATE = 1) ∧ ∀ tick ≤ s.now, t.aged tick = s.aged tick := by
  obtain ⟨t, hrun, hdict, htnow, hroot, htime⟩ := timeStep_eq hd hnow
  have hval (k : Nat) : t.val k = s.stepFollowed.val k := by rw [State.val, State.val, hdict]
  obtain ⟨hnow', hroot', hpend, hjumps, hlast, hsteps, hflag, hstate⟩ := s.stepFollowed_holds
  refine ⟨t, hrun, htnow.trans hnow', hroot.trans hroot', by rw [htime, hpend], ?_, ?_, ?_, fun h => ?_, fun tick htick => ?_⟩
  · rw [State.getI, hval]
    exact hlast
  · rw [State.getN, hval]
    exact hsteps
  · rw [State.flag, State.getN, hval]
    exact hflag
  · rw [State.getN, hval]
    exact hstate h
  · exact State.aged_stepped hd (htnow.trans hnow') (by rw [htime, hjumps]) htick

/-- Settles O52: each clause is the rule above of the command it speaks of. -/
theorem timeBaseAndGrandmasterInputs : Obligations.TimeBaseAndGrandmasterInputs := by
  unfold Obligations.TimeBaseAndGrandmasterInputs
  exact ⟨fun _ _ _ _ _ _ => ppsIn_used, fun _ _ _ _ => ppsIn_unnamed, fun _ _ _ => ppsIn_invalid, fun _ _ _ _ => todIn_names,
    fun _ _ => ppsMissing_flags, fun _ => ppsOut_rises, fun _ => sourceLoss_falls, fun _ => holdoverExpiry_frees, fun _ => timeStep_taken⟩

end Sys2Proof.Machine
end

section
/-! What an entry to a role, loads and groups off, and a record may change. -/
namespace Sys2Proof.Machine
set_option Elab.async false

def Eff.stopTest : List Eff := [.cells, .galRest, .gal 0x7 3, .gal 0x7 4]
theorem State.Within.stopTest (s : State) (n) : s.Within Eff.stopTest (s.stopTest n) := by
  unfold State.stopTest
  exact (refl s).ite (((refl s).updG
    (by exact fun _ => ⟨.inr rfl, .inr rfl, .inr rfl, .inr rfl, .inr rfl, .inr rfl, .inl (by decide +kernel), .inr rfl, .inl (by decide +kernel)⟩)).andThen
    fun h1 => (h1.setN .gal).setN .gal)

def Eff.toTrunk : List Eff := Eff.stopTest ++ [.trunk, .gal 0x1 1]
theorem State.Within.toTrunk (s : State) (n st) : s.Within Eff.toTrunk (s.toTrunk n st) := by
  unfold State.toTrunk
  exact ((refl s).ite ((refl s).op (stopTest ..))).andThen fun h1 => (h1.setN .gal).updTrunk

theorem State.Within.sendCmd (s : State) (n op target args) : s.Within [.trunk] (s.sendCmd n op target args) := by
  unfold State.sendCmd
  exact (refl s).ite ((refl s).updTrunk)

theorem State.Within.alignSync (s : State) (n) : s.Within [.gal 0x4 5, .gal 0x4 6] (s.alignSync n) := by
  unfold State.alignSync
  exact ((refl s).setN .gal).setR .gal

theorem State.Within.sendWrite (s : State) (n target addr value) : s.Within [.trunk] (s.sendWrite n target addr value) := by
  unfold State.sendWrite
  exact (refl s).op (sendCmd ..)

theorem State.Within.sendRead (s : State) (n target addr) : s.Within [.trunk] (s.sendRead n target addr) := by
  unfold State.sendRead
  exact (refl s).op (sendCmd ..)

theorem State.Within.sendThresh (s : State) (n) : s.Within [.trunk, .prot, .gal 0x21 5] (s.sendThresh n) := by
  unfold State.sendThresh
  exact ((((((refl s).setN .gal).updProt).updProt).foldl (fun _ _ hu => hu.op (sendWrite ..))).andThen fun h1 => (h1.op (sendWrite ..)).op
    (sendWrite ..)).ite (((((refl s).setN .gal).updProt).updProt).foldl (fun _ _ hu => hu.op (sendRead ..)))

theorem State.Within.sendCarrierPhase (s : State) (n force) : s.Within [.trunk, .gal 0x4 4] (s.sendCarrierPhase n force) := by
  unfold State.sendCarrierPhase
  exact (((refl s).setN .gal).op (sendWrite ..)).ite (refl s)

theorem State.Within.toIdentify (s : State) (n) : s.Within Eff.toTrunk (s.toIdentify n) := by
  unfold State.toIdentify
  exact ((refl s).op (toTrunk ..)).op (sendCmd ..)

def Eff.writeComps : List Eff := [.gal 0x4 5, .gal 0x4 6] ++ [.trunk] ++ [.gal 0x3e 10]
theorem State.Within.writeComps (s : State) (n slack) : s.Within Eff.writeComps (s.writeComps n slack) := by
  unfold State.writeComps
  exact ((refl s).foldl (fun _ _ hu => ((hu.op (sendWrite ..)).inc .gal).ite (hu.op (sendWrite ..)))).andThen fun h1 => h1.updTrunk.op
    (alignSync ..)

theorem State.Within.sendBalLimits (s : State) (n) : s.Within [.trunk] (s.sendBalLimits n) := by
  unfold State.sendBalLimits
  exact ((refl s).op (sendWrite ..)).ite (refl s)

theorem State.Within.sendCarrierDiv (s : State) (n) : s.Within [.trunk, .gal 0x4 4] (s.sendCarrierDiv n) := by
  unfold State.sendCarrierDiv
  exact ((((refl s).updTrunk).op (sendWrite ..)).op (sendCarrierPhase ..)).ite (refl s)

theorem State.Within.syncIfReady (s : State) (n) : s.Within [.trunk] (s.syncIfReady n) := by
  unfold State.syncIfReady
  exact (((refl s).updTrunk).op (sendCmd ..)).ite (refl s)

theorem State.Within.sendFilterCfg (s : State) (n) : s.Within [.trunk] (s.sendFilterCfg n) := by
  unfold State.sendFilterCfg
  exact (((refl s).op (sendWrite ..)).updTrunk).ite (refl s)

def Eff.upWrites : List Eff := Eff.writeComps ++ [.trunk, .prot, .gal 0x21 5] ++ [.trunk, .gal 0x4 4]
theorem State.Within.upWrites (s : State) (n) : s.Within Eff.upWrites (s.upWrites n) := by
  unfold State.upWrites
  exact ((((((((refl s).updTrunk).op (writeComps ..)).op (sendCarrierDiv ..)).op (sendBalLimits ..)).op (sendFilterCfg ..)).op (sendThresh
    ..)).op (syncIfReady ..)).op (alignSync ..)

def Eff.claimAnew : List Eff := Eff.upWrites ++ Eff.toTrunk
theorem State.Within.claimAnew (s : State) (n) : s.Within Eff.claimAnew (s.claimAnew n) := by
  unfold State.claimAnew
  split
  · exact (refl s).op (toIdentify ..)
  · exact (refl s).op (toIdentify ..)
  · exact (refl s).op (upWrites ..)
  · exact (refl s)

theorem State.Within.claimEnd (s : State) (n) : s.Within [.trunk] (s.claimEnd n) := by
  unfold State.claimEnd
  exact (((refl s).updTrunk).updTrunk).ite ((refl s).updTrunk)

def Eff.roleTo : List Eff := Eff.claimAnew ++ [.red, .obj Obj.REDUNDANCY_STATUS.ROLE, .nand, .obj Obj.REDUNDANCY_STATUS.FLAGS]
theorem State.Within.roleTo (s : State) (r) : s.Within Eff.roleTo (s.roleTo r) := by
  unfold State.roleTo
  exact (((((refl s).setN .obj).updRed).updNand).ite (((((refl s).setN .obj).updRed).updNand).ite (((((refl s).setN
    .obj).updRed).updNand).ite (((refl s).setN .obj).updRed)))).andThen fun h1 => (((h1.setFlag .obj).updRed).ite h1).andThen fun h2 =>
    ((h2.forGal (fun _ _ hu => hu.updTrunk)).ite h2).andThen fun h3 => (h3.forGal (fun _ _ hu => hu.op (claimAnew ..))).ite ((h3.forGal (fun
    _ _ hu => hu.op (claimEnd ..))).ite h3)

theorem State.Within.zeroX (s : State) (n) : s.Within [.tread] (s.zeroX n) := by
  unfold State.zeroX
  exact (refl s).updTread

theorem State.Within.zeroOut (s : State) (n) : s.Within [.tread, .gal 0xc 4] (s.zeroOut n) := by
  unfold State.zeroOut
  exact ((refl s).updTread).setR .gal

theorem State.Within.residual (s : State) (n sum dir) : s.Within [.gal 0x15 14] (s.residual n sum dir) := by
  unfold State.residual
  exact (refl s).setR .gal

theorem State.Within.dropPending (s : State) (n x2 dir) : s.Within [.gal 0x15 14, .gal 0x38 4, .gal 0x15 13] (s.dropPending n x2 dir) := by
  unfold State.dropPending
  exact (refl s).ite ((((refl s).op (residual ..)).raise .gal).setN .gal)

theorem State.Within.updWin (s : State) (n f) : s.Within [.galRest] (s.updWin n f) := by
  unfold State.updWin
  exact (refl s).updSpec

def Eff.takeSet : List Eff := [.cells, .galRest, .gal 0x15 2, .gal 0x15 3, .gal 0x15 5, .gal 0x15 6, .gal 0x15 7]
theorem State.Within.takeSet (s : State) (n x) : s.Within Eff.takeSet (s.takeSet n x) := by
  unfold State.takeSet
  exact ((refl s).updG
    (by exact fun _ => ⟨.inr rfl, .inr rfl, .inr rfl, .inr rfl, .inr rfl, .inr rfl, .inl (by decide +kernel), .inr rfl, .inl (by decide +kernel)⟩)).andThen
    fun h1 => ((((h1.setN .gal).setN .gal).setR .gal).setR .gal).ite (((((h1.setN .gal).setN .gal).setR .gal).setR .gal).setN .gal)

theorem State.Within.takeWaiting (s : State) (n) : s.Within Eff.takeSet (s.takeWaiting n) := by
  unfold State.takeWaiting
  split
  · exact (refl s).op (takeSet ..)
  · exact (refl s)

def Eff.specOff : List Eff := Eff.takeSet ++ [.gal 0x15 14, .gal 0x38 4, .gal 0x15 13] ++ [.gal 0x15 1, .gal 0xc 6]
theorem State.Within.specOff (s : State) (n) : s.Within Eff.specOff (s.specOff n) := by
  unfold State.specOff
  exact (((refl s).op (dropPending ..)).ite (((refl s).op (dropPending ..)).ite (((refl s).op (dropPending ..)).ite (refl s)))).andThen fun
    h1 => ((h1.op (updWin ..)).ite h1).andThen fun h2 => (((h2.setN .gal).setR .gal).updSpec).op (takeWaiting ..)

def Eff.switchSync : List Eff := [.chs, .obj Obj.SAFETY_OUTPUTS.LOAD_ON, .loads, .safeRest]
theorem State.Within.switchSync (s : State) : s.Within Eff.switchSync s.switchSync := by
  unfold State.switchSync
  exact ((refl s).updSafe
    (by exact fun _ => ⟨.inr rfl, .inr rfl, .inr rfl, .inr rfl, .inl (by decide +kernel), .inr rfl, .inr rfl⟩)).andThen fun h1 => (h1.setN
    .obj).updSafe
    (by exact fun _ => ⟨.inr rfl, .inr rfl, .inl (by decide +kernel), .inr rfl, .inr ⟨rfl, rfl⟩, .inr rfl, .inl (by decide +kernel)⟩)

def Eff.loadGoesOff : List Eff := Eff.switchSync ++ [.cmdOn]
theorem State.Within.loadGoesOff (s : State) (l) : s.Within Eff.loadGoesOff (s.loadGoesOff l) := by
  unfold State.loadGoesOff
  exact ((refl s).updSafe
    (by exact fun _ => ⟨.inr rfl, .inr rfl, .inr rfl, .inr rfl, .inr ⟨rfl, rfl⟩, .inl (by decide +kernel), .inr rfl⟩)).op (switchSync ..)

def Eff.loadOff : List Eff := Eff.loadGoesOff ++ [.obj Obj.SAFETY_OUTPUTS.LOAD_DEFERRED]
theorem State.Within.loadOff (s : State) (l) : s.Within Eff.loadOff (s.loadOff l) := by
  unfold State.loadOff
  exact (((refl s).setFlag .obj).updLoad).op (loadGoesOff ..)

theorem State.Within.allLoadsOff (s : State) : s.Within Eff.loadOff s.allLoadsOff := by
  unfold State.allLoadsOff
  exact (refl s).foldl (fun _ _ hu => hu.op (loadOff ..))

def Eff.setGroup : List Eff := [.grps, .above 0x290304, .chs, .gal 0x24 4]
theorem State.Within.setGroup (s : State) (g st) : s.Within Eff.setGroup (s.setGroup g st) := by
  unfold State.setGroup
  exact ((((refl s).updGrp).setN .objFrom).updSafe
    (by exact fun _ => ⟨.inr rfl, .inr rfl, .inr rfl, .inr rfl, .inl (by decide +kernel), .inr rfl, .inr rfl⟩)).andThen fun h1 => h1.foldl
    (fun _ _ hu => hu.setN .gal)

def Eff.groupsOff : List Eff := Eff.loadOff ++ Eff.setGroup ++ [.prot]
theorem State.Within.groupsOff (s : State) : s.Within Eff.groupsOff s.groupsOff := by
  unfold State.groupsOff
  exact (((refl s).op (allLoadsOff ..)).foldl (fun _ _ hu => (hu.op (setGroup ..)).updGrp)).andThen fun h1 => h1.forGal (fun _ _ hu =>
    hu.updProt)

theorem State.Within.levelSync (s : State) : s.Within [.obj Obj.RECORDER_CTRL.BUFFER_LEVEL, .obj Obj.RECORDER_CTRL.BUFFER_PEAK] s.levelSync
    := by
  unfold State.levelSync
  exact (((refl s).setN .obj).setN .obj).ite ((refl s).setN .obj)

theorem State.Within.startFlush (s : State) : s.Within [.obj Obj.RECORDER_CTRL.FLUSHES, .flush] s.startFlush := by
  unfold State.startFlush
  exact (((refl s).inc .obj).ite (refl s)).andThen fun h1 => h1.updRec (by exact fun _ => .inl (by decide +kernel))
    (by exact fun _ => .inr rfl) (by exact fun _ => .inr rfl)

def Eff.enter : List Eff := [.obj Obj.RECORDER_CTRL.FLUSHES, .flush] ++ [.obj Obj.RECORDER_CTRL.BUFFER_LEVEL, .obj
    Obj.RECORDER_CTRL.BUFFER_PEAK] ++ [.vestRest, .buffer, .obj Obj.RECORDER_WINDOW.LAST, .obj Obj.RECORDER_WINDOW.FIRST]
theorem State.Within.enter (s : State) (code cls inst sev data) : s.Within Eff.enter (s.enter code cls inst sev data) := by
  unfold State.enter
  exact (((((refl s).withVestRecd (by exact .inr rfl) (by exact .inl (by decide +kernel)) (by exact .inr rfl)
    (by exact .inl (by decide +kernel)) (by exact .inr rfl)).setN .obj).setN .obj).ite (((refl s).withVestRecd (by exact .inr rfl)
    (by exact .inl (by decide +kernel)) (by exact .inr rfl) (by exact .inl (by decide +kernel)) (by exact .inr rfl)).setN .obj)).andThen fun
    h1 => ((h1.op (levelSync ..)).op (startFlush ..)).ite (h1.op (levelSync ..))

theorem State.Within.dropNotice (s : State) : s.Within Eff.enter s.dropNotice := by
  unfold State.dropNotice
  exact (refl s).ite (((refl s).updVest).op (enter ..))

theorem State.Within.overwrite (s : State) : s.Within [.obj Obj.RECORDER_CTRL.LOST, .obj Obj.RECORDER_CTRL.FLAGS, .buffer] s.overwrite := by
  unfold State.overwrite
  exact (((refl s).setN .obj).raise .obj).updRec (by exact fun _ => .inr rfl) (by exact fun _ => .inl (by decide +kernel))
    (by exact fun _ => .inr rfl)

theorem State.Within.dropRec (s : State) : s.Within [.obj Obj.RECORDER_CTRL.DROPPED, .obj Obj.RECORDER_CTRL.FLAGS, .vestRest] s.dropRec :=
    by
  unfold State.dropRec
  exact (((refl s).inc .obj).raise .obj).updVest

def Eff.record : List Eff := Eff.enter ++ [.obj Obj.RECORDER_CTRL.DROPPED, .obj Obj.RECORDER_CTRL.FLAGS, .vestRest] ++ [.obj
    Obj.RECORDER_CTRL.LOST, .obj Obj.RECORDER_CTRL.FLAGS, .buffer]
theorem State.Within.record (s : State) (code cls inst sev data) : s.Within Eff.record (s.record code cls inst sev data) := by
  unfold State.record
  split
  · exact (refl s)
  · exact (refl s)
  · exact ((((refl s).op (dropNotice ..)).op (overwrite ..)).ite ((refl s).op (dropNotice ..))).andThen fun h1 => (h1.op (enter ..)).ite
      (h1.op (dropRec ..))

theorem State.Within.insertTriple (s : State) (n hold) : s.Within [.trunk] (s.insertTriple n hold).1 := by
  unfold State.insertTriple
  split
  · dsimp only
    exact (refl s).updTrunk
  · exact refl s

theorem State.Within.holdInsert (s : State) (n) : s.Within [.trunk] (s.holdInsert n) := by
  unfold State.holdInsert
  exact ((refl s).op (insertTriple ..)).ite (refl s)

def Eff.toConv : List Eff := [.trunk] ++ [.tread, .gal 0xc 1, .gal 0x3e 14, .gal 0x3e 15, .gal 0xc 16]
theorem State.Within.toConv (s : State) (n st) : s.Within Eff.toConv (s.toConv n st) := by
  unfold State.toConv
  dsimp only
  split
  · exact ((((refl s).updTread).setN .gal).inc .gal).op (holdInsert ..)
  · exact ((((refl s).updTread).setN .gal).inc .gal).setN .gal
  · exact ((refl s).updTread).setN .gal

def Eff.convOff : List Eff := Eff.specOff ++ Eff.toConv ++ [.tread, .gal 0xc 4]
theorem State.Within.convOff (s : State) (n) : s.Within Eff.convOff (s.convOff n) := by
  unfold State.convOff
  exact (refl s).ite ((((((refl s).op (toConv ..)).op (zeroOut ..)).op (zeroX ..)).updTread).op (specOff ..))

end Sys2Proof.Machine
end

section
/-! Load commands (R278, R288): what it takes for a load to be commanded off, and what a command to a load leaves. -/
namespace Sys2Proof.Machine
set_option Elab.async false

namespace State

/-- The groups that each safety channel has not yet seen stopped, and the sealed set, are those of `s`. -/
def lagsAs (s t : State) : Prop :=
  t.safetySet = s.safetySet ∧ t.safe.newel.lag = s.safe.newel.lag ∧ t.safe.baluster.lag = s.safe.baluster.lag

variable {s t : State} {l : Nat}

theorem lagLoads_congr {c d : Channel} (hs : t.safetySet = s.safetySet) (hl : d.lag = c.lag) : t.lagLoads d = s.lagLoads c := by
  have hg (g : Nat) : t.groupLoads g = s.groupLoads g := by
    unfold groupLoads mainLoad preLoad secN inForce
    rw [hs]
  simp only [lagLoads, hg, hl]

/-- A channel that does not lag at a load commanded off does not switch it on. -/
theorem chanLoads_off {c : Channel} (hcmd : s.loadCmd l = false) (hlag : bit (s.lagLoads c) l = false) :
    bit (s.chanLoads c).loads l = false := by
  have hand : bit (c.loads &&& s.lagLoads c) l = (bit c.loads l && bit (s.lagLoads c) l) := Nat.testBit_and ..
  have hcmd' : bit s.safe.cmdOn l = false := hcmd
  unfold chanLoads
  simp only
  split <;> simp [bit_or, bit_clearBits, hand, hlag, hcmd']

theorem loadOn_switchSync : s.switchSync.loadOn l = (bit (s.chanLoads s.safe.newel).loads l && bit (s.chanLoads s.safe.baluster).loads l) := by
  have hand (a b : Nat) : bit (a &&& b) l = (bit a l && bit b l) := Nat.testBit_and ..
  unfold switchSync loadOn
  simp [hand]

theorem switchSync_off (hl : s.lagsAs t) (hcmd : t.loadCmd l = false) : s.offCommanded t.switchSync l := by
  obtain ⟨hset, hnewel, hbaluster⟩ := hl
  refine ⟨hcmd, fun hf => ?_⟩
  rw [loadOn_switchSync, Bool.and_eq_false_iff]
  rcases hf with hf | hf
  · exact .inl (chanLoads_off hcmd (by rw [lagLoads_congr hset hnewel]; exact hf))
  · exact .inr (chanLoads_off hcmd (by rw [lagLoads_congr hset hbaluster]; exact hf))

theorem lagsAs_switchSync (h : s.lagsAs t) : s.lagsAs t.switchSync := h

/-- A load that has gone off is commanded off, and a load commanded off before stays so. -/
theorem loadGoesOff_off (hl : s.lagsAs t) {j : Nat} (h : j = l ∨ t.loadCmd j = false) : s.offCommanded (t.loadGoesOff l) j := by
  refine switchSync_off hl ?_
  change bit (withBit t.safe.cmdOn l false) j = false
  rw [bit_withBit]
  split
  · rfl
  · next hne => exact h.resolve_left hne

theorem lagsAs_put (h : s.lagsAs t) {k : Nat} {v : Val} : s.lagsAs (t.put k v) := h
theorem lagsAs_updLoad (h : s.lagsAs t) {f : Load → Load} : s.lagsAs (t.updLoad l f) := h
theorem lagsAs_loadGoesOff (h : s.lagsAs t) : s.lagsAs (t.loadGoesOff l) := lagsAs_switchSync (t := t.updSafe _) h
theorem lagsAs_loadOff (h : s.lagsAs t) : s.lagsAs (t.loadOff l) := lagsAs_loadGoesOff (lagsAs_updLoad (lagsAs_put h))

theorem loadOff_off (hl : s.lagsAs t) {j : Nat} (h : j = l ∨ t.loadCmd j = false) : s.offCommanded (t.loadOff l) j := by
  unfold loadOff
  exact loadGoesOff_off (lagsAs_updLoad (lagsAs_put hl)) h

/-- Loads switched off one after the other are commanded off, and those commanded off before stay so. -/
theorem loadOff_foldl_off (ls : List Nat) (hl : s.lagsAs t) {j : Nat} (h : j ∈ ls ∨ s.offCommanded t j) :
    s.lagsAs (ls.foldl (fun u l => u.loadOff l) t) ∧ s.offCommanded (ls.foldl (fun u l => u.loadOff l) t) j := by
  induction ls generalizing t with
  | nil => exact ⟨hl, h.resolve_left (by simp)⟩
  | cons l ls ih =>
    rw [List.foldl_cons]
    refine ih (lagsAs_loadOff hl) ?_
    rcases h with h | h
    · rcases List.mem_cons.1 h with hj | h
      · exact .inr (loadOff_off hl (.inl hj))
      · exact .inl h
    · exact .inr (loadOff_off hl (.inr h.1))

theorem allLoadsOff_off (hl : s.lagsAs t) {j : Nat} (h : j < 16) : s.lagsAs t.allLoadsOff ∧ s.offCommanded t.allLoadsOff j :=
  loadOff_foldl_off _ hl (.inl (List.mem_range.2 h))

/-- A load commanded off is so in a state with the same commands and switches. -/
theorem offCommanded.congr {u : State} (h : s.offCommanded t l) (hc : u.safe.cmdOn = t.safe.cmdOn)
    (ho : u.val Obj.SAFETY_OUTPUTS.LOAD_ON = t.val Obj.SAFETY_OUTPUTS.LOAD_ON) : s.offCommanded u l := by
  refine ⟨?_, fun hf => ?_⟩
  · rw [loadCmd, hc]
    exact h.1
  · rw [loadOn, flag, getN, ho]
    exact h.2 hf

/-! ### A group's state -/

theorem grp_updGrp_same {g : Nat} (hg : g < s.safe.groups.length) (f : Group → Group) : (s.updGrp g f).grp g = f (s.grp g) := by
  change (modAt s.safe.groups g f).getD g {} = _
  rw [modAt_getD, if_pos ⟨rfl, hg⟩]
  rfl

theorem grp_updGrp_other {g h : Nat} (hne : h ≠ g) (f : Group → Group) : (s.updGrp g f).grp h = s.grp h := by
  change (modAt s.safe.groups g f).getD h {} = _
  rw [modAt_getD, if_neg fun e => hne e.1]
  rfl

end State

end Sys2Proof.Machine
end

section
/-! The entry to a role of a redundant pair: what it sets, and what it leaves to the trunks that the module claims or no longer claims. -/
namespace Sys2Proof.Machine
set_option Elab.async false

namespace State
variable (s : State) (r : Nat)

/-- The plant time from which SWAP_INTERVAL counts is noted. -/
def swapNoted (old : Nat) : State :=
  if old = 2 ∧ r ≠ 2 ∧ r ≠ 5 then s.updNand (fun d => { d with swapFrom := some s.now })
  else if old = 5 ∧ r ≠ 2 then s.updNand (fun d => { d with swapFrom := some s.now })
  else if r = 3 ∧ s.nand.swapFrom = none then s.updNand (fun d => { d with swapFrom := some s.now })
  else s

theorem swapNoted_only (old : Nat) : s.swapNoted r old = { s with nand := (s.swapNoted r old).nand } := by
  unfold swapNoted
  repeat' split
  all_goals rfl

/-- An entry to a role before the trunks follow. -/
def roleEntered : State :=
  let t := ((s.setN Obj.REDUNDANCY_STATUS.ROLE r).updRed (fun x => { x with roleAt := s.root, roleSf := 0, passSwap := false })).swapNoted r s.role
  if r = 2 then (t.setFlag Obj.REDUNDANCY_STATUS.FLAGS 8 false).updRed (fun x => { x with handover := 0xFFFFFFFF, yieldLoads := false }) else t

/-- The redundancy runtime after an entry to a role. -/
def roleRed : RedRt :=
  let x := { s.red with roleAt := s.root, roleSf := 0, passSwap := false }
  if r = 2 then { x with handover := 0xFFFFFFFF, yieldLoads := false } else x

theorem roleTo_eq : s.roleTo r =
    (let u := if roleCode r && (!roleCode s.role || (decide (s.role = 5) && decide (r = 2))) then
        (s.roleEntered r).forGal (fun n s => s.updTrunk n (fun t => { t with noClaim := false, authSf := 0 })) else s.roleEntered r
     if roleCode r && !roleCode s.role && decide (r ≠ 4) then u.forGal (fun n s => s.claimAnew n)
     else if roleCode s.role && !roleCode r then u.forGal (fun n s => s.claimEnd n) else u) := rfl

/-- After the entry only the trunks follow. -/
theorem roleTo_within : (s.roleEntered r).Within Eff.claimAnew (s.roleTo r) := by
  rw [roleTo_eq]
  have hu : (s.roleEntered r).Within Eff.claimAnew (if roleCode r && (!roleCode s.role || (decide (s.role = 5) && decide (r = 2))) then
      (s.roleEntered r).forGal (fun n s => s.updTrunk n (fun t => { t with noClaim := false, authSf := 0 })) else s.roleEntered r) :=
    ((Within.refl _).forGal fun _ _ hu => hu.updTrunk).ite (Within.refl _)
  exact (hu.forGal fun _ _ h => h.op (Within.claimAnew ..)).ite ((hu.forGal fun _ _ h => h.op (Within.claimEnd ..)).ite hu)

/-- An entry to a role changes the redundancy runtime, the swap's time, ROLE and, to ACTIVE, SWAP_DUE. -/
theorem roleEntered_only : s.roleEntered r = { s with
    nand := (s.roleEntered r).nand, dict := (s.roleEntered r).dict, red := s.roleRed r } := by
  unfold roleEntered roleRed
  simp only
  rw [swapNoted_only]
  split <;> rfl

theorem roleEntered_val (k : Nat) : (s.roleEntered r).val k = if k = Obj.REDUNDANCY_STATUS.FLAGS ∧ r = 2 then
    .n (withBit (s.getN Obj.REDUNDANCY_STATUS.FLAGS) 8 false) else if k = Obj.REDUNDANCY_STATUS.ROLE then .n r else s.val k := by
  unfold roleEntered
  generalize hu : ((s.setN Obj.REDUNDANCY_STATUS.ROLE r).updRed (fun x => { x with roleAt := s.root, roleSf := 0, passSwap := false })).swapNoted
    r s.role = u
  have hval (j : Nat) : u.val j = if j = Obj.REDUNDANCY_STATUS.ROLE then .n r else s.val j := by
    rw [← hu, swapNoted_only]
    exact s.val_put _ _ _
  have hflags : u.getN Obj.REDUNDANCY_STATUS.FLAGS = s.getN Obj.REDUNDANCY_STATUS.FLAGS := by
    rw [getN, hval, if_neg (by decide), getN]
  simp only
  split
  · next h2 => simp only [val_updRed, setFlag_eq_put, val_put_eq, hval, hflags, h2, and_true]
  · next h2 => simp [hval, h2]

/-- The objects after an entry to a role, but for those of the trunks. -/
theorem roleTo_val {k : Nat} (hk : Eff.claimAnew.all (fun e => !e.covers k) = true := by decide +kernel) : (s.roleTo r).val k =
    if k = Obj.REDUNDANCY_STATUS.FLAGS ∧ r = 2 then .n (withBit (s.getN Obj.REDUNDANCY_STATUS.FLAGS) 8 false)
    else if k = Obj.REDUNDANCY_STATUS.ROLE then .n r else s.val k :=
  ((s.roleTo_within r).val hk).trans (s.roleEntered_val r k)

theorem roleTo_getN {k : Nat} (hk : Eff.claimAnew.all (fun e => !e.covers k) = true := by decide +kernel) : (s.roleTo r).getN k =
    if k = Obj.REDUNDANCY_STATUS.FLAGS ∧ r = 2 then withBit (s.getN Obj.REDUNDANCY_STATUS.FLAGS) 8 false
    else if k = Obj.REDUNDANCY_STATUS.ROLE then r else s.getN k := by
  rw [getN, roleTo_val s r hk]
  split
  · rfl
  · split <;> rfl

@[simp] theorem roleTo_role : (s.roleTo r).role = r := by
  rw [role, roleTo_getN, if_neg (fun h => absurd h.1 (by decide)), if_pos rfl]

theorem roleTo_red : (s.roleTo r).red = s.roleRed r :=
  ((s.roleTo_within r).kept .red (by decide +kernel)).trans (congrArg State.red (s.roleEntered_only r) :)

end State

end Sys2Proof.Machine
end

section
/-! Role requests and role timers of a redundant pair (R352 with Table 13-4, R357, R358, R364, R366). -/
namespace Sys2Proof.Machine
set_option Elab.async false

/-! ### ENABLE and PAIR_WAIT -/

theorem redundancyEnable_off {s : State} {p : Path} (h : s.takesWrite p 0x2400 1 [0] (.n 0)) (hr : s.role ≠ 0) :
    ∃ t, exec (.redundancyEnable p 0) s = .next t ∧ t.last = some (.ok []) ∧ t.role = 0 ∧ t.red.mirror = none ∧
      t.getN Obj.REDUNDANCY_CFG.ENABLE = 0 ∧ t.getN Obj.REDUNDANCY_STATUS.LINKS = 0 ∧
      t.getN Obj.REDUNDANCY_STATUS.PARTNER_ROLE = 0xFF := by
  have hrole : (s.put Obj.REDUNDANCY_CFG.ENABLE (.n 0)).role ≠ 0 := by simpa (decide := true) [State.role] using hr
  have hw := State.write_ok h (eff := redundancyEnableEff) (by rw [redundancyEnableEff, if_pos (Val.toN_n 0), if_neg hrole])
  rw [exec, execRedundancyEnable, show leBytes 1 0 = [0] from rfl, hw, exists_next]
  refine ⟨rfl, ?_, ?_, ?_⟩
  · exact State.roleTo_role ..
  · simp only [State.reply_red, State.roleTo_red]
    rfl
  · simp (decide := true) [State.roleTo_getN]

theorem redundancyEnable_pairs {s : State} {p : Path} (h : s.takesWrite p 0x2400 1 [1] (.n 1)) (hr : s.role = 0) :
    ∃ t, exec (.redundancyEnable p 1) s = .next t ∧ t.last = some (.ok []) ∧ t.role = 1 ∧
      t.getN Obj.REDUNDANCY_CFG.ENABLE = 1 ∧ ∀ n, t.claims n = false := by
  have hrole : (s.put Obj.REDUNDANCY_CFG.ENABLE (.n 1)).role = 0 := by simpa (decide := true) [State.role] using hr
  have hw := State.write_ok h (eff := redundancyEnableEff) (by rw [redundancyEnableEff, if_neg (by decide), if_pos hrole])
  have hone : (((s.put Obj.REDUNDANCY_CFG.ENABLE (.n 1)).roleTo 1).reply (.ok [])).role = 1 := State.roleTo_role ..
  rw [exec, execRedundancyEnable, show leBytes 1 1 = [1] from rfl, hw, exists_next]
  refine ⟨rfl, hone, ?_, fun n => ?_⟩
  · simp (decide := true) [State.roleTo_getN]
  · rw [State.claims, State.roleClaims, hone]
    rfl

theorem redundancyEnable_kept {s : State} {p : Path} (h : s.takesWrite p 0x2400 1 [1] (.n 1)) (hr : s.role ≠ 0) :
    ∃ t, exec (.redundancyEnable p 1) s = .next t ∧ t.last = some (.ok []) ∧ t.role = s.role ∧ t.red = s.red := by
  have hrole : (s.put Obj.REDUNDANCY_CFG.ENABLE (.n 1)).role = s.role := by simp (decide := true) [State.role]
  have hw := State.write_ok h (eff := redundancyEnableEff) (by rw [redundancyEnableEff, if_neg (by decide), if_neg (by rw [hrole]; exact hr)])
  rw [exec, execRedundancyEnable, show leBytes 1 1 = [1] from rfl, hw, exists_next]
  exact ⟨rfl, hrole, rfl⟩

theorem pairWait_actives {s : State} (hr : s.role = 1) (hm : s.red.mirror = none)
    (hh : ∀ n < s.part.galleries, s.strOn n = true → bit (s.g n).trunk.obeyPort (1 - s.ownPort) = false)
    (hp : s.passed s.red.roleAt (msTicks (s.getN Obj.REDUNDANCY_CFG.PAIR_WAIT)) = true) :
    ∃ t, exec .pairWait s = .next t ∧ t.role = 2 ∧
      t.getN Obj.REDUNDANCY_STATUS.EPOCH = (s.getN Obj.REDUNDANCY_STATUS.EPOCH + 1) % 2 ^ 32 := by
  have hheads : s.galIds.any (fun n => s.strOn n && bit (s.g n).trunk.obeyPort (1 - s.ownPort)) = false := by
    rw [List.any_eq_false]
    intro n hn hon
    rw [Bool.and_eq_true] at hon
    exact absurd (hh n (List.mem_range.1 hn) hon.1) (by simp [hon.2])
  rw [exec, execPairWait, hheads]
  simp only [hr, hm, hp, Option.isNone_none, decide_true, Bool.not_false, Bool.and_self, if_true, exists_next]
  refine ⟨State.roleTo_role .., ?_⟩
  rw [State.roleTo_getN, if_neg (by decide), if_neg (by decide), State.nextEpoch, hm]
  simp

/-! ### SWAP -/

/-- Whether every contactor group and every converter is at rest for a swap. -/
def State.swapRest (s : State) : Bool :=
  (List.range 8).all (fun g => match (s.grp g).state with
      | .off | .waitOff | .energised => true
      | _ => false) &&
  s.galIds.all (fun n => match (s.g n).tread.state with
      | .reversing | .stopping => false
      | _ => true)

/-- Whether the partner's strings are at rest for a swap. -/
def Mirror.swapRest (m : Mirror) : Bool :=
  m.strings.all (fun x => [0, 1, 6, 0xFF].contains x.group && decide (x.conv ≠ 3) && decide (x.conv ≠ 4))

theorem State.swapRest_iff {s : State} : s.swapRest = true ↔
    (∀ g < 8, (s.grp g).state = .off ∨ (s.grp g).state = .waitOff ∨ (s.grp g).state = .energised) ∧
    ∀ n < s.part.galleries, (s.g n).tread.state ≠ .reversing ∧ (s.g n).tread.state ≠ .stopping := by
  have hgroup (x : GState) : (match x with
      | .off | .waitOff | .energised => true
      | _ => false) = true ↔ x = .off ∨ x = .waitOff ∨ x = .energised := by cases x <;> simp
  have hconv (x : ConvState) : (match x with
      | .reversing | .stopping => false
      | _ => true) = true ↔ x ≠ .reversing ∧ x ≠ .stopping := by cases x <;> simp
  rw [swapRest, Bool.and_eq_true, List.all_eq_true, List.all_eq_true]
  refine and_congr ⟨fun h g hg => (hgroup _).1 (h g (List.mem_range.2 hg)), fun h g hg => (hgroup _).2 (h g (List.mem_range.1 hg))⟩
    ⟨fun h n hn => (hconv _).1 (h n (List.mem_range.2 hn)), fun h n hn => (hconv _).2 (h n (List.mem_range.1 hn))⟩

theorem Mirror.swapRest_iff {m : Mirror} : m.swapRest = true ↔
    ∀ x ∈ m.strings, (x.group = 0 ∨ x.group = 1 ∨ x.group = 6 ∨ x.group = 0xFF) ∧ x.conv ≠ 3 ∧ x.conv ≠ 4 := by
  simp [swapRest, and_assoc]

theorem swapEff_active {s : State} {m : Mirror} (v : Val) (hr : s.role = 2) (hm : s.red.mirror = some m) :
    swapEff v s = if s.partnerPath && decide (m.notReady = 0) && s.swapRest then
      .ok ((s.roleTo 5).updRed (fun r => { r with handover := (s.presentSf + 32) % 2 ^ 32 })) else .error abortState := by
  unfold swapEff State.swapRest
  rw [hr, hm, ← Bool.and_assoc]
  rfl

theorem swapEff_standby {s : State} {m : Mirror} (v : Val) (hr : s.role = 3) (hm : s.red.mirror = some m) :
    swapEff v s = if s.partnerPath && decide (s.notReadyNow = 0) && m.swapRest then
      .ok ((s.updRed (fun r => { r with passSwap := true })).request m.serial 0x2400 8 (some [1])) else .error abortState := by
  unfold swapEff Mirror.swapRest
  rw [hr, hm]
  rfl

theorem swapEff_other {s : State} (v : Val) (h : (s.role ≠ 2 ∧ s.role ≠ 3) ∨ s.red.mirror = none) : swapEff v s = .error abortState := by
  unfold swapEff
  split
  · next m hr hm => rcases h with ⟨h2, -⟩ | h
                    · exact absurd hr h2
                    · simp [hm] at h
  · next m hr hm => rcases h with ⟨-, h3⟩ | h
                    · exact absurd hr h3
                    · simp [hm] at h
  · rfl

/-- YIELDING is entered from ACTIVE with no change but ROLE. -/
theorem State.roleTo_yielding {s : State} (hr : s.role = 2) : s.roleTo 5 = s.roleEntered 5 := by
  rw [roleTo_eq, hr]
  rfl

theorem swap_yields {s : State} {p : Path} {m : Mirror} (h : s.takesWrite p 0x2400 8 [1] (.n 1)) (hr : s.role = 2)
    (hm : s.red.mirror = some m) (hpath : s.partnerPath = true) (hn : m.notReady = 0)
    (hg : ∀ g < 8, (s.grp g).state = .off ∨ (s.grp g).state = .waitOff ∨ (s.grp g).state = .energised)
    (hc : ∀ n < s.part.galleries, (s.g n).tread.state ≠ .reversing ∧ (s.g n).tread.state ≠ .stopping) :
    ∃ t, exec (.swap p) s = .next t ∧ t.last = some (.ok []) ∧ t.role = 5 ∧ t.red.handover = (s.presentSf + 32) % 2 ^ 32 ∧
      s.sameBut t [Obj.REDUNDANCY_STATUS.ROLE] := by
  have hw := State.write_ok h (eff := swapEff) (by rw [swapEff_active _ hr hm, hpath, hn, State.swapRest_iff.2 ⟨hg, hc⟩]; rfl)
  rw [exec, execSwap, hw, exists_next]
  refine ⟨rfl, State.roleTo_role .., rfl, fun k hk => ?_⟩
  have hval := s.roleEntered_val 5 k
  rw [if_neg (fun h => absurd h.2 (by decide)), if_neg (by simpa using hk)] at hval
  simpa [State.roleTo_yielding hr] using hval

theorem swap_passes {s : State} {p : Path} {m : Mirror} {key : List Byte} (h : s.takesWrite p 0x2400 8 [1] (.n 1)) (hr : s.role = 3)
    (hm : s.red.mirror = some m) (hpath : s.partnerPath = true) (hn : s.notReadyNow = 0)
    (hx : ∀ x ∈ m.strings, (x.group = 0 ∨ x.group = 1 ∨ x.group = 6 ∨ x.group = 0xFF) ∧ x.conv ≠ 3 ∧ x.conv ≠ 4)
    (hk : s.nand.ringKey = some key) (hport : s.anyPortUp = true) :
    ∃ t, exec (.swap p) s = .next t ∧ t.last = some (.ok []) ∧ t.role = 3 ∧ t.red.passSwap = true ∧
      t.arc.reqs = s.arc.reqs ++ [{ id := s.arc.nextId, dest := m.serial, write := true, index := 0x2400, sub := 8, at_ := s.root }] := by
  have hw := State.write_ok h (eff := swapEff) (by rw [swapEff_standby _ hr hm, hpath, hn, Mirror.swapRest_iff.2 hx]; rfl)
  have hport' : (s.updRed (fun r => { r with passSwap := true })).anyPortUp = true := hport
  rw [exec, execSwap, hw, exists_next, State.request, if_neg (by simp [hk, hport'])]
  unfold State.sendPdu
  simp only [State.updRed_nand, hk]
  exact ⟨rfl, hr, rfl, rfl⟩

theorem swap_refused {s : State} {p : Path} (h : s.takesWrite p 0x2400 8 [1] (.n 1))
    (hbad : (s.role ≠ 2 ∧ s.role ≠ 3) ∨ s.red.mirror = none ∨ s.partnerPath = false ∨
        (s.role = 2 ∧ ∃ m, s.red.mirror = some m ∧ m.notReady ≠ 0) ∨ (s.role = 3 ∧ s.notReadyNow ≠ 0) ∨
        (s.role = 2 ∧ ((∃ g < 8, (s.grp g).state ≠ .off ∧ (s.grp g).state ≠ .waitOff ∧ (s.grp g).state ≠ .energised) ∨
          ∃ n < s.part.galleries, (s.g n).tread.state = .reversing ∨ (s.g n).tread.state = .stopping)) ∨
        (s.role = 3 ∧ ∃ m, s.red.mirror = some m ∧ ∃ x ∈ m.strings, x.conv = 3 ∨ x.conv = 4 ∨
          (x.group ≠ 0 ∧ x.group ≠ 1 ∧ x.group ≠ 6 ∧ x.group ≠ 0xFF))) :
    exec (.swap p) s = .next (s.reply (.abort abortState)) := by
  suffices he : swapEff (.n 1) s = .error abortState by rw [exec, execSwap, State.write_refused h he]
  by_cases hother : (s.role ≠ 2 ∧ s.role ≠ 3) ∨ s.red.mirror = none
  · exact swapEff_other _ hother
  obtain ⟨m, hm⟩ := Option.ne_none_iff_exists'.1 (not_or.1 hother).2
  by_cases hr : s.role = 2
  · rw [swapEff_active _ hr hm, if_neg]
    simp only [Bool.and_eq_true, decide_eq_true_eq, State.swapRest_iff]
    rintro ⟨⟨hpath, hn⟩, hg, hc⟩
    rcases hbad with ⟨h2, -⟩ | h | h | ⟨-, m', hm', h⟩ | ⟨h3, -⟩ | ⟨-, ⟨g, hg8, hoff, hwait, hon⟩ | ⟨n, hlt, h⟩⟩ | ⟨h3, -⟩
    · exact h2 hr
    · simp [hm] at h
    · simp [hpath] at h
    · rw [hm] at hm'
      exact h (Option.some.inj hm' ▸ hn)
    · omega
    · rcases hg g hg8 with h | h | h <;> contradiction
    · obtain ⟨h3, h4⟩ := hc n hlt
      rcases h with h | h <;> contradiction
    · omega
  · have hr3 : s.role = 3 := by
      by_contra h3
      exact hother (.inl ⟨hr, h3⟩)
    rw [swapEff_standby _ hr3 hm, if_neg]
    simp only [Bool.and_eq_true, decide_eq_true_eq, Mirror.swapRest_iff]
    rintro ⟨⟨hpath, hn⟩, hx⟩
    rcases hbad with ⟨-, h3⟩ | h | h | ⟨h2, -⟩ | ⟨-, h⟩ | ⟨h2, -⟩ | ⟨-, m', hm', x, hmem, h⟩
    · exact h3 hr3
    · simp [hm] at h
    · simp [hpath] at h
    · exact hr h2
    · exact h hn
    · exact hr h2
    · rw [hm] at hm'
      obtain ⟨hgroup, h3, h4⟩ := hx x (Option.some.inj hm' ▸ hmem)
      omega

/-! ### TAKING_OVER and YIELDING -/

namespace State
variable {s t : State}

theorem setGroup_groups (g : Nat) (st : GState) :
    (s.setGroup g st).safe.groups = modAt s.safe.groups g (fun r => { r with state := st, since := s.root }) := by
  unfold setGroup
  exact List.foldlRecOn (motive := fun u : State => u.safe.groups = modAt s.safe.groups g (fun r => { r with state := st, since := s.root }))
    _ _ rfl fun _ h _ _ => h

/-- A group is OFF at once. -/
def groupDown (s : State) (g : Nat) : State :=
  (s.setGroup g .off).updGrp g (fun r => { r with
    pend := false, mainAt := none, srsAt := none, firstK := none, trunkSeo := none, loadsOff := none })

theorem groupDown_groups (g : Nat) : (s.groupDown g).safe.groups.length = s.safe.groups.length ∧
    ∀ h < s.safe.groups.length, ((s.groupDown g).grp h).state = if h = g then .off else (s.grp h).state := by
  have hgroups : (s.groupDown g).safe.groups = modAt (modAt s.safe.groups g (fun r => { r with state := .off, since := s.root })) g
      (fun r => { r with pend := false, mainAt := none, srsAt := none, firstK := none, trunkSeo := none, loadsOff := none }) :=
    congrArg (fun l => modAt l g _) (setGroup_groups g .off)
  refine ⟨by rw [hgroups, modAt_length, modAt_length], fun h hlt => ?_⟩
  rw [grp, hgroups, modAt_getD, modAt_getD, modAt_length]
  by_cases he : h = g
  · simp [he, he ▸ hlt]
  · simp [he, grp]

theorem groupDown_foldl (gs : List Nat) {h : Nat} (hh : h < s.safe.groups.length) (hoff : h ∈ gs ∨ (s.grp h).state = .off) :
    ((gs.foldl groupDown s).grp h).state = .off := by
  induction gs generalizing s with
  | nil => exact hoff.resolve_left (by simp)
  | cons g gs ih =>
    obtain ⟨hlen, hstate⟩ := groupDown_groups (s := s) g
    rw [List.foldl_cons]
    refine ih (by rw [hlen]; exact hh) ?_
    rw [hstate h hh]
    rcases hoff with hmem | ho
    · rcases List.mem_cons.1 hmem with rfl | hmem
      · exact .inr (if_pos rfl)
      · exact .inl hmem
    · exact .inr (by rw [ho, ite_self])

theorem groupsOff_eq : s.groupsOff = ((List.range 8).foldl groupDown s.allLoadsOff).forGal (fun n s => s.updProt n (fun p => { p with
    seoInh := false, newel := false, baluster := false, downSeo := false, rampAt := none })) := rfl

/-- Loads and groups off: every load is commanded off and every group is OFF. -/
theorem groupsOff_off (hl : s.lagsAs t) (hlen : t.safe.groups.length = 8) :
    (∀ l < 16, s.offCommanded t.groupsOff l) ∧ ∀ g < 8, (t.groupsOff.grp g).state = .off := by
  have hgroups : t.allLoadsOff.safe.groups.length = 8 := by
    rw [(Within.allLoadsOff t).kept .grps (by decide +kernel), hlen]
  have hdown : t.allLoadsOff.Within (Eff.setGroup ++ [.grps]) ((List.range 8).foldl groupDown t.allLoadsOff) :=
    (Within.refl _).foldl fun _ _ h => (h.op (Within.setGroup ..)).updGrp
  have hprot : ((List.range 8).foldl groupDown t.allLoadsOff).Within [.prot] t.groupsOff :=
    (Within.refl _).forGal fun _ _ h => h.updProt
  refine ⟨fun l hlt => ?_, fun g hg => ?_⟩
  · exact ((allLoadsOff_off hl hlt).2.congr (hdown.kept .cmdOn (by decide +kernel)) hdown.val).congr
      (hprot.kept .cmdOn (by decide +kernel)) hprot.val
  · have hgrp : t.groupsOff.grp g = ((List.range 8).foldl groupDown t.allLoadsOff).grp g :=
      congrArg (fun l : List Group => l.getD g {}) (hprot.kept .grps (by decide +kernel))
    rw [hgrp]
    exact groupDown_foldl (List.range 8) (by omega) (.inl (List.mem_range.2 hg))

/-- A take-over for cause 1 that did not end: STANDBY, the converters OFF. -/
def takeOverLost (s : State) : State := ((s.raise Obj.REDUNDANCY_STATUS.FLAGS 6).roleTo 3).forGal (fun n s => s.convOff n)

theorem takeOverLost_convs : ((s.raise Obj.REDUNDANCY_STATUS.FLAGS 6).roleTo 3).Within Eff.convOff s.takeOverLost :=
  (Within.refl _).forGal fun _ _ h => h.op (Within.convOff ..)

theorem takeOverLost_within : s.Within (Eff.roleTo ++ Eff.convOff) s.takeOverLost :=
  (((Within.refl s).raise .obj).op (Within.roleTo ..)).op takeOverLost_convs

theorem takeOverLost_lags : s.lagsAs s.takeOverLost := by
  obtain ⟨hnewel, hbaluster⟩ := (takeOverLost_within (s := s)).kept .chs (by decide +kernel)
  exact ⟨takeOverLost_within.kept .safetySet (by decide +kernel), by rw [hnewel], by rw [hbaluster]⟩

theorem takeOverLost_objects : s.takeOverLost.groupsOff.getN Obj.REDUNDANCY_STATUS.ROLE = 3 ∧
    bit (s.takeOverLost.groupsOff.getN Obj.REDUNDANCY_STATUS.FLAGS) 6 = true := by
  rw [(Within.groupsOff _).getN, takeOverLost_convs.getN, (Within.groupsOff _).getN, takeOverLost_convs.getN]
  refine ⟨roleTo_role .., ?_⟩
  rw [roleTo_getN, if_neg (by decide), if_neg (by decide)]
  simp

end State

theorem takeoverTimeout_fails {s : State} (hlen : s.safe.groups.length = 8) (hr : s.role = 4) (hsf : 16 ≤ s.red.roleSf)
    (hc : s.red.cause = 1) :
    ∃ t, exec .takeoverTimeout s = .next t ∧ t.role = 3 ∧ t.flag Obj.REDUNDANCY_STATUS.FLAGS 6 = true ∧
      (∀ l < 16, s.offCommanded t l) ∧ ∀ g < 8, (t.grp g).state = .off := by
  have hrun : exec .takeoverTimeout s = .next (s.takeOverLost.groupsOff.updSafe (fun r => { r with adopt := none })) := by
    rw [exec, execTakeoverTimeout, if_pos ⟨hr, hsf⟩, if_pos hc, State.takeOverLost]
  have hgroups : s.takeOverLost.safe.groups.length = 8 := by
    rw [State.takeOverLost_within.kept .grps (by decide +kernel), hlen]
  obtain ⟨hloads, hstates⟩ := State.groupsOff_off State.takeOverLost_lags hgroups
  obtain ⟨hrole, hflag⟩ := State.takeOverLost_objects (s := s)
  rw [hrun, exists_next]
  generalize s.takeOverLost.groupsOff = u at *
  refine ⟨?_, ?_, fun l hlt => (hloads l hlt).congr rfl rfl, fun g hg => hstates g hg⟩
  · rw [State.role, State.getN_updSafe, hrole]
  · rw [State.flag, State.getN_updSafe, hflag]

theorem takeoverTimeout_ends {s : State} (hr : s.role = 4) (hsf : 16 ≤ s.red.roleSf) (hc : s.red.cause ≠ 1) :
    ∃ t, exec .takeoverTimeout s = .next t ∧ t.role = 2 ∧ t.flag Obj.REDUNDANCY_STATUS.FLAGS 9 = true ∧
      t.getN Obj.REDUNDANCY_STATUS.TAKEOVERS = min 0xFFFFFFFF (s.getN Obj.REDUNDANCY_STATUS.TAKEOVERS + 1) := by
  rw [exec, execTakeoverTimeout, if_pos ⟨hr, hsf⟩, if_neg hc, exists_next]
  have hends (u : State) : u.takeOverEnds.role = 2 ∧ u.takeOverEnds.getN Obj.REDUNDANCY_STATUS.FLAGS =
      withBit (u.getN Obj.REDUNDANCY_STATUS.FLAGS) 8 false ∧ u.takeOverEnds.getN Obj.REDUNDANCY_STATUS.TAKEOVERS =
      min 0xFFFFFFFF (u.getN Obj.REDUNDANCY_STATUS.TAKEOVERS + 1) := by
    unfold State.takeOverEnds State.role
    rw [(State.Within.record ..).getN, (State.Within.record ..).getN, (State.Within.record ..).getN]
    refine ⟨?_, ?_, ?_⟩ <;> simp (decide := true) [State.roleTo_getN]
  obtain ⟨hrole, hflags, htook⟩ := hends (s.raise Obj.REDUNDANCY_STATUS.FLAGS 9)
  refine ⟨hrole, ?_, ?_⟩
  · rw [State.flag, hflags]
    simp [bit_withBit]
  · rw [htook]
    simp (decide := true)

theorem yieldTimeout_aborts {s : State} {n : Nat} (hr : s.role = 5)
    (hsf : sfReached s.presentSf ((s.red.handover + 8) % 2 ^ 32) = true) (hon : s.strOn n = true) (hup : s.trunkUp n = true)
    (hclaim : (s.g n).trunk.noClaim = false) :
    ∃ t, exec .yieldTimeout s = .next t ∧ t.role = 2 ∧ t.red.handover = 0xFFFFFFFF ∧ t.flag Obj.REDUNDANCY_STATUS.FLAGS 6 = true := by
  have hall : s.galIds.all (fun n => !(s.strOn n && s.trunkUp n) || (s.g n).trunk.noClaim) = false := by
    rw [List.all_eq_false]
    refine ⟨n, List.mem_range.2 ?_, by simp [hon, hup, hclaim]⟩
    simp only [State.strOn, State.hasGal, Bool.and_eq_true, decide_eq_true_eq] at hon
    exact hon.1.1
  rw [exec, execYieldTimeout, if_pos ⟨hr, hsf, hall⟩, exists_next, State.roleTo_red]
  refine ⟨State.roleTo_role .., rfl, ?_⟩
  rw [State.flag, State.roleTo_getN, if_pos ⟨rfl, rfl⟩]
  simp [bit_withBit]

/-! ### RE_ARM and SWAP_DUE -/

theorem reArm_clears {s : State} {p : Path} (h : s.takesWrite p 0x2400 0x0A [1] (.n 1)) :
    ∃ t, exec (.reArm p) s = .next t ∧ t.last = some (.ok []) ∧ t.red = { s.red with overlapYield := false } ∧ t.dict = s.dict ∧
      t.gal = s.gal := by
  rw [exec, execReArm, State.write_ok h rfl, exists_next]
  exact ⟨rfl, rfl, rfl, rfl⟩

theorem swapDue_flags {s : State} {at_ : Nat} (ha : s.nand.swapFrom = some at_) (hr : s.role = 3)
    (hi : s.getN Obj.REDUNDANCY_CFG.SWAP_INTERVAL ≠ 0) (hp : secTicks (s.getN Obj.REDUNDANCY_CFG.SWAP_INTERVAL) ≤ s.aged at_) :
    ∃ t, exec .swapDue s = .next t ∧ t.flag Obj.REDUNDANCY_STATUS.FLAGS 8 = true ∧ s.sameBut t [Obj.REDUNDANCY_STATUS.FLAGS] := by
  simp only [exec, execSwapDue, ha]
  rw [if_pos ⟨hr, hi, hp⟩, exists_next]
  exact ⟨by simp, by simp +contextual [State.sameBut]⟩

/-- Settles O53: each clause is the rule above of the command it speaks of. -/
theorem rolesFollowTheTable : Obligations.RolesFollowTheTable := by
  unfold Obligations.RolesFollowTheTable
  exact ⟨fun _ _ => redundancyEnable_off, fun _ _ => redundancyEnable_pairs, fun _ _ => redundancyEnable_kept, fun _ => pairWait_actives,
    fun _ _ _ => swap_yields, fun _ _ _ _ => swap_passes, fun _ _ => swap_refused, fun _ => takeoverTimeout_fails,
    fun _ => takeoverTimeout_ends, fun _ _ => yieldTimeout_aborts, fun _ _ => reArm_clears, fun _ _ => swapDue_flags⟩

end Sys2Proof.Machine
end

section
/-! What a take-over, the state of the links and a partner's frame may change. -/
namespace Sys2Proof.Machine
set_option Elab.async false

theorem State.Within.nextEpoch (s : State) : s.Within [.obj Obj.REDUNDANCY_STATUS.EPOCH] s.nextEpoch := by
  unfold State.nextEpoch
  exact (refl s).setN .obj

theorem State.Within.formRefs (s : State) (n) : s.Within [.gal 0x38 3, .tread] (s.formRefs n) := by
  unfold State.formRefs
  exact (((refl s).raise .gal).ite (refl s)).andThen fun h1 => h1.updTread

def Eff.adoptString : List Eff := [.gal 0x38 3, .tread] ++ [.gal 0x15 14] ++ [.gal 0xc 1, .gal 0xc 2, .gal 0x9 2, .gal 0x9 3, .gal 0x9 4,
    .galRest, .gal 0x15 1, .gal 0x15 13]
theorem State.Within.adoptString (s : State) (n m) : s.Within Eff.adoptString (s.adoptString n m) := by
  unfold State.adoptString
  exact (((((((refl s).updTread).setN .gal).setI .gal).setN .gal).setR .gal).ite (((((((refl s).updTread).setN .gal).setI .gal).setN
    .gal).setR .gal).ite (((((refl s).updTread).setN .gal).setI .gal).setN .gal))).andThen fun h1 => ((h1.updSpec.op (formRefs ..)).ite
    h1.updSpec).andThen fun h2 => (((((h2.setN .gal).setN .gal).op (residual ..)).updSpec).ite h2).andThen fun h3 => h3.updTread

def Eff.takeOver : List Eff := Eff.roleTo ++ Eff.adoptString ++ [.obj Obj.REDUNDANCY_STATUS.EPOCH] ++ [.obj
    Obj.REDUNDANCY_STATUS.LAST_TAKEOVER_TICK, .obj Obj.REDUNDANCY_STATUS.LAST_CAUSE, .safeRest, .disp]
theorem State.Within.takeOver (s : State) (cause) : s.Within Eff.takeOver (s.takeOver cause) := by
  refine ((((((((refl s).op (nextEpoch ..)).op (roleTo ..)).setN .obj).setN .obj).updRed).safeRest).withDisp).forGal (fun _ _ hu => .ite ?_
      hu)
  split
  · exact hu.op (adoptString ..)
  · exact hu

theorem State.Within.trigger (s : State) (cause) : s.Within Eff.takeOver (s.trigger cause) := by
  unfold State.trigger
  exact (((refl s).op (takeOver ..)).ite ((refl s).raise .obj)).ite (refl s)

theorem State.Within.handoverCheck (s : State) : s.Within Eff.takeOver s.handoverCheck := by
  unfold State.handoverCheck
  split
  · exact (((refl s).updRed).op (trigger ..)).ite (refl s)
  · exact (refl s)

theorem State.Within.linkSync (s : State) : s.Within [.obj Obj.REDUNDANCY_STATUS.LINKS, .obj Obj.REDUNDANCY_STATUS.FLAGS] s.linkSync := by
  unfold State.linkSync
  exact (((refl s).setN .obj).raise .obj).ite ((refl s).setN .obj)

theorem State.Within.partnerSeen (s : State) (m onCorridor) : s.Within Eff.takeOver (s.partnerSeen m onCorridor) := by
  unfold State.partnerSeen
  split
  · exact (((refl s).setN .obj).op (roleTo ..)).ite (((refl s).op (roleTo ..)).ite ((((refl s).op (nextEpoch ..)).op (roleTo ..)).ite (refl
      s)))
  · exact ((refl s).op (roleTo ..)).ite (refl s)
  · exact ((((refl s).op (handoverCheck ..)).op (trigger ..)).ite ((refl s).op (handoverCheck ..))).andThen fun h1 => (h1.op (trigger
      ..)).ite h1
  · exact (refl s)

end Sys2Proof.Machine
end

section
/-! Corridor frames, the loss of the Corridor, MIRROR reads and what they change in the roles (R347, R349, R350, R352). -/
namespace Sys2Proof.Machine
set_option Elab.async false

/-! ### Triggers of a take-over -/

/-- The redundancy runtime without what an entry to a role and a take-over write: the paths to the partner and its frame. -/
def RedRt.path (r : RedRt) : RedRt :=
  { r with roleAt := 0, roleSf := 0, handover := 0, cause := 0, decideAt := 0, tookSf := 0, yieldLoads := false, passSwap := false }

/-- What triggers of a take-over do, one after another: only the effects of a take-over, no path changed, no flag cleared, and of the roles
at most STANDBY left for TAKING_OVER. -/
structure State.Triggered (s t : State) : Prop where
  within : s.Within Eff.takeOver t
  path : t.red.path = s.red.path
  flags : ∀ i, s.flag Obj.REDUNDANCY_STATUS.FLAGS i = true → t.flag Obj.REDUNDANCY_STATUS.FLAGS i = true
  roles : t.role = s.role ∨ (s.role = 3 ∧ t.role = 4)

namespace State.Triggered
variable {s t u : State}

theorem refl (s : State) : s.Triggered s := ⟨Within.refl s, rfl, fun _ h => h, .inl rfl⟩

theorem trans (h : s.Triggered t) (hu : t.Triggered u) : s.Triggered u where
  within := h.within.op hu.within
  path := hu.path.trans h.path
  flags i hi := hu.flags i (h.flags i hi)
  roles := by
    rcases h.roles with h1 | ⟨h1, h2⟩ <;> rcases hu.roles with h3 | ⟨h3, h4⟩
    · exact .inl (h3.trans h1)
    · exact .inr ⟨h1.symm.trans h3, h4⟩
    · exact .inr ⟨h1, h3.trans h2⟩
    · omega

theorem ite {c : Prop} {_ : Decidable c} (h : s.Triggered t) (hu : s.Triggered u) : s.Triggered (if c then t else u) := by
  split
  · exact h
  · exact hu

theorem raise (h : s.Triggered t) (i : Nat) : s.Triggered (t.raise Obj.REDUNDANCY_STATUS.FLAGS i) := by
  refine h.trans ⟨(Within.refl t).raise .obj, rfl, fun j hj => ?_, .inl ?_⟩
  · simp only [raise_eq_put, flag_eq_bit, getN_put, if_true, Val.toN_n, bit_withBit]
    split
    · rfl
    · exact hj
  · simp (decide := true) [role]

theorem role_of_ne (h : s.Triggered t) (hr : s.role ≠ 3) : t.role = s.role := h.roles.resolve_right fun h3 => hr h3.1

/-- A trigger answered stays answered. -/
theorem answered (h : s.Triggered t) (ha : s.role = 4 ∨ s.flag Obj.REDUNDANCY_STATUS.FLAGS 5 = true) :
    t.role = 4 ∨ t.flag Obj.REDUNDANCY_STATUS.FLAGS 5 = true := by
  rcases ha with hr | hf
  · exact .inl ((h.role_of_ne (by omega)).trans hr)
  · exact .inr (h.flags 5 hf)

theorem mirror (h : s.Triggered t) : t.red.mirror = s.red.mirror := (congrArg RedRt.mirror h.path :)
theorem corBad (h : s.Triggered t) : t.red.corBad = s.red.corBad := (congrArg RedRt.corBad h.path :)
theorem corGood (h : s.Triggered t) : t.red.corGood = s.red.corGood := (congrArg RedRt.corGood h.path :)
theorem corUp (h : s.Triggered t) : t.red.corUp = s.red.corUp := (congrArg RedRt.corUp h.path :)
theorem corHeard (h : s.Triggered t) : t.red.corHeard = s.red.corHeard := (congrArg RedRt.corHeard h.path :)
theorem readAt (h : s.Triggered t) : t.red.readAt = s.red.readAt := (congrArg RedRt.readAt h.path :)
theorem txGrid (h : s.Triggered t) : t.red.txGrid = s.red.txGrid := (congrArg RedRt.txGrid h.path :)
theorem out (h : s.Triggered t) : t.red.out = s.red.out := (congrArg RedRt.out h.path :)

end State.Triggered

namespace State
variable {s : State}

/-- A take-over, decided in TAKING_OVER, before its strings are adopted. -/
def decided (s : State) (cause : Nat) (gs : List Nat) : State :=
  let t := (s.setN Obj.REDUNDANCY_STATUS.LAST_TAKEOVER_TICK s.now).setN Obj.REDUNDANCY_STATUS.LAST_CAUSE cause
  let t := t.updRed (fun r => { r with
    cause := cause, decideAt := t.root, yieldLoads := false, tookSf := (r.mirror.map (·.handover)).getD 0xFFFFFFFF })
  { t.updSafe (fun r => { r with adopt := some gs }) with disp := { t.disp with fromActual := true } }

theorem decided_path (cause : Nat) (gs : List Nat) : (s.decided cause gs).red.path = s.red.path := rfl

theorem decided_getN (cause : Nat) (gs : List Nat) {k : Nat} (ht : k ≠ Obj.REDUNDANCY_STATUS.LAST_TAKEOVER_TICK)
    (hc : k ≠ Obj.REDUNDANCY_STATUS.LAST_CAUSE) : (s.decided cause gs).getN k = s.getN k := by
  have hdict : (s.decided cause gs).getN k =
      ((s.setN Obj.REDUNDANCY_STATUS.LAST_TAKEOVER_TICK s.now).setN Obj.REDUNDANCY_STATUS.LAST_CAUSE cause).getN k := rfl
  rw [hdict]
  simp [ht, hc]

theorem takeOver_adopts (cause : Nat) :
    ((s.nextEpoch.roleTo 4).decided cause (s.adopted cause)).Within Eff.adoptString (s.takeOver cause) := by
  unfold takeOver
  refine (Within.refl _).forGal fun n u hu => ?_
  split
  · split
    · exact hu.op (Within.adoptString ..)
    · exact hu
  · exact hu

theorem takeOver_role (cause : Nat) : (s.takeOver cause).role = 4 := by
  rw [role, (takeOver_adopts cause).getN, decided_getN _ _ (by decide) (by decide)]
  exact roleTo_role ..

theorem triggered_takeOver (cause : Nat) (hr : s.role = 3) : s.Triggered (s.takeOver cause) := by
  refine ⟨Within.takeOver .., ?_, fun i hi => ?_, .inr ⟨hr, takeOver_role cause⟩⟩
  · rw [(takeOver_adopts cause).kept .red (by decide +kernel),
      decided_path, roleTo_red]
    rfl
  · rw [flag, (takeOver_adopts cause).getN, decided_getN _ _ (by decide) (by decide), roleTo_getN, if_neg (by decide),
      if_neg (by decide), nextEpoch]
    simpa (decide := true) using hi

theorem triggered_trigger (cause : Nat) : s.Triggered (s.trigger cause) := by
  unfold trigger
  split
  · next hr => exact (triggered_takeOver cause hr).ite ((Triggered.refl s).raise 5)
  · exact .refl s

/-- A trigger that meets a STANDBY leads to a take-over or is told as blocked. -/
theorem trigger_answered (cause : Nat) (hr : s.role = 3) :
    (s.trigger cause).role = 4 ∨ (s.trigger cause).flag Obj.REDUNDANCY_STATUS.FLAGS 5 = true := by
  rw [trigger, if_pos hr]
  simp only
  generalize (if cause = 3 then clearBits s.notReadyNow 32 else s.notReadyNow) = nr
  by_cases h : nr = 0
  · exact .inl (by rw [if_pos h]; exact takeOver_role cause)
  · exact .inr (by rw [if_neg h]; simp)

theorem triggered_handoverCheck : s.Triggered s.handoverCheck := by
  unfold handoverCheck
  split
  · refine (Triggered.trans ?_ (triggered_trigger 1)).ite (.refl s)
    exact ⟨(Within.refl s).updRed, rfl, fun _ h => h, .inl rfl⟩
  · exact .refl s

theorem triggered_orphanCheck : s.Triggered s.orphanCheck := (triggered_trigger 3).ite (.refl s)

/-! ### The partner's frame meets the role -/

/-- YIELD of a partner on the Corridor, met by a STANDBY. -/
def yieldSeen (s : State) (m : Mirror) (onCorridor : Bool) : State :=
  if s.role = 3 ∧ onCorridor = true ∧ bit m.flags 2 = true then s.trigger 2 else s

/-- A partner in LOCKOUT for a cause of its own, met by a STANDBY. -/
def lockoutSeen (s : State) (m : Mirror) : State :=
  if s.role = 3 ∧ m.mode = 5 ∧ m.locks ≠ 0 ∧ clearBits m.locks 0x1D8 = 0 ∧ s.getN Obj.SAFETY_STATUS.STANDING_CAUSES &&& 0x1D8 = 0 then
    s.trigger 4
  else s

theorem partnerSeen_standby_eq (m : Mirror) (onCorridor : Bool) (hr : s.role = 3) :
    s.partnerSeen m onCorridor = (s.handoverCheck.yieldSeen m onCorridor).lockoutSeen m := by
  unfold partnerSeen
  rw [hr]
  rfl

theorem triggered_yieldSeen (m : Mirror) (onCorridor : Bool) : s.Triggered (s.yieldSeen m onCorridor) :=
  (triggered_trigger 2).ite (.refl s)

theorem triggered_lockoutSeen (m : Mirror) : s.Triggered (s.lockoutSeen m) := (triggered_trigger 4).ite (.refl s)

theorem yieldSeen_answered {m : Mirror} (hb : bit m.flags 2 = true) (hr : s.role = 3 ∨ s.role = 4) :
    (s.yieldSeen m true).role = 4 ∨ (s.yieldSeen m true).flag Obj.REDUNDANCY_STATUS.FLAGS 5 = true := by
  unfold yieldSeen
  rcases hr with hr | hr
  · rw [if_pos ⟨hr, rfl, hb⟩]
    exact trigger_answered 2 hr
  · rw [if_neg (by omega)]
    exact .inl hr

theorem partnerSeen_triggered (m : Mirror) (onCorridor : Bool) (h1 : s.role ≠ 1) (h6 : s.role ≠ 6) : s.Triggered (s.partnerSeen m onCorridor) := by
  by_cases hr : s.role = 3
  · rw [partnerSeen_standby_eq m onCorridor hr]
    exact (triggered_handoverCheck.trans (triggered_yieldSeen m onCorridor)).trans (triggered_lockoutSeen m)
  · unfold partnerSeen
    split <;> first | contradiction | exact .refl s

theorem partnerSeen_yield {m : Mirror} (hr : s.role = 3) (hb : bit m.flags 2 = true) :
    (s.partnerSeen m true).role = 4 ∨ (s.partnerSeen m true).flag Obj.REDUNDANCY_STATUS.FLAGS 5 = true := by
  rw [partnerSeen_standby_eq m true hr]
  refine (triggered_lockoutSeen m).answered (yieldSeen_answered hb ?_)
  rcases (triggered_handoverCheck (s := s)).roles with h | ⟨-, h⟩
  · exact .inl (h.trans hr)
  · exact .inr h

theorem partnerSeen_pairing (m : Mirror) (onCorridor : Bool) (hr : s.role = 1) : s.partnerSeen m onCorridor =
    if s.pairBreaks m ≠ 0 then
      (s.setN Obj.REDUNDANCY_STATUS.FLAGS (s.getN Obj.REDUNDANCY_STATUS.FLAGS ||| s.pairBreaks m)).roleTo 6
    else if s.headsObey (1 - s.ownPort) ∨ m.role = 2 then s.roleTo 3
    else if s.wins m then s.nextEpoch.roleTo 2 else s := by
  unfold partnerSeen
  rw [hr]
  rfl

theorem partnerSeen_pairFault (m : Mirror) (onCorridor : Bool) (hr : s.role = 6) :
    s.partnerSeen m onCorridor = if s.pairBreaks m = 0 then s.roleTo 1 else s := by
  unfold partnerSeen
  rw [hr]
  rfl

variable {m : Mirror} {onCorridor : Bool}

theorem partnerSeen_faulted (hr : s.role = 1) (hb : s.pairBreaks m ≠ 0) : (s.partnerSeen m onCorridor).role = 6 := by
  rw [partnerSeen_pairing m onCorridor hr, if_pos hb]
  exact roleTo_role ..

theorem partnerSeen_yields (hr : s.role = 1) (hb : s.pairBreaks m = 0) (ha : m.role = 2 ∨ s.headsObey (1 - s.ownPort) = true) :
    (s.partnerSeen m onCorridor).role = 3 := by
  rw [partnerSeen_pairing m onCorridor hr, if_neg (by simp [hb]), if_pos ha.symm]
  exact roleTo_role ..

theorem partnerSeen_loses (hr : s.role = 1) (hb : s.pairBreaks m = 0) (ha : m.role ≠ 2) (hh : s.headsObey (1 - s.ownPort) = false)
    (hw : s.wins m = false) : (s.partnerSeen m onCorridor).role = 1 := by
  rw [partnerSeen_pairing m onCorridor hr, if_neg (by simp [hb]), if_neg (by simp [ha, hh]), if_neg (by simp [hw]), hr]

theorem partnerSeen_wins (hm : s.red.mirror = some m) (hr : s.role = 1) (hb : s.pairBreaks m = 0) (ha : m.role ≠ 2)
    (hh : s.headsObey (1 - s.ownPort) = false) (hw : s.wins m = true) : (s.partnerSeen m onCorridor).role = 2 ∧
    (s.partnerSeen m onCorridor).getN Obj.REDUNDANCY_STATUS.EPOCH = (max (s.getN Obj.REDUNDANCY_STATUS.EPOCH) m.epoch + 1) % 2 ^ 32 := by
  rw [partnerSeen_pairing m onCorridor hr, if_neg (by simp [hb]), if_neg (by simp [ha, hh]), if_pos hw]
  refine ⟨roleTo_role .., ?_⟩
  rw [roleTo_getN, if_neg (by decide), if_neg (by decide), nextEpoch, hm]
  simp

theorem partnerSeen_repaired (hr : s.role = 6) (hb : s.pairBreaks m = 0) : (s.partnerSeen m onCorridor).role = 1 := by
  rw [partnerSeen_pairFault m onCorridor hr, if_pos hb]
  exact roleTo_role ..

theorem partnerSeen_active (hr : s.role = 2) : (s.partnerSeen m onCorridor).role = 2 := by
  unfold partnerSeen
  split <;> first | exact hr | omega

theorem roleTo_path (r : Nat) : (s.roleTo r).red.path = s.red.path := by
  rw [roleTo_red, roleRed]
  simp only
  split <;> rfl

/-- What a partner's frame leaves in any role: the paths to the partner and its frame. -/
theorem partnerSeen_path (m : Mirror) (onCorridor : Bool) : (s.partnerSeen m onCorridor).red.path = s.red.path := by
  by_cases h1 : s.role = 1
  · rw [partnerSeen_pairing m onCorridor h1]
    split
    · exact roleTo_path ..
    · split
      · exact roleTo_path ..
      · split
        · exact roleTo_path ..
        · rfl
  by_cases h6 : s.role = 6
  · rw [partnerSeen_pairFault m onCorridor h6]
    split
    · exact roleTo_path ..
    · rfl
  · exact (partnerSeen_triggered m onCorridor h1 h6).path

/-! ### The own frame -/

@[simp] theorem leBytes_length (k n : Nat) : (leBytes k n).length = k := by
  induction k generalizing n with
  | zero => rfl
  | succ k ih => simp [leBytes, ih]

theorem corHeader_length : s.corHeader.length = 47 := by simp [corHeader]

theorem corString_length (n : Nat) : (s.corString n).length = 32 := by
  unfold corString
  split <;> simp [int4]

theorem corFrame_length : s.corFrame.length = 1081 := by
  simp [corFrame, corHeader_length, List.length_flatMap, corString_length]

theorem configCrc_put {k : Nat} {v : Val} (hk : (rwlKeys s.part).all (fun x => keyOf x.1 x.2.1 != k) = true) :
    (s.put k v).configCrc = s.configCrc := by
  unfold configCrc
  congr 1
  refine List.flatMap_congr fun x hx => ?_
  have hne : keyOf x.1 x.2.1 ≠ k := by simpa using List.all_eq_true.1 hk x hx
  have hval : SMap.get dfltOf (s.put k v).dict (keyOf x.1 x.2.1) = SMap.get dfltOf s.dict (keyOf x.1 x.2.1) := by
    have h := s.val_put k (keyOf x.1 x.2.1) v
    rw [if_neg hne] at h
    exact h
  simp only [crcItem, hval]

theorem rwlKeys_skip_notReady (p : Part) : (rwlKeys p).all (fun x => keyOf x.1 x.2.1 != Obj.REDUNDANCY_STATUS.NOT_READY) = true := by
  cases p <;> decide +kernel

theorem strOn_put {k : Nat} {v : Val} (hk : k < 0x400000) (n : Nat) : (s.put k v).strOn n = s.strOn n := by
  have he : Gal.STRING_CFG.ENABLE n ≠ k := by simp only [Gal.STRING_CFG.ENABLE, galKey, keyOf]; omega
  have hp : Gal.STRING_CFG.POSITION_COUNT n ≠ k := by simp only [Gal.STRING_CFG.POSITION_COUNT, galKey, keyOf]; omega
  simp only [strOn, hasGal, posCount, getN_put, if_neg he, if_neg hp]
  rfl

theorem trunkUp_put {k : Nat} {v : Val} (hk : k < 0x400000) (n : Nat) : (s.put k v).trunkUp n = s.trunkUp n := by
  have ht : Gal.FLIGHT_STATUS.TRUNK_STATE n ≠ k := by simp only [Gal.FLIGHT_STATUS.TRUNK_STATE, galKey, keyOf]; omega
  simp only [trunkUp, trunk, getN_put, if_neg ht]

/-- NOT_READY is no part of what it tells. -/
theorem notReadyNow_put (x : Nat) : (s.setN Obj.REDUNDANCY_STATUS.NOT_READY x).notReadyNow = s.notReadyNow := by
  have hcrc : (s.setN Obj.REDUNDANCY_STATUS.NOT_READY x).configCrc = s.configCrc := configCrc_put (rwlKeys_skip_notReady s.part)
  have hother (k : Nat) (hk : k ≠ Obj.REDUNDANCY_STATUS.NOT_READY) : (s.setN Obj.REDUNDANCY_STATUS.NOT_READY x).getN k = s.getN k := by
    simp [hk]
  have hphase : (s.setN Obj.REDUNDANCY_STATUS.NOT_READY x).phase = s.phase := hother _ (by decide)
  have hlocked : (s.setN Obj.REDUNDANCY_STATUS.NOT_READY x).timeLocked = s.timeLocked := by
    rw [timeLocked, hother _ (by decide), timeLocked]
  have hgm : (s.setN Obj.REDUNDANCY_STATUS.NOT_READY x).isGrandmaster = s.isGrandmaster := by
    simp only [isGrandmaster, hother Obj.PTP_STATUS.GM_IDENTITY (by decide)]
    rfl
  have hstr : (s.setN Obj.REDUNDANCY_STATUS.NOT_READY x).galIds.any (fun n => (s.setN Obj.REDUNDANCY_STATUS.NOT_READY x).strOn n &&
      !(s.setN Obj.REDUNDANCY_STATUS.NOT_READY x).trunkUp n) = s.galIds.any (fun n => s.strOn n && !s.trunkUp n) := by
    have hk : Obj.REDUNDANCY_STATUS.NOT_READY < 0x400000 := by decide
    simp only [setN_eq_put, strOn_put hk, trunkUp_put hk]
    rfl
  unfold notReadyNow
  simp only [hphase, hlocked, hgm, hstr, hcrc, hother Obj.SAFETY_CFG.SEAL_STATE (by decide), hother Obj.SAFETY_CFG.SEAL_CRC (by decide)]
  rfl

end State

/-! ### Own frames at the superframe boundary -/

theorem State.linkSync_only (s : State) : s.linkSync = { s with dict := s.linkSync.dict } := by
  unfold linkSync
  simp only
  split <;> rfl

theorem State.linkSync_objects (s : State) : s.linkSync.getN Obj.REDUNDANCY_STATUS.LINKS = b2n s.red.corUp + 2 * b2n s.arcadePath ∧
    ∀ i, s.flag Obj.REDUNDANCY_STATUS.FLAGS i = true → s.linkSync.flag Obj.REDUNDANCY_STATUS.FLAGS i = true := by
  unfold linkSync
  simp only
  split
  · refine ⟨by simp (decide := true), fun i hi => ?_⟩
    simp (decide := true) only [raise_eq_put, setN_eq_put, flag_eq_bit, getN_put, if_true, if_false, Val.toN_n, bit_withBit]
    split
    · rfl
    · exact hi
  · exact ⟨by simp, fun i hi => by simpa (decide := true) using hi⟩

/-- The machine at a superframe boundary, before its roles and NOT_READY are judged. -/
def State.frameDue (s : State) : State := s.updRed (fun r => { r with
  txGrid := some (s.now / 10000), corBad := if r.corHeard then 0 else r.corBad + 1, corHeard := false, roleSf := r.roleSf + 1 })

/-- The machine at a superframe boundary, its roles judged. -/
def State.frameJudged (s : State) : State := s.frameDue.linkSync.handoverCheck.orphanCheck

theorem State.frameJudged_triggered (s : State) : s.frameDue.linkSync.Triggered s.frameJudged :=
  State.triggered_handoverCheck.trans State.triggered_orphanCheck

theorem State.frameJudged_red (s : State) : s.frameJudged.red.path = s.frameDue.red.path := by
  rw [s.frameJudged_triggered.path, linkSync_only]

theorem State.frameJudged_counts (s : State) : s.frameJudged.red.txGrid = some (s.now / 10000) ∧
    s.frameJudged.red.corBad = (if s.red.corHeard then 0 else s.red.corBad + 1) ∧ s.frameJudged.red.out = s.red.out := by
  have hred := s.frameJudged_red
  exact ⟨(congrArg RedRt.txGrid hred :), (congrArg RedRt.corBad hred :), (congrArg RedRt.out hred :)⟩

theorem State.linkSync_role (s : State) : s.linkSync.role = s.role := (Within.linkSync s).getN

theorem State.corFrame_out (s : State) (x : List Byte) : (s.updRed (fun r => { r with out := x })).corFrame = s.corFrame := rfl

theorem State.notReadyNow_out (s : State) (x : List Byte) : (s.updRed (fun r => { r with out := x })).notReadyNow = s.notReadyNow := rfl

theorem corridorFrameTx_eq {s : State} (hr : s.corridorRuns = true) (hn : s.now % 10000 = 0) (hg : s.red.txGrid ≠ some (s.now / 10000)) :
    exec .corridorFrameTx s = .next (let u := s.frameJudged.setN Obj.REDUNDANCY_STATUS.NOT_READY s.frameJudged.notReadyNow
      if u.paused then u else u.updRed (fun r => { r with out := u.corFrame })) := by
  rw [exec, execCorridorFrameTx, if_neg (by simp [hr, hn, hg])]
  rfl

theorem corridorFrameTx_sends {s : State} (hr : s.corridorRuns = true) (hn : s.now % 10000 = 0)
    (hg : s.red.txGrid ≠ some (s.now / 10000)) (hp : s.paused = false) :
    ∃ t, exec .corridorFrameTx s = .next t ∧ t.red.out = t.corFrame ∧ t.red.out.length = 1081 ∧
      t.red.txGrid = some (s.now / 10000) ∧ t.red.corBad = (if s.red.corHeard then 0 else s.red.corBad + 1) ∧
      t.getN Obj.REDUNDANCY_STATUS.NOT_READY = t.notReadyNow ∧ (s.role ≠ 3 → t.role = s.role) := by
  obtain ⟨hgrid, hbad, -⟩ := s.frameJudged_counts
  have htrig := s.frameJudged_triggered
  have hpause : s.frameJudged.paused = false := by
    rw [htrig.within.kept .paused (by decide +kernel), State.linkSync_only]
    exact hp
  have hrole : s.role ≠ 3 → s.frameJudged.role = s.role := fun h3 => by
    have hdue : s.frameDue.linkSync.role = s.role := State.linkSync_role _
    rw [htrig.role_of_ne (by rw [hdue]; exact h3), hdue]
  rw [corridorFrameTx_eq hr hn hg]
  generalize s.frameJudged = v at *
  have hready := State.notReadyNow_put (s := v) v.notReadyNow
  have hrole' : (v.setN Obj.REDUNDANCY_STATUS.NOT_READY v.notReadyNow).role = v.role := State.getN_setN_other _ _ (by decide)
  have hkept : (v.setN Obj.REDUNDANCY_STATUS.NOT_READY v.notReadyNow).paused = false ∧
      (v.setN Obj.REDUNDANCY_STATUS.NOT_READY v.notReadyNow).red = v.red ∧
      (v.setN Obj.REDUNDANCY_STATUS.NOT_READY v.notReadyNow).getN Obj.REDUNDANCY_STATUS.NOT_READY = v.notReadyNow ∧
      (v.setN Obj.REDUNDANCY_STATUS.NOT_READY v.notReadyNow).role = v.role :=
    ⟨hpause, rfl, State.getN_setN_same .., hrole'⟩
  generalize v.setN Obj.REDUNDANCY_STATUS.NOT_READY v.notReadyNow = u at *
  obtain ⟨hupause, hured, huready, hurole⟩ := hkept
  simp only [hupause, Bool.false_eq_true, if_false, exists_next]
  rw [State.corFrame_out, State.notReadyNow_out]
  refine ⟨rfl, State.corFrame_length, ?_, ?_, ?_, fun h3 => ?_⟩
  · rw [State.updRed_red, hured, hgrid]
  · rw [State.updRed_red, hured, hbad]
  · rw [State.getN_updRed, huready, hready]
  · rw [State.role, State.getN_updRed, ← State.role, hurole, hrole h3]

theorem corridorFrameTx_paused {s : State} (hr : s.corridorRuns = true) (hn : s.now % 10000 = 0)
    (hg : s.red.txGrid ≠ some (s.now / 10000)) (hp : s.paused = true) :
    ∃ t, exec .corridorFrameTx s = .next t ∧ t.red.out = s.red.out ∧ t.red.txGrid = some (s.now / 10000) := by
  obtain ⟨hgrid, -, hout⟩ := s.frameJudged_counts
  have hpause : s.frameJudged.paused = true := by
    rw [s.frameJudged_triggered.within.kept .paused (by decide +kernel), State.linkSync_only]
    exact hp
  rw [corridorFrameTx_eq hr hn hg]
  generalize s.frameJudged = v at *
  rw [exists_next]
  rw [if_pos (show (v.setN Obj.REDUNDANCY_STATUS.NOT_READY v.notReadyNow).paused = true from hpause)]
  exact ⟨hout, hgrid⟩

/-! ### The partner's frames -/

namespace State
variable {s : State}

/-- The mirror that a frame gives. -/
def frameMirror (s : State) (f : CorFrame) : Mirror :=
  mirrorOf f.header.payload (if blkGood f.strings (fieldN f.header.payload 0 4) 1024 then
    (List.range 32).map (fun n => mirStrOf (slice f.strings.payload (32 * n) 32)) else (s.red.mirror.map (·.strings)).getD [])

/-- The machine with a frame taken into the mirror, before it meets the role. -/
def mirrorNoted (s : State) (f : CorFrame) : State :=
  let m := s.frameMirror f
  let t := s.updRed (fun r => { r with mirror := some m
                                       mirrorAt := if blkGood f.strings (fieldN f.header.payload 0 4) 1024 then s.root else r.mirrorAt })
  ((t.setN Obj.REDUNDANCY_STATUS.PARTNER_ROLE m.role).setN Obj.REDUNDANCY_STATUS.PARTNER_SEEN m.serial).setN
    Obj.REDUNDANCY_STATUS.PARTNER_NOT_READY m.notReady

theorem mirrorTake_eq (f : CorFrame) (onCorridor : Bool) :
    s.mirrorTake f onCorridor = (s.mirrorNoted f).partnerSeen (s.frameMirror f) onCorridor := rfl

/-- What the rules of pairing and of claims read. -/
structure pairsAs (s t : State) : Prop where
  part : t.part = s.part
  gal : t.gal = s.gal
  cfg : ∀ k, k / 256 ≠ 0x2401 → t.getN k = s.getN k

namespace pairsAs
variable {t : State} (h : s.pairsAs t)
include h

theorem getG (n off sub : Nat) : t.getN (galKey n off sub) = s.getN (galKey n off sub) := by
  refine h.cfg _ ?_
  unfold galKey keyOf
  omega

theorem ownPort : t.ownPort = s.ownPort := h.cfg _ (by decide)

theorem pairBreaks (m : Mirror) : t.pairBreaks m = s.pairBreaks m := by
  simp only [State.pairBreaks, h.part, h.ownPort, h.cfg Obj.REDUNDANCY_CFG.PARTNER_SERIAL (by decide)]

theorem wins (m : Mirror) : t.wins m = s.wins m := by
  simp only [State.wins, h.ownPort, h.cfg Obj.REDUNDANCY_CFG.PREFERRED (by decide)]

theorem headsObey (port : Nat) : t.headsObey port = s.headsObey port := by
  have hstr (n : Nat) : (t.strOn n && t.trunkUp n) = (s.strOn n && s.trunkUp n) := by
    unfold strOn hasGal posCount trunkUp trunk Gal.STRING_CFG.ENABLE Gal.STRING_CFG.POSITION_COUNT Gal.FLIGHT_STATUS.TRUNK_STATE
    rw [h.part, h.getG, h.getG, h.getG]
  simp only [State.headsObey, galIds, hstr, h.part, g, h.gal]

end pairsAs

theorem mirrorNoted_pairsAs (f : CorFrame) : s.pairsAs (s.mirrorNoted f) where
  part := rfl
  gal := rfl
  cfg k hk := by
    have h (j : Nat) (hj : j / 256 = 0x2401) : k ≠ j := fun e => hk (e ▸ hj)
    simp [mirrorNoted, h Obj.REDUNDANCY_STATUS.PARTNER_ROLE (by decide), h Obj.REDUNDANCY_STATUS.PARTNER_SEEN (by decide),
      h Obj.REDUNDANCY_STATUS.PARTNER_NOT_READY (by decide)]

theorem linkSync_pairsAs : s.pairsAs s.linkSync where
  part := by rw [linkSync_only]
  gal := by rw [linkSync_only]
  cfg k hk := by
    have h (j : Nat) (hj : j / 256 = 0x2401) : k ≠ j := fun e => hk (e ▸ hj)
    unfold linkSync
    simp only
    split <;> simp [h Obj.REDUNDANCY_STATUS.LINKS (by decide), h Obj.REDUNDANCY_STATUS.FLAGS (by decide)]

theorem pairsAs.trans {t u : State} (h : s.pairsAs t) (hu : t.pairsAs u) : s.pairsAs u :=
  ⟨hu.part.trans h.part, hu.gal.trans h.gal, fun k hk => (hu.cfg k hk).trans (h.cfg k hk)⟩

theorem mirrorNoted_objects (f : CorFrame) : (s.mirrorNoted f).role = s.role ∧
    (s.mirrorNoted f).getN Obj.REDUNDANCY_STATUS.PARTNER_SEEN = (s.frameMirror f).serial ∧
    (s.mirrorNoted f).getN Obj.REDUNDANCY_STATUS.PARTNER_ROLE = (s.frameMirror f).role ∧
    (s.mirrorNoted f).getN Obj.REDUNDANCY_STATUS.EPOCH = s.getN Obj.REDUNDANCY_STATUS.EPOCH := by
  simp (decide := true) [mirrorNoted, role]

/-- What taking a frame into the mirror leaves: the paths to the partner, with the frame. -/
theorem mirrorTake_path (f : CorFrame) (onCorridor : Bool) : (s.mirrorTake f onCorridor).red.path =
    { s.red.path with mirror := some (s.frameMirror f)
                      mirrorAt := if blkGood f.strings (fieldN f.header.payload 0 4) 1024 then s.root else s.red.mirrorAt } := by
  rw [mirrorTake_eq, partnerSeen_path]
  rfl

/-- A good frame is heard on the Corridor. -/
def frameHeardOn (s : State) : State :=
  let up := s.red.corUp || decide (16 ≤ s.red.corGood + 1)
  s.updRed (fun r => { r with
    corBad := 0, corHeard := true, corGood := if r.corUp then 0 else r.corGood + 1, corUp := up
    overlapYield := r.overlapYield && !(up && !r.corUp) })

end State

theorem corridorFrameRx_eq {s : State} {f : CorFrame} (hr : s.corridorRuns = true) (hf : hdrGood f.header 47 = true) :
    exec (.corridorFrameRx f) s = .next (s.frameHeardOn.linkSync.mirrorTake f true) := by
  rw [exec, execCorridorFrameRx, if_neg (by simp [hr, hf])]
  rfl

theorem corridorFrameRx_meets {s : State} {f : CorFrame} (hr : s.corridorRuns = true) (hf : hdrGood f.header 47 = true) :
    ∃ t m, exec (.corridorFrameRx f) s = .next t ∧ t.red.mirror = some m ∧ m.serial = fieldN f.header.payload 4 8 ∧
      m.role = fieldN f.header.payload 14 1 ∧ m.flags = fieldN f.header.payload 16 1 ∧ m.epoch = fieldN f.header.payload 17 4 ∧ m.notReady = fieldN f.header.payload 33 4 ∧
      t.getN Obj.REDUNDANCY_STATUS.PARTNER_SEEN = m.serial ∧ t.getN Obj.REDUNDANCY_STATUS.PARTNER_ROLE = m.role ∧
      t.red.corHeard = true ∧ t.red.corBad = 0 ∧ (15 ≤ s.red.corGood → t.red.corUp = true) ∧
      (s.role = 1 → s.pairBreaks m ≠ 0 → t.role = 6) ∧
      (s.role = 1 → s.pairBreaks m = 0 → m.role = 2 ∨ s.headsObey (1 - s.ownPort) = true → t.role = 3) ∧
      (s.role = 1 → s.pairBreaks m = 0 → m.role ≠ 2 → s.headsObey (1 - s.ownPort) = false → s.wins m = false → t.role = 1) ∧
      (s.role = 3 → bit m.flags 2 = true → t.role = 4 ∨ t.flag Obj.REDUNDANCY_STATUS.FLAGS 5 = true) ∧
      (s.role = 1 → s.pairBreaks m = 0 → m.role ≠ 2 → s.headsObey (1 - s.ownPort) = false → s.wins m = true →
        t.role = 2 ∧ t.getN Obj.REDUNDANCY_STATUS.EPOCH = (max (s.getN Obj.REDUNDANCY_STATUS.EPOCH) m.epoch + 1) % 2 ^ 32) ∧
      (s.role = 6 → s.pairBreaks m = 0 → t.role = 1) ∧ (s.role = 2 → t.role = 2) := by
  let v := s.frameHeardOn.linkSync.mirrorNoted f
  let m := s.frameHeardOn.linkSync.frameMirror f
  have hlink : s.frameHeardOn.linkSync.red = s.frameHeardOn.red := by rw [State.linkSync_only]
  have hpath := State.mirrorTake_path (s := s.frameHeardOn.linkSync) f true
  rw [hlink] at hpath
  have hheard : s.pairsAs s.frameHeardOn := ⟨rfl, rfl, fun _ _ => rfl⟩
  have hpairs : s.pairsAs v := (hheard.trans State.linkSync_pairsAs).trans (State.mirrorNoted_pairsAs f)
  obtain ⟨hrole, hseen, hpartner, hepoch⟩ := State.mirrorNoted_objects (s := s.frameHeardOn.linkSync) f
  have hvrole : v.role = s.role := by
    rw [hrole, State.linkSync_role]
    rfl
  have hvepoch : v.getN Obj.REDUNDANCY_STATUS.EPOCH = s.getN Obj.REDUNDANCY_STATUS.EPOCH := by
    rw [hepoch, (State.Within.linkSync _).getN]
    rfl
  have hwithin := State.Within.partnerSeen v m true
  have hvmirror : v.red.mirror = some m := rfl
  rw [corridorFrameRx_eq hr hf]
  refine ⟨_, m, rfl, (congrArg RedRt.mirror hpath :), rfl, rfl, rfl, rfl, rfl, hwithin.getN.trans hseen, hwithin.getN.trans hpartner,
    (congrArg RedRt.corHeard hpath :), (congrArg RedRt.corBad hpath :), fun h15 => (congrArg RedRt.corUp hpath :).trans ?_, ?_⟩
  · simp [State.frameHeardOn, RedRt.path, h15]
  rw [State.mirrorTake_eq, ← hvrole, ← hvepoch, ← hpairs.ownPort, ← hpairs.headsObey, ← hpairs.wins, ← hpairs.pairBreaks]
  exact ⟨State.partnerSeen_faulted, State.partnerSeen_yields, State.partnerSeen_loses, State.partnerSeen_yield,
    State.partnerSeen_wins hvmirror, State.partnerSeen_repaired, State.partnerSeen_active⟩

/-! ### The loss of the Corridor, and MIRROR reads -/

theorem corridorDown_takesDown {s : State} (hr : s.corridorRuns = true)
    (hbad : s.getN Obj.REDUNDANCY_CFG.CORRIDOR_TIMEOUT ≤ s.red.corBad) :
    ∃ t, exec .corridorDown s = .next t ∧ t.red.corUp = false ∧ t.red.corGood = 0 ∧
      t.flag Obj.REDUNDANCY_STATUS.FLAGS 3 = true ∧ bit (t.getN Obj.REDUNDANCY_STATUS.LINKS) 0 = false := by
  let u := (s.raise Obj.REDUNDANCY_STATUS.FLAGS 3).updRed (fun r => { r with corUp := false, corGood := 0, passSwap := false })
  have htrig := State.triggered_orphanCheck (s := u.linkSync)
  have hlink : u.linkSync.red = u.red := by rw [State.linkSync_only]
  rw [exec, execCorridorDown, if_pos (by simp [hr, hbad]), exists_next]
  obtain ⟨hlinks, hflags⟩ := u.linkSync_objects
  refine ⟨htrig.corUp.trans (congrArg RedRt.corUp hlink), htrig.corGood.trans (congrArg RedRt.corGood hlink),
    htrig.flags 3 (hflags 3 (by simp [u])), ?_⟩
  have hdown : u.red.corUp = false := rfl
  rw [htrig.within.getN, hlinks, hdown]
  cases u.arcadePath <;> decide

theorem mirrorRead_good {s : State} {d : List Byte} {f : CorFrame} (hr : s.corridorRuns = true) (hu : s.red.corUp = false)
    (hp : s.passed s.red.readTry (msTicks 100) = true) (hd : mirrorFrame d = some f) (hf : hdrGood f.header 47 = true) :
    ∃ t m, exec (.mirrorRead (some d)) s = .next t ∧ t.red.readAt = some s.root ∧ t.red.mirror = some m ∧
      m.serial = fieldN f.header.payload 4 8 ∧ t.red.corUp = false := by
  let u := (s.updRed (fun r => { r with readTry := s.root })).updRed (fun r => { r with readAt := some s.root })
  have hlink : u.linkSync.red = u.red := by rw [State.linkSync_only]
  have hpath := State.mirrorTake_path (s := u.linkSync) f false
  rw [hlink] at hpath
  have hrun : exec (.mirrorRead (some d)) s = .next (u.linkSync.mirrorTake f false) := by
    rw [exec, execMirrorRead, if_pos (by simp [hr, hu, hp])]
    simp only [Option.bind_some, hd, hf, if_true]
    rfl
  rw [hrun]
  exact ⟨_, u.linkSync.frameMirror f, rfl, (congrArg RedRt.readAt hpath :), (congrArg RedRt.mirror hpath :), rfl,
    (congrArg RedRt.corUp hpath :).trans hu⟩

theorem mirrorRead_bad {s : State} {data : Option (List Byte)} (hr : s.corridorRuns = true) (hu : s.red.corUp = false)
    (hp : s.passed s.red.readTry (msTicks 100) = true) (hf : ∀ f, data.bind mirrorFrame = some f → hdrGood f.header 47 = false) :
    ∃ t, exec (.mirrorRead data) s = .next t ∧ t.red.readTry = s.root ∧ t.red.readAt = s.red.readAt ∧
      t.red.mirror = s.red.mirror := by
  let u := s.updRed (fun r => { r with readTry := s.root })
  have hlink : u.linkSync.red = u.red := by rw [State.linkSync_only]
  rw [exec, execMirrorRead, if_pos (by simp [hr, hu, hp])]
  simp only
  split
  · next f hd =>
    rw [if_neg (by simp [hf f hd]), exists_next, hlink]
    exact ⟨rfl, rfl, rfl⟩
  · rw [exists_next, hlink]
    exact ⟨rfl, rfl, rfl⟩

/-- Settles O54: each clause is the rule above of the command it speaks of. -/
theorem corridorAndMirrorComplete : Obligations.CorridorAndMirrorComplete := by
  unfold Obligations.CorridorAndMirrorComplete
  exact ⟨fun _ => corridorFrameTx_sends, fun _ => corridorFrameTx_paused, fun _ _ => corridorFrameRx_meets, fun _ => corridorDown_takesDown,
    fun _ _ _ => mirrorRead_good, fun _ _ => mirrorRead_bad⟩

end Sys2Proof.Machine
end

section
/-! Which kinds of State the operations of the update leave (part of the frame layer). -/
namespace Sys2Proof.Machine
set_option Elab.async false

theorem State.Within.sendPdu (s : State) (type dest id payload) : s.Within [.arc, .obj Obj.ARCADE_STATUS.FLAGS] (s.sendPdu type dest id
    payload) := by
  unfold State.sendPdu
  split
  · exact (refl s).updArc
  · exact (refl s).raise .obj

theorem State.Within.stepDue (s : State) (ticks) : s.Within [.time] (s.stepDue ticks) := by
  unfold State.stepDue
  exact ((refl s).updTime).ite (refl s)

def Eff.keeperSync : List Eff := [.time] ++ [.obj Obj.TIMEBASE.KEEPER_SERIAL, .arc, .obj Obj.TIMEBASE.ORIGIN]
theorem State.Within.keeperSync (s : State) : s.Within Eff.keeperSync s.keeperSync := by
  refine .ite (((refl s).setN .obj).updArc) ?_
  split
  · exact (refl s).setN .obj
  · split
    · exact (((refl s).setN .obj).ite ((((((refl s).setN .obj).setI .obj).updArc).op (stepDue ..)).ite ((((refl s).setN .obj).setI
        .obj).updArc))).ite ((((refl s).setN .obj).setI .obj).updArc)
    · exact (((refl s).setN .obj).setI .obj).updArc

def Eff.electSync : List Eff := Eff.record ++ [.arc, .obj Obj.LEADER_CFG.ELECTIONS, .disp, .obj Obj.DISPATCH_STATUS.LEADER_SERIAL, .obj
    Obj.DISPATCH_STATUS.ROLE, .obj Obj.LEADER_CFG.MODULES_LED]
theorem State.Within.electSync (s : State) : s.Within Eff.electSync s.electSync := by
  unfold State.electSync
  exact ((refl s).ite ((((((refl s).inc .obj).updArc).op (record ..)).updDisp).ite ((((refl s).inc .obj).updArc).op (record ..)))).andThen
    fun h1 => ((h1.setN .obj).setN .obj).ite (((h1.setN .obj).setN .obj).setN .obj)

def Eff.ringSync : List Eff := Eff.electSync ++ Eff.keeperSync
theorem State.Within.ringSync (s : State) : s.Within Eff.ringSync s.ringSync := by
  unfold State.ringSync
  exact ((refl s).op (electSync ..)).op (keeperSync ..)

def Eff.portsStop : List Eff := [.obj Obj.ARCADE_STATUS.BYPASS, .obj Obj.ARCADE_STATUS.RING_STATE, .obj Obj.ARCADE_STATUS.PORT_E, .obj
    Obj.ARCADE_STATUS.PORT_W, .arc]
theorem State.Within.portsStop (s : State) : s.Within Eff.portsStop s.portsStop := by
  unfold State.portsStop
  exact (((((refl s).setN .obj).setN .obj).setN .obj).setN .obj).updArc

def Eff.arcSync : List Eff := Eff.ringSync ++ Eff.portsStop ++ [.arc, .obj Obj.ARCADE_STATUS.FLAGS]
theorem State.Within.arcSync (s : State) (newMode) : s.Within Eff.arcSync (s.arcSync newMode) := by
  unfold State.arcSync
  exact ((((((((refl s).setN .obj).setN .obj).setN .obj).raise .obj).ite ((((refl s).setN .obj).setN .obj).setN .obj)).andThen fun h1 =>
    h1.updArc.op (ringSync ..)).ite (refl s)).ite ((refl s).ite ((((refl s).op (sendPdu ..)).ite (refl s)).andThen fun h1 => (h1.updArc.ite
    h1).andThen fun h2 => (h2.op (portsStop ..)).op (ringSync ..)))

theorem State.Within.request (s : State) (dest index sub d) : s.Within [.arc, .obj Obj.ARCADE_STATUS.FLAGS] (s.request dest index sub d) :=
    by
  unfold State.request
  exact (refl s).ite (((refl s).op (sendPdu ..)).updArc)

theorem State.Within.zeroSet (s : State) (n) : s.Within [.disp, .gal 0x9 2] (s.zeroSet n) := by
  unfold State.zeroSet
  exact ((refl s).setN .gal).updDisp

theorem State.Within.zeroAll (s : State) : s.Within [.disp, .gal 0x9 2] s.zeroAll := by
  unfold State.zeroAll
  exact (refl s).forGal (fun _ _ hu => hu.op (zeroSet ..))

def Eff.dispOff : List Eff := [.disp, .gal 0x9 2] ++ [.gal 0x9 1, .obj Obj.DISPATCH_SETPOINT.SOURCE, .obj
    Obj.DISPATCH_SETPOINT.TARGET_IN_FORCE, .obj Obj.DISPATCH_STATUS.SHORTFALL]
theorem State.Within.dispOff (s : State) : s.Within Eff.dispOff s.dispOff := by
  unfold State.dispOff
  exact (((refl s).op (zeroAll ..)).forGal (fun _ _ hu => hu.setN .gal)).andThen fun h1 => (((h1.setN .obj).setR .obj).setR .obj).updDisp

def Eff.dispReport : List Eff := [.obj Obj.DISPATCH_STATUS.P_ACTUAL, .obj Obj.DISPATCH_STATUS.P_DIS_AVAIL, .obj
    Obj.DISPATCH_STATUS.P_CHG_AVAIL, .obj Obj.DISPATCH_STATUS.E_DIS, .obj Obj.DISPATCH_STATUS.E_CHG, .obj
    Obj.DISPATCH_STATUS.STRINGS_ELIGIBLE, .obj Obj.DISPATCH_STATUS.SOC_MODULE, .free]
theorem State.Within.dispReport (s : State) : s.Within Eff.dispReport s.dispReport := by
  refine .ite ((((((((refl s).setR .obj).setR .obj).setR .obj).setR .obj).setR .obj).setN .obj).setR .obj) ?_
  split
  · exact (((((((refl s).setR .obj).setR .obj).setR .obj).setR .obj).setR .obj).setN .obj).setR .obj
  · exact ((((((((refl s).setR .obj).setR .obj).setR .obj).setR .obj).setR .obj).setN .obj).take).setR .obj

theorem State.Within.leaderExpire (s : State) : s.Within [.disp, .obj Obj.DISPATCH_STATUS.FLAGS] s.leaderExpire := by
  unfold State.leaderExpire
  exact (((refl s).raise .obj).updDisp).ite (refl s)

theorem State.Within.hostExpire (s : State) : s.Within [.disp, .obj Obj.DISPATCH_STATUS.FLAGS] s.hostExpire := by
  unfold State.hostExpire
  exact (((refl s).raise .obj).updDisp).ite (refl s)

theorem State.Within.fallbackExpire (s : State) : s.Within [.disp] s.fallbackExpire := by
  unfold State.fallbackExpire
  exact ((refl s).updDisp).ite (refl s)

def Eff.sourceStep : List Eff := Eff.record ++ [.disp, .obj Obj.DISPATCH_STATUS.FLAGS] ++ [.obj Obj.DISPATCH_SETPOINT.SOURCE, .gal 0x9 1]
theorem State.Within.sourceStep (s : State) : s.Within Eff.sourceStep (s.sourceStep).1 := by
  unfold State.sourceStep
  exact (((((((refl s).op (hostExpire ..)).op (leaderExpire ..)).setN .obj).raise .obj).op (record ..)).ite ((((refl s).op (hostExpire
    ..)).op (leaderExpire ..)).setN .obj)).andThen fun h1 => (h1.updDisp.ite h1).andThen fun h2 => (((h2.op (fallbackExpire ..)).raise
    .obj).ite (h2.op (fallbackExpire ..))).andThen fun h3 => (h3.forGal (fun _ _ hu => hu.setN .gal)).andThen fun h4 => h4

theorem State.Within.followSync (s : State) : s.Within [.arc] s.followSync := by
  unfold State.followSync
  exact (refl s).updArc

theorem State.Within.followRead (s : State) : s.Within [.arc, .obj Obj.ARCADE_STATUS.FLAGS] s.followRead := by
  unfold State.followRead
  exact ((refl s).updArc).foldl (fun _ _ hu => hu.foldl (fun _ _ hu => hu.op (request ..)))

theorem State.Within.rampStep (s : State) (goal) : s.Within [.obj Obj.DISPATCH_SETPOINT.TARGET_IN_FORCE, .disp] (s.rampStep goal).1 := by
  unfold State.rampStep
  exact (((refl s).setR .obj).ite (((refl s).setR .obj).updDisp)).andThen fun h1 => h1

theorem State.Within.leadAlloc (s : State) (target) : s.Within [.arc, .obj Obj.ARCADE_STATUS.FLAGS, .obj Obj.LEADER_CFG.MODULES_LED]
    (s.leadAlloc target).1 := by
  unfold State.leadAlloc
  exact (((refl s).setN .obj).foldl (fun _ _ hu => hu.op (request ..))).andThen fun h1 => h1

theorem State.Within.scaleSet (s : State) (n f) : s.Within [.disp, .gal 0x9 3, .gal 0x9 4] (s.scaleSet n f) := by
  unfold State.scaleSet
  dsimp only
  split
  · exact ((refl s).updDisp).setR .gal
  · exact ((refl s).updDisp).setR .gal
  · exact (refl s).updDisp

def Eff.shareSet : List Eff := [.disp, .gal 0x9 2] ++ [.gal 0x9 4, .gal 0x9 3]
theorem State.Within.shareSet (s : State) (n sg share) : s.Within Eff.shareSet (s.shareSet n sg share) := by
  unfold State.shareSet
  exact ((refl s).op (zeroSet ..)).ite (((((refl s).updDisp).setN .gal).setR .gal).ite ((((refl s).updDisp).setN .gal).setR .gal))

theorem State.Within.stringAlloc (s : State) (target) : s.Within Eff.shareSet (s.stringAlloc target).1 := by
  unfold State.stringAlloc
  exact ((refl s).forGal (fun _ _ hu => hu.ite (hu.op (zeroSet ..)))).andThen fun h1 => ((h1.foldl (fun _ _ hu => hu.op (scaleSet
    ..))).andThen fun h2 => h2.foldl (fun _ _ hu => hu.op (zeroSet ..))).ite_fst ((h1.foldl (fun _ _ hu => hu.op (shareSet ..))).andThen fun
    h2 => h2)

def Eff.shortfall : List Eff := Eff.record ++ [.obj Obj.DISPATCH_STATUS.SHORTFALL, .disp, .obj Obj.DISPATCH_STATUS.FLAGS]
theorem State.Within.shortfall (s : State) (x) : s.Within Eff.shortfall (s.shortfall x) := by
  unfold State.shortfall
  exact (((refl s).setR .obj).updDisp).ite (((((((refl s).setR .obj).updDisp).raise .obj).op (record ..)).updDisp).ite (((refl s).setR
    .obj).updDisp))

def Eff.allocLead : List Eff := Eff.shortfall ++ Eff.shareSet ++ [.arc, .obj Obj.ARCADE_STATUS.FLAGS, .obj Obj.LEADER_CFG.MODULES_LED] ++
    [.obj Obj.DISPATCH_SETPOINT.TARGET_IN_FORCE, .disp]
theorem State.Within.allocLead (s : State) (goal) : s.Within Eff.allocLead (s.allocLead goal) := by
  unfold State.allocLead
  exact ((((refl s).op (followSync ..)).updDisp).op (followRead ..)).ite ((((((refl s).op (followSync ..)).setR .obj).updDisp).ite ((refl
    s).op (followSync ..))).andThen fun h1 => ((((h1.op (rampStep ..)).op (leadAlloc ..)).op (followRead ..)).op (stringAlloc ..)).op
    (shortfall ..))

def Eff.allocOwn : List Eff := Eff.shortfall ++ Eff.shareSet ++ [.obj Obj.DISPATCH_SETPOINT.TARGET_IN_FORCE, .disp]
theorem State.Within.allocOwn (s : State) (goal) : s.Within Eff.allocOwn (s.allocOwn goal) := by
  unfold State.allocOwn
  exact (((refl s).setR .obj).ite (refl s)).andThen fun h1 => ((h1.op (rampStep ..)).op (stringAlloc ..)).op (shortfall ..)

def Eff.execDispatchAllocation : List Eff := Eff.allocLead ++ Eff.sourceStep ++ Eff.dispReport
theorem State.Within.execDispatchAllocation (s : State) : s.WithinNext Eff.execDispatchAllocation (execDispatchAllocation s) := by
  unfold Machine.execDispatchAllocation
  exact ((refl s).next).ite ((((((((refl s).updDisp).updArc).setR .obj).setR .obj).setN .obj).next).ite (((((((refl s).updDisp).updArc).op
    (dispReport ..)).op (dispOff ..)).ite (((((((refl s).updDisp).updArc).op (dispReport ..)).op (sourceStep ..)).op (allocLead ..)).ite
    ((((((refl s).updDisp).updArc).op (dispReport ..)).op (sourceStep ..)).op (allocOwn ..)))).andThenNext fun h1 => h1.updDisp.next))

end Sys2Proof.Machine
end

section
/-! Download, verification, activation, trial and commit of firmware (R436 to R448, R451). -/
namespace Sys2Proof.Machine
set_option Elab.async false

namespace State
variable {s t : State}

/-! ### Slots, STATE and RESULT -/

theorem slot_updSlot_same {i : Nat} (hi : i < s.nand.slots.length) (f : Slot → Slot) : (s.updSlot i f).slot i = f (s.slot i) := by
  change (modAt s.nand.slots i f).getD i {} = _
  rw [modAt_getD, if_pos ⟨rfl, hi⟩]
  rfl

theorem slot_updSlot_other {i j : Nat} (h : j ≠ i) (f : Slot → Slot) : (s.updSlot i f).slot j = s.slot j := by
  change (modAt s.nand.slots i f).getD j {} = _
  rw [modAt_getD, if_neg fun e => h e.1]
  rfl

@[simp] theorem updTo_updState (st r : Nat) : (s.updTo st r).updState = st := by simp (decide := true) [updState, updTo]

@[simp] theorem updTo_result (st r : Nat) : (s.updTo st r).getN Obj.UPDATE_CTRL.RESULT = r := by simp [updTo]

theorem updTo_getN (st r : Nat) {k : Nat} (hs : k ≠ Obj.UPDATE_CTRL.STATE) (hr : k ≠ Obj.UPDATE_CTRL.RESULT) :
    (s.updTo st r).getN k = s.getN k := by simp [updTo, hs, hr]

@[simp] theorem reply_updState (r : Reply) : (s.reply r).updState = s.updState := rfl
@[simp] theorem reply_slot (r : Reply) (i : Nat) : (s.reply r).slot i = s.slot i := rfl
@[simp] theorem updTo_slot (st r i : Nat) : (s.updTo st r).slot i = s.slot i := rfl

/-- A record leaves NAND, the update's runtime and its objects. -/
theorem record_update (code cls inst sev : Nat) (d : List Byte) : (s.record code cls inst sev d).nand = s.nand ∧
    (s.record code cls inst sev d).upd = s.upd ∧ (s.record code cls inst sev d).updState = s.updState ∧
    (s.record code cls inst sev d).getN Obj.UPDATE_CTRL.RESULT = s.getN Obj.UPDATE_CTRL.RESULT ∧
    (s.record code cls inst sev d).getN Obj.UPDATE_CTRL.REJECT = s.getN Obj.UPDATE_CTRL.REJECT :=
  have h := Within.record s code cls inst sev d
  ⟨h.kept .nand (by decide +kernel), h.kept .upd (by decide +kernel), h.getN, h.getN, h.getN⟩

/-- A failed check rejects the image: its slot is INVALID, and REJECT shows the check. -/
theorem imageRejected_holds {i b : Nat} (hi : i < s.nand.slots.length) : (s.imageRejected i b).updState = 5 ∧
    ((s.imageRejected i b).slot i).state = 1 ∧ (s.imageRejected i b).flag Obj.UPDATE_CTRL.REJECT b = true := by
  unfold imageRejected slotRejected
  obtain ⟨hnand, -, -, -, hreject⟩ := record_update (s := (s.raise Obj.UPDATE_CTRL.REJECT b).updSlot i (fun x => { x with state := 1 }))
    0x0501 0 0 1 (leBytes 4 (((s.raise Obj.UPDATE_CTRL.REJECT b).updSlot i (fun x => { x with state := 1 })).getN Obj.UPDATE_CTRL.REJECT))
  refine ⟨updTo_updState .., ?_, ?_⟩
  · have hslot := slot_updSlot_same (s := s.raise Obj.UPDATE_CTRL.REJECT b) (i := i) hi (fun x => { x with state := 1 })
    rw [slot, show ∀ u : State, (u.updTo 5 3).nand = u.nand from fun _ => rfl, hnand, ← slot, hslot]
  · rw [flag, updTo_getN _ _ (by decide) (by decide), hreject, updSlot, getN_updNand]
    simp

end State

/-! ### BEGIN, the erase and UPDATE_DATA -/

theorem begin_opens {s : State} {p : Path} (h : s.takesWrite p 0x2300 1 [1] (.n 1)) (hst : s.updState = 0 ∨ s.updState = 4 ∨ s.updState = 5)
    (hlow : 512 ≤ s.getN Obj.UPDATE_CTRL.LENGTH) (hhigh : s.getN Obj.UPDATE_CTRL.LENGTH ≤ 67108864) (hlen : s.nand.slots.length = 2)
    (hslot : s.downSlot < 2) :
    ∃ t, exec (.begin p) s = .next t ∧ t.last = some (.ok []) ∧ t.updState = 1 ∧ t.getN Obj.UPDATE_CTRL.RESULT = 1 ∧
      t.getN Obj.UPDATE_CTRL.REJECT = 0 ∧ t.upd.owner = some p ∧ t.upd.len = s.getN Obj.UPDATE_CTRL.LENGTH ∧
      (t.slot s.downSlot).state = 1 ∧ t.nand.active = s.nand.active := by
  have he : updCommandEff p (.n 1) s = beginEff p s := rfl
  rw [beginEff, if_pos ⟨hst, hlow, hhigh⟩] at he
  rw [exec, execBegin, State.write_ok h he, exists_next]
  generalize hu : ((((s.updSlot s.downSlot (fun _ => { state := 1 })).updUpd (fun u => { u with
    owner := some p, len := s.getN Obj.UPDATE_CTRL.LENGTH, slot := s.downSlot })).setN Obj.UPDATE_CTRL.REJECT 0).updTo 1 1) = u
  obtain ⟨hnand, hupd, hstate, hresult, hreject⟩ := State.record_update (s := u) 0x0500 0 0 0
    (leBytes 4 (s.getN Obj.UPDATE_CTRL.LENGTH) ++ [BitVec.ofNat 8 (pathRec p)])
  generalize u.record 0x0500 0 0 0 (leBytes 4 (s.getN Obj.UPDATE_CTRL.LENGTH) ++ [BitVec.ofNat 8 (pathRec p)]) = v at *
  have hstored := State.slot_updSlot_same (s := s) (i := s.downSlot) (by omega) (fun _ => { state := 1 })
  refine ⟨rfl, ?_, ?_, ?_, ?_, ?_, ?_, ?_⟩
  · exact hstate.trans (by rw [← hu]; exact State.updTo_updState ..)
  · exact hresult.trans (by rw [← hu]; exact State.updTo_result ..)
  · refine hreject.trans ?_
    rw [← hu, State.updTo_getN _ _ (by decide) (by decide)]
    simp
  · rw [State.reply_upd, hupd, ← hu]
    rfl
  · rw [State.reply_upd, hupd, ← hu]
    rfl
  · rw [State.slot, State.reply_nand, hnand, ← hu]
    exact congrArg Slot.state hstored
  · rw [State.reply_nand, hnand, ← hu]
    rfl

theorem begin_refused {s : State} {p : Path} (h : s.takesWrite p 0x2300 1 [1] (.n 1))
    (hbad : s.updState = 1 ∨ s.updState = 2 ∨ s.updState = 3 ∨ 6 ≤ s.updState ∨ s.getN Obj.UPDATE_CTRL.LENGTH < 512 ∨
      67108864 < s.getN Obj.UPDATE_CTRL.LENGTH) : exec (.begin p) s = .next (s.reply (.abort abortState)) := by
  have he : updCommandEff p (.n 1) s = .error abortState := by
    change beginEff p s = _
    rw [beginEff, if_neg (by omega)]
  rw [exec, execBegin, State.write_refused h he]

theorem slotEraseDone_holds {s : State} (h : s.updState = 1) :
    (∃ t, exec (.slotEraseDone true) s = .next t ∧ t.updState = 2 ∧ t.getN Obj.UPDATE_CTRL.RECEIVED = 0 ∧ t.nand = s.nand) ∧
    (∃ t, exec (.slotEraseDone false) s = .next t ∧ t.updState = 0 ∧ t.getN Obj.UPDATE_CTRL.RESULT = 3 ∧ t.nand = s.nand) := by
  constructor
  · rw [exec, execSlotEraseDone, if_neg (by simp [h]), if_pos rfl, exists_next, State.updTo_getN _ _ (by decide) (by decide)]
    exact ⟨State.updTo_updState .., by simp, rfl⟩
  · rw [exec, execSlotEraseDone, if_neg (by simp [h]), if_neg (by decide), exists_next]
    exact ⟨State.updTo_updState .., State.updTo_result .., rfl⟩

theorem updateData_appends {s : State} {p : Path} {d : List Byte} (h : s.takesWrite p 0x2301 1 d (.b d)) (hst : s.updState = 2)
    (ho : s.upd.owner = some p) (hfit : s.getN Obj.UPDATE_CTRL.RECEIVED + d.length ≤ s.upd.len) (hlen : s.nand.slots.length = 2)
    (hslot : s.upd.slot < 2) :
    ∃ t, exec (.updateData p d) s = .next t ∧ t.last = some (.ok []) ∧
      t.getN Obj.UPDATE_CTRL.RECEIVED = s.getN Obj.UPDATE_CTRL.RECEIVED + d.length ∧
      (t.slot s.upd.slot).image = some ((s.slot s.upd.slot).image.getD [] ++ d) ∧ s.sameBut t [Obj.UPDATE_CTRL.RECEIVED] := by
  have he : updateDataEff p (.b d) s = .ok ((s.updSlot s.upd.slot (fun x => { x with image := some (x.image.getD [] ++ d) })).setN
      Obj.UPDATE_CTRL.RECEIVED (s.getN Obj.UPDATE_CTRL.RECEIVED + d.length)) := by
    rw [updateDataEff, if_neg (by simp [hst, ho])]
    exact if_neg (Nat.not_lt.2 hfit)
  rw [exec, execUpdateData, State.write_ok h he, exists_next]
  have hstored := State.slot_updSlot_same (s := s) (i := s.upd.slot) (by omega) (fun x => { x with image := some (x.image.getD [] ++ d) })
  refine ⟨rfl, by simp, congrArg Slot.image hstored, ?_⟩
  simp +contextual [State.sameBut, State.updSlot]

theorem updateData_tooLong {s : State} {p : Path} {d : List Byte} (h : s.takesWrite p 0x2301 1 d (.b d)) (hst : s.updState = 2)
    (ho : s.upd.owner = some p) (hlong : s.upd.len < s.getN Obj.UPDATE_CTRL.RECEIVED + d.length) :
    exec (.updateData p d) s = .next (s.reply (.abort abortLong)) := by
  have he : updateDataEff p (.b d) s = .error abortLong := by
    rw [updateDataEff, if_neg (by simp [hst, ho])]
    exact if_pos hlong
  rw [exec, execUpdateData, State.write_refused h he]

theorem updateData_refused {s : State} {p : Path} {d : List Byte} (h : s.takesWrite p 0x2301 1 d (.b d))
    (hbad : s.updState ≠ 2 ∨ s.upd.owner ≠ some p) : exec (.updateData p d) s = .next (s.reply (.abort abortState)) := by
  have he : updateDataEff p (.b d) s = .error abortState := by rw [updateDataEff, if_pos hbad]
  rw [exec, execUpdateData, State.write_refused h he]

/-! ### VERIFY and its checks -/

theorem verify_starts {s : State} {p : Path} (h : s.takesWrite p 0x2300 1 [2] (.n 2)) (hst : s.updState = 2)
    (hall : s.getN Obj.UPDATE_CTRL.RECEIVED = s.upd.len) :
    ∃ t, exec (.verify p) s = .next t ∧ t.last = some (.ok []) ∧ t.updState = 3 ∧ t.nand = s.nand := by
  have he : updCommandEff p (.n 2) s = .ok (s.updTo 3 1) := by
    change verifyEff s = _
    rw [verifyEff, if_neg (by simp [hst]), if_pos hall]
  rw [exec, execVerify, State.write_ok h he, exists_next]
  exact ⟨rfl, by simp, rfl⟩

theorem verify_rejects {s : State} {p : Path} (h : s.takesWrite p 0x2300 1 [2] (.n 2)) (hst : s.updState = 2)
    (hpart : s.getN Obj.UPDATE_CTRL.RECEIVED ≠ s.upd.len) :
    ∃ t, exec (.verify p) s = .next t ∧ t.last = some (.ok []) ∧ t.updState = 5 ∧ t.flag Obj.UPDATE_CTRL.REJECT 9 = true := by
  have he : updCommandEff p (.n 2) s = .ok ((s.raise Obj.UPDATE_CTRL.REJECT 9).updTo 5 3) := by
    change verifyEff s = _
    rw [verifyEff, if_neg (by simp [hst]), if_neg hpart]
  rw [exec, execVerify, State.write_ok h he, exists_next, State.flag, State.getN_reply, State.updTo_getN _ _ (by decide) (by decide)]
  exact ⟨rfl, by simp, by simp⟩

theorem verify_refused {s : State} {p : Path} (h : s.takesWrite p 0x2300 1 [2] (.n 2)) (hst : s.updState ≠ 2) :
    exec (.verify p) s = .next (s.reply (.abort abortState)) := by
  have he : updCommandEff p (.n 2) s = .error abortState := by
    change verifyEff s = _
    rw [verifyEff, if_pos hst]
  rw [exec, execVerify, State.write_refused h he]

theorem checksComplete_holds {s : State} (hst : s.updState = 3) (hlen : s.nand.slots.length = 2) (hslot : s.upd.slot < 2) :
    (s.imageCheck (s.slot s.upd.slot).header s.upd.len = none →
      ∃ t, exec .checksComplete s = .next t ∧ t.updState = 4 ∧ (t.slot s.upd.slot).state = 2) ∧
    (∀ b, s.imageCheck (s.slot s.upd.slot).header s.upd.len = some b →
      ∃ t, exec .checksComplete s = .next t ∧ t.updState = 5 ∧ (t.slot s.upd.slot).state = 1 ∧
        t.flag Obj.UPDATE_CTRL.REJECT b = true) := by
  constructor
  · intro hc
    rw [exec, execChecksComplete, if_neg (by simp [hst])]
    simp only [hc, exists_next]
    exact ⟨State.updTo_updState .., congrArg Slot.state (State.slot_updSlot_same (s := s) (by omega) _)⟩
  · intro b hc
    rw [exec, execChecksComplete, if_neg (by simp [hst])]
    simp only [hc, exists_next]
    exact State.imageRejected_holds (by omega)

/-! ### ACTIVATE -/

theorem activate_eq (p : Path) (s : State) : updCommandEff p (.n 3) s = activateEff s := rfl

/-- The effect of ACTIVATE outside RECOVERY on a slot in STATE 4 that nothing blocks. -/
theorem activateEff_serving {s : State} (hst : s.updState = 4) (hm : s.mode ≠ .recovery) (hb : s.activateBlocked = false)
    (hw : s.warmFits s.upd.slot = true ∨ s.mode ≠ .run) : activateEff s = match s.slotCheck s.upd.slot with
      | some b => .ok (s.imageRejected s.upd.slot b)
      | none => if s.warmFits s.upd.slot then .ok ((s.updTo 6 1).updUpd (fun u => { u with prepAt := some s.root }))
        else .ok (((s.updSlot s.upd.slot (fun x => { x with state := 3 })).setN Obj.UPDATE_CTRL.RESULT 1).resetDecide 5 false) := by
  rw [activateEff, if_neg (by simp [hst]), if_neg hm]
  have hgo : (s.activateBlocked || (!s.warmFits s.upd.slot && decide (s.mode = .run))) = false := by
    rcases hw with hw | hw <;> simp [hb, hw]
  simp only [hgo, Bool.false_eq_true, if_false] <;> rfl

theorem activate_prepares {s : State} {p : Path} (h : s.takesWrite p 0x2300 1 [3] (.n 3)) (hst : s.updState = 4) (hm : s.mode ≠ .recovery)
    (hb : s.activateBlocked = false) (hc : s.slotCheck s.upd.slot = none) (hw : s.warmFits s.upd.slot = true) :
    ∃ t, exec (.activate p) s = .next t ∧ t.last = some (.ok []) ∧ t.updState = 6 ∧ t.upd.prepAt = some s.root ∧ t.nand = s.nand := by
  have he : activateEff s = .ok ((s.updTo 6 1).updUpd (fun u => { u with prepAt := some s.root })) := by
    rw [activateEff_serving hst hm hb (.inl hw), hc]
    exact if_pos hw
  rw [exec, execActivate, State.write_ok h ((activate_eq p s).trans he), exists_next]
  exact ⟨rfl, by rw [State.reply_updState]; exact State.updTo_updState 6 1, rfl, rfl⟩

theorem activate_rejects {s : State} {p : Path} (h : s.takesWrite p 0x2300 1 [3] (.n 3)) (b : Nat) (hst : s.updState = 4)
    (hc : s.slotCheck s.upd.slot = some b) (hlen : s.nand.slots.length = 2) (hslot : s.upd.slot < 2)
    (hgo : s.mode = .recovery ∨ (s.activateBlocked = false ∧ (s.warmFits s.upd.slot = true ∨ s.mode ≠ .run))) :
    ∃ t, exec (.activate p) s = .next t ∧ t.last = some (.ok []) ∧ t.updState = 5 ∧ (t.slot s.upd.slot).state = 1 ∧
      t.flag Obj.UPDATE_CTRL.REJECT b = true := by
  have he : activateEff s = .ok (s.imageRejected s.upd.slot b) := by
    by_cases hm : s.mode = .recovery
    · rw [activateEff, if_neg (by simp [hst]), if_pos hm, hc]
    · obtain ⟨hb, hw⟩ := hgo.resolve_left hm
      rw [activateEff_serving hst hm hb hw, hc]
  rw [exec, execActivate, State.write_ok h ((activate_eq p s).trans he), exists_next]
  exact ⟨rfl, State.imageRejected_holds (by omega)⟩

/-- ACTIVATE in RECOVERY sets the new slot's state, and names it in force where the other slot fails. -/
theorem State.landActivate_holds {s : State} (hpd : s.powerDown = false) (hlen : s.nand.slots.length = 2) (hslot : s.upd.slot < 2) :
    s.landActivate.mode = .boot ∧ s.landActivate.md.bootCauseNow = 0x11 ∧
    ((s.landActivate.slot s.upd.slot).state = 3 ∨
      ((s.landActivate.slot s.upd.slot).state = 5 ∧ s.landActivate.nand.active = s.upd.slot)) := by
  have hreset (u : State) : (u.deviceReset 0x11 false).mode = .boot ∧ (u.deviceReset 0x11 false).md.bootCauseNow = 0x11 ∧
      (u.deviceReset 0x11 false).nand = u.nand := by
    have hsave (v : State) : v.saveTick.nand = v.nand := by
      unfold saveTick
      split <;> rfl
    exact ⟨rfl, rfl, hsave _⟩
  unfold landActivate
  simp only
  split
  · have hstored := slot_updSlot_same (s := s) (i := s.upd.slot) (by omega) (fun x => { x with state := 5 })
    rw [if_neg (by exact Bool.eq_false_iff.1 hpd)]
    obtain ⟨hmode, hcause, hnand⟩ := hreset ((s.updSlot s.upd.slot (fun x => { x with state := 5 })).updNand (fun d => { d with active := s.upd.slot }))
    refine ⟨hmode, hcause, .inr ⟨?_, ?_⟩⟩
    · rw [slot, hnand]
      exact congrArg Slot.state hstored
    · rw [hnand]
      rfl
  · have hstored := slot_updSlot_same (s := s) (i := s.upd.slot) (by omega) (fun x => { x with state := 3 })
    rw [if_neg (by exact Bool.eq_false_iff.1 hpd)]
    obtain ⟨hmode, hcause, hnand⟩ := hreset (s.updSlot s.upd.slot (fun x => { x with state := 3 }))
    refine ⟨hmode, hcause, .inl ?_⟩
    rw [slot, hnand]
    exact congrArg Slot.state hstored

theorem activate_lands {s : State} {p : Path} (h : s.takesWrite p 0x2300 1 [3] (.n 3)) (hst : s.updState = 4) (hm : s.mode = .recovery)
    (hpd : s.powerDown = false) (hc : s.slotCheck s.upd.slot = none) (hlen : s.nand.slots.length = 2) (hslot : s.upd.slot < 2) :
    ∃ t, exec (.activate p) s = .next t ∧ t.mode = .boot ∧ t.md.bootCauseNow = 0x11 ∧
      ((t.slot s.upd.slot).state = 3 ∨ ((t.slot s.upd.slot).state = 5 ∧ t.nand.active = s.upd.slot)) := by
  have he : activateEff s = .ok s.landActivate := by rw [activateEff, if_neg (by simp [hst]), if_pos hm, hc]
  rw [exec, execActivate, State.write_ok h ((activate_eq p s).trans he), exists_next]
  exact State.landActivate_holds hpd hlen hslot

/-- From READY and LOCKOUT a decided reset leaves NAND, the reply and the update's objects. -/
theorem State.resetDecide_update {s : State} (hm : s.mode = .ready ∨ s.mode = .lockout) (cause : Nat) (landing : Bool) :
    (s.resetDecide cause landing).nand = s.nand ∧ (s.resetDecide cause landing).updState = s.updState ∧
    (s.resetDecide cause landing).getN Obj.UPDATE_CTRL.RESULT = s.getN Obj.UPDATE_CTRL.RESULT := by
  unfold resetDecide
  split
  · exact ⟨rfl, rfl, rfl⟩
  · have h : s.Within (Eff.arcSync ++ [.transit, .obj Obj.RECORDER_CTRL.FLUSHES, .flush])
        ((s.startFlush.updMd (fun m => { m with transit := .resetWait cause landing s.root })).arcSync 0) :=
      (((Within.refl s).op (Within.startFlush ..)).updMd (by exact fun _ => .inr rfl) (by exact fun _ => .inl (by decide +kernel))
        (by exact fun _ => .inr rfl)).op (Within.arcSync ..)
    rcases hm with hm | hm <;> simp only [hm] <;> exact ⟨h.kept .nand (by decide +kernel), h.getN, h.getN⟩

theorem activate_resets {s : State} {p : Path} (h : s.takesWrite p 0x2300 1 [3] (.n 3)) (hst : s.updState = 4)
    (hm : s.mode = .ready ∨ s.mode = .lockout) (hpd : s.powerDown = false) (hb : s.activateBlocked = false)
    (hc : s.slotCheck s.upd.slot = none) (hw : s.warmFits s.upd.slot = false) (hlen : s.nand.slots.length = 2) (hslot : s.upd.slot < 2) :
    ∃ t, exec (.activate p) s = .next t ∧ t.last = some (.ok []) ∧ (t.slot s.upd.slot).state = 3 ∧
      t.md.transit = .resetWait 5 false s.root := by
  have hrun : s.mode ≠ .recovery ∧ s.mode ≠ .run := by rcases hm with hm | hm <;> simp [hm]
  have he : activateEff s = .ok (((s.updSlot s.upd.slot (fun x => { x with state := 3 })).setN Obj.UPDATE_CTRL.RESULT 1).resetDecide 5 false) := by
    rw [activateEff_serving hst hrun.1 hb (.inr hrun.2), hc]
    exact if_neg (by simp [hw])
  have hstored := State.slot_updSlot_same (s := s) (i := s.upd.slot) (by omega) (fun x => { x with state := 3 })
  rw [exec, execActivate, State.write_ok h ((activate_eq p s).trans he), exists_next]
  generalize hu : (s.updSlot s.upd.slot (fun x => { x with state := 3 })).setN Obj.UPDATE_CTRL.RESULT 1 = u
  have humode : u.mode = .ready ∨ u.mode = .lockout := by rw [← hu]; exact hm
  have hupd : u.powerDown = false := by rw [← hu]; exact hpd
  refine ⟨rfl, ?_, ?_⟩
  · rw [State.reply_slot, State.slot, (State.resetDecide_update humode 5 false).1, ← hu]
    exact congrArg Slot.state hstored
  · rw [State.reply_md, State.resetDecide_ready hupd humode, ← hu]
    rfl

theorem activate_refused {s : State} {p : Path} (h : s.takesWrite p 0x2300 1 [3] (.n 3))
    (hbad : s.updState ≠ 4 ∨ (s.mode ≠ .recovery ∧ s.activateBlocked = true) ∨ (s.mode = .run ∧ s.warmFits s.upd.slot = false)) :
    exec (.activate p) s = .next (s.reply (.abort abortState)) := by
  have he : activateEff s = .error abortState := by
    by_cases hst : s.updState = 4
    · have hm : s.mode ≠ .recovery := by
        rcases hbad.resolve_left (not_not.2 hst) with ⟨hm, -⟩ | ⟨hm, -⟩
        · exact hm
        · simp [hm]
      have hgo : (s.activateBlocked || (!s.warmFits s.upd.slot && decide (s.mode = .run))) = true := by
        rcases hbad.resolve_left (not_not.2 hst) with ⟨-, hb⟩ | ⟨hr, hw⟩
        · simp [hb]
        · simp [hr, hw]
      rw [activateEff, if_neg (by simp [hst]), if_neg hm]
      exact if_pos hgo
    · rw [activateEff, if_pos hst]
  rw [exec, execActivate, State.write_refused h ((activate_eq p s).trans he)]

/-! ### The pause -/

/-- Stopping the server, or letting it go on, changes that and the Tread engines. -/
theorem State.setPause_kept {s : State} (on : Bool) : (s.setPause on).paused = on ∧ (s.setPause on).nand = s.nand ∧
    (s.setPause on).upd = s.upd ∧ (s.setPause on).root = s.root ∧ (s.setPause on).dict = s.dict :=
  forGal_keeps (P := fun t => t.paused = on ∧ t.nand = s.nand ∧ t.upd = s.upd ∧ t.root = s.root ∧ t.dict = s.dict)
    (s := { s with paused := on }) (fun _ _ h => by exact h) ⟨rfl, rfl, rfl, rfl, rfl⟩

theorem prepareDone_holds {s : State} (hst : s.updState = 6) (hp : s.upd.prepAt ≠ none) (hlen : s.nand.slots.length = 2)
    (hslot : s.upd.slot < 2) :
    (∃ t, exec (.prepareDone true) s = .next t ∧ t.paused = true ∧ t.nand.active = s.upd.slot ∧ (t.slot s.upd.slot).state = 4 ∧
      t.upd.pauseAt = some s.root) ∧
    (∃ t, exec (.prepareDone false) s = .next t ∧ t.paused = s.paused ∧ t.updState = 5 ∧ (t.slot s.upd.slot).state = 1 ∧
      t.flag Obj.UPDATE_CTRL.REJECT 10 = true ∧ t.nand.active = s.nand.active) := by
  constructor
  · rw [exec, execPrepareDone, if_neg (by simp [hst, hp]), if_pos rfl, exists_next]
    obtain ⟨hpaused, hnand, -, -, -⟩ := State.setPause_kept (s := (((s.updUpd (fun u => { u with prepAt := none })).updSlot s.upd.slot
      (fun x => { x with state := 4 })).updNand (fun d => { d with active := s.upd.slot }))) true
    have hstored := State.slot_updSlot_same (s := s) (i := s.upd.slot) (by omega) (fun x => { x with state := 4 })
    refine ⟨hpaused, ?_, ?_, ?_⟩
    · exact (congrArg Store.active hnand :)
    · exact (congrArg (fun d : Store => (d.slots.getD s.upd.slot {}).state) hnand).trans (congrArg Slot.state hstored)
    · rfl
  · rw [exec, execPrepareDone, if_neg (by simp [hst, hp]), if_neg (by decide), exists_next, State.flag,
      State.updTo_getN _ _ (by decide) (by decide)]
    have hstored := State.slot_updSlot_same (s := s) (i := s.upd.slot) (by omega) (fun x => { x with state := 1 })
    refine ⟨rfl, State.updTo_updState .., congrArg Slot.state hstored, ?_, rfl⟩
    simp [State.slotRejected, State.updSlot, State.updUpd]

/-- A pause that ends is followed by an allocation, which leaves NAND, the pause and the update. -/
theorem execDispatchAllocation_update (s : State) : ∃ t, execDispatchAllocation s = .next t ∧ t.nand = s.nand ∧ t.paused = s.paused ∧
    t.upd = s.upd ∧ t.updState = s.updState ∧ t.getN Obj.UPDATE_CTRL.LAST_PAUSE = s.getN Obj.UPDATE_CTRL.LAST_PAUSE := by
  obtain ⟨t, hrun⟩ := everyCommandCompletes .dispatchAllocation s
  have h := State.Within.execDispatchAllocation s t hrun
  exact ⟨t, hrun, h.kept .nand (by decide +kernel), h.kept .paused (by decide +kernel), h.kept .upd (by decide +kernel), h.getN, h.getN⟩

/-- A record and an allocation that follow the pause leave what the pause's end has set. -/
theorem pauseFollowed (s : State) (code sev : Nat) (d : List Byte) : ∃ t, execDispatchAllocation (s.record code 0 0 sev d) = .next t ∧
    t.nand = s.nand ∧ t.paused = s.paused ∧ t.upd = s.upd ∧ t.updState = s.updState ∧
    t.getN Obj.UPDATE_CTRL.LAST_PAUSE = s.getN Obj.UPDATE_CTRL.LAST_PAUSE := by
  have h := State.Within.record s code 0 0 sev d
  obtain ⟨t, hrun, hnand, hpaused, hupd, hstate, hlast⟩ := execDispatchAllocation_update (s.record code 0 0 sev d)
  exact ⟨t, hrun, hnand.trans (h.kept .nand (by decide +kernel)), hpaused.trans (h.kept .paused (by decide +kernel)),
    hupd.trans (h.kept .upd (by decide +kernel)), hstate.trans h.getN, hlast.trans h.getN⟩

theorem pauseEnd_starts {s : State} {at_ : Nat} (hp : s.upd.pauseAt = some at_) (hus : s.usSince at_ ≤ 25000) :
    ∃ t, exec .pauseEnd s = .next t ∧ t.paused = false ∧ t.updState = 7 ∧ t.upd.trialAt = s.root ∧ t.upd.pauseAt = none ∧
      t.getN Obj.UPDATE_CTRL.LAST_PAUSE = s.usSince at_ ∧ t.nand = s.nand := by
  obtain ⟨hpaused, hnand, -, hroot, -⟩ := s.setPause_kept false
  simp only [exec, execPauseEnd, hp]
  rw [if_neg (by omega)]
  generalize hu : (((s.setPause false).updUpd (fun u => { u with pauseAt := none, trialAt := s.root })).setN
    Obj.UPDATE_CTRL.LAST_PAUSE (s.usSince at_)).updTo 7 2 = u
  obtain ⟨t, hrun, htnand, htpaused, htupd, htstate, htlast⟩ := pauseFollowed u 0x0502 0 ([BitVec.ofNat 8 u.nand.active, 0] ++
    leBytes 4 (fieldN (u.slot u.nand.active).header 24 4) ++ leBytes 4 (s.usSince at_))
  have hactive : u.nand = s.nand := by rw [← hu]; exact hnand
  refine ⟨t, hrun, htpaused.trans ?_, htstate.trans ?_, ?_, ?_, htlast.trans ?_, htnand.trans hactive⟩
  · rw [← hu]
    exact hpaused
  · rw [← hu]
    exact State.updTo_updState ..
  · rw [htupd, ← hu]
    rfl
  · rw [htupd, ← hu]
    rfl
  · rw [← hu, State.updTo_getN _ _ (by decide) (by decide)]
    simp

/-- The module that returns to the other slot `j`, with slot `i` of the pause rejected. -/
def State.returned (v : State) (i j : Nat) : State :=
  (((v.slotRejected i 10).updNand (fun d => { d with active := j })).setN Obj.UPDATE_CTRL.LAST_PAUSE 25000).updTo 5 3

theorem State.returned_slot {v : State} {i j : Nat} (hi : i < v.nand.slots.length) : ((v.returned i j).slot i).state = 1 := by
  have h := State.slot_updSlot_same (s := v.raise Obj.UPDATE_CTRL.REJECT 10) (i := i) hi (fun x => { x with state := 1 })
  have hs : (v.slotRejected i 10).slot i = _ := h
  have hn : (v.returned i j).nand.slots = (v.slotRejected i 10).nand.slots := rfl
  rw [State.slot, hn]
  exact congrArg Slot.state hs

theorem State.updTo_setN_paused (v : State) (k n st r : Nat) : ((v.setN k n).updTo st r).paused = v.paused := rfl

theorem State.slotRejected_updNand_paused (v : State) (i b : Nat) (f : Store → Store) :
    ((v.slotRejected i b).updNand f).paused = v.paused := rfl

theorem State.returned_facts (v : State) (i j : Nat) : (v.returned i j).paused = v.paused ∧ (v.returned i j).updState = 5 ∧
    (v.returned i j).nand.active = j := by
  refine ⟨?_, ?_, ?_⟩
  · rw [returned, updTo_setN_paused, slotRejected_updNand_paused]
  · rw [returned, updTo_updState]
  · rfl

theorem execPauseTimeout_passed {s : State} {at_ : Nat} (hp : s.upd.pauseAt = some at_) (hpass : s.passed at_ 7812500 = true) :
    execPauseTimeout s = execDispatchAllocation
      ((((s.setPause false).updUpd (fun u => { u with pauseAt := none })).returned s.nand.active (otherSlot s.nand.active)).record
        0x0504 0 0 2 [BitVec.ofNat 8 (otherSlot s.nand.active), 5]) := by
  rw [execPauseTimeout, hp]
  exact if_pos hpass

theorem pauseTimeout_returns {s : State} {at_ : Nat} (hp : s.upd.pauseAt = some at_) (hpass : s.passed at_ 7812500 = true)
    (hlen : s.nand.slots.length = 2) (ha : s.nand.active < 2) :
    ∃ t, exec .pauseTimeout s = .next t ∧ t.paused = false ∧ t.updState = 5 ∧ t.nand.active = otherSlot s.nand.active ∧
      (t.slot s.nand.active).state = 1 := by
  rw [exec, execPauseTimeout_passed hp hpass]
  obtain ⟨hpaused, hnand, -, -, -⟩ := s.setPause_kept false
  have hv : ∃ v, (s.setPause false).updUpd (fun u => { u with pauseAt := none }) = v ∧ v.nand = s.nand ∧ v.paused = false :=
    ⟨_, rfl, hnand, hpaused⟩
  obtain ⟨v, hv, hvnand, hvpaused⟩ := hv
  rw [hv]
  have hslot := State.returned_slot (v := v) (i := s.nand.active) (j := otherSlot s.nand.active) (by rw [hvnand]; omega)
  obtain ⟨hp', hst', hact'⟩ := v.returned_facts s.nand.active (otherSlot s.nand.active)
  generalize v.returned s.nand.active (otherSlot s.nand.active) = u at *
  obtain ⟨t, hrun, htnand, htpaused, -, htstate, -⟩ := pauseFollowed u 0x0504 2 [BitVec.ofNat 8 (otherSlot s.nand.active), 5]
  refine ⟨t, hrun, htpaused.trans (hp'.trans hvpaused), htstate.trans hst', by rw [htnand, hact'], ?_⟩
  rw [State.slot, htnand]
  exact hslot

/-! ### COMMIT, ABORT and the trial's end -/

/-- Blowing the fuses up to a slot's version leaves that slot and the one in force. -/
theorem State.blowFuses_holds {s : State} {i : Nat} (hi : i < 2) : (s.blowFuses i).slot i = s.slot i ∧
    (s.blowFuses i).nand.fuses = max s.nand.fuses (min 64 (securityOf (s.slot i).header)) := by
  have hne : i ≠ otherSlot i := by unfold otherSlot; omega
  unfold blowFuses
  simp only
  split
  · exact ⟨slot_updSlot_other hne _, rfl⟩
  · exact ⟨rfl, rfl⟩

theorem commit_commits {s : State} {p : Path} (h : s.takesWrite p 0x2300 1 [4] (.n 4)) (hst : s.updState = 7) (hm : s.mode ≠ .recovery)
    (hlen : s.nand.slots.length = 2) (ha : s.nand.active < 2) :
    ∃ t, exec (.commit p) s = .next t ∧ t.last = some (.ok []) ∧ t.updState = 0 ∧ (t.slot s.nand.active).state = 5 ∧
      t.nand.fuses = max s.nand.fuses (min 64 (securityOf (s.slot s.nand.active).header)) := by
  have he : updCommandEff p (.n 4) s = commitEff s := rfl
  rw [commitEff, if_neg (by simp [hst, hm])] at he
  rw [exec, execCommit, State.write_ok h he, exists_next]
  have hstored := State.slot_updSlot_same (s := s) (i := s.nand.active) (by omega) (fun x => { x with state := 5 })
  obtain ⟨hslot, hfuses⟩ := State.blowFuses_holds (s := s.updSlot s.nand.active (fun x => { x with state := 5 })) ha
  generalize (s.updSlot s.nand.active (fun x => { x with state := 5 })).blowFuses s.nand.active = u at *
  obtain ⟨hnand, -⟩ := State.record_update (s := u) 0x0503 0 0 0
    [BitVec.ofNat 8 s.nand.active, BitVec.ofNat 8 s.nand.fuses, BitVec.ofNat 8 u.nand.fuses]
  refine ⟨rfl, by rw [State.reply_updState]; exact State.updTo_updState 0 2, ?_, ?_⟩
  · rw [State.reply_slot, State.updTo_slot, State.slot, hnand, ← State.slot, hslot, hstored]
  · rw [State.reply_nand, show ∀ v : State, (v.updTo 0 2).nand = v.nand from fun _ => rfl, hnand, hfuses, hstored]
    rfl

theorem commit_refused {s : State} {p : Path} (h : s.takesWrite p 0x2300 1 [4] (.n 4)) (hbad : s.updState ≠ 7 ∨ s.mode = .recovery) :
    exec (.commit p) s = .next (s.reply (.abort abortState)) := by
  have he : updCommandEff p (.n 4) s = .error abortState := by
    change commitEff s = _
    rw [commitEff, if_pos hbad]
  rw [exec, execCommit, State.write_refused h he]

theorem abort_discards {s : State} {p : Path} (h : s.takesWrite p 0x2300 1 [5] (.n 5)) (hlow : 1 ≤ s.updState) (hhigh : s.updState ≤ 5)
    (hlen : s.nand.slots.length = 2) (hslot : s.upd.slot < 2) :
    ∃ t, exec (.abort p) s = .next t ∧ t.last = some (.ok []) ∧ t.updState = 0 ∧ (t.slot s.upd.slot).state = 1 ∧
      t.nand.active = s.nand.active := by
  have he : updCommandEff p (.n 5) s = abortEff s := rfl
  rw [abortEff, if_pos ⟨hlow, hhigh⟩] at he
  have hstored := State.slot_updSlot_same (s := s) (i := s.upd.slot) (by omega) (fun x => { x with state := 1 })
  rw [exec, execAbort, State.write_ok h he, exists_next]
  exact ⟨rfl, by rw [State.reply_updState]; exact State.updTo_updState 0 2, congrArg Slot.state hstored, rfl⟩

theorem abort_refused {s : State} {p : Path} (h : s.takesWrite p 0x2300 1 [5] (.n 5)) (hbad : s.updState = 0 ∨ 5 < s.updState) :
    exec (.abort p) s = .next (s.reply (.abort abortState)) := by
  have he : updCommandEff p (.n 5) s = .error abortState := by
    change abortEff s = _
    rw [abortEff, if_neg (by omega)]
  rw [exec, execAbort, State.write_refused h he]

theorem trialTimeout_fallsBack {s : State} (hst : s.updState = 7) (hpd : s.powerDown = false)
    (hpass : s.passed s.upd.trialAt (secTicks 120) = true) (hlen : s.nand.slots.length = 2) (ha : s.nand.active < 2)
    (hgo : s.warmFits (otherSlot s.nand.active) = true ∨ s.mode = .ready ∨ s.mode = .lockout) :
    ∃ t, exec .trialTimeout s = .next t ∧ t.updState = 0 ∧ t.getN Obj.UPDATE_CTRL.RESULT = 3 ∧
      t.nand.active = otherSlot s.nand.active ∧ (t.slot s.nand.active).state = 1 ∧
      (s.warmFits (otherSlot s.nand.active) = false → t.md.transit = .resetWait 5 false s.root) := by
  rw [exec, execTrialTimeout, if_pos ⟨hst, hpd, hpass⟩, exists_next]
  unfold State.trialFail
  simp only
  generalize hu : (s.updSlot s.nand.active (fun x => { x with state := 1 })).updNand (fun d => { d with active := otherSlot s.nand.active }) = u
  have hrec := State.Within.record u 0x0504 0 0 2 [BitVec.ofNat 8 (otherSlot s.nand.active), BitVec.ofNat 8 1]
  have hrecmd := ((State.onlyRecords.refl u).record 0x0504 0 0 2 [BitVec.ofNat 8 (otherSlot s.nand.active), BitVec.ofNat 8 1]).1
  generalize u.record 0x0504 0 0 2 [BitVec.ofNat 8 (otherSlot s.nand.active), BitVec.ofNat 8 1] = v at *
  have hactive : v.nand.active = otherSlot s.nand.active := by
    rw [hrec.kept .nand (by decide +kernel), ← hu]
    rfl
  have hslot : (v.slot s.nand.active).state = 1 := by
    rw [State.slot, hrec.kept .nand (by decide +kernel), ← hu]
    exact congrArg Slot.state (State.slot_updSlot_same (s := s) (i := s.nand.active) (by omega) (fun x => { x with state := 1 }))
  have hmd : v.md = s.md := by
    rw [(congrArg State.md hrecmd :), ← hu]
    rfl
  have hroot : v.root = s.root := by
    rw [hrec.kept .root (by decide +kernel), ← hu]
    rfl
  split
  · next hw => exact ⟨State.updTo_updState .., State.updTo_result .., hactive, hslot, fun hcold => by simp [hcold] at hw⟩
  · next hw =>
    have hmode : (v.updTo 0 3).mode = .ready ∨ (v.updTo 0 3).mode = .lockout := by
      have h := hgo.resolve_left (by simpa using hw)
      rw [show (v.updTo 0 3).mode = v.md.mode from rfl, hmd]
      exact h
    have hup : (v.updTo 0 3).powerDown = false := by
      rw [State.powerDown, show (v.updTo 0 3).md = v.md from rfl, hmd]
      exact hpd
    obtain ⟨hnand, hstate, hresult⟩ := State.resetDecide_update hmode 5 false
    refine ⟨hstate.trans (State.updTo_updState ..), hresult.trans (State.updTo_result ..), ?_, ?_, fun _ => ?_⟩
    · rw [hnand]
      exact hactive
    · rw [State.slot, hnand]
      exact hslot
    · rw [State.resetDecide_ready hup hmode, ← hroot]
      rfl

/-- Settles O60: each clause is the rule above of the command it speaks of. -/
theorem updateCommandsComplete : Obligations.UpdateCommandsComplete := by
  unfold Obligations.UpdateCommandsComplete
  exact ⟨fun _ _ h => ⟨begin_opens h, begin_refused h⟩, fun _ => slotEraseDone_holds,
    fun _ _ _ h => ⟨updateData_appends h, updateData_tooLong h, updateData_refused h⟩,
    fun _ _ h => ⟨verify_starts h, verify_rejects h, verify_refused h⟩, fun _ => checksComplete_holds,
    fun _ _ h => ⟨activate_prepares h, activate_rejects h, activate_lands h, activate_resets h, activate_refused h⟩,
    fun _ => prepareDone_holds, fun _ _ => pauseEnd_starts, fun _ _ => pauseTimeout_returns,
    fun _ _ h => ⟨commit_commits h, commit_refused h⟩, fun _ _ h => ⟨abort_discards h, abort_refused h⟩, fun _ => trialTimeout_fallsBack⟩

end Sys2Proof.Machine
end

section
/-! Which parts of the state the operations of the recorder leave (part of the frame layer). -/
namespace Sys2Proof.Machine
set_option Elab.async false

theorem State.Within.recReadDone (s : State) (p) : s.Within [.recdRest, .above 0x1000000] (s.recReadDone p) := by
  unfold State.recReadDone
  split
  · exact (refl s)
  · exact (((refl s).updRec).ite (((refl s).updRec).setN .path)).andThen fun h1 => (h1.setN .path).ite h1

def Eff.blockRetired : List Eff := Eff.record ++ [.recdRest, .obj Obj.RECORDER_CTRL.RETIRED]
theorem State.Within.blockRetired (s : State) (block why) : s.Within Eff.blockRetired (s.blockRetired block why) := by
  unfold State.blockRetired
  exact (((refl s).updRec).setN .obj).op (record ..)

def Eff.permPage : List Eff := [.recdRest, .obj Obj.RECORDER_CTRL.PERM_BLOCKS, .obj Obj.RECORDER_CTRL.PERM_RECORDS, .obj
    Obj.RECORDER_CTRL.CIRC_BLOCKS, .obj Obj.RECORDER_WINDOW.PERM_LAST, .obj Obj.RECORDER_CTRL.STATE]
theorem State.Within.permPage (s : State) (recs) : s.Within Eff.permPage (s.permPage recs) := by
  refine .ite (Within.setN ?_ .obj) ?_
  · split
    · exact (((((refl s).updRec).setN .obj).setN .obj).setN .obj).setN .obj
    · exact ((((refl s).updRec).setN .obj).setN .obj).setN .obj
  · split
    · exact (((((refl s).updRec).setN .obj).setN .obj).setN .obj).setN .obj
    · exact ((((refl s).updRec).setN .obj).setN .obj).setN .obj

theorem State.Within.windowSync (s : State) : s.Within [.obj Obj.RECORDER_WINDOW.CIRC_FIRST, .obj Obj.RECORDER_WINDOW.FIRST] s.windowSync :=
    by
  unfold State.windowSync
  exact ((refl s).setN .obj).setN .obj

end Sys2Proof.Machine
end

section
/-! O59: the recorder. A record changes, of the recorder's runtime, at most the buffer and the flush; so what an erase, a retirement or a
page program does to the regions, the pool and the journal stands after it (chapter 16: R420 to R433). -/
namespace Sys2Proof.Machine
set_option Elab.async false

namespace State
variable (s : State)

@[simp] theorem getN_take (k : Nat) : s.take.2.getN k = s.getN k := rfl

/-! ### What a record leaves of the recorder -/

@[simp] theorem levelSync_recd : s.levelSync.recd = s.recd := by
  unfold levelSync
  dsimp only
  split <;> rfl

@[simp] theorem levelSync_vest : s.levelSync.vest = s.vest := by
  unfold levelSync
  dsimp only
  split <;> rfl

@[simp] theorem windowSync_recd : s.windowSync.recd = s.recd := rfl
@[simp] theorem windowSync_vest : s.windowSync.vest = s.vest := rfl

/-- A record leaves NAND, and of the recorder's runtime everything but the buffer and the flush. -/
theorem record_rest (code cls inst sev : Nat) (d : List Byte) : (s.record code cls inst sev d).recd.rest = s.recd.rest ∧
    (s.record code cls inst sev d).nand = s.nand :=
  have h := Within.record s code cls inst sev d
  ⟨h.kept .recdRest (by decide +kernel), h.kept .nand (by decide +kernel)⟩

theorem startFlush_flushTo : s.startFlush.recd.flushTo = some (s.getN Obj.RECORDER_WINDOW.LAST) := by
  unfold startFlush
  dsimp only
  split
  · simp (decide := true) [updRec]
  · rfl

/-- A record that enters is the last of the buffer with the next SEQ; a MAJOR one starts a flush. -/
theorem enter_holds (code cls inst sev : Nat) (d : List Byte) : ∃ r, (s.enter code cls inst sev d).recd.buffer = s.recd.buffer ++ [r] ∧
    r.seq = s.vest.nextSeq ∧ r.code = code ∧ r.cls = cls ∧ r.inst = inst ∧ r.sev = sev ∧ r.data = d ∧ r.plant = s.now ∧
    (s.enter code cls inst sev d).vest.nextSeq = s.vest.nextSeq + 1 ∧
    (s.enter code cls inst sev d).getN Obj.RECORDER_WINDOW.LAST = s.vest.nextSeq ∧
    (sev = 2 → (s.enter code cls inst sev d).recd.flushTo = some s.vest.nextSeq) := by
  obtain ⟨⟨a, b, q, f⟩, hx⟩ : ∃ x, s.recTime = x := ⟨_, rfl⟩
  obtain ⟨r, hr⟩ : ∃ r : Rec, r = ⟨s.vest.nextSeq, a, b, q, f, s.now, code, cls, inst, sev, d⟩ := ⟨_, rfl⟩
  obtain ⟨u, hu, hrecd, hvest, hlast⟩ : ∃ u : State, s.enter code cls inst sev d = (if sev = 2 then u.startFlush else u) ∧
      u.recd = { s.recd with buffer := s.recd.buffer ++ [r] } ∧ u.vest = { s.vest with nextSeq := s.vest.nextSeq + 1 } ∧
      u.getN Obj.RECORDER_WINDOW.LAST = s.vest.nextSeq := by
    unfold enter
    rw [hx]
    refine ⟨_, rfl, ?_, ?_, ?_⟩
    · rw [levelSync_recd, hr]
      split <;> rfl
    · rw [levelSync_vest]
      split <;> rfl
    · rw [(Within.levelSync _).getN]
      split <;> simp (decide := true)
  have hbuffer : (s.enter code cls inst sev d).recd.buffer = s.recd.buffer ++ [r] ∧
      (s.enter code cls inst sev d).vest = u.vest ∧
      (s.enter code cls inst sev d).getN Obj.RECORDER_WINDOW.LAST = u.getN Obj.RECORDER_WINDOW.LAST := by
    rw [hu]
    have hw := Within.startFlush u
    split
    · refine ⟨?_, ?_, hw.getN⟩
      · rw [show u.startFlush.recd.buffer = u.recd.buffer from hw.kept .buffer (by decide +kernel), hrecd]
      · unfold startFlush
        dsimp only
        split <;> rfl
    · exact ⟨by rw [hrecd], rfl, rfl⟩
  obtain ⟨hb, hv, hl⟩ := hbuffer
  refine ⟨r, hb, by rw [hr], by rw [hr], by rw [hr], by rw [hr], by rw [hr], by rw [hr], by rw [hr], by rw [hv, hvest], hl.trans hlast, ?_⟩
  intro h2
  rw [hu, if_pos h2, startFlush_flushTo, hlast]

/-- The notice of dropped records adds at most a record, and none where none was dropped. -/
theorem dropNotice_buffer : ∃ l, s.dropNotice.recd.buffer = s.recd.buffer ++ l ∧ (s.vest.dropped = 0 → l = []) := by
  unfold dropNotice
  split
  · exact ⟨[], by simp, fun _ => rfl⟩
  · next h =>
    obtain ⟨r, hr, -⟩ := enter_holds (s.updVest (fun v => { v with dropped := 0 })) 0x0004 0x0A 0 1 (leBytes 4 s.vest.dropped)
    exact ⟨[r], hr, fun h0 => absurd (.inl h0) h⟩

theorem dropNotice_idle (h : s.vest.dropped = 0 ∨ s.recFree ≤ 128) : s.dropNotice = s := by
  unfold dropNotice
  rw [if_pos]
  tauto

/-- Outside the modes without records, with no notice due and no circulating buffer, a record enters or is dropped by the admission rule. -/
theorem record_admission {code cls inst sev : Nat} {d : List Byte} (hv : s.mode ≠ .vault) (hr : s.mode ≠ .recovery)
    (hd : s.vest.dropped = 0 ∨ s.recFree ≤ 128) (hram : s.ramOnly = false) :
    s.record code cls inst sev d = if s.admits code sev then s.enter code cls inst sev d else s.dropRec := by
  have h : s.record code cls inst sev d = if s.admits code sev || (s.ramOnly && decide (0 < s.recFree)) then
      s.enter code cls inst sev d else s.dropRec := by
    unfold record
    split <;> simp_all [dropNotice_idle]
  simpa [hram] using h

end State

/-! ### Admission, drain and programmed pages -/

theorem recordEntry_admitted {s : State} {code cls inst sev : Nat} {d : List Byte} (hv : s.mode ≠ .vault) (hr : s.mode ≠ .recovery)
    (hc : s.recd.closed = false) (hd : s.vest.dropped = 0 ∨ s.recFree ≤ 128) (hram : s.ramOnly = false)
    (h : 64 < s.recFree ∨ (code ≠ 3 ∧ sev = 2 ∧ 1 < s.recFree) ∨ (code = 3 ∧ 0 < s.recFree)) :
    ∃ t r, exec (.recordEntry code cls inst sev d) s = .next t ∧ t.recd.buffer = s.recd.buffer ++ [r] ∧ r.seq = s.vest.nextSeq ∧
      r.code = code ∧ r.cls = cls ∧ r.inst = inst ∧ r.sev = sev ∧ r.data = d ∧ r.plant = s.now ∧
      t.vest.nextSeq = s.vest.nextSeq + 1 ∧ t.getN Obj.RECORDER_WINDOW.LAST = s.vest.nextSeq ∧
      (sev = 2 → t.recd.flushTo = some s.vest.nextSeq) := by
  have hadm : s.admits code sev = true := by
    unfold State.admits
    rw [hc]
    split
    · simp; omega
    · split <;> simp <;> omega
  obtain ⟨r, hholds⟩ := s.enter_holds code cls inst sev d
  refine ⟨_, r, ?_, hholds⟩
  rw [exec, execRecordEntry, s.record_admission hv hr hd hram, if_pos hadm]

theorem recordEntry_dropped {s : State} {code cls inst sev : Nat} {d : List Byte} (hv : s.mode ≠ .vault) (hr : s.mode ≠ .recovery)
    (hd : s.vest.dropped = 0 ∨ s.recFree ≤ 128) (hram : s.ramOnly = false)
    (hfree : s.recFree ≤ 64) (h3 : code = 3 → s.recFree = 0) (h2 : sev = 2 → s.recFree ≤ 1) :
    ∃ t, exec (.recordEntry code cls inst sev d) s = .next t ∧ t.recd = s.recd ∧ t.vest.nextSeq = s.vest.nextSeq ∧
      t.vest.dropped = s.vest.dropped + 1 ∧
      t.getN Obj.RECORDER_CTRL.DROPPED = min 0xFFFFFFFF (s.getN Obj.RECORDER_CTRL.DROPPED + 1) ∧
      t.flag Obj.RECORDER_CTRL.FLAGS 0 = true := by
  have hadm : s.admits code sev = false := by
    unfold State.admits
    split
    · simp; omega
    · split <;> simp <;> omega
  rw [exec, execRecordEntry, s.record_admission hv hr hd hram, if_neg (by simp [hadm]), exists_next]
  exact ⟨rfl, rfl, rfl, by simp (decide := true) [State.dropRec], by simp (decide := true) [State.dropRec]⟩

section
variable {s : State} (hawake : s.recAwake = true) (hroom : s.recRoom = true) (hturn : s.drainTurn = true) (hsize : 0 < s.pageSize)
  (hlen : s.recd.inProg.length < (if s.recd.flushTo.isSome then 4 else 1))
include hawake hroom hturn hsize hlen

theorem drain_begins (hf : s.freshBlock = none) :
    ∃ t, exec .drain s = .next t ∧ t.recd.inProg = s.recd.inProg ++ [s.pageSize] ∧ t.recd.buffer = s.recd.buffer ∧ t.dict = s.dict := by
  rw [exec, execDrain]
  simp only
  rw [if_pos (by simp [hawake, hroom, hturn, hsize, hlen]), hf, exists_next]
  exact ⟨rfl, rfl, rfl⟩

/-- Before the first page of a block, the program begins, or the block is found not blank and erased again. -/
theorem drain_blankChecks {i b : Nat} (hf : s.freshBlock = some i) (hb : s.recd.erased[i]? = some b) (he : s.recd.erasing = none) :
    ∃ t, exec .drain s = .next t ∧ t.recd.buffer = s.recd.buffer ∧
      (t.recd.inProg = s.recd.inProg ++ [s.pageSize] ∧ t.recd.erased = s.recd.erased ∧ t.recd.erasing = none ∧ t.dict = s.dict ∨
       t.recd.inProg = s.recd.inProg ∧ t.recd.erased = s.recd.erased.eraseIdx i ∧ t.recd.erasing = some b ∧
         t.flag Obj.RECORDER_CTRL.FLAGS 4 = true) := by
  rw [exec, execDrain]
  simp only
  rw [if_pos (by simp [hawake, hroom, hturn, hsize, hlen]), hf]
  obtain ⟨f, u, hx, hrecd, hdict⟩ : ∃ f u, s.take = (f, u) ∧ u.recd = s.recd ∧ u.dict = s.dict := ⟨_, _, rfl, rfl, rfl⟩
  rw [hx]
  dsimp only
  split
  · rw [exists_next, ← hdict, ← hrecd]
    exact ⟨rfl, .inl ⟨rfl, rfl, (congrArg RecorderRt.erasing hrecd).trans he, rfl⟩⟩
  · rw [hrecd, hb, he, exists_next, ← hrecd]
    exact ⟨rfl, .inr ⟨rfl, rfl, rfl, by simp⟩⟩

end

theorem circAppend_recs {circ : List RecBlock} {erased : List Nat} (recs : List Rec) (bad torn : Bool)
    (h : (∃ b, circ.getLast? = some b ∧ b.pages < 128) ∨ erased ≠ []) :
    (circAppend circ erased recs bad torn).1.flatMap (fun x => x.recs) = circ.flatMap (fun x => x.recs) ++ recs := by
  have hnew : erased ≠ [] → (match erased with
      | [] => (circ, [])
      | e :: es => (circ ++ [({ id := e, pages := 1, recs := recs, retire := bad, torn := torn } : RecBlock)], es)).1.flatMap
        RecBlock.recs = circ.flatMap RecBlock.recs ++ recs := by
    cases erased with
    | nil => simp
    | cons e es => simp
  unfold circAppend
  cases hl : circ.getLast? with
  | none =>
    refine hnew (h.resolve_left ?_)
    simp [hl]
  | some b =>
    dsimp only
    split
    · obtain ⟨l, rfl⟩ := List.getLast?_eq_some_iff.1 hl
      simp
    · next hp =>
      refine hnew (h.resolve_left ?_)
      rintro ⟨b', hb', hlt⟩
      rw [hl, Option.some.injEq] at hb'
      exact hp (hb' ▸ hlt)

/-- A programmed page in the permanent region keeps the buffer, the pages in programming and the notice of dropped records. -/
theorem State.permPage_holds (s : State) (recs : List Rec) : (s.permPage recs).recd.buffer = s.recd.buffer ∧
    (s.permPage recs).recd.inProg = s.recd.inProg ∧ (s.permPage recs).recd.redo = s.recd.redo ∧
    (s.permPage recs).recd.perm = s.recd.perm ++ recs ∧ (s.permPage recs).vest = s.vest := by
  unfold permPage
  dsimp only
  split <;> split <;> simp

/-- The state after a page's records have gone to their region. -/
def State.pageStored (s : State) (k : Nat) (rest : List Nat) : State :=
  let recs := s.recd.buffer.take k
  let s := s.updRec (fun r => { r with inProg := rest, buffer := r.buffer.drop k })
  if s.recd.permClosed then
    let ce := circAppend s.recd.circ s.recd.erased recs false false
    s.updRec (fun r => { r with circ := ce.1, erased := ce.2 })
  else s.permPage recs

theorem State.pageStored_holds (s : State) (k : Nat) (rest : List Nat) : (s.pageStored k rest).recd.buffer = s.recd.buffer.drop k ∧
    (s.pageStored k rest).recd.inProg = rest ∧ (s.pageStored k rest).vest = s.vest ∧
    (s.pageStored k rest).getN Obj.RECORDER_WINDOW.DURABLE = s.getN Obj.RECORDER_WINDOW.DURABLE ∧
    (s.recd.permClosed = false → (s.pageStored k rest).recd.perm = s.recd.perm ++ s.recd.buffer.take k) ∧
    (s.recd.permClosed = true → (∃ b, s.recd.circ.getLast? = some b ∧ b.pages < 128) ∨ s.recd.erased ≠ [] →
      (s.pageStored k rest).recd.circ.flatMap (fun x => x.recs) = s.recd.circ.flatMap (fun x => x.recs) ++ s.recd.buffer.take k) := by
  obtain ⟨u, hu⟩ : ∃ u, u = s.updRec (fun r => { r with inProg := rest, buffer := r.buffer.drop k }) := ⟨_, rfl⟩
  have hdef : s.pageStored k rest = if s.recd.permClosed then
      u.updRec (fun r => { r with
        circ := (circAppend s.recd.circ s.recd.erased (s.recd.buffer.take k) false false).1
        erased := (circAppend s.recd.circ s.recd.erased (s.recd.buffer.take k) false false).2 })
      else u.permPage (s.recd.buffer.take k) := by
    rw [hu]
    rfl
  rw [hdef]
  cases hc : s.recd.permClosed with
  | true =>
    rw [if_pos rfl, hu]
    exact ⟨rfl, rfl, rfl, rfl, by simp, fun _ hroom => circAppend_recs _ false false hroom⟩
  | false =>
    obtain ⟨hbuf, hprog, -, hperm, hvest⟩ := u.permPage_holds (s.recd.buffer.take k)
    have hdur := (State.Within.permPage u (s.recd.buffer.take k)).getN (k := Obj.RECORDER_WINDOW.DURABLE)
    rw [if_neg (by simp), hbuf, hprog, hperm, hvest, hdur, hu]
    exact ⟨rfl, rfl, rfl, rfl, fun _ => rfl, by simp⟩

theorem pageProgramDone_stores {s : State} {k : Nat} {rest : List Nat} (h : s.recd.inProg = k :: rest) :
    ∃ t l, exec (.pageProgramDone true) s = .next t ∧ t.recd.buffer = s.recd.buffer.drop k ++ l ∧ (s.vest.dropped = 0 → l = []) ∧
      t.recd.inProg = rest ∧
      (∀ r, (s.recd.buffer.take k).getLast? = some r →
        t.getN Obj.RECORDER_WINDOW.DURABLE = max (s.getN Obj.RECORDER_WINDOW.DURABLE) r.seq) ∧
      (s.recd.permClosed = false → t.recd.perm = s.recd.perm ++ s.recd.buffer.take k) ∧
      (s.recd.permClosed = true → (∃ b, s.recd.circ.getLast? = some b ∧ b.pages < 128) ∨ s.recd.erased ≠ [] →
        t.recd.circ.flatMap (fun x => x.recs) = s.recd.circ.flatMap (fun x => x.recs) ++ s.recd.buffer.take k) := by
  obtain ⟨hbuf, hprog, hvest, hdur, hperm, hcirc⟩ := s.pageStored_holds k rest
  obtain ⟨v, hv, hvrecd, hvvest, hvdur⟩ : ∃ v : State, exec (.pageProgramDone true) s = .next v.windowSync.levelSync.dropNotice ∧
      v.recd = (s.pageStored k rest).recd ∧ v.vest = s.vest ∧
      (∀ r, (s.recd.buffer.take k).getLast? = some r →
        v.getN Obj.RECORDER_WINDOW.DURABLE = max (s.getN Obj.RECORDER_WINDOW.DURABLE) r.seq) := by
    rw [exec, execPageProgramDone, h]
    cases hl : (s.recd.buffer.take k).getLast? with
    | none => exact ⟨s.pageStored k rest, by simp only [hl]; rfl, rfl, hvest, by simp⟩
    | some r =>
      refine ⟨(s.pageStored k rest).setN Obj.RECORDER_WINDOW.DURABLE
        (max ((s.pageStored k rest).getN Obj.RECORDER_WINDOW.DURABLE) r.seq), by simp only [hl]; rfl, rfl, hvest, ?_⟩
      rintro r' ⟨⟩
      rw [hdur]
      simp
  obtain ⟨l, hlbuf, hl⟩ := v.windowSync.levelSync.dropNotice_buffer
  have hw := ((State.Within.refl v).op (E := Eff.enter ++ [.obj Obj.RECORDER_WINDOW.CIRC_FIRST]) (State.Within.windowSync v)).op
    (State.Within.levelSync _) |>.op (State.Within.dropNotice _)
  have hrest : v.windowSync.levelSync.dropNotice.recd.rest = v.recd.rest := hw.kept .recdRest (by decide +kernel)
  rw [State.levelSync_recd, State.windowSync_recd, hvrecd, hbuf] at hlbuf
  rw [State.levelSync_vest, State.windowSync_vest, hvvest] at hl
  rw [hvrecd] at hrest
  refine ⟨_, l, hv, hlbuf, hl, (congrArg RecorderRt.inProg hrest).trans hprog, fun r hr => hw.getN.trans (hvdur r hr),
    fun hp => (congrArg RecorderRt.perm hrest).trans (hperm hp), fun hp hroom => ?_⟩
  exact (congrArg (List.flatMap RecBlock.recs) (congrArg RecorderRt.circ hrest)).trans (hcirc hp hroom)

theorem pageProgramDone_repeats {s : State} {k : Nat} {rest : List Nat} (h : s.recd.inProg = k :: rest) :
    ∃ t, exec (.pageProgramDone false) s = .next t ∧ t.recd.inProg = rest ∧ t.recd.redo = true ∧
      t.recd.buffer = (s.recd.buffer.drop k).take rest.sum ++ s.recd.buffer.take k ++ (s.recd.buffer.drop k).drop rest.sum ∧
      t.flag Obj.RECORDER_CTRL.FLAGS 7 = true := by
  rw [exec, execPageProgramDone, h]
  simp only [Bool.false_eq_true, if_false]
  generalize hu : (s.raise Obj.RECORDER_CTRL.FLAGS 7).take.2.updRec _ = u
  have hflag : u.flag Obj.RECORDER_CTRL.FLAGS 7 = true := by
    rw [← hu]
    simp
  split
  · rw [exists_next, ← hu]
    exact ⟨rfl, rfl, rfl, by rw [hu]; exact hflag⟩
  · obtain ⟨hbuf, hprog, hredo, -, -⟩ := u.permPage_holds []
    rw [exists_next]
    refine ⟨hprog.trans ?_, hredo.trans ?_, hbuf.trans ?_, ((State.Within.permPage u []).flag 7).trans hflag⟩ <;> (rw [← hu]; rfl)

/-! ### Flush and erase -/

theorem recorderFlush_covers {s : State} {p : Path} (h : s.takesWrite p 0x2200 1 [1] (.n 1)) :
    ∃ t, exec (.recorderFlush p) s = .next t ∧ t.last = some (.ok []) ∧
      t.recd.flushTo = some (s.getN Obj.RECORDER_WINDOW.LAST) ∧
      (s.recd.flushTo = none →
        t.getN Obj.RECORDER_CTRL.FLUSHES = min 0xFFFFFFFF (s.getN Obj.RECORDER_CTRL.FLUSHES + 1)) := by
  have he : recFlushEff (.n 1) s = .ok s.startFlush := rfl
  rw [exec, execRecorderFlush, State.write_ok h he, exists_next]
  refine ⟨rfl, s.startFlush_flushTo, fun hn => ?_⟩
  simp [State.startFlush, hn]

namespace State
variable (s : State)

theorem journalAdd_journal (m : JMark) (h : s.recd.journal.length < Config.journalRoom) :
    (s.journalAdd m).recd.journal = s.recd.journal ++ [m] := by
  simp [journalAdd, h]

@[simp] theorem journalAdd_circ (m : JMark) : (s.journalAdd m).recd.circ = s.recd.circ := rfl
@[simp] theorem journalAdd_perm (m : JMark) : (s.journalAdd m).recd.perm = s.recd.perm := rfl
@[simp] theorem journalAdd_bad (m : JMark) : (s.journalAdd m).recd.bad = s.recd.bad := rfl
@[simp] theorem journalAdd_erasing (m : JMark) : (s.journalAdd m).recd.erasing = s.recd.erasing := rfl
@[simp] theorem journalAdd_eraseArch (m : JMark) : (s.journalAdd m).recd.eraseArch = s.recd.eraseArch := rfl
@[simp] theorem journalAdd_erased (m : JMark) : (s.journalAdd m).recd.erased = s.recd.erased := rfl

theorem raise_bit_stays {k i : Nat} (j : Nat) (h : bit (s.getN k) i = true) : bit ((s.raise k j).getN k) i = true := by
  simp only [raise_eq_put, getN_put, if_true, Val.toN_n, bit_withBit]
  split <;> simp [h]

/-- A record clears no flag of the recorder. -/
theorem record_flag {i : Nat} (code cls inst sev : Nat) (d : List Byte) (h : s.flag Obj.RECORDER_CTRL.FLAGS i = true) :
    (s.record code cls inst sev d).flag Obj.RECORDER_CTRL.FLAGS i = true := by
  have hnotice : s.dropNotice.flag Obj.RECORDER_CTRL.FLAGS i = true := ((Within.dropNotice s).flag i).trans h
  have hover : ∀ u : State, u.flag Obj.RECORDER_CTRL.FLAGS i = true → u.overwrite.flag Obj.RECORDER_CTRL.FLAGS i = true :=
    fun u hu => raise_bit_stays _ 1 (by simpa (decide := true) using hu)
  have hdrop : ∀ u : State, u.flag Obj.RECORDER_CTRL.FLAGS i = true → u.dropRec.flag Obj.RECORDER_CTRL.FLAGS i = true :=
    fun u hu => raise_bit_stays _ 0 (by simpa (decide := true) using hu)
  unfold record
  split
  · exact h
  · exact h
  · dsimp only
    split <;> split
    · exact ((Within.enter _ code cls inst sev d).flag i).trans (hover _ hnotice)
    · exact hdrop _ (hover _ hnotice)
    · exact ((Within.enter _ code cls inst sev d).flag i).trans hnotice
    · exact hdrop _ hnotice

/-- A block that goes out of use is among the bad ones, counted; of the recorder's runtime only that list, the buffer and the flush change. -/
theorem blockRetired_holds (b why : Nat) :
    (s.blockRetired b why).recd.rest = { s.recd with bad := s.recd.bad ++ [b] }.rest ∧
    (s.blockRetired b why).nand = s.nand ∧
    (s.blockRetired b why).getN Obj.RECORDER_CTRL.RETIRED = min 65535 (s.getN Obj.RECORDER_CTRL.RETIRED + 1) ∧
    (∀ i, s.flag Obj.RECORDER_CTRL.FLAGS i = true → (s.blockRetired b why).flag Obj.RECORDER_CTRL.FLAGS i = true) := by
  obtain ⟨d, u, hu, hrecd, hnand, hretired, hflag⟩ : ∃ d u, s.blockRetired b why = State.record u 0x0006 0x0A 0 0 d ∧
      u.recd = { s.recd with bad := s.recd.bad ++ [b] } ∧ u.nand = s.nand ∧
      u.getN Obj.RECORDER_CTRL.RETIRED = min 65535 (s.getN Obj.RECORDER_CTRL.RETIRED + 1) ∧
      ∀ i, u.flag Obj.RECORDER_CTRL.FLAGS i = s.flag Obj.RECORDER_CTRL.FLAGS i :=
    ⟨_, _, rfl, by simp, by simp, by simp, by simp (decide := true)⟩
  obtain ⟨hrest, hkept⟩ := u.record_rest 0x0006 0x0A 0 0 d
  rw [hu, hrest, hkept, hrecd, hnand, (Within.record u ..).getN, hretired]
  exact ⟨rfl, rfl, rfl, fun i hi => u.record_flag _ _ _ _ _ ((hflag i).trans hi)⟩

/-- What the retirement of a block has done stands after the record of it. -/
theorem record_retirement (code cls inst sev : Nat) (d : List Byte) :
    (s.record code cls inst sev d).recd.bad = s.recd.bad ∧ (s.record code cls inst sev d).recd.erasing = s.recd.erasing ∧
    (s.record code cls inst sev d).getN Obj.RECORDER_CTRL.RETIRED = s.getN Obj.RECORDER_CTRL.RETIRED ∧
    (s.record code cls inst sev d).getN Obj.RECORDER_CTRL.CIRC_BLOCKS = s.getN Obj.RECORDER_CTRL.CIRC_BLOCKS ∧
    (s.record code cls inst sev d).getN Obj.RECORDER_CTRL.STATE = s.getN Obj.RECORDER_CTRL.STATE :=
  have hrest := (s.record_rest code cls inst sev d).1
  have hw := Within.record s code cls inst sev d
  ⟨(congrArg RecorderRt.bad hrest :), (congrArg RecorderRt.erasing hrest :), hw.getN, hw.getN, hw.getN⟩

/-- A retired block of the circulating region is bad and counted, and nothing is being erased that was not; a spare takes its place, where
one is left; else the region shrinks. -/
theorem retireBlock_holds (b why : Nat) :
    (s.retireBlock b why).recd.bad = s.recd.bad ++ [b] ∧
    (s.retireBlock b why).getN Obj.RECORDER_CTRL.RETIRED = min 65535 (s.getN Obj.RECORDER_CTRL.RETIRED + 1) ∧
    (∀ i, s.flag Obj.RECORDER_CTRL.FLAGS i = true → (s.retireBlock b why).flag Obj.RECORDER_CTRL.FLAGS i = true) ∧
    (s.recd.erasing = none → (s.retireBlock b why).recd.erasing = none) ∧
    (∀ e es, s.recd.spare = e :: es → (s.retireBlock b why).recd.circ = s.recd.circ ∧ (s.retireBlock b why).recd.spare = es ∧
      (s.retireBlock b why).recd.erased = s.recd.erased ++ [e]) ∧
    (s.recd.spare = [] →
      (s.retireBlock b why).getN Obj.RECORDER_CTRL.CIRC_BLOCKS = s.getN Obj.RECORDER_CTRL.CIRC_BLOCKS - 1 ∧
      (s.retireBlock b why).getN Obj.RECORDER_CTRL.STATE =
        (if s.getN Obj.RECORDER_CTRL.CIRC_BLOCKS - 1 < s.getN Obj.RECORDER_CTRL.CIRC_MIN_BLOCKS then 3 else 2)) := by
  obtain ⟨hrest, -, hretired, hflag⟩ := s.blockRetired_holds b why
  have hw := Within.blockRetired s b why
  have hblocks := hw.getN (k := Obj.RECORDER_CTRL.CIRC_BLOCKS)
  have hmin := hw.getN (k := Obj.RECORDER_CTRL.CIRC_MIN_BLOCKS)
  have hbad := congrArg RecorderRt.bad hrest
  have hspare := congrArg RecorderRt.spare hrest
  have herasing := congrArg RecorderRt.erasing hrest
  have herased := congrArg RecorderRt.erased hrest
  have hcirc := congrArg RecorderRt.circ hrest
  simp only [RecorderRt.rest] at hbad hspare herasing herased hcirc
  unfold retireBlock
  generalize s.blockRetired b why = u at *
  dsimp only
  split
  · next e es he =>
    rw [hspare] at he
    rw [getN_updRec, hretired]
    refine ⟨hbad, rfl, fun i hi => hflag i hi, fun hn => herasing.trans hn, ?_, fun h => by simp [h] at he⟩
    intro e' es' h'
    rw [h'] at he
    obtain ⟨rfl, rfl⟩ := List.cons.inj he
    exact ⟨hcirc, rfl, congrArg (· ++ [e']) herased⟩
  · next he =>
    rw [hspare] at he
    have hleft : ∀ n, (u.setN Obj.RECORDER_CTRL.CIRC_BLOCKS n).getN Obj.RECORDER_CTRL.CIRC_MIN_BLOCKS =
        s.getN Obj.RECORDER_CTRL.CIRC_MIN_BLOCKS := fun n => by simpa (decide := true) using hmin
    rw [hblocks, hleft]
    split
    · generalize hv : State.windowSync _ = v
      obtain ⟨hb, he', hr, hcb, hst⟩ := v.record_retirement 0x0005 0x0A 0 2 (leBytes 2 (s.getN Obj.RECORDER_CTRL.CIRC_BLOCKS - 1) ++ leBytes 1 3)
      refine ⟨hb.trans ?_, hr.trans ?_, fun i hi => record_flag _ _ _ _ _ _ ?_, fun _ => he'.trans ?_, by simp [he], fun _ =>
        ⟨hcb.trans ?_, hst.trans ?_⟩⟩
      · rw [← hv]; simpa using hbad
      · rw [← hv]; simpa (decide := true) [windowSync] using hretired
      · have hi' := raise_bit_stays u 3 (hflag i hi)
        rw [← hv]
        simpa (decide := true) [windowSync] using hi'
      · rw [← hv]; simp
      · rw [← hv]; simp (decide := true) [windowSync]
      · rw [← hv]; simp (decide := true) [windowSync]
    · generalize hv : State.raise _ _ _ = v
      obtain ⟨hb, he', hr, hcb, hst⟩ := v.record_retirement 0x0005 0x0A 0 1 (leBytes 2 (s.getN Obj.RECORDER_CTRL.CIRC_BLOCKS - 1) ++ leBytes 1 2)
      refine ⟨hb.trans ?_, hr.trans ?_, fun i hi => record_flag _ _ _ _ _ _ ?_, fun hn => he'.trans ?_, by simp [he], fun _ =>
        ⟨hcb.trans ?_, hst.trans ?_⟩⟩
      · rw [← hv]; simpa using hbad
      · rw [← hv]; simpa (decide := true) using hretired
      · have hi' := raise_bit_stays u 2 (hflag i hi)
        rw [← hv]
        simpa (decide := true) using hi'
      · rw [← hv]; simpa using herasing.trans hn
      · rw [← hv]; simp (decide := true)
      · rw [← hv]; simp (decide := true)

end State

/-! ### Erases of the circulating region -/

section
variable {s : State} {b b' : RecBlock} {rest : List RecBlock} (hcirc : s.recd.circ = b :: b' :: rest) (hawake : s.recAwake = true)
  (hfew : s.recd.erased.length < 2) (hidle : s.recd.erasing = none) (hfree : s.held b = false)
  (hstate : s.getN Obj.RECORDER_CTRL.STATE ≠ 3)
include hcirc hawake hfew hidle hfree hstate

theorem execBlockErase_due : execBlockErase s =
    if s.worn b.id b.retire then
      .next ((s.updRec (fun r => { r with circ := b' :: rest })).windowSync.retireBlock b.id (if b.retire then 1 else 0))
    else .next (((s.updRec (fun r => { r with circ := b' :: rest, erasing := some b.id })).journalAdd
      (.start 0 b.id (s.erases b.id + 1) ((b.recs.getLast?.map (fun r => r.seq)).getD 0))).windowSync) := by
  rw [execBlockErase, hcirc]
  simp only
  rw [if_pos (by simp [hawake, hfew, hidle, hfree, hstate])]

theorem blockErase_starts (hworn : s.worn b.id b.retire = false) :
    ∃ t, exec .blockErase s = .next t ∧ t.recd.circ = b' :: rest ∧ t.recd.erasing = some b.id ∧
      (s.recd.journal.length < Config.journalRoom → t.recd.journal = s.recd.journal ++
        [.start 0 b.id (s.erases b.id + 1) ((b.recs.getLast?.map (fun r => r.seq)).getD 0)]) := by
  rw [exec, execBlockErase_due hcirc hawake hfew hidle hfree hstate, if_neg (by simp [hworn]), exists_next]
  exact ⟨rfl, rfl, fun h => State.journalAdd_journal _ _ h⟩

/-- A worn or marked block is retired. -/
theorem blockErase_retires (hworn : s.worn b.id b.retire = true) : ∃ u : State, u.recd = { s.recd with circ := b' :: rest } ∧
    u.getN Obj.RECORDER_CTRL.RETIRED = s.getN Obj.RECORDER_CTRL.RETIRED ∧
    u.getN Obj.RECORDER_CTRL.CIRC_BLOCKS = s.getN Obj.RECORDER_CTRL.CIRC_BLOCKS ∧
    u.getN Obj.RECORDER_CTRL.CIRC_MIN_BLOCKS = s.getN Obj.RECORDER_CTRL.CIRC_MIN_BLOCKS ∧
    exec .blockErase s = .next (u.retireBlock b.id (if b.retire then 1 else 0)) := by
  refine ⟨(s.updRec (fun r => { r with circ := b' :: rest })).windowSync, by simp, ?_, ?_, ?_, by
    rw [exec, execBlockErase_due hcirc hawake hfew hidle hfree hstate, if_pos (by simp [hworn])]⟩ <;>
  simp (decide := true) [State.windowSync]

theorem blockErase_replaces {e : Nat} {es : List Nat} (hworn : s.worn b.id b.retire = true) (hspare : s.recd.spare = e :: es) :
    ∃ t, exec .blockErase s = .next t ∧ t.recd.circ = b' :: rest ∧ t.recd.erasing = none ∧ t.recd.spare = es ∧
      t.recd.erased = s.recd.erased ++ [e] ∧ t.recd.bad = s.recd.bad ++ [b.id] ∧
      t.getN Obj.RECORDER_CTRL.RETIRED = min 65535 (s.getN Obj.RECORDER_CTRL.RETIRED + 1) := by
  obtain ⟨u, hrecd, hretired, -, -, hrun⟩ := blockErase_retires hcirc hawake hfew hidle hfree hstate hworn
  obtain ⟨hbad, hcount, -, herasing, hrepl, -⟩ := u.retireBlock_holds b.id (if b.retire then 1 else 0)
  obtain ⟨hc, hs, he⟩ := hrepl e es (by rw [hrecd]; exact hspare)
  rw [hrecd] at hbad herasing hc he
  rw [hretired] at hcount
  exact ⟨_, hrun, hc, herasing hidle, hs, he, hbad, hcount⟩

theorem blockErase_shrinks (hworn : s.worn b.id b.retire = true) (hspare : s.recd.spare = []) :
    ∃ t, exec .blockErase s = .next t ∧ t.recd.bad = s.recd.bad ++ [b.id] ∧
      t.getN Obj.RECORDER_CTRL.CIRC_BLOCKS = s.getN Obj.RECORDER_CTRL.CIRC_BLOCKS - 1 ∧
      t.getN Obj.RECORDER_CTRL.STATE =
        (if s.getN Obj.RECORDER_CTRL.CIRC_BLOCKS - 1 < s.getN Obj.RECORDER_CTRL.CIRC_MIN_BLOCKS then 3 else 2) := by
  obtain ⟨u, hrecd, -, hblocks, hmin, hrun⟩ := blockErase_retires hcirc hawake hfew hidle hfree hstate hworn
  obtain ⟨hbad, -, -, -, -, hshrink⟩ := u.retireBlock_holds b.id (if b.retire then 1 else 0)
  obtain ⟨hb, hst⟩ := hshrink (by rw [hrecd]; exact hspare)
  rw [hrecd] at hbad
  rw [hblocks] at hb
  rw [hblocks, hmin] at hst
  exact ⟨_, hrun, hbad, hb, hst⟩

end

namespace State
variable (s : State)

/-- An erase that is done: its marker, its count, its statistics. -/
theorem erasedOk_holds (region b : Nat) : (s.erasedOk region b).erases b = s.erases b + 1 ∧
    (s.recd.journal.length < Config.journalRoom → (s.erasedOk region b).recd.journal = s.recd.journal ++ [.done region b]) ∧
    (s.erasedOk region b).getN Obj.RECORDER_CTRL.ERASES = min 0xFFFFFFFF (s.getN Obj.RECORDER_CTRL.ERASES + 1) ∧
    (s.erasedOk region b).recd.erasing = s.recd.erasing ∧ (s.erasedOk region b).recd.eraseArch = s.recd.eraseArch ∧
    (s.erasedOk region b).recd.erased = s.recd.erased ∧ (s.erasedOk region b).nand = s.nand ∧
    (s.erasedOk region b).recd.perm = s.recd.perm ∧ (s.erasedOk region b).recd.circ = s.recd.circ := by
  refine ⟨?_, fun h => ?_, ?_, rfl, rfl, rfl, rfl, rfl, rfl⟩
  · simp [erases, erasedOk, SMap.get_set_same]
  · exact s.journalAdd_journal _ h
  · simp (decide := true) [erasedOk, journalAdd]

end State

theorem eraseDone_counts {s : State} {b : Nat} (h : s.recd.erasing = some b) :
    ∃ t, exec (.eraseDone true) s = .next t ∧ t.recd.erasing = none ∧ t.recd.erased = s.recd.erased ++ [b] ∧
      t.erases b = s.erases b + 1 ∧ (s.recd.journal.length < Config.journalRoom → t.recd.journal = s.recd.journal ++ [.done 0 b]) ∧
      t.getN Obj.RECORDER_CTRL.ERASES = min 0xFFFFFFFF (s.getN Obj.RECORDER_CTRL.ERASES + 1) := by
  rw [exec, execEraseDone, h]
  simp only [if_true]
  rw [exists_next]
  obtain ⟨herases, hjournal, hcount, herasing, -, herased, -⟩ := (s.updRec (fun r => { r with erasing := none })).erasedOk_holds 0 b
  exact ⟨herasing, congrArg (· ++ [b]) herased, herases, hjournal, hcount⟩

theorem eraseDone_retires {s : State} {b : Nat} (h : s.recd.erasing = some b) :
    ∃ t, exec (.eraseDone false) s = .next t ∧ t.recd.erasing = none ∧ t.flag Obj.RECORDER_CTRL.FLAGS 8 = true ∧
      t.recd.bad = s.recd.bad ++ [b] ∧
      t.getN Obj.RECORDER_CTRL.RETIRED = min 65535 (s.getN Obj.RECORDER_CTRL.RETIRED + 1) := by
  rw [exec, execEraseDone, h]
  simp only [Bool.false_eq_true, if_false]
  rw [exists_next]
  generalize hu : (s.updRec (fun r => { r with erasing := none })).raise Obj.RECORDER_CTRL.FLAGS 8 = u
  obtain ⟨hbad, hcount, hflag, herasing, -, -⟩ := u.retireBlock_holds b 2
  refine ⟨herasing ?_, hflag 8 ?_, hbad.trans ?_, hcount.trans ?_⟩ <;> (rw [← hu]; simp (decide := true))

theorem eraseDone_countsArchive {s : State} {b : Nat} (hn : s.recd.erasing = none) (h : s.recd.eraseArch = some b) :
    ∃ t, exec (.eraseDone true) s = .next t ∧ t.recd.eraseArch = none ∧ t.nand.archFree = s.nand.archFree ++ [b] ∧
      t.erases b = s.erases b + 1 ∧ (s.recd.journal.length < Config.journalRoom → t.recd.journal = s.recd.journal ++ [.done 1 b]) := by
  rw [exec, execEraseDone, hn, h]
  simp only [if_true]
  rw [exists_next]
  obtain ⟨herases, hjournal, -, -, harch, -, hnand, -, -⟩ := (s.updRec (fun r => { r with eraseArch := none })).erasedOk_holds 1 b
  exact ⟨harch, congrArg (fun d : Store => d.archFree ++ [b]) hnand, herases, hjournal⟩

theorem eraseDone_retiresArchive {s : State} {b : Nat} (hn : s.recd.erasing = none) (h : s.recd.eraseArch = some b) :
    ∃ t, exec (.eraseDone false) s = .next t ∧ t.recd.eraseArch = none ∧ t.flag Obj.RECORDER_CTRL.FLAGS 8 = true ∧
      t.recd.bad = s.recd.bad ++ [b] ∧ ∀ e es, s.recd.spare = e :: es →
        t.recd.spare = es ∧ t.nand.archFree = s.nand.archFree ++ [e] := by
  rw [exec, execEraseDone, hn, h]
  simp only [Bool.false_eq_true, if_false]
  rw [exists_next]
  generalize hu : (s.updRec (fun r => { r with eraseArch := none })).raise Obj.RECORDER_CTRL.FLAGS 8 = u
  obtain ⟨hrest, hnand, -, hflag⟩ := u.blockRetired_holds b 2
  have hbad := congrArg RecorderRt.bad hrest
  have hspare := congrArg RecorderRt.spare hrest
  have harch := congrArg RecorderRt.eraseArch hrest
  simp only [RecorderRt.rest] at hbad hspare harch
  have hu8 : u.flag Obj.RECORDER_CTRL.FLAGS 8 = true := by rw [← hu]; simp
  have h8 := hflag 8 hu8
  unfold State.archRetire
  generalize u.blockRetired b 2 = v at *
  rw [show u.recd.bad = s.recd.bad by rw [← hu]; rfl] at hbad
  rw [show u.recd.spare = s.recd.spare by rw [← hu]; rfl] at hspare
  rw [show u.recd.eraseArch = none by rw [← hu]; rfl] at harch
  rw [show u.nand = s.nand by rw [← hu]; rfl] at hnand
  dsimp only
  split
  · next e es he =>
    refine ⟨harch, h8, hbad, fun e' es' h' => ?_⟩
    rw [hspare, h'] at he
    obtain ⟨rfl, rfl⟩ := List.cons.inj he
    exact ⟨rfl, congrArg (fun d : Store => d.archFree ++ [e']) hnand⟩
  · next he => exact ⟨harch, h8, hbad, fun e' es' h' => by rw [hspare, h'] at he; cases he⟩

/-! ### The rebuild -/

/-- One half-erased block is erased again. -/
def State.eraseAgain (s : State) (p : Nat × Nat) : State :=
  let s := (s.journalAdd (.start p.1 p.2 (s.erases p.2 + 1) 0)).erasedOk p.1 p.2
  if p.1 = 0 then s.updRec (fun r => { r with erased := r.erased ++ [p.2] })
  else s.updNand (fun d => { d with archFree := d.archFree ++ [p.2] })

theorem State.eraseAgain_regions (s : State) (p : Nat × Nat) :
    (s.eraseAgain p).recd.perm = s.recd.perm ∧ (s.eraseAgain p).recd.circ = s.recd.circ := by
  obtain ⟨-, -, -, -, -, -, -, hperm, hcirc⟩ := (s.journalAdd (.start p.1 p.2 (s.erases p.2 + 1) 0)).erasedOk_holds p.1 p.2
  unfold eraseAgain
  dsimp only
  split <;> exact ⟨hperm, hcirc⟩

theorem State.eraseAgain_foldl_regions (l : List (Nat × Nat)) (s : State) :
    (l.foldl State.eraseAgain s).recd.perm = s.recd.perm ∧ (l.foldl State.eraseAgain s).recd.circ = s.recd.circ := by
  induction l generalizing s with
  | nil => exact ⟨rfl, rfl⟩
  | cons p l ih => exact ⟨(ih _).1.trans (s.eraseAgain_regions p).1, (ih _).2.trans (s.eraseAgain_regions p).2⟩

theorem recorderRebuild_holds {s : State} (hr : s.recd.ready = false) (hm : s.mode = .ready ∨ s.mode = .run ∨ s.mode = .lockout) :
    ∃ t, exec .recorderRebuild s = .next t ∧ t.recd.ready = true ∧ t.recd.perm = s.recd.perm ∧ t.recd.circ = s.recd.circ ∧
      t.getN Obj.RECORDER_WINDOW.DURABLE = highSeq (s.recd.perm ++ s.recd.circ.flatMap (fun x => x.recs)) ∧
      t.getN Obj.RECORDER_WINDOW.PERM_LAST = highSeq s.recd.perm ∧
      ((halfErased s.recd.journal).filter (fun p => !s.recd.bad.contains p.2) ≠ [] →
        t.flag Obj.RECORDER_CTRL.FLAGS 4 = true) := by
  rw [exec, execRecorderRebuild, if_neg (by rcases hm with h | h | h <;> simp [hr, h])]
  generalize (halfErased s.recd.journal).filter (fun p => !s.recd.bad.contains p.2) = half
  obtain ⟨u, hu, hperm, hcirc⟩ : ∃ u, u = half.foldl State.eraseAgain s ∧ u.recd.perm = s.recd.perm ∧ u.recd.circ = s.recd.circ :=
    ⟨_, rfl, State.eraseAgain_foldl_regions half s⟩
  unfold State.eraseAgain at hu
  dsimp only at hu ⊢
  rw [← hu]
  obtain ⟨v, hv, hvrecd, hv4⟩ : ∃ v, v = (if half.isEmpty then u else u.raise Obj.RECORDER_CTRL.FLAGS 4) ∧ v.recd = u.recd ∧
      (half ≠ [] → v.flag Obj.RECORDER_CTRL.FLAGS 4 = true) := by
    refine ⟨_, rfl, by split <;> rfl, fun hne => ?_⟩
    rw [if_neg (by simpa using hne)]
    simp
  rw [← hv]
  obtain ⟨w, hw, hwrecd, hw4⟩ : ∃ w, w = (if v.recd.permTorn || v.recd.circ.any (fun x => x.torn) then
      v.raise Obj.RECORDER_CTRL.FLAGS 5 else v) ∧ w.recd = u.recd ∧ (half ≠ [] → w.flag Obj.RECORDER_CTRL.FLAGS 4 = true) := by
    refine ⟨_, rfl, by split <;> exact hvrecd, fun hne => ?_⟩
    split
    · exact v.raise_bit_stays 5 (hv4 hne)
    · exact hv4 hne
  rw [← hw, exists_next, hwrecd, hperm, hcirc]
  refine ⟨rfl, (congrArg RecorderRt.perm hwrecd).trans hperm, (congrArg RecorderRt.circ hwrecd).trans hcirc, ?_, ?_, fun hne => ?_⟩
  · simp (decide := true) [State.windowSync]
  · simp (decide := true) [State.windowSync]
  · simpa (decide := true) [State.windowSync] using hw4 hne

/-! ### Snapshots and reads -/

/-- A path's own copies of the objects of RECORDER_WINDOW, as a function of the sub-index: one key for each sub-index, and none of the
dictionary's objects. -/
def OwnKeys (k : Nat → Nat) : Prop := (∀ a b, k a = k b ↔ a = b) ∧ ∀ a x, x < 0x1000000 → k a ≠ x ∧ x ≠ k a

theorem winKey_ownKeys (p : Path) : OwnKeys (winKey p) := by
  refine ⟨fun a b => by simp [winKey, pathKey, keyOf], fun a x hx => ?_⟩
  unfold winKey pathKey
  cases p <;> simp only [Path.code] <;> omega

/-- The snapshot of a path closed. -/
def State.snapClosed (s : State) (code : Nat) (k : Nat → Nat) (c : Nat) : State :=
  (s.setN (k 7) c).updRec (fun r => { r with snaps := r.snaps.filter (fun x => x.path != code) })

/-- A snapshot opened over a window. -/
def State.snapOpened (s : State) (code : Nat) (k : Nat → Nat) (lo hi : Nat) : State :=
  let s := ((s.setN (k 0x0A) hi).setN (k 0x0B) lo).setN (k 9) (if hi < lo then 3 else 1)
  s.updRec (fun r => { r with snaps := r.snaps ++ [{ path := code, lo := lo, hi := hi, readAt := s.root }] })

namespace State
variable {s : State} {code : Nat} {k : Nat → Nat} (hk : OwnKeys k)

theorem snapClosed_snaps (c : Nat) : ∀ x ∈ (s.snapClosed code k c).recd.snaps, x.path ≠ code := by
  intro x hx
  simp [snapClosed] at hx
  exact hx.2

include hk

theorem snapClosed_getN (c : Nat) : (s.snapClosed code k c).getN (k 6) = s.getN (k 6) ∧
    ∀ x, x < 0x1000000 → (s.snapClosed code k c).getN x = s.getN x := by
  obtain ⟨hinj, hne⟩ := hk
  refine ⟨by simp [snapClosed, hinj], fun x hx => ?_⟩
  simp [snapClosed, (hne 7 x hx).2]

theorem snapOpened_holds (lo hi : Nat) : (s.snapOpened code k lo hi).getN (k 0x0B) = lo ∧ (s.snapOpened code k lo hi).getN (k 0x0A) = hi ∧
    (s.snapOpened code k lo hi).getN (k 9) = (if hi < lo then 3 else 1) ∧
    ∃ x ∈ (s.snapOpened code k lo hi).recd.snaps, x.path = code ∧ x.lo = lo ∧ x.hi = hi := by
  obtain ⟨hinj, -⟩ := hk
  refine ⟨by simp [snapOpened, hinj], by simp [snapOpened, hinj], by simp [snapOpened], ⟨code, lo, hi, s.root⟩, ?_, rfl, rfl, rfl⟩
  simp [snapOpened]

end State

theorem snapCountEff_closes (s : State) (p : Path) :
    snapCountEff p (.n 0) s = .ok ((s.snapClosed p.code (winKey p) 0).setN (winKey p 9) 0) := by
  unfold snapCountEff
  generalize winKey p = k
  rfl

theorem snapCountEff_opens (s : State) (p : Path) {c : Nat} (hc : 0 < c) :
    snapCountEff p (.n c) s = .ok ((s.snapClosed p.code (winKey p) c).snapOpened p.code (winKey p)
      (max ((s.snapClosed p.code (winKey p) c).getN (winKey p 6)) ((s.snapClosed p.code (winKey p) c).getN Obj.RECORDER_WINDOW.FIRST))
      (min ((s.snapClosed p.code (winKey p) c).getN (winKey p 6) + c - 1)
        ((s.snapClosed p.code (winKey p) c).getN Obj.RECORDER_WINDOW.LAST))) := by
  unfold snapCountEff
  generalize winKey p = k
  exact if_neg (Nat.pos_iff_ne_zero.1 hc)

theorem snapCount_closes {s : State} {p : Path} {c : Nat} (h : s.takesWrite p 0x2201 7 (leBytes 4 c) (.n c)) (hc : c = 0) :
    ∃ t, exec (.snapCount p c) s = .next t ∧ t.last = some (.ok []) ∧ t.getN (winKey p 9) = 0 ∧
      ∀ x ∈ t.recd.snaps, x.path ≠ p.code := by
  subst hc
  rw [exec, execSnapCount, State.write_ok h (snapCountEff_closes s p), exists_next]
  generalize winKey p = k
  have hsnaps := State.snapClosed_snaps (s := s) (code := p.code) (k := k) 0
  generalize s.snapClosed p.code k 0 = u at *
  refine ⟨rfl, by rw [State.getN_reply, State.setN_eq_put, State.getN_put, if_pos rfl, Val.toN_n], ?_⟩
  rw [State.reply_recd, State.setN_eq_put, State.put_recd]
  exact hsnaps

theorem snapCount_opens {s : State} {p : Path} {c : Nat} (h : s.takesWrite p 0x2201 7 (leBytes 4 c) (.n c)) (hc : 0 < c) :
    ∃ t, exec (.snapCount p c) s = .next t ∧ t.last = some (.ok []) ∧
      t.getN (winKey p 0x0B) = max (s.getN (winKey p 6)) (s.getN Obj.RECORDER_WINDOW.FIRST) ∧
      t.getN (winKey p 0x0A) = min (s.getN (winKey p 6) + c - 1) (s.getN Obj.RECORDER_WINDOW.LAST) ∧
      t.getN (winKey p 9) = (if t.getN (winKey p 0x0A) < t.getN (winKey p 0x0B) then 3 else 1) ∧
      ∃ x ∈ t.recd.snaps, x.path = p.code ∧ x.lo = t.getN (winKey p 0x0B) ∧ x.hi = t.getN (winKey p 0x0A) := by
  have hk := winKey_ownKeys p
  rw [exec, execSnapCount, State.write_ok h (snapCountEff_opens s p hc), exists_next]
  generalize winKey p = k at *
  obtain ⟨hfirst, hobj⟩ := State.snapClosed_getN (s := s) (code := p.code) hk c
  rw [hfirst, hobj _ (by decide), hobj _ (by decide)]
  generalize s.snapClosed p.code k c = u
  obtain ⟨hlo, hhi, hst, hx⟩ := State.snapOpened_holds (s := u) (code := p.code) hk
    (max (s.getN (k 6)) (s.getN Obj.RECORDER_WINDOW.FIRST)) (min (s.getN (k 6) + c - 1) (s.getN Obj.RECORDER_WINDOW.LAST))
  rw [State.getN_reply, State.getN_reply, State.getN_reply, hlo, hhi]
  exact ⟨rfl, rfl, rfl, hst, hx⟩

theorem mem_seqPut {x y : Rec} {l : List Rec} : y ∈ seqPut x l ↔ y = x ∨ y ∈ l := by
  induction l with
  | nil => simp [seqPut]
  | cons z l ih =>
    unfold seqPut
    split
    · simp
    · simp only [List.mem_cons, ih]
      tauto

theorem mem_foldr_seqPut {y : Rec} {l : List Rec} : y ∈ l.foldr seqPut [] ↔ y ∈ l := by
  induction l with
  | nil => simp
  | cons x l ih => simp [mem_seqPut, ih]

/-- A read returns no record without a SEQ. -/
theorem State.readRecs_seq {s : State} {p : Path} {r : Rec} (h : (s.readRecs p).getLast? = some r) : r.seq ≠ 0 := by
  have hr := List.mem_of_getLast? h
  unfold readRecs at hr
  split at hr
  · have hmem := mem_foldr_seqPut.1 (List.mem_of_mem_take hr)
    simp only [List.mem_filter, allRecs] at hmem
    simpa using hmem.1.2
  · simp at hr

/-- The transfer of a reply with a last SEQ moves CURSOR past it. -/
theorem State.recReadDone_cursor {s : State} {p : Path} {c hi : Nat} {out : Bool} {k : Nat → Nat} (hk : OwnKeys k) (hw : winKey p = k)
    (h : s.recd.reads.find? (fun x => decide (x.1 = p.code)) = some (c, hi, out)) (hhi : hi ≠ 0) :
    (s.recReadDone p).getN (k 0x0B) = hi + 1 := by
  obtain ⟨hinj, -⟩ := hk
  unfold recReadDone
  rw [h, hw]
  simp only
  rw [if_neg hhi]
  have hmoved : ∀ u : State, (u.setN (k 0x0B) (hi + 1)).getN (k 0x0B) = hi + 1 := fun u => by
    rw [setN_eq_put, getN_put, if_pos rfl, Val.toN_n]
  split
  · rw [setN_eq_put, getN_put, if_neg (by simp [hinj])]
    exact hmoved _
  · exact hmoved _

theorem recorderRead_answers {s : State} {p : Path} (h : s.takesRead p 0x2202 1) (hr : s.recd.ready = true) :
    ∃ t, exec (.recorderRead p) s = .next t ∧ t.last = some (.ok (s.recReply p)) ∧
      (∀ r, (s.readRecs p).getLast? = some r → t.getN (winKey p 0x0B) = r.seq + 1) := by
  have hread : s.readWith p 0x2202 1 (recReadOf p) = (s.recReadBegin p).reply (.ok (s.recReply p)) := by
    rw [State.readWith_taken h, recReadOf, if_neg (by simp [hr])]
  refine ⟨((s.recReadBegin p).reply (.ok (s.recReply p))).recReadDone p, ?_,
    (State.Within.recReadDone ..).kept .last (by decide +kernel), fun r hl => ?_⟩
  · rw [exec, execRecorderRead, hread]
    simp only [State.reply_last, State.readEnd, and_self, if_true]
  · obtain ⟨out, hout⟩ : ∃ out, (s.recReadBegin p).recd.reads.find? (fun x => decide (x.1 = p.code)) = some (p.code, r.seq, out) := by
      rw [State.recReadBegin, hl, State.updRec_recd]
      simp only [List.find?_cons, decide_true]
      exact ⟨_, rfl⟩
    exact State.recReadDone_cursor (winKey_ownKeys p) rfl hout (State.readRecs_seq hl)

theorem recorderRead_notReady {s : State} {p : Path} (h : s.takesRead p 0x2202 1) (hr : s.recd.ready = false) :
    exec (.recorderRead p) s = .next (s.reply (.abort abortState)) := by
  have hread : s.readWith p 0x2202 1 (recReadOf p) = s.reply (.abort abortState) := by
    rw [State.readWith_taken h, recReadOf, if_pos (by simp [hr])]
  rw [exec, execRecorderRead, hread]
  simp only [State.reply_last]

theorem snapshotExpiry_expires {s : State} {p : Path} {x : Snap} (hx : s.recd.snaps.find? (fun y => y.path == p.code) = some x)
    (h : s.passed x.readAt (secTicks 600) = true ∨ (2048 ≤ s.recd.buffer.length ∧ s.recd.erased.length < 2 ∧
      ∃ b rest, s.recd.circ = b :: rest ∧ ∃ r ∈ b.recs, x.lo ≤ r.seq ∧ r.seq ≤ x.hi)) :
    ∃ t, exec (.snapshotExpiry p) s = .next t ∧ (∀ y ∈ t.recd.snaps, y.path ≠ p.code) ∧ t.getN (winKey p 9) = 2 ∧
      t.flag Obj.RECORDER_CTRL.FLAGS 6 = true := by
  obtain ⟨-, hne⟩ := winKey_ownKeys p
  rw [exec, execSnapshotExpiry, hx]
  generalize winKey p = k at *
  simp only
  rw [if_pos (by
    rcases h with h | ⟨hbuf, hfew, b, rest, hcirc, hr⟩
    · simp [h]
    · simp [hbuf, hfew, hcirc, hr]), exists_next]
  refine ⟨?_, ?_, ?_⟩
  · rw [State.updRec_recd]
    intro y hy
    simpa using (List.mem_filter.1 hy).2
  · rw [State.getN_updRec, State.raise_eq_put, State.getN_put, if_neg (hne 9 Obj.RECORDER_CTRL.FLAGS (by decide)).1, State.setN_eq_put,
      State.getN_put, if_pos rfl, Val.toN_n]
  · rw [State.flag_eq_bit, State.getN_updRec, State.raise_eq_put, State.getN_put, if_pos rfl, Val.toN_n, bit_withBit_same]

theorem bufferClose_closes {s : State} {at_ : Nat} (h : s.recd.closeAt = some at_) (hp : at_ ≤ s.root) :
    ∃ t, exec .bufferClose s = .next t ∧ t.recd.closed = true ∧ t.recd.buffer = s.recd.buffer ∧ t.dict = s.dict := by
  rw [exec, execBufferClose, h]
  simp only
  rw [if_pos hp, exists_next]
  exact ⟨rfl, rfl, rfl⟩

/-- Settles O59: each clause is the rule above of the command it speaks of. -/
theorem recorderCommandsComplete : Obligations.RecorderCommandsComplete := by
  unfold Obligations.RecorderCommandsComplete
  exact ⟨fun _ _ _ _ _ _ hv hr hc hd hram => ⟨recordEntry_admitted hv hr hc hd hram, recordEntry_dropped hv hr hd hram⟩,
    fun _ ha hroom ht hsize hlen => ⟨drain_begins ha hroom ht hsize hlen, fun _ _ => drain_blankChecks ha hroom ht hsize hlen⟩,
    fun _ _ _ h => ⟨pageProgramDone_stores h, pageProgramDone_repeats h⟩, fun _ _ => recorderFlush_covers,
    fun _ _ _ _ hc ha hf hi hh hs => ⟨blockErase_starts hc ha hf hi hh hs, fun _ _ => blockErase_replaces hc ha hf hi hh hs,
      blockErase_shrinks hc ha hf hi hh hs⟩,
    fun _ _ h => ⟨eraseDone_counts h, eraseDone_retires h⟩, fun _ _ hn h => ⟨eraseDone_countsArchive hn h, eraseDone_retiresArchive hn h⟩,
    fun _ => recorderRebuild_holds, fun _ _ _ h => ⟨snapCount_closes h, snapCount_opens h⟩,
    fun _ _ h => ⟨recorderRead_answers h, recorderRead_notReady h⟩, fun _ _ _ => snapshotExpiry_expires, fun _ _ => bufferClose_closes⟩

end Sys2Proof.Machine
end

section
/-! Which parts of the state the operations of the two-wire ports leave (part of the frame layer). -/
namespace Sys2Proof.Machine
set_option Elab.async false

theorem State.Within.alertBit (s : State) (i) : s.Within [.obj Obj.TWB_CFG.ALERT_PENDING, .twb] (s.alertBit i) := by
  unfold State.alertBit
  exact (refl s).ite ((((refl s).raise .obj).withTwb).ite ((refl s).raise .obj))

theorem State.Within.readEnd (s : State) (p index sub) : s.Within [.recdRest, .above 0x1000000] (s.readEnd p index sub) := by
  unfold State.readEnd
  exact ((refl s).op (recReadDone ..)).ite (refl s)

theorem State.Within.twaNext (s : State) : s.Within [.obj Obj.TWA_CFG.FLAGS, .twa] s.twaNext := by
  refine .ite (refl s) ?_
  split
  · exact (refl s)
  · exact (((refl s).raise .obj).ite (refl s)).andThen fun h1 => h1.updTwa

theorem State.Within.windowOf (s : State) (path n) : s.WithinRead [] (windowOf path n s) := by
  unfold Machine.windowOf
  exact .ite .error (.ite .error ((refl s).okRead))

theorem State.Within.archiveReadOf (s : State) (path n) : s.WithinRead [] (archiveReadOf path n s) := by
  unfold Machine.archiveReadOf
  dsimp only
  split
  · exact .error
  · exact .ite .error ((refl s).okRead)

theorem State.Within.peakReadOf (s : State) (n i) : s.WithinRead [.above 0, .galRest] (peakReadOf n i s) := by
  unfold Machine.peakReadOf
  exact (((refl s).setR .any).galRest).okRead

theorem State.Within.recReadBegin (s : State) (p) : s.Within [.recdRest] (s.recReadBegin p) := by
  unfold State.recReadBegin
  exact (refl s).updRec

theorem State.Within.recReadOf (s : State) (path) : s.WithinRead [.recdRest] (recReadOf path s) := by
  unfold Machine.recReadOf
  exact .ite .error (((refl s).op (recReadBegin ..)).okRead)

def Eff.readOf : List Eff := [.above 0, .galRest] ++ [.recdRest] ++ [.free]
theorem State.Within.readOf (s : State) (path index sub) : s.WithinRead Eff.readOf (readOf path index sub s) := by
  unfold Machine.readOf
  split
  · exact .error
  · have hplain : ∀ {d : List Byte} {c : Prop} {_ : Decidable c}, s.WithinRead Eff.readOf (if d.isEmpty then .error abortNoData
        else .ok (d, if c then { s with free := s.free + 1 } else s)) := .ite .error ((((refl s).withFree).ite (refl s)).okRead)
    dsimp only
    split
    · refine .ite ((refl s).opRead (windowOf _ _ _)) (.ite ((refl s).opRead (archiveReadOf _ _ _)) ?_)
      split
      · exact ((refl s).opRead (peakReadOf _ _ _)).ite hplain
      · exact hplain
    · exact .ite .error hplain
    · exact ((refl s).opRead (recReadOf _ _)).ite hplain
    · exact hplain

def Eff.readObj : List Eff := Eff.readOf ++ Eff.access
theorem State.Within.readObj (s : State) (path index sub) : s.Within Eff.readObj (s.readObj path index sub) := by
  unfold State.readObj
  exact (refl s).readWith ((refl s).opRead (readOf _ _ _ _))

end Sys2Proof.Machine
end

section
/-! O58: the two-wire ports. A slot is due, waits or runs; a run that ends clears the way for the next due one; the transactions of TWB
store, select and start requests; alerts are tried up to their limit (chapter 15: R404 to R413). -/
namespace Sys2Proof.Machine
set_option Elab.async false

/-- That an effect touches no object but those of a list. -/
def Eff.among (ks : List Nat) : Eff → Bool
  | .obj k => ks.contains k
  | .gal _ _ | .chn _ _ | .can _ | .above _ => false
  | _ => true

theorem Eff.among_covers {ks : List Nat} {e : Eff} (h : e.among ks = true) {k : Nat} (hk : k ∉ ks) : e.covers k = false := by
  cases e <;> simp_all [Eff.among, Eff.covers]
  rintro rfl
  exact hk h

/-- An operation whose effects touch no other object keeps every other object. -/
theorem State.Within.sameBut {s t : State} {E : List Eff} (h : s.Within E t) {ks : List Nat}
    (hE : E.all (fun e => e.among ks) = true := by decide +kernel) : s.sameBut t ks :=
  fun _ hk => h.val_of _ fun e he => Eff.among_covers (List.all_eq_true.1 hE e he) hk

theorem State.sameBut.trans {s t u : State} {ks : List Nat} (h : s.sameBut t ks) (hu : t.sameBut u ks) : s.sameBut u ks :=
  fun k hk => (hu k hk).trans (h k hk)

/-! ### Slots: due, waiting, running -/

/-- DATA of a slot is none of the objects before it. -/
theorem dataKey_ne (i : Nat) : Obj.TWA_CFG.DATA i ≠ Obj.TWA_CFG.FLAGS ∧ Obj.TWA_CFG.DATA i ≠ Obj.TWA_CFG.SLOT_OK ∧
    Obj.TWA_CFG.DATA i ≠ Obj.TWA_CFG.TRANSFERS ∧ Obj.TWA_CFG.DATA i ≠ Obj.TWA_CFG.FAILURES := by
  simp only [Obj.TWA_CFG.DATA, Obj.TWA_CFG.FLAGS, Obj.TWA_CFG.SLOT_OK, Obj.TWA_CFG.TRANSFERS, Obj.TWA_CFG.FAILURES]
  omega

/-- No slot is due. -/
def noneDue (z : List Nat) : Prop := z.length = 16 ∧ ∀ k, z.getD k 0 = 0

theorem noneDue_replicate : noneDue (List.replicate 16 0) := by
  refine ⟨List.length_replicate, fun k => ?_⟩
  rw [List.getD_eq_getElem?_getD, List.getElem?_replicate]
  split <;> rfl

/-- A slot that is due once and has started leaves none due. -/
theorem modAt_due_back {z : List Nat} (hz : noneDue z) (n : Nat) : modAt (modAt z n (fun _ => 1)) n (fun x => x - 1) = z := by
  obtain ⟨-, hzero⟩ := hz
  refine List.ext_getElem (by simp) fun k hk hk' => ?_
  have hback := modAt_getD (modAt z n (fun _ => 1)) n k (fun x => x - 1) 0
  have hz0 := hzero k
  rw [List.getD_eq_getElem _ _ hk, modAt_getD, hzero k] at hback
  rw [List.getD_eq_getElem _ _ hk'] at hz0
  rw [hback, hz0]
  simp only [modAt_length]
  split <;> simp_all

namespace State
variable (s : State)

theorem twaNext_busy (h : s.twa.running.isSome) : s.twaNext = s := by
  unfold twaNext
  rw [if_pos (.inl h)]

/-- What the start of the next due slot leaves of TWA, and of the flags. -/
theorem twaNext_leaves : s.twaNext.twa.okAt = s.twa.okAt ∧ s.twaNext.twa.retry = s.twa.retry ∧ s.twaNext.twa.lastDue = s.twa.lastDue ∧
    s.twaNext.root = s.root ∧ s.sameBut s.twaNext [Obj.TWA_CFG.FLAGS] ∧
    ∀ i, s.flag Obj.TWA_CFG.FLAGS i = true → s.twaNext.flag Obj.TWA_CFG.FLAGS i = true := by
  have hsame := (Within.twaNext s).sameBut (ks := [Obj.TWA_CFG.FLAGS])
  have hroot : s.twaNext.root = s.root := (Within.twaNext s).kept .root (by decide +kernel)
  have hrest : s.twaNext.twa.okAt = s.twa.okAt ∧ s.twaNext.twa.retry = s.twa.retry ∧ s.twaNext.twa.lastDue = s.twa.lastDue ∧
      ∀ i, s.flag Obj.TWA_CFG.FLAGS i = true → s.twaNext.flag Obj.TWA_CFG.FLAGS i = true := by
    unfold twaNext
    split
    · exact ⟨rfl, rfl, rfl, fun _ h => h⟩
    · split
      · exact ⟨rfl, rfl, rfl, fun _ h => h⟩
      · dsimp only
        split
        · exact ⟨rfl, rfl, rfl, fun _ h => s.raise_bit_stays 4 h⟩
        · exact ⟨rfl, rfl, rfl, fun _ h => h⟩
  obtain ⟨hok, hretry, hlast, hflag⟩ := hrest
  exact ⟨hok, hretry, hlast, hroot, hsame, hflag⟩

/-- The only due slot starts. -/
theorem twaNext_starts {i : Nat} {z : List Nat} (hz : noneDue z) (hi : 1 ≤ i) (hi' : i ≤ 16) (hon : s.twaOn = true)
    (hidle : s.twa.running = none) (hruns : slotRuns (s.slotWord i) = true) (hdue : s.twa.due = modAt z (i - 1) (fun _ => 1)) :
    s.twaNext.twa.running = some (i, s.slotWord i) ∧ s.twaNext.twa.tx = s.slotBytes i (s.slotWord i) ∧
      s.twaNext.twa.due = z ∧ (bits (s.slotWord i) 47 32 = 0 → s.twaNext.dict = s.dict) := by
  have hget : ∀ k, s.twa.due.getD k 0 = if k = i - 1 then 1 else 0 := by
    intro k
    rw [hdue, modAt_getD, hz.2 k, hz.1]
    by_cases hk : k = i - 1
    · rw [if_pos ⟨hk, by omega⟩, if_pos hk]
    · rw [if_neg (fun h => hk h.1), if_neg hk]
  have hfind : (List.range' 1 16).find? (fun j => decide (0 < s.twa.due.getD (j - 1) 0) && slotRuns (s.slotWord j)) = some i := by
    cases hf : (List.range' 1 16).find? (fun j => decide (0 < s.twa.due.getD (j - 1) 0) && slotRuns (s.slotWord j)) with
    | none =>
      have hnot := List.find?_eq_none.1 hf i (List.mem_range'_1.2 (by omega))
      rw [hget, if_pos rfl, hruns] at hnot
      simp at hnot
    | some j =>
      have hj := List.find?_some hf
      have hmem := List.mem_range'_1.1 (List.mem_of_find?_eq_some hf)
      rw [hget] at hj
      by_cases hji : j - 1 = i - 1
      · rw [show j = i by omega]
      · simp [hji] at hj
  have hback : modAt s.twa.due (i - 1) (fun x => x - 1) = z := by rw [hdue, modAt_due_back hz]
  unfold twaNext
  rw [if_neg (by simp [hidle, hon]), hfind]
  dsimp only
  split
  · next hlate => exact ⟨rfl, by simp [slotBytes, dataKey_ne], hback, fun h0 => absurd h0 hlate.1⟩
  · exact ⟨rfl, rfl, hback, fun _ => rfl⟩

theorem twaDue_leaves (i : Nat) (once : Bool) : (s.twaDue i once).dict = s.dict ∧ (s.twaDue i once).root = s.root ∧
    (s.twaDue i once).md = s.md ∧ (s.twaDue i once).twa.running = s.twa.running ∧ (s.twaDue i once).twa.lastDue = s.twa.lastDue ∧
    (s.twaDue i once).twa.retry = s.twa.retry ∧
    (s.twaDue i once).twa.due = modAt s.twa.due (i - 1) (fun k => if once then max k 1 else k + 1) := by
  unfold twaDue
  dsimp only
  split <;> exact ⟨rfl, rfl, rfl, rfl, rfl, rfl, rfl⟩

end State

/-- Of no due slots, one becomes due once. -/
theorem modAt_noneDue {z : List Nat} (hz : noneDue z) (n : Nat) {f : Nat → Nat} (hf : f 0 = 1) : modAt z n f = modAt z n (fun _ => 1) := by
  refine List.ext_getElem (by simp) fun k hk hk' => ?_
  rw [← List.getD_eq_getElem _ 0 hk, ← List.getD_eq_getElem _ 0 hk', modAt_getD, modAt_getD, hz.2 k, hf]

section
variable {s v : State} (hdict : v.dict = s.dict) (hmd : v.md = s.md)
include hdict

theorem slotWord_congr (i : Nat) : v.slotWord i = s.slotWord i := by
  simp [State.slotWord, State.getN, State.val, hdict]

theorem slotBytes_congr (i w : Nat) : v.slotBytes i w = s.slotBytes i w := by
  simp [State.slotBytes, State.getN, State.val, hdict]

include hmd

theorem twaOn_congr : v.twaOn = s.twaOn := by
  simp [State.twaOn, State.served, State.mode, State.getN, State.val, hdict, hmd]

/-- The only due slot starts with the word and the bytes in force. -/
theorem twaNext_startsAs {i : Nat} {z : List Nat} (hz : noneDue z) (hi : 1 ≤ i) (hi' : i ≤ 16) (hon : s.twaOn = true)
    (hidle : v.twa.running = none) (hruns : slotRuns (s.slotWord i) = true) (hdue : v.twa.due = modAt z (i - 1) (fun _ => 1)) :
    v.twaNext.twa.running = some (i, s.slotWord i) ∧ v.twaNext.twa.tx = s.slotBytes i (s.slotWord i) ∧ v.twaNext.twa.due = z ∧
      s.sameBut v.twaNext [Obj.TWA_CFG.FLAGS] ∧ (bits (s.slotWord i) 47 32 = 0 → v.twaNext.dict = s.dict) := by
  rw [← slotWord_congr hdict] at hruns ⊢
  rw [← twaOn_congr hdict hmd] at hon
  obtain ⟨hrun, htx, hback, hquiet⟩ := v.twaNext_starts hz hi hi' hon hidle hruns hdue
  obtain ⟨-, -, -, -, hsame, -⟩ := v.twaNext_leaves
  refine ⟨hrun, htx.trans (slotBytes_congr hdict ..), hback, fun k hk => (hsame k hk).trans ?_, fun h0 => (hquiet h0).trans hdict⟩
  simp [State.val, hdict]

end

section
variable {s : State} {i : Nat} (hi : 1 ≤ i) (hi' : i ≤ 16)
include hi hi'

theorem twaSlotDue_starts (hz : s.twa.due = List.replicate 16 0) (hl : s.twa.lastDue.length = 16) (hon : s.twaOn = true)
    (hidle : s.twa.running = none) (hruns : slotRuns (s.slotWord i) = true) (hper : bits (s.slotWord i) 47 32 ≠ 0)
    (hpass : s.passed (s.twa.lastDue.getD (i - 1) 0) (msTicks (bits (s.slotWord i) 47 32)) = true) :
    ∃ t, exec (.twaSlotDue i) s = .next t ∧ t.twa.running = some (i, s.slotWord i) ∧ t.twa.lastDue.getD (i - 1) 0 = s.root ∧
      t.twa.tx = s.slotBytes i (s.slotWord i) ∧ t.twa.due = List.replicate 16 0 ∧ s.sameBut t [Obj.TWA_CFG.FLAGS] := by
  rw [exec, execTwaSlotDue, if_pos ⟨hon, hi, hi', hruns, hper, hpass⟩, exists_next]
  obtain ⟨hdict, hroot, hmd, hrun, hlast, -, hdue⟩ := s.twaDue_leaves i true
  generalize s.twaDue i true = u at *
  obtain ⟨v, hv, hvdict, hvmd, hvrun, hvlast, hvdue⟩ : ∃ v, v = u.updTwa (fun t => { t with
      lastDue := modAt t.lastDue (i - 1) (fun _ => s.root) }) ∧ v.dict = s.dict ∧ v.md = s.md ∧ v.twa.running = none ∧
      v.twa.lastDue = modAt s.twa.lastDue (i - 1) (fun _ => s.root) ∧ v.twa.due = u.twa.due :=
    ⟨_, rfl, hdict, hmd, hrun.trans hidle, by rw [← hlast]; rfl, rfl⟩
  rw [← hv]
  rw [hz, modAt_noneDue noneDue_replicate _ (by rfl)] at hdue
  obtain ⟨-, -, hkeep, -, -, -⟩ := v.twaNext_leaves
  obtain ⟨hr, htx, hd, hs, -⟩ := twaNext_startsAs hvdict hvmd noneDue_replicate hi hi' hon hvrun hruns (hvdue.trans hdue)
  refine ⟨hr, ?_, htx, hd, hs⟩
  rw [hkeep, hvlast, modAt_getD, if_pos ⟨rfl, by omega⟩]

theorem twaSlotDue_waits {r : Nat × Nat} (hd : s.twa.due.length = 16) (hon : s.twaOn = true)
    (hrun : s.twa.running = some r) (hruns : slotRuns (s.slotWord i) = true) (hper : bits (s.slotWord i) 47 32 ≠ 0)
    (hpass : s.passed (s.twa.lastDue.getD (i - 1) 0) (msTicks (bits (s.slotWord i) 47 32)) = true) :
    ∃ t, exec (.twaSlotDue i) s = .next t ∧ t.twa.running = some r ∧ 1 ≤ t.twa.due.getD (i - 1) 0 ∧ t.dict = s.dict := by
  rw [exec, execTwaSlotDue, if_pos ⟨hon, hi, hi', hruns, hper, hpass⟩]
  obtain ⟨hdict, -, -, hr, -, -, hdue⟩ := s.twaDue_leaves i true
  rw [hrun] at hr
  rw [State.twaNext_busy _ (by rw [show State.twa _ = _ from rfl]; simp [hr]), exists_next]
  refine ⟨hr, ?_, hdict⟩
  rw [show State.twa _ = _ from rfl]
  simp only [State.updTwa, hdue]
  rw [modAt_getD, if_pos ⟨rfl, by omega⟩]
  exact Nat.le_max_right ..

theorem twaArbRetry_starts {at_ : Nat} (hz : s.twa.due = List.replicate 16 0) (hidle : s.twa.running = none) (hon : s.twaOn = true)
    (hretry : s.twa.retry = [(i, at_)]) (hpass : s.passed at_ (msTicks 1) = true) (hruns : slotRuns (s.slotWord i) = true) :
    ∃ t, exec (.twaArbRetry i) s = .next t ∧ t.twa.running = some (i, s.slotWord i) ∧ t.twa.retry = [] := by
  rw [exec, execTwaArbRetry, hretry]
  simp only [List.find?_cons, decide_true]
  rw [if_pos hpass, exists_next]
  obtain ⟨hdict, -, hmd, hrun, -, hret, hdue⟩ := (s.updTwa (fun a => { a with
    retry := a.retry.filter (fun e => decide (e.1 ≠ i)) })).twaDue_leaves i true
  generalize State.twaDue _ i true = u at *
  rw [show State.twa _ = _ from rfl] at hdue
  simp only [State.updTwa, hz] at hdue
  rw [modAt_noneDue noneDue_replicate _ (by rfl)] at hdue
  obtain ⟨-, hkeep, -, -, -, -⟩ := u.twaNext_leaves
  obtain ⟨hr, -, -, -, -⟩ := twaNext_startsAs hdict hmd noneDue_replicate hi hi' hon (hrun.trans hidle) hruns hdue
  refine ⟨hr, hkeep.trans (hret.trans ?_)⟩
  simp [State.updTwa, hretry]

end

/-! ### TRIGGER -/

/-- Whether a write of TRIGGER lets a slot run once more. -/
def State.trigs (s : State) (mask i : Nat) : Bool := bit mask (i - 1) && slotRuns (s.slotWord i) && bits (s.slotWord i) 47 32 == 0

/-- One slot of a write of TRIGGER. -/
def State.trigStep (mask : Nat) (s : State) (i : Nat) : State :=
  if s.trigs mask i && s.twaOn then s.twaDue i false else s

theorem trigStep_foldl (mask : Nat) (l : List Nat) (hl : l.Nodup) (hpos : ∀ i ∈ l, 1 ≤ i ∧ i ≤ 16) (s : State) (hon : s.twaOn = true)
    (hlen : s.twa.due.length = 16) :
    (l.foldl (State.trigStep mask) s).dict = s.dict ∧ (l.foldl (State.trigStep mask) s).md = s.md ∧
    (l.foldl (State.trigStep mask) s).twa.running = s.twa.running ∧ (l.foldl (State.trigStep mask) s).twa.due.length = 16 ∧
    ∀ i, 1 ≤ i → i ≤ 16 → (l.foldl (State.trigStep mask) s).twa.due.getD (i - 1) 0 =
      s.twa.due.getD (i - 1) 0 + b2n (decide (i ∈ l) && s.trigs mask i) := by
  induction l generalizing s with
  | nil => exact ⟨rfl, rfl, rfl, hlen, by simp [b2n]⟩
  | cons j l ih =>
    obtain ⟨hj, hl⟩ := List.nodup_cons.1 hl
    obtain ⟨hj1, hj16⟩ := hpos j List.mem_cons_self
    obtain ⟨u, hu, hdict, hmd, hrun, hulen, hdue⟩ : ∃ u, u = State.trigStep mask s j ∧ u.dict = s.dict ∧ u.md = s.md ∧
        u.twa.running = s.twa.running ∧ u.twa.due.length = 16 ∧
        ∀ i, 1 ≤ i → u.twa.due.getD (i - 1) 0 = s.twa.due.getD (i - 1) 0 + b2n (decide (i = j) && s.trigs mask i) := by
      refine ⟨_, rfl, ?_⟩
      unfold State.trigStep
      split
      · next h =>
        obtain ⟨hd, -, hm, hr, -, -, hdue⟩ := s.twaDue_leaves j false
        refine ⟨hd, hm, hr, by rw [hdue, modAt_length, hlen], fun i hi => ?_⟩
        rw [hdue, modAt_getD]
        by_cases hij : i = j
        · subst hij
          rw [if_pos ⟨rfl, by omega⟩]
          simp_all [b2n]
        · rw [if_neg (by omega)]
          simp [hij, b2n]
      · next h =>
        refine ⟨rfl, rfl, rfl, hlen, fun i _ => ?_⟩
        have : (decide (i = j) && s.trigs mask i) = false := by
          by_cases hij : i = j
          · subst hij
            simpa [hon] using h
          · simp [hij]
        rw [this]
        rfl
    obtain ⟨hd, hm, hr, hle, hg⟩ := ih hl (fun i hi => hpos i (List.mem_cons_of_mem _ hi)) u ((twaOn_congr hdict hmd).trans hon) hulen
    rw [List.foldl_cons, ← hu]
    refine ⟨hd.trans hdict, hm.trans hmd, hr.trans hrun, hle, fun i hi hi' => ?_⟩
    have htrig : u.trigs mask i = s.trigs mask i := by simp only [State.trigs, slotWord_congr hdict]
    rw [hg i hi hi', hdue i hi, htrig]
    by_cases hij : i = j
    · subst hij
      simp [hj, b2n]
    · simp [hij, b2n]

theorem twaTriggerEff_eq (mask : Nat) (s : State) :
    twaTriggerEff (.n mask) s = .ok ((List.range' 1 16).foldl (State.trigStep mask) s).twaNext := rfl

theorem trigger_due (mask : Nat) {s : State} (hon : s.twaOn = true) (hlen : s.twa.due.length = 16) :
    ∃ u, u = (List.range' 1 16).foldl (State.trigStep mask) s ∧ u.dict = s.dict ∧ u.md = s.md ∧ u.twa.running = s.twa.running ∧
      u.twa.due.length = 16 ∧ ∀ i, 1 ≤ i → i ≤ 16 → u.twa.due.getD (i - 1) 0 = s.twa.due.getD (i - 1) 0 + b2n (s.trigs mask i) := by
  obtain ⟨hd, hm, hr, hl, hg⟩ := trigStep_foldl mask (List.range' 1 16) (List.nodup_range' ..)
    (fun i hi => by have := List.mem_range'_1.1 hi; omega) s hon hlen
  refine ⟨_, rfl, hd, hm, hr, hl, fun i hi hi' => ?_⟩
  rw [hg i hi hi', decide_eq_true (List.mem_range'_1.2 (by omega)), Bool.true_and]

theorem twaTrigger_waits {s : State} {p : Path} {mask : Nat} {r : Nat × Nat} (h : s.takesWrite p 0x2600 6 (leBytes 2 mask) (.n mask))
    (hon : s.twaOn = true) (hlen : s.twa.due.length = 16) (hrun : s.twa.running = some r) :
    ∃ t, exec (.twaTrigger p mask) s = .next t ∧ t.last = some (.ok []) ∧ t.twa.running = some r ∧ t.dict = s.dict ∧
      ∀ i, 1 ≤ i → i ≤ 16 → t.twa.due.getD (i - 1) 0 = s.twa.due.getD (i - 1) 0 +
        b2n (bit mask (i - 1) && slotRuns (s.slotWord i) && bits (s.slotWord i) 47 32 == 0) := by
  obtain ⟨u, hu, hdict, -, hr, -, hdue⟩ := trigger_due mask hon hlen
  have he := twaTriggerEff_eq mask s
  rw [← hu, u.twaNext_busy (by rw [hr, hrun]; rfl)] at he
  rw [exec, execTwaTrigger, State.write_ok h he, exists_next]
  exact ⟨rfl, hr.trans hrun, hdict, hdue⟩

theorem twaTrigger_starts {s : State} {p : Path} {i : Nat} (hi : 1 ≤ i) (hi' : i ≤ 16)
    (h : s.takesWrite p 0x2600 6 (leBytes 2 (2 ^ (i - 1))) (.n (2 ^ (i - 1)))) (hon : s.twaOn = true)
    (hz : s.twa.due = List.replicate 16 0) (hidle : s.twa.running = none) (hruns : slotRuns (s.slotWord i) = true)
    (hper : bits (s.slotWord i) 47 32 = 0) :
    ∃ t, exec (.twaTrigger p (2 ^ (i - 1))) s = .next t ∧ t.last = some (.ok []) ∧ t.twa.running = some (i, s.slotWord i) ∧
      t.twa.tx = s.slotBytes i (s.slotWord i) ∧ t.dict = s.dict := by
  have hnone : noneDue s.twa.due := by rw [hz]; exact noneDue_replicate
  obtain ⟨u, hu, hdict, hmd, hr, hul, hdue⟩ := trigger_due (2 ^ (i - 1)) hon hnone.1
  have hone : u.twa.due = modAt s.twa.due (i - 1) (fun _ => 1) := by
    refine List.ext_getElem (by simp [hul, hnone.1]) fun k hk hk' => ?_
    have hk16 : k < 16 := hul ▸ hk
    have := hdue (k + 1) (by omega) (by omega)
    rw [Nat.add_sub_cancel, hnone.2 k] at this
    rw [← List.getD_eq_getElem _ 0 hk, ← List.getD_eq_getElem _ 0 hk', modAt_getD, hnone.2 k, this, hnone.1]
    by_cases hki : k = i - 1
    · rw [if_pos ⟨hki, hk16⟩, show k + 1 = i by omega]
      simp [State.trigs, bit_two_pow, hruns, hper, b2n]
    · rw [if_neg (fun h => hki h.1)]
      simp [State.trigs, bit_two_pow, b2n]
      omega
  have he := twaTriggerEff_eq (2 ^ (i - 1)) s
  rw [← hu] at he
  rw [exec, execTwaTrigger, State.write_ok h he, exists_next]
  obtain ⟨hrun, htx, -, -, hquiet⟩ := twaNext_startsAs hdict hmd hnone hi hi' hon (hr.trans hidle) hruns hone
  exact ⟨rfl, hrun, htx, hquiet hper⟩

/-! ### A run that ends -/

/-- The slot's run is over. -/
def State.runOver (s : State) : State := s.updTwa (fun t => { t with running := none })

/-- A completed run, its data stored where it reads. -/
def State.runOk (s : State) (i w : Nat) (d : List Byte) : State :=
  let s := if bits w 11 10 = 1 then s.setN (Obj.TWA_CFG.DATA i) (leNat (d.take (bits w 15 12 + 1))) else s
  let s := (s.raise Obj.TWA_CFG.SLOT_OK (i - 1)).inc Obj.TWA_CFG.TRANSFERS
  s.updTwa (fun t => { t with okAt := modAt t.okAt (i - 1) (fun _ => some s.root) })

section
variable (s : State) (i w : Nat)

theorem runOk_holds (hok : s.twa.okAt.length = 16) (hi : 1 ≤ i) (hi' : i ≤ 16) (d : List Byte) :
    (s.runOk i w d).getN (Obj.TWA_CFG.DATA i) =
      (if bits w 11 10 = 1 then leNat (d.take (bits w 15 12 + 1)) else s.getN (Obj.TWA_CFG.DATA i)) ∧
    (s.runOk i w d).flag Obj.TWA_CFG.SLOT_OK (i - 1) = true ∧
    (s.runOk i w d).getN Obj.TWA_CFG.TRANSFERS = min 0xFFFFFFFF (s.getN Obj.TWA_CFG.TRANSFERS + 1) ∧
    (s.runOk i w d).twa.okAt.getD (i - 1) none = some s.root ∧ (s.runOk i w d).root = s.root := by
  obtain ⟨-, hslot, htransfers, -⟩ := dataKey_ne i
  unfold State.runOk
  generalize Obj.TWA_CFG.DATA i = k at *
  have hat : (modAt s.twa.okAt (i - 1) (fun _ => some s.root)).getD (i - 1) none = some s.root := by
    rw [modAt_getD, if_pos ⟨rfl, by omega⟩]
  dsimp only
  split
  · exact ⟨by simp [*], by simp (decide := true), by simp (decide := true) [htransfers.symm], hat, rfl⟩
  · exact ⟨by simp [hslot, htransfers], by simp (decide := true), by simp (decide := true), hat, rfl⟩

/-- A run that fails clears SLOT_OK and counts. -/
theorem twaFail_holds : (s.twaFail i).flag Obj.TWA_CFG.SLOT_OK (i - 1) = false ∧
    (s.twaFail i).getN Obj.TWA_CFG.FAILURES = min 0xFFFFFFFF (s.getN Obj.TWA_CFG.FAILURES + 1) ∧
    s.sameBut (s.twaFail i) [Obj.TWA_CFG.FLAGS, Obj.TWA_CFG.SLOT_OK, Obj.TWA_CFG.FAILURES] ∧
    (s.twaFail i).getN Obj.TWA_CFG.FLAGS = s.getN Obj.TWA_CFG.FLAGS :=
  ⟨by simp (decide := true) [State.twaFail], by simp (decide := true) [State.twaFail], by simp +contextual [State.twaFail, State.sameBut],
    by simp (decide := true) [State.twaFail]⟩

end

/-- What the next slot's start leaves of the other objects of the port. -/
theorem twaNext_getN (s : State) : s.twaNext.getN Obj.TWA_CFG.SLOT_OK = s.getN Obj.TWA_CFG.SLOT_OK ∧
    s.twaNext.getN Obj.TWA_CFG.TRANSFERS = s.getN Obj.TWA_CFG.TRANSFERS ∧
    s.twaNext.getN Obj.TWA_CFG.FAILURES = s.getN Obj.TWA_CFG.FAILURES :=
  have h := State.Within.twaNext s
  ⟨h.getN, h.getN, h.getN⟩

theorem sameBut_mono {s t : State} {ks ks' : List Nat} (h : s.sameBut t ks) (hks : ks ⊆ ks') : s.sameBut t ks' :=
  fun k hk => h k fun hm => hk (hks hm)

section
variable {s : State} {i w : Nat} (hi : 1 ≤ i) (hi' : i ≤ 16) (hok : s.twa.okAt.length = 16) (hrun : s.twa.running = some (i, w))

include hi hi' hok hrun in
theorem twaSlotDone_completes (d : List Byte) : ∃ t, exec (.twaSlotDone i (.ok d)) s = .next t ∧
    t.getN (Obj.TWA_CFG.DATA i) =
      (if bits w 11 10 = 1 then leNat (d.take (bits w 15 12 + 1)) else s.getN (Obj.TWA_CFG.DATA i)) ∧
    t.flag Obj.TWA_CFG.SLOT_OK (i - 1) = true ∧
    t.getN Obj.TWA_CFG.TRANSFERS = min 0xFFFFFFFF (s.getN Obj.TWA_CFG.TRANSFERS + 1) ∧ t.twaAge i = 0 := by
  have hrun' : exec (.twaSlotDone i (.ok d)) s = .next (s.runOver.runOk i w d).twaNext := by
    rw [exec, execTwaSlotDone, hrun]
    simp only
    rw [if_neg (by simp)]
    rfl
  obtain ⟨hdata, hslot, hcount, hat, hroot⟩ := runOk_holds s.runOver i w hok hi hi' d
  generalize s.runOver.runOk i w d = u at *
  obtain ⟨hokAt, -, -, hkept, hsame, -⟩ := u.twaNext_leaves
  obtain ⟨hs, hc, -⟩ := twaNext_getN u
  refine ⟨_, hrun', ?_, ?_, hc.trans hcount, ?_⟩
  · rw [← show s.runOver.getN (Obj.TWA_CFG.DATA i) = s.getN (Obj.TWA_CFG.DATA i) from rfl, ← hdata]
    exact congrArg Val.toN (hsame _ (by simp [dataKey_ne]))
  · rw [State.flag, hs]
    exact hslot
  · rw [State.twaAge, hokAt, hat]
    simp [State.since, hkept, hroot]

include hrun

theorem twaSlotDone_unacknowledged : ∃ t, exec (.twaSlotDone i .nack) s = .next t ∧ t.flag Obj.TWA_CFG.FLAGS 3 = true ∧
    t.flag Obj.TWA_CFG.SLOT_OK (i - 1) = false ∧
    t.getN Obj.TWA_CFG.FAILURES = min 0xFFFFFFFF (s.getN Obj.TWA_CFG.FAILURES + 1) ∧
    s.sameBut t [Obj.TWA_CFG.FLAGS, Obj.TWA_CFG.SLOT_OK, Obj.TWA_CFG.FAILURES] := by
  have hrun' : exec (.twaSlotDone i .nack) s = .next ((s.runOver.raise Obj.TWA_CFG.FLAGS 3).twaFail i).twaNext := by
    rw [exec, execTwaSlotDone, hrun]
    simp only
    rw [if_neg (by simp)]
    rfl
  obtain ⟨hslot, hcount, hsame, hflags⟩ := twaFail_holds (s.runOver.raise Obj.TWA_CFG.FLAGS 3) i
  have h3 : ((s.runOver.raise Obj.TWA_CFG.FLAGS 3).twaFail i).flag Obj.TWA_CFG.FLAGS 3 = true := by
    rw [State.flag, hflags]
    simp
  have hraise : s.sameBut (s.runOver.raise Obj.TWA_CFG.FLAGS 3) [Obj.TWA_CFG.FLAGS, Obj.TWA_CFG.SLOT_OK, Obj.TWA_CFG.FAILURES] := by
    simp +contextual [State.sameBut, State.runOver]
  rw [show (s.runOver.raise Obj.TWA_CFG.FLAGS 3).getN Obj.TWA_CFG.FAILURES = s.getN Obj.TWA_CFG.FAILURES by
    simp (decide := true) [State.runOver]] at hcount
  generalize (s.runOver.raise Obj.TWA_CFG.FLAGS 3).twaFail i = u at *
  obtain ⟨-, -, -, -, hnext, hflag⟩ := u.twaNext_leaves
  obtain ⟨hs, -, hf⟩ := twaNext_getN u
  exact ⟨_, hrun', hflag 3 h3, (congrArg (bit · (i - 1)) hs).trans hslot, hf.trans hcount,
    (hraise.trans hsame).trans (sameBut_mono hnext (by simp))⟩

theorem twaSlotDone_timesOut : ∃ t, exec (.twaSlotDone i .timeout) s = .next t ∧ t.flag Obj.TWA_CFG.SLOT_OK (i - 1) = false ∧
    t.getN Obj.TWA_CFG.FAILURES = min 0xFFFFFFFF (s.getN Obj.TWA_CFG.FAILURES + 1) ∧
    s.sameBut t [Obj.TWA_CFG.FLAGS, Obj.TWA_CFG.SLOT_OK, Obj.TWA_CFG.FAILURES] := by
  have hrun' : exec (.twaSlotDone i .timeout) s = .next (s.runOver.twaFail i).twaNext := by
    rw [exec, execTwaSlotDone, hrun]
    simp only
    rw [if_neg (by simp)]
    rfl
  obtain ⟨hslot, hcount, hsame, -⟩ := twaFail_holds s.runOver i
  generalize s.runOver.twaFail i = u at *
  obtain ⟨-, -, -, -, hnext, -⟩ := u.twaNext_leaves
  obtain ⟨hs, -, hf⟩ := twaNext_getN u
  exact ⟨_, hrun', (congrArg (bit · (i - 1)) hs).trans hslot, hf.trans hcount,
    State.sameBut.trans (t := u) hsame (sameBut_mono hnext (by simp))⟩

theorem twaSlotDone_loses : ∃ t, exec (.twaSlotDone i .arbLost) s = .next t ∧ t.flag Obj.TWA_CFG.FLAGS 2 = true ∧
    (i, s.root) ∈ t.twa.retry ∧ s.sameBut t [Obj.TWA_CFG.FLAGS] := by
  obtain ⟨u, hu, hflag, hretry, hsame⟩ : ∃ u : State, exec (.twaSlotDone i .arbLost) s = .next u.twaNext ∧
      u.flag Obj.TWA_CFG.FLAGS 2 = true ∧ (i, s.root) ∈ u.twa.retry ∧ s.sameBut u [Obj.TWA_CFG.FLAGS] := by
    refine ⟨(s.runOver.raise Obj.TWA_CFG.FLAGS 2).updTwa (fun t => { t with retry := t.retry ++ [(i, s.root)] }), ?_, ?_, ?_, ?_⟩
    · rw [exec, execTwaSlotDone, hrun]
      simp only
      rw [if_neg (by simp)]
      rfl
    · simp
    · simp [State.updTwa]
    · simp +contextual [State.sameBut, State.runOver]
  obtain ⟨-, hkept, -, -, hnext, hstays⟩ := u.twaNext_leaves
  exact ⟨_, hu, hstays 2 hflag, hkept ▸ hretry, hsame.trans hnext⟩

end

/-! ### Low timeouts -/

theorem twaCut_holds (s : State) : s.twaCut.twa.running = none ∧ s.twaCut.getN Obj.TWA_CFG.FLAGS = s.getN Obj.TWA_CFG.FLAGS ∧
    ∀ i w, s.twa.running = some (i, w) →
      s.twaCut.getN Obj.TWA_CFG.FAILURES = min 0xFFFFFFFF (s.getN Obj.TWA_CFG.FAILURES + 1) := by
  unfold State.twaCut
  split
  · next i _ _ =>
    obtain ⟨-, hcount, -, hflags⟩ := twaFail_holds s.runOver i
    exact ⟨rfl, hflags, fun _ _ _ => hcount⟩
  · next h => exact ⟨h, rfl, fun i w hr => by simp [h] at hr⟩

/-- A low timeout of TWA raises its flag and ends the running transfer as failed. -/
theorem twaCut_raised (s : State) (j : Nat) : ((s.raise Obj.TWA_CFG.FLAGS j).twaCut).twa.running = none ∧
    ((s.raise Obj.TWA_CFG.FLAGS j).twaCut).flag Obj.TWA_CFG.FLAGS j = true ∧
    ∀ i w, s.twa.running = some (i, w) →
      ((s.raise Obj.TWA_CFG.FLAGS j).twaCut).getN Obj.TWA_CFG.FAILURES = min 0xFFFFFFFF (s.getN Obj.TWA_CFG.FAILURES + 1) := by
  obtain ⟨hidle, hflags, hcount⟩ := twaCut_holds (s.raise Obj.TWA_CFG.FLAGS j)
  refine ⟨hidle, ?_, fun i w h => (hcount i w h).trans (by simp (decide := true))⟩
  rw [State.flag, hflags]
  simp

theorem clkLow_twa {s : State} (hon : s.twaOn = true) (hto : s.getN Obj.TWA_CFG.CLK_LOW_TIMEOUT ≠ 0) :
    ∃ t, exec (.clkLowTimeout false) s = .next t ∧ t.flag Obj.TWA_CFG.FLAGS 0 = true ∧
      (∀ i w, s.twa.running = some (i, w) →
        t.getN Obj.TWA_CFG.FAILURES = min 0xFFFFFFFF (s.getN Obj.TWA_CFG.FAILURES + 1)) := by
  rw [exec, execClkLowTimeout, if_neg (by simp), if_pos ⟨hon, hto⟩, exists_next]
  obtain ⟨-, hflag, hcount⟩ := twaCut_raised s 0
  generalize (s.raise Obj.TWA_CFG.FLAGS 0).twaCut = u at *
  obtain ⟨-, -, -, -, -, hstays⟩ := u.twaNext_leaves
  exact ⟨hstays 0 hflag, fun i w h => (twaNext_getN u).2.2.trans (hcount i w h)⟩

theorem clkLow_twb {s : State} (hon : s.twbOn = true) (hto : s.getN Obj.TWB_CFG.CLK_LOW_TIMEOUT ≠ 0) :
    ∃ t, exec (.clkLowTimeout true) s = .next t ∧ t.flag Obj.TWB_CFG.FLAGS 0 = true ∧ t.twb = s.twb ∧
      s.sameBut t [Obj.TWB_CFG.FLAGS] := by
  rw [exec, execClkLowTimeout, if_pos rfl, if_pos ⟨hon, hto⟩, exists_next]
  exact ⟨by simp, rfl, by simp +contextual [State.sameBut]⟩

theorem dataLow_twa {s : State} (freed : Bool) (hon : s.twaOn = true) (hto : s.getN Obj.TWA_CFG.DATA_LOW_TIMEOUT ≠ 0) :
    ∃ t, exec (.dataLowTimeout false freed) s = .next t ∧ t.flag Obj.TWA_CFG.FLAGS 1 = true ∧
      (freed = false → t.twa.running = none) ∧ (∀ i w, s.twa.running = some (i, w) →
        t.getN Obj.TWA_CFG.FAILURES = min 0xFFFFFFFF (s.getN Obj.TWA_CFG.FAILURES + 1)) := by
  rw [exec, execDataLowTimeout, if_neg (by simp), if_pos ⟨hon, hto⟩, exists_next]
  obtain ⟨hidle, hflag, hcount⟩ := twaCut_raised s 1
  generalize (s.raise Obj.TWA_CFG.FLAGS 1).twaCut = u at *
  cases freed with
  | false => exact ⟨hflag, fun _ => hidle, hcount⟩
  | true =>
    obtain ⟨-, -, -, -, -, hstays⟩ := u.twaNext_leaves
    exact ⟨hstays 1 hflag, by simp, fun i w h => (twaNext_getN u).2.2.trans (hcount i w h)⟩

theorem dataLow_twb {s : State} (freed : Bool) (hon : s.twbOn = true) (hto : s.getN Obj.TWB_CFG.DATA_LOW_TIMEOUT ≠ 0) :
    ∃ t, exec (.dataLowTimeout true freed) s = .next t ∧ t.flag Obj.TWB_CFG.FLAGS 1 = true ∧ t.twb = s.twb ∧
      s.sameBut t [Obj.TWB_CFG.FLAGS] := by
  rw [exec, execDataLowTimeout, if_pos rfl, if_pos ⟨hon, hto⟩, exists_next]
  exact ⟨by simp, rfl, by simp +contextual [State.sameBut]⟩

/-! ### Write transactions of TWB -/

theorem leNat_leBytes_two {n : Nat} (h : n < 65536) : leNat (leBytes 2 n) = n := by
  simp only [leBytes, leNat, BitVec.toNat_ofNat]
  omega

/-- A mailbox byte written: the pointer stands at it, and it is stored. -/
def State.mailWrote (s : State) (a : Nat) (b : Byte) : State :=
  s.updTwb (fun t => { t with ptr := a, mem := SMap.set noByte t.mem a b })

/-- A write transaction of one byte, at a pointer that is its own address. -/
theorem twbWrite_byte {s : State} {bytes : List Byte} {ptr : Nat} {b : Byte} (hon : s.twbOn = true) (hlen : ¬ bytes.length < 2)
    (hptr : leNat (bytes.take 2) = ptr) (hdrop : bytes.drop 2 = [b]) :
    exec (.twbWriteTransaction bytes) s =
      (let mail := s.twbWindow == 0 && decide (ptr < 0xFFC0)
       let s := s.updTwb (fun t => { t with ptr := ptr })
       let s := if mail then s.mailStore ptr b else s
       let s := if mail && ptr == 0 then s.mailStop else s
       .next (if 0xFFC0 ≤ ptr then s.controlStore ptr b else s)) := by
  have haddr : wrapAddr ptr 0 = ptr := by
    unfold wrapAddr
    omega
  rw [exec, execTwbWriteTransaction, if_neg (by simp [hon, hlen])]
  simp only
  rw [hptr, hdrop]
  simp only [List.length_singleton, List.range_one, List.map_cons, List.map_nil, haddr, List.foldl_cons, List.foldl_nil, List.any_cons,
    List.any_nil, Bool.or_false, List.getD_cons_zero]

theorem twbWrite_stores {s : State} {ptr : Nat} {b : Byte} (hon : s.twbOn = true) (hw : s.twbWindow = 0) (hlo : 0x1000 ≤ ptr)
    (hhi : ptr < 0x5000) :
    ∃ t, exec (.twbWriteTransaction (leBytes 2 ptr ++ [b])) s = .next t ∧ t.twb.ptr = ptr ∧ SMap.get noByte t.twb.mem ptr = b ∧
      (∀ a, a ≠ ptr → SMap.get noByte t.twb.mem a = SMap.get noByte s.twb.mem a) ∧ t.dict = s.dict := by
  have hrun : exec (.twbWriteTransaction (leBytes 2 ptr ++ [b])) s = .next (s.mailWrote ptr b) := by
    have hmail : (s.twbWindow == 0 && decide (ptr < 0xFFC0)) = true := by simp [hw]; omega
    rw [twbWrite_byte hon (by simp) (ptr := ptr) (by rw [List.take_left' (State.leBytes_length 2 ptr), leNat_leBytes_two (by omega)])
      (List.drop_left' (State.leBytes_length 2 ptr))]
    simp only
    rw [hmail, if_neg (by omega : ¬ 0xFFC0 ≤ ptr), if_neg (by simp; omega), if_pos rfl, State.mailStore, if_pos (.inr ⟨hlo, hhi⟩)]
    rfl
  refine ⟨_, hrun, rfl, SMap.get_set_same .., fun a ha => SMap.get_set_other _ _ _ ha, rfl⟩

/-- A write of REQ_ID: the byte is stored, and the STOP of the transaction follows. -/
theorem twbWrite_reqId {s : State} {b : Byte} (hon : s.twbOn = true) (hw : s.twbWindow = 0) :
    exec (.twbWriteTransaction [0, 0, b]) s = .next (s.mailWrote 0 b).mailStop := by
  rw [twbWrite_byte hon (by simp) (ptr := 0) (by rfl) (by rfl)]
  simp only
  rw [hw, if_neg (by omega), if_pos (by rfl), if_pos (by rfl), State.mailStore, if_pos (.inl (by omega))]
  rfl

theorem mailField_wrote (s : State) (b : Byte) : (s.mailWrote 0 b).mailField 0 1 = b.toNat ∧
    (s.mailWrote 0 b).mailField 1 1 = (SMap.get noByte s.twb.mem 1).toNat := by
  refine ⟨?_, ?_⟩
  · simp [State.mailField, State.mailWrote, State.updTwb, leNat]
  · simp [State.mailField, State.mailWrote, State.updTwb, leNat, SMap.get_set_other]

theorem mailCopy_id (s : State) (b : Byte) : (s.mailWrote 0 b).mailCopy.id = b.toNat := (mailField_wrote s b).1

theorem twbWrite_lost {s : State} {b : Byte} (hon : s.twbOn = true) (hw : s.twbWindow = 0) (hb : b ≠ 0) (hreq : s.twb.req ≠ none) :
    ∃ t, exec (.twbWriteTransaction [0, 0, b]) s = .next t ∧ t.flag Obj.TWB_CFG.FLAGS 2 = true ∧ t.twb.req = s.twb.req ∧
      t.twb.made = s.twb.made := by
  have hid : (s.mailWrote 0 b).mailCopy.id ≠ 0 := by
    rw [mailCopy_id]
    simpa [BitVec.toNat_eq] using hb
  rw [twbWrite_reqId hon hw, exists_next, State.mailStop]
  rw [if_neg hid, if_pos (show (s.mailWrote 0 b).twb.req.isSome from Option.isSome_iff_ne_none.2 hreq)]
  exact ⟨by simp, rfl, rfl⟩

theorem twbOn_serves {s : State} (hon : s.twbOn = true) : s.serves .twb = true := by
  simp only [State.twbOn, State.serves, Bool.or_eq_true, Bool.and_eq_true] at *
  simp only [decide_true, or_true, and_true]
  exact hon.imp And.left id

/-- A mailbox request as it is put into execution. -/
def State.mailBegun (s : State) (q : MailReq) : State :=
  { s.updTwb (fun t => { t with req := some q, made := none }) with serveNow := true, origin := .mailbox }

/-- A request that need not wait has run. -/
def State.mailRan (s : State) (q : MailReq) : State := { (s.mailBegun q).mailRun q with serveNow := false, origin := .plain }

theorem mailStop_runs {u : State} (hon : u.serves .twb = true) (hid : u.mailCopy.id ≠ 0) (hreq : u.twb.req = none) (hmust : u.mustWait = false)
    (hnew : u.mailCopy.id = u.twb.rsp.id → u.twb.rsp.state = 0) : u.mailStop = u.mailRan u.mailCopy := by
  have hserves : (u.updTwb (fun t => { t with req := some u.mailCopy, made := none })).serves .twb = true := hon
  have hwait : (u.updTwb (fun t => { t with req := some u.mailCopy, made := none })).mustWait = false := hmust
  rw [State.mailStop]
  rw [if_neg hid, if_neg (by simp [hreq]), if_neg (fun h => h.2 (hnew h.1)), State.mailAdmit]
  simp only
  rw [hserves, hwait, if_neg (by simp), if_neg (by simp)]
  rfl

section
variable {s : State} {b : Byte} (hon : s.twbOn = true) (hw : s.twbWindow = 0) (hb : b ≠ 0) (hreq : s.twb.req = none)
  (hmust : s.mustWait = false) (hnew : b.toNat = s.twb.rsp.id → s.twb.rsp.state = 0)
include hon hw hb hreq hmust hnew

/-- A request that is new and need not wait runs. -/
theorem twbWrite_runs : exec (.twbWriteTransaction [0, 0, b]) s = .next ((s.mailWrote 0 b).mailRan (s.mailWrote 0 b).mailCopy) := by
  have hid := mailCopy_id s b
  rw [twbWrite_reqId hon hw, mailStop_runs (u := s.mailWrote 0 b) (twbOn_serves hon) ?_ hreq hmust ?_]
  · rw [hid]
    simpa [BitVec.toNat_eq] using hb
  · rw [hid]
    exact hnew

theorem twbWrite_unknownOp (hop : SMap.get noByte s.twb.mem 1 = 3) :
    ∃ t r, exec (.twbWriteTransaction [0, 0, b]) s = .next t ∧ t.twb.made = some r ∧ r.id = b.toNat ∧ r.state = 3 ∧
      r.abort = abortRange := by
  have hid := mailCopy_id s b
  have hop3 : (s.mailWrote 0 b).mailCopy.op = 3 := (mailField_wrote s b).2.trans (by rw [hop]; rfl)
  have hrun := twbWrite_runs hon hw hb hreq hmust hnew
  generalize (s.mailWrote 0 b).mailCopy = q at *
  have hab : ((s.mailWrote 0 b).mailBegun q).mailRun q = ((s.mailWrote 0 b).mailBegun q).mailAbort q abortRange := by
    rw [State.mailRun]
    rw [if_neg (by omega), if_neg (by omega)]
  refine ⟨_, { id := q.id, state := 3, abort := abortRange }, hrun, ?_, hid, rfl, rfl⟩
  rw [State.mailRan, hab]
  rfl

end

/-- A first segment never lies past the value. -/
theorem segRead_first (v : List Byte) (len : Nat) : segRead v 0 len = .ok (slice v 0 len) := by simp [segRead]

theorem mailSegment_made (s : State) {q : MailReq} (v : List Byte) (h0 : q.offset = 0) :
    (s.mailSegment q v).twb.made = some { id := q.id, state := 2, total := v.length, data := slice v 0 q.length } := by
  unfold State.mailSegment
  rw [h0, segRead_first]
  simp only
  split
  · exact congrArg TwbRt.made ((State.Within.readEnd ..).kept .twb (by decide +kernel))
  · rfl

theorem twbWrite_reads {s : State} {b : Byte} {q : MailReq} {v : List Byte} (hon : s.twbOn = true) (hw : s.twbWindow = 0) (hb : b ≠ 0)
    (hreq : s.twb.req = none) (hmust : s.mustWait = false) (hnew : b.toNat = s.twb.rsp.id → s.twb.rsp.state = 0)
    (hq : (s.mailWrote 0 b).mailCopy = q) (hop : q.op = 1) (hres : q.reserved = false) (hlen : 0 < q.length) (hmax : q.length ≤ 16384)
    (h0 : q.offset = 0) (hv : (((s.mailWrote 0 b).mailBegun q).readObj .twb q.index q.sub).last = some (.ok v)) :
    ∃ t, exec (.twbWriteTransaction [0, 0, b]) s = .next t ∧
      t.twb.made = some { id := q.id, state := 2, total := v.length, data := slice v 0 q.length } := by
  refine ⟨_, twbWrite_runs hon hw hb hreq hmust hnew, ?_⟩
  have hureq : ((s.mailWrote 0 b).mailBegun q).twb.req = some q := rfl
  rw [hq, State.mailRan]
  generalize (s.mailWrote 0 b).mailBegun q = u at *
  have hkept : (u.readObj .twb q.index q.sub).twb.req = some q :=
    (congrArg TwbRt.req ((State.Within.readObj ..).kept .twb (by decide +kernel))).trans hureq
  have hrun : u.mailRun q = (u.readObj .twb q.index q.sub).mailSegment q v := by
    rw [State.mailRun]
    rw [if_pos hop, if_neg (by simp [hres]; omega), if_pos h0, State.mailAccess]
    rw [State.mailAnswer, hkept]
    simp only
    rw [hv]
    simp only
    rw [if_pos hop]
  rw [hrun]
  exact mailSegment_made _ v h0

theorem twbWrite_selects_run {s : State} {b : Byte} (hon : s.twbOn = true) : exec (.twbWriteTransaction [0xC0, 0xFF, b]) s =
      .next ((s.updTwb (fun t => { t with ptr := 0xFFC0 })).controlStore 0xFFC0 b) := by
  have hptr : leNat (List.take 2 [(0xC0 : Byte), 0xFF, b]) = 0xFFC0 := by simp [leNat]
  have h := twbWrite_byte hon (by simp) hptr (by rfl)
  rw [h]
  generalize s.updTwb (fun t => { t with ptr := 0xFFC0 }) = u
  simp
theorem twbWrite_selects {s : State} {b : Byte} (hon : s.twbOn = true) (hm : s.mode ≠ .recovery) :
    ∃ t, exec (.twbWriteTransaction [0xC0, 0xFF, b]) s = .next t ∧
      (b.toNat ≤ 1 → t.getN Obj.TWB_CFG.WINDOW = b.toNat ∧ s.sameBut t [Obj.TWB_CFG.WINDOW]) ∧
      (1 < b.toNat → t.flag Obj.TWB_CFG.FLAGS 4 = true ∧ s.sameBut t [Obj.TWB_CFG.FLAGS]) := by
  rw [twbWrite_selects_run hon, exists_next, State.controlStore, if_pos rfl,
    if_neg (show ¬ (s.updTwb (fun t => { t with ptr := 0xFFC0 })).mode = .recovery from hm)]
  split
  · next h1 => exact ⟨fun _ => ⟨by simp, by simp +contextual [State.sameBut]⟩, fun h => absurd h (by omega)⟩
  · next h1 => exact ⟨fun h => absurd h h1, fun _ => ⟨by simp, by simp +contextual [State.sameBut]⟩⟩

/-! ### Reads of TWB, the response, frozen values -/

theorem twbRead_returns {s : State} (ptr : Option Nat) (len : Nat) (hon : s.twbOn = true) (hstep : s.md.stepAfter ≠ some (4, 1)) :
    ∃ t, exec (.twbReadTransaction ptr len) s = .next t ∧
      t.twb.out = (List.range len).map (fun k => s.twbByte s.statusBytes ((ptr.getD s.twb.ptr % 65536 + k) % 65536)) ∧
      t.twb.ptr = (ptr.getD s.twb.ptr % 65536 + len) % 65536 ∧ t.dict = s.dict := by
  rw [exec, execTwbReadTransaction, if_neg (by simp [hon])]
  simp only
  generalize s.statusBytes = status
  split <;> split
  · rw [State.stepNow, if_neg (by exact hstep), exists_next]
    exact ⟨by simp [State.updTwb], rfl, rfl⟩
  · rw [State.stepNow, if_neg (by exact hstep), exists_next]
    exact ⟨by simp [State.updTwb], rfl, rfl⟩
  · rw [exists_next]
    exact ⟨by simp [State.updTwb], rfl, rfl⟩
  · rw [exists_next]
    exact ⟨by simp [State.updTwb], rfl, rfl⟩

/-- A bit of ALERT_PENDING is set; of TWB only the wish to alert may change. -/
theorem alertBit_holds (s : State) (i : Nat) : (s.alertBit i).flag Obj.TWB_CFG.ALERT_PENDING i = true ∧
    (s.alertBit i).twb.rsp = s.twb.rsp ∧ (s.alertBit i).twb.req = s.twb.req ∧ (s.alertBit i).twb.made = s.twb.made ∧
    (s.alertBit i).getN Obj.TWB_CFG.REQUESTS = s.getN Obj.TWB_CFG.REQUESTS := by
  have hcount := (State.Within.alertBit s i).getN (k := Obj.TWB_CFG.REQUESTS)
  have hraised : (s.raise Obj.TWB_CFG.ALERT_PENDING i).flag Obj.TWB_CFG.ALERT_PENDING i = true := by simp
  have hrest : (s.alertBit i).flag Obj.TWB_CFG.ALERT_PENDING i = true ∧ (s.alertBit i).twb.rsp = s.twb.rsp ∧
      (s.alertBit i).twb.req = s.twb.req ∧ (s.alertBit i).twb.made = s.twb.made := by
    unfold State.alertBit
    split
    · next h => exact ⟨h, rfl, rfl, rfl⟩
    · dsimp only
      split <;> exact ⟨hraised, rfl, rfl, rfl⟩
  obtain ⟨hflag, hrsp, hreq, hmade⟩ := hrest
  exact ⟨hflag, hrsp, hreq, hmade, hcount⟩

theorem mailboxDone_holds {s : State} {r : MailRsp} (h : s.twb.made = some r) :
    ∃ t, exec .mailboxDone s = .next t ∧ t.twb.rsp = r ∧ t.twb.req = none ∧ t.twb.made = none ∧
      t.getN Obj.TWB_CFG.REQUESTS = min 0xFFFFFFFF (s.getN Obj.TWB_CFG.REQUESTS + 1) ∧
      t.flag Obj.TWB_CFG.ALERT_PENDING 0 = true := by
  rw [exec, execMailboxDone, h]
  simp only
  rw [exists_next]
  obtain ⟨u, hu, hrsp, hreq, hmade, hcount⟩ : ∃ u : State, u = (s.updTwb (fun t => { t with req := none, made := none, rsp := r })).inc
      Obj.TWB_CFG.REQUESTS ∧ u.twb.rsp = r ∧ u.twb.req = none ∧ u.twb.made = none ∧
      u.getN Obj.TWB_CFG.REQUESTS = min 0xFFFFFFFF (s.getN Obj.TWB_CFG.REQUESTS + 1) := ⟨_, rfl, rfl, rfl, rfl, by simp⟩
  rw [← hu]
  obtain ⟨hflag, hr, hq, hm, hc⟩ := alertBit_holds u 0
  exact ⟨hr.trans hrsp, hq.trans hreq, hm.trans hmade, hc.trans hcount, hflag⟩

theorem frozenExpiry_holds (s : State) : ∃ t, exec .mailboxFrozenExpiry s = .next t ∧ t.dict = s.dict ∧
    ∀ f, f ∈ t.twb.frozen ↔ f ∈ s.twb.frozen ∧ s.passed f.at_ (secTicks 10) = false := by
  rw [exec, execMailboxFrozenExpiry, exists_next]
  refine ⟨rfl, fun f => ?_⟩
  simp [State.updTwb]

/-! ### Alerts -/

theorem alertTry_acked (s : State) : (s.alertTry .acked).twb.want = false ∧ (s.alertTry .acked).twb.retryAt = none ∧
    (s.alertTry .acked).twb.alertTx = some s.alertBytes ∧
    (s.alertTry .acked).getN Obj.TWB_CFG.ALERTS_SENT = min 0xFFFFFFFF (s.getN Obj.TWB_CFG.ALERTS_SENT + 1) :=
  ⟨rfl, rfl, rfl, by simp [State.alertTry]⟩

section
variable {s : State} (hserved : s.served = true) (hon : s.twbOn = true) (hwant : s.twb.want = true)
include hserved hon hwant

theorem execTwbAlert_due (hfirst : s.twb.retryAt = none) (r : AlertResult) : exec (.twbAlert r) s = .next (s.alertTry r) := by
  rw [exec, execTwbAlert, if_pos ⟨hserved, hon, hwant, hfirst⟩]

theorem twbAlert_losesArbitration (hfirst : s.twb.retryAt = none) :
    ∃ t, exec (.twbAlert .arbLost) s = .next t ∧ t.flag Obj.TWB_CFG.FLAGS 5 = true ∧
      (s.twb.tries + 1 < s.getN Obj.TWB_CFG.ALERT_RETRIES → t.twb.want = true ∧ t.twb.retryAt = some (1, s.root)) := by
  rw [execTwbAlert_due hserved hon hwant hfirst, exists_next, State.alertTry]
  simp only [if_true]
  have hretries : ∀ u : State, (u.raise Obj.TWB_CFG.FLAGS 5).getN Obj.TWB_CFG.ALERT_RETRIES = u.getN Obj.TWB_CFG.ALERT_RETRIES :=
    fun u => by simp (decide := true)
  rw [hretries]
  split
  · next h =>
    refine ⟨?_, fun hlt => absurd h (Nat.not_le.2 hlt)⟩
    exact State.raise_bit_stays _ 3 (by simp)
  · exact ⟨by simp, fun _ => ⟨hwant, rfl⟩⟩

theorem twbAlert_unacknowledged (hfirst : s.twb.retryAt = none) :
    ∃ t, exec (.twbAlert .nack) s = .next t ∧
      (s.twb.tries + 1 < s.getN Obj.TWB_CFG.ALERT_RETRIES → t.twb.want = true ∧ t.twb.retryAt = some (10, s.root) ∧
        t.twb.tries = s.twb.tries + 1) ∧
      (s.getN Obj.TWB_CFG.ALERT_RETRIES ≤ s.twb.tries + 1 → t.twb.want = false ∧ t.flag Obj.TWB_CFG.FLAGS 3 = true) := by
  rw [execTwbAlert_due hserved hon hwant hfirst, exists_next, State.alertTry]
  simp only [reduceCtorEq, if_false]
  split
  · next h => exact ⟨fun hlt => absurd h (Nat.not_le.2 hlt), fun _ => ⟨rfl, by simp⟩⟩
  · next h => exact ⟨fun _ => ⟨hwant, rfl, rfl⟩, fun hle => absurd hle h⟩

theorem alertRetry_acked {ms at_ : Nat} (hat : s.twb.retryAt = some (ms, at_)) (hpass : s.passed at_ (msTicks ms) = true) :
    ∃ t, exec (.alertRetry .acked) s = .next t ∧ t.twb.want = false ∧ t.twb.retryAt = none ∧ t.twb.alertTx = some s.alertBytes ∧
      t.getN Obj.TWB_CFG.ALERTS_SENT = min 0xFFFFFFFF (s.getN Obj.TWB_CFG.ALERTS_SENT + 1) := by
  rw [exec, execAlertRetry, hat]
  simp only
  rw [if_pos ⟨hserved, hon, hwant, hpass⟩, exists_next]
  exact alertTry_acked s

end

/-- Settles O58: each clause is the rule above of the command it speaks of. -/
theorem twoWirePortsComplete : Obligations.TwoWirePortsComplete := by
  unfold Obligations.TwoWirePortsComplete
  exact ⟨fun _ _ hi hi' => twaSlotDue_starts hi hi', fun _ _ _ hi hi' hd _ => twaSlotDue_waits hi hi' hd,
    fun _ _ _ _ h hon hlen hrun => twaTrigger_waits h hon hlen hrun, fun _ _ _ hi hi' => twaTrigger_starts hi hi',
    fun _ _ _ hi hi' hok hrun => ⟨twaSlotDone_completes hi hi' hok hrun, twaSlotDone_unacknowledged hrun, twaSlotDone_timesOut hrun,
      twaSlotDone_loses hrun⟩,
    fun _ _ _ hi hi' => twaArbRetry_starts hi hi', fun _ => clkLow_twa, fun _ => clkLow_twb, fun _ => dataLow_twa, fun _ => dataLow_twb,
    fun _ _ _ => twbWrite_stores, fun _ _ => twbWrite_lost, fun _ _ => twbWrite_unknownOp,
    fun _ _ _ _ hon hw hb hreq hmust hnew hq hop hres hlen hmax h0 hv => twbWrite_reads hon hw hb hreq hmust hnew hq hop hres hlen hmax h0 hv,
    fun _ _ => twbWrite_selects, fun _ => twbRead_returns, fun _ _ => mailboxDone_holds, frozenExpiry_holds,
    fun s hserved hon hwant hfirst => ⟨⟨_, execTwbAlert_due hserved hon hwant hfirst .acked, (alertTry_acked s).1, (alertTry_acked s).2.2⟩,
      twbAlert_losesArbitration hserved hon hwant hfirst, twbAlert_unacknowledged hserved hon hwant hfirst⟩,
    fun _ _ _ hserved hon hwant => alertRetry_acked hserved hon hwant⟩

end Sys2Proof.Machine
end

section
/-! Which parts of the state the operations of the CAN ports leave (part of the frame layer). -/
namespace Sys2Proof.Machine
set_option Elab.async false

theorem State.Within.fifoSync (s : State) (p) : s.Within [.can 13] (s.fifoSync p) := by
  unfold State.fifoSync
  exact (refl s).setN .can

def Eff.enqueue : List Eff := [.can 13] ++ [.cans, .can 17, .can 14]
theorem State.Within.enqueue (s : State) (p e) : s.Within Eff.enqueue (s.enqueue p e) := by
  refine .ite (refl s) (.ite (((refl s).updCan).op (fifoSync ..)) ?_)
  split
  · exact (refl s).updCan
  · exact (refl s).updCan
  · exact ((refl s).inc .can).raise .can
  · exact ((refl s).inc .can).raise .can

end Sys2Proof.Machine
end

section
/-! O57: the CAN ports. An emergency message writes the error field and may enter the FIFOs, and leaves the error states of the ports; the
FIFO keeps its order when its head has left, and its begun head when the rest is cancelled (chapter 15: R392 to R403). -/
namespace Sys2Proof.Machine
set_option Elab.async false

/-! ### Emergency messages -/

namespace State
variable (s : State)

/-- The error field with the newest code first, as an emergency message leaves it. -/
def emcyLogged (code : Nat) : State :=
  let n := s.getN (keyOf 0x1003 0)
  let s := { s with free := s.free + 1 }
  let s := (List.range 15).foldl (fun s i => s.setN (keyOf 0x1003 (16 - i)) (s.getN (keyOf 0x1003 (15 - i)))) s
  (s.setN (keyOf 0x1003 1) code).setN (keyOf 0x1003 0) (min 16 (n + 1))

/-- An emergency message on a port, unless its COB-ID is not valid. -/
def emcySend (frame : List Byte) (s : State) (p : Nat) : State :=
  let cob := s.cobId p (keyOf 0x1014 0) 0x80 true
  if bit cob 31 then s else s.enqueue p { id := cob % 0x800, data := frame, kind := .emcy }

theorem emcy_eq (code : Nat) : ∃ frame, s.emcy code = (List.range 2).foldl (emcySend frame) (s.emcyLogged code) := ⟨_, rfl⟩

theorem emcyLogged_holds (code : Nat) : (s.emcyLogged code).getN (keyOf 0x1003 1) = code ∧
    ∀ k, 0x270000 ≤ k → (s.emcyLogged code).getN k = s.getN k := by
  have hfold : ∀ (l : List Nat) (u : State) (k : Nat), 0x270000 ≤ k →
      (l.foldl (fun s i => s.setN (keyOf 0x1003 (16 - i)) (s.getN (keyOf 0x1003 (15 - i)))) u).getN k = u.getN k := by
    intro l
    induction l with
    | nil => exact fun _ _ _ => rfl
    | cons i l ih =>
      intro u k hk
      rw [List.foldl_cons, ih _ k hk, setN_eq_put, getN_put, if_neg (by unfold keyOf; omega)]
  unfold emcyLogged
  refine ⟨by simp (decide := true), fun k hk => ?_⟩
  simp only
  rw [setN_eq_put, getN_put, if_neg (by unfold keyOf; omega), setN_eq_put, getN_put, if_neg (by unfold keyOf; omega), hfold _ _ k hk]
  rfl

/-- A produced frame clears no flag of a port. -/
theorem enqueue_flag {q i : Nat} (p : Nat) (e : TxEntry) (h : s.flag (Can.FLAGS q) i = true) :
    (s.enqueue p e).flag (Can.FLAGS q) i = true := by
  have hupd : ∀ f : CanRt → CanRt, ((s.updCan p f).fifoSync p).getN (Can.FLAGS q) = s.getN (Can.FLAGS q) := fun f => by
    simp only [fifoSync, setN_eq_put, getN_put, getN_updCan]
    rw [if_neg]
    simp only [Can.FLAGS, Can.FIFO_LEVEL, canKey, keyOf]
    omega
  have hdrop : bit (((s.inc (Can.TX_DROPPED p)).raise (Can.FLAGS p) 2).getN (Can.FLAGS q)) i = true := by
    have hinc : (s.inc (Can.TX_DROPPED p)).getN (Can.FLAGS q) = s.getN (Can.FLAGS q) := by
      rw [inc_eq_put, getN_put, if_neg]
      simp only [Can.FLAGS, Can.TX_DROPPED, canKey, keyOf]
      omega
    have hq : bit ((s.inc (Can.TX_DROPPED p)).getN (Can.FLAGS q)) i = true := by rw [hinc]; exact h
    by_cases hpq : Can.FLAGS q = Can.FLAGS p
    · rw [hpq] at hq ⊢
      exact raise_bit_stays _ 2 hq
    · rw [raise_eq_put, getN_put, if_neg hpq]
      exact hq
  unfold enqueue
  split
  · exact h
  · dsimp only
    split
    · exact (congrArg (bit · i) (hupd _)).trans h
    · split
      · exact h
      · exact h
      · exact hdrop
      · exact hdrop

/-- An emergency message: its code stands first in the error field; the error states of the ports are kept, and no flag is cleared. -/
theorem emcy_holds (code : Nat) : (s.emcy code).getN (keyOf 0x1003 1) = code ∧ ∀ p < 2,
    (s.emcy code).getN (Can.STATE p) = s.getN (Can.STATE p) ∧ (s.emcy code).getN (Can.TEC p) = s.getN (Can.TEC p) ∧
    (s.emcy code).getN (Can.REC p) = s.getN (Can.REC p) ∧
    ∀ i, s.flag (Can.FLAGS p) i = true → (s.emcy code).flag (Can.FLAGS p) i = true := by
  obtain ⟨frame, hf⟩ := s.emcy_eq code
  obtain ⟨hcode, hkeep⟩ := s.emcyLogged_holds code
  rw [hf]
  have hw : (s.emcyLogged code).Within Eff.enqueue ((List.range 2).foldl (emcySend frame) (s.emcyLogged code)) :=
    (Within.refl _).foldl fun u p hu => by
      unfold emcySend
      exact hu.ite (hu.op (Within.enqueue ..))
  have hflag : ∀ (l : List Nat) (u : State) (p i : Nat), u.flag (Can.FLAGS p) i = true →
      (l.foldl (emcySend frame) u).flag (Can.FLAGS p) i = true := by
    intro l
    induction l with
    | nil => exact fun _ _ _ h => h
    | cons q l ih =>
      intro u p i h
      refine ih _ p i ?_
      unfold emcySend
      dsimp only
      split
      · exact h
      · exact u.enqueue_flag q _ h
  have hcan : ∀ p sub, 0x270000 ≤ canKey p sub := fun p sub => by unfold canKey keyOf; omega
  refine ⟨hw.getN.trans hcode, fun p hp => ⟨(hw.getP hp).trans (hkeep _ (hcan ..)), (hw.getP hp).trans (hkeep _ (hcan ..)),
    (hw.getP hp).trans (hkeep _ (hcan ..)), fun i hi => hflag _ _ p i ?_⟩⟩
  exact (congrArg (bit · i) (hkeep _ (hcan ..))).trans hi

end State

theorem canOn_congr {s u : State} {p : Nat} (hmd : u.md = s.md) (hen : u.getN (Can.ENABLE p) = s.getN (Can.ENABLE p)) :
    u.canOn p = s.canOn p := by
  have hserved : u.served = s.served := by
    unfold State.served State.mode
    rw [hmd]
  have hdown : u.powerDown = s.powerDown := by
    unfold State.powerDown
    rw [hmd]
  rw [State.canOn, State.canOn, hserved, hdown, hen, show u.mode = s.mode from congrArg ModeRt.mode hmd]

/-! ### Received frames -/

section
variable {s : State} {p : Nat} {f : CanFrame} (hon : s.canOn p = true) (hst : s.getN (Can.STATE p) = 1 ∨ s.getN (Can.STATE p) = 2)
include hon hst

theorem canFrameRx_ignoresFd (hfd : f.fd = true) (h0 : s.getN (Can.FD_ENABLE p) = 0) : exec (.canFrameRx p f) s = .next s := by
  rw [exec, execCanFrameRx]
  simp only
  rw [if_neg (by simp [hon]; omega), if_pos ⟨hfd, .inl h0⟩]

/-- A frame of a format that the port takes is lost, or counted and dispatched. -/
theorem execCanFrameRx_taken (hfd : f.fd = false ∨ (s.getN (Can.FD_ENABLE p) ≠ 0 ∧ s.mode ≠ .recovery)) : execCanFrameRx p f s =
    if f.overrun then .next ((s.raise (Can.FLAGS p) 3).emcy 0x8110)
    else if f.rtr then .next (s.inc (Can.RX_FRAMES p)) else .next ((s.inc (Can.RX_FRAMES p)).frameIn p f) := by
  rw [execCanFrameRx]
  simp only
  rw [if_neg (by simp [hon]; omega), if_neg]
  rintro ⟨h1, h2⟩
  rcases hfd with h | ⟨h, h'⟩
  · simp [h] at h1
  · exact h2.elim h h'

theorem canFrameRx_overruns (hfd : f.fd = false ∨ (s.getN (Can.FD_ENABLE p) ≠ 0 ∧ s.mode ≠ .recovery)) (ho : f.overrun = true) :
    ∃ t, exec (.canFrameRx p f) s = .next t ∧ t.flag (Can.FLAGS p) 3 = true ∧ t.getN (keyOf 0x1003 1) = 0x8110 := by
  rw [exec, execCanFrameRx_taken hon hst hfd, if_pos ho, exists_next]
  obtain ⟨hcode, hports⟩ := (s.raise (Can.FLAGS p) 3).emcy_holds 0x8110
  obtain ⟨-, -, -, hflag⟩ := hports p (State.lt_of_canOn hon)
  exact ⟨hflag 3 (by simp), hcode⟩

theorem canFrameRx_remote (hfd : f.fd = false ∨ (s.getN (Can.FD_ENABLE p) ≠ 0 ∧ s.mode ≠ .recovery)) (ho : f.overrun = false)
    (hr : f.rtr = true) : ∃ t, exec (.canFrameRx p f) s = .next t ∧ t.cans = s.cans ∧
      t.getN (Can.RX_FRAMES p) = min 0xFFFFFFFF (s.getN (Can.RX_FRAMES p) + 1) ∧ s.sameBut t [Can.RX_FRAMES p] := by
  rw [exec, execCanFrameRx_taken hon hst hfd, if_neg (by simp [ho]), if_pos hr, exists_next]
  exact ⟨rfl, by simp, by simp +contextual [State.sameBut]⟩

theorem canFrameRx_starts {node : Nat} (hfd : f.fd = false) (ho : f.overrun = false) (hr : f.rtr = false) (hide : f.ide = false)
    (hid : f.id = 0) (hd : f.data = [1, BitVec.ofNat 8 node]) (hnode : node = 0 ∨ node = (s.can p).node) (hlt : node < 128)
    (hlen : s.cans.length = 2) :
    ∃ t, exec (.canFrameRx p f) s = .next t ∧ (t.can p).nmt = 5 ∧ (t.can p).fifo = (s.can p).fifo ∧ s.sameBut t [Can.RX_FRAMES p] := by
  have hp : p < s.cans.length := hlen ▸ State.lt_of_canOn hon
  obtain ⟨u, hu, hcan, hcans, huon, hsame⟩ : ∃ u, u = s.inc (Can.RX_FRAMES p) ∧ u.can p = s.can p ∧ u.cans = s.cans ∧
      u.canOn p = true ∧ s.sameBut u [Can.RX_FRAMES p] := by
    refine ⟨_, rfl, rfl, rfl, ?_, by simp +contextual [State.sameBut]⟩
    exact (canOn_congr (s := s) (u := s.inc (Can.RX_FRAMES p)) rfl (by simp [Can.ENABLE, Can.RX_FRAMES])).trans hon
  have hnmt : u.frameIn p f = u.nmtTo p 5 := by
    have hn : fieldN f.data 1 1 = node := by
      rw [hd]
      simp [fieldN, slice, leNat]
      omega
    have hc : fieldN f.data 0 1 = 1 := by
      rw [hd]
      simp [fieldN, slice, leNat]
    rw [State.frameIn]
    rw [if_pos (by simp [hide, hid]), if_pos (by simp [hd]), State.nmtIn]
    rw [hn, hc]
    simp only [execNmtStart, outState]
    rw [if_pos (by simp [State.nmtFor, huon, hcan]; exact hnode)]
  rw [exec, execCanFrameRx_taken hon hst (.inl hfd), if_neg (by simp [ho]), if_neg (by simp [hr]), ← hu, exists_next, hnmt]
  have hset := State.can_updCan_same (s := u) (p := p) (hcans ▸ hp)
  refine ⟨?_, ?_, hsame⟩
  · rw [State.nmtTo, hset]
  · rw [State.nmtTo, hset, hcan]

end

/-! ### The transmit FIFO -/

section
variable {s : State} {p : Nat} (hp : p < 2) (hlen : s.cans.length = 2)
include hp hlen

/-- Frames that wait fill the FIFO up. -/
theorem fifoRefill_holds : ((s.fifoRefill p).can p).fifo = (s.can p).fifo ++ (s.can p).waitq.take (32 - (s.can p).fifo.length) ∧
    (s.fifoRefill p).getN (Can.FIFO_LEVEL p) = ((s.fifoRefill p).can p).fifo.length ∧
    ∀ k, k ≠ Can.FIFO_LEVEL p → (s.fifoRefill p).getN k = s.getN k := by
  have hset := State.can_updCan_same (s := s) (p := p) (by omega)
  refine ⟨?_, ?_, fun k hk => ?_⟩
  · rw [State.fifoRefill, State.can_fifoSync, hset]
  · rw [State.fifoRefill, State.can_fifoSync, State.fifoSync, State.setN_eq_put, State.getN_put, if_pos rfl, Val.toN_n]
  · rw [State.fifoRefill, State.fifoSync, State.setN_eq_put, State.getN_put, if_neg hk, State.getN_updCan]

/-- The head has left: the rest and what waits follow. -/
theorem txDone_sent {e : TxEntry} {rest : List TxEntry} (hst : s.getN (Can.STATE p) = 1 ∨ s.getN (Can.STATE p) = 2)
    (hf : (s.can p).fifo = e :: rest) (air : Nat) :
    ((s.txDone p true air).can p).fifo = rest ++ (s.can p).waitq.take (32 - rest.length) ∧
    (s.txDone p true air).getN (Can.FIFO_LEVEL p) = ((s.txDone p true air).can p).fifo.length ∧
    (s.txDone p true air).getN (Can.TX_FRAMES p) = min 0xFFFFFFFF (s.getN (Can.TX_FRAMES p) + 1) ∧
    (s.getN (Can.HEAD_WAIT_MAX p) ≤ 0xFFFFFFFF → (s.txDone p true air).getN (Can.HEAD_WAIT_MAX p) =
      max (s.getN (Can.HEAD_WAIT_MAX p)) (min ((s.since (s.can p).headAt - air) * 2 / 625) 0xFFFFFFFF)) ∧
    (s.txDone p true air).md = s.md := by
  obtain ⟨u, hu, hcans, hframes, hwait, hmd⟩ : ∃ u : State, s.txDone p true air =
        (u.updCan p (fun c => { c with fifo := rest, headAt := u.root })).fifoRefill p ∧
      u.cans = s.cans ∧ u.getN (Can.TX_FRAMES p) = min 0xFFFFFFFF (s.getN (Can.TX_FRAMES p) + 1) ∧
      (s.getN (Can.HEAD_WAIT_MAX p) ≤ 0xFFFFFFFF → u.getN (Can.HEAD_WAIT_MAX p) =
        max (s.getN (Can.HEAD_WAIT_MAX p)) (min ((s.since (s.can p).headAt - air) * 2 / 625) 0xFFFFFFFF)) ∧ u.md = s.md := by
    unfold State.txDone
    simp only [hf]
    rw [if_neg (by omega)]
    simp only [if_true]
    generalize (s.since (s.can p).headAt - air) * 2 / 625 = us
    have hhead : (s.inc (Can.TX_FRAMES p)).getN (Can.HEAD_WAIT_MAX p) = s.getN (Can.HEAD_WAIT_MAX p) := by
      simp [Can.HEAD_WAIT_MAX, Can.TX_FRAMES]
    rw [hhead]
    refine ⟨_, rfl, ?_, ?_, fun hmax => ?_, ?_⟩
    · split <;> rfl
    · split <;> simp [Can.HEAD_WAIT_MAX, Can.TX_FRAMES]
    · split
      · rw [State.setN_eq_put, State.getN_put, if_pos rfl, Val.toN_n]
        omega
      · rw [hhead]
        omega
    · split <;> rfl
  have hset := State.can_updCan_same (s := u) (p := p) (by rw [hcans]; omega)
  obtain ⟨hfifo, hlevel, hkeep⟩ := fifoRefill_holds (s := u.updCan p (fun c => { c with fifo := rest, headAt := u.root })) hp
    ((modAt_length ..).trans (hcans ▸ hlen))
  rw [hset, show u.can p = s.can p by rw [State.can, State.can, hcans]] at hfifo
  rw [hu]
  refine ⟨hfifo, hlevel, ?_, fun hmax => ?_, hmd⟩
  · rw [hkeep _ (by simp [Can.FIFO_LEVEL, Can.TX_FRAMES]), State.getN_updCan, hframes]
  · rw [hkeep _ (by simp [Can.FIFO_LEVEL, Can.HEAD_WAIT_MAX]), State.getN_updCan, hwait hmax]

omit hp hlen in
/-- The answer to an SDO response that has left is nothing where none waits for it, or where a response is still held. -/
theorem canFrameTxDone_run {ok : Bool} {air : Nat} (h : (s.can p).fifo.any (fun e => decide (e.kind = .sdo)) = true →
      ((s.txDone p ok air).can p).fifo.any (fun e => decide (e.kind = .sdo)) = false → (s.txDone p ok air).md.stepAfter ≠ some (3, p)) :
    exec (.canFrameTxDone p ok air) s = .next (s.txDone p ok air) := by
  rw [exec, execCanFrameTxDone]
  split
  · next hc =>
    simp only [Bool.and_eq_true, Bool.not_eq_true', Bool.or_eq_false_iff] at hc
    rw [State.stepNow, if_neg (h hc.1 hc.2.1)]
  · rfl

section
variable {e : TxEntry} {rest : List TxEntry} (hst : s.getN (Can.STATE p) = 1 ∨ s.getN (Can.STATE p) = 2)
  (hf : (s.can p).fifo = e :: rest) (hstep : e.kind ≠ .sdo ∨ s.md.stepAfter ≠ some (3, p))
include hst hf

include hstep in
theorem canFrameTxDone_sent (air : Nat) : ∃ t, exec (.canFrameTxDone p true air) s = .next t ∧
    (t.can p).fifo = rest ++ (s.can p).waitq.take (32 - rest.length) ∧ t.getN (Can.FIFO_LEVEL p) = (t.can p).fifo.length ∧
    t.getN (Can.TX_FRAMES p) = min 0xFFFFFFFF (s.getN (Can.TX_FRAMES p) + 1) ∧
    (s.getN (Can.HEAD_WAIT_MAX p) ≤ 0xFFFFFFFF → t.getN (Can.HEAD_WAIT_MAX p) =
      max (s.getN (Can.HEAD_WAIT_MAX p)) (min ((s.since (s.can p).headAt - air) * 2 / 625) 0xFFFFFFFF)) := by
  obtain ⟨hfifo, hlevel, hframes, hwait, hmd⟩ := txDone_sent hp hlen hst hf air
  refine ⟨_, canFrameTxDone_run fun hany hnone => ?_, hfifo, hlevel, hframes, hwait⟩
  rw [hfifo, List.any_append, Bool.or_eq_false_iff] at hnone
  rw [hf, List.any_cons, hnone.1, Bool.or_false, decide_eq_true_eq] at hany
  rw [hmd]
  exact hstep.resolve_left (not_not.2 hany)

theorem canFrameTxDone_failed (air : Nat) : ∃ t, exec (.canFrameTxDone p false air) s = .next t ∧
    (t.can p).fifo = { e with begun := true } :: rest ∧ t.dict = s.dict := by
  have hdone : s.txDone p false air = s.updCan p (fun c => { c with fifo := { e with begun := true } :: rest }) := by
    unfold State.txDone
    simp only [hf]
    rw [if_neg (by omega)]
    rfl
  have hset := State.can_updCan_same (s := s) (p := p) (by omega) (fun c => { c with fifo := { e with begun := true } :: rest })
  refine ⟨_, canFrameTxDone_run fun hany hnone => ?_, ?_, ?_⟩
  · rw [hdone, hset] at hnone
    rw [hf] at hany
    simp only [List.any_cons] at hany hnone
    rw [hany] at hnone
    exact absurd hnone (by simp)
  · rw [hdone, hset]
  · rw [hdone]
    rfl

end

/-! ### FLUSH and the drain -/

/-- The entries not begun are cancelled and counted, and what waits follows. -/
theorem cancel_holds {l : List TxEntry} (hf : (s.can p).fifo = l) :
    ((s.cancel p (fun _ => true)).can p).fifo =
      l.filter (fun x => x.begun) ++ (s.can p).waitq.take (32 - (l.filter (fun x => x.begun)).length) ∧
    (s.cancel p (fun _ => true)).getN (Can.FIFO_LEVEL p) = ((s.cancel p (fun _ => true)).can p).fifo.length ∧
    (s.cancel p (fun _ => true)).getN (Can.CANCELLED p) =
      min 0xFFFFFFFF (s.getN (Can.CANCELLED p) + (l.filter (fun x => !x.begun)).length) ∧
    (s.cancel p (fun _ => true)).getN (Can.FLAGS p) = s.getN (Can.FLAGS p) := by
  subst hf
  have hset := State.can_updCan_same (s := s) (p := p) (by omega)
  unfold State.cancel
  simp only [Bool.and_true, Bool.not_true, Bool.or_false]
  generalize hu : State.addTo _ _ _ = u
  obtain ⟨hucan, huwait, hulen, hcount, hflags⟩ : (u.can p).fifo = (s.can p).fifo.filter (fun x => x.begun) ∧
      (u.can p).waitq = (s.can p).waitq ∧ u.cans.length = 2 ∧
      u.getN (Can.CANCELLED p) = min 0xFFFFFFFF (s.getN (Can.CANCELLED p) + ((s.can p).fifo.filter (fun x => !x.begun)).length) ∧
      u.getN (Can.FLAGS p) = s.getN (Can.FLAGS p) := by
    rw [← hu]
    refine ⟨?_, ?_, (modAt_length ..).trans hlen, by simp, by simp [Can.FLAGS, Can.CANCELLED]⟩
    · change ((s.updCan p _).can p).fifo = _
      rw [hset]
    · change ((s.updCan p _).can p).waitq = _
      rw [hset]
  obtain ⟨hfifo, hlevel, hkeep⟩ := fifoRefill_holds hp hulen
  rw [hucan, huwait] at hfifo
  exact ⟨hfifo, hlevel, (hkeep _ (by simp [Can.FIFO_LEVEL, Can.CANCELLED])).trans hcount,
    (hkeep _ (by simp [Can.FIFO_LEVEL, Can.FLAGS])).trans hflags⟩

end

section
variable {s : State} {q : Path} {p : Nat} {begun late : Bool} (hp : p < 2) (hlen : s.cans.length = 2)
  (h : s.takesWrite q (0x2700 + p) 9 [1] (.n 1))
include hp hlen h

omit hp hlen in
theorem canFlush_run : exec (.canFlush q p begun late) s = .next ((canFlushEff p begun late s).reply (.ok [])) := by
  rw [exec, execCanFlush, State.write_ok h rfl]

omit hp hlen in
theorem canFlush_empty (hf : (s.can p).fifo = []) :
    ∃ t, exec (.canFlush q p begun late) s = .next t ∧ t.last = some (.ok []) ∧ t.cans = s.cans ∧ t.dict = s.dict := by
  have he : canFlushEff p begun late s = s := by
    rw [canFlushEff, hf]
  rw [canFlush_run h, he, exists_next]
  exact ⟨rfl, rfl, rfl⟩

theorem canFlush_cancels {e : TxEntry} {rest : List TxEntry} (hf : (s.can p).fifo = e :: rest) :
    let l := (if begun || late then { e with begun := true } else e) :: rest
    ∃ t, exec (.canFlush q p begun late) s = .next t ∧ t.last = some (.ok []) ∧
      (t.can p).fifo = l.filter (fun x => x.begun) ++ (s.can p).waitq.take (32 - (l.filter (fun x => x.begun)).length) ∧
      t.getN (Can.FIFO_LEVEL p) = (t.can p).fifo.length ∧ (late = true → e.begun = false → t.flag (Can.FLAGS p) 7 = true) ∧
      t.getN (Can.CANCELLED p) = min 0xFFFFFFFF (s.getN (Can.CANCELLED p) + (l.filter (fun x => !x.begun)).length) := by
  intro l
  have hset := State.can_updCan_same (s := s) (p := p) (by omega)
  obtain ⟨u, hu, hufifo, huwait, hulen, hflag, hcount⟩ : ∃ u : State, canFlushEff p begun late s = u.cancel p (fun _ => true) ∧
      (u.can p).fifo = l ∧ (u.can p).waitq = (s.can p).waitq ∧ u.cans.length = 2 ∧
      (late = true → e.begun = false → u.flag (Can.FLAGS p) 7 = true) ∧ u.getN (Can.CANCELLED p) = s.getN (Can.CANCELLED p) := by
    rw [canFlushEff, hf]
    simp only
    obtain ⟨v, hv, hvfifo, hvwait, hvlen, hvcount⟩ : ∃ v, v = (if (begun || late) && !e.begun then
        s.updCan p (fun c => { c with fifo := { e with begun := true } :: rest }) else s) ∧ (v.can p).fifo = l ∧
        (v.can p).waitq = (s.can p).waitq ∧ v.cans.length = 2 ∧ v.getN (Can.CANCELLED p) = s.getN (Can.CANCELLED p) := by
      refine ⟨_, rfl, ?_⟩
      split
      · next hc =>
        simp only [Bool.and_eq_true] at hc
        rw [hset]
        exact ⟨by simp only [l]; rw [if_pos hc.1], rfl, (modAt_length ..).trans hlen, rfl⟩
      · next hc =>
        refine ⟨hf.trans ?_, rfl, hlen, rfl⟩
        simp only [l]
        split
        · next hb =>
          have : e.begun = true := by simpa [hb] using hc
          rw [← this]
        · rfl
    rw [← hv]
    refine ⟨_, rfl, ?_⟩
    split
    · exact ⟨hvfifo, hvwait, hvlen, fun _ _ => by simp, by simpa [Can.FLAGS, Can.CANCELLED] using hvcount⟩
    · next hc => exact ⟨hvfifo, hvwait, hvlen, fun h1 h2 => absurd hc (by simp [h1, h2]), hvcount⟩
  obtain ⟨hfifo, hlevel, hcancel, hflags⟩ := cancel_holds hp hulen hufifo
  rw [huwait] at hfifo
  rw [hcount] at hcancel
  rw [canFlush_run h, hu, exists_next]
  refine ⟨rfl, hfifo, hlevel, fun h1 h2 => ?_, hcancel⟩
  exact (congrArg (bit · 7) hflags).trans (hflag h1 h2)

end

/-- A port's FIFO and what waits are discarded and counted; the other port is left. -/
theorem fifoDrain_holds {s : State} {p : Nat} (hp : p < 2) (hlen : s.cans.length = 2) :
    ((s.fifoDrain p).can p).fifo = [] ∧ ((s.fifoDrain p).can p).waitq = [] ∧ (s.fifoDrain p).getN (Can.FIFO_LEVEL p) = 0 ∧
    (s.fifoDrain p).getN (Can.CANCELLED p) = min 0xFFFFFFFF (s.getN (Can.CANCELLED p) + (s.can p).fifo.length) ∧
    (s.fifoDrain p).cans.length = 2 ∧ ∀ q < 2, q ≠ p → (s.fifoDrain p).can q = s.can q ∧
      (s.fifoDrain p).getN (Can.FIFO_LEVEL q) = s.getN (Can.FIFO_LEVEL q) ∧
      (s.fifoDrain p).getN (Can.CANCELLED q) = s.getN (Can.CANCELLED q) := by
  have hset : ∀ f, ((s.addTo (Can.CANCELLED p) (s.can p).fifo.length).updCan p f).can p = f (s.can p) := fun f =>
    State.can_updCan_same (s := s.addTo (Can.CANCELLED p) (s.can p).fifo.length) (p := p) (show p < s.cans.length by omega) f
  unfold State.fifoDrain
  simp only [State.can_fifoSync]
  refine ⟨by rw [hset], by rw [hset], ?_, ?_, (modAt_length ..).trans hlen, fun q hq hne => ⟨State.can_updCan_other _ hne _, ?_, ?_⟩⟩
  · rw [State.fifoSync, State.setN_eq_put, State.getN_put, if_pos rfl, hset]
    rfl
  · simp [State.fifoSync, Can.FIFO_LEVEL, Can.CANCELLED]
  · have h1 : Can.FIFO_LEVEL q ≠ Can.FIFO_LEVEL p := by simp only [Can.FIFO_LEVEL, canKey, keyOf]; omega
    have h2 : Can.FIFO_LEVEL q ≠ Can.CANCELLED p := by simp only [Can.FIFO_LEVEL, Can.CANCELLED, canKey, keyOf]; omega
    simp [State.fifoSync, h1, h2]
  · have h1 : Can.CANCELLED q ≠ Can.FIFO_LEVEL p := by simp only [Can.FIFO_LEVEL, Can.CANCELLED, canKey, keyOf]; omega
    have h2 : Can.CANCELLED q ≠ Can.CANCELLED p := by simp only [Can.CANCELLED, canKey, keyOf]; omega
    simp [State.fifoSync, h1, h2]

theorem fifoDrainDeadline_holds {s : State} {st at_ : Nat} (hlen : s.cans.length = 2)
    (ht : s.md.transit = .toVault st at_ ∨ s.md.transit = .toWatch st at_) (hpass : s.passed at_ (msTicks 100) = true) :
    ∃ t, exec .fifoDrainDeadline s = .next t ∧ ∀ p < 2, (t.can p).fifo = [] ∧ (t.can p).waitq = [] ∧
      t.getN (Can.FIFO_LEVEL p) = 0 ∧
      t.getN (Can.CANCELLED p) = min 0xFFFFFFFF (s.getN (Can.CANCELLED p) + (s.can p).fifo.length) := by
  have hrun : exec .fifoDrainDeadline s = .next ((s.fifoDrain 0).fifoDrain 1) := by
    rw [exec, execFifoDrainDeadline]
    rcases ht with h | h <;> (rw [h]; simp only; rw [if_pos hpass])
  obtain ⟨hf0, hw0, hl0, hc0, hlen0, hother0⟩ := fifoDrain_holds (p := 0) (by omega) hlen
  obtain ⟨hf1, hw1, hl1, hc1, -, hother1⟩ := fifoDrain_holds (p := 1) (by omega) hlen0
  obtain ⟨hcan1, hlev1, hcnt1⟩ := hother1 0 (by omega) (by omega)
  obtain ⟨hcan0, -, hcnt0⟩ := hother0 1 (by omega) (by omega)
  refine ⟨_, hrun, fun p hp => ?_⟩
  obtain rfl | rfl : p = 0 ∨ p = 1 := by omega
  · rw [hcan1, hlev1, hcnt1]
    exact ⟨hf0, hw0, hl0, hc0⟩
  · rw [hcan0, hcnt0] at hc1
    exact ⟨hf1, hw1, hl1, hc1⟩

/-! ### Error states -/

section
variable {s : State} {p : Nat} (hon : s.canOn p = true) (hst : s.getN (Can.STATE p) = 1 ∨ s.getN (Can.STATE p) = 2)
include hon hst

theorem canErrorPassive_enters {tec rec_ : Nat} (h : 128 ≤ tec ∨ 128 ≤ rec_) :
    ∃ t, exec (.canErrorPassive p tec rec_) s = .next t ∧ t.getN (Can.STATE p) = 2 ∧
      t.getN (Can.TEC p) = min tec 255 ∧ t.getN (Can.REC p) = min rec_ 255 ∧
      (s.getN (Can.STATE p) = 1 → t.flag (Can.FLAGS p) 0 = true ∧ t.getN (keyOf 0x1003 1) = 0x8120) := by
  rw [exec, execCanErrorPassive]
  simp only
  rw [if_neg (by simp [hon]; omega), if_pos h]
  split
  · next h2 =>
    rw [exists_next]
    exact ⟨by simpa [Can.STATE, Can.TEC, Can.REC] using h2, by simp [Can.TEC, Can.REC], by simp, fun h1 => absurd h1 (by omega)⟩
  · rw [exists_next]
    generalize hu : State.raise _ _ _ = u
    obtain ⟨hcode, hports⟩ := u.emcy_holds 0x8120
    obtain ⟨hstate, htec, hrec, hflag⟩ := hports p (State.lt_of_canOn hon)
    refine ⟨hstate.trans ?_, htec.trans ?_, hrec.trans ?_, fun _ => ⟨hflag 0 ?_, hcode⟩⟩ <;> rw [← hu] <;>
      simp [Can.STATE, Can.TEC, Can.REC, Can.FLAGS]

theorem canErrorPassive_leaves {tec rec_ : Nat} (ht : tec < 128) (hr : rec_ < 128) :
    ∃ t, exec (.canErrorPassive p tec rec_) s = .next t ∧ t.getN (Can.STATE p) = 1 ∧
      t.getN (Can.TEC p) = tec ∧ t.getN (Can.REC p) = rec_ := by
  rw [exec, execCanErrorPassive]
  simp only
  rw [if_neg (by simp [hon]; omega), if_neg (by omega), exists_next]
  refine ⟨by simp, ?_, ?_⟩ <;> simp [Can.STATE, Can.TEC, Can.REC] <;> omega

theorem canBusOff_counts (hlen : s.cans.length = 2) :
    ∃ t, exec (.canBusOff p) s = .next t ∧ t.getN (Can.STATE p) = 3 ∧ t.flag (Can.FLAGS p) 1 = true ∧ (t.can p).offAt = s.root ∧
      t.getN (Can.BUS_OFFS p) = min 0xFFFFFFFF (s.getN (Can.BUS_OFFS p) + 1) ∧ (t.can p).fifo = (s.can p).fifo := by
  obtain ⟨u, hu, hstate, hflag, hcount, hcans, hroot⟩ : ∃ u : State, exec (.canBusOff p) s =
        .next ((u.alertBit 5).updCan p (fun c => { c with offAt := (u.alertBit 5).root, recovering := false })) ∧
      u.getN (Can.STATE p) = 3 ∧ u.flag (Can.FLAGS p) 1 = true ∧
      u.getN (Can.BUS_OFFS p) = min 0xFFFFFFFF (s.getN (Can.BUS_OFFS p) + 1) ∧ u.cans = s.cans ∧ u.root = s.root := by
    rw [exec, execCanBusOff]
    simp only
    rw [if_neg (by simp [hon]; omega)]
    refine ⟨_, rfl, ?_, ?_, ?_, rfl, rfl⟩ <;> simp [Can.STATE, Can.TEC, Can.BUS_OFFS, Can.FLAGS]
  have hp := State.lt_of_canOn hon
  have hw := State.Within.alertBit u 5
  have hcans' : (u.alertBit 5).cans = s.cans := (hw.kept .cans (by decide +kernel)).trans hcans
  have hset := State.can_updCan_same (s := u.alertBit 5) (p := p) (by rw [hcans']; omega)
  rw [hu, exists_next, hset]
  refine ⟨(hw.getP hp).trans hstate, (congrArg (bit · 1) (hw.getP hp)).trans hflag, ?_, (hw.getP hp).trans hcount, ?_⟩
  · exact (hw.kept .root (by decide +kernel)).trans hroot
  · exact congrArg (fun l => (List.getD l p {}).fifo) hcans'

end

section
variable {s : State} {p : Nat} (hp : p < 2) (hlen : s.cans.length = 2) (hst : s.getN (Can.STATE p) = 3)
include hp hlen hst

theorem busoffDelay_recovers (hpass : s.passed (s.can p).offAt (msTicks (s.getN (Can.BUSOFF_DELAY p))) = true) :
    ∃ t, exec (.busoffDelay p) s = .next t ∧ (t.can p).recovering = true ∧ t.dict = s.dict := by
  rw [exec, execBusoffDelay]
  rw [if_pos ⟨hst, hpass⟩, exists_next, State.can_updCan_same (by omega)]
  exact ⟨rfl, rfl⟩

omit hlen in
theorem canBusOffRecovered_holds (hrec : (s.can p).recovering = true) :
    ∃ t, exec (.canBusOffRecovered p) s = .next t ∧ t.getN (Can.STATE p) = 1 ∧ t.getN (Can.TEC p) = 0 ∧ t.getN (Can.REC p) = 0 ∧
      t.getN (keyOf 0x1003 1) = 0x8140 := by
  rw [exec, execCanBusOffRecovered, if_pos ⟨hst, hrec⟩, exists_next, State.backOnBus]
  generalize hu : State.updCan _ _ _ = u
  obtain ⟨hcode, hports⟩ := u.emcy_holds 0x8140
  obtain ⟨hstate, htec, hrec', -⟩ := hports p hp
  refine ⟨hstate.trans ?_, htec.trans ?_, hrec'.trans ?_, hcode⟩ <;> rw [← hu] <;> simp [Can.STATE, Can.TEC, Can.REC]

end

/-- Settles O57: each clause is the rule above of the command it speaks of. -/
theorem canPortsComplete : Obligations.CanPortsComplete := by
  unfold Obligations.CanPortsComplete
  exact ⟨fun _ _ _ hon hst => ⟨canFrameRx_ignoresFd hon hst, canFrameRx_overruns hon hst, canFrameRx_remote hon hst,
      fun _ => canFrameRx_starts hon hst⟩,
    fun _ _ _ _ hp hlen hst hf hstep => ⟨canFrameTxDone_sent hp hlen hst hf hstep, canFrameTxDone_failed hp hlen hst hf⟩,
    fun _ _ _ _ hon hst => ⟨canErrorPassive_enters hon hst, canErrorPassive_leaves hon hst⟩,
    fun _ _ hlen hon hst => canBusOff_counts hon hst hlen, fun _ _ hp hlen hst => busoffDelay_recovers hp hlen hst,
    fun _ _ hp _ hst => canBusOffRecovered_holds hp hst,
    fun _ _ _ _ _ hp hlen h => ⟨canFlush_empty h, fun _ _ => canFlush_cancels hp hlen h⟩,
    fun _ _ _ => fifoDrainDeadline_holds⟩

end Sys2Proof.Machine
end

section
/-! O27, O28, O29: commands at the units of a string. A command changes the unit it is addressed to and no other; a unit that has not
executed its TAG executes it and keeps the response, one that has sends the stored response again (R117 to R121, R133). -/
namespace Sys2Proof.Machine
set_option Elab.async false

/-! ### Fields of ARGS -/

/-- Little-endian bytes spell the number they were made of, as far as they reach. -/
theorem leNat_leBytes (k n : Nat) : leNat (leBytes k n) = n % 256 ^ k := by
  induction k generalizing n with
  | zero => simp [leBytes, leNat, Nat.mod_one]
  | succ k ih =>
    rw [leBytes, leNat, ih, BitVec.toNat_ofNat, pow_succ' 256 k]
    exact (Nat.mod_mul (x := n) (a := 256)).symm

/-- ARGS of WRITE_REG. -/
def regArgs (a v : Nat) : List Byte := args12 (leBytes 2 a ++ leBytes 2 0 ++ leBytes 4 v)

theorem regArgs_addr {a v : Nat} (h : a < 65536) : fieldN (regArgs a v) 0 2 = a :=
  (leNat_leBytes 2 a).trans (Nat.mod_eq_of_lt h)

theorem regArgs_value {a v : Nat} (h : v < 2 ^ 32) : fieldN (regArgs a v) 4 4 = v :=
  (leNat_leBytes 4 v).trans (Nat.mod_eq_of_lt h)

theorem readArgs_addr {a : Nat} (h : a < 65536) : fieldN (args12 (leBytes 2 a)) 0 2 = a :=
  (leNat_leBytes 2 a).trans (Nat.mod_eq_of_lt h)

theorem wordArgs_word {x : Nat} (h : x < 2 ^ 32) : fieldN (args12 (leBytes 4 x)) 0 4 = x :=
  (leNat_leBytes 4 x).trans (Nat.mod_eq_of_lt h)

theorem byteArgs_byte {x : Nat} (h : x < 256) : fieldN (args12 (leBytes 1 x)) 0 1 = x :=
  (leNat_leBytes 1 x).trans (Nat.mod_eq_of_lt h)

theorem testArgs_pos {p step : Nat} (h : p < 256) : fieldN (args12 (leBytes 1 p ++ leBytes 1 step)) 0 1 = p :=
  (leNat_leBytes 1 p).trans (Nat.mod_eq_of_lt h)

theorem testArgs_step {p step : Nat} (h : step < 256) : fieldN (args12 (leBytes 1 p ++ leBytes 1 step)) 1 1 = step :=
  (leNat_leBytes 1 step).trans (Nat.mod_eq_of_lt h)

theorem sleepArgs_ms {ms : Nat} (tl : Int) (h : ms < 2 ^ 32) :
    fieldN (args12 (leBytes 4 ms ++ leBytes 2 (ofSigned 16 tl))) 0 4 = ms :=
  (leNat_leBytes 4 ms).trans (Nat.mod_eq_of_lt h)

/-- A signed number of `k` bits is the one that its pattern spells. -/
theorem toSigned_ofSigned {x : Int} {k : Nat} (hk : 1 ≤ k) (hlo : -(2 ^ (k - 1) : Nat) ≤ x) (hhi : x < (2 ^ (k - 1) : Nat)) :
    toSigned k (ofSigned k x) = x := by
  have hpow : 2 ^ k = 2 * 2 ^ (k - 1) := by rw [← pow_succ', Nat.sub_add_cancel hk]
  have hpos := Nat.two_pow_pos (k - 1)
  unfold toSigned ofSigned
  rw [hpow]
  generalize 2 ^ (k - 1) = m at *
  rcases lt_or_ge x 0 with hneg | hnn
  · have hmod : x % ((2 * m : Nat) : Int) = x + (2 * m : Nat) := by
      rw [← Int.add_emod_right, Int.emod_eq_of_lt] <;> omega
    rw [hmod, Nat.mod_eq_of_lt, if_neg] <;> omega
  · rw [Int.emod_eq_of_lt, Nat.mod_eq_of_lt, if_pos] <;> omega

theorem ofSigned_lt (k : Nat) (x : Int) : ofSigned k x < 2 ^ k := by
  have hpos := Nat.two_pow_pos k
  have hlt := Int.emod_lt_of_pos x (show (0 : Int) < ((2 ^ k : Nat) : Int) by omega)
  have hnn := Int.emod_nonneg x (show ((2 ^ k : Nat) : Int) ≠ 0 by omega)
  unfold ofSigned
  omega

theorem sleepArgs_limit {ms : Nat} {tl : Int} (hlo : -32768 ≤ tl) (hhi : tl ≤ 32767) :
    fieldI (args12 (leBytes 4 ms ++ leBytes 2 (ofSigned 16 tl))) 4 2 = tl := by
  have hword : fieldN (args12 (leBytes 4 ms ++ leBytes 2 (ofSigned 16 tl))) 4 2 = ofSigned 16 tl :=
    (leNat_leBytes 2 _).trans (Nat.mod_eq_of_lt (ofSigned_lt 16 tl))
  rw [fieldI, hword]
  exact toSigned_ofSigned (by decide) (by norm_num; omega) (by norm_num; omega)

/-- ARGS of COMMISSION. -/
def commissionArgs (first count serial : Nat) : List Byte := args12 (leBytes 2 first ++ leBytes 1 count ++ leBytes 1 0 ++ leBytes 4 serial)

theorem commissionArgs_fields {first count serial : Nat} (h1 : first < 65536) (h2 : count < 256) (h3 : serial < 2 ^ 32) :
    fieldN (commissionArgs first count serial) 0 2 = first ∧ fieldN (commissionArgs first count serial) 2 1 = count ∧
    fieldN (commissionArgs first count serial) 4 4 = serial :=
  ⟨(leNat_leBytes 2 first).trans (Nat.mod_eq_of_lt h1), (leNat_leBytes 1 count).trans (Nat.mod_eq_of_lt h2),
    (leNat_leBytes 4 serial).trans (Nat.mod_eq_of_lt h3)⟩

/-! ### A command at the head -/

/-- A command to the head changes the head alone. -/
theorem State.unitExec_head {s : State} {n : Nat} (hgal : s.hasGal n = true) (hlen : s.gal.length = 32) (onB : Bool) (e : Entry)
    (result : Nat) :
    ∃ maker, s.onlyHead (s.unitExec n onB 0 e result) n ∧
      ((s.unitExec n onB 0 e result).g n).head = (s.g n).head.exec onB e result maker := by
  have hn : n < s.take.2.gal.length := State.lt_of_hasGal hgal hlen
  refine ⟨Config.freeNat s.take.1 % 2 ^ 32, ?_⟩
  have hunit : s.unitExec n onB 0 e result =
      s.take.2.updHead n (fun h => h.exec onB e result (Config.freeNat s.take.1 % 2 ^ 32)) := by
    simp only [State.unitExec, hgal, Bool.not_true, Bool.false_eq_true, if_false, if_true]
  rw [hunit]
  exact ⟨⟨rfl, fun m hm => State.g_updG_other _ hm _, by rw [State.updHead, State.g_updG_same hn]; rfl⟩, State.head_updHead hn _⟩

/-- The head after it has executed a command whose result is `x`, with the response that it owes. -/
def Head.responds (h : Head) (own : Bool) (e : Entry) (x : Nat × List Byte × Head) : Head :=
  let r := { e with target := 0, status := x.1, args := x.2.1 }
  { x.2.2 with
    resp := x.2.2.resp ++ [r], lastTag := if own then e.tag else h.lastTag, lastResp := if own then some r else h.lastResp }

/-- A command that is not a repetition is executed. -/
theorem Head.exec_responds {h : Head} {onB : Bool} {e : Entry} (hop : e.op ≠ 0)
    (hnew : h.executes onB e = false ∨ h.lastResp = none ∨ h.lastTag ≠ e.tag) (result maker : Nat) :
    h.exec onB e result maker = h.responds (h.executes onB e) e (h.run onB e result maker) := by
  rw [Head.exec, if_neg hop]
  cases hlast : h.lastResp with
  | none => rw [Head.responds, hlast]
  | some r =>
    have hold : (h.executes onB e && h.lastTag == e.tag) = false := by
      rcases hnew with hno | hnone | htag
      · rw [hno, Bool.false_and]
      · rw [hlast] at hnone
        cases hnone
      · rw [beq_eq_false_iff_ne.mpr htag, Bool.and_false]
    simp only [hold, Bool.false_eq_true, if_false]
    rw [Head.responds, hlast]

/-- A repeated TAG has the stored response sent again. -/
theorem Head.exec_repeats {h : Head} {onB : Bool} {e r : Entry} (hop : e.op ≠ 0) (hown : h.executes onB e = true)
    (hlast : h.lastResp = some r) (htag : h.lastTag = e.tag) (result maker : Nat) :
    h.exec onB e result maker = { h with resp := h.resp ++ [r] } := by
  simp [Head.exec, hop, hlast, hown, htag]

/-- The head answers a command of a port it obeys. -/
theorem State.headTakes_step {s : State} {n tag : Nat} {onB : Bool} (h : s.headTakes n onB tag) (e : Entry) (hop : e.op ≠ 0)
    (htag : e.tag = tag) (result : Nat) :
    ∃ t maker, s.unitExec n onB 0 e result = t ∧ s.onlyHead t n ∧ (s.g n).head.obeys onB = true ∧
      (t.g n).head = (s.g n).head.responds true e ((s.g n).head.run onB e result maker) := by
  obtain ⟨hgal, hlen, hobeys, hnew⟩ := h
  obtain ⟨maker, honly, hhead⟩ := State.unitExec_head hgal hlen onB e result
  have hown : (s.g n).head.executes onB e = true := by rw [Head.executes, hobeys, Bool.true_or]
  refine ⟨_, maker, rfl, honly, hobeys, ?_⟩
  rw [hhead, Head.exec_responds hop (Or.inr (htag ▸ hnew)), hown]

/-- The head answers a command that it does not execute without any other change. -/
theorem State.head_answersOnly {s : State} {n : Nat} {onB : Bool} (hgal : s.hasGal n = true) (hlen : s.gal.length = 32)
    (hobeys : (s.g n).head.obeys onB = false) (e : Entry) (hop : e.op ≠ 0) (hrelease : e.op ≠ 9) (result : Nat) :
    ∃ t maker, s.unitExec n onB 0 e result = t ∧ s.onlyHead t n ∧
      (t.g n).head = (s.g n).head.responds false e ((s.g n).head.run onB e result maker) := by
  obtain ⟨maker, honly, hhead⟩ := State.unitExec_head hgal hlen onB e result
  have hown : (s.g n).head.executes onB e = false := by
    rw [Head.executes, hobeys, beq_eq_false_iff_ne.mpr hrelease]
    simp
  refine ⟨_, maker, rfl, honly, ?_⟩
  rw [hhead, Head.exec_responds hop (Or.inl hown), hown]

/-- From a port that it does not obey the head reads only; every other command but RELEASE has status 0x06. -/
theorem Head.run_otherPort {h : Head} {onB : Bool} {e : Entry} (hobeys : h.obeys onB = false) (h1 : e.op ≠ 1) (h2 : e.op ≠ 2)
    (h9 : e.op ≠ 9) (result maker : Nat) : h.run onB e result maker = (6, [], h) := by
  simp [Head.run, h1, h2, h9, hobeys]

/-- WRITE_REG at the head. -/
theorem Head.run_writeReg {h : Head} {onB : Bool} (hobeys : h.obeys onB = true) (tag a v result maker : Nat) (ha : a < 65536)
    (hv : v < 2 ^ 32) :
    h.run onB { op := 3, target := 0, tag := tag, args := regArgs a v } result maker =
      match headWrite h.regs a v with
      | some r => (0, leBytes 4 (r.getD a 0), { h with regs := r })
      | none => (2, [], h) := by
  simp only [Head.run, regArgs_addr ha, regArgs_value hv, hobeys, OfNat.ofNat_ne_one, Nat.reduceEqDiff, if_false, if_true,
    Bool.not_true, Bool.false_and, Bool.false_eq_true] <;> rfl

/-- A write that the register table takes is stored and answered. -/
theorem State.head_writes {s : State} {n tag a v : Nat} {onB : Bool} (h : s.headTakes n onB tag) (ha : a < 65536) (hv : v < 2 ^ 32)
    (hput : headWrite (s.g n).head.regs a v = some (modAt (s.g n).head.regs a (fun _ => v))) :
    ∃ t, exec (.writeReg n onB 0 tag a v) s = .next t ∧ s.onlyHead t n ∧
      (t.g n).head.regs = modAt (s.g n).head.regs a (fun _ => v) ∧ (t.g n).head.lastTag = tag := by
  obtain ⟨t, maker, ht, honly, hobeys, hhead⟩ :=
    State.headTakes_step h { op := 3, target := 0, tag := tag, args := regArgs a v } (by simp) rfl 0
  refine ⟨t, congrArg Host.Outcome.next ht, honly, ?_⟩
  rw [hhead, Head.run_writeReg hobeys _ _ _ _ _ ha hv, hput]
  exact ⟨rfl, rfl⟩

/-- A write that the register table does not take is answered with status 0x02. -/
theorem State.head_refusesWrite {s : State} {n tag a v : Nat} {onB : Bool} (h : s.headTakes n onB tag) (ha : a < 65536)
    (hv : v < 2 ^ 32) (hnone : headWrite (s.g n).head.regs a v = none) :
    ∃ t, exec (.writeReg n onB 0 tag a v) s = .next t ∧ s.onlyHead t n ∧ (t.g n).head.regs = (s.g n).head.regs ∧
      (t.g n).head.resp = (s.g n).head.resp ++ [{ op := 3, target := 0, tag := tag, status := 2, args := [] }] := by
  obtain ⟨t, maker, ht, honly, hobeys, hhead⟩ :=
    State.headTakes_step h { op := 3, target := 0, tag := tag, args := regArgs a v } (by simp) rfl 0
  refine ⟨t, congrArg Host.Outcome.next ht, honly, ?_⟩
  rw [hhead, Head.run_writeReg hobeys _ _ _ _ _ ha hv, hnone]
  exact ⟨rfl, rfl⟩

/-- READ_REG at the head, whatever the port. -/
theorem Head.run_readReg (h : Head) (onB : Bool) (tag : Nat) {a : Nat} (ha : a < 16) (result maker : Nat) :
    h.run onB { op := 2, target := 0, tag := tag, args := args12 (leBytes 2 a) } result maker =
      (0, leBytes 4 (h.regs.getD a 0), h) := by
  simp [Head.run, readArgs_addr (show a < 65536 by omega), ha]

/-! ### The obligations of the head -/

section
variable {s : State} {n tag : Nat} {onB : Bool}

theorem head_identify (h : s.headTakes n onB tag) :
    ∃ t, exec (.identify n onB 0 tag false 0 false) s = .next t ∧ s.onlyHead t n ∧
      ∃ d, (t.g n).head.resp = (s.g n).head.resp ++ [{ op := 1, target := 0, tag := tag, status := 0, args := d }] ∧
        d.take 8 = leBytes 2 ((s.g n).head.regs.getD 0 0) ++ leBytes 1 ((s.g n).head.regs.getD 1 1) ++
          leBytes 1 (s.g n).head.nodesSeen ++ leBytes 4 ((s.g n).head.regs.getD 14 0) := by
  obtain ⟨t, maker, ht, honly, hobeys, hhead⟩ :=
    State.headTakes_step h { op := 1, target := 0, tag := tag, args := args12 [] } (by simp) rfl 0
  refine ⟨t, congrArg Host.Outcome.next ht, honly, leBytes 2 ((s.g n).head.regs.getD 0 0) ++ leBytes 1 ((s.g n).head.regs.getD 1 1) ++
    leBytes 1 (s.g n).head.nodesSeen ++ leBytes 4 ((s.g n).head.regs.getD 14 0) ++ leBytes 2 Config.unitFw, ?_, rfl⟩
  rw [hhead]
  rfl

theorem head_reads {a : Nat} (h : s.headTakes n onB tag) (ha : a < 16) :
    ∃ t, exec (.readReg n onB 0 tag a) s = .next t ∧ s.onlyHead t n ∧ (t.g n).head.regs = (s.g n).head.regs ∧
      (t.g n).head.resp = (s.g n).head.resp ++
        [{ op := 2, target := 0, tag := tag, status := 0, args := leBytes 4 ((s.g n).head.regs.getD a 0) }] := by
  obtain ⟨t, maker, ht, honly, hobeys, hhead⟩ :=
    State.headTakes_step h { op := 2, target := 0, tag := tag, args := args12 (leBytes 2 a) } (by simp) rfl 0
  refine ⟨t, congrArg Host.Outcome.next ht, honly, ?_⟩
  rw [hhead, Head.run_readReg _ _ _ ha]
  exact ⟨rfl, rfl⟩

theorem head_readsNothing {a : Nat} (h : s.headTakes n onB tag) (h16 : 16 ≤ a) (h256 : a < 256) :
    ∃ t, exec (.readReg n onB 0 tag a) s = .next t ∧ s.onlyHead t n ∧
      (t.g n).head.resp = (s.g n).head.resp ++ [{ op := 2, target := 0, tag := tag, status := 2, args := [] }] := by
  obtain ⟨t, maker, ht, honly, hobeys, hhead⟩ :=
    State.headTakes_step h { op := 2, target := 0, tag := tag, args := args12 (leBytes 2 a) } (by simp) rfl 0
  have hrun : (s.g n).head.run onB { op := 2, target := 0, tag := tag, args := args12 (leBytes 2 a) } 0 maker = (2, [], (s.g n).head) := by
    simp [Head.run, readArgs_addr (show a < 65536 by omega), Nat.not_lt.mpr h16, makerReg, h256]
  refine ⟨t, congrArg Host.Outcome.next ht, honly, ?_⟩
  rw [hhead, hrun]
  rfl

theorem head_restores (h : s.headTakes n onB tag) (hpath : (s.g n).head.path = .wrap ∨ (s.g n).head.path = .split) :
    ∃ t, exec (.restoreRing n onB tag) s = .next t ∧ s.onlyHead t n ∧ (t.g n).head.path = .ring ∧ (t.g n).head.breakAfter = 0xFF := by
  obtain ⟨t, maker, ht, honly, hobeys, hhead⟩ :=
    State.headTakes_step h { op := 8, target := 0, tag := tag, args := args12 [] } (by simp) rfl 0
  refine ⟨t, congrArg Host.Outcome.next ht, honly, ?_⟩
  rw [hhead]
  rcases hpath with hpath | hpath <;> simp [Head.responds, Head.run, hobeys, hpath]

theorem head_restoresNothing (h : s.headTakes n onB tag) (hpath : (s.g n).head.path = .ring ∨ (s.g n).head.path = .down) :
    ∃ t, exec (.restoreRing n onB tag) s = .next t ∧ s.onlyHead t n ∧ (t.g n).head.path = (s.g n).head.path ∧
      (t.g n).head.resp = (s.g n).head.resp ++ [{ op := 8, target := 0, tag := tag, status := 3, args := [] }] := by
  obtain ⟨t, maker, ht, honly, hobeys, hhead⟩ :=
    State.headTakes_step h { op := 8, target := 0, tag := tag, args := args12 [] } (by simp) rfl 0
  refine ⟨t, congrArg Host.Outcome.next ht, honly, ?_⟩
  rw [hhead]
  rcases hpath with hpath | hpath <;> simp [Head.responds, Head.run, hobeys, hpath]

theorem head_sleeps {ms : Nat} {tl : Int} (h : s.headTakes n onB tag) (hinh : (s.g n).head.inhibited = true) (hms : ms < 2 ^ 32) :
    ∃ t, exec (.sleep n onB 0 tag ms tl) s = .next t ∧ s.onlyHead t n ∧ (t.g n).head.asleep = true ∧ (t.g n).head.checkMs = ms := by
  obtain ⟨t, maker, ht, honly, hobeys, hhead⟩ := State.headTakes_step h
    { op := 10, target := 0, tag := tag, args := args12 (leBytes 4 ms ++ leBytes 2 (ofSigned 16 tl)) } (by simp) rfl 0
  refine ⟨t, congrArg Host.Outcome.next ht, honly, ?_⟩
  rw [hhead]
  simp [Head.responds, Head.run, hobeys, hinh, sleepArgs_ms tl hms]

theorem head_staysAwake {ms : Nat} {tl : Int} (h : s.headTakes n onB tag) (hinh : (s.g n).head.inhibited = false) :
    ∃ t, exec (.sleep n onB 0 tag ms tl) s = .next t ∧ s.onlyHead t n ∧ (t.g n).head.asleep = (s.g n).head.asleep ∧
      ∃ e, (t.g n).head.resp = (s.g n).head.resp ++ [e] ∧ e.status = 3 ∧ e.tag = tag := by
  obtain ⟨t, maker, ht, honly, hobeys, hhead⟩ := State.headTakes_step h
    { op := 10, target := 0, tag := tag, args := args12 (leBytes 4 ms ++ leBytes 2 (ofSigned 16 tl)) } (by simp) rfl 0
  have hrun (e : Entry) (he : e.op = 10) : (s.g n).head.run onB e 0 maker = (3, [], (s.g n).head) := by
    simp [Head.run, he, hobeys, hinh]
  refine ⟨t, congrArg Host.Outcome.next ht, honly, ?_⟩
  rw [hhead, hrun _ rfl]
  exact ⟨rfl, _, rfl, rfl, rfl⟩

theorem head_tests {r : Nat} (h : s.headTakes n onB tag) (hr : r < 64) :
    ∃ t, exec (.selftest n onB 0 tag r) s = .next t ∧ s.onlyHead t n ∧
      (t.g n).head.resp = (s.g n).head.resp ++ [{ op := 11, target := 0, tag := tag, status := 0, args := leBytes 4 r }] := by
  obtain ⟨t, maker, ht, honly, hobeys, hhead⟩ :=
    State.headTakes_step h { op := 11, target := 0, tag := tag, args := args12 [] } (by simp) rfl (r % 64)
  refine ⟨t, congrArg Host.Outcome.next ht, honly, ?_⟩
  rw [hhead]
  simp [Head.responds, Head.run, hobeys, Nat.mod_eq_of_lt hr]

/-- What the head executes on the port it does not obey: nothing. -/
theorem head_refusesPort {a v ms r : Nat} {tl : Int} {c : Instr} (hgal : s.hasGal n = true) (hlen : s.gal.length = 32)
    (hobeys : (s.g n).head.obeys onB = false)
    (hc : c ∈ [.writeReg n onB 0 tag a v, .restoreRing n onB tag, .sleep n onB 0 tag ms tl, .selftest n onB 0 tag r]) :
    ∃ t, exec c s = .next t ∧ s.onlyHead t n ∧
      ∃ e, (t.g n).head = { (s.g n).head with resp := (s.g n).head.resp ++ [e] } ∧ e.status = 6 ∧ e.tag = tag := by
  have hsix (e : Entry) (result : Nat) (hop : e.op ≠ 0 ∧ e.op ≠ 1 ∧ e.op ≠ 2 ∧ e.op ≠ 9) (htag : e.tag = tag) :
      ∃ t, s.unitExec n onB 0 e result = t ∧ s.onlyHead t n ∧
        ∃ e', (t.g n).head = { (s.g n).head with resp := (s.g n).head.resp ++ [e'] } ∧ e'.status = 6 ∧ e'.tag = tag := by
    obtain ⟨h0, h1, h2, h9⟩ := hop
    obtain ⟨t, maker, ht, honly, hhead⟩ := State.head_answersOnly hgal hlen hobeys e h0 h9 result
    rw [Head.run_otherPort hobeys h1 h2 h9] at hhead
    exact ⟨t, ht, honly, _, hhead, rfl, htag⟩
  have hnext {e : Entry} {result : Nat} (hexec : exec c s = .next (s.unitExec n onB 0 e result))
      (hop : e.op ≠ 0 ∧ e.op ≠ 1 ∧ e.op ≠ 2 ∧ e.op ≠ 9) (htag : e.tag = tag) :
      ∃ t, exec c s = .next t ∧ s.onlyHead t n ∧
        ∃ e, (t.g n).head = { (s.g n).head with resp := (s.g n).head.resp ++ [e] } ∧ e.status = 6 ∧ e.tag = tag := by
    obtain ⟨t, ht, hrest⟩ := hsix e result hop htag
    exact ⟨t, hexec.trans (congrArg Host.Outcome.next ht), hrest⟩
  simp only [List.mem_cons, List.not_mem_nil, or_false] at hc
  rcases hc with rfl | rfl | rfl | rfl
  · exact hnext rfl (by simp) rfl
  · exact hnext rfl (by simp) rfl
  · exact hnext rfl (by simp) rfl
  · exact hnext rfl (by simp) rfl

end

/-- The addresses that the head's register table takes with every value (Table 4-13). -/
theorem headWrite_free (regs : List Nat) {a : Nat} (v : Nat) (h5 : 5 ≤ a) (h13 : a ≤ 13) :
    headWrite regs a v = some (modAt regs a (fun _ => v)) := by
  have h2 : a ≠ 2 := by omega
  have h3 : a ≠ 3 := by omega
  have h4 : a ≠ 4 := by omega
  simp [headWrite, h2, h3, h4, h5, h13]

/-- Settles O27: each command is one case of what the head executes, with the fields of its ARGS. -/
theorem headCommandsAnswered : Obligations.HeadCommandsAnswered := by
  unfold Obligations.HeadCommandsAnswered
  refine ⟨fun s n tag onB h => head_identify h, fun s n tag a onB h ha => head_reads h ha,
    fun s n tag a onB h h16 h256 => head_readsNothing h h16 h256, fun s n tag a v onB h hav => ?_, fun s n tag a v onB h hv hav => ?_,
    fun s n tag a v onB h h5 h13 hv => State.head_writes h (by omega) hv (headWrite_free _ v h5 h13), fun s n tag a v onB h ha hv => ?_,
    fun s n tag onB h hp => head_restores h hp, fun s n tag onB h hp => head_restoresNothing h hp,
    fun s n tag ms tl onB h hi hms => head_sleeps h hi hms, fun s n tag ms tl onB h hi => head_staysAwake h hi,
    fun s n tag r onB h hr => head_tests h hr, fun s n tag a onB hgal hlen ho ha => ?_, fun s n tag onB hgal hlen ho => ?_,
    fun s n tag a v ms r tl onB c hgal hlen ho hc => head_refusesPort hgal hlen ho hc, fun s n tag a v onB r hgal hlen ho hr htag => ?_⟩
  · rcases hav with ⟨rfl, hv⟩ | ⟨rfl, hlo, hhi⟩
    · exact State.head_writes h (by decide) (by omega) (by simp [headWrite, hv])
    · exact State.head_writes h (by decide) (by omega) (by simp [headWrite, hlo, hhi])
  · rcases hav with ⟨rfl, hbig⟩ | ⟨rfl, hout⟩
    · exact State.head_refusesWrite h (by decide) hv (by simp [headWrite, hbig])
    · exact State.head_refusesWrite h (by decide) hv (by simp [headWrite]; omega)
  · refine State.head_refusesWrite h ?_ hv ?_
    · simp only [List.mem_cons, List.not_mem_nil, or_false] at ha
      omega
    · simp only [List.mem_cons, List.not_mem_nil, or_false] at ha
      rcases ha with rfl | rfl | rfl | rfl | rfl | rfl <;> simp [headWrite]
  · obtain ⟨t, maker, ht, honly, hhead⟩ := State.head_answersOnly hgal hlen ho
      { op := 2, target := 0, tag := tag, args := args12 (leBytes 2 a) } (by simp) (by simp) 0
    rw [Head.run_readReg _ _ _ ha] at hhead
    exact ⟨t, congrArg Host.Outcome.next ht, honly, hhead⟩
  · obtain ⟨t, maker, ht, honly, hhead⟩ := State.head_answersOnly hgal hlen ho
      { op := 1, target := 0, tag := tag, args := args12 [] } (by simp) (by simp) 0
    exact ⟨t, congrArg Host.Outcome.next ht, honly, _, hhead, rfl, rfl⟩
  · obtain ⟨maker, honly, hhead⟩ := State.unitExec_head hgal hlen onB { op := 3, target := 0, tag := tag, args := regArgs a v } 0
    exact ⟨_, rfl, honly, hhead.trans (Head.exec_repeats (by simp) (by rw [Head.executes, ho, Bool.true_or]) hr htag 0 maker)⟩

/-! ### RELEASE -/

/-- The head after a RELEASE from a port that it obeys, or that alone holds authority. -/
theorem Head.run_release {h : Head} {onB : Bool} (hobeys : h.obeys onB = true ∨ h.auth = .dualFault ∧ h.alone onB = true)
    {e : Entry} (he : e.op = 9) (result maker : Nat) :
    h.run onB e result maker =
      if decide (h.cmp = 0) && decide (h.trip = 0) && decide (h.cmpOld = 0) && !h.nodeCmp && !h.nodeCmpOld then
        (0, [], { h with
          latch := false, inhibited := false, expired := false, local_ := false
          auth := if h.auth = .dualFault then (if onB then .obeyB else .obeyA) else h.auth
          firstB := if h.auth = .dualFault then onB else h.firstB
          overlap := if h.auth = .dualFault then 0 else h.overlap })
      else (3, [], h) := by
  have hgate : (!h.obeys onB && !(9 == 9 && decide (h.auth = .dualFault) && h.alone onB)) = false := by
    rcases hobeys with ho | ⟨ha, hb⟩
    · rw [ho, Bool.not_true, Bool.false_and]
    · simp [ha, hb]
  simp only [Head.run, he, hgate, Nat.reduceEqDiff, if_false, if_true, Bool.false_eq_true]

/-- Settles O28: RELEASE is executed from the port obeyed, and in DUAL_FAULT from the one that alone holds authority. -/
theorem releaseClearsTheLatch : Obligations.ReleaseClearsTheLatch := by
  unfold Obligations.ReleaseClearsTheLatch
  refine ⟨fun s n tag onB h => ?_, fun s n tag onB hgal hlen hauth halone hnew hcmp htrip hold hnode hnodeOld => ?_⟩
  · obtain ⟨t, maker, ht, honly, hobeys, hhead⟩ :=
      State.headTakes_step h { op := 9, target := 0, tag := tag, args := args12 [] } (by simp) rfl 0
    rw [Head.run_release (Or.inl hobeys) rfl] at hhead
    refine ⟨fun hcmp htrip hold hnode hnodeOld => ⟨t, congrArg Host.Outcome.next ht, honly, ?_⟩,
      fun hset => ⟨t, congrArg Host.Outcome.next ht, honly, ?_⟩⟩
    · simp [hhead, hcmp, htrip, hold, hnode, hnodeOld, Head.responds]
    · have hnot : (decide ((s.g n).head.cmp = 0) && decide ((s.g n).head.trip = 0) && decide ((s.g n).head.cmpOld = 0) &&
          !(s.g n).head.nodeCmp && !(s.g n).head.nodeCmpOld) = false := by
        rcases hset with h | h | h | h | h <;> simp [h]
      rw [hnot, if_neg Bool.false_ne_true] at hhead
      rw [hhead]
      exact ⟨rfl, rfl, rfl⟩
  · obtain ⟨maker, honly, hhead⟩ := State.unitExec_head hgal hlen onB { op := 9, target := 0, tag := tag, args := args12 [] } 0
    rw [Head.exec_responds (by simp) (Or.inr hnew), Head.run_release (Or.inr ⟨hauth, halone⟩) rfl] at hhead
    refine ⟨_, rfl, honly, ?_⟩
    rw [hhead]
    simp [hcmp, htrip, hold, hnode, hnodeOld, hauth, Head.responds]

/-! ### A command at a monitor -/

/-- A command to a monitor changes that monitor alone, by what its `exec` makes of it. -/
theorem State.unitExec_monitor {s t : State} {n node : Nat} (h : s.onlyMon t n node) (hgal : t.hasGal n = true) (hn : n < t.gal.length)
    (hnode : 1 ≤ node) (hmons : node ≤ (t.g n).mons.length) (onB : Bool) (e : Entry) (result : Nat) :
    ∃ maker, s.onlyMon (t.unitExec n onB node e result) n node ∧
      (t.unitExec n onB node e result).mon n node = (t.mon n node).exec e (t.g n).head.loopSf result maker t.root := by
  refine ⟨Config.freeNat t.take.1 % 2 ^ 32, (State.unitExec_mon h hgal hn hnode hmons onB e result).1, ?_⟩
  have hunit : t.unitExec n onB node e result = t.take.2.updMon n node
      (fun m => m.exec e (t.g n).head.loopSf result (Config.freeNat t.take.1 % 2 ^ 32) t.root) := by
    simp only [State.unitExec, hgal, Bool.not_true, Bool.false_eq_true, if_false, if_neg (show node ≠ 0 by omega)]
    rfl
  rw [hunit, State.mon_updMon_same (s := t.take.2) hn (show node - 1 < (t.g n).mons.length by omega)]
  rfl

/-- The monitor after it has executed a command whose result is `x`, with the response that it owes. -/
def Monitor.responds (m : Monitor) (e : Entry) (x : Nat × List Byte × Monitor) : Monitor :=
  let r := { e with target := m.addr, status := x.1, args := x.2.1 }
  { x.2.2 with resp := some r, lastTag := e.tag, lastResp := some r }

/-- A command that is not a repetition is executed. -/
theorem Monitor.exec_responds {m : Monitor} {e : Entry} (hop : e.op ≠ 0) (hnew : m.lastResp = none ∨ m.lastTag ≠ e.tag)
    (sf result maker root : Nat) : m.exec e sf result maker root = m.responds e (m.run e sf result maker root) := by
  rw [Monitor.exec, if_neg hop]
  cases hlast : m.lastResp with
  | none => rfl
  | some r =>
    have htag : m.lastTag ≠ e.tag := hnew.resolve_left (by rw [hlast]; exact Option.some_ne_none r)
    simp only [if_neg htag]
    rfl

/-- A repeated TAG has the stored response sent again. -/
theorem Monitor.exec_repeats {m : Monitor} {e r : Entry} (hop : e.op ≠ 0) (hlast : m.lastResp = some r) (htag : m.lastTag = e.tag)
    (sf result maker root : Nat) : m.exec e sf result maker root = { m with resp := some r } := by
  simp [Monitor.exec, hop, hlast, htag]

/-- A monitor answers a command with a new TAG. -/
theorem State.monTakes_step {s : State} {n node tag : Nat} (h : s.monTakes n node tag) (onB : Bool) (e : Entry) (hop : e.op ≠ 0)
    (htag : e.tag = tag) (result : Nat) :
    ∃ t sf maker root, s.unitExec n onB node e result = t ∧ s.onlyMon t n node ∧
      t.mon n node = (s.mon n node).responds e ((s.mon n node).run e sf result maker root) := by
  obtain ⟨hgal, hlen, h1, hmons, hnew⟩ := h
  obtain ⟨maker, honly, hmon⟩ :=
    State.unitExec_monitor (State.onlyMon.refl s n node) hgal (State.lt_of_hasGal hgal hlen) h1 hmons onB e result
  exact ⟨_, _, maker, _, rfl, honly, hmon.trans (Monitor.exec_responds hop (htag ▸ hnew) ..)⟩

/-! ### What a monitor executes -/

section
variable (m : Monitor) (tag node sf result maker root : Nat)

theorem Monitor.run_readReg {a : Nat} (ha : a < 10) :
    m.run { op := 2, target := node, tag := tag, args := args12 (leBytes 2 a) } sf result maker root =
      (0, leBytes 4 (m.regs.getD a 0), m) := by
  simp [Monitor.run, readArgs_addr (show a < 65536 by omega), ha]

/-- WRITE_REG at a monitor, with its address and its value. -/
theorem Monitor.run_writeReg {a v : Nat} (ha : a < 65536) (hv : v < 2 ^ 32) :
    m.run { op := 3, target := node, tag := tag, args := regArgs a v } sf result maker root =
      let put := fun (w : Nat) => (0, leBytes 4 w, { m with regs := modAt m.regs a (fun _ => w) })
      if a = 5 then put (compWrite (m.regs.getD 5 0) v)
      else if a = 6 ∨ a = 7 then put v
      else if a = 8 then (if 1 ≤ bits v 4 0 ∧ bits v 4 0 ≤ 16 then put (v % 64) else (2, [], m))
      else if a = 9 then (if v % 16 = 0 then (2, [], m) else put (v % 16))
      else (2, [], m) := by
  simp only [Monitor.run, regArgs_addr ha, regArgs_value hv, OfNat.ofNat_ne_one, Nat.reduceEqDiff, if_false, if_true]

/-- A write below the writable registers is refused, whatever its value. -/
theorem Monitor.run_writeReadOnly {a : Nat} (v : Nat) (ha : a ≤ 4) :
    m.run { op := 3, target := node, tag := tag, args := regArgs a v } sf result maker root = (2, [], m) := by
  have hno : ∀ k, 5 ≤ k → a ≠ k := fun k hk => by omega
  simp [Monitor.run, regArgs_addr (show a < 65536 by omega), hno]

theorem Monitor.run_commission {first count serial : Nat} (h1 : first < 65536) (h2 : count < 256) (h3 : serial < 2 ^ 32) :
    m.run { op := 7, target := node, tag := tag, args := commissionArgs first count serial } sf result maker root =
      if serial = m.regs.getD 3 0 then
        (0, [], { m with regs := modAt (modAt m.regs 1 (fun _ => first)) 2 (fun _ => count) })
      else (2, [], m) := by
  obtain ⟨hfirst, hcount, hserial⟩ := commissionArgs_fields h1 h2 h3
  simp only [Monitor.run, hfirst, hcount, hserial, Nat.reduceEqDiff, OfNat.ofNat_ne_one, if_false, if_true]

theorem Monitor.run_syncReset {x : Nat} (hx : x < 2 ^ 32) {d : Int} (hd : d = toSigned 32 (ofSigned 32 ((x : Int) - sf))) :
    m.run { op := 4, target := node, tag := tag, args := args12 (leBytes 4 x) } sf result maker root =
      if d ≤ 0 then (0, [], { m with resetAt := some ((sf + 1) % 2 ^ 32) })
      else if d ≤ 1024 then (0, [], { m with resetAt := some x })
      else (2, [], m) := by
  simp only [Monitor.run, wordArgs_word hx, Nat.reduceEqDiff, OfNat.ofNat_ne_one, if_false, if_true, hd]

theorem Monitor.run_sweep {mask : Nat} (hmask : mask < 256) :
    m.run { op := 5, target := node, tag := tag, args := args12 (leBytes 1 mask) } sf result maker root =
      if m.sweepBusy then (4, [], m) else (0, [], { m with sweepBusy := true, sweepMask := mask }) := by
  simp only [Monitor.run, byteArgs_byte hmask, Nat.reduceEqDiff, OfNat.ofNat_ne_one, if_false, if_true]

theorem Monitor.run_switchClose {p : Nat} (hp : p < 16) :
    m.run { op := 6, target := node, tag := tag, args := args12 (leBytes 1 p ++ leBytes 1 1) } sf result maker root =
      (0, leBytes 4 3, { m with ovr := some (p, 64), bal := withBit m.bal p true }) := by
  simp [Monitor.run, testArgs_pos (show p < 256 by omega), testArgs_step, hp]

theorem Monitor.run_switchFollow {p : Nat} (hp : p < 16) :
    m.run { op := 6, target := node, tag := tag, args := args12 (leBytes 1 p ++ leBytes 1 2) } sf result maker root =
      (0, leBytes 4 (b2n (bit (({ m with ovr := none } : Monitor).close m.balReq) p)),
        { m with ovr := none, bal := ({ m with ovr := none } : Monitor).close m.balReq }) := by
  simp [Monitor.run, testArgs_pos (show p < 256 by omega), testArgs_step, hp]

theorem Monitor.run_sleep {ms : Nat} {tl : Int} (hms : ms < 2 ^ 32) (hlo : -32768 ≤ tl) (hhi : tl ≤ 32767) :
    m.run { op := 10, target := node, tag := tag, args := args12 (leBytes 4 ms ++ leBytes 2 (ofSigned 16 tl)) } sf result maker root =
      (0, [], m.sleep ms tl root) := by
  simp only [Monitor.run, sleepArgs_ms tl hms, sleepArgs_limit hlo hhi, Nat.reduceEqDiff, OfNat.ofNat_ne_one, if_false, if_true]

theorem Monitor.run_selftest :
    m.run { op := 11, target := node, tag := tag, args := args12 [] } sf result maker root =
      (0, leBytes 4 result ++ leBytes 4 m.lastCheck, { m with selfRes := result, selfFail := decide (result ≠ 0) }) := by
  simp only [Monitor.run, Nat.reduceEqDiff, OfNat.ofNat_ne_one, if_false, if_true]

end

/-! ### SYNC_RESET brings its frame number in -/

/-- SYNC_RESET reaches its monitor in the frame numbered `sf`. -/
theorem execSyncReset_mon {s : State} {n node tag : Nat} (h : s.monTakes n node tag) (sf x : Nat) :
    ∃ t maker root, exec (.syncReset n node tag sf x) s = .next t ∧ t.mon n node = (s.mon n node).responds
      { op := 4, target := node, tag := tag, args := args12 (leBytes 4 x) }
      ((s.mon n node).run { op := 4, target := node, tag := tag, args := args12 (leBytes 4 x) } sf 0 maker root) := by
  obtain ⟨hgal, hlen, h1, hmons, hnew⟩ := h
  have hn := State.lt_of_hasGal hgal hlen
  have hmon : (s.updHead n (fun h => { h with loopSf := sf })).mon n node = s.mon n node := State.mon_updHead hn _ _
  have hsf : ((s.updHead n (fun h => { h with loopSf := sf })).g n).head.loopSf = sf := by rw [State.head_updHead hn]
  have hlen' : (s.updHead n (fun h => { h with loopSf := sf })).gal.length = s.gal.length := modAt_length ..
  have hmons' : ((s.updHead n (fun h => { h with loopSf := sf })).g n).mons = (s.g n).mons := by rw [State.updHead, State.g_updG_same hn]
  obtain ⟨maker, -, hdone⟩ := State.unitExec_monitor (State.onlyMon.refl (s.updHead n (fun h => { h with loopSf := sf })) n node) hgal
    (by rw [hlen']; exact hn) h1 (by rw [hmons']; exact hmons) false { op := 4, target := node, tag := tag, args := args12 (leBytes 4 x) } 0
  rw [hmon, hsf] at hdone
  exact ⟨_, maker, _, rfl, hdone.trans (Monitor.exec_responds (by simp) hnew ..)⟩

/-- SYNC_RESET less than half the number range away: the signed difference is the difference. -/
theorem syncDistance {x sf : Nat} (hlo : -(2 ^ 31 : Int) ≤ (x : Int) - sf) (hhi : (x : Int) - sf < 2 ^ 31) :
    (x : Int) - sf = toSigned 32 (ofSigned 32 ((x : Int) - sf)) :=
  (toSigned_ofSigned (by decide) (by norm_num at *; omega) (by norm_num at *; omega)).symm

/-! ### The obligation of the monitors -/

section
variable {s : State} {n node tag : Nat}

/-- A register that a monitor takes is stored. -/
theorem mon_writes {a v w : Nat} (h : s.monTakes n node tag) (onB : Bool)
    (hput : ∀ sf maker root, (s.mon n node).run { op := 3, target := node, tag := tag, args := regArgs a v } sf 0 maker root =
      (0, leBytes 4 w, { s.mon n node with regs := modAt (s.mon n node).regs a (fun _ => w) })) :
    ∃ t, exec (.writeReg n onB node tag a v) s = .next t ∧ s.onlyMon t n node ∧
      (t.mon n node).regs = modAt (s.mon n node).regs a (fun _ => w) := by
  obtain ⟨t, sf, maker, root, ht, honly, hmon⟩ :=
    State.monTakes_step h onB { op := 3, target := node, tag := tag, args := regArgs a v } (by simp) rfl 0
  refine ⟨t, congrArg Host.Outcome.next ht, honly, ?_⟩
  rw [hmon, hput]
  rfl

theorem mon_commissions {first count serial : Nat} (h : s.monTakes n node tag) (h1 : first < 65536) (h2 : count < 256)
    (h3 : serial < 2 ^ 32) :
    ∃ t, exec (.commission n node tag first count serial) s = .next t ∧ s.onlyMon t n node ∧
      (t.mon n node).regs = (if serial = (s.mon n node).regs.getD 3 0 then
        modAt (modAt (s.mon n node).regs 1 (fun _ => first)) 2 (fun _ => count) else (s.mon n node).regs) ∧
      ∃ r, (t.mon n node).resp = some r ∧ r.status = if serial = (s.mon n node).regs.getD 3 0 then 0 else 2 := by
  obtain ⟨t, sf, maker, root, ht, honly, hmon⟩ := State.monTakes_step h false
    { op := 7, target := node, tag := tag, args := commissionArgs first count serial } (by simp) rfl 0
  refine ⟨t, congrArg Host.Outcome.next ht, honly, ?_⟩
  rw [hmon, Monitor.run_commission _ _ _ _ _ _ _ h1 h2 h3]
  split
  · exact ⟨rfl, _, rfl, rfl⟩
  · exact ⟨rfl, _, rfl, rfl⟩

theorem mon_syncResets {sf x : Nat} (h : s.monTakes n node tag) (hlt : sf < x) (hle : x ≤ sf + 1024) (hx : x < 2 ^ 32) :
    ∃ t, exec (.syncReset n node tag sf x) s = .next t ∧ (t.mon n node).resetAt = some x := by
  obtain ⟨t, maker, root, ht, hmon⟩ := execSyncReset_mon h sf x
  refine ⟨t, ht, ?_⟩
  rw [hmon, Monitor.run_syncReset _ _ _ _ _ _ _ hx (syncDistance (by omega) (by omega)), if_neg (by omega), if_pos (by omega)]
  rfl

theorem mon_syncResetsNext {sf x : Nat} (h : s.monTakes n node tag) (hle : x ≤ sf) (hsf : sf < 2 ^ 31) :
    ∃ t, exec (.syncReset n node tag sf x) s = .next t ∧ (t.mon n node).resetAt = some ((sf + 1) % 2 ^ 32) := by
  obtain ⟨t, maker, root, ht, hmon⟩ := execSyncReset_mon h sf x
  refine ⟨t, ht, ?_⟩
  rw [hmon, Monitor.run_syncReset _ _ _ _ _ _ _ (by omega) (syncDistance (by omega) (by omega)), if_pos (by omega)]
  rfl

theorem mon_syncTooFar {sf x : Nat} (h : s.monTakes n node tag) (hlt : sf + 1024 < x) (hx : x < 2 ^ 31) :
    ∃ t, exec (.syncReset n node tag sf x) s = .next t ∧ (t.mon n node).resetAt = (s.mon n node).resetAt ∧
      (t.mon n node).resp = some { op := 4, target := (s.mon n node).addr, tag := tag, status := 2, args := [] } := by
  obtain ⟨t, maker, root, ht, hmon⟩ := execSyncReset_mon h sf x
  refine ⟨t, ht, ?_⟩
  rw [hmon, Monitor.run_syncReset _ _ _ _ _ _ _ (by omega) (syncDistance (by omega) (by omega)), if_neg (by omega), if_neg (by omega)]
  exact ⟨rfl, rfl⟩

theorem mon_sweeps {mask : Nat} (h : s.monTakes n node tag) (hmask : mask < 256) :
    ∃ t, exec (.sweep n node tag mask) s = .next t ∧ s.onlyMon t n node ∧
      t.mon n node = (s.mon n node).responds { op := 5, target := node, tag := tag, args := args12 (leBytes 1 mask) }
        (if (s.mon n node).sweepBusy then (4, [], s.mon n node)
         else (0, [], { s.mon n node with sweepBusy := true, sweepMask := mask })) := by
  obtain ⟨t, sf, maker, root, ht, honly, hmon⟩ :=
    State.monTakes_step h false { op := 5, target := node, tag := tag, args := args12 (leBytes 1 mask) } (by simp) rfl 0
  rw [Monitor.run_sweep _ _ _ _ _ _ _ hmask] at hmon
  exact ⟨t, congrArg Host.Outcome.next ht, honly, hmon⟩

theorem mon_closesSwitch {p : Nat} (h : s.monTakes n node tag) (hp : p < 16) :
    ∃ t, exec (.switchTest n node tag p 1) s = .next t ∧ s.onlyMon t n node ∧ bit (t.mon n node).bal p = true ∧
      (t.mon n node).ovr = some (p, 64) := by
  obtain ⟨t, sf, maker, root, ht, honly, hmon⟩ := State.monTakes_step h false
    { op := 6, target := node, tag := tag, args := args12 (leBytes 1 p ++ leBytes 1 1) } (by simp) rfl 0
  refine ⟨t, congrArg Host.Outcome.next ht, honly, ?_⟩
  rw [hmon, Monitor.run_switchClose _ _ _ _ _ _ _ hp]
  exact ⟨bit_withBit_same (s.mon n node).bal p true, rfl⟩

theorem mon_followsBal {p : Nat} (h : s.monTakes n node tag) (hp : p < 16) :
    ∃ t, exec (.switchTest n node tag p 2) s = .next t ∧ s.onlyMon t n node ∧ (t.mon n node).ovr = none ∧
      (t.mon n node).bal = limitBal (bits ((s.mon n node).regs.getD 8 0x21) 4 0) (bit ((s.mon n node).regs.getD 8 0x21) 5)
        (s.mon n node).count (s.mon n node).balReq := by
  obtain ⟨t, sf, maker, root, ht, honly, hmon⟩ := State.monTakes_step h false
    { op := 6, target := node, tag := tag, args := args12 (leBytes 1 p ++ leBytes 1 2) } (by simp) rfl 0
  refine ⟨t, congrArg Host.Outcome.next ht, honly, ?_⟩
  rw [hmon, Monitor.run_switchFollow _ _ _ _ _ _ _ hp]
  exact ⟨rfl, rfl⟩

theorem mon_sleeps {ms : Nat} {tl : Int} (h : s.monTakes n node tag) (onB : Bool) (hms : ms < 2 ^ 32) (hlo : -32768 ≤ tl)
    (hhi : tl ≤ 32767) :
    ∃ t, exec (.sleep n onB node tag ms tl) s = .next t ∧ s.onlyMon t n node ∧ (t.mon n node).asleep = true ∧
      (t.mon n node).checkMs = ms ∧ (t.mon n node).tLimit = tl ∧ (t.mon n node).bal = 0 := by
  obtain ⟨t, sf, maker, root, ht, honly, hmon⟩ := State.monTakes_step h onB
    { op := 10, target := node, tag := tag, args := args12 (leBytes 4 ms ++ leBytes 2 (ofSigned 16 tl)) } (by simp) rfl 0
  refine ⟨t, congrArg Host.Outcome.next ht, honly, ?_⟩
  rw [hmon, Monitor.run_sleep _ _ _ _ _ _ _ hms hlo hhi]
  exact ⟨rfl, rfl, rfl, rfl⟩

theorem mon_selftests {r : Nat} (h : s.monTakes n node tag) (onB : Bool) (hr : r < 64) :
    ∃ t, exec (.selftest n onB node tag r) s = .next t ∧ s.onlyMon t n node ∧ (t.mon n node).selfRes = r ∧
      (t.mon n node).selfFail = decide (r ≠ 0) := by
  obtain ⟨t, sf, maker, root, ht, honly, hmon⟩ :=
    State.monTakes_step h onB { op := 11, target := node, tag := tag, args := args12 [] } (by simp) rfl (r % 64)
  refine ⟨t, congrArg Host.Outcome.next ht, honly, ?_⟩
  rw [hmon, Monitor.run_selftest, Nat.mod_eq_of_lt hr]
  exact ⟨rfl, rfl⟩

end

/-- Settles O29: each command is one case of what a monitor executes, with the fields of its ARGS. -/
theorem monitorCommandsExecuted : Obligations.MonitorCommandsExecuted := by
  unfold Obligations.MonitorCommandsExecuted
  refine ⟨fun s n node tag a onB h ha => ?_, fun s n node tag ctr onB h => ?_, fun s n node tag v onB h hv => mon_writes h onB ?_,
    fun s n node tag a v onB h hv ha => mon_writes h onB ?_, fun s n node tag v onB h hv hlo hhi => mon_writes h onB ?_,
    fun s n node tag v onB h hlo hhi => mon_writes h onB ?_, fun s n node tag a v onB h ha => ?_,
    fun s n node tag first count serial h h1 h2 h3 => mon_commissions h h1 h2 h3,
    fun s n node tag sf x h hlt hle hx => mon_syncResets h hlt hle hx, fun s n node tag sf x h hle hsf => mon_syncResetsNext h hle hsf,
    fun s n node tag sf x h hlt hx => mon_syncTooFar h hlt hx, fun s n node tag mask h hmask hidle => ?_,
    fun s n node tag mask h hmask hbusy => ?_, fun s n node tag p h hp => mon_closesSwitch h hp,
    fun s n node tag p h hp => mon_followsBal h hp, fun s n node tag ms tl onB h hms hlo hhi => mon_sleeps h onB hms hlo hhi,
    fun s n node tag r onB h hr => mon_selftests h onB hr, fun s n node tag mask r hgal hlen h1 hmons hlast htag => ?_⟩
  · obtain ⟨t, sf, maker, root, ht, honly, hmon⟩ :=
      State.monTakes_step h onB { op := 2, target := node, tag := tag, args := args12 (leBytes 2 a) } (by simp) rfl 0
    refine ⟨t, congrArg Host.Outcome.next ht, honly, ?_⟩
    rw [hmon, Monitor.run_readReg _ _ _ _ _ _ _ ha]
    exact ⟨rfl, rfl⟩
  · obtain ⟨t, sf, maker, root, ht, honly, hmon⟩ :=
      State.monTakes_step h onB { op := 1, target := node, tag := tag, args := args12 [] } (by simp) rfl 0
    refine ⟨t, congrArg Host.Outcome.next ht, honly, ?_⟩
    rw [hmon]
    exact ⟨rfl, _, rfl, rfl, rfl⟩
  · intro sf maker root
    rw [Monitor.run_writeReg _ _ _ _ _ _ _ (by decide) hv]
    exact if_pos rfl
  · intro sf maker root
    rw [Monitor.run_writeReg _ _ _ _ _ _ _ (by omega) hv]
    exact (if_neg (by omega)).trans (if_pos ha)
  · intro sf maker root
    rw [Monitor.run_writeReg _ _ _ _ _ _ _ (by decide) (by omega)]
    simp [hlo, hhi, Nat.mod_eq_of_lt hv]
  · intro sf maker root
    rw [Monitor.run_writeReg _ _ _ _ _ _ _ (by decide) (by omega)]
    simp [Nat.mod_eq_of_lt (show v < 16 by omega), show v ≠ 0 by omega]
  · obtain ⟨t, sf, maker, root, ht, honly, hmon⟩ :=
      State.monTakes_step h onB { op := 3, target := node, tag := tag, args := regArgs a v } (by simp) rfl 0
    refine ⟨t, congrArg Host.Outcome.next ht, honly, ?_⟩
    rw [hmon, Monitor.run_writeReadOnly _ _ _ _ _ _ _ v ha]
    exact ⟨rfl, rfl⟩
  · obtain ⟨t, ht, honly, hmon⟩ := mon_sweeps h hmask
    rw [hidle, if_neg Bool.false_ne_true] at hmon
    refine ⟨t, ht, honly, ?_⟩
    rw [hmon]
    exact ⟨rfl, rfl⟩
  · obtain ⟨t, ht, honly, hmon⟩ := mon_sweeps h hmask
    rw [hbusy, if_pos rfl] at hmon
    refine ⟨t, ht, honly, ?_⟩
    rw [hmon]
    rfl
  · obtain ⟨maker, honly, hmon⟩ := State.unitExec_monitor (State.onlyMon.refl s n node) hgal (State.lt_of_hasGal hgal hlen) h1 hmons
      false { op := 5, target := node, tag := tag, args := args12 (leBytes 1 mask) } 0
    exact ⟨_, rfl, honly, hmon.trans (Monitor.exec_repeats (by simp) hlast htag ..)⟩

end Sys2Proof.Machine
end

section
/-! O33: sampling, comparators, sweeps and sleep at the head and the monitors of a string (chapter 5). Each of these commands changes one
unit by a function of its own; the lemmas say what that function does to the unit. -/
namespace Sys2Proof.Machine
set_option Elab.async false

/-! ### A change of one unit -/

/-- A change of the head of a string that the part has changes the head alone. -/
theorem State.onlyHead_updHead {s : State} {n : Nat} (hn : n < s.gal.length) (f : Head → Head) : s.onlyHead (s.updHead n f) n :=
  ⟨rfl, fun _ hm => State.g_updG_other s hm _, by rw [State.updHead, State.g_updG_same hn]⟩

/-- A command that changes one monitor. -/
theorem State.onlyMon_step {s : State} {n node : Nat} (hgal : s.hasGal n = true) (hlen : s.gal.length = 32) (h1 : 1 ≤ node)
    (hmons : node ≤ (s.g n).mons.length) (f : Monitor → Monitor) :
    s.onlyMon (s.updMon n node f) n node ∧ (s.updMon n node f).mon n node = f (s.mon n node) :=
  ⟨(State.onlyMon.refl s n node).updMon h1 f, State.mon_updMon_same (State.lt_of_hasGal hgal hlen) (by omega) f⟩

/-! ### The comparators of a monitor -/

/-- A bit of a word in which one bit may have been written. -/
theorem bit_ite_withBit (c : Prop) [Decidable c] (w i j : Nat) (b : Bool) :
    bit (if c then withBit w j b else w) i = if c ∧ i = j then b else bit w i := by
  by_cases hc : c
  · rw [if_pos hc, bit_withBit]
    simp only [hc, true_and]
  · rw [if_neg hc, if_neg fun h => hc h.1]

section
variable (m : Monitor) (pos outs : Nat) (value : Int)

/-- Debounced outputs above the threshold set the OV bit. -/
theorem Monitor.compare_ov (hov : toSigned 32 (m.regs.getD 6 0) ≠ 0) (habove : toSigned 32 (m.regs.getD 6 0) < value)
    (hdeb : m.regs.getD 9 2 ≤ outs) : bit (m.compare pos value outs).cmp pos = true := by
  have hnotIn : ¬ value ≤ toSigned 32 (m.regs.getD 6 0) - 2000 := by omega
  have hrun : m.regs.getD 9 2 ≤ m.ovRun.getD pos 0 + outs := by omega
  have hother : pos ≠ 16 + pos := by omega
  simp only [Monitor.compare, bit_ite_withBit, bit_withBit, hother, and_false, if_false, decide_eq_false hov, decide_eq_false hnotIn, Bool.or_self,
    Bool.false_eq_true, decide_eq_true hov, decide_eq_true habove, Bool.and_self, if_true, hrun, and_self]

/-- Debounced outputs below the threshold set the UV bit. -/
theorem Monitor.compare_uv (huv : toSigned 32 (m.regs.getD 7 0) ≠ 0) (hbelow : value < toSigned 32 (m.regs.getD 7 0))
    (hdeb : m.regs.getD 9 2 ≤ outs) : bit (m.compare pos value outs).cmp (16 + pos) = true := by
  have hnotIn : ¬ toSigned 32 (m.regs.getD 7 0) + 2000 ≤ value := by omega
  have hrun : m.regs.getD 9 2 ≤ m.uvRun.getD pos 0 + outs := by omega
  have hother : 16 + pos ≠ pos := by omega
  simp only [Monitor.compare, bit_ite_withBit, bit_withBit, hother, and_false, if_false, decide_eq_false huv, decide_eq_false hnotIn, Bool.or_self,
    Bool.false_eq_true, decide_eq_true huv, decide_eq_true hbelow, Bool.and_self, if_true, hrun, and_self]

/-- Debounced outputs inside both thresholds by 2,000 uV clear both bits. -/
theorem Monitor.compare_inside (hlo : toSigned 32 (m.regs.getD 7 0) + 2000 ≤ value) (hhi : value ≤ toSigned 32 (m.regs.getD 6 0) - 2000)
    (hdeb : m.regs.getD 9 2 ≤ outs) :
    bit (m.compare pos value outs).cmp pos = false ∧ bit (m.compare pos value outs).cmp (16 + pos) = false := by
  have hover : m.regs.getD 9 2 ≤ m.okRun.getD pos 0 + outs := by omega
  have hunder : m.regs.getD 9 2 ≤ m.okRunU.getD pos 0 + outs := by omega
  have hother : pos ≠ 16 + pos := by omega
  simp only [Monitor.compare, bit_ite_withBit, bit_withBit, decide_eq_true hlo, decide_eq_true hhi, Bool.or_true, if_true, hover, hunder, hother,
    and_self, and_false, if_false]

end

/-! ### The comparators of the head -/

/-- A comparator bit that is set latches the inhibit of a head that holds (R148). -/
theorem Head.localCheck_latches {h : Head} {b : Nat} (hb : bit h.cmp b = true) :
    bit h.localCheck.cmp b = true ∧ (h.holding = true → h.localCheck.latch = true ∧ h.localCheck.local_ = true) := by
  have hany : h.anyCmp = true := by
    have hne : h.cmp ≠ 0 := fun h0 => by simp [h0] at hb
    simp [Head.anyCmp, hne]
  unfold Head.localCheck
  split
  next => exact ⟨hb, fun _ => ⟨rfl, rfl⟩⟩
  next hno => exact ⟨hb, fun hold => absurd (by rw [hold, hany]; rfl) hno⟩

theorem Head.compare_holding (h : Head) (b outs : Nat) (value : Int) : (h.compare b value outs).holding = h.holding := rfl

/-- The shunt current beyond its threshold, by magnitude. -/
theorem Head.compare_shunt (h : Head) {outs : Nat} {value : Int} (hlim : toSigned 32 (h.regs.getD 6 0) ≠ 0)
    (hbeyond : toSigned 32 (h.regs.getD 6 0) < value.natAbs) (houts : 1 ≤ outs) : bit (h.compare 0 value outs).cmp 0 = true := by
  have hrun : 1 ≤ SMap.get (fun _ => 0) h.cmpRun 0 + outs := by omega
  simp [Head.compare, hlim, hbeyond, hrun, -List.getD_eq_getElem?_getD, -Nat.cast_natAbs]

/-- The bus voltage below its threshold. -/
theorem Head.compare_bus (h : Head) {outs : Nat} {value : Int} (hlim : toSigned 32 (h.regs.getD 9 0) ≠ 0)
    (hbelow : value < toSigned 32 (h.regs.getD 9 0)) (houts : 1 ≤ outs) : bit (h.compare 3 value outs).cmp 3 = true := by
  have hrun : 1 ≤ SMap.get (fun _ => 0) h.cmpRun 3 + outs := by omega
  simp [Head.compare, hlim, hbelow, hrun, -List.getD_eq_getElem?_getD]

/-- A comparator of the head that trips sets its bit, and in HOLD the latch. -/
theorem execComparatorTrip_head {s : State} {n b outs : Nat} {value : Int} (hgal : s.hasGal n = true) (hlen : s.gal.length = 32)
    (hb : b ≤ 5) (htrip : bit ((s.g n).head.compare b value outs).cmp b = true) :
    ∃ t, exec (.comparatorTrip n 0 b value outs) s = .next t ∧ s.onlyHead t n ∧ bit (t.g n).head.cmp b = true ∧
      ((s.g n).head.holding = true → (t.g n).head.latch = true ∧ (t.g n).head.local_ = true) := by
  have hn := State.lt_of_hasGal hgal hlen
  rw [exec, execComparatorTrip, hgal, Bool.not_true, if_neg Bool.false_ne_true, if_pos rfl, if_pos (Or.inl hb), exists_next]
  rw [State.head_updHead hn]
  exact ⟨State.onlyHead_updHead hn _, Head.localCheck_latches htrip⟩

/-- A comparator of a monitor's position. -/
theorem execComparatorTrip_mon {s : State} {n node pos : Nat} (hgal : s.hasGal n = true) (hlen : s.gal.length = 32) (h1 : 1 ≤ node)
    (hmons : node ≤ (s.g n).mons.length) (hpos : pos < (s.mon n node).count) (value : Int) (outs : Nat) :
    ∃ t, exec (.comparatorTrip n node pos value outs) s = .next t ∧ s.onlyMon t n node ∧
      t.mon n node = (s.mon n node).compare pos value outs := by
  have h16 : pos < 16 := hpos.trans_le (Nat.min_le_left ..)
  rw [exec, execComparatorTrip, hgal, Bool.not_true, if_neg Bool.false_ne_true, if_neg (by omega), if_pos ⟨hpos, h16⟩, exists_next]
  exact State.onlyMon_step hgal hlen h1 hmons _

/-! ### Sampling -/

/-- S(k): the head takes its own readings and each monitor those of its positions. -/
theorem execSampleLatch_takes {s : State} {n : Nat} (r : Reading) (hgal : s.hasGal n = true) (hlen : s.gal.length = 32)
    (hat : (s.g n).head.sampleAt ≠ 0xFFFF) :
    ∃ t, exec (.sampleLatch n r) s = .next t ∧ (t.g n).head.meas.take 4 = [r.shunt, r.hall, r.bus, r.string] ∧
      (∀ node, 1 ≤ node → node ≤ (s.g n).mons.length →
        (t.mon n node).v = (List.range 16).map (fun i => (r.volts.getD (node - 1) []).getD i 0x800000)) ∧ ∀ k, t.val k = s.val k := by
  have hn := State.lt_of_hasGal hgal hlen
  rw [exec, execSampleLatch, hgal, Bool.not_true, if_neg Bool.false_ne_true, if_neg hat, exists_next]
  rw [State.g_updG_same (by rw [State.updHead]; exact hn.trans_eq (modAt_length ..).symm), State.updHead, State.g_updG_same hn]
  refine ⟨rfl, fun node h1 hmons => ?_, fun k => rfl⟩
  have hlt : node - 1 < (s.g n).mons.length := by omega
  rw [State.mon, State.g_updG_same (by exact hn.trans_eq (modAt_length ..).symm), State.g_updG_same hn]
  simp [List.getD_eq_getElem?_getD, hlt]

/-- A sample that was not announced: no data at the monitors. -/
theorem execSampleLatch_none {s : State} {n : Nat} (r : Reading) (hgal : s.hasGal n = true) (hlen : s.gal.length = 32)
    (hat : (s.g n).head.sampleAt = 0xFFFF) :
    ∃ t, exec (.sampleLatch n r) s = .next t ∧ (t.g n).head = (s.g n).head ∧
      (∀ node, 1 ≤ node → node ≤ (s.g n).mons.length → (t.mon n node).v = List.replicate 16 0x800000) ∧ ∀ k, t.val k = s.val k := by
  have hn := State.lt_of_hasGal hgal hlen
  rw [exec, execSampleLatch, hgal, Bool.not_true, if_neg Bool.false_ne_true, if_pos hat, exists_next, State.g_updG_same hn]
  refine ⟨rfl, fun node h1 hmons => ?_, fun k => rfl⟩
  have hlt : node - 1 < (s.g n).mons.length := by omega
  rw [State.mon, State.g_updG_same hn]
  simp [List.getD_eq_getElem?_getD, hlt]

/-! ### The sleeping stack -/

/-- A sleep check that is due: what it leaves of the monitor. -/
theorem execSleepCheck_due {s : State} {n node : Nat} (hgal : s.hasGal n = true) (hlen : s.gal.length = 32) (h1 : 1 ≤ node)
    (hmons : node ≤ (s.g n).mons.length) (hasleep : (s.mon n node).asleep = true)
    (hdue : s.passed (s.mon n node).checkAt (msTicks (s.mon n node).checkMs) = true) (volts temps : List Nat) (self : Nat) :
    ∃ t, exec (.sleepCheck n node volts temps self) s = .next t ∧ s.onlyMon t n node ∧ (t.mon n node).checkAt = s.root ∧
      (t.mon n node).checkFail = ((s.mon n node).checkFail || decide ((s.mon n node).checkWord volts temps self ≠ 0)) ∧
      (t.mon n node).lastCheck = (if (s.mon n node).checkWord volts temps self ≠ 0 then (s.mon n node).checkWord volts temps self
        else (s.mon n node).lastCheck) ∧
      (t.mon n node).burstAt = if (s.mon n node).checkWord volts temps self ≠ 0 then some s.root else (s.mon n node).burstAt := by
  have hgate : (s.hasGal n && decide (0 < node) && (s.mon n node).asleep &&
      s.passed (s.mon n node).checkAt (msTicks (s.mon n node).checkMs)) = true := by
    rw [hgal, hasleep, hdue, decide_eq_true (show 0 < node by omega)]
    rfl
  rw [exec, execSleepCheck]
  dsimp only
  rw [if_pos hgate, exists_next]
  obtain ⟨honly, hmon⟩ := State.onlyMon_step hgal hlen h1 hmons (fun m => { m with
    checkAt := s.root
    lastCheck := if decide ((s.mon n node).checkWord volts temps self ≠ 0) then (s.mon n node).checkWord volts temps self else m.lastCheck
    checkFail := m.checkFail || decide ((s.mon n node).checkWord volts temps self ≠ 0)
    selfFail := decide (bits self 5 4 ≠ 0)
    burstAt := if decide ((s.mon n node).checkWord volts temps self ≠ 0) then some s.root else m.burstAt })
  refine ⟨honly, ?_⟩
  rw [hmon]
  simp only [decide_eq_true_eq, and_self]

/-- Settles O33: what latches, compares, converts and sleeps, one unit at a time. -/
theorem readingsLatched : Obligations.ReadingsLatched := by
  unfold Obligations.ReadingsLatched
  refine ⟨fun s n r hgal hlen hat => execSampleLatch_takes r hgal hlen hat, fun s n r hgal hlen hat => execSampleLatch_none r hgal hlen hat,
    fun s n node pos outs value hgal hlen h1 hmons hpos hov habove hdeb => ?_,
    fun s n node pos outs value hgal hlen h1 hmons hpos huv hbelow hdeb => ?_,
    fun s n node pos outs value hgal hlen h1 hmons hpos hlo hhi hdeb => ?_,
    fun s n outs value hgal hlen hlim hbeyond houts =>
      execComparatorTrip_head hgal hlen (by decide) (Head.compare_shunt _ hlim hbeyond houts),
    fun s n outs value hgal hlen hlim hbelow houts => execComparatorTrip_head hgal hlen (by decide) (Head.compare_bus _ hlim hbelow houts),
    fun s n node temps hgal hlen h1 hmons hbusy => ?_, fun s n node hgal hlen h1 hmons hawake hdue => ?_,
    fun s n node self volts temps hgal hlen h1 hmons hasleep hdue hbad => ?_,
    fun s n node self volts temps hgal hlen h1 hmons hasleep hdue hgood => ?_, fun s n hgal hlen => ?_,
    fun s n node hgal hlen h1 hmons hasleep hfree => ?_⟩
  · obtain ⟨t, ht, honly, hmon⟩ := execComparatorTrip_mon hgal hlen h1 hmons hpos value outs
    exact ⟨t, ht, honly, hmon ▸ Monitor.compare_ov _ _ _ _ hov habove hdeb⟩
  · obtain ⟨t, ht, honly, hmon⟩ := execComparatorTrip_mon hgal hlen h1 hmons hpos value outs
    exact ⟨t, ht, honly, hmon ▸ Monitor.compare_uv _ _ _ _ huv hbelow hdeb⟩
  · obtain ⟨t, ht, honly, hmon⟩ := execComparatorTrip_mon hgal hlen h1 hmons hpos value outs
    exact ⟨t, ht, honly, hmon ▸ Monitor.compare_inside _ _ _ _ hlo hhi hdeb⟩
  · have hgate : (s.hasGal n && decide (0 < node) && (s.mon n node).sweepBusy) = true := by
      rw [hgal, hbusy, decide_eq_true (show 0 < node by omega)]
      rfl
    rw [exec, execSweepConversionDone, if_pos hgate, exists_next]
    obtain ⟨honly, hmon⟩ := State.onlyMon_step hgal hlen h1 hmons (fun m => { m with
      sweepBusy := false, tempLeft := 2
      temps := (List.range 8).map (fun i => if bit m.sweepMask i then temps.getD i 0x8000 else 0x8000) })
    rw [hmon]
    exact ⟨honly, rfl, rfl, rfl⟩
  · have hgate : (s.hasGal n && decide (0 < node) && !(s.mon n node).asleep && s.passed (s.mon n node).frameAt (msTicks 100)) = true := by
      rw [hgal, hawake, hdue, decide_eq_true (show 0 < node by omega)]
      rfl
    rw [exec, execMonitorFrameTimeout, if_pos hgate, exists_next]
    obtain ⟨honly, hmon⟩ := State.onlyMon_step hgal hlen h1 hmons (fun m => m.sleep 10000 6000 s.root)
    rw [hmon]
    exact ⟨honly, rfl, rfl, rfl, rfl⟩
  · obtain ⟨t, ht, honly, hat, hfail, hlast, hburst⟩ := execSleepCheck_due hgal hlen h1 hmons hasleep hdue volts temps self
    refine ⟨t, ht, honly, ?_, hlast.trans (if_pos hbad), hburst.trans (if_pos hbad)⟩
    rw [hfail, decide_eq_true hbad, Bool.or_true]
  · obtain ⟨t, ht, honly, hat, hfail, hlast, hburst⟩ := execSleepCheck_due hgal hlen h1 hmons hasleep hdue volts temps self
    have hnot : ¬ (s.mon n node).checkWord volts temps self ≠ 0 := not_not.mpr hgood
    refine ⟨t, ht, honly, hat, ?_, hlast.trans (if_neg hnot), hburst.trans (if_neg hnot)⟩
    rw [hfail, decide_eq_false hnot, Bool.or_false]
  · have hn := State.lt_of_hasGal hgal hlen
    rw [exec, execWakeBurst, hgal, Bool.not_true, if_neg Bool.false_ne_true, if_pos rfl, exists_next, State.head_updHead hn]
    exact ⟨State.onlyHead_updHead hn _, rfl, rfl⟩
  · have hstep : exec (.wakeBurst n node) s = .next (s.updMon n node (fun m => { m with burstAt := some s.root })) := by
      simp [exec, execWakeBurst, hgal, hasleep, hfree, show node ≠ 0 by omega]
    obtain ⟨honly, hmon⟩ := State.onlyMon_step hgal hlen h1 hmons (fun m => { m with burstAt := some s.root })
    exact ⟨_, hstep, honly, congrArg Monitor.burstAt hmon⟩

end Sys2Proof.Machine
end

section
/-! Which parts of the state the telemetry windows leave (part of the frame layer). -/
namespace Sys2Proof.Machine
set_option Elab.async false

def Eff.protTrip : List Eff := Eff.record ++ [.obj Obj.TWB_CFG.ALERT_PENDING, .twb] ++ [.gal 0x21 1, .gal 0x38 7, .gal 0x3e 33, .gal 0x21 3,
    .gal 0x21 4]
theorem State.Within.protTrip (s : State) (n bitNo pos) : s.Within Eff.protTrip (s.protTrip n bitNo pos) := by
  unfold State.protTrip
  exact (refl s).ite ((((((((refl s).raise .gal).raise .gal).op (alertBit ..)).inc .gal).setN .gal).setN .gal).op (record ..))

def Eff.setCause : List Eff := Eff.protTrip ++ [.gal 0x21 2, .grps]
theorem State.Within.setCause (s : State) (n bitNo on pos) : s.Within Eff.setCause (s.setCause n bitNo on pos) := by
  unfold State.setCause
  exact (((((refl s).setFlag .gal).op (protTrip ..)).updGrp).ite (((refl s).setFlag .gal).op (protTrip ..))).ite ((refl s).setFlag .gal)

def Eff.plausEval : List Eff := Eff.setCause ++ [.gal 0x21 7, .prot, .gal 0x21 6]
theorem State.Within.plausEval (s : State) (n shunt hall bus str phases) : s.Within Eff.plausEval (s.plausEval n shunt hall bus str phases)
    := by
  unfold State.plausEval
  dsimp only
  split
  · exact ((((((refl s).setR .gal).updProt).setN .gal).raise .gal).ite ((((((refl s).setR .gal).updProt).setN .gal).raise .gal).ite
      (((((refl s).setR .gal).updProt).setN .gal).op (setCause ..)))).ite ((((((refl s).setR .gal).updProt).setN .gal).op (setCause ..)).ite
      (((refl s).setR .gal).updProt))
  · exact ((refl s).setR .gal).updProt

def Eff.mismatchEval : List Eff := [.gal 0x11 17, .gal 0x11 18, .galRest, .gal 0x38 3]
theorem State.Within.mismatchEval (s : State) (n means) : s.Within Eff.mismatchEval (s.mismatchEval n means) := by
  refine .ite ?_ (refl s)
  split
  · exact (refl s)
  · exact (((((refl s).setR .gal).setN .gal).galRest).raise .gal).ite ((((refl s).setR .gal).setN .gal).galRest)

end Sys2Proof.Machine
end

section
/-! O37: RESTART, CONVERTER_ENABLE, the telemetry windows and the held peaks (R193 to R197, R82, R46). -/
namespace Sys2Proof.Machine
set_option Elab.async false

/-! ### Writes into a Gallery block -/

theorem placeOf_gal {n off : Nat} (hn : n < 32) (hoff : off < 0x40) : placeOf (0x4000 + 0x40 * n + off) = (.gal, off) := by
  rw [placeOf, if_pos (by omega)]
  exact congrArg _ (by omega)

theorem galOf_gal {n off : Nat} (hoff : off < 0x40) : galOf (0x4000 + 0x40 * n + off) = n := by
  unfold galOf
  omega

/-- A plain write into a Gallery block is held or stored (R82). -/
theorem storeVal_gal {n off : Nat} (hn : n < 32) (hoff : off < 0x40) (sub : Nat) (v : Val) (s : State) :
    storeVal (0x4000 + 0x40 * n + off) sub v s = .ok (s.holdVal n (galKey n off sub) v) := by
  rw [storeVal, placeOf_gal hn hoff, galOf_gal hoff, galKey]

/-- On a disabled string the value is in the object at once. -/
theorem State.holdVal_stores {s : State} {n : Nat} (hoff : s.strOn n = false) (k : Nat) (v : Val) :
    (s.holdVal n k v).val k = v ∧ s.sameBut (s.holdVal n k v) [k] := by
  rw [State.holdVal, hoff, if_neg Bool.false_ne_true]
  exact ⟨by simp, by simp +contextual [State.sameBut]⟩

/-- On an enabled string it waits, last, for the next control step. -/
theorem State.holdVal_waits {s : State} {n : Nat} (hon : s.strOn n = true) (hn : n < s.gal.length) (k : Nat) (v : Val) :
    ((s.holdVal n k v).g n).held.getLast? = some (k, v) ∧ ∀ x, (s.holdVal n k v).val x = s.val x := by
  rw [State.holdVal, hon, if_pos rfl]
  refine ⟨?_, fun x => rfl⟩
  rw [State.g_updG_same hn]
  exact List.getLast?_concat ..

/-! ### RESTART -/

theorem restart_taken {s : State} {p : Path} {n : Nat} (hn : n < s.gal.length) (h : s.takesWrite p (0x4008 + 0x40 * n) 9 [1] (.n 1))
    (hst : (s.g n).tread.state = .tripped) (htrip : s.tripOn n = false) (hinh : s.headInh n = false) :
    ∃ t, exec (.restart p n) s = .next t ∧ t.last = some (.ok []) ∧ (t.g n).tread = { (s.g n).tread with evRestart := true } ∧
      ∀ k, t.val k = s.val k := by
  have he : restartEff n (.n 1) s = .ok (s.updTread n (fun t => { t with evRestart := true })) := by
    rw [restartEff, hst, htrip, hinh]
    rfl
  rw [exec, execRestart, State.write_ok h he, exists_next]
  exact ⟨rfl, congrArg Gallery.tread (State.g_updG_same hn _ :), fun k => rfl⟩

theorem restart_refused {s : State} {p : Path} {n : Nat} (h : s.takesWrite p (0x4008 + 0x40 * n) 9 [1] (.n 1))
    (hno : (s.g n).tread.state ≠ .tripped ∨ s.tripOn n = true ∨ s.headInh n = true) :
    exec (.restart p n) s = .next (s.reply (.abort abortState)) := by
  have he : restartEff n (.n 1) s = .error abortState := by
    rw [restartEff, if_neg]
    rcases hno with hst | htrip | hinh
    · simp [hst]
    · simp [htrip]
    · simp [hinh]
  rw [exec, execRestart, State.write_refused h he]

/-! ### Telemetry windows -/

/-- An object of a Gallery block that an operation leaves. -/
theorem State.Within.getRG {s t : State} {E : List Eff} (h : s.Within E t) {n off sub : Nat} (hn : n < 32)
    (hk : (decide (off < 64) && decide (sub < 256) && E.all (fun e => !e.meetsGal off sub)) = true := by decide +kernel) :
    t.getR (galKey n off sub) = s.getR (galKey n off sub) :=
  congrArg Val.toR (h.valG hn hk)

/-- A window once it has ended: the next one is open, empty. -/
def Window.following (w : Window) (now len : Nat) (endAt : Nat) : Window := { idx := max (w.idx + 1) (now / len), endAt := endAt }

theorem Window.following_opens (w : Window) (now len endAt : Nat) : w.idx < (w.following now len endAt).idx ∧ (w.following now len endAt).count = 0 :=
  ⟨(Nat.lt_succ_self _).trans_le (Nat.le_max_left ..), rfl⟩

/-- Phase mismatch leaves the windows open. -/
theorem State.mismatchEval_w100 (s : State) (n : Nat) (means : List (Option Q)) :
    ((s.mismatchEval n means).g n).telem.w100 = (s.g n).telem.w100 := by
  have hupd (u : State) (k : Nat) : ((u.updG n (fun g => { g with telem := { g.telem with mismatch := k } })).g n).telem.w100 =
      (u.g n).telem.w100 := by
    rw [State.g_updG]
    split <;> rfl
  unfold State.mismatchEval
  dsimp only
  split
  · split
    · rfl
    next p m _ =>
      generalize (if decide (s.getQ (Gal.CONV_CFG.MISMATCH_WARN n) < m) = true then (s.g n).telem.mismatch + 1 else 0) = k
      split
      · exact hupd ((s.setR _ _).setN _ _) _
      · exact hupd ((s.setR _ _).setN _ _) _
  · rfl

/-- Readings stored under several keys leave the strings and every other object. -/
theorem State.foldl_setR (l : List Nat) (key : Nat → Nat) (x : Nat → Option Q) (s : State) :
    (l.foldl (fun u p => u.setR (key p) (x p)) s).gal = s.gal ∧
    ∀ k, (∀ p ∈ l, k ≠ key p) → (l.foldl (fun u p => u.setR (key p) (x p)) s).val k = s.val k := by
  refine List.foldlRecOn (motive := fun u : State => u.gal = s.gal ∧ ∀ k, (∀ p ∈ l, k ≠ key p) → u.val k = s.val k) l _
    ⟨rfl, fun _ _ => rfl⟩ fun u hu p hp => ⟨hu.1, fun k hk => ?_⟩
  rw [State.setR, State.val_put, if_neg (hk p hp), hu.2 k hk]

/-- The rest of a gallery, as far as an operation leaves it, holds the telemetry. -/
theorem State.Within.telem {s t : State} {E : List Eff} (h : s.Within E t) (hE : .galRest ∉ E := by decide +kernel) (n : Nat) :
    (t.g n).telem = (s.g n).telem := by
  have hrest : (t.g n).rest = (s.g n).rest := h.kept .galRest hE n
  exact (congrArg Gallery.telem hrest :)

/-- The four means that a window publishes. -/
def Window.means (w : Window) (len startAt : Nat) : List (Option Q) := [0, 1, 2, 3].map (fun i => w.mean len startAt (w.sums.getD i 0))

theorem telemetryWindow_second {s : State} {n : Nat} (hlen : s.gal.length = 32) (hon : s.strOn n = true)
    (hdue : ((s.g n).telem.w1s.idx + 1) * 312500000 ≤ s.now) :
    ∃ t, exec (.telemetryWindow n true) s = .next t ∧ (s.g n).telem.w1s.idx < (t.g n).telem.w1s.idx ∧ (t.g n).telem.w1s.count = 0 ∧
      t.getN (Gal.TELEMETRY.MISSING_1S n) = 31250 - (s.g n).telem.w1s.count ∧
      [t.getR (Gal.TELEMETRY.I_1S n), t.getR (Gal.TELEMETRY.P_1S n), t.getR (Gal.TELEMETRY.BUS_V_1S n),
        t.getR (Gal.TELEMETRY.STRING_V_1S n)] = (s.g n).telem.w1s.means 312500000 (s.g n).telem.startAt := by
  have hgal : s.hasGal n = true := by
    rw [State.strOn, Bool.and_assoc, Bool.and_eq_true] at hon
    exact hon.1
  have hn := State.lt_of_hasGal hgal hlen
  rw [exec, execTelemetryWindow]
  simp only [if_true, hgal, hon, decide_eq_true hdue, Bool.and_self]
  rw [exists_next]
  unfold State.windowClose
  extract_lets len tl w m at_ key had s1 s2 s3 s4 w' s5 s6
  obtain ⟨endAt, hw'⟩ : ∃ endAt, w' = w.following s4.now len endAt := ⟨_, rfl⟩
  have hs5 : (s5.g n).telem.w1s = w' := by
    show (State.g (State.updG s4 n _) n).telem.w1s = w'
    rw [State.g_updG_same (by exact hn)]
    rfl
  have hs6 : (s6.g n).telem.w1s = w' := hs5
  have hval : s6.getN (Gal.TELEMETRY.MISSING_1S n) = 31250 - w.count ∧
      [s6.getR (Gal.TELEMETRY.I_1S n), s6.getR (Gal.TELEMETRY.P_1S n), s6.getR (Gal.TELEMETRY.BUS_V_1S n),
        s6.getR (Gal.TELEMETRY.STRING_V_1S n)] = w.means len tl.startAt := by
    simp (decide := true) [s6, s5, s4, s3, s2, s1, key, Gal.TELEMETRY.MISSING_1S, Gal.TELEMETRY.I_1S, Gal.TELEMETRY.P_1S,
      Gal.TELEMETRY.BUS_V_1S, Gal.TELEMETRY.STRING_V_1S, Window.means, at_, m]
  have hend : (s.g n).telem.w1s.idx < (s6.g n).telem.w1s.idx ∧ (s6.g n).telem.w1s.count = 0 := by
    rw [hs6, hw']
    exact w.following_opens ..
  rw [if_pos rfl]
  split
  · have hest := State.Within.updEst (s := s6) (E := [.est]) (n := n) (f := fun e => { e with restAt := s6.now, corrAt := none })
      (State.Within.refl s6)
    rw [hest.telem]
    exact ⟨hend.1, hend.2, hval⟩
  · exact ⟨hend.1, hend.2, hval⟩

theorem telemetryWindow_tenth {s : State} {n : Nat} (hlen : s.gal.length = 32) (hon : s.strOn n = true)
    (hdue : ((s.g n).telem.w100.idx + 1) * 31250000 ≤ s.now) :
    ∃ t, exec (.telemetryWindow n false) s = .next t ∧ (s.g n).telem.w100.idx < (t.g n).telem.w100.idx ∧ (t.g n).telem.w100.count = 0 ∧
      [t.getR (Gal.TELEMETRY.I_100MS n), t.getR (Gal.TELEMETRY.P_100MS n), t.getR (Gal.TELEMETRY.BUS_V_100MS n),
        t.getR (Gal.TELEMETRY.STRING_V_100MS n)] = (s.g n).telem.w100.means 31250000 (s.g n).telem.startAt := by
  have hgal : s.hasGal n = true := by
    rw [State.strOn, Bool.and_assoc, Bool.and_eq_true] at hon
    exact hon.1
  have hn := State.lt_of_hasGal hgal hlen
  have h32 : n < 32 := hn.trans_eq hlen
  rw [exec, execTelemetryWindow]
  simp only [Bool.false_eq_true, if_false, if_true, hgal, hon, decide_eq_true hdue, Bool.and_self]
  rw [exists_next]
  unfold State.windowClose
  extract_lets len tl w m at_ key had s1 s2 s3 s4 w' s5 missing used ps s6
  obtain ⟨endAt, hw'⟩ : ∃ endAt, w' = w.following s4.now len endAt := ⟨_, rfl⟩
  have hs5 : (s5.g n).telem.w100 = w' := by
    show (State.g (State.updG s4 n _) n).telem.w100 = w'
    rw [State.g_updG_same (by exact hn)]
    rfl
  obtain ⟨hgal6, hval6⟩ : s6.gal = s5.gal ∧ ∀ k, (∀ p ∈ List.range 8, k ≠ Gal.PHASE_TELEM.PHASE_I n p) → s6.val k = s5.val k :=
    State.foldl_setR ..
  have hplaus := State.Within.plausEval (s6.mismatchEval n ps) n (at_ 5) (at_ 4) (at_ 2) (at_ 3) ps
  have hmis := State.Within.mismatchEval s6 n ps
  have hw : (((s6.mismatchEval n ps).plausEval n (at_ 5) (at_ 4) (at_ 2) (at_ 3) ps).g n).telem.w100 = w' := by
    rw [hplaus.telem, State.mismatchEval_w100, State.g, hgal6]
    exact hs5
  have hreads {off sub : Nat} (ho : off = 0x10) (hs : sub < 256)
      (hk : ((decide (off < 64) && decide (sub < 256) && Eff.plausEval.all (fun e => !e.meetsGal off sub)) &&
        (decide (off < 64) && decide (sub < 256) && Eff.mismatchEval.all (fun e => !e.meetsGal off sub))) = true) :
      ((s6.mismatchEval n ps).plausEval n (at_ 5) (at_ 4) (at_ 2) (at_ 3) ps).getR (galKey n off sub) = s5.getR (galKey n off sub) := by
    rw [Bool.and_eq_true] at hk
    rw [hplaus.getRG h32 hk.1, hmis.getRG h32 hk.2]
    refine congrArg Val.toR (hval6 _ fun p hp => ?_)
    have := List.mem_range.mp hp
    unfold Gal.PHASE_TELEM.PHASE_I galKey keyOf
    omega
  rw [if_neg Bool.false_ne_true]
  refine ⟨?_, ?_, ?_⟩
  · rw [hw, hw']
    exact (w.following_opens ..).1
  · rw [hw, hw']
    exact (w.following_opens ..).2
  · rw [Gal.TELEMETRY.I_100MS, Gal.TELEMETRY.P_100MS, Gal.TELEMETRY.BUS_V_100MS, Gal.TELEMETRY.STRING_V_100MS]
    rw [hreads rfl (by decide) (by decide +kernel), hreads rfl (by decide) (by decide +kernel), hreads rfl (by decide) (by decide +kernel),
      hreads rfl (by decide) (by decide +kernel)]
    have hfour : [s5.getR (galKey n 0x10 2), s5.getR (galKey n 0x10 5), s5.getR (galKey n 0x10 8), s5.getR (galKey n 0x10 11)] =
        w.means len tl.startAt := by
      simp (decide := true) [s5, s4, s3, s2, s1, key, Gal.TELEMETRY.I_100MS, Gal.TELEMETRY.P_100MS, Gal.TELEMETRY.BUS_V_100MS,
        Gal.TELEMETRY.STRING_V_100MS, Window.means, at_, m]
    exact hfour

/-! ### Held peaks -/

/-- A held peak has been read: not-a-number until the next superframe. -/
theorem peakRead_step {s : State} {p : Path} {n i : Nat} (h : s.takesRead p (peakPlace n i).1 (peakPlace n i).2) :
    s.readWith p (peakPlace n i).1 (peakPlace n i).2 (peakReadOf n i) =
      ((s.setR (peakKey n i) none).updG n (fun g => { g with telem := { g.telem with
        peakNew := modAt g.telem.peakNew i (fun _ => false) } })).reply
        (.ok (leBytes 4 (bitsOfReal (if (s.g n).telem.peakNew.getD i false then s.getR (peakKey n i) else none)))) := by
  rw [State.readWith_taken h]
  rfl

/-- The marks of the peaks after a change of one. -/
theorem State.peakNew_upd {s : State} {n i : Nat} (hn : n < s.gal.length) (hi : i < (s.g n).telem.peakNew.length) (b d : Bool) :
    (((s.updG n (fun g => { g with telem := { g.telem with peakNew := modAt g.telem.peakNew i (fun _ => b) } })).g n).telem.peakNew.getD i d) =
      b := by
  rw [State.g_updG_same hn, modAt_getD, if_pos ⟨rfl, hi⟩]

theorem peakRead_alone {s : State} {p : Path} {n i : Nat} (hn : n < s.gal.length) (hi : i < 11) (hnew : (s.g n).telem.peakNew.length = 11)
    (h : s.takesRead p (peakPlace n i).1 (peakPlace n i).2) :
    ∃ t, exec (.peakRead p n ⟨i, none⟩) s = .next t ∧
      t.last = some (.ok (leBytes 4 (bitsOfReal (if (s.g n).telem.peakNew.getD i false then s.getR (peakKey n i) else none)))) ∧
      t.getR (peakKey n i) = none ∧ (t.g n).telem.peakNew.getD i true = false ∧ s.sameBut t [peakKey n i] := by
  rw [exec, execPeakRead]
  dsimp only
  rw [if_pos hi, exists_next, peakRead_step h]
  refine ⟨rfl, by simp, ?_, by simp +contextual [State.sameBut]⟩
  exact State.peakNew_upd (s := s.setR (peakKey n i) none) hn (hnew ▸ hi) false true

/-- A new peak in the cycle of the read is held after it. -/
theorem peakRead_meets {s : State} {p : Path} {n i : Nat} (x : Q) (hn : n < s.gal.length) (hon : s.strOn n = true) (hi : i < 11)
    (hnew : (s.g n).telem.peakNew.length = 11) (h : s.takesRead p (peakPlace n i).1 (peakPlace n i).2) :
    ∃ t, exec (.peakRead p n ⟨i, some x⟩) s = .next t ∧
      t.last = some (.ok (leBytes 4 (bitsOfReal (if (s.g n).telem.peakNew.getD i false then s.getR (peakKey n i) else none)))) ∧
      t.getR (peakKey n i) = some x ∧ (t.g n).telem.peakNew.getD i false = true ∧ s.sameBut t [peakKey n i] := by
  rw [exec, execPeakRead]
  dsimp only
  rw [if_pos hi, hon, if_pos rfl, exists_next, peakRead_step h]
  generalize hr : Reply.ok (leBytes 4 (bitsOfReal (if (s.g n).telem.peakNew.getD i false then s.getR (peakKey n i) else none))) = r
  have hseen := State.peakNew_upd (s := s.setR (peakKey n i) none) hn (hnew ▸ hi) false false
  obtain ⟨u, hu, hlast, hval, hgal, hpeaks⟩ : ∃ u : State, State.reply ((s.setR (peakKey n i) none).updG n (fun g => { g with
      telem := { g.telem with peakNew := modAt g.telem.peakNew i (fun _ => false) } })) r = u ∧ u.last = some r ∧
      s.sameBut u [peakKey n i] ∧ u.gal.length = s.gal.length ∧ (u.g n).telem.peakNew.getD i false = false ∧
      (u.g n).telem.peakNew.length = 11 := by
    refine ⟨_, rfl, rfl, by simp +contextual [State.sameBut], modAt_length .., hseen, ?_⟩
    have hg := State.g_updG_same (s := s.setR (peakKey n i) none) hn (fun g => { g with telem := { g.telem with
      peakNew := modAt g.telem.peakNew i (fun _ => false) } })
    exact (congrArg (fun g : Gallery => g.telem.peakNew.length) hg :).trans ((modAt_length ..).trans hnew)
  rw [hu, State.peakHit]
  dsimp only
  rw [hpeaks.1]
  refine ⟨hlast, by simp [peakOf], State.peakNew_upd (s := u.setR _ _) (hgal ▸ hn) (hpeaks.2 ▸ hi) true false, fun k hk => ?_⟩
  have hne : k ≠ peakKey n i := by simpa using hk
  rw [State.val_updG, State.setR, State.val_put, if_neg hne, hval k hk]

/-- Settles O37. -/
theorem converterRequestsComplete : Obligations.ConverterRequestsComplete := by
  unfold Obligations.ConverterRequestsComplete
  have hindex (n : Nat) : 0x4008 + 0x40 * n = 0x4000 + 0x40 * n + 8 := by omega
  refine ⟨fun s p n hn hlen h hst htrip hinh => restart_taken (hlen ▸ hn) h hst htrip hinh, fun s p n h hno => restart_refused h hno,
    fun s p n on hn h hoff => ?_, fun s p n on hn hlen h hon => ?_,
    fun s n hlen hon hdue => telemetryWindow_second hlen hon hdue, fun s n hlen hon hdue => telemetryWindow_tenth hlen hon hdue,
    fun s p n i hn hlen hi hnew h => peakRead_alone (hlen ▸ hn) hi hnew h,
    fun s p n i x hn hlen hon hi hnew h => peakRead_meets x (hlen ▸ hn) hon hi hnew h⟩
  · rw [hindex] at h
    obtain ⟨hkey, hrest⟩ := State.holdVal_stores hoff (galKey n 8 1) (.n on)
    rw [exec, execConverterEnable, hindex, State.write_ok h (storeVal_gal hn (by decide) 1 _ s), exists_next]
    exact ⟨rfl, congrArg Val.toN hkey, hrest⟩
  · rw [hindex] at h
    obtain ⟨hlast, hval⟩ := State.holdVal_waits hon (hlen ▸ hn) (galKey n 8 1) (.n on)
    rw [exec, execConverterEnable, hindex, State.write_ok h (storeVal_gal hn (by decide) 1 _ s), exists_next]
    exact ⟨rfl, hval, hlast⟩

end Sys2Proof.Machine
end

section
/-! Which parts of the state the thermal stop request leaves (part of the frame layer). -/
namespace Sys2Proof.Machine
set_option Elab.async false

def Eff.stopCause : List Eff := Eff.record ++ [.gal 0x1d 12, .gal 0x1d 1, .gal 0x3e 32, .gal 0x38 6]
theorem State.Within.stopCause (s : State) (n bitNo on) : s.Within Eff.stopCause (s.stopCause n bitNo on) := by
  unfold State.stopCause
  exact (refl s).ite ((((((((refl s).setN .gal).setFlag .gal).inc .gal).raise .gal).ite (((refl s).setN .gal).setFlag .gal)).andThen fun h1
    => h1.op (record ..)).ite (((refl s).setN .gal).setFlag .gal))

end Sys2Proof.Machine
end

section
/-! O40: die temperatures, the rise stop and the sweep interval (chapter 9: R251, R252, R258, R260, R262, R263). -/
namespace Sys2Proof.Machine
set_option Elab.async false

/-! ### Masks and levels -/

theorem maskOf_succ (k : Nat) (f : Nat → Bool) : maskOf (k + 1) f = 2 ^ k * b2n (f k) + maskOf k f := by
  rw [maskOf, List.range_succ, List.foldl_concat, ← maskOf, Nat.add_comm, Nat.mul_comm]

theorem maskOf_lt (k : Nat) (f : Nat → Bool) : maskOf k f < 2 ^ k := by
  induction k with
  | zero => exact Nat.one_pos
  | succ k ih =>
    have hb : b2n (f k) ≤ 1 := by cases f k <;> decide
    have hmul : 2 ^ k * b2n (f k) ≤ 2 ^ k := (Nat.mul_le_mul_left _ hb).trans_eq (Nat.mul_one _)
    rw [maskOf_succ, pow_succ]
    omega

/-- A bit of a mask is what it was made of. -/
theorem bit_maskOf {k i : Nat} (hi : i < k) (f : Nat → Bool) : bit (maskOf k f) i = f i := by
  induction k with
  | zero => omega
  | succ k ih =>
    rw [maskOf_succ, bit, Nat.testBit_two_pow_mul_add _ (maskOf_lt k f)]
    rcases Nat.lt_succ_iff_lt_or_eq.mp hi with hlt | rfl
    · rw [if_pos hlt]
      exact ih hlt
    · rw [if_neg (Nat.lt_irrefl _), Nat.sub_self]
      cases f i <;> rfl

/-- The three levels of a die's word. -/
theorem bit_levels (a b c : Bool) : bit (b2n a + 2 * b2n b + 4 * b2n c) 2 = c := by
  cases a <;> cases b <;> cases c <;> rfl

/-- At or above its level a hysteresis state is on, -/
theorem hystState_on {was : Bool} {t level hyst : Q} (hh : 0 < hyst) (ht : level ≤ t) : hystState was t level hyst = true := by
  have hnot : ¬ t ≤ level - hyst := not_le.mpr ((sub_lt_self level hh).trans_le ht)
  cases was <;> simp [hystState, hnot, ht]

/-- and it is off once the hysteresis is passed. -/
theorem hystState_off {was : Bool} {t level hyst : Q} (hh : 0 < hyst) (ht : t ≤ level - hyst) : hystState was t level hyst = false := by
  have hnot : ¬ level ≤ t := not_le.mpr (ht.trans_lt (sub_lt_self level hh))
  cases was <;> simp [hystState, hnot, ht]

/-! ### The thermal stop request -/

/-- The objects that a thermal stop request of a string writes. -/
def stopKeys (n : Nat) : List Nat :=
  [Gal.THERMAL_STATUS.STOP_CAUSE n, Gal.THERMAL_STATUS.STATE n, Gal.COUNTERS.THERMAL_STOPS n, Gal.FAULTS.THERMAL_FAULTS n]

/-- No object of a Gallery block is the recorder's. -/
theorem galKey_notRecord (n off sub : Nat) : galKey n off sub ∉ recordKeys := by
  intro h
  have hlow : ∀ k ∈ recordKeys, k < 0x400000 := by decide
  have := hlow _ h
  unfold galKey keyOf at this
  omega

/-- A record leaves the objects of the Gallery blocks. -/
@[simp] theorem State.val_record_gal (s : State) (code cls inst sev : Nat) (d : List Byte) (n off sub : Nat) :
    (s.record code cls inst sev d).val (galKey n off sub) = s.val (galKey n off sub) :=
  ((State.onlyRecords.refl s).record code cls inst sev d).2 _ (galKey_notRecord n off sub)

@[simp] theorem State.getN_record_gal (s : State) (code cls inst sev : Nat) (d : List Byte) (n off sub : Nat) :
    (s.record code cls inst sev d).getN (galKey n off sub) = s.getN (galKey n off sub) :=
  congrArg Val.toN (s.val_record_gal code cls inst sev d n off sub)

/-- A cause of the request, and what comes of it: the cause stands as told; where it arises with none before, the request is set and
counted. -/
theorem State.stopCause_sets (s : State) (n b : Nat) (on : Bool) :
    (s.stopCause n b on).flag (Gal.THERMAL_STATUS.STOP_CAUSE n) b = on ∧
    (s.getN (Gal.THERMAL_STATUS.STOP_CAUSE n) = 0 → on = true →
      (s.stopCause n b on).flag (Gal.THERMAL_STATUS.STATE n) 5 = true ∧
      (s.stopCause n b on).flag (Gal.FAULTS.THERMAL_FAULTS n) 7 = true ∧
      (s.stopCause n b on).getN (Gal.COUNTERS.THERMAL_STOPS n) = min 0xFFFFFFFF (s.getN (Gal.COUNTERS.THERMAL_STOPS n) + 1)) := by
  by_cases hsame : bit (s.getN (Gal.THERMAL_STATUS.STOP_CAUSE n)) b = on
  · have hstop : s.stopCause n b on = s := by rw [State.stopCause, if_pos (by rw [hsame]; exact beq_self_eq_true on)]
    rw [hstop]
    refine ⟨hsame, fun h0 hon => ?_⟩
    rw [h0, hon, bit_zero] at hsame
    exact absurd hsame Bool.false_ne_true
  · have hbeq : ¬ (bit (s.getN (Gal.THERMAL_STATUS.STOP_CAUSE n)) b == on) = true := by simpa using hsame
    rw [State.stopCause]
    dsimp only
    rw [if_neg hbeq]
    cases on with
    | false =>
      rw [if_neg Bool.false_ne_true]
      refine ⟨?_, fun _ h => absurd h Bool.false_ne_true⟩
      simp (decide := true) [Gal.THERMAL_STATUS.STOP_CAUSE, Gal.THERMAL_STATUS.STATE]
    | true =>
      rw [if_pos rfl]
      refine ⟨?_, fun h0 _ => ?_⟩
      · split <;> simp (decide := true) [Gal.THERMAL_STATUS.STOP_CAUSE, Gal.THERMAL_STATUS.STATE, Gal.COUNTERS.THERMAL_STOPS,
          Gal.FAULTS.THERMAL_FAULTS]
      · have hset : withBit 0 b true ≠ 0 := fun h => by simpa [h] using bit_withBit_same 0 b true
        rw [if_pos h0, h0]
        simp (decide := true) [Gal.THERMAL_STATUS.STOP_CAUSE, Gal.THERMAL_STATUS.STATE, Gal.COUNTERS.THERMAL_STOPS,
          Gal.FAULTS.THERMAL_FAULTS, hset]

/-- What it leaves: every object but its own, and those of the recorder. -/
theorem State.stopCause_sameBut (s : State) (n b : Nat) (on : Bool) : s.sameBut (s.stopCause n b on) (stopKeys n ++ recordKeys) := by
  intro k hk
  obtain ⟨hstop, hrec⟩ : k ∉ stopKeys n ∧ k ∉ recordKeys := by simpa using hk
  simp only [stopKeys, List.mem_cons, List.not_mem_nil, or_false, not_or] at hstop
  obtain ⟨hcause, hstate, hcount, hfault⟩ := hstop
  have hrecord := fun (u : State) (d : List Byte) => ((State.onlyRecords.refl u).record 0x0203 1 n 1 d).2 k hrec
  rw [State.stopCause]
  dsimp only
  split
  · rfl
  · split
    · rw [hrecord]
      split <;> simp [hcause, hstate, hcount, hfault]
    · simp [hcause, hstate]

/-! ### All strings in turn -/

/-- What an operation establishes for its own string, and keeps for the others, holds of every string when it has been done for each. -/
theorem State.forGal_each {I : State → Prop} {P : Nat → State → Prop} {f : Nat → State → State} (hI : ∀ n t, I t → I (f n t))
    (hown : ∀ n t, I t → P n (f n t)) (hother : ∀ n m t, m ≠ n → P n t → P n (f m t)) {s : State} (hs : I s) :
    ∀ n < s.part.galleries, P n (s.forGal f) := by
  have key : ∀ (l : List Nat) (t : State), I t → ∀ n ∈ l, P n (l.foldl (fun t n => f n t) t) := by
    intro l
    induction l with
    | nil => intro t _ n hn; cases hn
    | cons m l ih =>
      intro t ht n hn
      rw [List.foldl_cons]
      by_cases hl : n ∈ l
      · exact ih _ (hI m t ht) n hl
      · obtain rfl : n = m := (List.mem_cons.mp hn).resolve_right hl
        refine List.foldlRecOn (motive := P n) l _ (hown n t ht) fun u hu a ha => hother n a u ?_ hu
        rintro rfl
        exact hl ha
  intro n hn
  exact key _ s hs n (List.mem_range.mpr hn)

/-- Which strings are enabled follows from the part and two objects. -/
theorem State.strOn_congr {s t : State} {n : Nat} (hpart : t.part = s.part)
    (hon : t.getN (Gal.STRING_CFG.ENABLE n) = s.getN (Gal.STRING_CFG.ENABLE n)) (hpos : t.posCount n = s.posCount n) :
    t.strOn n = s.strOn n := by
  simp only [State.strOn, State.hasGal, hpart, hon, hpos]

/-- The strings stand: no object of theirs differs, nor does the part. -/
def State.stringsStand (s t : State) : Prop := t.part = s.part ∧ ∀ k, 0x400000 ≤ k → t.val k = s.val k

namespace State.stringsStand
variable {s t u : State}

theorem refl (s : State) : s.stringsStand s := ⟨rfl, fun _ _ => rfl⟩

theorem put (h : s.stringsStand t) {k : Nat} (hk : k < 0x400000) (v : Val) : s.stringsStand (t.put k v) :=
  ⟨h.1, fun x hx => by rw [State.val_put, if_neg (by omega), h.2 x hx]⟩

theorem ite {c : Prop} {_ : Decidable c} (h : s.stringsStand t) (hu : s.stringsStand u) : s.stringsStand (if c then t else u) := by
  split
  · exact h
  · exact hu

theorem withDies (h : s.stringsStand t) (l : List Nat) : s.stringsStand { t with dies := l } := h

theorem foldl {α : Type} {l : List α} {f : State → α → State} (h : s.stringsStand t) (hf : ∀ u, ∀ a ∈ l, s.stringsStand u → s.stringsStand (f u a)) :
    s.stringsStand (l.foldl f t) :=
  List.foldlRecOn l f h fun u hu a ha => hf u a ha hu

theorem getG (h : s.stringsStand t) (n off sub : Nat) : t.getN (galKey n off sub) = s.getN (galKey n off sub) :=
  congrArg Val.toN (h.2 _ (by unfold galKey keyOf; omega))

theorem strOn (h : s.stringsStand t) (n : Nat) : t.strOn n = s.strOn n := State.strOn_congr h.1 (h.getG n 0 1) (h.getG n 0 2)

end State.stringsStand

/-- The thermal stop request leaves which strings are enabled. -/
theorem State.strOn_stopCause (s : State) (m b : Nat) (on : Bool) (n : Nat) : (s.stopCause m b on).strOn n = s.strOn n := by
  have hpart : (s.stopCause m b on).part = s.part := congrArg (fun i => i.2.1) (State.Keeps.stopCause (State.Keeps.refl s)).1
  have hval : ∀ off sub, (off ≠ 0x1D ∧ off ≠ 0x38 ∧ off ≠ 0x3E) → off < 64 → sub < 256 →
      (s.stopCause m b on).getN (galKey n off sub) = s.getN (galKey n off sub) := by
    intro off sub hoff h64 hsub
    refine congrArg Val.toN (s.stopCause_sameBut m b on _ ?_)
    rw [List.mem_append, not_or]
    refine ⟨?_, galKey_notRecord n off sub⟩
    simp only [stopKeys, List.mem_cons, List.not_mem_nil, or_false, Gal.THERMAL_STATUS.STOP_CAUSE, Gal.THERMAL_STATUS.STATE,
      Gal.COUNTERS.THERMAL_STOPS, Gal.FAULTS.THERMAL_FAULTS, galKey, keyOf]
    omega
  exact State.strOn_congr hpart (hval 0 1 (by decide) (by decide) (by decide)) (hval 0 2 (by decide) (by decide) (by decide))

/-! ### The dies -/

/-- The levels of a die's word at its new temperature. -/
def State.dieWord (s : State) (w : Nat) (x : Q) : Nat :=
  b2n (hystState (bit w 0) x (s.getQ Obj.MODULE_THERMAL.DIE_WARN) (s.getQ Obj.MODULE_THERMAL.DIE_HYST)) +
  2 * b2n (hystState (bit w 1) x (s.getQ Obj.MODULE_THERMAL.DIE_THROTTLE) (s.getQ Obj.MODULE_THERMAL.DIE_HYST)) +
  4 * b2n (hystState (bit w 2) x (s.getQ Obj.MODULE_THERMAL.DIE_SHUT) (s.getQ Obj.MODULE_THERMAL.DIE_HYST))

/-- The levels of all dies. -/
def State.dieWords (s : State) (temps : List (Option Q)) : List Nat :=
  s.dies.mapIdx (fun d w => s.dieWord w (((List.range 4).map (dieTemp temps)).getD d 0))

/-- The state in which the strings learn of the dies: the sensors, the temperatures and the levels stand. -/
structure State.DiesTaken (s : State) (temps : List (Option Q)) (u : State) : Prop where
  stand : s.stringsStand u
  temp : ∀ d < 4, u.getR (Obj.MODULE_THERMAL.DIE_T_C0 + d) = some (dieTemp temps d)
  sensors : u.getN Obj.MODULE_THERMAL.DIE_SENSORS = maskOf 8 (fun i => dieBroken (temps.getD i none))
  broken : (List.range 8).any (fun i => dieBroken (temps.getD i none)) = true → u.flag Obj.MODULE_THERMAL.FLAGS 3 = true
  dies : u.dies = s.dieWords temps
  shut : (s.dieWords temps).any (fun w => bit w 2) = true → u.flag Obj.MODULE_THERMAL.FLAGS 2 = true

theorem execDieTemperatureRead_eq (s : State) (temps : List (Option Q)) :
    ∃ u, s.DiesTaken temps u ∧ exec (.dieTemperatureRead temps) s =
      .next (u.forGal (fun n t => t.stopCause n 2 (t.strOn n && (s.dieWords temps).any (fun w => bit w 2)))) := by
  rw [exec]
  unfold execDieTemperatureRead
  extract_lets t s1 s2 s3 hy lv s4 s5 g s6 s7 shut
  have h3 : s3 = (((s2.setR Obj.MODULE_THERMAL.DIE_T_C0 (some (t.getD 0 0))).setR Obj.MODULE_THERMAL.DIE_T_C1 (some (t.getD 1 0))).setR
      Obj.MODULE_THERMAL.DIE_T_IO (some (t.getD 2 0))).setR Obj.MODULE_THERMAL.DIE_T_NAND (some (t.getD 3 0)) := rfl
  have h2 : ∀ k, k ≠ Obj.MODULE_THERMAL.DIE_SENSORS → k ≠ Obj.MODULE_THERMAL.FLAGS → s2.val k = s.val k := by
    intro k h1 h2
    show (if (List.range 8).any (fun i => dieBroken (temps.getD i none)) then s1.raise Obj.MODULE_THERMAL.FLAGS 3 else s1).val k = _
    split <;> simp [s1, h1, h2]
  have hq : ∀ k ∈ [Obj.MODULE_THERMAL.DIE_WARN, Obj.MODULE_THERMAL.DIE_THROTTLE, Obj.MODULE_THERMAL.DIE_SHUT, Obj.MODULE_THERMAL.DIE_HYST],
      s3.getQ k = s.getQ k := by
    intro k hk
    have hval : s3.val k = s.val k := by
      rw [h3]
      simp only [List.mem_cons, List.not_mem_nil, or_false] at hk
      rcases hk with rfl | rfl | rfl | rfl <;> simp (decide := true) [h2]
    rw [State.getQ, State.getQ, State.getR, State.getR, hval]
  have hlv : lv = s.dieWords temps := by
    have hdies : s3.dies = s.dies := by
      show (if (List.range 8).any (fun i => dieBroken (temps.getD i none)) then s1.raise Obj.MODULE_THERMAL.FLAGS 3 else s1).dies = _
      split <;> rfl
    show s3.dies.mapIdx _ = _
    rw [hdies, State.dieWords]
    simp only [State.dieWord, hy, hq, List.mem_cons, true_or, or_true]
    rfl
  have hstand2 : s.stringsStand s2 := ((State.stringsStand.refl s).put (by decide) _ |>.put (by decide) _).ite
    ((State.stringsStand.refl s).put (by decide) _)
  have hstand5 : s.stringsStand s5 := by
    refine State.stringsStand.foldl (t := s4) ?_ fun u i hi hu => (hu.put (by decide) _).ite hu
    rw [show s4 = { s3 with dies := lv } from rfl, h3]
    exact ((((hstand2.put (by decide) _).put (by decide) _).put (by decide) _).put (by decide) _).withDies lv
  have h5 : ∀ k, k ≠ Obj.MODULE_THERMAL.FLAGS → s5.val k = s3.val k := by
    intro k hk
    refine List.foldlRecOn (motive := fun u : State => u.val k = s3.val k) _ _ rfl fun u hu i hi => ?_
    split
    · simpa [hk] using hu
    · exact hu
  have hflag5 : ∀ i, s2.flag Obj.MODULE_THERMAL.FLAGS i = true → s5.flag Obj.MODULE_THERMAL.FLAGS i = true := by
    intro i h
    have hs4 : s4.flag Obj.MODULE_THERMAL.FLAGS i = true := by
      have hval : s3.val Obj.MODULE_THERMAL.FLAGS = s2.val Obj.MODULE_THERMAL.FLAGS := by
        rw [h3]
        simp (decide := true)
      exact (congrArg (fun v => bit (Val.toN v) i) hval :).trans h
    refine List.foldlRecOn (motive := fun u : State => u.flag Obj.MODULE_THERMAL.FLAGS i = true) _ _ hs4 fun u hu i hi => ?_
    split
    · exact State.raise_bit_stays u _ hu
    · exact hu
  refine ⟨s7, ⟨(hstand5.put (by decide) _).put (by decide) _, fun d hd => ?_, ?_, fun hb => ?_, ?_, fun hs => ?_⟩, ?_⟩
  · have hval : s7.val (Obj.MODULE_THERMAL.DIE_T_C0 + d) = .r (some (t.getD d 0)) := by
      interval_cases d
      all_goals
        simp only [s7, s6, State.setR_eq_put, State.val_put_eq]
        rw [h3] at h5
        simp (decide := true) [h5]
    rw [State.getR, hval]
    interval_cases d <;> rfl
  · have hval : s7.val Obj.MODULE_THERMAL.DIE_SENSORS = s1.val Obj.MODULE_THERMAL.DIE_SENSORS := by
      rw [h3] at h5
      have h21 : s2.val Obj.MODULE_THERMAL.DIE_SENSORS = s1.val Obj.MODULE_THERMAL.DIE_SENSORS := by
        show (if (List.range 8).any (fun i => dieBroken (temps.getD i none)) then s1.raise Obj.MODULE_THERMAL.FLAGS 3 else s1).val _ = _
        split
        · simp (decide := true)
        · rfl
      simp (decide := true) [s7, s6, h5, h21]
    rw [State.getN, hval]
    exact State.getN_setN_same ..
  · have hs2 : s2.flag Obj.MODULE_THERMAL.FLAGS 3 = true := by
      show (if (List.range 8).any (fun i => dieBroken (temps.getD i none)) then s1.raise Obj.MODULE_THERMAL.FLAGS 3 else s1).flag _ 3 = _
      rw [if_pos hb]
      simp
    simpa (decide := true) [s7, s6] using hflag5 3 hs2
  · have hd5 : s5.dies = lv := by
      refine List.foldlRecOn (motive := fun u : State => u.dies = lv) _ _ rfl fun u hu i hi => ?_
      split
      · exact hu
      · exact hu
    exact hd5.trans hlv
  · rw [← hlv] at hs
    have hs5 : s5.flag Obj.MODULE_THERMAL.FLAGS 2 = true := by
      have hsplit : s5 = (if lv.any (fun w => bit w 2) then ((List.range 2).foldl (fun s i => if lv.any (fun w => bit w i) then
          s.raise Obj.MODULE_THERMAL.FLAGS i else s) s4).raise Obj.MODULE_THERMAL.FLAGS 2 else _) := rfl
      rw [hsplit, if_pos hs]
      simp
    simpa (decide := true) [s7, s6] using hs5
  · rw [← hlv]

/-- A die that is shut, in its word: so is a die at or above DIE_SHUT, and none that is below by the hysteresis. -/
theorem State.bit_dieWord (s : State) (w : Nat) (x : Q) :
    bit (s.dieWord w x) 2 = hystState (bit w 2) x (s.getQ Obj.MODULE_THERMAL.DIE_SHUT) (s.getQ Obj.MODULE_THERMAL.DIE_HYST) :=
  bit_levels ..

/-- The word of each of the four dies. -/
theorem State.dieWords_getD {s : State} (hlen : s.dies.length = 4) (temps : List (Option Q)) {d : Nat} (hd : d < 4) :
    (s.dieWords temps).getD d 0 = s.dieWord (s.dies.getD d 0) (dieTemp temps d) := by
  have hdie : d < s.dies.length := by omega
  simp [State.dieWords, hd, hdie]

/-- What a read of the dies tells every string. -/
theorem dieTemperatureRead_strings {s u : State} {temps : List (Option Q)} (hu : s.DiesTaken temps u) :
    ∀ n < s.part.galleries, (u.forGal (fun n t => t.stopCause n 2 (t.strOn n && (s.dieWords temps).any (fun w => bit w 2)))).flag
      (Gal.THERMAL_STATUS.STOP_CAUSE n) 2 = (s.strOn n && (s.dieWords temps).any (fun w => bit w 2)) := by
  rw [← hu.stand.1]
  refine State.forGal_each (I := fun t => ∀ n, t.strOn n = s.strOn n)
    (P := fun n t => t.flag (Gal.THERMAL_STATUS.STOP_CAUSE n) 2 = (s.strOn n && (s.dieWords temps).any (fun w => bit w 2)))
    (fun m t ht n => (t.strOn_stopCause m 2 _ n).trans (ht n)) (fun n t ht => ?_) (fun n m t hne ht => ?_) hu.stand.strOn
  · rw [(t.stopCause_sets n 2 _).1, ht n]
  · have hkey : Gal.THERMAL_STATUS.STOP_CAUSE n ∉ stopKeys m ++ recordKeys := by
      rw [List.mem_append, not_or]
      refine ⟨?_, galKey_notRecord n 0x1D 0x0C⟩
      simp only [stopKeys, List.mem_cons, List.not_mem_nil, or_false, Gal.THERMAL_STATUS.STOP_CAUSE, Gal.THERMAL_STATUS.STATE,
        Gal.COUNTERS.THERMAL_STOPS, Gal.FAULTS.THERMAL_FAULTS, galKey, keyOf]
      omega
    exact (congrArg (fun v => bit (Val.toN v) 2) (t.stopCause_sameBut m 2 _ _ hkey) :).trans ht

/-- The strings' part of the read leaves the objects and the levels of the dies. -/
theorem dieTemperatureRead_leaves (u : State) (shut : Bool) :
    u.Within Eff.stopCause (u.forGal (fun n t => t.stopCause n 2 (t.strOn n && shut))) :=
  (State.Within.refl u).forGal fun _ _ h => h.op (State.Within.stopCause ..)

theorem dieTemperatureRead_tells (s : State) (temps : List (Option Q)) :
    ∃ t, exec (.dieTemperatureRead temps) s = .next t ∧ (∀ d < 4, t.getR (Obj.MODULE_THERMAL.DIE_T_C0 + d) = some (dieTemp temps d)) ∧
      (∀ i < 8, t.flag Obj.MODULE_THERMAL.DIE_SENSORS i = dieBroken (temps.getD i none)) ∧
      ((∃ i < 8, dieBroken (temps.getD i none) = true) → t.flag Obj.MODULE_THERMAL.FLAGS 3 = true) := by
  obtain ⟨u, hu, hexec⟩ := execDieTemperatureRead_eq s temps
  have hleaves := dieTemperatureRead_leaves u ((s.dieWords temps).any (fun w => bit w 2))
  refine ⟨_, hexec, fun d hd => ?_, fun i hi => ?_, fun ⟨i, hi, hb⟩ => ?_⟩
  · rw [← hu.temp d hd]
    interval_cases d
    · exact hleaves.getR
    · exact hleaves.getR
    · exact hleaves.getR
    · exact hleaves.getR
  · rw [hleaves.flag, State.flag, hu.sensors, bit_maskOf hi]
  · rw [hleaves.flag]
    exact hu.broken (List.any_eq_true.mpr ⟨i, List.mem_range.mpr hi, hb⟩)

theorem dieTemperatureRead_shuts {s : State} {temps : List (Option Q)} {d : Nat} (hd : d < 4) (hlen : s.dies.length = 4)
    (hh : 0 < s.getQ Obj.MODULE_THERMAL.DIE_HYST) (hot : s.getQ Obj.MODULE_THERMAL.DIE_SHUT ≤ dieTemp temps d) :
    ∃ t, exec (.dieTemperatureRead temps) s = .next t ∧ bit (t.dies.getD d 0) 2 = true ∧ t.flag Obj.MODULE_THERMAL.FLAGS 2 = true ∧
      ∀ n < s.part.galleries, t.flag (Gal.THERMAL_STATUS.STOP_CAUSE n) 2 = s.strOn n := by
  obtain ⟨u, hu, hexec⟩ := execDieTemperatureRead_eq s temps
  have hleaves := dieTemperatureRead_leaves u ((s.dieWords temps).any (fun w => bit w 2))
  have hword : bit ((s.dieWords temps).getD d 0) 2 = true := by
    rw [State.dieWords_getD hlen temps hd, State.bit_dieWord, hystState_on hh hot]
  have hin : d < (s.dieWords temps).length := by rw [State.dieWords, List.length_mapIdx, hlen]; exact hd
  have hany : (s.dieWords temps).any (fun w => bit w 2) = true := by
    refine List.any_eq_true.mpr ⟨_, List.getElem_mem hin, ?_⟩
    rwa [List.getD_eq_getElem _ _ hin] at hword
  refine ⟨_, hexec, ?_, ?_, fun n hn => ?_⟩
  · have hdies : _ = u.dies := hleaves.kept .dies (by decide +kernel)
    rw [hdies, hu.dies, hword]
  · rw [hleaves.flag]
    exact hu.shut hany
  · rw [dieTemperatureRead_strings hu n hn, hany, Bool.and_true]

theorem dieTemperatureRead_frees {s : State} {temps : List (Option Q)} (hlen : s.dies.length = 4)
    (hh : 0 < s.getQ Obj.MODULE_THERMAL.DIE_HYST)
    (hcool : ∀ d < 4, dieTemp temps d ≤ s.getQ Obj.MODULE_THERMAL.DIE_SHUT - s.getQ Obj.MODULE_THERMAL.DIE_HYST) :
    ∃ t, exec (.dieTemperatureRead temps) s = .next t ∧ ∀ n < s.part.galleries, t.flag (Gal.THERMAL_STATUS.STOP_CAUSE n) 2 = false := by
  obtain ⟨u, hu, hexec⟩ := execDieTemperatureRead_eq s temps
  have hlenW : (s.dieWords temps).length = 4 := by rw [State.dieWords, List.length_mapIdx, hlen]
  have hany : (s.dieWords temps).any (fun w => bit w 2) = false := by
    refine List.any_eq_false.mpr fun w hw => ?_
    obtain ⟨d, hd, rfl⟩ := List.getElem_of_mem hw
    have hd4 : d < 4 := hlenW ▸ hd
    rw [← List.getD_eq_getElem _ 0 hd, State.dieWords_getD hlen temps hd4, State.bit_dieWord, hystState_off hh (hcool d hd4)]
    exact Bool.false_ne_true
  refine ⟨_, hexec, fun n hn => ?_⟩
  rw [dieTemperatureRead_strings hu n hn, hany, Bool.and_false]

/-! ### The rise stop and the sweep interval -/

theorem riseStopTime_stops {s : State} {n at_ : Nat} (hgal : s.hasGal n = true) (hsince : (s.g n).therm.alarmSince = some at_)
    (halarm : s.flag (Gal.THERMAL_STATUS.STATE n) 4 = true)
    (hpassed : s.passed at_ (secTicks (s.getN (Gal.THERMAL_CFG.RISE_STOP_TIME n))) = true) :
    ∃ t, exec (.riseStopTime n) s = .next t ∧ t.flag (Gal.THERMAL_STATUS.STOP_CAUSE n) 1 = true ∧
      (s.getN (Gal.THERMAL_STATUS.STOP_CAUSE n) = 0 → t.flag (Gal.THERMAL_STATUS.STATE n) 5 = true ∧
        t.flag (Gal.FAULTS.THERMAL_FAULTS n) 7 = true ∧
        t.getN (Gal.COUNTERS.THERMAL_STOPS n) = min 0xFFFFFFFF (s.getN (Gal.COUNTERS.THERMAL_STOPS n) + 1)) := by
  obtain ⟨hcause, hfirst⟩ := s.stopCause_sets n 1 true
  refine ⟨_, ?_, hcause, fun h0 => hfirst h0 rfl⟩
  simp only [exec, execRiseStopTime, hsince, hgal, halarm, hpassed, Bool.and_self, if_true]

/-- The row in force after an evaluation: `c1` and `c2` are the conditions of Table 9-2's first two rows. -/
def State.nextRow (s : State) (r : ThermRt) (c1 c2 : Bool) : Nat :=
  let a1 := if c1 then none else some (r.absent1.getD s.root)
  let a2 := if c2 then none else some (r.absent2.getD s.root)
  let want := if c1 then 1 else if c2 then 2 else 3
  let long : Option Nat → Bool := fun a => match a with
    | some t => s.passed t (secTicks 10)
    | none => false
  let row := min r.row want
  let row := if row = 1 ∧ row < want ∧ long a1 = true then 2 else row
  if row = 2 ∧ row < want ∧ long a2 = true then 3 else row

/-- The condition of the second row besides RISE_WARN: a position within 5 K of WARN. -/
def State.anyHot (s : State) (n : Nat) : Bool :=
  (List.range (s.posCount n)).any (fun p => match s.effTemp n p with
    | some t => decide (s.getQ Obj.THERMAL_COMPAT.WARN - 5 ≤ t)
    | none => false)

theorem State.intervalEval_row {s : State} {n : Nat} (hn : n < s.gal.length) :
    ((s.intervalEval n).g n).therm.row = s.nextRow (s.g n).therm (s.flag (Gal.THERMAL_STATUS.STATE n) 4)
      (s.flag (Gal.THERMAL_STATUS.STATE n) 3 || s.anyHot n) := by
  unfold State.intervalEval
  extract_lets hot c1 c2 s1
  exact (congrArg (fun g : Gallery => g.therm.row) (State.g_updG_same hn _) :)

/-- SWEEP_INTERVAL_RELAX puts the interval of the next row into force. -/
theorem sweepIntervalRelax_row {s : State} {n row : Nat} (hlen : s.gal.length = 32) (hon : s.strOn n = true)
    (hrow : s.nextRow (s.g n).therm (s.flag (Gal.THERMAL_STATUS.STATE n) 4) (s.flag (Gal.THERMAL_STATUS.STATE n) 3 || s.anyHot n) = row) :
    ∃ t, exec (.sweepIntervalRelax n) s = .next t ∧ (t.g n).therm.row = row ∧
      t.getN (Gal.THERMAL_STATUS.INTERVAL_NOW n) = s.rowMs n row ∧ s.sameBut t [Gal.THERMAL_STATUS.INTERVAL_NOW n] := by
  have hgal : s.hasGal n = true := by
    rw [State.strOn, Bool.and_assoc, Bool.and_eq_true] at hon
    exact hon.1
  have hforce := (State.intervalEval_row (State.lt_of_hasGal hgal hlen)).trans hrow
  rw [exec, execSweepIntervalRelax, hgal, hon, Bool.and_self, if_pos rfl, exists_next]
  refine ⟨hforce, ?_, by simp +contextual [State.sameBut, State.intervalEval, State.updTherm]⟩
  rw [← hforce]
  exact State.getN_setN_same ..

/-- Settles O40: what the dies tell every string, the rise stop as a cause of the thermal stop request, and the rows of Table 9-2. -/
theorem thermalCommandsComplete : Obligations.ThermalCommandsComplete := by
  unfold Obligations.ThermalCommandsComplete
  refine ⟨fun s temps _ => dieTemperatureRead_tells s temps, fun s temps d hd hlen hh hot => dieTemperatureRead_shuts hd hlen hh hot,
    fun s temps hlen hh hcool => dieTemperatureRead_frees hlen hh hcool,
    fun s n at_ hgal _ hsince halarm hpassed => riseStopTime_stops hgal hsince halarm hpassed,
    fun s n hlen hon halarm hrow => ?_, fun s n at_ hlen hon halarm hwarn hrow habsent hpassed => ?_,
    fun s n at_ hlen hon halarm hwarn hcold hrow habsent hpassed => ?_⟩
  · obtain ⟨t, ht, -, hms, hrest⟩ := sweepIntervalRelax_row (row := 1) hlen hon (by rw [halarm]; simp [State.nextRow, hrow])
    exact ⟨t, ht, hms, hrest⟩
  · exact sweepIntervalRelax_row hlen hon (by rw [halarm, hwarn]; simp [State.nextRow, hrow, habsent, hpassed])
  · have hhot : s.anyHot n = false := by
      refine List.any_eq_false.mpr fun p hp => ?_
      rw [hcold p (List.mem_range.mp hp)]
      exact Bool.false_ne_true
    obtain ⟨t, ht, -, hms, hrest⟩ := sweepIntervalRelax_row (row := 3) hlen hon
      (by rw [halarm, hwarn, hhot]; simp [State.nextRow, hrow, habsent, hpassed])
    exact ⟨t, ht, hms, hrest⟩

end Sys2Proof.Machine
end

section
/-! Which parts of the state the answers to the paths leave (part of the frame layer). -/
namespace Sys2Proof.Machine
set_option Elab.async false

theorem State.Within.updSdo (s : State) (p f) : s.Within [.cans] (s.updSdo p f) := by
  unfold State.updSdo
  exact (refl s).updCan

theorem State.Within.sdoSend (s : State) (p d) : s.Within Eff.enqueue (s.sdoSend p d) := by
  unfold State.sdoSend
  exact (refl s).op (enqueue ..)

theorem State.Within.sdoIdle (s : State) (p) : s.Within [.cans] (s.sdoIdle p) := by
  unfold State.sdoIdle
  exact (refl s).op (updSdo ..)

theorem State.Within.fifoRefill (s : State) (p) : s.Within [.can 13, .cans] (s.fifoRefill p) := by
  unfold State.fifoRefill
  exact ((refl s).updCan).op (fifoSync ..)

theorem State.Within.cancel (s : State) (p drop) : s.Within [.can 13, .cans, .can 19] (s.cancel p drop) := by
  unfold State.cancel
  exact (((refl s).updCan).addTo .can).op (fifoRefill ..)

theorem State.Within.sdoDrop (s : State) (p) : s.Within [.can 13, .cans, .can 19] (s.sdoDrop p) := by
  unfold State.sdoDrop
  exact ((refl s).updCan).op (cancel ..)

def Eff.sdoAbort : List Eff := Eff.enqueue ++ [.can 13, .cans, .can 19]
theorem State.Within.sdoAbort (s : State) (p code) : s.Within Eff.sdoAbort (s.sdoAbort p code) := by
  unfold State.sdoAbort
  exact (((refl s).op (sdoDrop ..)).op (sdoIdle ..)).op (sdoSend ..)

theorem State.Within.sdoAnswer (s : State) (p answer flag blk) : s.Within Eff.sdoAbort (s.sdoAnswer p answer flag blk) := by
  unfold State.sdoAnswer
  split
  · split
    · exact (((refl s).op (updSdo ..)).op (sdoIdle ..)).op (sdoSend ..)
    · exact (((refl s).op (updSdo ..)).op (sdoIdle ..)).op (sdoSend ..)
    · exact (((refl s).op (updSdo ..)).op (sdoIdle ..)).op (sdoSend ..)
    · exact ((((refl s).op (updSdo ..)).op (sdoIdle ..)).op (sdoSend ..)).ite ((((refl s).op (updSdo ..)).op (updSdo ..)).op (sdoSend ..))
    · exact (((refl s).op (updSdo ..)).op (updSdo ..)).op (sdoSend ..)
  · exact (refl s).op (sdoAbort ..)
  · exact (refl s).op (updSdo ..)
  · exact (refl s).op (sdoIdle ..)

theorem State.Within.sdoServed (s : State) (p count) : s.Within Eff.sdoAbort (s.sdoServed p count) := by
  unfold State.sdoServed
  split
  · exact ((refl s).op (sdoAnswer ..)).ite (refl s)
  · exact (refl s)

theorem State.Within.rpdoOutcome (s : State) (p) : s.Within [.cans, .can 14] (s.rpdoOutcome p) := by
  unfold State.rpdoOutcome
  split
  · exact ((refl s).raise .can).updCan
  · exact (refl s)

theorem State.Within.mailMade (s : State) (r) : s.Within [.twb] (s.mailMade r) := by
  unfold State.mailMade
  exact (refl s).updTwb

theorem State.Within.mailAbort (s : State) (q c) : s.Within [.twb] (s.mailAbort q c) := by
  unfold State.mailAbort
  exact (refl s).op (mailMade ..)

theorem State.Within.mailSegment (s : State) (q v) : s.Within [.recdRest, .above 0x1000000, .twb] (s.mailSegment q v) := by
  unfold State.mailSegment
  split
  · exact (refl s).op (mailAbort ..)
  · exact ((((refl s).updTwb).op (mailMade ..)).op (readEnd ..)).ite (((refl s).updTwb).op (mailMade ..))

theorem State.Within.mailAnswer (s : State) : s.Within [.recdRest, .above 0x1000000, .twb] s.mailAnswer := by
  unfold State.mailAnswer
  split
  · exact (refl s)
  · split
    · exact ((refl s).op (mailSegment ..)).ite ((refl s).op (mailMade ..))
    · exact (refl s).op (mailAbort ..)
    · exact (refl s)
    · exact (refl s).updTwb

theorem State.Within.arcRespond (s : State) (serial id body) : s.Within [.arc, .obj Obj.ARCADE_STATUS.FLAGS, .obj
    Obj.ARCADE_STATUS.REQUESTS_SERVED] (s.arcRespond serial id body) := by
  unfold State.arcRespond
  exact (((refl s).op (sendPdu ..)).inc .obj).updArc

theorem State.Within.arcAbort (s : State) (o c) : s.Within [.arc, .obj Obj.ARCADE_STATUS.FLAGS, .obj Obj.ARCADE_STATUS.REQUESTS_SERVED]
    (s.arcAbort o c) := by
  unfold State.arcAbort
  exact (refl s).op (arcRespond ..)

def Eff.arcSegment : List Eff := [.arc, .obj Obj.ARCADE_STATUS.FLAGS, .obj Obj.ARCADE_STATUS.REQUESTS_SERVED] ++ [.recdRest, .above
    0x1000000]
theorem State.Within.arcSegment (s : State) (o v) : s.Within Eff.arcSegment (s.arcSegment o v) := by
  unfold State.arcSegment
  split
  · exact (refl s).op (arcAbort ..)
  · exact ((((refl s).updArc).op (arcRespond ..)).op (readEnd ..)).ite (((refl s).updArc).op (arcRespond ..))

theorem State.Within.arcAnswer (s : State) (o) : s.Within Eff.arcSegment (s.arcAnswer o) := by
  unfold State.arcAnswer
  split
  · exact ((refl s).op (arcRespond ..)).ite ((refl s).op (arcSegment ..))
  · exact (refl s).op (arcAbort ..)
  · exact (refl s).updArc
  · exact (refl s)

end Sys2Proof.Machine
end

section
/-! O10, O17, O19: scheduled actions and the class S queue, sticky words, and CELL_WINDOW (R23, R27, R45, R46, R92 to R95, R99). -/
namespace Sys2Proof.Machine
set_option Elab.async false

/-! ### Requests that leave the queue unserved -/

/-- Telling a path of its outcome leaves the requests that wait. -/
theorem State.tell_sreqs (s : State) (o : Origin) : (s.tell o).sreqs = s.sreqs := by
  cases o with
  | plain => rfl
  | sdo p count => exact (Within.sdoServed s p count).kept .sreqs (by decide +kernel)
  | rpdo p => exact (Within.rpdoOutcome s p).kept .sreqs (by decide +kernel)
  | mailbox => exact (Within.mailAnswer s).kept .sreqs (by decide +kernel)
  | arcade serial id =>
    show (s.arcClosed serial id (fun s o => s.arcAnswer o)).sreqs = s.sreqs
    unfold State.arcClosed
    split
    · rfl
    · exact (Within.arcAnswer _ _).kept .sreqs (by decide +kernel)

/-- Settles O10: what each timer takes off its list. -/
theorem architectureTimersComplete : Obligations.ArchitectureTimersComplete := by
  unfold Obligations.ArchitectureTimersComplete
  refine ⟨fun s target hdue => ?_, fun s cycles htick hpassed => ?_, fun s => ?_, fun s r hone hplain hpassed => ?_⟩
  · rw [exec, execScheduledActionFire, if_pos hdue, exists_next]
    exact ⟨fun a ha => by simpa using ha, fun a ha hne => by simpa using ⟨ha, hne⟩⟩
  · rw [exec, execKeepOscMeasure, if_pos ⟨htick, hpassed⟩, exists_next]
    exact ⟨rfl, rfl⟩
  · rw [exec]
    unfold execClassSWaitExpiry
    extract_lets late u
    rw [exists_next]
    exact List.foldlRecOn (motive := fun t : State => t.sreqs = s.sreqs.filter (fun r => !s.passed r.at_ (msTicks 500))) late _ rfl
      fun t ht q _ => (State.tell_sreqs t.busy q.origin).trans ht
  · have hlate : s.sreqs.filter (fun r => s.passed r.at_ (msTicks 500)) = [r] := by simp [hone, hpassed]
    rw [exec]
    unfold execClassSWaitExpiry
    rw [hlate]
    extract_lets u
    rw [exists_next, List.foldl_cons, List.foldl_nil, hplain]
    exact ⟨rfl, State.getN_setN_same ..⟩

/-! ### Sticky words -/

/-- What an access that need not wait answers at once is never a place in the queue. -/
theorem State.writeObj_last {s : State} (hwait : s.mustWait = false) (p : Path) (index sub : Nat) (d : List Byte) :
    (s.writeObj p index sub d).last ≠ some .queued := by
  rw [State.writeObj, State.writeX, State.classS, hwait]
  split
  · exact fun h => by cases h
  · rw [if_neg Bool.false_ne_true]
    split
    · exact fun h => by cases h
    · split
      · exact fun h => by cases h
      · exact fun h => by cases h

/-- A write of a sticky word leaves the mode and the part, whatever becomes of it. -/
theorem State.writeObj_w1c {s : State} {index sub : Nat} {r : ObjRow} (hrow : rowOf index sub = some r) (hw1c : r.w1c = true)
    (hwait : s.mustWait = false) (p : Path) (d : List Byte) : (s.writeObj p index sub d).hasIndex index = s.hasIndex index := by
  have heff (v : Val) : objEff p index sub v s = (none, s.clear (keyOf index sub) v.toN) := by simp only [objEff, hrow, hw1c, if_true]
  rw [State.writeObj, State.writeX, State.classS, hwait]
  split
  · rfl
  · rw [if_neg Bool.false_ne_true]
    split
    · rfl
    · rw [heff]
      rfl

/-- The bits that hardware sets in a sticky word stand in it. -/
theorem State.hwSets_sticky {s : State} {index sub hw m i : Nat} {r : ObjRow} (hrow : rowOf index sub = some r) (hw1c : r.w1c = true)
    (hmask : r.rng = .mask m) (hindex : s.hasIndex index = true) (hhw : bit hw i = true) (hm : bit m i = true) :
    bit ((s.hwSets index sub hw).getN (keyOf index sub)) i = true := by
  have hset : s.hwSets index sub hw = s.setN (keyOf index sub) (s.getN (keyOf index sub) ||| hw &&& m) := by
    simp only [State.hwSets, hrow, hmask, hindex, hw1c, Bool.not_true, Bool.false_eq_true, if_false, if_true]
  rw [hset, State.getN_setN_same, bit_or, bit, bit, Nat.testBit_and]
  rw [show hw.testBit i = true from hhw, show m.testBit i = true from hm]
  simp

/-- An object that takes a write exists. -/
theorem State.takesWrite.hasIndex {s : State} {p : Path} {index sub : Nat} {d : List Byte} {v : Val}
    (h : s.takesWrite p index sub d v) : s.hasIndex index = true := by
  obtain ⟨-, r, hr⟩ := h
  by_contra hno
  have hfront : frontCheck s p index sub = .error abortNoObj := by simp [frontCheck, hno]
  rw [checkWrite, hfront] at hr
  cases hr

/-- The row of HEAD_WAIT_MAX of a CAN port: a held value of 32 bits. -/
theorem headWaitMax_row {i : Nat} (hi : i < 2) :
    rowOf (0x2700 + i) 0x14 = some ⟨.can, 0, 20, 20, .u32, .rw, .n 0, .any, false⟩ := by
  interval_cases i <;> decide +kernel

/-- A write of 0 restarts the held value. -/
theorem headWaitMax_restarts (s : State) (p : Path) {i : Nat} (hi : i < 2) :
    objEff p (0x2700 + i) 0x14 (.n 0) s = (none, s.setN (Can.HEAD_WAIT_MAX i) 0) := by
  interval_cases i <;> rfl

/-- A new peak is held after the restart. -/
theorem State.hwSets_held {s : State} {i hw : Nat} (hi : i < 2) (hindex : s.hasIndex (0x2700 + i) = true)
    (hzero : s.getN (Can.HEAD_WAIT_MAX i) = 0) : (s.hwSets (0x2700 + i) 0x14 hw).getN (Can.HEAD_WAIT_MAX i) = hw % 2 ^ 32 := by
  have hkey : keyOf (0x2700 + i) 0x14 = Can.HEAD_WAIT_MAX i := rfl
  have hheld : heldKeys.contains (Can.HEAD_WAIT_MAX i) = true := by interval_cases i <;> decide
  simp only [State.hwSets, headWaitMax_row hi, hkey, hindex, hheld, hzero, Bool.not_true, Bool.false_eq_true, if_false, if_true, Nat.zero_max]
  exact State.getN_setN_same ..

/-- Settles O17: in each of the three cases what hardware sets is set after the write has been executed. -/
theorem hardwareWinsOverClear : Obligations.HardwareWinsOverClear := by
  unfold Obligations.HardwareWinsOverClear
  refine ⟨fun s p index sub ones hw m i r hrow hw1c hmask hindex hwait hhw hm => ?_,
    fun s q r m i hwrite hplain hrow hw1c hmask hindex hhw hm => ?_, fun s p i hw hi h => ?_⟩
  · rw [exec, execWriteOneToClear]
    simp only [hrow, hw1c, Bool.true_or, if_true]
    rw [if_neg (State.writeObj_last hwait p index sub _), exists_next]
    exact State.hwSets_sticky hrow hw1c hmask ((State.writeObj_w1c hrow hw1c hwait p _).trans hindex) hhw hm
  · have hserve : ∃ u : State, u.mustWait = false ∧ u.hasIndex q.index = true ∧ ∃ t : State, s.serveReq q = t ∧
        t.dict = ((u.writeObj q.path q.index q.sub q.data).hwSets q.index q.sub q.hw).dict := by
      refine ⟨{ s with serveNow := true, origin := q.origin }, rfl, hindex, _, rfl, ?_⟩
      rw [State.serveReq]
      simp only [hplain, hwrite, if_true]
      rfl
    obtain ⟨u, hwait, hindexU, t, ht, hdict⟩ := hserve
    have hbit := State.hwSets_sticky hrow hw1c hmask ((State.writeObj_w1c hrow hw1c hwait q.path q.data).trans hindexU) hhw hm
    rw [ht, State.getN, State.val, hdict]
    exact hbit
  · have hw1c : heldKeys.contains (keyOf (0x2700 + i) 0x14) = true := by interval_cases i <;> decide
    have hwrite : s.writeObj p (0x2700 + i) 0x14 (leBytes 4 0) = (s.setN (Can.HEAD_WAIT_MAX i) 0).reply (.ok []) := by
      rw [State.writeObj, State.writeX_taken h, headWaitMax_restarts s p hi]
    have hindex : s.hasIndex (0x2700 + i) = true := State.takesWrite.hasIndex h
    rw [exec, execWriteOneToClear, headWaitMax_row hi]
    dsimp only
    rw [hw1c, Bool.or_true, if_pos rfl]
    rw [show ((OType.u32.size).getD 4) = 4 from rfl, hwrite, if_neg (by exact fun hq => by cases hq), exists_next]
    exact State.hwSets_held hi hindex (State.getN_setN_same ..)

/-! ### CELL_WINDOW -/

/-- A read of CELL_WINDOW is a read of the window that the path's selector names. -/
theorem cellWindow_reads {s : State} {p : Path} {n : Nat} (hn : n < 32) (h : s.takesRead p (0x4031 + 0x40 * n) 1) :
    readOf p (0x4031 + 0x40 * n) 1 s = windowOf p n s := by
  obtain ⟨-, -, r, hr, -, -⟩ := h
  have hindex : 0x4031 + 0x40 * n = 0x4000 + 0x40 * n + 0x31 := by omega
  rw [readOf, hr]
  dsimp only
  rw [hindex, placeOf_gal hn (by decide), galOf_gal (by decide)]
  exact if_pos ⟨rfl, rfl⟩

theorem cellWindow_refused {s : State} {p : Path} {n c : Nat} (hn : n < 32) (h : s.takesRead p (0x4031 + 0x40 * n) 1)
    (hw : windowOf p n s = .error c) : exec (.cellWindow p n) s = .next (s.reply (.abort c)) := by
  rw [exec, execCellWindow, State.readObj, State.readWith_taken h, cellWindow_reads hn h, hw]

/-- Settles O19. -/
theorem cellWindowReads : Obligations.CellWindowReads := by
  unfold Obligations.CellWindowReads
  refine fun s p n hn h => ⟨fun hon hsel => ?_, fun hoff => cellWindow_refused (c := abortNoData) hn h (by simp [windowOf, hoff]),
    fun hon hsel => cellWindow_refused (c := abortRange) hn h (by simp [windowOf, hon, hsel])⟩
  have hw : windowOf p n s = .ok (s.windowReply n (s.getN (pathKey p (Gal.CELL_WINDOW_SEL.SELECT n))), s) := by
    simp [windowOf, hon, hsel]
  rw [exec, execCellWindow, State.readObj, State.readWith_taken h, cellWindow_reads hn h, hw]
  exact congrArg Host.Outcome.next rfl

end Sys2Proof.Machine
end

section
/-! Which parts of the state the evaluation of a published window leaves (part of the frame layer). -/
namespace Sys2Proof.Machine
set_option Elab.async false

theorem State.Within.throttleSync (s : State) (n) : s.Within [.gal 0x1d 8] (s.throttleSync n) := by
  unfold State.throttleSync
  exact (refl s).setR .gal

def Eff.level : List Eff := Eff.record ++ [.gal 0x1d 1]
theorem State.Within.level (s : State) (n i x3 lvl hyst) : s.Within Eff.level (s.level n i x3 lvl hyst) := by
  unfold State.level
  exact (((refl s).setFlag .gal).op (record ..)).ite ((refl s).setFlag .gal)

def Eff.levelEval : List Eff := Eff.stopCause ++ [.gal 0x1d 8] ++ [.gal 0x1d 2, .gal 0x1d 3, .gal 0x1d 4]
theorem State.Within.levelEval (s : State) (n) : s.Within Eff.levelEval (s.levelEval n) := by
  refine .ite ((refl s).op (throttleSync ..)) ?_
  dsimp only
  split
  · exact (((((((((((refl s).setR .gal).setN .gal).setR .gal).op (level ..)).op (level ..)).op (level ..)).op (stopCause ..)).setFlag
      .gal).raise .gal).ite (((((((((refl s).setR .gal).setN .gal).setR .gal).op (level ..)).op (level ..)).op (level ..)).op (stopCause
      ..)).setFlag .gal)).andThen fun h1 => h1.op (throttleSync ..)
  · exact (refl s).op (throttleSync ..)

theorem State.Within.coreEval (s : State) (n p x tick) : s.Within [.cells, .gal 0x38 4] (s.coreEval n p x tick) := by
  unfold State.coreEval
  exact ((refl s).updCell).ite ((((refl s).raise .gal).updCell).ite ((refl s).ite (((refl s).updCell).ite ((refl s).updCell))))

def Eff.plateEval : List Eff := Eff.record ++ [.cells, .gal 0x38 4, .gal 0x15 15]
theorem State.Within.plateEval (s : State) (n p x dir) : s.Within Eff.plateEval (s.plateEval n p x dir) := by
  refine .ite (refl s) ?_
  split
  · exact (refl s)
  · refine .ite ((refl s).updCell) ?_
    split
    · exact (refl s)
    · exact (refl s).ite (((((((refl s).updCell).updCell).raise .gal).setN .gal).op (record ..)).ite ((refl s).updCell))

theorem State.Within.archSync (s : State) (n) : s.Within [.galRest, .gal 0x15 18, .gal 0x15 19] (s.archSync n) := by
  unfold State.archSync
  exact ((refl s).ite ((refl s).updSpec)).andThen fun h1 => (h1.setN .gal).setN .gal

end Sys2Proof.Machine
end

section
/-! O38: excitation sets, published results, plating and the archive (R201, R212, R217 to R220). -/
namespace Sys2Proof.Machine
set_option Elab.async false

/-! ### Spectroscopy after a change of another part -/

/-- A gallery whose rest an operation leaves keeps its spectroscopy. -/
theorem State.Within.spec {s t : State} {E : List Eff} (h : s.Within E t) (hE : .galRest ∉ E := by decide +kernel) (n : Nat) :
    (t.g n).spec = (s.g n).spec := by
  have hrest : (t.g n).rest = (s.g n).rest := h.kept .galRest hE n
  exact (congrArg Gallery.spec hrest :)

theorem State.Within.cell {s t : State} {E : List Eff} (h : s.Within E t) (hE : .cells ∉ E := by decide +kernel) (n q : Nat) :
    t.cell n q = s.cell n q := by
  have hcells : (t.g n).cells = (s.g n).cells := h.kept .cells hE n
  rw [State.cell, hcells, State.cell]

theorem State.spec_updSpec {s : State} {n : Nat} (hn : n < s.gal.length) (f : SpecRt → SpecRt) :
    ((s.updSpec n f).g n).spec = f (s.g n).spec := by
  rw [State.updSpec, State.g_updG_same hn]

/-! ### APPLY and the computed set -/

theorem excitationApply_takes {s : State} {p : Path} {n : Nat} (hn : n < s.gal.length)
    (h : s.takesWrite p (0x4014 + 0x40 * n) 9 [1] (.n 1)) (hidle : s.getN (Gal.SPECTRUM_STATUS.APPLY_STATE n) ≠ 1)
    (hok : (s.staged n).errors = 0) :
    ∃ t, exec (.excitationApply p n) s = .next t ∧ t.last = some (.ok []) ∧ t.getN (Gal.SPECTRUM_STATUS.APPLY_STATE n) = 1 ∧
      t.getN (Gal.EXCITATION_CFG.CFG_ERROR n) = 0 ∧ t.getR (Gal.SPECTRUM_STATUS.RESIDUAL_CHARGE n) = some 0 ∧
      (t.g n).spec.compSet = some (s.staged n) ∧ (t.g n).spec.applied = (s.g n).spec.applied := by
  obtain ⟨u, hu, hgal, hstate, herr, hres⟩ : ∃ u : State,
      ((s.setN (Gal.EXCITATION_CFG.CFG_ERROR n) 0).setN (Gal.SPECTRUM_STATUS.APPLY_STATE n) 1).setR
        (Gal.SPECTRUM_STATUS.RESIDUAL_CHARGE n) (some 0) = u ∧ u.gal = s.gal ∧ u.getN (Gal.SPECTRUM_STATUS.APPLY_STATE n) = 1 ∧
      u.getN (Gal.EXCITATION_CFG.CFG_ERROR n) = 0 ∧ u.getR (Gal.SPECTRUM_STATUS.RESIDUAL_CHARGE n) = some 0 := by
    refine ⟨_, rfl, rfl, ?_, ?_, ?_⟩ <;>
      simp (decide := true) [Gal.EXCITATION_CFG.CFG_ERROR, Gal.SPECTRUM_STATUS.APPLY_STATE, Gal.SPECTRUM_STATUS.RESIDUAL_CHARGE]
  have he : applyEff n (.n 1) s = (none, u.updSpec n (fun r => { r with compSet := some (s.staged n) })) := by
    rw [applyEff, if_neg hidle, ← hu]
    dsimp only
    rw [hok, if_neg (not_not.mpr rfl)]
  have hspec := State.spec_updSpec (s := u) (n := n) (hgal ▸ hn) (fun r => { r with compSet := some (s.staged n) })
  rw [exec, execExcitationApply, State.writeX_taken h, he, exists_next]
  refine ⟨rfl, hstate, herr, hres, (congrArg SpecRt.compSet hspec :), (congrArg SpecRt.applied hspec :).trans ?_⟩
  rw [State.g, hgal, State.g]

theorem excitationApply_names {s : State} {p : Path} {n : Nat} (h : s.takesWrite p (0x4014 + 0x40 * n) 9 [1] (.n 1))
    (hidle : s.getN (Gal.SPECTRUM_STATUS.APPLY_STATE n) ≠ 1) (hbad : (s.staged n).errors ≠ 0) :
    ∃ t, exec (.excitationApply p n) s = .next t ∧ t.last = some (.abort abortRange) ∧
      t.getN (Gal.EXCITATION_CFG.CFG_ERROR n) = (s.staged n).errors ∧ s.sameBut t [Gal.EXCITATION_CFG.CFG_ERROR n] ∧
      t.gal = s.gal := by
  have he : applyEff n (.n 1) s = (some abortRange, s.setN (Gal.EXCITATION_CFG.CFG_ERROR n) (s.staged n).errors) := by
    rw [applyEff, if_neg hidle]
    dsimp only
    rw [if_pos hbad]
  rw [exec, execExcitationApply, State.writeX_taken h, he, exists_next]
  exact ⟨rfl, State.getN_setN_same .., by simp +contextual [State.sameBut], rfl⟩

/-- A set that is taken: applied, with its objects; APPLY_STATE tells it where no computation runs. -/
theorem State.takeSet_applies {s : State} {n : Nat} (hn : n < s.gal.length) (x : ExcSet) (hcomp : (s.g n).spec.compSet = none) :
    ((s.takeSet n x).g n).spec.applied = some x ∧ ((s.takeSet n x).g n).spec.compSet = none ∧
    (s.takeSet n x).getN (Gal.SPECTRUM_STATUS.M_APPLIED n) = x.m ∧
    (s.takeSet n x).getN (Gal.SPECTRUM_STATUS.TONES_APPLIED n) = x.tones.length ∧
    (s.takeSet n x).getN (Gal.SPECTRUM_STATUS.APPLY_STATE n) = 3 ∧
    (s.takeSet n x).specSt n = s.specSt n ∧
    (s.takeSet n x).getN (Gal.SPECTRUM_STATUS.PENDING_INDEX n) = s.getN (Gal.SPECTRUM_STATUS.PENDING_INDEX n) := by
  unfold State.takeSet
  extract_lets s1 s2 s3 s4
  have hg : s4.g n = { s.g n with
      spec := { (s.g n).spec with
        applied := some x, waitSet := none, fresh := true, wins := (s.g n).spec.wins.map (fun y => y.ofOld (s.g n).spec.fresh)
        pub := (s.g n).spec.pub.map (fun p => { p with win := p.win.ofOld p.first }) }
      cells := (s.g n).cells.map (fun c => { c with base := none, drops := 0 }) } := State.g_updG_same hn _
  have hnot : ¬ (s4.getN (Gal.SPECTRUM_STATUS.APPLY_STATE n) = 1 ∧ (s4.g n).spec.compSet.isSome = true) := fun h => by
    rw [hg] at h
    simp [hcomp] at h
  rw [if_neg hnot]
  refine ⟨(congrArg (fun g : Gallery => g.spec.applied) hg :), (congrArg (fun g : Gallery => g.spec.compSet) hg :).trans hcomp, ?_⟩
  simp (decide := true) [s4, s3, s2, s1, State.specSt, Gal.SPECTRUM_STATUS.M_APPLIED, Gal.SPECTRUM_STATUS.TONES_APPLIED,
    Gal.SPECTRUM_STATUS.APPLY_STATE, Gal.SPECTRUM_STATUS.STATE, Gal.SPECTRUM_STATUS.PENDING_INDEX, Gal.SPECTRUM_STATUS.CREST,
    Gal.SPECTRUM_STATUS.BASE_FREQ]

/-- The state in which the computation of a string's set has ended. -/
def State.computed (s : State) (n : Nat) : State := s.updSpec n (fun r => { r with compSet := none })

theorem State.computed_spec {s : State} {n : Nat} (hn : n < s.gal.length) :
    ((s.computed n).g n).spec = { (s.g n).spec with compSet := none } := State.spec_updSpec hn _

/-- SET_COMPUTED by the state of the spectroscopy. -/
theorem execSetComputed_eq {s : State} {n : Nat} {x : ExcSet} (hgal : s.hasGal n = true) (hx : (s.g n).spec.compSet = some x) :
    exec (.setComputed n) s =
      if s.specSt n = 0 ∨ s.specSt n = 1 then .next ((s.computed n).takeSet n { x with spk := x.peak })
      else if s.specSt n = 4 then
        .next ((((s.computed n).dropPending n ((s.computed n).getN (Gal.SPECTRUM_STATUS.PENDING_INDEX n))
          ((s.computed n).g n).spec.pauseDir).setN (Gal.SPECTRUM_STATUS.STATE n) 1).takeSet n { x with spk := x.peak })
      else .next (((s.computed n).setN (Gal.SPECTRUM_STATUS.APPLY_STATE n) 2).updSpec n
        (fun r => { r with waitSet := some { x with spk := x.peak } })) := by
  simp only [exec, execSetComputed, hx, hgal, Bool.not_true, Bool.false_eq_true, if_false]
  rfl

theorem setComputed_atOnce {s : State} {n : Nat} {x : ExcSet} (hgal : s.hasGal n = true) (hlen : s.gal.length = 32)
    (hx : (s.g n).spec.compSet = some x) (hst : s.specSt n = 0 ∨ s.specSt n = 1) :
    ∃ t, exec (.setComputed n) s = .next t ∧ (t.g n).spec.applied = some { x with spk := x.peak } ∧ (t.g n).spec.compSet = none ∧
      t.getN (Gal.SPECTRUM_STATUS.M_APPLIED n) = x.m ∧ t.getN (Gal.SPECTRUM_STATUS.TONES_APPLIED n) = x.tones.length ∧
      t.getN (Gal.SPECTRUM_STATUS.APPLY_STATE n) = 3 := by
  have hn := State.lt_of_hasGal hgal hlen
  have hn' : n < (s.computed n).gal.length := hn.trans_eq (modAt_length ..).symm
  obtain ⟨happlied, hcomp, hm, htones, hstate, -, -⟩ := State.takeSet_applies (s := s.computed n) hn' { x with spk := x.peak }
    (by rw [State.computed_spec hn])
  rw [execSetComputed_eq hgal hx, if_pos hst, exists_next]
  exact ⟨happlied, hcomp, hm, htones, hstate⟩

/-- A dropped pause: none is pending. -/
theorem State.dropPending_none (s : State) (n : Nat) (dir : Int) :
    (s.dropPending n (s.getN (Gal.SPECTRUM_STATUS.PENDING_INDEX n)) dir).getN (Gal.SPECTRUM_STATUS.PENDING_INDEX n) = 0xFFFFFFFF := by
  unfold State.dropPending
  split
  next h => exact h
  next => exact State.getN_setN_same ..

theorem setComputed_paused {s : State} {n : Nat} {x : ExcSet} (hgal : s.hasGal n = true) (hlen : s.gal.length = 32)
    (hx : (s.g n).spec.compSet = some x) (hst : s.specSt n = 4) :
    ∃ t, exec (.setComputed n) s = .next t ∧ (t.g n).spec.applied = some { x with spk := x.peak } ∧ t.specSt n = 1 ∧
      t.getN (Gal.SPECTRUM_STATUS.PENDING_INDEX n) = 0xFFFFFFFF ∧ t.getN (Gal.SPECTRUM_STATUS.APPLY_STATE n) = 3 := by
  have hn := State.lt_of_hasGal hgal hlen
  have hdrop := State.Within.dropPending (s.computed n) n ((s.computed n).getN (Gal.SPECTRUM_STATUS.PENDING_INDEX n))
    ((s.computed n).g n).spec.pauseDir
  obtain ⟨u, hu, hlenU, hspec, hpend⟩ : ∃ u : State, (s.computed n).dropPending n ((s.computed n).getN (Gal.SPECTRUM_STATUS.PENDING_INDEX n))
      ((s.computed n).g n).spec.pauseDir = u ∧ u.gal.length = s.gal.length ∧ (u.g n).spec.compSet = none ∧
      u.getN (Gal.SPECTRUM_STATUS.PENDING_INDEX n) = 0xFFFFFFFF := by
    refine ⟨_, rfl, (hdrop.kept .galLen (by decide +kernel) :).trans (modAt_length ..), ?_, State.dropPending_none ..⟩
    rw [hdrop.spec, State.computed_spec hn]
  obtain ⟨happlied, -, -, -, hstate, hspecSt, hpendT⟩ := State.takeSet_applies (s := u.setN (Gal.SPECTRUM_STATUS.STATE n) 1) (n := n)
    (hlenU ▸ hn) { x with spk := x.peak } hspec
  rw [execSetComputed_eq hgal hx, if_neg (by omega), if_pos hst, hu, exists_next]
  refine ⟨happlied, hspecSt.trans (State.getN_setN_same ..), hpendT.trans ?_, hstate⟩
  have hother := State.getN_put u (Gal.SPECTRUM_STATUS.STATE n) (Gal.SPECTRUM_STATUS.PENDING_INDEX n) (.n 1)
  rw [if_neg (by simp (decide := true) [Gal.SPECTRUM_STATUS.STATE, Gal.SPECTRUM_STATUS.PENDING_INDEX])] at hother
  exact hother.trans hpend

theorem setComputed_waits {s : State} {n : Nat} {x : ExcSet} (hgal : s.hasGal n = true) (hlen : s.gal.length = 32)
    (hx : (s.g n).spec.compSet = some x) (h0 : s.specSt n ≠ 0) (h1 : s.specSt n ≠ 1) (h4 : s.specSt n ≠ 4) :
    ∃ t, exec (.setComputed n) s = .next t ∧ (t.g n).spec.applied = (s.g n).spec.applied ∧
      (t.g n).spec.waitSet = some { x with spk := x.peak } ∧ t.getN (Gal.SPECTRUM_STATUS.APPLY_STATE n) = 2 ∧
      s.sameBut t [Gal.SPECTRUM_STATUS.APPLY_STATE n] := by
  have hn := State.lt_of_hasGal hgal hlen
  have hn' : n < ((s.computed n).setN (Gal.SPECTRUM_STATUS.APPLY_STATE n) 2).gal.length := hn.trans_eq (modAt_length ..).symm
  have hspec := State.spec_updSpec hn' (fun r => { r with waitSet := some { x with spk := x.peak } })
  rw [execSetComputed_eq hgal hx, if_neg (by omega), if_neg h4, exists_next]
  refine ⟨(congrArg SpecRt.applied hspec :).trans ?_, (congrArg SpecRt.waitSet hspec :), State.getN_setN_same ..,
    by simp +contextual [State.sameBut, State.computed, State.updSpec]⟩
  exact (congrArg SpecRt.applied (State.computed_spec hn) :)

/-! ### Published results -/

/-- What a published window has told a position stands: its impedances, their date, and whether they are current. -/
def State.zKept (n : Nat) (s t : State) : Prop :=
  ∀ q, (t.cell n q).z = (s.cell n q).z ∧ (t.cell n q).zAt = (s.cell n q).zAt ∧ (t.cell n q).zCur = (s.cell n q).zCur

namespace State.zKept
variable {n : Nat} {s t u : State}

theorem refl (s : State) : zKept n s s := fun _ => ⟨rfl, rfl, rfl⟩

theorem of_cells (h : zKept n s t) (hu : ∀ q, u.cell n q = t.cell n q) : zKept n s u := fun q => by rw [hu q]; exact h q

theorem op {E : List Eff} (h : zKept n s t) (hu : t.Within E u) (hE : .cells ∉ E := by decide +kernel) : zKept n s u :=
  h.of_cells (hu.cell hE n)

theorem ite {c : Prop} {_ : Decidable c} (h : zKept n s t) (hu : zKept n s u) : zKept n s (if c then t else u) := by
  split
  · exact h
  · exact hu

/-- A change of a position's other parts. -/
theorem updCell (h : zKept n s t) (m p : Nat) {f : Cell → Cell} (hf : ∀ c, (f c).z = c.z ∧ (f c).zAt = c.zAt ∧ (f c).zCur = c.zCur) :
    zKept n s (t.updCell m p f) := by
  intro q
  have hcell : (t.updCell m p f).cell n q = t.cell n q ∨ (t.updCell m p f).cell n q = f (t.cell n q) := by
    rw [State.cell, State.updCell, State.g_updG]
    split
    next hm =>
      obtain ⟨rfl, -⟩ := hm
      rw [modAt_getD]
      split
      · exact Or.inr rfl
      · exact Or.inl rfl
    next => exact Or.inl rfl
  rcases hcell with e | e
  · rw [e]
    exact h q
  · rw [e]
    obtain ⟨hz, hzAt, hzCur⟩ := hf (t.cell n q)
    obtain ⟨h1, h2, h3⟩ := h q
    exact ⟨hz.trans h1, hzAt.trans h2, hzCur.trans h3⟩

theorem raise (h : zKept n s t) (k i : Nat) : zKept n s (t.raise k i) := h
theorem setN (h : zKept n s t) (k x : Nat) : zKept n s (t.setN k x) := h

theorem coreEval (h : zKept n s t) (m p : Nat) (x : ExcSet) (tick : Nat) : zKept n s (t.coreEval m p x tick) := by
  have hkeep : ∀ c : Cell, ∀ a b, ({ c with core := a, coreQ := b, coreAt := tick } : Cell).z = c.z := fun _ _ _ => rfl
  refine ite (h.updCell m p fun c => ⟨rfl, rfl, rfl⟩) (ite ((h.raise _ 0).updCell m p fun c => ⟨rfl, rfl, rfl⟩) (ite h (ite
    (h.updCell m p fun c => ⟨rfl, rfl, rfl⟩) (h.updCell m p fun c => ⟨rfl, rfl, rfl⟩))))

theorem plateEval (h : zKept n s t) (m p : Nat) (x : ExcSet) (dir : Int) : zKept n s (t.plateEval m p x dir) := by
  refine ite h ?_
  split
  · exact h
  · refine ite (h.updCell m p fun c => ⟨rfl, rfl, rfl⟩) ?_
    split
    · exact h
    · refine ite h (ite ?_ (h.updCell m p fun c => ⟨rfl, rfl, rfl⟩))
      refine op (E := Eff.record) ?_ (Within.record ..)
      refine setN (raise (updCell (updCell h m p ?_) m p ?_) _ 1) _ _
      · exact fun c => ⟨rfl, rfl, rfl⟩
      · exact fun c => ⟨rfl, rfl, rfl⟩

end State.zKept

/-- An evaluation of the sweep interval leaves spectroscopy and positions. -/
theorem State.intervalEval_leaves (s : State) (n m : Nat) :
    ((s.intervalEval n).g m).spec = (s.g m).spec ∧ ((s.intervalEval n).g m).cells = (s.g m).cells := by
  have hg : ∀ f : ThermRt → ThermRt, ((s.updTherm n f).g m).spec = (s.g m).spec ∧ ((s.updTherm n f).g m).cells = (s.g m).cells := by
    intro f
    rw [State.updTherm, State.g_updG]
    split <;> exact ⟨rfl, rfl⟩
  obtain ⟨f, k, hf⟩ : ∃ f k, s.intervalEval n = (s.updTherm n f).setN (Gal.THERMAL_STATUS.INTERVAL_NOW n) k := ⟨_, _, rfl⟩
  rw [hf]
  exact hg f

theorem spectrumPublish_gives {s : State} {n : Nat} {w : PubWin} (hgal : s.hasGal n = true) (hlen : s.gal.length = 32)
    (hpub : (s.g n).spec.pub = some w) :
    ∃ t, exec (.spectrumPublish n) s = .next t ∧ (t.g n).spec.pub = none ∧
      (∀ q < (s.g n).cells.length, (s.cell n q).okOld = true → (t.cell n q).zAt = w.lastTick ∧ (t.cell n q).zCur = true ∧
        (t.cell n q).z.map (fun z => (z.1, z.2.1)) =
          (List.range w.set.tones.length).map (fun k => zOf ((s.cell n q).accOld.getD k (0, 0)) (w.win.acc.getD k (0, 0)))) ∧
      ∀ q, (s.cell n q).okOld = false → (t.cell n q).z = (s.cell n q).z := by
  have hn := State.lt_of_hasGal hgal hlen
  rw [exec]
  unfold execSpectrumPublish
  simp -zeta only [hpub, hgal, Bool.not_true, Bool.false_eq_true, if_false]
  extract_lets x s1 tol k iMag ratio s2 s3 s4 s5 r s6
  rw [exists_next]
  have hg1 : s1.g n = { s.g n with spec := { (s.g n).spec with pub := none } } := State.g_updG_same hn _
  have hn2 : n < s2.gal.length := hn.trans_eq (modAt_length ..).symm
  obtain ⟨F, hcells, hold, hother⟩ : ∃ F : Cell → Cell, (s3.g n).cells = (s.g n).cells.map F ∧
      (∀ c : Cell, c.okOld = true → (F c).zAt = w.lastTick ∧ (F c).zCur = true ∧ (F c).z.map (fun z => (z.1, z.2.1)) =
        (List.range w.set.tones.length).map (fun k => zOf (c.accOld.getD k (0, 0)) (w.win.acc.getD k (0, 0)))) ∧
      ∀ c : Cell, c.okOld = false → (F c).z = c.z := by
    refine ⟨_, (congrArg Gallery.cells (State.g_updG_same hn2 _) :).trans (congrArg (List.map _) (congrArg Gallery.cells hg1 :)),
      fun c hc => ?_, fun c hc => ?_⟩
    · simp only [hc, if_true]
      refine ⟨trivial, trivial, List.ext_getElem (by simp [x]) fun i h1 h2 => ?_⟩
      simp
    · simp only [hc, Bool.false_eq_true, if_false]
      split <;> rfl
  have hpub3 : (s3.g n).spec.pub = none :=
    (congrArg (fun g : Gallery => g.spec.pub) (State.g_updG_same hn2 _) :).trans (congrArg (fun g : Gallery => g.spec.pub) hg1 :)
  have hfold : s3.zKept n s4 ∧ s3.Within (Eff.plateEval ++ [.gal 0x38 4]) s4 := by
    refine List.foldlRecOn (motive := fun u : State => State.zKept n s3 u ∧ s3.Within (Eff.plateEval ++ [.gal 0x38 4]) u) _ _
      ⟨State.zKept.refl s3, State.Within.refl s3⟩ fun u hu q _ => ?_
    obtain ⟨hz, hw⟩ := hu
    exact ⟨hz.ite ((hz.coreEval n q x w.lastTick).ite ((hz.coreEval n q x w.lastTick).plateEval n q x w.win.dir)),
      hw.ite ((hw.op (State.Within.coreEval ..)).ite ((hw.op (State.Within.coreEval ..)).op (State.Within.plateEval ..)))⟩
  obtain ⟨hz, hw⟩ := hfold
  have hupd : ∀ f : SpecRt → SpecRt, (∀ r, (f r).pub = r.pub) →
      ((s5.updSpec n f).g n).spec.pub = (s5.g n).spec.pub ∧ ((s5.updSpec n f).g n).cells = (s5.g n).cells := by
    intro f hf
    rw [State.updSpec, State.g_updG]
    split
    · exact ⟨hf _, rfl⟩
    · exact ⟨rfl, rfl⟩
  have h6 : (s6.g n).spec.pub = (s5.g n).spec.pub ∧ (s6.g n).cells = (s5.g n).cells := by
    unfold s6
    split
    · exact hupd _ fun r => rfl
    · exact ⟨rfl, rfl⟩
  obtain ⟨hspecI, hcellsI⟩ := s6.intervalEval_leaves n n
  have hlevel := State.Within.levelEval (s6.intervalEval n) n
  have hcell : ∀ q, ((s6.intervalEval n).levelEval n).cell n q = s4.cell n q := fun q => by
    rw [hlevel.cell, State.cell, hcellsI, h6.2]
    rfl
  refine ⟨?_, fun q hq hok => ?_, fun q hno => ?_⟩
  · rw [hlevel.spec, hspecI, h6.1]
    exact (congrArg SpecRt.pub (hw.spec (by decide +kernel) n) :).trans hpub3
  · obtain ⟨hzq, hat_, hcur⟩ := hz q
    have h3 : s3.cell n q = F (s.cell n q) := by
      rw [State.cell, hcells, State.cell, List.getD_eq_getElem _ _ (by simpa using hq), List.getElem_map, List.getD_eq_getElem _ _ hq]
    rw [hcell, hat_, hcur, hzq, h3]
    exact hold _ hok
  · obtain ⟨hzq, -, -⟩ := hz q
    rw [hcell, hzq, State.cell, hcells]
    by_cases hq : q < (s.g n).cells.length
    · have hc : (s.g n).cells[q] = s.cell n q := by rw [State.cell, List.getD_eq_getElem _ _ hq]
      rw [List.getD_eq_getElem _ _ (by simpa using hq), List.getElem_map, hc]
      exact hother _ hno
    · rw [State.cell, List.getD_eq_default _ _ (by simpa using hq), List.getD_eq_default _ _ (by simpa using hq)]

/-! ### Plating and the archive's commands -/

theorem platingClear_clears {s : State} {p : Path} {n : Nat} (hn : n < s.gal.length)
    (h : s.takesWrite p (0x4014 + 0x40 * n) 0x14 [1] (.n 1)) :
    ∃ t, exec (.platingClear p n) s = .next t ∧ t.last = some (.ok []) ∧ t.getN (Gal.SPECTRUM_STATUS.PLATING_CELLS n) = 0 ∧
      (∀ c ∈ (t.g n).cells, c.plating = false) ∧ s.sameBut t [Gal.SPECTRUM_STATUS.PLATING_CELLS n] := by
  rw [exec, execPlatingClear, State.write_ok h rfl, exists_next]
  refine ⟨rfl, State.getN_setN_same .., fun c hc => ?_, by simp +contextual [State.sameBut]⟩
  change c ∈ (State.g (s.updG n (fun g => { g with cells := g.cells.map (fun c => { c with plating := false }) })) n).cells at hc
  rw [State.g_updG_same hn] at hc
  obtain ⟨c', -, rfl⟩ := List.mem_map.mp hc
  rfl

theorem archiveNow_marks {s : State} {p : Path} {n : Nat} (hn : n < s.gal.length)
    (h : s.takesWrite p (0x4014 + 0x40 * n) 0x16 [1] (.n 1)) :
    ∃ t, exec (.archiveNow p n) s = .next t ∧ t.last = some (.ok []) ∧ (t.g n).spec = { (s.g n).spec with archNow := true } ∧
      ∀ k, t.val k = s.val k := by
  rw [exec, execArchiveNow, State.write_ok h rfl, exists_next]
  exact ⟨rfl, State.spec_updSpec hn (fun r => { r with archNow := true }), fun k => rfl⟩

theorem archiveInterval_marks {s : State} {n : Nat} (hgal : s.hasGal n = true) (hlen : s.gal.length = 32)
    (hiv : s.getN (Gal.EXCITATION_CFG.ARCHIVE_INTERVAL n) ≠ 0)
    (hdue : secTicks (s.getN (Gal.EXCITATION_CFG.ARCHIVE_INTERVAL n)) ≤ s.aged (s.g n).spec.archAt) :
    ∃ t, exec (.archiveInterval n) s = .next t ∧ (t.g n).spec = { (s.g n).spec with archNow := true } ∧ ∀ k, t.val k = s.val k := by
  rw [exec, execArchiveInterval, hgal, decide_eq_true hiv, decide_eq_true hdue, Bool.and_self, Bool.and_self, if_pos rfl, exists_next]
  exact ⟨State.spec_updSpec (State.lt_of_hasGal hgal hlen) _, fun k => rfl⟩

/-! ### Records of the archive -/

/-- Every string's view of the archive (R219). -/
def State.archSynced (s : State) : State := s.forGal (fun m s => s.archSync m)

theorem State.archSync_within (s : State) : s.Within [.galRest, .gal 0x15 18, .gal 0x15 19] s.archSynced :=
  (State.Within.refl s).forGal fun _ _ h => h.op (State.Within.archSync ..)

/-- It leaves the pending records. -/
theorem State.archSynced_pend (s : State) (n : Nat) : (s.archSynced.g n).spec.archPend = (s.g n).spec.archPend := by
  refine State.forGal_keeps (P := fun t => (t.g n).spec.archPend = (s.g n).spec.archPend) (fun m t ht => ?_) rfl
  have hupd : ∀ f : SpecRt → SpecRt, (∀ r, (f r).archPend = r.archPend) →
      ((t.updSpec m f).g n).spec.archPend = (s.g n).spec.archPend := by
    intro f hf
    rw [State.updSpec, State.g_updG]
    split
    next hm =>
      obtain ⟨rfl, -⟩ := hm
      exact (hf _).trans ht
    next => exact ht
  unfold State.archSync
  extract_lets rs l u
  show ((if (t.g m).spec.archPend.isSome then t else t.updSpec m _).g n).spec.archPend = _
  split
  · exact ht
  · exact hupd _ fun r => rfl

/-- ARCHIVE_LAST of a string is the SEQ of its last record. -/
theorem State.archSynced_last (s : State) {n : Nat} (hn : n < s.part.galleries) :
    s.archSynced.getN (Gal.SPECTRUM_STATUS.ARCHIVE_LAST n) =
      ((s.nand.archive.filter (fun r => r.string == n)).map (·.seq)).getLastD 0xFFFFFFFF := by
  refine State.forGal_each (I := fun t => t.nand = s.nand) (P := fun m t => t.getN (Gal.SPECTRUM_STATUS.ARCHIVE_LAST m) =
    ((s.nand.archive.filter (fun r => r.string == m)).map (·.seq)).getLastD 0xFFFFFFFF) (fun m t ht => ?_) (fun m t ht => ?_)
    (fun a m t hne ht => ?_) rfl n hn
  · exact ((State.Within.archSync t m).kept .nand (by decide +kernel) :).trans ht
  · rw [← ht]
    exact State.getN_setN_same ..
  · rw [← ht]
    have hkeys : Gal.SPECTRUM_STATUS.ARCHIVE_LAST a ≠ Gal.SPECTRUM_STATUS.ARCHIVE_LAST m ∧
        Gal.SPECTRUM_STATUS.ARCHIVE_LAST a ≠ Gal.SPECTRUM_STATUS.ARCHIVE_FIRST m := by
      unfold Gal.SPECTRUM_STATUS.ARCHIVE_LAST Gal.SPECTRUM_STATUS.ARCHIVE_FIRST galKey keyOf
      omega
    unfold State.archSync
    extract_lets rs l u
    simp only [State.setN_eq_put, State.getN_put, hkeys, if_false]
    show (if (t.g m).spec.archPend.isSome then t else t.updSpec m _).getN _ = _
    split <;> rfl

/-- The pages of a record whose body is `body`. -/
theorem archPages (seq : Nat) (body : List Byte) :
    ((leBytes 4 seq ++ body) ++ leBytes 4 (crc32c (leBytes 4 seq ++ body))).length = body.length + 8 := by
  simp only [List.length_append, State.leBytes_length]
  omega

/-- A record that fits at the write point is appended there. -/
theorem archiveRecordWrite_appends {s : State} {n : Nat} {body : List Byte} (hgal : s.hasGal n = true) (hlen : s.gal.length = 32)
    (hpend : (s.g n).spec.archPend = some body) (herase : s.recd.eraseArch = none) (hup : s.powerDown = false) (hfree : s.nandFree = true)
    (hfits : (body.length + 8 + 2047) / 2048 ≤ s.archLeft) :
    ∃ t, exec (.archiveRecordWrite n) s = .next t ∧ (t.g n).spec.archPend = none ∧
      t.nand.archSeq = (s.nand.archSeq + 1) % 2 ^ 32 ∧ t.getN (Gal.SPECTRUM_STATUS.ARCHIVE_LAST n) = s.nand.archSeq ∧
      ∃ r, t.nand.archive = s.nand.archive ++ [r] ∧ r.seq = s.nand.archSeq ∧ r.string = n ∧
        r.bytes = (leBytes 4 s.nand.archSeq ++ body) ++ leBytes 4 (crc32c (leBytes 4 s.nand.archSeq ++ body)) := by
  have hn := State.lt_of_hasGal hgal hlen
  have hpart : n < s.part.galleries := of_decide_eq_true hgal
  rw [exec]
  unfold execArchiveRecordWrite
  simp -zeta only [hpend, herase, hgal, hup, hfree, Bool.not_true, Bool.or_self, Bool.false_eq_true, if_false]
  extract_lets seq head bytes pages s1 s2
  have hpages : pages ≤ s.archLeft := by
    unfold pages
    rw [archPages]
    exact hfits
  have hs1 : s1 = s := by
    unfold s1
    rw [if_neg fun h => absurd h.1 (Nat.not_lt.mpr hpages)]
  obtain ⟨ids, ring, free, hplace⟩ : ∃ ids ring free, s1.archPlace pages = some (ids, ring, free) := by
    rw [hs1, State.archPlace]
    exact ⟨_, _, _, if_pos hpages⟩
  have hs2 : s2 = ((s.updNand (fun d => { d with
      archive := d.archive ++ [({ seq := seq, string := n, page := d.archPage, blocks := ids, bytes := bytes } : ArchRec)]
      archSeq := (seq + 1) % 2 ^ 32, archPage := d.archPage + pages, archRing := ring, archFree := free })).updSpec n
        (fun r => { r with archPend := none })).inc (Gal.COUNTERS.ARCHIVE_RECORDS n) := by
    unfold s2
    rw [hplace, hs1, herase]
    rfl
  obtain ⟨hnand, hpart2, hspec⟩ : s2.nand = { s.nand with
      archive := s.nand.archive ++ [({ seq := seq, string := n, page := s.nand.archPage, blocks := ids, bytes := bytes } : ArchRec)]
      archSeq := (seq + 1) % 2 ^ 32, archPage := s.nand.archPage + pages, archRing := ring, archFree := free } ∧ s2.part = s.part ∧
      (s2.g n).spec.archPend = none := by
    rw [hs2]
    exact ⟨rfl, rfl, (congrArg (fun g : Gallery => g.spec.archPend) (State.g_updG_same hn _) :)⟩
  rw [exists_next]
  have hkeep : s2.archSynced.nand = s2.nand := (State.archSync_within s2).kept .nand (by decide +kernel)
  refine ⟨(s2.archSynced_pend n).trans hspec, ?_, ?_,
    { seq := seq, string := n, page := s.nand.archPage, blocks := ids, bytes := bytes }, ?_, rfl, rfl, rfl⟩
  · exact (congrArg Store.archSeq hkeep :).trans (congrArg Store.archSeq hnand :)
  · refine (s2.archSynced_last (hpart2 ▸ hpart)).trans ?_
    rw [hnand]
    simp [seq]
  · exact (congrArg Store.archive hkeep :).trans (congrArg Store.archive hnand :)

/-- A marker is the last one of the journal. -/
theorem State.journalAdd_last (s : State) (m : JMark) : (s.journalAdd m).recd.journal.getLast? = some m := by
  show (if s.recd.journal.length < Config.journalRoom then s.recd.journal ++ [m] else openStarts s.recd.journal ++ [m]).getLast? = _
  split <;> exact List.getLast?_concat ..

/-- One that does not fit has the oldest block erased. -/
theorem archiveRecordWrite_erases {s : State} {n : Nat} {body : List Byte} {b b' : ArchBlock} {ring : List ArchBlock}
    (hgal : s.hasGal n = true) (hpend : (s.g n).spec.archPend = some body) (herase : s.recd.eraseArch = none) (hup : s.powerDown = false)
    (hfree : s.nandFree = true) (hfull : s.archLeft < (body.length + 8 + 2047) / 2048) (hlast : s.nand.archFree.length < 2)
    (hring : s.nand.archRing = b :: b' :: ring) (hworn : s.erases b.id < 100000) :
    ∃ t, exec (.archiveRecordWrite n) s = .next t ∧ t.recd.eraseArch = some b.id ∧ (t.g n).spec.archPend = some body ∧
      t.recd.journal.getLast? = some (.start 1 b.id (s.erases b.id + 1) (s.archHigh b.id)) ∧
      t.nand.archive = s.nand.archive.filter (fun r => !r.blocks.contains b.id) := by
  rw [exec]
  unfold execArchiveRecordWrite
  simp -zeta only [hpend, herase, hgal, hup, hfree, Bool.not_true, Bool.or_self, Bool.false_eq_true, if_false]
  extract_lets seq head bytes pages s1 s2
  have hpages : s.archLeft < pages := by
    unfold pages
    rw [archPages]
    exact hfull
  obtain ⟨u, hu, hnandU, hgalU, hworld⟩ : ∃ u : State, s.updNand (fun d => { d with
      archive := d.archive.filter (fun r => !r.blocks.contains b.id), archRing := b' :: ring }) = u ∧
      u.nand.archive = s.nand.archive.filter (fun r => !r.blocks.contains b.id) ∧ u.gal = s.gal ∧ u.recd = s.recd := ⟨_, rfl, rfl, rfl, rfl⟩
  have hs1 : s1 = (u.journalAdd (.start 1 b.id (s.erases b.id + 1) (s.archHigh b.id))).updRec (fun r => { r with eraseArch := some b.id }) := by
    have herases : u.erases b.id = s.erases b.id := by rw [State.erases, hworld, State.erases]
    have hnot : u.worn b.id false = false := by
      rw [State.worn, herases, Bool.or_false, decide_eq_false (by omega)]
    unfold s1
    rw [if_pos ⟨hpages, hlast⟩, hring, State.archMakeRoom, hu, hnot, herases, if_neg Bool.false_ne_true]
  have hs2 : s2 = s1 := by
    unfold s2
    exact if_pos (by rw [hs1]; rfl)
  have hrec : s2.recd.eraseArch = some b.id ∧ s2.recd.journal.getLast? = some (.start 1 b.id (s.erases b.id + 1) (s.archHigh b.id)) ∧
      s2.nand.archive = s.nand.archive.filter (fun r => !r.blocks.contains b.id) ∧ s2.gal = s.gal := by
    rw [hs2, hs1]
    exact ⟨rfl, u.journalAdd_last _, hnandU, hgalU⟩
  obtain ⟨he, hj, ha, hg⟩ := hrec
  rw [exists_next]
  have hkeepN : s2.archSynced.nand = s2.nand := (State.archSync_within s2).kept .nand (by decide +kernel)
  have hkeepR : s2.archSynced.recd = s2.recd := by
    refine State.forGal_keeps (P := fun t => t.recd = s2.recd) (fun m t ht => ?_) rfl
    unfold State.archSync
    extract_lets rs l v
    show (if (t.g m).spec.archPend.isSome then t else t.updSpec m _).recd = _
    split <;> exact ht
  refine ⟨(congrArg RecorderRt.eraseArch hkeepR :).trans he, ?_, (congrArg (fun r : RecorderRt => r.journal.getLast?) hkeepR :).trans hj,
    (congrArg Store.archive hkeepN :).trans ha⟩
  refine (s2.archSynced_pend n).trans ?_
  rw [State.g, hg]
  exact hpend

/-- An object that a write has stored, and the others. -/
theorem State.put_replied (s : State) (k w : Nat) : ((s.put k (.n w)).reply (.ok [])).last = some (.ok []) ∧
    ((s.put k (.n w)).reply (.ok [])).getN k = w ∧ s.sameBut ((s.put k (.n w)).reply (.ok [])) [k] :=
  ⟨rfl, by simp, by simp +contextual [State.sameBut]⟩

theorem archiveSelEff_puts (s : State) (p : Path) (n w : Nat) :
    archiveSelEff p n (.n w) s = .ok (s.put (pathKey p (Gal.SPECTRUM_STATUS.ARCHIVE_SEL n)) (.n w)) := rfl

theorem archiveSel_stores {s : State} {p : Path} {n w k : Nat} (h : s.takesWrite p (0x4015 + 0x40 * n) 0x10 (leBytes 8 w) (.n w))
    (he : archiveSelEff p n (.n w) s = .ok (s.put k (.n w))) : exec (.archiveSel p n w) s = .next ((s.put k (.n w)).reply (.ok [])) := by
  rw [exec, execArchiveSel, State.write_ok h he]

theorem archiveSel_keeps {s : State} {p : Path} {n w : Nat} (h : s.takesWrite p (0x4015 + 0x40 * n) 0x10 (leBytes 8 w) (.n w)) :
    ∃ t, exec (.archiveSel p n w) s = .next t ∧ t.last = some (.ok []) ∧
      t.getN (pathKey p (Gal.SPECTRUM_STATUS.ARCHIVE_SEL n)) = w ∧ s.sameBut t [pathKey p (Gal.SPECTRUM_STATUS.ARCHIVE_SEL n)] :=
  ⟨_, archiveSel_stores h (archiveSelEff_puts s p n w), s.put_replied _ w⟩

/-- A read of an archive record that is refused. -/
theorem archiveRead_refused {s : State} {p : Path} {n c : Nat} (h : s.takesRead p (0x4015 + 0x40 * n) 0x11)
    (he : archiveReadOf p n s = .error c) : exec (.archiveRead p n) s = .next (s.reply (.abort c)) := by
  rw [exec, execArchiveRead, State.readWith_taken h, he]

/-- What the read of an archive of one record of the string looks at. -/
theorem archiveReadOf_one {s : State} {p : Path} {n w : Nat} {r : ArchRec} (hone : s.nand.archive = [r]) (hstr : r.string = n)
    (hsel : s.getN (pathKey p (Gal.SPECTRUM_STATUS.ARCHIVE_SEL n)) = w) (hseq : bits w 31 0 = r.seq) :
    archiveReadOf p n s =
      if fieldN r.bytes 16 2 < bits w 47 32 + bits w 63 48 ∨ 65536 < 128 + bits w 63 48 * (4 + 5 * fieldN r.bytes 6 1) then .error abortRange
      else .ok (r.bytes.take 128 ++ slice r.bytes (128 + bits w 47 32 * (4 + 5 * fieldN r.bytes 6 1))
        (bits w 63 48 * (4 + 5 * fieldN r.bytes 6 1)), s) := by
  have hfind : s.nand.archive.find? (fun x => x.seq == bits w 31 0 && x.string == n) = some r := by
    rw [hone, List.find?_cons_of_pos (by simp [hseq, hstr])]
  unfold archiveReadOf
  rw [hsel]
  dsimp only
  rw [hfind]

/-- Settles O38. -/
theorem excitationSetsAndArchive : Obligations.ExcitationSetsAndArchive := by
  unfold Obligations.ExcitationSetsAndArchive
  refine ⟨fun s p n hn hlen h hidle hok => excitationApply_takes (hlen ▸ hn) h hidle hok,
    fun s p n _ h hidle hbad => excitationApply_names h hidle hbad, fun s p n h hbusy => ?_,
    fun s n x hgal hlen hx hst => setComputed_atOnce hgal hlen hx hst, fun s n x hgal hlen hx hst => setComputed_paused hgal hlen hx hst,
    fun s n x hgal hlen hx h0 h1 h4 => setComputed_waits hgal hlen hx h0 h1 h4, fun s n w hgal hlen hpub => spectrumPublish_gives hgal hlen hpub,
    fun s p n hn hlen h => platingClear_clears (hlen ▸ hn) h, fun s p n hn hlen h => archiveNow_marks (hlen ▸ hn) h,
    fun s n hgal hlen hiv hdue => archiveInterval_marks hgal hlen hiv hdue,
    fun s n body hgal hlen hpend herase hup hfree hfits => archiveRecordWrite_appends hgal hlen hpend herase hup hfree hfits,
    fun s n body b b' ring hgal _ hpend herase hup hfree hfull hlast hring hworn =>
      archiveRecordWrite_erases hgal hpend herase hup hfree hfull hlast hring hworn,
    fun s p n w _ h => archiveSel_keeps h, fun s p n h hnone => archiveRead_refused (c := abortNoData) h ?_,
    fun s p n w r h hone hstr hsel hseq hfirst hsize => ?_,
    fun s p n w r h hone hstr hsel hseq hout => archiveRead_refused h ?_⟩
  · have he : applyEff n (.n 1) s = (some abortState, s) := by rw [applyEff, if_pos hbusy]
    rw [exec, execExcitationApply, State.writeX_taken h, he]
  · simp [archiveReadOf, hnone]
  · have hof := archiveReadOf_one (p := p) hone hstr hsel hseq
    rw [if_neg (by omega)] at hof
    rw [exec, execArchiveRead, State.readWith_taken h, hof]
  · rw [archiveReadOf_one hone hstr hsel hseq, if_pos (Or.inl hout)]

end Sys2Proof.Machine
end

section
/-! Which parts of the state the estimation of a string leaves (part of the frame layer). -/
namespace Sys2Proof.Machine
set_option Elab.async false

theorem State.Within.setMissing (s : State) (n) : s.Within [.gal 0x38 5] (s.setMissing n) := by
  unfold State.setMissing
  exact (refl s).ite ((refl s).raise .gal)

def Eff.installSet : List Eff := [.gal 0x18 2, .gal 0x18 3, .est, .cells]
theorem State.Within.installSet (s : State) (n) : s.Within Eff.installSet (s.installSet n) := by
  unfold State.installSet
  split
  · exact ((((refl s).setB .gal).setN .gal).updEst).galCells
  · exact (refl s)

def Eff.aggregate : List Eff := [.gal 0x19 1, .gal 0x19 2, .gal 0x19 3, .gal 0x19 4, .gal 0x19 5, .gal 0x19 6, .gal 0x19 7, .gal 0x19 8,
    .gal 0x19 9, .gal 0x19 10, .gal 0x19 11, .gal 0x19 12, .gal 0x19 13, .gal 0x19 14, .gal 0x19 15, .gal 0x19 16, .gal 0x19 17, .gal 0x19
    18, .free]
theorem State.Within.aggregate (s : State) (n) : s.Within Eff.aggregate (s.aggregate n) := by
  unfold State.aggregate
  exact (((((((((((((((((refl s).setR .gal).setR .gal).setR .gal).setN .gal).setR .gal).setN .gal).setR .gal).setR .gal).setR .gal).setR
    .gal).setR .gal).setR .gal).setR .gal).setR .gal).setR .gal).ite ((((((((((((((((refl s).setR .gal).setR .gal).setR .gal).setN
    .gal).setR .gal).setN .gal).setR .gal).setR .gal).setR .gal).setR .gal).setR .gal).setR .gal).setR .gal).setR .gal).setR .gal)).andThen
    fun h1 => (((h1.setR .gal).setN .gal).setN .gal).withFree

end Sys2Proof.Machine
end

section
/-! O39: model steps, rest corrections, aggregates, saves, parameter sets and replacement (R223 to R248). -/
namespace Sys2Proof.Machine
set_option Elab.async false

theorem State.hasGal_of_strOn {s : State} {n : Nat} (h : s.strOn n = true) : s.hasGal n = true := by
  simp only [State.strOn, Bool.and_eq_true] at h
  exact h.1.1

theorem State.hasGal_of_saveable {s : State} {n : Nat} (h : s.saveable n = true) : s.hasGal n = true :=
  State.hasGal_of_strOn (Bool.and_eq_true_iff.mp h).1

theorem State.est_updEst {s : State} {n : Nat} (hn : n < s.gal.length) (f : EstRt → EstRt) :
    ((s.updEst n f).g n).est = f (s.g n).est := by
  rw [State.updEst, State.g_updG_same hn]

theorem State.cells_updEst (s : State) (n m : Nat) (f : EstRt → EstRt) : ((s.updEst n f).g m).cells = (s.g m).cells := by
  rw [State.updEst, State.g_updG]
  split <;> rfl

theorem State.cell_updEst (s : State) (n m p : Nat) (f : EstRt → EstRt) : (s.updEst n f).cell m p = s.cell m p := by
  rw [State.cell, State.cells_updEst, State.cell]

theorem State.cell_updPos_same {s : State} {n p : Nat} (hn : n < s.gal.length) (hp : p < (s.g n).cells.length) (f : PosEst → PosEst) :
    (s.updPos n p f).cell n p = { s.cell n p with est := f (s.cell n p).est } := by
  rw [State.cell, State.updPos, State.updCell, State.g_updG_same hn, modAt_getD, if_pos ⟨rfl, hp⟩, State.cell]

theorem State.cell_updPos_other (s : State) (n : Nat) {p q : Nat} (hq : q ≠ p) (f : PosEst → PosEst) :
    (s.updPos n p f).cell n q = s.cell n q := by
  rw [State.cell, State.updPos, State.updCell, State.g_updG]
  split
  · rw [modAt_getD, if_neg fun h => hq h.1, State.cell]
  · rw [State.cell]

/-- A change of an estimate leaves the rest of every position. -/
theorem State.cell_updPos (s : State) (n p q : Nat) (f : PosEst → PosEst) :
    ∃ e, (e = f (s.cell n q).est ∨ e = (s.cell n q).est) ∧ (s.updPos n p f).cell n q = { s.cell n q with est := e } := by
  by_cases h : n < s.gal.length ∧ q = p ∧ p < (s.g n).cells.length
  · obtain ⟨hn, rfl, hq⟩ := h
    exact ⟨_, .inl rfl, State.cell_updPos_same hn hq f⟩
  · refine ⟨(s.cell n q).est, .inr rfl, ?_⟩
    rw [State.cell, State.updPos, State.updCell, State.g_updG]
    split
    next hn =>
      rw [modAt_getD, if_neg fun hq : q = p ∧ q < (s.g n).cells.length => h ⟨hn.2, hq.1, hq.1 ▸ hq.2⟩]
      rfl
    next => rfl

/-! ### Saves (R237, R238) -/

theorem stateSave_starts {s : State} {n : Nat} (hlen : s.gal.length = 32) (h : s.saveable n = true) (hidle : (s.g n).est.saving = none)
    (hfree : s.nandFree = true)
    (hdue : (s.g n).est.saveDue.isSome = true ∨
      s.passed (s.g n).est.savedAt (secTicks (s.getN (Gal.ESTIM_CFG.SAVE_INTERVAL n))) = true) :
    ∃ t, exec (.stateSave n) s = .next t ∧
      (t.g n).est = { (s.g n).est with saving := some (s.energised n), saveSlot := (s.saveSlot n).1, saveSeq := (s.saveSlot n).2 } ∧
      SMap.find? t.nand.images (2 * n + (s.saveSlot n).1) = none ∧ ∀ k, t.val k = s.val k := by
  have hgal := State.hasGal_of_saveable h
  have hguard : (s.hasGal n && s.saveable n && (s.g n).est.saving.isNone && s.nandFree && ((s.g n).est.saveDue.isSome ||
      s.passed (s.g n).est.savedAt (secTicks (s.getN (Gal.ESTIM_CFG.SAVE_INTERVAL n))))) = true := by
    rw [hgal, h, hidle, hfree]
    simpa using hdue
  simp only [exec, execStateSave, hguard, if_true]
  rw [exists_next]
  exact ⟨(State.est_updEst (s := s.updNand _) (State.lt_of_hasGal hgal hlen) _).trans rfl, SMap.find?_erase_same .., fun _ => rfl⟩

theorem stateSaveDone_holds {s : State} {n : Nat} {on : Bool} (hgal : s.hasGal n = true) (hlen : s.gal.length = 32)
    (h : (s.g n).est.saving = some on) :
    ∃ t, exec (.stateSaveDone n) s = .next t ∧ (t.g n).est.saving = none ∧ (t.g n).est.saveDue = none ∧
      t.getN (Gal.ESTIM_STRING.LAST_SAVE n) = s.now ∧ t.getN (Gal.COUNTERS.STATE_SAVES n) = min 0xFFFFFFFF (s.getN (Gal.COUNTERS.STATE_SAVES n) + 1) ∧
      SMap.find? t.nand.images (2 * n + (s.g n).est.saveSlot) = some (s.imageBytes n (s.g n).est.saveSeq (on || s.energised n)) ∧
      s.sameBut t [Gal.ESTIM_STRING.LAST_SAVE n, Gal.COUNTERS.STATE_SAVES n] := by
  have hn := State.lt_of_hasGal hgal hlen
  rw [exec]
  unfold execStateSaveDone
  simp -zeta only [h, hgal, if_true]
  extract_lets r on' im u v w
  have hw : w.gal = s.gal ∧ w.nand = u.nand ∧ w.dict = v.dict := by
    dsimp only [w]
    split <;> exact ⟨rfl, rfl, rfl⟩
  obtain ⟨hwgal, hwnand, hwdict⟩ := hw
  have hest := State.est_updEst (s := w) (n := n) (hwgal ▸ hn)
    (fun e => { e with saving := none, saveDue := none, saveDe := false, savedAt := w.root })
  have hval : ∀ k, w.val k = v.val k := fun k => by rw [State.val, hwdict, State.val]
  have hread : w.getN (Gal.ESTIM_STRING.LAST_SAVE n) = s.now ∧
      w.getN (Gal.COUNTERS.STATE_SAVES n) = min 0xFFFFFFFF (s.getN (Gal.COUNTERS.STATE_SAVES n) + 1) ∧
      s.sameBut w [Gal.ESTIM_STRING.LAST_SAVE n, Gal.COUNTERS.STATE_SAVES n] := by
    simp +contextual (decide := true) [State.sameBut, State.getN, hval, v, u, State.inc, Gal.ESTIM_STRING.LAST_SAVE, Gal.COUNTERS.STATE_SAVES]
  rw [exists_next]
  refine ⟨(congrArg EstRt.saving hest :), (congrArg EstRt.saveDue hest :), hread.1, hread.2.1, ?_, hread.2.2⟩
  exact (congrArg (fun d : Store => SMap.find? d.images _) hwnand :).trans (SMap.find?_put_same ..)

theorem saveFailed_tells {s : State} {n k : Nat} (h : s.saveable n = true) (hk : (s.g n).est.saveDue = some k)
    (hlate : s.passed k (secTicks (s.getN (Gal.ESTIM_CFG.SAVE_INTERVAL n))) = true) :
    ∃ t, exec (.saveFailed n) s = .next t ∧ t.flag (Gal.FAULTS.ESTIM_FAULTS n) 5 = true ∧ s.sameBut t [Gal.FAULTS.ESTIM_FAULTS n] := by
  have hgal := State.hasGal_of_saveable h
  simp only [exec, execSaveFailed, hgal, h, hk, hlate, Bool.and_true, Bool.true_or, if_true]
  rw [exists_next]
  simp +contextual (decide := true) [State.sameBut, State.raise, State.setFlag]

/-! ### Parameter sets and replacement (R224, R240) -/

/-- The state in which a parameter set waits. -/
def State.setWaits (s : State) (n : Nat) (d : List Byte) : State := s.updEst n (fun e => { e with setNext := some d })

theorem modelSetEff_ok (s : State) (n : Nat) {d : List Byte} (hok : modelSetOk d = true) :
    modelSetEff n (.b d) s = .ok (if s.strOn n then s.setWaits n d else (s.setWaits n d).installSet n) := if_pos hok

theorem modelSet_waits {s : State} {p : Path} {n : Nat} {d : List Byte} (hn : n < s.gal.length)
    (h : s.takesWrite p (0x4018 + 0x40 * n) 2 d (.b d)) (hok : modelSetOk d = true) (hon : s.strOn n = true) :
    ∃ t, exec (.modelSet p n d) s = .next t ∧ t.last = some (.ok []) ∧ (t.g n).est = { (s.g n).est with setNext := some d } ∧
      (t.g n).cells = (s.g n).cells ∧ ∀ k, t.val k = s.val k := by
  have he := modelSetEff_ok s n hok
  rw [if_pos hon] at he
  have hest := State.est_updEst hn (fun e => { e with setNext := some d })
  rw [exec, execModelSet, State.write_ok h he, exists_next]
  exact ⟨rfl, hest, State.cells_updEst s n n (fun e => { e with setNext := some d }), fun _ => rfl⟩

/-- A position whose parameter set is new. -/
def Cell.newSet (c : Cell) : Cell := { c with est := { c.est with why := c.est.why ++ [.paramSet] } }

/-- The state in which the objects of a parameter set hold it. -/
def State.setStored (s : State) (n : Nat) (bs : List Byte) : State :=
  (s.setB (Gal.ESTIM_CFG.MODEL_SET n) bs).setN (Gal.ESTIM_CFG.MODEL_CRC n) (fieldN bs (bs.length - 4) 4)

theorem State.installSet_some {s : State} {n : Nat} {bs : List Byte} (h : (s.g n).est.setNext = some bs) :
    s.installSet n = ((s.setStored n bs).updEst n (fun e => { e with setNext := none })).updG n
      (fun g => { g with cells := g.cells.map Cell.newSet }) := by
  simp only [State.installSet, h]
  rfl

theorem State.g_installSet {s : State} {n : Nat} (hn : n < s.gal.length) {bs : List Byte} (h : (s.g n).est.setNext = some bs) :
    (s.installSet n).g n =
      { s.g n with est := { (s.g n).est with setNext := none }, cells := (s.g n).cells.map Cell.newSet } := by
  rw [State.installSet_some h, State.g_updG_same ((modAt_length ..).symm ▸ hn)]
  exact congrArg (fun g : Gallery => { g with cells := g.cells.map Cell.newSet })
    (State.g_updG_same (s := s.setStored n bs) hn (fun g => { g with est := { g.est with setNext := none } }))

theorem State.installSet_objects {s : State} {n : Nat} {bs : List Byte} (h : (s.g n).est.setNext = some bs) :
    (s.installSet n).getB (Gal.ESTIM_CFG.MODEL_SET n) = bs ∧
    (s.installSet n).getN (Gal.ESTIM_CFG.MODEL_CRC n) = fieldN bs (bs.length - 4) 4 ∧
    s.sameBut (s.installSet n) [Gal.ESTIM_CFG.MODEL_SET n, Gal.ESTIM_CFG.MODEL_CRC n] := by
  rw [State.installSet_some h]
  refine ⟨?_, ?_, ?_⟩
  · simp (decide := true) [State.getB, State.setStored, State.updEst, Gal.ESTIM_CFG.MODEL_SET, Gal.ESTIM_CFG.MODEL_CRC]
  · simp (decide := true) [State.setStored, State.updEst, Gal.ESTIM_CFG.MODEL_SET, Gal.ESTIM_CFG.MODEL_CRC]
  · simp +contextual [State.sameBut, State.setStored, State.updEst]

theorem State.installSet_none {s : State} {n : Nat} (h : (s.g n).est.setNext = none) : s.installSet n = s := by
  simp only [State.installSet, h]

theorem modelSet_atOnce {s : State} {p : Path} {n : Nat} {d : List Byte} (hn : n < s.gal.length)
    (h : s.takesWrite p (0x4018 + 0x40 * n) 2 d (.b d)) (hok : modelSetOk d = true) (hoff : s.strOn n = false) :
    ∃ t, exec (.modelSet p n d) s = .next t ∧ t.last = some (.ok []) ∧ t.getB (Gal.ESTIM_CFG.MODEL_SET n) = d ∧
      t.getN (Gal.ESTIM_CFG.MODEL_CRC n) = fieldN d (d.length - 4) 4 ∧ (∀ c ∈ (t.g n).cells, .paramSet ∈ c.est.why) ∧
      s.sameBut t [Gal.ESTIM_CFG.MODEL_SET n, Gal.ESTIM_CFG.MODEL_CRC n] := by
  have hunext : ((s.setWaits n d).g n).est.setNext = some d :=
    (congrArg EstRt.setNext (State.est_updEst hn (fun e => { e with setNext := some d })) :)
  have hulen : (s.setWaits n d).gal.length = s.gal.length := modAt_length ..
  have he := modelSetEff_ok s n hok
  rw [if_neg (by simp [hoff])] at he
  obtain ⟨hset, hcrc, hsame⟩ := State.installSet_objects hunext
  have hg := State.g_installSet (hulen ▸ hn) hunext
  rw [exec, execModelSet, State.write_ok h he, exists_next]
  refine ⟨rfl, hset, hcrc, fun c hc => ?_, hsame⟩
  obtain ⟨c0, -, rfl⟩ := List.mem_map.mp ((congrArg Gallery.cells hg :) ▸ hc)
  exact List.mem_append_right _ (List.mem_singleton.mpr rfl)

/-- The estimate of a cell that has been replaced, and the runtime of a string in which a save is due. -/
def PosEst.markReplaced (e : PosEst) : PosEst := { e with why := e.why ++ [.replaced], learn := none }
def EstRt.due (r : EstRt) (t : Nat) : EstRt := { r with saveDue := some (r.saveDue.getD t) }

theorem replaced_marks {s : State} {p : Path} {n pos : Nat} (hn : n < s.gal.length) (hpos : pos < (s.g n).cells.length)
    (h : s.takesWrite p (0x401A + 0x40 * n) 0x0C (leBytes 2 pos) (.n pos)) (hoff : s.energised n = false) :
    ∃ t, exec (.replaced p n pos) s = .next t ∧ t.last = some (.ok []) ∧ .replaced ∈ (t.cell n pos).est.why ∧
      (t.cell n pos).est.learn = none ∧ (t.g n).est.saveDue.isSome = true ∧
      (∀ q, q ≠ pos → t.cell n q = s.cell n q) ∧ ∀ k, t.val k = s.val k := by
  have he : replacedEff n (.n pos) s = .ok ((s.updPos n pos PosEst.markReplaced).updEst n (fun r => r.due s.root)) := by
    rw [replacedEff, hoff]
    rfl
  have hcell := (State.cell_updEst _ n n pos (fun r => r.due s.root)).trans (State.cell_updPos_same hn hpos PosEst.markReplaced)
  have hest := State.est_updEst (s := s.updPos n pos PosEst.markReplaced) (n := n) ((modAt_length ..).symm ▸ hn) (fun r => r.due s.root)
  rw [exec, execReplaced, State.write_ok h he, exists_next]
  refine ⟨rfl, ?_, (congrArg (fun c : Cell => c.est.learn) hcell :), (congrArg (fun r : EstRt => r.saveDue.isSome) hest :), fun q hq => ?_,
    fun _ => rfl⟩
  · exact ((congrArg (fun c : Cell => c.est.why) hcell :) ▸ List.mem_append_right _ (List.mem_singleton.mpr rfl))
  · exact (State.cell_updEst _ n n q (fun r => r.due s.root)).trans (State.cell_updPos_other s n hq PosEst.markReplaced)

/-! ### The model step at its rate, and without a parameter set (R225, R244, R263) -/

/-- The rate fraction that a model step leaves. -/
def State.rateLeft (s : State) (n : Nat) : Q :=
  if 1 ≤ (s.g n).est.rate + s.rateOf n then (s.g n).est.rate + s.rateOf n - 1 else (s.g n).est.rate + s.rateOf n

/-- The state in which a model step has taken its superframe. -/
def State.modelTaken (s : State) (n : Nat) : State :=
  s.updG n (fun g => { g with mdl := none, est := { g.est with rate := s.rateLeft n } })

theorem execModelStep_eq {s : State} {n : Nat} {x : ModelIn} (hon : s.strOn n = true) (hx : (s.g n).mdl = some x) :
    exec (.modelStep n) s = if 1 ≤ (s.g n).est.rate + s.rateOf n then
      .next ((((s.modelTaken n).installSet n).modelStep n x).setMissing n) else .next (s.modelTaken n) := by
  have hguard : (s.hasGal n && s.strOn n) = true := by rw [State.hasGal_of_strOn hon, hon, Bool.and_self]
  simp only [exec, execModelStep, hguard, hx, if_true]
  rfl

theorem State.g_modelTaken {s : State} {n : Nat} (hn : n < s.gal.length) :
    (s.modelTaken n).g n = { s.g n with mdl := none, est := { (s.g n).est with rate := s.rateLeft n } } := State.g_updG_same hn _

theorem modelStep_below {s : State} {n : Nat} {x : ModelIn} (hn : n < s.gal.length) (hon : s.strOn n = true)
    (hx : (s.g n).mdl = some x) (hrate : (s.g n).est.rate + s.rateOf n < 1) :
    ∃ t, exec (.modelStep n) s = .next t ∧ (t.g n).mdl = none ∧ (t.g n).est = { (s.g n).est with rate := (s.g n).est.rate + s.rateOf n } ∧
      (t.g n).cells = (s.g n).cells ∧ ∀ k, t.val k = s.val k := by
  have hg := State.g_modelTaken hn
  have hleft : s.rateLeft n = (s.g n).est.rate + s.rateOf n := if_neg (not_le.mpr hrate)
  rw [execModelStep_eq hon hx, if_neg (not_le.mpr hrate), exists_next]
  exact ⟨(congrArg Gallery.mdl hg :), hleft ▸ (congrArg Gallery.est hg :), (congrArg Gallery.cells hg :), fun _ => rfl⟩

/-- The estimate of a position without a parameter set in force. -/
def Cell.unmodelled (c : Cell) : Cell := { c with est := { c.est with ready := false, uncertain := true, lo := 0, hi := 1 } }

theorem State.setMissing_off {s : State} {n : Nat} (h : s.modelled n = false) :
    s.setMissing n = s.raise (Gal.FAULTS.ESTIM_FAULTS n) 0 := by
  rw [State.setMissing, h]
  rfl

theorem modelStep_unmodelled {s : State} {n : Nat} {x : ModelIn} (hn : n < s.gal.length) (hon : s.strOn n = true)
    (hx : (s.g n).mdl = some x) (hoff : s.modelled n = false) (hnext : (s.g n).est.setNext = none)
    (hrate : 1 ≤ (s.g n).est.rate + s.rateOf n) :
    ∃ t, exec (.modelStep n) s = .next t ∧ t.flag (Gal.FAULTS.ESTIM_FAULTS n) 0 = true ∧
      (∀ c ∈ (t.g n).cells, c.est.ready = false ∧ c.est.uncertain = true ∧ c.est.lo = 0 ∧ c.est.hi = 1) ∧
      s.sameBut t [Gal.FAULTS.ESTIM_FAULTS n] := by
  have hg := State.g_modelTaken hn
  have hinst : (s.modelTaken n).installSet n = s.modelTaken n := 
    State.installSet_none ((congrArg (fun g : Gallery => g.est.setNext) hg).trans hnext)
  have hstep : (s.modelTaken n).modelStep n x =
      (s.modelTaken n).updG n (fun g => { g with cells := g.cells.map Cell.unmodelled }) := by
    rw [State.modelStep, show (s.modelTaken n).modelled n = false from hoff]
    rfl
  have hcells := congrArg Gallery.cells (State.g_updG_same (s := s.modelTaken n) (n := n) ((modAt_length ..).symm ▸ hn)
    (fun g => { g with cells := g.cells.map Cell.unmodelled }))
  rw [execModelStep_eq hon hx, if_pos hrate, hinst, hstep, State.setMissing_off (s := (s.modelTaken n).updG n _) hoff, exists_next]
  refine ⟨by simp (decide := true) [State.raise, State.setFlag], fun c hc => ?_, ?_⟩
  · obtain ⟨c0, -, rfl⟩ := List.mem_map.mp (hcells ▸ hc)
    exact ⟨rfl, rfl, rfl, rfl⟩
  · simp +contextual [State.sameBut, State.raise, State.setFlag, State.modelTaken]

/-! ### The rest correction (R230) -/

/-- The estimate of a position that a rest correction has set by its voltage. -/
def restEst (m : ModelSet) (k : Nat) (sig v : Q) (e : PosEst) : PosEst :=
  let e := { e with xd := 0, xe := 0 }
  let e := if e.hUnknown then
      let a := inverse (m.ocvTable (-1) e.tc) v
      let b := inverse (m.ocvTable 1 e.tc) v
      { e with soc := (a + b) / 2, var := ((a - b) / 6) * ((a - b) / 6) }
    else
      let t := m.ocvTable e.h e.tc
      let x := inverse t v
      let d := divF k sig (slopeAt t x)
      { e with soc := x, var := d * d }
  e.bounds

theorem restEst_holds (m : ModelSet) (k : Nat) (sig v : Q) (e : PosEst) :
    (restEst m k sig v e).xd = 0 ∧ (restEst m k sig v e).xe = 0 ∧
    (e.hUnknown = false → (restEst m k sig v e).soc = inverse (m.ocvTable e.h e.tc) v) := by
  cases h : e.hUnknown <;> simp [restEst, PosEst.bounds, h]

/-- One position's part of a rest correction. -/
def State.restPos (s : State) (n : Nat) (m : ModelSet) (k : Nat) (sig : Q) (p : Nat) : State :=
  match s.usableV n p with
  | some v => if (s.cell n p).est.ready then (s.updPos n p (restEst m k sig v)).inc (Gal.COUNTERS.OCV_CORRECTIONS n) else s
  | none => s

/-- What the correction of other positions leaves: the runtime's times, the voltages, and the positions outside a list. -/
structure State.restKept (s t : State) (n : Nat) (ps : List Nat) : Prop where
  len : t.gal.length = s.gal.length
  root : t.root = s.root
  volts : ∀ q, t.usableV n q = s.usableV n q
  others : ∀ q, q ∉ ps → t.cell n q = s.cell n q
  places : (t.g n).cells.length = (s.g n).cells.length

theorem State.usableV_of {s t : State} {n q : Nat} (hset : (t.cell n q).settling = (s.cell n q).settling)
    (hv : (t.cell n q).v = (s.cell n q).v) (hbal : (t.cell n q).balClosed = (s.cell n q).balClosed) (hdrop : t.balDrop n = s.balDrop n) :
    t.usableV n q = s.usableV n q := by
  simp only [State.usableV, hset, hv, hbal, hdrop]

theorem State.restPos_kept {s : State} {n p : Nat} (hn : n < s.gal.length) (m : ModelSet) (k : Nat) (sig : Q) :
    s.restKept (s.restPos n m k sig p) n [p] := by
  rw [State.restPos]
  split
  next v hv =>
    split
    next hready =>
      have hplaces : ((s.updPos n p (restEst m k sig v)).g n).cells.length = (s.g n).cells.length := by
        rw [State.updPos, State.updCell, State.g_updG_same hn]
        exact modAt_length ..
      have hdrop : ((s.updPos n p (restEst m k sig v)).inc (Gal.COUNTERS.OCV_CORRECTIONS n)).balDrop n = s.balDrop n := by
        simp (decide := true) [State.balDrop, State.getQ, State.getR, State.inc, State.updPos, State.updCell, Gal.COUNTERS.OCV_CORRECTIONS,
          Gal.BALANCE_CFG.BAL_CURRENT, Gal.BALANCE_CFG.LEAD_R]
      refine ⟨modAt_length .., rfl, fun q => ?_, fun q hq => State.cell_updPos_other s n (by simpa using hq) (restEst m k sig v), hplaces⟩
      obtain ⟨e, -, hcell⟩ := State.cell_updPos s n p q (restEst m k sig v)
      exact State.usableV_of (congrArg Cell.settling hcell :) (congrArg Cell.v hcell :) (congrArg Cell.balClosed hcell :) hdrop
    next => exact ⟨rfl, rfl, fun _ => rfl, fun _ _ => rfl, rfl⟩
  next => exact ⟨rfl, rfl, fun _ => rfl, fun _ _ => rfl, rfl⟩

theorem State.restPos_own {s : State} {n p : Nat} (hn : n < s.gal.length) (m : ModelSet) (k : Nat) (sig : Q) {v : Q}
    (hv : s.usableV n p = some v) (hready : (s.cell n p).est.ready = true) :
    ((s.restPos n m k sig p).cell n p).est = restEst m k sig v (s.cell n p).est := by
  have hp : p < (s.g n).cells.length := by
    by_contra hp
    rw [State.cell, List.getD_eq_default _ _ (not_lt.mp hp)] at hready
    exact absurd hready (by decide)
  simp only [State.restPos, hv, hready, if_true]
  exact (congrArg Cell.est (State.cell_updPos_same hn hp (restEst m k sig v)) :)

/-- The correction of the first positions of a string. -/
def State.restUpTo (s : State) (n : Nat) (m : ModelSet) (k : Nat) (sig : Q) (N : Nat) : State :=
  (List.range N).foldl (fun s p => s.restPos n m k sig p) s

theorem State.restUpTo_succ (s : State) (n : Nat) (m : ModelSet) (k : Nat) (sig : Q) (N : Nat) :
    s.restUpTo n m k sig (N + 1) = (s.restUpTo n m k sig N).restPos n m k sig N := by
  rw [State.restUpTo, List.range_succ, List.foldl_append, State.restUpTo]
  rfl

theorem State.restUpTo_kept {s : State} {n : Nat} (hn : n < s.gal.length) (m : ModelSet) (k : Nat) (sig : Q) (N : Nat) :
    s.restKept (s.restUpTo n m k sig N) n (List.range N) := by
  induction N with
  | zero => exact ⟨rfl, rfl, fun _ => rfl, fun _ _ => rfl, rfl⟩
  | succ N ih =>
    have hstep := State.restPos_kept (s := s.restUpTo n m k sig N) (p := N) (ih.len ▸ hn) m k sig
    rw [State.restUpTo_succ]
    refine ⟨hstep.len.trans ih.len, hstep.root.trans ih.root, fun q => (hstep.volts q).trans (ih.volts q), fun q hq => ?_,
      hstep.places.trans ih.places⟩
    rw [List.mem_range] at hq
    exact (hstep.others q (by simp; omega)).trans (ih.others q (by simp; omega))

theorem State.restUpTo_own {s : State} {n : Nat} (hn : n < s.gal.length) (m : ModelSet) (k : Nat) (sig : Q) {N p : Nat} (hp : p < N)
    {v : Q} (hv : s.usableV n p = some v) (hready : (s.cell n p).est.ready = true) :
    ((s.restUpTo n m k sig N).cell n p).est = restEst m k sig v (s.cell n p).est := by
  induction N with
  | zero => omega
  | succ N ih =>
    have hkept := State.restUpTo_kept hn m k sig N
    rw [State.restUpTo_succ]
    by_cases hpN : p = N
    · subst hpN
      have hcell := hkept.others p (by simp)
      rw [State.restPos_own (hkept.len ▸ hn) m k sig ((hkept.volts p).trans hv) (hcell ▸ hready), hcell]
    · have hstep := State.restPos_kept (s := s.restUpTo n m k sig N) (p := N) (hkept.len ▸ hn) m k sig
      rw [hstep.others p (by simpa using hpN), ih (by omega)]

theorem execRestCorrection_eq {s : State} {n : Nat} (hon : s.strOn n = true) (hmod : s.modelled n = true) (hrest : s.rested n = true)
    (hdue : ∀ k, (s.g n).est.corrAt = some k → s.passed k (secTicks 60) = true) :
    exec (.restCorrection n) s =
      .next ({ s.restUpTo n (s.model n) s.free (s.getQ (Gal.ESTIM_CFG.VOLT_SIGMA_REST n)) (s.posCount n) with
        free := (s.restUpTo n (s.model n) s.free (s.getQ (Gal.ESTIM_CFG.VOLT_SIGMA_REST n)) (s.posCount n)).free + 1 }.updEst n
        (fun e => { e with
          corrAt := some (s.restUpTo n (s.model n) s.free (s.getQ (Gal.ESTIM_CFG.VOLT_SIGMA_REST n)) (s.posCount n)).root })) := by
  refine (if_pos ?_).trans rfl
  rw [State.hasGal_of_strOn hon, hon, hmod, hrest]
  cases hcorr : (s.g n).est.corrAt with
  | none => rfl
  | some k => exact hdue k hcorr

theorem restCorrection_holds {s : State} {n : Nat} (hn : n < s.gal.length) (hon : s.strOn n = true) (hmod : s.modelled n = true)
    (hrest : s.rested n = true) (hdue : ∀ k, (s.g n).est.corrAt = some k → s.passed k (secTicks 60) = true) :
    ∃ t, exec (.restCorrection n) s = .next t ∧ (t.g n).est.corrAt = some s.root ∧
      ∀ (p : Nat) (v : Q), p < s.posCount n → s.usableV n p = some v → (s.cell n p).est.ready = true →
        (t.cell n p).est.xd = 0 ∧ (t.cell n p).est.xe = 0 ∧ ((s.cell n p).est.hUnknown = false →
          (t.cell n p).est.soc = inverse ((s.model n).ocvTable (s.cell n p).est.h (s.cell n p).est.tc) v) := by
  have hkept := State.restUpTo_kept hn (s.model n) s.free (s.getQ (Gal.ESTIM_CFG.VOLT_SIGMA_REST n)) (s.posCount n)
  rw [execRestCorrection_eq hon hmod hrest hdue, exists_next]
  refine ⟨?_, fun p v hp hv hready => ?_⟩
  · rw [State.est_updEst (by exact hkept.len ▸ hn), hkept.root]
  · have hown := State.restUpTo_own hn (s.model n) s.free (s.getQ (Gal.ESTIM_CFG.VOLT_SIGMA_REST n)) hp hv hready
    rw [State.cell_updEst]
    exact hown.symm ▸ restEst_holds ..

/-! ### Aggregates (R245 to R248) -/

/-- The estimates that the aggregates take. -/
def State.goodEst (s : State) (n : Nat) : List PosEst := ((s.g n).cells.filter (fun c => c.est.ready && !c.est.invalid)).map Cell.est

/-- The estimates numbered, taken, and stripped of their numbers again. -/
theorem goodEst_numbered (cells : List Cell) :
    ((cells.mapIdx (fun i c => (i, c.est))).filter (fun e => e.2.ready && !e.2.invalid)).map (·.2) =
      (cells.filter (fun c => c.est.ready && !c.est.invalid)).map Cell.est := by
  have hnum : (cells.mapIdx (fun i c => (i, c.est))).map (·.2) = cells.map Cell.est :=
    List.ext_getElem (by simp) fun i _ _ => by simp
  have hl := List.filter_map (p := fun e : PosEst => e.ready && !e.invalid) (f := fun q : Nat × PosEst => q.2)
    (l := cells.mapIdx (fun i c => (i, c.est)))
  have hr := List.filter_map (p := fun e : PosEst => e.ready && !e.invalid) (f := Cell.est) (l := cells)
  rw [hnum] at hl
  exact hl.symm.trans hr

theorem State.g_of_gal {s t : State} (h : t.gal = s.gal) (n : Nat) : t.g n = s.g n := by rw [State.g, h, State.g]

theorem aggregate_objects (s : State) (n : Nat) :
    (s.aggregate n).getN (Gal.ESTIM_STRING.INVALID_COUNT n) = ((s.g n).cells.filter (fun c => c.est.invalid)).length ∧
    (s.aggregate n).getN (Gal.ESTIM_STRING.UNCERTAIN_COUNT n) = ((s.g n).cells.filter (fun c => c.est.uncertain)).length ∧
    (s.modelled n = true → s.goodEst n ≠ [] → (s.aggregate n).getR (Gal.ESTIM_STRING.SOC_MEAN n) =
      some (qsum ((s.goodEst n).map (·.soc)) / ((s.goodEst n).length : Q))) ∧
    (s.modelled n = false → (s.aggregate n).getR (Gal.ESTIM_STRING.SOC_STRING n) = none ∧
      (s.aggregate n).getN (Gal.ESTIM_STRING.SOC_MIN_POS n) = 0xFFFF) := by
  unfold State.aggregate
  extract_lets m l es some_ put k mn qd0 qc0 lo hi s1 s2 s3 s4 s5 s6 s7 smin smax qd qc ud uc
    s8 s9 rs iAbs idis ichg pdis pchg s10 s11 s12 s13 s14 bol s15 s16 cells s17 s18
  have hes : es = s.goodEst n := goodEst_numbered _
  have hlate : ∀ k, k = Gal.ESTIM_STRING.SOC_STRING n ∨ k = Gal.ESTIM_STRING.SOC_MEAN n ∨ k = Gal.ESTIM_STRING.SOC_MIN_POS n →
      s18.val k = s4.val k := by
    rintro k (rfl | rfl | rfl) <;> dsimp only [s18, s17, s16, s15] <;> split <;>
      simp (decide := true) [s14, s13, s12, s11, s10, s9, s8, s7, s6, s5, put, Gal.ESTIM_STRING.SOC_STRING,
      Gal.ESTIM_STRING.SOC_MEAN, Gal.ESTIM_STRING.SOC_MIN_POS, Gal.ESTIM_STRING.SOC_MAX, Gal.ESTIM_STRING.SOC_MAX_POS, Gal.ESTIM_STRING.CAPACITY_MIN,
      Gal.ESTIM_STRING.E_DIS, Gal.ESTIM_STRING.E_CHG, Gal.ESTIM_STRING.I_DIS_CAP, Gal.ESTIM_STRING.I_CHG_CAP, Gal.ESTIM_STRING.P_DIS_CAP,
      Gal.ESTIM_STRING.P_CHG_CAP, Gal.ESTIM_STRING.SOH_C, Gal.ESTIM_STRING.SOH_R, Gal.ESTIM_STRING.R_STRING, Gal.ESTIM_STRING.UNCERTAIN_COUNT,
      Gal.ESTIM_STRING.INVALID_COUNT]
  have hgal1 : s1.gal = s.gal := State.put_gal ..
  have hgal2 : s2.gal = s1.gal := State.put_gal ..
  have hgal3 : s3.gal = s2.gal := State.put_gal ..
  have hgal4 : s4.gal = s3.gal := State.put_gal ..
  have hgal5 : s5.gal = s4.gal := State.put_gal ..
  have hgal6 : s6.gal = s5.gal := State.put_gal ..
  have hgal7 : s7.gal = s6.gal := State.put_gal ..
  have hgal8 : s8.gal = s7.gal := State.put_gal ..
  have hgal9 : s9.gal = s8.gal := State.put_gal ..
  have hgal10 : s10.gal = s9.gal := State.put_gal ..
  have hgal11 : s11.gal = s10.gal := State.put_gal ..
  have hgal12 : s12.gal = s11.gal := State.put_gal ..
  have hgal13 : s13.gal = s12.gal := State.put_gal ..
  have hgal14 : s14.gal = s13.gal := State.put_gal ..
  have hgal15 : s15.gal = s14.gal := by
    dsimp only [s15]
    split <;> exact State.put_gal ..
  have hgal16 : s16.gal = s15.gal := State.put_gal ..
  have hcells : cells = (s.g n).cells := by
    rw [← State.g_of_gal (s := s) (t := s16) (by rw [hgal16, hgal15, hgal14, hgal13, hgal12, hgal11, hgal10, hgal9, hgal8, hgal7, hgal6,
      hgal5, hgal4, hgal3, hgal2, hgal1])]
  have hmean : s4.val (Gal.ESTIM_STRING.SOC_MEAN n) = .r (if some_ then some (qsum (es.map (·.soc)) / (es.length : Q)) else none) := by
    simp (decide := true) [s4, s3, s2, put, Gal.ESTIM_STRING.SOC_MEAN, Gal.ESTIM_STRING.SOC_MIN, Gal.ESTIM_STRING.SOC_MIN_POS]
  have hstring : s4.val (Gal.ESTIM_STRING.SOC_STRING n) = .r (if some_ then some (divF k qd0 (qd0 + qc0)) else none) := by
    simp (decide := true) [s4, s3, s2, s1, put, Gal.ESTIM_STRING.SOC_STRING, Gal.ESTIM_STRING.SOC_MEAN, Gal.ESTIM_STRING.SOC_MIN,
      Gal.ESTIM_STRING.SOC_MIN_POS]
  have hminPos : s4.val (Gal.ESTIM_STRING.SOC_MIN_POS n) = .n (if some_ then (lo.map (·.1)).getD 0xFFFF else 0xFFFF) := by
    simp (decide := true) [s4, Gal.ESTIM_STRING.SOC_MIN_POS]
  have hinv : s18.getN (Gal.ESTIM_STRING.INVALID_COUNT n) = (cells.filter (fun c => c.est.invalid)).length := State.getN_setN_same ..
  have hunc : s18.getN (Gal.ESTIM_STRING.UNCERTAIN_COUNT n) = (cells.filter (fun c => c.est.uncertain)).length := by
    simp (decide := true) [s18, s17, Gal.ESTIM_STRING.INVALID_COUNT, Gal.ESTIM_STRING.UNCERTAIN_COUNT]
  have hmean18 := (hlate _ (.inr (.inl rfl))).trans hmean
  have hstring18 := (hlate _ (.inl rfl)).trans hstring
  have hminPos18 := (hlate _ (.inr (.inr rfl))).trans hminPos
  have hsome : some_ = (!es.isEmpty && s.modelled n) := rfl
  rw [hcells] at hinv hunc
  clear_value s18 some_ es
  subst hes
  refine ⟨hinv, hunc, fun hmod hne => ?_, fun hmod => ?_⟩
  · have hread := (congrArg Val.toR hmean18 :)
    rw [if_pos (by simp [hsome, hne, hmod])] at hread
    exact hread
  · have hreadS := (congrArg Val.toR hstring18 :)
    have hreadP := (congrArg Val.toN hminPos18 :)
    rw [if_neg (by simp [hsome, hmod])] at hreadS hreadP
    exact ⟨hreadS, hreadP⟩

/-- The objects and the runtime that follow the aggregates themselves. -/
def Eff.aggregatesTold : List Eff := [.gal 0x38 5, .gal 0x19 0x14, .gal 0x19 0x15, .gal 0x19 0x16, .est]

/-- What follows the aggregates: MODEL_SET_MISSING, the ages and the rate. -/
def State.aggregatesTold (s : State) (n : Nat) : State :=
  let s := s.setMissing n
  let s := s.setN (Gal.ESTIM_STRING.AGGREGATE_AGE n) 0
  let s := s.setN (Gal.ESTIM_STRING.MODEL_AGE n) (s.modelAge n)
  let s := if s.getN (Gal.ESTIM_CFG.AGE_LIMIT n) < s.modelAge n then s.raise (Gal.FAULTS.ESTIM_FAULTS n) 3 else s
  let r := (s.g n).est
  let s := if s.passed r.secAt (secTicks 1) then
      (s.setR (Gal.ESTIM_STRING.MODEL_RATE n) (some ((r.steps : Q) * 312500000 / (s.since r.secAt : Q)))).updEst n (fun e => { e with
        steps := 0, secAt := s.root })
    else s
  s.updEst n (fun e => { e with aggAt := s.root })

theorem execAggregates_eq {s : State} {n : Nat} (hon : s.strOn n = true) (hdue : s.passed (s.g n).est.aggAt (msTicks 100) = true) :
    exec (.aggregates n) s = .next ((s.aggregate n).aggregatesTold n) := by
  refine if_pos ?_
  rw [State.hasGal_of_strOn hon, hon, hdue]
  rfl

theorem State.aggregatesTold_holds {s : State} {n : Nat} (hn : n < s.gal.length) :
    ((s.aggregatesTold n).g n).est.aggAt = s.root ∧ (s.aggregatesTold n).getN (Gal.ESTIM_STRING.AGGREGATE_AGE n) = 0 ∧
    s.Within Eff.aggregatesTold (s.aggregatesTold n) ∧
    (s.modelled n = false → (s.aggregatesTold n).flag (Gal.FAULTS.ESTIM_FAULTS n) 0 = true) := by
  unfold State.aggregatesTold
  extract_lets s1 s2 s3 s4 r s5
  have h3 : s.Within Eff.aggregatesTold s3 := (((State.Within.refl _).op (State.Within.setMissing ..)).setN .gal).setN .gal
  have h4 : s.Within Eff.aggregatesTold s4 := (h3.raise .gal).ite h3
  have h5 : s.Within Eff.aggregatesTold s5 := (h4.setR .gal).updEst.ite h4
  have hage3 : s3.getN (Gal.ESTIM_STRING.AGGREGATE_AGE n) = 0 := by
    simp (decide := true) [s3, s2, Gal.ESTIM_STRING.AGGREGATE_AGE, Gal.ESTIM_STRING.MODEL_AGE]
  have hage4 : s4.getN (Gal.ESTIM_STRING.AGGREGATE_AGE n) = s3.getN (Gal.ESTIM_STRING.AGGREGATE_AGE n) := by
    dsimp only [s4]
    split <;> simp (decide := true) [State.raise, State.setFlag, Gal.ESTIM_STRING.AGGREGATE_AGE, Gal.FAULTS.ESTIM_FAULTS]
  have hother5 : ∀ k, k ≠ Gal.ESTIM_STRING.MODEL_RATE n → s5.getN k = s4.getN k := by
    intro k hk
    dsimp only [s5]
    split <;> simp [State.updEst, hk]
  have hflag : s.modelled n = false → bit (s5.getN (Gal.FAULTS.ESTIM_FAULTS n)) 0 = true := by
    intro hmod
    have h3 : bit (s3.getN (Gal.FAULTS.ESTIM_FAULTS n)) 0 = true := by
      simp (decide := true) [s3, s2, s1, State.setMissing_off hmod, State.raise, State.setFlag, Gal.ESTIM_STRING.AGGREGATE_AGE,
        Gal.ESTIM_STRING.MODEL_AGE, Gal.FAULTS.ESTIM_FAULTS]
    rw [hother5 _ (by simp (decide := true) [Gal.ESTIM_STRING.MODEL_RATE, Gal.FAULTS.ESTIM_FAULTS])]
    dsimp only [s4]
    split
    · exact State.raise_bit_stays _ 3 h3
    · exact h3
  have hlen : s5.gal.length = s.gal.length := h5.kept .galLen (by decide +kernel)
  have hroot : s5.root = s.root := h5.kept .root (by decide +kernel)
  have hend := h5.updEst (n := n) (f := fun e => { e with aggAt := s5.root })
  have hage5 := hother5 (Gal.ESTIM_STRING.AGGREGATE_AGE n)
    (by simp (decide := true) [Gal.ESTIM_STRING.MODEL_RATE, Gal.ESTIM_STRING.AGGREGATE_AGE])
  clear_value s5
  refine ⟨?_, hage5.trans (hage4.trans hage3), hend, hflag⟩
  rw [State.est_updEst (hlen ▸ hn), hroot]

theorem aggregates_renewed {s : State} {n : Nat} (hn : n < s.gal.length) (h32 : n < 32) (hon : s.strOn n = true)
    (hdue : s.passed (s.g n).est.aggAt (msTicks 100) = true) :
    let es := (s.g n).cells.filter (fun c => c.est.ready && !c.est.invalid)
    ∃ t, exec (.aggregates n) s = .next t ∧ (t.g n).est.aggAt = s.root ∧ t.getN (Gal.ESTIM_STRING.AGGREGATE_AGE n) = 0 ∧
      t.getN (Gal.ESTIM_STRING.INVALID_COUNT n) = ((s.g n).cells.filter (fun c => c.est.invalid)).length ∧
      t.getN (Gal.ESTIM_STRING.UNCERTAIN_COUNT n) = ((s.g n).cells.filter (fun c => c.est.uncertain)).length ∧
      (s.modelled n = true → es ≠ [] →
        t.getR (Gal.ESTIM_STRING.SOC_MEAN n) = some (qsum (es.map (fun c => c.est.soc)) / (es.length : Q))) ∧
      (s.modelled n = false → t.getR (Gal.ESTIM_STRING.SOC_STRING n) = none ∧ t.getN (Gal.ESTIM_STRING.SOC_MIN_POS n) = 0xFFFF ∧
        t.flag (Gal.FAULTS.ESTIM_FAULTS n) 0 = true) := by
  intro es
  obtain ⟨hinv, hunc, hmean, hnone⟩ := aggregate_objects s n
  have hagg := State.Within.aggregate s n
  have hlen : (s.aggregate n).gal.length = s.gal.length := hagg.kept .galLen (by decide +kernel)
  have hroot : (s.aggregate n).root = s.root := hagg.kept .root (by decide +kernel)
  have hmodel : (s.aggregate n).modelled n = s.modelled n := by
    rw [State.modelled, State.getB, Gal.ESTIM_CFG.MODEL_SET, hagg.valG h32, State.modelled, State.getB, Gal.ESTIM_CFG.MODEL_SET]
  obtain ⟨hat, hage, htold, hflag⟩ := State.aggregatesTold_holds (s := s.aggregate n) (hlen ▸ hn)
  rw [hroot] at hat
  rw [hmodel] at hflag
  rw [execAggregates_eq hon hdue, exists_next]
  generalize (s.aggregate n).aggregatesTold n = t at hat hage htold hflag ⊢
  refine ⟨hat, hage, (htold.getG h32).trans hinv, (htold.getG h32).trans hunc, fun hmod hne => ?_, fun hmod =>
    ⟨(htold.getRG h32).trans (hnone hmod).1, (htold.getG h32).trans (hnone hmod).2, hflag hmod⟩⟩
  have hgood : s.goodEst n = es.map Cell.est := rfl
  refine (htold.getRG h32).trans ((hmean hmod (by rw [hgood]; simpa using hne)).trans ?_)
  rw [hgood, List.map_map, List.length_map]
  rfl

end Sys2Proof.Machine
end

section
/-! O39, the model step with a parameter set in force: every position is stepped or goes through its first use (R223 to R227, R240). -/
namespace Sys2Proof.Machine
set_option Elab.async false

/-- A string's runtime without a save that is due. -/
def EstRt.unsaved (e : EstRt) : EstRt := { e with saveDue := none }

/-- What the work on one position of a string leaves: the model input, the runtime but for a save that falls due, and the other positions. -/
structure State.atPos (s t : State) (n p : Nat) : Prop where
  len : t.gal.length = s.gal.length
  mdl : (t.g n).mdl = (s.g n).mdl
  est : (t.g n).est.unsaved = (s.g n).est.unsaved
  places : (t.g n).cells.length = (s.g n).cells.length
  others : ∀ q, q ≠ p → t.cell n q = s.cell n q

/-- Work on one position that leaves its tick and its causes of a first use. -/
structure State.keepsMark (s t : State) (n p : Nat) : Prop extends s.atPos t n p where
  tick : (t.cell n p).est.tick = (s.cell n p).est.tick
  why : (t.cell n p).est.why = (s.cell n p).est.why

section
variable {s t u : State} {n p : Nat}

theorem State.atPos.refl (s : State) (n p : Nat) : s.atPos s n p := ⟨rfl, rfl, rfl, rfl, fun _ _ => rfl⟩

theorem State.atPos.trans (h : s.atPos t n p) (hu : t.atPos u n p) : s.atPos u n p :=
  ⟨hu.len.trans h.len, hu.mdl.trans h.mdl, hu.est.trans h.est, hu.places.trans h.places, fun q hq => (hu.others q hq).trans (h.others q hq)⟩

theorem State.keepsMark.refl (s : State) (n p : Nat) : s.keepsMark s n p := ⟨.refl s n p, rfl, rfl⟩

theorem State.keepsMark.trans (h : s.keepsMark t n p) (hu : t.keepsMark u n p) : s.keepsMark u n p :=
  ⟨h.toatPos.trans hu.toatPos, hu.tick.trans h.tick, hu.why.trans h.why⟩

theorem State.keepsMark.ite {c : Prop} {_ : Decidable c} (ht : s.keepsMark t n p) (hu : s.keepsMark u n p) :
    s.keepsMark (if c then t else u) n p := by
  split
  · exact ht
  · exact hu

/-- A change of what is not a gallery. -/
theorem State.keepsMark.ofGal (h : s.keepsMark t n p) (hu : u.gal = t.gal) : s.keepsMark u n p := by
  have hg := State.g_of_gal hu n
  have hcell : ∀ q, u.cell n q = t.cell n q := fun q => by rw [State.cell, hg, State.cell]
  refine h.trans ⟨⟨congrArg List.length hu, by rw [hg], by rw [hg], by rw [hg], fun q _ => hcell q⟩, ?_, ?_⟩ <;> rw [hcell]

theorem State.keepsMark.put (h : s.keepsMark t n p) (k : Nat) (v : Val) : s.keepsMark (t.put k v) n p := h.ofGal rfl

/-- A change of the string's gallery that leaves its positions, its model input and its runtime. -/
theorem State.keepsMark.updG (h : s.keepsMark t n p) (m : Nat) {f : Gallery → Gallery} (hmdl : ∀ g, (f g).mdl = g.mdl)
    (hest : ∀ g, (f g).est.unsaved = g.est.unsaved) (hcells : ∀ g, (f g).cells = g.cells) :
    s.keepsMark (t.updG m f) n p := by
  have hg : (t.updG m f).g n = f (t.g n) ∨ (t.updG m f).g n = t.g n := by
    rw [State.g_updG]
    exact ite_eq_or_eq ..
  have hcell : ((t.updG m f).g n).cells = (t.g n).cells := hg.elim (fun h => h ▸ hcells _) (fun h => h ▸ rfl)
  have hpos : ∀ q, (t.updG m f).cell n q = t.cell n q := fun q => by rw [State.cell, hcell, State.cell]
  refine h.trans ⟨⟨modAt_length .., hg.elim (fun h => h ▸ hmdl _) (fun h => h ▸ rfl), hg.elim (fun h => h ▸ hest _) (fun h => h ▸ rfl),
    congrArg List.length hcell, fun q _ => hpos q⟩, ?_, ?_⟩ <;> rw [hpos]

theorem State.updPos_atPos (s : State) (n p : Nat) (f : PosEst → PosEst) : s.atPos (s.updPos n p f) n p := by
  have hg : (s.updPos n p f).g n = { s.g n with cells := modAt (s.g n).cells p (fun c => { c with est := f c.est }) } ∨
      (s.updPos n p f).g n = s.g n := by
    rw [State.updPos, State.updCell, State.g_updG]
    exact ite_eq_or_eq ..
  exact ⟨modAt_length .., hg.elim (fun h => h ▸ rfl) (fun h => h ▸ rfl), hg.elim (fun h => h ▸ rfl) (fun h => h ▸ rfl),
    hg.elim (fun h => h ▸ modAt_length ..) (fun h => h ▸ rfl), fun q hq => State.cell_updPos_other s n hq f⟩

theorem State.keepsMark.updPos (h : s.keepsMark t n p) {f : PosEst → PosEst} (htick : ∀ e, (f e).tick = e.tick := by exact fun _ => rfl)
    (hwhy : ∀ e, (f e).why = e.why := by exact fun _ => rfl) : s.keepsMark (t.updPos n p f) n p := by
  obtain ⟨e, he, hcell⟩ := State.cell_updPos t n p p f
  refine h.trans ⟨t.updPos_atPos n p f, ?_, ?_⟩ <;> rw [hcell]
  · exact he.elim (fun h => h ▸ htick _) (fun h => h ▸ rfl)
  · exact he.elim (fun h => h ▸ hwhy _) (fun h => h ▸ rfl)

end

/-! ### A learn, the anchors and a first use -/

theorem State.learnCheck_keepsMark (s : State) (n p : Nat) : s.keepsMark (s.learnCheck n p) n p := by
  refine (State.keepsMark.refl s n p).updPos (fun e => ?_) (fun e => ?_) <;>
  · cases e.learn with
    | none => rfl
    | some l => exact (apply_ite _ ..).trans (ite_self _)

theorem State.learnClose_keepsMark (s : State) (n p : Nat) (sf q se : Q) : s.keepsMark (s.learnClose n p sf q se) n p := by
  have hclosed := (((State.keepsMark.refl s n p).put (Gal.CAPACITY_LEARN.LAST_POSITION n) (.n p)).put (Gal.CAPACITY_LEARN.LAST_C_NEW n)
    (.r (if sf - se = 0 then none else some (q / (3600 * (sf - se)))))).updPos (f := fun e => { e with learn := none })
  unfold State.learnClose
  refine ((hclosed.put _ _).put _ _).ite ((((hclosed.put _ _).put _ _).put _ _).ite ?_)
  exact ((((hclosed.put _ _).put _ _).updPos).updG n (fun _ => rfl) (fun _ => rfl) (fun _ => rfl))

theorem State.anchors_keepsMark (s : State) (n p : Nat) (m : ModelSet) (i : Q) (v? : Option Q) :
    s.keepsMark (s.anchors n p m i v?) n p := by
  unfold State.anchors
  extract_lets e k sig veq full empty since_ fire run s1 s2 s3 s4
  have h1 : s.keepsMark s1 n p := (State.keepsMark.refl s n p).updPos
  have h2 : s.keepsMark s2 n p :=
    State.keepsMark.put (t := s1.updPos n p fun e => anchorAt e m k 1 (s1.getQ (Gal.ESTIM_CFG.FULL_V n)) sig) h1.updPos _ _
  have h3 : s.keepsMark s3 n p := (h2.updPos.ite h2).ite h1
  have h4 : s.keepsMark s4 n p :=
    State.keepsMark.put (t := s3.updPos n p fun e => anchorAt e m k (-1) (s3.getQ (Gal.ESTIM_CFG.EMPTY_OCV n)) sig) h3.updPos _ _
  clear_value s4 s3
  refine .ite ?_ h3
  split
  · exact h4.trans (State.learnClose_keepsMark ..)
  · exact h4

theorem State.linesAnew_keepsMark (s : State) (n p : Nat) : s.keepsMark (s.linesAnew n p) n p := by
  have hfold : ∀ (l : List (Nat × Nat)) (u : State), s.keepsMark u n p → s.keepsMark (l.foldl (fun s e =>
      { s.setLine n e.2 (validLine e.2 (Config.stateLine s.free).toList) with free := s.free + 1 }) u) n p := by
    intro l
    induction l with
    | nil => exact fun u hu => hu
    | cons a l ih =>
      intro u hu
      have hline : s.keepsMark (u.setLine n a.2 (validLine a.2 (Config.stateLine u.free).toList)) n p :=
        hu.updG n (fun _ => rfl) (fun _ => rfl) (fun _ => rfl)
      exact ih _ (hline.ofGal rfl)
  unfold State.linesAnew
  exact (hfold _ s (.refl s n p)).updG n (fun _ => rfl) (fun _ => rfl) (fun _ => rfl)

/-- A position that has been stepped, or has been through its first use, at a tick. -/
def State.marked (s : State) (n p tick : Nat) : Prop := (s.cell n p).est.tick = tick ∧ (s.cell n p).est.why = []

theorem State.keepsMark.marked {s t : State} {n p tick : Nat} (h : s.keepsMark t n p) (hs : s.marked n p tick) : t.marked n p tick :=
  ⟨h.tick.trans hs.1, h.why.trans hs.2⟩

/-- An estimate that is set with a tick and no cause of a first use marks its position. -/
theorem State.updPos_marked {s : State} {n p tick : Nat} (hn : n < s.gal.length) (hp : p < (s.g n).cells.length) {e : PosEst}
    (ht : e.tick = tick) (hw : e.why = []) : (s.updPos n p (fun _ => e)).marked n p tick := by
  have hcell := State.cell_updPos_same hn hp (fun _ => e)
  rw [State.marked, hcell]
  exact ⟨ht, hw⟩

theorem PosEst.ohmSync_keeps (e : PosEst) (m : ModelSet) : (e.ohmSync m).why = e.why ∧ (e.ohmSync m).tick = e.tick := by
  rw [PosEst.ohmSync]
  split <;> exact ⟨rfl, rfl⟩

/-- Work on one position that ends with the position marked, where there is one. -/
def State.marks (s t : State) (n p tick : Nat) : Prop := s.atPos t n p ∧ (n < s.gal.length → p < (s.g n).cells.length → t.marked n p tick)

theorem State.marks.keeps {s t u : State} {n p tick : Nat} (h : s.marks t n p tick) (hu : t.keepsMark u n p) : s.marks u n p tick :=
  ⟨h.1.trans hu.toatPos, fun hn hp => hu.marked (h.2 hn hp)⟩

theorem State.imageRead_keepsMark (s : State) (n p : Nat) : s.keepsMark (s.imageRead n) n p :=
  ((State.keepsMark.refl s n p).put _ _).ite (.refl s n p)

theorem State.firstUse_marks (s : State) (n p : Nat) (why : List FirstUse) (m : ModelSet) (x : ModelIn) :
    s.marks (s.firstUse n p why m x) n p x.tick := by
  unfold State.firstUse
  extract_lets e0 s1
  have h1 : s.keepsMark s1 n p := (State.keepsMark.refl s n p).ite (State.imageRead_keepsMark s n p)
  clear_value s1
  split
  next e dflt =>
    extract_lets e1 e2 e3 s2
    have hset : s.marks (s1.updPos n p (fun _ => e3)) n p x.tick :=
      ⟨h1.toatPos.trans (s1.updPos_atPos n p _), fun hn hp => State.updPos_marked (h1.len ▸ hn) (h1.places ▸ hp) rfl rfl⟩
    have h2 : s.marks s2 n p x.tick := (hset.keeps ((State.keepsMark.refl _ n p).put _ _)).keeps (State.linesAnew_keepsMark ..)
    clear_value s2
    split
    · exact h2.keeps ((State.keepsMark.refl _ n p).put _ _)
    · exact h2

theorem stepEst_why (e : PosEst) (m : ModelSet) (k : Nat) (i qd qc gap : Q) (nSf : Nat) (balI balQ : Q) (bNow : Bool) (tm? v? : Option Q)
    (countSigma sigRest sigLoad : Q) :
    (stepEst e m k i qd qc gap nSf balI balQ bNow tm? v? countSigma sigRest sigLoad).why = e.why := by
  cases v? <;> rfl

theorem measureOhm_why (e : PosEst) (m : ModelSet) (di : Q) (v? : Option Q) (diMin : Q) (succ_ : Bool) :
    (measureOhm e m di v? diMin succ_).why = e.why := by
  unfold measureOhm
  split
  · split
    · extract_lets r ohm
      split <;> rfl
    · rfl
  · rfl

theorem State.stepPos_marks (s : State) (n p : Nat) (m : ModelSet) (r : EstRt)
    (x : ModelIn) (succ_ : Bool) : s.marks (s.stepPos n p m r x succ_) n p x.tick := by
  unfold State.stepPos
  extract_lets c v? i balI core takeCore e0 e1 e2 e3 e4 e5 s1 s2
  split
  · exact State.firstUse_marks ..
  next hwhy =>
    have h1 : e1.why = c.est.why := by
      dsimp only [e1]
      split <;> rfl
    have h3 : e3.why = c.est.why :=
      (measureOhm_why ..).trans ((PosEst.ohmSync_keeps e2 m).1.trans ((stepEst_why ..).trans h1))
    have h5 : e5.why = [] := (PosEst.ohmSync_keeps e3 m).1.trans (h3.trans (not_not.mp hwhy))
    have htick : e5.tick = x.tick := rfl
    clear_value e5
    have hset : s.marks s1 n p x.tick := ⟨s.updPos_atPos n p _, fun hn hp => State.updPos_marked hn hp htick h5⟩
    have h2 : s.marks s2 n p x.tick := (hset.keeps (State.learnCheck_keepsMark s1 n p)).keeps (State.anchors_keepsMark ..)
    clear_value s2
    refine h2.keeps ((State.keepsMark.refl _ n p).updPos (fun e => ?_) fun e => ?_) <;> dsimp only <;> split <;> rfl

/-! ### The step of every position -/

/-- The first positions of a string stepped. -/
def State.stepUpTo (s : State) (n : Nat) (m : ModelSet) (r : EstRt) (x : ModelIn) (succ_ : Bool) (N : Nat) : State :=
  (List.range N).foldl (fun s p => s.stepPos n p m r x succ_) s

theorem State.stepUpTo_succ (s : State) (n : Nat) (m : ModelSet) (r : EstRt) (x : ModelIn) (succ_ : Bool) (N : Nat) :
    s.stepUpTo n m r x succ_ (N + 1) = (s.stepUpTo n m r x succ_ N).stepPos n N m r x succ_ := by
  rw [State.stepUpTo, List.range_succ, List.foldl_append, State.stepUpTo]
  rfl

/-- What the step of the first positions leaves, and that those that exist are marked. -/
structure State.stepped (s t : State) (n tick N : Nat) : Prop where
  len : t.gal.length = s.gal.length
  mdl : (t.g n).mdl = (s.g n).mdl
  est : (t.g n).est.unsaved = (s.g n).est.unsaved
  places : (t.g n).cells.length = (s.g n).cells.length
  marked : ∀ p < N, p < (s.g n).cells.length → t.marked n p tick

theorem State.stepUpTo_stepped {s : State} {n : Nat} (hn : n < s.gal.length) (m : ModelSet) (r : EstRt) (x : ModelIn) (succ_ : Bool)
    (N : Nat) : s.stepped (s.stepUpTo n m r x succ_ N) n x.tick N := by
  induction N with
  | zero => exact ⟨rfl, rfl, rfl, rfl, fun _ hp => absurd hp (Nat.not_lt_zero _)⟩
  | succ N ih =>
    obtain ⟨hat, hmark⟩ := State.stepPos_marks (s.stepUpTo n m r x succ_ N) n N m r x succ_
    rw [State.stepUpTo_succ]
    refine ⟨hat.len.trans ih.len, hat.mdl.trans ih.mdl, hat.est.trans ih.est, hat.places.trans ih.places, fun p hp hplace => ?_⟩
    by_cases hpN : p = N
    · exact hpN ▸ hmark (ih.len ▸ hn) (ih.places ▸ hpN ▸ hplace)
    · have hpos := ih.marked p (by omega) hplace
      rw [State.marked, hat.others p hpN]
      exact hpos

/-- The runtime of a string after a model step at a superframe. -/
def EstRt.stepped (e : EstRt) (x : ModelIn) : EstRt :=
  { e with qd := 0, qc := 0, nSf := 0, gap := 0, lastSf := some x.sf, iPrev := x.i, steps := e.steps + 1 }

theorem State.modelStep_holds {s : State} {n : Nat} {x : ModelIn} (hn : n < s.gal.length) (hmod : s.modelled n = true) :
    ((s.modelStep n x).g n).mdl = (s.g n).mdl ∧
    ((s.modelStep n x).g n).est.unsaved = ((s.g n).est.stepped x).unsaved ∧
    ∀ p < s.posCount n, p < (s.g n).cells.length → (s.modelStep n x).marked n p x.tick := by
  have hon : ¬ (!s.modelled n) = true := by simp [hmod]
  unfold State.modelStep
  rw [if_neg hon]
  extract_lets m r succ_ s1 s2 s3
  have h1 : s.stepped s1 n x.tick (s.posCount n) := State.stepUpTo_stepped hn m r x succ_ _
  have hg : s3.g n = { s1.g n with est := (s1.g n).est.stepped x } := State.g_updG_same (s := s2) (h1.len ▸ hn) _
  have hpos : ∀ p, s3.cell n p = s1.cell n p := fun p => by rw [State.cell, hg, State.cell]
  have hopen : ∀ m, (s3.learnsOpen n).g m = s3.g m := fun _ => rfl
  have hmark : ∀ p, (s3.learnsOpen n).marked n p x.tick = s1.marked n p x.tick := fun p => by
    rw [State.marked, State.marked, State.cell, hopen, ← State.cell, hpos]
  clear_value s3 s1
  rw [hopen, hg]
  refine ⟨h1.mdl, ?_, fun p hp hplace => (hmark p).mpr (h1.marked p hp hplace)⟩
  exact congrArg (fun e : EstRt => e.stepped x) h1.est

/-- What an installed set, or none, leaves of a string. -/
theorem State.installSet_keeps {s : State} {n : Nat} (hn : n < s.gal.length) :
    (s.installSet n).gal.length = s.gal.length ∧ ((s.installSet n).g n).mdl = (s.g n).mdl ∧
    ((s.installSet n).g n).est = { (s.g n).est with setNext := none } ∧
    ((s.installSet n).g n).cells.length = (s.g n).cells.length ∧ (n < 32 → (s.installSet n).posCount n = s.posCount n) := by
  have hlen : (s.installSet n).gal.length = s.gal.length := (State.Within.installSet s n).kept .galLen (by decide +kernel)
  have hpos : n < 32 → (s.installSet n).posCount n = s.posCount n := fun h32 => (State.Within.installSet s n).getG h32
  cases hset : (s.g n).est.setNext with
  | none =>
    rw [State.installSet_none hset] at hlen hpos ⊢
    exact ⟨rfl, rfl, hset ▸ rfl, rfl, fun _ => rfl⟩
  | some bs =>
    have hg := State.g_installSet hn hset
    refine ⟨hlen, by rw [hg], by rw [hg], ?_, hpos⟩
    rw [hg]
    exact List.length_map ..

/-- Whether a set is in force after a waiting one is installed depends on the waiting set and the objects alone. -/
theorem State.modelled_installSet {s t : State} {n : Nat} (hset : (t.g n).est.setNext = (s.g n).est.setNext) (hdict : t.dict = s.dict) :
    (t.installSet n).modelled n = (s.installSet n).modelled n := by
  cases h : (s.g n).est.setNext with
  | none => rw [State.installSet_none h, State.installSet_none (hset.trans h), State.modelled, State.getB, State.val, hdict]; rfl
  | some bs =>
    rw [State.modelled, State.modelled, (State.installSet_objects h).1, (State.installSet_objects (hset.trans h)).1]

theorem State.setMissing_gal (s : State) (n : Nat) : (s.setMissing n).gal = s.gal := by
  rw [State.setMissing]
  split <;> rfl

theorem modelStep_stepped {s : State} {n : Nat} {x : ModelIn} (hn : n < s.gal.length) (h32 : n < 32) (hon : s.strOn n = true)
    (hx : (s.g n).mdl = some x) (hmod : (s.installSet n).modelled n = true) (hrate : 1 ≤ (s.g n).est.rate + s.rateOf n) :
    ∃ t, exec (.modelStep n) s = .next t ∧ (t.g n).mdl = none ∧ (t.g n).est.setNext = none ∧ (t.g n).est.qd = 0 ∧
      (t.g n).est.qc = 0 ∧ (t.g n).est.nSf = 0 ∧ (t.g n).est.gap = 0 ∧ (t.g n).est.lastSf = some x.sf ∧ (t.g n).est.iPrev = x.i ∧
      (t.g n).est.rate = (s.g n).est.rate + s.rateOf n - 1 ∧
      ∀ p < s.posCount n, p < (s.g n).cells.length → (t.cell n p).est.tick = x.tick ∧ (t.cell n p).est.why = [] := by
  have hg := State.g_modelTaken hn
  have hlen : (s.modelTaken n).gal.length = s.gal.length := modAt_length ..
  obtain ⟨hilen, himdl, hiest, hiplaces, hipos⟩ := State.installSet_keeps (s := s.modelTaken n) (hlen ▸ hn)
  have himod : ((s.modelTaken n).installSet n).modelled n = true :=
    (State.modelled_installSet (congrArg (fun g : Gallery => g.est.setNext) hg :) rfl).trans hmod
  obtain ⟨hsmdl, hsest, hsmark⟩ := State.modelStep_holds (x := x) (hilen.trans hlen ▸ hn) himod
  have hleft : s.rateLeft n = (s.g n).est.rate + s.rateOf n - 1 := if_pos hrate
  rw [execModelStep_eq hon hx, if_pos hrate, exists_next]
  generalize ((s.modelTaken n).installSet n).modelStep n x = u at hsmdl hsest hsmark ⊢
  have hu := State.g_of_gal (State.setMissing_gal u n) n
  have hucell : ∀ p, (u.setMissing n).cell n p = u.cell n p := fun p => by rw [State.cell, hu, State.cell]
  rw [hiest, hg] at hsest
  rw [himdl, hg] at hsmdl
  have hrest : ∀ {α : Type} (f : EstRt → α), (∀ e : EstRt, f e.unsaved = f e) →
      f (u.g n).est = f (EstRt.stepped { (s.g n).est with rate := s.rateLeft n, setNext := none } x) := fun f hf =>
    (hf _).symm.trans ((congrArg f hsest).trans (hf _))
  rw [hu]
  refine ⟨hsmdl, hrest (·.setNext) fun _ => rfl, hrest (·.qd) fun _ => rfl, hrest (·.qc) fun _ => rfl, hrest (·.nSf) fun _ => rfl,
    hrest (·.gap) fun _ => rfl, hrest (·.lastSf) fun _ => rfl, hrest (·.iPrev) fun _ => rfl,
    (hrest (·.rate) fun _ => rfl).trans hleft, fun p hp hplace => ?_⟩
  rw [hucell]
  have hcount : (s.modelTaken n).posCount n = s.posCount n := rfl
  exact hsmark p ((hipos h32).trans hcount ▸ hp) (hiplaces ▸ (congrArg (fun g : Gallery => g.cells.length) hg) ▸ hplace)

/-- Settles O39: model steps, rest corrections, aggregates, saves, parameter sets and replacement, one lemma per command and branch. -/
theorem estimationCommandsComplete : Obligations.EstimationCommandsComplete := by
  have lt : ∀ {s : State} {n : Nat}, s.gal.length = 32 → s.strOn n = true → n < s.gal.length :=
    fun hlen hon => State.lt_of_hasGal (State.hasGal_of_strOn hon) hlen
  unfold Obligations.EstimationCommandsComplete
  refine ⟨?_, ?_, ?_, ?_, ?_, ?_, ?_, ?_, ?_, ?_, ?_, ?_, ?_⟩
  · exact fun s n x hlen hon hx hmod hrate => modelStep_stepped (lt hlen hon) (hlen ▸ lt hlen hon) hon hx hmod hrate
  · exact fun s n x hlen hon hx hoff hnext hrate => modelStep_unmodelled (lt hlen hon) hon hx hoff hnext hrate
  · exact fun s n x hlen hon hx hrate => modelStep_below (lt hlen hon) hon hx hrate
  · exact fun s n hlen hon hmod hrest hdue => restCorrection_holds (lt hlen hon) hon hmod hrest hdue
  · exact fun s n hlen hon hdue => aggregates_renewed (lt hlen hon) (hlen ▸ lt hlen hon) hon hdue
  · exact fun s n hlen h hidle hfree hdue => stateSave_starts hlen h hidle hfree hdue
  · exact fun s n on hgal hlen h => stateSaveDone_holds hgal hlen h
  · exact fun s n k hlen h hk hlate => saveFailed_tells h hk hlate
  · exact fun s p n d hn hlen h hok hon => modelSet_waits (hlen ▸ hn) h hok hon
  · exact fun s p n d hn hlen h hok hoff => modelSet_atOnce (hlen ▸ hn) h hok hoff
  · exact fun s p n d h hbad => congrArg Host.Outcome.next (State.write_refused h (if_neg (by simp [hbad])))
  · exact fun s p n pos hn hlen hpos h hoff => replaced_marks (hlen ▸ hn) hpos h hoff
  · exact fun s p n pos h hon => congrArg Host.Outcome.next (State.write_refused h (if_pos hon))

end Sys2Proof.Machine
end

section
/-! Which parts of the state a change of mode and the safety channels' status leave (part of the frame layer). -/
namespace Sys2Proof.Machine
set_option Elab.async false

def Eff.toMode : List Eff := Eff.record ++ [.obj Obj.TWB_CFG.ALERT_PENDING, .twb] ++ [.obj Obj.MODE_STATUS.MODE, .obj
    Obj.MODE_STATUS.LAST_CAUSE, .mode, .mdRest]
theorem State.Within.toMode (s : State) (m cause x3) : s.Within Eff.toMode (s.toMode m cause x3) := by
  unfold State.toMode
  exact (((refl s).op (record ..)).ite (refl s)).andThen fun h1 => (((((h1.setN .obj).setN .obj).op (alertBit ..)).op (alertBit ..)).ite
    (((h1.setN .obj).setN .obj).op (alertBit ..))).andThen fun h2 => h2.withMd (by exact .inl (by decide +kernel)) (by exact .inr rfl)
    (by exact .inl (by decide +kernel))

theorem State.Within.channelSync (s : State) : s.Within [.obj Obj.SAFETY_STATUS.CHANNELS, .obj Obj.LOCKOUT_RESET.CLEARED] s.channelSync :=
    by
  unfold State.channelSync
  exact ((refl s).setN .obj).setN .obj

end Sys2Proof.Machine
end

section
/-! O44: the pulse on the RESET input, and that nothing else clears the latch of the store (R62, R299). -/
namespace Sys2Proof.Machine
set_option Elab.async false

/-! ### The pulse as each channel sees it -/

theorem State.siCfg_congr {s t : State} (h : t.safetySet = s.safetySet) (i : Nat) : t.siCfg i = s.siCfg i := by
  rw [State.siCfg, State.secN, State.inForce, h, State.siCfg, State.secN, State.inForce]

theorem State.siFn_congr {s t : State} (h : t.safetySet = s.safetySet) (i : Nat) : t.siFn i = s.siFn i := by
  rw [State.siFn, State.siCfg_congr h, State.siFn]

theorem State.siOn_congr {s t : State} {i : Nat} (raw : Nat) (hcfg : t.siCfg i = s.siCfg i) (hsi : t.si i = s.si i) :
    t.siOn raw i = s.siOn raw i := by
  unfold State.siOn State.siFn State.siAnti
  rw [hcfg, hsi]

theorem State.rawSync_keeps (s : State) : s.rawSync.safe = s.safe ∧ s.rawSync.root = s.root ∧ s.rawSync.safetySet = s.safetySet := by
  rw [State.rawSync, State.setN, State.put_safe, State.put_root, State.put_safetySet]
  exact ⟨rfl, rfl, rfl⟩

theorem State.demandSync_keeps (s : State) : s.demandSync.safe = s.safe ∧ s.demandSync.root = s.root ∧
    s.demandSync.safetySet = s.safetySet := by
  rw [State.demandSync, State.setN, State.put_safe, State.put_root, State.put_safetySet]
  exact ⟨rfl, rfl, rfl⟩

theorem State.viewSync_keeps (s : State) : s.viewSync.safe.newel = s.safe.newel ∧ s.viewSync.safe.baluster = s.safe.baluster ∧
    s.viewSync.safe.inputs = s.safe.inputs ∧ s.viewSync.safetySet = s.safetySet := by
  unfold State.viewSync
  extract_lets d s1 e
  split <;> exact ⟨rfl, rfl, rfl, rfl⟩

theorem Channel.pulse_begins {c : Channel} (h : c.actAt = none) (on : Bool) (root : Nat) :
    (c.pulse on root).actAt = (if on then some root else none) ∧ (c.pulse on root).inputs = c.inputs := by
  cases on <;> simp [Channel.pulse, h]

theorem State.discSync_keeps (s : State) (i : Nat) : (s.discSync i).safe.newel = s.safe.newel ∧
    (s.discSync i).safe.baluster = s.safe.baluster ∧ (s.discSync i).root = s.root ∧ (s.discSync i).safetySet = s.safetySet :=
  ⟨rfl, rfl, rfl, rfl⟩

/-- The levels read keep the readings of the channels. -/
theorem State.inputRead_keeps (s : State) (i : Nat) : (s.rawSync.discSync i).demandSync.safe.newel = s.safe.newel ∧
    (s.rawSync.discSync i).demandSync.safe.baluster = s.safe.baluster ∧ (s.rawSync.discSync i).demandSync.root = s.root ∧
    (s.rawSync.discSync i).demandSync.safetySet = s.safetySet := by
  obtain ⟨hdsafe, hdroot, hdset⟩ := State.demandSync_keeps (s.rawSync.discSync i)
  obtain ⟨hrsafe, hrroot, hrset⟩ := State.rawSync_keeps s
  obtain ⟨hn, hb, hroot, hset⟩ := State.discSync_keeps s.rawSync i
  exact ⟨(congrArg SafetyRt.newel hdsafe).trans (hn.trans (congrArg SafetyRt.newel hrsafe)),
    (congrArg SafetyRt.baluster hdsafe).trans (hb.trans (congrArg SafetyRt.baluster hrsafe)), hdroot.trans (hroot.trans hrroot),
    hdset.trans (hset.trans hrset)⟩

/-- A channel that reads the idle RESET input active begins the pulse. -/
theorem State.resetTrack_begins {s : State} {i : Nat} (hfn : s.siFn i = 4) (hnewel : s.safe.newel.actAt = none)
    (hbal : s.safe.baluster.actAt = none) (t : State) (ht : (s.resetTrack i).viewSync = t) :
    t.siFn i = 4 ∧ t.safe.newel.actAt = (if t.siOn t.safe.newel.inputs i then some s.root else none) ∧
    t.safe.baluster.actAt = (if t.siOn t.safe.baluster.inputs i then some s.root else none) := by
  obtain ⟨w, hw, hwn, hwb, hwi, hws⟩ : ∃ w : State, s.resetTrack i = w ∧
      w.safe.newel = s.safe.newel.pulse (s.siOn s.safe.newel.inputs i) s.root ∧
      w.safe.baluster = s.safe.baluster.pulse (s.siOn s.safe.baluster.inputs i) s.root ∧ w.safe.inputs = s.safe.inputs ∧
      w.safetySet = s.safetySet := by
    rw [State.resetTrack, if_pos hfn]
    exact ⟨_, rfl, rfl, rfl, rfl, rfl⟩
  obtain ⟨hvn, hvb, hvi, hvs⟩ := State.viewSync_keeps w
  rw [hw] at ht
  rw [ht] at hvn hvb hvi hvs
  have hset : t.safetySet = s.safetySet := hvs.trans hws
  have hsi : t.si i = s.si i := by rw [State.si, hvi, hwi, State.si]
  have hon : ∀ raw, t.siOn raw i = s.siOn raw i := fun raw => State.siOn_congr raw (State.siCfg_congr hset i) hsi
  obtain ⟨hactN, hinN⟩ := Channel.pulse_begins hnewel (s.siOn s.safe.newel.inputs i) s.root
  obtain ⟨hactB, hinB⟩ := Channel.pulse_begins hbal (s.siOn s.safe.baluster.inputs i) s.root
  refine ⟨(State.siFn_congr hset i).trans hfn, ?_, ?_⟩
  · rw [hvn, hwn, hactN, hinN, hon]
  · rw [hvb, hwb, hactB, hinB, hon]

theorem safetyInputChange_begins {s : State} {i ch : Nat} (h a b : Bool) (hi : i < 16) (hch : ch = 1 ∨ ch = 2) (hfn : s.siFn i = 4)
    (hnewel : s.safe.newel.actAt = none) (hbal : s.safe.baluster.actAt = none) :
    ∃ t, exec (.safetyInputChange i ch h a b) s = .next t ∧
      t.safe.newel.actAt = (if t.siOn t.safe.newel.inputs i then some s.root else none) ∧
      t.safe.baluster.actAt = (if t.siOn t.safe.baluster.inputs i then some s.root else none) := by
  rw [exec]
  unfold execSafetyInputChange
  rw [if_pos ⟨hi, hch⟩]
  extract_lets m s1 s2 s3 s4
  have hnewel2 : s2.safe.newel.actAt = none := by
    dsimp only [s2, State.updSafe]
    split <;> exact hnewel
  have hbal2 : s2.safe.baluster.actAt = none := by
    dsimp only [s2, State.updSafe]
    split <;> exact hbal
  have hroot2 : s2.root = s.root := rfl
  have hset2 : s2.safetySet = s.safetySet := rfl
  obtain ⟨hrn, hrb, hrroot, hrset⟩ := State.inputRead_keeps s2 i
  obtain ⟨hfn4, hn4, hb4⟩ := State.resetTrack_begins ((State.siFn_congr (hrset.trans hset2) i).trans hfn)
    (hrn ▸ hnewel2) (hrb ▸ hbal2) s4 rfl
  rw [hrroot, hroot2] at hn4 hb4
  rw [if_neg (by omega), exists_next]
  exact ⟨hn4, hb4⟩

/-! ### The evaluation of a pulse -/

theorem State.pulseResult_eq_one (s : State) (a e : Nat) : s.pulseResult a e = 1 ↔
    msTicks 300 ≤ e - a ∧ e - a ≤ msTicks 3000 ∧ s.mode = .lockout ∧ s.causesNow = 0 ∧ s.safe.resetDisc = false := by
  unfold State.pulseResult
  extract_lets d
  have hd : d = e - a := rfl
  clear_value d
  split
  next h => simp [← hd, Nat.not_le.mpr h]
  next h =>
    split
    next hlong => simp [← hd, Nat.not_le.mpr hlong]
    next hlong =>
      split
      next hmode => simp [hmode]
      next hmode =>
        split
        next hcause => simp [hcause]
        next hcause =>
          rw [← hd]
          split
          next hdisc => simp [hdisc]
          next hdisc => simpa using ⟨by omega, by omega, not_not.mp hmode, not_not.mp hcause, Bool.not_eq_true _ ▸ hdisc⟩

/-- The state in which the evaluation of a pulse has told its result. -/
def State.pulseTold (s : State) (r : Nat) : State :=
  (((s.updSafe fun x => { x with
    newel := { x.newel with actAt := none, endAt := none }, baluster := { x.baluster with actAt := none, endAt := none }
    resetDisc := false }).setN Obj.LOCKOUT_RESET.LAST_RESULT r).setN Obj.LOCKOUT_RESET.LAST_TICK s.now).record 0x0102 0x07 0 0
    [BitVec.ofNat 8 r]

/-- The state in which an accepted pulse has cleared both copies of the latch. -/
def State.pulseCleared (s : State) : State :=
  ((((((s.pulseTold 1).updVest fun v => { v with latch := false }).updNand fun d => { d with latch := false, latchCauses := 0 }).inc
    Obj.LOCKOUT_RESET.RESETS).setN Obj.LOCKOUT_RESET.REQUESTED 0).updSafe fun x => { x with reqAt := none })

theorem execLockoutResetPulse_eq {s : State} {r : Nat} (h : s.pulseVerdict = some r) :
    exec .lockoutResetPulse s = if r = 1 then .next (s.pulseCleared.toMode .ready 0x0D true).channelSync else .next (s.pulseTold r) := by
  simp only [exec, execLockoutResetPulse, h]
  by_cases hr : r = 1
  · subst hr
    rfl
  · rw [if_neg hr, if_neg hr]
    rfl

theorem State.pulseTold_holds (s : State) (r : Nat) : (s.pulseTold r).getN Obj.LOCKOUT_RESET.LAST_RESULT = r ∧
    (s.pulseTold r).vest.latch = s.vest.latch ∧ (s.pulseTold r).nand = s.nand ∧ (s.pulseTold r).mode = s.mode := by
  unfold State.pulseTold
  have hrec := fun u : State => State.Within.record u 0x0102 0x07 0 0 [BitVec.ofNat 8 r]
  refine ⟨(hrec _).getN.trans ?_, (hrec _).kept .latch (by decide +kernel), (hrec _).kept .nand (by decide +kernel),
    (hrec _).kept .mode (by decide +kernel)⟩
  simp (decide := true)

theorem lockoutResetPulse_refused {s : State} {r : Nat} (h : s.pulseVerdict = some r) (hr : r ≠ 1) :
    ∃ t, exec .lockoutResetPulse s = .next t ∧ t.vest.latch = s.vest.latch ∧ t.nand.latch = s.nand.latch ∧ t.mode = s.mode ∧
      t.getN Obj.LOCKOUT_RESET.LAST_RESULT ≠ 1 := by
  obtain ⟨hres, hvest, hnand, hmode⟩ := s.pulseTold_holds r
  rw [execLockoutResetPulse_eq h, if_neg hr, exists_next]
  exact ⟨hvest, congrArg Store.latch hnand, hmode, fun hone => hr (hres.symm.trans hone)⟩

theorem State.pulseCleared_holds (s : State) : s.pulseCleared.vest.latch = false ∧ s.pulseCleared.nand.latch = false ∧
    s.pulseCleared.getN Obj.LOCKOUT_RESET.LAST_RESULT = 1 ∧ s.pulseCleared.getN Obj.LOCKOUT_RESET.REQUESTED = 0 := by
  obtain ⟨hres, -, -, -⟩ := s.pulseTold_holds 1
  unfold State.pulseCleared
  generalize s.pulseTold 1 = u at hres
  refine ⟨rfl, rfl, ?_, ?_⟩
  · simpa (decide := true) [State.inc] using hres
  · simp (decide := true)

theorem State.toMode_lastCause (s : State) (m : Mode) (cause : Nat) (told : Bool) :
    (s.toMode m cause told).getN Obj.MODE_STATUS.LAST_CAUSE = cause := by
  unfold State.toMode
  extract_lets s1 s2 s3
  have h2 : s2.getN Obj.MODE_STATUS.LAST_CAUSE = cause :=
    (State.Within.alertBit _ 1).getN.trans (State.getN_setN_same ..)
  change s3.getN Obj.MODE_STATUS.LAST_CAUSE = cause
  dsimp only [s3]
  split
  · exact (State.Within.alertBit s2 2).getN.trans h2
  · exact h2

theorem lockoutResetPulse_accepted {s : State} (h : s.pulseVerdict = some 1) :
    ∃ t, exec .lockoutResetPulse s = .next t ∧ t.vest.latch = false ∧ t.nand.latch = false ∧ t.mode = .ready ∧
      t.getN Obj.MODE_STATUS.LAST_CAUSE = 0x0D ∧ t.getN Obj.LOCKOUT_RESET.LAST_RESULT = 1 ∧ t.getN Obj.LOCKOUT_RESET.REQUESTED = 0 := by
  obtain ⟨hvest, hnand, hres, hreq⟩ := s.pulseCleared_holds
  have hto := State.Within.toMode s.pulseCleared .ready 0x0D true
  have hcause := s.pulseCleared.toMode_lastCause .ready 0x0D true
  have hmode : (s.pulseCleared.toMode .ready 0x0D true).mode = .ready := rfl
  have hsync := State.Within.channelSync (s.pulseCleared.toMode .ready 0x0D true)
  have hvestTo : (s.pulseCleared.toMode .ready 0x0D true).vest.latch = s.pulseCleared.vest.latch := hto.kept .latch (by decide +kernel)
  have hnandTo : (s.pulseCleared.toMode .ready 0x0D true).nand = s.pulseCleared.nand := hto.kept .nand (by decide +kernel)
  rw [execLockoutResetPulse_eq h, if_pos rfl, exists_next]
  exact ⟨(hsync.kept .latch (by decide +kernel)).trans (hvestTo.trans hvest),
    (congrArg Store.latch ((hsync.kept .nand (by decide +kernel)).trans hnandTo)).trans hnand,
    (hsync.kept .mode (by decide +kernel)).trans hmode, hsync.getN.trans hcause, hsync.getN.trans (hto.getN.trans hres),
    hsync.getN.trans (hto.getN.trans hreq)⟩

/-! ### The verdict of both channels -/

theorem State.pulseVerdict_both {s : State} {a e b f : Nat} (ha : s.safe.newel.actAt = some a) (he : s.safe.newel.endAt = some e)
    (hb : s.safe.baluster.actAt = some b) (hf : s.safe.baluster.endAt = some f) :
    ∃ r, s.pulseVerdict = some r ∧ (r = 1 ↔ s.pulseResult a e = 1 ∧ s.pulseResult b f = 1) := by
  refine ⟨if s.pulseResult a e = 1 then s.pulseResult b f else s.pulseResult a e, by simp [State.pulseVerdict, ha, he, hb, hf], ?_⟩
  split
  next h => simp [h]
  next h => simp [h]

/-- A pulse that one channel has not seen is too short. -/
theorem State.pulseVerdict_one {s : State} {x y : SafetyChan} {a e : Nat} (hxy : x ≠ y) (hx : (s.safeChan x).actAt = none)
    (ha : (s.safeChan y).actAt = some a) (he : (s.safeChan y).endAt = some e) : ∃ r, s.pulseVerdict = some r ∧ r ≠ 1 := by
  cases x <;> cases y
  case newel.newel => exact absurd rfl hxy
  case baluster.baluster => exact absurd rfl hxy
  case newel.baluster =>
    simp only [State.safeChan] at hx ha he
    exact ⟨2, by simp [State.pulseVerdict, hx, ha, he], by decide⟩
  case baluster.newel =>
    simp only [State.safeChan] at hx ha he
    refine ⟨if s.pulseResult a e = 1 then 2 else s.pulseResult a e, by simp [State.pulseVerdict, hx, ha, he], ?_⟩
    split
    next => decide
    next h => exact h

/-- Settles O44: the latch of the store is cleared by an accepted pulse alone, and the pulse is judged in both channels. -/
theorem onlyAResetPulseEndsALockout : Obligations.OnlyAResetPulseEndsALockout := by
  unfold Obligations.OnlyAResetPulseEndsALockout
  refine ⟨fun c s t hc h hlatch => exec_keepsLatch hc h hlatch, ?_, ?_, ?_⟩
  · exact fun s i ch h a b hi hch hfn hn hb => safetyInputChange_begins h a b hi hch hfn hn hb
  · intro s a e b f ha he hb hf
    obtain ⟨r, hr, hone⟩ := State.pulseVerdict_both ha he hb hf
    rw [State.pulseResult_eq_one, State.pulseResult_eq_one] at hone
    refine ⟨fun ⟨h1, h2, h3, h4, h5, h6, h7⟩ => ?_, fun hnot => ?_⟩
    · exact lockoutResetPulse_accepted (hone.mpr ⟨⟨h1, h2, h5, h6, h7⟩, h3, h4, h5, h6, h7⟩ ▸ hr)
    · refine lockoutResetPulse_refused hr fun h => hnot ?_
      obtain ⟨⟨h1, h2, h5, h6, h7⟩, h3, h4, -⟩ := hone.mp h
      exact ⟨h1, h2, h3, h4, h5, h6, h7⟩
  · intro s x y a e hxy hx ha he
    obtain ⟨r, hr, hne⟩ := State.pulseVerdict_one hxy hx ha he
    exact lockoutResetPulse_refused hr hne

end Sys2Proof.Machine
end
